-- ==== Sys2Proof/Word.lean ====
section
/-!
DEFINITION. The word types of the block: bytes, the cores' 36-bit words (00_scope.md, Numbers, units and
fields), the host's 32-bit registers, and the sparse table type `Tab` in which every register array and memory
of the state is held.
-/
namespace Sys2Proof

/-- One byte. -/
abbrev Byte := BitVec 8
/-- A core-side word (00_scope.md: core-side words are 36 bits wide). -/
abbrev Word36 := BitVec 36
/-- A host-side register (00_scope.md: host-side registers are 32 bits wide). -/
abbrev Word32 := BitVec 32
/-- A sheet number (R19). -/
abbrev Sheet := BitVec 48
/-- A 24-bit handle (Table 3.1). -/
abbrev HandleWord := BitVec 24

/-- A sparse table: pairs of a key and a value, keys rising, no entry equal to what an unlisted key reads as. -/
abbrev Tab (α : Type) := List (Nat × α)

end Sys2Proof
end

