-- ==== Sys2Proof/Syntax.lean ====
section
/-!
DEFINITION. The commands the block takes: one constructor per row of spec/opcode_table.json, with the row's
operands. A mailbox command names its mailbox `m`; its parameters stand in the mailbox's payload. A core
instruction names its thread `t` and carries the fields of its word (Table 5.3), the fields the spec marks zero
among them (`zf`). A happening names the place at which it happens and what its partner answers.
-/
namespace Sys2Proof

/-- A sample of the always-on monitors: bits [12i + 11:12i] of `sensors` are the temperature of sensor i, signed in 1/16 °C (R755); bit k of
`low` and `high` says that rail k stands below or above its tolerance (Table 15.16). -/
structure MonitorSample where
  sensors : BitVec 192
  low : BitVec 7
  high : BitVec 7
  deriving DecidableEq, Repr

/-- How a read of host memory by the device ends (R593, R641). -/
inductive DmaResult where
  | ok
  | poisoned
  | ecrc
  | error
  deriving DecidableEq, Repr

/-- How a command to a member or controller of the store ends (R505): it completes, with an error and its NVMe status, or not within
IO_TIMEOUT. -/
inductive StoreEnd where
  | ok
  | error (status : BitVec 16)
  | timeout
  deriving DecidableEq, Repr

/-- How the transfers of STORE_SET to the members end: all well, or with the first that did not, and its member (R505). -/
structure SetEnd where
  member : BitVec 5
  result : StoreEnd
  deriving DecidableEq, Repr

/-- What a frame met on its way to the receive MAC, beside its bytes (R86-R89). -/
structure RxErrors where
  /-- FEC left a codeword of the frame uncorrectable. -/
  fec : Bool := false
  /-- Uncorrectable codewords since those the last frame named: one that frames share is named with the first of them (R578). -/
  codewords : Nat := 0
  /-- FEC codewords corrected since the last frame. -/
  corrected : Nat := 0
  /-- Symbols received in error since the last frame (RX_SYMBOL_ERR of Table 2.15). -/
  symbols : Nat := 0
  /-- The 64-byte lines of the frame's packet space that the ingress datapath wrote with a cell parity error (R590). -/
  cells : List (BitVec 8) := []
  deriving DecidableEq, Repr

/-- What a DRAM line read meets (R552). -/
inductive LineError where
  | none
  | correctable
  | uncorrectable
  deriving DecidableEq, Repr

/-- An MSI-X message: the cause it is for, and the causes whose HOLDOFF has passed in the same cycle (R646, R647). -/
structure MsixDue where
  cause : BitVec 6
  due : BitVec 34
  deriving DecidableEq, Repr

/-- A subport's frame boundary, and whether the frame it starts meets a cell parity error on the egress datapath (R591, R775). -/
structure Boundary where
  sub : BitVec 5
  parity : Bool
  deriving DecidableEq, Repr

/-- A refresh interval that ends: its channel, its rank or bank index, and whether the controller postpones the refresh (R548-R550). -/
structure RefreshTurn where
  channel : BitVec 3
  index : BitVec 3
  postpone : Bool
  deriving DecidableEq, Repr

/-- One command of the block. -/
inductive Instr where
  /-- DEVICE_QUERY (R620): Command 0x0001 returns the part, firmware version, serial number, lifecycle, debug level, power state, straps,
  die temperature, current sheet and installed DRAM. -/
  | deviceQuery (m : BitVec 4)
  /-- COMPLETION_QUEUE_SET (R766): Command 0x0002 sets up, enables or disables the completion queue and zeroes its head and tail on enable. -/
  | completionQueueSet (m : BitVec 4)
  /-- EVENT_QUEUE_SET (R766): Command 0x0003 sets up, enables or disables the event queue and zeroes its head and tail on enable. -/
  | eventQueueSet (m : BitVec 4)
  /-- EVENT_MASK (R631): Command 0x0004 enables or disables forwarding for a range of event sources. -/
  | eventMask (m : BitVec 4)
  /-- MSIX_MAP (R646): Command 0x0005 gives an interrupt cause its vector and HOLDOFF. -/
  | msixMap (m : BitVec 4)
  /-- FW_REGION_SET (R653): Command 0x0006 sets the firmware's DRAM region before DRAM_START. -/
  | fwRegionSet (m : BitVec 4)
  /-- EXR_SET (R634): Command 0x0010 configures, enables or disables an exception ring. -/
  | exrSet (m : BitVec 4)
  /-- INJ_SET (R639): Command 0x0011 configures, enables or disables an injection ring and its class. -/
  | injSet (m : BitVec 4)
  /-- RING_STATUS (R620): Command 0x0012 returns a ring's head, tail, enable, fetch-stop state and counts. -/
  | ringStatus (m : BitVec 4)
  /-- HOST_COUNTERS (R657): Command 0x0013 returns the host counters and optionally clears them. -/
  | hostCounters (m : BitVec 4)
  /-- ECHO (R620): Command 0x0020 returns its payload unchanged. -/
  | echo (m : BitVec 4)
  /-- PORT_CONFIG (R77): Command 0x0101 sets a disabled line port's mode, FEC, interface, lane maps, polarities, MAX_FRAME, presets and MAC
  addresses. -/
  | portConfig (m : BitVec 4)
  /-- PORT_ENABLE (R767): Command 0x0102 enables or disables a configured line port. -/
  | portEnable (m : BitVec 4)
  /-- PORT_STATUS (R620): Command 0x0103 returns a port's mode, link, training, enable, signal-detect and lock bitmaps. -/
  | portStatus (m : BitVec 4)
  /-- PORT_COUNTERS (R152): Command 0x0104 returns a subport's MAC counters and optionally clears them. -/
  | portCounters (m : BitVec 4)
  /-- PFC_CONFIG (R768): Command 0x0105 sets a port's PFC enables, CLASS_MAP, quanta and refresh. -/
  | pfcConfig (m : BitVec 4)
  /-- PTP_SET_TIME (R99): Command 0x0110 loads the PTP clock at once and counts as a step. -/
  | ptpSetTime (m : BitVec 4)
  /-- PTP_STEP (R99): Command 0x0111 adds a signed offset to the PTP clock at once and counts as a step. -/
  | ptpStep (m : BitVec 4)
  /-- PTP_FREQ (R96): Command 0x0112 sets the PTP frequency adjustment. -/
  | ptpFreq (m : BitVec 4)
  /-- PTP_QUERY (R113): Command 0x0113 returns PTP time, the last PPS_IN edge, adjustment, reference and PLL lock. -/
  | ptpQuery (m : BitVec 4)
  /-- PTP_PORT_DELAY (R101): Command 0x0114 sets a subport's ingress and egress timestamp delays. -/
  | ptpPortDelay (m : BitVec 4)
  /-- PPS_CONFIG (R112): Command 0x0115 enables PPS_OUT and PPS_IN and sets PPS_WIDTH. -/
  | ppsConfig (m : BitVec 4)
  /-- TX_TIMESTAMP_READ (R107): Command 0x0116 removes and returns the oldest transmit timestamp records of a port. -/
  | txTimestampRead (m : BitVec 4)
  /-- CLOCK_REF_SELECT (R97): Command 0x0117 selects the device reference or the 10 MHz input for the PTP domain. -/
  | clockRefSelect (m : BitVec 4)
  /-- PIPE_CONFIG (R142): Command 0x0201 sets a pipeline's layer limit, depth, limiter rate and burst, and miss and fail rings. -/
  | pipeConfig (m : BitVec 4)
  /-- PARSE_NODE_WRITE (R771): Command 0x0210 writes one parse graph node. -/
  | parseNodeWrite (m : BitVec 4)
  /-- PARSE_TRANSITION_WRITE (R771): Command 0x0211 writes one parse graph transition. -/
  | parseTransitionWrite (m : BitVec 4)
  /-- KEY_FIELD_WRITE (R126): Command 0x0212 writes one key extractor entry. -/
  | keyFieldWrite (m : BitVec 4)
  /-- RULE_READ (R133): Command 0x0213 returns the active copy of a rule. -/
  | ruleRead (m : BitVec 4)
  /-- ACTION_LOAD (R154): Command 0x0220 loads action entries into the next bank of a classifier unit. -/
  | actionLoad (m : BitVec 4)
  /-- METER_PROFILE_LOAD (R146): Command 0x0221 loads meter profiles into the next bank of a classifier unit. -/
  | meterProfileLoad (m : BitVec 4)
  /-- METER_RESET (R772): Command 0x0222 makes the buckets of a range of meters full. -/
  | meterReset (m : BitVec 4)
  /-- CLASSIFIER_COUNTERS (R152): Command 0x0230 returns a pipeline's counters and optionally clears them. -/
  | classifierCounters (m : BitVec 4)
  /-- RULE_COUNTERS (R156): Command 0x0231 returns the packet and byte counters of a range of rules. -/
  | ruleCounters (m : BitVec 4)
  /-- METER_COUNTERS (R152): Command 0x0232 returns the colour counters of one meter. -/
  | meterCounters (m : BitVec 4)
  /-- VAT_GROUP_CONFIG (R210): Command 0x0301 sets a drawer group's Vat range, spill region and rings, and empties its rings. -/
  | vatGroupConfig (m : BitVec 4)
  /-- DRAWER_CONFIG (R169): Command 0x0302 sets a drawer's size. -/
  | drawerConfig (m : BitVec 4)
  /-- CABINET_INIT (R210): Command 0x0303 fills every free ring with all cells of its group and region. -/
  | cabinetInit (m : BitVec 4)
  /-- CABINET_SEED (R191): Command 0x0304 sets the LFSR seed applied at the next L2 reset. -/
  | cabinetSeed (m : BitVec 4)
  /-- OWNER_PROFILE_LOAD (R224): Command 0x0310 loads owner profiles into the Cabinet's next bank. -/
  | ownerProfileLoad (m : BitVec 4)
  /-- RED_PROFILE_LOAD (R192): Command 0x0311 loads RED profiles into the Cabinet's next bank. -/
  | redProfileLoad (m : BitVec 4)
  /-- SCHED_PROFILE_LOAD (R774): Command 0x0312 loads a subport scheduling profile into the Cabinet's next bank. -/
  | schedProfileLoad (m : BitVec 4)
  /-- EGRESS_MAP_LOAD (R226): Command 0x0320 loads egress map entries into the next bank of unit 0x60. -/
  | egressMapLoad (m : BitVec 4)
  /-- OWNER_STATUS (R620): Command 0x0330 returns an owner's use, headroom, average, XOFF and budget state. -/
  | ownerStatus (m : BitVec 4)
  /-- OWNER_COUNTERS (R225): Command 0x0331 returns an owner's admission counters. -/
  | ownerCounters (m : BitVec 4)
  /-- QUEUE_COUNTERS (R225): Command 0x0332 returns a subport queue's counters. -/
  | queueCounters (m : BitVec 4)
  /-- DRAWER_STATUS (R620): Command 0x0333 returns a drawer's size, use, free cells and waiters. -/
  | drawerStatus (m : BitVec 4)
  /-- CABINET_COUNTERS (R225): Command 0x0334 returns the Cabinet's device counters. -/
  | cabinetCounters (m : BitVec 4)
  /-- HANDLE_QUERY (R158): Command 0x0340 returns a handle's kind, owners, pins, reference count, cells and spill state. -/
  | handleQuery (m : BitVec 4)
  /-- PROGRAM_WRITE (R242): Command 0x0401 writes instructions into the instruction stores of named clusters. -/
  | programWrite (m : BitVec 4)
  /-- PROGRAM_LOAD_DMA (R593): Command 0x0402 loads instructions from host memory into named clusters. -/
  | programLoadDma (m : BitVec 4) (dma : DmaResult)
  /-- PROGRAM_READ (R268): Command 0x0403 returns instructions from a cluster's instruction store. -/
  | programRead (m : BitVec 4)
  /-- ENTRY_LOAD (R266): Command 0x0410 loads entry-table entries into clusters' next banks. -/
  | entryLoad (m : BitVec 4)
  /-- DISPATCH_MAP_LOAD (R237): Command 0x0411 loads dispatch map entries into the next bank. -/
  | dispatchMapLoad (m : BitVec 4)
  /-- DOORBELL_ROUTE (R264): Command 0x0420 sets a doorbell's enable, class, domain and context. -/
  | doorbellRoute (m : BitVec 4)
  /-- DOMAIN_STATUS (R233): Command 0x0430 returns an ordering domain's counters and frozen state. -/
  | domainStatus (m : BitVec 4)
  /-- CONTEXT_STATUS (R620): Command 0x0431 returns a flow context's affinity, residence and item counts. -/
  | contextStatus (m : BitVec 4)
  /-- CONTEXT_READ (R269): Command 0x0432 returns half of a flow context's resident copy. -/
  | contextRead (m : BitVec 4)
  /-- CONTEXT_WRITE (R249): Command 0x0433 writes half of an idle flow context. -/
  | contextWrite (m : BitVec 4)
  /-- DISPATCH_COUNTERS (R267): Command 0x0434 returns the dispatch counters. -/
  | dispatchCounters (m : BitVec 4)
  /-- CLUSTER_FENCE (R259): Command 0x0440 fences or unfences a cluster. -/
  | clusterFence (m : BitVec 4)
  /-- WINDOW_CONFIG (R285): Command 0x0450 sets a DRAM window of named clusters. -/
  | windowConfig (m : BitVec 4)
  /-- WINDOW_QUERY (R620): Command 0x0451 returns a cluster's DRAM window. -/
  | windowQuery (m : BitVec 4)
  /-- DMEM_WRITE (R327): Command 0x0452 writes whole words into a core's data memory. -/
  | dmemWrite (m : BitVec 4)
  /-- DMEM_READ (R327): Command 0x0453 returns words of a core's data memory. -/
  | dmemRead (m : BitVec 4)
  /-- SLOT_TABLE_SET (R331): Command 0x0501 sets the slot tables of named cores. -/
  | slotTableSet (m : BitVec 4)
  /-- SUPERVISOR_SET (R341): Command 0x0502 designates a cluster's supervisor and ENTRY, or starts it. -/
  | supervisorSet (m : BitVec 4)
  /-- THREAD_STATUS (R620): Command 0x0503 returns the state, priorities, wait and PC of a core's threads. -/
  | threadStatus (m : BitVec 4)
  /-- THREAD_RESET (R351): Command 0x0504 applies an L0 reset to a thread. -/
  | threadReset (m : BitVec 4)
  /-- CORE_COUNTERS (R380): Command 0x0505 returns a core's counters. -/
  | coreCounters (m : BitVec 4)
  /-- LOCK_TRY (R355): Command 0x0510 tries a lock for the mailbox identity and returns the read-back. -/
  | lockTry (m : BitVec 4)
  /-- LOCK_RELEASE (R358): Command 0x0511 releases a lock the mailbox owns and grants it to the next waiter. -/
  | lockRelease (m : BitVec 4)
  /-- LOCK_QUERY (R620): Command 0x0512 returns a lock's owner, broken state, waiters and priorities. -/
  | lockQuery (m : BitVec 4)
  /-- LOCK_BREAK (R367): Command 0x0513 releases a held lock as broken with cause 5. -/
  | lockBreak (m : BitVec 4)
  /-- CHANNEL_CONFIG (R369): Command 0x0520 sets the size of an idle channel. -/
  | channelConfig (m : BitVec 4)
  /-- CHANNEL_POST (R375): Command 0x0521 reserves, fills and commits one channel slot. -/
  | channelPost (m : BitVec 4)
  /-- CHANNEL_TAKE (R375): Command 0x0522 claims and delivers one channel slot. -/
  | channelTake (m : BitVec 4)
  /-- CHANNEL_STATUS (R620): Command 0x0523 returns a channel's slots, commits, claims and waiters. -/
  | channelStatus (m : BitVec 4)
  /-- DOVETAIL_COUNTERS (R380): Command 0x0530 returns the Dovetail counters. -/
  | dovetailCounters (m : BitVec 4)
  /-- EM_TABLE_CONFIG (R386): Command 0x0601 configures a disabled exact-match table and seeds its LFSR. -/
  | emTableConfig (m : BitVec 4)
  /-- TABLE_ENABLE (R407): Command 0x0602 disables, enables, or clears and enables a table. -/
  | tableEnable (m : BitVec 4)
  /-- LEARN_CONFIG (R402): Command 0x0603 sets a table's move limit, age limit, move window and hold. -/
  | learnConfig (m : BitVec 4)
  /-- FLOW_TABLE_CONFIG (R425): Command 0x0604 configures the disabled flow table and its extension region. -/
  | flowTableConfig (m : BitVec 4)
  /-- ENTRY_WRITE (R391): Command 0x0610 inserts or replaces a table entry from the host. -/
  | entryWrite (m : BitVec 4)
  /-- ENTRY_DELETE (R396): Command 0x0611 deletes a table entry. -/
  | entryDelete (m : BitVec 4)
  /-- ENTRY_LOOKUP (R389): Command 0x0612 looks up a key in a table. -/
  | entryLookup (m : BitVec 4)
  /-- ENTRY_READ (R620): Command 0x0613 returns a table entry by index. -/
  | entryRead (m : BitVec 4)
  /-- TABLE_FLUSH (R390): Command 0x0614 removes entries of a table by mode. -/
  | tableFlush (m : BitVec 4)
  /-- FLAP_RELEASE (R400): Command 0x0615 unpins an address and frees its flap record. -/
  | flapRelease (m : BitVec 4)
  /-- TRIE_CONFIG (R410): Command 0x0620 enables a trie with a root, or disables it and frees its nodes. -/
  | trieConfig (m : BitVec 4)
  /-- ROUTE_ADD (R411): Command 0x0621 adds or replaces a prefix by building nodes and one pointer write. -/
  | routeAdd (m : BitVec 4)
  /-- ROUTE_DELETE (R411): Command 0x0622 deletes a prefix by building nodes and one pointer write. -/
  | routeDelete (m : BitVec 4)
  /-- ROUTE_LOOKUP (R408): Command 0x0623 looks up an address in a trie. -/
  | routeLookup (m : BitVec 4)
  /-- TRIE_STATUS (R410): Command 0x0624 returns units used, free node entries and trie enables. -/
  | trieStatus (m : BitVec 4)
  /-- NOTICE_READ (R422): Command 0x0630 removes and returns the oldest notices. -/
  | noticeRead (m : BitVec 4)
  /-- LOOKUP_COUNTERS (R424): Command 0x0631 returns a table's or the device's lookup counters. -/
  | lookupCounters (m : BitVec 4)
  /-- WM_STREAM_LOAD (R470): Command 0x0701 loads stream parameter entries into the Watermark next bank. -/
  | wmStreamLoad (m : BitVec 4)
  /-- COP_FENCE (R435): Command 0x0702 fences or unfences a coprocessor unit. -/
  | copFence (m : BitVec 4)
  /-- COP_STATUS (R316): Command 0x0703 returns a unit's status word, fence and lock owner. -/
  | copStatus (m : BitVec 4)
  /-- COP_COUNTERS (R471): Command 0x0704 returns a unit's counters. -/
  | copCounters (m : BitVec 4)
  /-- COMP_CONFIG (R472): Command 0x0710 sets port C's lane map, polarities and OP_TIMEOUT while disabled. -/
  | compConfig (m : BitVec 4)
  /-- COMP_ENABLE (R450): Command 0x0711 enables port C, starting training, or disables it. -/
  | compEnable (m : BitVec 4)
  /-- COMP_STATUS (R620): Command 0x0712 returns port C's link state, block lock and partner parameters. -/
  | compStatus (m : BitVec 4)
  /-- COMP_WINDOW_SET (R464): Command 0x0713 sets a companion permission window. -/
  | compWindowSet (m : BitVec 4)
  /-- COMP_EVENT_ROUTE (R467): Command 0x0714 sets a companion event route. -/
  | compEventRoute (m : BitVec 4)
  /-- COMP_COUNTERS (R471): Command 0x0715 returns port C's counters. -/
  | compCounters (m : BitVec 4)
  /-- STORE_CFG_ACCESS (R503): Command 0x0801 reads or writes a configuration register behind port S. -/
  | storeCfgAccess (m : BitVec 4) (data : BitVec 32) (completion : BitVec 2)
  /-- STORE_LINK (R743): Command 0x0802 enables or disables port S with its speed, width and memory window. -/
  | storeLink (m : BitVec 4)
  /-- STORE_CONTROLLER_ADD (R503): Command 0x0803 adds an NVMe controller and creates its queues. -/
  | storeControllerAdd (m : BitVec 4) (ok : Bool)
  /-- STORE_ADMIN (R503): Command 0x0804 sends an admin command to a controller. -/
  | storeAdmin (m : BitVec 4) (entry : BitVec 128) (dma : DmaResult)
  /-- STORE_MEMBER_SET (R504): Command 0x0805 states a member namespace and its flags. -/
  | storeMemberSet (m : BitVec 4)
  /-- STORE_SET (R524): Command 0x0806 formats or mounts the store set. -/
  | storeSet (m : BitVec 4) (r : SetEnd)
  /-- STORE_READ (R503): Command 0x0807 reads blocks of a member into host memory. -/
  | storeRead (m : BitVec 4) (result : StoreEnd) (dma : DmaResult)
  /-- STORE_RELEASE (R501): Command 0x0808 releases stripes and seal blocks for reuse. -/
  | storeRelease (m : BitVec 4)
  /-- EVIDENCE_CONFIG (R498): Command 0x0810 sets the evidence budget, ages, masks and DRAM bases while stopped. -/
  | evidenceConfig (m : BitVec 4)
  /-- LANE_CONFIG (R497): Command 0x0811 sets a lane's log and seal ring while stopped. -/
  | laneConfig (m : BitVec 4)
  /-- EVIDENCE_RUN (R497): Command 0x0812 starts or stops the evidence path. -/
  | evidenceRun (m : BitVec 4)
  /-- COMMIT_ROUTE (R517): Command 0x0813 routes commit or seal work items. -/
  | commitRoute (m : BitVec 4)
  /-- STREAM_OPEN (R473): Command 0x0820 opens an evidence stream in an idle context. -/
  | streamOpen (m : BitVec 4)
  /-- STREAM_CLOSE (R510): Command 0x0821 closes a stream's ream, or the stream. -/
  | streamClose (m : BitVec 4)
  /-- STREAM_KEY (R513): Command 0x0822 changes a stream's signing slot and key identifier. -/
  | streamKey (m : BitVec 4)
  /-- STREAM_QUERY (R518): Command 0x0823 returns a stream's state, durable ream, losses and D. -/
  | streamQuery (m : BitVec 4)
  /-- EVIDENCE_STATUS (R620): Command 0x0830 returns D, E and the store positions. -/
  | evidenceStatus (m : BitVec 4)
  /-- EVIDENCE_COUNTERS (R523): Command 0x0831 returns the evidence counters. -/
  | evidenceCounters (m : BitVec 4)
  /-- DRAM_POPULATION (R526): Command 0x0901 states the DIMM population and organisation. -/
  | dramPopulation (m : BitVec 4)
  /-- DRAM_TIMING (R528): Command 0x0902 states the DRAM timing table. -/
  | dramTiming (m : BitVec 4)
  /-- DRAM_RANGE_SET (R535): Command 0x0903 sets one address range of the DRAM map. -/
  | dramRangeSet (m : BitVec 4)
  /-- DRAM_TRAIN (R529): Command 0x0904 runs full or restore training on named channels. -/
  | dramTrain (m : BitVec 4) (verify : BitVec 8) (steps : BitVec 32)
  /-- DRAM_START (R574): Command 0x0905 opens DRAM to all requesters. -/
  | dramStart (m : BitVec 4)
  /-- DRAM_SCHED (R544): Command 0x0906 sets the write thresholds, age limit and panic level. -/
  | dramSched (m : BitVec 4)
  /-- DRAM_REFRESH (R548): Command 0x0907 sets refresh mode and rate. -/
  | dramRefresh (m : BitVec 4)
  /-- DRAM_ECC (R557): Command 0x0908 sets the ECC thresholds and scrub period. -/
  | dramEcc (m : BitVec 4)
  /-- DRAM_RESERVE (R576): Command 0x0909 sets the dump region and spare areas. -/
  | dramReserve (m : BitVec 4)
  /-- DRAM_FENCE (R565): Command 0x0910 fences a DRAM channel. -/
  | dramFence (m : BitVec 4)
  /-- DRAM_STATUS (R620): Command 0x0911 returns the DRAM state, population and temperatures. -/
  | dramStatus (m : BitVec 4)
  /-- DRAM_COUNTERS (R575): Command 0x0912 returns a channel's counters. -/
  | dramCounters (m : BitVec 4)
  /-- DRAM_ERROR_LOG (R553): Command 0x0913 removes and returns the oldest DRAM error log entries. -/
  | dramErrorLog (m : BitVec 4)
  /-- CHIP_RESET (R669): Command 0x0A01 completes and then asserts an L3 reset, sealing first with MODE 1. -/
  | chipReset (m : BitVec 4)
  /-- DATAPATH_RESET (R668): Command 0x0A02 asserts an L2 datapath reset, sealing first with MODE 1. -/
  | datapathReset (m : BitVec 4)
  /-- CORE_RESET (R696): Command 0x0A03 applies an L1 reset to a core or cluster. -/
  | coreReset (m : BitVec 4)
  /-- POWER_TOLERANCE (R683): Command 0x0A04 states the wake tolerance of each partner port. -/
  | powerTolerance (m : BitVec 4)
  /-- POWER_POLICY (R684): Command 0x0A05 sets the allowed power states, idle periods and WAKE_THREADS. -/
  | powerPolicy (m : BitVec 4)
  /-- POWER_FAIL (R691): Command 0x0A06 begins S2 with cause 1. -/
  | powerFail (m : BitVec 4)
  /-- POWER_STATUS (R620): Command 0x0A07 returns POWER_STATE and the time spent in each state. -/
  | powerStatus (m : BitVec 4)
  /-- GPIO_CONFIG (R697): Command 0x0A08 sets a GPIO's mode, level and pull. -/
  | gpioConfig (m : BitVec 4)
  /-- LIFECYCLE_ADVANCE (R699): Command 0x0B01 blows a lifecycle fuse for a later state. -/
  | lifecycleAdvance (m : BitVec 4)
  /-- FUSE_PROGRAM (R701): Command 0x0B02 programs DEVICE_KEY or DEBUG_KEY once in MANUFACTURE. -/
  | fuseProgram (m : BitVec 4)
  /-- FW_KEY_REVOKE (R712): Command 0x0B03 revokes a firmware key. -/
  | fwKeyRevoke (m : BitVec 4)
  /-- ROLLBACK_ADVANCE (R711): Command 0x0B04 blows rollback fuses up to VERSION. -/
  | rollbackAdvance (m : BitVec 4)
  /-- SECURITY_QUERY (R620): Command 0x0B05 returns the security state, serial and firmware keys. -/
  | securityQuery (m : BitVec 4)
  /-- KEY_GENERATE (R706): Command 0x0B10 generates a key into a slot and returns its wrapped blob. -/
  | keyGenerate (m : BitVec 4)
  /-- KEY_IMPORT (R705): Command 0x0B11 loads a slot from a wrapped blob that verifies. -/
  | keyImport (m : BitVec 4)
  /-- KEY_DELETE (R706): Command 0x0B12 clears a key slot. -/
  | keyDelete (m : BitVec 4)
  /-- KEY_QUERY (R704): Command 0x0B13 returns a slot's load state, KEY_ID and public key. -/
  | keyQuery (m : BitVec 4)
  /-- KEY_LOAD_PLAIN (R704): Command 0x0B14 loads a plaintext key in MANUFACTURE and returns its blob. -/
  | keyLoadPlain (m : BitVec 4)
  /-- DEBUG_CHALLENGE (R717): Command 0x0B20 issues a new unlock challenge record. -/
  | debugChallenge (m : BitVec 4)
  /-- DEBUG_UNLOCK (R718): Command 0x0B21 attaches D2 when the signature of the outstanding challenge verifies. -/
  | debugUnlock (m : BitVec 4)
  /-- DEBUG_ATTACH (R720): Command 0x0B22 sets the debug level as the lifecycle matrix allows. -/
  | debugAttach (m : BitVec 4)
  /-- DEBUG_HALT (R722): Command 0x0B24 freezes a thread, cluster or the device. -/
  | debugHalt (m : BitVec 4)
  /-- DEBUG_RELEASE (R724): Command 0x0B25 releases a freeze. -/
  | debugRelease (m : BitVec 4)
  /-- DEBUG_STEP (R729): Command 0x0B26 runs a frozen thread for COUNT instructions. -/
  | debugStep (m : BitVec 4)
  /-- THREAD_REG_READ (R720): Command 0x0B27 returns a thread's general or special registers. -/
  | threadRegRead (m : BitVec 4)
  /-- THREAD_REG_WRITE (R720): Command 0x0B28 writes a register of a frozen thread. -/
  | threadRegWrite (m : BitVec 4)
  /-- BREAKPOINT_SET (R742): Command 0x0B29 sets or clears a breakpoint. -/
  | breakpointSet (m : BitVec 4)
  /-- TRACE_CONFIG (R731): Command 0x0B30 configures and enables or disables trace. -/
  | traceConfig (m : BitVec 4)
  /-- TRACE_STATUS (R730): Command 0x0B31 returns trace positions and counts. -/
  | traceStatus (m : BitVec 4)
  /-- DEBUG_COUNTERS (R741): Command 0x0B32 returns the debug counters. -/
  | debugCounters (m : BitVec 4)
  /-- DUMP_READ (R737): Command 0x0C10 copies part of the dump to host memory. -/
  | dumpRead (m : BitVec 4)
  /-- DUMP_CLEAR (R736): Command 0x0C11 clears the dump and releases FATAL_N. -/
  | dumpClear (m : BitVec 4)
  /-- DUMP_QUERY (R737): Command 0x0C12 returns the first 64 bytes of the dump header. -/
  | dumpQuery (m : BitVec 4)
  /-- SHEET_SET (R20): Command 0x0D01 sets the period, window and start sheet of the stopped generator. -/
  | sheetSet (m : BitVec 4)
  /-- SHEET_START (R22): Command 0x0D02 starts the sheet generator at once or at the next PTP second. -/
  | sheetStart (m : BitVec 4)
  /-- SHEET_ALIGN (R74): Command 0x0D03 requests that alignment to PTP seconds be enabled or disabled. -/
  | sheetAlign (m : BitVec 4)
  /-- SHEET_QUERY (R23): Command 0x0D04 returns the sheet, its PTP time, period, window and furnish state. -/
  | sheetQuery (m : BitVec 4)
  /-- SHEET_NEXT (R62): Command 0x0D05 loads a period and window into the generator's next bank. -/
  | sheetNext (m : BitVec 4)
  /-- TICK_SUBSCRIBE (R35): Command 0x0D06 sets a tick subscription slot. -/
  | tickSubscribe (m : BitVec 4)
  /-- FURNISH_BEGIN (R60): Command 0x0D10 opens the next bank of every banked unit as a copy. -/
  | furnishBegin (m : BitVec 4)
  /-- FURNISH_CLOSE_UNIT (R61): Command 0x0D11 marks a unit's next bank complete when its entry count matches. -/
  | furnishCloseUnit (m : BitVec 4)
  /-- FURNISH_COMMIT (R66): Command 0x0D12 accepts a commit of F + 1 for sheet S, or applies it at once while stopped. -/
  | furnishCommit (m : BitVec 4)
  /-- FURNISH_ABORT (R71): Command 0x0D13 cancels a pending commit and keeps or discards the next banks. -/
  | furnishAbort (m : BitVec 4)
  /-- FURNISH_STATUS (R620): Command 0x0D14 returns the furnish numbers, flags and completeness bitmap. -/
  | furnishStatus (m : BitVec 4)
  /-- LATE_COUNTERS (R76): Command 0x0D20 returns and optionally clears a port and class's late counts. -/
  | lateCounters (m : BitVec 4)
  /-- MBX_GO (R615): A write to MBX_GO accepts each named idle mailbox and reads its command. -/
  | mbxGo (mask : BitVec 16)
  /-- CQ_HELD_COMPLETION (R626): A completion held at a full completion queue is written as space returns. -/
  | cqHeldCompletion
  /-- DOORBELL (R613): A write to DOORBELL_d creates an event item on the doorbell's route. -/
  | doorbell (d : BitVec 4) (value : BitVec 32)
  /-- CQ_HEAD_WRITE (R612): A write to CQ_HEAD frees completion entries when in range. -/
  | cqHeadWrite (value : BitVec 32)
  /-- EQ_HEAD_WRITE (R612): A write to EQ_HEAD frees event entries when in range. -/
  | eqHeadWrite (value : BitVec 32)
  /-- EXR_HEAD_WRITE (R612): A write to EXR_HEAD frees exception ring slots when in range. -/
  | exrHeadWrite (ring : BitVec 4) (value : BitVec 32)
  /-- INJ_TAIL_WRITE (R612): A write to INJ_TAIL offers new injection descriptors when in range. -/
  | injTailWrite (ring : BitVec 4) (value : BitVec 32)
  /-- SHEET_NOW_LO_READ (R28): A read of SHEET_NOW_LO latches the high sheet bits and furnish into SHEET_NOW_HI. -/
  | sheetNowLoRead
  /-- D_LO_READ (R516): A read of DURABLE_LO latches D bits [47:32] into D_HI. -/
  | dLoRead
  /-- RC_READ (R12): A read of an RC total returns it and clears it, keeping any same-cycle increment. -/
  | rcRead (offset : BitVec 25)
  /-- RULE_VALID_WRITE (R131): A write to a rule's control word commits its staging copy or invalidates it. -/
  | ruleValidWrite (pipe : BitVec 3) (rule : BitVec 13) (value : BitVec 32)
  /-- COMPARATOR_VALID_WRITE (R131): A write to a comparator's word 0x4 commits its staging copy or invalidates it. -/
  | comparatorValidWrite (pipe : BitVec 3) (index : BitVec 8) (value : BitVec 32)
  /-- BOOT_CTRL_GO (R682): A write to BOOT_CTRL with GO starts a new boot attempt from SOURCE. -/
  | bootCtrlGo (value : BitVec 32)
  /-- DIAG_WINDOW_READ (R732): A read of the diagnostic window returns the selected structure where granted, else 0. -/
  | diagWindowRead (offset : BitVec 24)
  /-- DIAG_WINDOW_WRITE (R733): A write to the diagnostic window takes effect only at D3 in MANUFACTURE. -/
  | diagWindowWrite (offset : BitVec 24) (value : BitVec 32)
  /-- REGISTER_WRITE (R14): A host write to any other BAR0 register, staging word or mailbox byte. -/
  | registerWrite (offset : BitVec 25) (enables : BitVec 4) (value : BitVec 32)
  /-- MSIX_MESSAGE (R646): A cause's vector is sent once it has uncovered entries and its HOLDOFF has passed. -/
  | msixMessage (message : MsixDue)
  /-- EVENT_MERGED_POST (R632): Merged pending entries are posted as event queue space returns. -/
  | eventMergedPost
  /-- HOSTIF_RESET (R649): A hot reset or link-down of port H stops DMA, disables queues and rings and resets host-interface registers. -/
  | hostifReset
  /-- HOSTIF_RESET_END (R664): The end of a host-interface reset loads RESET_CAUSE and LAST_RESET. -/
  | hostifResetEnd
  /-- PORST_N_ASSERT (R659): PORST_N low asserts an L4 reset. -/
  | porstNAssert
  /-- PORST_N_RELEASE (R663): PORST_N released samples the straps and begins the L4 exit when no source remains. -/
  | porstNRelease (bootSrc clkMode : BitVec 2)
  /-- RST_N_ASSERT (R659): RST_N low asserts an L3 reset. -/
  | rstNAssert
  /-- RST_N_RELEASE (R660): RST_N released begins the L3 exit when no source remains. -/
  | rstNRelease
  /-- L2_EXIT (R668): The L2 exit ends, voiding items in flight and completing DATAPATH_RESET. -/
  | l2Exit
  /-- BOOT_IMAGE_LOADED (R678): A loaded image is checked and started, or the failure recorded and the fallback tried. -/
  | bootImageLoaded (image : List Byte)
  /-- MP_WATCHDOG_EXPIRY (R658): The management-processor watchdog unserviced for 500 ms asserts L3. -/
  | mpWatchdogExpiry
  /-- PFAIL_N_FALL (R691): PFAIL_N low for 1 µs begins S2 and the power-fail sequence. -/
  | pfailNFall
  /-- FLUSH_COMPLETE (R521): The final NVMe Flush completing in time re-signs and rewrites the marker. -/
  | flushComplete (member : BitVec 5) (result : StoreEnd)
  /-- FLUSH_ALLOW_EXPIRY (R521): FLUSH_ALLOW expiring first leaves the marker unconfirmed and ends the sequence. -/
  | flushAllowExpiry
  /-- PFAIL_N_RISE (R694): A rise of PFAIL_N during or after S2 is flagged and changes nothing else. -/
  | pfailNRise
  /-- PPS_IN_EDGE (R113): A PPS_IN rising edge is timestamped and kept. -/
  | ppsInEdge (jitter : BitVec 8)
  /-- PPS_OUT_PULSE (R112): PPS_OUT rises at each PTP second boundary for PPS_WIDTH. -/
  | ppsOutPulse (level : Bool)
  /-- REF10M_LOSS (R98): Loss of the selected 10 MHz input holds the PTP PLL frequency. -/
  | ref10mLoss
  /-- REF10M_RELOCK (R98): Return of the 10 MHz input relocks the PTP PLL. -/
  | ref10mRelock
  /-- SHEET_TICK (R32): A sheet tick opens the next sheet and runs the per-tick actions in order. -/
  | sheetTick
  /-- ALIGN_TAKES_EFFECT (R74): An enable or disable of alignment takes effect at the next PTP second boundary. -/
  | alignTakesEffect
  /-- LATE_ORDINARY (R43): At its deadline tick an ordinary item is voided and counted as a late drop. -/
  | lateOrdinary (domain seq : BitVec 16)
  /-- LATE_LOSSLESS (R45): At its deadline tick a lossless item or event freezes its domain and takes DEADLINE. -/
  | lateLossless (domain seq : BitVec 16)
  /-- CEILING (R49): At its ceiling tick a resumed or waiting item is terminated, voided and counted lost. -/
  | ceiling (domain seq : BitVec 16)
  /-- CEILING_XON (R51): XON is asserted at the tick closing the first sheet without a frozen domain. -/
  | ceilingXon (port : BitVec 2) (cls : BitVec 3)
  /-- FURNISH_CONFIRM_ASK (R67): At the tick opening S − 1 the firmware asks banked units to confirm. -/
  | furnishConfirmAsk (parity reset : BitVec 18)
  /-- FURNISH_SWITCH (R68): At the tick opening S the stamp points switch to F + 1, or the commit is refused. -/
  | furnishSwitch
  /-- FURNISH_RETIRE (R72): The old bank is freed at the first tick with no item of the old furnish in flight. -/
  | furnishRetire
  /-- XOFF_RELEASE (R181): An owner's XOFF is released at the first tick its use is at most XON. -/
  | xoffRelease (owner : BitVec 8)
  /-- BUDGET_MODE_END (R187): Budget mode ends at the tick opening a new interval. -/
  | budgetModeEnd (owner : BitVec 8)
  /-- RESIDUE_DROP (R218): An ordinary copy still queued after RESIDUE_SHEETS is discarded. -/
  | residueDrop (sub : BitVec 5) (queue : BitVec 3)
  /-- EXR_RESIDUE (R637): An ordinary copy waiting at a full exception ring past its residue is discarded. -/
  | exrResidue (ring : BitVec 4)
  /-- ALLWAIT_DETECTION (R378): An all-wait detector count reaching 2 aborts one waiter and posts a fault message. -/
  | allwaitDetection (scope : BitVec 4)
  /-- FRAME_RECEIVE (R86): A whole frame received on a subport is checked, timestamped, classified and admitted or dropped. -/
  | frameReceive (sub : BitVec 5) (frame : List Byte) (errors : RxErrors) (jitter : BitVec 8)
  /-- EXCEPTION_COPY_WRITE (R636): A waiting copy or emit is written to its exception ring once room returns. -/
  | exceptionCopyWrite (ring : BitVec 4)
  /-- PFC_FRAME_RECEIVE (R90): A received PFC frame stops the classes of its priorities. -/
  | pfcFrameReceive (sub : BitVec 5) (enable : BitVec 8) (quanta : List (BitVec 16))
  /-- PFC_PAUSE_EXPIRY (R91): The pause of a priority ends after its quanta. -/
  | pfcPauseExpiry (sub : BitVec 5) (prio : BitVec 3)
  /-- PFC_REFRESH_EXPIRY (R92): A PFC frame is sent again every PFC_REFRESH quanta while XOFF holds. -/
  | pfcRefreshExpiry (sub : BitVec 5)
  /-- LINK_UP (R79): A subport's link comes up after training or lock. -/
  | linkUp (sub : BitVec 5)
  /-- LINK_DOWN (R219): A subport's link goes down and its queued copies are discarded. -/
  | linkDown (sub : BitVec 5)
  /-- LINK_TRAINING_TIMEOUT (R82): Training not complete in 500 ms keeps the subport down and restarts it. -/
  | linkTrainingTimeout (sub : BitVec 5)
  /-- LANE_LOST (R600): A lane without lock for 100 µs takes its subports down. -/
  | laneLost (port : BitVec 2) (lane : BitVec 3)
  /-- LANE_REGAINED (R600): A lost lane regains lock and its subports retrain. -/
  | laneRegained (port : BitVec 2) (lane : BitVec 3)
  /-- INJECTION_FETCH (R639): The device reads a pending injection descriptor and its frame into pipeline 4; `cells` are the lines of the
  frame that the datapath wrote with a cell parity error (R590). -/
  | injectionFetch (descriptor frame : DmaResult) (cells : List (BitVec 8))
  /-- FRAME_BOUNDARY (R775): At a subport frame boundary the scheduler chooses and starts a frame. -/
  | frameBoundary (boundary : Boundary)
  /-- TRANSMIT_END (R216): A copy's transmission or host DMA ends and its reference is removed. -/
  | transmitEnd (sub : BitVec 5) (jitter : BitVec 8)
  /-- REFILL_COMPLETE (R213): A spilled frame is wholly refilled into the prefetch buffer. -/
  | refillComplete (sub : BitVec 5) (queue : BitVec 3) (index : Nat)
  /-- PANIC_CHANGE (R546): Panic begins or ends as the prefetch fill level crosses its thresholds. -/
  | panicChange
  /-- FREE_RING_REFILL (R208): A free-ring cache part is refilled or written back in a burst. -/
  | freeRingRefill (group : BitVec 3) (spill : Bool)
  /-- DRAWER_GRANT (R194): A waiting allocation is granted when its request fits. -/
  | drawerGrant (drawer : BitVec 6)
  /-- THREAD_OFFER (R246): A freed thread is offered the oldest waiting item from its affinity or global lists. -/
  | threadOffer (t : BitVec 9)
  /-- MULTIPLY_LAND (R309): A multiply result lands in MH and ML. -/
  | multiplyLand (t : BitVec 9)
  /-- STORE_BUFFER_DRAIN (R294): A store buffer entry drains to its memory. -/
  | storeBufferDrain (t : BitVec 9)
  /-- DRAM_READ_COMPLETE (R338): Data of a DRAM access returns and the stalled thread becomes READY. -/
  | dramReadComplete (t : BitVec 9)
  /-- CABINET_ANSWER (R298): The Cabinet answers a stalled packet management or emit instruction. -/
  | cabinetAnswer (t : BitVec 9)
  /-- LOOKUP_COMPLETE (R307): A lookup engine operation ends, writing its results and status word. -/
  | lookupComplete (index : Nat)
  /-- SHADOW_REWRITE (R421): The firmware rewrites a bad static entry or trie entry from its shadow. -/
  | shadowRewrite (index : Nat)
  /-- NODE_RECLAIM (R413): Replaced trie nodes and results return to free memory once earlier lookups complete. -/
  | nodeReclaim
  /-- UNPIN (R400): A pin ends at the tick opening its end sheet. -/
  | unpin (record : Nat)
  /-- AGE_OUT (R402): The ager scan deletes learned entries whose age reaches AGE_LIMIT. -/
  | ageOut (table : BitVec 5)
  /-- UNIT_DONE (R433): A Watermark, signature or Stripe unit ends its operation and sets DONE. -/
  | unitDone (unit : BitVec 5) (fault : Bool)
  /-- OP_DONE (R462): An OP_DONE flit ends the companion unit's operation. -/
  | opDone (flit : BitVec 544)
  /-- RD_REQ (R464): A companion read request is checked and answered with RD_CPL flits. -/
  | rdReq (flit : BitVec 544)
  /-- WR_REQ (R464): A companion write request is checked and applied to DRAM. -/
  | wrReq (flit : BitVec 544)
  /-- EVENT (R467): A companion EVENT flit becomes an event item on its route. -/
  | eventFlit (flit : BitVec 544)
  /-- PKT (R468): A PKT flit is assembled into a frame passed to pipeline 4 at EOP. -/
  | pktFlit (flit : BitVec 544)
  /-- TRAIN (R450): A TRAIN flit advances link training and states credits. -/
  | trainFlit (flit : BitVec 544)
  /-- NAK (R458): A NAK flit causes replay from EXPECTED, or a retrain at the fifth. -/
  | nakFlit (flit : BitVec 544)
  /-- IDLE (R453): An IDLE flit carries acknowledgements and credits. -/
  | idleFlit (flit : BitVec 544)
  /-- TABINO_TRAINING_TIMEOUT (R451): Training not UP within 10 ms returns to DOWN and retries. -/
  | tabinoTrainingTimeout
  /-- OP_TIMEOUT (R463): A companion operation with no OP_DONE in OP_TIMEOUT ends with 0x0D. -/
  | opTimeout (cv : BitVec 3)
  /-- STRIPE_FORM (R493): The store engine forms a stripe from a lane by size or age and encodes it. -/
  | stripeForm (lane : BitVec 6)
  /-- NVME_COMPLETION (R495): An NVMe write completes and stripes or seals may become durable. -/
  | nvmeCompletion (index : Nat) (status : BitVec 16)
  /-- IO_TIMEOUT (R505): A command without completion in IO_TIMEOUT fails the member. -/
  | ioTimeout (index : Nat)
  /-- SEAL_TAKE (R514): The store engine takes a published seal, checks, signs and writes it when lanes are durable. -/
  | sealTake
  /-- DURABLE_ADVANCE (R516): D advances when every lane has reached its recorded WRITE_POS. -/
  | durableAdvance
  /-- EXPOSURE_XOFF (R496): Exposure crossing BUDGET, or falling to seven eighths, starts or ends evidence back-pressure. -/
  | exposureXoff
  /-- REFRESH (R550): A due DRAM refresh is issued. -/
  | refreshIssue (turn : RefreshTurn)
  /-- ZQ_CALIBRATION (R551): ZQ calibration runs on every rank every 128 ms. -/
  | zqCalibration (channel : BitVec 3)
  /-- PATROL_SCRUB (R558): A scrub read corrects or poisons a line at the scrub rate. -/
  | patrolScrub (channel : BitVec 3) (error : LineError)
  /-- DRAM_READ (R552): A DRAM line read is corrected or delivered poisoned. -/
  | dramRead (address : BitVec 40) (error : LineError)
  /-- SELF_REFRESH_ENTRY (R560): A controller enters self-refresh. -/
  | selfRefreshEntry (channel : BitVec 3)
  /-- SELF_REFRESH_WAKE (R561): A request reaching a controller in self-refresh begins exit. -/
  | selfRefreshWake (channel : BitVec 3)
  /-- SELF_REFRESH_EXIT (R563): Exit completes with restore or full training. -/
  | selfRefreshExit (channel : BitVec 3) (verify : Bool) (step : BitVec 3)
  /-- THERMAL_REWAKE (R689): A 16 °C drift in S1 re-wakes a controller and re-enters self-refresh. -/
  | thermalRewake (channel : BitVec 3)
  /-- POWER_STATE_ENTRY (R684): At a tick the firmware enters the deepest qualifying power state. -/
  | powerStateEntry
  /-- WAKE (R686): A wake happening returns the device from S1a or S1b to A0. -/
  | wakeUp (cause : BitVec 4)
  /-- THERMAL_SAMPLE (R755): The thermal monitor samples the die temperature and compares it with thresholds. -/
  | thermalSample (temp : MonitorSample)
  /-- SUPPLY_FAULT (R752): A rail outside tolerance for 2 µs begins S2 with cause 3. -/
  | supplyFault (rail : BitVec 3) (high : Bool)
  /-- WATCHDOG_EXPIRY (R596): A core stalled for 200,000 cycles is L1 reset. -/
  | watchdogExpiry (core : BitVec 6)
  /-- CLUSTER_FAULT_TIMEOUT (R599): A cluster leaving a request unanswered for 50 µs is fenced. -/
  | clusterFaultTimeout (cluster : BitVec 3)
  /-- INSTRUCTION_REWRITE (R581): The firmware rewrites an uncorrectable instruction word from its shadow. -/
  | instructionRewrite (cluster : BitVec 3) (address : BitVec 16)
  /-- FATAL_ERROR (R734): An uncontained fault writes a dump, drives FATAL_N and self-resets. -/
  | fatalError (cause : BitVec 8)
  /-- CHALLENGE_EXPIRY (R717): An unlock challenge expires after 60,000 ms. -/
  | challengeExpiry
  /-- BREAKPOINT_MATCH (R728): A named thread reaching ADDRESS freezes the breakpoint's scope. -/
  | breakpointMatch (t : BitVec 9)
  /-- STEP_LIMIT (R729): A stepped thread is frozen again after COUNT instructions or 10 ms. -/
  | stepLimit (t : BitVec 9)
  /-- ADD (R271): ADD writes ga + gb. -/
  | add (t : BitVec 9) (gd ga gb : BitVec 5) (zf : BitVec 9)
  /-- SUB (R271): SUB writes ga − gb. -/
  | sub (t : BitVec 9) (gd ga gb : BitVec 5) (zf : BitVec 9)
  /-- AND (R271): AND writes ga and gb. -/
  | and (t : BitVec 9) (gd ga gb : BitVec 5) (zf : BitVec 9)
  /-- OR (R271): OR writes ga or gb. -/
  | or (t : BitVec 9) (gd ga gb : BitVec 5) (zf : BitVec 9)
  /-- XOR (R271): XOR writes ga xor gb. -/
  | xor (t : BitVec 9) (gd ga gb : BitVec 5) (zf : BitVec 9)
  /-- NOR (R271): NOR writes not (ga or gb). -/
  | nor (t : BitVec 9) (gd ga gb : BitVec 5) (zf : BitVec 9)
  /-- ANDN (R271): ANDN writes ga and not gb. -/
  | andn (t : BitVec 9) (gd ga gb : BitVec 5) (zf : BitVec 9)
  /-- SLL (R275): SLL shifts ga left by gb[5:0]. -/
  | sll (t : BitVec 9) (gd ga gb : BitVec 5) (zf : BitVec 9)
  /-- SRL (R275): SRL shifts ga right with zero fill. -/
  | srl (t : BitVec 9) (gd ga gb : BitVec 5) (zf : BitVec 9)
  /-- SRA (R275): SRA shifts ga right with sign fill. -/
  | sra (t : BitVec 9) (gd ga gb : BitVec 5) (zf : BitVec 9)
  /-- ROL (R271): ROL rotates ga left by gb mod 36. -/
  | rol (t : BitVec 9) (gd ga gb : BitVec 5) (zf : BitVec 9)
  /-- SLT (R271): SLT writes 1 when ga < gb signed. -/
  | slt (t : BitVec 9) (gd ga gb : BitVec 5) (zf : BitVec 9)
  /-- SLTU (R271): SLTU writes 1 when ga < gb unsigned. -/
  | sltu (t : BitVec 9) (gd ga gb : BitVec 5) (zf : BitVec 9)
  /-- MIN (R271): MIN writes the signed minimum. -/
  | min (t : BitVec 9) (gd ga gb : BitVec 5) (zf : BitVec 9)
  /-- MAX (R271): MAX writes the signed maximum. -/
  | max (t : BitVec 9) (gd ga gb : BitVec 5) (zf : BitVec 9)
  /-- MINU (R271): MINU writes the unsigned minimum. -/
  | minu (t : BitVec 9) (gd ga gb : BitVec 5) (zf : BitVec 9)
  /-- MAXU (R271): MAXU writes the unsigned maximum. -/
  | maxu (t : BitVec 9) (gd ga gb : BitVec 5) (zf : BitVec 9)
  /-- CLZ (R271): CLZ writes the leading zeros of ga. -/
  | clz (t : BitVec 9) (gd ga gb : BitVec 5) (zf : BitVec 9)
  /-- CTZ (R271): CTZ writes the trailing zeros of ga. -/
  | ctz (t : BitVec 9) (gd ga gb : BitVec 5) (zf : BitVec 9)
  /-- POPC (R271): POPC writes the number of 1 bits of ga. -/
  | popc (t : BitVec 9) (gd ga gb : BitVec 5) (zf : BitVec 9)
  /-- BSWAP (R271): BSWAP reverses the bytes of ga[31:0]. -/
  | bswap (t : BitVec 9) (gd ga gb : BitVec 5) (zf : BitVec 9)
  /-- ADDI (R271): ADDI adds the sign-extended immediate. -/
  | addi (t : BitVec 9) (gd ga : BitVec 5) (zf : BitVec 4) (imm : BitVec 16)
  /-- ANDI (R271): ANDI ands the zero-extended immediate. -/
  | andi (t : BitVec 9) (gd ga : BitVec 5) (zf : BitVec 4) (imm : BitVec 16)
  /-- ORI (R271): ORI ors the zero-extended immediate. -/
  | ori (t : BitVec 9) (gd ga : BitVec 5) (zf : BitVec 4) (imm : BitVec 16)
  /-- XORI (R271): XORI xors the zero-extended immediate. -/
  | xori (t : BitVec 9) (gd ga : BitVec 5) (zf : BitVec 4) (imm : BitVec 16)
  /-- SLTI (R271): SLTI compares signed with the sign-extended immediate. -/
  | slti (t : BitVec 9) (gd ga : BitVec 5) (zf : BitVec 4) (imm : BitVec 16)
  /-- SLTIU (R271): SLTIU compares unsigned with the sign-extended immediate. -/
  | sltiu (t : BitVec 9) (gd ga : BitVec 5) (zf : BitVec 4) (imm : BitVec 16)
  /-- LUI (R271): LUI writes IMM20 << 16. -/
  | lui (t : BitVec 9) (gd : BitVec 5) (zf : BitVec 5) (imm : BitVec 20)
  /-- SLLI (R276): SLLI shifts left by POS. -/
  | slli (t : BitVec 9) (gd ga : BitVec 5) (pos len : BitVec 6) (zf : BitVec 2)
  /-- SRLI (R276): SRLI shifts right by POS with zero fill. -/
  | srli (t : BitVec 9) (gd ga : BitVec 5) (pos len : BitVec 6) (zf : BitVec 2)
  /-- SRAI (R276): SRAI shifts right by POS with sign fill. -/
  | srai (t : BitVec 9) (gd ga : BitVec 5) (pos len : BitVec 6) (zf : BitVec 2)
  /-- ROLI (R276): ROLI rotates left by POS. -/
  | roli (t : BitVec 9) (gd ga : BitVec 5) (pos len : BitVec 6) (zf : BitVec 2)
  /-- EXTU (R276): EXTU extracts a zero-extended bit field. -/
  | extu (t : BitVec 9) (gd ga : BitVec 5) (pos len : BitVec 6) (zf : BitVec 2)
  /-- EXTS (R276): EXTS extracts a sign-extended bit field. -/
  | exts (t : BitVec 9) (gd ga : BitVec 5) (pos len : BitVec 6) (zf : BitVec 2)
  /-- INS (R276): INS inserts a bit field into gd. -/
  | ins (t : BitVec 9) (gd ga : BitVec 5) (pos len : BitVec 6) (zf : BitVec 2)
  /-- MFS (R760): MFS reads a special register into gd. -/
  | mfs (t : BitVec 9) (gd ga : BitVec 5) (zf : BitVec 4) (imm : BitVec 16)
  /-- MTS (R273): MTS writes ga into a writable special register. -/
  | mts (t : BitVec 9) (gd ga : BitVec 5) (zf : BitVec 4) (imm : BitVec 16)
  /-- MUL (R309): MUL issues a signed 72-bit multiply into MH:ML. -/
  | mul (t : BitVec 9) (gd ga gb : BitVec 5) (zf : BitVec 9)
  /-- MULU (R309): MULU issues an unsigned multiply into MH:ML. -/
  | mulu (t : BitVec 9) (gd ga gb : BitVec 5) (zf : BitVec 9)
  /-- CLMUL (R309): CLMUL issues a carry-less multiply. -/
  | clmul (t : BitVec 9) (gd ga gb : BitVec 5) (zf : BitVec 9)
  /-- GFM8 (R308): GFM8 issues four GF(2^8) lane multiplies. -/
  | gfm8 (t : BitVec 9) (gd ga gb : BitVec 5) (zf : BitVec 9)
  /-- GFM16 (R308): GFM16 issues two GF(2^16) lane multiplies. -/
  | gfm16 (t : BitVec 9) (gd ga gb : BitVec 5) (zf : BitVec 9)
  /-- LDW (R280): LDW loads a data-memory word. -/
  | ldw (t : BitVec 9) (gt ga : BitVec 5) (w mode : BitVec 2) (md : BitVec 16)
  /-- STW (R280): STW stores a data-memory word. -/
  | stw (t : BitVec 9) (gt ga : BitVec 5) (w mode : BitVec 2) (md : BitVec 16)
  /-- LDP (R292): LDP loads bytes from a handle's packet space. -/
  | ldp (t : BitVec 9) (gt ga : BitVec 5) (w mode : BitVec 2) (md : BitVec 16)
  /-- STP (R162): STP stores bytes into a handle's packet space, allocating a cell if needed. -/
  | stp (t : BitVec 9) (gt ga : BitVec 5) (w mode : BitVec 2) (md : BitVec 16)
  /-- LDC (R282): LDC loads bytes from the item's flow context. -/
  | ldc (t : BitVec 9) (gt ga : BitVec 5) (w mode : BitVec 2) (md : BitVec 16)
  /-- STC (R282): STC stores bytes into the item's flow context. -/
  | stc (t : BitVec 9) (gt ga : BitVec 5) (w mode : BitVec 2) (md : BitVec 16)
  /-- LDD (R284): LDD loads bytes through a DRAM window. -/
  | ldd (t : BitVec 9) (gt ga : BitVec 5) (w mode : BitVec 2) (md : BitVec 16)
  /-- STD (R284): STD stores bytes through a DRAM window. -/
  | std (t : BitVec 9) (gt ga : BitVec 5) (w mode : BitVec 2) (md : BitVec 16)
  /-- PALLOC (R298): PALLOC allocates a buffer handle for the thread group. -/
  | palloc (t : BitVec 9) (gd ga gb : BitVec 5) (zf : BitVec 9)
  /-- PALLOCE (R296): PALLOCE allocates a buffer handle for the evidence path. -/
  | palloce (t : BitVec 9) (gd ga gb : BitVec 5) (zf : BitVec 9)
  /-- PFREE (R196): PFREE frees a whole buffer handle. -/
  | pfree (t : BitVec 9) (gd ga gb : BitVec 5) (zf : BitVec 9) (slow : Bool)
  /-- PFREES (R196): PFREES frees a range of slots of a buffer handle. -/
  | pfrees (t : BitVec 9) (gd ga gb : BitVec 5) (zf : BitVec 9) (slow : Bool)
  /-- PXFER (R198): PXFER transfers a buffer handle to another owner. -/
  | pxfer (t : BitVec 9) (gd ga gb : BitVec 5) (zf : BitVec 9) (slow : Bool)
  /-- PBIND (R199): PBIND turns a buffer handle into a packet handle. -/
  | pbind (t : BitVec 9) (gd ga gb : BitVec 5) (zf : BitVec 9) (slow : Bool)
  /-- PREF (R201): PREF adds a reference to a packet handle. -/
  | pref (t : BitVec 9) (gd ga gb : BitVec 5) (zf : BitVec 9) (slow : Bool)
  /-- PDEREF (R202): PDEREF removes a reference, freeing the handle at zero. -/
  | pderef (t : BitVec 9) (gd ga gb : BitVec 5) (zf : BitVec 9) (slow : Bool)
  /-- EMIT (R299): EMIT stages one output on the item. -/
  | emit (t : BitVec 9) (gd ga gb : BitVec 5) (zf : BitVec 9) (slow : Bool)
  /-- EMITF (R299): EMITF stages an output and completes the item. -/
  | emitF (t : BitVec 9) (gd ga gb : BitVec 5) (zf : BitVec 9) (slow : Bool)
  /-- VOID (R300): VOID completes the item as voided. -/
  | voidItem (t : BitVec 9) (gd ga gb : BitVec 5) (zf : BitVec 9) (slow : Bool)
  /-- LKUP (R304): LKUP with OP 0 issues a lookup, stalling or pending gd. -/
  | lkup (t : BitVec 9) (gd ga gb : BitVec 5) (a : Bool) (table : BitVec 6) (zf : BitVec 6)
  /-- LKUP_INSERT (R391): LKUP with OP 1 issues an insert or learn request. -/
  | lkupInsert (t : BitVec 9) (gd ga gb : BitVec 5) (a : Bool) (table : BitVec 6) (zf : BitVec 6)
  /-- LKUP_DELETE (R396): LKUP with OP 2 issues a delete. -/
  | lkupDelete (t : BitVec 9) (gd ga gb : BitVec 5) (a : Bool) (table : BitVec 6) (zf : BitVec 6)
  /-- LKWAIT (R305): LKWAIT waits until every outstanding lookup has landed. -/
  | lkwait (t : BitVec 9) (zf : BitVec 30)
  /-- BEQ (R277): BEQ branches when ga equals gb. -/
  | beq (t : BitVec 9) (ga gb : BitVec 5) (zf : BitVec 4) (target : BitVec 16)
  /-- BNE (R277): BNE branches when ga differs from gb. -/
  | bne (t : BitVec 9) (ga gb : BitVec 5) (zf : BitVec 4) (target : BitVec 16)
  /-- BLT (R277): BLT branches when ga < gb signed. -/
  | blt (t : BitVec 9) (ga gb : BitVec 5) (zf : BitVec 4) (target : BitVec 16)
  /-- BGE (R277): BGE branches when ga ≥ gb signed. -/
  | bge (t : BitVec 9) (ga gb : BitVec 5) (zf : BitVec 4) (target : BitVec 16)
  /-- BLTU (R277): BLTU branches when ga < gb unsigned. -/
  | bltu (t : BitVec 9) (ga gb : BitVec 5) (zf : BitVec 4) (target : BitVec 16)
  /-- BGEU (R277): BGEU branches when ga ≥ gb unsigned. -/
  | bgeu (t : BitVec 9) (ga gb : BitVec 5) (zf : BitVec 4) (target : BitVec 16)
  /-- BBS (R279): BBS branches when ga[BIT] is 1. -/
  | bbs (t : BitVec 9) (ga : BitVec 5) (bit : BitVec 6) (zf : BitVec 3) (target : BitVec 16)
  /-- BBC (R279): BBC branches when ga[BIT] is 0. -/
  | bbc (t : BitVec 9) (ga : BitVec 5) (bit : BitVec 6) (zf : BitVec 3) (target : BitVec 16)
  /-- J (R277): J jumps to TARGET. -/
  | jump (t : BitVec 9) (gd : BitVec 5) (zf : BitVec 9) (target : BitVec 16)
  /-- JAL (R277): JAL links PC + 1 and jumps to TARGET. -/
  | jal (t : BitVec 9) (gd : BitVec 5) (zf : BitVec 9) (target : BitVec 16)
  /-- JR (R277): JR jumps to ga[15:0]. -/
  | jr (t : BitVec 9) (gd ga gb : BitVec 5) (zf : BitVec 9)
  /-- JALR (R277): JALR links PC + 1 and jumps to ga[15:0]. -/
  | jalr (t : BitVec 9) (gd ga gb : BitVec 5) (zf : BitVec 9)
  /-- DLOCK (R354): DLOCK requests a lock, waiting until granted. -/
  | dlock (t : BitVec 9) (gd ga gb : BitVec 5) (imm : BitVec 12)
  /-- DTRY (R360): DTRY tries a lock once and returns the grant or owner. -/
  | dtry (t : BitVec 9) (gd ga gb : BitVec 5) (imm : BitVec 12)
  /-- DUNLK (R358): DUNLK releases a lock and grants it to the next waiter. -/
  | dunlk (t : BitVec 9) (gd ga gb : BitVec 5) (imm : BitVec 12)
  /-- DCRES (R370): DCRES reserves the next channel slot, waiting while full. -/
  | dcres (t : BitVec 9) (gd ga gb : BitVec 5) (imm : BitVec 12)
  /-- DCPUT (R371): DCPUT writes a word into a reserved slot. -/
  | dcput (t : BitVec 9) (gd ga gb : BitVec 5) (imm : BitVec 12)
  /-- DCCMT (R371): DCCMT commits a reserved slot and delivers it to a waiting reader. -/
  | dccmt (t : BitVec 9) (gd ga gb : BitVec 5) (imm : BitVec 12)
  /-- DCTAKE (R372): DCTAKE claims the next slot, waiting until committed or voided. -/
  | dctake (t : BitVec 9) (gd ga gb : BitVec 5) (imm : BitVec 12)
  /-- YIELD (R332): YIELD ends the run and switches to the next ready thread. -/
  | yieldRun (t : BitVec 9) (gd ga gb : BitVec 5) (zf : BitVec 9)
  /-- FENCE (R287): FENCE makes the thread's earlier stores visible. -/
  | fence (t : BitVec 9) (gd ga gb : BitVec 5) (zf : BitVec 9)
  /-- BRK (R320): BRK raises BREAK, halting the thread and notifying its supervisor. -/
  | brk (t : BitVec 9) (gd ga gb : BitVec 5) (zf : BitVec 9)
  /-- END (R323): END ends the deadline handler and the item or frees the thread. -/
  | endH (t : BitVec 9) (gd ga gb : BitVec 5) (zf : BitVec 9)
  /-- RESUME (R323): RESUME resumes the item with DL extended to its ceiling. -/
  | resumeH (t : BitVec 9) (gd ga gb : BitVec 5) (zf : BitVec 9)
  /-- SVEND (R348): SVEND ends the item of a halted thread. -/
  | svend (t : BitVec 9) (gd ga gb : BitVec 5) (zf : BitVec 9)
  /-- SVRST (R349): SVRST applies an L0 reset to a thread of the cluster. -/
  | svrst (t : BitVec 9) (gd ga gb : BitVec 5) (zf : BitVec 9)
  /-- CPST (R316): CPST reads a unit's status word. -/
  | cpst (t : BitVec 9) (gd : BitVec 5) (unit : BitVec 3) (cls : BitVec 2) (zf : BitVec 14)
  /-- WAITCP (R316): WAITCP waits until the unit is not busy and reads its status. -/
  | waitcp (t : BitVec 9) (gd : BitVec 5) (unit : BitVec 3) (cls : BitVec 2) (zf : BitVec 14)
  /-- CHAIN (R432): Watermark OP 0 chains, and optionally enciphers, a region. -/
  | chainOp (t : BitVec 9) (unit : BitVec 3) (ga gb : BitVec 5) (notify : Bool) (imm : BitVec 11)
  /-- HASH (R432): Watermark OP 1 hashes a region with SHA-256. -/
  | hashOp (t : BitVec 9) (unit : BitVec 3) (ga gb : BitVec 5) (notify : Bool) (imm : BitVec 11)
  /-- SIGN (R438): Signature OP 0 signs a message with Ed25519. -/
  | signOp (t : BitVec 9) (unit : BitVec 3) (ga gb : BitVec 5) (notify : Bool) (imm : BitVec 11)
  /-- PUBLIC_KEY (R438): Signature OP 1 writes the slot's public key. -/
  | publicKey (t : BitVec 9) (unit : BitVec 3) (ga gb : BitVec 5) (notify : Bool) (imm : BitVec 11)
  /-- ENCODE (R439): Stripe OP 0 computes Reed–Solomon parity shards. -/
  | encodeOp (t : BitVec 9) (unit : BitVec 3) (ga gb : BitVec 5) (notify : Bool) (imm : BitVec 11)
  /-- COMPANION_OP (R461): An instruction to CVv sends one OP flit to the companion. -/
  | companionOp (t : BitVec 9) (cv : BitVec 3) (func : BitVec 5) (ga gb : BitVec 5) (imm : BitVec 14)
  /-- MRD (R652): MRD reads a device control register on the management processor. -/
  | mrd (gd ga gb : BitVec 5)
  /-- MWR (R652): MWR writes a device control register on the management processor. -/
  | mwr (gd ga gb : BitVec 5)
  /-- MWAIT (R652): MWAIT waits until an event for the management processor is pending. -/
  | mwait (gd ga gb : BitVec 5)
  /-- MRST (R652): MRST self-resets the device at L3. -/
  | mrst (gd ga gb : BitVec 5)
  /-- CONFIGURATION_REQUEST (R605): A PCIe configuration request on port H reads or writes the configuration space, changing Bus Master
  Enable, D3hot, ECRC enables or the MSI-X function mask. -/
  | configurationRequest (write : Bool) (register : BitVec 10) (enables : BitVec 4) (value : BitVec 32)
  /-- BOOT_TIMEOUT (R678): A boot attempt that waits too long (BUS_MASTER_ENABLE 0 for 1 s, SPI flash silent, or the Tabino link not UP
  within 10 s) records its failure result and waits with STAGE 15. -/
  | bootTimeout
  /-- BLOCK_LOCK (R450): Every lane of port C gaining block lock moves the Tabino link from DOWN to LOCK. -/
  | blockLock
  /-- LANE_DESKEW (R449): Marker blocks aligning on all four lanes deskew port C and move the link from LOCK to DESKEW. -/
  | laneDeskew
  /-- STOPPED_SHEET_SPAN (R762): While the sheet generator is stopped, each 2.048 µs span ends, opening a new span for first-in-sheet event
  raising. -/
  | stoppedSheetSpan
  /-- MANAGEMENT_PROCESSOR_HALT (R720): At D3, a halt or release through JTAG stops or resumes the management processor and sets or clears
  MP_HALTED. -/
  | managementProcessorHalt (halt : Bool)
  deriving DecidableEq, Repr

end Sys2Proof
end

