-- ==== Sys2Proof/Decode.lean ====
section
/-!
DEFINITION. The commands that words spell: the opcode table gives no row any bits (log entry 42).
-/
namespace Sys2Proof

/-- The command a word spells by the table's bits: none. -/
def decodeTableWord (_nbits _w : Nat) : Option Instr := none

end Sys2Proof
end

