-- ==== Sys2Proof/Machine/Bits.lean ====
section
/-!
DEFINITION. Byte order, bit fields and sparse tables: the helpers every other file of the machine uses.
-/
namespace Sys2Proof.Machine

/-! ### Bytes and numbers -/

/-- The number that bytes spell, least significant first (12_host_port_and_mailboxes.md, Mailboxes). -/
def leNat : List Byte → Nat
  | [] => 0
  | b :: r => b.toNat + 256 * leNat r

/-- The `n` low bytes of a number, least significant first. -/
def leBytes : Nat → Nat → List Byte
  | 0, _ => []
  | n + 1, x => BitVec.ofNat 8 x :: leBytes n (x / 256)

/-- The number that bytes spell, most significant first (R291). -/
def beNat (bs : List Byte) : Nat := leNat bs.reverse

/-- The `n` low bytes of a number, most significant first (R291). -/
def beBytes (n x : Nat) : List Byte := (leBytes n x).reverse

/-- Bytes `off` to `off + n - 1` of a list. -/
def bytesAt (bs : List Byte) (off n : Nat) : List Byte := (bs.drop off).take n

/-- The little-endian number in bytes `off` to `off + n - 1` (bytes past the end read as 0). -/
def leAt (bs : List Byte) (off n : Nat) : Nat := leNat (bytesAt bs off n)

/-- Bits `lo + n - 1` to `lo` of a number. -/
def natBits (x lo n : Nat) : Nat := x / 2 ^ lo % 2 ^ n

/-- Bit `i` of a number. -/
def natBit (x i : Nat) : Bool := x / 2 ^ i % 2 == 1

/-- 1 for true, 0 for false. -/
def b2n (b : Bool) : Nat := if b then 1 else 0

/-- Numbers packed from bit 0 upward, each with its width. -/
def packNat : List (Nat × Nat) → Nat
  | [] => 0
  | (v, w) :: r => v % 2 ^ w + 2 ^ w * packNat r

/-- A little-endian byte layout: values, each with its size in bytes. -/
def layout (fs : List (Nat × Nat)) : List Byte := fs.flatMap (fun f => leBytes f.2 f.1)

/-- `n` zero bytes. -/
def zeros (n : Nat) : List Byte := List.replicate n 0

/-- The signed value of the `n`-bit two's complement number `x`. -/
def sInt (n x : Nat) : Int :=
  if x % 2 ^ n < 2 ^ (n - 1) then (x % 2 ^ n : Nat) else (x % 2 ^ n : Nat) - (2 ^ n : Nat)

/-- The `n`-bit two's complement number of a signed value. -/
def ofInt (n : Nat) (x : Int) : Nat := (x % (2 ^ n : Nat)).toNat

/-- A word whose bits in a mask read as fixed values. -/
def fixBits (w mask v : BitVec 32) : BitVec 32 := (w &&& ~~~ mask) ||| (v &&& mask)

/-- Is the number a power of two? -/
def isPow2 (x : Nat) : Bool := x != 0 && 2 ^ Nat.log2 x == x

/-- x divided by y, rounded up. -/
def ceilDiv (x y : Nat) : Nat := (x + y - 1) / y

/-- The positions of the 1 bits of an `n`-bit mask, in ascending order. -/
def maskList (n x : Nat) : List Nat := (List.range n).filter (natBit x)

/-- The first element for which the number `f` is greatest. -/
def argMax {α : Type} (f : α → Nat) : List α → Option α
  | [] => none
  | x :: r =>
    match argMax f r with
    | none => some x
    | some y => if f y > f x then some y else some x

/-- The first element for which the number `f` is least. -/
def argMin {α : Type} (f : α → Nat) : List α → Option α
  | [] => none
  | x :: r =>
    match argMin f r with
    | none => some x
    | some y => if f y < f x then some y else some x

/-! ### Random draws (R773) -/

/-- One step of the 32-bit Fibonacci LFSR (R773). -/
def lfsrStep (r : BitVec 32) : BitVec 32 :=
  (r <<< 1) ||| (if r.getLsbD 31 ^^ r.getLsbD 21 ^^ r.getLsbD 1 ^^ r.getLsbD 0 then 1 else 0)

/-- A draw: 16 steps, then bits [15:0] (R773). -/
def lfsrDraw (r : BitVec 32) : Nat × BitVec 32 :=
  let x := (List.range 16).foldl (fun a _ => lfsrStep a) r
  (x.toNat % 65536, x)

/-! ### Sparse tables -/

/-- The value of a key, if listed. -/
def tabFind {α : Type} : Tab α → Nat → Option α
  | [], _ => none
  | (k, v) :: r, q => if k = q then some v else tabFind r q

/-- The value of a key; an unlisted key reads as `d`. -/
def tabGet {α : Type} (d : α) (t : Tab α) (k : Nat) : α := (tabFind t k).getD d

/-- The table without the keys `a` to `a + n - 1`. -/
def tabClear {α : Type} (t : Tab α) (a n : Nat) : Tab α :=
  t.filter (fun p => p.1 < a || a + n ≤ p.1)

/-- The table without the key. -/
def tabErase {α : Type} (t : Tab α) (k : Nat) : Tab α := tabClear t k 1

/-- The table with the listed entries in place of the keys `a` to `a + n - 1`. -/
def tabSplice {α : Type} (t : Tab α) (a n : Nat) (es : Tab α) : Tab α :=
  t.filter (fun p => p.1 < a) ++ es ++ t.filter (fun p => a + n ≤ p.1)

/-- The table with the key listed at the value. -/
def tabPut {α : Type} (t : Tab α) (k : Nat) (v : α) : Tab α := tabSplice t k 1 [(k, v)]

/-- The table with the key at the value, where an unlisted key reads as `d`. -/
def tabSet {α : Type} [DecidableEq α] (d : α) (t : Tab α) (k : Nat) (v : α) : Tab α :=
  tabSplice t k 1 (if v = d then [] else [(k, v)])

/-- The table with the key's value changed by `f`, where an unlisted key reads as `d`. -/
def tabUpd {α : Type} [DecidableEq α] (d : α) (t : Tab α) (k : Nat) (f : α → α) : Tab α :=
  tabSet d t k (f (tabGet d t k))

/-- The entries of consecutive keys from `a`, less those equal to `d`. -/
def tabEntries {α : Type} [DecidableEq α] (d : α) : Nat → List α → Tab α
  | _, [] => []
  | a, v :: r => if v = d then tabEntries d (a + 1) r else (a, v) :: tabEntries d (a + 1) r

/-- The table with the values stored at consecutive keys from `a`. -/
def tabWrite {α : Type} [DecidableEq α] (d : α) (t : Tab α) (a : Nat) (vs : List α) : Tab α :=
  tabSplice t a vs.length (tabEntries d a vs)

/-- The values of `n` consecutive keys from `a`. -/
def tabRead {α : Type} (d : α) (t : Tab α) (a n : Nat) : List α :=
  (List.range n).map (fun i => tabGet d t (a + i))

/-- The canonical form of a sparse table: keys strictly rising from `lo`, no value equal to `d`. -/
def tabWfFrom {α : Type} [DecidableEq α] (d : α) : Nat → Tab α → Bool
  | _, [] => true
  | lo, (k, v) :: r => decide (lo ≤ k) && decide (v ≠ d) && tabWfFrom d (k + 1) r

/-- The canonical form of a sparse table. -/
def tabWf {α : Type} [DecidableEq α] (d : α) (t : Tab α) : Bool := tabWfFrom d 0 t

/-! ### Byte memories -/

/-- What a byte that nothing has written reads as (log entry 5: DESIGN CHOICE, unsafe). -/
def memDefault : Byte := 0

/-- The byte at an address. -/
def memGet (m : List (Nat × Byte)) (a : Nat) : Byte := tabGet memDefault m a

/-- `n` bytes from an address. -/
def memRead (m : List (Nat × Byte)) (a n : Nat) : List Byte := tabRead memDefault m a n

/-- The memory with bytes stored from an address. -/
def memWrite (m : List (Nat × Byte)) (a : Nat) (bs : List Byte) : List (Nat × Byte) :=
  tabWrite memDefault m a bs

/-- The canonical form of a byte memory: addresses strictly rising, no byte equal to an unlisted one. -/
def Memory.wf (m : List (Nat × Byte)) : Bool := tabWf memDefault m

end Sys2Proof.Machine
end

