-- ==== Sys2Proof/Machine/StateDram.lean ====
section
/-!
DEFINITION. State of the DRAM subsystem (10_dram_subsystem.md).
-/
namespace Sys2Proof.Machine

/-- The population of DRAM_POPULATION (Table 10.1). -/
structure Population where
  channels : BitVec 8
  speed : Nat
  ranks : Nat
  width : Nat
  density : Nat
  deriving DecidableEq, Repr

/-- An address range (R533). -/
structure DramRange where
  channels : BitVec 8 := 0
  /-- GRANULE is 4 KiB, else 256 bytes. -/
  large : Bool := false
  enable : Bool := false
  size : Nat := 0
  deriving DecidableEq, Repr

/-- An entry of the error log (R553, Table 10.13). -/
structure DramError where
  address : Nat
  channel : Nat
  /-- 0 demand, 1 scrub, 2 fenced access. -/
  kind : Nat
  sheet : Sheet
  deriving DecidableEq, Repr

/-- A request in a subchannel's queue (Scheduling; R542). -/
structure DramReq where
  /-- The requester's port (Table 10.5). -/
  port : Nat
  write : Bool
  /-- The line, as a device address ÷ 64, and its rank, bank group, bank and row (Table 10.4, R537). -/
  line : Nat
  rank : Nat
  group : Nat
  bank : Nat
  row : Nat
  /-- The subchannel's clock at which it entered the queue. -/
  since : Nat
  /-- Its row has been activated for it. -/
  opened : Bool := false
  deriving DecidableEq, Repr

/-- A subchannel with its scheduler (R542-R545). -/
structure SubChannel where
  /-- The queues of all banks together, oldest first; each bank has at most 16. -/
  queue : List DramReq := []
  /-- The open row of each bank. -/
  rows : Tab Nat := []
  writeMode : Bool := false
  /-- The bank group next in rotation (R543). -/
  next : Nat := 0
  /-- The latest activates, newest first: clock, rank, bank group. -/
  acts : List (Nat × Nat × Nat) := []
  /-- Clock cycles of the DRAM counted by the scheduler (log entry 133). -/
  clock : Nat := 0
  deriving DecidableEq, Repr

/-- A request that waits at its port while the controller is in self-refresh (R561): the port, the line as a device address ÷ 64, and the
bytes of the line that it asks for. -/
structure DramWait where
  port : Nat
  write : Bool
  line : Nat
  bytes : Nat
  deriving DecidableEq, Repr

/-- A DRAM controller of one channel. -/
structure DramChannel where
  /-- Subchannels A and B (Table 10.4). -/
  subA : SubChannel := {}
  subB : SubChannel := {}
  /-- Postponed refreshes, by rank in all-bank mode and by rank and bank index in same-bank mode (R550). -/
  owed : Tab Nat := []
  fenced : Bool := false
  /-- In self-refresh; and whether its exit has begun (R560-R562). -/
  selfRefresh : Bool := false
  waking : Bool := false
  /-- Requests that wait at their ports for the exit, in the order in which they came (R561). -/
  waiting : List DramWait := []
  /-- The fence that the last L3 reset ended calls for training, its saved settings notwithstanding (R566). -/
  retrain : Bool := false
  /-- Poisoned lines that no range covers, as channel line numbers (R553, R558). -/
  darkPoison : List Nat := []
  /-- The population and timing table for which settings are saved (R529, R532). -/
  saved : Option (Population × List Nat) := none
  /-- Die temperature recorded at the last self-refresh entry, in 1/16 °C (R560, R755). -/
  temp : Int := 0
  /-- Sheets of the latest uncorrectable lines, for the storm test. -/
  ueSheets : List Sheet := []
  /-- Correctable errors since the last event of R557. -/
  ceSince : Nat := 0
  /-- The next line of the patrol scrub, as a channel line number (R558). -/
  scrubPos : Nat := 0
  deriving DecidableEq, Repr

/-- DRAM. -/
structure Dram where
  /-- Bytes by device address. -/
  mem : List Host.Cell := []
  /-- Poisoned 64-byte lines, keyed by address ÷ 64 (R554, R588). -/
  poison : Tab Bool := []
  population : Option Population := none
  /-- The 20 fields of Table 10.2; none before DRAM_TIMING. -/
  timing : List Nat := []
  ranges : Tab DramRange := []
  /-- The ranges under which `mem` is keyed: those of the last DRAM_START (the model's own field). -/
  layout : Tab DramRange := []
  chans : Tab DramChannel := []
  /-- STATE of DRAM_STATE, which an L3 reset keeps (Table 10.9). -/
  stateCode : BitVec 2 := 0
  started : Bool := false
  wrHigh : Nat := 96
  wrLow : Nat := 32
  ageLimit : Nat := 2000
  panicLevel : Nat := 128
  panicHyst : Nat := 32
  panic : Bool := false
  /-- Refresh mode 0 all-bank or 1 same-bank, and rate 1 or 2 (R548, R549). -/
  refreshMode : Nat := 0
  refreshRate : Nat := 1
  ueLimit : Nat := 16
  stormSheets : Nat := 488
  ceLimit : Nat := 1000
  scrubHours : Nat := 24
  /-- The thresholds and scrub period a DRAM_ECC gave, in payload order, which take effect at the next tick (Table 10.10). -/
  eccNext : Option (List Nat) := none
  /-- DUMP_BASE, and the spare areas' bases and sizes with the bytes used of each (R538, R568). -/
  dumpBase : Option Nat := none
  spare : List (Nat × Nat) := [(0, 0), (0, 0)]
  spareUsed : List Nat := [0, 0]
  errorLog : List DramError := []
  deriving DecidableEq, Repr

end Sys2Proof.Machine
end

