-- ==== Sys2Proof/Machine/DramSched.lean ====
section
/-!
DEFINITION. The decode of a channel address, and the scheduler of a subchannel (10_dram_subsystem.md, Address map, Scheduling; R536,
R537, R542-R545).
-/
namespace Sys2Proof.Machine

/-- Table 10.4 and R537: subchannel, column, bank group, bank, rank and row of a channel address. -/
structure DramDecode where
  subchannel : Nat
  column : Nat
  group : Nat
  bank : Nat
  rank : Nat
  row : Nat
  deriving DecidableEq, Repr

def dramDecode (p : Population) (x : Nat) : DramDecode :=
  let c := if p.width = 8 then 6 else 7
  let row := if p.ranks = 2 then x / 2 ^ (13 + c) else x / 2 ^ (12 + c)
  { subchannel := natBits x 6 1, column := 16 * natBits x 7 c, group := (natBits x (7 + c) 3).xor (row % 8)
    bank := natBits x (10 + c) 2, rank := if p.ranks = 2 then natBits x (12 + c) 1 else 0, row := row }

/-- What a scheduler goes by: panic, the thresholds of DRAM_SCHED with AGE_LIMIT in clock cycles, and the timings it tests. -/
structure SchedRules where
  panic : Bool
  wrHigh : Nat
  wrLow : Nat
  age : Nat
  rrdL : Nat
  rrdS : Nat
  faw : Nat
  burst : Nat

/-- The bank of a request among the subchannel's up to 64. -/
def DramReq.key (r : DramReq) : Nat := 32 * r.rank + 4 * r.group + r.bank

/-- A row hit: the request's row stands open. -/
def SubChannel.hits (q : SubChannel) (r : DramReq) : Bool := tabFind q.rows r.key == some r.row

/-- Do tRRD_L, tRRD_S and tFAW allow an activate for a request now (R543)? -/
def SubChannel.mayActivate (k : SchedRules) (q : SubChannel) (r : DramReq) : Bool :=
  let mine := q.acts.filter (fun a => a.2.1 == r.rank)
  mine.all (fun a => decide (a.1 + (if a.2.2 = r.group then k.rrdL else k.rrdS) ≤ q.clock)) &&
    (match mine[3]? with | some a => decide (a.1 + k.faw ≤ q.clock) | none => true)

/-- Can a request be served or its row activated now? -/
def SubChannel.able (k : SchedRules) (q : SubChannel) (r : DramReq) : Bool := q.hits r || q.mayActivate k r

/-- The mode of a subchannel: write mode with WR_HIGH writes queued, or with writes and no read; read mode at WR_LOW writes or none
(R544; log entry 134). -/
def SubChannel.nextMode (k : SchedRules) (q : SubChannel) : Bool :=
  let w := (q.queue.filter (·.write)).length
  decide (k.wrHigh ≤ w) || (w == q.queue.length && decide (0 < w)) || (q.writeMode && decide (k.wrLow < w))

/-- The bank groups in rotation, as 8 × rank + group (R543; log entry 135). -/
def SubChannel.rotation (q : SubChannel) : List Nat := (List.range 16).map (fun i => (q.next + i) % 16)

/-- The oldest request of the bank group next in rotation that can be activated (choice 5 of R542, R543). -/
def SubChannel.nextActivate (k : SchedRules) (q : SubChannel) : Option DramReq :=
  q.rotation.findSome? (fun g => q.queue.find? (fun r => r.write == q.writeMode && 8 * r.rank + r.group == g && q.mayActivate k r))

/-- The write burst that a subchannel in write mode has begun: its row was activated for it (R545; log entry 136). -/
def SubChannel.begun (q : SubChannel) : Option DramReq :=
  if q.writeMode then q.queue.find? (fun r => r.write && r.opened && q.hits r) else none

/-- The request a scheduler takes in a cycle in which no refresh is due: choices 2 to 5 of R542, with the write burst begun before
choice 2 (R545, R547). -/
def SubChannel.choose (k : SchedRules) (q : SubChannel) : Option DramReq :=
  let urgent := if k.panic then q.begun <|> q.queue.find? (fun r => r.port == 0 && q.able k r) else none
  urgent <|> q.queue.find? (fun r => decide (r.since + k.age < q.clock) && q.able k r) <|>
    q.queue.find? (fun r => r.write == q.writeMode && q.hits r) <|> q.nextActivate k

/-- A subchannel after a cycle, and what the cycle adds to ROW_HITS, ACTIVATES and WRITE_DRAINS (Table 10.12). -/
structure SchedStep where
  sub : SubChannel
  rowHits : Nat := 0
  activates : Nat := 0
  drains : Nat := 0

/-- The burst of a request whose row is open: the request leaves its queue. -/
def SubChannel.serve (k : SchedRules) (q : SubChannel) (r : DramReq) : SchedStep :=
  { sub := { q with queue := q.queue.erase r, clock := q.clock + k.burst }, rowHits := b2n !r.opened }

/-- The activate for a request; the rotation moves to the next bank group (R543). -/
def SubChannel.activate (q : SubChannel) (r : DramReq) : SchedStep :=
  { sub := { q with
      queue := q.queue.map (fun x => if x = r then { r with opened := true } else x)
      rows := tabPut q.rows r.key r.row, acts := ((q.clock, r.rank, r.group) :: q.acts).take 16
      next := (8 * r.rank + r.group + 1) % 16, clock := q.clock + 1 }
    activates := 1 }

/-- One cycle of a subchannel in which no refresh is due (R542). -/
def SubChannel.cycle (k : SchedRules) (q : SubChannel) : SchedStep :=
  let mode := q.nextMode k
  let q' := { q with writeMode := mode }
  let x : SchedStep := match q'.choose k with
    | none => { sub := { q' with clock := q'.clock + 1 } }
    | some r => if q'.hits r then q'.serve k r else q'.activate r
  { x with drains := b2n (mode && !q.writeMode) }

/-- Room for a request of a bank: its queue holds fewer than 16. -/
def SubChannel.room (q : SubChannel) (r : DramReq) : Bool := decide ((q.queue.filter (fun x => x.key == r.key)).length < 16)

end Sys2Proof.Machine
end

