-- ==== Sys2Proof/Config.lean ====
section
/-!
DEFINITION. What one part fixes, and the values the spec leaves open: constants without a body, so that nothing
can be proved of them beyond what the machine's operations do with them.
-/
namespace Sys2Proof.Config

/-- A value the spec leaves open, drawn with the counter `State.fresh` (log entry 2). -/
opaque free : Nat → Nat

/-- What a byte of a newly allocated cell reads as before anything is stored there (log entry 7): the cell's
allocation number and the packet offset. -/
opaque cellByte : Nat → Nat → Byte

/-- What a byte of a DRAM line reads as where the device answers the read as poisoned without reaching DRAM (R565): the free-value counter
and the device address (log entry 164). -/
opaque closedByte : Nat → Nat → Byte

/-- The device serial number of Table 14.1 (log entry 8). -/
opaque serial : BitVec 64

/-- The four firmware keys FW_KEY0 to FW_KEY3 of Table 14.1 (log entry 8). -/
opaque fwKey : Nat → BitVec 256

/-- Whether the part is the extended-temperature grade NG6436-EB1 (Table 0.3, log entry 8). -/
opaque gradeEB1 : Bool

/-- Dword numbers of the PCI Power Management, MSI-X and AER capabilities in port H's configuration space (log entry 50). -/
opaque capPm : BitVec 10
opaque capMsix : BitVec 10
opaque capAer : BitVec 10

/-- Dword numbers of the PCI Express and Device Serial Number capabilities there (log entry 50). -/
opaque capExp : BitVec 10
opaque capDsn : BitVec 10

/-- The bus, device and function number of port S itself, and the dword number of its AER capability (log entry 145). -/
opaque portS : BitVec 16
opaque capAerS : BitVec 10

/-- PIPELINE in the exception slot of an emit of an event item, which came through none: by the item's domain and sequence number (Table 12.13;
log entry 169). -/
opaque eventPipe : BitVec 16 → BitVec 16 → Fin 5

/-- Where a slot of Dovetail memory stands: the channel and the place in its ring, by the sizes of the channels and the slot's number (log
entry 171). -/
opaque slotPlace : List Nat → Nat → Nat × Nat

/-- What the dump writes beside a lock word for its waiter queue (log entry 171). -/
opaque queueBits : List Nat → BitVec 28

/-- The host's setting of Max_Payload_Size: a TLP carries at most 128, 256 or 512 bytes (Table 12.1; log entry 142). -/
opaque payloadCode : Fin 3

end Sys2Proof.Config
end

