-- ==== Sys2Proof/Machine/StateCabinet.lean ====
section
/-!
DEFINITION. State of the Vat, the Cabinet, the egress queues and their schedulers (03_vat_cabinet_and_queues.md).
-/
namespace Sys2Proof.Machine

/-- The kind of a handle index (Table 3.14, HANDLE_QUERY). -/
inductive HandleKind where
  | free | packet | buffer
  deriving DecidableEq, Repr

/-- One handle index of the handle table (R157-R165, R200, R205). -/
structure Handle where
  gen : BitVec 4 := 0
  /-- The index has been used; GEN counts reuses (Table 3.1). -/
  used : Bool := false
  kind : HandleKind := .free
  /-- The owner of the cells: 254 for a packet handle (R167). -/
  owner : BitVec 8 := 255
  /-- The owner charged for the cells, and its drawer (R166, R173). -/
  charge : BitVec 8 := 255
  drawer : Nat := 0
  /-- Subport of arrival, 8 × port + subport, for a line-port frame (R183). -/
  subport : Option Nat := none
  refs : Nat := 0
  pins : Nat := 0
  spilled : Bool := false
  /-- Slots that hold a cell: slot to (group × 2^32 + cell number in the group's numbering, allocation number or, in a
  spilled handle, the DRAM address of the cell) (R160-R165); bit 31 marks a cell of a retired spill region (R567). -/
  cells : Tab (Nat × Nat) := []
  /-- Cells of this handle granted from the owner's headroom (R172). -/
  headroom : Nat := 0
  /-- The head cell stands in the prefetch buffer until dispatch (R212). -/
  headHeld : Bool := false
  /-- Bytes stored in the Vat cells of packet space, keyed by offset; a listed byte has been written (R159-R163). The bytes
  of a spilled handle stand in DRAM (R165, R212). -/
  data : Tab Byte := []
  /-- The receive record (R160). -/
  record : List Byte := []
  /-- Bit l: 64-byte line l of packet space is poisoned (R588). -/
  poison : BitVec 256 := 0
  /-- Bit l: line l lies in a spill cell on a fenced channel: reads of it are poisoned, writes discarded (R565). -/
  lost : BitVec 256 := 0
  /-- A free of the whole handle waits for the last pin (R206). -/
  deferAll : Bool := false
  /-- Slots whose free waits for the last pin (R206). -/
  deferSlots : BitVec 64 := 0
  /-- The frame's evidence flag and class, kept for push-out (R176, R177). -/
  evidence : Bool := false
  cls : BitVec 3 := 0
  deriving DecidableEq, Repr

/-- A drawer group: geometry and free rings (Table 3.14, R208-R211). -/
structure Group where
  firstCell : Nat := 0
  cells : Nat := 0
  spillCells : Nat := 0
  vatRing : Nat := 0
  spillRing : Nat := 0
  spillBase : Nat := 0
  vatEntries : Nat := 0
  spillEntries : Nat := 0
  /-- CABINET_INIT has filled the rings since the last VAT_GROUP_CONFIG (R210). -/
  filled : Bool := false
  /-- Free cells in the on-chip cache part of each ring, oldest first (R208). -/
  vatCache : List Nat := []
  spillCache : List Nat := []
  /-- First entry and number of entries of each ring in DRAM. -/
  vatHead : Nat := 0
  vatCount : Nat := 0
  spillHead : Nat := 0
  spillCount : Nat := 0
  deriving DecidableEq, Repr

/-- Live use of an owner (R170-R172, R181, R186, R189). -/
structure OwnerUse where
  /-- u(o): Vat cells. -/
  vat : Nat := 0
  /-- v(o): spill cells. -/
  spill : Nat := 0
  headroom : Nat := 0
  /-- avg(o) in 1/256 cells (R189). -/
  avg : Nat := 0
  xoff : Bool := false
  budget : Bool := false
  /-- RED, tail and push-out drops in the present interval (R186). -/
  drops : Nat := 0
  deriving DecidableEq, Repr

/-- A copy of a released output, queued for a subport or an exception ring (R215, R220). -/
structure Copy where
  handle : HandleWord
  start : Nat
  len : Nat
  /-- The options word gc of Table 5.11. -/
  opts : Word36 := 0
  cls : BitVec 3
  /-- The item's ingress port code and arrival. -/
  port : BitVec 6
  lossless : Bool
  /-- Sheet in which the copy was enqueued, and its RESIDUE_SHEETS (R218, R774). -/
  sheet : Sheet
  residue : Nat
  /-- Exception-ring fields of Table 12.13: REASON, MAP, RULE, PIPELINE, arrival sheet. -/
  reason : Nat := 6
  map : Nat := 0
  rule : Nat := 0xFFFF
  pipe : Nat := 0
  arrival : Sheet := 0
  /-- A spilled frame stands wholly in the prefetch buffer (R213). -/
  refilled : Bool := false
  /-- Order of enqueueing among all copies (R176). -/
  order : Nat := 0
  /-- The frame is evidence, and its charge owner (R177, R218). -/
  evidence : Bool := false
  deriving DecidableEq, Repr

/-- A time at the balls in PTP time: whole ns, and whether a part of one follows (R101, R102). -/
structure BallTime where
  ns : Int := 0
  part : Bool := false
  deriving DecidableEq, Repr

/-- A frame a transmit MAC is sending: its bytes with the FCS, for a data frame its queue and copy, and the time of R102 at
which it began. -/
structure TxFrame where
  bytes : List Byte
  copy : Option (Nat × Copy)
  began : BallTime := {}
  /-- Has the link been up since the frame began (R767)? -/
  counted : Bool := true
  deriving DecidableEq, Repr

/-- The egress scheduler of one subport (R221, R222). -/
structure Egress where
  /-- deficit(q), keyed by queue. -/
  deficit : Tab Nat := []
  /-- The weighted queue served last. -/
  last : Nat := 7
  /-- The frame in transmission: its bytes and, for a data frame, its queue and copy. -/
  sending : Option TxFrame := none
  deriving DecidableEq, Repr

/-- The Cabinet (03_vat_cabinet_and_queues.md). -/
structure Cabinet where
  /-- Handle indices, keyed by INDEX (R157). -/
  handles : Tab Handle := []
  groups : Tab Group := []
  /-- S(d), keyed by drawer (R169, R778). -/
  size : Tab Nat := []
  owners : Tab OwnerUse := []
  /-- Threads waiting at each drawer, oldest first (R193, R194). -/
  waiters : Tab (List Nat) := []
  /-- CABINET_SEED and the LFSRs of pipelines 0 to 4 (R191, R773). -/
  seed : BitVec 32 := 1
  lfsr : Tab (BitVec 32) := [(0, 1), (1, 64), (2, 4096), (3, 262144), (4, 16777216)]
  /-- Subports, bit 8 × port + subport, where PFC is asserted for owner 8p + c under R181 and R183, and under budget
  mode (R184, R186), keyed by owner. -/
  pfcOn : Tab (BitVec 32) := []
  pfcBudget : Tab (BitVec 32) := []
  /-- Cells in use by each owner in each drawer, less headroom, keyed drawer × 256 + owner (R170, R173). -/
  use : Tab Nat := []
  /-- Egress queues, keyed (8 × port + subport) × 8 + queue, oldest first. -/
  queues : Tab (List Copy) := []
  egress : Tab Egress := []
  /-- Copies and emits waiting at exception rings, keyed by ring, oldest first (R637). -/
  exrWait : Tab (List Copy) := []
  /-- Vat words whose stored code shows a correctable and an uncorrectable error, keyed cell × 32 + word; those of receive records, in
  the handle table, 2 ^ 40 + index × 4 + word (Table 11.1; log entry 138). -/
  vatWeak : List Nat := []
  vatBad : List Nat := []
  /-- Fill of the prefetch buffer in bytes (R213, R546). -/
  prefetch : Nat := 0
  /-- The order number of the next copy enqueued (R176). -/
  nextOrder : Nat := 0
  /-- The next allocation number (log entry 7). -/
  nextAlloc : Nat := 0
  deriving DecidableEq, Repr

end Sys2Proof.Machine
end

