-- ==== Sys2Proof/Machine/StateCop.lean ====
section
/-!
DEFINITION. State of the coprocessor units and of the companion port (08_coprocessors_and_companion_port.md).
-/
namespace Sys2Proof.Machine

/-- A region of an operation (Table 8.1), its window translated at issue (R427). -/
structure Region where
  /-- 0 data memory of `core`, 1 packet memory of `handle`, 2 DRAM (a device address), 3 none. -/
  kind : Nat := 3
  core : Nat := 0
  handle : HandleWord := 0xFFFFFF
  address : Nat := 0
  length : Nat := 0
  deriving DecidableEq, Repr

/-- What a notifying operation's event names (R441): the issuing item's domain, context and class, and DATA0. -/
structure Notify where
  domain : BitVec 16
  ctx : BitVec 14
  cls : BitVec 3
  data0 : BitVec 24
  deriving DecidableEq, Repr

/-- An operation of a unit, from issue to done (R432, R433, R444, R445). -/
structure UnitOp where
  /-- OP, or FUNC5 of a companion unit. -/
  op : Nat
  ins : List Region := []
  outs : List Region := []
  /-- Where the descriptor stands, for CHAIN_OUT and TAG. -/
  desc : Region := {}
  chainIn : List Byte := []
  sheet : List Byte := []
  iv : List Byte := []
  /-- The key read at issue (R707); none without encipherment. -/
  key : Option (List Byte) := none
  /-- The pin handle (R428), null for none. -/
  pin : HandleWord := 0xFFFFFF
  notify : Option Notify := none
  /-- ERROR_CODE of a check that failed at issue, 0 for none (Table 8.2). -/
  code : Nat := 0
  /-- One of its regions names a stale or null handle (R158). -/
  stale : Bool := false
  detached : Bool := false
  deriving DecidableEq, Repr

/-- A coprocessor or companion unit (Table 5.17): 0-7 WM, 8-9 SG, 10-13 ST, 14-21 CV. -/
structure Unit' where
  busy : Bool := false
  done : Bool := false
  error : Bool := false
  errorCode : BitVec 8 := 0
  /-- Identity of the last issuer; 4,095 before any issue. -/
  owner : BitVec 12 := 4095
  fenced : Bool := false
  /-- A busy unit named by COP_FENCE is fenced when done (Table 8.12). -/
  fencePending : Bool := false
  op : Option UnitOp := none
  /-- The operation is over, and its notifying completion waits for the dispatcher (R443). -/
  held : Bool := false
  /-- Issues of a companion unit so far, modulo 256 (R461), and the sheet of the last (R463). -/
  tag : BitVec 8 := 0
  issued : Sheet := 0
  deriving DecidableEq, Repr

/-- A permission window of the companion port (R464). -/
structure CompWindow where
  enable : Bool := false
  read : Bool := false
  write : Bool := false
  units : BitVec 8 := 0
  base : BitVec 64 := 0
  pages : BitVec 32 := 0
  deriving DecidableEq, Repr

/-- An event route of the companion port (R467). -/
structure CompRoute where
  enable : Bool := false
  cls : BitVec 3 := 0
  domain : BitVec 16 := 0
  ctx : BitVec 14 := 0
  deriving DecidableEq, Repr

/-- LINK of COP_STATE (Table 8.11, in its order). -/
inductive LinkState where
  | down | lock | deskew | param | up
  deriving DecidableEq, Repr

/-- A sequenced flit waiting for a credit or for room in the replay buffer (R453, R458): type, credit class, payload. -/
structure TxFlit where
  type : Nat
  cls : Nat
  payload : List Byte
  deriving DecidableEq, Repr

/-- A 128b/130b block of a lane: its sync header and its 16 bytes (R448). -/
structure LaneBlock where
  sync : BitVec 2
  bytes : List Byte
  deriving DecidableEq, Repr

/-- The Tabino link and port C (R448-R469). -/
structure Tabino where
  enabled : Bool := false
  laneMap : BitVec 8 := 0xE4
  rxPol : BitVec 8 := 0
  txPol : BitVec 8 := 0
  opTimeout : Nat := 16
  state : LinkState := .down
  blockLock : BitVec 4 := 0
  /-- Consecutive valid TRAIN flits received (R450). -/
  trains : Nat := 0
  /-- VERSION and ROLE of the partner's last TRAIN flit, and the credits it advertised. -/
  partner : List Byte := [0, 0]
  advertised : List (BitVec 16) := [0, 0, 0, 0, 0, 0]
  /-- Credits held for classes OP and CPL, and the last CR_TOTAL seen for each (R453). -/
  credits : Tab Nat := []
  lastTotal : Tab Nat := []
  /-- Credits returned per class received, modulo 256, those withheld, and the class the next flit carries. -/
  returned : Tab Nat := []
  withheld : Tab Nat := []
  rotation : Nat := 0
  /-- SEQ of the next sequenced flit, unacknowledged flits (SEQ, bytes), and flits waiting to be sent. -/
  txSeq : BitVec 12 := 0
  replay : List (BitVec 12 × TxFlit) := []
  waiting : List TxFlit := []
  /-- NAKs received since the last acknowledgement (R459). -/
  naks : Nat := 0
  /-- Next SEQ expected, whether any was received, and whether its NAK has been sent (R457). -/
  rxSeq : BitVec 12 := 0
  rxAny : Bool := false
  nakSent : Bool := false
  /-- Bytes of the frame being assembled; none between frames (R468). -/
  frame : Option (List Byte) := none
  /-- Flits of the frame, whose credits return when it is admitted or dropped (R455). -/
  frameFlits : Nat := 0
  /-- A discarded frame's flits are passed over up to its EOP (R469). -/
  passing : Bool := false
  /-- The last flit the device sent (the model's own field: what stands on the wire). -/
  sent : List Byte := []
  /-- Bytes sent that fill no block of every lane yet, the data blocks of a lane since its last marker, and the blocks that the last
  flit completed on each physical lane (R448). -/
  partBlock : List Byte := []
  blocks : Nat := 0
  wire : List (List LaneBlock) := []
  deriving DecidableEq, Repr

/-- Coprocessor units and the companion port. -/
structure Cop where
  units : Tab Unit' := []
  link : Tabino := {}
  windows : Tab CompWindow := []
  routes : Tab CompRoute := []
  deriving DecidableEq, Repr

end Sys2Proof.Machine
end

