-- ==== Sys2Proof/Machine/StateCore.lean ====
section
/-!
DEFINITION. State of the cores and their threads (05_core_instruction_set.md) and of the Dovetail unit
(06_threads_and_dovetail.md).
-/
namespace Sys2Proof.Machine

/-- Thread states (Table 6.1, in the order THREAD_STATUS numbers them). -/
inductive TState where
  | free | ready | run | stall | halt | frozen
  deriving DecidableEq, Repr

/-- The instructions of majors 24 and 25 (Tables 5.10 and 5.11). -/
inductive CabOp where
  | palloc | palloce | pfree | pfrees | pxfer | pbind | pref | pderef | emit | emitf | voidItem
  deriving DecidableEq, Repr

/-- An instruction that waits at a drawer: PALLOC, PALLOCE or a growing STP. -/
inductive DrawerOp where
  | alloc (op : CabOp) (gd ga : BitVec 5)
  | store (gt ga : BitVec 5) (w mode : BitVec 2) (md : BitVec 16)
  deriving DecidableEq, Repr

/-- What a stalled thread waits for (Table 6.4), with what is left of the stalled instruction. -/
inductive Stall where
  | none
  /-- DRAM access: LDD, or LDP from a spilled handle (`object`), of `n` bytes at an address fixed when it left the
  core (R285), with the value it writes back to ga, the DETAIL of a POISON fault (Table 6.5) and its word. -/
  | dram (gt ga : BitVec 5) (n : Nat) (wb : Option Word36) (object : Option Nat) (address detail : Nat) (word : Word36)
  /-- Cabinet answer. -/
  | cabinet (op : CabOp) (gd ga gb : BitVec 5) (word : Word36)
  /-- Drawer wait for `n` cells of a drawer. -/
  | drawer (d n : Nat) (op : DrawerOp) (word : Word36)
  /-- Lookup: LKUP with A = 0, until its operation ends. -/
  | lookup
  /-- Lookup: an instruction that names pending registers; it executes again (R305, R338). -/
  | lookupAgain (regs : List (BitVec 5))
  /-- Lookup: LKWAIT, until no lookup of the thread is outstanding. -/
  | lookupWait
  /-- Lookup: a fifth LKUP, with its operands, until fewer than four are outstanding (R306). -/
  | lookupFull (op : Nat) (gd ga gb : BitVec 5) (async : Bool) (table : BitVec 6)
  /-- Coprocessor: WAITCP on a busy unit. -/
  | unit (u : Nat) (gd : BitVec 5)
  /-- Coprocessor: an issue naming a handle with 15 pins, with its operands (R207). -/
  | pins (h cls op : Nat) (unit : BitVec 3) (ga gb : BitVec 5) (notify : Bool) (imm : BitVec 11)
  /-- Lock wait on a lock; the grant word goes to `gd`. -/
  | lock (k : Nat) (gd : BitVec 5) (word : Word36)
  /-- Channel wait of DCRES. -/
  | chanWrite (c : Nat) (gd : BitVec 5) (word : Word36)
  /-- Channel wait of DCTAKE on the claimed reservation number. -/
  | chanRead (c n : Nat) (gd gb : BitVec 5) (word : Word36)
  deriving DecidableEq, Repr

/-- What a thread does when it next runs, after an answer that reached it in STALL (Table 6.2, R329; log entry 118). -/
inductive AfterWait where
  | none
  /-- It halts with an exception of its instruction: code, word and DETAIL. -/
  | halt (code : Nat) (word : Word36) (detail : Nat)
  /-- It becomes FREE: its item is complete. -/
  | free
  deriving DecidableEq, Repr

/-- A multiply in flight: the values it lands in MH and ML (R309). -/
structure MulResult where
  mh : Word36
  ml : Word36
  deriving DecidableEq, Repr

/-- A store that has entered the store buffer and not drained (R294). -/
structure StoreEntry where
  /-- 0 packet memory, 1 flow context, 2 DRAM. -/
  space : Nat
  /-- Handle, context, or for DRAM the thread, whose window stands when the store leaves the core (R285). -/
  object : Nat
  address : Nat
  bytes : List Byte
  deriving DecidableEq, Repr

/-- A fault message (Table 6.5). -/
structure FaultMsg where
  thread : BitVec 12
  type : BitVec 2
  code : BitVec 6
  pc : BitVec 16
  instr : Word36
  sheet : Word36
  hdl : Bool
  rsm : Bool
  item : Bool
  prio : BitVec 3
  detail : BitVec 30
  dd : List Word36
  deriving DecidableEq, Repr


/-- One hardware thread. -/
structure Thread where
  st : TState := .free
  /-- State before freezing (Table 6.2). -/
  before : TState := .free
  g : Tab Word36 := []
  /-- The address at which a breakpoint has frozen the thread and it has not executed yet (R728; log entry 172). -/
  broke : Option (BitVec 16) := none
  pc : BitVec 16 := 0
  psnmask : Bool := false
  psn : Bool := false
  rsm : Bool := false
  hdl : Bool := false
  dl : Word36 := 0
  mh : Word36 := 0
  ml : Word36 := 0
  /-- Multiplies in flight, in landing order (R309). -/
  muls : List MulResult := []
  circ : Tab Word36 := []
  brev : Word36 := 0
  /-- HND0 to HND3, written only by R272, MTS and resets (R272, Table 6.6). -/
  hnd : Tab HandleWord := []
  epc : BitVec 16 := 0
  ecause : BitVec 6 := 0
  /-- Registers pending on asynchronous lookups, with the operation's number (R305). -/
  pending : Tab Nat := []
  stores : List StoreEntry := []
  /-- Key of the item held, or none. -/
  item : Option Nat := none
  /-- DD0 to DD3 of the item last delivered, and its flow context (R235, R282). -/
  dd : List Word36 := []
  ctx : Option (BitVec 14) := none
  /-- The entry's DEADLINE and START addresses, and the master priority of the map entry (R239-R241). -/
  deadlinePc : BitVec 16 := 0
  prio : BitVec 3 := 0
  stall : Stall := .none
  /-- What it does when it next runs. -/
  after : AfterWait := .none
  /-- It waits for its outstanding lookups before its next instruction, or after an L0 reset (R322, Table 6.6). -/
  awaiting : Bool := false
  /-- When the present wait began, in the order of all waits (R376, R379). -/
  waitStart : Nat := 0
  lastEx : BitVec 6 := 0
  /-- The fault recorded at the last halt (R347), and a message held for a full channel (R344). -/
  fault : Option FaultMsg := none
  heldMsg : Option (Nat × FaultMsg) := none
  /-- Running the deadline handler of a terminated item (R44), and the instructions it has executed. -/
  terminated : Bool := false
  /-- The exception a frozen thread takes at its release: 0 none, 1 TERMINATED, 2 DEADLINE (R723, R724). -/
  owed : Nat := 0
  handlerCount : Nat := 0
  /-- Registers that fail parity: r for g1 to g31, 32 + n for special register n (Table 11.1; log entry 138). -/
  badRegs : List Nat := []
  deriving DecidableEq, Repr

/-- A DRAM window of a cluster (R283-R285). -/
structure DramWindow where
  enable : Bool := false
  read : Bool := false
  write : Bool := false
  base : BitVec 64 := 0
  pages : BitVec 32 := 0
  deriving DecidableEq, Repr

/-- Supervisor designation of a cluster (R339-R341). -/
structure Supervisor where
  core : Nat := 0
  thread : Nat := 7
  entry : BitVec 16 := 0
  started : Bool := false
  deriving DecidableEq, Repr

/-- A core's slot table and current entry (R331, R332). -/
structure SlotTable where
  /-- Entry e in bits [4e + 3:4e]. -/
  entries : BitVec 64 := 0x7654321076543210
  cur : Nat := 15
  deriving DecidableEq, Repr

/-- The cores' memories and threads. -/
structure Cores where
  threads : Tab Thread := []
  slots : Tab SlotTable := []
  /-- Data memories, keyed core × 32,768 + address (R281), and words with an uncorrectable error. -/
  dmem : Tab Word36 := []
  dmemBad : List Nat := []
  /-- Words of data memories and of instruction stores with a correctable error (R579; log entry 138). -/
  dmemWeak : List Nat := []
  imemWeak : List Nat := []
  /-- Instruction stores and their shadows, keyed cluster × 65,536 + address (R242, R243), and words with an
  uncorrectable error (R581). -/
  imem : Tab Word36 := []
  imemShadow : Tab Word36 := []
  imemBad : List Nat := []
  /-- Words the firmware has rewritten after such an error (R581). -/
  imemRewritten : List Nat := []
  windows : Tab DramWindow := []
  supervisors : Tab Supervisor := []
  /-- The thread being stepped by DEBUG_STEP and the instructions it may still execute (R729). -/
  stepping : Option (Nat × Nat) := none
  /-- CORE_DEBUG.MUL_TRAP, one bit per cluster (R312, Table 14.13). -/
  mulTrap : BitVec 8 := 0
  deriving DecidableEq, Repr

/-- A Dovetail lock (R353-R358). -/
structure Lock where
  owner : BitVec 12 := 4095
  last : BitVec 12 := 4095
  /-- Cause of the broken lock, 0 when not broken (Table 6.9, R365). -/
  broken : BitVec 3 := 0
  /-- Waiting threads, oldest first. -/
  waiters : List Nat := []
  deriving DecidableEq, Repr

/-- State of a live channel slot. -/
inductive SlotState where
  | reserved | committed | voided
  deriving DecidableEq, Repr

/-- A live channel slot (R370-R372). -/
structure ChanSlot where
  state : SlotState
  writer : BitVec 12
  words : List Word36
  deriving DecidableEq, Repr

/-- A message channel (R369-R373). -/
structure Channel where
  /-- Configured slots; 0 for the reset size. -/
  size : Nat := 0
  /-- Reservations so far. -/
  reserved : Nat := 0
  /-- The lowest reservation number never claimed, and released claims below it. -/
  nextClaim : Nat := 0
  returned : List Nat := []
  slots : Tab ChanSlot := []
  /-- Waiting readers by claimed number, and waiting writers in order of arrival. -/
  readers : Tab Nat := []
  writers : List Nat := []
  deriving DecidableEq, Repr

/-- What an error in Dovetail memory hits (R584): a lock's word or its waiter queue, a channel's pointers or a slot of it, by slot
number. -/
inductive DovWord where
  | lock (k : Nat)
  | queue (k : Nat)
  | pointers (c : Nat)
  | slot (c i : Nat)
  deriving DecidableEq, Repr

/-- An all-wait detector (R377). -/
structure Detector where
  count : Nat := 0
  progress : Bool := false
  fired : Bool := false
  deriving DecidableEq, Repr

/-- The Dovetail unit (06_threads_and_dovetail.md). -/
structure Dovetail where
  locks : Tab Lock := []
  channels : Tab Channel := []
  /-- Detectors of clusters 0 to 7 and of the device (8). -/
  detectors : Tab Detector := []
  /-- Held detection record of each scope (R344), with its channel. -/
  heldDetect : Tab FaultMsg := []
  /-- Channel messages held, oldest first: thread number, or 1,000 + scope for a detection. -/
  heldOrder : List Nat := []
  /-- Number of waits begun so far. -/
  waitCount : Nat := 0
  /-- Words with a correctable and with an uncorrectable error (R579, R584; log entry 138). -/
  weak : List DovWord := []
  bad : List DovWord := []
  deriving DecidableEq, Repr

end Sys2Proof.Machine
end

