-- ==== Sys2Proof/Machine/StateDispatch.lean ====
section
/-!
DEFINITION. State of the dispatcher and the resequencer (04_dispatch_and_resequencing.md).
-/
namespace Sys2Proof.Machine

/-- One staged output of an item (R252, R299). -/
structure Staged where
  handle : HandleWord
  map : Nat
  start : Nat
  len : Nat
  opts : Word36
  deriving DecidableEq, Repr

/-- Where an item in flight stands (R244-R248). -/
inductive Place where
  /-- On thread `t`. -/
  | onThread (t : Nat)
  /-- On the affinity list of a core. -/
  | affinity (core : Nat)
  /-- On the global list of a priority. -/
  | global (prio : Nat)
  /-- Complete or voided, held by the resequencer until its release (R253). -/
  | ended
  deriving DecidableEq, Repr

/-- A work item in flight, from its sequence number to its release (R227, R231, R253). -/
structure Item where
  isEvent : Bool
  cls : BitVec 3
  /-- Ingress port code of DD0 (Table 4.1). -/
  port : BitVec 6
  subport : Nat := 0
  source : BitVec 9 := 0
  domain : BitVec 16
  seq : BitVec 16
  furnish : BitVec 8
  arrival : Sheet
  /-- Window W of the furnish stamped (R37). -/
  window : Nat
  /-- Deadline sheet, N + W, or N + W + 4 once resumed (R37, R47). -/
  deadline : Sheet
  ctx : BitVec 14
  evidence : Bool
  lossless : Bool
  colour : BitVec 2 := 0
  handle : HandleWord := 0xFFFFFF
  /-- Classifier pipeline, matched rule and action entry of a frame (R58, R220). -/
  pipe : Nat := 0
  rule : Nat := 0
  action : BitVec 128 := 0
  dd0 : Word36
  dd1 : Word36
  dd2 : Word36
  dd3 : Word36
  /-- ENTRY, PRIORITY, CLUSTERS and THREADS of its dispatch map entry (Table 4.3). -/
  map : BitVec 32 := 0
  place : Place
  staged : List Staged := []
  voided : Bool := false
  /-- The item became late and holds its domain (R45); cleared when it is no longer in flight (R50). -/
  late : Bool := false
  resumed : Bool := false
  /-- Its thread is delivered the item after its deadline (R777). -/
  lateWaiting : Bool := false
  /-- Its place in the order in which items entered the dispatcher (R228, R261). -/
  order : Nat := 0
  deriving DecidableEq, Repr

/-- A doorbell route (Table 4.11). -/
structure DoorbellRoute where
  enable : Bool := false
  cls : BitVec 3 := 0
  domain : BitVec 16 := 0
  ctx : BitVec 14 := 0
  deriving DecidableEq, Repr

/-- An event waiting at its unit or entering the dispatcher (R227, R230). -/
structure EventReq where
  source : BitVec 9
  cls : BitVec 3
  domain : BitVec 16
  ctx : BitVec 14
  data0 : BitVec 24
  data1 : BitVec 14
  /-- The unit that keeps this completion, and its error code (R443). -/
  unit : Option (Nat × Nat) := none
  deriving DecidableEq, Repr

/-- Dispatcher and resequencer (04_dispatch_and_resequencing.md). -/
structure Dispatch where
  /-- Items in flight, keyed domain × 65,536 + sequence number. -/
  items : Tab Item := []
  nextAssign : Tab (BitVec 16) := []
  nextRelease : Tab (BitVec 16) := []
  /-- Affinity core of each context, plus 1; 0 for none (R244). -/
  affinity : Tab Nat := []
  /-- Core in whose cache each context is resident, plus 1; 0 for the store only (R249). -/
  resident : Tab Nat := []
  /-- Resident contexts of each core, least recently used first (R251). -/
  lru : Tab (List Nat) := []
  /-- Bytes of the context store and of the resident copies, keyed context × 256 + offset. -/
  ctxStore : Tab Byte := []
  ctxCopy : Tab Byte := []
  /-- Contexts whose cache entry fails its ECC check (R260). -/
  ctxBad : List Nat := []
  /-- Words of 64 bits of contexts with a correctable and an uncorrectable error, keyed context × 32 + word (Table 11.1; log entry
  138). -/
  ctxWeak : List Nat := []
  ctxUe : List Nat := []
  /-- Poisoned 64-byte lines of contexts, keyed context × 4 + line (R588). -/
  ctxPoison : Tab Bool := []
  affLists : Tab (List Nat) := []
  globalLists : Tab (List Nat) := []
  routes : Tab DoorbellRoute := []
  /-- FENCED of DISPATCH_STATE (Table 4.7). -/
  fenced : BitVec 8 := 0
  /-- FROZEN of DISPATCH_STATE (Table 4.7): clusters frozen by a debug halt. -/
  frozen : BitVec 8 := 0
  /-- Completions waiting at their units for a place (R230), oldest first. -/
  eventWait : List EventReq := []
  /-- Items that have entered so far. -/
  nextOrder : Nat := 0
  deriving DecidableEq, Repr

end Sys2Proof.Machine
end

