-- ==== Sys2Proof/Machine/StateSheets.lean ====
section
/-!
DEFINITION. State of the sheet generator, the tick subscriptions and the furnish banks
(01_sheets_windows_and_furnish.md), with the banked content of every unit of Table 1.11.
-/
namespace Sys2Proof.Machine

/-- One tick subscription slot (R34, R35, Table 1.13). -/
structure TickSub where
  enable : Bool := false
  domain : BitVec 16 := 0
  divisor : BitVec 16 := 0
  hostEvent : Bool := false
  /-- TICK_SKIPPED of the subscription (R265). -/
  skipped : Nat := 0
  deriving DecidableEq, Repr

/-- A PTP time: 48 bits of seconds and 32 bits of nanoseconds (00_scope.md). -/
structure PtpTime where
  sec : BitVec 48 := 0
  ns : BitVec 32 := 0
  deriving DecidableEq, Repr

/-- A meter profile (Table 2.14). -/
structure MeterProfile where
  cir : BitVec 32 := 0
  pir : BitVec 32 := 0
  cbs : BitVec 32 := 0
  pbs : BitVec 32 := 0
  deriving DecidableEq, Repr

/-- An owner profile (Table 3.9). -/
structure OwnerProfile where
  drawer : BitVec 8
  lossless : Bool
  spillEn : Bool
  red : BitVec 8
  min : BitVec 32
  max : BitVec 32
  hr : BitVec 32
  spillMax : BitVec 32
  xoff : BitVec 32
  xon : BitVec 32
  dropBudget : BitVec 16
  budgetSheets : BitVec 16
  deriving DecidableEq, Repr

/-- A RED profile (Table 3.4); the defaults are its reset values. -/
structure RedProfile where
  gMin : BitVec 32 := 4096
  gMax : BitVec 32 := 0xFFFFFFFF
  gMaxp : BitVec 16 := 0
  yMaxp : BitVec 16 := 0
  yMin : BitVec 32 := 4096
  yMax : BitVec 32 := 0xFFFFFFFF
  rMin : BitVec 32 := 4096
  rMax : BitVec 32 := 0xFFFFFFFF
  rMaxp : BitVec 16 := 0
  weight : BitVec 8 := 0
  deriving DecidableEq, Repr

/-- A subport's scheduling profile (Table 3.10); the defaults are its reset values. -/
structure SchedProfile where
  strict : BitVec 8 := 0xC0
  mirrorQueue : BitVec 8 := 0
  residue : BitVec 16 := 512
  /-- WEIGHT of queue q in byte q. -/
  weight : BitVec 64 := 0x0101010101010101
  deriving DecidableEq, Repr

/-- Watermark stream parameters (Table 8.3). -/
structure StreamParam where
  flags : BitVec 8 := 0
  key : BitVec 8 := 0
  ivPrefix : BitVec 32 := 0
  deriving DecidableEq, Repr

/-- One bank of the furnish-banked content of every unit (Table 1.11). An unlisted entry reads as the reset value. -/
structure Bank where
  /-- Units 0x10-0x14: action entries (Table 2.12), keyed pipeline × 8,192 + action. -/
  actions : Tab (BitVec 128) := []
  /-- Units 0x10-0x14: meter profiles, keyed pipeline × 1,024 + meter. -/
  meters : Tab MeterProfile := []
  /-- Unit 0x20: owner profiles, keyed by owner. -/
  owners : Tab OwnerProfile := []
  /-- Unit 0x20: RED profiles. -/
  reds : Tab RedProfile := []
  /-- Unit 0x20: scheduling profiles, keyed 8 × port + subport. -/
  scheds : Tab SchedProfile := []
  /-- Unit 0x30: dispatch map entries (Table 4.3). -/
  dmap : Tab (BitVec 32) := []
  /-- Units 0x40-0x47: entry table entries (Table 4.4), keyed cluster × 256 + entry. -/
  entries : Tab (BitVec 32) := []
  /-- Unit 0x50: Watermark stream parameters. -/
  streams : Tab StreamParam := []
  /-- Unit 0x60: egress map entries (Table 3.6). -/
  egress : Tab (BitVec 64) := []
  /-- Unit 0x70: sheet period in units of 128 ns (R17, R18). -/
  period : BitVec 9 := 16
  /-- Unit 0x70: window W (R18). -/
  window : BitVec 4 := 1
  deriving DecidableEq, Repr

/-- The next bank of every unit, open between FURNISH_BEGIN and its commit or discard (R60-R64). -/
structure NextBank where
  bank : Bank
  /-- Bit i: unit i of Table 1.11's order is complete (R60, R61). -/
  complete : BitVec 18 := 0x3FFFF
  /-- Entries loaded into unit i since the bank was opened (R61, R62, R223, R266). -/
  written : Tab Nat := []
  deriving DecidableEq, Repr

/-- An accepted, not yet effective commit (R66-R69). -/
structure PendingCommit where
  sheet : Sheet
  /-- The units asked at the tick opening S − 1, and whether that tick's asking has happened (R67). -/
  asked : Option (BitVec 18) := none
  /-- The asked units that did not confirm, with the reason of Table 1.12. -/
  failed : List (Nat × Nat) := []
  deriving DecidableEq, Repr

/-- The sheet generator and the furnish registers (Tables 1.1 to 1.5). -/
structure Sheets where
  sheet : Sheet := 0
  latchHi : BitVec 16 := 0
  latchFurnish : BitVec 8 := 0
  running : Bool := false
  alignEn : Bool := false
  /-- A SHEET_ALIGN waiting for the next PTP second boundary (R74). -/
  alignReq : Option Bool := none
  /-- A SHEET_START MODE 1 waiting for the next PTP second (Table 1.13). -/
  startReq : Bool := false
  aligned : Bool := false
  /-- R25 applies: a PTP step happened while alignment was enabled. -/
  realign : Bool := false
  /-- PTP time of the current sheet's tick (R23). -/
  tickTime : PtpTime := {}
  subs : Tab TickSub := []
  /-- What has been raised once in the present sheet or span (R762): source × 2^32 + the happening's own number. -/
  firstSeen : List Nat := []
  /-- Late counters (R76), keyed 8 × port code + class, then 4 × that + 0 drops, 1 resumed, 2 lost, 3 ceilings. -/
  late : Tab Nat := []
  /-- What the running sheet has added to the late counters; it joins them at the tick that closes the sheet (R76, R151). -/
  lateAcc : Tab Nat := []
  /-- Counters of measured time: the sheet whose open amount each has, plus 1, keyed as the counters are (R151; log entry 94). -/
  cntDrawn : Tab Nat := []
  furnish : BitVec 8 := 0
  /-- The old furnish not yet retired (R65, R72), with its bank. -/
  old : Option (BitVec 8 × Bank) := none
  cur : Bank := {}
  next : Option NextBank := none
  pending : Option PendingCommit := none
  /-- XOFF asserted at a ceiling (R51, R94), keyed (8 × port + subport) × 8 + class, with the first whole sheet from
  which a release may count. -/
  ceilingXoff : Tab Sheet := []
  /-- Keys of `ceilingXoff` whose first whole sheet without a frozen domain the last tick closed (R51). -/
  xonDue : List Nat := []
  /-- The last tick's actions 6 and 7 wait for its actions 2 to 5 (R32, Table 1.6). -/
  tickOwed : Bool := false
  deriving DecidableEq, Repr

end Sys2Proof.Machine
end

