-- ==== Sys2Proof/Machine/StateEvidence.lean ====
section
/-!
DEFINITION. State of the evidence path and the store engine (09_evidence_path.md).
-/
namespace Sys2Proof.Machine

/-- The store engine's entry of an evidence stream, keyed by its context (R473, R475, R512, R513, R515, R518). -/
structure Stream where
  isOpen : Bool := true
  streamId : BitVec 32 := 0
  slot : Nat := 0
  keyId : BitVec 32 := 0
  wmStream : Nat := 0
  /-- REAM and hash of the stream's previous seal, its KEY_ID when this device made it, and whether the next seal is
  the FIRST. -/
  ream : BitVec 32 := 0
  prevSeal : List Byte := []
  prevKey : Option (BitVec 32) := none
  first : Bool := true
  /-- Last durable REAM and the hash of the last durable seal. -/
  durableReam : BitVec 32 := 0
  sealHash : List Byte := []
  /-- Sheet of the stream's last loss. -/
  lastLoss : Sheet := 0
  deriving DecidableEq, Repr

/-- A staging lane (R492-R495, Table 9.5). Positions are byte counts since the lane's start. -/
structure Lane where
  configured : Bool := false
  logShift : Nat := 20
  sealShift : Nat := 4
  logBase : Nat := 0
  sealBase : Nat := 0
  /-- WRITE_POS and SEAL_WRITE as read at the last tick, extended beyond 2^32. -/
  writePos : Nat := 0
  sealWrite : Nat := 0
  durable : Nat := 0
  /-- Seal slots put in line for taking, and taken. -/
  sealLined : Nat := 0
  sealTaken : Nat := 0
  /-- End of the last stripe formed. -/
  stripeEnd : Nat := 0
  /-- WRITE_POS values read and not yet covered by stripes, each with the sheet of its first reading (R493). -/
  ages : List (Nat × Sheet) := []
  deriving DecidableEq, Repr

/-- A seal in line: its lane, or its context and body when the firmware built it (R510, R520), and every lane's
WRITE_POS at the tick it was taken (R514). -/
structure SealWait where
  lane : Nat := 0
  built : Option (Nat × List Byte) := none
  targets : Tab Nat := []
  deriving DecidableEq, Repr

/-- What an NVMe write carries. -/
inductive StoreItem where
  | shard (g j : Nat)
  | header (g i : Nat)
  /-- A seal log block, with the SEAL_SEQ of its newest record. -/
  | seal (seq : Nat)
  | super
  deriving DecidableEq, Repr

/-- An NVMe write in flight (Table 9.9): guard CRC and application tag are set for members formatted with PI. -/
structure StoreWrite where
  member : Nat
  block : Nat
  data : List Byte
  item : StoreItem
  fua : Bool
  pi : Option (BitVec 16 × BitVec 16 × BitVec 32)
  deriving DecidableEq, Repr

/-- A stripe written and not yet taken into DURABLE_POS (R495). -/
structure Stripe where
  lane : Nat
  start : Nat
  valid : Nat
  deriving DecidableEq, Repr

/-- A seal written and not yet durable (R515). -/
structure SealRecord where
  seq : Nat
  /-- None for a power-loss marker. -/
  ctx : Option Nat
  ream : BitVec 32
  hash : List Byte
  deriving DecidableEq, Repr

/-- A controller behind port S (0x0803). -/
structure StoreController where
  bus : Nat := 0
  devfn : Nat := 0
  queues : Nat := 0
  depth : Nat := 16
  ioTimeout : Nat := 100
  bar0 : BitVec 64 := 0
  readyTimeout : Nat := 0
  deriving DecidableEq, Repr

/-- A member of the store set (0x0805, R505). -/
structure StoreMember where
  ctrl : Nat := 0
  flags : BitVec 8 := 0
  nsid : BitVec 32 := 0
  blocks : Nat := 0
  failed : Bool := false
  deriving DecidableEq, Repr

/-- The store set (Tables 9.6 and 9.7). -/
structure StoreSet where
  n : Nat
  k : Nat
  m : Nat
  setId : List Byte
  rows : Nat
  sealRows : Nat
  superSeq : Nat
  created : PtpTime
  deriving DecidableEq, Repr

/-- A commit route (0x0813). -/
structure CommitRoute where
  enable : Bool := false
  cls : BitVec 3 := 0
  domain : BitVec 16 := 0
  ctx : BitVec 14 := 0
  deriving DecidableEq, Repr

/-- STATE of EVIDENCE_STATE (Table 9.16, in its order). -/
inductive EvState where
  | stopped | running | powerFail | sealed
  deriving DecidableEq, Repr

/-- Where the power-fail sequence stands (Table 9.14): waiting for items in flight (step 2), flushing and sealing (steps 3
and 4), writing the marker (step 5), waiting for NVMe Flush (step 6), writing the confirmed marker (step 6a), ended. -/
inductive PfPhase where
  | idle | items | flushing | marker | flush | confirm
  deriving DecidableEq, Repr

/-- Evidence path and store. -/
structure Evidence where
  streams : Tab Stream := []
  state : EvState := .stopped
  budget : Nat := 64
  stripeAge : Nat := 256
  commitStep : Nat := 512
  flushAllow : Nat := 2500
  classes : BitVec 8 := 0xC0
  stMask : BitVec 8 := 0x0F
  sgMask : BitVec 8 := 0x03
  powerSlot : Nat := 0
  powerKeyId : BitVec 32 := 0
  ctrlBase : Nat := 0
  tickBase : Nat := 0
  tableBase : Nat := 0
  /-- EVIDENCE_CONFIG has stated the regions above. -/
  configured : Bool := false
  routes : Tab CommitRoute := []
  lanes : Tab Lane := []
  /-- First sheet of the current PTP second (SECOND_LO), with the second. -/
  secondSheet : Sheet := 0
  second : BitVec 48 := 0
  xoff : Bool := false
  /-- E at the last tick. -/
  exposure : Nat := 0
  /-- D, the D of the last report, and the latched D_HI (R516, R517, Table 9.17). -/
  durable : Sheet := 0
  lastReport : Sheet := 0
  latchHi : BitVec 16 := 0
  /-- Ticks whose recorded positions have not all become durable: sheet, W and positions, oldest first (R516). -/
  marks : List (Sheet × Nat × Tab Nat) := []
  seals : List SealWait := []
  /-- Seal bodies built by the firmware since the last tick. -/
  built : List (Nat × List Byte) := []
  linkEnable : Bool := false
  linkSpeed : Nat := 0
  linkWidth : Nat := 0
  memBase : BitVec 64 := 0
  memSize : BitVec 64 := 0
  controllers : Tab StoreController := []
  members : Tab StoreMember := []
  set : Option StoreSet := none
  nextStripe : Nat := 0
  releasedStripe : Nat := 0
  /-- The seal log block being filled, its records, and the next SEAL_SEQ. -/
  sealBlock : Nat := 0
  sealRecords : List (List Byte) := []
  sealSeq : Nat := 0
  releasedSeal : Nat := 0
  /-- The store has passed seven eighths, and has stopped (R501): bit 0 stripes, bit 1 seals. -/
  high : BitVec 2 := 0
  stop : BitVec 2 := 0
  /-- Turns of the Stripe and signature units (R494, R513). -/
  stTurn : Nat := 0
  sgTurn : Nat := 0
  stripes : Tab Stripe := []
  writes : List StoreWrite := []
  sealsOut : List SealRecord := []
  /-- Spans of sheets under a D2 or D3 attach, the sheet of one that holds, and the sheets of furnish commits, for the seal flags
  (R511, R716). -/
  d2Spans : List (Sheet × Sheet) := []
  d2From : Option Sheet := none
  furnishSheets : List Sheet := []
  /-- The power-fail sequence: phase, sheet and PTP time of its beginning, seals written, the marker, and members whose
  Flush has completed (R519-R521). -/
  pf : PfPhase := .idle
  pfSheet : Sheet := 0
  pfTime : PtpTime := {}
  pfSeals : Nat := 0
  marker : List Byte := []
  markerSeq : Nat := 0
  flushed : List Nat := []
  /-- A Flush of step 6 has ended in error (R521). -/
  flushBad : Bool := false
  /-- Contexts whose ream opens with the next tick, whose PTP_START stands for it (R507, R520). -/
  reamStarts : List Nat := []
  /-- Blocks of the members as the device's writes left them, keyed member × 2^64 + block (log entry 29). -/
  disk : Tab (List Byte) := []
  /-- The configuration dwords beyond port S that STORE_CFG_ACCESS has written, keyed by bus, device, function and dword (R585). -/
  cfg : Tab (BitVec 32) := []
  /-- The ECRC error status of port S's own AER capability (R585; log entry 145). -/
  aerEcrc : Bool := false
  deriving DecidableEq, Repr

end Sys2Proof.Machine
end

