-- ==== Sys2Proof/Machine/StateHost.lean ====
section
/-!
DEFINITION. State of port H: mailboxes, completion and event queues, exception and injection rings, MSI-X, the
configuration space and host memory (12_host_port_and_mailboxes.md).
-/
namespace Sys2Proof.Machine

/-- A completion, from the end of its command until it is written (Table 12.8, R626). -/
structure Completion where
  mbx : Nat
  status : Byte
  detail : BitVec 32
  resultLen : Nat
  deriving DecidableEq, Repr

/-- A ring of 16-byte entries in host memory: the completion queue or the event queue (R625, R766). -/
structure HostQueue where
  enabled : Bool := false
  address : BitVec 64 := 0
  entries : Nat := 0
  head : Nat := 0
  tail : Nat := 0
  phase : Bool := true
  deriving DecidableEq, Repr

/-- One pending entry of merged raises (R632). -/
structure MergedEvent where
  count : Nat
  sheetLo : BitVec 32
  data : BitVec 64
  trunc : Bool
  deriving DecidableEq, Repr

/-- An exception ring (R634-R638, Table 12.16); the counts are those of RING_STATUS. -/
structure ExrRing where
  enabled : Bool := false
  slotShift : Nat := 0
  entries : Nat := 0
  address : BitVec 64 := 0
  tailWb : BitVec 64 := 0
  residue : Nat := 512
  head : Nat := 0
  tail : Nat := 0
  frames : Nat := 0
  bytes : Nat := 0
  drops : Nat := 0
  deriving DecidableEq, Repr

/-- An injection ring (R639-R644, Table 12.16). -/
structure InjRing where
  enabled : Bool := false
  cls : Nat := 0
  entries : Nat := 0
  address : BitVec 64 := 0
  headWb : BitVec 64 := 0
  head : Nat := 0
  tail : Nat := 0
  frames : Nat := 0
  bytes : Nat := 0
  bad : Nat := 0
  /-- Frames whose INJ_HEAD has not yet been written to HEAD_WB (R642). -/
  sinceWb : Nat := 0
  deriving DecidableEq, Repr

/-- The vector and HOLDOFF of an interrupt cause (Table 12.16, MSIX_MAP). -/
structure CauseMap where
  vector : BitVec 8 := 0
  holdoff : BitVec 16 := 0
  deriving DecidableEq, Repr

/-- Port H (12_host_port_and_mailboxes.md). -/
structure HostPort where
  /-- DEVICE_STATUS.FW_READY (Table 12.4). -/
  fwReady : Bool := false
  /-- FW_VERSION (Table 12.3). -/
  fwVersion : BitVec 32 := 0
  /-- DEVICE_STATUS.LAST_RESET (Table 12.4). -/
  lastReset : BitVec 3 := 4
  /-- ACCESS_ERROR_INFO (Table 12.3). -/
  accessKind : BitVec 3 := 0
  accessOffset : BitVec 25 := 0
  /-- Bytes of the 16 mailboxes, keyed 256 × mailbox + offset (Table 12.7). -/
  mbx : Tab Byte := []
  busy : BitVec 16 := 0
  done : BitVec 16 := 0
  status : Tab Byte := []
  tag : Tab (BitVec 16) := []
  /-- Accepted commands that have not started, in acceptance order (R615, R622). -/
  accepted : List Nat := []
  /-- Mailboxes whose command was running at a host-interface reset: it reports through MBX_STATUS_n alone (R650). -/
  muted : List Nat := []
  /-- Completions held at a full completion queue, in completion order (R626). -/
  held : List Completion := []
  cq : HostQueue := {}
  eq : HostQueue := {}
  merged : Tab MergedEvent := []
  /-- Bit n: source n is enabled (R631). -/
  eventMask : BitVec 512 := BitVec.allOnes 512
  exr : Tab ExrRing := []
  inj : Tab InjRing := []
  /-- The injection ring pipeline 4 took a frame from last (R644). -/
  injLast : Nat := 15
  causes : Tab CauseMap := []
  /-- Bit c: cause c has written entries that no message has covered (R646). -/
  uncovered : BitVec 34 := 0
  /-- MSI-X table, keyed by dword: entry v occupies dwords 4v to 4v + 3 (Table 12.2). -/
  msixTable : Tab (BitVec 32) := []
  /-- MSI-X pending bit array (R648). -/
  msixPba : BitVec 64 := 0
  msixEnable : Bool := false
  msixFmask : Bool := false
  busMaster : Bool := false
  d3hot : Bool := false
  ecrcGen : Bool := false
  ecrcCheck : Bool := false
  /-- The ECRC error status of port H's AER capability (R585). -/
  aerEcrc : Bool := false
  /-- BAR0 as the host set it (Table 12.1). -/
  bar0 : BitVec 64 := 0
  /-- Max_Read_Request_Size as the host set it (Table 12.1; reset value PRESUMED, log entry 50). -/
  readRequest : BitVec 3 := 2
  /-- What the last register read returned to the host (log entry 9: the model's own field). -/
  readData : BitVec 32 := 0
  /-- Host memory: the partner of the device's DMA (log entry 6). -/
  mem : List Host.Cell := []
  /-- Blocks of host memory of a TLP's size whose last DMA write carried the EP bit (R592; log entry 142). -/
  ep : Tab Bool := []
  /-- The firmware region (R653). -/
  fwRegion : Option (BitVec 64 × BitVec 64) := none
  /-- Registers of the management processor and its device control space (R652). -/
  mpRegs : Tab Word36 := []
  mpCtl : Tab (BitVec 32) := []
  deriving DecidableEq, Repr

end Sys2Proof.Machine
end

