-- ==== Sys2Proof/Machine/StateLookup.lean ====
section
/-!
DEFINITION. State of the lookup engine (07_lookup_engine.md).
-/
namespace Sys2Proof.Machine

/-- A stored exact-match or flow entry that is VALID (Table 7.6). -/
structure LkEntry where
  key : List Word36
  r0 : Word36
  r1 : Word36
  static : Bool := false
  learned : Bool := false
  pinned : Bool := false
  table : BitVec 4 := 0
  age : BitVec 16 := 0
  deriving DecidableEq, Repr

/-- An exact-match table 0 to 15, or the flow table 16 (0x0601, 0x0603, 0x0604). -/
structure LkTable where
  configured : Bool := false
  enabled : Bool := false
  keyWords : Nat := 1
  programWrite : Bool := false
  learn : Bool := false
  evictOldest : Bool := false
  /-- BASE_BUCKET; for the flow table BASE in DRAM. -/
  base : Nat := 0
  buckets : Nat := 0
  seed0 : BitVec 32 := 0
  seed1 : BitVec 32 := 0
  lfsr : BitVec 32 := 1
  moveLimit : Nat := 4
  ageLimit : Nat := 8941
  moveWindow : Nat := 488281
  hold : Nat := 4882813
  extBase : Nat := 0
  extContexts : Nat := 0
  deriving DecidableEq, Repr

/-- A flap record (R398-R401): its entry, the sheet at which the pin ends once pinned, and whether it fails parity (R416). -/
structure FlapRecord where
  table : Nat
  key : List Word36
  start : Sheet
  count : Nat
  pinEnd : Option Sheet := none
  bad : Bool := false
  deriving DecidableEq, Repr

/-- A route of a trie: the prefix with its bits left-aligned in the address, and its result index. -/
structure Route where
  prefixBits : Nat
  plen : Nat
  index : Nat
  deriving DecidableEq, Repr

/-- A node or extension block of a trie in node memory (Tables 7.8 to 7.10): the address bits consumed above it, 0 for the root, their
value, and its first entry. What its entries hold follows from the trie's routes and nodes (`trieWord`, `extBytes`). -/
structure TrieNode where
  depth : Nat
  path : Nat
  base : Nat
  deriving DecidableEq, Repr

/-- An IPv4 or IPv6 trie 32 to 43: the routes of the firmware's shadow, and its nodes in node memory. -/
structure Trie where
  enabled : Bool := false
  routes : List Route := []
  nodes : List TrieNode := []
  deriving DecidableEq, Repr

/-- An entry the firmware is to rewrite from its shadow (R418, R421); of a trie, its place and index (Table 7.4). -/
inductive Rewrite where
  | entry (table index : Nat) (e : LkEntry)
  | trie (table place index : Nat)
  deriving DecidableEq, Repr

/-- An outstanding LKUP (R304-R307, R384): what it read at issue, and where its answers go. -/
structure LkOp where
  thread : Nat
  table : Nat
  /-- 0 lookup, 1 insert, 2 delete. -/
  op : Nat
  key : List Word36
  r0 : Word36 := 0
  r1 : Word36 := 0
  /-- ga: the data-memory address of the key. -/
  source : Nat
  result : Nat
  gd : BitVec 5
  async : Bool
  /-- The issuing thread has been reset: the status is discarded (Table 6.6, R423). -/
  discard : Bool := false
  /-- The item that issued it has ended, and its thread has been given another (R240). -/
  old : Bool := false
  /-- Its words fail parity in a learning queue (R416, Table 7.1). -/
  bad : Bool := false
  deriving DecidableEq, Repr

/-- The lookup engine. -/
structure Lookup where
  tables : Tab LkTable := []
  /-- Exact-match entries, keyed bucket × 4 + way of the shared memory, and those with a parity error. -/
  entries : Tab LkEntry := []
  bad : List Nat := []
  /-- Cached flow buckets (256 bytes each), those whose frame has a parity error, and the buckets of each set, least
  recently used first (R403). -/
  frames : Tab (List Byte) := []
  frameBad : List Nat := []
  lru : Tab (List Nat) := []
  flaps : List FlapRecord := []
  tries : Tab Trie := []
  /-- Route results by index. -/
  results : Tab (Word36 × Word36) := []
  /-- Blocks of node memory (first entry, entries) and result indices replaced and not yet returned to free memory (R413). -/
  staleNodes : List (Nat × Nat) := []
  staleResults : List Nat := []
  /-- 64-bit words of node memory, two entries each, and results that fail parity (R416, R421). -/
  nodeBad : List Nat := []
  resultBad : List Nat := []
  rewrites : List Rewrite := []
  /-- Notices queued, oldest first, of at most 4,096 (Table 7.11). -/
  notices : List (List Byte) := []
  /-- Places in the notice queue whose record fails parity (R416). -/
  noticeBad : List Nat := []
  ops : Tab LkOp := []
  nextOp : Nat := 0
  deriving DecidableEq, Repr

end Sys2Proof.Machine
end

