-- ==== Sys2Proof/Machine/StatePorts.lean ====
section
/-!
DEFINITION. State of the line ports, the PTP clock and the parser-classifier pipelines
(02_line_ports_and_classifier.md).
-/
namespace Sys2Proof.Machine

/-- PFC settings: enables, CLASS_MAP, quanta and refresh (Table 2.18). -/
structure PfcConf where
  enable : BitVec 8
  classMap : BitVec 24
  quanta : BitVec 16
  refresh : BitVec 16
  deriving DecidableEq, Repr

/-- A line port (Table 2.18). -/
structure Port where
  configured : Bool := false
  enabled : Bool := false
  mode : BitVec 8 := 0
  fecNone : Bool := false
  interface : BitVec 8 := 0
  rxMap : BitVec 32 := 0
  txMap : BitVec 32 := 0
  rxPol : BitVec 8 := 0
  txPol : BitVec 8 := 0
  /-- MAX_FRAME (R87). -/
  maxFrame : Nat := 1522
  presets : BitVec 64 := 0
  /-- Subport MAC addresses, 48 bytes. -/
  macs : List Byte := []
  pfcEnable : BitVec 8 := 0
  /-- CLASS_MAP: class c in [3c + 2:3c]; the reset map is the identity. -/
  classMap : BitVec 24 := 0xFAC688
  pfcQuanta : BitVec 16 := 0xFFFF
  pfcRefresh : BitVec 16 := 0x7FFF
  /-- Signal-detect and lock bitmaps by physical lane. -/
  signal : BitVec 8 := 0
  lock : BitVec 8 := 0
  /-- Physical lanes declared lost and not regained (R600). -/
  lost : BitVec 8 := 0
  /-- Physical receive and transmit lanes that are powered (R84). -/
  rxPower : BitVec 8 := 0
  txPower : BitVec 8 := 0
  /-- Transmit timestamp FIFO, oldest first (R107, R108, Table 2.3). -/
  txStamps : List (List Byte) := []
  /-- FEC codewords left uncorrected in the running sheet (R153). -/
  fecSeen : Bool := false
  deriving DecidableEq, Repr

/-- A subport: 8 × port + subport. -/
structure Subport where
  linkUp : Bool := false
  trained : Bool := false
  /-- Priorities paused by the partner, with their quanta (R90, R91). -/
  paused : Tab (BitVec 16) := []
  /-- Priorities whose XOFF frames are being sent (R92, R768), and a refresh due at the next boundary. -/
  xoffSent : BitVec 8 := 0
  refreshDue : Bool := false
  /-- The PFC settings in force until the next frame boundary, when a PFC_CONFIG has come since the last (Table 2.16). -/
  pfcOld : Option PfcConf := none
  ingressDelay : BitVec 32 := 0
  egressDelay : BitVec 32 := 0
  deriving DecidableEq, Repr

/-- The PTP clock and the PPS and 10 MHz pins (R95-R99, R112, R113). -/
structure PtpClock where
  time : PtpTime := {}
  /-- Fractional nanoseconds, in units of 2^-32 ns (R95). -/
  frac : BitVec 32 := 0
  /-- A of PTP_FREQ, 2^-16 ppb (R96). -/
  adj : BitVec 64 := 0
  /-- Remainder of the rate of R96, in units of 2^-32 ns × 2^-16 × 10^-9. -/
  rem : Nat := 0
  /-- The 10 MHz input is selected (R97). -/
  ref10 : Bool := false
  /-- The 10 MHz input is present; log entry 109 for its reset value. -/
  refIn : Bool := true
  /-- The PTP PLL is locked to the selected reference. -/
  locked : Bool := true
  ppsIn : PtpTime := {}
  outEnable : Bool := false
  inEnable : Bool := false
  ppsWidth : BitVec 16 := 100
  /-- Level of PPS_OUT: the weak pull-up holds it high until it is enabled (R112, Pin states). -/
  ppsOut : Bool := true
  deriving DecidableEq, Repr

/-- A classifier rule: staging copy and active copy, words 0x00 to 0x48 as 19 dwords (Table 2.10). -/
structure Rule where
  staging : Tab (BitVec 32) := []
  active : Tab (BitVec 32) := []
  valid : Bool := false
  /-- The entry fails its parity check (R135). -/
  bad : Bool := false
  deriving DecidableEq, Repr

/-- A range comparator (Table 2.11). -/
structure Comparator where
  staging : BitVec 32 := 0
  active : BitVec 32 := 0
  field : BitVec 5 := 0
  stagingField : BitVec 5 := 0
  valid : Bool := false
  bad : Bool := false
  deriving DecidableEq, Repr

/-- A parse node, transition or key extractor entry, as its command's bytes, and its parity (Tables 2.5, 2.6, 2.8). -/
structure ParseEntry where
  bytes : List Byte := []
  bad : Bool := false
  deriving DecidableEq, Repr

/-- A two-rate meter's buckets in 1/256 byte (R147, R772). -/
structure Meter where
  full : Bool := true
  pFull : Bool := true
  c : Nat := 0
  p : Nat := 0
  deriving DecidableEq, Repr

/-- A classifier pipeline (R142, Table 2.19). -/
structure Pipe where
  layerLimit : Nat := 12
  depth : Nat := 128
  limitRate : Nat := 50000
  limitBurst : Nat := 64
  missRing : Nat := 0
  failRing : Nat := 1
  /-- Level of the control-path bucket in 2^-16 frame (R142); none: full since reset. -/
  level : Nat := 64 * 65536
  nodes : Tab ParseEntry := []
  transitions : Tab ParseEntry := []
  extractors : Tab ParseEntry := []
  rules : Tab Rule := []
  comparators : Tab Comparator := []
  meters : Tab Meter := []
  deriving DecidableEq, Repr

/-- Ports, time and pipelines. -/
structure Line where
  ports : Tab Port := []
  subports : Tab Subport := []
  ptp : PtpClock := {}
  pipes : Tab Pipe := []
  deriving DecidableEq, Repr

end Sys2Proof.Machine
end

