-- ==== Sys2Proof/Machine/StatePower.lean ====
section
/-!
DEFINITION. State of resets, boot, power states, pins and the electrical monitors
(13_reset_boot_and_power_states.md, 15_package_pins_and_electrical.md).
-/
namespace Sys2Proof.Machine

/-- A GPIO (0x0A08): MODE 0 input, 1 push-pull, 2 open-drain output; PULL 0 none, 1 up, 2 down. -/
structure Gpio where
  mode : Nat := 0
  level : Bool := false
  pull : Nat := 1
  deriving DecidableEq, Repr

/-- STAGE of BOOT_STATUS (Table 13.10). -/
inductive BootStage where
  | rom | loading | checking | starting | running | waiting
  deriving DecidableEq, Repr

/-- DEVICE_STATUS.POWER (Table 12.4, in its order). -/
inductive PowerState where
  | a0 | a1 | s1a | s1b | s2
  deriving DecidableEq, Repr

/-- What happens at the end of step 6a when a reset sealed first (R666). -/
inductive AfterSeal where
  | none
  /-- DATAPATH_RESET of a mailbox. -/
  | datapath (m : Nat)
  /-- CHIP_RESET of a mailbox; and once it has completed, until the completion is written (R669). -/
  | chip (m : Nat)
  | written (m : Nat)
  deriving DecidableEq, Repr

/-- What POWER_TOLERANCE and POWER_POLICY set (R683-R685). -/
structure PowerPolicy where
  tolerance : List Nat := [0, 0, 0, 0, 0, 0, 0]
  allow : BitVec 3 := 7
  idleSheets : Nat := 4096
  wakeThreads : Nat := 64
  a1Idle : Nat := 2
  deriving DecidableEq, Repr

/-- Resets, boot, power, pins and monitors. -/
structure Power where
  /-- The widest level asserted or exiting: 4, 3, 2, or 0 for none (R659-R661). -/
  level : Nat := 4
  /-- The exit sequence of the L3 or L4 reset runs (R660, R661). -/
  exiting : Bool := false
  /-- Sources asserted now, and since the previous exit, in RESET_CAUSE's bits (Table 13.9). -/
  held : BitVec 7 := 0
  since : BitVec 7 := 0
  /-- The host-interface reset that is asserted was absorbed by an L3 or L4 reset or its exit (R662). -/
  absorbed : Bool := false
  cause : BitVec 7 := 1
  bootSrc : BitVec 2 := 3
  clkMode : BitVec 2 := 3
  stage : BootStage := .rom
  source : BitVec 2 := 0
  slot : BitVec 2 := 0
  result : Nat := 0
  attempts : Nat := 0
  bootLo : BitVec 32 := 0
  bootHi : BitVec 32 := 0
  bootLength : BitVec 20 := 0
  /-- Image bytes that have arrived from the companion (R681). -/
  image : Tab Byte := []
  /-- KEY_INDEX and SECURITY_VERSION of the running image (R711, R712). -/
  keyIndex : Nat := 0
  security : Nat := 0
  /-- The mailbox of a DATAPATH_RESET that has not completed (R668). -/
  datapath : Option Nat := none
  after : AfterSeal := .none
  current : PowerState := .a0
  gated : BitVec 8 := 0
  /-- Sheets for which each cluster has been idle, and for which the S1 conditions have held (R684). -/
  clusterIdle : Tab Nat := []
  restIdle : Nat := 0
  /-- A frame was received or sent, or a flit other than IDLE passed, in the running sheet. -/
  traffic : Bool := false
  /-- The policy in force, with the tolerances of N0 to N3, H, S and C in µs; and the one in force from the next tick
  (R683-R685, Table 13.14). -/
  policy : PowerPolicy := {}
  policyNext : PowerPolicy := {}
  /-- From the start of a wake from S1a until DRAM serves its first request (R687). -/
  waking : Bool := false
  /-- NVMe controllers are still to be re-initialised after S1b (R690). -/
  storeReinit : Bool := false
  /-- S2 was entered from S1a or S1b: DRAM stays in self-refresh (R692). -/
  s2Rest : Bool := false
  /-- Level of PFAIL_N: low (R691, R693). -/
  pfailLow : Bool := false
  /-- An L2 reset has deferred a fall of PFAIL_N (R693). -/
  pfailDeferred : Bool := false
  gpio : Tab Gpio := []
  /-- Bit n: DDRn_RESET_N is driven high; the SPI outputs are driven. Otherwise a weak pull-up holds them (Table 13.3, R671). -/
  ddrHigh : BitVec 8 := 0
  spiDriven : Bool := false
  /-- FATAL_N is driven low (R736). -/
  fatalLow : Bool := false
  /-- FATAL_N is driven low by a thermal trip, until the firmware starts (R758, R759). -/
  tripLow : Bool := false
  /-- S_PERST_N is driven high; S_REFCLK_OUT runs (R743, R745). -/
  perstHigh : Bool := false
  refclk : Bool := false
  /-- S_REFCLK_OUT ran at the entry to S1b, whose wake starts it again (R745). -/
  refclkHeld : Bool := false
  /-- The die temperature in 1/16 °C, the hottest sensor, THERMAL_WARN (none: the grade's reset value) and CRITICAL
  (Tables 15.14, 15.15). -/
  temp : Int := 0
  hottest : BitVec 4 := 0
  warnAt : Option (BitVec 8) := none
  /-- WARN of THERMAL_STATUS: the last sample stood at or above THERMAL_WARN as it then was (Table 15.18). -/
  warn : Bool := false
  /-- The temperature has stood at or above THERMAL_WARN and since then not fallen 2 °C below it (R756; log entry 82). -/
  warm : Bool := false
  critical : Bool := false
  /-- R758: the device is stopped; and after its reset, the boot ROM waits for the die to cool (R759). -/
  tripped : Bool := false
  hot : Bool := false
  supplyLow : BitVec 7 := 0
  supplyHigh : BitVec 7 := 0
  /-- S2_EXTRA_CAUSES (R753). -/
  extraCauses : Nat := 0
  /-- DEVICE_STATUS.DUMP (R737). -/
  dump : Bool := false
  deriving DecidableEq, Repr

end Sys2Proof.Machine
end

