-- ==== Sys2Proof/Machine/StateSecure.lean ====
section
/-!
DEFINITION. State of security and debug (14_security_and_debug.md).
-/
namespace Sys2Proof.Machine

/-- A key slot (R703-R707): KIND 0 empty, 1 signing, 2 enciphering. -/
structure KeySlot where
  kind : Nat := 0
  keyId : BitVec 32 := 0
  key : List Byte := []
  deriving DecidableEq, Repr

/-- The fuses the device programs (Table 14.1); SERIAL and FW_KEY0-3 are the part's (log entry 8). -/
structure Fuses where
  deployed : Bool := false
  retired : Bool := false
  revoke : BitVec 4 := 0
  rollback : Nat := 0
  deviceKey : Option (List Byte) := none
  debugKey : Option (List Byte) := none
  deriving DecidableEq, Repr

/-- A breakpoint of a cluster (R728, 0x0B29). -/
structure Breakpoint where
  enable : Bool := false
  scope : Nat := 0
  threads : BitVec 8 := 0
  address : BitVec 16 := 0
  cores : BitVec 8 := 0
  deriving DecidableEq, Repr

/-- Trace (R730, R731, 0x0B30). -/
structure Trace where
  enabled : Bool := false
  /-- TRACE_ON: the trace is writing. -/
  writing : Bool := false
  kinds : BitVec 8 := 0
  stopAtEnd : Bool := false
  cores : BitVec 64 := 0
  base : Nat := 0
  size : Nat := 0
  /-- Records in the 64 KiB on-chip buffer, oldest first. -/
  buffer : List (List Byte) := []
  written : Nat := 0
  offset : Nat := 0
  lost : Nat := 0
  deriving DecidableEq, Repr

/-- Security and debug. -/
structure Secure where
  fuses : Fuses := {}
  /-- Signing slots 0 to 7 at keys 0 to 7, enciphering slots 0 to 31 at keys 32 to 63. -/
  keys : Tab KeySlot := []
  level : Nat := 0
  path : Bool := false
  deviceFrozen : Bool := false
  mpHalted : Bool := false
  unlockFails : Nat := 0
  /-- The outstanding challenge record (R717). -/
  challenge : Option (List Byte) := none
  /-- Keyed 4 × cluster + index. -/
  breakpoints : Tab Breakpoint := []
  trace : Trace := {}
  /-- DIAG_SELECT (Table 14.14). -/
  diagStructure : BitVec 4 := 0
  diagIndex : BitVec 6 := 0
  diagPage : BitVec 4 := 0
  /-- Dwords of the management processor's memories that the diagnostic window wrote while it is halted (R733). -/
  mpMem : Tab (BitVec 32) := []
  /-- The mailbox of a DEBUG_STEP that has not completed (R729), with the thread. -/
  stepMbx : Option (Nat × Nat) := none
  deriving DecidableEq, Repr

/-- Lifecycle (R698): 0 MANUFACTURE, 1 DEPLOYED, 2 RETIRED. -/
def Secure.lifecycle (x : Secure) : Nat := if x.fuses.retired then 2 else if x.fuses.deployed then 1 else 0

end Sys2Proof.Machine
end

