-- ==== Sys2Proof/Machine/State.lean ====
section
/-!
DEFINITION. The state of the block: every register, buffer, counter, mode and pin of the spec, as plain data, and
the queue of waiting commands. A field's default is its value at reset.
-/
namespace Sys2Proof.Machine

/-- Why a step stops with a fault. -/
inductive Fault where
  /-- The command carries operands no happening of its row can have (WellFormed.lean); raised by the meanings whose
  operands are lists. Safe: the block never receives such a command. -/
  | illFormedOperand
  deriving DecidableEq, Repr

/-- Why a command is refused. -/
inductive Refusal where
  /-- The command's row has no meaning yet; raised by Dispatch.lean alone. Safe. -/
  | notModelled (mnemonic : String)
  deriving DecidableEq, Repr

/-- The state of the block. -/
structure State where
  /-- Commands waiting, first in first out (the model's own queue). -/
  pending : List Instr := []
  /-- The model's counter of open values drawn (log entry 2). -/
  fresh : Nat := 0
  /-- W1C flag registers, keyed by BAR0 offset. -/
  flags : Tab (BitVec 32) := []
  /-- RC totals, keyed by BAR0 offset (Table 0.7, R12). -/
  totals : Tab Nat := []
  /-- 64-bit counters (R151): what the running sheet has accumulated, and the sums added at ticks. -/
  cntAcc : Tab Nat := []
  cntTot : Tab Nat := []
  /-- The sheet closed by the last tick, which counter reads return as SHEET (R152). -/
  cntSheet : Sheet := 0
  /-- SUBPORT_FAILOVER_p (Table 11.7), keyed by port. -/
  failover : Tab (BitVec 32) := []
  sh : Sheets := {}
  line : Line := {}
  host : HostPort := {}
  cab : Cabinet := {}
  disp : Dispatch := {}
  cores : Cores := {}
  dov : Dovetail := {}
  lk : Lookup := {}
  cop : Cop := {}
  dram : Dram := {}
  ev : Evidence := {}
  sec : Secure := {}
  pow : Power := {}
  deriving DecidableEq, Repr

/-- The state right after reset: PORST_N has been released with every strap pulled up, and the boot ROM loads slot 0 of the SPI
flash (R660, R663, R679, Table 13.4; log entry 1). -/
def State.reset : State := { pow := { stage := .loading, source := 3, attempts := 1, exiting := true, spiDriven := true } }

end Sys2Proof.Machine
end

