-- ==== Sys2Proof/Machine/HostOps.lean ====
section
/-!
DEFINITION. Operations every chapter shares: flag registers, totals, counters, the event queue (R629-R633), the
completion of mailbox commands (R621, R625-R627) and DMA to host memory.
-/
namespace Sys2Proof.Machine

/-! ### Open values -/

/-- The next open value (log entry 2). -/
def freeNow (s : State) : Nat := Config.free s.fresh

/-- The state after drawing an open value. -/
def drawFree (s : State) : State := { s with fresh := s.fresh + 1 }

/-- Does the sheet generator tick: it runs, and neither a device freeze nor a thermal trip stops it (R22, R726, R758, Table 14.6)? -/
def ticking (s : State) : Bool := s.sh.running && !s.sec.deviceFrozen && !s.pow.tripped

/-- Is a reset of L3 or L4 held: its exit has not begun (R660, R676)? -/
def inReset (s : State) : Bool := decide (3 ≤ s.pow.level) && !s.pow.exiting

/-- A frame was received or sent on a subport, or a flit other than IDLE passed: an S1 condition fails in this sheet (Table 13.8). -/
def noteTraffic (s : State) : State := { s with pow := { s.pow with traffic := true } }

/-! ### Flags, totals and counters -/

/-- Set bits of a W1C flag register (R10). -/
def setFlag (off bit : Nat) (s : State) : State :=
  { s with flags := tabUpd 0 s.flags off (fun w => w ||| BitVec.ofNat 32 (2 ^ bit)) }

/-- A W1C flag register's value. -/
def flagReg (s : State) (off : Nat) : BitVec 32 := tabGet 0 s.flags off

/-- Count `n` on an RC total, which saturates at 0xFFFF_FFFF (R12, R29). -/
def bumpTotal (off n : Nat) (s : State) : State :=
  { s with totals := tabUpd 0 s.totals off (fun v => min (v + n) 0xFFFFFFFF) }

/-- Counter scopes. -/
inductive Scope where
  | host | dispatch | dovetail | core | owner | queue | cabinet | mac | pipe | rule | meter | table | lookup
  | unit | portC | evidence | channel | debug
  deriving DecidableEq, Repr

/-- Key of counter `i` of object `x` of a scope. -/
def cntKey (sc : Scope) (x i : Nat) : Nat := sc.ctorIdx * 2 ^ 40 + x * 2 ^ 8 + i

/-- Count `n` on counter `i` of object `x` (R151: it joins the sum at the tick that closes the sheet). -/
def count (sc : Scope) (x i n : Nat) (s : State) : State :=
  { s with cntAcc := tabUpd 0 s.cntAcc (cntKey sc x i) (· + n) }

/-- Raise a high-water counter, such as PEAK_CELLS, to at least `n`. -/
def countMax (sc : Scope) (x i n : Nat) (s : State) : State :=
  { s with cntAcc := tabUpd 0 s.cntAcc (cntKey sc x i) (max n) }

/-! ### Host memory -/

/-- Bytes that a TLP of a DMA write carries at most. -/
def tlpBytes : Nat := 128 * 2 ^ Config.payloadCode.val

/-- The blocks of a TLP's size that `n` bytes of host memory reach, each with the bytes of the write in it (log entry 142). -/
def tlpSpans (a n : Nat) : List (Nat × Nat × Nat) :=
  if n = 0 then []
  else (List.range ((a + n - 1) / tlpBytes - a / tlpBytes + 1)).map (fun i =>
    let b := a / tlpBytes + i
    (b, max a (b * tlpBytes) - a, min (a + n) ((b + 1) * tlpBytes) - a))

/-- Write bytes to host memory: a posted DMA write, in which a TLP sets EP when a byte of its payload comes from a poisoned line
(R592). -/
def hostWriteBad (a : BitVec 64) (bs : List Byte) (bad : Nat → Bool) (s : State) : State :=
  let marked := (List.range bs.length).any bad
  { s with host := { s.host with
      mem := memWrite s.host.mem a.toNat bs
      ep := if !marked && s.host.ep.isEmpty then []
        else (tlpSpans a.toNat bs.length).foldl (fun t x =>
          tabSet false t x.1 ((List.range (x.2.2 - x.2.1)).any (fun i => bad (x.2.1 + i)))) s.host.ep } }

/-- A DMA write of bytes of which none comes from a poisoned line. -/
def hostWrite (a : BitVec 64) (bs : List Byte) (s : State) : State := hostWriteBad a bs (fun _ => false) s

/-- Read bytes of host memory. -/
def hostRead (s : State) (a n : Nat) : List Byte := memRead s.host.mem a n

/-- Mark an interrupt cause as having uncovered entries (R646). -/
def markCause (c : Nat) (s : State) : State :=
  { s with host := { s.host with uncovered := s.host.uncovered ||| BitVec.ofNat 34 (2 ^ c) } }

/-! ### Event queue -/

/-- Is a ring with this head, tail and number of entries full (R765)? A ring is full while the host withholds bus
mastering (R606). -/
def ringFull (s : State) (head tail entries : Nat) : Bool :=
  !s.host.busMaster || (tail + 1) % entries == head

/-- Work-item sources, which are never forwarded (R630). -/
def workItemSource (src : Nat) : Bool :=
  (16 ≤ src && src ≤ 31) || (208 ≤ src && src ≤ 215) || (224 ≤ src && src ≤ 239) || src == 321 || src == 322 ||
  (368 ≤ src && src ≤ 381)

/-- Pack the values a source names into DATA, and whether one was omitted (R633). -/
def packData : Nat → List (Nat × Nat) → Nat × Bool
  | _, [] => (0, false)
  | pos, (v, w) :: r =>
    if pos + w > 64 then ((packData pos r).1, true)
    else (v % 2 ^ w * 2 ^ pos + (packData (pos + w) r).1, (packData (pos + w) r).2)

/-- A queue past the entry just written: its tail advances, and PHASE inverts at a wrap (R625). -/
def HostQueue.advance (q : HostQueue) : HostQueue :=
  if q.tail + 1 == q.entries then { q with tail := 0, phase := !q.phase } else { q with tail := q.tail + 1 }

/-- Write one event entry at EQ_TAIL and advance it (Table 12.10, R625, R629). -/
def postEvent (src count : Nat) (sheetLo : BitVec 32) (data : BitVec 64) (trunc merged : Bool) (s : State) : State :=
  let q := s.host.eq
  let w := packNat [(src, 9), (b2n merged, 1), (b2n trunc, 1), (0, 4), (b2n q.phase, 1)]
  let s := hostWrite (q.address + BitVec.ofNat 64 (16 * q.tail))
    (layout [(w, 2), (count, 2), (sheetLo.toNat, 4), (data.toNat, 8)]) s
  markCause 1 (Machine.count .host 0 3 1 { s with host := { s.host with eq := q.advance } })

/-- Post the merged pending entries in ascending source order while there is room (R632). -/
def postMergedN : Nat → State → State
  | 0, s => s
  | n + 1, s =>
    match s.host.merged with
    | [] => s
    | (src, e) :: r =>
      if s.host.eq.enabled && !ringFull s s.host.eq.head s.host.eq.tail s.host.eq.entries then
        postMergedN n (postEvent src e.count e.sheetLo e.data e.trunc true
          { s with host := { s.host with merged := r } })
      else s

/-- Post every merged pending entry there is room for (R632). -/
def postMerged (s : State) : State := postMergedN s.host.merged.length s

/-- Merge a raise into its source's pending entry (R632). -/
def mergeRaise (src : Nat) (sheetLo : BitVec 32) (data : BitVec 64) (trunc : Bool) (s : State) : State :=
  let e := match tabFind s.host.merged src with
    | some e => { e with count := min (e.count + 1) 65535 }
    | none => { count := 1, sheetLo := sheetLo, data := data, trunc := trunc : MergedEvent }
  setFlag 0xC 2 (count .host 0 4 1 { s with host := { s.host with merged := tabPut s.host.merged src e } })

/-- Forward one raise of a source to the event queue, past the mask (R629, R632, R651). -/
def forwardRaise (src : Nat) (data : List (Nat × Nat)) (s : State) : State :=
  let d := packData 0 data
  let lo := s.sh.sheet.setWidth 32
  if !s.host.eq.enabled then count .host 0 5 1 s
  else
    let s := postMerged s
    if s.host.merged.isEmpty && !ringFull s s.host.eq.head s.host.eq.tail s.host.eq.entries then
      postEvent src 1 lo (BitVec.ofNat 64 d.1) d.2 false s
    else mergeRaise src lo (BitVec.ofNat 64 d.1) d.2 s

/-- A trace record (Table 14.7); CYCLE, a measured time, is an open value (log entry 2). -/
def traceRecord (s : State) (kind core master data : Nat) : List Byte :=
  layout [(kind, 1), (core, 1), (master, 2), (s.sh.sheet.toNat, 4), (freeNow s, 4), (data, 4)]

/-- Is a happening of this kind and core traced (0x0B30)? Happenings of no core, 255, always are. -/
def traced (s : State) (kind core : Nat) : Bool :=
  s.sec.trace.writing && s.sec.trace.kinds.getLsbD kind && (core == 255 || s.sec.trace.cores.getLsbD core)

/-- Put a record in the trace buffer; at a full buffer, and in S1a, it is dropped, and source 460 raised at the first in a sheet
(R730, Table 14.5). -/
def pushTrace (kind core master data : Nat) (s : State) : State :=
  let t := s.sec.trace
  if t.buffer.length < 4096 && s.pow.current != .s1a then
    drawFree { s with sec := { s.sec with trace := { t with buffer := t.buffer ++ [traceRecord s kind core master data] } } }
  else
    let s := setFlag 0x6C4 6 (count .debug 0 7 1 { s with sec := { s.sec with trace := { t with lost := t.lost + 1 } } })
    if s.sh.firstSeen.contains (460 * 2 ^ 32) then s
    else
      let s := { s with sh := { s.sh with firstSeen := 460 * 2 ^ 32 :: s.sh.firstSeen } }
      if s.host.eventMask.getLsbD 460 then forwardRaise 460 [] s else s

/-- Trace a happening (R730). -/
def trace (kind core master data : Nat) (s : State) : State :=
  if traced s kind core then pushTrace kind core master data s else s

/-- Raise an event source with the values it names and their widths (R629-R633; the order of one row's raises, log entry 139). -/
def raise (src : Nat) (data : List (Nat × Nat)) (s : State) : State :=
  let s := trace 1 255 4095 src s
  if workItemSource src || !s.host.eventMask.getLsbD src then s else forwardRaise src data s

/-- Raise a source that is raised at the first happening of its kind in a sheet (R762). -/
def raiseFirst (src key : Nat) (data : List (Nat × Nat)) (s : State) : State :=
  let k := src * 2 ^ 32 + key
  if s.sh.firstSeen.contains k then s
  else raise src data { s with sh := { s.sh with firstSeen := k :: s.sh.firstSeen } }

/-- Report an access error of a kind at a BAR0 offset (R610). -/
def accessError (kind : Nat) (off : Nat) (s : State) : State :=
  let s := if (flagReg s 0xC).getLsbD 0 then s else
    { s with host := { s.host with accessKind := BitVec.ofNat 3 kind, accessOffset := BitVec.ofNat 25 off } }
  raiseFirst 32 0 [(off, 32), (kind, 8)] (count .host 0 2 1 (setFlag 0xC 0 s))

/-- Does port S check ECRC: the bit STORE_CFG_ACCESS last set in its AER capability (R585; log entry 145)? -/
def ecrcCheckS (s : State) : Bool := (tabGet 0 s.ev.cfg (Config.portS.toNat * 1024 + (Config.capAerS + 6).toNat)).getLsbD 8

/-- What the device sees of a DMA read: a wrong ECRC shows only where the port checks it (R585). -/
def dmaSeen (check : Bool) (r : DmaResult) : DmaResult := if r = .ecrc && !check then .ok else r

/-- What port H sees of a DMA read. -/
def seenH (s : State) (r : DmaResult) : DmaResult := dmaSeen s.host.ecrcCheck r

/-- Do the lines a DMA read was to fill count as poisoned (R585, R593)? -/
def dmaDark (r : DmaResult) : Bool := r = .poisoned || r = .ecrc

/-- A TLP that failed ECRC is discarded: it is counted, flagged, and reported through the port's AER capability (R585, Table 11.7). -/
def noteEcrc (src : Nat) (s : State) : State :=
  let s := bumpTotal 0x640 1 (setFlag 0x600 6 s)
  if src = 489 then { s with host := { s.host with aerEcrc := true } } else { s with ev := { s.ev with aerEcrc := true } }

/-- A TLP arrived poisoned or failing ECRC: source 489 at port H, 490 at port S (R585, R593). -/
def noteTlp (src : Nat) (r : DmaResult) (s : State) : State :=
  if r = .ecrc then noteEcrc src (raise src [] s) else if r = .poisoned then raise src [] s else s

/-! ### Completion of mailbox commands -/

/-- A field of a mailbox's header. -/
def mbxField (s : State) (m off n : Nat) : Nat := leNat (tabRead 0 s.host.mbx (256 * m + off) n)

/-- OPCODE of the command a mailbox holds (Table 12.7). -/
def mbxOpcode (s : State) (m : Nat) : Nat := mbxField s m 0 2

/-- The payload bytes of a mailbox, LENGTH of them. -/
def mbxPayload (s : State) (m : Nat) : List Byte := tabRead 0 s.host.mbx (256 * m + 16) (mbxField s m 4 2)

/-- Step 3 of R621: MBX_STATUS_n with BUSY 0, DONE 1, STATUS and TAG. -/
def writeStatus (m : Nat) (st : Byte) (s : State) : State :=
  { s with host := { s.host with
      busy := s.host.busy &&& ~~~ BitVec.ofNat 16 (2 ^ m)
      done := s.host.done ||| BitVec.ofNat 16 (2 ^ m)
      status := tabSet 0 s.host.status m st
      tag := tabSet 0 s.host.tag m (BitVec.ofNat 16 (mbxField s m 2 2)) } }

/-- A completion entry (Table 12.8). -/
def completionEntry (s : State) (c : Completion) : List Byte :=
  layout [(mbxField s c.mbx 2 2, 2), (mbxOpcode s c.mbx, 2), (c.status.toNat, 1), (c.mbx, 1), (c.resultLen, 2), (c.detail.toNat, 4),
    (mbxField s c.mbx 10 2, 2), (b2n s.host.cq.phase * 0x8000, 2)]

/-- The entry is written at CQ_TAIL, which advances (R625). -/
def putCompletion (c : Completion) (s : State) : State :=
  let q := s.host.cq
  let s := hostWrite (q.address + BitVec.ofNat 64 (16 * q.tail)) (completionEntry s c) s
  { s with host := { s.host with cq := q.advance } }

/-- The queue has become full (R626). -/
def noteCqFull (s : State) : State :=
  if (s.host.cq.tail + 1) % s.host.cq.entries == s.host.cq.head then raise 33 [] (setFlag 0xC 3 s) else s

/-- Step 2 of R621: the completion entry (R625, R626). -/
def writeCompletion (c : Completion) (s : State) : State := noteCqFull (putCompletion c s)

/-- Step 4 of R621: signal the completion queue's cause unless NO_INTERRUPT is set (R646). -/
def signalCompletion (m : Nat) (s : State) : State :=
  if natBit (mbxField s m 6 2) 1 then s else markCause 0 s

/-- Write a completion to the queue and the mailbox's status register (R621 steps 2 to 4). -/
def postCompletion (c : Completion) (s : State) : State :=
  signalCompletion c.mbx (writeStatus c.mbx c.status (writeCompletion c s))

/-- Results of a command into its mailbox's payload (R620, R621 step 1). -/
def writeResults (m : Nat) (bs : List Byte) (s : State) : State :=
  { s with host := { s.host with mbx := tabWrite 0 s.host.mbx (256 * m + 16) bs } }

/-- A command's end is counted: COMMANDS, and COMMANDS_REFUSED for any status but OK (Table 12.18). -/
def countEnd (st : Nat) (s : State) : State :=
  if st = 0 then count .host 0 0 1 s else count .host 0 1 1 (count .host 0 0 1 s)

/-- A completion is reported, or held while the completion queue is full; through MBX_STATUS_n alone while the queue is disabled, or when a
host-interface reset came while the command ran (R626, R627, R650). -/
def reportEnd (c : Completion) (s : State) : State :=
  if !s.host.cq.enabled || s.host.muted.contains c.mbx then
    writeStatus c.mbx c.status { s with host := { s.host with muted := s.host.muted.filter (· != c.mbx) } }
  else if s.host.held.isEmpty && !ringFull s s.host.cq.head s.host.cq.tail s.host.cq.entries then postCompletion c s
  else { s with host := { s.host with held := s.host.held ++ [c] } }

/-- Complete a command: results, completion entry or its holding, status (R621, R626, R627). -/
def finishCmd (m st detail : Nat) (res : List Byte) (s : State) : State :=
  reportEnd { mbx := m, status := BitVec.ofNat 8 st, detail := BitVec.ofNat 32 detail, resultLen := res.length }
    (countEnd st (writeResults m res s))

end Sys2Proof.Machine
end

