-- ==== Sys2Proof/Machine/Cmd.lean ====
section
/-!
DEFINITION. The life of a mailbox command in the firmware: when it may start, the header checks, the payload
checks, the furnish target of load commands, and its completion (R614-R624, R761, R63, R64, R628).
-/
namespace Sys2Proof.Machine

/-- The opcodes the firmware defines (R619). -/
def definedOps : List Nat :=
  [
   0x0001, 0x0002, 0x0003, 0x0004, 0x0005, 0x0006, 0x0010, 0x0011, 0x0012, 0x0013, 0x0020, 0x0101,
   0x0102, 0x0103, 0x0104, 0x0105, 0x0110, 0x0111, 0x0112, 0x0113, 0x0114, 0x0115, 0x0116, 0x0117,
   0x0201, 0x0210, 0x0211, 0x0212, 0x0213, 0x0220, 0x0221, 0x0222, 0x0230, 0x0231, 0x0232, 0x0301,
   0x0302, 0x0303, 0x0304, 0x0310, 0x0311, 0x0312, 0x0320, 0x0330, 0x0331, 0x0332, 0x0333, 0x0334,
   0x0340, 0x0401, 0x0402, 0x0403, 0x0410, 0x0411, 0x0420, 0x0430, 0x0431, 0x0432, 0x0433, 0x0434,
   0x0440, 0x0450, 0x0451, 0x0452, 0x0453, 0x0501, 0x0502, 0x0503, 0x0504, 0x0505, 0x0510, 0x0511,
   0x0512, 0x0513, 0x0520, 0x0521, 0x0522, 0x0523, 0x0530, 0x0601, 0x0602, 0x0603, 0x0604, 0x0610,
   0x0611, 0x0612, 0x0613, 0x0614, 0x0615, 0x0620, 0x0621, 0x0622, 0x0623, 0x0624, 0x0630, 0x0631,
   0x0701, 0x0702, 0x0703, 0x0704, 0x0710, 0x0711, 0x0712, 0x0713, 0x0714, 0x0715, 0x0801, 0x0802,
   0x0803, 0x0804, 0x0805, 0x0806, 0x0807, 0x0808, 0x0810, 0x0811, 0x0812, 0x0813, 0x0820, 0x0821,
   0x0822, 0x0823, 0x0830, 0x0831, 0x0901, 0x0902, 0x0903, 0x0904, 0x0905, 0x0906, 0x0907, 0x0908,
   0x0909, 0x0910, 0x0911, 0x0912, 0x0913, 0x0A01, 0x0A02, 0x0A03, 0x0A04, 0x0A05, 0x0A06, 0x0A07,
   0x0A08, 0x0B01, 0x0B02, 0x0B03, 0x0B04, 0x0B05, 0x0B10, 0x0B11, 0x0B12, 0x0B13, 0x0B14, 0x0B20,
   0x0B21, 0x0B22, 0x0B24, 0x0B25, 0x0B26, 0x0B27, 0x0B28, 0x0B29, 0x0B30, 0x0B31, 0x0B32, 0x0C10,
   0x0C11, 0x0C12, 0x0D01, 0x0D02, 0x0D03, 0x0D04, 0x0D05, 0x0D06, 0x0D10, 0x0D11, 0x0D12, 0x0D13,
   0x0D14, 0x0D20]

/-- Is ORDERED set in the command a mailbox holds (Table 12.7)? -/
def mbxOrdered (s : State) (m : Nat) : Bool := natBit (mbxField s m 6 2) 0

/-- The accepted, not started commands ahead of a mailbox's. -/
def earlierAccepted (s : State) (m : Nat) : List Nat := s.host.accepted.takeWhile (· != m)

/-- Mailboxes of commands that have started and not ended: a DATAPATH_RESET, a CHIP_RESET and a DEBUG_STEP (R666, R668, R669, R729). -/
def runningMbx (s : State) : List Nat :=
  s.pow.datapath.toList ++ (match s.pow.after with | .datapath m => [m] | .chip m => [m] | .written m => [m] | .none => []) ++
    (s.sec.stepMbx.map (·.1)).toList

/-- May the firmware, which neither JTAG (R720) nor a thermal trip (R758) has stopped, start the command in mailbox `m` (R622, R623)? -/
def mayStart (s : State) (m : Nat) : Bool :=
  let before := earlierAccepted s m ++ runningMbx s
  s.host.fwReady && !s.sec.mpHalted && !s.pow.tripped && s.host.accepted.contains m &&
  before.all (fun k => mbxOpcode s k / 256 != mbxOpcode s m / 256 && !mbxOrdered s k) &&
  s.host.held.all (fun c => !mbxOrdered s c.mbx) &&
  (!mbxOrdered s m || (before.isEmpty && s.host.held.isEmpty))

/-- Start the command in mailbox `m`: it leaves the accepted list. -/
def startCmd (m : Nat) (s : State) : State :=
  { s with host := { s.host with accepted := s.host.accepted.filter (· != m) } }

/-- The first header field at fault, by header offset (R761, R618). -/
def headerFault (s : State) (m : Nat) (load : Bool) : Option Nat :=
  if mbxField s m 4 2 > 240 then some 4
  else if mbxField s m 6 2 / 4 != 0 then some 6
  else if !load && mbxField s m 8 1 != 0 then some 8
  else if mbxField s m 9 1 != 0 then some 9
  else if mbxField s m 12 4 != 0 then some 12
  else none

/-- The furnish number after `f`: 1 to 255, then 1 again (01_sheets_windows_and_furnish.md, Furnish changes). -/
def nextFurnish (f : BitVec 8) : BitVec 8 := if f = 255 then 1 else f + 1

/-- The furnish number of a pending commit, 0 when none (Table 1.3). -/
def pendingFurnish (s : State) : Nat := if s.sh.pending.isSome then (nextFurnish s.sh.furnish).toNat else 0

/-- Why a load command with this header target is refused: status and DETAIL (R63, R64). A wrong target is reported before a pending commit,
and that before the want of an open bank: the order is the model's choice (log entry 151). -/
def loadFault (s : State) (target : Nat) : Option (Nat × Nat) :=
  if target != (nextFurnish s.sh.furnish).toNat then some (0x10, s.sh.furnish.toNat)
  else if s.sh.pending.isSome then some (0x11, pendingFurnish s)
  else if s.sh.next.isNone then some (0x03, 0)
  else none

/-- What a command's body leaves: state, status, DETAIL and result bytes. -/
structure CmdRes where
  state : State
  status : Nat := 0
  detail : Nat := 0
  result : List Byte := []

/-- The command took effect. -/
def okCmd (s : State) (res : List Byte := []) : CmdRes := { state := s, result := res }

/-- The command is refused and changes nothing. -/
def refuse (s : State) (status : Nat) (detail : Nat := 0) : CmdRes := { state := s, status := status, detail := detail }

/-- A command of the firmware: what Table x gives for its opcode. `checks` lists, in order, the payload offset of
each field and whether the field is good. `extent` gives the bytes it reads when its fixed fields are good. -/
structure CmdSpec where
  op : Nat
  load : Bool := false
  fixed : Nat := 0
  extent : List Byte → Nat := fun _ => 0
  checks : State → List Byte → List (Nat × Bool) := fun _ _ => []
  body : State → Nat → List Byte → CmdRes

/-- The first bad field of a list of checks: the least offset among those that fail (Table 12.9). -/
def firstBad (cs : List (Nat × Bool)) : Option Nat := ((cs.filter (fun c => !c.2)).map (·.1)).min?

/-- A payload fault: the DETAIL of the BAD_PARAM that R618 or R628 gives (log entry 12). -/
def payloadFault (c : CmdSpec) (s : State) (p : List Byte) : Option Nat :=
  if p.length < c.fixed then some p.length
  else match firstBad ((c.checks s p).filter (fun k => k.1 < c.fixed)) with
    | some o => some o
    | none => if p.length < c.extent p then some p.length else firstBad (c.checks s p)

/-- A reserved payload field: all its bytes zero. -/
def rsv (p : List Byte) (off n : Nat) : Nat × Bool := (off, leAt p off n == 0)

/-- A payload field within a range. -/
def inRange (p : List Byte) (off n lo hi : Nat) : Nat × Bool :=
  (off, decide (lo ≤ leAt p off n) && decide (leAt p off n ≤ hi))

end Sys2Proof.Machine
end

