-- ==== Sys2Proof/Machine/ThreadOps.lean ====
section
/-!
DEFINITION. Reading and changing threads and their registers (05_core_instruction_set.md, 06_threads_and_dovetail.md).
-/
namespace Sys2Proof.Machine

/-- The null handle (R157). -/
def nullHandle : HandleWord := 0xFFFFFF

/-- A thread's context. -/
def thr (s : State) (t : Nat) : Thread := tabGet {} s.cores.threads t

/-- Replace a thread's context. -/
def setThr (t : Nat) (x : Thread) (s : State) : State :=
  { s with cores := { s.cores with threads := tabSet {} s.cores.threads t x } }

/-- Change a thread's context. -/
def updThr (t : Nat) (f : Thread → Thread) (s : State) : State := setThr t (f (thr s t)) s

/-- The core of a thread. -/
def coreOf (t : Nat) : Nat := t / 8
/-- The cluster of a thread. -/
def clusterOf (t : Nat) : Nat := t / 64

/-- A general register; g0 reads 0 (R270). -/
def getG (x : Thread) (r : BitVec 5) : Word36 := if r = 0 then 0 else tabGet 0 x.g r.toNat

/-- Write a general register; a write to g0 is discarded (R270). -/
def putG (r : BitVec 5) (v : Word36) (x : Thread) : Thread :=
  if r = 0 then x else { x with g := tabSet 0 x.g r.toNat v, badRegs := x.badRegs.filter (· != r.toNat) }

/-- Special registers are written anew, with their parity (Table 11.1). -/
def mendSpecials (ns : List Nat) (x : Thread) : Thread := { x with badRegs := x.badRegs.filter (fun r => !(ns.contains (r - 32)) || r < 32) }

/-- A register of a thread of the state. -/
def regG (s : State) (t : Nat) (r : BitVec 5) : Word36 := getG (thr s t) r

/-- Write a register of a thread of the state. -/
def setG (t : Nat) (r : BitVec 5) (v : Word36) (s : State) : State := updThr t (putG r v) s

/-- The special register HNDn (R272). -/
def getHnd (x : Thread) (n : Nat) : HandleWord := tabGet nullHandle x.hnd n

/-- The designation of a cluster's supervisor: thread 7 of core 8k unless named otherwise (R339). -/
def supervisorOf (s : State) (k : Nat) : Supervisor := tabGet {} s.cores.supervisors k

/-- The identity of a cluster's supervisor thread. -/
def supervisorId (s : State) (k : Nat) : Nat := 64 * k + 8 * (supervisorOf s k).core + (supervisorOf s k).thread

/-- Is the thread a supervisor? -/
def isSupervisor (s : State) (t : Nat) : Bool := supervisorId s (clusterOf t) == t

/-- A thread's own master priority: 7 for a supervisor, that of its map entry while it holds an item, else 0
(R239, 06_threads_and_dovetail.md, The slot table). -/
def ownPrio (s : State) (t : Nat) : Nat :=
  if isSupervisor s t then 7
  else if (thr s t).st = .free then 0 else (thr s t).prio.toNat

/-- All thread numbers. -/
def allThreads : List Nat := List.range 512

/-- The threads the state lists; every other thread stands at its reset values. -/
def listedThreads (s : State) : List Nat := s.cores.threads.map (·.1)

/-- A Dovetail lock. -/
def lockOf (s : State) (k : Nat) : Lock := tabGet {} s.dov.locks k

/-- Replace a lock. -/
def setLock (k : Nat) (l : Lock) (s : State) : State :=
  { s with dov := { s.dov with locks := tabSet {} s.dov.locks k l } }

/-- The threads waiting on locks that a master owns. -/
def lockWaiters (s : State) (m : Nat) : List Nat :=
  (s.dov.locks.filter (fun p => p.2.owner.toNat == m)).flatMap (·.2.waiters)

/-- Effective priority with chains followed `n` deep: own, or the greatest among the threads waiting on a lock the
thread owns (R361). Every chain of distinct threads is shorter than 512. -/
def effPrioN : Nat → State → Nat → Nat
  | 0, s, t => ownPrio s t
  | n + 1, s, t => (lockWaiters s t).foldl (fun a w => max a (effPrioN n s w)) (ownPrio s t)

/-- Depth that covers every chain of waiting threads: one more than the number of waiting threads. -/
def chainDepth (s : State) : Nat := (s.dov.locks.flatMap (·.2.waiters)).length

/-- A thread's effective priority (R361). -/
def effPrio (s : State) (t : Nat) : Nat := effPrioN (chainDepth s) s t

/-- The priority a thread inherits, 0 when none (R361). -/
def inherited (s : State) (t : Nat) : Nat :=
  (lockWaiters s t).foldl (fun a w => max a (effPrioN (chainDepth s) s w)) 0

/-- Has a thread an asynchronous lookup outstanding that its present item issued (FLAGS.LKP; R240)? -/
def lookupPending (s : State) (t : Nat) : Bool := s.lk.ops.any (fun p => p.2.thread == t && p.2.async && !p.2.discard && !p.2.old)

/-- FLAGS of a thread (Table 5.2). -/
def flagsWord (s : State) (t : Nat) : Word36 :=
  let x := thr s t
  BitVec.ofNat 36 (packNat [(b2n (!x.muls.isEmpty), 1), (b2n x.psn, 1), (b2n x.psnmask, 1),
    (b2n (decide (ownPrio s t < inherited s t)), 1), (b2n x.rsm, 1), (b2n x.hdl, 1), (b2n (lookupPending s t), 1)])

/-! ### The walk of the slot table -/

/-- Is the thread READY (R332)? One that waits for lookups before its handler's first instruction runs, and its core waits (R322). -/
def isReady (s : State) (t : Nat) : Bool := (thr s t).st = .ready

/-- The boost thread of a core: the one whose inherited priority exceeds its own by most, ties to the lower number
(06_threads_and_dovetail.md, The slot table). -/
def boostThread (s : State) (core : Nat) : Option Nat :=
  match argMax (fun i => inherited s (8 * core + i) - ownPrio s (8 * core + i)) (List.range 8) with
  | some i => if ownPrio s (8 * core + i) < inherited s (8 * core + i) then some (8 * core + i) else none
  | none => none

/-- The slot table of a core. -/
def slotsOf (s : State) (core : Nat) : SlotTable := tabGet {} s.cores.slots core

/-- The thread an entry of a core's slot table names, the boost thread taking the turns of threads of lower effective
priority while it is READY (R332, R333). -/
def walkEntry (s : State) (core e : Nat) : Nat :=
  let t := 8 * core + natBits (slotsOf s core).entries.toNat (4 * e) 3
  match boostThread s core with
  | some b => if isReady s b && effPrio s t < effPrio s b then b else t
  | none => t

/-- The entry and thread that the walk of the slot table selects next (R332). -/
def walkNext (s : State) (core : Nat) : Option (Nat × Nat) :=
  let cur := (slotsOf s core).cur
  ((List.range 16).map (fun i => ((cur + 1 + i) % 16, walkEntry s core ((cur + 1 + i) % 16)))).find?
    (fun p => isReady s p.2)

/-- Does a thread of the core run? -/
def coreBusy (s : State) (core : Nat) : Bool :=
  (List.range 8).any (fun i => (thr s (8 * core + i)).st = .run)

/-- The row of Table 6.4 of a stall, from 0; 15 for none (Table 14.7, KIND 3). -/
def stallCode (w : Stall) : Nat :=
  match w with
  | .none => 15
  | .dram .. => 0
  | .cabinet .. => 1
  | .drawer .. => 2
  | .lookup | .lookupAgain _ | .lookupWait | .lookupFull .. => 3
  | .unit .. | .pins .. => 4
  | .lock .. => 5
  | .chanWrite .. | .chanRead .. => 6

/-- Let an idle core take its next ready thread (R332, Table 6.2). -/
def walk (core : Nat) (s : State) : State :=
  if coreBusy s core then s
  else match walkNext s core with
    | none => s
    | some (e, t) =>
      let old := stallCode (thr s (walkEntry s core (slotsOf s core).cur)).stall
      trace 3 core t (packNat [(t % 8, 3), (0, 1), (old, 4)]) <| count .core core 3 1 <| updThr t (fun x => { x with st := .run })
        { s with cores := { s.cores with slots := tabSet {} s.cores.slots core { slotsOf s core with cur := e } } }

/-- Make a thread READY, and let its core run it when idle. A frozen thread becomes READY when it thaws (Table 6.2). -/
def makeReady (t : Nat) (s : State) : State :=
  walk (coreOf t) (updThr t (fun x => if x.st = .frozen then { x with before := .ready, stall := .none }
    else { x with st := .ready, stall := .none }) s)

/-- A thread has completed an instruction: one of DEBUG_STEP's, when it is stepped (R729). -/
def stepDone (t : Nat) (s : State) : State :=
  match s.cores.stepping with
  | some (u, n) => if u = t then { s with cores := { s.cores with stepping := some (u, n - 1) } } else s
  | none => s

/-- A long stall ends with its instruction complete (R338, R729). -/
def endStall (t : Nat) (s : State) : State := makeReady t (stepDone t s)

/-! ### Progress for the all-wait detectors -/

/-- A detector: clusters 0 to 7, the device 8. -/
def detectorOf (s : State) (k : Nat) : Detector := tabGet {} s.dov.detectors k

/-- Mark progress in a detector's scope (R377). -/
def markProgress (k : Nat) (s : State) : State :=
  { s with dov := { s.dov with detectors := tabUpd {} s.dov.detectors k (fun d => { d with progress := true }) } }

/-- Does a thread wait on the drawer? -/
def waitsDrawer (d : Nat) (x : Thread) : Bool := match x.stall with | .drawer e _ _ _ => e == d | _ => false
/-- Does a thread wait on the lock? -/
def waitsLock (k : Nat) (x : Thread) : Bool := match x.stall with | .lock j _ _ => j == k | _ => false
/-- Does a thread wait on the channel? -/
def waitsChan (c : Nat) (x : Thread) : Bool :=
  match x.stall with | .chanWrite d _ _ => d == c | .chanRead d _ _ _ _ => d == c | _ => false

/-- Progress of Table 6.11: the device, and every cluster one of whose threads satisfies `w`. -/
def progress (w : Thread → Bool) (s : State) : State :=
  let ks := (s.cores.threads.filter (fun p => w p.2)).map (fun p => clusterOf p.1)
  ks.foldl (fun a k => markProgress k a) (markProgress 8 s)

end Sys2Proof.Machine
end

