-- ==== Sys2Proof/Machine/DramMap.lean ====
section
/-!
DEFINITION. The DRAM address map, the bytes and poison of DRAM lines, with channel fencing, and the requests in the controllers' queues
(R533-R536, R542-R550, R554-R556, R565, R574).
-/
namespace Sys2Proof.Machine

/-- Bytes in a GiB. -/
def gib : Nat := 2 ^ 30

def chanState (s : State) (c : Nat) : DramChannel := tabGet {} s.dram.chans c
def setChanState (c : Nat) (x : DramChannel) (s : State) : State :=
  { s with dram := { s.dram with chans := tabSet {} s.dram.chans c x } }

/-- The enabled ranges in order, with their numbers. -/
def enabledRanges (s : State) : List (Nat × DramRange) := s.dram.ranges.filter (fun r => r.2.enable)

/-- BASE of range `r`: the sizes of the enabled ranges before it (R533). -/
def rangeBase (s : State) (r : Nat) : Nat :=
  ((enabledRanges s).filter (fun x => x.1 < r)).foldl (fun a x => a + x.2.size * gib) 0

/-- Installed DRAM in bytes (R533). -/
def dramInstalled (s : State) : Nat := (enabledRanges s).foldl (fun a x => a + x.2.size * gib) 0

/-- Channels of a range, ascending. -/
def rangeChans (r : DramRange) : List Nat := maskList 8 r.channels.toNat

def granule (r : DramRange) : Nat := if r.large then 4096 else 256

/-- OFF(r, c) of R534. -/
def rangeOff (s : State) (r c : Nat) : Nat :=
  ((enabledRanges s).filter (fun x => x.1 < r && x.2.channels.getLsbD c)).foldl
    (fun a x => a + x.2.size * gib / (rangeChans x.2).length) 0

/-- The range of a device address. -/
def rangeAt (s : State) (a : Nat) : Option (Nat × DramRange) :=
  (enabledRanges s).find? (fun r => rangeBase s r.1 ≤ a && a < rangeBase s r.1 + r.2.size * gib)

/-- The channel and channel address of a device address (R534); none beyond installed DRAM. -/
def dramPlace (s : State) (a : Nat) : Option (Nat × Nat) :=
  match rangeAt s a with
  | none => none
  | some (r, x) =>
    let n := (rangeChans x).length
    let u := a - rangeBase s r
    let i := u / granule x
    let c := (rangeChans x).getD (i % n) 0
    some (c, rangeOff s r c + i / n * granule x + u % granule x)

/-- The device address of a channel address: the inverse of R534; none when no range covers it. -/
def dramDevice (s : State) (c x : Nat) : Option Nat :=
  match (enabledRanges s).find? (fun r => r.2.channels.getLsbD c && rangeOff s r.1 c ≤ x &&
      x < rangeOff s r.1 c + r.2.size * gib / (rangeChans r.2).length) with
  | none => none
  | some (r, g) =>
    let v := x - rangeOff s r c
    let n := (rangeChans g).length
    let p := ((rangeChans g).takeWhile (· != c)).length
    some (rangeBase s r + (v / granule g * n + p) * granule g + v % granule g)

/-- Does any byte of a device address range lie on a channel? -/
def onChannel (s : State) (c a n : Nat) : Bool :=
  (enabledRanges s).any (fun r =>
    let b := rangeBase s r.1
    let lo := max a b
    let hi := min (a + n) (b + r.2.size * gib)
    decide (lo < hi) &&
      (let i := (lo - b) / granule r.2
       let k := (rangeChans r.2).length
       (List.range (min k ((hi - 1 - b) / granule r.2 - i + 1))).any
         (fun j => (rangeChans r.2).getD ((i + j) % k) 8 == c)))

/-- Is the line of a device address closed to requesters: on a fenced channel (R565), or before DRAM_START (R574,
log entry 28)? -/
def lineClosed (s : State) (l : Nat) : Bool :=
  !s.dram.started ||
  match dramPlace s (64 * l) with
  | some (c, _) => (chanState s c).fenced
  | none => false

/-- The byte at a device address as a requester reads it; that of a closed line is open (R565; log entry 164). -/
def dramByte (s : State) (a : Nat) : Byte := if lineClosed s (a / 64) then Config.closedByte s.fresh a else memGet s.dram.mem a

/-- Bytes of DRAM at a device address, as a requester reads them. -/
def dramBytes (s : State) (a n : Nat) : List Byte := (List.range n).map (fun i => dramByte s (a + i))

/-- Store bytes in DRAM at a device address; a write to a closed line is discarded (R565). -/
def dramStore (a : Nat) (bs : List Byte) (s : State) : State :=
  let closed := (List.range ((a + bs.length + 63) / 64 - a / 64)).any (fun i => lineClosed s (a / 64 + i))
  let new := if !closed then bs
    else (bs.zipIdx).map (fun p => if lineClosed s ((a + p.2) / 64) then memGet s.dram.mem (a + p.2) else p.1)
  { s with dram := { s.dram with mem := memWrite s.dram.mem a new } }

/-- Is a DRAM line read as poisoned (R554, R565)? -/
def linePoisoned (s : State) (l : Nat) : Bool := tabGet false s.dram.poison l || lineClosed s l

/-- Channel counters (Table 10.12). -/
def chanCount (c i n : Nat) (s : State) : State := count .channel c i n s

/-- Record an error in the log of 64 entries (R553). -/
def logDramError (a c kind : Nat) (s : State) : State :=
  let l := s.dram.errorLog ++ [{ address := a, channel := c, kind := kind, sheet := s.sh.sheet : DramError }]
  { s with dram := { s.dram with errorLog := l.drop (l.length - 64) } }

/-! ### Scheduling (R542-R550) -/

/-- Does a controller serve requests: populated, started, neither fenced nor in self-refresh? -/
def chanServes (s : State) (c : Nat) : Bool :=
  s.dram.started && !(chanState s c).fenced && !(chanState s c).selfRefresh &&
    (match s.dram.population with | some p => p.channels.getLsbD c | none => false)

/-- Field `i` of the timing table. -/
def timingOf (s : State) (i : Nat) : Nat := s.dram.timing.getD i 0

/-- tCK in 1/10,000 ns (Timing table). -/
def clockPeriod (s : State) : Nat :=
  match s.dram.population with
  | some p => (match p.speed with | 0 => 4167 | 1 => 3571 | _ => 3125)
  | none => 3125

/-- What the schedulers go by now. A burst takes the bus for tCCD_S (log entry 133). -/
def dramRules (s : State) : SchedRules :=
  { panic := s.dram.panic, wrHigh := s.dram.wrHigh, wrLow := s.dram.wrLow, age := s.dram.ageLimit * 10000 / clockPeriod s
    rrdL := timingOf s 11, rrdS := timingOf s 12, faw := timingOf s 13, burst := timingOf s 9 }

/-- A subchannel of a channel: A is 0, B is 1. -/
def subOfChan (x : DramChannel) (b : Nat) : SubChannel := if b = 0 then x.subA else x.subB
def setSubChan (c b : Nat) (q : SubChannel) (s : State) : State :=
  setChanState c (if b = 0 then { chanState s c with subA := q } else { chanState s c with subB := q }) s

/-- Count on a channel, when there is something to count. -/
def chanCountSome (c i n : Nat) (s : State) : State := if n = 0 then s else chanCount c i n s

/-- A subchannel takes the outcome of cycles of its scheduler (Table 10.12). -/
def putStep (c b : Nat) (x : SchedStep) (s : State) : State :=
  chanCountSome c 12 x.drains (chanCountSome c 5 x.activates (chanCountSome c 4 x.rowHits (setSubChan c b x.sub s)))

/-- Does a refresh of key `k` concern a bank: its rank, or in same-bank mode its rank and bank index (R548, R549)? -/
def refreshConcerns (k bank : Nat) : Bool := if k < 8 then bank / 32 == k else bank / 32 == (k - 8) / 4 && bank % 4 == (k - 8) % 4

/-- The banks of a refresh are precharged. -/
def closeRows (k : Nat) (q : SubChannel) : SubChannel := { q with rows := q.rows.filter (fun r => !refreshConcerns k r.1) }

/-- Issue every refresh that is owed for one rank or bank index (R548-R550). -/
def issueRefresh (c k : Nat) (s : State) : State :=
  let x := chanState s c
  chanCountSome c 6 (tabGet 0 x.owed k)
    (setChanState c { x with owed := tabErase x.owed k, subA := closeRows k x.subA, subB := closeRows k x.subB } s)

/-- The first choice of a scheduler: the refreshes of which 4 are postponed (R542, R550). -/
def issueDue (c : Nat) (s : State) : State :=
  ((chanState s c).owed.filter (fun o => decide (4 ≤ o.2))).foldl (fun a o => issueRefresh c o.1 a) s

/-- One cycle of a channel: a due refresh first, else each subchannel's scheduler takes a choice (R542). -/
def channelCycle (s : State) (c : Nat) : State :=
  if !chanServes s c then s
  else if (chanState s c).owed.any (fun o => decide (4 ≤ o.2)) then issueDue c s
  else [0, 1].foldl (fun a b => putStep c b ((subOfChan (chanState a c) b).cycle (dramRules a)) a) s

/-- One cycle of every controller. -/
def dramCycle (s : State) : State := (List.range 8).foldl channelCycle s

/-- Cycles of a subchannel until a condition holds, at most `n`. -/
def SubChannel.run (k : SchedRules) (done : SubChannel → Bool) : Nat → SchedStep → SchedStep
  | 0, x => x
  | n + 1, x =>
    if done x.sub then x
    else
      let y := x.sub.cycle k
      SubChannel.run k done n {
        sub := y.sub, rowHits := x.rowHits + y.rowHits, activates := x.activates + y.activates, drains := x.drains + y.drains }

/-- Cycles enough to serve every request of a queue. -/
def runBound (k : SchedRules) (q : SubChannel) : Nat := 4 * (q.queue.length + 1) * (k.faw + k.rrdL + 2)

/-- A controller that serves requests runs a subchannel until a condition holds. -/
def runSub (c b : Nat) (done : SubChannel → Bool) (s : State) : State :=
  if !chanServes s c then s
  else
    let s := issueDue c s
    let q := subOfChan (chanState s c) b
    putStep c b (SubChannel.run (dramRules s) done (runBound (dramRules s) q) { sub := q }) s

/-- Every queued request of a channel is served (R560). -/
def emptyQueues (c : Nat) (s : State) : State := [0, 1].foldl (fun a b => runSub c b (fun q => q.queue.isEmpty) a) s

/-- The subchannel of a line with the request for it; none beyond installed DRAM or without a population. -/
def lineRequest (s : State) (port : Nat) (write : Bool) (l : Nat) : Option (Nat × Nat × DramReq) :=
  match s.dram.population, dramPlace s (64 * l) with
  | some p, some (c, x) =>
    let d := dramDecode p x
    some (c, d.subchannel, { port := port, write := write, line := l, rank := d.rank, group := d.group, bank := d.bank, row := d.row
                             since := (subOfChan (chanState s c) d.subchannel).clock })
  | _, _ => none

/-- May a controller in self-refresh leave it: not in S2 entered from S1a or S1b (R692), nor after a trip (R758)? -/
def mayWake (s : State) : Bool := !s.pow.tripped && !(s.pow.current == .s2 && s.pow.s2Rest)

/-- A request has reached a controller in self-refresh: its exit begins, and SR_WAKE_REQUESTS counts it (R561, R562; log entry 162). -/
def wakeChan (c : Nat) (s : State) : State :=
  let x := chanState s c
  if x.selfRefresh && !x.waking && mayWake s then setChanState c { x with waking := true } (chanCount c 14 1 s) else s

/-- A request enters the queue of its bank; at a full queue the requester waits at its port until it has room (Scheduling). -/
def sendRequest (port : Nat) (write : Bool) (l : Nat) (s : State) : State :=
  if !s.dram.started then s
  else match lineRequest s port write l with
    | none => s
    | some (c, b, r) =>
      let s := runSub c b (fun q => q.room r) s
      let q := subOfChan (chanState s c) b
      setSubChan c b { q with queue := q.queue ++ [{ r with since := q.clock }] } s

/-- The reads of a port from one line are served: their data returns. -/
def serveLine (port l : Nat) (s : State) : State :=
  match lineRequest s port false l with
  | none => s
  | some (c, b, _) => runSub c b (fun q => !q.queue.any (fun r => !r.write && r.port == port && r.line == l)) s

/-- The lines that `n` bytes from a device address touch. -/
def linesOf (a n : Nat) : List Nat := if n = 0 then [] else (List.range ((a + n - 1) / 64 - a / 64 + 1)).map (a / 64 + ·)

/-- An access of a requester to one line: reads or writes, poisoned reads and fenced accesses are counted, and the request enters its
queue (Table 10.12, R554, R565). Before DRAM_START it is refused (R574); one to a controller in self-refresh waits at its port (R561). -/
def noteLine (port : Nat) (write : Bool) (l n : Nat) (s : State) : State :=
  match dramPlace s (64 * l) with
  | none => s
  | some (c, _) =>
    let x := chanState s c
    if !s.dram.started then s
    else if x.fenced then logDramError (64 * l) c 2 (chanCount c 13 1 s)
    else if x.selfRefresh then
      wakeChan c (setChanState c { x with waiting := x.waiting ++ [{ port := port, write := write, line := l, bytes := n }] } s)
    else
      let s := chanCount c (if write then 3 else 2) n (chanCount c (if write then 1 else 0) 1 s)
      sendRequest port write l (if !write && tabGet false s.dram.poison l then chanCount c 9 1 s else s)

/-- Requests of a port for `n` bytes from a device address, line by line. -/
def requestLines (port : Nat) (write : Bool) (a n : Nat) (s : State) : State :=
  (linesOf a n).foldl (fun x l => noteLine port write l (min (a + n) (64 * l + 64) - max a (64 * l)) x) s

/-- The data of a port's reads returns: they are served (R542). -/
def serveLines (port a n : Nat) (s : State) : State := (linesOf a n).foldl (fun x l => serveLine port l x) s

/-- A port's access to `n` bytes from a device address: its writes are queued, its reads served (R540, R542). -/
def noteAccess (port : Nat) (write : Bool) (a n : Nat) (s : State) : State :=
  let s := requestLines port write a n s
  if write then s else serveLines port a n s

/-- Lines of 64 bytes that a write of `n` bytes at `off` touches, and whether it replaces the whole line. -/
def touchedLines (off n : Nat) : List (Nat × Bool) :=
  if n = 0 then []
  else (List.range ((off + n - 1) / 64 - off / 64 + 1)).map (fun i =>
    (off / 64 + i, decide (off ≤ 64 * (off / 64 + i)) && decide (64 * (off / 64 + i) + 64 ≤ off + n)))

/-- A poison mark after a write: set by poisoned data, cleared by a whole unpoisoned line, else kept (R588, R589). -/
def poisonAfter (old whole bad : Bool) : Bool := bad || (old && !whole)

/-- A port writes bytes of DRAM, with a mark on poisoned data (R554-R556). -/
def dramWrite (port a : Nat) (bs : List Byte) (bad : Bool) (s : State) : State :=
  let s := noteAccess port true a bs.length (dramStore a bs s)
  { s with dram := { s.dram with poison := (touchedLines a bs.length).foldl (fun t l =>
    if lineClosed s l.1 then t else tabSet false t l.1 (poisonAfter (tabGet false t l.1) l.2 bad)) s.dram.poison } }

/-- The requests that waited at a controller's ports go on, in their order (R561). -/
def resumeWaits (c : Nat) (s : State) : State :=
  (chanState s c).waiting.foldl (fun a w => noteLine w.port w.write w.line w.bytes a)
    (setChanState c { chanState s c with waiting := [] } s)

/-- Does a byte range lie on a channel in self-refresh, where a request waits at its port (R561)? -/
def dramAsleep (s : State) (a n : Nat) : Bool :=
  (s.dram.chans.filter (fun c => c.2.selfRefresh)).any (fun c => onChannel s c.1 a n)

/-- What needs the data of some spans of DRAM happens when no controller of theirs is in self-refresh; before that their exits begin, and
it waits (R561). -/
def whenAwake (spans : List (Nat × Nat)) (f : State → State) (s : State) : State :=
  if spans.any (fun p => dramAsleep s p.1 p.2) then
    (List.range 8).foldl (fun a c => if spans.any (fun p => onChannel s c p.1 p.2) then wakeChan c a else a) s
  else f s

end Sys2Proof.Machine
end

