-- ==== Sys2Proof/Machine/CabinetOps.lean ====
section
/-!
DEFINITION. The Cabinet's shared operations: furnish banks, owner profiles, grants, handles, packet space, frees,
references and pins (03_vat_cabinet_and_queues.md).
-/
namespace Sys2Proof.Machine

/-! ### Banks -/

/-- The bank of a furnish number, current or old (R56). -/
def bankOf (s : State) (f : BitVec 8) : Option Bank :=
  if f = s.sh.furnish then some s.sh.cur
  else match s.sh.old with
    | some (g, b) => if g = f then some b else none
    | none => none

/-- The reset profile of an owner (text after Table 3.9). -/
def ownerReset (o : Nat) : OwnerProfile :=
  { drawer := if 64 ≤ o ∧ o ≤ 159 then 8 else 0
    lossless := (o < 32 && 6 ≤ o % 8) || o == 38 || o == 39 || o == 46 || o == 47
    spillEn := false, red := 0, min := 0, max := 4096, hr := 0, spillMax := 0, xoff := 2048, xon := 1024
    dropBudget := 0, budgetSheets := 1 }

/-- An owner's profile in a bank. -/
def ownerProf (b : Bank) (o : Nat) : OwnerProfile := (tabFind b.owners o).getD (ownerReset o)

/-- Is the owner one of the reserved owners (Table 3.3)? -/
def reservedOwner (o : Nat) : Bool :=
  (48 ≤ o && o ≤ 63) || (129 ≤ o && o ≤ 143) || (160 ≤ o && o ≤ 253) || 254 ≤ o

/-- The charge owner of a frame with an ingress port code and class (R166, Table 3.3). -/
def chargeOwner (port cls : Nat) : Nat := if port < 4 then 8 * port + cls else if port == 8 then 32 + cls else 40 + cls

/-! ### Ports' PFC maps -/

def portOf (s : State) (p : Nat) : Port := tabGet {} s.line.ports p
def setPort (p : Nat) (x : Port) (s : State) : State :=
  { s with line := { s.line with ports := tabSet {} s.line.ports p x } }
def subOf (s : State) (k : Nat) : Subport := tabGet {} s.line.subports k
def setSub (k : Nat) (x : Subport) (s : State) : State :=
  { s with line := { s.line with subports := tabSet {} s.line.subports k x } }
def updSub (k : Nat) (f : Subport → Subport) (s : State) : State := setSub k (f (subOf s k)) s

/-- Is PFC enabled for a class on a port, as PFC_CONFIG last set it (R188; log entry 148)? -/
def pfcEnabled (s : State) (p c : Nat) : Bool := (portOf s p).pfcEnable.getLsbD (natBits (portOf s p).classMap.toNat (3 * c) 3)

/-- The PFC settings in force on a subport: those of its port, or until its next frame boundary those that a PFC_CONFIG found in
force (R16, R768, Table 2.16). -/
def pfcConf (s : State) (k : Nat) : PfcConf :=
  let x := portOf s (k / 8)
  (subOf s k).pfcOld.getD { enable := x.pfcEnable, classMap := x.classMap, quanta := x.pfcQuanta, refresh := x.pfcRefresh }

/-- The PFC priority of a class on a subport (CLASS_MAP, R89). -/
def classPrio (s : State) (k c : Nat) : Nat := natBits (pfcConf s k).classMap.toNat (3 * c) 3

/-- Is PFC in force for a class on a subport? -/
def subPfc (s : State) (k c : Nat) : Bool := (pfcConf s k).enable.getLsbD (classPrio s k c)

/-! ### Drawers, groups and use -/

def groupOf (s : State) (g : Nat) : Group := tabGet {} s.cab.groups g
def setGroup (g : Nat) (x : Group) (s : State) : State :=
  { s with cab := { s.cab with groups := tabSet {} s.cab.groups g x } }
def ownerUse (s : State) (o : Nat) : OwnerUse := tabGet {} s.cab.owners o
def setOwnerUse (o : Nat) (x : OwnerUse) (s : State) : State :=
  { s with cab := { s.cab with owners := tabSet {} s.cab.owners o x } }
def updOwner (o : Nat) (f : OwnerUse → OwnerUse) (s : State) : State := setOwnerUse o (f (ownerUse s o)) s

/-- Size of a drawer (R169, R778). -/
def drawerSize (s : State) (d : Nat) : Nat := tabGet 0 s.cab.size d

/-- Sum of MIN and HR over the owners a bank maps to a drawer (unlisted owners have neither). -/
def drawerReserve (b : Bank) (d : Nat) : Nat :=
  (b.owners.filter (fun p => p.2.drawer.toNat == d)).foldl (fun a p => a + p.2.min.toNat + p.2.hr.toNat) 0

/-- Cells of the shared part of a drawer in use: each owner's cells beyond its reserved minimum (R170). -/
def sharedUse (s : State) (b : Bank) (d : Nat) : Nat :=
  (s.cab.use.filter (fun p => p.1 / 256 == d)).foldl
    (fun a p =>
      let q := ownerProf b (p.1 % 256)
      a + (p.2 - (if q.drawer.toNat == d then q.min.toNat else 0))) 0

/-- Free cells of the shared part of a drawer (R170). -/
def sharedFree (s : State) (b : Bank) (d : Nat) : Nat := drawerSize s d - drawerReserve b d - sharedUse s b d

/-- Free Vat cells and free spill cells of a group, on chip and in its rings (R210). -/
def vatFree (s : State) (g : Nat) : Nat := (groupOf s g).vatCache.length + (groupOf s g).vatCount
def spillFree (s : State) (g : Nat) : Nat := (groupOf s g).spillCache.length + (groupOf s g).spillCount

/-- The budgets of R170 for `n` Vat cells of owner `o` in drawer `d`. -/
def vatBudget (s : State) (b : Bank) (o d n : Nat) : Bool :=
  let p := ownerProf b o
  let u := (ownerUse s o).vat
  decide (u + n ≤ p.max.toNat) && decide (n - (p.min.toNat - u) ≤ sharedFree s b d)

/-- R171: may `n` spill cells be granted to owner `o`, the region's free cells apart? -/
def spillBudget (s : State) (b : Bank) (o n : Nat) : Bool :=
  let p := ownerProf b o
  p.spillEn && decide ((ownerUse s o).spill + n ≤ p.spillMax.toNat)

/-- A grant failed at a spill region without a free cell (R214). -/
def noteSpillFull (s : State) : State := raiseFirst 174 0 [] (count .cabinet 0 4 1 (setFlag 0x440 6 s))

/-- Is the owner held by the exposure budget: 8p + c, 32 + c and 40 + c with c in EVIDENCE_CLASSES (R496)? -/
def exposureHold (s : State) (o : Nat) : Bool := s.ev.xoff && decide (o < 48) && s.ev.classes.getLsbD (o % 8)

/-- Does XOFF hold for the owner (R181, R496)? -/
def ownerXoff (s : State) (o : Nat) : Bool := (ownerUse s o).xoff || exposureHold s o

/-- R172: do the budgets allow `n` cells from the owner's headroom? A frame with the evidence flag counts as one of a lossless
owner (R180; log entry 154). -/
def headroomBudget (s : State) (b : Bank) (o n : Nat) (lossless : Bool) : Bool :=
  lossless && (ownerXoff s o || s.sec.deviceFrozen) && decide ((ownerUse s o).headroom + n ≤ (ownerProf b o).hr.toNat)

/-! ### Free rings -/

/-- A free-ring entry (Table 3.5). -/
def ringEntry (g cell : Nat) (spill : Bool) : List Byte :=
  leBytes 4 (packNat [(cell, 24), (0, 3), (g, 3), (b2n spill, 1), (1, 1)])

/-- The cell of a free-ring entry, none when R209 discards it: VALID, GROUP and CELL decide. -/
def ringCell (s : State) (g : Nat) (spill : Bool) (e : Nat) : Option Nat :=
  let x := groupOf s g
  let c := natBits e 0 24
  if natBit e 31 && natBits e 27 3 == g &&
     (if spill then decide (c < x.spillCells) else decide (x.firstCell ≤ c) && decide (c < x.firstCell + x.cells))
  then some c else none

/-- The entries of a ring from its head, as numbers. -/
def ringRead (s : State) (base entries head n : Nat) : List Nat :=
  (List.range n).map (fun i => leNat (dramBytes s (base + 4 * ((head + i) % entries)) 4))

/-- A burst of `n` entries of a ring is read from an index on (port 1 of Table 10.5). -/
def noteRing (base entries from' n : Nat) (s : State) : State :=
  let n1 := min n (entries - from' % entries)
  noteAccess 1 false base (4 * (n - n1)) (noteAccess 1 false (base + 4 * (from' % entries)) (4 * n1) s)

/-- A burst of entries is written to a ring from an index on (port 1 of Table 10.5). -/
def ringPut (base entries from' : Nat) (bs : List Byte) (s : State) : State :=
  let n := 4 * (entries - from' % entries)
  dramWrite 1 base (bs.drop n) false (dramWrite 1 (base + 4 * (from' % entries)) (bs.take n) false s)

/-- Is a ring out of reach: before DRAM_START (R574), or left on a fenced channel, its cells then held on chip (R567; log entry 33)? -/
def ringShut (s : State) (base entries : Nat) : Bool :=
  !s.dram.started || (s.dram.chans.filter (fun c => c.2.fenced)).any (fun c => onChannel s c.1 base (4 * entries))

/-- Read up to 1,024 entries of a ring into its cache part (R208, R209). -/
def ringRefill (g : Nat) (spill : Bool) (s : State) : State :=
  let x := groupOf s g
  let (base, entries, head, cnt) :=
    if spill then (x.spillRing, x.spillEntries, x.spillHead, x.spillCount) else (x.vatRing, x.vatEntries, x.vatHead, x.vatCount)
  if ringShut s base entries then s else
  let n := min 1024 cnt
  let s := noteRing base entries head n s
  let es := ringRead s base entries head n
  let good := es.filterMap (ringCell s g spill)
  let bad := n - good.length
  let y := if spill then { x with spillCache := x.spillCache ++ good, spillHead := (head + n) % entries, spillCount := cnt - n }
    else { x with vatCache := x.vatCache ++ good, vatHead := (head + n) % entries, vatCount := cnt - n }
  let s := setGroup g y s
  if bad = 0 then s
  else (List.range bad).foldl (fun a _ => raise 163 [] (count .cabinet 0 3 1 a)) (setFlag 0x440 5 s)

/-- Write 1,024 entries of a cache part back to the ring's tail (R208). -/
def ringWriteBack (g : Nat) (spill : Bool) (s : State) : State :=
  let x := groupOf s g
  let (base, entries, head, cnt, cache) :=
    if spill then (x.spillRing, x.spillEntries, x.spillHead, x.spillCount, x.spillCache)
    else (x.vatRing, x.vatEntries, x.vatHead, x.vatCount, x.vatCache)
  if ringShut s base entries then s else
  let out := cache.take 1024
  let s := ringPut base entries (head + cnt) (out.flatMap (fun c => ringEntry g c spill)) s
  setGroup g (if spill then { x with spillCache := cache.drop 1024, spillCount := cnt + out.length }
    else { x with vatCache := cache.drop 1024, vatCount := cnt + out.length }) s

/-- Read a ring until its cache part holds `n` cells or the ring is empty, at most `k` bursts. -/
def topUpN : Nat → Nat → Bool → Nat → State → State
  | 0, _, _, _, s => s
  | k + 1, g, spill, n, s =>
    let x := groupOf s g
    if decide ((if spill then x.spillCache.length else x.vatCache.length) < n) && decide (0 < (if spill then x.spillCount else x.vatCount))
    then topUpN k g spill n (ringRefill g spill s) else s

/-- Read a group's ring until its cache part holds `n` cells or the ring is empty: the cells a grant may count on, the
entries that R209 discards not among them. -/
def topUp (g : Nat) (spill : Bool) (n : Nat) (s : State) : State :=
  topUpN ((if spill then (groupOf s g).spillCount else (groupOf s g).vatCount) / 1024 + 1) g spill n s

/-- R170: are `n` Vat cells ready for owner `o` of drawer `d`: its budgets allow them and its group has them free (R210)? -/
def readyVat (b : Bank) (o d n : Nat) (s : State) : Bool × State :=
  if vatBudget s b o d n then
    let s := topUp (d / 8) false n s
    (decide (n ≤ vatFree s (d / 8)), s)
  else (false, s)

/-- R171: are `n` spill cells ready for owner `o` of drawer `d`? A region without a free cell is reported (R214). -/
def readySpill (b : Bank) (o d n : Nat) (s : State) : Bool × State :=
  if spillBudget s b o n then
    let s := topUp (d / 8) true n s
    if n ≤ spillFree s (d / 8) then (true, s)
    else (false, if spillFree s (d / 8) = 0 then noteSpillFull s else s)
  else (false, s)

/-- R172: are `n` cells of the owner's headroom ready? -/
def readyHeadroom (b : Bank) (o d n : Nat) (lossless : Bool) (s : State) : Bool × State :=
  if headroomBudget s b o n lossless then
    let s := topUp (d / 8) false n s
    (decide (n ≤ vatFree s (d / 8)), s)
  else (false, s)

/-- Take `n` free cells of a group from its cache part. -/
def takeCells (g : Nat) (spill : Bool) (n : Nat) (s : State) : List Nat × State :=
  let x := groupOf s g
  if spill then (x.spillCache.take n, setGroup g { x with spillCache := x.spillCache.drop n } s)
  else (x.vatCache.take n, setGroup g { x with vatCache := x.vatCache.drop n } s)

/-- Return cells to a group's cache part; a group whose rings await CABINET_INIT takes none (R210). -/
def giveCells (g : Nat) (spill : Bool) (cs : List Nat) (s : State) : State :=
  let x := groupOf s g
  if !x.filled then s
  else setGroup g (if spill then { x with spillCache := x.spillCache ++ cs } else { x with vatCache := x.vatCache ++ cs }) s

/-! ### XOFF -/

/-- Subports of arrival of the frames charged to an owner that hold cells, as a mask (R183). -/
def ownerSubports (s : State) (o : Nat) : BitVec 32 :=
  s.cab.handles.foldl (fun a p =>
    if p.2.charge.toNat == o && !p.2.cells.isEmpty then
      match p.2.subport with | some k => a ||| BitVec.ofNat 32 (2 ^ k) | none => a
    else a) 0

/-- After a grant to owner `o`: XOFF when u(o) + v(o) reaches XOFF(o) (R181, R183), and the peak of its use. -/
def afterGrant (b : Bank) (o : Nat) (s : State) : State :=
  let x := ownerUse s o
  let s := countMax .owner o 11 (x.vat + x.spill) s
  if !x.xoff && decide ((ownerProf b o).xoff.toNat ≤ x.vat + x.spill) then
    let s := updOwner o (fun y => { y with xoff := true }) s
    if o < 32 then
      let s := { s with cab := { s.cab with pfcOn := tabUpd 0 s.cab.pfcOn o (fun m => m ||| ownerSubports s o) } }
      if pfcEnabled s (o / 8) (o % 8) then raise (168 + o / 8) [] s else s
    else s
  else s

/-! ### Handles -/

def handleOf (s : State) (i : Nat) : Handle := tabGet {} s.cab.handles i
def setHandle (i : Nat) (h : Handle) (s : State) : State :=
  { s with cab := { s.cab with handles := tabSet {} s.cab.handles i h } }
def updHandle (i : Nat) (f : Handle → Handle) (s : State) : State := setHandle i (f (handleOf s i)) s

/-- INDEX of a handle (Table 3.1). -/
def hIndex (h : HandleWord) : Nat := natBits h.toNat 0 20

/-- Is the handle null or stale (R157)? -/
def staleHandle (s : State) (h : HandleWord) : Bool :=
  h == nullHandle || decide (786431 < hIndex h) || BitVec.ofNat 4 (h.toNat / 2 ^ 20) != (handleOf s (hIndex h)).gen

/-- Count an operation on a stale or null handle (R158). -/
def noteStale (s : State) : State := raise 161 [] (count .cabinet 0 1 1 (setFlag 0x440 3 s))

/-- Count a refused free or transfer (R197). -/
def noteRefusedFree (h : HandleWord) (owner requester : Nat) (s : State) : State :=
  raise 160 [(h.toNat, 32), (owner, 8), (requester, 16)] (count .cabinet 0 0 1 (setFlag 0x440 2 s))

/-- Count a reference count error (R203). -/
def noteRefError (s : State) : State := raise 162 [] (count .cabinet 0 2 1 (setFlag 0x440 4 s))

/-- The first free index from a place on. -/
def freeIndexFrom (s : State) : Nat → Nat → Nat
  | 0, i => i
  | n + 1, i => if (handleOf s i).kind = .free then i else freeIndexFrom s n ((i + 1) % 786432)

/-- The index the Cabinet takes for a new handle: a free one, which one is left open (log entry 10). -/
def pickIndex (s : State) : Nat := freeIndexFrom s s.cab.handles.length (freeNow s % 786432)

/-- The handle word of an index. -/
def handleWord (s : State) (i : Nat) : HandleWord := BitVec.ofNat 24 ((handleOf s i).gen.toNat * 2 ^ 20 + i)

/-- How the cells of a grant are accounted. -/
inductive Pay where
  | vat | spill | headroom
  deriving DecidableEq, Repr

/-- Add `n` cells to the use of an owner in a drawer, or take them off (R170-R173). -/
def chargeUse (o d n : Nat) (p : Pay) (s : State) : State :=
  match p with
  | .vat => updOwner o (fun x => { x with vat := x.vat + n })
      { s with cab := { s.cab with use := tabUpd 0 s.cab.use (d * 256 + o) (· + n) } }
  | .spill => updOwner o (fun x => { x with spill := x.spill + n }) s
  | .headroom => updOwner o (fun x => { x with headroom := x.headroom + n }) s

def dischargeUse (o d n : Nat) (p : Pay) (s : State) : State :=
  match p with
  | .vat => updOwner o (fun x => { x with vat := x.vat - n })
      { s with cab := { s.cab with use := tabUpd 0 s.cab.use (d * 256 + o) (· - n) } }
  | .spill => updOwner o (fun x => { x with spill := x.spill - n }) s
  | .headroom => updOwner o (fun x => { x with headroom := x.headroom - n }) s

/-- Give a handle cells in the named slots, charged to its charge owner and drawer (R161, R162). -/
def addCells (i : Nat) (slots : List Nat) (p : Pay) (s : State) : State :=
  let h := handleOf s i
  let g := h.drawer / 8
  let r := takeCells g (p == .spill) slots.length s
  let s := chargeUse h.charge.toNat h.drawer slots.length p r.2
  let cells := (slots.zip r.1).foldl (fun t q =>
    tabPut t q.1 (g * 2 ^ 32 + q.2, if p = .spill then (groupOf s g).spillBase + 256 * q.2 else s.cab.nextAlloc)) h.cells
  setHandle i { h with cells := cells, headroom := if p = .headroom then h.headroom + slots.length else h.headroom }
    { s with cab := { s.cab with nextAlloc := s.cab.nextAlloc + 1 } }

/-- Take an index for a new handle; GEN counts reuses (Table 3.1). -/
def newHandle (f : Handle → Handle) (s : State) : Nat × State :=
  let i := pickIndex s
  let g := (handleOf s i).gen
  (i, setHandle i (f { gen := if (handleOf s i).used then g + 1 else g, used := true }) (drawFree s))

/-! ### Packet space -/

/-- The byte of a handle at a packet offset (R160, R163, R165): the receive record, a stored byte, that of a spilled
handle's cell in DRAM, or 0 where the slot holds no cell. A byte of a Vat cell in which nothing was stored is open (log
entry 7). -/
def pktByte (s : State) (h : Handle) (off : Nat) : Byte :=
  if 16352 ≤ off then (if h.kind = .packet then h.record.getD (off - 16352) 0 else 0)
  else match tabFind h.cells (off / 256) with
    | none => 0
    | some c => if h.spilled then dramByte s (c.2 + off % 256) else (tabFind h.data off).getD (Config.cellByte c.2 off)

/-- The spans of DRAM that hold `n` bytes of a spilled handle's packet space: address and length. -/
def spillSpans (h : Handle) (off n : Nat) : List (Nat × Nat) :=
  if !h.spilled then []
  else h.cells.filterMap (fun q =>
    let lo := max off (256 * q.1)
    let hi := min (off + n) (256 * q.1 + 256)
    if lo < hi then some (q.2.2 + lo % 256, hi - lo) else none)

/-- The spill engine's reads of a spilled handle's cells for `n` bytes of packet space reach DRAM (port 0 of Table 10.5). -/
def noteSpillRead (h : Handle) (off n : Nat) (s : State) : State :=
  (spillSpans h off n).foldl (fun a p => noteAccess 0 false p.1 p.2 a) s

/-- `n` bytes of packet space. -/
def pktRead (s : State) (h : Handle) (off n : Nat) : List Byte := (List.range n).map (fun i => pktByte s h (off + i))

/-- A handle with bytes stored in packet space. A store of a whole 64-byte line clears its poison; a store of part of a
poisoned line leaves it poisoned (R590). -/
def pktStore (h : Handle) (off : Nat) (bs : List Byte) : Handle :=
  { h with data := (bs.zipIdx).foldl (fun t q =>
    if h.lost.getLsbD ((off + q.2) / 64) then t else tabPut t (off + q.2) q.1) h.data }

/-- Is line `l` of a handle poisoned: by its mark, in a lost cell, or, of a spilled handle, in DRAM (R554, R565, R588)? -/
def pktLineBad (s : State) (h : Handle) (l : Nat) : Bool :=
  (h.poison ||| h.lost).getLsbD l || (h.spilled && (match tabFind h.cells (l / 4) with
    | some c => linePoisoned s ((c.2 + 64 * (l % 4)) / 64)
    | none => false))

/-- Poisoned lines among bytes `off` to `off + n - 1`. -/
def pktPoisoned (s : State) (h : Handle) (off n : Nat) : Bool :=
  decide (0 < n) && (List.range ((off + n - 1) / 64 - off / 64 + 1)).any (fun i => pktLineBad s h (off / 64 + i))

/-- Has the handle a poisoned line anywhere? -/
def holdsPoison (s : State) (h : HandleWord) : Bool :=
  let x := handleOf s (hIndex h)
  (x.poison ||| x.lost) != 0 || (x.spilled && (List.range 256).any (pktLineBad s x))

/-! ### Frees -/

/-- Lines of packet space outside the named slots. -/
def keptLines (slots : List Nat) : BitVec 256 :=
  slots.foldl (fun m i => m &&& ~~~ BitVec.ofNat 256 (15 * 2 ^ (4 * i))) (BitVec.allOnes 256)

/-- Free the cells in the named slots of a handle now (R173), and mark progress of the drawer (Table 6.11); a free of a retired spill cell
is discarded without effect: it returns nothing to a ring or to a budget (R567; log entry 165). -/
def freeSlots (i : Nat) (slots : List Nat) (s : State) : State :=
  let h := handleOf s i
  let gone := h.cells.filter (fun c => slots.contains c.1)
  let back := gone.filter (fun c => !natBit c.2.1 31)
  let n := back.length
  let kept := h.cells.filter (fun c => !slots.contains c.1)
  let fromHr := min n h.headroom
  let s := back.foldl (fun a c => giveCells (c.2.1 / 2 ^ 32) h.spilled [c.2.1 % 2 ^ 32] a) s
  let s := if h.spilled then dischargeUse h.charge.toNat h.drawer n .spill s
    else dischargeUse h.charge.toNat h.drawer (n - fromHr) .vat (dischargeUse h.charge.toNat h.drawer fromHr .headroom s)
  let s := setHandle i { h with
    cells := kept, headroom := if h.spilled then h.headroom else h.headroom - fromHr
    data := h.data.filter (fun p => !slots.contains (p.1 / 256))
    poison := h.poison &&& keptLines slots, lost := h.lost &&& keptLines slots } s
  if n = 0 then s else progress (waitsDrawer h.drawer) s

/-- A spilled frame's head cell leaves the prefetch buffer at dispatch, or with its handle (R212). -/
def dropHead (i : Nat) (s : State) : State :=
  let h := handleOf s i
  if h.headHeld then
    setHandle i { h with headHeld := false } { s with cab := { s.cab with prefetch := s.cab.prefetch - 256 } }
  else s

/-- Release an index: it becomes free (R196, R202). -/
def releaseIndex (i : Nat) (s : State) : State :=
  updHandle i (fun h => { gen := h.gen, used := true : Handle }) (dropHead i s)

/-- Free a whole handle, or defer the free to the last pin (R202, R206). -/
def freeHandle (i : Nat) (s : State) : State :=
  if (handleOf s i).pins = 0 then releaseIndex i (freeSlots i (List.range 64) s)
  else updHandle i (fun h => { h with deferAll := true }) s

/-- Remove one reference of a packet handle, freeing it at zero (R202); refused at a count of 0 (R203). -/
def dropRef (i : Nat) (s : State) : State :=
  let h := handleOf s i
  if h.kind ≠ .packet || h.refs = 0 then noteRefError s
  else
    let s := setHandle i { h with refs := h.refs - 1 } s
    if h.refs = 1 then freeHandle i s else s

/-- Remove a reference named by a handle word; a stale handle is counted (R158). -/
def dropRefWord (h : HandleWord) (s : State) : State := if staleHandle s h then noteStale s else dropRef (hIndex h) s

/-- May one reference be added (R203)? -/
def canRef (s : State) (i : Nat) : Bool :=
  decide ((handleOf s i).kind = .packet) && decide ((handleOf s i).refs < 4095)

/-- Add one reference. -/
def addRef (i : Nat) (s : State) : State := updHandle i (fun h => { h with refs := h.refs + 1 }) s

/-- Pin a handle (R205). -/
def addPin (i : Nat) (s : State) : State := updHandle i (fun h => { h with pins := h.pins + 1 }) s

/-- Remove a pin; at the last one a deferred free is performed (R206). -/
def dropPin (i : Nat) (s : State) : State :=
  let s := updHandle i (fun h => { h with pins := h.pins - 1 }) s
  let h := handleOf s i
  if h.pins ≠ 0 then s
  else if h.deferAll then releaseIndex i (freeSlots i (List.range 64) s)
  else if h.deferSlots ≠ 0 then
    let s := freeSlots i (maskList 64 h.deferSlots.toNat) (setHandle i { h with deferSlots := 0 } s)
    if (handleOf s i).cells.isEmpty then releaseIndex i s else s
  else s

end Sys2Proof.Machine
end

