-- ==== Sys2Proof/Machine/EccOps.lean ====
section
/-!
DEFINITION. What a read of an ECC memory finds: words corrected, and the Vat's and the context store's uncorrectable words
(11_integrity_and_fault_containment.md; R579, R580, R583). An upset has no row: a state holds the words that have one (log entry 138).
-/
namespace Sys2Proof.Machine

/-- `n` words of a memory were corrected: 0 Vat, 1 instruction store, 2 data memory, 3 contexts, 4 Dovetail (R579, Table 12.12). -/
def noteCorrected (memory n : Nat) (s : State) : State :=
  if n = 0 then s
  else raiseFirst 480 0 [(memory, 8)] (bumpTotal ([0x610, 0x620, 0x628, 0x630, 0x638].getD memory 0) n (setFlag 0x600 0 s))

/-- The Vat words that `n` bytes of a handle's packet space reach: the line of packet space, the cell, none for the receive record, and
the word's key. -/
def vatWords (i : Nat) (h : Handle) (off n : Nat) : List (Nat × Option Nat × Nat) :=
  (List.range ((off + n + 7) / 8 - off / 8)).filterMap (fun j =>
    let a := 8 * (off / 8 + j)
    if 16352 ≤ a then (if h.kind = .packet then some (a / 64, none, 2 ^ 40 + 4 * i + (a - 16352) / 8) else none)
    else if h.spilled then none
    else (tabFind h.cells (a / 256)).map (fun c => (a / 64, some (c.1 % 2 ^ 32), c.1 % 2 ^ 32 * 32 + a % 256 / 8)))

/-- A Vat line is poisoned for an uncorrectable word in it, whose cell is reported; a record lies in no cell, and what stands for its cell
is open (R580; log entry 138). -/
def poisonVatLine (i : Nat) (w : Nat × Option Nat × Nat) (s : State) : State :=
  let s := setHandle i { handleOf s i with poison := (handleOf s i).poison ||| BitVec.ofNat 256 (2 ^ w.1) } s
  let s := bumpTotal 0x614 1 (setFlag 0x600 1 s)
  match w.2.1 with
  | some c => raise 481 [(c, 32)] s
  | none => raise 481 [(freeNow s % 2 ^ 24, 32)] (drawFree s)

/-- One of each line, in order. -/
def oncePerLine : List (Nat × Option Nat × Nat) → List (Nat × Option Nat × Nat)
  | [] => []
  | w :: r => if r.any (fun v => v.1 == w.1) then oncePerLine r else w :: oncePerLine r

/-- A read of `n` bytes of a handle's packet space checks the words it reads (R579, R580). -/
def checkVat (i off n : Nat) (s : State) : State :=
  if s.cab.vatWeak.isEmpty && s.cab.vatBad.isEmpty then s
  else
    let ws := vatWords i (handleOf s i) off n
    let hit := fun (l : List Nat) => ws.filter (fun w => l.contains w.2.2)
    let left := fun (l : List Nat) => l.filter (fun k => !ws.any (fun w => w.2.2 == k))
    let weak := hit s.cab.vatWeak
    let bad := oncePerLine (hit s.cab.vatBad)
    let s := { s with cab := { s.cab with vatWeak := left s.cab.vatWeak, vatBad := left s.cab.vatBad } }
    bad.foldl (fun a w => poisonVatLine i w a) (noteCorrected 0 weak.length s)

/-- A write of `n` bytes of a handle's packet space encodes its words anew; of a word it replaces in part it reads the rest. -/
def renewVat (i off n : Nat) (s : State) : State :=
  if s.cab.vatWeak.isEmpty && s.cab.vatBad.isEmpty then s
  else
    let s := if off % 8 = 0 then s else checkVat i (off / 8 * 8) 8 s
    let s := if (off + n) % 8 = 0 then s else checkVat i ((off + n) / 8 * 8) 8 s
    let ws := vatWords i (handleOf s i) off n
    let left := fun (l : List Nat) => l.filter (fun k => !ws.any (fun w => w.2.2 == k))
    { s with cab := { s.cab with vatWeak := left s.cab.vatWeak, vatBad := left s.cab.vatBad } }

/-- Keys of the words of a context that `n` bytes reach. -/
def ctxWords (c off n : Nat) : List Nat := (List.range ((off + n + 7) / 8 - off / 8)).map (fun j => 32 * c + off / 8 + j)

/-- Line `l` of a context is poisoned for an uncorrectable word in it (R583). -/
def poisonCtxLine (c l : Nat) (s : State) : State :=
  let s := { s with disp := { s.disp with ctxPoison := tabSet false s.disp.ctxPoison (4 * c + l) true } }
  raise 486 [(c, 32)] (bumpTotal 0x634 1 (setFlag 0x600 3 s))

/-- A read of `n` bytes of a context checks the words it reads (R579, R583). -/
def checkCtx (c off n : Nat) (s : State) : State :=
  if s.disp.ctxWeak.isEmpty && s.disp.ctxUe.isEmpty then s
  else
    let ws := ctxWords c off n
    let weak := s.disp.ctxWeak.filter (fun k => ws.contains k)
    let lines := (List.range 4).filter (fun l => s.disp.ctxUe.any (fun k => ws.contains k && k / 8 == 4 * c + l))
    let s := { s with disp := { s.disp with
      ctxWeak := s.disp.ctxWeak.filter (fun k => !ws.contains k), ctxUe := s.disp.ctxUe.filter (fun k => !ws.contains k) } }
    lines.foldl (fun a l => poisonCtxLine c l a) (noteCorrected 3 weak.length s)

/-- A write of `n` bytes of a context encodes its words anew; of a word it replaces in part it reads the rest. -/
def renewCtx (c off n : Nat) (s : State) : State :=
  if s.disp.ctxWeak.isEmpty && s.disp.ctxUe.isEmpty then s
  else
    let s := if off % 8 = 0 then s else checkCtx c (off / 8 * 8) 8 s
    let s := if (off + n) % 8 = 0 then s else checkCtx c ((off + n) / 8 * 8) 8 s
    let ws := ctxWords c off n
    { s with disp := { s.disp with
      ctxWeak := s.disp.ctxWeak.filter (fun k => !ws.contains k), ctxUe := s.disp.ctxUe.filter (fun k => !ws.contains k) } }

/-- A read of a core's data-memory words corrects those it can (R579); `keys` names them. -/
def checkDmem (keys : List Nat) (s : State) : State :=
  if s.cores.dmemWeak.isEmpty then s
  else
    let weak := s.cores.dmemWeak.filter (fun k => keys.contains k)
    noteCorrected 2 weak.length { s with cores := { s.cores with dmemWeak := s.cores.dmemWeak.filter (fun k => !keys.contains k) } }

/-- A read of instruction words corrects those it can (R579). -/
def checkImem (keys : List Nat) (s : State) : State :=
  if s.cores.imemWeak.isEmpty then s
  else
    let weak := s.cores.imemWeak.filter (fun k => keys.contains k)
    noteCorrected 1 weak.length { s with cores := { s.cores with imemWeak := s.cores.imemWeak.filter (fun k => !keys.contains k) } }

/-- Cell parity errors on the datapath: direction 0 ingress, 1 egress (R590, R591, Table 12.12);
an injected frame's port is 8 (log entry 140). -/
def noteCellParity (direction port n : Nat) (s : State) : State :=
  if n = 0 then s
  else (List.range n).foldl (fun a _ => raise 488 [(direction, 8), (port, 8)] a) (bumpTotal 0x618 n (setFlag 0x600 5 s))

end Sys2Proof.Machine
end

