-- ==== Sys2Proof/Machine/EgressOps.lean ====
section
/-!
DEFINITION. Copies of released outputs, egress queues and exception-ring slots (03_vat_cabinet_and_queues.md,
Replication; 12_host_port_and_mailboxes.md, Exception rings).
-/
namespace Sys2Proof.Machine

/-! ### Exception rings -/

def exrOf (s : State) (r : Nat) : ExrRing := tabGet {} s.host.exr r
def setExr (r : Nat) (x : ExrRing) (s : State) : State :=
  { s with host := { s.host with exr := tabSet {} s.host.exr r x } }

/-- Is an exception ring full, or disabled, which counts as full (R638, R765)? -/
def exrFull (s : State) (r : Nat) : Bool :=
  !(exrOf s r).enabled || ringFull s (exrOf s r).head (exrOf s r).tail (exrOf s r).entries

/-- What an exception slot carries (Table 12.13). -/
structure ExrFrame where
  reason : Nat
  poisoned : Bool
  /-- Does the frame byte at an index come from a poisoned line? -/
  bad : Nat → Bool := fun _ => poisoned
  /-- Frame bytes from the destination address, without the FCS. -/
  bytes : List Byte
  frameLength : Nat
  pipe : Nat
  cls : Nat
  arrival : Sheet
  rule : Nat
  map : Nat
  record : List Byte
  /-- Is the line of packet space that holds the receive record poisoned? -/
  recordBad : Bool := false

/-- The bytes of an exception slot (R634, Table 12.13). -/
def exrSlot (shift : Nat) (f : ExrFrame) : List Byte :=
  let stored := min (f.frameLength - 4) (2 ^ shift - 64)
  let trunc := decide (2 ^ shift - 64 < f.frameLength - 4)
  layout [(f.reason, 1), (b2n trunc + 2 * b2n f.poisoned, 1), (stored, 2), (f.frameLength, 2), (f.pipe, 1), (f.cls, 1),
    (f.arrival.toNat, 6), (f.rule, 2), (f.map, 2)] ++ zeros 14 ++ (f.record ++ zeros 32).take 32 ++ f.bytes.take stored

/-- Write one frame into the slot at EXR_TAIL, advance the tail and write it to TAIL_WB (R634, R635). -/
def exrWrite (r : Nat) (f : ExrFrame) (s : State) : State :=
  let x := exrOf s r
  let trunc := decide (2 ^ x.slotShift - 64 < f.frameLength - 4)
  let tail := (x.tail + 1) % x.entries
  let s := hostWriteBad (x.address + BitVec.ofNat 64 (x.tail * 2 ^ x.slotShift)) (exrSlot x.slotShift f)
    (fun i => if i < 64 then decide (32 ≤ i) && f.recordBad else f.bad (i - 64)) s
  let s := setExr r { x with tail := tail, frames := x.frames + 1, bytes := x.bytes + (f.frameLength - 4) } s
  let s := hostWrite x.tailWb (leBytes 4 tail) s
  let s := count .host 0 7 1 s
  let s := if trunc then count .host 0 8 1 s else s
  markCause (2 + r) s

/-- The exception frame of a copy (R220, Table 12.13). -/
def copyFrame (s : State) (c : Copy) : ExrFrame :=
  let h := handleOf s (hIndex c.handle)
  { reason := c.reason, poisoned := pktPoisoned s h c.start c.len, bad := fun i => pktLineBad s h ((c.start + i) / 64)
    bytes := pktRead s h c.start (c.len - 4)
    frameLength := c.len, pipe := c.pipe, cls := c.cls.toNat, arrival := c.arrival, rule := c.rule, map := c.map
    record := h.record, recordBad := pktLineBad s h 255 }

/-- Write a copy to its exception ring and remove its reference when the DMA ends (R216, R636); a copy whose handle is
stale is refused (R158). -/
def exrCopy (r : Nat) (c : Copy) (s : State) : State :=
  if staleHandle s c.handle then noteStale s
  else
    let h := handleOf s (hIndex c.handle)
    let s := checkVat (hIndex c.handle) 16352 32 (checkVat (hIndex c.handle) c.start c.len s)
    let s := noteSpillRead h c.start c.len s
    dropRefWord c.handle (exrWrite r (copyFrame s c) s)

/-- A copy or emit reaches its exception ring: written at once, or waiting behind others or for room (R636, R637). -/
def exrArrive (r : Nat) (c : Copy) (s : State) : State :=
  let w := tabGet [] s.cab.exrWait r
  if w.isEmpty && !exrFull s r then exrCopy r c s
  else { s with cab := { s.cab with exrWait := tabSet [] s.cab.exrWait r (w ++ [c]) } }

/-- Write the copies that wait at a ring while it has room, at most `n` of them (R637). -/
def exrDrainN : Nat → Nat → State → State
  | 0, _, s => s
  | n + 1, r, s =>
    match tabGet [] s.cab.exrWait r with
    | [] => s
    | c :: w =>
      if exrFull s r then s
      else exrDrainN n r (exrCopy r c { s with cab := { s.cab with exrWait := tabSet [] s.cab.exrWait r w } })

/-- Write every waiting copy of a ring there is room for. -/
def exrDrain (r : Nat) (s : State) : State := exrDrainN (tabGet [] s.cab.exrWait r).length r s

/-! ### Egress queues -/

/-- Key of queue `q` of subport `k` (8 × port + subport). -/
def queueKey (k q : Nat) : Nat := k * 8 + q

def queueOf (s : State) (k q : Nat) : List Copy := tabGet [] s.cab.queues (queueKey k q)
def setQueue (k q : Nat) (l : List Copy) (s : State) : State :=
  { s with cab := { s.cab with queues := tabSet [] s.cab.queues (queueKey k q) l } }

/-- The subport that takes over for a subport that is down, when SUBPORT_FAILOVER enables one (R601, Table 11.7). -/
def failoverOf (s : State) (k : Nat) : Option Nat :=
  let r := tabGet 0 s.failover (k / 8)
  let f := natBits r.toNat (4 * (k % 8)) 4
  if natBit f 3 then some (8 * (k / 8) + f % 8) else none

/-- The failover target of a subport that is down, while that is up; a subport that is not of the port's mode has no link
(R601). -/
def failoverTarget (s : State) (k : Nat) : Option Nat :=
  if (subOf s k).linkUp then none
  else match failoverOf s k with
    | some j => if (subOf s j).linkUp then some j else none
    | none => none

/-- A refilled copy that leaves its queue gives its bytes of the prefetch buffer back (R213). -/
def leavePrefetch (c : Copy) (s : State) : State :=
  if c.refilled then { s with cab := { s.cab with prefetch := s.cab.prefetch - c.len } } else s

/-- Remove a copy's reference, sent or not. -/
def dropCopy (c : Copy) (s : State) : State := dropRefWord c.handle (leavePrefetch c s)

/-- Enqueue a copy on a queue of a subport, or discard it where no link is up (R215). -/
def enqueueCopy (k q : Nat) (c : Copy) (s : State) : State :=
  if !(subOf s k).linkUp then dropCopy c (count .queue (queueKey k q) 4 1 s)
  else
    let l := queueOf s k q ++ [{ c with order := s.cab.nextOrder }]
    let s := countMax .queue (queueKey k q) 5 l.length (count .queue (queueKey k q) 0 1 s)
    setQueue k q l { s with cab := { s.cab with nextOrder := s.cab.nextOrder + 1 } }

/-! ### Fields of an action entry (Table 2.12) -/

def actWord (a : BitVec 128) (w lo n : Nat) : Nat := natBits a.toNat (32 * w + lo) n
def actCode (a : BitVec 128) : Nat := actWord a 0 29 3
def actControlRing (a : BitVec 128) : Nat := actWord a 0 8 4
def actMirrorSub (a : BitVec 128) : Nat := actWord a 0 5 3
def actMirrorPort (a : BitVec 128) : Nat := actWord a 0 0 4

/-- Where a copy goes. -/
inductive Dest where
  | queue (sub q : Nat)
  | ring (r reason map : Nat)
  deriving DecidableEq, Repr

/-- The scheduling profile of a subport in a bank. -/
def schedProf (b : Bank) (k : Nat) : SchedProfile := tabGet {} b.scheds k

/-- The destinations of the mirror part of an action: MIRROR_QUEUE of the mirror target, or CONTROL_RING when
MIRROR_PORT is 8 (R220, Table 2.13). -/
def mirrorDest (b : Bank) (a : BitVec 128) : Dest :=
  if actMirrorPort a < 4 then
    let k := 8 * actMirrorPort a + actMirrorSub a
    .queue k ((schedProf b k).mirrorQueue.toNat % 8)
  else .ring (actControlRing a) 5 0

/-- The destinations of one output, in the order of R215. -/
def outputDests (b : Bank) (x : Item) (o : Staged) : List Dest :=
  let e := (tabGet 0 b.egress o.map).toNat
  let q := if natBit e 35 then x.cls.toNat else natBits e 32 3
  let plain := (maskList 32 (natBits e 0 32)).map (fun k => Dest.queue k q) ++
    (if natBit e 44 then [.ring (natBits e 40 4) 6 o.map] else [])
  match actCode x.action with
  | 4 => if x.isEvent then plain else [mirrorDest b x.action]
  | 5 => if x.isEvent then plain else plain ++ [.ring (actControlRing x.action) 4 0]
  | 6 => if x.isEvent then plain else plain ++ [mirrorDest b x.action]
  | _ => plain

/-- Does a list of destinations name a subport? -/
def namesSub (l : List Dest) (j : Nat) : Bool := l.any (fun d => match d with | .queue i _ => i == j | .ring .. => false)

/-- The destinations with each subport that is down resolved to its failover target, which takes no second copy (R601). -/
def resolveDests (s : State) (l : List Dest) : List Dest :=
  l.foldl (fun acc d => match d with
    | .queue k q => match failoverTarget s k with
      | some j => if namesSub l j || namesSub acc j then acc else acc ++ [.queue j q]
      | none => acc ++ [d]
    | .ring .. => acc ++ [d]) []

/-- Is a frame one of a lossless owner: evidence, or charged to an owner that the bank of its stamp marks lossless (R177, R180, R218)? -/
def frameLossless (s : State) (b : Bank) (x : Item) (h : HandleWord) : Bool :=
  x.evidence || (ownerProf b (handleOf s (hIndex h)).charge.toNat).lossless

/-- The copy of an output for a destination (R58, R220, R774); an emit of an event item has no action and no rule in its slot (Table 12.13). -/
def mkCopy (s : State) (b : Bank) (x : Item) (o : Staged) (d : Dest) : Copy :=
  let c : Copy :=
    { handle := o.handle, start := o.start, len := o.len, opts := o.opts, cls := x.cls, port := x.port
      lossless := frameLossless s b x o.handle, evidence := x.evidence, sheet := s.sh.sheet, residue := 0, rule := x.rule, pipe := x.pipe
      arrival := x.arrival }
  match d with
  | .queue k _ => { c with residue := (schedProf b k).residue.toNat }
  | .ring r reason map =>
    let c := { c with residue := (exrOf s r).residue, reason := reason, map := map }
    if x.isEvent then { c with cls := 0, pipe := (Config.eventPipe x.domain x.seq).val } else c

/-- Send one copy on its way. -/
def sendCopy (d : Dest) (c : Copy) (s : State) : State :=
  match d with
  | .queue k q => enqueueCopy k q c s
  | .ring r _ _ => exrArrive r c s

/-- Add one reference for each further copy of an output; a copy whose increment is refused under R158 or R203 is not
made (R215). -/
def addCopyRefs (h : HandleWord) : List Dest → State → List Dest × State
  | [], s => ([], s)
  | d :: r, s =>
    if staleHandle s h then addCopyRefs h r (noteStale s)
    else if !canRef s (hIndex h) then addCopyRefs h r (noteRefError s)
    else
      let q := addCopyRefs h r (addRef (hIndex h) s)
      (d :: q.1, q.2)

/-- Release one output: its copies in the order of R215, the first using the reference EMIT added. An output with no
copy to make gives its reference back. -/
def releaseOutput (b : Bank) (x : Item) (o : Staged) (s : State) : State :=
  match resolveDests s (outputDests b x o) with
  | [] => dropRefWord o.handle s
  | d :: r =>
    let q := addCopyRefs o.handle r s
    (d :: q.1).foldl (fun a e => sendCopy e (mkCopy a b x o e) a) q.2

end Sys2Proof.Machine
end

