-- ==== Sys2Proof/Machine/ContextOps.lean ====
section
/-!
DEFINITION. Flow contexts: the context store, the cores' context caches, migration and eviction (R249-R251), and the
evidence losses counted in a stream's context (R475, R476).
-/
namespace Sys2Proof.Machine

/-- The core in whose cache a context is resident. -/
def residentCore (s : State) (c : Nat) : Option Nat :=
  match tabGet 0 s.disp.resident c with
  | 0 => none
  | n + 1 => some n

/-- The affinity core of a context (R244). -/
def affinityCore (s : State) (c : Nat) : Option Nat :=
  match tabGet 0 s.disp.affinity c with
  | 0 => none
  | n + 1 => some n

/-- Bytes of a context's resident copy: the cached one, else the store's. -/
def ctxRead (s : State) (c off n : Nat) : List Byte :=
  match residentCore s c with
  | some _ => tabRead 0 s.disp.ctxCopy (256 * c + off) n
  | none => tabRead 0 s.disp.ctxStore (256 * c + off) n

/-- Store bytes in a context's resident copy; a line written whole loses its poison (R588). -/
def ctxWrite (c off : Nat) (bs : List Byte) (s : State) : State :=
  let s := renewCtx c off bs.length s
  let whole := (touchedLines off bs.length).filter (·.2)
  let s := { s with disp := { s.disp with ctxPoison := whole.foldl (fun t l => tabSet false t (4 * c + l.1) false) s.disp.ctxPoison } }
  match residentCore s c with
  | some _ => { s with disp := { s.disp with ctxCopy := tabWrite 0 s.disp.ctxCopy (256 * c + off) bs } }
  | none => { s with disp := { s.disp with ctxStore := tabWrite 0 s.disp.ctxStore (256 * c + off) bs } }

/-- Write a resident context back to the store and take it out of its cache (R250, R251). -/
def ctxWriteBack (c : Nat) (s : State) : State :=
  match residentCore s c with
  | none => s
  | some n =>
    let s := checkCtx c 0 256 s
    let bs := tabRead 0 s.disp.ctxCopy (256 * c) 256
    { s with disp := { s.disp with
        ctxStore := tabWrite 0 s.disp.ctxStore (256 * c) bs
        ctxCopy := tabClear s.disp.ctxCopy (256 * c) 256
        resident := tabSet 0 s.disp.resident c 0
        lru := tabUpd [] s.disp.lru n (fun l => l.filter (· != c)) } }

/-- Drop a resident context whose cache entry is lost: the store copy stands (R260). -/
def ctxDiscard (c : Nat) (s : State) : State :=
  match residentCore s c with
  | none => s
  | some n =>
    { s with disp := { s.disp with
        ctxCopy := tabClear s.disp.ctxCopy (256 * c) 256
        resident := tabSet 0 s.disp.resident c 0
        ctxBad := s.disp.ctxBad.filter (· != c), ctxUe := s.disp.ctxUe.filter (fun k => k / 32 != c)
        lru := tabUpd [] s.disp.lru n (fun l => l.filter (· != c)) } }

/-- Is a thread at work for an item, or a handler: not FREE, and not frozen out of FREE? -/
def atWork (x : Thread) : Bool := match x.st with | .free => false | .frozen => decide (x.before ≠ .free) | _ => true

/-- Does an item in flight on the core, or a handler of a terminated item there, use the context (R251)? -/
def ctxBusyOn (s : State) (c core : Nat) : Bool :=
  (List.range 8).any (fun i => atWork (thr s (8 * core + i)) && (thr s (8 * core + i)).ctx = some (BitVec.ofNat 14 c))

/-- Make room in a core's cache: evict the least recently used context with no item in flight there (R251). -/
def ctxEvict (core : Nat) (s : State) : State :=
  let l := tabGet [] s.disp.lru core
  if l.length < 32 then s
  else match l.find? (fun c => !ctxBusyOn s c core) with
    | some c => ctxWriteBack c s
    | none => s

/-- A use of a resident context: it is its cache's most recently used (R251; log entry 158). -/
def ctxTouch (c : Nat) (s : State) : State :=
  match residentCore s c with
  | none => s
  | some n => { s with disp := { s.disp with lru := tabUpd [] s.disp.lru n (fun l => l.filter (· != c) ++ [c]) } }

/-- Bring a context into a core's cache, migrating it from another core (R249, R250), most recently used. -/
def ctxLoad (c core : Nat) (s : State) : State :=
  let s := if residentCore s c = some core then s
    else
      let s := checkCtx c 0 256 (ctxEvict core (ctxWriteBack c s))
      { s with disp := { s.disp with
          ctxCopy := tabWrite 0 s.disp.ctxCopy (256 * c) (tabRead 0 s.disp.ctxStore (256 * c) 256)
          resident := tabSet 0 s.disp.resident c (core + 1) } }
  ctxTouch c s

/-- Add one to a big-endian 4-byte count in a context (R475). -/
def ctxCount4 (c off : Nat) (s : State) : State :=
  let s := checkCtx c off 4 s
  ctxWrite c off (beBytes 4 (beNat (ctxRead s c off 4) + 1)) s

/-- Is a stream open in the context (R473)? -/
def streamOf (s : State) (c : Nat) : Option Stream :=
  match tabFind s.ev.streams c with
  | some x => if x.isOpen then some x else none
  | none => none

/-- Count an orphan report (R476). -/
def noteOrphan (s : State) : State := raise 331 [] (count .evidence 0 10 1 (setFlag 0x580 7 s))

/-- Report the loss of an evidence packet that arrived in a sheet (R53, R475, R476). -/
def evidenceLoss (c : Nat) (arrival : Sheet) (s : State) : State :=
  match streamOf s c with
  | none => noteOrphan s
  | some x =>
    let s := ctxCount4 c 172 s
    let s := { s with ev := { s.ev with streams := tabPut s.ev.streams c { x with lastLoss := arrival } } }
    raiseFirst 323 0 [(c, 32)] (count .evidence 0 8 1 (setFlag 0x580 1 s))

/-- Report a poisoned evidence packet (R257, R475, R476). -/
def evidencePoison (c : Nat) (s : State) : State :=
  match streamOf s c with
  | none => noteOrphan s
  | some _ => count .evidence 0 9 1 (ctxCount4 c 176 s)

end Sys2Proof.Machine
end

