-- ==== Sys2Proof/Machine/DispatchOps.lean ====
section
/-!
DEFINITION. The dispatcher and the resequencer: placement and delivery of items, voids, releases and late counts
(04_dispatch_and_resequencing.md; 01_sheets_windows_and_furnish.md, Late items).
-/
namespace Sys2Proof.Machine

/-- Key of the item with a sequence number in a domain. -/
def itemKey (domain seq : BitVec 16) : Nat := domain.toNat * 65536 + seq.toNat

def itemOf (s : State) (k : Nat) : Option Item := tabFind s.disp.items k
def putItem (k : Nat) (x : Item) (s : State) : State := { s with disp := { s.disp with items := tabPut s.disp.items k x } }
def dropItem (k : Nat) (s : State) : State := { s with disp := { s.disp with items := tabErase s.disp.items k } }

/-- Change an item in flight. -/
def updItem (k : Nat) (f : Item → Item) (s : State) : State :=
  match itemOf s k with
  | some x => putItem k (f x) s
  | none => s

/-- Is the item complete or voided? -/
def Item.ended (x : Item) : Bool := decide (x.place = .ended)

/-- Items in flight that name a context (04_dispatch_and_resequencing.md, Placement). -/
def ctxInFlight (s : State) (c : BitVec 14) : Nat := (s.disp.items.filter (fun p => p.2.ctx == c && !p.2.voided)).length

/-- Event items in flight (R229). -/
def eventsInFlight (s : State) : Nat := (s.disp.items.filter (fun p => p.2.isEvent && !p.2.voided)).length

/-- Is a domain frozen: does it hold a late item still in flight (R45, R50)? -/
def domainFrozen (s : State) (d : BitVec 16) : Bool := s.disp.items.any (fun p => p.2.domain == d && p.2.late)

/-! ### Late counts -/

/-- Count on the late counters of a port code and class; the count stands in them from the tick that closes the sheet (R76, R151). -/
def countLate (port : BitVec 6) (cls : BitVec 3) (i : Nat) (s : State) : State :=
  { s with sh := { s.sh with lateAcc := tabUpd 0 s.sh.lateAcc ((port.toNat * 8 + cls.toNat) * 4 + i) (· + 1) } }

/-- One late drop (R43); an evidence item's is reported to its stream (R53, log entry 38). -/
def lateDrop (x : Item) (s : State) : State :=
  let s := countLate x.port x.cls 0 (bumpTotal 0x410 1 s)
  if x.evidence then evidenceLoss x.ctx.toNat x.arrival s else s

/-- One late loss (R48, R49); an evidence item's is reported to its stream (R53). -/
def lateLoss (x : Item) (s : State) : State :=
  let s := countLate x.port x.cls 2 (bumpTotal 0x414 1 s)
  if x.evidence then evidenceLoss x.ctx.toNat x.arrival s else s

/-- One late item completed within its ceiling (R776, Table 1.5). -/
def lateResumed (x : Item) (s : State) : State := countLate x.port x.cls 1 (bumpTotal 0x418 1 s)

/-- Does a thread's item carry a stamp that matches neither bank (R57)? -/
def stampLost (s : State) (t : Nat) : Bool :=
  match (thr s t).item with
  | none => false
  | some k => match itemOf s k with
    | none => false
    | some x => (bankOf s x.furnish).isNone

/-! ### Voids and releases -/

/-- Take an item off every waiting list. -/
def unlist (k : Nat) (s : State) : State :=
  { s with disp := { s.disp with
      affLists := (s.disp.affLists.map (fun p => (p.1, p.2.filter (· != k)))).filter (fun p => !p.2.isEmpty)
      globalLists := (s.disp.globalLists.map (fun p => (p.1, p.2.filter (· != k)))).filter (fun p => !p.2.isEmpty) } }

/-- An item whose stamp matches no bank: event source 452, and a frame counts in its pipeline's STAMP_VOID (R57). -/
def noteStampVoid (x : Item) (s : State) : State :=
  raise 452 [] (if x.isEvent then s else count .pipe (min x.port.toNat 4) 10 1 s)

/-- Send the outputs of a released item (R252, R253); one whose stamp matches no bank has none (R57). -/
def releaseItem (k : Nat) (x : Item) (s : State) : State :=
  let s := dropItem k s
  let s := { s with disp := { s.disp with nextRelease := tabSet 0 s.disp.nextRelease x.domain.toNat (x.seq + 1) } }
  if x.voided then s
  else match bankOf s x.furnish with
    | none => x.staged.foldl (fun a o => dropRefWord o.handle a) (noteStampVoid x s)
    | some b => x.staged.foldl (fun a o => releaseOutput b x o a) (count .dispatch 0 7 1 s)

/-- Release the run of ended items at the front of a domain (R253, R254), at most `n` of them. -/
def releaseRun : Nat → BitVec 16 → State → State
  | 0, _, s => s
  | n + 1, d, s =>
    let k := itemKey d (tabGet 0 s.disp.nextRelease d.toNat)
    match itemOf s k with
    | none => s
    | some x => if x.ended && !domainFrozen s d then releaseRun n d (releaseItem k x s) else s

/-- Release what a domain can release (R253, R254). -/
def releaseDomain (d : BitVec 16) (s : State) : State := releaseRun s.disp.items.length d s

/-- A late item ends: the present sheet is no whole sheet without a frozen domain for the ports and classes of its domain's
items, unless the item ends among the actions of the tick that opens it (R51). -/
def noteThaw (x : Item) (s : State) : State :=
  if !x.late then s
  else { s with sh := { s.sh with ceilingXoff := s.sh.ceilingXoff.map (fun p =>
    if s.disp.items.any (fun q => q.2.domain == x.domain && q.2.port.toNat == p.1 / 64 && q.2.cls.toNat == p.1 % 8)
    then (p.1, if s.sh.tickOwed then s.sh.sheet else s.sh.sheet + 1) else p) } }

/-- End an item in flight: it leaves its list, is no longer late, and waits for its turn (R253); its context has been in use until now
(R251). -/
def endItem (k : Nat) (f : Item → Item) (s : State) : State :=
  match itemOf s k with
  | none => s
  | some x =>
    let s := match x.place with | .onThread _ => ctxTouch x.ctx.toNat s | _ => s
    releaseDomain x.domain (putItem k { f x with place := .ended, late := false } (unlist k (noteThaw x s)))

/-- Void an item: its staged outputs are discarded and the reference it has held since admission is removed (R255). -/
def voidItem (k : Nat) (s : State) : State :=
  match itemOf s k with
  | none => s
  | some x =>
    let s := x.staged.foldl (fun a o => dropRefWord o.handle a) s
    let s := if x.isEvent then s else dropRefWord x.handle s
    endItem k (fun y => { y with voided := true, staged := [] }) s

/-- Void an item counted under a dispatch counter. -/
def voidCounted (k i : Nat) (s : State) : State := voidItem k (count .dispatch 0 i 1 s)

/-! ### Dispatch map and placement -/

/-- Map entry index of an item: 8 × S + CLASS (R237). -/
def mapIndex (x : Item) : Nat :=
  let p := x.port.toNat
  8 * (if x.isEvent then 6 else if p < 4 then p else if p == 8 then 4 else 5) + x.cls.toNat

def mapClusters (m : BitVec 32) : Nat := natBits m.toNat 0 8
def mapThreads (m : BitVec 32) : Nat := natBits m.toNat 8 8
def mapEntry (m : BitVec 32) : Nat := natBits m.toNat 16 8
def mapPrio (m : BitVec 32) : Nat := natBits m.toNat 24 3

/-- May the item run on core `n` (04_dispatch_and_resequencing.md, Placement)? A gated cluster counts as having no free
thread (R685), and a device freeze stops dispatch (Table 14.6). -/
def allowedCore (s : State) (m : BitVec 32) (n : Nat) : Bool :=
  natBit (mapClusters m) (n / 8) && !s.disp.fenced.getLsbD (n / 8) && !s.disp.frozen.getLsbD (n / 8) &&
  !s.sec.deviceFrozen && !s.pow.gated.getLsbD (n / 8)

/-- May a thread take an item: free with no lookup of a reset awaited, eligible under THREADS, no supervisor (R245, Table 6.6)? -/
def threadFree (s : State) (m : BitVec 32) (t : Nat) : Bool :=
  decide ((thr s t).st = .free) && !(thr s t).awaiting && natBit (mapThreads m) (t % 8) && !isSupervisor s t

/-- The free threads of a core for an item, lowest first. -/
def freeThreads (s : State) (m : BitVec 32) (n : Nat) : List Nat :=
  ((List.range 8).map (8 * n + ·)).filter (threadFree s m)

/-- Free threads of an allowed core, 0 of any other. -/
def freeCount (s : State) (m : BitVec 32) (n : Nat) : Nat :=
  if allowedCore s m n then (freeThreads s m n).length else 0

/-- Wake one gated cluster that items of a map entry may run on, when fewer than `n` threads of its ungated clusters are free. -/
def wakeBelow (m : BitVec 32) (n : Nat) (s : State) : State :=
  let free := ((List.range 64).map (freeCount s m)).foldl (· + ·) 0
  match (List.range 8).find? (fun c => natBit (mapClusters m) c && s.pow.gated.getLsbD c && !s.disp.fenced.getLsbD c) with
  | some c => if free < n then
      { s with pow := { s.pow with gated := s.pow.gated &&& ~~~ BitVec.ofNat 8 (2 ^ c) } } else s
  | none => s

/-- An item enters, or goes to a global list: a gated cluster wakes when free threads are below WAKE_THREADS or there is none (R685). -/
def wakeFor (m : BitVec 32) (s : State) : State := wakeBelow m (max 1 s.pow.policy.wakeThreads) s

/-- START and DEADLINE of an entry in a thread's cluster (Table 4.4, R240, R241). -/
def entryOf (b : Bank) (cluster e : Nat) : BitVec 16 × BitVec 16 :=
  let w := (tabGet 0 b.entries (cluster * 256 + e)).toNat
  (BitVec.ofNat 16 (natBits w 0 16), BitVec.ofNat 16 (natBits w 16 16))

/-- The multiplies of a thread in flight have landed: MH and ML hold the last result (R309-R311). -/
def landMuls (x : Thread) : Thread :=
  x.muls.foldl (fun y r => mendSpecials [5, 6] { y with mh := r.mh, ml := r.ml }) { x with muls := [] }

/-- Lookups that a thread's ended item left outstanding: they land in their registers, no longer pending (R240; log entry 117). -/
def agedLookups (t : Nat) (s : State) : State :=
  { s with lk := { s.lk with ops := s.lk.ops.map (fun p => if p.2.thread = t then (p.1, { p.2 with old := true }) else p) } }

/-- Deliver an item to a thread (R239-R241, R249, R272, R322, R777). -/
def deliver (k t : Nat) (x : Item) (s : State) : State :=
  match bankOf s x.furnish with
  | none => noteStampVoid x (voidItem k s)
  | some b =>
    let s := ctxLoad x.ctx.toNat (coreOf t) s
    let e := entryOf b (clusterOf t) (mapEntry x.map)
    let s := putItem k { x with place := .onThread t, lateWaiting := false } s
    let old := landMuls (thr s t)
    let s := agedLookups t s
    let s := if x.isEvent then s else dropHead (hIndex x.handle) s
    let y : Thread := { old with
      st := .ready, stall := .none, after := .none, pending := [], item := some k, dd := [x.dd0, x.dd1, x.dd2, x.dd3], ctx := some x.ctx
      pc := if x.lateWaiting then e.2 else e.1
      psnmask := false, psn := false, rsm := false, hdl := x.lateWaiting
      dl := x.deadline.setWidth 36
      hnd := if x.isEvent then [] else tabSet nullHandle [] 0 x.handle
      epc := if x.lateWaiting then e.1 else 0
      ecause := if x.lateWaiting then 0x20 else 0
      awaiting := x.lateWaiting && s.lk.ops.any (fun p => p.2.thread == t && p.2.async)
      deadlinePc := e.2, prio := BitVec.ofNat 3 (mapPrio x.map), terminated := false, handlerCount := 0, broke := none
      g := tabSet 0 (tabSet 0 (tabSet 0 (tabSet 0 old.g 1 x.dd0) 2 x.dd1) 3 x.dd2) 4 x.dd3
      badRegs := old.badRegs.filter (fun r => !([1, 2, 3, 4, 33, 36, 44, 45, 46, 47, 48, 49].contains r)) }
    let s := { s with disp := { s.disp with affinity := tabSet 0 s.disp.affinity x.ctx.toNat (coreOf t + 1) } }
    let s := markProgress 8 (markProgress (clusterOf t) s)
    walk (coreOf t) (setThr t y s)

/-- Run an item on a core's lowest free thread, counted under a placement counter; the thread it takes may leave fewer than WAKE_THREADS free
(R685). -/
def runOn (k n i : Nat) (x : Item) (s : State) : State :=
  match freeThreads s x.map n with
  | t :: _ => wakeBelow x.map s.pow.policy.wakeThreads (deliver k t x (count .dispatch 0 i 1 s))
  | [] => s

/-- Append an item to the affinity list of a core. -/
def waitAffinity (k n : Nat) (x : Item) (s : State) : State :=
  let s := putItem k { x with place := .affinity n } (count .dispatch 0 5 1 s)
  { s with disp := { s.disp with affLists := tabUpd [] s.disp.affLists n (· ++ [k]) } }

/-- Append an item to the global list of its priority. -/
def waitGlobal (k : Nat) (x : Item) (s : State) : State :=
  let s := putItem k { x with place := .global (mapPrio x.map) } (count .dispatch 0 6 1 s)
  { s with disp := { s.disp with globalLists := tabUpd [] s.disp.globalLists (mapPrio x.map) (· ++ [k]) } }

/-- Other items in flight of the item's context. -/
def ctxOthers (s : State) (k : Nat) (x : Item) : Nat :=
  (s.disp.items.filter (fun p => p.1 != k && p.2.ctx == x.ctx && !p.2.voided)).length

/-- Cores after `a` in its cluster, in the order the pseudocode scans them. -/
def scanFrom (a : Nat) : List Nat := (List.range 7).map (fun i => a / 8 * 8 + (a % 8 + 1 + i) % 8)

/-- The core the pseudocode chooses when the affinity core takes no item: in the same cluster, else in the allowed
cluster with the most free threads; with its placement counter. `free` numbers the free threads of each core. -/
def chooseCore (free : Nat → Nat) (aff : Option Nat) : Option (Nat × Nat) :=
  let near := match aff with
    | some a => match argMax free ((scanFrom a).filter (fun n => decide (0 < free n))) with
      | some n => some (n, 3)
      | none => none
    | none => none
  match near with
  | some r => some r
  | none =>
    let total := fun c => ((List.range 8).map (fun i => free (8 * c + i))).foldl (· + ·) 0
    match argMax total ((List.range 8).filter (fun c => decide (0 < total c))) with
    | none => none
    | some c => match argMax free ((List.range 8).map (8 * c + ·)) with
      | some n => some (n, 4)
      | none => none

/-- Place an item, counting the free threads of each core by `free` (R244; 04_dispatch_and_resequencing.md, Placement). -/
def placeBy (free : Nat → Nat) (k : Nat) (x : Item) (s : State) : State :=
  let a := affinityCore s x.ctx.toNat
  match a with
  | some n =>
    if ctxOthers s k x > 0 then
      if 0 < free n then runOn k n 2 x s else waitAffinity k n x s
    else if 0 < free n then runOn k n 2 x s
    else match chooseCore free a with
      | some (c, i) => runOn k c i x s
      | none => waitGlobal k x s
  | none =>
    match chooseCore free a with
    | some (c, i) => runOn k c i x s
    | none => waitGlobal k x s

/-- Place an item that enters the dispatcher. -/
def place (k : Nat) (x : Item) (s : State) : State := placeBy (freeCount s x.map) k x s

/-- Free threads of a core for an item of a global list: none on a core whose thread holds an inherited priority, unless no other
allowed core has a free thread (R247). -/
def globalFree (s : State) (m : BitVec 32) (n : Nat) : Nat :=
  if (boostThread s n).isSome && (List.range 64).any (fun i => i != n && decide (0 < freeCount s m i)) then 0 else freeCount s m n

/-! ### Entering items -/

/-- Has the item no cluster it may run on (R238)? -/
def noCluster (s : State) (m : BitVec 32) : Bool :=
  mapThreads m == 0 || (List.range 8).all (fun c => !natBit (mapClusters m) c || s.disp.fenced.getLsbD c)

/-- Discard an item whose domain holds 32,768 items (R232). -/
def seqLimit (x : Item) (s : State) : State :=
  let s := if x.isEvent then s else dropRefWord x.handle s
  let s := raiseFirst 192 0 [] (count .dispatch 0 9 1 (setFlag 0x480 0 s))
  if x.isEvent || x.lossless then lateLoss x s else s

/-- The window W of a furnish (R37). -/
def windowOf (s : State) (f : BitVec 8) : Nat := match bankOf s f with | some b => b.window.toNat | none => 1

/-- DD2 and DD3 of an item (Table 4.1). -/
def dd2Of (d seq : BitVec 16) : Word36 := BitVec.ofNat 36 (packNat [(d.toNat, 16), (seq.toNat, 16)])
def dd3Of (arrival : Sheet) (f : BitVec 8) (ctx : BitVec 14) : Word36 :=
  BitVec.ofNat 36 (packNat [(ctx.toNat, 14), (f.toNat, 8), (arrival.toNat, 14)])

/-- An item enters the dispatcher: sequence number, map entry and placement (R231, R232, R237, R238, R244). -/
def enterItem (x : Item) (s : State) : State :=
  let s := count .dispatch 0 (if x.isEvent then 1 else 0) 1 s
  let s := if x.isEvent then trace 1 255 4095 x.source.toNat (markProgress 8 s) else s
  let next := tabGet 0 s.disp.nextAssign x.domain.toNat
  if (next - tabGet 0 s.disp.nextRelease x.domain.toNat).toNat = 32768 then seqLimit x s
  else
    let k := itemKey x.domain next
    let x := { x with order := s.disp.nextOrder }
    let s := { s with disp := { s.disp with
      nextAssign := tabSet 0 s.disp.nextAssign x.domain.toNat (next + 1), nextOrder := s.disp.nextOrder + 1 } }
    match bankOf s x.furnish with
    | none => noteStampVoid x (voidItem k (putItem k { x with seq := next, place := .global 0 } s))
    | some b =>
      let m := tabGet 0 b.dmap (mapIndex x)
      let y := { x with seq := next, dd2 := dd2Of x.domain next, map := m, place := .global 0 }
      if noCluster s m then
        let s := raiseFirst 195 0 [] (setFlag 0x480 1 s)
        let s := if x.evidence then evidenceLoss x.ctx.toNat x.arrival s else s
        voidCounted k 10 (putItem k y s)
      else place k y (wakeFor m (putItem k y s))

/-- An event item of the present furnish and sheet (R55, Table 4.2). -/
def eventItem (s : State) (e : EventReq) : Item :=
  let w := windowOf s s.sh.furnish
  { isEvent := true, cls := e.cls, port := 16, source := e.source, domain := e.domain, seq := 0
    furnish := s.sh.furnish, arrival := s.sh.sheet, window := w, deadline := s.sh.sheet + BitVec.ofNat 48 w
    ctx := e.ctx, evidence := false, lossless := true, rule := 0xFFFF
    dd0 := BitVec.ofNat 36 (packNat [(e.data0.toNat, 24), (16, 6), (e.cls.toNat, 3)])
    dd1 := BitVec.ofNat 36 (packNat [(e.source.toNat, 9), (0, 5), (e.data1.toNat, 14)])
    dd2 := 0, dd3 := dd3Of s.sh.sheet s.sh.furnish e.ctx, place := .global 0 }

/-- Is there a place for another event item (R229)? -/
def eventRoom (s : State) : Bool := decide (eventsInFlight s < 4096)

/-- A coprocessor or store completion enters the dispatcher, or waits at its unit (R230). -/
def completionEvent (e : EventReq) (s : State) : State :=
  if s.disp.eventWait.isEmpty && eventRoom s then enterItem (eventItem s e) s
  else { s with disp := { s.disp with eventWait := s.disp.eventWait ++ [e] } }

end Sys2Proof.Machine
end

