-- ==== Sys2Proof/Machine/MemOps.lean ====
section
/-!
DEFINITION. Writes to packet space, flow contexts and DRAM with their poison (R588, R589, R554-R556), and the cores'
data memories and store buffers (R281, R294).
-/
namespace Sys2Proof.Machine

/-- Does a DRAM range touch a poisoned line? -/
def dramPoisoned (s : State) (a n : Nat) : Bool := (touchedLines a n).any (fun l => linePoisoned s l.1)

/-- Write bytes of a Vat handle's packet space, with a mark on poisoned data. -/
def vatWrite (i off : Nat) (bs : List Byte) (bad : Bool) (s : State) : State :=
  let s := renewVat i off bs.length s
  let h := pktStore (handleOf s i) off bs
  setHandle i { h with poison := (touchedLines off bs.length).foldl (fun p l =>
    if poisonAfter (p.getLsbD l.1) l.2 bad then p ||| BitVec.ofNat 256 (2 ^ l.1)
    else p &&& ~~~ BitVec.ofNat 256 (2 ^ l.1)) h.poison } s

/-- Write the bytes that fall in one slot of a spilled handle to its cell in DRAM, the lines of lost cells apart (R212,
R540, R565). -/
def spillSlot (h : Handle) (off : Nat) (bs : List Byte) (bad : Bool) (slot : Nat) (s : State) : State :=
  match tabFind h.cells slot with
  | none => s
  | some c =>
    (List.range 4).foldl (fun a i =>
      let lo := max off (256 * slot + 64 * i)
      let hi := min (off + bs.length) (256 * slot + 64 * i + 64)
      if lo < hi ∧ !h.lost.getLsbD (4 * slot + i) then dramWrite 0 (c.2 + lo % 256) (bytesAt bs (lo - off) (hi - lo)) bad a else a) s

/-- Write bytes of packet space, with a mark on poisoned data: in the Vat, or through the spill engine in DRAM (R165, R212). -/
def pktWrite (i off : Nat) (bs : List Byte) (bad : Bool) (s : State) : State :=
  let h := handleOf s i
  if h.spilled then
    ((List.range 64).filter (fun k => decide (off / 256 ≤ k) && decide (256 * k < off + bs.length))).foldl
      (fun a k => spillSlot h off bs bad k a) s
  else vatWrite i off bs bad s

/-- Is a range of a context poisoned? -/
def ctxPoisoned (s : State) (c off n : Nat) : Bool :=
  (touchedLines off n).any (fun l => tabGet false s.disp.ctxPoison (c * 4 + l.1))

/-- Key of a core's data-memory word. -/
def dmemKey (core a : Nat) : Nat := core * 32768 + a
/-- Report an uncorrectable data-memory word that was read (R582). -/
def noteDmemUe (core a : Nat) (s : State) : State := raise 485 [(core, 8), (a, 32)] (setFlag 0x600 2 (bumpTotal 0x62C 1 s))
/-- A data-memory word (R281). -/
def dmemGet (s : State) (core a : Nat) : Word36 := tabGet 0 s.cores.dmem (dmemKey core a)
/-- Write a data-memory word. An uncorrectable word stays so but for STW and DMEM_WRITE (R582). -/
def dmemPut (core a : Nat) (v : Word36) (s : State) : State :=
  { s with cores := { s.cores with
      dmem := tabSet 0 s.cores.dmem (dmemKey core a) v
      dmemWeak := s.cores.dmemWeak.filter (· != dmemKey core a) } }
/-- Write consecutive data-memory words. -/
def dmemPuts (core a : Nat) (vs : List Word36) (s : State) : State :=
  (vs.zipIdx).foldl (fun x p => dmemPut core (a + p.2) p.1 x) s

/-- Write consecutive data-memory words as STW and DMEM_WRITE do, which write an uncorrectable word anew (R582). -/
def dmemStore (core a : Nat) (vs : List Word36) (s : State) : State :=
  let s := dmemPuts core a vs s
  { s with cores := { s.cores with
      dmemBad := s.cores.dmemBad.filter (fun k => !(decide (dmemKey core a ≤ k) && decide (k < dmemKey core a + vs.length))) } }

/-! ### DRAM windows (R283-R285) -/

/-- The window of a DRAM address. -/
def windowFor (s : State) (t ea : Nat) : DramWindow :=
  tabGet {} s.cores.windows (clusterOf t * 16 + natBits ea 32 4)

/-- Does a DRAM access raise WINDOW (R284)? -/
def windowBad (s : State) (t ea n : Nat) (store : Bool) : Bool :=
  let w := windowFor s t ea
  !w.enable || decide (w.pages.toNat * 4096 < natBits ea 0 32 + n) || !(if store then w.write else w.read)

/-- The device DRAM address of a window address (R283). -/
def windowAddr (s : State) (t ea : Nat) : Nat := (windowFor s t ea).base.toNat + natBits ea 0 32

/-! ### Store buffers -/

/-- Perform one buffered store (R294). A store to a handle that has been released meanwhile is refused (R158);
one to DRAM uses its window as it now stands, and reaches nothing through a window that no longer allows it (R285; log entry 120). -/
def drainEntry (e : StoreEntry) (s : State) : State :=
  match e.space with
  | 0 =>
    let h := BitVec.ofNat 24 e.object
    if staleHandle s h then noteStale s
    else if (tabFind (handleOf s (hIndex h)).cells (e.address / 256)).isNone then s
    else pktWrite (hIndex h) e.address e.bytes false s
  | 1 => ctxWrite e.object e.address e.bytes (ctxTouch e.object s)
  | _ =>
    if windowBad s e.object e.address e.bytes.length true then s
    else dramWrite 3 (windowAddr s e.object e.address) e.bytes false s

/-- Drain a thread's store buffer (R287, Table 6.6). -/
def drainStores (t : Nat) (s : State) : State :=
  let x := thr s t
  x.stores.foldl (fun a e => drainEntry e a) (setThr t { x with stores := [] } s)

/-- Put a store into a thread's store buffer of 8 entries; a full buffer first drains its oldest entry (R294). -/
def pushStore (t : Nat) (e : StoreEntry) (s : State) : State :=
  let s := if (thr s t).stores.length < 8 then s
    else match (thr s t).stores with
      | [] => s
      | o :: r => drainEntry o (updThr t (fun x => { x with stores := r }) s)
  updThr t (fun x => { x with stores := x.stores ++ [e] }) s

/-! ### Growth of a handle and waiting allocation (R162, R193-R195) -/

/-- The bank a thread's requests are judged by: that of its item's stamp (R56), or the current one (log entry 16). -/
def threadBank (s : State) (t : Nat) : Bank :=
  match (thr s t).item with
  | some k => match itemOf s k with
    | some x => (bankOf s x.furnish).getD s.sh.cur
    | none => s.sh.cur
  | none => s.sh.cur

/-- Slots without a cell among those that `n` bytes at an offset reach. -/
def missingSlots (h : Handle) (off n : Nat) : List Nat :=
  ((List.range 64).filter (fun i => decide (off / 256 ≤ i) && decide (i ≤ (off + n - 1) / 256))).filter
    (fun i => (tabFind h.cells i).isNone)

/-- Are a handle's growth cells ready: Vat or spill cells, as its other cells are (R162, R165)? -/
def readyGrow (b : Bank) (h : Handle) (n : Nat) (s : State) : Bool × State :=
  if h.spilled then readySpill b h.charge.toNat h.drawer n s else readyVat b h.charge.toNat h.drawer n s

/-- Grant the growth cells of a handle (R162, R181). -/
def grow (b : Bank) (i : Nat) (slots : List Nat) (s : State) : State :=
  let h := handleOf s i
  afterGrant b h.charge.toNat (addCells i slots (if h.spilled then .spill else .vat) s)

/-- The waiting threads of a drawer, oldest first (R194). -/
def drawerWaiters (s : State) (d : Nat) : List Nat := tabGet [] s.cab.waiters d

/-- Append a thread to a drawer's wait queue (R193). -/
def joinDrawer (d t : Nat) (s : State) : State :=
  { s with cab := { s.cab with waiters := tabUpd [] s.cab.waiters d (· ++ [t]) } }

end Sys2Proof.Machine
end

