-- ==== Sys2Proof/Machine/DovetailOps.lean ====
section
/-!
DEFINITION. The Dovetail unit: locks, channels, fault messages, aborts, halts and thread resets
(06_threads_and_dovetail.md).
-/
namespace Sys2Proof.Machine

/-- Complete a stalled instruction: a change to its thread, the next address, and READY (R338). -/
def completeStalled (t : Nat) (f : Thread → Thread) (s : State) : State :=
  endStall t (updThr t (fun x => { f x with pc := x.pc + 1 }) s)

/-! ### Unit locks -/

/-- A coprocessor unit's state: 0-7 WM, 8-9 SG, 10-13 ST, 14-21 CV. -/
def unitOf (s : State) (u : Nat) : Unit' := tabGet {} s.cop.units u
def setUnit (u : Nat) (x : Unit') (s : State) : State :=
  { s with cop := { s.cop with units := tabSet {} s.cop.units u x } }
/-- The unit of a unit lock (Table 6.8). -/
def lockUnit (k : Nat) : Option Nat := if 4064 ≤ k ∧ k ≤ 4085 then some (k - 4064) else none
/-- The lock of a unit. -/
def unitLock (u : Nat) : Nat := 4064 + u
/-- A unit's own master identity (06_threads_and_dovetail.md, opening). -/
def unitIdentity (u : Nat) : Nat := if u < 14 then 560 + u else 544 + (u - 14)

/-- Detach every operation a thread has running (R444, R445). -/
def detachOps (t : Nat) (s : State) : State :=
  s.cop.units.foldl (fun a p =>
    match p.2.op with
    | some o =>
      if p.2.busy && p.2.owner.toNat == t && !o.detached then
        count .unit p.1 4 1 (setFlag 0x540 1 (setUnit p.1 { p.2 with op := some { o with detached := true } } a))
      else a
    | none => a) s

/-! ### Locks -/

/-- The grant word (Table 6.7). -/
def grantWord (l : Lock) : Word36 :=
  BitVec.ofNat 36 (packNat [(l.owner.toNat, 12), (l.last.toNat, 12), (0, 8), (l.broken.toNat, 3), (b2n (l.broken != 0), 1)])

/-- The waiter a lock is granted to: of highest effective priority, first-come within a priority (R358). -/
def bestWaiter (s : State) (l : Lock) : Option Nat := argMax (effPrio s) l.waiters

/-- A lock is granted or released: progress of Table 6.11. -/
def lockProgress (k : Nat) (s : State) : State := progress (waitsLock k) s

/-- Free a lock, marked broken with a cause or clean with 0, and grant it to its best waiter (R358, R364, R365). -/
def freeLock (k : Nat) (cause : BitVec 3) (s : State) : State :=
  let l := lockOf s k
  let s := lockProgress k s
  match bestWaiter s l with
  | none => setLock k { l with owner := 4095, last := l.owner, broken := cause } s
  | some t =>
    let l' : Lock := { owner := BitVec.ofNat 12 t, last := l.owner, broken := cause, waiters := l.waiters.filter (· != t) }
    let gd := match (thr s t).stall with | .lock _ gd _ => gd | _ => 0
    completeStalled t (putG gd (grantWord l')) <|
      trace 4 (coreOf t) t (packNat [(k, 12), (0, 19), (b2n (cause != 0), 1)]) (count .dovetail 0 0 1 (setLock k l' s))

/-- A master loses a lock it owns, by a cause of Table 6.9 (R364, R366). -/
def loseLock (k : Nat) (cause : BitVec 3) (s : State) : State :=
  match lockUnit k with
  | some u =>
    let x := unitOf s u
    if x.busy && x.owner == (lockOf s k).owner then
      setLock k { lockOf s k with owner := BitVec.ofNat 12 (unitIdentity u) } s
    else freeLock k 0 s
  | none => raiseFirst 203 0 [] (count .dovetail 0 4 1 (setFlag 0x4C0 4 (freeLock k cause s)))

/-- The locks a master owns, in ascending number. -/
def locksOwned (s : State) (m : Nat) : List Nat := (s.dov.locks.filter (fun p => p.2.owner.toNat == m)).map (·.1)

/-- A master loses every lock it owns (R363, R364). -/
def loseLocks (m : Nat) (cause : BitVec 3) (s : State) : State := (locksOwned s m).foldl (fun a k => loseLock k cause a) s

/-! ### Channels -/

def chanOf (s : State) (c : Nat) : Channel := tabGet {} s.dov.channels c
def setChan (c : Nat) (x : Channel) (s : State) : State :=
  { s with dov := { s.dov with channels := tabSet {} s.dov.channels c x } }

/-- Slots of a channel (R342, R369). -/
def chanSize (s : State) (c : Nat) : Nat :=
  if c = 1015 then 32 else if 1016 ≤ c then 128
  else if (chanOf s c).size = 0 then 8 else (chanOf s c).size

/-- Is the slot of reservation number `n` free (R370)? -/
def slotFree (s : State) (c n : Nat) : Bool :=
  (chanOf s c).slots.all (fun p => p.1 % chanSize s c != n % chanSize s c)

/-- A word of Dovetail memory is written anew: its errors are gone. -/
def forgetWord (w : DovWord) (s : State) : State :=
  if s.dov.weak.isEmpty && s.dov.bad.isEmpty then s
  else { s with dov := { s.dov with weak := s.dov.weak.filter (· != w), bad := s.dov.bad.filter (· != w) } }

/-- A read of words of Dovetail memory corrects those it can (R579). -/
def correctDov (ws : List DovWord) (s : State) : State :=
  let n := (s.dov.weak.filter (fun w => ws.contains w)).length
  if n = 0 then s
  else noteCorrected 4 n { s with dov := { s.dov with weak := s.dov.weak.filter (fun w => !ws.contains w) } }

/-- An uncorrectable word of a lock or channel is reported (R584). -/
def noteDovUe (x : Nat) (w : DovWord) (s : State) : State :=
  raise 487 [(x, 16)] (bumpTotal 0x63C 1 (setFlag 0x600 4 (forgetWord w s)))

/-- A read of a slot: one with an uncorrectable word becomes a void marker for its reader (R584). -/
def checkSlot (c n : Nat) (s : State) : State :=
  if s.dov.weak.isEmpty && s.dov.bad.isEmpty then s
  else
    let w := DovWord.slot c (n % chanSize s c)
    let x := chanOf s c
    match tabFind x.slots n with
    | none => s
    | some sl =>
      if sl.state = .reserved then s
      else
        let s := correctDov [w] s
        if !s.dov.bad.contains w then s
        else noteDovUe c w (setChan c { x with slots := tabPut x.slots n { sl with state := .voided } } s)

/-- Reserve the next slot for a writer, with its words and state (R370). -/
def reserveSlot (c : Nat) (w : BitVec 12) (st : SlotState) (words : List Word36) (s : State) : State :=
  let x := chanOf s c
  let s := forgetWord (.slot c (x.reserved % chanSize s c)) s
  setChan c { x with reserved := x.reserved + 1, slots := tabPut x.slots x.reserved { state := st, writer := w, words := words } } s

/-- The reservation token (Table 6.10). -/
def tokenWord (s : State) (c n : Nat) : Word36 :=
  BitVec.ofNat 36 (packNat [(n % 16384, 14), (n % chanSize s c, 8), (c, 10)])

/-- The channel that a token names (Table 6.10). -/
def tokenChannel (tok : Word36) : Nat := natBits tok.toNat 22 10

/-- The live slot that a token names, when the master reserved it and has not committed it (R371). -/
def tokenSlot (s : State) (tok : Word36) (m : Nat) : Option (Nat × Nat) :=
  let c := tokenChannel tok
  match (chanOf s c).slots.find? (fun p =>
    p.1 % chanSize s c == natBits tok.toNat 14 8 && p.1 % 16384 == natBits tok.toNat 0 14 &&
    p.2.state == .reserved && p.2.writer.toNat == m) with
  | some p => if natBits tok.toNat 32 4 == 0 then some (c, p.1) else none
  | none => none

/-- The held message of a fault channel that is oldest (R344): thread number, or 1,000 + scope of a detection. -/
def heldFor (s : State) (c : Nat) : Option (Nat × FaultMsg) :=
  (s.dov.heldOrder.filterMap (fun h =>
    if h < 1000 then
      match (thr s h).heldMsg with | some (d, m) => if d == c then some (h, m) else none | none => none
    else if (if h == 1008 then 1015 else 1016 + (h - 1000)) == c then
      match tabFind s.dov.heldDetect (h - 1000) with | some m => some (h, m) | none => none
    else none)).head?

/-- The words of a fault message's first slot (Table 6.5). -/
def faultWords (m : FaultMsg) : List Word36 :=
  [BitVec.ofNat 36 (packNat [(m.pc.toNat, 16), (m.code.toNat, 6), (m.type.toNat, 2), (m.thread.toNat, 12)]), m.instr,
    m.sheet, BitVec.ofNat 36 (packNat [(m.detail.toNat, 30), (m.prio.toNat, 3), (b2n m.item, 1), (b2n m.rsm, 1), (b2n m.hdl, 1)])]

/-- Are two slots of a fault channel free (R344)? -/
def twoFree (s : State) (c : Nat) : Bool :=
  slotFree s c (chanOf s c).reserved && slotFree s c ((chanOf s c).reserved + 1)

/-- Reserve, fill and commit the two slots of a fault message (R343): a commit is progress (Table 6.11). -/
def postTwo (c : Nat) (m : FaultMsg) (s : State) : State :=
  progress (waitsChan c) <| count .dovetail 0 6 2
    (reserveSlot c 4095 .committed ((m.dd ++ [0, 0, 0, 0]).take 4) (reserveSlot c 4095 .committed (faultWords m) s))

/-- Drop the record of a held message. -/
def dropHeld (h : Nat) (s : State) : State :=
  let s := { s with dov := { s.dov with heldOrder := s.dov.heldOrder.filter (· != h) } }
  if h < 1000 then updThr h (fun x => { x with heldMsg := none }) s
  else { s with dov := { s.dov with heldDetect := tabErase s.dov.heldDetect (h - 1000) } }

/-- The delivery of a slot to its waiting reader (R372). -/
def deliverSlot (c n t : Nat) (sl : ChanSlot) (s : State) : State :=
  let x := chanOf s c
  let s := setChan c { x with slots := tabErase x.slots n, readers := tabErase x.readers n } s
  let s := progress (waitsChan c) s
  let (gd, gb) := match (thr s t).stall with | .chanRead _ _ gd gb _ => (gd, gb) | _ => (0, 0)
  let s := if sl.state = .committed then dmemPuts (coreOf t) (regG s t gb).toNat sl.words s else s
  completeStalled t (putG gd (if sl.state = .committed then 0 else 1)) s

/-- One thing a channel can do by itself: deliver a ready claimed slot, serve a waiting writer, or post a held message
(R370, R372, R344). -/
def chanStep (c : Nat) (s : State) : Option State :=
  let x := chanOf s c
  match x.readers.find? (fun r => match tabFind x.slots r.1 with | some sl => sl.state != .reserved | none => false) with
  | some (n, t) =>
    let s := checkSlot c n s
    match tabFind (chanOf s c).slots n with
    | some sl => some (deliverSlot c n t sl s)
    | none => none
  | none =>
    match x.writers with
    | t :: r =>
      if slotFree s c x.reserved then
        let gd := match (thr s t).stall with | .chanWrite _ gd _ => gd | _ => 0
        let tok := tokenWord s c x.reserved
        some (completeStalled t (putG gd tok)
          (reserveSlot c (BitVec.ofNat 12 t) .reserved [0, 0, 0, 0] (setChan c { x with writers := r } s)))
      else none
    | [] =>
      match heldFor s c with
      | some (h, m) => if twoFree s c then some (postTwo c m (dropHeld h s)) else none
      | none => none

/-- Let a channel do what it can, at most `n` times. -/
def chanRun : Nat → Nat → State → State
  | 0, _, s => s
  | n + 1, c, s =>
    match chanStep c s with
    | some s' => chanRun n c s'
    | none => s

/-- Let a channel do all it can: each step uses up a reader, a writer or a held message, and a held message can
serve two readers. -/
def settleChan (c : Nat) (s : State) : State :=
  chanRun ((chanOf s c).readers.length + (chanOf s c).writers.length + 3 * s.dov.heldOrder.length) c s

/-- Void a live reserved slot (R374): its reader receives a void marker. -/
def voidSlot (c n : Nat) (s : State) : State :=
  let x := chanOf s c
  match tabFind x.slots n with
  | none => s
  | some sl =>
    let s := setChan c { x with slots := tabPut x.slots n { sl with state := .voided } } s
    settleChan c (progress (waitsChan c) (count .dovetail 0 7 1 s))

/-- Void every slot a thread has reserved and not committed (R40, R374). -/
def voidSlots (t : Nat) (s : State) : State :=
  let held := s.dov.channels.flatMap (fun p =>
    (p.2.slots.filter (fun q => q.2.state == .reserved && q.2.writer.toNat == t)).map (fun q => (p.1, q.1)))
  held.foldl (fun a q => voidSlot q.1 q.2 a) s

/-- Put a released claim back among the unclaimed numbers, which stay in ascending order (R373). -/
def returnClaim (n : Nat) (l : List Nat) : List Nat := l.filter (· < n) ++ [n] ++ l.filter (n < ·)

/-- End a thread's wait without its instruction taking effect (R41, R195, R373, Table 6.6). -/
def leaveWait (t : Nat) (s : State) : State :=
  let s := match (thr s t).stall with
    | .lock k _ _ => setLock k { lockOf s k with waiters := (lockOf s k).waiters.filter (· != t) } s
    | .chanWrite c _ _ => setChan c { chanOf s c with writers := (chanOf s c).writers.filter (· != t) } s
    | .chanRead c n _ _ _ => setChan c { chanOf s c with
        readers := tabErase (chanOf s c).readers n, returned := returnClaim n (chanOf s c).returned } s
    | .drawer d _ _ _ => { s with cab := { s.cab with waiters := tabUpd [] s.cab.waiters d (·.filter (· != t)) } }
    | .lookup => { s with lk := { s.lk with ops := s.lk.ops.map (fun p =>
        if p.2.thread = t ∧ p.2.async = false then (p.1, { p.2 with discard := true }) else p) } }
    | _ => s
  updThr t (fun x => { x with stall := .none }) s

/-! ### Errors of channel pointers (R584) -/

/-- Readers that still wait at a channel whose claims are all released claim anew, in the order of their claims, from its next reservation
on (R584; log entry 141). -/
def reclaim (c : Nat) (s : State) : State :=
  let x := chanOf s c
  let rs := (x.readers.map (·.2)).zipIdx
  let s := setChan c { x with
    slots := [], returned := [], nextClaim := x.reserved + rs.length
    readers := rs.foldl (fun t p => tabPut t (x.reserved + p.2) p.1) [] } s
  rs.foldl (fun a p => updThr p.1 (fun y => { y with stall := match y.stall with
    | .chanRead d _ gd gb w => .chanRead d (x.reserved + p.2) gd gb w
    | st => st }) a) s

/-- Every slot of a channel is voided, which is progress (Table 6.11): a reader that waits for one receives a void marker (R584). -/
def voidChannel (c : Nat) (s : State) : State :=
  (chanOf s c).slots.foldl (fun a p => match tabFind (chanOf a c).readers p.1 with
    | some t => deliverSlot c p.1 t { p.2 with state := .voided } a
    | none => a) <|
    (if (chanOf s c).slots.isEmpty then s else progress (waitsChan c) (count .dovetail 0 7 (chanOf s c).slots.length s))

/-- Uncorrectable pointers void every slot of their channel, release every claim and leave the channel empty (R584). -/
def voidPointers (c : Nat) (s : State) : State := reclaim c (voidChannel c (noteDovUe c (.pointers c) s))

/-- A read of the pointers of a channel no program writes to, which has no waiting writers (R342, R584). -/
def checkPointers (c : Nat) (s : State) : State :=
  if s.dov.weak.isEmpty && s.dov.bad.isEmpty then s
  else
    let s := correctDov [.pointers c] s
    if s.dov.bad.contains (.pointers c) then voidPointers c s else s

/-! ### Fault messages -/

/-- Post a fault message, or hold it while its channel has fewer than two free slots (R343-R345), the channel's pointers having been
checked (R584). The record is the thread's, or a scope's detection record (1,000 + scope). A message that finds its record occupied is not
posted: a supervisor's first is kept until it is posted (R345; log entry 159). -/
def postFault (c rec : Nat) (m : FaultMsg) (s : State) : State :=
  let s := checkPointers c s
  if (heldFor s c).isNone && twoFree s c then settleChan c (postTwo c m s)
  else if rec < 1000 then
    if (thr s rec).heldMsg.isSome then s else
    let s := raiseFirst 207 0 [] s
    updThr rec (fun x => { x with heldMsg := some (c, m) })
      { s with dov := { s.dov with heldOrder := s.dov.heldOrder.filter (· != rec) ++ [rec] } }
  else if (tabFind s.dov.heldDetect (rec - 1000)).isSome then s
  else
    let s := raiseFirst 207 0 [] s
    { s with dov := { s.dov with heldDetect := tabPut s.dov.heldDetect (rec - 1000) m, heldOrder := s.dov.heldOrder ++ [rec] } }

/-- The message of a thread's fault (Table 6.5). -/
def faultMsg (s : State) (t : Nat) (type code : Nat) (instr : Word36) (detail : Nat) : FaultMsg :=
  let x := thr s t
  { thread := BitVec.ofNat 12 t, type := BitVec.ofNat 2 type, code := BitVec.ofNat 6 code, pc := x.pc, instr := instr
    sheet := s.sh.sheet.setWidth 36, hdl := x.hdl, rsm := x.rsm, item := x.item.isSome
    prio := BitVec.ofNat 3 (ownPrio s t), detail := BitVec.ofNat 30 detail
    dd := if x.item.isSome then x.dd else [0, 0, 0, 0] }

/-! ### Ending items and resetting threads -/

/-- End the item of a thread that is halted or reset: voided, FAULT_VOID, a late loss where it is lossless or an event, and an
evidence item's loss reported to its stream (R348, R349). -/
def endFaulted (t : Nat) (s : State) : State :=
  match (thr s t).item with
  | none => s
  | some k =>
    match itemOf s k with
    | none => s
    | some x =>
      if x.ended then s
      else
        let s := count .dovetail 0 14 1 s
        voidItem k (if x.isEvent || x.lossless then lateLoss x s
          else if x.evidence then evidenceLoss x.ctx.toNat x.arrival s else s)

/-- The outstanding lookups of a thread that is reset are awaited, and their status discarded (Table 6.6, R423). -/
def discardLookups (t : Nat) (s : State) : State :=
  { s with lk := { s.lk with ops := s.lk.ops.map (fun p =>
    if p.2.thread = t then (p.1, { p.2 with discard := true, async := true }) else p) } }

/-- Has a thread an asynchronous lookup that has not landed (R322, Table 6.6)? -/
def awaitsLookups (s : State) (t : Nat) : Bool := s.lk.ops.any (fun p => p.2.thread == t && p.2.async)

/-- The registers and waits of an L0 reset (Table 6.6), with a cause for its broken locks. A message held for the thread stays. -/
def resetThread (t : Nat) (cause : BitVec 3) (s : State) : State :=
  let s := discardLookups t (leaveWait t (drainStores t s))
  let s := detachOps t (voidSlots t (loseLocks t cause s))
  let x := thr s t
  setThr t { pc := x.pc, dl := x.dl, lastEx := x.lastEx, heldMsg := x.heldMsg, awaiting := awaitsLookups s t } s

/-- Start or restart a supervisor at its ENTRY, with DL 0 (R340, R341, R346); a frozen one is READY at its release (Table 6.2). -/
def enterSupervisor (t : Nat) (s : State) : State :=
  let v := supervisorOf s (clusterOf t)
  let s := { s with cores := { s.cores with supervisors := tabSet {} s.cores.supervisors (clusterOf t) { v with started := true } } }
  walk (coreOf t) (updThr t (fun x =>
    let y := { x with pc := v.entry, dl := 0 }
    if x.st = .frozen then { y with before := .ready } else { y with st := .ready }) s)

/-- Empty a cluster's fault channel and post one message for each of its halted threads (R345, R347). A released claim on a slot not yet
reserved stays claimable (R373). -/
def repostFaults (k : Nat) (s : State) : State :=
  let c := 1016 + k
  let x := chanOf s c
  let ts := (List.range 64).map (64 * k + ·)
  let s := setChan c { x with
    slots := [], nextClaim := max x.nextClaim x.reserved, returned := x.returned.filter (fun n => decide (x.reserved ≤ n)) } s
  let s := ts.foldl (fun a t =>
    if (thr a t).heldMsg.isSome && !isSupervisor a t then dropHeld t a else a) s
  let s := settleChan c s
  ts.foldl (fun a t =>
    match (thr a t).st, (thr a t).fault with
    | .halt, some m => postFault c t m a
    | _, _ => a) s

/-- An L0 reset of a thread: FREE, its held message discarded, or for a supervisor READY at ENTRY, its held message kept (R345, R346,
R349, R351, R381). -/
def l0Reset (t : Nat) (s : State) : State :=
  let s := resetThread t 1 (endFaulted t s)
  if isSupervisor s t then repostFaults (clusterOf t) (enterSupervisor t s) else walk (coreOf t) (dropHeld t s)

/-- Halt a thread with an exception of code 0x01 to 0x12 (R320, R343, R346). -/
def haltThread (t code : Nat) (instr : Word36) (detail : Nat) (s : State) : State :=
  let sup := isSupervisor s t
  let m := faultMsg s t (if sup then 3 else 0) code instr detail
  let s := updThr t (fun x => { x with
    st := .halt, stall := .none, after := .none, awaiting := false, lastEx := BitVec.ofNat 6 code, fault := some m }) s
  let s := raiseFirst 198 0 [] (count .dovetail 0 12 1 (setFlag 0x4C0 0 s))
  if sup then
    let s := postFault 1015 t m s
    raise 199 [] (count .dovetail 0 13 1 (setFlag 0x4C0 8 (l0Reset t s)))
  else walk (coreOf t) (postFault (1016 + clusterOf t) t m s)

/-- A thread in RUN does what an answer has left it to do: it halts, or it becomes FREE (Table 6.2; log entry 118). -/
def runAfter (t : Nat) (s : State) : State :=
  let x := thr s t
  if x.st ≠ .run then s
  else match x.after with
    | .none => s
    | .halt code word detail => haltThread t code word detail s
    | .free => walk (coreOf t) (updThr t (fun y => { y with st := .free, after := .none }) s)

/-- A thread has something left to do when it next runs; one in a stall first becomes READY (R329). -/
def leaveAfter (t : Nat) (a : AfterWait) (s : State) : State := runAfter t (makeReady t (updThr t (fun x => { x with after := a }) s))

/-- An exception of the instruction a thread executes: it halts in RUN, and out of a stall when it next runs (R320, R329). -/
def stopThread (t code : Nat) (instr : Word36) (detail : Nat) (s : State) : State :=
  if (thr s t).st = .run then haltThread t code instr detail s else leaveAfter t (.halt code instr detail) s

/-- A recovery abort of a waiting thread (R379): its wait ends, its locks are released under cause 3, its reserved slots
are voided and it halts with ABORTED, a frozen one when it next runs (R722, Table 6.2). -/
def recoveryAbort (t : Nat) (s : State) : State :=
  let (detail, instr) := match (thr s t).stall with
    | .lock k _ w => (k, w)
    | .chanWrite c _ w => (4096 + c, w)
    | .chanRead c _ _ _ w => (4096 + c, w)
    | .drawer _ _ _ w => (0, w)
    | _ => (0, 0)
  let s := count .dovetail 0 11 1 (detachOps t (voidSlots t (loseLocks t 3 (leaveWait t s))))
  if (thr s t).st = .frozen then leaveAfter t (.halt 0x12 instr detail) s else haltThread t 0x12 instr detail s

/-! ### Errors of Dovetail memory (R584) -/

/-- A read of a lock's word and waiter queue. An uncorrectable one aborts every waiter and releases the lock broken with cause 7
(R364, R584). -/
def checkLock (k : Nat) (s : State) : State :=
  if s.dov.weak.isEmpty && s.dov.bad.isEmpty then s
  else
    let s := correctDov [.lock k, .queue k] s
    if !s.dov.bad.contains (.lock k) && !s.dov.bad.contains (.queue k) then s
    else
      let s := noteDovUe k (.queue k) (forgetWord (.lock k) s)
      loseLock k 7 ((lockOf s k).waiters.foldl (fun a t => recoveryAbort t a) s)

/-- A read of a channel's pointers. Uncorrectable ones void every slot, release every claim, abort every waiting writer and leave the
channel empty at its configured size (R584). -/
def checkChan (c : Nat) (s : State) : State :=
  if s.dov.weak.isEmpty && s.dov.bad.isEmpty then s
  else
    let s := correctDov [.pointers c] s
    if !s.dov.bad.contains (.pointers c) then s
    else
      let s := voidPointers c s
      (chanOf s c).writers.foldl (fun a t => recoveryAbort t a) s

/-- What a thread that ends, is reset or is aborted gives up is read: the words of the locks it owns, and the pointers of the channels it
has reserved slots of (R579, R584). -/
def checkHeld (t : Nat) (s : State) : State :=
  if s.dov.weak.isEmpty && s.dov.bad.isEmpty then s
  else
    let s := (locksOwned s t).foldl (fun a k => checkLock k a) s
    let cs := (s.dov.channels.filter (fun p => p.2.slots.any (fun q => q.2.state == .reserved && q.2.writer.toNat == t))).map (·.1)
    cs.foldl (fun a c => checkChan c a) s

/-- The waiter a recovery aborts: of lowest own priority, then of latest wait start, then of highest identity (R379). -/
def abortChoice (s : State) (ts : List Nat) : Option Nat :=
  argMin (fun t => ownPrio s t * 2 ^ 64 + (2 ^ 64 - 1 - min (thr s t).waitStart (2 ^ 63)) ) ts.reverse

end Sys2Proof.Machine
end

