-- ==== Sys2Proof/Machine/Operands.lean ====
section
/-!
DEFINITION. Operands of the core instructions: instruction words (Table 5.3), addressing modes (Table 5.9, R289, R290)
and octet values (R291).
-/
namespace Sys2Proof.Machine

/-! ### Instruction words (Table 5.3) -/

def encR (major : Nat) (gd ga gb : BitVec 5) (zf : BitVec 9) (func : Nat) : Word36 :=
  BitVec.ofNat 36 (packNat [(func, 6), (zf.toNat, 9), (gb.toNat, 5), (ga.toNat, 5), (gd.toNat, 5), (major, 6)])
def encI (major : Nat) (gd ga : BitVec 5) (zf : BitVec 4) (imm : BitVec 16) : Word36 :=
  BitVec.ofNat 36 (packNat [(imm.toNat, 16), (zf.toNat, 4), (ga.toNat, 5), (gd.toNat, 5), (major, 6)])
def encU (gd zf : BitVec 5) (imm : BitVec 20) : Word36 :=
  BitVec.ofNat 36 (packNat [(imm.toNat, 20), (zf.toNat, 5), (gd.toNat, 5), (7, 6)])
def encS (gd ga : BitVec 5) (pos len : BitVec 6) (zf : BitVec 2) (func : Nat) : Word36 :=
  BitVec.ofNat 36 (packNat [(func, 6), (zf.toNat, 2), (len.toNat, 6), (pos.toNat, 6), (ga.toNat, 5), (gd.toNat, 5), (8, 6)])
def encM (major : Nat) (gt ga : BitVec 5) (w mode : BitVec 2) (md : BitVec 16) : Word36 :=
  BitVec.ofNat 36 (packNat [(md.toNat, 16), (mode.toNat, 2), (w.toNat, 2), (ga.toNat, 5), (gt.toNat, 5), (major, 6)])
def encB (major : Nat) (ga gb : BitVec 5) (zf : BitVec 4) (target : BitVec 16) : Word36 :=
  BitVec.ofNat 36 (packNat [(target.toNat, 16), (zf.toNat, 4), (gb.toNat, 5), (ga.toNat, 5), (major, 6)])
def encBT (major : Nat) (ga : BitVec 5) (bit : BitVec 6) (zf : BitVec 3) (target : BitVec 16) : Word36 :=
  BitVec.ofNat 36 (packNat [(target.toNat, 16), (zf.toNat, 3), (bit.toNat, 6), (ga.toNat, 5), (major, 6)])
def encJ (major : Nat) (gd : BitVec 5) (zf : BitVec 9) (target : BitVec 16) : Word36 :=
  BitVec.ofNat 36 (packNat [(target.toNat, 16), (zf.toNat, 9), (gd.toNat, 5), (major, 6)])
def encL (gd ga gb : BitVec 5) (a : Bool) (table : BitVec 6) (op : Nat) (zf : BitVec 6) : Word36 :=
  BitVec.ofNat 36 (packNat [(zf.toNat, 6), (op, 2), (table.toNat, 6), (b2n a, 1), (gb.toNat, 5), (ga.toNat, 5), (gd.toNat, 5), (26, 6)])
def encD (major func : Nat) (gd ga gb : BitVec 5) (imm : BitVec 12) : Word36 :=
  BitVec.ofNat 36 (packNat [(imm.toNat, 12), (func, 3), (gb.toNat, 5), (ga.toNat, 5), (gd.toNat, 5), (major, 6)])
def encC (major op : Nat) (unit : BitVec 3) (ga gb : BitVec 5) (notify : Bool) (imm : BitVec 11) : Word36 :=
  BitVec.ofNat 36 (packNat [(imm.toNat, 11), (b2n notify, 1), (gb.toNat, 5), (ga.toNat, 5), (op, 5), (unit.toNat, 3), (major, 6)])
def encX (cv : BitVec 3) (func ga gb : BitVec 5) (imm : BitVec 14) : Word36 :=
  BitVec.ofNat 36 (packNat [(imm.toNat, 14), (gb.toNat, 5), (ga.toNat, 5), (func.toNat, 5), (cv.toNat % 2, 1), (60 + cv.toNat / 2, 6)])
def encCP (gd : BitVec 5) (unit : BitVec 3) (cls : BitVec 2) (zf : BitVec 14) (func : Nat) : Word36 :=
  BitVec.ofNat 36 (packNat [(func, 6), (zf.toNat, 14), (cls.toNat, 2), (unit.toNat, 3), (gd.toNat, 5), (59, 6)])

/-! ### Addressing modes (Table 5.9) -/

/-- The MODE field of a memory instruction, read for packet memory (`pkt`) or for the other spaces. -/
structure ModeField where
  hsel : Nat
  /-- D or INC, signed. -/
  disp : Int
  gb : BitVec 5
  /-- The bits Table 5.9 marks zero. -/
  zero : Nat
  kind : Bool
  n : Nat

def modeField (pkt : Bool) (mode : BitVec 2) (md : BitVec 16) : ModeField :=
  let x := md.toNat
  let m := mode.toNat
  if pkt then
    { hsel := natBits x 14 2, disp := if m = 3 then sInt 11 x else sInt 14 x, gb := BitVec.ofNat 5 (natBits x 9 5)
      zero := if m = 1 then natBits x 0 9 else 0, kind := natBit x 13, n := natBits x 11 2 }
  else
    { hsel := 0, disp := if m = 3 then sInt 13 x else sInt 16 x, gb := BitVec.ofNat 5 (natBits x 11 5)
      zero := if m = 1 then natBits x 0 11 else 0, kind := natBit x 15, n := natBits x 13 2 }

/-- BREV.SHIFT and BREV.WIDTH (Table 5.1). -/
def brevShift (b : Word36) : Nat := natBits b.toNat 5 4
def brevWidth (b : Word36) : Nat := natBits b.toNat 0 5

/-- The special registers that an addressing mode reads: its modulo descriptor or BREV, and the handle of a packet access (Table 5.9). -/
def modeSpecials (pkt : Bool) (mode : BitVec 2) (f : ModeField) : List Nat :=
  (if mode = 3 then [if f.kind then 11 else 7 + f.n] else []) ++ (if pkt then [12 + f.hsel] else [])

/-- Is the addressing illegal (R274, R290)? -/
def modeIllegal (x : Thread) (mode : BitVec 2) (f : ModeField) : Bool :=
  (mode == 1 && f.zero != 0) ||
  (mode == 3 && f.kind &&
    (f.n != 0 || brevWidth x.brev == 0 || decide (16 < brevWidth x.brev) || decide (18 < brevShift x.brev + brevWidth x.brev)))

/-- `w` bits reversed. -/
def revBits (w x : Nat) : Nat := packNat ((List.range w).map (fun i => (b2n (natBit x (w - 1 - i)), 1)))

/-- Modulo step on address bits [17:0] (Table 5.9, KIND 0). -/
def moduloStep (x circ : Nat) (inc : Int) : Nat :=
  let b := natBits circ 18 18
  let n := natBits circ 0 18
  let y : Int := if n = 0 then (x % 2 ^ 18 : Nat) + inc else b + (((x % 2 ^ 18 : Nat) - (b : Int) + inc) % n)
  x / 2 ^ 18 * 2 ^ 18 + ofInt 18 y

/-- Bit-reversed step (Table 5.9, KIND 1). -/
def brevStep (x s w : Nat) (inc : Int) : Nat :=
  let f := natBits x s w
  let g := revBits w (ofInt w ((revBits w f : Nat) + inc))
  x - f * 2 ^ s + g * 2 ^ s

/-- Effective address, and the value written back to ga in modes 2 and 3 (R289). -/
def effAddr (x : Thread) (ga : BitVec 5) (mode : BitVec 2) (f : ModeField) : Word36 × Option Word36 :=
  let a := getG x ga
  match mode.toNat with
  | 0 => (a + BitVec.ofInt 36 f.disp, none)
  | 1 => (a + getG x f.gb, none)
  | 2 => (a, some (a + BitVec.ofInt 36 f.disp))
  | _ =>
    (a, some (BitVec.ofNat 36 (
      if f.kind then brevStep a.toNat (brevShift x.brev) (brevWidth x.brev) f.disp
      else moduloStep a.toNat (tabGet 0 x.circ f.n).toNat f.disp)))

/-- Write back ga after an access completed (R289). -/
def writeBack (ga : BitVec 5) (v : Option Word36) (x : Thread) : Thread :=
  match v with
  | some w => putG ga w x
  | none => x

/-- The registers an access reads. -/
def modeRegs (ga : BitVec 5) (mode : BitVec 2) (f : ModeField) : List (BitVec 5) := if mode == 1 then [ga, f.gb] else [ga]

/-- The value an octet load delivers (R291). -/
def octetValue (bs : List Byte) : Word36 := BitVec.ofNat 36 (beNat bs)
/-- The bytes an octet store writes (R291). -/
def octetBytes (n : Nat) (v : Word36) : List Byte := beBytes n v.toNat

end Sys2Proof.Machine
end

