-- ==== Sys2Proof/Machine/Flags.lean ====
section
/-!
DEFINITION. The special registers of a thread, FLAGS among them (Tables 5.1 and 5.2, R273, R760). The core has no
condition codes (R271): FLAGS holds the thread's modes and its outstanding work.
-/
namespace Sys2Proof.Machine

/-- May MTS write the special register (Table 5.1, R273)? -/
def specialWritable (n : Nat) : Bool := n == 1 || (5 ≤ n && n ≤ 15)

/-- The special register `n` of a thread (Table 5.1). -/
def readSpecial (s : State) (t n : Nat) : Word36 :=
  let x := thr s t
  match n with
  | 0 => x.pc.setWidth 36
  | 1 => flagsWord s t
  | 2 => BitVec.ofNat 36 t
  | 3 => s.sh.sheet.setWidth 36
  | 4 => x.dl
  | 5 => x.mh
  | 6 => x.ml
  | 7 => tabGet 0 x.circ 0
  | 8 => tabGet 0 x.circ 1
  | 9 => tabGet 0 x.circ 2
  | 10 => tabGet 0 x.circ 3
  | 11 => x.brev
  | 12 => (getHnd x 0).setWidth 36
  | 13 => (getHnd x 1).setWidth 36
  | 14 => (getHnd x 2).setWidth 36
  | 15 => (getHnd x 3).setWidth 36
  | 16 => x.epc.setWidth 36
  | 17 => x.ecause.setWidth 36
  | _ => 0

/-- Write a writable special register (Table 5.1): FLAGS takes only PSN and PSNMASK (R273), BREV only SHIFT and WIDTH. -/
def writeSpecial (n : Nat) (v : Word36) (x : Thread) : Thread :=
  let x := mendSpecials [n] x
  match n with
  | 1 => { x with psn := v.getLsbD 1, psnmask := v.getLsbD 2 }
  | 5 => { x with mh := v }
  | 6 => { x with ml := v }
  | 7 => { x with circ := tabSet 0 x.circ 0 v }
  | 8 => { x with circ := tabSet 0 x.circ 1 v }
  | 9 => { x with circ := tabSet 0 x.circ 2 v }
  | 10 => { x with circ := tabSet 0 x.circ 3 v }
  | 11 => { x with brev := v &&& 0x1FF }
  | 12 => { x with hnd := tabSet nullHandle x.hnd 0 (v.setWidth 24) }
  | 13 => { x with hnd := tabSet nullHandle x.hnd 1 (v.setWidth 24) }
  | 14 => { x with hnd := tabSet nullHandle x.hnd 2 (v.setWidth 24) }
  | 15 => { x with hnd := tabSet nullHandle x.hnd 3 (v.setWidth 24) }
  | _ => x

end Sys2Proof.Machine
end

