-- ==== Sys2Proof/Machine/Ops.lean ====
section
/-!
DEFINITION. The issue of one core instruction: the exceptions every instruction meets before its own, in the order of
Table 5.18 (R318, R319), the waits on pending registers (R305), and the ways an instruction ends.
-/
namespace Sys2Proof.Machine

/-- The outcome of a command. -/
abbrev Res := Host.Outcome State Fault Refusal

/-- The instruction completes and the thread goes on at the next address (R279). -/
def advance (t : Nat) (s : State) : State := updThr t (fun x => { x with pc := x.pc + 1 }) s

/-- The instruction completes and the thread goes on at an address (R277). -/
def jumpTo (t : Nat) (target : BitVec 16) (s : State) : State :=
  updThr t (fun x => { x with pc := target })
    (trace 2 (coreOf t) t (packNat [((thr s t).pc.toNat, 16), (target.toNat, 16)]) s)

/-- Declare a long stall (R335, Table 6.4), counted under a core counter, and switch threads (R336). -/
def stallThread (t : Nat) (w : Stall) (counter : Nat) (s : State) : State :=
  let n := s.dov.waitCount
  let s := updThr t (fun x => { x with st := .stall, stall := w, waitStart := n })
    { s with dov := { s.dov with waitCount := n + 1 } }
  walk (coreOf t) (count .core (coreOf t) counter 1 s)

/-- Core counters of CORE_COUNTERS (Table 6.16). -/
def ctrIssued := 0
def ctrStallDram := 4
def ctrStallCabinet := 5
def ctrStallDrawer := 6
def ctrStallLookup := 7
def ctrStallCop := 8
def ctrStallLock := 9
def ctrStallChannel := 10
def ctrYields := 11

/-- Is the word at the thread's PC marked uncorrectable (Table 5.18, INSTR_ECC)? -/
def instrBad (s : State) (t : Nat) : Bool := s.cores.imemBad.contains (clusterOf t * 65536 + (thr s t).pc.toNat)

/-- The word at the thread's PC in its cluster's instruction store. -/
def wordAt (s : State) (t : Nat) : Word36 := tabGet 0 s.cores.imem (clusterOf t * 65536 + (thr s t).pc.toNat)

/-- Has a word a major opcode, a function code or an operation code that Tables 5.4 to 5.16 reserve for the cores (R274, R652)? -/
def reservedWord (w : Word36) : Bool :=
  let n := w.toNat
  let func := natBits n 0 6
  match natBits n 30 6 with
  | 0 => !(decide (func ≤ 6) || (decide (8 ≤ func) && decide (func ≤ 0x11)) || (decide (0x14 ≤ func) && decide (func ≤ 0x17)))
  | 8 => decide (6 < func)
  | 12 => decide (4 < func)
  | 24 => decide (7 < func)
  | 25 => decide (2 < func)
  | 26 => natBits n 6 2 == 3
  | 38 | 59 => decide (1 < func)
  | 40 => decide (2 < natBits n 12 3)
  | 41 => decide (3 < natBits n 12 3)
  | 48 => !([0x01, 0x02, 0x03, 0x08, 0x09, 0x20, 0x21].contains func)
  | 56 | 57 => decide (1 < natBits n 22 5)
  | 58 => decide (0 < natBits n 22 5)
  | m => m == 9 || (decide (13 ≤ m) && decide (m ≤ 15)) || m == 39 || (decide (42 ≤ m) && decide (m ≤ 47)) ||
      (decide (49 ≤ m) && decide (m ≤ 55))

/-- Does a breakpoint match a thread: enabled, naming its core and thread, at the address it is about to execute (R728)? -/
def breakpointHits (s : State) (t : Nat) (b : Breakpoint) : Bool :=
  b.enable && b.cores.getLsbD (coreOf t % 8) && b.threads.getLsbD (t % 8) && b.address == (thr s t).pc

/-- The breakpoints of its cluster that match a thread, unless they have frozen it here already (R728; log entry 172). -/
def hitList (s : State) (t : Nat) : List Nat :=
  if (thr s t).broke == some (thr s t).pc then []
  else (List.range 4).filter (fun i => breakpointHits s t (tabGet {} s.sec.breakpoints (4 * clusterOf t + i)))

/-- May the thread issue: it runs, waits for no lookup before its next instruction (R322), a stepped thread has instructions left (R729),
no breakpoint has yet to freeze it (R728), and no thermal trip has stopped its clock (R758)? -/
def mayIssue (s : State) (t : Nat) : Bool :=
  !s.pow.tripped && decide ((thr s t).st = .run) && !(thr s t).awaiting && decide (s.cores.stepping ≠ some (t, 0)) && (hitList s t).isEmpty

/-- Count an issued instruction: ISSUED and the handler's limit (R44); a breakpoint may match the thread again (R728). -/
def noteIssue (t : Nat) (s : State) : State :=
  updThr t (fun x => { x with handlerCount := if x.terminated then x.handlerCount + 1 else x.handlerCount, broke := none })
    (count .core (coreOf t) ctrIssued 1 s)

/-- An instruction has executed: one of DEBUG_STEP's, unless it waits; a long stall counts when it ends (R729). -/
def stepIssued (t : Nat) (s : State) : State := if (thr s t).st = .stall then s else stepDone t s

/-- One core instruction: its word, whether the word is illegal, the registers it reads and
writes, and what it does once it issues. -/
structure CoreInstr where
  word : Word36
  illegal : State → Nat → Bool := fun _ _ => false
  srcs : List (BitVec 5) := []
  /-- Special registers it reads (Table 5.1). -/
  specials : List Nat := []
  dsts : List (BitVec 5) := []
  act : Nat → State → State

/-- Report an uncorrectable instruction word (R581) and a register parity error (Table 11.6, Table 11.9). -/
def noteInstrUe (t : Nat) (s : State) : State :=
  raise 483 [(clusterOf t, 8), ((thr s t).pc.toNat, 32)] (setFlag 0x600 2 (bumpTotal 0x624 1 s))
def noteRegParity (t : Nat) (s : State) : State := raiseFirst 482 0 [(coreOf t, 8)] (setFlag 0x600 2 (bumpTotal 0x61C 1 s))

/-- Does a source register of an instruction fail parity (Table 5.18, REG_PARITY; Table 11.1)? -/
def sourceBad (s : State) (n : Nat) (c : CoreInstr) : Bool :=
  c.srcs.any (fun r => (thr s n).badRegs.contains r.toNat) || c.specials.any (fun r => (thr s n).badRegs.contains (32 + r))

/-- The registers of an instruction that are pending on asynchronous lookups (R305). -/
def pendingRegs (s : State) (n : Nat) (c : CoreInstr) : List (BitVec 5) :=
  (c.srcs ++ c.dsts).filter (fun r => (tabFind (thr s n).pending r.toNat).isSome)

/-- An instruction whose word has been fetched issues (R318, R319, R305, R44). A reserved word at the PC raises ILLEGAL in place of the
instruction (R274; log entry 119). -/
def issueFetched (n : Nat) (c : CoreInstr) (s : State) : State :=
  if reservedWord (wordAt s n) then haltThread n 0x01 (wordAt s n) 0 s
  else if c.illegal s n then haltThread n 0x01 c.word 0 s
  else if !(pendingRegs s n c).isEmpty then stallThread n (.lookupAgain (pendingRegs s n c)) ctrStallLookup s
  else if sourceBad s n c then haltThread n 0x03 c.word 0 (noteRegParity n s)
  else if (thr s n).terminated && decide (1024 ≤ (thr s n).handlerCount) then haltThread n 0x11 c.word 0 s
  else stepIssued n (c.act n (noteIssue n s))

/-- The key of the instruction word at a thread's PC. -/
def fetchKey (s : State) (t : Nat) : Nat := clusterOf t * 65536 + (thr s t).pc.toNat

/-- Issue an instruction on a thread. A thread that does not run issues nothing, and one that has something left to do does that (R329);
an uncorrectable word raises INSTR_ECC (R581), a correctable one is corrected (R579). -/
def issue (t : BitVec 9) (c : CoreInstr) (s : State) : State :=
  let n := t.toNat
  if !mayIssue s n then s
  else if (thr s n).after ≠ .none then runAfter n s
  else if instrBad s n then haltThread n 0x02 c.word 0 (noteInstrUe n s)
  else issueFetched n c (checkImem [fetchKey s n] s)

end Sys2Proof.Machine
end

