-- ==== Sys2Proof/Machine/Sha.lean ====
section
/-!
DEFINITION. SHA-256 and SHA-512 (FIPS 180-4), which the Watermark units, the signature units and the evidence path
compute (08_coprocessors_and_companion_port.md, Watermark units, Signature units).
-/
namespace Sys2Proof.Machine

/-- The `k`-th root of a number, rounded down, found from bit `n - 1` downwards. -/
def rootBelow (k x : Nat) : Nat → Nat → Nat
  | 0, r => r
  | n + 1, r => rootBelow k x n (if (r + 2 ^ n) ^ k ≤ x then r + 2 ^ n else r)

/-- The first `w` bits of the fraction of a number's `k`-th root. -/
def rootFraction (w k p : Nat) : BitVec w := BitVec.ofNat w (rootBelow k (p * 2 ^ (k * w)) (w + 3) 0)

/-- A prime has no divisor between 1 and itself. -/
def isPrime (n : Nat) : Bool := 2 ≤ n && (List.range (n - 2)).all (fun d => n % (d + 2) != 0)

/-- The prime numbers below 410: the first 80. -/
def firstPrimes : List Nat := (List.range 410).filter isPrime

/-- The round constants: fractions of the cube roots of the first primes, 64 of them at 32 bits and 80 at 64. -/
def shaK (w : Nat) : List (BitVec w) := (firstPrimes.take (if w = 32 then 64 else 80)).map (rootFraction w 3)

/-- The initial hash value: fractions of the square roots of the first eight primes. -/
def shaH (w : Nat) : List (BitVec w) := (firstPrimes.take 8).map (rootFraction w 2)

/-- Padding of a message to whole blocks of `blk` bytes, with a length field of `n` bytes. -/
def shaPad (blk n : Nat) (m : List Byte) : List Byte :=
  m ++ [0x80] ++ zeros ((2 * blk - 1 - n - m.length % blk) % blk) ++ beBytes n (8 * m.length)

/-- Cut a list into pieces of `k`, at most `n` of them. -/
def chunks {α : Type} (k : Nat) : Nat → List α → List (List α)
  | 0, _ => []
  | n + 1, l => if l.isEmpty then [] else l.take k :: chunks k n (l.drop k)

/-- What SHA-256 and SHA-512 differ in beside their constants: the rotations of the four sigma functions. -/
structure ShaRot where
  a : Nat × Nat × Nat
  b : Nat × Nat × Nat
  c : Nat × Nat × Nat
  d : Nat × Nat × Nat

def sha256Rot : ShaRot := { a := (2, 13, 22), b := (6, 11, 25), c := (7, 18, 3), d := (17, 19, 10) }
def sha512Rot : ShaRot := { a := (28, 34, 39), b := (14, 18, 41), c := (1, 8, 7), d := (19, 61, 6) }

/-- The sum of three rotations. -/
def bigSigma {w : Nat} (r : Nat × Nat × Nat) (x : BitVec w) : BitVec w :=
  x.rotateRight r.1 ^^^ x.rotateRight r.2.1 ^^^ x.rotateRight r.2.2
/-- The sum of two rotations and a shift. -/
def smallSigma {w : Nat} (r : Nat × Nat × Nat) (x : BitVec w) : BitVec w :=
  x.rotateRight r.1 ^^^ x.rotateRight r.2.1 ^^^ (x >>> r.2.2)

/-- Extend a message schedule, newest word first. -/
def shaSchedule {w : Nat} (r : ShaRot) : Nat → List (BitVec w) → List (BitVec w)
  | 0, l => l
  | n + 1, l =>
    shaSchedule r n ((smallSigma r.d (l.getD 1 0) + l.getD 6 0 + smallSigma r.c (l.getD 14 0) + l.getD 15 0) :: l)

/-- One round on the eight working variables. -/
def shaRound {w : Nat} (r : ShaRot) (v : List (BitVec w)) (k m : BitVec w) : List (BitVec w) :=
  match v with
  | [a, b, c, d, e, f, g, h] =>
    let t1 := h + bigSigma r.b e + ((e &&& f) ^^^ (~~~e &&& g)) + k + m
    let t2 := bigSigma r.a a + ((a &&& b) ^^^ (a &&& c) ^^^ (b &&& c))
    [t1 + t2, a, b, c, d + t1, e, f, g]
  | _ => v

/-- The hash value after one block. -/
def shaBlock {w : Nat} (r : ShaRot) (ks : List (BitVec w)) (h : List (BitVec w)) (block : List Byte) : List (BitVec w) :=
  let ws := ((chunks (w / 8) 16 block).map (fun b => BitVec.ofNat w (beNat b))).reverse
  let sched := (shaSchedule r (ks.length - 16) ws).reverse
  let v := (ks.zip sched).foldl (fun v p => shaRound r v p.1 p.2) h
  (h.zip v).map (fun p => p.1 + p.2)

/-- SHA-256. -/
def sha256 (m : List Byte) : List Byte :=
  let p := shaPad 64 8 m
  ((chunks 64 p.length p).foldl (shaBlock sha256Rot (shaK 32)) (shaH 32)).flatMap (fun x => beBytes 4 x.toNat)

/-- SHA-512. -/
def sha512 (m : List Byte) : List Byte :=
  let p := shaPad 128 16 m
  ((chunks 128 p.length p).foldl (shaBlock sha512Rot (shaK 64)) (shaH 64)).flatMap (fun x => beBytes 8 x.toNat)

end Sys2Proof.Machine
end

