-- ==== Sys2Proof/Machine/CopOps.lean ====
section
/-!
DEFINITION. The Watermark, signature and Stripe units: descriptors, regions and the operations at issue
(08_coprocessors_and_companion_port.md, Regions and descriptors to Stripe units; R426-R440).
-/
namespace Sys2Proof.Machine

/-! ### Unit numbers -/

/-- The first unit and the number of units of a class: 0 Watermark, 1 signature, 2 Stripe, 3 companion. -/
def unitBase (cls : Nat) : Nat := if cls = 0 then 0 else if cls = 1 then 8 else if cls = 2 then 10 else 14
def unitCount (cls : Nat) : Nat := if cls = 1 then 2 else if cls = 2 then 4 else 8
/-- The class of a unit. -/
def unitClass (u : Nat) : Nat := if u < 8 then 0 else if u < 10 then 1 else if u < 14 then 2 else 3

/-- The status word of a unit (Table 5.17). -/
def statusWord (x : Unit') : Word36 :=
  BitVec.ofNat 36 (packNat [(b2n x.busy, 1), (b2n x.done, 1), (b2n x.error, 1), (0, 13), (x.errorCode.toNat, 8), (x.owner.toNat, 12)])

/-! ### Regions -/

/-- The bytes a region names (R426, R429). -/
def regionRead (s : State) (r : Region) : List Byte :=
  match r.kind with
  | 0 => ((List.range (ceilDiv r.length 4)).flatMap (fun i => beBytes 4 (dmemGet s r.core (r.address + i)).toNat)).take r.length
  | 1 => pktRead s (handleOf s (hIndex r.handle)) r.address r.length
  | 2 => dramBytes s r.address r.length
  | _ => []

/-- Does a region hold a poisoned line, or an uncorrectable data-memory word (R434, R582)? -/
def regionPoisoned (s : State) (r : Region) : Bool :=
  match r.kind with
  | 0 => (List.range (ceilDiv r.length 4)).any (fun i => s.cores.dmemBad.contains (dmemKey r.core (r.address + i)))
  | 1 => pktPoisoned s (handleOf s (hIndex r.handle)) r.address r.length
  | 2 => dramPoisoned s r.address r.length
  | _ => false

/-- The words of data memory after bytes are stored from a word address (R426); the other bytes of the last word
stay. -/
def packWords (s : State) (core a : Nat) (bs : List Byte) : List Word36 :=
  (List.range (ceilDiv bs.length 4)).map (fun i =>
    let new := bytesAt bs (4 * i) 4
    let old := beBytes 4 (dmemGet s core (a + i)).toNat
    BitVec.ofNat 36 (beNat (new ++ old.drop new.length)))

/-- Store bytes in a region. -/
def regionWrite (r : Region) (bs : List Byte) (s : State) : State :=
  match r.kind with
  | 0 => dmemPuts r.core r.address (packWords s r.core r.address bs) s
  | 1 => pktWrite (hIndex r.handle) r.address bs false s
  | 2 => dramWrite 4 r.address bs false s
  | _ => s

/-! ### Descriptors -/

/-- A descriptor read at issue: an error code, 0 for none, its words, and where it stands (R427, Table 8.2). -/
structure DescRead where
  code : Nat
  words : List Nat
  place : Region

/-- Read a descriptor of `n` words at the address in ga; `write` when the unit writes into it. -/
def readDesc (s : State) (t : Nat) (ga : Word36) (window : Bool) (n : Nat) (write : Bool) : DescRead :=
  if window then
    let bad := windowBad s t ga.toNat (4 * n) false || (write && windowBad s t ga.toNat (4 * n) true)
    let r : Region := { kind := 2, address := windowAddr s t ga.toNat, length := 4 * n }
    if bad then { code := 1, words := [], place := {} }
    else if regionPoisoned s r then { code := 9, words := [], place := {} }
    else { code := 0, words := (chunks 4 n (regionRead s r)).map beNat, place := r }
  else
    let r : Region := { kind := 0, core := coreOf t, address := ga.toNat, length := 4 * n }
    let ws := (List.range n).map (fun i => (dmemGet s (coreOf t) (ga.toNat + i)).toNat)
    if 32768 < ga.toNat + n then { code := 1, words := [], place := {} }
    else if ws.any (fun w => decide (2 ^ 32 ≤ w)) then { code := 2, words := [], place := {} }
    else if regionPoisoned s r then { code := 9, words := [], place := {} }
    else { code := 0, words := ws, place := r }

/-- The region in three descriptor words from word `i`, with the errors of its checks (Tables 8.1 and 8.2, R428,
R429). -/
def parseRegion (s : State) (t : Nat) (ws : List Nat) (i : Nat) (out : Bool) (pin : HandleWord) : Region × List Nat :=
  let w0 := ws.getD i 0
  let a := ws.getD (i + 1) 0
  let n := ws.getD (i + 2) 0
  let kind := natBits w0 30 2
  let h := BitVec.ofNat 24 w0
  let field := natBits w0 28 2 != 0 || (kind != 2 && natBits w0 24 4 != 0) || (kind != 1 && natBits w0 0 24 != 0)
  let e := if field then [2] else []
  match kind with
  | 0 => ({ kind := 0, core := coreOf t, address := a, length := n }, e ++ (if 32768 < a + ceilDiv n 4 then [3] else []))
  | 1 =>
    let x := handleOf s (hIndex h)
    let range := decide ((if out then 16352 else 16384) < a + n)
    let bad := staleHandle s h || (out && (h != pin || (decide (0 < n) && (List.range 64).any (fun k =>
      decide (a / 256 ≤ k) && decide (k ≤ (a + n - 1) / 256) && (tabFind x.cells k).isNone))))
    ({ kind := 1, handle := h, address := a, length := n }, e ++ (if range then [3] else []) ++ (if bad then [5] else []))
  | 2 =>
    let w := tabGet {} s.cores.windows (clusterOf t * 16 + natBits w0 24 4)
    let range := decide (w.pages.toNat * 4096 < a + n)
    let bad := !w.enable || !(if out then w.write else w.read)
    ({ kind := 2, address := w.base.toNat + a, length := n }, e ++ (if range then [3] else []) ++ (if bad then [4] else []))
  | _ => ({}, e)

/-- The lowest error code of a list, 0 for none (log entry 22). -/
def lowestCode (es : List Nat) : Nat := (argMin id es).getD 0

/-- An error when a condition fails. -/
def errIf (c : Bool) (code : Nat) : List Nat := if c then [code] else []

/-! ### Keys (R703, R707, R708) -/

def keySlot (s : State) (i : Nat) : KeySlot := tabGet {} s.sec.keys i

/-- The signing key of slot `k`, none when a unit may not use it. -/
def signKey (s : State) (k : Nat) : Option (List Byte) :=
  if (keySlot s k).kind = 1 && s.sec.lifecycle != 2 then some (keySlot s k).key else none
/-- The enciphering key of slot `k`, none when a unit may not use it. -/
def cipherKey (s : State) (k : Nat) : Option (List Byte) :=
  if (keySlot s (32 + k)).kind = 2 && s.sec.lifecycle != 2 then some (keySlot s (32 + k)).key else none

/-! ### The operations at issue -/

/-- Does a region name a stale or null handle? -/
def regionStale (s : State) (r : Region) : Bool := r.kind == 1 && staleHandle s r.handle

/-- A Watermark operation (Tables 8.3 to 8.5). HASH enciphers nothing: its OUT may be absent (log entry 23). -/
def watermarkOp (s : State) (t op : Nat) (ga : Word36) (imm : BitVec 11) (pin : HandleWord) : UnitOp :=
  let d := readDesc s t ga (imm.getLsbD 10) 33 true
  if d.code ≠ 0 then { op := op, code := d.code, pin := pin }
  else
    let p := tabGet {} (threadBank s t).streams (natBits imm.toNat 0 10)
    let flag := p.flags.getLsbD 0
    let enc := op == 0 && flag
    let w := fun i => d.words.getD i 0
    let i := parseRegion s t d.words 0 false pin
    let o := parseRegion s t d.words 3 true pin
    let a := parseRegion s t d.words 6 false pin
    let key := if enc then cipherKey s (p.key.toNat % 32) else none
    let es := i.2 ++ o.2 ++ a.2 ++ errIf (i.1.kind == 3) 2 ++ errIf (decide (65536 < i.1.length)) 6 ++
      errIf (w 17 / 65536 != 0) 2 ++ errIf (decide (4096 < a.1.length)) 6 ++
      errIf ((!flag && o.1.kind != 3) || (enc && o.1.kind == 3)) 2 ++
      errIf (flag && o.1.kind != 3 && o.1.length != i.1.length) 6 ++ errIf (enc && key.isNone) 7
    { op := op, ins := if enc then [i.1, a.1] else [i.1], outs := if enc then [o.1] else [], desc := d.place
      chainIn := (List.range 8).flatMap (fun k => beBytes 4 (w (9 + k)))
      sheet := beBytes 2 (w 17) ++ beBytes 4 (w 18)
      iv := beBytes 4 p.ivPrefix.toNat ++ beBytes 4 (w 19) ++ beBytes 4 (w 20)
      key := key, pin := pin, code := lowestCode es
      stale := [i.1, o.1, a.1].any (regionStale s) }

/-- A signature operation (Table 8.6). -/
def signatureOp (s : State) (t op : Nat) (ga : Word36) (imm : BitVec 11) (pin : HandleWord) : UnitOp :=
  let d := readDesc s t ga (imm.getLsbD 10) 6 false
  if d.code ≠ 0 then { op := op, code := d.code, pin := pin }
  else
    let i := parseRegion s t d.words 0 false pin
    let o := parseRegion s t d.words 3 true pin
    let key := signKey s (natBits imm.toNat 0 3)
    let es := i.2 ++ o.2 ++ errIf (o.1.kind == 3) 2 ++ errIf key.isNone 7 ++
      (if op == 0 then errIf (i.1.kind == 3) 2 ++ errIf (i.1.length == 0 || decide (4096 < i.1.length)) 6 ++ errIf (o.1.length != 64) 6
      else errIf (i.1.kind != 3) 2 ++ errIf (o.1.length != 32) 6)
    { op := op, ins := [i.1], outs := [o.1], desc := d.place, key := key, pin := pin, code := lowestCode es
      stale := [i.1, o.1].any (regionStale s) }

/-- A Stripe operation (R439, Table 8.7). -/
def stripeOp (s : State) (t op : Nat) (ga : Word36) (imm : BitVec 11) (pin : HandleWord) : UnitOp :=
  let window := imm.getLsbD 10
  let head := readDesc s t ga window 1 false
  let shape := head.words.getD 0 0
  let k := natBits shape 0 4 + 1
  let m := natBits shape 4 3
  if head.code ≠ 0 then { op := op, code := head.code, pin := pin }
  else if shape / 128 != 0 || m == 0 || decide (4 < m) then { op := op, code := 2, pin := pin }
  else
    let d := readDesc s t ga window (1 + 3 * (k + m)) false
    if d.code ≠ 0 then { op := op, code := d.code, pin := pin }
    else
      let ds := (List.range k).map (fun j => parseRegion s t d.words (1 + 3 * j) false pin)
      let ps := (List.range m).map (fun j => parseRegion s t d.words (1 + 3 * (k + j)) true pin)
      let es := (ds ++ ps).flatMap (fun r => r.2 ++ errIf (r.1.kind == 3) 2 ++ errIf (r.1.kind != 3 && r.1.length != 4096) 6)
      { op := op, ins := ds.map (·.1), outs := ps.map (·.1), desc := d.place, pin := pin, code := lowestCode es
        stale := (ds ++ ps).any (fun r => regionStale s r.1) }

/-- The operation of a class: Watermark, signature or Stripe. -/
def unitOpOf (cls : Nat) : State → Nat → Nat → Word36 → BitVec 11 → HandleWord → UnitOp :=
  if cls = 0 then watermarkOp else if cls = 1 then signatureOp else stripeOp

end Sys2Proof.Machine
end

