-- ==== Sys2Proof/Machine/Gate.lean ====
section
/-!
DEFINITION. The lifecycle states and debug levels that commands require (14_security_and_debug.md, Table 14.5 and Table 14.17; R619,
R708, R719, R720).
-/
namespace Sys2Proof.Machine

/-- Does the matrix grant a level to DEBUG_ATTACH in a lifecycle state (Table 14.5)? -/
def attachGranted (lifecycle level : Nat) : Bool :=
  match level with
  | 2 => lifecycle != 1
  | 3 => lifecycle == 0
  | _ => true

/-- Is a command forbidden by the lifecycle state or the debug level (R619)? -/
def cmdDenied (s : State) (op : Nat) (p : List Byte) : Bool :=
  let l := s.sec.lifecycle
  if op == 0x0B01 || op == 0x0B03 || op == 0x0B04 || (0x0B10 ≤ op && op ≤ 0x0B13) then l == 2
  else if op == 0x0B02 || op == 0x0B14 then l != 0
  else if op == 0x0B20 then l != 1 || decide (8 ≤ s.sec.unlockFails)
  else if op == 0x0B21 then l != 1
  else if op == 0x0B22 then !attachGranted l (leAt p 0 1)
  else if 0x0B24 ≤ op && op ≤ 0x0B29 then decide (s.sec.level < 2)
  else if 0x0B30 ≤ op && op ≤ 0x0B32 then decide (s.sec.level < 1)
  else false

end Sys2Proof.Machine
end

