-- ==== Sys2Proof/Machine/CmdRun.lean ====
section
/-!
DEFINITION. The run of a mailbox command (12_host_port_and_mailboxes.md, Mailboxes; R615-R628, R75).
-/
namespace Sys2Proof.Machine

/-- Complete undefined opcodes with BAD_OPCODE as they come to start (R619), at most `n` of them. -/
def sweepN : Nat → State → State
  | 0, s => s
  | n + 1, s =>
    match s.host.accepted.find? (fun m => mayStart s m && !definedOps.contains (mbxOpcode s m)) with
    | some m => sweepN n (finishCmd m 0x01 0 [] (startCmd m s))
    | none => s

/-- Complete every undefined opcode that may start. -/
def sweepBad (s : State) : State := sweepN 16 s

/-- Is an opcode one of the furnish commands 0x0D10 to 0x0D14 (R75)? -/
def furnishOp (op : Nat) : Bool := decide (0x0D10 ≤ op) && decide (op ≤ 0x0D14)

/-- Has an earlier furnish command not completed (R75): is its completion held? -/
def furnishHeld (s : State) : Bool := s.host.held.any (fun c => furnishOp (mbxOpcode s c.mbx))

/-- What a started command comes to: the checks in the order of R761, R619, R75, R63, R618 and R628, then its body. That the faults of R63 and
R64 come before those of the payload is the model's choice (log entries 12 and 151). -/
def cmdOutcome (c : CmdSpec) (m : Nat) (s : State) : CmdRes :=
  let p := mbxPayload s m
  match headerFault s m c.load with
  | some o => refuse s 0x02 (0x80000000 + o)
  | none =>
    if cmdDenied s c.op p then refuse s 0x04
    else if furnishOp c.op && furnishHeld s then refuse s 0x11 (pendingFurnish s)
    else match (if c.load then loadFault s (mbxField s m 8 1) else none) with
      | some f => refuse s f.1 f.2
      | none => match payloadFault c s p with
        | some o => refuse s 0x02 o
        | none => c.body s m p

/-- Run the command a mailbox holds, when it is this one and may start (R622, R623); otherwise nothing happens. -/
def runCmd (c : CmdSpec) (m : BitVec 4) (s : State) : State :=
  if mayStart s m.toNat && mbxOpcode s m.toNat == c.op then
    let r := cmdOutcome c m.toNat (startCmd m.toNat s)
    sweepBad (finishCmd m.toNat r.status r.detail r.result r.state)
  else s

/-! ### Parts of command bodies -/

/-- The command took effect on the state alone. -/
def okState (f : State → List Byte → State) : State → Nat → List Byte → CmdRes := fun s _ p => okCmd (f s p)

/-- The command returns bytes and changes nothing. -/
def okReply (f : State → List Byte → List Byte) : State → Nat → List Byte → CmdRes := fun s _ p => okCmd s (f s p)

/-- A counter's sum at the last tick, and the counters of an object as a reply: SHEET, then 8 bytes each (R152). -/
def counterSum (s : State) (sc : Scope) (x i : Nat) : Nat := tabGet 0 s.cntTot (cntKey sc x i)
def counterReply (s : State) (sc : Scope) (x n : Nat) : List Byte :=
  leBytes 8 s.cntSheet.toNat ++ (List.range n).flatMap (fun i => leBytes 8 (counterSum s sc x i))

/-- Clear the counters of an object after they were read (R152). -/
def clearCounters (sc : Scope) (x n : Nat) (s : State) : State :=
  { s with cntTot := tabClear s.cntTot (cntKey sc x 0) n }

/-- The body of a counter command: the counters, then CLEAR (R152). -/
def counterBody (sc : Scope) (x : List Byte → Nat) (clearOff n : Nat) : State → Nat → List Byte → CmdRes := fun s _ p =>
  { state := if leAt p clearOff 1 = 1 then clearCounters sc (x p) n s else s, result := counterReply s sc (x p) n }

/-- A counter of measured time has what the sheets up to the last tick added to it, an open amount, drawn once a sheet (R151; log
entry 94). -/
def addTimed (sc : Scope) (x i : Nat) (s : State) : State :=
  let k := cntKey sc x i
  let sheet := s.cntSheet.toNat
  if sheet = 0 ∨ tabGet 0 s.sh.cntDrawn k = sheet + 1 then s
  else
    let n := tabGet 0 s.cntTot k + freeNow s
    drawFree { s with cntTot := tabSet 0 s.cntTot k (n % 2 ^ 64), sh := { s.sh with cntDrawn := tabSet 0 s.sh.cntDrawn k (sheet + 1) } }

/-- A counter command some of whose counters (`timed`) are measured times (R151, R152). -/
def timedBody (sc : Scope) (x : List Byte → Nat) (clearOff n : Nat) (timed : List Nat) : State → Nat → List Byte → CmdRes :=
  fun s m p => counterBody sc x clearOff n (timed.foldl (fun a i => addTimed sc (x p) i a) s) m p

/-- Load consecutive entries of a table from a list of values. -/
def putEntries {α : Type} (t : Tab α) (a : Nat) (vs : List α) : Tab α :=
  (vs.zipIdx).foldl (fun t p => tabPut t (a + p.2) p.1) t

/-- A load command's effect on the next bank: its content, and the entries counted for the unit (R61, R62). -/
def loadBank (unit n : Nat) (f : Bank → Bank) (s : State) : State :=
  match s.sh.next with
  | none => s
  | some b => { s with sh := { s.sh with next := some { b with
      bank := f b.bank, written := tabUpd 0 b.written unit (· + n)
      complete := b.complete &&& ~~~ BitVec.ofNat 18 (2 ^ unit) } } }

end Sys2Proof.Machine
end

