-- ==== Sys2Proof/Machine/CabinetCmd.lean ====
section
/-!
DEFINITION. Commands 0x03xx (03_vat_cabinet_and_queues.md, Table 3.14; R158, R168, R169, R185, R191, R192, R208-R211, R223-R226, R774,
R778).
-/
namespace Sys2Proof.Machine

/-! ### Drawers, groups and free rings -/

/-- Are every line port and every injection ring disabled (Table 3.11, R210; log entry 156)? -/
def portsOff (s : State) : Bool := s.line.ports.all (fun p => !p.2.enabled) && s.host.inj.all (fun p => !p.2.enabled)

/-- Spill cells of all groups but one. -/
def otherSpill (s : State) (g : Nat) : Nat :=
  ((List.range 8).filter (· != g)).foldl (fun a i => a + (groupOf s i).spillCells) 0

/-- Sum of the sizes of a group's drawers (R169). -/
def groupSizes (s : State) (g : Nat) : Nat := ((List.range 8).map (fun i => drawerSize s (8 * g + i))).foldl (· + ·) 0

/-- VAT_GROUP_CONFIG (R169, R210, R211). -/
def vatGroupConfig : CmdSpec :=
  { op := 0x0301, fixed := 48
    checks := fun s p =>
      [inRange p 0 1 0 7, rsv p 1 3, inRange p 4 4 0 393215,
       (8, leAt p 8 4 % 1024 == 0 && decide (leAt p 4 4 + leAt p 8 4 ≤ 393216) && decide (groupSizes s (leAt p 0 1) ≤ leAt p 8 4)),
       (12, leAt p 12 4 % 1024 == 0 && decide (otherSpill s (leAt p 0 1) + leAt p 12 4 ≤ 16777216)), (16, leAt p 16 8 % 4096 == 0),
       (24, leAt p 24 8 % 4096 == 0), (32, leAt p 32 8 % 4096 == 0), (40, decide (leAt p 8 4 ≤ leAt p 40 4)),
       (44, decide (leAt p 12 4 ≤ leAt p 44 4))]
    body := fun s _ p =>
      if !portsOff s then refuse s 0x03
      else okCmd (setGroup (leAt p 0 1) { firstCell := leAt p 4 4, cells := leAt p 8 4, spillCells := leAt p 12 4, vatRing := leAt p 16 8
                                          spillRing := leAt p 24 8, spillBase := leAt p 32 8, vatEntries := leAt p 40 4
                                          spillEntries := leAt p 44 4 } s) }

/-- The banks in being: current, old and next. -/
def banksOf (s : State) : List Bank :=
  s.sh.cur :: (match s.sh.old with | some (_, b) => [b] | none => []) ++ (match s.sh.next with | some n => [n.bank] | none => [])

/-- Do the drawers of every group fit its Vat cells, and the reserves of every drawer in some banks its size (R169)? -/
def budgetsFit (bs : List Bank) (s : State) : Bool :=
  (List.range 8).all (fun g => decide (groupSizes s g ≤ (groupOf s g).cells)) &&
  (List.range 64).all (fun d => bs.all (fun b => decide (drawerReserve b d ≤ drawerSize s d)))

/-- A drawer at a size. -/
def setDrawer (d n : Nat) (s : State) : State := { s with cab := { s.cab with size := tabSet 0 s.cab.size d n } }

/-- DRAWER_CONFIG (R169). -/
def drawerConfig : CmdSpec :=
  { op := 0x0302, fixed := 8
    checks := fun s p =>
      [inRange p 0 1 0 63, rsv p 1 3, (4, budgetsFit (banksOf s) (setDrawer (leAt p 0 1) (leAt p 4 4) s))]
    body := fun s _ p => if !portsOff s then refuse s 0x03 else okCmd (setDrawer (leAt p 0 1) (leAt p 4 4) s) }

/-- Fill a group's rings with all cells of the group and its region (R210). -/
def fillRings (g : Nat) (s : State) : State :=
  let x := groupOf s g
  let s := dramWrite 1 x.vatRing ((List.range x.cells).flatMap (fun i => ringEntry g (x.firstCell + i) false)) false s
  let s := dramWrite 1 x.spillRing ((List.range x.spillCells).flatMap (fun i => ringEntry g i true)) false s
  setGroup g { x with
    vatCache := [], spillCache := [], vatHead := 0, vatCount := x.cells, spillHead := 0, spillCount := x.spillCells, filled := true } s

/-- CABINET_INIT (R210). -/
def cabinetInit : CmdSpec :=
  { op := 0x0303
    body := fun s _ _ => if !portsOff s then refuse s 0x03 else okCmd ((List.range 8).foldl (fun a g => fillRings g a) s) }

/-- CABINET_SEED (R191). -/
def cabinetSeed : CmdSpec :=
  { op := 0x0304, fixed := 4, checks := fun _ p => [(0, leAt p 0 4 != 0)]
    body := okState (fun s p => { s with cab := { s.cab with seed := BitVec.ofNat 32 (leAt p 0 4) } }) }

/-! ### Load commands -/

/-- Is the owner one that Table 3.3 reserves (R168)? -/
def profileReserved (o : Nat) : Bool := (48 ≤ o && o ≤ 63) || (129 ≤ o && o ≤ 143) || (160 ≤ o && o ≤ 253)

/-- The owner profile at a payload offset (Table 3.9). -/
def ownerProfileAt (p : List Byte) (o : Nat) : OwnerProfile :=
  { drawer := BitVec.ofNat 8 (leAt p o 1), lossless := natBit (leAt p (o + 1) 1) 0, spillEn := natBit (leAt p (o + 1) 1) 1
    red := BitVec.ofNat 8 (leAt p (o + 2) 1), min := BitVec.ofNat 32 (leAt p (o + 4) 4), max := BitVec.ofNat 32 (leAt p (o + 8) 4)
    hr := BitVec.ofNat 32 (leAt p (o + 12) 4), spillMax := BitVec.ofNat 32 (leAt p (o + 16) 4), xoff := BitVec.ofNat 32 (leAt p (o + 20) 4)
    xon := BitVec.ofNat 32 (leAt p (o + 24) 4), dropBudget := BitVec.ofNat 16 (leAt p (o + 28) 2)
    budgetSheets := BitVec.ofNat 16 (leAt p (o + 30) 2) }

/-- Offsets of COUNT entries of `size` bytes from payload offset 4. -/
def loadOffs (count size : Nat) : List Nat := (List.range count).map (fun i => 4 + size * i)

/-- Owner profiles of a load, put into a bank. -/
def putOwners (p : List Byte) (b : Bank) : Bank :=
  { b with owners := putEntries b.owners (leAt p 0 1) ((loadOffs (leAt p 1 1) 32).map (ownerProfileAt p)) }

/-- Does the next bank with a load keep R169 (R224)? -/
def loadFits (s : State) (p : List Byte) : Bool :=
  match s.sh.next with
  | none => true
  | some n => budgetsFit [putOwners p n.bank] s

/-- The checks of one owner profile (Table 3.9, R185). -/
def ownerChecks (p : List Byte) (o : Nat) : List (Nat × Bool) :=
  let spill := if natBit (leAt p (o + 1) 1) 1 then leAt p (o + 16) 4 else 0
  [inRange p o 1 0 63, (o + 1, decide (leAt p (o + 1) 1 < 4)), inRange p (o + 2) 1 0 31, rsv p (o + 3) 1,
   (o + 20, decide (leAt p (o + 20) 4 ≤ leAt p (o + 8) 4 + spill)), (o + 24, decide (leAt p (o + 24) 4 < leAt p (o + 20) 4)),
   inRange p (o + 30) 2 1 65535]

/-- OWNER_PROFILE_LOAD (R168, R169, R185, R223, R224, R226). -/
def ownerProfileLoad : CmdSpec :=
  { op := 0x0310, load := true, fixed := 4, extent := fun p => 4 + 32 * leAt p 1 1
    checks := fun s p =>
      [(0, (List.range (leAt p 1 1)).all (fun i => !profileReserved (leAt p 0 1 + i))), inRange p 1 1 1 7, rsv p 2 2,
       (0, decide (leAt p 0 1 + leAt p 1 1 ≤ 256))] ++ (loadOffs (leAt p 1 1) 32).flatMap (ownerChecks p) ++ [(4, loadFits s p)]
    body := okState (fun s p => loadBank 5 (leAt p 1 1) (putOwners p) s) }

/-- The RED profile at a payload offset (Table 3.4). -/
def redProfileAt (p : List Byte) (o : Nat) : RedProfile :=
  { gMin := BitVec.ofNat 32 (leAt p o 4), gMax := BitVec.ofNat 32 (leAt p (o + 4) 4), gMaxp := BitVec.ofNat 16 (leAt p (o + 8) 2)
    yMaxp := BitVec.ofNat 16 (leAt p (o + 10) 2), yMin := BitVec.ofNat 32 (leAt p (o + 12) 4), yMax := BitVec.ofNat 32 (leAt p (o + 16) 4)
    rMin := BitVec.ofNat 32 (leAt p (o + 20) 4), rMax := BitVec.ofNat 32 (leAt p (o + 24) 4), rMaxp := BitVec.ofNat 16 (leAt p (o + 28) 2)
    weight := BitVec.ofNat 8 (leAt p (o + 30) 1) }

/-- RED_PROFILE_LOAD (R192, R223, R226). -/
def redProfileLoad : CmdSpec :=
  { op := 0x0311, load := true, fixed := 4, extent := fun p => 4 + 32 * leAt p 1 1
    checks := fun _ p => [inRange p 0 1 0 31, inRange p 1 1 1 7, rsv p 2 2, (0, decide (leAt p 0 1 + leAt p 1 1 ≤ 32))] ++
      (loadOffs (leAt p 1 1) 32).flatMap (fun o =>
        [(o + 4, decide (leAt p o 4 < leAt p (o + 4) 4)), (o + 16, decide (leAt p (o + 12) 4 < leAt p (o + 16) 4)),
         (o + 24, decide (leAt p (o + 20) 4 < leAt p (o + 24) 4)), inRange p (o + 30) 1 0 15, rsv p (o + 31) 1])
    body := okState (fun s p => loadBank 5 (leAt p 1 1) (fun b => { b with
      reds := putEntries b.reds (leAt p 0 1) ((loadOffs (leAt p 1 1) 32).map (redProfileAt p)) }) s) }

/-- SCHED_PROFILE_LOAD (R223, R774, Table 3.10). -/
def schedProfileLoad : CmdSpec :=
  { op := 0x0312, load := true, fixed := 16
    checks := fun _ p => [inRange p 0 1 0 3, inRange p 1 1 0 7, rsv p 2 2, inRange p 5 1 0 7, inRange p 6 2 1 65535,
      (8, (List.range 8).all (fun q => leAt p (8 + q) 1 != 0))]
    body := okState (fun s p => loadBank 5 1 (fun b => { b with
      scheds := tabPut b.scheds (8 * leAt p 0 1 + leAt p 1 1) { strict := BitVec.ofNat 8 (leAt p 4 1), mirrorQueue := BitVec.ofNat 8 (leAt p 5 1)
                                                                residue := BitVec.ofNat 16 (leAt p 6 2)
                                                                weight := BitVec.ofNat 64 (leAt p 8 8) } }) s) }

/-- EGRESS_MAP_LOAD (R223, R226, Table 3.6). -/
def egressMapLoad : CmdSpec :=
  { op := 0x0320, load := true, fixed := 4, extent := fun p => 4 + 8 * leAt p 2 1
    checks := fun _ p => [inRange p 0 2 0 4095, inRange p 2 1 1 29, rsv p 3 1, (0, decide (leAt p 0 2 + leAt p 2 1 ≤ 4096))] ++
      (loadOffs (leAt p 2 1) 8).flatMap (fun o =>
        [(o + 4, decide (leAt p (o + 4) 1 < 16)), (o + 5, decide (leAt p (o + 5) 1 < 32)), rsv p (o + 6) 2])
    body := okState (fun s p => loadBank 16 (leAt p 2 1) (fun b => { b with
      egress := putEntries b.egress (leAt p 0 2) ((loadOffs (leAt p 2 1) 8).map (fun o => BitVec.ofNat 64 (leAt p o 8))) }) s) }

/-! ### Status and counters -/

/-- OWNER_STATUS (R168): the profile in force is that of the current furnish (R620, Table 3.14). -/
def ownerStatus : CmdSpec :=
  { op := 0x0330, fixed := 1, checks := fun _ p => [(0, !profileReserved (leAt p 0 1))]
    body := okReply (fun s p =>
      let o := leAt p 0 1
      let x := ownerUse s o
      layout [(x.vat, 4), (x.spill, 4), (x.headroom, 4), (x.avg, 4), (packNat [(b2n (ownerXoff s o), 1), (b2n x.budget, 1)], 1),
        (s.sh.furnish.toNat, 1)]) }

/-- OWNER_COUNTERS (R152, R168, R225). -/
def ownerCounters : CmdSpec :=
  { op := 0x0331, fixed := 2, checks := fun _ p => [(0, !profileReserved (leAt p 0 1)), inRange p 1 1 0 1]
    body := counterBody .owner (fun p => leAt p 0 1) 1 12 }

/-- QUEUE_COUNTERS (R152, R225). -/
def queueCounters : CmdSpec :=
  { op := 0x0332, fixed := 4, checks := fun _ p => [inRange p 0 1 0 3, inRange p 1 1 0 7, inRange p 2 1 0 7, inRange p 3 1 0 1]
    body := counterBody .queue (fun p => queueKey (8 * leAt p 0 1 + leAt p 1 1) (leAt p 2 1)) 3 6 }

/-- Cells in use in a drawer, those from headroom included. -/
def drawerInUse (s : State) (d : Nat) : Nat :=
  (s.cab.use.filter (fun p => p.1 / 256 == d)).foldl (fun a p => a + p.2) 0 +
  (s.cab.handles.filter (fun p => p.2.drawer == d)).foldl (fun a p => a + p.2.headroom) 0

/-- DRAWER_STATUS (R620). -/
def drawerStatus : CmdSpec :=
  { op := 0x0333, fixed := 1, checks := fun _ p => [inRange p 0 1 0 63]
    body := okReply (fun s p =>
      let d := leAt p 0 1
      layout [(drawerSize s d, 4), (drawerInUse s d, 4), (sharedFree s s.sh.cur d, 4), ((tabGet [] s.cab.waiters d).length, 2), (0, 2),
        (vatFree s (d / 8), 4), (spillFree s (d / 8), 4)]) }

/-- CABINET_COUNTERS (R152, R225). -/
def cabinetCounters : CmdSpec :=
  { op := 0x0334, fixed := 1, checks := fun _ p => [inRange p 0 1 0 1], body := counterBody .cabinet (fun _ => 0) 0 5 }

/-- KIND of HANDLE_QUERY. -/
def kindCode (k : HandleKind) : Nat := match k with | .free => 0 | .packet => 1 | .buffer => 2

/-- HANDLE_QUERY (R158). -/
def handleQuery : CmdSpec :=
  { op := 0x0340, fixed := 4, checks := fun _ p => [(0, decide (leAt p 0 4 < 2 ^ 24))]
    body := fun s _ p =>
      let w := BitVec.ofNat 24 (leAt p 0 4)
      let h := handleOf s (hIndex w)
      if staleHandle s w then { state := noteStale s, status := 0x08 }
      else okCmd s (layout [(kindCode h.kind, 1), (h.owner.toNat, 1), (h.charge.toNat, 1), (h.pins, 1), (h.refs, 2), (h.cells.length, 1),
        (b2n h.spilled, 1)]) }

/-! ### Happenings -/

def execVatGroupConfig (m : BitVec 4) (s : State) : Res := .next (runCmd vatGroupConfig m s)
def execDrawerConfig (m : BitVec 4) (s : State) : Res := .next (runCmd drawerConfig m s)
def execCabinetInit (m : BitVec 4) (s : State) : Res := .next (runCmd cabinetInit m s)
def execCabinetSeed (m : BitVec 4) (s : State) : Res := .next (runCmd cabinetSeed m s)
def execOwnerProfileLoad (m : BitVec 4) (s : State) : Res := .next (runCmd ownerProfileLoad m s)
def execRedProfileLoad (m : BitVec 4) (s : State) : Res := .next (runCmd redProfileLoad m s)
def execSchedProfileLoad (m : BitVec 4) (s : State) : Res := .next (runCmd schedProfileLoad m s)
def execEgressMapLoad (m : BitVec 4) (s : State) : Res := .next (runCmd egressMapLoad m s)
def execOwnerStatus (m : BitVec 4) (s : State) : Res := .next (runCmd ownerStatus m s)
def execOwnerCounters (m : BitVec 4) (s : State) : Res := .next (runCmd ownerCounters m s)
def execQueueCounters (m : BitVec 4) (s : State) : Res := .next (runCmd queueCounters m s)
def execDrawerStatus (m : BitVec 4) (s : State) : Res := .next (runCmd drawerStatus m s)
def execCabinetCounters (m : BitVec 4) (s : State) : Res := .next (runCmd cabinetCounters m s)
def execHandleQuery (m : BitVec 4) (s : State) : Res := .next (runCmd handleQuery m s)

end Sys2Proof.Machine
end

