-- ==== Sys2Proof/Machine/UnitOps.lean ====
section
/-!
DEFINITION. The life of a unit's operation between its issue and its done: the checks of the issue, pins, the notifying completion and
the waits it ends (05_core_instruction_set.md, R313-R316; 08_coprocessors_and_companion_port.md, Lock discipline to Abort and halt; R205-R207,
R229, R230, R430-R433, R441-R445).
-/
namespace Sys2Proof.Machine

/-! ### The issue -/

/-- The exception an issue to a unit raises, in the order of Table 5.18 (R314, R315). A unit beyond its class has no
lock, so it is absent (log entry 24). -/
def issueFault (s : State) (t cls unit : Nat) (linkDown : Bool) : Option Nat :=
  let u := unitBase cls + unit
  if unitCount cls ≤ unit then some 0x0F
  else if (lockOf s (unitLock u)).owner.toNat != t then some 0x0D
  else if (unitOf s u).fenced || linkDown then some 0x0F
  else if (unitOf s u).busy then some 0x0E
  else none

/-- What a notifying issue's event will name (R441, R442). -/
def notifyOf (s : State) (t : Nat) (ga : Word36) : Option Notify :=
  match (thr s t).item with
  | none => none
  | some k => match itemOf s k with
    | some x => some { domain := x.domain, ctx := x.ctx, cls := x.cls, data0 := ga.setWidth 24 }
    | none => none

/-- Does the pin handle hold 15 pins (R207)? -/
def pinsFull (s : State) (gb : Word36) : Bool :=
  let h := gb.setWidth 24
  gb.toNat / 2 ^ 24 == 0 && !staleHandle s h && decide (15 ≤ (handleOf s (hIndex h)).pins)

/-- Is gb no pin handle that a unit can take: a non-zero bit above the handle, or a stale handle (R428)? -/
def pinBad (s : State) (gb : Word36) : Bool :=
  gb.toNat / 2 ^ 24 != 0 || (gb.setWidth 24 != nullHandle && staleHandle s (gb.setWidth 24))

/-- Report an uncorrectable word in a descriptor in data memory: the first at or after its address (R582). -/
def noteDescriptor (t : Nat) (ga : Word36) (imm : BitVec 11) (o : UnitOp) (s : State) : State :=
  if o.code ≠ 9 || imm.getLsbD 10 then s
  else match argMin id (s.cores.dmemBad.filter (fun w => decide (dmemKey (coreOf t) ga.toNat ≤ w))) with
    | some w => noteDmemUe (coreOf t) (w % 32768) s
    | none => s

/-! ### The end of an operation -/

/-- The event item of a notifying completion (R441). -/
def notifyEvent (u : Nat) (o : UnitOp) (code : Nat) (n : Notify) : EventReq :=
  { source := BitVec.ofNat 9 (if u < 14 then 368 + u else 208 + (u - 14)), cls := n.cls, domain := n.domain, ctx := n.ctx
    data0 := n.data0, data1 := BitVec.ofNat 14 (packNat [(b2n (code != 0), 1), (o.op, 5), (code, 8)]) }

/-- The completion that an operation notifies, none from detachment on (R441, R442, R445). -/
def completionOf (u : Nat) (o : UnitOp) (code : Nat) : Option EventReq :=
  if o.detached then none else o.notify.map (notifyEvent u o code)

/-- Wake the threads that wait in WAITCP for a unit (R316). -/
def wakeWaitcp (u : Nat) (s : State) : State :=
  s.cores.threads.foldl (fun a p =>
    match p.2.stall with
    | .unit v gd => if v = u then completeStalled p.1 (putG gd (statusWord (unitOf a u))) a else a
    | _ => a) s

/-- The units the evidence path holds (R494, R513). -/
def reservedUnits (s : State) : List Nat :=
  (maskList 4 s.ev.stMask.toNat).map (10 + ·) ++ (maskList 2 s.ev.sgMask.toNat).map (8 + ·)

/-- Free the lock of a unit that owns it, cleanly (R366, R431); the running evidence path keeps the locks it reserved (R494). -/
def freeUnitLock (u : Nat) (s : State) : State :=
  let kept := (s.ev.state == .running || s.ev.state == .powerFail) && (reservedUnits s).contains u
  let owns := fun (a : State) => decide ((lockOf a (unitLock u)).owner.toNat = unitIdentity u) && !kept
  if owns s then
    let s := checkLock (unitLock u) s
    if owns s then freeLock (unitLock u) 0 s else s
  else s

/-- End a unit's operation with an error code, 0 for none (R433, R441, R445, R366, R206). -/
def closeUnit (u code : Nat) (s : State) : State :=
  let x := unitOf s u
  match x.op with
  | none => s
  | some o =>
    let code := if o.detached then 0x0B else code
    let s := setUnit u { x with
      busy := false, done := true, error := code != 0, errorCode := BitVec.ofNat 8 code, op := none, held := false
      fenced := x.fenced || x.fencePending, fencePending := false } s
    let s := count .unit u 0 1 s
    let s := if code = 0 then s else count .unit u 2 1 s
    let s := if o.pin == nullHandle then s else dropPin (hIndex o.pin) s
    let s := match completionOf u o code with
      | some e => enterItem (eventItem s e) s
      | none => s
    wakeWaitcp u (freeUnitLock u s)

/-- A unit's operation is over: it ends, or keeps BUSY and its notifying completion while the dispatcher has no place (R230, R443). -/
def holdOrClose (u code : Nat) (s : State) : State :=
  let x := unitOf s u
  match x.op with
  | none => s
  | some o =>
    if x.held then s
    else match completionOf u o code with
      | some e =>
        if s.disp.eventWait.isEmpty && eventRoom s then closeUnit u code s
        else setUnit u { x with held := true }
          { s with disp := { s.disp with eventWait := s.disp.eventWait ++ [{ e with unit := some (u, code) }] } }
      | none => closeUnit u code s

/-- A unit becomes BUSY with an operation (R432, R205); a check that failed ends it at once. -/
def startUnit (u t : Nat) (o : UnitOp) (gb : Word36) (s : State) : State :=
  let bad := pinBad s gb
  let pin := if bad then nullHandle else gb.setWidth 24
  let code := if bad then 0x05 else o.code
  let stale := code == 0x05 && (o.stale || (bad && gb.toNat / 2 ^ 24 == 0))
  let o := { o with pin := pin, code := code, stale := false }
  let s := if stale then noteStale s else s
  let s := if pin == nullHandle then s else addPin (hIndex pin) s
  let s := setUnit u { unitOf s u with
    busy := true, done := false, error := false, errorCode := 0, owner := BitVec.ofNat 12 t, op := some o, held := false } s
  if o.code ≠ 0 then holdOrClose u o.code s else s

/-- The reads of an operation's descriptor: words of data memory are checked (R579), DRAM is reached (port 4 of Table 10.5). A descriptor
that is refused is read by its first words alone. -/
def noteDescRead (n cls : Nat) (ga : Word36) (imm : BitVec 11) (o : UnitOp) (s : State) : State :=
  let k := if cls = 0 then 33 else if cls = 1 then 6 else max 1 (o.desc.length / 4)
  if o.code = 1 then s
  else if imm.getLsbD 10 then noteAccess 4 false (windowAddr s n ga.toNat) (4 * k) s
  else checkDmem ((List.range k).map (fun i => dmemKey (coreOf n) (ga.toNat + i))) s

/-- Issue an operation to a Watermark, signature or Stripe unit (R287, R432). -/
def issueUnit (n cls op : Nat) (unit : BitVec 3) (ga gb : BitVec 5) (notify : Bool) (imm : BitVec 11) (s : State) : State :=
  let b := regG s n gb
  let s := drainStores n s
  let o := unitOpOf cls s n op (regG s n ga) imm (b.setWidth 24)
  let o := { o with notify := if notify then notifyOf s n (regG s n ga) else none }
  startUnit (unitBase cls + unit.toNat) n o b (noteDescriptor n (regG s n ga) imm o (noteDescRead n cls (regG s n ga) imm o s))

/-! ### Threads that wait for a pin -/

/-- Operands of an issue that waits for a pin, with its thread. -/
structure PinWait where
  thread : Nat
  cls : Nat
  op : Nat
  unit : BitVec 3
  ga : BitVec 5
  gb : BitVec 5
  notify : Bool
  imm : BitVec 11

/-- A thread's wait for a pin of a handle. -/
def pinWaitOf (h : Nat) (p : Nat × Thread) : Option PinWait :=
  match p.2.stall with
  | .pins i cls op unit ga gb notify imm => if i = h then some { thread := p.1, cls, op, unit, ga, gb, notify, imm } else none
  | _ => none

/-- The first thread that waits for a pin of a handle. -/
def pinWaiter (s : State) (h : Nat) : Option PinWait := s.cores.threads.findSome? (pinWaitOf h)

/-- A waiting issue goes on (R207, R338). The stamp of its item is looked at when it executes again (R57). -/
def resumePin (w : PinWait) (s : State) : State :=
  if w.cls == 0 && stampLost s w.thread then makeReady w.thread s
  else match issueFault s w.thread w.cls w.unit.toNat false with
    | some e => stopThread w.thread e (encC (56 + w.cls) w.op w.unit w.ga w.gb w.notify w.imm) (w.cls * 16 + w.unit.toNat) s
    | none => completeStalled w.thread id (issueUnit w.thread w.cls w.op w.unit w.ga w.gb w.notify w.imm s)

/-- While a handle has room for a pin, the issues that wait for one go on, `n` of them at most (R207; log entry 121). -/
def resumePins : Nat → Nat → State → State
  | 0, _, s => s
  | n + 1, h, s =>
    if 15 ≤ (handleOf s h).pins then s
    else match pinWaiter s h with
      | some w => resumePins n h (resumePin w s)
      | none => s

/-- End a unit's operation, and let the issues go on that waited for its pin (R205-R207, R433). -/
def endUnit (u code : Nat) (s : State) : State :=
  match (unitOf s u).op with
  | none => s
  | some o => resumePins s.cores.threads.length (hIndex o.pin) (closeUnit u code s)

/-- A unit's operation is over (R433, R443). -/
def finishUnit (u code : Nat) (s : State) : State :=
  match (unitOf s u).op with
  | none => s
  | some o => resumePins s.cores.threads.length (hIndex o.pin) (holdOrClose u code s)

/-! ### Completions that wait at their units -/

/-- Is a waiting completion that of an operation detached meanwhile, which notifies nothing (R445)? -/
def detachedWait (s : State) (e : EventReq) : Bool :=
  match e.unit with
  | some (u, _) => match (unitOf s u).op with | some o => o.detached | none => true
  | none => false

/-- The completion that leaves the wait next: the first while there is a place, else the first of a detached operation. -/
def nextWaiting (s : State) : Option EventReq :=
  if eventRoom s then s.disp.eventWait.head? else s.disp.eventWait.find? (detachedWait s)

/-- A completion that waited enters the dispatcher; a unit's ends its operation (R230, R443). -/
def admitOne (e : EventReq) (s : State) : State :=
  let s := { s with disp := { s.disp with eventWait := s.disp.eventWait.erase e } }
  match e.unit with
  | some (u, code) => endUnit u code s
  | none => enterItem (eventItem s e) s

/-- Let completions waiting at their units go on, `n` of them at most (R230). -/
def admitWaiting : Nat → State → State
  | 0, s => s
  | n + 1, s =>
    match nextWaiting s with
    | some e => admitWaiting n (admitOne e s)
    | none => s

/-- Let every completion go on that can (R230). -/
def admitEvents (s : State) : State := admitWaiting (s.disp.eventWait.length + s.cores.threads.length) s

end Sys2Proof.Machine
end

