-- ==== Sys2Proof/Machine/CompleteOps.lean ====
section
/-!
DEFINITION. The completion of an item by its program (R38, R256, R257, R300, R776), and the release of its thread.
-/
namespace Sys2Proof.Machine

/-- Has the deadline sheet closed with the item still in flight (R37, R39)? Sheet numbers compare modulo 2^48. -/
def overdue (s : State) (x : Item) : Bool := decide ((s.sh.sheet - x.deadline - 1).toNat < 2 ^ 47)

/-- A thread whose item has ended keeps its registers and becomes FREE: at once from RUN or HALT, and out of a stall when it next runs
(Table 6.2, R329; log entry 118). -/
def freeThread (t : Nat) (s : State) : State :=
  let s := updThr t (fun x => { x with item := none, stall := .none, terminated := false }) s
  match (thr s t).st with
  | .stall | .frozen => leaveAfter t .free s
  | _ => walk (coreOf t) (updThr t (fun x => { x with st := .free }) s)

/-- Does the item count as late resumed when it completes (R776, Table 1.5)? -/
def countsResumed (s : State) (x : Item) : Bool := x.late || overdue s x

/-- A completion in the cycle of the tick that closes the deadline sheet: the item is late (R39, SHEET_FLAGS.LATE of Table 1.4). -/
def noteLateEnd (x : Item) (s : State) : State := if !x.late && overdue s x then setFlag 0x40C 4 s else s

/-- The resequencer's part of a completion: void, poison void or the item's outputs held for their turn. -/
def completeOutputs (k : Nat) (x : Item) (void : Bool) (s : State) : State :=
  let hard := x.isEvent || x.lossless
  let s := noteLateEnd x s
  if !hard && overdue s x then voidItem k (lateDrop x s)
  else
    let s := if hard && countsResumed s x then lateResumed x s else s
    let bad := x.staged.any (fun o => holdsPoison s o.handle)
    if void then voidCounted k 8 s
    else if bad && !x.evidence then voidCounted k 11 (setFlag 0x480 2 s)
    else
      let s := if bad then evidencePoison x.ctx.toNat s else s
      let s := if x.isEvent then s else dropRefWord x.handle s
      endItem k id s

/-- A banked unit meets a thread whose item's stamp matches neither bank: the item is voided, and its thread freed as by VOID
(R57; log entry 97). -/
def voidStamp (t : Nat) (s : State) : State :=
  match (thr s t).item with
  | none => s
  | some k => match itemOf s k with
    | none => s
    | some x => admitEvents (freeThread t (noteStampVoid x (voidItem k (detachOps t (loseLocks t 4 (checkHeld t s))))))

/-- What a banked unit does for a thread, or the void of its item (R56, R57). -/
def stamped (t : Nat) (f : State → State) (s : State) : State := if stampLost s t then voidStamp t s else f s

/-- An item completes on its thread by EMITF or VOID (R38, R300, R363); one late in the cycle of the tick loses the channel slots its
thread has reserved and not committed (R39, R40, R374). -/
def completeItem (t : Nat) (void : Bool) (s : State) : State :=
  match (thr s t).item with
  | none => s
  | some k => match itemOf s k with
    | none => s
    | some x =>
      let s := checkHeld t s
      let s := if !x.late && overdue s x then voidSlots t s else s
      admitEvents (freeThread t (completeOutputs k x void (detachOps t (loseLocks t 4 s))))

end Sys2Proof.Machine
end

