-- ==== Sys2Proof/Machine/Field.lean ====
section
/-!
DEFINITION. Carry-less arithmetic: GF(2^8), GF(2^16), GF(2^128), cyclic redundancy checks, and the Reed–Solomon code of
the Stripe units (R308, R439, R137).
-/
namespace Sys2Proof.Machine

/-- Carry-less product: the sum modulo 2 of the shifts of `a` at the 1 bits of the low `n` bits of `b`. -/
def clmulN : Nat → Nat → Nat → Nat
  | 0, _, _ => 0
  | n + 1, a, b => (if natBit b n then a * 2 ^ n else 0) ^^^ clmulN n a b

/-- Reduce a polynomial by one of degree `d`, from bit `d + n - 1` downward. -/
def polyReduce (d poly : Nat) : Nat → Nat → Nat
  | 0, x => x
  | n + 1, x => polyReduce d poly n (if natBit x (d + n) then x ^^^ (poly * 2 ^ n) else x)

/-- Product in GF(2^8) modulo 0x11D (R308). -/
def gf8 (a b : Nat) : Nat := polyReduce 8 0x11D 7 (clmulN 8 a b)
/-- Product in GF(2^16) modulo 0x1_100B (R308). -/
def gf16 (a b : Nat) : Nat := polyReduce 16 0x1100B 15 (clmulN 16 a b)

/-- Power by repeated squaring: `n` bits of the exponent from the top. -/
def powBits (mul : Nat → Nat → Nat) (one a e : Nat) : Nat → Nat
  | 0 => one
  | n + 1 =>
    let r := powBits mul one a (e / 2) n
    if natBit e 0 then mul (mul r r) a else mul r r

/-- Inverse in GF(2^16): the power 2^16 − 2. -/
def gf16Inv (a : Nat) : Nat := powBits gf16 1 a 0xFFFE 16

/-- The coefficient c(j, i) of the Stripe code (R439). -/
def stripeCoef (j i : Nat) : Nat := gf16Inv (j ^^^ (16 + i))

/-- The symbols of a shard: bytes 2s and 2s + 1, the first most significant. -/
def shardSymbols : List Byte → List Nat
  | a :: b :: r => (a.toNat * 256 + b.toNat) :: shardSymbols r
  | _ => []

/-- Parity shard `j` of data shards 0 upward (R439). -/
def parityShard (j : Nat) (ds : List (List Byte)) : List Byte :=
  let zero := List.replicate 2048 0
  let sums := (ds.zipIdx).foldl (fun acc p =>
    let c := stripeCoef j p.2
    (acc.zip (shardSymbols p.1)).map (fun q => q.1 ^^^ gf16 c q.2)) zero
  sums.flatMap (beBytes 2)

/-! ### Cyclic redundancy checks -/

/-- Eight steps of a reflected CRC register. -/
def crcByte (poly : Nat) (c : Nat) (b : Byte) : Nat :=
  (List.range 8).foldl (fun c _ => if natBit c 0 then (c / 2) ^^^ poly else c / 2) (c ^^^ b.toNat)

/-- A reflected 32-bit CRC with initial value and final inversion of all ones. -/
def crc32 (poly : Nat) (bs : List Byte) : Nat := (bs.foldl (crcByte poly) 0xFFFFFFFF) ^^^ 0xFFFFFFFF

/-- CRC-32C (R137). -/
def crc32c (bs : List Byte) : Nat := crc32 0x82F63B78 bs
/-- The CRC-32 of the Ethernet frame check sequence (IEEE 802.3). -/
def crcEth (bs : List Byte) : Nat := crc32 0xEDB88320 bs

end Sys2Proof.Machine
end

