-- ==== Sys2Proof/Machine/Aes.lean ====
section
/-!
DEFINITION. AES-256 (FIPS 197) and its Galois/counter mode (NIST SP 800-38D) with a 96-bit IV and a 128-bit tag, which
the Watermark units and the key store compute.
-/
namespace Sys2Proof.Machine

/-- Product in the field of AES, modulo 0x11B. -/
def aesMul (a b : Nat) : Nat := polyReduce 8 0x11B 7 (clmulN 8 a b)

/-- The S-box of one byte: the inverse, then the affine map. -/
def aesSub (x : Nat) : Nat :=
  let i := powBits aesMul 1 x 254 8
  let rot := fun n => (i * 2 ^ n + i / 2 ^ (8 - n)) % 256
  i ^^^ rot 1 ^^^ rot 2 ^^^ rot 3 ^^^ rot 4 ^^^ 0x63

/-- The S-box. -/
def aesBox : List Nat := (List.range 256).map aesSub

/-- The S-box of a byte. -/
def subByte (b : Byte) : Byte := BitVec.ofNat 8 (aesBox.getD b.toNat 0)

/-- Sum of two byte lists. -/
def xorBytes (a b : List Byte) : List Byte := (a.zip b).map (fun p => p.1 ^^^ p.2)

/-- Extend the key schedule of AES-256, newest word first: word `i` follows. -/
def aesExpand : Nat → Nat → List (List Byte) → List (List Byte)
  | 0, _, l => l
  | n + 1, i, l =>
    let prev := l.getD 0 []
    let t :=
      if i % 8 = 0 then
        match (prev.drop 1 ++ prev.take 1).map subByte with
        | a :: r => (a ^^^ BitVec.ofNat 8 (2 ^ (i / 8 - 1))) :: r
        | [] => []
      else if i % 8 = 4 then prev.map subByte
      else prev
    aesExpand n (i + 1) (xorBytes (l.getD 7 []) t :: l)

/-- The 15 round keys of AES-256. -/
def aesKeys (key : List Byte) : List (List Byte) :=
  let ws := (aesExpand 52 8 (chunks 4 8 key).reverse).reverse
  (chunks 4 15 ws).map List.flatten

/-- ShiftRows on 16 bytes in column order. -/
def shiftRows (st : List Byte) : List Byte := (List.range 16).map (fun i => st.getD ((i + 4 * (i % 4)) % 16) 0)

/-- MixColumns of one column. -/
def mixColumn (c : List Byte) : List Byte :=
  (List.range 4).map (fun i =>
    let b := fun j => (c.getD ((i + j) % 4) 0).toNat
    BitVec.ofNat 8 (aesMul 2 (b 0) ^^^ aesMul 3 (b 1) ^^^ b 2 ^^^ b 3))

/-- AES-256 of one block. -/
def aesBlock (key block : List Byte) : List Byte :=
  match aesKeys key with
  | [] => []
  | k0 :: ks =>
    let st := (ks.take 13).foldl (fun st k =>
      xorBytes ((chunks 4 4 (shiftRows (st.map subByte))).flatMap mixColumn) k) (xorBytes block k0)
    xorBytes (shiftRows (st.map subByte)) (ks.getD 13 [])

/-- Product in GF(2^128) as GCM numbers it: bit 0 of the field is the most significant bit of the block. -/
def gcmMul (x y : Nat) : Nat :=
  ((List.range 128).foldl (fun p i =>
    ((if natBit x (127 - i) then p.1 ^^^ p.2 else p.1),
      (if natBit p.2 0 then (p.2 / 2) ^^^ (0xE1 * 2 ^ 120) else p.2 / 2))) (0, y)).1

/-- Pad bytes with zeros to whole blocks of 16. -/
def pad16 (bs : List Byte) : List Byte := bs ++ zeros ((16 - bs.length % 16) % 16)

/-- GHASH under the subkey `h`. -/
def ghash (h : Nat) (bs : List Byte) : Nat :=
  (chunks 16 bs.length bs).foldl (fun y b => gcmMul (y ^^^ beNat b) h) 0

/-- The key stream of counter mode from block counter 2. -/
def gcmStream (key iv : List Byte) (n : Nat) : List Byte :=
  ((List.range (ceilDiv n 16)).flatMap (fun i => aesBlock key (iv ++ beBytes 4 (i + 2)))).take n

/-- The tag of a ciphertext. -/
def gcmTag (key iv aad c : List Byte) : List Byte :=
  let h := beNat (aesBlock key (zeros 16))
  let g := ghash h (pad16 aad ++ pad16 c ++ beBytes 8 (8 * aad.length) ++ beBytes 8 (8 * c.length))
  xorBytes (beBytes 16 g) (aesBlock key (iv ++ beBytes 4 1))

/-- Encipher: ciphertext and tag. -/
def gcmSeal (key iv aad p : List Byte) : List Byte × List Byte :=
  let c := xorBytes p (gcmStream key iv p.length)
  (c, gcmTag key iv aad c)

/-- Decipher, when the tag verifies. -/
def gcmOpen (key iv aad c tag : List Byte) : Option (List Byte) :=
  if gcmTag key iv aad c = tag then some (xorBytes c (gcmStream key iv c.length)) else none

end Sys2Proof.Machine
end

