-- ==== Sys2Proof/Machine/Ed25519.lean ====
section
/-!
DEFINITION. Ed25519 (RFC 8032, pure form without context), which the signature units compute and with which the firmware
and the boot ROM verify.
-/
namespace Sys2Proof.Machine

/-- The prime 2^255 − 19. -/
def edP : Nat := 2 ^ 255 - 19
/-- The order of the base point. -/
def edL : Nat := 2 ^ 252 + 27742317777372353535851937790883648493

/-- Product, power and inverse modulo the prime. -/
def edMul (a b : Nat) : Nat := a * b % edP
def edPow (a e : Nat) : Nat := powBits edMul 1 a e 256
def edInv (a : Nat) : Nat := edPow a (edP - 2)
/-- Difference modulo the prime. -/
def edSub (a b : Nat) : Nat := (a + edP - b % edP) % edP
/-- The constant d of the curve, −121665 ÷ 121666. -/
def edD : Nat := edMul (edP - 121665) (edInv 121666)

/-- A point in extended homogeneous coordinates. -/
structure EdPoint where
  x : Nat
  y : Nat
  z : Nat
  t : Nat

/-- The neutral point. -/
def edZero : EdPoint := { x := 0, y := 1, z := 1, t := 0 }

/-- Sum of two points. -/
def edAdd (p q : EdPoint) : EdPoint :=
  let a := edMul (edSub p.y p.x) (edSub q.y q.x)
  let b := edMul (p.y + p.x) (q.y + q.x)
  let c := edMul (2 * edMul p.t q.t) edD
  let d := edMul (2 * p.z) q.z
  let e := edSub b a
  let f := edSub d c
  let g := (d + c) % edP
  let h := (b + a) % edP
  { x := edMul e f, y := edMul g h, z := edMul f g, t := edMul e h }

/-- A multiple of a point, by `n` bits of the scalar. -/
def edScale (p : EdPoint) (k : Nat) : Nat → EdPoint
  | 0 => edZero
  | n + 1 =>
    let r := edScale p (k / 2) n
    let r2 := edAdd r r
    if natBit k 0 then edAdd r2 p else r2

/-- The x coordinate of a point with a y coordinate and a sign. -/
def edRecover (y : Nat) (sign : Bool) : Option Nat :=
  if edP ≤ y then none
  else
    let x2 := edMul (edSub (edMul y y) 1) (edInv (edMul edD (edMul y y) + 1))
    let r := edPow x2 ((edP + 3) / 8)
    let r := if edMul r r = x2 then r else edMul r (edPow 2 ((edP - 1) / 4))
    if edMul r r ≠ x2 then none
    else if r = 0 then (if sign then none else some 0)
    else some (if natBit r 0 == sign then r else edP - r)

/-- A point from its coordinates. -/
def edOf (x y : Nat) : EdPoint := { x := x, y := y, z := 1, t := edMul x y }

/-- The base point, y = 4 ÷ 5 with an even x. -/
def edBase : EdPoint :=
  let y := edMul 4 (edInv 5)
  edOf ((edRecover y false).getD 0) y

/-- The encoding of a point. -/
def edEncode (p : EdPoint) : List Byte :=
  let i := edInv p.z
  leBytes 32 (edMul p.y i + 2 ^ 255 * b2n (natBit (edMul p.x i) 0))

/-- The point of an encoding. -/
def edDecode (bs : List Byte) : Option EdPoint :=
  let n := leNat bs
  match edRecover (n % 2 ^ 255) (natBit n 255) with
  | some x => some (edOf x (n % 2 ^ 255))
  | none => none

/-- The secret scalar of a seed. -/
def edScalar (seed : List Byte) : Nat :=
  let h := leNat ((sha512 seed).take 32)
  natBits h 3 251 * 8 + 2 ^ 254

/-- The encoded public key of a seed. -/
def edPublic (seed : List Byte) : List Byte := edEncode (edScale edBase (edScalar seed) 256)

/-- The signature R ‖ S of a message under a seed. -/
def edSign (seed m : List Byte) : List Byte :=
  let pre := (sha512 seed).drop 32
  let r := leNat (sha512 (pre ++ m)) % edL
  let rb := edEncode (edScale edBase r 256)
  let k := leNat (sha512 (rb ++ edPublic seed ++ m)) % edL
  rb ++ leBytes 32 ((r + k * edScalar seed) % edL)

/-- Does a signature of a message verify under a public key? -/
def edVerify (key m sig : List Byte) : Bool :=
  let rb := sig.take 32
  let sn := leNat (sig.drop 32)
  match edDecode key, edDecode rb with
  | some a, some r =>
    let k := leNat (sha512 (rb ++ key ++ m)) % edL
    decide (sig.length = 64) && decide (sn < edL) &&
    decide (edEncode (edScale edBase sn 256) = edEncode (edAdd r (edScale a k 256)))
  | _, _ => false

end Sys2Proof.Machine
end

