-- ==== Sys2Proof/Machine/CopOut.lean ====
section
/-!
DEFINITION. What the Watermark, signature and Stripe units compute and write (08_coprocessors_and_companion_port.md, Watermark units to Stripe
units; R433-R435, R445).
-/
namespace Sys2Proof.Machine

/-- Part of a descriptor, from word `i`, `n` bytes. -/
def descPart (d : Region) (i n : Nat) : Region :=
  { d with address := d.address + (if d.kind = 0 then i else 4 * i), length := n }

/-- The outputs of a Watermark operation. -/
def watermarkOut (s : State) (o : UnitOp) : List (Region × List Byte) :=
  let inp := regionRead s (o.ins.getD 0 {})
  if o.op = 1 then [(descPart o.desc 21 32, sha256 inp)]
  else match o.key with
    | none => [(descPart o.desc 21 32, sha256 (o.chainIn ++ inp ++ o.sheet))]
    | some k =>
      let ct := gcmSeal k o.iv (regionRead s (o.ins.getD 1 {})) inp
      [(o.outs.getD 0 {}, ct.1), (descPart o.desc 29 16, ct.2),
        (descPart o.desc 21 32, sha256 (o.chainIn ++ ct.1 ++ ct.2 ++ o.sheet))]

/-- The outputs of a signature operation. -/
def signatureOut (s : State) (o : UnitOp) : List (Region × List Byte) :=
  let k := o.key.getD []
  [(o.outs.getD 0 {}, if o.op = 0 then edSign k (regionRead s (o.ins.getD 0 {})) else edPublic k)]

/-- The outputs of a Stripe operation. -/
def stripeOut (s : State) (o : UnitOp) : List (Region × List Byte) :=
  (o.outs.zipIdx).map (fun p => (p.1, parityShard p.2 (o.ins.map (regionRead s))))

/-- The outputs of a unit's operation. -/
def unitOut (s : State) (u : Nat) (o : UnitOp) : List (Region × List Byte) :=
  match unitClass u with
  | 0 => watermarkOut s o
  | 1 => signatureOut s o
  | 2 => stripeOut s o
  | _ => []

/-- Write outputs; from detachment on only those in the pin handle (R445). -/
def writeOuts (o : UnitOp) (ws : List (Region × List Byte)) (s : State) : State :=
  ws.foldl (fun a w => if o.detached && w.1.kind != 1 then a else regionWrite w.1 w.2 a) s

/-- Outputs that the spec leaves undefined after a unit fault: open values (Table 8.2, log entry 2). -/
def freeOuts (ws : List (Region × List Byte)) (s : State) : List (Region × List Byte) × State :=
  (ws.map (fun w => (w.1, leBytes w.2.length (freeNow s))), drawFree s)

/-- Report the uncorrectable data-memory words that a unit meets in its inputs (R582). -/
def noteInputs (o : UnitOp) (s : State) : State :=
  o.ins.foldl (fun a r =>
    if r.kind != 0 then a
    else match (List.range (ceilDiv r.length 4)).find? (fun i => a.cores.dmemBad.contains (dmemKey r.core (r.address + i))) with
      | some i => noteDmemUe r.core (r.address + i) a
      | none => a) s

/-- The reads of a unit's inputs: words checked, and DRAM reached (port 4 of Table 10.5) or the spill engine. -/
def noteUnitReads (o : UnitOp) (s : State) : State :=
  o.ins.foldl (fun a r => match r.kind with
    | 0 => checkDmem ((List.range (ceilDiv r.length 4)).map (fun i => dmemKey r.core (r.address + i))) a
    | 1 => noteSpillRead (handleOf a (hIndex r.handle)) r.address r.length (checkVat (hIndex r.handle) r.address r.length a)
    | 2 => noteAccess 4 false r.address r.length a
    | _ => a) s

/-- The spans of DRAM that an operation's regions take. -/
def unitSpans (s : State) (o : UnitOp) : List (Nat × Nat) :=
  (o.ins ++ o.outs).flatMap (fun r => match r.kind with
    | 1 => spillSpans (handleOf s (hIndex r.handle)) r.address r.length
    | 2 => [(r.address, r.length)]
    | _ => [])

/-- Complete a unit's operation: its outputs, then its end (R432-R435, R445). One that is over already waits on (R443), and one whose
DRAM is in self-refresh waits for it (R561). -/
def completeUnit (u : Nat) (fault : Bool) (s : State) : State :=
  match (unitOf s u).op with
  | none => s
  | some o =>
    if (unitOf s u).held then s
    else whenAwake (unitSpans s o) (fun s =>
      let s := noteUnitReads o s
      let bad := o.ins.any (regionPoisoned s)
      let s := count .unit u 1 ((o.ins.map (·.length)).foldl (· + ·) 0) s
      let s := if bad then count .unit u 3 1 (noteInputs o s) else s
      if fault then
        let r := freeOuts (unitOut s u o) s
        let s := raise 382 [] (setFlag 0x540 0 (writeOuts o r.1 r.2))
        let s := setUnit u { unitOf s u with fencePending := true } s
        finishUnit u 0x0A s
      else
        let s := if bad && unitClass u == 1 then s else writeOuts o (unitOut s u o) s
        finishUnit u (if bad then 0x08 else 0) s) s

end Sys2Proof.Machine
end

