-- ==== Sys2Proof/Machine/CompanionOps.lean ====
section
/-!
DEFINITION. The Tabino link: flits, credits, replay and training (08_coprocessors_and_companion_port.md, The Tabino
link; R448-R463).
-/
namespace Sys2Proof.Machine

def linkOf (s : State) : Tabino := s.cop.link
def setLink (l : Tabino) (s : State) : State := { s with cop := { s.cop with link := l } }
def updLink (f : Tabino → Tabino) (s : State) : State := setLink (f s.cop.link) s

/-! ### Credits returned to the companion (R453-R456) -/

/-- May credits of a class be returned now (R455, R456, R725)? -/
def creditAllowed (s : State) (cls : Nat) : Bool :=
  if cls = 5 then !s.sec.deviceFrozen && (List.range 8).all (fun c => !ownerXoff s (40 + c))
  else if cls = 3 || cls = 6 then eventRoom s
  else true

/-- Return withheld credits of a class whose condition has ended. -/
def returnCredits (cls : Nat) (s : State) : State :=
  if creditAllowed s cls then
    updLink (fun l => { l with
      returned := tabSet 0 l.returned cls ((tabGet 0 l.returned cls + tabGet 0 l.withheld cls) % 256)
      withheld := tabSet 0 l.withheld cls 0 }) s
  else s

/-- Free a credit of a class the device receives. -/
def freeCredit (cls : Nat) (s : State) : State :=
  returnCredits cls (updLink (fun l => { l with withheld := tabUpd 0 l.withheld cls (· + 1) }) s)

/-! ### Sending (Table 8.8) -/

/-- The bytes of a flit, with the acknowledgement and the credits of the next class in rotation (R453). -/
def flitBytes (l : Tabino) (type seq : Nat) (payload : List Byte) : List Byte :=
  let cls := 3 + l.rotation % 4
  let body := [BitVec.ofNat 8 type, 0] ++ leBytes 2 seq ++
    leBytes 2 ((l.rxSeq - 1).toNat + b2n l.rxAny * 0x8000) ++ [BitVec.ofNat 8 cls, BitVec.ofNat 8 (tabGet 0 l.returned cls)] ++
    (payload ++ zeros 56).take 56
  body ++ leBytes 4 (crc32c body)

/-- The marker block of a logical lane (R448). -/
def markerBlock (lane : Nat) : LaneBlock := { sync := 1, bytes := 0x4B :: BitVec.ofNat 8 lane :: List.replicate 14 0x4A }

/-- The blocks that `n` rounds of 64 bytes make on a logical lane: byte b goes to lane b mod 4, and a marker follows every 4,096th data
block (R448; log entry 126). -/
def laneBlocks (l : Tabino) (bs : List Byte) (lane : Nat) : List LaneBlock :=
  (List.range (bs.length / 64)).flatMap (fun j =>
    { sync := 2, bytes := (List.range 16).map (fun i => bs.getD (64 * j + 4 * i + lane) 0) } ::
      (if (l.blocks + j + 1) % 4096 = 0 then [markerBlock lane] else []))

/-- A block as a lane of inverted polarity carries it. -/
def LaneBlock.inverted (b : LaneBlock) : LaneBlock := { sync := ~~~b.sync, bytes := b.bytes.map (~~~ ·) }

/-- The blocks of a physical lane: those of the logical lane mapped to it, inverted where its polarity is. -/
def physicalBlocks (l : Tabino) (bs : List Byte) (p : Nat) : List LaneBlock :=
  match (List.range 4).find? (fun i => natBits l.laneMap.toNat (2 * i) 2 == p) with
  | some i => if l.txPol.getLsbD p then (laneBlocks l bs i).map LaneBlock.inverted else laneBlocks l bs i
  | none => []

/-- The lanes carry the bytes of a flit (R448). -/
def sendBytes (flit : List Byte) (l : Tabino) : Tabino :=
  let bs := l.partBlock ++ flit
  { l with
    sent := flit, wire := (List.range 4).map (physicalBlocks l bs), partBlock := bs.drop (64 * (bs.length / 64))
    blocks := (l.blocks + bs.length / 64) % 4096 }

/-- Put a flit on the wire. -/
def putFlit (type seq : Nat) (payload : List Byte) (s : State) : State :=
  let s := [3, 4, 5, 6].foldl (fun a c => returnCredits c a) (if type = 0 then s else noteTraffic s)
  count .portC 0 0 1 (updLink (fun l => { sendBytes (flitBytes l type seq payload) l with rotation := (l.rotation + 1) % 4 }) s)

/-- May a sequenced flit of a class be sent (R453, R458)? -/
def maySend (l : Tabino) (cls : Nat) : Bool := decide (0 < tabGet 0 l.credits cls) && decide (l.replay.length < 256)

/-- Send a sequenced flit that may be sent. -/
def sendSeq (f : TxFlit) (s : State) : State :=
  let l := linkOf s
  let s := updLink (fun l => { l with
    credits := tabUpd 0 l.credits f.cls (· - 1), replay := l.replay ++ [(l.txSeq, f)], txSeq := l.txSeq + 1 }) s
  putFlit f.type l.txSeq.toNat f.payload s

/-- Send the first waiting flit that may be sent. -/
def sendWaiting : Nat → State → State
  | 0, s => s
  | n + 1, s =>
    let l := linkOf s
    match l.waiting.find? (fun f => maySend l f.cls) with
    | some f => sendWaiting n (sendSeq f (setLink { l with waiting := l.waiting.erase f } s))
    | none => s

/-- Send or queue a sequenced flit. -/
def sendFlit (type cls : Nat) (payload : List Byte) (s : State) : State :=
  let l := linkOf s
  let f : TxFlit := { type := type, cls := cls, payload := payload }
  if maySend l cls && l.waiting.all (fun w => w.cls != cls) then sendSeq f s
  else setLink { l with waiting := l.waiting ++ [f] } s

/-! ### The link leaves or enters UP -/

/-- The link leaves UP: busy units end with 0x0C, and what was in progress is discarded (R460, R451). -/
def leaveUp (st : LinkState) (s : State) : State :=
  let was := (linkOf s).state == .up
  let s := updLink (fun l => { l with
    state := st, trains := 0, frame := none, frameFlits := 0, passing := false, waiting := [], replay := [], credits := []
    lastTotal := [], returned := [], withheld := [], txSeq := 0, rxSeq := 0, rxAny := false, nakSent := false, naks := 0 }) s
  if was then
    let s := raise 216 [] (setFlag 0x540 2 s)
    ((List.range 8).map (14 + ·)).foldl (fun a u => if (unitOf a u).busy then finishUnit u 0x0C a else a) s
  else s

/-- Training begins in LOCK (R450). -/
def beginTraining (s : State) : State := updLink (fun l => { l with state := .lock, blockLock := 0, trains := 0 }) s

/-- The link comes UP with the credits the companion advertised (R450, R453). -/
def enterUp (s : State) : State :=
  raise 216 [] (updLink (fun l => { l with
    state := .up
    credits := tabSet 0 (tabSet 0 [] 1 (l.advertised.getD 0 0).toNat) 2 (l.advertised.getD 1 0).toNat }) s)

/-! ### Receiving -/

/-- The bytes of a received flit. -/
def flitIn (f : BitVec 544) : List Byte := leBytes 68 f.toNat

/-- Send the NAK of R457 once. -/
def sendNak (s : State) : State :=
  if (linkOf s).nakSent then s
  else putFlit 9 0 (leBytes 2 (linkOf s).rxSeq.toNat) (count .portC 0 3 1 (updLink (fun l => { l with nakSent := true }) s))

/-- Discard a flit under R452. -/
def discardFlit (s : State) : State :=
  let s := raiseFirst 217 0 [] (count .portC 0 2 1 (setFlag 0x540 3 (updLink (fun l => { l with trains := 0 }) s)))
  if (linkOf s).state = .up then sendNak s else s

/-- Take the acknowledgement and the credits of a valid flit (R453, R458); one that frees a flit of the replay buffer ends the
count of NAKs without an acknowledgement (R459, log entry 27). -/
def takeHeader (b : List Byte) (s : State) : State :=
  let ack := leAt b 4 2
  let cls := leAt b 6 1
  let total := leAt b 7 1
  let s := if natBit ack 15 then
      updLink (fun l =>
        let kept := l.replay.filter (fun p => decide ((BitVec.ofNat 12 ack - p.1).toNat ≥ 2048))
        { l with replay := kept, naks := if kept.length < l.replay.length then 0 else l.naks }) s
    else s
  let s := if cls == 1 || cls == 2 then
      updLink (fun l => { l with
        credits := tabUpd 0 l.credits cls (· + (total + 256 - tabGet 0 l.lastTotal cls) % 256)
        lastTotal := tabSet 0 l.lastTotal cls total }) s
    else s
  sendWaiting (linkOf s).waiting.length s

/-- Receive a flit of a type: discarded when its CRC fails or it is of another type (R452); its header is taken; a
sequenced one acts only in SEQ order while the link is UP (R457). -/
def rxFlit (type : Nat) (sequenced : Bool) (f : BitVec 544) (act : List Byte → State → State) (s : State) : State :=
  let b := flitIn f
  let s := count .portC 0 1 1 s
  if (linkOf s).state = .down then s
  else
  let s := if type = 0 then s else noteTraffic s
  if crc32c (b.take 64) != leAt b 64 4 || leAt b 0 1 != type then discardFlit s
  else
  let s := if type = 8 then s else updLink (fun l => { l with trains := 0 }) s
  if !sequenced then act (bytesAt b 8 56) (if (linkOf s).state = .up then takeHeader b s else s)
  else if (linkOf s).state ≠ .up then s
  else
    let s := takeHeader b s
    if leAt b 2 2 % 4096 ≠ (linkOf s).rxSeq.toNat then sendNak s
    else act (bytesAt b 8 56) (updLink (fun l => { l with rxSeq := l.rxSeq + 1, rxAny := true, nakSent := false }) s)

/-! ### Companion operations -/

/-- The OP flit of an issue to CVv (Table 8.9, R461). -/
def opPayload (v func imm : Nat) (a b : Word36) (t tag : Nat) : List Byte :=
  layout [(v, 1), (func, 1), (imm, 2), (a.toNat, 5), (b.toNat, 5), (t, 2), (tag, 1)]

/-- COMPANION_OP: an instruction of majors 60 to 63 sends one OP flit to CVv (R461). The X format has no NOTIFY field,
and the spec gives companion completions a work-item source: whether the issue notifies is open (log entry 25). -/
def execCompanionOp (t : BitVec 9) (cv : BitVec 3) (func ga gb : BitVec 5) (imm : BitVec 14) (s : State) : Res :=
  let word := encX cv func ga gb imm
  .next (issue t { word := word, srcs := [ga, gb]
                   act := fun n s =>
                     match issueFault s n 3 cv.toNat (decide ((linkOf s).state ≠ .up)) with
                     | some e => haltThread n e word (3 * 16 + cv.toNat) s
                     | none =>
                       let s := drainStores n s
                       let u := 14 + cv.toNat
                       let x := unitOf s u
                       let notify := if natBit (freeNow s) 0 then notifyOf s n (regG s n ga) else none
                       let s := drawFree s
                       let s := setUnit u { x with
                         busy := true, done := false, error := false, errorCode := 0, owner := BitVec.ofNat 12 n
                         op := some { op := func.toNat, notify := notify }, tag := x.tag + 1, issued := s.sh.sheet } s
                       advance n (sendFlit 1 1
                         (opPayload cv.toNat func.toNat imm.toNat (regG s n ga) (regG s n gb) n x.tag.toNat) s) } s)

/-- OP_DONE: ends the operation of its unit when its tag matches (R462, R447). -/
def execOpDone (flit : BitVec 544) (s : State) : Res :=
  .next (rxFlit 2 true flit (fun p s =>
    let u := 14 + leAt p 0 1 % 8
    let x := unitOf s u
    let code := leAt p 2 1
    let s := freeCredit 3 s
    match x.op with
    | some _ =>
      if decide (leAt p 0 1 < 8) && x.busy && !x.held && (x.tag - 1).toNat == leAt p 1 1 then
        finishUnit u (if code = 0 then 0 else (0x80 + code) % 256) s
      else raise 220 [] (count .portC 0 14 1 (setFlag 0x540 6 s))
    | none => raise 220 [] (count .portC 0 14 1 (setFlag 0x540 6 s))) s)

/-- OP_TIMEOUT: an operation without OP_DONE for OP_TIMEOUT sheets ends with 0x0D (R463). -/
def execOpTimeout (cv : BitVec 3) (s : State) : Res :=
  let u := 14 + cv.toNat
  let x := unitOf s u
  .next (if x.busy && !x.held && decide ((linkOf s).opTimeout ≤ (s.sh.sheet - x.issued).toNat) then
      finishUnit u 0x0D (raise 221 [] (count .portC 0 13 1 (setFlag 0x540 5 s)))
    else s)

/-! ### Memory access by the companion (R464-R466) -/

/-- The device address of a request, when R464 allows it. -/
def compAccess (s : State) (addr n src : Nat) (write : Bool) : Option Nat :=
  let w := tabGet {} s.cop.windows (natBits addr 35 5)
  let off := natBits addr 0 35
  if w.enable && (if write then w.write else w.read) && natBit w.units.toNat src && decide (off + n ≤ 4096 * w.pages.toNat) &&
     decide (off % 4096 + n ≤ 4096) then some (w.base.toNat + off) else none

/-- Count a denied request (R464). -/
def noteDenied (s : State) : State := raiseFirst 219 0 [] (count .portC 0 8 1 (setFlag 0x540 4 s))

/-- RD_REQ: answered with RD_CPL flits (R464, R466). -/
def execRdReq (flit : BitVec 544) (s : State) : Res :=
  .next (rxFlit 3 true flit (fun p s =>
    let n := leAt p 5 1 + 1
    let tag := leAt p 6 1
    let s := freeCredit 4 (count .portC 0 6 1 s)
    match compAccess s (leAt p 0 5) n (leAt p 7 1) false with
    | none => sendFlit 4 2 (layout [(tag, 1), (1, 1), (0, 1), (0, 1), (0, 4)]) (noteDenied s)
    | some a =>
      let s := noteAccess 6 false a n s
      (List.range (ceilDiv n 48)).foldl (fun s i =>
        let k := min 48 (n - 48 * i)
        sendFlit 4 2 (layout [(tag, 1), (if dramPoisoned s (a + 48 * i) k then 2 else 0, 1), (k, 1), (i, 1), (0, 4)] ++
          dramBytes s (a + 48 * i) k) s) s) s)

/-- WR_REQ: applied to DRAM, or discarded (R464, R465). A length outside 1 to 48 is denied (log entry 26). -/
def execWrReq (flit : BitVec 544) (s : State) : Res :=
  .next (rxFlit 5 true flit (fun p s =>
    let n := leAt p 5 1
    let s := freeCredit 4 (count .portC 0 7 1 s)
    match (if n = 0 || 48 < n then none else compAccess s (leAt p 0 5) n (leAt p 7 1) true) with
    | none => noteDenied s
    | some a => dramWrite 6 a (bytesAt p 8 n) false s) s)

/-- EVENT: an event item on its route, or counted as dropped (R467). -/
def execEventFlit (flit : BitVec 544) (s : State) : Res :=
  .next (rxFlit 6 true flit (fun p s =>
    let r := tabGet {} s.cop.routes (leAt p 0 1 % 16)
    let s := count .portC 0 11 1 s
    if r.enable then
      freeCredit 6 (completionEvent
        { source := BitVec.ofNat 9 (224 + leAt p 0 1 % 16), cls := r.cls, domain := r.domain, ctx := r.ctx
          data0 := BitVec.ofNat 24 (leAt p 1 3), data1 := BitVec.ofNat 14 (leAt p 4 2) } s)
    else freeCredit 6 (raise 223 [] (count .portC 0 12 1 (setFlag 0x540 8 s)))) s)

/-! ### Training and replay -/

/-- The device's TRAIN payload (Table 8.9, R454). -/
def trainPayload : List Byte :=
  [1, 0, 0, 0] ++ layout [(0, 2), (0, 2), (16, 2), (128, 2), (512, 2), (32, 2)]

/-- TRAIN: eight consecutive ones, each answered by one of the device's, bring the link UP when the companion advertises
at least 8 OP and 6 CPL credits (R450, R454, log entry 27). -/
def execTrainFlit (flit : BitVec 544) (s : State) : Res :=
  .next (rxFlit 8 false flit (fun p s =>
    if (linkOf s).state = .param then
      let s := updLink (fun l => { l with
        trains := l.trains + 1, partner := p.take 2
        advertised := (List.range 6).map (fun i => BitVec.ofNat 16 (leAt p (4 + 2 * i) 2)) }) s
      let s := putFlit 8 0 trainPayload s
      let l := linkOf s
      if decide (8 ≤ l.trains) && decide (8 ≤ (l.advertised.getD 0 0).toNat) && decide (6 ≤ (l.advertised.getD 1 0).toNat) then
        enterUp s
      else s
    else s) s)

/-- NAK: send again from EXPECTED; the fifth without an acknowledgement takes the link DOWN (R458, R459). -/
def execNakFlit (flit : BitVec 544) (s : State) : Res :=
  .next (rxFlit 9 false flit (fun p s =>
    if (linkOf s).state ≠ .up then s
    else
      let s := updLink (fun l => { l with naks := l.naks + 1 }) s
      if 5 ≤ (linkOf s).naks then leaveUp .down (raise 218 [] (count .portC 0 5 1 s))
      else
        let e := BitVec.ofNat 12 (leAt p 0 2)
        ((linkOf s).replay.filter (fun q => decide ((q.1 - e).toNat < 2048))).foldl
          (fun a q => putFlit q.2.type q.1.toNat q.2.payload a) (count .portC 0 4 1 s)) s)

/-- IDLE: acknowledgements and credits (R453). -/
def execIdleFlit (flit : BitVec 544) (s : State) : Res := .next (rxFlit 0 false flit (fun _ s => s) s)

/-- TABINO_TRAINING_TIMEOUT: training that has not reached UP returns to DOWN and begins again in LOCK (R451; log entry 127). -/
def execTabinoTrainingTimeout (s : State) : Res :=
  .next (if (linkOf s).enabled && decide ((linkOf s).state ≠ .up) then beginTraining (leaveUp .down s) else s)

/-- BLOCK_LOCK: every lane of port C holds block lock, and the link passes LOCK (R450). -/
def execBlockLock (s : State) : Res :=
  .next (if (linkOf s).enabled && decide ((linkOf s).state = .lock) then
      updLink (fun l => { l with state := .deskew, blockLock := 0xF, trains := 0 }) s
    else s)

/-- LANE_DESKEW: the marker blocks align on all four lanes, and the link passes DESKEW (R449, R450). -/
def execLaneDeskew (s : State) : Res :=
  .next (if (linkOf s).state = .deskew then updLink (fun l => { l with state := .param, trains := 0 }) s else s)

end Sys2Proof.Machine
end

