-- ==== Sys2Proof/Machine/ControlInstr.lean ====
section
/-!
DEFINITION. Control transfer (05_core_instruction_set.md, Control transfer; R274, R277, R279).
-/
namespace Sys2Proof.Machine

/-- A branch of majors 28 to 33: to TARGET when `c ga gb`. -/
def branch (t : BitVec 9) (major : Nat) (ga gb : BitVec 5) (zf : BitVec 4) (target : BitVec 16)
    (c : Word36 → Word36 → Bool) (s : State) : State :=
  issue t { word := encB major ga gb zf target, illegal := fun _ _ => zf != 0, srcs := [ga, gb]
            act := fun n s => if c (regG s n ga) (regG s n gb) then jumpTo n target s else advance n s } s

def execBeq (t : BitVec 9) (ga gb : BitVec 5) (zf : BitVec 4) (target : BitVec 16) (s : State) : Res :=
  .next (branch t 28 ga gb zf target (fun a b => a == b) s)
def execBne (t : BitVec 9) (ga gb : BitVec 5) (zf : BitVec 4) (target : BitVec 16) (s : State) : Res :=
  .next (branch t 29 ga gb zf target (fun a b => a != b) s)
def execBlt (t : BitVec 9) (ga gb : BitVec 5) (zf : BitVec 4) (target : BitVec 16) (s : State) : Res :=
  .next (branch t 30 ga gb zf target (fun a b => a.slt b) s)
def execBge (t : BitVec 9) (ga gb : BitVec 5) (zf : BitVec 4) (target : BitVec 16) (s : State) : Res :=
  .next (branch t 31 ga gb zf target (fun a b => !a.slt b) s)
def execBltu (t : BitVec 9) (ga gb : BitVec 5) (zf : BitVec 4) (target : BitVec 16) (s : State) : Res :=
  .next (branch t 32 ga gb zf target (fun a b => a.ult b) s)
def execBgeu (t : BitVec 9) (ga gb : BitVec 5) (zf : BitVec 4) (target : BitVec 16) (s : State) : Res :=
  .next (branch t 33 ga gb zf target (fun a b => !a.ult b) s)

/-- A bit test of majors 34 and 35, illegal with BIT above 35 (R279): to TARGET when the bit equals `v`. -/
def bitBranch (t : BitVec 9) (major : Nat) (ga : BitVec 5) (bit : BitVec 6) (zf : BitVec 3) (target : BitVec 16)
    (v : Bool) (s : State) : State :=
  issue t { word := encBT major ga bit zf target, illegal := fun _ _ => zf != 0 || decide (35 < bit.toNat), srcs := [ga]
            act := fun n s => if (regG s n ga).getLsbD bit.toNat == v then jumpTo n target s else advance n s } s

def execBbs (t : BitVec 9) (ga : BitVec 5) (bit : BitVec 6) (zf : BitVec 3) (target : BitVec 16) (s : State) : Res :=
  .next (bitBranch t 34 ga bit zf target true s)
def execBbc (t : BitVec 9) (ga : BitVec 5) (bit : BitVec 6) (zf : BitVec 3) (target : BitVec 16) (s : State) : Res :=
  .next (bitBranch t 35 ga bit zf target false s)

/-- The address after the thread's instruction, as a word (JAL, JALR). -/
def linkWord (s : State) (t : Nat) : Word36 := ((thr s t).pc + 1).setWidth 36

/-- J: PC := TARGET. -/
def execJump (t : BitVec 9) (gd : BitVec 5) (zf : BitVec 9) (target : BitVec 16) (s : State) : Res :=
  .next (issue t { word := encJ 36 gd zf target, illegal := fun _ _ => zf != 0, act := fun n s => jumpTo n target s } s)

/-- JAL: gd := PC + 1, then PC := TARGET. -/
def execJal (t : BitVec 9) (gd : BitVec 5) (zf : BitVec 9) (target : BitVec 16) (s : State) : Res :=
  .next (issue t { word := encJ 37 gd zf target, illegal := fun _ _ => zf != 0, dsts := [gd]
                   act := fun n s => jumpTo n target (setG n gd (linkWord s n) s) } s)

/-- JR: PC := ga[15:0]. -/
def execJr (t : BitVec 9) (gd ga gb : BitVec 5) (zf : BitVec 9) (s : State) : Res :=
  .next (issue t { word := encR 38 gd ga gb zf 0, illegal := fun _ _ => zf != 0, srcs := [ga]
                   act := fun n s => jumpTo n ((regG s n ga).setWidth 16) s } s)

/-- JALR: gd := PC + 1, then PC := ga[15:0] (log entry 15: the target is ga before gd is written). -/
def execJalr (t : BitVec 9) (gd ga gb : BitVec 5) (zf : BitVec 9) (s : State) : Res :=
  .next (issue t { word := encR 38 gd ga gb zf 1, illegal := fun _ _ => zf != 0, srcs := [ga], dsts := [gd]
                   act := fun n s => jumpTo n ((regG s n ga).setWidth 16) (setG n gd (linkWord s n) s) } s)

end Sys2Proof.Machine
end

