-- ==== Sys2Proof/Machine/CopCmd.lean ====
section
/-!
DEFINITION. Commands 0x07xx (08_coprocessors_and_companion_port.md, Table 8.15; R470-R472).
-/
namespace Sys2Proof.Machine

/-- Entries of a load command: `n` of them of `size` bytes from payload offset `base`. -/
def entryOffs (base size n : Nat) : List Nat := (List.range n).map (fun i => base + size * i)

/-- WM_STREAM_LOAD. -/
def wmStreamLoad : CmdSpec :=
  { op := 0x0701, load := true, fixed := 4, extent := fun p => 4 + 8 * leAt p 2 1
    checks := fun _ p => [inRange p 2 1 1 29, rsv p 3 1, (0, decide (leAt p 0 2 + leAt p 2 1 ≤ 1024))] ++
      (entryOffs 4 8 (leAt p 2 1)).flatMap (fun o => [inRange p o 1 0 1, inRange p (o + 1) 1 0 31, rsv p (o + 2) 2])
    body := okState (fun s p => loadBank 15 (leAt p 2 1) (fun b => { b with
      streams := putEntries b.streams (leAt p 0 2) ((entryOffs 4 8 (leAt p 2 1)).map (fun o =>
        { flags := BitVec.ofNat 8 (leAt p o 1), key := BitVec.ofNat 8 (leAt p (o + 1) 1)
          ivPrefix := BitVec.ofNat 32 (beNat (bytesAt p (o + 4) 4)) : StreamParam })) }) s) }

/-- The unit of a unit code (text before Table 8.15). -/
def unitOfCode (c : Nat) : Nat := if c < 14 then c else c - 2

/-- A unit code 0 to 13 or 16 to 23 at payload offset 0. -/
def unitCode (p : List Byte) : Nat × Bool :=
  (0, decide (leAt p 0 1 < 14) || (decide (16 ≤ leAt p 0 1) && decide (leAt p 0 1 < 24)))

/-- COP_FENCE: a busy unit is fenced when done (Table 8.12). -/
def copFence : CmdSpec :=
  { op := 0x0702, fixed := 2, checks := fun _ p => [inRange p 0 1 0 13, inRange p 1 1 0 1]
    body := okState (fun s p =>
      let u := leAt p 0 1
      let x := unitOf s u
      if leAt p 1 1 = 0 then setUnit u { x with fenced := false, fencePending := false } s
      else if x.busy then setUnit u { x with fencePending := true } s
      else setUnit u { x with fenced := true } s) }

/-- COP_STATUS. -/
def copStatus : CmdSpec :=
  { op := 0x0703, fixed := 1, checks := fun _ p => [unitCode p]
    body := okReply (fun s p =>
      let u := unitOfCode (leAt p 0 1)
      layout [((statusWord (unitOf s u)).toNat, 5), (b2n (unitOf s u).fenced, 1), ((lockOf s (unitLock u)).owner.toNat, 2)]) }

/-- COP_COUNTERS. -/
def copCounters : CmdSpec :=
  { op := 0x0704, fixed := 2, checks := fun _ p => [unitCode p, inRange p 1 1 0 1]
    body := timedBody .unit (fun p => unitOfCode (leAt p 0 1)) 1 6 [5] }

/-- Are the four 2-bit fields of a lane map different? -/
def mapDistinct (m : Nat) : Bool :=
  (List.range 4).all (fun i => (List.range 4).all (fun j => i == j || natBits m (2 * i) 2 != natBits m (2 * j) 2))

/-- COMP_CONFIG. -/
def compConfig : CmdSpec :=
  { op := 0x0710, fixed := 6
    checks := fun _ p => [(0, mapDistinct (leAt p 0 1)), inRange p 1 1 0 15, inRange p 2 1 0 15, rsv p 3 1, inRange p 4 2 1 65535]
    body := fun s _ p =>
      if (linkOf s).enabled then refuse s 0x03
      else okCmd (updLink (fun l => { l with
        laneMap := BitVec.ofNat 8 (leAt p 0 1), rxPol := BitVec.ofNat 8 (leAt p 1 1), txPol := BitVec.ofNat 8 (leAt p 2 1)
        opTimeout := leAt p 4 2 }) s) }

/-- COMP_ENABLE: enabling begins training; disabling takes the link DOWN (R450, R460). -/
def compEnable : CmdSpec :=
  { op := 0x0711, fixed := 1, checks := fun _ p => [inRange p 0 1 0 1]
    body := fun s _ p =>
      if leAt p 0 1 = 1 then
        if !ticking s then refuse s 0x03
        else okCmd (if (linkOf s).enabled then s else beginTraining (updLink (fun l => { l with enabled := true }) s))
      else okCmd (updLink (fun l => { l with enabled := false, blockLock := 0 }) (leaveUp .down s)) }

/-- LINK of COP_STATE (Table 8.11). -/
def linkCode (st : LinkState) : Nat :=
  match st with | .down => 0 | .lock => 1 | .deskew => 2 | .param => 3 | .up => 4

/-- COMP_STATUS. -/
def compStatus : CmdSpec :=
  { op := 0x0712
    body := okReply (fun s _ =>
      let l := linkOf s
      layout [(linkCode l.state, 1), (l.blockLock.toNat, 1)] ++ (l.partner ++ [0, 0]).take 2 ++
        (l.advertised.flatMap (fun c => leBytes 2 c.toNat))) }

/-- COMP_WINDOW_SET. -/
def compWindowSet : CmdSpec :=
  { op := 0x0713, fixed := 16
    checks := fun s p => [inRange p 0 1 0 31, inRange p 1 1 0 7, rsv p 3 1,
      (4, leAt p 4 8 % 4096 == 0 && decide (leAt p 4 8 + 4096 * leAt p 12 4 ≤ dramInstalled s)), inRange p 12 4 1 8388608]
    body := okState (fun s p =>
      { s with cop := { s.cop with windows := tabSet {} s.cop.windows (leAt p 0 1) {
          enable := natBit (leAt p 1 1) 0, read := natBit (leAt p 1 1) 1, write := natBit (leAt p 1 1) 2
          units := BitVec.ofNat 8 (leAt p 2 1), base := BitVec.ofNat 64 (leAt p 4 8), pages := BitVec.ofNat 32 (leAt p 12 4) } } }) }

/-- COMP_EVENT_ROUTE. -/
def compEventRoute : CmdSpec :=
  { op := 0x0714, fixed := 8
    checks := fun _ p => [inRange p 0 1 0 15, inRange p 1 1 0 1, inRange p 2 1 0 7, rsv p 3 1, inRange p 6 2 0 16383]
    body := okState (fun s p =>
      { s with cop := { s.cop with routes := tabSet {} s.cop.routes (leAt p 0 1) {
          enable := leAt p 1 1 = 1, cls := BitVec.ofNat 3 (leAt p 2 1), domain := BitVec.ofNat 16 (leAt p 4 2)
          ctx := BitVec.ofNat 14 (leAt p 6 2) } } }) }

/-- COMP_COUNTERS. -/
def compCounters : CmdSpec :=
  { op := 0x0715, fixed := 1, checks := fun _ p => [inRange p 0 1 0 1], body := counterBody .portC (fun _ => 0) 0 15 }

def execWmStreamLoad (m : BitVec 4) (s : State) : Res := .next (runCmd wmStreamLoad m s)
def execCopFence (m : BitVec 4) (s : State) : Res := .next (runCmd copFence m s)
def execCopStatus (m : BitVec 4) (s : State) : Res := .next (runCmd copStatus m s)
def execCopCounters (m : BitVec 4) (s : State) : Res := .next (runCmd copCounters m s)
def execCompConfig (m : BitVec 4) (s : State) : Res := .next (runCmd compConfig m s)
def execCompEnable (m : BitVec 4) (s : State) : Res := .next (runCmd compEnable m s)
def execCompStatus (m : BitVec 4) (s : State) : Res := .next (runCmd compStatus m s)
def execCompWindowSet (m : BitVec 4) (s : State) : Res := .next (runCmd compWindowSet m s)
def execCompEventRoute (m : BitVec 4) (s : State) : Res := .next (runCmd compEventRoute m s)
def execCompCounters (m : BitVec 4) (s : State) : Res := .next (runCmd compCounters m s)

end Sys2Proof.Machine
end

