-- ==== Sys2Proof/Machine/DovetailInstr.lean ====
section
/-!
DEFINITION. The Dovetail instructions of majors 40 and 41 (05_core_instruction_set.md, Table 5.15;
06_threads_and_dovetail.md, Locks, Channels, Deadlock detection).
-/
namespace Sys2Proof.Machine

/-- A format D instruction; DUNLK and DCCMT first make the thread's stores visible (R287). -/
def dovInstr (t : BitVec 9) (major func : Nat) (gd ga gb : BitVec 5) (imm : BitVec 12) (srcs dsts : List (BitVec 5))
    (act : Nat → Word36 → State → State) (s : State) : State :=
  let word := encD major func gd ga gb imm
  issue t { word := word, srcs := srcs, dsts := dsts, act := fun n s => act n word s } s

/-- The lock or channel number: (ga + IMM12) mod `m`. -/
def dovNumber (s : State) (t : Nat) (ga : BitVec 5) (imm : BitVec 12) (m : Nat) : Nat :=
  ((regG s t ga).toNat + imm.toNat) % m

/-! ### Locks -/

/-- A master becomes owner of a free lock (R354), which is progress (Table 6.11); the lock stays broken until a release (R365). -/
def takeLock (k m : Nat) (s : State) : State :=
  lockProgress k <| trace 4 (if m < 512 then coreOf m else 255) m (packNat [(k, 12), (0, 19), (b2n ((lockOf s k).broken != 0), 1)])
    (count .dovetail 0 0 1 (setLock k { lockOf s k with owner := BitVec.ofNat 12 m } s))

/-- The thread that a lock's owner is, while it waits on another lock: that lock. -/
def ownerWaits (s : State) (k : Nat) : Option (Nat × Nat) :=
  let m := (lockOf s k).owner.toNat
  if 512 ≤ m then none
  else match (thr s m).stall with
    | .lock j _ _ => some (m, j)
    | _ => none

/-- The threads of the owner chain from a lock, `n` steps deep, when it leads back to thread `t` (R376). -/
def lockCycle : Nat → State → Nat → Nat → Option (List Nat)
  | 0, _, _, _ => none
  | n + 1, s, t, k =>
    if (lockOf s k).owner.toNat = t then some []
    else match ownerWaits s k with
      | some (m, j) => match lockCycle n s t j with
        | some l => some (m :: l)
        | none => none
      | none => none

/-- Threads of the device whose inherited priority exceeds their own (FLAGS.INH). -/
def inheriting (s : State) : List Nat := (listedThreads s).filter (fun t => decide (ownPrio s t < inherited s t))

/-- Queue a thread on a lock (R354): a lock wait. INHERITS counts the threads that begin to inherit (log entry 20). -/
def queueLock (k t : Nat) (gd : BitVec 5) (word : Word36) (s : State) : State :=
  let before := inheriting s
  let s := count .dovetail 0 1 1 (setLock k { lockOf s k with waiters := (lockOf s k).waiters ++ [t] } s)
  let s := stallThread t (.lock k gd word) ctrStallLock s
  count .dovetail 0 3 ((inheriting s).filter (fun u => !before.contains u)).length s

/-- A cycle of locks (R376): the thread of lowest own priority, the requester counting as the latest waiter, is aborted
under R379; the requester is queued unless it is that thread. -/
def breakCycle (k t : Nat) (gd : BitVec 5) (word : Word36) (others : List Nat) (s : State) : State :=
  let s := raise 200 [] (count .dovetail 0 2 1 (setFlag 0x4C0 1 s))
  let low := others.all (fun u => decide (ownPrio s t ≤ ownPrio s u))
  if low then recoveryAbort t (checkHeld t <| updThr t (fun x => { x with stall := .lock k gd word }) s)
  else
    let s := queueLock k t gd word s
    match abortChoice s others with
    | some v => recoveryAbort v (checkHeld v s)
    | none => s

/-- DLOCK: lock k for the thread, waiting until granted (R353-R360, R376). -/
def execDlock (t : BitVec 9) (gd ga gb : BitVec 5) (imm : BitVec 12) (s : State) : Res :=
  .next (dovInstr t 40 0 gd ga gb imm [ga] [gd] (fun n word s =>
    let k := dovNumber s n ga imm 4096
    let s := checkLock k s
    let l := lockOf s k
    if l.owner.toNat = n then advance n (setG n gd (grantWord l) s)
    else if l.owner = 4095 then
      let s := takeLock k n s
      advance n (setG n gd (grantWord (lockOf s k)) s)
    else match lockCycle (s.dov.locks.length + 1) s n k with
      | some others => breakCycle k n gd word others s
      | none => queueLock k n gd word s) s)

/-- The result of a DTRY or LOCK_TRY (R354-R356, R360). -/
def tryLock (k m : Nat) (s : State) : Word36 × State :=
  let l := lockOf s k
  if l.owner.toNat = m then (grantWord l, s)
  else if l.owner = 4095 then
    let s := takeLock k m s
    (grantWord (lockOf s k), s)
  else (l.owner.setWidth 36, s)

/-- DTRY: write TID and read back once (R355, R360). -/
def execDtry (t : BitVec 9) (gd ga gb : BitVec 5) (imm : BitVec 12) (s : State) : Res :=
  .next (dovInstr t 40 1 gd ga gb imm [ga] [gd] (fun n _ s =>
    let k := dovNumber s n ga imm 4096
    let r := tryLock k n (checkLock k s)
    advance n (setG n gd r.1 r.2)) s)

/-- A release by a master: clean by the owner (R358, R365), or kept by a unit that is still busy with the master's
operation (R431); else ignored and counted (R359). -/
def unlock (k m : Nat) (s : State) : State :=
  let l := lockOf s k
  if l.owner.toNat = m && m != 4095 then
    match lockUnit k with
    | some u =>
      if (unitOf s u).busy && (unitOf s u).owner == l.owner then
        setLock k { l with owner := BitVec.ofNat 12 (unitIdentity u) } s
      else freeLock k 0 s
    | none => freeLock k 0 s
  else raise 204 [(k, 16), (l.owner.toNat, 16), (m, 16)] (count .dovetail 0 5 1 (setFlag 0x4C0 5 s))

/-- DUNLK: release lock k. -/
def execDunlk (t : BitVec 9) (gd ga gb : BitVec 5) (imm : BitVec 12) (s : State) : Res :=
  .next (dovInstr t 40 2 gd ga gb imm [ga] [] (fun n _ s =>
    let k := dovNumber s n ga imm 4096
    advance n (unlock k n (checkLock k (drainStores n s)))) s)

/-! ### Channels -/

/-- A slot is reserved for a thread in arrival order: none waits ahead of it and the slot is free (R370). -/
def mayReserve (s : State) (c : Nat) : Bool := (chanOf s c).writers.isEmpty && slotFree s c (chanOf s c).reserved

/-- DCRES: reserve the next slot of a channel, waiting while it is full (R370). -/
def execDcres (t : BitVec 9) (gd ga gb : BitVec 5) (imm : BitVec 12) (s : State) : Res :=
  .next (dovInstr t 41 0 gd ga gb imm [ga] [gd] (fun n word s =>
    let c := dovNumber s n ga imm 1024
    let s := checkChan c s
    if mayReserve s c then
      let tok := tokenWord s c (chanOf s c).reserved
      advance n (setG n gd tok (reserveSlot c (BitVec.ofNat 12 n) .reserved [0, 0, 0, 0] s))
    else
      stallThread n (.chanWrite c gd word) ctrStallChannel
        (setChan c { chanOf s c with writers := (chanOf s c).writers ++ [n] } s)) s)

/-- Count an ignored token (R371). -/
def badToken (s : State) : State := raiseFirst 205 0 [] (count .dovetail 0 8 1 (setFlag 0x4C0 6 s))

/-- DCPUT: gb into word IMM12[1:0] of the slot of token ga (R371). -/
def execDcput (t : BitVec 9) (gd ga gb : BitVec 5) (imm : BitVec 12) (s : State) : Res :=
  .next (dovInstr t 41 1 gd ga gb imm [ga, gb] [] (fun n _ s =>
    let s := checkChan (tokenChannel (regG s n ga)) s
    advance n (match tokenSlot s (regG s n ga) n with
      | none => badToken s
      | some (c, i) => match tabFind (chanOf s c).slots i with
        | none => badToken s
        | some sl => setChan c { chanOf s c with
            slots := tabPut (chanOf s c).slots i { sl with words := sl.words.set (imm.toNat % 4) (regG s n gb) } } s)) s)

/-- Commit a reserved slot: its reader, if one waits, receives it (R372). -/
def commitSlot (c i : Nat) (s : State) : State :=
  match tabFind (chanOf s c).slots i with
  | none => s
  | some sl => settleChan c (progress (waitsChan c) (count .dovetail 0 6 1
      (setChan c { chanOf s c with slots := tabPut (chanOf s c).slots i { sl with state := .committed } } s)))

/-- DCCMT: commit the slot of token ga (R371). -/
def execDccmt (t : BitVec 9) (gd ga gb : BitVec 5) (imm : BitVec 12) (s : State) : Res :=
  .next (dovInstr t 41 2 gd ga gb imm [ga] [] (fun n _ s =>
    let s := checkChan (tokenChannel (regG s n ga)) (drainStores n s)
    advance n (match tokenSlot s (regG s n ga) n with
      | none => badToken s
      | some (c, i) => commitSlot c i s)) s)

/-- The lowest unclaimed reservation number of a channel (R372, R373). -/
def claimNumber (x : Channel) : Nat := match x.returned with | n :: _ => n | [] => x.nextClaim

/-- Claim it. -/
def takeClaim (c : Nat) (s : State) : State :=
  let x := chanOf s c
  setChan c (match x.returned with
    | _ :: r => { x with returned := r }
    | [] => { x with nextClaim := x.nextClaim + 1 }) s

/-- The slot of a reservation number when it is committed or voided. -/
def readySlot (s : State) (c i : Nat) : Option ChanSlot :=
  match tabFind (chanOf s c).slots i with
  | some sl => if sl.state = .reserved then none else some sl
  | none => none

/-- Free a delivered slot and write its words to the thread's data memory (R372). -/
def deliverWords (n c i a : Nat) (sl : ChanSlot) (s : State) : State :=
  let s := progress (waitsChan c) (setChan c { chanOf s c with slots := tabErase (chanOf s c).slots i } s)
  settleChan c (if sl.state = .committed then dmemPuts (coreOf n) a sl.words s else s)

/-- DCTAKE: claim the next slot of a channel and take it, waiting at an uncommitted one (R372). Four words past the end
of data memory raise DMEM_RANGE (log entry 21). -/
def execDctake (t : BitVec 9) (gd ga gb : BitVec 5) (imm : BitVec 12) (s : State) : Res :=
  .next (dovInstr t 41 3 gd ga gb imm [ga, gb] [gd] (fun n word s =>
    let c := dovNumber s n ga imm 1024
    let a := (regG s n gb).toNat
    if 32767 < a + 3 then haltThread n 0x05 word a s
    else
      let s := checkChan c s
      let i := claimNumber (chanOf s c)
      let s := checkSlot c i (takeClaim c s)
      match readySlot s c i with
      | some sl => advance n (setG n gd (if sl.state = .committed then 0 else 1)
          (deliverWords n c i a sl s))
      | none =>
        stallThread n (.chanRead c i gd gb word) ctrStallChannel
          (setChan c { chanOf s c with readers := tabPut (chanOf s c).readers i n } s)) s)

end Sys2Proof.Machine
end

