-- ==== Sys2Proof/Machine/LookupOps.lean ====
section
/-!
DEFINITION. The lookup engine's operations: buckets, search, insertion and relocation, learning, the flow cache, tries,
parity and notices (07_lookup_engine.md).
-/
namespace Sys2Proof.Machine

def updLk (f : Lookup → Lookup) (s : State) : State := { s with lk := f s.lk }
def tableOf (s : State) (t : Nat) : LkTable := tabGet {} s.lk.tables t
def setTable (t : Nat) (x : LkTable) (s : State) : State := updLk (fun l => { l with tables := tabSet {} l.tables t x }) s
def updTable (t : Nat) (f : LkTable → LkTable) (s : State) : State := setTable t (f (tableOf s t)) s

/-- Count on counter `i` of a table, and of the device (Table 7.16). -/
def lkCount (t i n : Nat) (s : State) : State := count .lookup t i n s
def lkDevice (i n : Nat) (s : State) : State := count .lookup 255 i n s

/-- AGE units of the present sheet: SHEET[29:14] (Table 7.6). -/
def ageNow (s : State) : BitVec 16 := BitVec.ofNat 16 (natBits s.sh.sheet.toNat 14 16)

/-! ### Hashing (R387, R388) -/

/-- A key as bytes: 5 bytes a word, most significant first. -/
def keyBytes (k : List Word36) : List Byte := k.flatMap (fun w => beBytes 5 w.toNat)

/-- The buckets of a key, relative to the table's first. -/
def keyBuckets (x : LkTable) (k : List Word36) : Nat × Nat :=
  let b0 := crc32c (beBytes 4 x.seed0.toNat ++ keyBytes k) % x.buckets
  let b1 := crcEth (beBytes 4 x.seed1.toNat ++ keyBytes k) % x.buckets
  (b0, if b1 = b0 then (b0 + x.buckets / 2) % x.buckets else b1)

/-- Draw a number below `n` from a table's LFSR (log entry 36). -/
def tableDraw (t n : Nat) (s : State) : Nat × State :=
  let d := lfsrDraw (tableOf s t).lfsr
  (d.1 % n, updTable t (fun x => { x with lfsr := d.2 }) s)

/-! ### The flow table's stored entries and its cache (R403-R406, R419, R420) -/

/-- A flow entry as 64 bytes, most significant first (Table 7.6, log entry 37). -/
def flowBytes (e : LkEntry) : List Byte :=
  let key := (e.key ++ List.replicate 9 0).take 9
  let n := key.foldl (fun a w => a * 2 ^ 36 + w.toNat) 0
  beBytes 64 (n * 2 ^ 188 + e.r0.toNat * 2 ^ 152 + e.r1.toNat * 2 ^ 116 + 2 ^ 115 + b2n e.static * 2 ^ 114 + b2n e.learned * 2 ^ 113 +
    b2n e.pinned * 2 ^ 112 + e.table.toNat * 2 ^ 108 + e.age.toNat * 2 ^ 92)

/-- The valid entry in 64 bytes of a flow bucket. -/
def flowEntry (n : Nat) (bs : List Byte) : Option LkEntry :=
  let v := beNat bs
  if natBit v 115 then some {
    key := (List.range n).map (fun i => BitVec.ofNat 36 (natBits v (476 - 36 * i) 36))
    r0 := BitVec.ofNat 36 (natBits v 152 36), r1 := BitVec.ofNat 36 (natBits v 116 36), static := natBit v 114
    learned := natBit v 113, pinned := natBit v 112, table := BitVec.ofNat 4 (natBits v 108 4)
    age := BitVec.ofNat 16 (natBits v 92 16) }
  else none

/-- DRAM address of a flow bucket. -/
def flowAddr (s : State) (b : Nat) : Nat := (tableOf s 16).base + 256 * b

/-- A cached frame that fails parity is discarded (R419). -/
def checkFrame (b : Nat) (s : State) : State :=
  if s.lk.frameBad.contains b then
    raiseFirst 258 0 [] (lkDevice 3 1 (setFlag 0x500 0 (updLk (fun l => { l with
      frameBad := l.frameBad.filter (· != b), frames := tabErase l.frames b, lru := tabUpd [] l.lru (b % 4096) (·.filter (· != b)) }) s)))
  else s

/-- Bring a flow bucket into its cache frame, most recently used (R403, R404). -/
def fetchBucket (b : Nat) (s : State) : State :=
  let set := b % 4096
  let l := tabGet [] s.lk.lru set
  if l.contains b then lkDevice 1 1 (updLk (fun k => { k with lru := tabSet [] k.lru set (l.filter (· != b) ++ [b]) }) s)
  else
    let out := l.take (l.length - 3)
    let s := noteAccess 2 false (flowAddr s b) 256 (lkDevice 2 1 s)
    updLk (fun k => { k with
      frames := tabPut (out.foldl tabErase k.frames) b (dramBytes s (flowAddr s b) 256)
      frameBad := k.frameBad.filter (fun f => !out.contains f)
      lru := tabSet [] k.lru set (l.drop (l.length - 3) ++ [b]) }) s

/-- Write a 64-byte entry of a flow bucket to DRAM and to its cached frame together (R405). -/
def writeFlow (i : Nat) (bs : List Byte) (s : State) : State :=
  let b := i / 4
  let s := dramWrite 2 (flowAddr s b + 64 * (i % 4)) bs false s
  match tabFind s.lk.frames b with
  | some f => updLk (fun l => { l with frames := tabPut l.frames b (f.take (64 * (i % 4)) ++ bs ++ f.drop (64 * (i % 4) + 64)) }) s
  | none => s

/-! ### Entries by table and index -/

/-- The bytes of a flow bucket as the engine sees it: its frame, else DRAM. -/
def flowBucket (s : State) (b : Nat) : List Byte := (tabFind s.lk.frames b).getD (dramBytes s (flowAddr s b) 256)

/-- The valid entry at an index, (bucket − BASE_BUCKET) × 4 + way, of a table. -/
def entryAt (s : State) (t i : Nat) : Option LkEntry :=
  if t = 16 then flowEntry (tableOf s 16).keyWords (bytesAt (flowBucket s (i / 4)) (64 * (i % 4)) 64)
  else (tabFind s.lk.entries (4 * (tableOf s t).base + i)).map (fun e =>
    { e with key := (e.key ++ [0, 0, 0, 0]).take (tableOf s t).keyWords })

/-- Write an entry in one bucket operation (R390). -/
def putEntry (t i : Nat) (e : LkEntry) (s : State) : State :=
  if t = 16 then writeFlow i (flowBytes e) s
  else updLk (fun l => { l with
    entries := tabPut l.entries (4 * (tableOf s t).base + i) e, bad := l.bad.filter (· != 4 * (tableOf s t).base + i) }) s

/-- Invalidate an entry in one bucket operation (R390). -/
def clearEntry (t i : Nat) (s : State) : State :=
  if t = 16 then writeFlow i (zeros 64) s
  else updLk (fun l => { l with
    entries := tabErase l.entries (4 * (tableOf s t).base + i), bad := l.bad.filter (· != 4 * (tableOf s t).base + i) }) s

/-- Does the entry fail parity: an error mark (R416), or for a flow entry whose bucket is yet to be fetched its poisoned line (R420)? -/
def entryBad (s : State) (t i : Nat) : Bool :=
  if t = 16 then (tabFind s.lk.frames (i / 4)).isNone && linePoisoned s ((flowAddr s (i / 4) + 64 * (i % 4)) / 64)
  else s.lk.bad.contains (4 * (tableOf s t).base + i)

/-- The ways of a bucket, as indices. -/
def waysOf (b : Nat) : List Nat := [4 * b, 4 * b + 1, 4 * b + 2, 4 * b + 3]

/-- The lowest free way of a bucket. -/
def freeWay (s : State) (t b : Nat) : Option Nat := (waysOf b).find? (fun i => (entryAt s t i).isNone)

/-! ### Notices (R422) -/

/-- A word as 5 bytes. -/
def word5 (w : Word36) : List Byte := leBytes 5 w.toNat

/-- A notice record (Table 7.11). -/
def noticeBytes (s : State) (type t i : Nat) (k : List Word36) (old new : Word36 × Word36) : List Byte :=
  layout [(type, 1), (t, 1), ((tableOf s t).keyWords, 1), (0, 1), (i, 4), (s.sh.sheet.toNat, 8)] ++
    ((k ++ [0, 0, 0, 0]).take 4).flatMap word5 ++ word5 old.1 ++ word5 old.2 ++ word5 new.1 ++ word5 new.2 ++ zeros 8

/-- Queue a notice, or discard it at a full queue (R422). -/
def notice (type t i : Nat) (k : List Word36) (old new : Word36 × Word36) (s : State) : State :=
  if s.lk.notices.length < 4096 then
    let first := s.lk.notices.isEmpty
    let s := updLk (fun l => { l with notices := l.notices ++ [noticeBytes s type t i k old new] }) s
    if first then raise 260 [] s else s
  else raiseFirst 261 0 [] (lkDevice 4 1 (setFlag 0x500 6 s))

/-! ### Parity (R417, R418, R420) -/

/-- Invalidate one bad entry (R418, R420). -/
def dropBad (t : Nat) (s : State) (i : Nat) : State :=
  let e := entryAt s t i
  let s := raise 256 [(t, 8), (i, 32)] (setFlag 0x500 0 (clearEntry t i s))
  let s := if t = 16 then raise 259 [(i / 4, 32)] (setFlag 0x500 1 s) else s
  match e with
  | none => s
  | some e =>
    if e.static then updLk (fun l => { l with rewrites := l.rewrites ++ [.entry t i e] }) s
    else notice 6 t i e.key (e.r0, e.r1) (0, 0) s

/-- The bad entries of a bucket. -/
def badWays (s : State) (t b : Nat) : List Nat := (waysOf b).filter (entryBad s t)

/-- Read a bucket: its bad entries, and a flow bucket in its frame (R403, R404, R416, R419, R420). -/
def readBucket (t b : Nat) (s : State) : List Nat × State :=
  if t = 16 then
    let s := checkFrame b s
    (badWays s t b, fetchBucket b s)
  else (badWays s t b, s)

/-- Prepare a key's buckets: flow buckets are fetched, bad entries invalidated; with the first bad entry (R404, R417). -/
def openBuckets (t b0 b1 : Nat) (s : State) : Option Nat × State :=
  let r0 := readBucket t b0 s
  let r1 := readBucket t b1 r0.2
  let bad := r0.1 ++ r1.1
  (bad.head?, bad.foldl (dropBad t) r1.2)

/-! ### Search (R389) -/

/-- The index of a key's entry, b0 before b1, lower ways first. -/
def findKey (s : State) (t b0 b1 : Nat) (k : List Word36) : Option Nat :=
  (waysOf b0 ++ waysOf b1).find? (fun i => match entryAt s t i with | some e => e.key == k | none => false)

/-- DETAIL of HIT, MISS and FULL on tables 0 to 16 (Table 7.4). -/
def entryDetail (outcome : Nat) (e : LkEntry) (evicted : Bool) (relocations : Nat) (second : Bool) (i : Nat) : Nat :=
  packNat [(i, 20), (b2n second, 1), (relocations, 4), (b2n evicted, 1), (b2n e.pinned, 1), (b2n e.learned, 1),
    (b2n e.static, 1), (outcome, 3)]

/-- A status word (Table 5.12). -/
def lkStatus (status detail : Nat) : Word36 := BitVec.ofNat 36 (status * 2 ^ 32 + detail)

/-- What an operation answers: its status word and the words it writes from gb. -/
structure LkAnswer where
  status : Word36
  words : List Word36 := []
  deriving DecidableEq, Repr

/-- PARITY_MISS at an exact-match or flow entry (Table 7.4). -/
def parityMiss (i : Nat) : LkAnswer := { status := lkStatus 2 i }

/-- A lookup of tables 0 to 16 (R389, R417). -/
def lookupEntry (t : Nat) (k : List Word36) (s : State) : LkAnswer × State :=
  let b := keyBuckets (tableOf s t) k
  let r := openBuckets t b.1 b.2 s
  let s := lkDevice 0 1 (lkCount t 0 1 r.2)
  match findKey s t b.1 b.2 k with
  | some i => match entryAt s t i with
    | some e => ({ status := lkStatus 0 (entryDetail 0 e false 0 (i / 4 != b.1) i), words := [e.r0, e.r1] }, lkCount t 1 1 s)
    | none => ({ status := lkStatus 1 0 }, s)
  | none => match r.1 with
    | some i => (parityMiss i, lkCount t 3 1 s)
    | none => ({ status := lkStatus 1 0 }, lkCount t 2 1 s)

/-! ### Flap records (R398-R401) -/

def flapOf (s : State) (t : Nat) (k : List Word36) : Option FlapRecord :=
  s.lk.flaps.find? (fun f => f.table == t && f.key == k)
def dropFlap (t : Nat) (k : List Word36) (s : State) : State :=
  updLk (fun l => { l with flaps := l.flaps.filter (fun f => !(f.table == t && f.key == k)) }) s
/-- A flap record as the engine reads it: the start, the count and the pin's end of one that fails parity are open (R416; log entry
122). -/
def flapSeen (s : State) (f : FlapRecord) : FlapRecord :=
  let v := freeNow s
  if f.bad then { f with
    start := BitVec.ofNat 48 v, count := v / 2 ^ 48 % 2 ^ 16, bad := false
    pinEnd := if natBit v 64 then some (BitVec.ofNat 48 (v / 2 ^ 65)) else none } else f
/-- Report a flap record that fails parity (LOOKUP_FLAGS.PARITY of Table 7.12). -/
def noteFlap (f : Option FlapRecord) (s : State) : State :=
  match f with
  | some f => if f.bad then drawFree (setFlag 0x500 0 s) else s
  | none => s
def putFlap (f : FlapRecord) (s : State) : State :=
  updLk (fun l => { l with flaps := l.flaps.filter (fun g => !(g.table == f.table && g.key == f.key)) ++ [f] }) s

/-! ### Delete (R396) -/

/-- The firmware's shadow gives up entries of a table: none of them is put back (R418). -/
def dropRewrites (t : Nat) (out : LkEntry → Bool) (s : State) : State :=
  updLk (fun l => { l with rewrites := l.rewrites.filter (fun w => match w with
    | .entry u _ e => !(u == t && out e)
    | .trie .. => true) }) s

/-- Remove an entry and the flap record it holds. -/
def removeEntry (t i : Nat) (e : LkEntry) (s : State) : State := dropFlap t e.key (clearEntry t i s)

/-- A delete of tables 0 to 16. -/
def deleteEntry (t : Nat) (k : List Word36) (s : State) : LkAnswer × State :=
  let b := keyBuckets (tableOf s t) k
  let r := openBuckets t b.1 b.2 s
  let s := dropRewrites t (fun e => e.key == k) (lkDevice 0 1 r.2)
  match findKey s t b.1 b.2 k with
  | some i => match entryAt s t i with
    | some e => ({ status := lkStatus 0 (entryDetail 0 e false 0 (i / 4 != b.1) i), words := [e.r0, e.r1] },
        removeEntry t i e (lkCount t 8 1 s))
    | none => ({ status := lkStatus 1 0 }, s)
  | none => match r.1 with
    | some i => (parityMiss i, s)
    | none => ({ status := lkStatus 1 0 }, s)

/-! ### Insertion and relocation (R391-R395) -/

/-- The bucket of an entry's two that is not `b`. -/
def otherBucket (s : State) (t b : Nat) (e : LkEntry) : Nat :=
  let p := keyBuckets (tableOf s t) e.key
  if p.1 = b then p.2 else p.1

/-- One step of the relocation search from bucket `b`: the path so far, newest first, as (index, other bucket). -/
def walkPath : Nat → Nat → Nat → Option (List Word36) → List (Nat × Nat) → State → Option (List (Nat × Nat)) × State
  | 0, _, _, _, _, s => (none, s)
  | n + 1, t, b, last, path, s =>
    let ways := (waysOf b).filter (fun i => match entryAt s t i with | some e => some e.key != last | none => false)
    if ways.isEmpty then (none, s)
    else
      let d := tableDraw t ways.length s
      let s := d.2
      let i := ways.getD d.1 (4 * b)
      match entryAt s t i with
      | none => (none, s)
      | some e =>
        let a := otherBucket s t b e
        let r := readBucket t a s
        let s := r.1.foldl (dropBad t) r.2
        if (freeWay s t a).isSome then (some ((i, a) :: path), s)
        else walkPath n t a (some e.key) ((i, a) :: path) s

/-- Execute a relocation path from its far end: copy, then invalidate (R392). -/
def runPath (t : Nat) (path : List (Nat × Nat)) (s : State) : State :=
  path.foldl (fun a q =>
    match entryAt a t q.1, freeWay a t q.2 with
    | some e, some j => clearEntry t q.1 (putEntry t j e a)
    | _, _ => a) s

/-- The victim of an eviction (R393). -/
def chooseVictim (t b0 b1 : Nat) (s : State) : Option Nat × State :=
  let cs := (waysOf b0 ++ waysOf b1).filter (fun i => match entryAt s t i with | some e => !e.static && !e.pinned | none => false)
  if cs.isEmpty then (none, s)
  else if (tableOf s t).evictOldest then
    (argMax (fun i => match entryAt s t i with | some e => (ageNow s - e.age).toNat | none => 0) cs, s)
  else
    let d := tableDraw t cs.length s
    (some (cs.getD d.1 0), d.2)

/-- A new entry, installed at an index. -/
def install (t i b0 reloc : Nat) (e : LkEntry) (s : State) : LkAnswer × State :=
  ({ status := lkStatus 1 (entryDetail 1 e false reloc (i / 4 != b0) i) }, putEntry t i e s)

/-- Insert a key that is not present, into free ways, by relocation or by eviction (R391-R394). -/
def insertNew (t : Nat) (e : LkEntry) (s : State) : LkAnswer × State :=
  let b := keyBuckets (tableOf s t) e.key
  match freeWay s t b.1 with
  | some i => install t i b.1 0 e s
  | none => match freeWay s t b.2 with
    | some i => install t i b.1 0 e s
    | none =>
      let w := walkPath 8 t b.1 none [] s
      let s := w.2
      match w.1 with
      | some path =>
        let s := lkDevice 0 (2 * path.length) (lkCount t 7 path.length (runPath t path s))
        install t ((path.getLast?.map (·.1)).getD 0) b.1 path.length e s
      | none =>
        let v := chooseVictim t b.1 b.2 s
        let s := v.2
        match v.1 with
        | none => ({ status := lkStatus 4 0 }, raiseFirst 265 0 [(t, 8)] (lkCount t 5 1 (setFlag 0x500 5 s)))
        | some i => match entryAt s t i with
          | none => ({ status := lkStatus 4 0 }, s)
          | some o =>
            let s := notice 1 t i o.key (o.r0, o.r1) (0, 0) (lkCount t 6 1 (setFlag 0x500 2 (dropFlap t o.key s)))
            ({ status := lkStatus 1 (entryDetail 1 e true 0 (i / 4 != b.1) i), words := o.key ++ [o.r0, o.r1] }, putEntry t i e s)

/-- A new entry's content. -/
def newEntry (s : State) (t : Nat) (k : List Word36) (r0 r1 : Word36) (static learned : Bool) : LkEntry :=
  { key := k, r0 := r0, r1 := r1, static := static, learned := learned, table := if t = 16 then 0 else BitVec.ofNat 4 t
    age := ageNow s }

/-- Open a key's buckets for an insert, with the index of its entry. -/
def openInsert (t : Nat) (k : List Word36) (s : State) : Option Nat × State :=
  let b := keyBuckets (tableOf s t) k
  let s := lkCount t 4 1 (openBuckets t b.1 b.2 s).2
  (findKey s t b.1 b.2 k, s)

/-- An insert under R391, by a program or the host (`static` in FLAGS). -/
def plainInsert (t : Nat) (k : List Word36) (r0 r1 : Word36) (static : Bool) (s : State) : LkAnswer × State :=
  let r := openInsert t k s
  let s := lkDevice 0 2 r.2
  match r.1 with
  | none => insertNew t (newEntry s t k r0 r1 static false) s
  | some i => match entryAt s t i with
    | none => ({ status := lkStatus 1 0 }, s)
    | some e =>
      let n := { e with r0 := r0, r1 := r1, age := ageNow s, static := e.static || static }
      ({ status := lkStatus 0 (entryDetail 2 n false 0 (i / 4 != (keyBuckets (tableOf s t) k).1) i), words := [e.r0, e.r1] },
        putEntry t i n s)

/-- Refresh the AGE of an entry (Table 7.7). -/
def refreshAge (t i : Nat) (e : LkEntry) (s : State) : State := lkCount t 10 1 (putEntry t i { e with age := ageNow s } s)

/-- Apply a move: the entry's result and AGE (R398 step 4). -/
def applyMove (t i : Nat) (e : LkEntry) (r0 r1 : Word36) (s : State) : State :=
  let s := putEntry t i { e with r0 := r0, r1 := r1, age := ageNow s } s
  notice 2 t i e.key (e.r0, e.r1) (r0, r1) (raise 262 [(t, 8), (i, 32)] (lkCount t 11 1 (setFlag 0x500 3 s)))

/-- The flap record of a move at the present sheet: none when the store is full (R398, R401). -/
def moveRecord (s : State) (t : Nat) (k : List Word36) : Option FlapRecord :=
  match (flapOf s t k).map (flapSeen s) with
  | none => if s.lk.flaps.length < 16384 then some { table := t, key := k, start := s.sh.sheet, count := 1 } else none
  | some f =>
    if (tableOf s t).moveWindow ≤ (s.sh.sheet - f.start).toNat then some { f with start := s.sh.sheet, count := 1, pinEnd := none }
    else some { f with count := f.count + 1, pinEnd := none }

/-- A learn request with a different result for an entry that is neither pinned nor static (R398, R399, R401): OUTCOME 3 or 6. -/
def moveEntry (t i : Nat) (e : LkEntry) (r0 r1 : Word36) (s : State) : Nat × State :=
  let m := moveRecord s t e.key
  let s := noteFlap (flapOf s t e.key) s
  match m with
  | none => (3, applyMove t i e r0 r1 (raiseFirst 266 0 [] (lkDevice 5 1 (setFlag 0x500 7 s))))
  | some f =>
    if f.count ≤ (tableOf s t).moveLimit then (3, applyMove t i e r0 r1 (putFlap f s))
    else
      let s := putFlap { f with pinEnd := some (s.sh.sheet + BitVec.ofNat 48 (tableOf s t).hold) } s
      let s := putEntry t i { e with pinned := true } s
      (6, notice 3 t i e.key (e.r0, e.r1) (r0, r1) (raise 263 [(t, 8), (i, 32)] (lkCount t 12 1 (setFlag 0x500 4 s))))

/-- What a learn request does to the entry found (Table 7.7): its OUTCOME. -/
def learnFound (t i : Nat) (e : LkEntry) (r0 r1 : Word36) (s : State) : Nat × State :=
  let same := e.r0 == r0 && e.r1 == r1
  if e.static then
    if same then (2, s) else (5, notice 5 t i e.key (e.r0, e.r1) (r0, r1) (lkCount t 14 1 s))
  else if same then (2, refreshAge t i e s)
  else if e.pinned then (4, lkCount t 13 1 s)
  else moveEntry t i e r0 r1 s

/-- Slots of a learn request for an entry found: a refresh, or a request that changes nothing, takes 1, a move 2 (Table 7.5; log entry
123). -/
def learnSlots (outcome : Nat) : Nat := if outcome = 3 ∨ outcome = 6 then 2 else 1

/-- A learn request (R397). -/
def learn (t : Nat) (k : List Word36) (r0 r1 : Word36) (s : State) : LkAnswer × State :=
  let r := openInsert t k s
  let s := r.2
  match r.1 with
  | none =>
    let a := insertNew t (newEntry s t k r0 r1 false true) (lkDevice 0 2 s)
    (a.1, if a.1.status = lkStatus 4 0 then a.2 else lkCount t 9 1 a.2)
  | some i => match entryAt s t i with
    | none => ({ status := lkStatus 1 0 }, s)
    | some e =>
      let a := learnFound t i e r0 r1 s
      let n := (entryAt a.2 t i).getD e
      ({ status := lkStatus 0 (entryDetail a.1 n false 0 (i / 4 != (keyBuckets (tableOf s t) k).1) i), words := [e.r0, e.r1] },
        lkDevice 0 (learnSlots a.1) a.2)

/-- An insert of a program: a learn request on a LEARN table (R397). -/
def insertEntry (t : Nat) (k : List Word36) (r0 r1 : Word36) (s : State) : LkAnswer × State :=
  if (tableOf s t).learn then learn t k r0 r1 s else plainInsert t k r0 r1 false s

/-! ### Tries (R408-R413, R421) -/

def trieOf (s : State) (t : Nat) : Trie := tabGet {} s.lk.tries t
def setTrie (t : Nat) (x : Trie) (s : State) : State := updLk (fun l => { l with tries := tabSet {} l.tries t x }) s
/-- Bits of an address: 32 for tables 32 to 39, 128 for 40 to 43. -/
def trieBits (t : Nat) : Nat := if t < 40 then 32 else 128
/-- Do the first `n` bits of two addresses of `w` bits agree? -/
def samePrefix (w n a b : Nat) : Bool := a / 2 ^ (w - n) == b / 2 ^ (w - n)
/-- The longest route that matches an address (R408, R409, R412). -/
def longestMatch (s : State) (t a : Nat) : Option Route :=
  argMax (·.plen) ((trieOf s t).routes.filter (fun r => samePrefix (trieBits t) r.plen r.prefixBits a))

/-- Does the address's /64 end in an extension block (Table 7.8)? -/
def reachesExt (s : State) (t a : Nat) : Bool :=
  decide (40 ≤ t) && (trieOf s t).routes.any (fun r => decide (64 < r.plen) && samePrefix 128 64 r.prefixBits a)

/-! ### Node memory (Tables 7.8 to 7.10) -/

/-- Address bits consumed at the end of each stage (Table 7.8). -/
def trieEnds (t : Nat) : List Nat := if t < 40 then [16, 24, 32] else [20, 32, 44, 56, 64]
def rootSize (t : Nat) : Nat := if t < 40 then 65536 else 1048576
/-- Entries of a node or extension block below so many consumed bits (Table 7.8). -/
def nodeSize (t depth : Nat) : Nat :=
  if depth = 0 then rootSize t else if t < 40 then 256 else if depth = 64 then 34 else if depth = 56 then 256 else 4096
/-- The first `g` bits of an address. -/
def pathOf (t a g : Nat) : Nat := a / 2 ^ (trieBits t - g)
/-- Does a set of routes need a node below a path of `g` bits? -/
def needsNode (t : Nat) (rs : List Route) (g path : Nat) : Bool :=
  rs.any (fun r => decide (g < r.plen) && pathOf t r.prefixBits g == path)
/-- The longest route of at most `g` bits that covers a path of `g` bits: what is expanded into its entry. -/
def leafAt (t : Nat) (rs : List Route) (g path : Nat) : Option Route :=
  argMax (·.plen) (rs.filter (fun r => decide (r.plen ≤ g) && samePrefix (trieBits t) r.plen r.prefixBits (path * 2 ^ (trieBits t - g))))
/-- The routes of an extension block: those of more than 64 bits below a /64. -/
def extRoutes (rs : List Route) (path : Nat) : List Route :=
  rs.filter (fun r => decide (64 < r.plen) && pathOf 40 r.prefixBits 64 == path)
/-- The node of a trie below a path. -/
def nodeAt (x : Trie) (g path : Nat) : Option TrieNode := x.nodes.find? (fun n => n.depth == g && n.path == path)

/-- A LEAF or EMPTY entry (Table 7.9). -/
def leafWord (r : Option Route) : Nat :=
  match r with | some r => packNat [(r.index, 23), (r.plen, 7), (1, 2)] | none => 0
/-- An extension block (Table 7.10). -/
def extBytes (t : Nat) (rs : List Route) (path : Nat) : List Byte :=
  let es := (extRoutes rs path).take 8
  (leBytes 4 (leafWord (leafAt t rs 64 path)) ++ leBytes 1 es.length ++ zeros 3 ++
    es.flatMap (fun r => beBytes 8 r.prefixBits ++ leBytes 1 r.plen ++ leBytes 3 r.index ++ zeros 4) ++ zeros 128).take 136
/-- Entry `i` of a node (Table 7.9), or of an extension block. -/
def trieWord (t : Nat) (x : Trie) (n : TrieNode) (i : Nat) : Nat :=
  match (trieEnds t).find? (fun g => decide (n.depth < g)) with
  | none => leAt (extBytes t x.routes n.path) (4 * i) 4
  | some g =>
    let q := n.path * 2 ^ (g - n.depth) + i
    match nodeAt x g q with
    | some c => packNat [(c.base, 23), (0, 7), (if g = 64 then 3 else 2, 2)]
    | none => leafWord (leafAt t x.routes g q)
/-- The entry of node memory that a trie's nodes hold, none where they hold none. -/
def trieMem (t : Nat) (x : Trie) (e : Nat) : Option Nat :=
  (x.nodes.find? (fun n => decide (n.base ≤ e) && decide (e < n.base + nodeSize t n.depth))).map (fun n => trieWord t x n (e - n.base))

/-! ### Trie lookups -/

/-- The entries a lookup reads from the node below `g` bits on, with the place of each: one of every stage, then both passes over an
extension block (R408, R409). -/
def trieReads (t a : Nat) (x : Trie) : Nat → Nat → List Nat → List (Nat × Nat)
  | _, g, [] => match nodeAt x g (pathOf t a g) with
    | some n => (List.range 17).map (fun i => (6, n.base + 2 * i))
    | none => []
  | place, g, e :: r => match nodeAt x g (pathOf t a g) with
    | some n => (place, n.base + pathOf t a e % 2 ^ (e - g)) :: trieReads t a x (place + 1) e r
    | none => []

/-- The first place and entry that fail parity among those a lookup reads: its node entries, then its result (R416, R421). -/
def badRead (s : State) (t a : Nat) : Option (Nat × Nat) :=
  match (trieReads t a (trieOf s t) 1 0 (trieEnds t)).find? (fun q => s.lk.nodeBad.contains (q.2 / 2)) with
  | some q => some q
  | none => match longestMatch s t a with
    | some r => if s.lk.resultBad.contains r.index then some (7, r.index) else none
    | none => none

/-- Slots of a trie lookup: 2 when it goes through an extension block, which one that ends at a stage's bad entry does not (Table 7.5,
R421). -/
def trieSlots (s : State) (t a : Nat) : Nat :=
  match badRead s t a with
  | some (place, _) => if 6 ≤ place && reachesExt s t a then 2 else 1
  | none => if reachesExt s t a then 2 else 1

/-- A trie lookup (R408, R409, R421). -/
def lookupTrie (t a : Nat) (s : State) : LkAnswer × State :=
  let s := lkDevice 0 (trieSlots s t a) (lkCount t 0 1 s)
  match badRead s t a with
  | some b =>
    let s := raise 257 [(t, 8), (b.1, 8), (b.2, 32)] (lkCount t 3 1 (setFlag 0x500 0 s))
    let s := if s.lk.rewrites.contains (.trie t b.1 b.2) then s
      else updLk (fun l => { l with rewrites := l.rewrites ++ [.trie t b.1 b.2] }) s
    ({ status := lkStatus 2 (packNat [(b.2, 23), (0, 3), (b.1, 3)]) }, s)
  | none => match longestMatch s t a with
    | none => ({ status := lkStatus 1 0 }, lkCount t 2 1 s)
    | some r =>
      let v := tabGet (0, 0) s.lk.results r.index
      ({ status := lkStatus 0 (packNat [(r.index, 20), (r.plen, 8)])
         words := [v.1, BitVec.ofNat 36 (packNat [(v.2.toNat, 28), (r.plen, 8)])] }, lkCount t 1 1 s)

/-! ### Changes of a trie (R411-R413) -/

/-- Does what lies below a path that has a node under both sets of routes differ between them? The list holds the ends of the stages
below it. -/
def differs (t : Nat) (old new : List Route) : List Nat → Nat → Nat → Bool
  | [], _, path => extRoutes old path != extRoutes new path || leafAt t old 64 path != leafAt t new 64 path
  | e :: r, g, path => (List.range (2 ^ (e - g))).any (fun i =>
    let q := path * 2 ^ (e - g) + i
    match needsNode t old e q, needsNode t new e q with
    | true, true => differs t old new r e q
    | false, false => leafAt t old e q != leafAt t new e q
    | _, _ => true)

/-- Does an entry, of so many consumed bits, or what lies below it differ between two sets of routes? -/
def entryDiffers (t : Nat) (old new : List Route) (r : List Nat) (e q : Nat) : Bool :=
  match needsNode t old e q, needsNode t new e q with
  | true, true => differs t old new r e q
  | false, false => leafAt t old e q != leafAt t new e q
  | _, _ => true

/-- The nodes that routes need below the root. -/
def nodePaths (t : Nat) (rs : List Route) : List (Nat × Nat) :=
  ((if t < 40 then [16, 24] else [20, 32, 44, 56, 64]).flatMap (fun g =>
    (rs.filter (fun r => decide (g < r.plen))).map (fun r => (g, pathOf t r.prefixBits g)))).eraseDups

/-- The nodes below an entry that differ between two sets of routes: they are built anew (R411). -/
def belowEntry (t : Nat) (old new : List Route) (e q : Nat) : List (Nat × Nat) :=
  ((nodePaths t old ++ nodePaths t new).eraseDups).filter (fun p =>
    decide (e ≤ p.1) && p.2 / 2 ^ (p.1 - e) == q && entryDiffers t old new ((trieEnds t).filter (fun g => decide (p.1 < g))) p.1 p.2)

/-- The nodes built anew below an entry whose node stands before and after: where one entry of that node differs alone, the change goes on
below that entry; else the entry given takes the single write (R411; log entry 124). -/
def rebuiltFrom (t : Nat) (old new : List Route) : List Nat → Nat → Nat → List (Nat × Nat)
  | [], g, path => belowEntry t old new g path
  | e :: r, g, path =>
    match (List.range (2 ^ (e - g))).filter (fun i => entryDiffers t old new r e (path * 2 ^ (e - g) + i)) with
    | [i] =>
      let q := path * 2 ^ (e - g) + i
      if needsNode t old e q && needsNode t new e q then rebuiltFrom t old new r e q else belowEntry t old new e q
    | _ => belowEntry t old new g path

/-- The nodes a change of routes builds anew, a list for each root entry whose subtree it alters (R411). -/
def rebuiltLists (t : Nat) (old new : List Route) : List (List (Nat × Nat)) :=
  match trieEnds t with
  | [] => []
  | g :: r =>
    (((nodePaths t old ++ nodePaths t new).filter (fun p => p.1 == g)).eraseDups).map (fun p =>
      if needsNode t old g p.2 && needsNode t new g p.2 then
        (if differs t old new r g p.2 then rebuiltFrom t old new r g p.2 else [])
      else belowEntry t old new g p.2)

def rebuilt (t : Nat) (old new : List Route) : List (Nat × Nat) := (rebuiltLists t old new).flatten

/-- The blocks of node memory in use, those not yet returned among them. -/
def usedBlocks (s : State) : List (Nat × Nat) :=
  s.lk.tries.flatMap (fun p => p.2.nodes.map (fun n => (n.base, nodeSize p.1 n.depth))) ++ s.lk.staleNodes

/-- The lowest place of node memory with room for `n` entries (log entry 124). -/
def freeBlock (used : List (Nat × Nat)) (n : Nat) : Option Nat :=
  argMin id ((0 :: used.map (fun u => u.1 + u.2)).filter (fun a =>
    decide (a + n ≤ 7340032) && used.all (fun u => decide (u.1 + u.2 ≤ a) || decide (a + n ≤ u.1))))

/-- The block a node fills. -/
def blockOf (t : Nat) (n : TrieNode) : Nat × Nat := (n.base, nodeSize t n.depth)

/-- Place nodes in free node memory; none when one finds no place. -/
def placeNodes (t : Nat) : List (Nat × Nat) → List (Nat × Nat) → Option (List TrieNode)
  | _, [] => some []
  | used, q :: r =>
    match freeBlock used (nodeSize t q.1) with
    | some b => (placeNodes t ((b, nodeSize t q.1) :: used) r).map ({ depth := q.1, path := q.2, base := b } :: ·)
    | none => none

/-- Place the nodes of one root entry after another. While no lookup can read them (`free`), the nodes that an entry's write replaces
return to free memory before the next entry's are built (R411, R413). -/
def placeLists (t : Nat) (out : List TrieNode) (need : Nat × Nat → Bool) (free : Bool) :
    List (Nat × Nat) → List (List (Nat × Nat)) → Option (List TrieNode)
  | _, [] => some []
  | used, qs :: r =>
    match placeNodes t used (qs.filter need) with
    | none => none
    | some ns =>
      let gone := if free then (out.filter (fun n => qs.contains (n.depth, n.path))).map (blockOf t) else []
      (placeLists t out need free ((used ++ ns.map (blockOf t)).filter (fun b => !gone.contains b)) r).map (ns ++ ·)

/-- Is a trie lookup outstanding (R413)? -/
def trieBusy (s : State) : Bool := s.lk.ops.any (fun p => decide (32 ≤ p.2.table))

/-- The nodes of a trie that a change of its routes replaces, and those it builds, none when node memory has no room for them. -/
def replacedNodes (t : Nat) (new : List Route) (s : State) : List TrieNode :=
  (trieOf s t).nodes.filter (fun n => (rebuilt t (trieOf s t).routes new).contains (n.depth, n.path))
def builtPaths (t : Nat) (new : List Route) (s : State) : List (Nat × Nat) :=
  (rebuilt t (trieOf s t).routes new).filter (fun q => needsNode t new q.1 q.2)
def builtNodes (t : Nat) (new : List Route) (s : State) : Option (List TrieNode) :=
  placeLists t (replacedNodes t new s) (fun q => needsNode t new q.1 q.2) (!trieBusy s) (usedBlocks s)
    (rebuiltLists t (trieOf s t).routes new)

/-- Change the routes of a trie whose new nodes have room: they are built in free node memory, the single write of each root entry swaps
them in, and the replaced ones not built over are held until no lookup can read them; the words written have good parity again
(R411-R413). -/
def changeRoutes (t : Nat) (new : List Route) (s : State) : State :=
  let x := trieOf s t
  let out := replacedNodes t new s
  let ins := (builtNodes t new s).getD []
  let y : Trie := { x with routes := new, nodes := x.nodes.filter (fun n => !out.contains n) ++ ins }
  updLk (fun l => { l with
    staleNodes := l.staleNodes ++ (out.map (blockOf t)).filter (fun b => ins.all (fun n =>
      decide (n.base + nodeSize t n.depth ≤ b.1) || decide (b.1 + b.2 ≤ n.base)))
    nodeBad := l.nodeBad.filter (fun w => [2 * w, 2 * w + 1].all (fun e => trieMem t x e == trieMem t y e)) }) (setTrie t y s)

/-- Replaced nodes and released results return to free memory (R413). -/
def reclaimNodes (s : State) : State :=
  updLk (fun l => { l with
    staleNodes := [], staleResults := [], results := l.results.filter (fun r => !l.staleResults.contains r.1) }) s

/-- A trie is disabled: its nodes and results are free at once, or once the lookups that can read them have completed (R413). -/
def dropTrie (t : Nat) (s : State) : State :=
  let x := trieOf s t
  let s := updLk (fun l => { l with
    staleNodes := l.staleNodes ++ x.nodes.map (fun n => (n.base, nodeSize t n.depth))
    staleResults := l.staleResults ++ x.routes.map (·.index)
    rewrites := l.rewrites.filter (fun w => match w with | .trie u _ _ => u != t | .entry .. => true) }) (setTrie t {} s)
  if trieBusy s then s else reclaimNodes s

/-- Entries of node memory in use, with those not yet returned (R413). -/
def nodesUsed (s : State) : Nat := ((usedBlocks s).map (·.2)).foldl (· + ·) 0
/-- Node entries outside the reserve (R410). -/
def nodeRoom : Nat := 7340032 - 262144
/-- Units of the prefix budget in use (R410). -/
def unitsUsed (s : State) : Nat :=
  s.lk.tries.foldl (fun a p => a + (if p.1 < 40 then 1 else 4) * p.2.routes.length) 0

/-- The lowest free result index. -/
def freeResult (s : State) : Nat :=
  ((List.range (s.lk.results.length + s.lk.staleResults.length + 1)).find? (fun i =>
    (tabFind s.lk.results i).isNone && !s.lk.staleResults.contains i)).getD 0

/-! ### Operations of LKUP -/

/-- Words of key a table's operations read, 0 for a table number that is reserved. -/
def keyWords (s : State) (t : Nat) : Nat :=
  if t ≤ 16 then (tableOf s t).keyWords else if 32 ≤ t ∧ t < 40 then 1 else if 40 ≤ t ∧ t < 44 then 4 else 0

/-- Does the table answer an operation (R382)? -/
def tableAnswers (s : State) (t op : Nat) : Bool :=
  if t ≤ 16 then (tableOf s t).configured && (tableOf s t).enabled && (op == 0 || (tableOf s t).programWrite)
  else decide (32 ≤ t) && decide (t < 44) && (trieOf s t).enabled && op == 0

/-- Words an operation reads from ga, and the most it can write from gb (Table 7.3, R383). -/
def readWords (s : State) (t op : Nat) : Nat := keyWords s t + (if op = 1 then 2 else 0)
def writeWords (s : State) (t op : Nat) : Nat := if op = 1 then keyWords s t + 2 else 2

/-- Is the operation a KEY_FAULT (R383)? -/
def keyFault (s : State) (o : LkOp) : Bool :=
  decide (32768 < o.source + readWords s o.table o.op) || decide (32768 < o.result + writeWords s o.table o.op) ||
  (decide (32 ≤ o.table) && o.key.any (fun w => decide (2 ^ 32 ≤ w.toNat)))

/-- Run one operation (R382, R383, R389, R391, R396, R408). -/
def runLookup (o : LkOp) (s : State) : LkAnswer × State :=
  if !tableAnswers s o.table o.op then ({ status := lkStatus 3 0 }, s)
  else if keyFault s o then ({ status := lkStatus 5 0 }, s)
  else if 32 ≤ o.table then lookupTrie o.table (o.key.foldl (fun a w => a * 2 ^ 32 + w.toNat) 0) s
  else match o.op with
    | 0 => lookupEntry o.table o.key s
    | 1 => insertEntry o.table o.key o.r0 o.r1 s
    | _ => deleteEntry o.table o.key s

/-- Lookups a thread has outstanding. -/
def outstanding (s : State) (t : Nat) : Nat := (s.lk.ops.filter (fun p => p.2.thread == t && !p.2.discard)).length

end Sys2Proof.Machine
end

