-- ==== Sys2Proof/Machine/DovetailCmd.lean ====
section
/-!
DEFINITION. Commands 0x05xx and the all-wait detectors (06_threads_and_dovetail.md, Table 6.17; R331, R339-R351, R353-R360,
R367, R369, R375, R377-R381).
-/
namespace Sys2Proof.Machine

/-! ### All-wait detectors -/

/-- Is a thread live (06_threads_and_dovetail.md, The all-wait detector)? -/
def isLive (s : State) (t : Nat) : Bool :=
  (thr s t).item.isSome && !isSupervisor s t && decide ((thr s t).st ≠ .halt) && decide ((thr s t).st ≠ .frozen)

/-- Is a thread in a lock, channel or drawer wait? -/
def isWaiting (s : State) (t : Nat) : Bool :=
  match (thr s t).stall with
  | .lock .. | .chanWrite .. | .chanRead .. | .drawer .. => (thr s t).st == .stall
  | _ => false

/-- The live threads of a detector's scope: clusters 0 to 7, the device 8. -/
def liveIn (s : State) (k : Nat) : List Nat := (listedThreads s).filter (fun t => isLive s t && (k == 8 || clusterOf t == k))

/-- One detector's step at a tick (R377). -/
def detectorStep (s : State) (k : Nat) : Detector :=
  let d := detectorOf s k
  let ts := liveIn s k
  let n := if !ts.isEmpty && ts.all (isWaiting s) && !d.progress then d.count + 1 else 0
  if n = 2 then { count := 0, progress := false, fired := true } else { count := n, progress := false, fired := false }

/-- The detectors' step at a tick; when the device detector fires, only it acts (R377, R378). -/
def detectorTick (s : State) : State :=
  let dev := detectorStep s 8
  (List.range 9).foldl (fun a k =>
    let d := detectorStep s k
    let d := if k < 8 && dev.fired then { d with fired := false } else d
    { a with dov := { a.dov with detectors := tabSet {} a.dov.detectors k d } }) s

/-- DETAIL of code 0x12 for a waiting thread (Table 6.5). -/
def waitDetail (x : Thread) : Nat :=
  match x.stall with
  | .lock k _ _ => k
  | .chanWrite c _ _ => 4096 + c
  | .chanRead c _ _ _ _ => 4096 + c
  | _ => 0

/-- ALLWAIT_DETECTION: a detector that fired aborts one waiter of its scope and posts its message (R378, R379, R344). -/
def execAllwaitDetection (scope : BitVec 4) (s : State) : Res :=
  let k := scope.toNat
  .next (
    if 8 < k || !(detectorOf s k).fired then s
    else
      let s := { s with dov := { s.dov with detectors := tabUpd {} s.dov.detectors k (fun d => { d with fired := false }) } }
      let ts := liveIn s k
      match abortChoice s (ts.filter (isWaiting s)) with
      | none => s
      | some t =>
        let m := faultMsg s t (if k = 8 then 2 else 1) 0x12 (BitVec.ofNat 36 ts.length) (waitDetail (thr s t))
        let s := if k = 8 then raise 202 [] (count .dovetail 0 10 1 (setFlag 0x4C0 3 s))
          else raise 201 [] (count .dovetail 0 9 1 (setFlag 0x4C0 2 s))
        postFault (if k = 8 then 1015 else 1016 + k) (1000 + k) m (recoveryAbort t (checkHeld t s)))

/-! ### Threads -/

/-- Does a slot table name every thread and leave bits 4e + 3 zero (R331)? -/
def slotsOk (e : Nat) : Bool :=
  (List.range 16).all (fun i => !natBit e (4 * i + 3)) &&
  (List.range 8).all (fun t => (List.range 16).any (fun i => natBits e (4 * i) 3 == t))

/-- SLOT_TABLE_SET. -/
def slotTableSet : CmdSpec :=
  { op := 0x0501, fixed := 16, checks := fun _ p => [(8, slotsOk (leAt p 8 8))]
    body := okState (fun s p =>
      let put := fun (t : Tab SlotTable) c => tabUpd {} t c (fun x => { x with entries := BitVec.ofNat 64 (leAt p 8 8) })
      { s with cores := { s.cores with slots := (maskList 64 (leAt p 0 8)).foldl put s.cores.slots } }) }

/-- SUPERVISOR_SET (R339, R341). -/
def supervisorSet : CmdSpec :=
  { op := 0x0502, fixed := 8
    checks := fun _ p => [inRange p 0 1 0 7, inRange p 1 1 0 7, inRange p 2 1 0 7, inRange p 3 1 0 1, rsv p 6 2]
    body := fun s _ p =>
      let k := leAt p 0 1
      let v := supervisorOf s k
      let w : Supervisor := { v with core := leAt p 1 1, thread := leAt p 2 1, entry := BitVec.ofNat 16 (leAt p 4 2) }
      let start := leAt p 3 1 == 1
      if (v != w && !s.disp.fenced.getLsbD k) || (start && v.started) then refuse s 0x03
      else
        let s := { s with cores := { s.cores with supervisors := tabSet {} s.cores.supervisors k w } }
        if start then
          let t := supervisorId s k
          okCmd (repostFaults k (enterSupervisor t (setThr t { lastEx := (thr s t).lastEx } s)))
        else okCmd s }

/-- The number of a thread state in THREAD_STATUS. -/
def stateCode (st : TState) : Nat :=
  match st with | .free => 0 | .ready => 1 | .run => 2 | .stall => 3 | .halt => 4 | .frozen => 5

/-- The awaited lock or channel and the wait kind of THREAD_STATUS. -/
def waitCode (x : Thread) : Nat × Nat :=
  match x.stall with
  | .none => (0, 0)
  | .lock k _ _ => (k, 1)
  | .chanWrite c _ _ => (c, 2)
  | .chanRead c _ _ _ _ => (c, 2)
  | .drawer .. => (0, 3)
  | _ => (0, 4)

/-- The 8 bytes of a thread in THREAD_STATUS. -/
def threadStatusBytes (s : State) (t : Nat) : List Byte :=
  let x := thr s t
  layout [(stateCode x.st, 1), (packNat [(ownPrio s t, 3), (0, 1), (inherited s t, 3)], 1), ((waitCode x).1, 2), ((waitCode x).2, 1),
    (x.lastEx.toNat, 1), (x.pc.toNat, 2)]

/-- THREAD_STATUS. -/
def threadStatus : CmdSpec :=
  { op := 0x0503, fixed := 1, checks := fun _ p => [inRange p 0 1 0 63]
    body := okReply (fun s p => (List.range 8).flatMap (fun i => threadStatusBytes s (8 * leAt p 0 1 + i))) }

/-- THREAD_RESET (R351, R381). -/
def threadReset : CmdSpec :=
  { op := 0x0504, fixed := 2
    checks := fun s p => [inRange p 0 2 0 511, (0, !(isSupervisor s (leAt p 0 2) && s.disp.fenced.getLsbD (clusterOf (leAt p 0 2))))]
    body := okState (fun s p => admitEvents (l0Reset (leAt p 0 2) (checkHeld (leAt p 0 2) s))) }

/-- CORE_COUNTERS; IDLE_CYCLES and SWITCH_CYCLES are measured times. -/
def coreCounters : CmdSpec :=
  { op := 0x0505, fixed := 2, checks := fun _ p => [inRange p 0 1 0 63, inRange p 1 1 0 1]
    body := timedBody .core (fun p => leAt p 0 1) 1 12 [1, 2] }

/-! ### Locks -/

/-- A lock number at payload offset 0 (R381). -/
def lockNo (p : List Byte) : Nat × Bool := inRange p 0 2 0 4095

/-- LOCK_TRY: as DTRY, by identity 513 + mailbox. -/
def lockTry : CmdSpec :=
  { op := 0x0510, fixed := 2, checks := fun _ p => [lockNo p]
    body := fun s m p =>
      let r := tryLock (leAt p 0 2) (513 + m) (checkLock (leAt p 0 2) s)
      okCmd r.2 (leBytes 5 r.1.toNat) }

/-- LOCK_RELEASE: a release by another master is refused and counted (R359). -/
def lockRelease : CmdSpec :=
  { op := 0x0511, fixed := 2, checks := fun _ p => [lockNo p]
    body := fun s m p =>
      let s := checkLock (leAt p 0 2) s
      let mine := (lockOf s (leAt p 0 2)).owner.toNat == 513 + m
      { state := unlock (leAt p 0 2) (513 + m) s, status := if mine then 0 else 0x03 } }

/-- LOCK_QUERY. -/
def lockQuery : CmdSpec :=
  { op := 0x0512, fixed := 2, checks := fun _ p => [lockNo p]
    body := fun s _ p =>
      let s := checkLock (leAt p 0 2) s
      let l := lockOf s (leAt p 0 2)
      let w := l.waiters.length
      okCmd (if w < 256 then s else drawFree s) (layout [(l.owner.toNat, 2), (b2n (l.broken != 0), 1), (if w < 256 then w else freeNow s, 1),
        (l.waiters.foldl (fun a t => max a (effPrio s t)) 0, 1), (if l.owner.toNat < 512 then inherited s l.owner.toNat else 0, 1),
        (l.last.toNat, 2)]) }

/-- LOCK_BREAK (R367). -/
def lockBreak : CmdSpec :=
  { op := 0x0513, fixed := 2, checks := fun _ p => [lockNo p]
    body := fun s _ p =>
      let k := leAt p 0 2
      let s := checkLock k s
      let o := (lockOf s k).owner.toNat
      if o = 4095 || (match lockUnit k with | some u => o == unitIdentity u | none => false) then refuse s 0x03
      else okCmd (loseLock k 5 s) }

/-! ### Channels -/

/-- Slots of channels 0 to 1,014 with channel `c` resized (R369). -/
def slotTotal (s : State) (c n : Nat) : Nat :=
  8 * 1015 + (s.dov.channels.filter (fun p => decide (p.1 < 1015) && p.1 != c)).foldl (fun a p => a + (chanSize s p.1 - 8)) 0 + (n - 8)

/-- CHANNEL_CONFIG. -/
def channelConfig : CmdSpec :=
  { op := 0x0520, fixed := 4
    checks := fun s p => [inRange p 0 2 0 1014,
      (2, decide (8 ≤ leAt p 2 2) && decide (leAt p 2 2 ≤ 256) && decide (slotTotal s (leAt p 0 2) (leAt p 2 2) ≤ 31712))]
    body := fun s _ p =>
      let s := checkChan (leAt p 0 2) s
      let x := chanOf s (leAt p 0 2)
      if !x.slots.isEmpty || !x.readers.isEmpty || !x.writers.isEmpty then refuse s 0x03
      else okCmd (setChan (leAt p 0 2) { x with size := leAt p 2 2 } s) }

/-- CHANNEL_POST (R375). -/
def channelPost : CmdSpec :=
  { op := 0x0521, fixed := 24
    checks := fun _ p => [inRange p 0 2 0 1014, rsv p 2 2, (4, (List.range 4).all (fun i => decide (leAt p (4 + 5 * i) 5 < 2 ^ 36)))]
    body := fun s m p =>
      let c := leAt p 0 2
      let s := checkChan c s
      if !mayReserve s c then refuse s 0x09
      else
        let n := (chanOf s c).reserved
        okCmd (commitSlot c n (reserveSlot c (BitVec.ofNat 12 (513 + m)) .reserved
          ((List.range 4).map (fun i => BitVec.ofNat 36 (leAt p (4 + 5 * i) 5))) s)) }

/-- The four words beside a void marker, which no rule gives (log entry 174). -/
def openWords (s : State) : List Word36 := (List.range 4).map (fun i => BitVec.ofNat 36 (Config.free (s.fresh + i)))

/-- The state after they are drawn. -/
def drawWords (s : State) : State := { s with fresh := s.fresh + 4 }

/-- CHANNEL_TAKE (R375). -/
def channelTake : CmdSpec :=
  { op := 0x0522, fixed := 2, checks := fun _ p => [inRange p 0 2 0 1014]
    body := fun s _ p =>
      let c := leAt p 0 2
      let s := checkChan c s
      let i := claimNumber (chanOf s c)
      let s := checkSlot c i s
      match readySlot s c i with
      | none => refuse s 0x09
      | some sl =>
        let s := takeClaim c s
        let s := progress (waitsChan c) (setChan c { chanOf s c with slots := tabErase (chanOf s c).slots i } s)
        if sl.state = .committed then okCmd (settleChan c s) (zeros 4 ++ sl.words.flatMap word5)
        else okCmd (drawWords (settleChan c s)) (leBytes 1 1 ++ zeros 3 ++ (openWords s).flatMap word5) }

/-- CHANNEL_STATUS. -/
def channelStatus : CmdSpec :=
  { op := 0x0523, fixed := 2, checks := fun _ p => [inRange p 0 2 0 1023]
    body := fun s _ p =>
      let s := checkChan (leAt p 0 2) s
      let x := chanOf s (leAt p 0 2)
      okCmd s (layout [(chanSize s (leAt p 0 2), 2), (0, 2), ((x.slots.filter (fun q => q.2.state == .committed)).length, 2), (x.readers.length, 2),
        (x.writers.length, 2), (x.readers.length, 2)]) }

/-- DOVETAIL_COUNTERS. -/
def dovetailCounters : CmdSpec :=
  { op := 0x0530, fixed := 1, checks := fun _ p => [inRange p 0 1 0 1], body := counterBody .dovetail (fun _ => 0) 0 16 }

/-! ### Happenings -/

def execSlotTableSet (m : BitVec 4) (s : State) : Res := .next (runCmd slotTableSet m s)
def execSupervisorSet (m : BitVec 4) (s : State) : Res := .next (runCmd supervisorSet m s)
def execThreadStatus (m : BitVec 4) (s : State) : Res := .next (runCmd threadStatus m s)
def execCoreCounters (m : BitVec 4) (s : State) : Res := .next (runCmd coreCounters m s)
def execLockTry (m : BitVec 4) (s : State) : Res := .next (runCmd lockTry m s)
def execLockRelease (m : BitVec 4) (s : State) : Res := .next (runCmd lockRelease m s)
def execLockQuery (m : BitVec 4) (s : State) : Res := .next (runCmd lockQuery m s)
def execLockBreak (m : BitVec 4) (s : State) : Res := .next (runCmd lockBreak m s)
def execChannelConfig (m : BitVec 4) (s : State) : Res := .next (runCmd channelConfig m s)
def execChannelPost (m : BitVec 4) (s : State) : Res := .next (runCmd channelPost m s)
def execChannelTake (m : BitVec 4) (s : State) : Res := .next (runCmd channelTake m s)
def execChannelStatus (m : BitVec 4) (s : State) : Res := .next (runCmd channelStatus m s)
def execDovetailCounters (m : BitVec 4) (s : State) : Res := .next (runCmd dovetailCounters m s)

end Sys2Proof.Machine
end

