-- ==== Sys2Proof/Machine/EvidenceOps.lean ====
section
/-!
DEFINITION. The store engine: the tick's publications and lane readings, stripes, NVMe writes, seals, commit events and
the evidence part of the power-fail sequence (09_evidence_path.md).
-/
namespace Sys2Proof.Machine

/-- Change the evidence path's state. -/
def updEv (f : Evidence → Evidence) (s : State) : State := { s with ev := f s.ev }

def laneOf (s : State) (n : Nat) : Lane := tabGet {} s.ev.lanes n
def setLane (n : Nat) (x : Lane) (s : State) : State := updEv (fun e => { e with lanes := tabSet {} e.lanes n x }) s
def memberOf (s : State) (i : Nat) : StoreMember := tabGet {} s.ev.members i
def setStream (c : Nat) (x : Stream) (s : State) : State := updEv (fun e => { e with streams := tabPut e.streams c x }) s

/-- The configured lanes in ascending order. -/
def laneList (s : State) : List (Nat × Lane) := s.ev.lanes.filter (fun l => l.2.configured)

/-- Address of a lane's control block (Table 9.5). -/
def laneCtl (s : State) (n : Nat) : Nat := s.ev.ctrlBase + 64 * (n + 1)

/-- A PTP time as 10 big-endian bytes. -/
def ptpBytes (t : PtpTime) : List Byte := beBytes 6 t.sec.toNat ++ beBytes 4 t.ns.toNat

/-- Write a big-endian field of the store engine's in DRAM. -/
def putField (a n v : Nat) (s : State) : State := dramWrite 5 a (beBytes n v) false s

/-- Is the evidence path at work: running, or in the power-fail sequence? -/
def evActive (s : State) : Bool := s.ev.state == .running || s.ev.state == .powerFail

/-- Largest window among the furnishes in flight (R516). -/
def largestWindow (s : State) : Nat :=
  max s.sh.cur.window.toNat (match s.sh.old with | some (_, b) => b.window.toNat | none => 0)

/-! ### The tick -/

/-- The present sheet is the first of its PTP second (SECOND_LO of Table 9.2). -/
def markSecond (s : State) : State :=
  updEv (fun e => { e with second := s.sh.tickTime.sec, secondSheet := s.sh.sheet }) s

/-- The first sheet of each PTP second (SECOND_LO of Table 9.2). -/
def noteSecond (s : State) : State := if s.ev.second = s.sh.tickTime.sec then s else markSecond s

/-- The store engine's writes at a tick: control block and tick log (R477). -/
def publishTick (s : State) : State :=
  let b := s.ev.ctrlBase
  let s := putField b 4 (s.sh.sheet.toNat / 65536) s
  let s := putField (b + 4) 4 (s.ev.secondSheet.toNat % 2 ^ 32) s
  let s := putField (b + 12) 4 (s.ev.durable.toNat % 2 ^ 32) s
  dramWrite 5 (s.ev.tickBase + 16 * (s.sh.sheet.toNat % 2 ^ 21)) (beBytes 6 s.sh.sheet.toNat ++ ptpBytes s.sh.tickTime) false s

/-- A 32-bit count as read, extended from its last value. -/
def extendCount (old new : Nat) : Nat := old + (new + 2 ^ 32 - old % 2 ^ 32) % 2 ^ 32

/-- Read one lane control block (R492). -/
def readLane (n : Nat) (s : State) : State :=
  let x := laneOf s n
  let s := noteAccess 5 false (laneCtl s n) 8 s
  let w := extendCount x.writePos (beNat (dramBytes s (laneCtl s n) 4))
  let v := extendCount x.sealWrite (beNat (dramBytes s (laneCtl s n + 4) 4))
  setLane n { x with
    writePos := w, sealWrite := v, ages := if w = x.writePos then x.ages else x.ages ++ [(w, s.sh.sheet)] } s

/-- Read every lane control block (R492). -/
def readLanes (s : State) : State := (laneList s).foldl (fun a l => readLane l.1 a) s

/-- Every lane's WRITE_POS as last read. -/
def writePositions (s : State) : Tab Nat := (laneList s).map (fun l => (l.1, l.2.writePos))

/-- Has every lane's DURABLE_POS reached the given positions? -/
def lanesReached (s : State) (ts : Tab Nat) : Bool := ts.all (fun t => decide (t.2 ≤ (laneOf s t.1).durable))

/-- Put the seals published since the last tick in line, in ascending lane and slot order, then those the firmware built
(R514). -/
def lineSeals (s : State) : State :=
  let ts := writePositions s
  let new := (laneList s).flatMap (fun l =>
    List.replicate (l.2.sealWrite - l.2.sealLined) { lane := l.1, built := none, targets := ts : SealWait })
  let fw := s.ev.built.map (fun b => { built := some b, targets := ts : SealWait })
  updEv (fun e => { e with
    seals := e.seals ++ new ++ fw, built := []
    lanes := e.lanes.map (fun l => (l.1, { l.2 with sealLined := l.2.sealWrite })) }) s

/-- E: the sum over all lanes of WRITE_POS − DURABLE_POS (09_evidence_path.md, Exposure budget). -/
def exposureNow (s : State) : Nat := (laneList s).foldl (fun a l => a + (l.2.writePos - l.2.durable)) 0

/-- The reams that open with this tick take its PTP time as their PTP_START (R507). -/
def startReams (s : State) : State :=
  updEv (fun e => { e with reamStarts := [] })
    (s.ev.reamStarts.foldl (fun a c => ctxWrite c 214 (ptpBytes s.sh.tickTime) a) s)

/-- What the store engine does at a tick: it publishes whatever state the path is in, once it has been told where (R477, R492, R496,
R514, R516; log entry 128). -/
def evidenceTick (s : State) : State :=
  let s := startReams (noteSecond s)
  let s := if s.ev.configured || evActive s then publishTick s else s
  if evActive s then
    let s := lineSeals (readLanes s)
    let s := updEv (fun e => { e with
      exposure := exposureNow s, marks := e.marks ++ [(s.sh.sheet, largestWindow s, writePositions s)] }) s
    if s.ev.xoff then count .evidence 0 14 1 s else s
  else s

/-! ### The store -/

/-- The store's regions (Table 9.6), which the firmware lays out in the table's order (log entry 30). -/
def sealLba : Nat := 2
def headerLba (x : StoreSet) : Nat := 2 + x.sealRows
def shardLba (x : StoreSet) : Nat := 2 + x.sealRows + x.rows

/-- CAP of R499. -/
def storeCap (x : StoreSet) : Nat := x.n * x.rows / (x.k + x.m)

/-- Failed members of the set. -/
def failedCount (s : State) (x : StoreSet) : Nat := ((List.range x.n).filter (fun i => (memberOf s i).failed)).length

/-- CRC-16 T10-DIF of a block (Table 9.9). -/
def crc16 (bs : List Byte) : BitVec 16 :=
  bs.foldl (fun (c : BitVec 16) (b : Byte) => (List.range 8).foldl (fun (c : BitVec 16) _ =>
    if c.getLsbD 15 then (c <<< (1 : Nat)) ^^^ 0x8BB7 else c <<< (1 : Nat)) (c ^^^ ((b.setWidth 16 : BitVec 16) <<< (8 : Nat)))) 0

/-- A 4 KiB structure closed by its CRC-32C. -/
def closeBlock (bs : List Byte) : List Byte :=
  let b := bs ++ zeros (4092 - bs.length)
  b ++ beBytes 4 (crc32c b)

/-- Issue a write to a member that has not failed (Table 9.9); once a Flush of step 6 has ended in error, nothing is written any more
(R521). -/
def issueWrite (mem block tag : Nat) (item : StoreItem) (data : List Byte) (s : State) : State :=
  let x := memberOf s mem
  if x.failed || (s.ev.state == .powerFail && s.ev.flushBad) then s
  else updEv (fun e => { e with writes := e.writes ++ [{
    member := mem, block := block, data := data, item := item, fua := x.flags.getLsbD 0
    pi := if x.flags.getLsbD 1 then some (crc16 data, BitVec.ofNat 16 tag, BitVec.ofNat 32 block) else none }] }) s

/-- Count a write on counter `i` unless its member has failed, so that it is not issued (R505). -/
def countWrite (mem i : Nat) (s : State) : State := if (memberOf s mem).failed then s else count .evidence 0 i 1 s

/-- The store passes seven eighths of its stripes or its seal blocks, or stops (R501). -/
def noteHigh (bit used cap : Nat) (s : State) : State :=
  if 7 * cap ≤ 8 * used && !s.ev.high.getLsbD bit then
    raise 325 [] (setFlag 0x580 3 (updEv (fun e => { e with high := e.high ||| BitVec.ofNat 2 (2 ^ bit) }) s))
  else s
def noteStop (bit : Nat) (s : State) : State :=
  if s.ev.stop.getLsbD bit then s
  else raise 326 [] (setFlag 0x580 4 (updEv (fun e => { e with stop := e.stop ||| BitVec.ofNat 2 (2 ^ bit) }) s))

/-- The next unit of a mask that is not fenced, in turn (R494, R513). -/
def nextUnit (s : State) (mask base n turn : Nat) : Option Nat :=
  ((List.range n).map (fun i => (turn + 1 + i) % n)).find? (fun i => natBit mask i && !(unitOf s (base + i)).fenced)

/-! ### Stripes -/

/-- Is the oldest byte beyond a lane's last stripe old enough for the age rule (R493)? -/
def laneAged (s : State) (x : Lane) : Bool :=
  match x.ages.find? (fun a => decide (x.stripeEnd < a.1)) with
  | some a => decide (s.ev.stripeAge ≤ (s.sh.sheet - a.2).toNat)
  | none => false

/-- A port's read of `n` bytes of a lane's log from a position reaches DRAM. -/
def noteLaneRead (port : Nat) (x : Lane) (p n : Nat) (s : State) : State :=
  let size := 2 ^ x.logShift
  let n1 := min n (size - p % size)
  noteAccess port false x.logBase (n - n1) (noteAccess port false (x.logBase + p % size) n1 s)

/-- Bytes of a lane's log from a position. -/
def laneBytes (s : State) (x : Lane) (p n : Nat) : List Byte :=
  let size := 2 ^ x.logShift
  let n1 := min n (size - p % size)
  dramBytes s (x.logBase + p % size) n1 ++ dramBytes s x.logBase (n - n1)

/-- Do bytes of a lane's log, which may run on at its beginning, touch a poisoned line? -/
def lanePoisoned (s : State) (x : Lane) (p n : Nat) : Bool :=
  let size := 2 ^ x.logShift
  let n1 := min n (size - p % size)
  dramPoisoned s (x.logBase + p % size) n1 || dramPoisoned s x.logBase (n - n1)

/-- The stripe header block (Table 9.8). -/
def stripeHeader (s : State) (x : StoreSet) (g lane miss pos valid : Nat) (shards : List (List Byte)) : List Byte :=
  closeBlock (beBytes 4 0x43445348 ++ beBytes 2 1 ++ beBytes 1 x.k ++ beBytes 1 x.m ++ beBytes 8 g ++ beBytes 1 lane ++ zeros 3 ++
    beBytes 4 miss ++ beBytes 8 pos ++ beBytes 4 valid ++ beBytes 6 s.sh.sheet.toNat ++ ptpBytes s.sh.tickTime ++ zeros 4 ++
    shards.flatMap (fun d => beBytes 4 (crc32c d)))

/-- Slot of shard `j` of stripe `g` (R499). -/
def shardSlot (x : StoreSet) (g j : Nat) : Nat := g % storeCap x * (x.k + x.m) + j

/-- The data shards of a stripe of `valid` bytes, read from the lane's log; the rest is zeros (R493). -/
def dataShards (s : State) (x : StoreSet) (l : Lane) (valid : Nat) : List (List Byte) :=
  let data := laneBytes s l l.stripeEnd valid ++ zeros (x.k * 4096 - valid)
  (List.range x.k).map (fun j => bytesAt data (4096 * j) 4096)

/-- Write a stripe of `valid` bytes of a lane (R493, R494, R499): the Stripe unit reads its data for the parity shards, and the store DMA
reads them again for the data shards (R587); a shard with a poisoned line is reported as it is
written (R594); bytes of a fenced channel are lost (R570). -/
def writeStripe (x : StoreSet) (n u valid : Nat) (s : State) : State :=
  let l := laneOf s n
  let g := s.ev.nextStripe
  let s := noteLaneRead 4 l l.stripeEnd valid s
  let parity := (List.range x.m).map (fun j => parityShard j (dataShards s x l valid))
  let s := noteLaneRead 5 l l.stripeEnd valid s
  let shards := dataShards s x l valid ++ parity
  let at' := fun j => (shardSlot x g j % x.n, shardSlot x g j / x.n)
  let miss := packNat ((List.range (x.k + x.m)).map (fun j => (b2n (memberOf s (at' j).1).failed, 1)))
  let hdr := stripeHeader s x g n miss l.stripeEnd valid shards
  let bad := (List.range x.k).filter (fun j => decide (4096 * j < valid) && !(memberOf s (at' j).1).failed &&
    lanePoisoned s l (l.stripeEnd + 4096 * j) (min 4096 (valid - 4096 * j)))
  let s := bad.foldl (fun a j => raise 495 [(n, 8), ((l.stripeEnd + 4096 * j) % 2 ^ 32, 32)] (bumpTotal 0x648 1 (setFlag 0x600 8 a))) s
  let s := (shards.zipIdx).foldl (fun a p =>
    issueWrite (at' p.2).1 (shardLba x + (at' p.2).2) g (.shard g p.2) p.1 (countWrite (at' p.2).1 3 a)) s
  let s := (List.range (x.m + 1)).foldl (fun a i =>
    issueWrite (at' i).1 (headerLba x + (at' i).2) g (.header g i) hdr (countWrite (at' i).1 4 a)) s
  let s := count .evidence 0 0 1 (count .unit (10 + u) 0 1 s)
  let s := if valid < x.k * 4096 then count .evidence 0 1 1 (count .evidence 0 2 (x.k * 4096 - valid) s) else s
  let s := if miss = 0 then s else count .evidence 0 13 1 s
  let stop := l.stripeEnd + valid
  let s := setLane n { l with stripeEnd := stop, ages := l.ages.filter (fun a => decide (stop < a.1)) } s
  let s := updEv (fun e => { e with
    nextStripe := g + 1, stTurn := u, stripes := tabPut e.stripes g { lane := n, start := l.stripeEnd, valid := valid } }) s
  noteHigh 0 (s.ev.nextStripe - s.ev.releasedStripe) (storeCap x) s

/-- Has the power-fail sequence come to its step 5? From then on no stripe is formed and no seal is taken (R521; log entry 161). -/
def pfClosed (s : State) : Bool :=
  match s.ev.pf with
  | .marker | .flush | .confirm => true
  | .idle | .items | .flushing => false

/-- Form one stripe from a lane when it may (R493, R501); `flush` forms it whatever its size and age. -/
def formStripe (n : Nat) (flush : Bool) (s : State) : State :=
  match s.ev.set with
  | none => s
  | some x =>
    let l := laneOf s n
    let avail := l.writePos - l.stripeEnd
    if !evActive s || pfClosed s || !l.configured || avail = 0 then s
    else if decide (x.k * 4096 ≤ avail) || laneAged s l || flush then
      if decide (storeCap x ≤ s.ev.nextStripe - s.ev.releasedStripe) then noteStop 0 s
      else if decide (x.m < failedCount s x) then s
      else match nextUnit s s.ev.stMask.toNat 10 4 s.ev.stTurn with
        | some u => writeStripe x n u (min avail (x.k * 4096)) s
        | none => s
    else s

/-- Form stripes from a lane until nothing is left beyond the last, at most `i` of them. -/
def flushLane : Nat → Nat → State → State
  | 0, _, s => s
  | i + 1, n, s => if (laneOf s n).stripeEnd < (laneOf s n).writePos then flushLane i n (formStripe n true s) else s

/-! ### Seals -/

/-- The seal log block of the records so far (Table 9.12). -/
def sealBlockBytes (s : State) : List Byte :=
  let rs := s.ev.sealRecords
  closeBlock (rs.flatten ++ zeros (3840 - 256 * rs.length) ++ beBytes 4 0x43445342 ++ beBytes 1 rs.length ++ zeros 3 ++
    beBytes 8 s.ev.sealBlock ++ beBytes 8 (s.ev.sealSeq - rs.length))

/-- Write the seal log block of the newest record to its members (R500). -/
def writeSealBlock (x : StoreSet) (s : State) : State :=
  let b := s.ev.sealBlock
  let bs := sealBlockBytes s
  (List.range (x.m + 1)).foldl (fun a i =>
    issueWrite ((b + i) % x.n) (sealLba + b % x.sealRows) b (.seal (s.ev.sealSeq - 1)) bs a) s

/-- Seal log blocks in use: written, also in part, and not released (R501). -/
def sealUsed (s : State) : Nat :=
  (if s.ev.sealRecords.isEmpty then s.ev.sealBlock else s.ev.sealBlock + 1) - s.ev.releasedSeal

/-- Append a record to the seal log (R500, R514). -/
def appendRecord (x : StoreSet) (r : List Byte) (s : State) : State :=
  let full := decide (15 ≤ s.ev.sealRecords.length)
  let s := updEv (fun e => { e with
    sealBlock := if full then e.sealBlock + 1 else e.sealBlock
    sealRecords := if full then [r] else e.sealRecords ++ [r]
    sealSeq := e.sealSeq + 1 }) s
  noteHigh 1 (sealUsed s) x.sealRows (writeSealBlock x s)

/-- The block the next record goes to. -/
def nextRecordBlock (s : State) : Nat :=
  if s.ev.sealRecords.length < 15 then s.ev.sealBlock else s.ev.sealBlock + 1

/-- A signature over 192 bytes with a signing slot; an open value when the slot holds no signing key (log entry 31). -/
def signRecord (slot : Nat) (body : List Byte) (s : State) : List Byte × State :=
  match signKey s slot with
  | some k => (edSign k body, s)
  | none => (leBytes 64 (freeNow s), drawFree s)

/-- Did something recorded in a list of sheets happen within a ream? -/
def within (l : List Sheet) (first last : Nat) : Bool := l.any (fun x => decide (first ≤ x.toNat) && decide (x.toNat ≤ last))

/-- Did a ream overlap a span of D2 or D3 attach (R716)? -/
def underDebug (s : State) (first last : Nat) : Bool :=
  s.ev.d2Spans.any (fun x => decide (x.1.toNat ≤ last) && decide (first ≤ x.2.toNat)) ||
    (match s.ev.d2From with | some a => decide (a.toNat ≤ last) | none => false)

/-- Has the tick opening a sheet written its entry of the tick log, and does the entry still stand there (R477)? -/
def tickLogged (s : State) (sheet : Nat) : Bool :=
  let ago := (s.sh.sheet - BitVec.ofNat 48 sheet).toNat
  decide (ago < 2 ^ 21) && !(s.sh.tickOwed && decide (ago = 0))

/-- PTP_END: the time in the tick-log entry of the sheet after LAST_SHEET; where that tick has not come, or its entry is gone, it is open
(Table 9.10; log entry 143). -/
def ptpEnd (s : State) (last : Nat) : List Byte :=
  if tickLogged s (last + 1) then dramBytes s (s.ev.tickBase + 16 * ((last + 1) % 2 ^ 21) + 6) 10 else leBytes 10 (freeNow s / 2)

/-- The engine's fields of a seal, unsigned: bytes 0 to 191 (Table 9.10, R511, R513). KEY_ROLLOVER is open where the stream's previous
seal is not known to the device (log entry 129). -/
def sealBody (s : State) (x : Stream) (b : List Byte) : List Byte :=
  let first := beNat (bytesAt b 24 6)
  let last := beNat (bytesAt b 30 6)
  let flags := beNat (bytesAt b 6 2) ||| (packNat [(b2n x.first, 1), (0, 1), (b2n (underDebug s first last), 1),
    (b2n (within s.ev.furnishSheets first last), 1),
    (b2n (match x.prevKey with | some k => k != x.keyId | none => !x.first && natBit (freeNow s) 0), 1)])
  bytesAt b 0 6 ++ beBytes 2 flags ++ bytesAt b 8 8 ++ beBytes 8 s.ev.sealSeq ++ bytesAt b 24 22 ++
    ptpEnd s last ++ bytesAt b 56 100 ++
    (if x.first then zeros 32 else (x.prevSeal ++ zeros 32).take 32) ++ beBytes 4 x.keyId.toNat

/-- Sign a seal with a signature unit and write it to the seal log (R513, R514). -/
def sealStream (set : StoreSet) (c u : Nat) (x : Stream) (b : List Byte) (s : State) : State :=
  let body := sealBody s x b
  let s := noteAccess 5 false (s.ev.tickBase + 16 * ((beNat (bytesAt b 30 6) + 1) % 2 ^ 21)) 16 s
  let r := signRecord x.slot body (drawFree s)
  let rec' := body ++ r.1
  let ream := BitVec.ofNat 32 (beNat (bytesAt b 12 4))
  let s := appendRecord set rec' (count .unit (8 + u) 0 1 r.2)
  let s := setStream c { x with ream := ream, prevSeal := sha256 rec', prevKey := some x.keyId, first := false } s
  updEv (fun e => { e with
    sgTurn := u, pfSeals := if e.pf = .idle then e.pfSeals else e.pfSeals + 1
    sealsOut := e.sealsOut ++ [{ seq := e.sealSeq - 1, ctx := some c, ream := ream, hash := sha256 rec' }] }) s

/-- The store engine refuses a seal (R512). -/
def refuseSeal (s : State) : State := raise 327 [] (count .evidence 0 7 1 (setFlag 0x580 6 s))

/-- Take a lane's next seal slot and tell the lane (Table 9.5). -/
def takeSlot (n : Nat) (s : State) : State :=
  let l := laneOf s n
  let s := setLane n { l with sealTaken := l.sealTaken + 1 } s
  putField (laneCtl s n + 12) 4 ((l.sealTaken + 1) % 2 ^ 32) s

/-- Is a seal that of its stream, with the REAM that follows the previous seal's (R512)? -/
def sealFits (x : Stream) (b : List Byte) : Bool :=
  decide (beNat (bytesAt b 8 4) = x.streamId.toNat) && decide (beNat (bytesAt b 12 4) = (x.ream + 1).toNat)

/-- The body of a seal in line. -/
def waitingBody (s : State) (w : SealWait) : List Byte :=
  match w.built with
  | some (_, b) => b
  | none =>
    let l := laneOf s w.lane
    dramBytes s (l.sealBase + 256 * (l.sealTaken % 2 ^ l.sealShift)) 256

/-- Is PTP_END of a seal known: has the tick come that ends its LAST_SHEET, and written its entry of the tick log, where that tick is the
present sheet's own or the one that ends it (R477, R513; log entry 143)? -/
def sealRipe (s : State) (w : SealWait) : Bool :=
  let last := BitVec.ofNat 48 (beNat (bytesAt (waitingBody s w) 30 6))
  !ticking s || !(last == s.sh.sheet || (s.sh.tickOwed && last + 1 == s.sh.sheet))

/-- Take the seal at the front of the line (R512-R514). A context was open when the firmware built its seal (log entry 130). -/
def takeSeal (set : StoreSet) (u : Nat) (w : SealWait) (s : State) : State :=
  let s := updEv (fun e => { e with seals := e.seals.drop 1 }) s
  match w.built with
  | some (c, b) => match tabFind s.ev.streams c with
    | some x => if sealFits x b then sealStream set c u x b (count .evidence 0 6 1 s) else refuseSeal s
    | none => refuseSeal s
  | none =>
    let b := waitingBody s w
    let l := laneOf s w.lane
    let s := noteAccess 5 false (l.sealBase + 256 * (l.sealTaken % 2 ^ l.sealShift)) 256 s
    let c := beNat (bytesAt b 192 2)
    let s := takeSlot w.lane s
    match streamOf s c with
    | some x => if sealFits x b then sealStream set c u x b (count .evidence 0 6 1 s) else refuseSeal s
    | none => refuseSeal s

/-! ### Completions -/

/-- Has every write of a kind completed or been given up? -/
def writesDone (s : State) (p : StoreItem → Bool) : Bool := s.ev.writes.all (fun w => !p w.item)

/-- Is the item a shard or header of stripe `g`? -/
def ofStripe (g : Nat) (i : StoreItem) : Bool :=
  match i with | .shard h _ => h == g | .header h _ => h == g | _ => false

/-- Take durable stripes into their lanes' DURABLE_POS, at most `n` of them (R495). -/
def settleStripes : Nat → State → State
  | 0, s => s
  | n + 1, s =>
    match s.ev.stripes.find? (fun p => decide (p.2.start = (laneOf s p.2.lane).durable) && writesDone s (ofStripe p.1)) with
    | none => s
    | some (g, x) =>
      let l := laneOf s x.lane
      let s := setLane x.lane { l with durable := x.start + x.valid } (count .evidence 0 5 x.valid s)
      let s := updEv (fun e => { e with stripes := tabErase e.stripes g }) s
      settleStripes n (putField (laneCtl s x.lane + 8) 4 ((x.start + x.valid) % 2 ^ 32) s)

/-- Deliver the work item of a commit route (R515, R517). -/
def commitItem (i src data : Nat) (s : State) : State :=
  let r := tabGet {} s.ev.routes i
  if r.enable then completionEvent
    { source := BitVec.ofNat 9 src, cls := r.cls, domain := r.domain, ctx := r.ctx, data0 := BitVec.ofNat 24 data, data1 := 0 } s
  else s

/-- A seal has become durable (R515). -/
def sealDurable (r : SealRecord) (s : State) : State :=
  match r.ctx with
  | none => s
  | some c =>
    let s := match tabFind s.ev.streams c with
      | some x => setStream c { x with durableReam := r.ream, sealHash := r.hash } s
      | none => s
    commitItem 1 322 c s

/-- Take durable seals out of the list (R515). -/
def settleSeals (s : State) : State :=
  let done := s.ev.sealsOut.filter (fun r => writesDone s (fun i => i == .seal r.seq))
  done.foldl (fun a r => sealDurable r a)
    (updEv (fun e => { e with sealsOut := e.sealsOut.filter (fun r => !(writesDone s (fun i => i == .seal r.seq))) }) s)

/-- Fail a member: its writes are given up (R505). -/
def failMember (i : Nat) (s : State) : State :=
  if (memberOf s i).failed then s
  else
    let s := updEv (fun e => { e with
      members := tabSet {} e.members i { memberOf s i with failed := true }, writes := e.writes.filter (fun w => w.member != i) }) s
    let s := raise 329 [] (setFlag 0x580 5 s)
    match s.ev.set with
    | some x => if decide (x.m < failedCount s x) then noteStop 1 (noteStop 0 s) else s
    | none => s

/-- A member answers with an error completion (R505, event source 328). -/
def memberError (i : Nat) (status : BitVec 16) (s : State) : State :=
  failMember i (raise 328 [((memberOf s i).ctrl, 8), (status.toNat, 16)] (count .evidence 0 11 1 s))
/-- A command to a member has no completion within IO_TIMEOUT (R505). -/
def memberTimeout (i : Nat) (s : State) : State := failMember i (count .evidence 0 12 1 s)
/-- How a command to a member ends (R505). -/
def memberEnds (i : Nat) (e : StoreEnd) (s : State) : State :=
  match e with
  | .ok => s
  | .error status => memberError i status s
  | .timeout => memberTimeout i s

/-! ### Commit events (R516, R517) -/

/-- The marks that have been reached, from the front (R516). -/
def reachedMarks (s : State) : List (Sheet × Nat × Tab Nat) := s.ev.marks.takeWhile (fun m => lanesReached s m.2.2)

/-- D has moved to a new value: the commit report, once D is COMMIT_STEP sheets or more past the last one (R517). -/
def reportDurable (s : State) : State :=
  let past := (s.ev.durable - s.ev.lastReport).toNat
  if s.ev.commitStep ≤ past ∧ past < 2 ^ 47 then
    let s := raise 320 [] (setFlag 0x580 0 (updEv (fun e => { e with lastReport := e.durable }) s))
    commitItem 0 321 (s.ev.durable.toNat % 2 ^ 24) s
  else s

/-- D moves to that of the last tick whose recorded positions every lane has reached (R516, R517). -/
def advanceDurable (s : State) : State :=
  match (reachedMarks s).getLast? with
  | none => s
  | some (t, w, _) =>
    let s := updEv (fun e => { e with marks := e.marks.drop (reachedMarks s).length }) s
    if w + 5 ≤ t.toNat then reportDurable (updEv (fun e => { e with durable := t - BitVec.ofNat 48 (w + 5) }) s) else s

/-! ### The firmware's seal bodies and the power-fail sequence -/

/-- The seal body of a stream's ream, built from its context (R507, R510, R520): bytes 0 to 255. -/
def builtSeal (s : State) (c last flag : Nat) : List Byte :=
  let f := fun off n => ctxRead s c off n
  let n := fun off k => beNat (f off k)
  let gapn := n 198 1
  beBytes 4 0x43445253 ++ beBytes 2 1 ++ beBytes 2 (2 ^ flag + (if gapn = 9 then 32 else 0)) ++ f 128 4 ++ f 132 4 ++ zeros 8 ++
    f 136 6 ++ beBytes 6 last ++ f 214 10 ++ zeros 10 ++ f 144 4 ++ f 148 8 ++ f 164 8 ++
    beBytes 4 ((n 172 4 + 2 ^ 32 - n 180 4) + n 188 4) ++ beBytes 4 (n 176 4 + 2 ^ 32 - n 184 4) ++ f 192 4 ++ f 198 1 ++ zeros 3 ++
    f 96 32 ++ f 64 32 ++ zeros 36 ++ beBytes 2 c ++ zeros 62

/-- Open the stream's next ream in its context (R507). -/
def nextReam (c first : Nat) (s : State) : State :=
  let n := fun off k => beNat (ctxRead s c off k)
  let put := fun off k v (a : State) => ctxWrite c off (beBytes k v) a
  let s := put 132 4 (n 132 4 + 1) (put 136 6 first (put 144 4 0 (put 148 8 0 (put 164 8 (n 156 8) s))))
  let s := put 180 4 (n 172 4) (put 184 4 (n 176 4) (put 188 4 0 (put 192 4 0 (put 198 1 0 s))))
  if first % 2 ^ 48 = s.sh.sheet.toNat then ctxWrite c 214 (ptpBytes s.sh.tickTime) s
  else updEv (fun e => { e with reamStarts := e.reamStarts ++ [c] }) s

/-- Close a stream's ream for the program, its context checked as it is read (R579, R583): the built body joins the seals of the next tick
(R510, R520). -/
def closeReam (c last flag : Nat) (s : State) : State :=
  let s := checkCtx c 0 256 s
  let b := builtSeal s c last flag
  nextReam c (last + 1) (updEv (fun e => { e with built := e.built ++ [(c, b)] }) s)

/-- Contexts of the open streams. -/
def openStreams (s : State) : List Nat := (s.ev.streams.filter (fun p => p.2.isOpen)).map (·.1)

/-- The power-loss marker, unsigned (Table 9.13). -/
def markerBody (s : State) (unconfirmed : Bool) : List Byte :=
  beBytes 4 0x4344504C ++ beBytes 2 1 ++ beBytes 2 (b2n unconfirmed) ++ beBytes 8 s.ev.markerSeq ++ beBytes 6 s.ev.pfSheet.toNat ++
    ptpBytes s.ev.pfTime ++ beBytes 4 s.ev.pfSeals ++ beBytes 6 s.ev.durable.toNat ++ zeros 146 ++ beBytes 4 s.ev.powerKeyId.toNat

/-- The reserved units' locks are free again when the path no longer runs (R494; log entry 131). -/
def releaseUnits (s : State) : State :=
  (reservedUnits s).foldl (fun a u =>
    let owns := fun (b : State) => decide ((lockOf b (unitLock u)).owner.toNat = unitIdentity u) && !(unitOf b u).busy
    if owns a then
      let b := checkLock (unitLock u) a
      if owns b then freeLock (unitLock u) 0 b else b
    else a) s

/-- The power-fail sequence ends (R519, R521). -/
def pfEnd (s : State) : State :=
  raise 330 [] (setFlag 0x580 8 (releaseUnits (updEv (fun e => { e with state := .sealed, pf := .idle }) s)))

/-- Step 3 and 4 begin: the lanes are read and flushed, and the open reams are closed with POWER_LOSS (R520). -/
def pfFlush (s : State) : State :=
  let s := readLanes s
  let s := lineSeals ((openStreams s).foldl (fun a c => closeReam c s.sh.sheet.toNat 1 a) s)
  (laneList s).foldl (fun a l => flushLane ((l.2.writePos - l.2.stripeEnd) / 4096 + 1) l.1 a)
    (updEv (fun e => { e with pf := .flushing, exposure := exposureNow s }) s)

/-- Step 5: the power-loss marker joins the seal log with FLUSH_UNCONFIRMED = 1 (R521). -/
def pfMarker (x : StoreSet) (s : State) : State :=
  let s := updEv (fun e => { e with markerSeq := e.sealSeq, pf := .marker }) s
  let r := signRecord s.ev.powerSlot (markerBody s true) s
  appendRecord x (markerBody s true ++ r.1) (updEv (fun e => { e with marker := markerBody s true ++ r.1 }) r.2)

/-- Step 6a: the marker is signed again with FLUSH_UNCONFIRMED = 0 and its block rewritten (R521). -/
def pfConfirm (x : StoreSet) (s : State) : State :=
  let b := bytesAt s.ev.marker 0 6 ++ [0, 0] ++ bytesAt s.ev.marker 8 184
  let r := signRecord s.ev.powerSlot b s
  writeSealBlock x (updEv (fun e => { e with
    pf := .confirm, sealRecords := e.sealRecords.dropLast ++ [b ++ r.1] }) r.2)

/-- Has every member that has not failed completed its Flush? -/
def allFlushed (s : State) (x : StoreSet) : Bool :=
  (List.range x.n).all (fun i => (memberOf s i).failed || s.ev.flushed.contains i)

/-- One move of the power-fail sequence, when its step has ended. -/
def pfMove (s : State) : State :=
  match s.ev.pf, s.ev.set with
  | .items, _ =>
    if !s.disp.items.all (fun p => p.2.ended) then s
    else if s.ev.state = .powerFail then pfFlush s else updEv (fun e => { e with pf := .idle }) s
  | .flushing, none => pfEnd s
  | .flushing, some x =>
    if s.ev.stop != 0 || (s.ev.seals.isEmpty && s.ev.stripes.isEmpty && (laneList s).all (fun l => l.2.stripeEnd == l.2.writePos)) then
      if decide (x.sealRows ≤ nextRecordBlock s - s.ev.releasedSeal) then updEv (fun e => { e with pf := .flush }) (noteStop 1 s)
      else pfMarker x (advanceDurable s)
    else s
  | .marker, _ => if s.ev.writes.isEmpty then updEv (fun e => { e with pf := .flush, flushed := [] }) s else s
  | .flush, some x => if s.ev.flushBad || !allFlushed s x then s else if s.ev.marker.isEmpty then pfEnd s else pfConfirm x s
  | .confirm, _ => if s.ev.writes.isEmpty then pfEnd s else s
  | _, _ => s

/-- Let the power-fail sequence go as far as it can: it has six steps. -/
def pfRun (s : State) : State := pfMove (pfMove (pfMove (pfMove (pfMove (pfMove s)))))

/-- After writes have completed or been given up: stripes, seals and the power-fail sequence (R495, R515). -/
def afterWrites (s : State) : State := pfRun (settleSeals (settleStripes s.ev.stripes.length s))

/-- The evidence part of the power-fail sequence begins (R519). -/
def pfBegin (s : State) : State :=
  if s.ev.state != .running then s
  else pfRun (count .evidence 0 15 1 (updEv (fun e => { e with
    state := .powerFail, pf := .items, pfSheet := s.sh.sheet, pfTime := s.sh.tickTime, pfSeals := 0, flushed := []
    flushBad := false, marker := [] }) s))

/-! ### The key table -/

/-- The superblock of a member (Table 9.7). -/
def superblock (s : State) (x : StoreSet) (i seq : Nat) : List Byte :=
  let keys := (List.range 8).flatMap (fun k => match signKey s k with
    | some sk => beBytes 4 (keySlot s k).keyId.toNat ++ beBytes 4 1 ++ edPublic sk
    | none => zeros 40)
  closeBlock (beBytes 4 0x43445355 ++ beBytes 2 1 ++ zeros 2 ++ x.setId ++ beBytes 8 seq ++ beBytes 1 i ++ beBytes 1 x.n ++
    beBytes 1 x.k ++ beBytes 1 x.m ++ zeros 4 ++ beBytes 8 x.rows ++ beBytes 8 x.sealRows ++ beBytes 8 sealLba ++
    beBytes 8 (headerLba x) ++ beBytes 8 (shardLba x) ++ ptpBytes x.created ++ zeros 6 ++ keys)

/-- Write the superblock copy of a key-table change to every member (R502). -/
def rewriteSupers (s : State) : State :=
  match s.ev.set with
  | none => s
  | some x =>
    let y := { x with superSeq := x.superSeq + 1 }
    (List.range x.n).foldl (fun a i => issueWrite i (y.superSeq % 2) 0 .super (superblock a y i y.superSeq) a)
      (updEv (fun e => { e with set := some y }) s)

/-! ### Happenings -/

/-- STRIPE_FORM: the store engine forms a stripe from a lane by size or age (R493, R494, R499, R501). -/
def execStripeForm (lane : BitVec 6) (s : State) : Res := .next (formStripe lane.toNat false s)

/-- DURABLE_ADVANCE: D advances when every lane has reached the positions recorded at a tick (R516, R517). -/
def execDurableAdvance (s : State) : Res := .next (advanceDurable s)

/-- Owners 8p + c of line ports with c in EVIDENCE_CLASSES (R496). -/
def exposureOwners (s : State) : List Nat := (List.range 32).filter (fun o => s.ev.classes.getLsbD (o % 8))

/-- The subports on which PFC is asserted as exposure back-pressure begins (R183, R496), and their end with it. -/
def exposurePfc (on : Bool) (s : State) : State :=
  (exposureOwners s).foldl (fun a o => { a with cab := { a.cab with
    pfcOn := tabUpd 0 a.cab.pfcOn o (fun m => if on then m ||| ownerSubports a o else if (ownerUse a o).xoff then m else 0) } }) s

/-- Exposure back-pressure ends: PFC and credits are released (R496). -/
def endExposure (s : State) : State :=
  if s.ev.xoff then raise 324 [] (returnCredits 5 (exposurePfc false (updEv (fun e => { e with xoff := false }) s))) else s

/-- EXPOSURE_XOFF: exposure back-pressure begins or ends by the E of the last tick (R496). -/
def execExposureXoff (s : State) : Res :=
  let b := s.ev.budget * 2 ^ 20
  .next (
    if !s.ev.xoff && evActive s && decide (b ≤ s.ev.exposure) then
      raise 324 [] (setFlag 0x580 2 (exposurePfc true (updEv (fun e => { e with xoff := true }) s)))
    else if s.ev.xoff && decide (8 * s.ev.exposure ≤ 7 * b) then endExposure s
    else s)

end Sys2Proof.Machine
end

