-- ==== Sys2Proof/Machine/DramOps.lean ====
section
/-!
DEFINITION. The DRAM controllers' happenings: training, errors and the storm test, fencing with the rebuild of spill
structures, refresh, scrub, self-refresh and panic (10_dram_subsystem.md).
-/
namespace Sys2Proof.Machine

/-- Change the DRAM state. -/
def updDram (f : Dram → Dram) (s : State) : State := { s with dram := f s.dram }

/-- The populated channels, ascending. -/
def populated (s : State) : List Nat := match s.dram.population with | some p => maskList 8 p.channels.toNat | none => []

/-- Does channel `c` hold saved settings that fit the population and timing table (R529, R532)? -/
def settingsFit (s : State) (c : Nat) : Bool :=
  match (chanState s c).saved, s.dram.population with
  | some v, some p => decide (v = (p, s.dram.timing))
  | _, _ => false

/-- Is channel `c` trained: its settings fit, and it has been trained since its last fence (R566, R574)? -/
def chanTrained (s : State) (c : Nat) : Bool := settingsFit s c && !(chanState s c).retrain

/-! ### Fencing -/

/-- Spill cells of a handle whose lines lie on a channel: their 64-byte lines of packet space. -/
def lostLines (s : State) (c : Nat) (h : Handle) : BitVec 256 :=
  h.cells.foldl (fun m q =>
    (List.range 4).foldl (fun m i =>
      if onChannel s c (q.2.2 + 64 * i) 64 then m ||| BitVec.ofNat 256 (2 ^ (4 * q.1 + i)) else m) m) 0

/-- Spilled frames lose the lines of their cells that lie on a newly fenced channel (R565). -/
def loseSpilled (c : Nat) (s : State) : State :=
  { s with cab := { s.cab with handles := s.cab.handles.map (fun p =>
    if p.2.spilled then (p.1, { p.2 with lost := p.2.lost ||| lostLines s c p.2 }) else p) } }

/-- Mark the spill cells of group `g` that are in use as cells of a retired region (R567). -/
def retireCells (g : Nat) (s : State) : State :=
  { s with cab := { s.cab with handles := s.cab.handles.map (fun p =>
    if p.2.spilled then (p.1, { p.2 with cells := p.2.cells.map (fun q =>
      if q.2.1 / 2 ^ 32 = g ∧ ¬ natBit q.2.1 31 then (q.1, (q.2.1 + 2 ^ 31, q.2.2)) else q) }) else p) } }

/-- Take `n` bytes of a spare area that has no line on a fenced channel: its address (R568). -/
def takeSpare (n : Nat) (s : State) : Option (Nat × State) :=
  let area := fun i => s.dram.spare.getD i (0, 0)
  let used := fun i => s.dram.spareUsed.getD i 0
  match (List.range 2).find? (fun i =>
    (s.dram.chans.filter (fun c => c.2.fenced)).all (fun c => !onChannel s c.1 (area i).1 (area i).2) && decide (0 < n) &&
      decide (used i + n ≤ (area i).2)) with
  | some i => some ((area i).1 + used i, updDram (fun d => { d with spareUsed := d.spareUsed.set i (used i + n) }) s)
  | none => none

/-- The Vat cells of group `g` that no handle holds: what its on-chip allocation map says is free (R567); none before CABINET_INIT
(R210). -/
def freeVat (s : State) (g : Nat) : List Nat :=
  let x := groupOf s g
  if !x.filled then [] else
  let held := s.cab.handles.flatMap (fun p =>
    if p.2.spilled then [] else (p.2.cells.filter (fun q => q.2.1 / 2 ^ 32 == g)).map (fun q => q.2.1 % 2 ^ 32))
  ((List.range x.cells).map (x.firstCell + ·)).filter (fun c => !held.contains c)

/-- Round up to 4 KiB. -/
def page (n : Nat) : Nat := (n + 4095) / 4096 * 4096

/-- Write the entries of a rebuilt ring (R568). -/
def ringFill (g base : Nat) (spill : Bool) (cells : List Nat) (s : State) : State :=
  dramWrite 1 base (cells.flatMap (fun k => ringEntry g k spill)) false s

/-- The firmware rebuilds a retired group's spill region and ring in a spare area (R568). SPILL_LOST is the Cabinet's device counter 6,
which no table lists (log entry 166). -/
def rebuildSpill (g : Nat) (s : State) : State :=
  let x := groupOf s g
  let none' := fun (a : State) => setGroup g { x with spillCells := 0, spillCache := [], spillHead := 0, spillCount := 0, spillEntries := 0 } a
  match takeSpare (page (256 * x.spillCells) + page (4 * x.spillEntries)) s with
  | none => if x.spillCells = 0 then none' s else none' (count .cabinet 0 6 1 s)
  | some (a, s) =>
    let ring := a + page (256 * x.spillCells)
    let n := if x.filled then x.spillCells else 0
    ringFill g ring true (List.range n) (setGroup g { x with
      spillBase := a, spillRing := ring, spillCache := [], spillHead := 0, spillCount := n } s)

/-- The Cabinet rebuilds a group's Vat ring from its allocation map: in a spare area when one fits, else it holds the
free cells on chip (R567, R568, log entry 33). -/
def rebuildVat (g : Nat) (s : State) : State :=
  let x := groupOf s g
  let free := (freeVat s g).filter (fun k => !x.vatCache.contains k)
  match takeSpare (page (4 * x.vatEntries)) s with
  | none => setGroup g { x with vatCache := x.vatCache ++ free, vatHead := 0, vatCount := 0 } s
  | some (a, s) => ringFill g a false free (setGroup g { x with vatRing := a, vatHead := 0, vatCount := free.length } s)

/-- What a fence does to one drawer group (R567, R568). -/
def fenceGroup (c : Nat) (s : State) (g : Nat) : State :=
  let x := groupOf s g
  let spill := decide (0 < x.spillCells) && (onChannel s c x.spillBase (256 * x.spillCells) || onChannel s c x.spillRing (4 * x.spillEntries))
  let s := if spill then rebuildSpill g (retireCells g s) else s
  if decide (0 < x.vatEntries) && onChannel s c x.vatRing (4 * x.vatEntries) then rebuildVat g s else s

/-- Lane log bytes between DURABLE_POS and WRITE_POS on a fenced channel are reported (R570). -/
def reportLost (c : Nat) (s : State) : State :=
  (laneList s).foldl (fun a l =>
    let size := 2 ^ l.2.logShift
    let p := l.2.durable % size
    let n := l.2.writePos - l.2.durable
    let n1 := min n (size - p)
    if onChannel s c (l.2.logBase + p) n1 || onChannel s c l.2.logBase (n - n1) then
      raise 420 [(l.1, 8), (l.2.durable % 2 ^ 32, 32), (l.2.writePos % 2 ^ 32, 32)] (setFlag 0x5C0 7 a)
    else a) s

/-- Fence a channel: cause 0 storm, 1 training, 2 command (R565-R570). -/
def fenceChannel (c cause : Nat) (s : State) : State :=
  if (chanState s c).fenced then s
  else
    let s := resumeWaits c (setChanState c { chanState s c with fenced := true, subA := {}, subB := {}, owed := [] } s)
    let s := loseSpilled c s
    let s := (List.range 8).foldl (fenceGroup c) s
    reportLost c (raise (392 + c) [(cause, 8)] (setFlag 0x5C0 6 s))

/-! ### Training -/

/-- A training step of a channel failed: the event and the fence (R531). -/
def trainFail (c step : Nat) (s : State) : State :=
  fenceChannel c 1 (raise (400 + c) [(step, 8)] (setFlag 0x5C0 0 s))

/-- The outcome of a full training whose failing step is `step`, 0 for none (R529, R531); its first step releases DDRn_RESET_N, which the
controller drives from then on (Table 13.3). -/
def fullTraining (c step : Nat) (s : State) : State :=
  let s := { s with pow := { s.pow with ddrHigh := s.pow.ddrHigh ||| BitVec.ofNat 8 (2 ^ c) } }
  if step = 0 then
    match s.dram.population with
    | some p => setChanState c { chanState s c with saved := some (p, s.dram.timing), retrain := false } s
    | none => s
  else trainFail c (min step 6) s

/-- The outcome of a restore training: one full training follows a failed verification (R530, R564). -/
def restoreTraining (c : Nat) (verify : Bool) (step : Nat) (s : State) : State :=
  if verify then setChanState c { chanState s c with retrain := false } s else fullTraining c step s

/-! ### Errors -/

/-- Count a correctable error of a channel (R552, R557). -/
def noteCorrectable (c : Nat) (s : State) : State :=
  let x := chanState s c
  let s := chanCount c 7 1 s
  if s.dram.ceLimit ≤ x.ceSince + 1 then
    raise (411 + c) [] (setFlag 0x5C0 3 (setChanState c { x with ceSince := 0 } s))
  else setChanState c { x with ceSince := x.ceSince + 1 } s

/-- The sheets of a channel's uncorrectable lines within STORM_SHEETS of the present one, with one more (Channel fencing). -/
def stormSheets (s : State) (c : Nat) : List Sheet :=
  (chanState s c).ueSheets.filter (fun x => decide ((s.sh.sheet - x).toNat < s.dram.stormSheets)) ++ [s.sh.sheet]

/-- An uncorrectable line of a channel at a device address, the line already poisoned: counts, log, events and the storm test (R553, R557). -/
def reportUncorrectable (c address kind : Nat) (s : State) : State :=
  let s := logDramError address c kind (chanCount c 8 1 (setFlag 0x5C0 4 s))
  let s := raiseFirst (384 + c) 0 [(address, 40)] s
  let l := stormSheets s c
  let s := setChanState c { chanState s c with ueSheets := l } s
  if s.dram.ueLimit ≤ l.length then fenceChannel c 0 (setFlag 0x5C0 5 s) else s

/-- An uncorrectable line of a channel is written back poisoned and reported (R553). -/
def noteUncorrectable (c line kind : Nat) (s : State) : State :=
  reportUncorrectable c (64 * line) kind { s with dram := { s.dram with poison := tabSet false s.dram.poison line true } }

/-- An uncorrectable line that no range covers, by its channel line number: it is poisoned as every other; the device address that the log
and the event give has no value in the spec (R553, R558; log entry 167). -/
def noteDarkLine (c line : Nat) (s : State) : State :=
  let x := chanState s c
  reportUncorrectable c (freeNow s % 2 ^ 40) 1 (drawFree (setChanState c { x with darkPoison := line :: x.darkPoison } s))

/-- A line read that meets an error (R552-R554). -/
def readLine (c line kind : Nat) (e : LineError) (s : State) : State :=
  if linePoisoned s line then s
  else match e with
    | .none => s
    | .correctable => noteCorrectable c s
    | .uncorrectable => noteUncorrectable c line kind s

/-! ### Happenings -/

/-- Is a channel at work: populated, started, not in self-refresh? -/
def chanRuns (s : State) (c : Nat) : Bool := s.dram.started && (populated s).contains c && !(chanState s c).selfRefresh

/-- The rank, or in same-bank mode the rank and bank index, that an operand names; none beyond the DIMM's (R548, R549). -/
def refreshKey (s : State) (index : Nat) : Option Nat :=
  match s.dram.population with
  | none => none
  | some p => if s.dram.refreshMode = 0 then (if index < p.ranks then some index else none)
    else if index < 4 * p.ranks then some (8 + index) else none

/-- Are requests queued at a controller (R550)? -/
def refreshBusy (s : State) (c : Nat) : Bool := !((chanState s c).subA.queue ++ (chanState s c).subB.queue).isEmpty

/-- REFRESH: an interval ends for a rank or bank index, and its refresh is owed. The controller may postpone it while requests are queued
and fewer than 4 are owed; else it issues every refresh owed (R548-R550). One of which 4 are postponed is due, and comes
before any request (R542). -/
def execRefreshIssue (turn : RefreshTurn) (s : State) : Res :=
  let c := turn.channel.toNat
  .next (match refreshKey s turn.index.toNat with
    | none => s
    | some k =>
      if !chanServes s c then s
      else
        let x := chanState s c
        let s := setChanState c { x with owed := tabUpd 0 x.owed k (· + 1) } s
        if turn.postpone && refreshBusy s c && decide (tabGet 0 x.owed k < 4) then s else issueRefresh c k s)

/-- ZQ_CALIBRATION: it changes nothing a command can see, on a channel that runs or not (R551). -/
def execZqCalibration (_channel : BitVec 3) (s : State) : Res := .next s

/-- Lines of a channel's DIMM (Table 10.1). -/
def dimmLines (p : Population) : Nat := p.ranks * 2 * (32 / p.width) * p.density * 2 ^ 30 / 8 / 64

/-- A scrub read of a channel address yields to every other request of its bank (R559). -/
def scrubTurn (p : Population) (c x : Nat) (s : State) : State :=
  let d := dramDecode p x
  runSub c d.subchannel (fun q => !q.queue.any (fun r => r.rank == d.rank && r.group == d.group && r.bank == d.bank)) s

/-- PATROL_SCRUB: one scrub read of a channel, after the other requests of its bank (R558, R559). -/
def execPatrolScrub (channel : BitVec 3) (error : LineError) (s : State) : Res :=
  let c := channel.toNat
  .next (match s.dram.population with
    | none => s
    | some p =>
      if !chanRuns s c || s.dram.scrubHours = 0 || (chanState s c).fenced then s
      else
        let x := (chanState s c).scrubPos
        let s := setChanState c { chanState s c with scrubPos := (x + 1) % dimmLines p } (chanCount c 10 1 s)
        let s := scrubTurn p c (64 * x) s
        let s := match dramDevice s c (64 * x) with
          | some a => readLine c (a / 64) 1 error (serveLine 8 (a / 64) (sendRequest 8 false (a / 64) s))
          | none =>
            if (chanState s c).darkPoison.contains x then s
            else match error with | .correctable => noteCorrectable c s | .uncorrectable => noteDarkLine c x s | .none => s
        if x + 1 = dimmLines p then raise 419 [] s else s)

/-- DRAM serves a request: the pause of a wake from S1a ends (R687). -/
def endWakePause (s : State) : State := { s with pow := { s.pow with waking := false } }

/-- DRAM_READ: a requester's read of one line (R552-R557, R561, R565). -/
def execDramRead (address : BitVec 40) (error : LineError) (s : State) : Res :=
  .next (match dramPlace s address.toNat with
    | none => s
    | some (c, _) =>
      whenAwake [(address.toNat, 1)] (fun s =>
        if !s.dram.started then s else
        let s := serveLine 7 (address.toNat / 64) (noteLine 7 false (address.toNat / 64) 64 s)
        let s := endWakePause s
        if (chanState s c).fenced then s else readLine c (address.toNat / 64) 0 error s) s)

/-- Die temperature in 1/16 °C as the thermal monitor last saw it (R755). -/
def dieTemp (s : State) : Int := s.pow.temp

/-- May the controllers rest: in S1a or S1b, in S2, before an L3 reset, or at a thermal trip (R560, R758)? -/
def mayRest (s : State) : Bool :=
  s.pow.current == .s1a || s.pow.current == .s1b || (s.pow.current == .s2 && s.ev.pf == .idle) || s.pow.tripped

/-- Is a refill wanted: does a queued copy name a spilled frame not yet wholly refilled (R213, R546)? -/
def refillWanted (s : State) : Bool :=
  s.cab.queues.any (fun q => q.2.any (fun c => (handleOf s (hIndex c.handle)).spilled && !c.refilled))

/-- The bytes of refill reads in flight (R546): how far ahead of REFILL_COMPLETE the engine reads is open, up to the wanted frames that the
buffer has room for (log entry 163). -/
def refillsInFlight (s : State) : Nat :=
  let wanted := s.cab.queues.flatMap (fun q => (q.2.filter (fun c => (handleOf s (hIndex c.handle)).spilled && !c.refilled)).map (·.len))
  freeNow s % (min (wanted.foldl (· + ·) 0) (2097152 - s.cab.prefetch) + 1)

/-- The fill level of the prefetch buffer (Priority refill port). -/
def fillLevel (s : State) : Nat := s.cab.prefetch + refillsInFlight s

/-- STATE of DRAM_STATE as channels enter or leave self-refresh (Table 10.9). -/
def noteRest (s : State) : State :=
  updDram (fun d => { d with stateCode := if (populated s).all (fun c => (chanState s c).selfRefresh) then 3 else 2 }) s

/-- A controller completes every queued request, precharges all rows, enters self-refresh and records the die temperature (R560). -/
def enterSelfRefresh (c : Nat) (s : State) : State :=
  if chanRuns s c then
    let s := emptyQueues c s
    let x := chanState s c
    let s := setChanState c { x with selfRefresh := true, waking := false, temp := dieTemp s, owed := []
                                     subA := { x.subA with rows := [] }, subB := { x.subB with rows := [] } } s
    raise 409 [] (noteRest s)
  else s

/-- SELF_REFRESH_ENTRY: in S1a, S1b, or at step 7 of the power-fail sequence (R560). -/
def execSelfRefreshEntry (channel : BitVec 3) (s : State) : Res :=
  .next (if mayRest s then enterSelfRefresh channel.toNat s else s)

/-- SELF_REFRESH_WAKE: a request reaching a controller in self-refresh begins its exit (R561, R562, R692). -/
def execSelfRefreshWake (channel : BitVec 3) (s : State) : Res := .next (wakeChan channel.toNat s)

/-- A controller leaves self-refresh, with a restore or a full training by the die temperature, and serves what waited (R561, R563, R564). -/
def leaveSelfRefresh (c : Nat) (verify : Bool) (step : Nat) (s : State) : State :=
  let x := chanState s c
  let s := raise 409 [] (noteRest (endWakePause (setChanState c { x with selfRefresh := false, waking := false } s)))
  resumeWaits c (if (dieTemp s - x.temp).natAbs ≤ 320 then restoreTraining c verify step s
    else fullTraining c step (raise 410 [] (setFlag 0x5C0 1 s)))

/-- SELF_REFRESH_EXIT: an exit that has begun completes (R563, R564). -/
def execSelfRefreshExit (channel : BitVec 3) (verify : Bool) (step : BitVec 3) (s : State) : Res :=
  let c := channel.toNat
  .next (if (chanState s c).selfRefresh && (chanState s c).waking && mayWake s then leaveSelfRefresh c verify step.toNat s else s)

/-- PANIC_CHANGE: panic begins or ends as the fill level crosses its thresholds, and ends at a level of 0, which disables it (R546). -/
def execPanicChange (s : State) : Res :=
  let d := s.dram
  let fill := fillLevel s
  let wanted := refillWanted s
  let s := drawFree s
  .next (
    if !d.panic && wanted && decide (fill < d.panicLevel * 4096) then
      raise 408 [] (setFlag 0x5C0 2 (updDram (fun d => { d with panic := true }) s))
    else if d.panic && (d.panicLevel == 0 || !wanted || decide ((d.panicLevel + d.panicHyst) * 4096 ≤ fill)) then
      raise 408 [] (updDram (fun d => { d with panic := false }) s)
    else s)

end Sys2Proof.Machine
end

