-- ==== Sys2Proof/Machine/LateOps.lean ====
section
/-!
DEFINITION. Late items: the deadline exception, the ceiling and its PFC (01_sheets_windows_and_furnish.md, Late items; R40-R51,
R94, R321, R322, R330, R777).
-/
namespace Sys2Proof.Machine

/-- A thread abandons its stall and takes a deadline exception: EPC, ECAUSE and FLAGS.HDL are set and the handler starts, once
every outstanding asynchronous lookup has landed (R41, R321, R322). -/
def enterHandler (t : Nat) (cause : BitVec 6) (s : State) : State :=
  let s := leaveWait t s
  walk (coreOf t) (updThr t (fun x => mendSpecials [16, 17] { x with
    st := if x.st = .stall then .ready else x.st, awaiting := awaitsLookups s t
    epc := x.pc, ecause := cause, hdl := true, pc := x.deadlinePc }) s)

/-- A thread takes TERMINATED and runs its handler without its item (R44, R321). -/
def takeTerminated (t : Nat) (s : State) : State :=
  enterHandler t 0x21 (updThr t (fun x => { x with item := none, terminated := true, handlerCount := 0, owed := 0 }) s)

/-- Is a thread in HALT, or bound to halt at its next boundary, where the fault comes before a deadline exception (R324, R330)? -/
def halted (x : Thread) : Bool := decide (x.st = .halt) || (match x.after with | .halt .. => true | _ => false)

/-- A frozen thread abandons its stall at the tick that makes its item late; the exception waits for its release (R41, R195, R723). -/
def abandonFrozen (t : Nat) (s : State) : State :=
  updThr t (fun x => { x with before := if x.before = .stall then .ready else x.before }) (leaveWait t s)

/-- A thread loses its item: its reserved slots are voided, its operations detached, and it takes TERMINATED, but a halted
thread stays in HALT and a frozen one takes it at its release (R40, R42, R44, R330, R723, R724). -/
def terminateThread (t : Nat) (s : State) : State :=
  let s := detachOps t (voidSlots t (checkHeld t s))
  if halted (thr s t) then updThr t (fun x => { x with item := none }) s
  else match (thr s t).st with
  | .frozen => updThr t (fun x => { x with item := none, owed := 1 }) (abandonFrozen t s)
  | _ => takeTerminated t s

/-- The thread of an item leaves it, when it is on one. -/
def terminateItem (x : Item) (s : State) : State :=
  match x.place with
  | .onThread t => terminateThread t s
  | _ => s

/-- Is the item subject to R45: a lossless item or an event? -/
def Item.hard (x : Item) : Bool := x.isEvent || x.lossless

/-- An ordinary item past its deadline is voided and counted; its thread takes TERMINATED (R43, R44, R777). -/
def lateOrdinary (k : Nat) (s : State) : State :=
  match itemOf s k with
  | none => s
  | some x =>
    if x.ended || x.hard || !overdue s x then s
    else admitEvents (voidItem k (lateDrop x (terminateItem x (setFlag 0x40C 4 s))))

/-- A lossless item or an event past its deadline freezes its domain; its thread takes DEADLINE (R45, R330, R777). -/
def lateLossless (k : Nat) (s : State) : State :=
  match itemOf s k with
  | none => s
  | some x =>
    if x.ended || !x.hard || x.late || !overdue s x then s
    else
      let s := setFlag 0x40C 4 (putItem k { x with late := true } s)
      match x.place with
      | .onThread t =>
        let s := voidSlots t (checkHeld t s)
        if halted (thr s t) then s
        else match (thr s t).st with
        | .frozen => updThr t (fun y => { y with owed := 2 }) (abandonFrozen t s)
        | _ => enterHandler t 0x20 s
      | _ => updItem k (fun y => { y with lateWaiting := true }) s

/-- Has the item's ceiling, sheet N + W + 4, closed (R49)? -/
def pastCeiling (s : State) (x : Item) : Bool :=
  decide ((s.sh.sheet - (x.arrival + BitVec.ofNat 48 (x.window + 4)) - 1).toNat < 2 ^ 47)

/-- PFC at a ceiling: XOFF for the item's class on the subport it arrived on (R51, R52, R94). -/
def ceilingPfc (x : Item) (s : State) : State :=
  let p := x.port.toNat
  if p < 4 && subPfc s (8 * p + x.subport) x.cls.toNat then
    let key := (8 * p + x.subport) * 8 + x.cls.toNat
    countLate x.port x.cls 3 (bumpTotal 0x41C 1
      { s with sh := { s.sh with
          ceilingXoff := tabPut s.sh.ceilingXoff key s.sh.sheet, xonDue := s.sh.xonDue.filter (· != key) } })
  else s

/-- An item still in flight at its ceiling is terminated, voided and counted lost (R49-R53, R330, R777; log entry 39). -/
def atCeiling (k : Nat) (s : State) : State :=
  match itemOf s k with
  | none => s
  | some x =>
    if x.ended || !x.hard || !x.late || !pastCeiling s x then s
    else
      let s := raise 6 [] (setFlag 0x40C 5 (terminateItem x s))
      admitEvents (ceilingPfc x (voidItem k (lateLoss x s)))

/-- Is a lossless domain with items from a port and class frozen (R51)? -/
def frozenFrom (s : State) (p c : Nat) : Bool :=
  s.disp.items.any (fun q => q.2.port.toNat == p && q.2.cls.toNat == c && domainFrozen s q.2.domain)

/-- The ceilings' XOFFs for which the sheet that a tick closes is a first whole sheet without a frozen domain, judged before the
tick's own late items (R51). -/
def xonReady (s : State) : List Nat :=
  (s.sh.ceilingXoff.filter (fun e =>
    !frozenFrom s (e.1 / 64) (e.1 % 8) && decide ((s.sh.sheet - e.2).toNat < 2 ^ 47))).map (·.1)

/-- XON of a port and class: the ceilings' XOFFs that are due end (R51). -/
def ceilingXon (port : BitVec 2) (cls : BitVec 3) (s : State) : State :=
  let due := s.sh.xonDue.filter (fun k => k / 64 == port.toNat && k % 8 == cls.toNat)
  { s with sh := { s.sh with
      ceilingXoff := s.sh.ceilingXoff.filter (fun e => !due.contains e.1), xonDue := s.sh.xonDue.filter (fun k => !due.contains k) } }

end Sys2Proof.Machine
end

