-- ==== Sys2Proof/Machine/FenceOps.lean ====
section
/-!
DEFINITION. Fences and resets of cores: their items, contexts, affinity, locks and threads (04_dispatch_and_resequencing.md, Fenced,
frozen and reset cores; 06_threads_and_dovetail.md, Table 6.6; R259-R262, R352, R727), and the offers of freed threads (R246, R247).
-/
namespace Sys2Proof.Machine

/-- Change the dispatcher's state. -/
def updDisp (f : Dispatch → Dispatch) (s : State) : State := { s with disp := f s.disp }

/-! ### Offers -/

/-- May a thread take an item: its core is allowed and it is free, eligible and no supervisor? -/
def mayTake (s : State) (t : Nat) (x : Item) : Bool := allowedCore s x.map (coreOf t) && threadFree s x.map t

/-- The first item of a list that satisfies a test. -/
def firstItem (s : State) (l : List Nat) (ok : Item → Bool) : Option (Nat × Item) :=
  l.findSome? (fun k => match itemOf s k with | some x => if ok x then some (k, x) else none | none => none)

/-- The item a freed thread is offered from the global lists: the oldest of the highest list that may use it (R246, R247). -/
def globalOffer (s : State) (t : Nat) : Option (Nat × Item) :=
  ((List.range 8).reverse).findSome? (fun p =>
    firstItem s (tabGet [] s.disp.globalLists p) (fun x => mayTake s t x && decide (0 < globalFree s x.map (coreOf t))))

/-- A free thread is offered the oldest item of its core's affinity list, then of the global lists (R246, R247). -/
def threadOffer (n : Nat) (s : State) : State :=
  match firstItem s (tabGet [] s.disp.affLists (coreOf n)) (mayTake s n) with
  | some (k, x) => deliver k n x (count .dispatch 0 2 1 (unlist k s))
  | none => match globalOffer s n with
    | some (k, x) => placeBy (globalFree s x.map) k x (unlist k s)
    | none => s

/-! ### Fences -/

/-- The item of a thread ends at a fence or a reset (R259). -/
def fenceItem (t : Nat) (s : State) : State :=
  match (thr s t).item with
  | none => s
  | some k => match itemOf s k with
    | none => s
    | some x => if x.ended then s else voidCounted k 12 (if x.hard then lateLoss x s else s)

/-- A thread of a fenced core: its locks are broken with cause 2, its slots voided, its wait left, its operations detached, and it is
free (R352, R727, Table 6.2). -/
def fenceThread (t : Nat) (s : State) : State :=
  let s := detachOps t (voidSlots t (loseLocks t 2 (leaveWait t (checkHeld t s))))
  updThr t (fun x => { x with st := .free, before := .free, item := none, terminated := false, owed := 0, after := .none, awaiting := false }) s

/-- Contexts resident in the caches of some cores. -/
def residentIn (s : State) (cs : List Nat) : List Nat :=
  (s.disp.resident.filter (fun p => decide (0 < p.2) && cs.contains (p.2 - 1))).map (·.1)

/-- A cached context at a fence: written back, or lost where its entry fails its check (R260, R583). -/
def fenceContext (c : Nat) (s : State) : State :=
  if s.disp.ctxBad.contains c || s.disp.ctxUe.any (fun k => k / 32 == c) then
    raise 193 [(c, 32)] (setFlag 0x480 4 (ctxDiscard c s))
  else ctxWriteBack c s

/-- Insert an item key in the order in which the items entered the dispatcher. -/
def byArrival (s : State) (k : Nat) : List Nat → List Nat
  | [] => [k]
  | j :: r =>
    let at' := fun i => match itemOf s i with | some x => x.order | none => 0
    if at' k < at' j then k :: j :: r else j :: byArrival s k r

/-- The affinity lists of some cores move to the global lists, oldest first (R261). -/
def moveAffinity (cs : List Nat) (s : State) : State :=
  let ks := (s.disp.affLists.filter (fun p => cs.contains p.1)).flatMap (·.2)
  let s := updDisp (fun d => { d with
    affinity := d.affinity.filter (fun p => !cs.contains (p.2 - 1)), affLists := d.affLists.filter (fun p => !cs.contains p.1) }) s
  (ks.foldl (fun l k => byArrival s k l) []).foldl (fun a k =>
    match itemOf a k with | some x => waitGlobal k x (wakeFor x.map a) | none => a) s

/-- Threads of some cores. -/
def coreThreads (cs : List Nat) : List Nat := cs.flatMap (fun n => (List.range 8).map (8 * n + ·))

/-- What a fence of a cluster and an L1 reset do to cores alike (R259-R262, R352). -/
def fenceCores (cs : List Nat) (s : State) : State :=
  let ts := coreThreads cs
  let s := ts.foldl (fun a t => fenceItem t a) (setFlag 0x480 3 s)
  let s := ts.foldl (fun a t => fenceThread t a) s
  let s := (residentIn s cs).foldl (fun a c => fenceContext c a) s
  moveAffinity cs s

/-- The cores of a cluster. -/
def clusterCores (k : Nat) : List Nat := (List.range 8).map (8 * k + ·)

/-- Supervisors among the threads of some cores stop (Table 6.2, R341). -/
def stopSupervisors (cs : List Nat) (s : State) : State :=
  (List.range 8).foldl (fun a k =>
    if cs.contains (coreOf (supervisorId a k)) then
      { a with cores := { a.cores with supervisors := tabUpd {} a.cores.supervisors k (fun v => { v with started := false }) } }
    else a) s

/-- A cluster is fenced (R259-R261, R352). -/
def fenceCluster (k : Nat) (s : State) : State :=
  let m := BitVec.ofNat 8 (2 ^ k)
  let s := stopSupervisors (clusterCores k) (fenceCores (clusterCores k) s)
  admitEvents (raise 194 [] (updDisp (fun d => { d with fenced := d.fenced ||| m, frozen := d.frozen &&& ~~~ m }) s))

/-- An L1 reset of cores (R262, R281, R352, Table 13.2). -/
def resetCores (cs : List Nat) (s : State) : State :=
  let s := stopSupervisors cs (fenceCores cs s)
  let s := (coreThreads cs).foldl (fun a t => dropHeld t (resetThread t 2 (checkHeld t a))) s
  admitEvents (cs.foldl (fun a n => { a with cores := { a.cores with
    dmem := tabClear a.cores.dmem (n * 32768) 32768
    dmemBad := a.cores.dmemBad.filter (fun w => w / 32768 != n)
    dmemWeak := a.cores.dmemWeak.filter (fun w => w / 32768 != n)
    slots := tabErase a.cores.slots n } }) s)

end Sys2Proof.Machine
end

