-- ==== Sys2Proof/Machine/HostInstr.lean ====
section
/-!
DEFINITION. Happenings on port H: mailbox starts, heads and tails, held completions, merged events, MSI-X, the exception rings'
waiting copies, and the management processor's instructions (12_host_port_and_mailboxes.md; R12, R516, R606, R609-R617, R622,
R626, R632, R635-R637, R646-R648, R652).
-/
namespace Sys2Proof.Machine

/-- Change port H. -/
def updHost (f : HostPort → HostPort) (s : State) : State := { s with host := f s.host }

/-- Does port H answer memory requests: not in D3hot, in a host-interface reset, while an L3 or L4 reset is held, or stopped by R758 (R605,
R676)? -/
def hostOpen (s : State) : Bool := !s.host.d3hot && !s.pow.tripped && !s.pow.held.getLsbD 6 && !inReset s

/-! ### Mailboxes -/

/-- One bit of a write to MBX_GO (R615, R616). -/
def startMbx (s : State) (m : Nat) : State :=
  if s.host.busy.getLsbD m then raise 36 [(m, 8)] (setFlag 0xC 1 s)
  else updHost (fun h => { h with
    busy := h.busy ||| BitVec.ofNat 16 (2 ^ m), done := h.done &&& ~~~ BitVec.ofNat 16 (2 ^ m), accepted := h.accepted ++ [m] }) s

/-- A write to MBX_GO: the mailboxes named are accepted lowest first (R615), by the firmware, which accepts none before FW_READY (Table
12.4; log entry 40). -/
def mbxGo (mask : Nat) (s : State) : State := if s.host.fwReady then sweepBad ((maskList 16 mask).foldl startMbx s) else s

/-- MBX_GO. -/
def execMbxGo (mask : BitVec 16) (s : State) : Res := .next (if hostOpen s then mbxGo mask.toNat s else s)

/-! ### Heads and tails (R612) -/

/-- Does `v` lie, in ring order, from `a` to `b`? -/
def inRing (n a b v : Nat) : Bool := decide (v < n) && decide ((v + n - a) % n ≤ (b + n - a) % n)

/-- A write to CQ_HEAD. -/
def cqHead (v : Nat) (s : State) : State :=
  let q := s.host.cq
  if inRing q.entries q.head q.tail v then updHost (fun h => { h with cq := { q with head := v } }) s else accessError 5 0x1004 s

/-- A write to EQ_HEAD. -/
def eqHead (v : Nat) (s : State) : State :=
  let q := s.host.eq
  if inRing q.entries q.head q.tail v then updHost (fun h => { h with eq := { q with head := v } }) s else accessError 5 0x100C s

/-- A write to EXR_HEAD. -/
def exrHead (r v : Nat) (s : State) : State :=
  let x := exrOf s r
  if inRing x.entries x.head x.tail v then setExr r { x with head := v } s else accessError 5 (0x1100 + 8 * r) s

def injOf (s : State) (r : Nat) : InjRing := tabGet {} s.host.inj r
def setInj (r : Nat) (x : InjRing) (s : State) : State := updHost (fun h => { h with inj := tabSet {} h.inj r x }) s

/-- A write to INJ_TAIL. -/
def injTail (r v : Nat) (s : State) : State :=
  let x := injOf s r
  if inRing x.entries x.tail ((x.head + x.entries - 1) % x.entries) v then setInj r { x with tail := v } s
  else accessError 5 (0x1180 + 8 * r) s

/-- CQ_HEAD_WRITE. -/
def execCqHeadWrite (value : BitVec 32) (s : State) : Res := .next (if hostOpen s then cqHead (value.toNat % 65536) s else s)

/-- EQ_HEAD_WRITE. -/
def execEqHeadWrite (value : BitVec 32) (s : State) : Res := .next (if hostOpen s then eqHead (value.toNat % 65536) s else s)

/-- EXR_HEAD_WRITE. -/
def execExrHeadWrite (ring : BitVec 4) (value : BitVec 32) (s : State) : Res :=
  .next (if hostOpen s then exrHead ring.toNat (value.toNat % 65536) s else s)

/-- INJ_TAIL_WRITE. -/
def execInjTailWrite (ring : BitVec 4) (value : BitVec 32) (s : State) : Res :=
  .next (if hostOpen s then injTail ring.toNat (value.toNat % 65536) s else s)

/-- EVENT_MERGED_POST: pending entries are posted in ascending source order as space returns (R632). -/
def execEventMergedPost (s : State) : Res := .next (postMerged s)

/-! ### Reads with an effect -/

/-- D_LO_READ: the read of DURABLE_LO latches D_HI (R516). -/
def execDLoRead (s : State) : Res :=
  .next (if hostOpen s then
    updEv (fun e => { e with latchHi := BitVec.ofNat 16 (e.durable.toNat / 2 ^ 32) })
      (updHost (fun h => { h with readData := s.ev.durable.setWidth 32 }) s)
    else s)

/-- RC_READ: an RC total is returned and cleared (R12). -/
def execRcRead (offset : BitVec 25) (s : State) : Res :=
  .next (if hostOpen s then
    updHost (fun h => { h with readData := BitVec.ofNat 32 (tabGet 0 s.totals offset.toNat) })
      { s with totals := tabErase s.totals offset.toNat }
    else s)

/-! ### Exception rings -/

/-- EXCEPTION_COPY_WRITE: the first waiting copy or emit of a ring is written once room returns (R216, R634-R636). -/
def execExceptionCopyWrite (ring : BitVec 4) (s : State) : Res :=
  let r := ring.toNat
  .next (match tabGet [] s.cab.exrWait r with
    | [] => s
    | c :: w =>
      if exrFull s r then s
      else exrCopy r c { s with cab := { s.cab with exrWait := tabSet [] s.cab.exrWait r w } })

/-- Has an ordinary copy waited past its residue (R218, R637)? -/
def pastResidue (s : State) (c : Copy) : Bool :=
  !c.lossless && decide ((s.sh.sheet - c.sheet - BitVec.ofNat 48 c.residue - 1).toNat < 2 ^ 47)

/-- EXR_RESIDUE: the first ordinary copy still waiting at a full ring past its residue is discarded (R637). -/
def execExrResidue (ring : BitVec 4) (s : State) : Res :=
  let r := ring.toNat
  let w := tabGet [] s.cab.exrWait r
  .next (match w.find? (pastResidue s) with
    | none => s
    | some c =>
      let s := { s with cab := { s.cab with exrWait := tabSet [] s.cab.exrWait r (w.erase c) } }
      raise 37 [(r, 8)] (setFlag 0xC 6 (count .host 0 9 1 (dropCopy c s))))

/-! ### MSI-X (R646-R648) -/

/-- A dword of the MSI-X table; a vector is masked until its control dword says otherwise. -/
def msixDword (s : State) (k : Nat) : BitVec 32 := (tabFind s.host.msixTable k).getD (if k % 4 = 3 then 1 else 0)

/-- Is a vector masked, by itself or by the function mask? -/
def msixMasked (s : State) (v : Nat) : Bool := s.host.msixFmask || (msixDword s (4 * v + 3)).getLsbD 0

/-- Send a vector's message: its data at its address. -/
def msixSend (v : Nat) (s : State) : State :=
  count .host 0 6 1 (hostWrite (msixDword s (4 * v + 1) ++ msixDword s (4 * v)) (leBytes 4 (msixDword s (4 * v + 2)).toNat) s)

/-- Send the pending messages whose vectors are no longer masked (R648). -/
def msixPending (s : State) : State :=
  if !s.host.msixEnable || !s.host.busMaster then s
  else (maskList 64 s.host.msixPba.toNat).foldl (fun a v =>
    if msixMasked a v then a
    else msixSend v (updHost (fun h => { h with msixPba := h.msixPba &&& ~~~ BitVec.ofNat 64 (2 ^ v) }) a)) s

/-- Is a cause due with vector `v`: it has uncovered entries, and its HOLDOFF is 0 or one of those that have passed (R646, R647)? -/
def causeDue (s : State) (due : BitVec 34) (v c : Nat) : Bool :=
  let x := tabGet {} s.host.causes c
  s.host.uncovered.getLsbD c && x.vector.toNat % 64 == v && (x.holdoff == 0 || due.getLsbD c)

/-- MSIX_MESSAGE: a cause with uncovered entries whose HOLDOFF has passed has its vector sent, or pending while masked; `due` names the
other causes whose HOLDOFF has passed in the same cycle, and one message serves all that share the vector (R606, R646-R648). -/
def execMsixMessage (message : MsixDue) (s : State) : Res :=
  let c := message.cause.toNat
  .next (
    if 33 < c || !s.host.uncovered.getLsbD c || !s.host.msixEnable || !s.host.busMaster then s
    else
      let v := (tabGet {} s.host.causes c).vector.toNat % 64
      let covered := ((List.range 34).filter (causeDue s message.due v)).foldl (fun m d => m ||| BitVec.ofNat 34 (2 ^ d)) (BitVec.ofNat 34 (2 ^ c))
      let s := updHost (fun h => { h with uncovered := h.uncovered &&& ~~~ covered }) s
      if msixMasked s v then updHost (fun h => { h with msixPba := h.msixPba ||| BitVec.ofNat 64 (2 ^ v) }) s else msixSend v s)

end Sys2Proof.Machine
end

