-- ==== Sys2Proof/Machine/FurnishOps.lean ====
section
/-!
DEFINITION. Furnish changes and commands 0x0Dxx (01_sheets_windows_and_furnish.md, Furnish changes, Table 1.13; R17-R28, R34, R35,
R60-R76, R762-R764).
-/
namespace Sys2Proof.Machine

/-- Change the sheet generator's state. -/
def updSheets (f : Sheets → Sheets) (s : State) : State := { s with sh := f s.sh }

/-- The unit codes of Table 1.11, in its order. -/
def unitCodes : List Nat :=
  [0x10, 0x11, 0x12, 0x13, 0x14, 0x20, 0x30, 0x40, 0x41, 0x42, 0x43, 0x44, 0x45, 0x46, 0x47, 0x50, 0x60, 0x70]

/-- OLDEST_FURNISH (Table 1.3). -/
def oldestFurnish (s : State) : BitVec 8 :=
  match s.sh.old with
  | some (f, _) => if s.disp.items.any (fun p => p.2.furnish == f) then f else s.sh.furnish
  | none => s.sh.furnish

/-! ### The commit -/

/-- The stamp points switch to F + 1 (R59, R68). -/
def applyCommit (s : State) : State :=
  match s.sh.next with
  | none => s
  | some b =>
    let s := updSheets (fun x => { x with
      old := some (x.furnish, x.cur), cur := b.bank, furnish := nextFurnish x.furnish, next := none, pending := none }) s
    raise 3 [] (setFlag 0x40C 1 { s with ev := { s.ev with furnishSheets := s.ev.furnishSheets ++ [s.sh.sheet] } })

/-- The units asked at a commit: all that are not fenced (R67, R70). -/
def askedUnits (s : State) : BitVec 18 := ~~~ (s.disp.fenced.setWidth 18 <<< 7)

/-- FURNISH_CONFIRM_ASK: at the tick opening S − 1 every unit that is not fenced is asked whether its next bank is complete; `parity`
and `reset` tell which would not confirm for the reasons of Table 1.12. The reason of a unit whose bank is incomplete is an open value:
the table gives it none (R67; log entries 2 and 99). -/
def execFurnishConfirmAsk (parity reset : BitVec 18) (s : State) : Res :=
  .next (match s.sh.pending with
    | none => s
    | some c =>
      if c.asked.isSome || s.sh.sheet + 1 ≠ c.sheet then s
      else
        let whole := match s.sh.next with | some b => b.complete | none => 0
        let failed := (List.range 18).filterMap (fun i =>
          if !(askedUnits s).getLsbD i then none
          else if parity.getLsbD i then some (unitCodes.getD i 0, 1)
          else if reset.getLsbD i then some (unitCodes.getD i 0, 2)
          else if whole.getLsbD i then none else some (unitCodes.getD i 0, freeNow s))
        drawFree (updSheets (fun x => { x with pending := some { c with asked := some (askedUnits s), failed := failed } }) s))

/-! ### Tick deliveries -/

/-- Is a commit due that the present tick's FURNISH_SWITCH has yet to decide (R68, R69)? -/
def commitDue (s : State) : Bool :=
  match s.sh.pending with
  | some c => decide ((s.sh.sheet - c.sheet).toNat < 2 ^ 47)
  | none => false

/-- The tick item of a subscription slot (R34, R236; Table 4.2). -/
def tickItem (s : State) (slot : Nat) (x : TickSub) : Item :=
  eventItem s { source := 0, cls := 7, domain := x.domain, ctx := BitVec.ofNat 14 x.domain.toNat
                data0 := BitVec.ofNat 24 s.sh.sheet.toNat, data1 := BitVec.ofNat 14 slot }

/-- Is a subscription due at the present tick (R34)? -/
def subDue (s : State) (slot : Nat) : Bool :=
  let x := tabGet {} s.sh.subs slot
  x.enable && s.sh.sheet.toNat % x.divisor.toNat == 0

/-- Event source 0 for one subscription that is forwarded to the host (R34, R630). -/
def forwardTick (slot : Nat) (s : State) : State :=
  if subDue s slot && (tabGet {} s.sh.subs slot).hostEvent then forwardRaise 0 [(slot, 16)] s else s

/-- One subscription's work item, or a skip at the limit (R34, R35, R265). -/
def deliverTick (slot : Nat) (s : State) : State :=
  let x := tabGet {} s.sh.subs slot
  if !subDue s slot then s
  else if eventRoom s then enterItem (tickItem s slot x) s
  else raise 197 [] (setFlag 0x480 5 (count .dispatch 0 13 1
    (updSheets (fun y => { y with subs := tabSet {} y.subs slot { x with skipped := x.skipped + 1 } }) s)))

/-- Action 7 of Table 1.6, the raises in ascending source order (R629); nothing is delivered while the dispatcher is in reset. -/
def deliverTicks (s : State) : State :=
  if s.pow.level = 0 then
    (List.range 8).foldl (fun a k => deliverTick k a) ((List.range 8).foldl (fun a k => forwardTick k a) s)
  else s

/-- At the tick opening S the stamp points switch, or the commit is refused (R68, R69, R71). -/
def furnishSwitch (s : State) : State :=
  match s.sh.pending with
  | none => s
  | some c =>
    if !commitDue s then s
    else match c.failed with
      | [] => applyCommit s
      | (u, r) :: _ => raise 4 [(u, 8), (r, 8)] (setFlag 0x40C 2 (updSheets (fun x => { x with pending := none }) s))

/-- Is the old bank to be freed: does no item of its furnish stand in flight, released or voided none of them (R72, R229)? -/
def retireDue (s : State) : Bool :=
  match s.sh.old with
  | none => false
  | some (f, _) => ticking s && !s.disp.items.any (fun p => p.2.furnish == f && !p.2.voided)

/-- The old bank is freed at a tick where no item of its furnish is in flight (R72). -/
def furnishRetire (s : State) : State :=
  if s.sh.tickOwed && retireDue s then raise 5 [] (setFlag 0x40C 3 (updSheets (fun x => { x with old := none }) s)) else s

/-- The generator starts with the present sheet, which is the first of the present PTP second (R22, R477; log entry 160). Whether it is a
new sheet for the sources reported once per sheet, the spec does not say: it is none (R762; log entry 150). -/
def startSheets (s : State) : State :=
  markSecond (updSheets (fun x => { x with running := true, startReq := false, tickTime := s.line.ptp.time }) s)

/-- ALIGN_TAKES_EFFECT: at a PTP second boundary a requested enable or disable of alignment takes effect, and a start at the
next second happens (R25, R26, R74, Table 1.13). -/
def execAlignTakesEffect (s : State) : Res :=
  .next (
    let s := match s.sh.alignReq with
      | none => s
      | some true => updSheets (fun x => { x with alignEn := true, alignReq := none, realign := false }) s
      | some false =>
        let lost := s.sh.aligned
        let s := updSheets (fun x => { x with alignEn := false, alignReq := none, aligned := false, realign := false }) s
        if lost then raise 2 [] (setFlag 0x40C 0 s) else s
    if s.sh.startReq then startSheets (updSheets (fun x => { x with alignEn := true }) s)
    else s)

/-! ### Registers -/

/-- SHEET_NOW_LO_READ: the read latches SHEET_NOW_HI (R28). -/
def execSheetNowLoRead (s : State) : Res :=
  .next (if hostOpen s then
    updSheets (fun x => { x with latchHi := BitVec.ofNat 16 (x.sheet.toNat / 2 ^ 32), latchFurnish := x.furnish })
      (updHost (fun h => { h with readData := s.sh.sheet.setWidth 32 }) s)
    else s)

/-! ### Commands -/

/-- SHEET_SET (R17, R20, R763); log entry 144 for a device-scope freeze. -/
def sheetSet : CmdSpec :=
  { op := 0x0D01, fixed := 12
    checks := fun _ p => [inRange p 0 2 4 256, inRange p 2 1 1 8, rsv p 3 1, (4, decide (leAt p 4 8 < 2 ^ 48))]
    body := fun s _ p =>
      if s.sh.running then refuse s 0x03
      else
        let set := fun (b : Bank) => { b with period := BitVec.ofNat 9 (leAt p 0 2), window := BitVec.ofNat 4 (leAt p 2 1) }
        okCmd (updSheets (fun x => { x with
          sheet := BitVec.ofNat 48 (leAt p 4 8), cur := set x.cur
          next := match x.next with
            | none => none
            | some b => if tabGet 0 b.written 17 = 0 then some { b with bank := set b.bank } else some b }) s) }

/-- SHEET_START (R22; log entries 144 and 150). -/
def sheetStart : CmdSpec :=
  { op := 0x0D02, fixed := 4, checks := fun _ p => [inRange p 0 1 0 1, rsv p 1 3]
    body := fun s _ p =>
      if s.sh.running || s.sh.furnish = 0 then refuse s 0x03
      else if leAt p 0 1 = 1 then okCmd (updSheets (fun x => { x with startReq := true }) s)
      else okCmd (startSheets s) }

/-- SHEET_ALIGN (R74). -/
def sheetAlign : CmdSpec :=
  { op := 0x0D03, fixed := 4, checks := fun _ p => [inRange p 0 1 0 1, rsv p 1 3]
    body := okState (fun s p => updSheets (fun x => { x with alignReq := some (leAt p 0 1 == 1) }) s) }

/-- A PTP time as 10 little-endian bytes: seconds, then nanoseconds. -/
def ptpLe (t : PtpTime) : List Byte := layout [(t.sec.toNat, 6), (t.ns.toNat, 4)]

/-- SHEET_STATE[15:13]: ALIGNED, ALIGN_EN and RUNNING, 1 while the generator ticks (Table 1.3, Table 14.6). -/
def sheetStateBits (s : State) : Nat := packNat [(b2n s.sh.aligned, 1), (b2n s.sh.alignEn, 1), (b2n (ticking s), 1)]

/-- SHEET_QUERY (R23). -/
def sheetQuery : CmdSpec :=
  { op := 0x0D04
    body := okReply (fun s _ => layout [(s.sh.sheet.toNat, 8)] ++ ptpLe s.sh.tickTime ++
      layout [(s.sh.cur.period.toNat, 2), (s.sh.cur.window.toNat, 1), (sheetStateBits s, 1), (s.sh.furnish.toNat, 1),
        (pendingFurnish s, 1), ((match s.sh.pending with | some c => c.sheet.toNat | none => 0), 8), ((oldestFurnish s).toNat, 1)]) }

/-- SHEET_NEXT (R59, R62). -/
def sheetNext : CmdSpec :=
  { op := 0x0D05, load := true, fixed := 3, checks := fun _ p => [inRange p 0 2 4 256, inRange p 2 1 1 8]
    body := okState (fun s p => loadBank 17 1 (fun b => { b with
      period := BitVec.ofNat 9 (leAt p 0 2), window := BitVec.ofNat 4 (leAt p 2 1) }) s) }

/-- TICK_SUBSCRIBE (R34, R35). -/
def tickSubscribe : CmdSpec :=
  { op := 0x0D06, fixed := 8
    checks := fun _ p => [inRange p 0 1 0 7, inRange p 1 1 0 1, inRange p 4 2 1 65535,
      (6, decide (leAt p 6 1 ≤ 1) && !(leAt p 6 1 == 1 && decide (leAt p 4 2 < 256))), rsv p 7 1]
    body := okState (fun s p => updSheets (fun x => { x with subs := tabUpd {} x.subs (leAt p 0 1) (fun y => { y with
      enable := leAt p 1 1 == 1, domain := BitVec.ofNat 16 (leAt p 2 2), divisor := BitVec.ofNat 16 (leAt p 4 2)
      hostEvent := leAt p 6 1 == 1 }) }) s) }

/-- FURNISH_BEGIN (R60, R65, R764). The order of its refusals where several apply, FURNISH_NOT_NEXT, BANK_BUSY, PENDING and BAD_STATE, is the
model's choice (log entry 100). -/
def furnishBegin : CmdSpec :=
  { op := 0x0D10, fixed := 4, checks := fun _ p => [rsv p 1 3]
    body := fun s _ p =>
      if leAt p 0 1 ≠ (nextFurnish s.sh.furnish).toNat then refuse s 0x10 s.sh.furnish.toNat
      else match s.sh.old with
        | some (f, _) => refuse s 0x12 f.toNat
        | none =>
          if s.sh.pending.isSome then refuse s 0x11 (pendingFurnish s)
          else if s.sh.next.isSome then refuse s 0x03
          else okCmd (updSheets (fun x => { x with next := some { bank := x.cur } }) s) }

/-- The place of a unit code in Table 1.11, 18 for no unit. -/
def unitPlace (code : Nat) : Nat := (unitCodes.takeWhile (· != code)).length

/-- FURNISH_CLOSE_UNIT (R61, R64). -/
def furnishCloseUnit : CmdSpec :=
  { op := 0x0D11, fixed := 8, checks := fun _ p => [(0, unitCodes.contains (leAt p 0 1)), rsv p 1 3]
    body := fun s _ p =>
      let u := unitPlace (leAt p 0 1)
      match s.sh.next with
      | none => refuse s 0x03
      | some b =>
        if tabGet 0 b.written u ≠ leAt p 4 4 then refuse s 0x13 (leAt p 0 1)
        else okCmd (updSheets (fun x => { x with next := some { b with complete := b.complete ||| BitVec.ofNat 18 (2 ^ u) } }) s) }

/-- The first unit whose next bank is incomplete, with fenced clusters left out (Table 1.12, R70). -/
def incompleteUnit (s : State) (b : NextBank) : Option Nat :=
  match (List.range 18).find? (fun i => (askedUnits s).getLsbD i && !b.complete.getLsbD i) with
  | some i => some (unitCodes.getD i 0)
  | none => none

/-- FURNISH_COMMIT (R66, Table 1.12). The order of its refusals, BAD_STATE without next banks while the generator is stopped, and S
beyond the counter's 48 bits are choices (log entries 101 to 103). -/
def furnishCommit : CmdSpec :=
  { op := 0x0D12, fixed := 16, checks := fun s p => [rsv p 1 7, (8, ticking s || leAt p 8 8 == 0)]
    body := fun s _ p =>
      let now := s.sh.sheet.toNat
      let target := leAt p 8 8
      if leAt p 0 1 ≠ (nextFurnish s.sh.furnish).toNat then refuse s 0x10 s.sh.furnish.toNat
      else if s.sh.pending.isSome then refuse s 0x11 (pendingFurnish s)
      else match s.sh.next with
        | none => refuse s 0x03
        | some b =>
          if ticking s && decide (target < now + 2) then refuse s 0x14 (now % 2 ^ 32)
          else if ticking s && decide (now + 1048576 < target) then refuse s 0x15 (now % 2 ^ 32)
          else match incompleteUnit s b with
            | some u => refuse s 0x13 u
            | none =>
              if ticking s then okCmd (updSheets (fun x => { x with pending := some { sheet := BitVec.ofNat 48 target } }) s)
              else okCmd (applyCommit s) }

/-- FURNISH_ABORT (R71, Table 1.13). The order of its refusals where several apply, FURNISH_NOT_NEXT, BAD_STATE and TOO_SOON, is the model's
choice (log entry 151). -/
def furnishAbort : CmdSpec :=
  { op := 0x0D13, fixed := 4, checks := fun _ p => [inRange p 1 1 0 1, rsv p 2 2]
    body := fun s _ p =>
      if leAt p 0 1 ≠ (nextFurnish s.sh.furnish).toNat then refuse s 0x10 s.sh.furnish.toNat
      else if s.sh.next.isNone then refuse s 0x03
      else if (match s.sh.pending with | some c => decide ((s.sh.sheet + 1 - c.sheet).toNat < 2 ^ 47) | none => false) then
        refuse s 0x14 (s.sh.sheet.toNat % 2 ^ 32)
      else okCmd (updSheets (fun x => { x with pending := none, next := if leAt p 1 1 = 1 then none else x.next }) s) }

/-- FURNISH_STATUS. -/
def furnishStatus : CmdSpec :=
  { op := 0x0D14
    body := okReply (fun s _ => layout [(s.sh.furnish.toNat, 1), ((oldestFurnish s).toNat, 1), ((nextFurnish s.sh.furnish).toNat, 1),
      (packNat [(b2n s.sh.next.isSome, 1), (b2n s.sh.pending.isSome, 1)], 1),
      ((match s.sh.next with | some b => b.complete.toNat | none => 0), 16)]) }

/-- A port code of DD0 (Table 4.1): 0 to 3, 8, 9 or 16. -/
def portCode (p : List Byte) (off : Nat) : Nat × Bool := (off, [0, 1, 2, 3, 8, 9, 16].contains (leAt p off 1))

/-- LATE_COUNTERS (R76). -/
def lateCounters : CmdSpec :=
  { op := 0x0D20, fixed := 4, checks := fun _ p => [portCode p 0, inRange p 1 1 0 7, inRange p 2 1 0 1, rsv p 3 1]
    body := fun s _ p =>
      let k := (leAt p 0 1 * 8 + leAt p 1 1) * 4
      let r := (List.range 4).flatMap (fun i => leBytes 8 (tabGet 0 s.sh.late (k + i)))
      okCmd (if leAt p 2 1 = 1 then updSheets (fun x => { x with late := tabClear x.late k 4 }) s else s) r }

/-! ### Happenings -/

def execSheetSet (m : BitVec 4) (s : State) : Res := .next (runCmd sheetSet m s)
def execSheetStart (m : BitVec 4) (s : State) : Res := .next (runCmd sheetStart m s)
def execSheetAlign (m : BitVec 4) (s : State) : Res := .next (runCmd sheetAlign m s)
def execSheetQuery (m : BitVec 4) (s : State) : Res := .next (runCmd sheetQuery m s)
def execSheetNext (m : BitVec 4) (s : State) : Res := .next (runCmd sheetNext m s)
def execTickSubscribe (m : BitVec 4) (s : State) : Res := .next (runCmd tickSubscribe m s)
def execFurnishBegin (m : BitVec 4) (s : State) : Res := .next (runCmd furnishBegin m s)
def execFurnishCloseUnit (m : BitVec 4) (s : State) : Res := .next (runCmd furnishCloseUnit m s)
def execFurnishCommit (m : BitVec 4) (s : State) : Res := .next (runCmd furnishCommit m s)
def execFurnishAbort (m : BitVec 4) (s : State) : Res := .next (runCmd furnishAbort m s)
def execFurnishStatus (m : BitVec 4) (s : State) : Res := .next (runCmd furnishStatus m s)
def execLateCounters (m : BitVec 4) (s : State) : Res := .next (runCmd lateCounters m s)

end Sys2Proof.Machine
end

