-- ==== Sys2Proof/Machine/ParserOps.lean ====
section
/-!
DEFINITION. The parse graph and the key (02_line_ports_and_classifier.md, Parse graph, Key; R116-R126, R137, R155, R769, R770).
-/
namespace Sys2Proof.Machine

/-! ### Pipelines and their entries -/

def pipeOf (s : State) (p : Nat) : Pipe := tabGet {} s.line.pipes p
def setPipe (p : Nat) (x : Pipe) (s : State) : State :=
  { s with line := { s.line with pipes := tabSet {} s.line.pipes p x } }
def updPipe (p : Nat) (f : Pipe → Pipe) (s : State) : State := setPipe p (f (pipeOf s p)) s

/-- A field of a stored entry: its bytes `off` to `off + n - 1`. -/
def ParseEntry.at (e : ParseEntry) (off n : Nat) : Nat := leAt e.bytes off n

/-! ### Reading the frame -/

/-- Bits of a frame from the first bit of a layer, right-aligned (Parse graph); bytes past the end read as 0. -/
def frameBits (f : List Byte) (base off w : Nat) : Nat :=
  let a := base + off / 8
  let e := base + ceilDiv (off + w) 8
  beNat ((List.range (e - a)).map (fun i => f.getD (a + i) 0)) / 2 ^ (8 * e - (8 * base + off + w)) % 2 ^ w

/-- The byte past the last one that a field touches. -/
def fieldEnd (base off w : Nat) : Nat := base + ceilDiv (off + w) 8

/-- Why a parse ends before its next 0x40. -/
inductive Stop where
  | depth
  | fail (reason : Nat)
  deriving DecidableEq, Repr

/-- The test of R769 step 3 for bytes that end before `e`, with DEPTH_BYTES and the frame's bytes before the FCS (R119, R120). -/
def reach (depth n e : Nat) : Option Stop :=
  if depth < e then some .depth else if n < e then some (.fail 1) else none

/-! ### A parse -/

/-- What a parse has found so far. -/
structure Parsed where
  layers : Nat := 0
  /-- Layer types applied, with the byte at which each begins, innermost first. -/
  seen : List (Nat × Nat) := []
  tags : Nat := 0
  labels : Nat := 0
  exts : Nat := 0
  inner : Bool := false
  rtpValid : Bool := false
  ptpEvent : Bool := false
  nonFirst : Bool := false
  rtpOffset : Nat := 0
  rtpSsrc : Nat := 0
  rtpSeq : Nat := 0
  rtpTs : Nat := 0
  l3 : Nat := 0
  l4 : Nat := 0
  /-- PCP and DEI of the outermost VLAN tag. -/
  pcp : Option Nat := none
  dei : Bool := false
  /-- The Next Header of the layer before (R770). -/
  nextHeader : Option Nat := none
  stop : Option Stop := none
  deriving DecidableEq, Repr

/-- The parse status (Table 2.7). -/
def Parsed.status (x : Parsed) : Nat :=
  let r := match x.stop with | some (.fail r) => r | _ => 0
  packNat [(r, 4), (b2n x.inner, 1), (b2n x.rtpValid, 1), (b2n (x.stop == some .depth), 1), (b2n (r != 0), 1)]

/-- Did the parse fail? -/
def Parsed.failed (x : Parsed) : Bool := match x.stop with | some (.fail _) => true | _ => false

/-- The frame and the limits of one parse (R123). -/
structure ParseIn where
  frame : List Byte
  /-- Bytes before the FCS. -/
  n : Nat
  depth : Nat
  limit : Nat

/-- Is the layer a fragment header (R770)? -/
def isFragment (x : Parsed) (ty : Nat) : Bool := ty == 6 && x.nextHeader == some 44

/-- Length of the chain of GTP-U extension headers from a byte, or why it cannot be had; a header of length 0 is LENGTH (Table
2.4, R122). -/
def gtpuChain (i : ParseIn) : Nat → Nat → Nat → Except Stop Nat
  | 0, _, _ => .error .depth
  | fuel + 1, start, e =>
    match reach i.depth i.n (e + 1) with
    | some w => .error w
    | none =>
      let len := 4 * frameBits i.frame e 0 8
      if len = 0 then .error (.fail 8)
      else match reach i.depth i.n (e + len) with
        | some w => .error w
        | none => if frameBits i.frame (e + len - 1) 0 8 = 0 then .ok (e + len - start) else gtpuChain i fuel start (e + len)

/-- Bytes from a layer's beginning that its type checks and its length computation read whatever they hold (R769 step 3). -/
def fixedReads (x : Parsed) (e : ParseEntry) : Nat :=
  let ty := e.at 0 1
  let typed := e.at 2 1 == 2
  let checks := if ty = 4 ∨ ty = 5 ∨ ty = 11 then 1 else if ty = 8 then 13 else if typed && (ty == 9 || ty == 12) then 1
    else if typed && ty == 6 && !isFragment x ty then 2 else 0
  if e.at 2 1 = 1 then max checks (ceilDiv (e.at 4 2 + e.at 6 1) 8) else checks

/-- The length of a GTP-U header: 8, plus 4 and its extension headers (Table 2.4; log entry 43). -/
def gtpuLength (i : ParseIn) (pos : Nat) : Except Stop Nat :=
  let f := frameBits i.frame pos 5 3
  if f = 0 then .ok 8
  else if f < 4 then .ok 12
  else match reach i.depth i.n (pos + 12) with
    | some w => .error w
    | none => if frameBits i.frame pos 88 8 = 0 then .ok 12
      else match gtpuChain i i.n pos (pos + 12) with
        | .ok l => .ok l
        | .error w => .error w

/-- The type-defined length of a layer (Table 2.4); 0 where there is none. -/
def typedLength (i : ParseIn) (x : Parsed) (ty pos : Nat) : Except Stop Nat :=
  let b := frameBits i.frame pos
  match ty with
  | 1 => .ok 14 | 2 => .ok 4 | 3 => .ok 4 | 4 => .ok (4 * b 4 4) | 5 => .ok 40
  | 6 => .ok (if isFragment x ty then 8 else 8 * (b 8 8 + 1))
  | 7 => .ok 8 | 8 => .ok (4 * b 96 4) | 9 => .ok (4 + 4 * (b 0 1 + b 2 1 + b 3 1)) | 10 => .ok 8
  | 11 => gtpuLength i pos
  | 12 =>
    let h := 12 + 4 * b 4 4
    if b 3 1 = 0 then .ok h
    else match reach i.depth i.n (pos + h + 4) with
      | some w => .error w
      | none => .ok (h + 4 + 4 * frameBits i.frame (pos + h) 16 16)
  | 13 => .ok 34
  | _ => .ok 0

/-- A GTP-U layer of any LEN_MODE fails on an extension header of length 0 (Table 2.4). -/
def gtpuCheck (i : ParseIn) (ty pos : Nat) : Except Stop Nat := if ty = 11 then gtpuLength i pos else .ok 0

/-- The length of a layer (R116, Table 2.4, R769 step 3). -/
def layerLength (i : ParseIn) (x : Parsed) (e : ParseEntry) (pos : Nat) : Except Stop Nat :=
  match e.at 2 1 with
  | 0 => .ok (e.at 3 1)
  | 1 => .ok (frameBits i.frame pos (e.at 4 2) (e.at 6 1) * 2 ^ e.at 7 1 + e.at 8 1)
  | _ => typedLength i x (e.at 0 1) pos

/-- The reason of a failed type check, other than the header checksum (Table 2.4, R121). -/
def typeCheck (i : ParseIn) (x : Parsed) (ty pos : Nat) : Option Nat :=
  let b := frameBits i.frame pos
  match ty with
  | 2 => if x.tags = 3 then some 5 else none
  | 3 => if x.labels = 4 then some 6 else none
  | 4 => if b 0 4 ≠ 4 ∨ b 4 4 < 5 then some 3 else none
  | 5 => if b 0 4 ≠ 6 then some 4 else none
  | 6 => if x.exts = 4 then some 7 else none
  | 8 => if b 96 4 < 5 then some 8 else none
  | 11 => if b 0 3 ≠ 1 then some 9 else none
  | _ => none

/-- Ones'-complement sum of 16-bit words, folded to 16 bits. -/
def onesSum (bs : List Byte) : Nat :=
  let t := ((List.range (bs.length / 2)).map (fun i => beNat (bytesAt bs (2 * i) 2))).foldl (· + ·) 0
  let u := t % 65536 + t / 65536
  u % 65536 + u / 65536

/-- Bytes of a layer that its checks and extractions read (Table 2.4; log entry 43). -/
def layerBytes (i : ParseIn) (x : Parsed) (ty pos : Nat) : Nat :=
  match ty with
  | 2 => 2 | 4 => 4 * frameBits i.frame pos 4 4 | 5 => 7 | 6 => if isFragment x ty then 4 else 1
  | 12 => if frameBits i.frame pos 0 2 = 2 then 12 else 1 | 13 => 1 | _ => 0

/-- Does the layer's fragment offset end the parse (R769 step 8, R770)? -/
def fragmentEnds (i : ParseIn) (x : Parsed) (ty pos : Nat) : Bool :=
  (ty == 4 && frameBits i.frame pos 51 13 != 0) || (isFragment x ty && frameBits i.frame pos 16 13 != 0)

/-- A layer applied: what it extracts (Table 2.4). -/
def applyLayer (i : ParseIn) (e : ParseEntry) (pos : Nat) (x : Parsed) : Parsed :=
  let ty := e.at 0 1
  let b := frameBits i.frame pos
  let rtp := ty == 12 && b 0 2 == 2
  { x with
    layers := x.layers + 1, seen := (ty, pos) :: x.seen
    tags := if ty = 2 then x.tags + 1 else x.tags
    labels := if ty = 3 then x.labels + 1 else x.labels
    exts := if ty = 6 then x.exts + 1 else x.exts
    inner := x.inner || natBit (e.at 1 1) 1
    rtpValid := x.rtpValid || rtp
    rtpOffset := if rtp then pos else x.rtpOffset
    rtpSsrc := if rtp then b 64 32 else x.rtpSsrc
    rtpSeq := if rtp then b 16 16 else x.rtpSeq
    rtpTs := if rtp then b 32 32 else x.rtpTs
    ptpEvent := x.ptpEvent || (ty == 13 && decide (b 4 4 ≤ 3))
    nonFirst := x.nonFirst || fragmentEnds i x ty pos
    l3 := if ty = 4 ∨ ty = 5 then pos else x.l3
    l4 := if ty = 7 ∨ ty = 8 then pos else x.l4
    pcp := if ty = 2 ∧ x.tags = 0 then some (b 0 3) else x.pcp
    dei := if ty = 2 ∧ x.tags = 0 then b 3 1 == 1 else x.dei
    nextHeader := if ty = 5 then some (b 48 8) else if ty = 6 then some (b 0 8) else none }

/-- The next node after a layer (R117). -/
def nextNode (p : Pipe) (node : Nat) (e : ParseEntry) (v : Nat) : Nat :=
  if e.at 12 1 = 0 then e.at 13 1
  else match p.transitions.find? (fun t => natBit (t.2.at 6 1) 0 && t.2.at 0 1 == node && (v &&& t.2.at 4 2) == (t.2.at 2 2 &&& t.2.at 4 2)) with
    | some t => t.2.at 1 1
    | none => e.at 13 1

/-- Does a node, or a transition or extractor entry read for its layer, fail its parity check (R155)? Every transition of the node and
every extractor of its TYPE counts as read (R769 step 1; log entry 113). -/
def parseParity (p : Pipe) (node : Nat) (e : ParseEntry) : Bool :=
  e.bad || p.transitions.any (fun t => t.2.bad && t.2.at 0 1 == node) || p.extractors.any (fun t => t.2.bad && t.2.at 0 1 == e.at 0 1)

/-- What one layer comes to, in the steps of R769: where the parse goes on, or its end. A node whose VALID is 0 fails after the tests
of parity and LAYER_LIMIT (R118; log entry 112). -/
def parseLayer (i : ParseIn) (p : Pipe) (node pos : Nat) (x : Parsed) : Parsed × Option (Nat × Nat) :=
  let e := tabGet {} p.nodes node
  let ty := e.at 0 1
  let stop := fun (w : Stop) => ({ x with stop := some w }, (none : Option (Nat × Nat)))
  if parseParity p node e then stop (.fail 10)
  else if i.limit ≤ x.layers then stop .depth
  else if !natBit (e.at 1 1) 0 then stop (.fail 2)
  else match reach i.depth i.n (pos + fixedReads x e) with
  | some w => stop w
  | none => match layerLength i x e pos, gtpuCheck i ty pos with
  | .error .depth, _ => stop .depth
  | .error (.fail 1), _ => stop (.fail 1)
  | _, .error .depth => stop .depth
  | _, .error (.fail 1) => stop (.fail 1)
  | len, g => match typeCheck i x ty pos with
  | some r => stop (.fail r)
  | none => match len, g with
  | .error w, _ => stop w
  | _, .error w => stop w
  | .ok len, .ok _ =>
    if len = 0 then stop (.fail 8)
    else match reach i.depth i.n (pos + max len (layerBytes i x ty pos)) with
    | some w => stop w
    | none =>
      if ty = 4 ∧ onesSum (bytesAt i.frame pos (4 * frameBits i.frame pos 4 4)) ≠ 0xFFFF then stop (.fail 3)
      else if fragmentEnds i x ty pos then (applyLayer i e pos x, none)
      else
        let base := if natBit (e.at 1 1) 2 then pos + len else pos
        let w := e.at 12 1
        match (if w = 0 then none else reach i.depth i.n (fieldEnd base (e.at 10 2) w)) with
        | some r => stop r
        | none => (applyLayer i e pos x, some (nextNode p node e (frameBits i.frame base (e.at 10 2) w), pos + len))

/-- The parse from a node (R116-R122); `fuel` exceeds the greatest LAYER_LIMIT. -/
def parseFrom (i : ParseIn) (p : Pipe) : Nat → Nat → Nat → Parsed → Parsed
  | 0, _, _, x => x
  | fuel + 1, node, pos, x =>
    match parseLayer i p node pos x with
    | (y, none) => y
    | (y, some (next, q)) =>
      if next = 0x40 then y
      else if next = 0x41 then { y with stop := some (.fail 2) }
      else parseFrom i p fuel next q y

/-- The parse of a frame whose bytes before the FCS are `frame` (R116, R123). -/
def parseFrame (p : Pipe) (frame : List Byte) : Parsed :=
  parseFrom { frame := frame, n := frame.length, depth := p.depth, limit := p.layerLimit } p 14 0 0 {}

/-! ### The key -/

/-- The beginning of occurrence `n` of a layer type, or of the last one for 7 (Table 2.8). -/
def occurrence (x : Parsed) (ty n : Nat) : Option Nat :=
  let l := (x.seen.reverse.filter (fun q => q.1 == ty)).map (·.2)
  if n = 7 then l.getLast? else l[n]?

/-- An extractor's key field (R125; log entry 43); the frame ends before its FCS (log entry 114). -/
def keyField (p : Pipe) (frame : List Byte) (x : Parsed) (e : ParseEntry) : Nat :=
  let w := e.at 4 1
  if w = 0 then 0
  else match occurrence x (e.at 0 1) (e.at 1 1) with
    | none => 0
    | some pos =>
      if (reach p.depth frame.length (fieldEnd pos (e.at 2 2) w)).isSome then 0 else frameBits frame pos (e.at 2 2) w

/-- The key of a frame (Key, Table 2.9, R126). -/
def frameKey (p : Pipe) (port sub : Nat) (frame : List Byte) (x : Parsed) : List Nat :=
  (List.range 30).map (fun f => keyField p frame x (tabGet {} p.extractors f)) ++
    [packNat [(port, 6), (sub, 3), (0, 1), (b2n x.ptpEvent, 1), (b2n x.nonFirst, 1), (x.layers, 4)],
     packNat [(x.status, 8), (0, 2), (x.labels, 3), (x.tags, 3)]]

/-- The receive record (Table 2.2). -/
def receiveRecord (t : PtpTime) (port sub : Nat) (x : Parsed) : List Byte :=
  beBytes 6 t.sec.toNat ++ beBytes 4 t.ns.toNat ++
    [BitVec.ofNat 8 port, BitVec.ofNat 8 sub, BitVec.ofNat 8 x.layers, BitVec.ofNat 8 x.status] ++
    beBytes 2 x.rtpOffset ++ beBytes 4 x.rtpSsrc ++ beBytes 2 x.rtpSeq ++ beBytes 4 x.rtpTs ++ beBytes 2 x.l3 ++ beBytes 2 x.l4 ++
    [BitVec.ofNat 8 (packNat [(b2n x.ptpEvent, 1), (b2n x.nonFirst, 1), (b2n x.inner, 1)]), 0]

end Sys2Proof.Machine
end

