-- ==== Sys2Proof/Machine/PtpOps.lean ====
section
/-!
DEFINITION. The PTP clock (02_line_ports_and_classifier.md, Time and timestamps; R95-R99): its cycle, which is also what the block does
while no command waits (log entry 3), and a step of its time.
-/
namespace Sys2Proof.Machine

/-- Change the PTP clock. -/
def updPtp (f : PtpClock → PtpClock) (s : State) : State := { s with line := { s.line with ptp := f s.line.ptp } }

/-- Nanoseconds in a second. -/
def giga : Nat := 1000000000

/-- A PTP time as a number of 2^-32 ns. -/
def ptpUnits (c : PtpClock) : Nat := (c.time.sec.toNat * giga + c.time.ns.toNat) * 2 ^ 32 + c.frac.toNat

/-- The clock at a number of 2^-32 ns. -/
def ptpAt (u : Nat) (c : PtpClock) : PtpClock :=
  { c with
    time := { sec := BitVec.ofNat 48 (u / 2 ^ 32 / giga), ns := BitVec.ofNat 32 (u / 2 ^ 32 % giga) }
    frac := BitVec.ofNat 32 (u % 2 ^ 32) }

/-- One cycle of the PTP clock: 2 ns × (1 + A × 2^-16 × 10^-9), the fraction that does not fit carried on (R95, R96); it stands still while
an L3 or L4 source is asserted (Table 13.2) and after a trip (R758). -/
def ptpCycle (s : State) : State :=
  if s.pow.tripped || inReset s then s else
  let c := s.line.ptp
  let total : Int := (c.rem : Int) + c.adj.toInt * 2 ^ 33
  let unit : Int := 2 ^ 16 * 10 ^ 9
  let u := ((ptpUnits c : Int) + 2 ^ 33 + total / unit).toNat
  let s' := updPtp (fun c => { ptpAt u c with rem := (total % unit).toNat }) s
  if s'.line.ptp.time.sec = c.time.sec then s' else { s' with sh := { s'.sh with realign := false } }

end Sys2Proof.Machine
end

