-- ==== Sys2Proof/Machine/LineOps.lean ====
section
/-!
DEFINITION. Line ports: modes, links, PFC and timestamps (02_line_ports_and_classifier.md, Port modes, PFC and MAC control, Time;
R77, R86-R94, R101-R103, R183, R184, R767, R768).
-/
namespace Sys2Proof.Machine

/-! ### Modes -/

/-- Subports, lanes per subport, Gbit/s per subport and PAM4 of a mode (Table 2.1). -/
def modeRow (mode : Nat) : Nat × Nat × Nat × Bool :=
  match mode with
  | 1 => (1, 4, 200, true) | 2 => (1, 2, 200, true) | 3 => (2, 2, 100, true) | 4 => (2, 1, 100, true)
  | 5 => (2, 4, 100, false) | 6 => (4, 1, 50, true) | 7 => (8, 1, 25, false) | _ => (0, 0, 1, false)

/-- The mode of a configured port. -/
def portMode (x : Port) : Nat × Nat × Nat × Bool := modeRow (if x.configured then x.mode.toNat else 0)

/-- Is a subport one of its port's mode? -/
def subInMode (s : State) (k : Nat) : Bool := decide (k % 8 < (portMode (portOf s (k / 8))).1)

/-- Does the port train its links (R79, R80)? -/
def trains (x : Port) : Bool := (portMode x).2.2.2 && x.interface == 1

/-- The physical lane of a logical lane under a map. -/
def physLane (map : BitVec 32) (l : Nat) : Nat := natBits map.toNat (3 * l) 3

/-- Physical receive lanes of a subport (Port modes). -/
def subLanes (x : Port) (sub : Nat) : List Nat :=
  let n := (portMode x).2.1
  (List.range n).map (fun i => physLane x.rxMap (sub * n + i))

/-- A mask of numbered bits. -/
def laneMask (ls : List Nat) : BitVec 8 := ls.foldl (fun m l => m ||| BitVec.ofNat 8 (2 ^ l)) 0

/-- Count on a MAC counter of a subport (Table 2.15). -/
def countMac (k i n : Nat) (s : State) : State := count .mac k i n s

/-! ### Times -/

/-- Gbit/s of a subport's mode, at least 1. -/
def subRate (s : State) (k : Nat) : Nat := max 1 (portMode (portOf s (k / 8))).2.2.1

/-- A whole number of ns within `b` ns of a time, which one an operand tells (R103). -/
def stampWithin (b : Nat) (t : BallTime) (jitter : Nat) : Int :=
  let up := b2n t.part
  t.ns + up - b + ((jitter % (2 * b + 1 - up) : Nat) : Int)

/-- A timestamp of a time on a subport: within ±4 ns of it on PAM4 and within ±2 ns on NRZ modes (R103). -/
def stampOf (s : State) (k : Nat) (t : BallTime) (jitter : Nat) : Int :=
  stampWithin (if (portMode (portOf s (k / 8))).2.2.2 then 4 else 2) t jitter

/-- A time in ns as a PTP time. -/
def ptpOfNs (t : Int) : PtpTime :=
  let u := (t % ((2 ^ 48 * giga : Nat) : Int)).toNat
  { sec := BitVec.ofNat 48 (u / giga), ns := BitVec.ofNat 32 (u % giga) }

/-- The time of a bit at the balls: the clock's, `bytes` byte times later, with a delay in ps (R101, R102). -/
def ballTime (s : State) (k : Nat) (bytes : Int) (delay : BitVec 32) : BallTime :=
  let r := subRate s k
  let t := ((ptpUnits s.line.ptp * 1000 * r : Nat) : Int) + (bytes * 8000 + delay.toInt * r) * 2 ^ 32
  let d : Int := ((1000 * r * 2 ^ 32 : Nat) : Int)
  { ns := t / d, part := t % d != 0 }

/-! ### PFC -/

/-- Owner 8p + c of a class on a subport. -/
def lineOwner (k c : Nat) : Nat := 8 * (k / 8) + c

/-- Is a line class lossless by the profile of the current furnish? -/
def classLossless (s : State) (o : Nat) : Bool := (ownerProf s.sh.cur o).lossless

/-- Has the power-fail sequence, or one before a sealed reset, stopped admission (Table 9.14 step 1)? -/
def admissionStopped (s : State) : Bool := s.pow.current == .s2 || s.ev.pf != .idle

/-- Does PFC XOFF hold for a class on a subport: R181 with R183, budget mode, a ceiling, a device freeze or a wake from S1a (R184,
R496, R687, R725, Table 9.14)? -/
def pfcHeld (s : State) (k c : Nat) : Bool :=
  let o := lineOwner k c
  (ownerXoff s o && (tabGet 0 s.cab.pfcOn o).getLsbD k) || ((ownerUse s o).budget && (tabGet 0 s.cab.pfcBudget o).getLsbD k) ||
  (tabFind s.sh.ceilingXoff (k * 8 + c)).isSome ||
  ((s.sec.deviceFrozen || s.pow.waking || admissionStopped s) && classLossless s o)

/-- Priorities a subport asserts: those enabled on its port that carry a held class (R92, R184, R768). -/
def pfcAsserted (s : State) (k : Nat) : BitVec 8 :=
  (List.range 8).foldl (fun m c =>
    if pfcHeld s k c && subPfc s k c then m ||| BitVec.ofNat 8 (2 ^ classPrio s k c) else m) 0

/-- Is a class of a subport paused by its partner (R90, R91)? A pause stands by its priority until it ends, and the CLASS_MAP in force
tells whom it stops, whatever a PFC_CONFIG has changed since (log entry 110). -/
def classPaused (s : State) (k c : Nat) : Bool := (tabFind (subOf s k).paused (classPrio s k c)).isSome

/-- PFC quanta received for the enabled priorities (R89-R91). -/
def pauseFrom (k : Nat) (enable : BitVec 8) (quanta : List (BitVec 16)) (s : State) : State :=
  let on := enable &&& (pfcConf s k).enable
  updSub k (fun x => { x with paused := (maskList 8 on.toNat).foldl (fun t p =>
    let q := quanta.getD p 0
    if q = 0 then tabErase t p else tabPut t p q) x.paused }) s

/-! ### Links -/

/-- Discard every copy queued to a subport, counted as LINK_DROP (R219). -/
def discardQueues (k : Nat) (s : State) : State :=
  (List.range 8).foldl (fun a q =>
    let l := queueOf a k q
    l.foldl (fun b c => dropCopy c (count .queue (queueKey k q) 4 1 b)) (setQueue k q [] a)) s

/-- A subport's link goes down: its queued copies are discarded; a frame once started completes, and counts nothing when it ends (R219,
R222, R767, Table 2.17). Every pause of its priorities ends (log entry 149). -/
def linkDown (k : Nat) (s : State) : State :=
  if !(subOf s k).linkUp then s
  else
    let s := updSub k (fun x => { x with linkUp := false, trained := false, paused := [], xoffSent := 0, refreshDue := false }) s
    let s := { s with cab := { s.cab with egress := tabUpd {} s.cab.egress k (fun g => { g with
      sending := g.sending.map (fun f => { f with counted := false }) }) } }
    discardQueues k (raise (64 + k / 8) [(k % 8, 8), (0, 8)] s)

/-- A subport's link comes up (R79, R767, Table 2.17). -/
def linkUp (k : Nat) (s : State) : State :=
  let p := k / 8
  let x := portOf s p
  let m := laneMask (subLanes x (k % 8))
  let s := setPort p { x with signal := x.signal ||| m, lock := x.lock ||| m } s
  raise (64 + p) [(k % 8, 8), (1, 8)] (updSub k (fun y => { y with linkUp := true, trained := trains x }) s)

end Sys2Proof.Machine
end

