-- ==== Sys2Proof/Machine/LineInstr.lean ====
section
/-!
DEFINITION. Happenings of the line ports, the clock pins and the classifier's registers (02_line_ports_and_classifier.md, Port modes,
Time, Rule updates; 11_integrity_and_fault_containment.md, Single-fault catalogue; R79, R82, R98, R112, R113, R130-R135, R219, R600).
-/
namespace Sys2Proof.Machine

/-! ### Links and lanes -/

/-- May a subport's link come up or train: its port is enabled, it is of the mode, and its link is down? -/
def linkDownIn (s : State) (k : Nat) : Bool := (portOf s (k / 8)).enabled && subInMode s k && !(subOf s k).linkUp

/-- LINK_UP: training or lock is complete on lanes of which none is lost (R79, R80, R600). -/
def execLinkUp (sub : BitVec 5) (s : State) : Res :=
  let k := sub.toNat
  let x := portOf s (k / 8)
  .next (if linkDownIn s k && (x.lost &&& laneMask (subLanes x (k % 8))) == 0 then linkUp k s else s)

/-- LINK_DOWN: a subport's link is lost (R219). -/
def execLinkDown (sub : BitVec 5) (s : State) : Res := .next (linkDown sub.toNat s)

/-- LINK_TRAINING_TIMEOUT: training has not completed within 500 ms, and begins again (R82). -/
def execLinkTrainingTimeout (sub : BitVec 5) (s : State) : Res :=
  let k := sub.toNat
  .next (if linkDownIn s k && trains (portOf s (k / 8)) then raise (82 + k / 8) [] s else s)

/-- Does a subport of the port's mode use a physical receive lane? -/
def usesLane (x : Port) (i lane : Nat) : Bool := decide (i < (portMode x).1) && (subLanes x i).contains lane

/-- LANE_LOST: a receive lane in use is declared lost, and its subports go down (R219, R600). -/
def execLaneLost (port : BitVec 2) (lane : BitVec 3) (s : State) : Res :=
  let p := port.toNat
  let x := portOf s p
  let m := BitVec.ofNat 8 (2 ^ lane.toNat)
  .next (
    if !x.enabled || !x.lock.getLsbD lane.toNat || !(List.range 8).any (fun i => usesLane x i lane.toNat) then s
    else
      let s := raise 493 [(p, 8), (lane.toNat, 8)] (setFlag 0x600 11 (setPort p { x with lock := x.lock &&& ~~~ m, lost := x.lost ||| m } s))
      ((List.range 8).filter (fun i => usesLane x i lane.toNat)).foldl (fun a i => linkDown (8 * p + i) a) s)

/-- LANE_REGAINED: a lost lane has lock again, and its subports retrain (R79, R80, R600). -/
def execLaneRegained (port : BitVec 2) (lane : BitVec 3) (s : State) : Res :=
  let p := port.toNat
  let x := portOf s p
  let m := BitVec.ofNat 8 (2 ^ lane.toNat)
  .next (
    if !x.enabled || !x.lost.getLsbD lane.toNat then s
    else raise 493 [(p, 8), (lane.toNat, 8)] (setPort p { x with lock := x.lock ||| m, lost := x.lost &&& ~~~ m } s))

/-! ### Clock pins -/

/-- PPS_IN_EDGE: a rising edge of PPS_IN is timestamped and kept; its deviation is bounded as R103 bounds the widest (R113). -/
def execPpsInEdge (jitter : BitVec 8) (s : State) : Res :=
  .next (
    if s.line.ptp.inEnable then
      let edge : BallTime := { ns := (ptpUnits s.line.ptp / 2 ^ 32 : Nat), part := s.line.ptp.frac != 0 }
      raise 72 [] (updPtp (fun c => { c with ppsIn := ptpOfNs (stampWithin 4 edge jitter.toNat) }) s)
    else s)

/-- PPS_OUT_PULSE: while enabled, PPS_OUT rises at a PTP second boundary and falls after PPS_WIDTH (R112). -/
def execPpsOutPulse (level : Bool) (s : State) : Res :=
  .next (if s.line.ptp.outEnable then updPtp (fun c => { c with ppsOut := level }) s else s)

/-- REF10M_LOSS: the 10 MHz input is lost; when it is the selected one, locked or not, the PLL holds its frequency and event source 86
is raised (R98). -/
def execRef10mLoss (s : State) : Res :=
  let c := s.line.ptp
  .next (
    if !c.refIn then s
    else if c.ref10 then raise 86 [] (updPtp (fun c => { c with refIn := false, locked := false }) s)
    else updPtp (fun c => { c with refIn := false }) s)

/-- REF10M_RELOCK: the 10 MHz input is present and the PLL, where it is selected, locks to it; after a loss source 86 tells it
(R98). -/
def execRef10mRelock (s : State) : Res :=
  let c := s.line.ptp
  .next (
    if !c.ref10 then updPtp (fun c => { c with refIn := true }) s
    else if !c.refIn then raise 86 [] (updPtp (fun c => { c with refIn := true, locked := true }) s)
    else updPtp (fun c => { c with locked := true }) s)

/-! ### Rules and comparators -/

def ruleOf (s : State) (p r : Nat) : Rule := tabGet {} (pipeOf s p).rules r
def setRule (p r : Nat) (x : Rule) (s : State) : State := updPipe p (fun q => { q with rules := tabSet {} q.rules r x }) s
def comparatorOf (s : State) (p n : Nat) : Comparator := tabGet {} (pipeOf s p).comparators n
def setComparator (p n : Nat) (x : Comparator) (s : State) : State :=
  updPipe p (fun q => { q with comparators := tabSet {} q.comparators n x }) s

/-- A write to word 0x7C of a rule (R131). -/
def ruleControl (p r : Nat) (valid : Bool) (s : State) : State :=
  let x := ruleOf s p r
  setRule p r (if valid then { x with active := x.staging, valid := true, bad := false } else { x with valid := false }) s

/-- A write to word 0x4 of a comparator: FIELD joins the staging copy that VALID commits (R131, Table 2.11). -/
def comparatorControl (p n : Nat) (value : Nat) (s : State) : State :=
  let x := comparatorOf s p n
  let f := BitVec.ofNat 5 value
  setComparator p n (if natBit value 31 then { x with stagingField := f, active := x.staging, field := f, valid := true, bad := false }
    else { x with valid := false }) s

/-- RULE_VALID_WRITE: a rule commits its staging copy, or becomes invalid (R131). -/
def execRuleValidWrite (pipe : BitVec 3) (rule : BitVec 13) (value : BitVec 32) (s : State) : Res :=
  .next (if hostOpen s && decide (pipe.toNat < 5) then ruleControl pipe.toNat rule.toNat (value.getLsbD 0) s else s)

/-- COMPARATOR_VALID_WRITE: a comparator commits its staging copy, or becomes invalid (R131). -/
def execComparatorValidWrite (pipe : BitVec 3) (index : BitVec 8) (value : BitVec 32) (s : State) : Res :=
  .next (if hostOpen s && decide (pipe.toNat < 5) then comparatorControl pipe.toNat index.toNat value.toNat s else s)

end Sys2Proof.Machine
end

