-- ==== Sys2Proof/Machine/LineCmd.lean ====
section
/-!
DEFINITION. Commands 0x01xx and 0x02xx (02_line_ports_and_classifier.md, Tables 2.18 and 2.19; R22, R77, R83-R85, R87, R95-R99, R101,
R102, R107, R112, R124-R126, R133, R142, R146, R151-R156, R747, R768, R771, R772).
-/
namespace Sys2Proof.Machine

/-! ### Ports -/

/-- Do the used lanes of a map name different physical lanes (R83)? -/
def lanesDistinct (map n : Nat) : Bool := decide (((List.range n).map (fun l => natBits map (3 * l) 3)).Nodup)

/-- Logical lanes a mode uses (Table 2.1). -/
def modeLanes (mode : Nat) : Nat := (modeRow mode).1 * (modeRow mode).2.1

/-- PORT_CONFIG (R77, R83-R85, R87, R747). -/
def portConfig : CmdSpec :=
  { op := 0x0101, fixed := 72
    checks := fun s p =>
      let n := modeLanes (leAt p 1 1)
      [inRange p 0 1 0 3,
       (1, decide (1 ≤ leAt p 1 1) && decide (leAt p 1 1 ≤ 7) && !(s.pow.clkMode == 1 && (leAt p 1 1 == 2 || leAt p 1 1 == 4))),
       (2, leAt p 2 1 == 0 || (leAt p 2 1 == 1 && (modeRow (leAt p 1 1)).2.2.2 == false)), inRange p 3 1 0 1,
       (4, lanesDistinct (leAt p 4 4) n && decide (leAt p 4 4 < 2 ^ 24)), (8, lanesDistinct (leAt p 8 4) n && decide (leAt p 8 4 < 2 ^ 24)),
       inRange p 14 2 1518 9216,
       (16, (List.range n).all (fun l => decide (1 ≤ leAt p (16 + l) 1) && decide (leAt p (16 + l) 1 ≤ 5)))]
    body := fun s _ p =>
      let x := portOf s (leAt p 0 1)
      if x.enabled then refuse s 0x03
      else okCmd (setPort (leAt p 0 1) { x with
        configured := true, mode := BitVec.ofNat 8 (leAt p 1 1), fecNone := leAt p 2 1 == 1, interface := BitVec.ofNat 8 (leAt p 3 1)
        rxMap := BitVec.ofNat 32 (leAt p 4 4), txMap := BitVec.ofNat 32 (leAt p 8 4), rxPol := BitVec.ofNat 8 (leAt p 12 1)
        txPol := BitVec.ofNat 8 (leAt p 13 1), maxFrame := leAt p 14 2, presets := BitVec.ofNat 64 (leAt p 16 8)
        macs := bytesAt p 24 48 } s) }

/-- The physical lanes of a map that the logical lanes of the port's mode name (R84). -/
def namedLanes (x : Port) (map : BitVec 32) : BitVec 8 := laneMask ((List.range (modeLanes x.mode.toNat)).map (physLane map))

/-- A line port is enabled: the lanes its logical lanes name are powered, every other is powered down (R84). -/
def powerPort (x : Port) : Port := { x with enabled := true, rxPower := namedLanes x x.rxMap, txPower := namedLanes x x.txMap }

/-- A line port is disabled: its links go down, and with no logical lane in use its lanes are powered down (R84, R767; log entry
107). -/
def disablePort (p : Nat) (s : State) : State :=
  let s := (List.range 8).foldl (fun a i => linkDown (8 * p + i) a) s
  setPort p { portOf s p with enabled := false, signal := 0, lock := 0, lost := 0, rxPower := 0, txPower := 0 } s

/-- PORT_ENABLE (R22, R79, R80). -/
def portEnable : CmdSpec :=
  { op := 0x0102, fixed := 4, checks := fun _ p => [inRange p 0 1 0 3, inRange p 1 1 0 1, rsv p 2 2]
    body := fun s _ p =>
      let x := portOf s (leAt p 0 1)
      if !x.configured || (leAt p 1 1 == 1 && !ticking s) then refuse s 0x03
      else if leAt p 1 1 = 1 then okCmd (setPort (leAt p 0 1) (powerPort x) s)
      else okCmd (if x.enabled then disablePort (leAt p 0 1) s else s) }

/-- A bitmap over the subports of a port. -/
def subBitmap (s : State) (p : Nat) (f : Subport → Bool) : Nat :=
  packNat ((List.range 8).map (fun i => (b2n (f (subOf s (8 * p + i))), 1)))

/-- PORT_STATUS. -/
def portStatus : CmdSpec :=
  { op := 0x0103, fixed := 1, checks := fun _ p => [inRange p 0 1 0 3]
    body := okReply (fun s p =>
      let x := portOf s (leAt p 0 1)
      layout [(x.mode.toNat, 1), (subBitmap s (leAt p 0 1) (·.linkUp), 1), (subBitmap s (leAt p 0 1) (·.trained), 1),
        (b2n x.enabled, 1), (x.signal.toNat, 1), (x.lock.toNat, 1)]) }

/-- PORT_COUNTERS (R151, R152, Table 2.15). -/
def portCounters : CmdSpec :=
  { op := 0x0104, fixed := 3, checks := fun _ p => [inRange p 0 1 0 3, inRange p 1 1 0 7, inRange p 2 1 0 1]
    body := counterBody .mac (fun p => 8 * leAt p 0 1 + leAt p 1 1) 2 16 }

/-- A subport whose transmit MAC is at work keeps the PFC settings in force until its next frame boundary; while it is idle, every moment
is one (R775, Table 2.16; log entry 148). -/
def holdPfc (k : Nat) (s : State) : State :=
  if (tabGet {} s.cab.egress k).sending.isSome then updSub k (fun x => { x with pfcOld := some (pfcConf s k) }) s else s

/-- PFC_CONFIG (R16, R89, R768). -/
def pfcConfig : CmdSpec :=
  { op := 0x0105, fixed := 10
    checks := fun _ p => [inRange p 0 1 0 3, rsv p 5 1, (8, decide (1 ≤ leAt p 8 2) && decide (leAt p 8 2 < leAt p 6 2))]
    body := okState (fun s p => setPort (leAt p 0 1) { portOf s (leAt p 0 1) with
      pfcEnable := BitVec.ofNat 8 (leAt p 1 1), classMap := BitVec.ofNat 24 (leAt p 2 3), pfcQuanta := BitVec.ofNat 16 (leAt p 6 2)
      pfcRefresh := BitVec.ofNat 16 (leAt p 8 2) } ((List.range 8).foldl (fun a i => holdPfc (8 * leAt p 0 1 + i) a) s)) }

/-! ### Time -/

/-- What a step of the PTP clock does besides: while alignment is enabled, ticks are not aligned until the next second boundary, and
ALIGN_LOST tells so whatever ALIGNED was (R25, R26, R99). -/
def ptpStepped (s : State) : State :=
  let s := updSheets (fun x => { x with aligned := false, realign := x.alignEn }) s
  let s := if s.sh.alignEn then raise 2 [] (setFlag 0x40C 0 s) else s
  raise 73 [] s

/-- PTP_SET_TIME (R95, R99). -/
def ptpSetTime : CmdSpec :=
  { op := 0x0110, fixed := 10, checks := fun _ p => [inRange p 6 4 0 999999999]
    body := okState (fun s p => ptpStepped (updPtp (fun c => { c with
      time := { sec := BitVec.ofNat 48 (leAt p 0 6), ns := BitVec.ofNat 32 (leAt p 6 4) }, frac := 0 }) s)) }

/-- PTP_STEP (R99); a sum outside the 48 bits of seconds wraps (log entry 108). -/
def ptpStep : CmdSpec :=
  { op := 0x0111, fixed := 8
    body := okState (fun s p => ptpStepped (updPtp (fun c =>
      ptpAt (((ptpUnits c : Int) + sInt 64 (leAt p 0 8) * 2 ^ 32) % ((2 ^ 48 * giga * 2 ^ 32 : Nat) : Int)).toNat c) s)) }

/-- PTP_FREQ (R96). -/
def ptpFreq : CmdSpec :=
  { op := 0x0112, fixed := 8
    checks := fun _ p => [(0, decide ((sInt 64 (leAt p 0 8)).natAbs ≤ 500000 * 65536))]
    body := okState (fun s p => updPtp (fun c => { c with adj := BitVec.ofNat 64 (leAt p 0 8) }) s) }

/-- PTP_QUERY (R113). -/
def ptpQuery : CmdSpec :=
  { op := 0x0113
    body := okReply (fun s _ =>
      let c := s.line.ptp
      ptpLe c.time ++ ptpLe c.ppsIn ++ layout [(c.adj.toNat, 8), (b2n c.ref10, 1), (b2n c.locked, 1)]) }

/-- PTP_PORT_DELAY (R101, R102). -/
def ptpPortDelay : CmdSpec :=
  { op := 0x0114, fixed := 12, checks := fun _ p => [inRange p 0 1 0 3, inRange p 1 1 0 7, rsv p 2 2]
    body := okState (fun s p => updSub (8 * leAt p 0 1 + leAt p 1 1) (fun x => { x with
      ingressDelay := BitVec.ofNat 32 (leAt p 4 4), egressDelay := BitVec.ofNat 32 (leAt p 8 4) }) s) }

/-- PPS_CONFIG (R112, R113); the level of an output that is not enabled again is open (log entry 2). -/
def ppsConfig : CmdSpec :=
  { op := 0x0115, fixed := 4, checks := fun _ p => [inRange p 0 1 0 1, inRange p 1 1 0 1, inRange p 2 2 1 500]
    body := okState (fun s p =>
      let on := leAt p 0 1 == 1
      let was := s.line.ptp.outEnable
      let level := if on then was && s.line.ptp.ppsOut else if was then natBit (freeNow s) 0 else s.line.ptp.ppsOut
      updPtp (fun c => { c with outEnable := on, inEnable := leAt p 1 1 == 1, ppsWidth := BitVec.ofNat 16 (leAt p 2 2), ppsOut := level })
        (if was && !on then drawFree s else s)) }

/-- TX_TIMESTAMP_READ (R107, Table 2.3). -/
def txTimestampRead : CmdSpec :=
  { op := 0x0116, fixed := 2, checks := fun _ p => [inRange p 0 1 0 3, inRange p 1 1 1 14]
    body := fun s _ p =>
      let x := portOf s (leAt p 0 1)
      let out := x.txStamps.take (leAt p 1 1)
      okCmd (setPort (leAt p 0 1) { x with txStamps := x.txStamps.drop (leAt p 1 1) } s) (leBytes 1 out.length ++ zeros 15 ++ out.flatten) }

/-- CLOCK_REF_SELECT (R97, R98); whether the PLL is locked to a newly selected 10 MHz input that is present is open (log entry 2). -/
def clockRefSelect : CmdSpec :=
  { op := 0x0117, fixed := 1, checks := fun _ p => [inRange p 0 1 0 1]
    body := okState (fun s p =>
      let ten := leAt p 0 1 == 1
      if ten == s.line.ptp.ref10 then s
      else if ten then updPtp (fun c => { c with ref10 := true, locked := s.line.ptp.refIn && natBit (freeNow s) 0 }) (drawFree s)
      else updPtp (fun c => { c with ref10 := false, locked := true }) s) }

/-! ### The classifier -/

/-- Field PIPE. -/
def pipeField (p : List Byte) : Nat × Bool := inRange p 0 1 0 4

/-- PIPE_CONFIG (R119, R123, R142). -/
def pipeConfig : CmdSpec :=
  { op := 0x0201, fixed := 12
    checks := fun _ p => [pipeField p, inRange p 1 1 1 12, inRange p 2 2 64 320, inRange p 4 4 1 2000000, inRange p 8 2 1 65535,
      inRange p 10 1 0 15, inRange p 11 1 0 15]
    body := okState (fun s p => updPipe (leAt p 0 1) (fun x => { x with
      layerLimit := leAt p 1 1, depth := leAt p 2 2, limitRate := leAt p 4 4, limitBurst := leAt p 8 2
      missRing := leAt p 10 1, failRing := leAt p 11 1, level := min x.level (leAt p 8 2 * 65536) }) s) }

/-- A next node: 0 to 63, 0x40 or 0x41. -/
def nodeTarget (p : List Byte) (off : Nat) : Nat × Bool := (off, decide (leAt p off 1 ≤ 0x41))

/-- The checks of a parse node entry at offset 4 (Table 2.5, R771). -/
def nodeChecks (p : List Byte) : List (Nat × Bool) :=
  let valid := natBit (leAt p 5 1) 0
  let on := fun (b : Bool) (c : Nat × Bool) => (c.1, !(valid && b) || c.2)
  let mode := leAt p 6 1
  [on true (inRange p 4 1 1 0x0E), (5, leAt p 5 1 / 8 == 0), on true (inRange p 6 1 0 2), on (mode == 0) (inRange p 7 1 1 255),
   on (mode == 1) (inRange p 8 2 0 1023), on (mode == 1) (inRange p 10 1 1 8), on (mode == 1) (inRange p 11 1 0 3), rsv p 13 1,
   on (leAt p 16 1 != 0) (inRange p 14 2 0 1023), on true (inRange p 16 1 0 16), on true (nodeTarget p 17), rsv p 18 2]

/-- PARSE_NODE_WRITE (R124, R771). -/
def parseNodeWrite : CmdSpec :=
  { op := 0x0210, fixed := 20, checks := fun _ p => [pipeField p, inRange p 1 1 0 63, rsv p 2 2] ++ nodeChecks p
    body := okState (fun s p => updPipe (leAt p 0 1) (fun x => { x with
      nodes := tabPut x.nodes (leAt p 1 1) { bytes := bytesAt p 4 16 } }) s) }

/-- PARSE_TRANSITION_WRITE (R124, R771, Table 2.6). -/
def parseTransitionWrite : CmdSpec :=
  { op := 0x0211, fixed := 12
    checks := fun _ p =>
      let valid := natBit (leAt p 10 1) 0
      [pipeField p, rsv p 1 1, inRange p 2 2 0 511, (4, !valid || decide (leAt p 4 1 ≤ 63)), (5, !valid || (nodeTarget p 5).2),
       (10, leAt p 10 1 / 2 == 0), rsv p 11 1]
    body := okState (fun s p => updPipe (leAt p 0 1) (fun x => { x with
      transitions := tabPut x.transitions (leAt p 2 2) { bytes := bytesAt p 4 8 } }) s) }

/-- KEY_FIELD_WRITE (R126, Table 2.8). -/
def keyFieldWrite : CmdSpec :=
  { op := 0x0212, fixed := 12
    checks := fun _ p => [pipeField p, inRange p 1 1 0 29, rsv p 2 2, inRange p 4 1 1 0x0E, inRange p 5 1 0 7, inRange p 6 2 0 1023,
      inRange p 8 1 0 16, rsv p 9 3]
    body := okState (fun s p => updPipe (leAt p 0 1) (fun x => { x with
      extractors := tabPut x.extractors (leAt p 1 1) { bytes := bytesAt p 4 8 } }) s) }

/-- RULE_READ (R133). -/
def ruleRead : CmdSpec :=
  { op := 0x0213, fixed := 4, checks := fun _ p => [pipeField p, rsv p 1 1, inRange p 2 2 0 8191]
    body := okReply (fun s p =>
      let r := ruleOf s (leAt p 0 1) (leAt p 2 2)
      (List.range 31).flatMap (fun i => leBytes 4 (if i < 19 then (tabGet 0 r.active i).toNat else 0)) ++ leBytes 4 (b2n r.valid)) }

/-- Offsets of `n` entries of `size` bytes from payload offset 4. -/
def rowOffs (p : List Byte) (size : Nat) : List Nat := (List.range (leAt p 1 1)).map (fun i => 4 + size * i)

/-- The checks of a load of COUNT (offset 1) entries from FIRST (offset 2) of a table of `size` (R156). -/
def loadRange (p : List Byte) (limit size : Nat) : List (Nat × Bool) :=
  [pipeField p, inRange p 1 1 1 limit, (2, decide (leAt p 2 2 + leAt p 1 1 ≤ size))]

/-- ACTION_LOAD (R154, R156, Table 2.12). -/
def actionLoad : CmdSpec :=
  { op := 0x0220, load := true, fixed := 4, extent := fun p => 4 + 16 * leAt p 1 1
    checks := fun _ p => loadRange p 14 8192 ++ (rowOffs p 16).flatMap (fun o =>
      let w := fun i => leAt p (o + 4 * i) 4
      [(o, !natBit (w 0) 4 && (decide (natBits (w 0) 0 4 < 4) || natBits (w 0) 0 4 == 8)),
       (o + 4, natBits (w 1) 21 4 == 0 && decide (natBits (w 1) 16 5 ≤ 16)),
       (o + 8, natBits (w 2) 14 6 == 0 && decide (natBits (w 2) 20 5 ≤ 14))])
    body := okState (fun s p => loadBank (leAt p 0 1) (leAt p 1 1) (fun b => { b with
      actions := putEntries b.actions (leAt p 0 1 * 8192 + leAt p 2 2) ((rowOffs p 16).map (fun o => BitVec.ofNat 128 (leAt p o 16))) }) s) }

/-- METER_PROFILE_LOAD (R146, R154, R156, Table 2.14). -/
def meterProfileLoad : CmdSpec :=
  { op := 0x0221, load := true, fixed := 4, extent := fun p => 4 + 16 * leAt p 1 1
    checks := fun _ p => loadRange p 14 1024 ++ (rowOffs p 16).flatMap (fun o =>
      [(o + 4, decide (leAt p o 4 ≤ leAt p (o + 4) 4)), inRange p (o + 8) 4 9216 16777215, inRange p (o + 12) 4 9216 16777215])
    body := okState (fun s p => loadBank (leAt p 0 1) (leAt p 1 1) (fun b => { b with
      meters := putEntries b.meters (leAt p 0 1 * 1024 + leAt p 2 2) ((rowOffs p 16).map (fun o =>
        { cir := BitVec.ofNat 32 (leAt p o 4), pir := BitVec.ofNat 32 (leAt p (o + 4) 4), cbs := BitVec.ofNat 32 (leAt p (o + 8) 4)
          pbs := BitVec.ofNat 32 (leAt p (o + 12) 4) : MeterProfile })) }) s) }

/-- METER_RESET (R156, R772). -/
def meterReset : CmdSpec :=
  { op := 0x0222, fixed := 6
    checks := fun _ p => [pipeField p, rsv p 1 1, inRange p 4 2 1 1024, (2, decide (leAt p 2 2 + leAt p 4 2 ≤ 1024))]
    body := okState (fun s p => updPipe (leAt p 0 1) (fun x => { x with meters := tabClear x.meters (leAt p 2 2) (leAt p 4 2) }) s) }

/-- CLASSIFIER_COUNTERS (R151, R152). -/
def classifierCounters : CmdSpec :=
  { op := 0x0230, fixed := 2, checks := fun _ p => [pipeField p, inRange p 1 1 0 1]
    body := counterBody .pipe (fun p => leAt p 0 1) 1 12 }

/-- RULE_COUNTERS (R152, R156). -/
def ruleCounters : CmdSpec :=
  { op := 0x0231, fixed := 6
    checks := fun _ p => [pipeField p, inRange p 1 1 0 1, inRange p 4 2 1 14, (2, decide (leAt p 2 2 + leAt p 4 2 ≤ 8192))]
    body := fun s _ p =>
      let ks := (List.range (leAt p 4 2)).map (fun i => leAt p 0 1 * 8192 + leAt p 2 2 + i)
      { state := if leAt p 1 1 = 1 then ks.foldl (fun a k => clearCounters .rule k 2 a) s else s
        result := leBytes 8 s.cntSheet.toNat ++ ks.flatMap (fun k => leBytes 8 (counterSum s .rule k 0) ++ leBytes 8 (counterSum s .rule k 1)) } }

/-- METER_COUNTERS (R152). -/
def meterCounters : CmdSpec :=
  { op := 0x0232, fixed := 4, checks := fun _ p => [pipeField p, inRange p 1 1 0 1, inRange p 2 2 0 1023]
    body := counterBody .meter (fun p => leAt p 0 1 * 1024 + leAt p 2 2) 1 6 }

/-! ### Happenings -/

def execPortConfig (m : BitVec 4) (s : State) : Res := .next (runCmd portConfig m s)
def execPortEnable (m : BitVec 4) (s : State) : Res := .next (runCmd portEnable m s)
def execPortStatus (m : BitVec 4) (s : State) : Res := .next (runCmd portStatus m s)
def execPortCounters (m : BitVec 4) (s : State) : Res := .next (runCmd portCounters m s)
def execPfcConfig (m : BitVec 4) (s : State) : Res := .next (runCmd pfcConfig m s)
def execPtpSetTime (m : BitVec 4) (s : State) : Res := .next (runCmd ptpSetTime m s)
def execPtpStep (m : BitVec 4) (s : State) : Res := .next (runCmd ptpStep m s)
def execPtpFreq (m : BitVec 4) (s : State) : Res := .next (runCmd ptpFreq m s)
def execPtpQuery (m : BitVec 4) (s : State) : Res := .next (runCmd ptpQuery m s)
def execPtpPortDelay (m : BitVec 4) (s : State) : Res := .next (runCmd ptpPortDelay m s)
def execPpsConfig (m : BitVec 4) (s : State) : Res := .next (runCmd ppsConfig m s)
def execTxTimestampRead (m : BitVec 4) (s : State) : Res := .next (runCmd txTimestampRead m s)
def execClockRefSelect (m : BitVec 4) (s : State) : Res := .next (runCmd clockRefSelect m s)
def execPipeConfig (m : BitVec 4) (s : State) : Res := .next (runCmd pipeConfig m s)
def execParseNodeWrite (m : BitVec 4) (s : State) : Res := .next (runCmd parseNodeWrite m s)
def execParseTransitionWrite (m : BitVec 4) (s : State) : Res := .next (runCmd parseTransitionWrite m s)
def execKeyFieldWrite (m : BitVec 4) (s : State) : Res := .next (runCmd keyFieldWrite m s)
def execRuleRead (m : BitVec 4) (s : State) : Res := .next (runCmd ruleRead m s)
def execActionLoad (m : BitVec 4) (s : State) : Res := .next (runCmd actionLoad m s)
def execMeterProfileLoad (m : BitVec 4) (s : State) : Res := .next (runCmd meterProfileLoad m s)
def execMeterReset (m : BitVec 4) (s : State) : Res := .next (runCmd meterReset m s)
def execClassifierCounters (m : BitVec 4) (s : State) : Res := .next (runCmd classifierCounters m s)
def execRuleCounters (m : BitVec 4) (s : State) : Res := .next (runCmd ruleCounters m s)
def execMeterCounters (m : BitVec 4) (s : State) : Res := .next (runCmd meterCounters m s)

end Sys2Proof.Machine
end

