-- ==== Sys2Proof/Machine/SecureOps.lean ====
section
/-!
DEFINITION. Freezes, releases and debug levels (14_security_and_debug.md; R263, R509, R713-R716, R721-R729, R741).
-/
namespace Sys2Proof.Machine

/-- Change the security and debug state. -/
def updSec (f : Secure → Secure) (s : State) : State := { s with sec := f s.sec }

/-- `n` bytes from the device's random source: open values (log entry 2). -/
def randomBytes (s : State) (n : Nat) : List Byte := (List.range n).map (fun i => BitVec.ofNat 8 (Config.free (s.fresh + i)))

/-- The state after drawing `n` random bytes. -/
def drawBytes (n : Nat) (s : State) : State := { s with fresh := s.fresh + n }

/-! ### Freezes -/

/-- A thread stops at an instruction boundary; a running one is READY at its release (R722, Table 6.2). -/
def freezeThread (t : Nat) (s : State) : State :=
  let x := thr s t
  if x.st = .frozen then s
  else walk (coreOf t) (setThr t { x with st := .frozen, before := if x.st = .run then .ready else x.st } s)

/-- Threads of a scope: 0 thread, 1 cluster, 2 device. -/
def scopeThreads (scope index : Nat) : List Nat :=
  match scope with | 0 => [index] | 1 => (List.range 64).map (64 * index + ·) | _ => allThreads

/-- Is a scope frozen already? -/
def scopeFrozen (s : State) (scope index : Nat) : Bool :=
  match scope with
  | 0 => decide ((thr s index).st = .frozen)
  | 1 => s.disp.frozen.getLsbD index
  | _ => s.sec.deviceFrozen

/-- Record whether a cluster or the device is frozen. -/
def markFrozen (scope index : Nat) (on : Bool) (s : State) : State :=
  match scope with
  | 0 => s
  | 1 => updDisp (fun d => { d with
      frozen := if on then d.frozen ||| BitVec.ofNat 8 (2 ^ index) else d.frozen &&& ~~~ BitVec.ofNat 8 (2 ^ index) }) s
  | _ => updSec (fun c => { c with deviceFrozen := on }) s

/-- A device freeze stops a running generator, and a first span of 2.048 µs begins (R762, Table 14.6). -/
def stopSpans (scope : Nat) (s : State) : State :=
  if decide (2 ≤ scope) && ticking s then { s with sh := { s.sh with firstSeen := [] } } else s

/-- A freeze begins, by a command or by breakpoint `b` (R722, Table 14.7). -/
def freezeScope (scope index b : Nat) (s : State) : State :=
  let s := stopSpans scope s
  let s := (scopeThreads scope index).foldl (fun a t => freezeThread t a) (markFrozen scope index true s)
  let s := raise 458 [(scope, 8), (index, 32)] (setFlag 0x6C4 3 (count .debug 0 2 1 s))
  trace 5 255 4095 (scope + 256 * b) s

/-- Is a late item still short of its ceiling (R724)? -/
def deadlineOwed (s : State) (x : Thread) : Bool :=
  match x.item with
  | some k => (match itemOf s k with | some i => i.late && !i.ended | none => false)
  | none => false

/-- A frozen thread goes on: its state before freezing, then the exception it is owed (R724; Table 6.2; R330 for a halted one). -/
def thawThread (t : Nat) (s : State) : State :=
  let x := thr s t
  if x.st ≠ .frozen then s
  else
    let s := walk (coreOf t) (setThr t { x with st := x.before, before := .free, owed := 0 } s)
    if halted { x with st := x.before } then s
    else if x.owed = 1 then takeTerminated t s
    else if x.owed = 2 && deadlineOwed s x then enterHandler t 0x20 s
    else s

/-- Does a wider freeze in force cover a thread? -/
def covered (s : State) (t : Nat) : Bool := s.sec.deviceFrozen || s.disp.frozen.getLsbD (clusterOf t)

/-- The debug counters of a device freeze are added at its release (R741). -/
def addDebugCounters (s : State) : State :=
  (List.range 8).foldl (fun a i =>
    let k := cntKey .debug 0 i
    { a with cntTot := tabUpd 0 a.cntTot k (· + tabGet 0 a.cntAcc k), cntAcc := tabErase a.cntAcc k }) s

/-- A freeze is released; threads that a wider freeze covers stay FROZEN, and the end of a device freeze counts as a PTP step
while ALIGNED (R724, R726, R741). Whether the sheet that runs on is a new one for the sources reported once per sheet, the spec does not
say: it is none (R762; log entry 150). -/
def releaseScope (scope index : Nat) (s : State) : State :=
  let s := markFrozen scope index false s
  let ts := (scopeThreads scope index).filter (fun t => scope == 0 || !covered s t)
  let s := ts.foldl (fun a t => thawThread t a) s
  let s := trace 5 255 4095 (scope + 256 * 255) (raise 458 [(scope, 8), (index, 32)] (setFlag 0x6C4 4 s))
  if scope = 2 then
    let s := addDebugCounters s
    if s.sh.aligned then ptpStepped s else s
  else s

/-- A DEBUG_STEP ends: its command completes with the thread's PC and the instructions completed (R729). -/
def stepEnds (s : State) : State :=
  match s.sec.stepMbx with
  | none => s
  | some (m, u) =>
    let left := match s.cores.stepping with | some (_, n) => n | none => 0
    finishCmd m 0 0 (leBytes 2 (thr s u).pc.toNat ++ leBytes 2 (leAt (mbxPayload s m) 2 2 - left))
      (updSec (fun c => { c with stepMbx := none }) { s with cores := { s.cores with stepping := none } })

/-- Release every freeze, and end a DEBUG_STEP (R714, R715, R721; log entry 84). -/
def releaseAll (s : State) : State :=
  let s := stepEnds s
  let s := if s.sec.deviceFrozen then releaseScope 2 0 s else s
  let s := (List.range 8).foldl (fun a k => if a.disp.frozen.getLsbD k then releaseScope 1 k a else a) s
  ((s.cores.threads.filter (fun p => p.2.st = .frozen)).map (·.1)).foldl (fun a t => releaseScope 0 t a) s

/-! ### Levels -/

/-- Release every freeze, disable every breakpoint and clear CORE_DEBUG (R714). -/
def endStops (s : State) : State :=
  let s := updSec (fun c => { c with breakpoints := c.breakpoints.map (fun b => (b.1, { b.2 with enable := false })) }) (releaseAll s)
  { s with cores := { s.cores with mulTrap := 0 } }

/-- The sheets of an attach of D2 or D3 (R509, R716): FORCE_LO, written whenever the control block has its place, and the
span that the seals report. -/
def noteAttach (on : Bool) (s : State) : State :=
  let n := s.sh.sheet
  let force := fun (x : State) => if x.ev.configured || evActive x then putField (x.ev.ctrlBase + 8) 4 ((n + 1).toNat % 2 ^ 32) x else x
  match on, s.ev.d2From with
  | true, none => force (updEv (fun e => { e with d2From := some n }) s)
  | true, some _ => force s
  | false, some a => force (updEv (fun e => { e with d2From := none, d2Spans := e.d2Spans ++ [(a, n)] }) s)
  | false, none => s

/-- A debug level comes into force; D0 holds no trace (R713, R714, R716, R720, Table 14.12). -/
def setLevel (level : Nat) (path : Bool) (s : State) : State :=
  let old := s.sec.level
  let s := updSec (fun c => { c with level := level, path := path }) s
  let s := if level < 2 && 2 ≤ old then endStops s else s
  let s := if level = 0 then updSec (fun c => { c with trace := { c.trace with enabled := false, writing := false } }) s else s
  let s := if 2 ≤ level || 2 ≤ old then noteAttach (decide (2 ≤ level)) s else s
  if level = old then s
  else raise 456 [(level, 8), (b2n path, 8)] (setFlag 0x6C4 (if old < level then 0 else 1) s)

/-- A happening of debug attaches a level (R713, R741). -/
def attachLevel (level : Nat) (s : State) : State :=
  setLevel level false (if level = 0 then s else count .debug 0 0 1 s)

/-- At entry to S2 every freeze and every halt of the management processor end, and the level is D0 (R721). -/
def detachForS2 (s : State) : State :=
  setLevel 0 s.sec.path (updSec (fun c => { c with mpHalted := false, mpMem := [] }) (releaseAll s))

end Sys2Proof.Machine
end

