-- ==== Sys2Proof/Machine/ResetOps.lean ====
section
/-!
DEFINITION. The reset levels, the boot and the beginning of S2 (13_reset_boot_and_power_states.md; R9, R73, R191, R281, R325, R341,
R368, R423, R560, R658-R682, R691-R695, R703, R709, R710, R715, R721, R753, R758, R759, R772, R778).
-/
namespace Sys2Proof.Machine

/-- Change the power state's registers. -/
def updPow (f : Power → Power) (s : State) : State := { s with pow := f s.pow }

/-! ### What L2 clears (Table 13.2) -/

/-- Does an L2 reset reach a lock: is it owned by one of identities 0 to 511 and 544 to 573 (R368)? -/
def l2Lost (l : Lock) : Bool := decide (l.owner.toNat < 512) || (decide (544 ≤ l.owner.toNat) && decide (l.owner.toNat ≤ 573))

/-- Locks of the identities an L2 reset reaches are released under cause 6, and no thread waits any more (R368). -/
def l2Lock (k : Nat) (l : Lock) : Lock :=
  if l2Lost l then { owner := 4095, last := l.owner, broken := if (lockUnit k).isSome then 0 else 6, waiters := [] } else { l with waiters := [] }

/-- The general locks that an L2 reset breaks are counted and reported (R364, R368). -/
def noteL2Locks (s : State) : State :=
  let ks := (s.dov.locks.filter (fun p => l2Lost p.2 && (lockUnit p.1).isNone)).map (·.1)
  if ks.isEmpty then s else raiseFirst 203 0 [] (count .dovetail 0 4 ks.length (setFlag 0x4C0 4 s))

/-- A channel emptied at its configured size. -/
def emptyChannel (c : Channel) : Channel := { size := c.size, reserved := c.reserved, nextClaim := c.reserved }

/-- A handle whose cells are freed. -/
def clearHandle (h : Handle) : Handle := { gen := h.gen, used := h.used }

/-- The seeds of the admission points: SEED rotated left by 6 × a (R191). -/
def seedLfsr (seed : BitVec 32) : Tab (BitVec 32) := (List.range 5).map (fun a => (a, seed.rotateLeft (6 * a)))

/-- The scopes of the counters a reset of the classifier pipelines clears. -/
def pipeCounters (t : Tab Nat) : Tab Nat :=
  t.filter (fun p => !([Scope.pipe, Scope.rule, Scope.meter]).any (fun c => p.1 / 2 ^ 40 == c.ctorIdx))

/-- Port C keeps its configuration and its link goes down (COP_STATE.LINK, Table 8.11). -/
def l2Link (l : Tabino) : Tabino :=
  { enabled := l.enabled, laneMap := l.laneMap, rxPol := l.rxPol, txPol := l.txPol, opTimeout := l.opTimeout }

/-- Classifier pipelines, furnish banks, Cabinet, counters (R73, R191, R210). -/
def l2Datapath (s : State) : State :=
  let s := (List.range 4).foldl (fun a p => if (portOf a p).enabled then disablePort p a else a) s
  let s := updSheets (fun x => { x with
    furnish := 0, old := none, cur := { period := x.cur.period, window := x.cur.window }, next := none, pending := none
    ceilingXoff := [], xonDue := [], latchFurnish := 0 }) s
  let s := { s with
    line := { s.line with pipes := [] }
    cntAcc := pipeCounters s.cntAcc, cntTot := pipeCounters s.cntTot
    cab := { handles := s.cab.handles.map (fun p => (p.1, clearHandle p.2)), groups := s.cab.groups, size := s.cab.size, seed := s.cab.seed
             lfsr := seedLfsr s.cab.seed, nextOrder := s.cab.nextOrder, nextAlloc := s.cab.nextAlloc
             vatWeak := s.cab.vatWeak, vatBad := s.cab.vatBad } }
  (List.range 8).foldl (fun a g => if (groupOf a g).filled then fillRings g a else a) s

/-- A link of port C that is UP leaves it, which is reported (R451). -/
def noteLink (s : State) : State := if (linkOf s).state = .up then raise 216 [] (setFlag 0x540 2 s) else s

/-- Cores, Dovetail, units and the dispatcher's fences (R281, R325, R341, R352, R368, R423, R451, R715). -/
def l2Cores (s : State) : State :=
  let s := noteLink s
  let s := (residentIn s (List.range 64)).foldl (fun a c => fenceContext c a) s
  let s := noteL2Locks <| updDisp (fun d => { d with
    affinity := [], affLists := [], globalLists := [], eventWait := [], fenced := 0, frozen := 0 }) (endStops s)
  { s with
    cores := { imem := s.cores.imem, imemShadow := s.cores.imemShadow, imemBad := s.cores.imemBad, imemWeak := s.cores.imemWeak
               imemRewritten := s.cores.imemRewritten, stepping := s.cores.stepping
               supervisors := s.cores.supervisors.map (fun p => (p.1, { p.2 with started := false })) }
    dov := { locks := s.dov.locks.map (fun p => (p.1, l2Lock p.1 p.2)), channels := s.dov.channels.map (fun p => (p.1, emptyChannel p.2))
             waitCount := s.dov.waitCount }
    lk := { s.lk with ops := s.lk.ops.map (fun p => (p.1, { p.2 with discard := true })) }
    cop := { windows := s.cop.windows, routes := s.cop.routes, link := l2Link s.cop.link } }

/-- What an L2 reset clears; the items in flight are voided at its exit (R667). -/
def l2Clear (s : State) : State := l2Datapath (l2Cores s)

/-- Every item in flight is voided without a handler and counted FENCE_VOID, and the domains' counters are 0 (R667;
04_dispatch_and_resequencing.md, Ordering domains). -/
def l2VoidItems (s : State) : State :=
  let n := (s.disp.items.filter (fun p => !p.2.voided)).length
  updDisp (fun d => { d with items := [], nextAssign := [], nextRelease := [], affLists := [], globalLists := [], affinity := [] })
    (if n = 0 then s else count .dispatch 0 12 n s)

/-! ### What L3 and L4 clear (Table 13.2) -/

/-- A controller at an L3 reset: its saved settings are kept, a fence ends and the channel is to be trained again (R566), and
DRAM_STATE.SELF_REFRESH is 0 (Table 10.9). -/
def l3Channel (c : DramChannel) : DramChannel :=
  { saved := c.saved, temp := c.temp, retrain := c.fenced || c.retrain, darkPoison := c.darkPoison }

/-- What an L3 reset clears: all but the always-on domain, DRAM contents and the pins' levels, DDRn_RESET_N being driven high (R560, R671,
R703, R715, Table 13.3). -/
def l3Clear (s : State) : State :=
  let s := (List.range 8).foldl (fun a c => enterSelfRefresh c a) s
  let p := s.pow
  { pending := s.pending, fresh := s.fresh
    flags := tabEntries 0 0x69C [flagReg s 0x69C &&& 0x20] ++ tabEntries 0 0x6AC [flagReg s 0x6AC &&& 8]
    line := { ptp := { ppsOut := s.line.ptp.ppsOut } }
    host := { mem := s.host.mem, lastReset := s.host.lastReset, readData := s.host.readData }
    dram := { mem := s.dram.mem, poison := s.dram.poison, layout := s.dram.layout, chans := s.dram.chans.map (fun c => (c.1, l3Channel c.2))
              stateCode := s.dram.stateCode, dumpBase := none }
    ev := { disk := s.ev.disk }
    sec := { fuses := s.sec.fuses, keys := s.sec.keys, unlockFails := s.sec.unlockFails }
    pow := { level := p.level, held := p.held, since := p.since, cause := p.cause, bootSrc := p.bootSrc, clkMode := p.clkMode, gpio := p.gpio
             pfailLow := p.pfailLow, fatalLow := p.fatalLow, tripLow := p.tripLow, perstHigh := p.perstHigh, refclk := p.refclk
             hot := p.hot || p.tripped, dump := p.dump, ddrHigh := 0xFF } }

/-- What an L4 reset clears besides: the always-on domain, DRAM contents (log entry 5) and the pins. -/
def l4Clear (s : State) : State :=
  { pending := s.pending, fresh := s.fresh, host := { mem := s.host.mem, readData := s.host.readData }, ev := { disk := s.ev.disk }
    sec := { fuses := s.sec.fuses }
    pow := { level := s.pow.level, held := s.pow.held, since := s.pow.since, bootSrc := s.pow.bootSrc, clkMode := s.pow.clkMode
             pfailLow := s.pow.pfailLow, hot := s.pow.hot || s.pow.tripped, tripLow := s.pow.tripLow } }

/-- What a level clears. -/
def clearLevel (level : Nat) (s : State) : State :=
  match level with | 2 => l2Clear s | 3 => l3Clear s | _ => l4Clear s

/-! ### Sources -/

/-- Bits of RESET_CAUSE (Table 13.9). -/
def srcPorst : Nat := 0
def srcRst : Nat := 1
def srcCmdL3 : Nat := 2
def srcWatchdog : Nat := 3
def srcFatal : Nat := 4
def srcCmdL2 : Nat := 5
def srcHostif : Nat := 6

/-- A source is asserted: it is recorded, and applied unless a wider level stands or exits, which absorbs it (R659, R661). An exit that it
abandons has loaded no cause for good (R664), and a host-interface reset that is asserted ends with the wider reset (R662). -/
def assertReset (level src : Nat) (s : State) : State :=
  let s := updPow (fun p => { p with since := p.since ||| BitVec.ofNat 7 (2 ^ src) }) s
  if level < s.pow.level then s
  else
    let s := clearLevel level (updPow (fun p => { p with level := level, since := if p.exiting then p.since ||| p.cause else p.since }) s)
    if level < 3 then s else updPow (fun p => { p with absorbed := p.held.getLsbD 6 }) s

/-- A source that stays asserted, and its release. -/
def holdSource (src : Nat) (s : State) : State := updPow (fun p => { p with held := p.held ||| BitVec.ofNat 7 (2 ^ src) }) s
def dropSource (src : Nat) (s : State) : State := updPow (fun p => { p with held := p.held &&& ~~~ BitVec.ofNat 7 (2 ^ src) }) s

/-- RESET_CAUSE and LAST_RESET are loaded at an exit; a host-interface reset that runs beside it counts at its own exit too (R662, R664). -/
def loadCause (last : Nat) (s : State) : State :=
  let s := updPow (fun p => { p with cause := p.since, since := if p.absorbed then 0 else p.held &&& 0x40 }) s
  { s with host := { s.host with lastReset := BitVec.ofNat 3 last } }

/-! ### Boot -/

/-- A boot attempt from a source (R679-R682). -/
def bootAttempt (source : Nat) (s : State) : State :=
  let s := updPow (fun p => { p with source := BitVec.ofNat 2 source, slot := 0, attempts := p.attempts + 1, stage := .loading, image := [] }) s
  if source = 2 then { s with cop := { s.cop with link := { enabled := true, state := .lock } } } else s

/-- The boot ROM starts: it drives the SPI pins and loads from the strapped source, or waits for the host (R679-R682, R759, Table 13.3). -/
def bootStart (s : State) : State :=
  if s.pow.hot then updPow (fun p => { p with stage := .rom }) s
  else
  let s := updPow (fun p => { p with spiDriven := true }) s
  if s.pow.bootSrc = 3 then bootAttempt 3 s
  else if s.pow.bootSrc = 2 then bootAttempt 2 s
  else updPow (fun p => { p with stage := .waiting }) s

/-- The exit of an L3 or L4 reset begins when no source remains asserted, if it does not run already (R660, R661, R664, R676). -/
def beginExit (s : State) : State :=
  let p := s.pow
  if p.level < 3 || p.exiting || (p.held &&& 3) != 0 || p.clkMode == 0 then s
  else bootStart (loadCause p.level (updPow (fun p => { p with exiting := true }) s))

/-- A source asserted for 1 µs at L3 (Table 13.1). -/
def pulseL3 (src : Nat) (s : State) : State := beginExit (assertReset 3 src s)

/-- A field of an image's header (Table 13.6). -/
def imgLe (img : List Byte) (off n : Nat) : Nat := leAt img off n

/-- The first check an image fails, as a RESULT of Table 13.7; 0 for none (R678, R709, R710). -/
def imageFault (s : State) (img : List Byte) : Nat :=
  let code := imgLe img 12 4
  let data := imgLe img 16 4
  let body := bytesAt img 256 (imgLe img 8 4)
  let k := imgLe img 6 2
  if imgLe img 0 4 != 0x4E474657 || imgLe img 4 2 != 1 then 1
  else if imgLe img 8 4 != 5 * (code + data) || code == 0 || decide (65536 < code) || decide (131072 < data) ||
      (bytesAt img 64 128).any (· != 0) || imgLe img 20 4 / 65536 != 0 || decide (img.length < 256 + imgLe img 8 4) then 2
  else if sha256 body != bytesAt img 32 32 then 3
  else if decide (3 < k) || s.sec.fuses.revoke.getLsbD k then 5
  else if !edVerify (leBytes 32 (Config.fwKey k).toNat) (img.take 192) (bytesAt img 192 64) then 4
  else if imgLe img 28 4 < s.sec.fuses.rollback then 6
  else 0

/-- Record a boot failure and wait for the host (R682). -/
def bootFail (result : Nat) (s : State) : State := updPow (fun p => { p with result := result, stage := .waiting }) s

/-! ### S2 -/

/-- Change DEVICE_STATUS.POWER; source 448 tells a change (Table 13.13). -/
def enterPower (x : PowerState) (code : Nat) (s : State) : State :=
  if s.pow.current = x then s
  else raise 448 [(code, 8)] (setFlag 0x69C 0 (updPow (fun p => { p with current := x }) s))

/-- Does S2 not begin for a cause now: is PFAIL_N deferred, since a reset of L2 or wider is asserted or exiting (R693), or does no firmware
run that could begin it (log entry 76)? -/
def s2Deferred (cause : Nat) (s : State) : Bool := decide (3 ≤ s.pow.level) || (cause == 0 && s.pow.level != 0)

/-- The steps of S2: the power-fail sequence; without evidence its steps 1, 2 and 7 alone; from S1a or S1b nothing but the rest of DRAM
(R692). -/
def s2Steps (rest : Bool) (s : State) : State :=
  if s.ev.state = .running then pfBegin s
  else if rest || s.ev.pf ≠ .idle then s
  else pfRun (updEv (fun e => { e with pf := .items }) s)

/-- S2 begins with a cause, or a later cause is counted; a tripped device is stopped (R691, R692, R721, R753, R758). -/
def beginS2 (cause : Nat) (s : State) : State :=
  if s2Deferred cause s || s.pow.tripped then s
  else if s.pow.current = .s2 then updPow (fun p => { p with extraCauses := min (p.extraCauses + 1) 255 }) s
  else
    let s := raise 451 [(cause, 8)] (setFlag 0x69C 1 (detachForS2 s))
    let rest := s.pow.current == .s1a || s.pow.current == .s1b
    s2Steps rest (enterPower .s2 4 (updPow (fun p => { p with gated := 0, waking := false, s2Rest := rest }) s))

/-- The firmware of an accepted image starts: FW_READY, and a PFAIL_N still low begins S2 (R693, Table 12.3). -/
def startFirmware (img : List Byte) (s : State) : State :=
  let s := updPow (fun p => { p with
    stage := .running, level := 0, exiting := false, keyIndex := imgLe img 6 2, security := imgLe img 28 4, tripLow := false, image := [] }) s
  let s := { s with host := { s.host with fwReady := true, fwVersion := BitVec.ofNat 32 (0x02030000 + imgLe img 26 2) } }
  if s.pow.pfailLow then beginS2 0 s else s

/-- An image has been loaded and is checked (R678, R679). -/
def bootImage (img : List Byte) (s : State) : State :=
  match imageFault s img with
  | 0 => startFirmware img s
  | r =>
    if s.pow.source = 3 && s.pow.slot == 0 then
      setFlag 0x69C 5 (updPow (fun p => { p with result := r, slot := 1, stage := .loading }) s)
    else bootFail r s

/-! ### Resets that seal first (R666) -/

/-- CHIP_RESET has completed: L3 is asserted once its completion is written (R669). -/
def chipEnds (m : Nat) (s : State) : State :=
  if s.host.held.any (fun c => c.mbx == m) then s else pulseL3 srcCmdL3 (updPow (fun p => { p with after := .none }) s)

/-- The reset that waited for the power-fail sequence follows at its end (R666, R669). -/
def afterSeal (s : State) : State :=
  if s.ev.pf ≠ .idle then s
  else match s.pow.after with
    | .none => s
    | .chip m => chipEnds m (finishCmd m 0 0 [] (updPow (fun p => { p with after := .written m }) s))
    | .written m => chipEnds m s
    | .datapath m => assertReset 2 srcCmdL2 (updPow (fun p => { p with after := .none, datapath := some m }) s)

end Sys2Proof.Machine
end

