-- ==== Sys2Proof/Machine/EvidenceInstr.lean ====
section
/-!
DEFINITION. Happenings of the store that can end the power-fail sequence, after which a sealed reset follows
(09_evidence_path.md; R495, R505, R512-R515, R521, R666).
-/
namespace Sys2Proof.Machine

/-- SEAL_TAKE: the seal at the front of the line is checked, signed and written, once every lane is durable up to the
positions read when it was taken (R512-R514), and not after the power-loss marker (R521; log entry 161). -/
def execSealTake (s : State) : Res :=
  .next (afterSeal (match s.ev.seals, s.ev.set with
    | w :: _, some x =>
      if !evActive s || pfClosed s || !lanesReached s w.targets || !sealRipe s w then s
      else if decide (x.sealRows ≤ nextRecordBlock s - s.ev.releasedSeal) then noteStop 1 s
      else if decide (x.m < failedCount s x) then s
      else match nextUnit s s.ev.sgMask.toNat 8 2 s.ev.sgTurn with
        | some u => pfRun (settleSeals (takeSeal x u w s))
        | none => s
    | _, _ => s))

/-- NVME_COMPLETION: a write in flight completes with a status; an error fails its member (R495, R505, R515). -/
def execNvmeCompletion (index : Nat) (status : BitVec 16) (s : State) : Res :=
  .next (afterSeal (match s.ev.writes[index]? with
    | none => s
    | some w =>
      let s := updEv (fun e => { e with writes := e.writes.eraseIdx index }) s
      if status = 0 then afterWrites (updEv (fun e => { e with disk := tabPut e.disk (w.member * 2 ^ 64 + w.block) w.data }) s)
      else afterWrites (memberError w.member status s)))

/-- IO_TIMEOUT: a write without completion within IO_TIMEOUT fails its member (R505). -/
def execIoTimeout (index : Nat) (s : State) : Res :=
  .next (afterSeal (match s.ev.writes[index]? with
    | none => s
    | some w => afterWrites (memberTimeout w.member s)))

/-- A member's NVMe Flush of step 6 ends: one that ends in error fails the member and leaves the marker unconfirmed (R505, R521). -/
def flushEnds (i : Nat) (e : StoreEnd) (s : State) : State :=
  match e with
  | .ok => updEv (fun v => { v with flushed := v.flushed ++ [i] }) s
  | e => updEv (fun v => { v with flushBad := true }) (memberEnds i e s)

/-- FLUSH_COMPLETE (R521). -/
def execFlushComplete (member : BitVec 5) (result : StoreEnd) (s : State) : Res :=
  .next (afterSeal (if s.ev.pf = .flush then pfRun (flushEnds member.toNat result s) else s))

/-- FLUSH_ALLOW_EXPIRY: the allowance of step 6 runs out, and the sequence ends; a rewrite that step 6a has begun goes on (R521). -/
def execFlushAllowExpiry (s : State) : Res :=
  .next (afterSeal (if s.ev.pf = .flush || s.ev.pf = .confirm then pfEnd s else s))

end Sys2Proof.Machine
end

