-- ==== Sys2Proof/Machine/HostCmd.lean ====
section
/-!
DEFINITION. Commands 0x00xx (12_host_port_and_mailboxes.md, Table 12.16; R22, R620, R630, R631, R643, R651, R653, R655-R657, R766).
-/
namespace Sys2Proof.Machine

/-- POWER of DEVICE_STATUS (Table 12.4). -/
def powerCode (x : PowerState) : Nat := match x with | .a0 => 0 | .a1 => 1 | .s1a => 2 | .s1b => 3 | .s2 => 4

/-- DEVICE_QUERY. -/
def deviceQuery : CmdSpec :=
  { op := 0x0001
    body := okReply (fun s _ => layout [(0x6436, 2), (0xB1, 1), (0, 1), (s.host.fwVersion.toNat, 4), (Config.serial.toNat, 8),
      (s.sec.lifecycle, 1), (s.sec.level, 1), (powerCode s.pow.current, 1), (packNat [(s.pow.bootSrc.toNat, 2), (s.pow.clkMode.toNat, 2)], 1),
      (ofInt 16 s.pow.temp, 2), (0, 2), (s.sh.sheet.toNat, 8), (if s.dram.started then dramInstalled s else 0, 8)]) }

/-- The geometry checks of a ring or queue, whether its command enables or disables it (R628, R656; log entry 41): address alignment, a
number of entries that is a power of two, and the end of its bytes. -/
def geometry (p : List Byte) (aOff align eOff eLen lo hi size : Nat) : List (Nat × Bool) :=
  let n := leAt p eOff eLen
  [(aOff, leAt p aOff 8 % align == 0 && decide (leAt p aOff 8 + n * size ≤ 2 ^ 64)),
   (eOff, isPow2 n && decide (lo ≤ n) && decide (n ≤ hi))]

/-- Give up the completions held for the queue: they are reported through MBX_STATUS_n alone (R627). -/
def flushHeld (s : State) : State :=
  s.host.held.foldl (fun a c => writeStatus c.mbx c.status a) (updHost (fun h => { h with held := [] }) s)

/-- COMPLETION_QUEUE_SET (R766). -/
def completionQueueSet : CmdSpec :=
  { op := 0x0002, fixed := 12
    checks := fun _ p => geometry p 0 64 8 2 16 4096 16 ++ [inRange p 10 1 0 1, rsv p 11 1]
    body := fun s _ p =>
      if leAt p 10 1 = 0 then okCmd (flushHeld (updHost (fun h => { h with cq := {} }) s))
      else if s.host.cq.enabled then refuse s 0x03
      else okCmd (updHost (fun h => { h with
        cq := { enabled := true, address := BitVec.ofNat 64 (leAt p 0 8), entries := leAt p 8 2 } }) s) }

/-- Give up the merged raises that wait for the event queue (R651). -/
def flushMerged (s : State) : State :=
  count .host 0 5 (s.host.merged.foldl (fun a e => a + e.2.count) 0) (updHost (fun h => { h with merged := [] }) s)

/-- EVENT_QUEUE_SET (R766). -/
def eventQueueSet : CmdSpec :=
  { op := 0x0003, fixed := 16
    checks := fun _ p => geometry p 0 64 8 4 64 65536 16 ++ [inRange p 12 1 0 1, rsv p 13 3]
    body := fun s _ p =>
      if leAt p 12 1 = 0 then okCmd (flushMerged (updHost (fun h => { h with eq := {} }) s))
      else if s.host.eq.enabled then refuse s 0x03
      else okCmd (updHost (fun h => { h with
        eq := { enabled := true, address := BitVec.ofNat 64 (leAt p 0 8), entries := leAt p 8 4 } }) s) }

/-- EVENT_MASK (R631). -/
def eventMaskSet : CmdSpec :=
  { op := 0x0004, fixed := 8
    checks := fun _ p => [inRange p 0 2 0 511, (2, decide (1 ≤ leAt p 2 2) && decide (leAt p 0 2 + leAt p 2 2 ≤ 512)), inRange p 4 1 0 1,
      rsv p 5 3]
    body := okState (fun s p =>
      let m : BitVec 512 := BitVec.ofNat 512 ((2 ^ leAt p 2 2 - 1) * 2 ^ leAt p 0 2)
      updHost (fun h => { h with eventMask := if leAt p 4 1 = 1 then h.eventMask ||| m else h.eventMask &&& ~~~ m }) s) }

/-- MSIX_MAP. -/
def msixMap : CmdSpec :=
  { op := 0x0005, fixed := 4, checks := fun _ p => [inRange p 0 1 0 33, inRange p 1 1 0 63]
    body := okState (fun s p =>
      let e : CauseMap := { vector := BitVec.ofNat 8 (leAt p 1 1), holdoff := BitVec.ofNat 16 (leAt p 2 2) }
      updHost (fun h => { h with causes := tabSet {} h.causes (leAt p 0 1) e }) s) }

/-- FW_REGION_SET (R653). -/
def fwRegionSet : CmdSpec :=
  { op := 0x0006, fixed := 16
    checks := fun _ p => [(0, leAt p 0 8 % 4096 == 0),
      (8, leAt p 8 8 % 4096 == 0 && decide (gib ≤ leAt p 8 8) && decide (leAt p 8 8 ≤ 16 * gib))]
    body := fun s _ p =>
      if s.dram.started then refuse s 0x03
      else okCmd (updHost (fun h => { h with fwRegion := some (BitVec.ofNat 64 (leAt p 0 8), BitVec.ofNat 64 (leAt p 8 8)) }) s) }

/-- An exception ring disabled: it keeps no address (R638, R655). -/
def exrOff (x : ExrRing) : ExrRing := { x with enabled := false, entries := 0, address := 0, tailWb := 0, slotShift := 0 }

/-- EXR_SET (R634, R655, R656, R766). -/
def exrSet : CmdSpec :=
  { op := 0x0010, fixed := 26
    checks := fun _ p =>
      [inRange p 0 1 0 15, inRange p 1 1 0 1, inRange p 2 1 11 14, rsv p 3 1] ++
        geometry p 8 4096 4 4 16 65536 (2 ^ leAt p 2 1) ++ [(16, leAt p 16 8 % 8 == 0), inRange p 24 2 1 65535]
    body := fun s _ p =>
      let r := leAt p 0 1
      let x := exrOf s r
      if leAt p 1 1 = 0 then okCmd (setExr r (exrOff x) s)
      else if x.enabled then refuse s 0x03
      else okCmd (setExr r { x with
        enabled := true, slotShift := leAt p 2 1, entries := leAt p 4 4, address := BitVec.ofNat 64 (leAt p 8 8)
        tailWb := BitVec.ofNat 64 (leAt p 16 8), residue := leAt p 24 2, head := 0, tail := 0 } s) }

/-- An injection ring disabled. -/
def injOff (x : InjRing) : InjRing := { x with enabled := false, entries := 0, address := 0, headWb := 0, sinceWb := 0 }

/-- INJ_SET (R22, R639, R655, R656, R766). -/
def injSet : CmdSpec :=
  { op := 0x0011, fixed := 24
    checks := fun _ p =>
      [inRange p 0 1 0 15, inRange p 1 1 0 1, inRange p 2 1 0 7, rsv p 3 1] ++
        geometry p 8 64 4 4 16 65536 16 ++ [(16, leAt p 16 8 % 8 == 0)]
    body := fun s _ p =>
      let r := leAt p 0 1
      let x := injOf s r
      if leAt p 1 1 = 0 then okCmd (setInj r (injOff x) s)
      else if x.enabled || !ticking s then refuse s 0x03
      else okCmd (setInj r { x with
        enabled := true, cls := leAt p 2 1, entries := leAt p 4 4, address := BitVec.ofNat 64 (leAt p 8 8)
        headWb := BitVec.ofNat 64 (leAt p 16 8), head := 0, tail := 0, sinceWb := 0 } s) }

/-- Is an injection ring's fetch stopped (R643)? -/
def fetchStopped (s : State) (x : InjRing) : Bool := ownerXoff s (32 + x.cls)

/-- RING_STATUS. -/
def ringStatus : CmdSpec :=
  { op := 0x0012, fixed := 2, checks := fun _ p => [inRange p 0 1 0 1, inRange p 1 1 0 15]
    body := okReply (fun s p =>
      let r := leAt p 1 1
      if leAt p 0 1 = 0 then
        let x := exrOf s r
        layout [(x.head, 4), (x.tail, 4), (b2n x.enabled, 1), (0, 7), (x.frames, 8), (x.bytes, 8), (x.drops, 8)]
      else
        let x := injOf s r
        layout [(x.head, 4), (x.tail, 4), (b2n x.enabled, 1), (b2n (fetchStopped s x), 1), (0, 6), (x.frames, 8), (x.bytes, 8), (x.bad, 8)]) }

/-- HOST_COUNTERS (R657). -/
def hostCounters : CmdSpec :=
  { op := 0x0013, fixed := 1, checks := fun _ p => [inRange p 0 1 0 1], body := counterBody .host (fun _ => 0) 0 12 }

/-- ECHO. -/
def echoCmd : CmdSpec := { op := 0x0020, body := okReply (fun _ p => p) }

/-! ### Happenings -/

/-- CQ_HELD_COMPLETION: the first held completion is written as space returns; the L3 reset of CHIP_RESET waits for its
(R626, R669). -/
def execCqHeldCompletion (s : State) : Res :=
  .next (match s.host.held with
    | [] => s
    | c :: r =>
      if !s.host.cq.enabled || ringFull s s.host.cq.head s.host.cq.tail s.host.cq.entries then s
      else sweepBad (afterSeal (postCompletion c (updHost (fun h => { h with held := r }) s))))

def execDeviceQuery (m : BitVec 4) (s : State) : Res := .next (runCmd deviceQuery m s)
/-- COMPLETION_QUEUE_SET; a CHIP_RESET whose held completion it gives up is followed by its L3 reset (R627, R669). -/
def execCompletionQueueSet (m : BitVec 4) (s : State) : Res := .next (afterSeal (runCmd completionQueueSet m s))
def execEventQueueSet (m : BitVec 4) (s : State) : Res := .next (runCmd eventQueueSet m s)
def execEventMask (m : BitVec 4) (s : State) : Res := .next (runCmd eventMaskSet m s)
def execMsixMap (m : BitVec 4) (s : State) : Res := .next (runCmd msixMap m s)
def execFwRegionSet (m : BitVec 4) (s : State) : Res := .next (runCmd fwRegionSet m s)
def execExrSet (m : BitVec 4) (s : State) : Res := .next (runCmd exrSet m s)
def execInjSet (m : BitVec 4) (s : State) : Res := .next (runCmd injSet m s)
def execRingStatus (m : BitVec 4) (s : State) : Res := .next (runCmd ringStatus m s)
def execHostCounters (m : BitVec 4) (s : State) : Res := .next (runCmd hostCounters m s)
def execEcho (m : BitVec 4) (s : State) : Res := .next (runCmd echoCmd m s)

end Sys2Proof.Machine
end

