-- ==== Sys2Proof/Machine/PowerOps.lean ====
section
/-!
DEFINITION. The choice of power states, wakes and the host-interface reset (13_reset_boot_and_power_states.md, Power states;
12_host_port_and_mailboxes.md, Host-interface reset; R649, R650, R683-R690, R743, R745).
-/
namespace Sys2Proof.Machine

/-! ### Idle clusters and the S1 conditions -/

/-- Does a cluster's supervisor wait in DCTAKE on its fault channel? -/
def supervisorWaits (s : State) (k : Nat) : Bool :=
  let x := thr s (supervisorId s k)
  x.st = .stall && (match x.stall with | .chanRead c _ _ _ _ => c == 1016 + k | _ => false)

/-- Is an item in flight on a cluster: on a thread or an affinity list of its cores? -/
def itemsOn (s : State) (k : Nat) : Bool :=
  s.disp.items.any (fun p => match p.2.place with
    | .onThread t => clusterOf t == k
    | .affinity c => c / 8 == k
    | _ => false)

/-- Is a cluster idle (text before R683)? -/
def clusterIdle (s : State) (k : Nat) : Bool :=
  !(s.cores.threads.any (fun p => clusterOf p.1 == k &&
      (match p.2.st with | .ready | .run | .halt | .frozen => true | _ => false))) && !itemsOn s k && supervisorWaits s k

/-- BLOCKERS of POWER_STATE, bits 0 to 6: the S1 conditions that fail (Table 13.12). -/
def restBlockers (s : State) : Nat :=
  packNat [(b2n (!s.disp.items.isEmpty || !s.disp.eventWait.isEmpty), 1), (b2n (s.ev.state == .running), 1),
    (b2n (!s.host.accepted.isEmpty || !s.host.held.isEmpty || !(runningMbx s).isEmpty), 1),
    (b2n (s.host.inj.any (fun p => p.2.enabled && p.2.head != p.2.tail) || s.cab.exrWait.any (fun p => !p.2.isEmpty)), 1),
    (b2n s.pow.traffic, 1), (b2n (!s.dram.started), 1), (b2n s.pow.pfailLow, 1)]

/-- The tolerances the firmware considers: H's always, and those of enabled ports (R683). -/
def considered (s : State) : List Nat :=
  let t := fun i => s.pow.policy.tolerance.getD i 0
  ((List.range 4).filter (fun p => (portOf s p).enabled)).map t ++ [t 4] ++ (if s.ev.linkEnable then [t 5] else []) ++
    (if s.cop.link.enabled then [t 6] else [])

/-- Do the tolerances, the policy and the debug level allow a state of depth `i` (0 A1, 1 S1a, 2 S1b) and wake time (R683, R684,
Table 14.5)? -/
def stateAllowed (s : State) (i wake : Nat) : Bool :=
  s.pow.policy.allow.getLsbD i && (considered s).all (fun t => decide (wake ≤ t)) && (i == 0 || decide (s.sec.level < 2))

/-- DEEPEST of POWER_STATE: the deepest state that the tolerances, the policy and the debug level allow (Table 13.12, R720). -/
def deepestState (s : State) : PowerState :=
  if stateAllowed s 2 8000 then .s1b else if stateAllowed s 1 60 then .s1a else if stateAllowed s 0 3 then .a1 else .a0

/-- Clusters idle for A1_IDLE_SHEETS. -/
def idleClusters (s : State) : BitVec 8 :=
  (List.range 8).foldl (fun a k =>
    if decide (s.pow.policy.a1Idle ≤ tabGet 0 s.pow.clusterIdle k) && clusterIdle s k then a ||| BitVec.ofNat 8 (2 ^ k) else a) 0

/-- What a tick counts for the power states: idle clusters, and the S1 conditions; the NVMe controllers are ready again (R684, R690). -/
def powerTick (s : State) : State :=
  let rest := restBlockers s == 0
  updPow (fun p => { p with
    clusterIdle := ((List.range 8).filter (fun k => clusterIdle s k)).map (fun k => (k, tabGet 0 p.clusterIdle k + 1))
    restIdle := if rest then p.restIdle + 1 else 0, traffic := false, storeReinit := false }) s

/-! ### Entry and wake -/

/-- S1b stops the line ports, port C and port S: links go down, D1 is detached (Table 13.8, Table 14.5, R743, R745). -/
def enterS1b (s : State) : State :=
  let s := (List.range 32).foldl (fun a k => linkDown k a) s
  let s := leaveUp .down s
  let s := if s.sec.level = 1 then setLevel 0 s.sec.path s else s
  updPow (fun p => { p with perstHigh := false, refclk := false, refclkHeld := p.refclk }) s

/-- Is the idle time of S1 over? -/
def rested (s : State) : Bool := restBlockers s == 0 && decide (s.pow.policy.idleSheets ≤ s.pow.restIdle)

/-- POWER_STATE_ENTRY: at a tick the firmware enters the deepest qualifying state (R684). -/
def execPowerStateEntry (s : State) : Res :=
  .next (
    if !ticking s || !s.host.fwReady || s.pow.level ≠ 0 || !(s.pow.current = .a0 || s.pow.current = .a1) then s
    else
      if rested s && stateAllowed s 2 8000 then enterS1b (enterPower .s1b 3 (updPow (fun p => { p with gated := 0xFF }) s))
      else if rested s && stateAllowed s 1 60 then enterPower .s1a 2 (updPow (fun p => { p with gated := 0xFF }) s)
      else
        let g := if stateAllowed s 0 3 then s.pow.gated ||| idleClusters s else 0
        let s := updPow (fun p => { p with gated := g }) s
        if g = 0 then enterPower .a0 0 s else enterPower .a1 1 s)

/-- Is an entry into S1 still under way: does a controller not rest yet (R688)? -/
def entering (s : State) : Bool := s.dram.started && (populated s).any (fun c => !(chanState s c).selfRefresh)

/-- WAKE: a happening of R686, numbered in its order, returns the device to A0 (R686-R688, R690, R743, R745). -/
def execWakeUp (cause : BitVec 4) (s : State) : Res :=
  let deep := s.pow.current == .s1b
  .next (
    if !(deep || s.pow.current == .s1a) || (deep && cause.toNat < 2) then s
    else
      let early := entering s
      let on := deep && s.ev.linkEnable
      let s := raise 454 [(powerCode s.pow.current, 8), (cause.toNat, 8)] s
      let s := if early then setFlag 0x69C 3 s else s
      enterPower .a0 0 (updPow (fun p => { p with
        gated := 0, restIdle := 0, waking := !deep && s.dram.started && !early, storeReinit := deep && !s.ev.controllers.isEmpty
        perstHigh := p.perstHigh || on, refclk := p.refclk || (deep && p.refclkHeld) }) s))

/-- THERMAL_REWAKE: a drift of 16 °C in S1 re-trains a resting controller (R689); whether its restore training passes, and the step at which
a full one fails, the row does not say: they are open (R530, R531, R564; log entry 168). -/
def execThermalRewake (channel : BitVec 3) (s : State) : Res :=
  let c := channel.toNat
  let x := chanState s c
  .next (
    if !(s.pow.current = .s1a || s.pow.current = .s1b) || !x.selfRefresh || x.fenced || (dieTemp s - x.temp).natAbs < 256 then s
    else
      let f := freeNow s
      let s := raise 409 [] (restoreTraining c (natBit f 0) (f / 2 % 7) (raise 409 [] (drawFree s)))
      raise 455 [(c, 8)] (setFlag 0x69C 4 (setChanState c { chanState s c with temp := dieTemp s } s)))

/-! ### The host-interface reset (R649, R650) -/

/-- An accepted command that has not started ends with ABORTED, through its status register alone. -/
def abortCmd (m : Nat) (s : State) : State := writeStatus m 0x0B (count .host 0 1 1 (count .host 0 0 1 s))

/-- What a host-interface reset does to port H (R649, R650). -/
def hostifClear (s : State) : State :=
  let s := flushMerged (flushHeld s)
  let s := s.host.accepted.foldl (fun a m => abortCmd m a) s
  updHost (fun h => { h with
    accepted := [], muted := runningMbx s, cq := {}, eq := {}, uncovered := 0
    exr := h.exr.map (fun r => (r.1, { exrOff r.2 with head := 0, tail := 0 }))
    inj := h.inj.map (fun r => (r.1, { injOff r.2 with head := 0, tail := 0 }))
    msixTable := [], msixPba := 0, msixEnable := false, msixFmask := false, busMaster := false, d3hot := false
    ecrcGen := false, ecrcCheck := false, aerEcrc := false, bar0 := 0, readRequest := 2 }) s

/-- HOSTIF_RESET: hot reset or link-down of port H; an L3 or L4 reset or exit absorbs it (R649, R662). -/
def execHostifReset (s : State) : Res :=
  .next (
    if s.pow.held.getLsbD srcHostif then s
    else
      let s := holdSource srcHostif (updPow (fun p => { p with since := p.since ||| 0x40, absorbed := decide (3 ≤ p.level) }) s)
      if s.pow.absorbed then s else afterSeal (hostifClear s))

/-- HOSTIF_RESET_END: its end loads RESET_CAUSE, unless L3 or L4 has absorbed it; an L2 reset that runs beside it counts at its own exit too
(R662, R664). -/
def execHostifResetEnd (s : State) : Res :=
  .next (
    if !s.pow.held.getLsbD srcHostif then s
    else
      let s := dropSource srcHostif s
      if s.pow.absorbed then updPow (fun p => { p with absorbed := false }) s
      else
        let before := s.pow.since
        let s := loadCause 5 s
        if s.pow.level = 0 then s else updPow (fun p => { p with since := before &&& 0x20 }) s)

end Sys2Proof.Machine
end

