-- ==== Sys2Proof/Machine/DramCmd.lean ====
section
/-!
DEFINITION. Commands 0x09xx (10_dram_subsystem.md, Table 10.13; R526-R535, R574, R576).
-/
namespace Sys2Proof.Machine

/-- The capacity of one DIMM in GiB (Table 10.1). -/
def dimmGib (ranks width density : Nat) : Nat := ranks * 2 * (32 / width) * density / 8

/-- DRAM_POPULATION (R526). -/
def dramPopulation : CmdSpec :=
  { op := 0x0901, fixed := 8
    checks := fun _ p => [(0, leAt p 0 1 == 0x0F || leAt p 0 1 == 0xFF), inRange p 1 1 0 2, inRange p 2 1 1 2,
      (3, leAt p 3 1 == 4 || leAt p 3 1 == 8), (4, leAt p 4 1 == 16 || leAt p 4 1 == 32), rsv p 5 3,
      (4, decide (dimmGib (leAt p 2 1) (leAt p 3 1) (leAt p 4 1) ≤ 64))]
    body := fun s _ p =>
      if s.dram.started then refuse s 0x03
      else okCmd (updDram (fun d => { d with population := some {
        channels := BitVec.ofNat 8 (leAt p 0 1), speed := leAt p 1 1, ranks := leAt p 2 1, width := leAt p 3 1
        density := leAt p 4 1 } }) s) }

/-- A field of the timing table (Table 10.2). -/
def timingField (p : List Byte) (i : Nat) : Nat := leAt p (2 * i) 2

/-- DRAM_TIMING (R528). -/
def dramTiming : CmdSpec :=
  { op := 0x0902, fixed := 40
    checks := fun _ p => (List.range 20).map (fun i => (2 * i, timingField p i != 0)) ++
      [(10, decide (timingField p 4 + timingField p 3 ≤ timingField p 5)),
       (26, decide (4 * timingField p 12 ≤ timingField p 13)),
       (38, decide (4 * timingField p 16 ≤ timingField p 19))]
    body := fun s _ p =>
      if s.dram.started then refuse s 0x03
      else okCmd (updDram (fun d => { d with timing := (List.range 20).map (timingField p) }) s) }

/-- The ranges with one replaced. -/
def withRange (s : State) (r : Nat) (x : DramRange) : State :=
  updDram (fun d => { d with ranges := tabSet {} d.ranges r x }) s

/-- The range a command gives. -/
def rangeOf (p : List Byte) : DramRange :=
  { channels := BitVec.ofNat 8 (leAt p 1 1), large := leAt p 2 1 = 1, enable := leAt p 3 1 = 1, size := leAt p 4 4 }

/-- Do the ranges place no more than the DIMM capacity on any channel (R535)? -/
def rangesFit (s : State) : Bool :=
  match s.dram.population with
  | none => (enabledRanges s).isEmpty
  | some p => (List.range 8).all (fun c => decide (rangeOff s 8 c ≤ dimmGib p.ranks p.width p.density * gib))

/-- DRAM_RANGE_SET (R533, R535). -/
def dramRangeSet : CmdSpec :=
  { op := 0x0903, fixed := 8
    checks := fun s p =>
      let n := (maskList 8 (leAt p 1 1)).length
      [inRange p 0 1 0 7,
       (1, [1, 2, 4, 8].contains n && (maskList 8 (leAt p 1 1)).all (fun c => (populated s).contains c)),
       inRange p 2 1 0 1, inRange p 3 1 0 1,
       (4, leAt p 4 4 % n == 0 && rangesFit (withRange s (leAt p 0 1) (rangeOf p)))]
    body := fun s _ p =>
      if s.dram.started then refuse s 0x03
      else
        let s := withRange s (leAt p 0 1) (rangeOf p)
        okCmd s (layout [(rangeBase s (leAt p 0 1), 8), (dramInstalled s, 8)]) }

/-- The failing step a training reports: 0 for success. -/
def failedStep (restore verify : Bool) (step : Nat) : Nat := if restore && verify then 0 else min step 6

/-- DRAM_TRAIN: bit c of `verify` says that a restore training of channel c passes its verification, bits [4c + 3:4c] of
`steps` give the failing step of its full training (R529-R532, R564). -/
def dramTrain (verify : BitVec 8) (steps : BitVec 32) : CmdSpec :=
  { op := 0x0904, fixed := 2
    checks := fun s p => [(0, leAt p 0 1 != 0 && (maskList 8 (leAt p 0 1)).all (fun c => (populated s).contains c)), inRange p 1 1 0 1]
    body := fun s _ p =>
      let cs := maskList 8 (leAt p 0 1)
      let restore := leAt p 1 1 == 1
      let step := fun c => natBits steps.toNat (4 * c) 4
      if s.dram.timing.isEmpty || (restore && cs.any (fun c => !settingsFit s c)) then refuse s 0x03
      else
        let s := updDram (fun d => { d with stateCode := if d.started then d.stateCode else 1 }) s
        okCmd (cs.foldl (fun a c =>
            if restore then restoreTraining c (verify.getLsbD c) (step c) a else fullTraining c (step c) a) s)
          (layout ((List.range 8).map (fun c =>
            (if cs.contains c then failedStep restore (verify.getLsbD c) (step c) else 0, 1)))) }

/-- The poisoned lines that no range covered and one of the new map does, as lines of device addresses. -/
def darkLines (d : Dram) (new : State) : List (Nat × Bool) :=
  d.chans.flatMap (fun (c : Nat × DramChannel) =>
    c.2.darkPoison.filterMap (fun l => (dramDevice new c.1 (64 * l)).map (fun a => (a / 64, true))))

/-- The memory under a new address map: each byte keeps its channel and channel address (R534). Bytes that no range
covers any more are not reachable and are dropped (log entry 34). -/
def remapDram (old new : State) : State :=
  let move := fun (a : Nat) => match dramPlace old a with
    | some (c, x) => dramDevice new c x
    | none => none
  updDram (fun d => { d with
    mem := (old.dram.mem.filterMap (fun p => (move p.1).map (·, p.2))).foldl (fun t p => tabSet memDefault t p.1 p.2) []
    poison := ((old.dram.poison.filterMap (fun (p : Nat × Bool) => (move (64 * p.1)).map (fun a => (a / 64, p.2)))) ++ darkLines d new).foldl
      (fun (t : Tab Bool) (p : Nat × Bool) => tabSet false t p.1 p.2) []
    chans := d.chans.map (fun c => (c.1, { c.2 with darkPoison := c.2.darkPoison.filter (fun l => (dramDevice new c.1 (64 * l)).isNone) }))
    layout := d.ranges }) new

/-- The bytes of the dump header at DUMP_BASE. -/
def dumpHeader (s : State) : List Byte := dramBytes s (s.dram.dumpBase.getD 0) 4096

/-- Does a dump header with valid MAGIC and CRC stand at DUMP_BASE (R737)? -/
def dumpStands (s : State) : Bool :=
  s.dram.dumpBase.isSome && (List.range 64).all (fun i => !linePoisoned s (s.dram.dumpBase.getD 0 / 64 + i)) &&
    leAt (dumpHeader s) 0 4 == 0x4E47444D && leAt (dumpHeader s) 4092 4 == crc32c ((dumpHeader s).take 4092)

/-- The firmware looks for a dump as soon as it can read DRAM (R737). -/
def findDump (s : State) : State :=
  if dumpStands s then raise 463 [(leAt (dumpHeader s) 6 2, 8)] { s with pow := { s.pow with dump := true } } else s

/-- DRAM_START (R574). -/
def dramStart : CmdSpec :=
  { op := 0x0905
    body := fun s _ _ =>
      if s.dram.started then okCmd s
      else if (populated s).isEmpty || s.dram.dumpBase.isNone ||
          (populated s).any (fun c => !chanTrained s c && !(chanState s c).fenced) then refuse s 0x03
      else
        let old := updDram (fun d => { d with ranges := d.layout }) s
        let s := if s.dram.layout = s.dram.ranges then s else remapDram old s
        okCmd (findDump (updDram (fun d => { d with started := true, stateCode := 2 }) s)) }

/-- DRAM_SCHED. -/
def dramSched : CmdSpec :=
  { op := 0x0906, fixed := 10
    checks := fun _ p => [inRange p 0 2 2 512, (2, decide (leAt p 2 2 + 1 ≤ leAt p 0 2)), inRange p 4 2 100 65535,
      inRange p 6 2 0 512, inRange p 8 2 1 256]
    body := okState (fun s p => updDram (fun d => { d with
      wrHigh := leAt p 0 2, wrLow := leAt p 2 2, ageLimit := leAt p 4 2, panicLevel := leAt p 6 2, panicHyst := leAt p 8 2 }) s) }

/-- DRAM_REFRESH. -/
def dramRefresh : CmdSpec :=
  { op := 0x0907, fixed := 2, checks := fun _ p => [inRange p 0 1 0 1, inRange p 1 1 1 2]
    body := okState (fun s p => updDram (fun d => { d with refreshMode := leAt p 0 1, refreshRate := leAt p 1 1 }) s) }

/-- DRAM_ECC: what it gives takes effect at the next tick (Table 10.10). -/
def dramEcc : CmdSpec :=
  { op := 0x0908, fixed := 10
    checks := fun _ p => [inRange p 0 2 1 1024, inRange p 2 2 1 65535, (4, leAt p 4 4 != 0), inRange p 8 2 0 168]
    body := okState (fun s p => updDram (fun d => { d with eccNext := some [leAt p 0 2, leAt p 2 2, leAt p 4 4, leAt p 8 2] }) s) }

/-- A spare area at payload offset `off` (R576). -/
def spareGood (s : State) (p : List Byte) (off : Nat) : Nat × Bool :=
  let b := leAt p off 8
  let n := leAt p (off + 8) 8
  let d := leAt p 0 8
  (off, b % 4096 == 0 && n % 4096 == 0 &&
    (n == 0 || (decide (b + n ≤ dramInstalled s) && (decide (b + n ≤ d) || decide (d + 2 ^ 28 ≤ b)))))

/-- DRAM_RESERVE (R538, R576). -/
def dramReserve : CmdSpec :=
  { op := 0x0909, fixed := 40
    checks := fun s p => [(0, leAt p 0 8 % 2 ^ 28 == 0 && decide (leAt p 0 8 + 2 ^ 28 ≤ dramInstalled s)), spareGood s p 8,
      spareGood s p 24]
    body := fun s _ p =>
      if s.dram.started then refuse s 0x03
      else okCmd (updDram (fun d => { d with
        dumpBase := some (leAt p 0 8), spare := [(leAt p 8 8, leAt p 16 8), (leAt p 24 8, leAt p 32 8)], spareUsed := [0, 0] }) s) }

/-- DRAM_FENCE. -/
def dramFence : CmdSpec :=
  { op := 0x0910, fixed := 1, checks := fun _ p => [inRange p 0 1 0 7]
    body := fun s _ p =>
      let c := leAt p 0 1
      if (chanState s c).fenced || !(populated s).contains c then refuse s 0x03 else okCmd (fenceChannel c 2 s) }

/-- DRAM_STATE (Table 10.9). -/
def dramState (s : State) : Nat :=
  let bits := fun f => packNat ((List.range 8).map (fun c => (b2n (f c), 1)))
  packNat [(s.dram.stateCode.toNat, 2), (0, 5), (b2n s.dram.panic, 1), (bits (fun c => (chanState s c).saved.isSome), 8),
    (bits (fun c => (chanState s c).selfRefresh), 8), (bits (fun c => (chanState s c).fenced), 8)]

/-- DRAM_STATUS. -/
def dramStatus : CmdSpec :=
  { op := 0x0911
    body := okReply (fun s _ =>
      let p := s.dram.population.getD { channels := 0, speed := 0, ranks := 1, width := 8, density := 16 }
      layout ([(dramState s, 4), (p.channels.toNat, 1), (p.speed, 1), (0, 2), (dramInstalled s, 8)] ++
        (List.range 8).map (fun c => (ofInt 8 ((chanState s c).temp / 16), 1)))) }

/-- DRAM_COUNTERS (R575). -/
def dramCounters : CmdSpec :=
  { op := 0x0912, fixed := 2, checks := fun _ p => [inRange p 0 1 0 7, inRange p 1 1 0 1]
    body := timedBody .channel (fun p => leAt p 0 1) 1 15 [] }

/-- DRAM_ERROR_LOG: the entries returned leave the log (log entry 35). -/
def dramErrorLog : CmdSpec :=
  { op := 0x0913, fixed := 1, checks := fun _ p => [inRange p 0 1 1 14]
    body := fun s _ p =>
      let es := s.dram.errorLog.take (leAt p 0 1)
      okCmd (updDram (fun d => { d with errorLog := d.errorLog.drop es.length }) s)
        (layout [(es.length, 1), (0, 15)] ++ es.flatMap (fun e =>
          layout [(e.address, 8), (e.channel, 1), (e.kind, 1), (e.sheet.toNat, 6)])) }

def execDramPopulation (m : BitVec 4) (s : State) : Res := .next (runCmd dramPopulation m s)
def execDramTiming (m : BitVec 4) (s : State) : Res := .next (runCmd dramTiming m s)
def execDramRangeSet (m : BitVec 4) (s : State) : Res := .next (runCmd dramRangeSet m s)
def execDramTrain (m : BitVec 4) (verify : BitVec 8) (steps : BitVec 32) (s : State) : Res := .next (runCmd (dramTrain verify steps) m s)
def execDramStart (m : BitVec 4) (s : State) : Res := .next (runCmd dramStart m s)
def execDramSched (m : BitVec 4) (s : State) : Res := .next (runCmd dramSched m s)
def execDramRefresh (m : BitVec 4) (s : State) : Res := .next (runCmd dramRefresh m s)
def execDramEcc (m : BitVec 4) (s : State) : Res := .next (runCmd dramEcc m s)
def execDramReserve (m : BitVec 4) (s : State) : Res := .next (runCmd dramReserve m s)
def execDramFence (m : BitVec 4) (s : State) : Res := .next (runCmd dramFence m s)
def execDramStatus (m : BitVec 4) (s : State) : Res := .next (runCmd dramStatus m s)
def execDramCounters (m : BitVec 4) (s : State) : Res := .next (runCmd dramCounters m s)
def execDramErrorLog (m : BitVec 4) (s : State) : Res := .next (runCmd dramErrorLog m s)

end Sys2Proof.Machine
end

