-- ==== Sys2Proof/Machine/EvidenceCmd.lean ====
section
/-!
DEFINITION. Commands 0x08xx (09_evidence_path.md, Table 9.21; R473, R497, R502-R510, R524).
-/
namespace Sys2Proof.Machine

/-- A DRAM region given by its base and size: aligned to 4 KiB and within installed DRAM. -/
def dramRegion (s : State) (p : List Byte) (off size : Nat) : Nat × Bool :=
  (off, leAt p off 8 % 4096 == 0 && decide (leAt p off 8 + size ≤ dramInstalled s))

/-- A configuration dword beyond port S as the last write left it: keyed by bus, device, function and register (R585). -/
def cfgKey (p : List Byte) : Nat := (leAt p 1 1 * 256 + leAt p 2 1) * 1024 + leAt p 4 2 / 4

/-- Does the request name dword `n` of port S's own AER capability? -/
def namesAer (p : List Byte) (n : BitVec 10) : Bool := cfgKey p == Config.portS.toNat * 1024 + (Config.capAerS + n).toNat

/-- A completed configuration write through port S; the ECRC status bit of its AER capability is cleared by writing 1. -/
def cfgWrite (p : List Byte) (s : State) : State :=
  let v := BitVec.ofNat 32 (leAt p 8 4)
  if namesAer p 1 then updEv (fun e => { e with aerEcrc := e.aerEcrc && !v.getLsbD 19 }) s
  else updEv (fun e => { e with cfg := tabSet 0 e.cfg (cfgKey p) v }) s

/-- What a configuration read through port S returns: of port S's own AER capability, the bits of ECRC as the device holds them. -/
def cfgRead (data : BitVec 32) (p : List Byte) (s : State) : BitVec 32 :=
  if namesAer p 1 then fixBits data 0x80000 (if s.ev.aerEcrc then 0x80000 else 0)
  else if namesAer p 6 then fixBits data 0x1E0 (0xA0 ||| (tabGet 0 s.ev.cfg (cfgKey p) &&& 0x140))
  else data

/-- STORE_CFG_ACCESS: a configuration request through port S, with what it returned. -/
def storeCfgAccess (data : BitVec 32) (completion : BitVec 2) : CmdSpec :=
  { op := 0x0801, fixed := 12
    checks := fun _ p => [inRange p 0 1 0 1, rsv p 3 1, (4, decide (leAt p 4 2 ≤ 4092) && leAt p 4 2 % 4 == 0), rsv p 6 2]
    body := fun s _ p =>
      if !s.ev.linkEnable then refuse s 0x03
      else if leAt p 0 1 = 0 then okCmd s (layout [((cfgRead data p s).toNat, 4), (completion.toNat, 1)])
      else okCmd (if completion = 0 then cfgWrite p s else s) (layout [(leAt p 8 4, 4), (completion.toNat, 1)]) }

/-- A change that Table 9.18 allows with the evidence path stopped alone (R16; log entry 132). -/
def whenStopped (f : State → List Byte → State) (s : State) (m : Nat) (p : List Byte) : CmdRes :=
  if evActive s then refuse s 0x03 else okState f s m p

/-- STORE_LINK, with S_PERST_N and S_REFCLK_OUT (R743, R745). -/
def storeLink : CmdSpec :=
  { op := 0x0802, fixed := 20
    checks := fun _ p => [inRange p 0 1 0 1, inRange p 1 1 1 5, (2, [1, 2, 4, 8, 16].contains (leAt p 2 1)), rsv p 3 1]
    body := whenStopped (fun s p =>
      let on := decide (leAt p 0 1 = 1)
      updEv (fun e => { e with
      linkEnable := on, linkSpeed := leAt p 1 1, linkWidth := leAt p 2 1
      memBase := BitVec.ofNat 64 (leAt p 4 8), memSize := BitVec.ofNat 64 (leAt p 12 8) })
        { s with pow := { s.pow with perstHigh := on, refclk := s.pow.refclk || on } }) }

/-- Queue pairs of the controllers other than one (Table 9.9: at most 64 in total). -/
def otherQueues (s : State) (c : Nat) : Nat :=
  (s.ev.controllers.filter (fun x => x.1 != c)).foldl (fun a x => a + x.2.queues) 0

/-- STORE_CONTROLLER_ADD; `ok` says that the controller became ready and took its queues. -/
def storeControllerAdd (ok : Bool) : CmdSpec :=
  { op := 0x0803, fixed := 18
    checks := fun _ p => [inRange p 0 1 0 31, inRange p 3 1 1 8, inRange p 4 2 16 1024, inRange p 6 2 1 10000]
    body := fun s _ p =>
      if evActive s then refuse s 0x03
      else if 64 < otherQueues s (leAt p 0 1) + leAt p 3 1 then refuse s 0x06
      else if !ok then refuse s 0x0A
      else okCmd (updEv (fun e => { e with controllers := tabPut e.controllers (leAt p 0 1) {
        bus := leAt p 1 1, devfn := leAt p 2 1, queues := leAt p 3 1, depth := leAt p 4 2, ioTimeout := leAt p 6 2
        bar0 := BitVec.ofNat 64 (leAt p 8 8), readyTimeout := leAt p 16 2 } }) s) }

/-- STORE_ADMIN: one admin command, with the completion entry it returned; its buffer of host memory cannot be reached while bus mastering
is withheld (R606). -/
def storeAdmin (entry : BitVec 128) (dma : DmaResult) : CmdSpec :=
  { op := 0x0804, fixed := 76
    checks := fun s p => [inRange p 0 1 0 31, rsv p 1 3,
      (4, !(evActive s && [0x01, 0x05, 0x80, 0x84].contains (leAt p 4 1))), (68, leAt p 68 8 % 4096 == 0)]
    body := fun s _ _ =>
      let dma := seenH s dma
      if dma = .error || !s.host.busMaster then refuse s 0x05
      else if dmaDark dma then refuse (noteTlp 489 dma s) 0x05
      else okCmd s (leBytes 16 entry.toNat) }

/-- STORE_MEMBER_SET. -/
def storeMemberSet : CmdSpec :=
  { op := 0x0805, fixed := 16
    checks := fun _ p => [inRange p 0 1 0 31, inRange p 1 1 0 31, inRange p 2 1 0 7, rsv p 3 1]
    body := whenStopped (fun s p => updEv (fun e => { e with members := tabPut e.members (leAt p 0 1) {
      ctrl := leAt p 1 1, flags := BitVec.ofNat 8 (leAt p 2 1), nsid := BitVec.ofNat 32 (leAt p 4 4), blocks := leAt p 8 8 } }) s) }

/-- A block of a member, as the device's writes left it. -/
def diskBlock (s : State) (i b : Nat) : List Byte := tabGet (zeros 4096) s.ev.disk (i * 2 ^ 64 + b)

/-- SUPER_SEQ of a valid superblock copy: its CRC and MAGIC hold. -/
def superOf (b : List Byte) : Option Nat :=
  if crc32c (b.take 4092) = beNat (bytesAt b 4092 4) ∧ beNat (bytesAt b 0 4) = 0x43445355 then some (beNat (bytesAt b 24 8)) else none

/-- The newest SUPER_SEQ of member 0, with its creation time. -/
def mountSuper (s : State) : Option (Nat × PtpTime) :=
  (argMax (·.1) ((List.range 2).filterMap (fun i =>
    (superOf (diskBlock s 0 i)).map (fun q => (q, diskBlock s 0 i))))).map (fun x =>
      (x.1, { sec := BitVec.ofNat 48 (beNat (bytesAt x.2 80 6)), ns := BitVec.ofNat 32 (beNat (bytesAt x.2 86 4)) }))

/-- Write both superblocks of every member (R502). -/
def formatSupers (x : StoreSet) (s : State) : State :=
  (List.range x.n).foldl (fun a i => updEv (fun e => { e with
    disk := tabPut (tabPut e.disk (i * 2 ^ 64) (superblock a x i 0)) (i * 2 ^ 64 + 1) (superblock a x i 1) }) a) s

/-- The stripes and seals that are durable now that a member's commands have ended (R495, R505, R515). -/
def settleMember (i : Nat) (e : StoreEnd) (s : State) : State :=
  settleSeals (settleStripes s.ev.stripes.length (memberEnds i e s))

/-- STORE_SET: MODE 0 formats, MODE 1 mounts (R502, R504, R524). A transfer to a member that does not complete fails the member (R505). -/
def storeSet (r : SetEnd) : CmdSpec :=
  { op := 0x0806, fixed := 76
    checks := fun s p =>
      let n := leAt p 1 1
      let x : StoreSet := { n := n, k := leAt p 2 1, m := leAt p 3 1, setId := [], rows := leAt p 20 8, sealRows := leAt p 28 8
                            superSeq := 0, created := {} }
      [inRange p 0 1 0 1,
       (1, decide (1 ≤ n) && decide (n ≤ 32) && decide (leAt p 2 1 + leAt p 3 1 ≤ n) &&
         (List.range n).all (fun i => (memberOf s i).flags.getLsbD 2)),
       inRange p 2 1 1 16, inRange p 3 1 1 4,
       (20, decide (1 ≤ leAt p 20 8) && (List.range n).all (fun i => decide (shardLba x + x.rows ≤ (memberOf s i).blocks))),
       (28, decide (1 ≤ leAt p 28 8))]
    body := fun s _ p =>
      if evActive s then refuse s 0x03
      else if r.result ≠ .ok then refuse (settleMember (r.member.toNat % leAt p 1 1) r.result s) 0x0A
      else
        let x : StoreSet := { n := leAt p 1 1, k := leAt p 2 1, m := leAt p 3 1, setId := bytesAt p 4 16, rows := leAt p 20 8
                              sealRows := leAt p 28 8, superSeq := 1, created := s.line.ptp.time }
        let reset := fun (e : Evidence) (y : StoreSet) => { e with
          set := some y, stripes := [], writes := [], sealsOut := [], sealRecords := [], high := 0, stop := 0
          members := e.members.map (fun (q : Nat × StoreMember) => (q.1, { q.2 with failed := false })) }
        if leAt p 0 1 = 0 then
          okCmd (formatSupers x (updEv (fun e => { reset e x with
            nextStripe := 0, sealBlock := 0, sealSeq := 0, releasedStripe := 0, releasedSeal := 0 }) s)) (leBytes 8 (storeCap x))
        else match mountSuper s with
          | none => refuse s 0x0A
          | some (q, c) =>
            okCmd (updEv (fun e => { reset e { x with superSeq := q, created := c } with
              nextStripe := leAt p 36 8, sealBlock := leAt p 44 8, sealSeq := leAt p 52 8, releasedStripe := leAt p 60 8
              releasedSeal := leAt p 68 8 }) s) (leBytes 8 (storeCap x)) }

/-- STORE_READ: COUNT blocks of a member to host memory, which nothing reaches while bus mastering is withheld (R606); a read that the
member does not complete fails the member (R505), and data that arrives poisoned or failing ECRC at port S is written as poisoned (R585,
R593). -/
def storeRead (result : StoreEnd) (dma : DmaResult) : CmdSpec :=
  { op := 0x0807, fixed := 24
    checks := fun _ p => [inRange p 0 1 0 31, rsv p 1 3, inRange p 12 2 1 16, rsv p 14 2]
    body := fun s _ p =>
      if result ≠ .ok then refuse (settleMember (leAt p 0 1) result s) 0x0A
      else if dma = .error || !s.host.busMaster then refuse s 0x05
      else
        let bs := (List.range (leAt p 12 2)).flatMap (fun i => diskBlock s (leAt p 0 1) (leAt p 4 8 + i))
        let dma := dmaSeen (ecrcCheckS s) dma
        okCmd (hostWriteBad (BitVec.ofNat 64 (leAt p 16 8)) bs (fun _ => dmaDark dma) (noteTlp 490 dma s)) }

/-- STORE_RELEASE: room for stripes and seal blocks again (R501). -/
def storeRelease : CmdSpec :=
  { op := 0x0808, fixed := 16
    checks := fun s p => [(0, decide (leAt p 0 8 ≤ s.ev.nextStripe)), (8, decide (leAt p 8 8 ≤ nextRecordBlock s))]
    body := okState (fun s p =>
      let s := updEv (fun e => { e with releasedStripe := leAt p 0 8, releasedSeal := leAt p 8 8 }) s
      match s.ev.set with
      | none => s
      | some x =>
        let g := s.ev.nextStripe - s.ev.releasedStripe
        let b := nextRecordBlock s - s.ev.releasedSeal
        let u := sealUsed s
        let tooMany := decide (x.m < failedCount s x)
        updEv (fun e => { e with
          high := e.high &&& BitVec.ofNat 2 (b2n (decide (7 * storeCap x ≤ 8 * g)) + 2 * b2n (decide (7 * x.sealRows ≤ 8 * u)))
          stop := e.stop &&& BitVec.ofNat 2 (b2n (tooMany || decide (storeCap x ≤ g)) + 2 * b2n (tooMany || decide (x.sealRows ≤ b))) }) s) }

/-- EVIDENCE_CONFIG. -/
def evidenceConfig : CmdSpec :=
  { op := 0x0810, fixed := 44
    checks := fun s p => [inRange p 0 4 1 4096, inRange p 4 2 16 65535, inRange p 6 2 1 65535, inRange p 8 2 100 60000,
      inRange p 11 1 0 15, inRange p 12 1 0 3, inRange p 13 1 0 7, rsv p 14 2, dramRegion s p 16 4160, dramRegion s p 24 (2 ^ 25),
      dramRegion s p 32 (2 ^ 20)]
    body := fun s _ p =>
      if evActive s then refuse s 0x03
      else okCmd (updEv (fun e => { e with
        budget := leAt p 0 4, stripeAge := leAt p 4 2, commitStep := leAt p 6 2, flushAllow := leAt p 8 2
        classes := BitVec.ofNat 8 (leAt p 10 1), stMask := BitVec.ofNat 8 (leAt p 11 1), sgMask := BitVec.ofNat 8 (leAt p 12 1)
        powerSlot := leAt p 13 1, configured := true, ctrlBase := leAt p 16 8, tickBase := leAt p 24 8, tableBase := leAt p 32 8
        powerKeyId := BitVec.ofNat 32 (leAt p 40 4) }) s) }

/-- LANE_CONFIG: the lane begins at position 0 (log entry 32). -/
def laneConfig : CmdSpec :=
  { op := 0x0811, fixed := 20
    checks := fun s p => [inRange p 0 1 0 63, inRange p 1 1 20 30, inRange p 2 1 4 12, rsv p 3 1,
      dramRegion s p 4 (2 ^ leAt p 1 1), dramRegion s p 12 (256 * 2 ^ leAt p 2 1)]
    body := fun s _ p =>
      if evActive s then refuse s 0x03
      else okCmd (setLane (leAt p 0 1) {
        configured := true, logShift := leAt p 1 1, sealShift := leAt p 2 1, logBase := leAt p 4 8, sealBase := leAt p 12 8 } s) }

/-- EVIDENCE_RUN start: the reserved units' locks go to the units, the lanes start (R494, R497, R519, log entry 32). -/
def evidenceStart (s : State) : State :=
  let s := (reservedUnits s).foldl (fun a u => setLock (unitLock u) { lockOf a (unitLock u) with
    owner := BitVec.ofNat 12 (unitIdentity u), last := (lockOf a (unitLock u)).owner } a) s
  let s := updEv (fun e => { e with
    state := .running, marks := [], seals := [], built := e.seals.filterMap (·.built) ++ e.built
    lanes := e.lanes.map (fun l => (l.1, { l.2 with sealLined := l.2.sealTaken })) }) s
  (laneList s).foldl (fun a l =>
    let y := laneOf a l.1
    putField (laneCtl a l.1 + 8) 4 (y.durable % 2 ^ 32) (putField (laneCtl a l.1 + 12) 4 (y.sealTaken % 2 ^ 32) a)) s

/-- EVIDENCE_RUN stop: back-pressure ends with the path (R496; log entry 131). -/
def evidenceStop (s : State) : State := releaseUnits (endExposure (updEv (fun e => { e with state := .stopped }) s))

/-- EVIDENCE_RUN, refused while the store controllers are set up again after S1b (R690). -/
def evidenceRun : CmdSpec :=
  { op := 0x0812, fixed := 1, checks := fun _ p => [inRange p 0 1 0 1]
    body := fun s _ p =>
      if s.ev.state = .powerFail || s.pow.storeReinit then refuse s 0x03
      else if leAt p 0 1 = 1 then
        if s.ev.state = .running then okCmd s
        else if s.ev.set.isNone ||
            (laneList s).any (fun l => decide (2 ^ l.2.logShift < (s.ev.budget + 1) * 2 ^ 20)) then refuse s 0x03
        else okCmd (evidenceStart s)
      else if !(openStreams s).isEmpty then refuse s 0x03
      else okCmd (if s.ev.state = .running then evidenceStop s else s) }

/-- COMMIT_ROUTE. -/
def commitRoute : CmdSpec :=
  { op := 0x0813, fixed := 8
    checks := fun _ p => [inRange p 0 1 0 1, inRange p 1 1 0 1, inRange p 2 1 0 7, rsv p 3 1, inRange p 6 2 0 16383]
    body := okState (fun s p => updEv (fun e => { e with routes := tabPut e.routes (leAt p 0 1) {
      enable := leAt p 1 1 = 1, cls := BitVec.ofNat 3 (leAt p 2 1), domain := BitVec.ofNat 16 (leAt p 4 2)
      ctx := BitVec.ofNat 14 (leAt p 6 2) } }) s) }

/-- Is a context idle: no item in flight or waiting (R473)? -/
def ctxIdle (s : State) (c : Nat) : Bool := s.disp.items.all (fun p => p.2.ctx.toNat != c || p.2.voided)

/-- The records of the seal log: those of the block being filled, and those of the blocks on the members. -/
def sealLog (s : State) : List (List Byte) :=
  s.ev.sealRecords ++ s.ev.disk.flatMap (fun d =>
    if beNat (bytesAt d.2 3840 4) = 0x43445342 then (List.range (leAt d.2 3844 1)).map (fun i => bytesAt d.2 (256 * i) 256) else [])

/-- The KEY_ID of the seal with a hash, when the device can read it in its seal log (log entry 129). -/
def sealKeyOf (s : State) (hash : List Byte) : Option (BitVec 32) :=
  ((sealLog s).find? (fun r => sha256 r == hash)).map (fun r => BitVec.ofNat 32 (beNat (bytesAt r 188 4)))

/-- The evidence area of a newly opened stream (Table 9.1, R473, R481): bytes 64 to 255. -/
def evidenceArea (s : State) (p : List Byte) : List Byte :=
  bytesAt p 32 32 ++ zeros 32 ++ beBytes 4 (leAt p 4 4) ++ beBytes 4 (leAt p 20 4) ++ beBytes 6 s.sh.sheet.toNat ++ [1] ++
    bytesAt p 2 1 ++ zeros 12 ++ beBytes 8 (leAt p 24 8) ++ beBytes 8 (leAt p 24 8) ++ zeros 28 ++ beBytes 2 (leAt p 16 2) ++
    beBytes 2 (leAt p 18 2) ++ beBytes 4 (leAt p 12 4) ++ zeros 6 ++ ptpBytes s.sh.tickTime ++ zeros 32

/-- STREAM_OPEN (R473, R481, R508, R522, R524). -/
def streamOpen : CmdSpec :=
  { op := 0x0820, fixed := 97
    checks := fun s p => [inRange p 0 2 0 16383, inRange p 2 1 0 15,
      (3, decide (leAt p 3 1 ≤ 7) && (signKey s (leAt p 3 1)).isSome), inRange p 12 4 0 1048575,
      (16, decide (leAt p 16 2 ≤ 1023) && (openStreams s).all (fun c =>
        match tabFind s.ev.streams c with | some x => x.wmStream != leAt p 16 2 | none => true)),
      inRange p 96 1 0 1]
    body := fun s _ p =>
      let c := leAt p 0 2
      if !ctxIdle s c || (streamOf s c).isSome || (leAt p 12 4 == 0 && !s.sh.aligned) then refuse s 0x03
      else okCmd (setStream c {
        streamId := BitVec.ofNat 32 (leAt p 4 4), slot := leAt p 3 1, keyId := BitVec.ofNat 32 (leAt p 8 4), wmStream := leAt p 16 2
        ream := BitVec.ofNat 32 (leAt p 20 4) - 1, prevSeal := bytesAt p 64 32, first := leAt p 96 1 = 0
        prevKey := if leAt p 96 1 = 0 then none else sealKeyOf s (bytesAt p 64 32)
        durableReam := 0, sealHash := bytesAt p 64 32 } (ctxWrite c 64 (evidenceArea s p) s)) }

/-- STREAM_CLOSE (R510). -/
def streamClose : CmdSpec :=
  { op := 0x0821, fixed := 3, checks := fun _ p => [inRange p 0 2 0 16383, inRange p 2 1 0 1]
    body := fun s _ p =>
      let c := leAt p 0 2
      match streamOf s c with
      | none => refuse s 0x03
      | some _ =>
        if !ctxIdle s c then refuse s 0x03
        else
          let s := closeReam c (s.sh.sheet - 1).toNat 6 s
          if leAt p 2 1 = 0 then okCmd s
          else okCmd (match tabFind s.ev.streams c with
            | some x => setStream c { x with isOpen := false } (ctxWrite c 142 [0] s)
            | none => s) }

/-- STREAM_KEY: a new signing key from the next seal (R502). -/
def streamKey : CmdSpec :=
  { op := 0x0822, fixed := 8
    checks := fun s p => [inRange p 0 2 0 16383, (2, decide (leAt p 2 1 ≤ 7) && (signKey s (leAt p 2 1)).isSome), rsv p 3 1]
    body := fun s _ p =>
      let c := leAt p 0 2
      match streamOf s c with
      | none => refuse s 0x03
      | some x =>
        if !ctxIdle s c then refuse s 0x03
        else okCmd (rewriteSupers (setStream c { x with slot := leAt p 2 1, keyId := BitVec.ofNat 32 (leAt p 4 4) } s)) }

/-- STREAM_QUERY, the context's totals checked as they are read (R518, R579, R583). -/
def streamQuery : CmdSpec :=
  { op := 0x0823, fixed := 2, checks := fun _ p => [inRange p 0 2 0 16383]
    body := fun s _ p =>
      let c := leAt p 0 2
      let x := (tabFind s.ev.streams c).getD { isOpen := false }
      let s := if x.isOpen then checkCtx c 172 8 s else s
      let tot := fun off => if x.isOpen then beNat (ctxRead s c off 4) else 0
      okCmd s (layout [(x.streamId.toNat, 4), (b2n x.isOpen, 1), (0, 3), (x.durableReam.toNat, 4), (tot 172, 4), (tot 176, 4), (0, 4),
        (s.ev.durable.toNat, 8), (x.lastLoss.toNat, 8)] ++ (x.sealHash ++ zeros 32).take 32) }

/-- STATE of EVIDENCE_STATE (Table 9.16). -/
def evCode (x : EvState) : Nat := match x with | .stopped => 0 | .running => 1 | .powerFail => 2 | .sealed => 3

/-- EVIDENCE_STATUS. -/
def evidenceStatus : CmdSpec :=
  { op := 0x0830
    body := okReply (fun s _ => layout [(s.ev.durable.toNat, 8), (s.ev.exposure, 8), (s.ev.nextStripe, 8), (s.ev.releasedStripe, 8),
      (if s.ev.sealRecords.isEmpty then s.ev.sealBlock else s.ev.sealBlock + 1, 8), (s.ev.sealSeq, 8),
      (packNat ((List.range 32).map (fun i => (b2n (memberOf s i).failed, 1))), 4), (evCode s.ev.state, 1)]) }

/-- EVIDENCE_COUNTERS. -/
def evidenceCounters : CmdSpec :=
  { op := 0x0831, fixed := 1, checks := fun _ p => [inRange p 0 1 0 1], body := counterBody .evidence (fun _ => 0) 0 16 }

def execStoreCfgAccess (m : BitVec 4) (data : BitVec 32) (completion : BitVec 2) (s : State) : Res :=
  .next (runCmd (storeCfgAccess data completion) m s)
def execStoreLink (m : BitVec 4) (s : State) : Res := .next (runCmd storeLink m s)
def execStoreControllerAdd (m : BitVec 4) (ok : Bool) (s : State) : Res := .next (runCmd (storeControllerAdd ok) m s)
def execStoreAdmin (m : BitVec 4) (entry : BitVec 128) (dma : DmaResult) (s : State) : Res := .next (runCmd (storeAdmin entry dma) m s)
def execStoreMemberSet (m : BitVec 4) (s : State) : Res := .next (runCmd storeMemberSet m s)
def execStoreSet (m : BitVec 4) (r : SetEnd) (s : State) : Res := .next (runCmd (storeSet r) m s)
def execStoreRead (m : BitVec 4) (result : StoreEnd) (dma : DmaResult) (s : State) : Res := .next (runCmd (storeRead result dma) m s)
def execStoreRelease (m : BitVec 4) (s : State) : Res := .next (runCmd storeRelease m s)
def execEvidenceConfig (m : BitVec 4) (s : State) : Res := .next (runCmd evidenceConfig m s)
def execLaneConfig (m : BitVec 4) (s : State) : Res := .next (runCmd laneConfig m s)
def execEvidenceRun (m : BitVec 4) (s : State) : Res := .next (runCmd evidenceRun m s)
def execCommitRoute (m : BitVec 4) (s : State) : Res := .next (runCmd commitRoute m s)
def execStreamOpen (m : BitVec 4) (s : State) : Res := .next (runCmd streamOpen m s)
def execStreamClose (m : BitVec 4) (s : State) : Res := .next (runCmd streamClose m s)
def execStreamKey (m : BitVec 4) (s : State) : Res := .next (runCmd streamKey m s)
def execStreamQuery (m : BitVec 4) (s : State) : Res := .next (runCmd streamQuery m s)
def execEvidenceStatus (m : BitVec 4) (s : State) : Res := .next (runCmd evidenceStatus m s)
def execEvidenceCounters (m : BitVec 4) (s : State) : Res := .next (runCmd evidenceCounters m s)

end Sys2Proof.Machine
end

