-- ==== Sys2Proof/Machine/PowerCmd.lean ====
section
/-!
DEFINITION. Commands 0x0Axx (13_reset_boot_and_power_states.md, Table 13.16; R262, R352, R665, R666, R668, R669, R683-R685, R691,
R694, R696, R697).
-/
namespace Sys2Proof.Machine

/-- Run a command that ends later: it is refused at once, or its mailbox stays BUSY (R622, R668, R729). -/
def runLong (c : CmdSpec) (m : BitVec 4) (s : State) : State :=
  if mayStart s m.toNat && mbxOpcode s m.toNat == c.op then
    let r := cmdOutcome c m.toNat (startCmd m.toNat s)
    if r.status = 0 then r.state else sweepBad (finishCmd m.toNat r.status r.detail r.result r.state)
  else s

/-- Does R694 forbid a reset: has step 6a, or without evidence step 2, not ended in S2? -/
def s2Running (s : State) : Bool := s.pow.current == .s2 && s.ev.pf != .idle

/-- The checks of MODE. -/
def modeChecks (p : List Byte) : List (Nat × Bool) := [inRange p 0 1 0 1, rsv p 1 3]

/-- CHIP_RESET (R666, R669, R694). -/
def chipReset : CmdSpec :=
  { op := 0x0A01, fixed := 4, checks := fun _ p => modeChecks p
    body := fun s m p =>
      if s2Running s then refuse s 0x03
      else
        let s := updPow (fun x => { x with after := .chip m }) s
        okCmd (if leAt p 0 1 = 1 then pfBegin s else s) }

/-- DATAPATH_RESET (R665, R666, R694). -/
def datapathReset : CmdSpec :=
  { op := 0x0A02, fixed := 4, checks := fun _ p => modeChecks p
    body := fun s m p =>
      if s2Running s || (leAt p 0 1 == 0 && s.ev.state == .running) then refuse s 0x03
      else
        let s := updPow (fun x => { x with after := .datapath m }) s
        okCmd (if leAt p 0 1 = 1 then pfBegin s else s) }

/-- CORE_RESET; that of a cluster ends its freeze; the core that event source 450 names for it is open (R262, R352, R696, R727, log entry
2). -/
def coreReset : CmdSpec :=
  { op := 0x0A03, fixed := 4, checks := fun _ p => [inRange p 0 1 0 1, inRange p 1 1 0 (if leAt p 0 1 = 0 then 63 else 7), rsv p 2 2]
    body := okState (fun s p =>
      let i := leAt p 1 1
      if leAt p 0 1 = 0 then raise 450 [(i / 8, 8), (i, 8)] (resetCores [i] s)
      else raise 450 [(i, 8), (freeNow s, 8)] (drawFree (markFrozen 1 i false (resetCores (clusterCores i) s)))) }

/-- POWER_TOLERANCE (R683). -/
def powerTolerance : CmdSpec :=
  { op := 0x0A04, fixed := 28
    body := okState (fun s p => updPow (fun x => { x with
      policyNext := { x.policyNext with tolerance := (List.range 7).map (fun i => leAt p (4 * i) 4) } }) s) }

/-- POWER_POLICY (R684, R685). -/
def powerPolicy : CmdSpec :=
  { op := 0x0A05, fixed := 8
    checks := fun _ p => [inRange p 0 1 0 7, rsv p 1 1, inRange p 2 2 1 65535, inRange p 4 2 0 512, inRange p 6 2 1 65535]
    body := okState (fun s p => updPow (fun x => { x with policyNext := { x.policyNext with
      allow := BitVec.ofNat 3 (leAt p 0 1), idleSheets := leAt p 2 2, wakeThreads := leAt p 4 2, a1Idle := leAt p 6 2 } }) s) }

/-- POWER_FAIL (R691). -/
def powerFail : CmdSpec :=
  { op := 0x0A06, body := fun s _ _ => if s.pow.current = .s2 then refuse s 0x03 else okCmd (beginS2 1 s) }

/-- POWER_STATE (Table 13.12); the firmware tells the blockers, so that they read their reset value until it runs (R9; log entry 104). -/
def powerStateWord (s : State) : BitVec 32 :=
  let b := if s.host.fwReady then restBlockers s + (if rested s then 0 else 128) else 0
  let deepest := if s.host.fwReady then deepestState s else .a0
  BitVec.ofNat 32 (packNat [(b, 8), (0, 8), (s.pow.gated.toNat, 8), (0, 2), (powerCode deepest, 3), (powerCode s.pow.current, 3)])

/-- POWER_STATUS; the times spent are measured, and open (log entry 2). -/
def powerStatus : CmdSpec :=
  { op := 0x0A07
    body := fun s _ _ =>
      okCmd { s with fresh := s.fresh + 5 } (layout ([((powerStateWord s).toNat, 4), (0, 4)] ++
        (List.range 5).map (fun i => (Config.free (s.fresh + i), 8)))) }

/-- GPIO_CONFIG (R671, R697). -/
def gpioConfig : CmdSpec :=
  { op := 0x0A08, fixed := 4, checks := fun _ p => [inRange p 0 1 0 15, inRange p 1 1 0 2, inRange p 2 1 0 1, inRange p 3 1 0 2]
    body := okState (fun s p => updPow (fun x => { x with
      gpio := tabSet {} x.gpio (leAt p 0 1) { mode := leAt p 1 1, level := leAt p 2 1 == 1, pull := leAt p 3 1 } }) s) }

/-! ### Happenings -/

/-- CHIP_RESET: it completes at once or at the end of the sequence, and the L3 reset follows when its completion is written (R666, R669; log
entry 170). -/
def execChipReset (m : BitVec 4) (s : State) : Res := .next (afterSeal (runLong chipReset m s))
/-- DATAPATH_RESET: it completes at the L2 exit (R668). -/
def execDatapathReset (m : BitVec 4) (s : State) : Res := .next (afterSeal (runLong datapathReset m s))
def execPowerTolerance (m : BitVec 4) (s : State) : Res := .next (runCmd powerTolerance m s)
def execPowerPolicy (m : BitVec 4) (s : State) : Res := .next (runCmd powerPolicy m s)
def execPowerFail (m : BitVec 4) (s : State) : Res := .next (afterSeal (runCmd powerFail m s))
def execPowerStatus (m : BitVec 4) (s : State) : Res := .next (runCmd powerStatus m s)
def execGpioConfig (m : BitVec 4) (s : State) : Res := .next (runCmd gpioConfig m s)

end Sys2Proof.Machine
end

