-- ==== Sys2Proof/Machine/SecureCmd.lean ====
section
/-!
DEFINITION. Commands 0x0Bxx and 0x0Cxx (14_security_and_debug.md, Table 14.17; R698-R708, R711, R712, R717-R719, R722, R724, R729,
R736-R738, R741, R742).
-/
namespace Sys2Proof.Machine

/-! ### Lifecycle and fuses -/

/-- LIFECYCLE_ADVANCE (R699, R700). -/
def lifecycleAdvance : CmdSpec :=
  { op := 0x0B01, fixed := 8
    checks := fun s p => [(0, decide (s.sec.lifecycle < leAt p 0 1) && decide (leAt p 0 1 ≤ 2)), rsv p 1 3]
    body := fun s _ p =>
      let t := leAt p 0 1
      if leAt p 4 4 ≠ Config.serial.toNat % 2 ^ 32 || s.ev.state = .running || (t = 1 && s.sec.fuses.deviceKey.isNone) then refuse s 0x03
      else
        let f := fun (x : Fuses) => if t = 1 then { x with deployed := true } else { x with retired := true }
        let s := updSec (fun c => { c with fuses := f c.fuses, keys := if t = 2 then [] else c.keys }) s
        let s := if 2 < s.sec.level then setLevel 2 s.sec.path s else s
        okCmd (raise 461 [(t, 8)] (if t = 2 then rewriteSupers s else s)) }

/-- FUSE_PROGRAM (R701). -/
def fuseProgram : CmdSpec :=
  { op := 0x0B02, fixed := 4, extent := fun p => if leAt p 0 1 = 1 then 36 else 4
    checks := fun _ p => [inRange p 0 1 0 1, rsv p 1 3]
    body := fun s _ p =>
      let f := s.sec.fuses
      if leAt p 0 1 = 0 then
        if f.deviceKey.isSome then refuse s 0x03
        else okCmd (drawBytes 32 (updSec (fun c => { c with fuses := { f with deviceKey := some (randomBytes s 32) } }) s))
      else if f.debugKey.isSome then refuse s 0x03
      else okCmd (updSec (fun c => { c with fuses := { f with debugKey := some (bytesAt p 4 32) } }) s) }

/-- FW_KEY_REVOKE (R712). -/
def fwKeyRevoke : CmdSpec :=
  { op := 0x0B03, fixed := 1, checks := fun _ p => [inRange p 0 1 0 3]
    body := fun s _ p =>
      let i := leAt p 0 1
      let left := (List.range 4).filter (fun k => !s.sec.fuses.revoke.getLsbD k)
      if i = s.pow.keyIndex || left = [i] then refuse s 0x03
      else okCmd (updSec (fun c => { c with fuses := { c.fuses with revoke := c.fuses.revoke ||| BitVec.ofNat 4 (2 ^ i) } }) s) }

/-- ROLLBACK_ADVANCE (R711). -/
def rollbackAdvance : CmdSpec :=
  { op := 0x0B04, fixed := 1
    checks := fun s p => [(0, decide (1 ≤ leAt p 0 1) && decide (leAt p 0 1 ≤ 64) && decide (s.sec.fuses.rollback < leAt p 0 1) &&
      decide (leAt p 0 1 ≤ s.pow.security))]
    body := okState (fun s p => updSec (fun c => { c with fuses := { c.fuses with rollback := max c.fuses.rollback (leAt p 0 1) } }) s) }

/-- SECURITY_STATE (Table 14.11). -/
def securityState (s : State) : Nat :=
  let x := s.sec
  packNat [(x.fuses.rollback, 7), (b2n x.fuses.deviceKey.isSome, 1), (x.fuses.revoke.toNat, 4), (x.unlockFails, 4),
    (s.disp.frozen.toNat, 8), (b2n x.trace.writing, 1), (b2n x.mpHalted, 1), (b2n x.deviceFrozen, 1), (b2n x.path, 1), (x.level, 2),
    (x.lifecycle, 2)]

/-- SECURITY_QUERY. -/
def securityQuery : CmdSpec :=
  { op := 0x0B05
    body := okReply (fun s _ => layout [(securityState s, 4), (b2n s.sec.fuses.debugKey.isSome, 1), (0, 3), (Config.serial.toNat, 8)] ++
      (List.range 4).flatMap (fun i => leBytes 32 (Config.fwKey i).toNat)) }

/-! ### Keys -/

/-- KIND and SLOT, and the key store's place of the slot. -/
def slotChecks (p : List Byte) : List (Nat × Bool) := [inRange p 0 1 1 2, inRange p 1 1 0 (if leAt p 0 1 = 1 then 7 else 31)]
def slotPlace (p : List Byte) : Nat := if leAt p 0 1 = 1 then leAt p 1 1 else 32 + leAt p 1 1

/-- Does a bank hold a stream parameter entry that enciphers under a slot? -/
def bankUses (b : Bank) (slot : Nat) : Bool := b.streams.any (fun e => e.2.flags.getLsbD 0 && e.2.key.toNat == slot)

/-- Is a slot in use (R706)? -/
def slotInUse (s : State) (p : List Byte) : Bool :=
  let i := leAt p 1 1
  if leAt p 0 1 = 1 then
    s.ev.streams.any (fun x => x.2.isOpen && x.2.slot == i) || (evActive s && s.ev.powerSlot == i)
  else bankUses s.sh.cur i || (match s.sh.next with | some n => bankUses n.bank i | none => false)

/-- DEVICE_KEY; an unprogrammed fuse reads as zero. -/
def deviceKey (s : State) : List Byte := s.sec.fuses.deviceKey.getD (zeros 32)

/-- Bytes 0 to 7 of a wrapped blob, and the additional data of its tag (Table 14.2). -/
def blobHead (kind keyId : Nat) : List Byte := layout [(keyId, 4), (kind, 1), (0, 3)]
def blobAad (head : List Byte) : List Byte := head ++ beBytes 8 Config.serial.toNat

/-- A key wrapped under DEVICE_KEY with an IV from the random source (Table 14.2). -/
def wrapKey (s : State) (kind keyId : Nat) (key : List Byte) : List Byte :=
  let iv := randomBytes s 12
  let c := gcmSeal (deviceKey s) iv (blobAad (blobHead kind keyId)) key
  blobHead kind keyId ++ iv ++ c.1 ++ c.2

/-- The key in a blob of a kind, when its TAG verifies (R705). -/
def unwrapKey (s : State) (kind : Nat) (b : List Byte) : Option (List Byte) :=
  if leAt b 4 1 != kind || leAt b 5 3 != 0 then none
  else gcmOpen (deviceKey s) (bytesAt b 8 12) (blobAad (b.take 8)) (bytesAt b 20 32) (bytesAt b 52 16)

/-- A slot changes; a changed signing key joins the superblocks' key table (R502). -/
def changeSlot (p : List Byte) (k : KeySlot) (s : State) : State :=
  let s := updSec (fun c => { c with keys := tabSet {} c.keys (slotPlace p) k }) s
  let s := if leAt p 0 1 = 1 then rewriteSupers s else s
  raise 462 [(leAt p 0 1, 8), (leAt p 1 1, 8)] s

/-- Load a slot with a key, and return its blob, with the public key of a signing one. -/
def loadSlot (p : List Byte) (key : List Byte) (pub : Bool) (s : State) : CmdRes :=
  let kind := leAt p 0 1
  let blob := wrapKey s kind (leAt p 4 4) key
  okCmd (changeSlot p { kind := kind, keyId := BitVec.ofNat 32 (leAt p 4 4), key := key } (drawBytes 12 s))
    (blob ++ if pub && kind = 1 then edPublic key else [])

/-- KEY_GENERATE (R706). -/
def keyGenerate : CmdSpec :=
  { op := 0x0B10, fixed := 8, checks := fun _ p => slotChecks p ++ [rsv p 2 2]
    body := fun s _ p => if slotInUse s p then refuse s 0x03 else loadSlot p (randomBytes s 32) true (drawBytes 32 s) }

/-- KEY_IMPORT (R705, R706). -/
def keyImport : CmdSpec :=
  { op := 0x0B11, fixed := 72
    checks := fun s p => slotChecks p ++ [rsv p 2 2, (4, (unwrapKey s (leAt p 0 1) (bytesAt p 4 68)).isSome)]
    body := fun s _ p =>
      if slotInUse s p then refuse s 0x03
      else okCmd (changeSlot p { kind := leAt p 0 1, keyId := BitVec.ofNat 32 (leAt p 4 4)
                                 key := (unwrapKey s (leAt p 0 1) (bytesAt p 4 68)).getD [] } s) }

/-- KEY_DELETE (R706). -/
def keyDelete : CmdSpec :=
  { op := 0x0B12, fixed := 2, checks := fun _ p => slotChecks p
    body := fun s _ p =>
      if slotInUse s p then refuse s 0x03 else okCmd (if (keySlot s (slotPlace p)).kind = 0 then s else changeSlot p {} s) }

/-- KEY_QUERY (R704). -/
def keyQuery : CmdSpec :=
  { op := 0x0B13, fixed := 2, checks := fun _ p => slotChecks p
    body := okReply (fun s p =>
      let k := keySlot s (slotPlace p)
      layout [(b2n (k.kind != 0), 1), (0, 3), (k.keyId.toNat, 4)] ++ if k.kind = 1 then edPublic k.key else zeros 32) }

/-- KEY_LOAD_PLAIN (R704, R706). -/
def keyLoadPlain : CmdSpec :=
  { op := 0x0B14, fixed := 40, checks := fun _ p => slotChecks p ++ [rsv p 2 2]
    body := fun s _ p => if slotInUse s p then refuse s 0x03 else loadSlot p (bytesAt p 8 32) false s }

/-! ### Debug levels -/

/-- DEBUG_CHALLENGE (R717, Table 14.4). -/
def debugChallenge : CmdSpec :=
  { op := 0x0B20
    body := fun s _ _ =>
      let r := layout [(0x4E474455, 4), (2, 1), (0, 3), (Config.serial.toNat, 8)] ++ randomBytes s 32 ++
        layout [(if ticking s then s.sh.sheet.toNat else 0, 8), (60000, 4), (0, 4)]
      okCmd (drawBytes 32 (updSec (fun c => { c with challenge := some r }) s)) r }

/-- Does a signature verify under DEBUG_KEY? A zero or unprogrammed DEBUG_KEY verifies none (R718, text after R702). -/
def unlockVerifies (s : State) (r sig : List Byte) : Bool :=
  match s.sec.fuses.debugKey with
  | some k => k.any (· != 0) && edVerify k r sig
  | none => false

/-- DEBUG_UNLOCK (R717-R719, R721). -/
def debugUnlock : CmdSpec :=
  { op := 0x0B21, fixed := 64
    body := fun s _ p =>
      match s.sec.challenge with
      | none => refuse s 0x03
      | some r =>
        let s := updSec (fun c => { c with challenge := none }) s
        if s.pow.current = .s2 then refuse s 0x03
        else if unlockVerifies s r (bytesAt p 0 64) then okCmd (attachLevel 2 s)
        else
          let s := updSec (fun c => { c with unlockFails := min (c.unlockFails + 1) 8 }) s
          refuse (raise 457 [] (setFlag 0x6C4 2 (count .debug 0 1 1 s))) 0x04 }

/-- DEBUG_ATTACH (R720, R721). -/
def debugAttach : CmdSpec :=
  { op := 0x0B22, fixed := 1, checks := fun _ p => [inRange p 0 1 0 3]
    body := fun s _ p => if s.pow.current = .s2 then refuse s 0x03 else okCmd (attachLevel (leAt p 0 1) s) }

/-! ### Freezes, steps, registers, breakpoints -/

/-- The scope of a halt or release. -/
def scopeChecks (p : List Byte) : List (Nat × Bool) :=
  [inRange p 0 1 0 2, rsv p 1 1, inRange p 2 2 0 (match leAt p 0 1 with | 0 => 511 | 1 => 7 | _ => 0)]

/-- DEBUG_HALT (R722). -/
def debugHalt : CmdSpec :=
  { op := 0x0B24, fixed := 4, checks := fun _ p => scopeChecks p
    body := fun s _ p => if scopeFrozen s (leAt p 0 1) (leAt p 2 2) then refuse s 0x03 else okCmd (freezeScope (leAt p 0 1) (leAt p 2 2) 255 s) }

/-- DEBUG_RELEASE (R724). -/
def debugRelease : CmdSpec :=
  { op := 0x0B25, fixed := 4, checks := fun _ p => scopeChecks p
    body := fun s _ p => if !scopeFrozen s (leAt p 0 1) (leAt p 2 2) then refuse s 0x03 else okCmd (releaseScope (leAt p 0 1) (leAt p 2 2) s) }

/-- The thread of an IDENTITY field. -/
def identityCheck (p : List Byte) : Nat × Bool := inRange p 0 2 0 511

/-- Is the thread not FROZEN? -/
def notFrozen (s : State) (p : List Byte) : Bool := decide ((thr s (leAt p 0 2)).st ≠ .frozen)

/-- DEBUG_STEP: the thread is released, and goes on until STEP_LIMIT (R729; log entry 84). -/
def debugStep : CmdSpec :=
  { op := 0x0B26, fixed := 4, checks := fun _ p => [identityCheck p, inRange p 2 2 1 65535]
    body := fun s m p =>
      if notFrozen s p then refuse s 0x03
      else
        let t := leAt p 0 2
        let s := count .debug 0 4 1 (updSec (fun c => { c with stepMbx := some (m, t) }) s)
        okCmd (releaseScope 0 t { s with cores := { s.cores with stepping := some (t, leAt p 2 2) } }) }

/-- THREAD_REG_READ. -/
def threadRegRead : CmdSpec :=
  { op := 0x0B27, fixed := 3, checks := fun _ p => [identityCheck p, inRange p 2 1 0 1]
    body := okReply (fun s p =>
      let t := leAt p 0 2
      if leAt p 2 1 = 0 then (List.range 32).flatMap (fun i => leBytes 5 (regG s t (BitVec.ofNat 5 i)).toNat)
      else (List.range 18).flatMap (fun i => leBytes 5 (readSpecial s t i).toNat)) }

/-- THREAD_REG_WRITE (R270, R273). -/
def threadRegWrite : CmdSpec :=
  { op := 0x0B28, fixed := 9
    checks := fun _ p =>
      let n := leAt p 2 1
      [identityCheck p, (2, (decide (1 ≤ n) && decide (n ≤ 31)) || (decide (32 ≤ n) && decide (n ≤ 49) && specialWritable (n - 32))),
       rsv p 3 1, (4, decide (leAt p 4 5 < 2 ^ 36))]
    body := fun s _ p =>
      if notFrozen s p then refuse s 0x03
      else
        let t := leAt p 0 2
        let n := leAt p 2 1
        let v := BitVec.ofNat 36 (leAt p 4 5)
        okCmd (if n < 32 then setG t (BitVec.ofNat 5 n) v s
          else updThr t (writeSpecial (n - 32) v) s) }

/-- BREAKPOINT_SET (R728, R742). -/
def breakpointSet : CmdSpec :=
  { op := 0x0B29, fixed := 8
    checks := fun _ p => [inRange p 0 1 0 7, inRange p 1 1 0 3, (2, decide (leAt p 2 1 < 6)), rsv p 7 1]
    body := okState (fun s p => updSec (fun c => { c with breakpoints := tabSet {} c.breakpoints (4 * leAt p 0 1 + leAt p 1 1) {
      enable := natBit (leAt p 2 1) 0, scope := natBits (leAt p 2 1) 1 2, threads := BitVec.ofNat 8 (leAt p 3 1)
      address := BitVec.ofNat 16 (leAt p 4 2), cores := BitVec.ofNat 8 (leAt p 6 1) } }) s) }

/-! ### Trace -/

/-- Do two address ranges overlap? -/
def rangesMeet (a n b m : Nat) : Bool := decide (a < b + m) && decide (b < a + n)

/-- Bytes of the dump region (R538). -/
def dumpSize : Nat := 256 * 2 ^ 20

/-- The firmware region in force (R653). -/
def firmwareRegion (s : State) : Option (Nat × Nat) :=
  match s.host.fwRegion, s.dram.dumpBase with
  | some (b, n), _ => some (b.toNat, n.toNat)
  | none, some d => some (if d < gib then (d + dumpSize, gib) else (d - gib, gib))
  | none, none => none

/-- Is a trace region within installed DRAM and clear of the dump and firmware regions (R742)? -/
def traceRegionGood (s : State) (base size : Nat) : Bool :=
  decide (base + size ≤ dramInstalled s) &&
  !(match s.dram.dumpBase with | some d => rangesMeet base size d dumpSize | none => false) &&
  !(match firmwareRegion s with | some (b, n) => rangesMeet base size b n | none => false)

/-- One buffered record goes to the region: it wraps, or stops at the end with MODE 1 (R731). -/
def writeTrace (s : State) : State :=
  let t := s.sec.trace
  match t.buffer with
  | [] => s
  | r :: rest =>
    let s := count .debug 0 6 1 (dramWrite 7 (t.base + t.offset) r false s)
    let last := t.size ≤ t.offset + 16
    updSec (fun c => { c with trace := { t with
      buffer := if last && t.stopAtEnd then [] else rest, written := t.written + 1, offset := if last then 0 else t.offset + 16
      writing := t.writing && !(last && t.stopAtEnd) } }) s

/-- The buffer drains to DRAM (R730). -/
def drainTrace (s : State) : State :=
  if s.dram.started && s.pow.current != .s1a then (List.range s.sec.trace.buffer.length).foldl (fun a _ => writeTrace a) s else s

/-- TRACE_CONFIG (R731, R742). -/
def traceConfig : CmdSpec :=
  { op := 0x0B30, fixed := 24
    checks := fun s p =>
      [inRange p 0 1 0 1, inRange p 2 1 0 1, rsv p 3 1,
       (12, leAt p 12 8 % 4096 == 0 && traceRegionGood s (leAt p 12 8) (leAt p 20 4)),
       (20, isPow2 (leAt p 20 4) && decide (65536 ≤ leAt p 20 4) && decide (leAt p 20 4 ≤ gib))]
    body := fun s _ p =>
      if leAt p 0 1 = 0 then okCmd (updSec (fun c => { c with trace := { c.trace with enabled := false, writing := false } }) (drainTrace s))
      else if s.sec.trace.enabled then refuse s 0x03
      else okCmd (updSec (fun c => { c with trace := {
        enabled := true, writing := true, kinds := BitVec.ofNat 8 (leAt p 1 1), stopAtEnd := leAt p 2 1 == 1
        cores := BitVec.ofNat 64 (leAt p 4 8), base := leAt p 12 8, size := leAt p 20 4 } }) s) }

/-- TRACE_STATUS. -/
def traceStatus : CmdSpec :=
  { op := 0x0B31
    body := fun s _ _ =>
      let s := drainTrace s
      let t := s.sec.trace
      okCmd s (layout [(t.written, 8), (t.offset, 8), (t.lost, 8), (b2n t.writing, 1)]) }

/-- DEBUG_COUNTERS (R741). -/
def debugCounters : CmdSpec :=
  { op := 0x0B32, fixed := 1, checks := fun _ p => [inRange p 0 1 0 1], body := counterBody .debug (fun _ => 0) 0 8 }

/-! ### The dump -/

/-- Does a dump stand whose place the firmware knows: is DUMP 1 and DUMP_BASE given? -/
def dumpKnown (s : State) : Bool := s.pow.dump && s.dram.dumpBase.isSome

/-- TOTAL_BYTES of the dump header. -/
def dumpTotal (s : State) : Nat := leAt (dumpHeader s) 48 8

/-- DUMP_READ (R737). -/
def dumpRead : CmdSpec :=
  { op := 0x0C10, fixed := 16
    checks := fun s p => [(0, leAt p 0 4 % 4096 == 0),
      (4, leAt p 4 4 % 4096 == 0 && decide (leAt p 4 4 ≤ 16777216) && (!dumpKnown s || decide (leAt p 0 4 + leAt p 4 4 ≤ dumpTotal s))),
      (8, leAt p 8 8 % 4096 == 0)]
    body := fun s _ p =>
      if !dumpKnown s then refuse s 0x03
      else if !s.host.busMaster then refuse s 0x05
      else
        let a := s.dram.dumpBase.getD 0 + leAt p 0 4
        let s := noteAccess 7 false a (leAt p 4 4) s
        okCmd (hostWriteBad (BitVec.ofNat 64 (leAt p 8 8)) (dramBytes s a (leAt p 4 4)) (fun i => linePoisoned s ((a + i) / 64)) s) }

/-- DUMP_CLEAR: DUMP and the header's MAGIC are cleared and FATAL_N released (R736). -/
def dumpClear : CmdSpec :=
  { op := 0x0C11
    body := fun s _ _ =>
      if !dumpKnown s then refuse s 0x03
      else okCmd (updPow (fun p => { p with dump := false, fatalLow := false }) (dramWrite 7 (s.dram.dumpBase.getD 0) (zeros 4) false s)) }

/-- DUMP_QUERY. -/
def dumpQuery : CmdSpec :=
  { op := 0x0C12, body := fun s _ _ => if !dumpKnown s then refuse s 0x03 else okCmd s ((dumpHeader s).take 64) }

/-! ### Happenings -/

def execLifecycleAdvance (m : BitVec 4) (s : State) : Res := .next (runCmd lifecycleAdvance m s)
def execFuseProgram (m : BitVec 4) (s : State) : Res := .next (runCmd fuseProgram m s)
def execFwKeyRevoke (m : BitVec 4) (s : State) : Res := .next (runCmd fwKeyRevoke m s)
def execRollbackAdvance (m : BitVec 4) (s : State) : Res := .next (runCmd rollbackAdvance m s)
def execSecurityQuery (m : BitVec 4) (s : State) : Res := .next (runCmd securityQuery m s)
def execKeyGenerate (m : BitVec 4) (s : State) : Res := .next (runCmd keyGenerate m s)
def execKeyImport (m : BitVec 4) (s : State) : Res := .next (runCmd keyImport m s)
def execKeyDelete (m : BitVec 4) (s : State) : Res := .next (runCmd keyDelete m s)
def execKeyQuery (m : BitVec 4) (s : State) : Res := .next (runCmd keyQuery m s)
def execKeyLoadPlain (m : BitVec 4) (s : State) : Res := .next (runCmd keyLoadPlain m s)
def execDebugChallenge (m : BitVec 4) (s : State) : Res := .next (runCmd debugChallenge m s)
/-- DEBUG_UNLOCK: one that runs consumes the challenge record, whatever its outcome (R717). -/
def execDebugUnlock (m : BitVec 4) (s : State) : Res :=
  let ran := mayStart s m.toNat && mbxOpcode s m.toNat == 0x0B21
  .next (let s := runCmd debugUnlock m s
         if ran then updSec (fun c => { c with challenge := none }) s else s)
def execDebugAttach (m : BitVec 4) (s : State) : Res := .next (runCmd debugAttach m s)
def execDebugHalt (m : BitVec 4) (s : State) : Res := .next (runCmd debugHalt m s)
def execDebugRelease (m : BitVec 4) (s : State) : Res := .next (runCmd debugRelease m s)
/-- DEBUG_STEP: it completes at STEP_LIMIT. -/
def execDebugStep (m : BitVec 4) (s : State) : Res := .next (runLong debugStep m s)
def execThreadRegRead (m : BitVec 4) (s : State) : Res := .next (runCmd threadRegRead m s)
def execThreadRegWrite (m : BitVec 4) (s : State) : Res := .next (runCmd threadRegWrite m s)
def execBreakpointSet (m : BitVec 4) (s : State) : Res := .next (runCmd breakpointSet m s)
def execTraceConfig (m : BitVec 4) (s : State) : Res := .next (runCmd traceConfig m s)
def execTraceStatus (m : BitVec 4) (s : State) : Res := .next (runCmd traceStatus m s)
def execDebugCounters (m : BitVec 4) (s : State) : Res := .next (runCmd debugCounters m s)
def execDumpRead (m : BitVec 4) (s : State) : Res := .next (runCmd dumpRead m s)
def execDumpClear (m : BitVec 4) (s : State) : Res := .next (runCmd dumpClear m s)
def execDumpQuery (m : BitVec 4) (s : State) : Res := .next (runCmd dumpQuery m s)

end Sys2Proof.Machine
end

