-- ==== Sys2Proof/Machine/TickOps.lean ====
section
/-!
DEFINITION. The sheet tick (01_sheets_windows_and_furnish.md, The tick, Table 1.6; R19, R21, R23, R26, R32, R72, R143, R147, R151, R153,
R186, R189, R377, R477, R492, R546, R684, R762). Actions 2 to 5 of Table 1.6 (late items, ceilings and the end of their back-pressure,
the switch of the stamp points, the retirement of a bank) are commands of their own; the tick's actions 6 and 7 follow the last of them.
-/
namespace Sys2Proof.Machine

/-! ### The generator -/

/-- The counter advances (R19, R21); a new sheet has seen nothing yet. -/
def openSheet (s : State) : State :=
  updSheets (fun x => { x with sheet := s.sh.sheet + 1, tickTime := s.line.ptp.time, firstSeen := [] }) s

/-- The counter has wrapped: event source 7 (R23). -/
def noteWrap (s : State) : State := if s.sh.sheet = 0 then raise 7 [] s else s

/-- The first tick placed under R24 sets ALIGNED (R26). -/
def noteAligned (s : State) : State :=
  if s.sh.alignEn && !s.sh.aligned && !s.sh.realign then raise 1 [] (updSheets (fun x => { x with aligned := true }) s) else s

/-! ### Counters -/

/-- Is a counter a peak: PEAK_CELLS of an owner or PEAK_DEPTH of a queue? -/
def isPeak (k : Nat) : Bool :=
  (k / 2 ^ 40 == Scope.owner.ctorIdx && k % 256 == 11) || (k / 2 ^ 40 == Scope.queue.ctorIdx && k % 256 == 5)

/-- What the closing sheet accumulated is added to the counters, which stand from then on under the number of the sheet the tick
opens (R76, R151; log entry 98). -/
def addCounters (s : State) : State :=
  { s with
    cntTot := s.cntAcc.foldl (fun t p => tabUpd 0 t p.1 (fun v => if isPeak p.1 then max v p.2 else v + p.2)) s.cntTot
    cntAcc := [], cntSheet := s.sh.sheet + 1
    sh := { s.sh with late := s.sh.lateAcc.foldl (fun t p => tabUpd 0 t p.1 (· + p.2)) s.sh.late, lateAcc := [] } }

/-- XOFF_SHEETS of owners and PANIC_SHEETS of channels count at the tick (Table 3.11, R546). -/
def countSheets (s : State) : State :=
  let s := (s.cab.owners.filter (fun p => p.2.xoff)).foldl (fun a p => count .owner p.1 10 1 a) s
  if s.dram.panic then (populated s).foldl (fun a c => count .channel c 11 1 a) s else s

/-- Subports that left codewords uncorrected in the closed sheet (R153). -/
def noteFecSheet (s : State) : State :=
  (List.range 4).foldl (fun a p =>
    let x := portOf a p
    if x.fecSeen then raise (68 + p) [] (setPort p { x with fecSeen := false } a) else a) s

/-! ### Buckets and averages -/

/-- What a sheet adds to a control-path bucket: round(LIMIT_RATE × P × 65,536), with P = period × 128 ns (R143). -/
def limitRefill (b : Bank) (p : Pipe) : Nat := (2 * p.limitRate * b.period.toNat * 128 * 65536 + 10 ^ 9) / (2 * 10 ^ 9)

/-- What a sheet adds to a bucket of a rate in kbit/s, in 1/256 byte: rate × P ÷ 8 (R147), a finer part dropped (log entry 152). -/
def meterRefill (b : Bank) (rate : Nat) : Nat := rate * b.period.toNat * 4096 / 10 ^ 6

/-- A meter at a tick; a full bucket stays full (R147, R772). -/
def refillMeter (b : Bank) (pr : MeterProfile) (m : Meter) : Meter :=
  { m with
    c := if m.full then m.c else min (m.c + meterRefill b pr.cir.toNat) (256 * pr.cbs.toNat)
    p := if m.pFull then m.p else min (m.p + meterRefill b pr.pir.toNat) (256 * pr.pbs.toNat) }

/-- A pipeline's buckets at a tick. -/
def refillPipe (b : Bank) (i : Nat) (p : Pipe) : Pipe :=
  { p with
    level := min (p.level + limitRefill b p) (p.limitBurst * 65536)
    meters := p.meters.map (fun m => (m.1, refillMeter b (tabGet {} b.meters (i * 1024 + m.1)) m.2)) }

/-- An owner at a tick: its RED average steps, and an interval of its drop budget begins (R186, R189). -/
def stepOwner (b : Bank) (sheet o : Nat) (x : OwnerUse) : OwnerUse :=
  let p := ownerProf b o
  let w := (tabGet {} b.reds p.red.toNat).weight.toNat
  { x with
    avg := (x.avg * 2 ^ w + 256 * (x.vat + x.spill) - x.avg) / 2 ^ w
    drops := if sheet % max 1 p.budgetSheets.toNat = 0 then 0 else x.drops }

/-- Meters refill and averages step. -/
def refill (s : State) : State :=
  let b := s.sh.cur
  { s with
    line := { s.line with pipes := s.line.pipes.map (fun p => (p.1, refillPipe b p.1 p.2)) }
    cab := { s.cab with owners := s.cab.owners.map (fun p => (p.1, stepOwner b s.sh.sheet.toNat p.1 p.2)) } }

/-! ### The tick -/

/-- Is an item owed action 2 or 3 of Table 1.6: late, or at its ceiling (R43, R45, R49)? -/
def itemDue (s : State) (x : Item) : Bool :=
  !x.ended && (if x.hard && x.late then pastCeiling s x else overdue s x)

/-- Is a happening of actions 2 to 5 of Table 1.6 still to come at the present tick? -/
def tickDue (s : State) : Bool :=
  s.disp.items.any (fun p => itemDue s p.2) || !s.sh.xonDue.isEmpty || commitDue s || retireDue s

/-- Actions 2 to 5 of Table 1.6 as far as they are still to come, in their order: late items, ceilings and the ends of their XOFF, the
switch of the stamp points, and the retirement of a bank (R32). -/
def dueActions (s : State) : State :=
  let s := s.disp.items.foldl (fun a p => lateLossless p.1 (lateOrdinary p.1 a)) s
  let s := s.disp.items.foldl (fun a p => atCeiling p.1 a) s
  let s := s.sh.xonDue.foldl (fun a k => ceilingXon (BitVec.ofNat 2 (k / 64)) (BitVec.ofNat 3 k) a) s
  furnishRetire (furnishSwitch s)

/-- Actions 6 and 7 of Table 1.6: refills, averages, the evidence path, the detector and the power states; then the tick's
subscribers. -/
def tickRest (s : State) : State :=
  let s := refill (updSheets (fun x => { x with tickOwed := false }) s)
  let s := afterSeal (pfRun (evidenceTick (detectorTick s)))
  deliverTicks (powerTick (drainTrace s))

/-- The tick goes on to its actions 6 and 7 once none of its actions 2 to 5 is due (R32). -/
def finishTick (s : State) : State := if s.sh.tickOwed && !tickDue s then tickRest s else s

/-- A tick whose actions have not all come ends with them, before a happening that can only follow it (R32, R143, R147; log entry
157). -/
def endTick (s : State) : State := if s.sh.tickOwed then tickRest (dueActions s) else s

/-- What may follow the end of an item: the power-fail sequence goes on past its step 2, and a tick past its action 3 (R32, R520). -/
def settle (s : State) : State := finishTick (afterSeal (pfRun s))

/-- What may follow an instruction of thread `t`, issued in state `s`, whose item's stamp may have been lost: its item has ended then
(R57). -/
def settleVoided (t : Nat) (s s' : State) : State := if stampLost s t then settle s' else s'

/-- What takes effect at a tick: the thresholds of DRAM_ECC (Table 10.10), tolerances and power policy (Table 13.14). -/
def applyNext (s : State) : State :=
  let s := match s.dram.eccNext with
    | some l => updDram (fun d => { d with
        ueLimit := l.getD 0 0, stormSheets := l.getD 1 0, ceLimit := l.getD 2 0, scrubHours := l.getD 3 0, eccNext := none }) s
    | none => s
  updPow (fun p => { p with policy := p.policyNext }) s

/-- A tick begins: what it closes is counted, and it opens the next sheet (action 1 of Table 1.6). -/
def beginTick (s : State) : State :=
  let s := updSheets (fun x => { x with xonDue := xonReady s, tickOwed := true }) s
  noteFecSheet (noteWrap (noteAligned (applyNext (openSheet (addCounters (countSheets s))))))

/-- SHEET_TICK: a tick opens the next sheet, the one before it having ended (R32, Table 1.6). -/
def execSheetTick (s : State) : Res :=
  let a := if ticking s then endTick s else s
  .next (if ticking a then finishTick (beginTick a) else a)

/-! ### Actions 2 to 5 -/

/-- LATE_ORDINARY (R43, R44, R777). -/
def execLateOrdinary (domain seq : BitVec 16) (s : State) : Res := .next (settle (lateOrdinary (itemKey domain seq) s))
/-- LATE_LOSSLESS (R45, R330, R777). -/
def execLateLossless (domain seq : BitVec 16) (s : State) : Res := .next (settle (lateLossless (itemKey domain seq) s))
/-- CEILING (R49-R53, R330, R777; log entry 39). -/
def execCeiling (domain seq : BitVec 16) (s : State) : Res := .next (settle (atCeiling (itemKey domain seq) s))
/-- CEILING_XON: a ceiling's XOFF ends at the tick closing the first whole sheet without a frozen domain (R51). -/
def execCeilingXon (port : BitVec 2) (cls : BitVec 3) (s : State) : Res := .next (settle (ceilingXon port cls s))
/-- FURNISH_SWITCH: at the tick opening S the stamp points switch, or the commit is refused (R68, R69, R71). -/
def execFurnishSwitch (s : State) : Res := .next (settle (furnishSwitch s))
/-- FURNISH_RETIRE: the old bank is freed at a tick where no item of its furnish is in flight (R72). -/
def execFurnishRetire (s : State) : Res := .next (settle (furnishRetire s))

/-! ### Ends of items by command -/

/-- THREAD_OFFER (R246, R247). -/
def execThreadOffer (t : BitVec 9) (s : State) : Res := .next (settle (threadOffer t.toNat s))
/-- THREAD_RESET (R346, R351). -/
def execThreadReset (m : BitVec 4) (s : State) : Res := .next (settle (runCmd threadReset m s))
/-- CORE_RESET (R262). -/
def execCoreReset (m : BitVec 4) (s : State) : Res := .next (settle (runCmd coreReset m s))

/-- STOPPED_SHEET_SPAN: a span of 2.048 µs without ticks ends (R762). -/
def execStoppedSheetSpan (s : State) : Res :=
  .next (if ticking s then s else updSheets (fun x => { x with firstSeen := [] }) s)

end Sys2Proof.Machine
end

