-- ==== Sys2Proof/Machine/CopInstr.lean ====
section
/-!
DEFINITION. Coprocessor instructions of majors 56 to 59 and the ends of their operations (05_core_instruction_set.md,
Coprocessor and companion instructions; R313-R317, R430-R435, R441-R445).
-/
namespace Sys2Proof.Machine

/-- An issue to a Watermark, signature or Stripe unit; one whose item's stamp matches neither bank of the stream parameters voids it
(R57). -/
def copInstr (t : BitVec 9) (cls op : Nat) (unit : BitVec 3) (ga gb : BitVec 5) (notify : Bool) (imm : BitVec 11)
    (illegal : Bool) (s : State) : State :=
  let word := encC (56 + cls) op unit ga gb notify imm
  issue t { word := word, illegal := fun _ _ => illegal, srcs := [ga, gb]
            act := fun n s =>
              match issueFault s n cls unit.toNat false with
              | some e => haltThread n e word (cls * 16 + unit.toNat) s
              | none =>
                if cls == 0 && stampLost s n then voidStamp n s
                else if pinsFull s (regG s n gb) then
                  stallThread n (.pins (hIndex ((regG s n gb).setWidth 24)) cls op unit ga gb notify imm) ctrStallCop s
                else advance n (issueUnit n cls op unit ga gb notify imm s) } s

/-- CHAIN: Watermark OP 0. -/
def execChainOp (t : BitVec 9) (unit : BitVec 3) (ga gb : BitVec 5) (notify : Bool) (imm : BitVec 11) (s : State) : Res :=
  .next (settleVoided t.toNat s (copInstr t 0 0 unit ga gb notify imm false s))
/-- HASH: Watermark OP 1. -/
def execHashOp (t : BitVec 9) (unit : BitVec 3) (ga gb : BitVec 5) (notify : Bool) (imm : BitVec 11) (s : State) : Res :=
  .next (settleVoided t.toNat s (copInstr t 0 1 unit ga gb notify imm false s))
/-- SIGN: signature OP 0; IMM11[9:3] is zero (R274). -/
def execSignOp (t : BitVec 9) (unit : BitVec 3) (ga gb : BitVec 5) (notify : Bool) (imm : BitVec 11) (s : State) : Res :=
  .next (copInstr t 1 0 unit ga gb notify imm (natBits imm.toNat 3 7 != 0) s)
/-- PUBLIC_KEY: signature OP 1; IMM11[9:3] is zero (R274). -/
def execPublicKey (t : BitVec 9) (unit : BitVec 3) (ga gb : BitVec 5) (notify : Bool) (imm : BitVec 11) (s : State) : Res :=
  .next (copInstr t 1 1 unit ga gb notify imm (natBits imm.toNat 3 7 != 0) s)
/-- ENCODE: Stripe OP 0; IMM11[9:0] is zero (R440). -/
def execEncodeOp (t : BitVec 9) (unit : BitVec 3) (ga gb : BitVec 5) (notify : Bool) (imm : BitVec 11) (s : State) : Res :=
  .next (copInstr t 2 0 unit ga gb notify imm (natBits imm.toNat 0 10 != 0) s)

/-- Give a thread the status word of a unit; of a unit beyond its class it is open (log entry 2). -/
def readStatus (n : Nat) (gd : BitVec 5) (cls unit : Nat) (s : State) : State :=
  if unitCount cls ≤ unit then advance n (setG n gd (BitVec.ofNat 36 (freeNow s)) (drawFree s))
  else advance n (setG n gd (statusWord (unitOf s (unitBase cls + unit))) s)

/-- CPST: gd := the unit's status word (R316). -/
def execCpst (t : BitVec 9) (gd : BitVec 5) (unit : BitVec 3) (cls : BitVec 2) (zf : BitVec 14) (s : State) : Res :=
  .next (issue t { word := encCP gd unit cls zf 0, illegal := fun _ _ => zf != 0, dsts := [gd]
                   act := fun n s => readStatus n gd cls.toNat unit.toNat s } s)

/-- WAITCP: as CPST, once BUSY is 0; a long stall until then (R316). -/
def execWaitcp (t : BitVec 9) (gd : BitVec 5) (unit : BitVec 3) (cls : BitVec 2) (zf : BitVec 14) (s : State) : Res :=
  .next (issue t { word := encCP gd unit cls zf 1, illegal := fun _ _ => zf != 0, dsts := [gd]
                   act := fun n s =>
                     let u := unitBase cls.toNat + unit.toNat
                     if unit.toNat < unitCount cls.toNat && (unitOf s u).busy then
                       stallThread n (.unit u gd) ctrStallCop s
                     else readStatus n gd cls.toNat unit.toNat s } s)

/-- UNIT_DONE: a Watermark, signature or Stripe unit ends its operation, by a fault of its own when `fault` (R433,
R435). It keeps a notifying completion while the dispatcher has no place (R443). -/
def execUnitDone (unit : BitVec 5) (fault : Bool) (s : State) : Res :=
  .next (if unit.toNat < 14 then completeUnit unit.toNat fault s else s)

end Sys2Proof.Machine
end

