-- ==== Sys2Proof/Machine/DispatchCmd.lean ====
section
/-!
DEFINITION. Commands 0x04xx and the host's doorbells (04_dispatch_and_resequencing.md, Table 4.11; 05_core_instruction_set.md, Table
5.21; R242, R243, R249, R259-R269, R285, R326, R327).
-/
namespace Sys2Proof.Machine

/-! ### Programs -/

/-- Offsets of COUNT (offset 1) words of 5 bytes from a payload offset. -/
def wordOffs (p : List Byte) (base : Nat) : List Nat := (List.range (leAt p 1 1)).map (fun i => base + 5 * i)

/-- A cluster bitmap, which is not 0 (R268, R326). -/
def clusterMap (p : List Byte) : Nat × Bool := (0, leAt p 0 1 != 0)

/-- Words of 5 bytes as they travel (Table 4.11). -/
def wordsOf (p : List Byte) (offs : List Nat) : List Word36 := offs.map (fun o => BitVec.ofNat 36 (leAt p o 5))

/-- Write instructions into the stores of the named clusters, and their shadows (R242, R243). -/
def writeProgram (clusters addr : Nat) (ws : List Word36) (s : State) : State :=
  (maskList 8 clusters).foldl (fun a c =>
    let k := c * 65536 + addr
    { a with cores := { a.cores with
        imem := tabWrite 0 a.cores.imem k ws, imemShadow := tabWrite 0 a.cores.imemShadow k ws
        imemBad := a.cores.imemBad.filter (fun w => decide (w < k) || decide (k + ws.length ≤ w))
        imemWeak := a.cores.imemWeak.filter (fun w => decide (w < k) || decide (k + ws.length ≤ w))
        imemRewritten := a.cores.imemRewritten.filter (fun w => decide (w < k) || decide (k + ws.length ≤ w)) } }) s

/-- PROGRAM_WRITE (R242, R243, R268). -/
def programWrite : CmdSpec :=
  { op := 0x0401, fixed := 8, extent := fun p => 8 + 5 * leAt p 1 1
    checks := fun _ p => [clusterMap p, inRange p 1 1 1 46, (2, decide (leAt p 2 2 + leAt p 1 1 ≤ 65536)), rsv p 4 4] ++
      (wordOffs p 8).map (fun o => (o, decide (leAt p o 5 < 2 ^ 36)))
    body := okState (fun s p => writeProgram (leAt p 0 1) (leAt p 2 2) (wordsOf p (wordOffs p 8)) s) }

/-- PROGRAM_LOAD_DMA; `dma` is what became of the read of host memory; none is made while bus mastering is withheld (R268, R593, R606). -/
def programLoadDma (dma : DmaResult) : CmdSpec :=
  { op := 0x0402, fixed := 16
    checks := fun _ p => [clusterMap p, rsv p 1 1, inRange p 4 4 1 65536, (2, decide (leAt p 2 2 + leAt p 4 4 ≤ 65536)),
      (8, leAt p 8 8 % 64 == 0)]
    body := fun s _ p =>
      let dma := seenH s dma
      if dma = .error || !s.host.busMaster then refuse s 0x05
      else if dmaDark dma then refuse (noteTlp 489 dma s) 0x05
      else
        let bs := hostRead s (leAt p 8 8) (5 * leAt p 4 4)
        let ws := (List.range (leAt p 4 4)).map (fun i => leAt bs (5 * i) 5)
        if ws.any (fun w => decide (2 ^ 36 ≤ w)) then refuse s 0x02 8
        else okCmd (writeProgram (leAt p 0 1) (leAt p 2 2) (ws.map (BitVec.ofNat 36)) s) }

/-- PROGRAM_READ (R268). -/
def programRead : CmdSpec :=
  { op := 0x0403, fixed := 4, checks := fun _ p => [inRange p 0 1 0 7, inRange p 1 1 1 46, (2, decide (leAt p 2 2 + leAt p 1 1 ≤ 65536))]
    body := fun s _ p =>
      let a := leAt p 0 1 * 65536 + leAt p 2 2
      let s := checkImem ((List.range (leAt p 1 1)).map (a + ·)) s
      okCmd s ((tabRead 0 s.cores.imem a (leAt p 1 1)).flatMap (fun w => leBytes 5 w.toNat)) }

/-- ENTRY_LOAD (R266, R268, Table 4.4). -/
def entryLoad : CmdSpec :=
  { op := 0x0410, load := true, fixed := 4, extent := fun p => 4 + 4 * leAt p 1 1
    checks := fun _ p => [clusterMap p, inRange p 1 1 1 58, rsv p 3 1, (2, decide (leAt p 2 1 + leAt p 1 1 ≤ 256))]
    body := okState (fun s p =>
      let es := (List.range (leAt p 1 1)).map (fun i => BitVec.ofNat 32 (leAt p (4 + 4 * i) 4))
      (maskList 8 (leAt p 0 1)).foldl (fun a c =>
        loadBank (7 + c) (leAt p 1 1) (fun b => { b with entries := putEntries b.entries (c * 256 + leAt p 2 1) es }) a) s) }

/-- DISPATCH_MAP_LOAD (R266, R268, Table 4.3). -/
def dispatchMapLoad : CmdSpec :=
  { op := 0x0411, load := true, fixed := 4, extent := fun p => 4 + 4 * leAt p 1 1
    checks := fun _ p => [inRange p 0 1 0 55, inRange p 1 1 1 56, rsv p 2 2, (0, decide (leAt p 0 1 + leAt p 1 1 ≤ 56))] ++
      (List.range (leAt p 1 1)).map (fun i => (7 + 4 * i, decide (leAt p (7 + 4 * i) 1 < 8)))
    body := okState (fun s p => loadBank 6 (leAt p 1 1) (fun b => { b with
      dmap := putEntries b.dmap (leAt p 0 1) ((List.range (leAt p 1 1)).map (fun i => BitVec.ofNat 32 (leAt p (4 + 4 * i) 4))) }) s) }

/-! ### Doorbells, domains and contexts -/

/-- DOORBELL_ROUTE (R264). -/
def doorbellRoute : CmdSpec :=
  { op := 0x0420, fixed := 8
    checks := fun _ p => [inRange p 0 1 0 15, inRange p 1 1 0 1, inRange p 2 1 0 7, rsv p 3 1, inRange p 6 2 0 16383]
    body := okState (fun s p => updDisp (fun d => { d with routes := tabSet {} d.routes (leAt p 0 1) {
      enable := leAt p 1 1 == 1, cls := BitVec.ofNat 3 (leAt p 2 1), domain := BitVec.ofNat 16 (leAt p 4 2)
      ctx := BitVec.ofNat 14 (leAt p 6 2) } }) s) }

/-- DOMAIN_STATUS; a number of late items beyond its byte is open (R233, log entry 2). -/
def domainStatus : CmdSpec :=
  { op := 0x0430, fixed := 2
    body := fun s _ p =>
      let d := BitVec.ofNat 16 (leAt p 0 2)
      let a := tabGet 0 s.disp.nextAssign d.toNat
      let r := tabGet 0 s.disp.nextRelease d.toNat
      let late := (s.disp.items.filter (fun x => x.2.domain == d && x.2.late)).length
      okCmd (if late < 256 then s else drawFree s) (layout [(a.toNat, 2), (r.toNat, 2), ((a - r).toNat, 2), (b2n (domainFrozen s d), 1),
        (if late < 256 then late else freeNow s, 1)]) }

/-- Items of a context on an affinity list. -/
def ctxWaiting (s : State) (c : BitVec 14) : Nat :=
  ((s.disp.affLists.flatMap (·.2)).filter (fun k => match itemOf s k with | some x => x.ctx == c | none => false)).length

/-- Field CTX. -/
def ctxField (p : List Byte) : Nat × Bool := inRange p 0 2 0 16383

/-- CONTEXT_STATUS (R244, R249). -/
def contextStatus : CmdSpec :=
  { op := 0x0431, fixed := 2, checks := fun _ p => [ctxField p]
    body := okReply (fun s p =>
      let c := leAt p 0 2
      layout [((affinityCore s c).getD 255, 1), ((residentCore s c).getD 255, 1), (ctxInFlight s (BitVec.ofNat 14 c), 2),
        (ctxWaiting s (BitVec.ofNat 14 c), 2)]) }

/-- CONTEXT_READ (R269). -/
def contextRead : CmdSpec :=
  { op := 0x0432, fixed := 4, checks := fun _ p => [ctxField p, inRange p 2 1 0 1, rsv p 3 1]
    body := fun s _ p =>
      let s := checkCtx (leAt p 0 2) (128 * leAt p 2 1) 128 s
      okCmd s (ctxRead s (leAt p 0 2) (128 * leAt p 2 1) 128) }

/-- CONTEXT_WRITE (R249). -/
def contextWrite : CmdSpec :=
  { op := 0x0433, fixed := 132, checks := fun _ p => [ctxField p, inRange p 2 1 0 1, rsv p 3 1]
    body := fun s _ p =>
      let c := leAt p 0 2
      if 0 < ctxInFlight s (BitVec.ofNat 14 c) then refuse s 0x03
      else okCmd (ctxWrite c (128 * leAt p 2 1) (bytesAt p 4 128) s) }

/-- DISPATCH_COUNTERS (R152, R267). -/
def dispatchCounters : CmdSpec :=
  { op := 0x0434, fixed := 1, checks := fun _ p => [inRange p 0 1 0 1], body := counterBody .dispatch (fun _ => 0) 0 15 }

/-- CLUSTER_FENCE (R70, R259-R261). -/
def clusterFence : CmdSpec :=
  { op := 0x0440, fixed := 4, checks := fun _ p => [inRange p 0 1 0 7, inRange p 1 1 0 1, rsv p 2 2]
    body := fun s _ p =>
      let k := leAt p 0 1
      let fenced := s.disp.fenced.getLsbD k
      if leAt p 1 1 = 1 then okCmd (if fenced then s else fenceCluster k s)
      else if !fenced then refuse s 0x03
      else okCmd (raise 194 [] (updDisp (fun d => { d with fenced := d.fenced &&& ~~~ BitVec.ofNat 8 (2 ^ k) }) s)) }

/-- A write to a doorbell register (R264, R265). -/
def ringDoorbell (d : Nat) (value : Nat) (s : State) : State :=
  let r := tabGet {} s.disp.routes d
  if !r.enable then s
  else if !eventRoom s then raise 196 [] (count .dispatch 0 14 1 (setFlag 0x480 6 s))
  else enterItem (eventItem s { source := BitVec.ofNat 9 (16 + d), cls := r.cls, domain := r.domain, ctx := r.ctx
                                data0 := BitVec.ofNat 24 value, data1 := BitVec.ofNat 14 d }) s

/-- DOORBELL: the host writes a doorbell register (R264, R265, R613). -/
def execDoorbell (d : BitVec 4) (value : BitVec 32) (s : State) : Res :=
  .next (if hostOpen s then ringDoorbell d.toNat value.toNat s else s)

/-! ### Windows and data memories (Table 5.21) -/

/-- WINDOW_CONFIG (R285, R326). -/
def windowConfig : CmdSpec :=
  { op := 0x0450, fixed := 16
    checks := fun s p => [clusterMap p, inRange p 1 1 0 15, inRange p 2 1 0 7, rsv p 3 1,
      (4, leAt p 4 8 % 4096 == 0 && decide (leAt p 4 8 + 4096 * leAt p 12 4 ≤ dramInstalled s)), inRange p 12 4 1 1048576]
    body := okState (fun s p => (maskList 8 (leAt p 0 1)).foldl (fun a c =>
      { a with cores := { a.cores with windows := tabSet {} a.cores.windows (c * 16 + leAt p 1 1) {
          enable := natBit (leAt p 2 1) 0, read := natBit (leAt p 2 1) 1, write := natBit (leAt p 2 1) 2
          base := BitVec.ofNat 64 (leAt p 4 8), pages := BitVec.ofNat 32 (leAt p 12 4) } } }) s) }

/-- WINDOW_QUERY. -/
def windowQuery : CmdSpec :=
  { op := 0x0451, fixed := 2, checks := fun _ p => [inRange p 0 1 0 7, inRange p 1 1 0 15]
    body := okReply (fun s p =>
      let w := tabGet {} s.cores.windows (leAt p 0 1 * 16 + leAt p 1 1)
      layout [(packNat [(b2n w.enable, 1), (b2n w.read, 1), (b2n w.write, 1)], 1), (0, 3), (w.base.toNat, 8), (w.pages.toNat, 4)]) }

/-- The range of a DMEM command (R327). -/
def dmemRange (p : List Byte) : List (Nat × Bool) :=
  [inRange p 0 1 0 63, inRange p 1 1 1 46, (2, decide (leAt p 2 2 + leAt p 1 1 ≤ 32768))]

/-- DMEM_WRITE (R327). -/
def dmemWrite : CmdSpec :=
  { op := 0x0452, fixed := 8, extent := fun p => 8 + 5 * leAt p 1 1
    checks := fun _ p => dmemRange p ++ [rsv p 4 4] ++ (wordOffs p 8).map (fun o => (o, decide (leAt p o 5 < 2 ^ 36)))
    body := okState (fun s p => dmemStore (leAt p 0 1) (leAt p 2 2) (wordsOf p (wordOffs p 8)) s) }

/-- DMEM_READ (R327). -/
def dmemRead : CmdSpec :=
  { op := 0x0453, fixed := 4, checks := fun _ p => dmemRange p
    body := fun s _ p =>
      let s := checkDmem ((List.range (leAt p 1 1)).map (fun i => dmemKey (leAt p 0 1) (leAt p 2 2 + i))) s
      okCmd s ((List.range (leAt p 1 1)).flatMap (fun i => leBytes 5 (dmemGet s (leAt p 0 1) (leAt p 2 2 + i)).toNat)) }

/-! ### Happenings -/

def execProgramWrite (m : BitVec 4) (s : State) : Res := .next (runCmd programWrite m s)
def execProgramLoadDma (m : BitVec 4) (dma : DmaResult) (s : State) : Res := .next (runCmd (programLoadDma dma) m s)
def execProgramRead (m : BitVec 4) (s : State) : Res := .next (runCmd programRead m s)
def execEntryLoad (m : BitVec 4) (s : State) : Res := .next (runCmd entryLoad m s)
def execDispatchMapLoad (m : BitVec 4) (s : State) : Res := .next (runCmd dispatchMapLoad m s)
def execDoorbellRoute (m : BitVec 4) (s : State) : Res := .next (runCmd doorbellRoute m s)
def execDomainStatus (m : BitVec 4) (s : State) : Res := .next (runCmd domainStatus m s)
def execContextStatus (m : BitVec 4) (s : State) : Res := .next (runCmd contextStatus m s)
def execContextRead (m : BitVec 4) (s : State) : Res := .next (runCmd contextRead m s)
def execContextWrite (m : BitVec 4) (s : State) : Res := .next (runCmd contextWrite m s)
def execDispatchCounters (m : BitVec 4) (s : State) : Res := .next (runCmd dispatchCounters m s)
def execClusterFence (m : BitVec 4) (s : State) : Res := .next (settle (runCmd clusterFence m s))
def execWindowConfig (m : BitVec 4) (s : State) : Res := .next (runCmd windowConfig m s)
def execWindowQuery (m : BitVec 4) (s : State) : Res := .next (runCmd windowQuery m s)
def execDmemWrite (m : BitVec 4) (s : State) : Res := .next (runCmd dmemWrite m s)
def execDmemRead (m : BitVec 4) (s : State) : Res := .next (runCmd dmemRead m s)

end Sys2Proof.Machine
end

