-- ==== Sys2Proof/Machine/EgressInstr.lean ====
section
/-!
DEFINITION. Egress: the schedulers, the transmit MACs, refills, free rings, and the end of XOFF and of budget mode
(03_vat_cabinet_and_queues.md; R88, R92, R93, R102, R107-R111, R181, R187, R208, R213, R216-R222, R302, R303, R591, R774, R775).
-/
namespace Sys2Proof.Machine

/-! ### The scheduler -/

/-- Bytes of a queue's head with its gap: the frame plus 20 (R221). -/
def headBytes (s : State) (k q : Nat) : Nat := match queueOf s k q with | c :: _ => c.len + 20 | [] => 0

/-- Does a copy wait for its refill? One whose handle is stale has none to wait for (R158). -/
def wantsRefill (s : State) (c : Copy) : Bool :=
  !staleHandle s c.handle && (handleOf s (hIndex c.handle)).spilled && !c.refilled

/-- May a queue be served: it has a head, its class is not paused, and a spilled head stands in the prefetch buffer (R213, R221). -/
def queueReady (s : State) (k q : Nat) : Bool :=
  match queueOf s k q with
  | c :: _ => !classPaused s k q && !wantsRefill s c
  | [] => false

/-- Visits of weighted queues, each marked newly visited or not, until one may send: the queue and the deficits (R221). -/
def schedVisit (ready : Nat → Bool) (head weight : Nat → Nat) : List (Nat × Bool) → Tab Nat → Option Nat × Tab Nat
  | [], d => (none, d)
  | (q, new) :: r, d =>
    if ready q then
      let have' := tabGet 0 d q + (if new then weight q * 256 else 0)
      if head q ≤ have' then (some q, tabSet 0 d q (have' - head q))
      else schedVisit ready head weight r (tabSet 0 d q have')
    else schedVisit ready head weight r (tabSet 0 d q 0)

/-- The order of visits from the queue served last: its own visit goes on, every later one is new; 38 rounds reach any frame. -/
def schedOrder (last : Nat) (strict : BitVec 8) : List (Nat × Bool) :=
  let qs := ((List.range 8).map (fun i => (last + i) % 8)).filter (fun q => !strict.getLsbD q)
  qs.map (fun q => (q, q != last)) ++ (List.range 38).flatMap (fun _ => qs.map (fun q => (q, true)))

/-- The queue a scheduler serves of those that are ready, with the scheduler after it (R221). -/
def chooseQueue (p : SchedProfile) (ready : Nat → Bool) (head : Nat → Nat) (g : Egress) : Option Nat × Egress :=
  match ((List.range 8).reverse).find? (fun q => p.strict.getLsbD q && ready q) with
  | some q => (some q, g)
  | none =>
    let r := schedVisit ready head (fun q => natBits p.weight.toNat (8 * q) 8) (schedOrder g.last p.strict) g.deficit
    (r.1, { g with deficit := r.2, last := r.1.getD g.last })

/-- The queue the scheduler serves at a boundary, with the subport's scheduler after it (R221, R774). -/
def schedule (s : State) (k : Nat) : Option Nat × Egress :=
  chooseQueue (schedProf s.sh.cur k) (queueReady s k) (headBytes s k) (tabGet {} s.cab.egress k)

/-! ### The transmit MAC -/

/-- Put a subport's transmit MAC at work, or at rest. -/
def setSending (k : Nat) (f : Option TxFrame) (s : State) : State :=
  { s with cab := { s.cab with egress := tabUpd {} s.cab.egress k (fun g => { g with sending := f }) } }

/-- A frame with its FCS, padded to 64 bytes (R302); inverted for a frame with poison (R591). -/
def sealFrame (body : List Byte) (poisoned : Bool) : List Byte :=
  let b := body ++ zeros (60 - body.length)
  b ++ leBytes 4 (if poisoned then 2 ^ 32 - 1 - crcEth b else crcEth b)

/-- The PTP time at which the first bit after the start-of-frame delimiter of a frame beginning now crosses the balls (R102). -/
def txBegin (s : State) (k : Nat) : BallTime := ballTime s k 8 (subOf s k).egressDelay

/-- A PFC frame: XOFF with PFC_QUANTA for `on`, quanta 0 for `off` (R92, R93). -/
def pfcFrame (x : Port) (sub : Nat) (on off : BitVec 8) : List Byte :=
  beBytes 6 0x0180C2000001 ++ (bytesAt x.macs (6 * sub) 6 ++ zeros 6).take 6 ++ beBytes 2 0x8808 ++ beBytes 2 0x0101 ++
  beBytes 2 (on ||| off).toNat ++ (List.range 8).flatMap (fun p => beBytes 2 (if on.getLsbD p then x.pfcQuanta.toNat else 0))

/-- Send the PFC frame that is due (R92, R768; log entry 47). -/
def sendPfc (k : Nat) (s : State) : State :=
  let want := pfcAsserted s k
  let x := subOf s k
  let f := sealFrame (pfcFrame (portOf s (k / 8)) (k % 8) want (x.xoffSent &&& ~~~ want)) false
  let s := updSub k (fun y => { y with xoffSent := want, refreshDue := false }) s
  countMac k 11 1 (setSending k (some { bytes := f, copy := none, began := txBegin s k }) (noteTraffic s))

/-! ### One-step timestamps -/

/-- A list with bytes put over it from an offset. -/
def overlay (bs : List Byte) (off : Nat) (v : List Byte) : List Byte := bs.take off ++ v ++ bs.drop (off + v.length)

/-- The sum of a list's 16-bit words, aligned at an offset (R110). -/
def wordSum (bs : List Byte) (off : Nat) : Nat :=
  (bs.zipIdx).foldl (fun a p => a + p.1.toNat * (if (p.2 + off) % 2 = 0 then 256 else 1)) 0

/-- The two bytes that keep a ones'-complement checksum valid when a frame changes from `old` to `new`; of the two spellings of zero
which one is sent is open (R110; log entry 48). -/
def adjustSum (s : State) (old new : List Byte) (off : Nat) : List Byte :=
  let v := (beNat (bytesAt old off 2) + wordSum old off + 65535 * 65536 - wordSum new off) % 65535
  beBytes 2 (if v = 0 && natBit (freeNow s) 0 then 65535 else v)

/-- The frame as a one-step modification at the transmit time `t` in ns leaves it; none when a modified field lies beyond byte 511 or
beyond the end of the frame, counted before the MAC pads it (R109-R111, R303; log entry 111). -/
def oneStep (s : State) (c : Copy) (bs : List Byte) (t : Int) : Option (List Byte) :=
  let o := c.opts.toNat
  let residence := natBits o 34 2 = 3
  let ts := natBits o 0 9
  let co := natBits o 16 9
  let csum := natBits o 32 2
  let n := if residence then 8 else 10
  let stop := min 512 c.len
  if stop < ts + n || (csum != 0 && decide (stop < co + 2)) then none
  else
    let bytes := if residence then
        let r := handleOf s (hIndex c.handle)
        let rx := beNat (bytesAt r.record 0 6) * giga + beNat (bytesAt r.record 6 4)
        beBytes 8 (ofInt 64 ((beNat (bytesAt bs ts 8) : Int) + (t - rx) * 65536))
      else
        let p := ptpOfNs t
        beBytes 6 p.sec.toNat ++ beBytes 4 p.ns.toNat
    let new := overlay bs ts bytes
    some (match csum with
      | 1 => overlay new co (zeros 2)
      | 2 => overlay new co (adjustSum s bs new co)
      | _ => new)

/-- Does a copy's one-step option read its frame's receive timestamp, in the receive record (Table 2.2)? -/
def oneStepsResidence (c : Copy) : Bool := natBit c.opts.toNat 35 && natBits c.opts.toNat 34 2 == 3

/-- The transmit MAC takes a frame the scheduler gives it, but for a copy whose handle is stale (R158); `parity` says that it meets a cell
parity error on the way (R88, R102, R109, R302, R591). -/
def startFrame (k q : Nat) (c : Copy) (parity : Bool) (s : State) : State :=
  if staleHandle s c.handle then dropCopy c s
  else if (portOf s (k / 8)).maxFrame < c.len then dropCopy c (countMac k 12 1 s)
  else
    let s := checkVat (hIndex c.handle) c.start c.len (if parity then noteCellParity 1 (k / 8) 1 s else s)
    let s := if oneStepsResidence c then checkVat (hIndex c.handle) 16352 10 s else s
    let h := handleOf s (hIndex c.handle)
    let bs := pktRead s h c.start c.len
    let t := txBegin s k
    let bad := parity || pktPoisoned s h c.start c.len
    let r := if natBit c.opts.toNat 35 then
        match oneStep s c bs (stampOf s k t (freeNow s / 2)) with
        | some new => (new, drawFree s)
        | none => (bs, countMac k 14 1 (drawFree s))
      else (bs, s)
    let s := if bad then raiseFirst 494 0 [] (bumpTotal 0x644 1 (setFlag 0x600 7 r.2)) else r.2
    setSending k (some { bytes := sealFrame (r.1.take (c.len - 4)) bad, copy := some (q, c), began := t })
      (noteTraffic s)

/-- The PFC settings of the port come into force on a subport (Table 2.16). -/
def adoptPfc (k : Nat) (s : State) : State := updSub k (fun x => { x with pfcOld := none }) s

/-- FRAME_BOUNDARY: PFC settings come into force, and a PFC frame that is due, or the frame the scheduler chooses, begins (R92, R221,
R768, R774, R775). -/
def execFrameBoundary (boundary : Boundary) (s : State) : Res :=
  let k := boundary.sub.toNat
  .next (
    if (tabGet {} s.cab.egress k).sending.isSome then s
    else
      let s := adoptPfc k s
      let x := subOf s k
      if !x.linkUp then s
      else if pfcAsserted s k ≠ x.xoffSent || x.refreshDue then sendPfc k s
      else
        let r := schedule s k
        let s := { s with cab := { s.cab with egress := tabSet {} s.cab.egress k r.2 } }
        match r.1 with
        | none => s
        | some q => match queueOf s k q with
          | [] => s
          | c :: l => startFrame k q c boundary.parity (setQueue k q l s))

/-- Append a transmit timestamp record to the port's FIFO (R107, R108, Table 2.3); `counts` says whether the subport's counters count
(R767). -/
def pushStamp (k tag : Nat) (t : Int) (counts : Bool) (s : State) : State :=
  let p := k / 8
  let x := portOf s p
  let u := ptpOfNs t
  if 64 ≤ x.txStamps.length then raise (78 + p) [] (if counts then countMac k 13 1 s else s)
  else
    let s' := setPort p { x with txStamps := x.txStamps ++
      [layout [(u.sec.toNat, 6), (u.ns.toNat, 4), (p, 1), (k % 8, 1), (tag, 2), (0, 2)]] } s
    if x.txStamps.isEmpty then raise (74 + p) [] s' else s'

/-- TRANSMIT_END: the frame in transmission has left; a copy's reference is removed (R107, R216). A frame that began before its link
went down completes (R222), and the MAC counts nothing for it (R767). -/
def execTransmitEnd (sub : BitVec 5) (jitter : BitVec 8) (s : State) : Res :=
  let k := sub.toNat
  .next (match (tabGet {} s.cab.egress k).sending with
    | none => s
    | some f =>
      let s := setSending k none s
      let s := if f.counted then countMac k 10 f.bytes.length (countMac k 9 1 s) else s
      match f.copy with
      | none => s
      | some (q, c) =>
        let s := count .queue (queueKey k q) 2 f.bytes.length (count .queue (queueKey k q) 1 1 s)
        let s := if natBits c.opts.toNat 34 2 = 1 then
            pushStamp k (natBits c.opts.toNat 16 16) (stampOf s k f.began jitter.toNat) f.counted s else s
        dropCopy c s)

/-! ### Queues -/

/-- RESIDUE_DROP: the first ordinary copy of a queue past its RESIDUE_SHEETS is discarded (R218). -/
def execResidueDrop (sub : BitVec 5) (queue : BitVec 3) (s : State) : Res :=
  let k := sub.toNat
  let q := queue.toNat
  .next (match (queueOf s k q).find? (pastResidue s) with
    | none => s
    | some c => dropCopy c (count .queue (queueKey k q) 3 1 (setFlag 0x440 8
        (setQueue k q ((queueOf s k q).filter (fun d => d.order != c.order)) s))))

/-- The copies of queues in the order a scheduler would send them, all of those in open queues counted as ready. -/
def sendOrder (p : SchedProfile) (isOpen : Nat → Bool) : Nat → Tab (List Copy) → Egress → List Copy
  | 0, _, _ => []
  | n + 1, t, g =>
    let r := chooseQueue p (fun q => isOpen q && !(tabGet [] t q).isEmpty)
      (fun q => match tabGet [] t q with | c :: _ => c.len + 20 | [] => 0) g
    match r.1 with
    | none => []
    | some q => match tabGet [] t q with
      | [] => []
      | c :: l => c :: sendOrder p isOpen n (tabSet [] t q l) r.2

/-- A subport's copies in egress order: as its scheduler would send them, those of paused classes last (R213; log entry 116). -/
def egressOrder (s : State) (k : Nat) : List Copy :=
  let t : Tab (List Copy) := tabEntries [] 0 ((List.range 8).map (queueOf s k))
  let n := ((List.range 8).map (fun q => (queueOf s k q).length)).foldl (· + ·) 0
  sendOrder (schedProf s.sh.cur k) (fun q => !classPaused s k q) n t (tabGet {} s.cab.egress k) ++
    ((List.range 8).reverse.filter (classPaused s k)).flatMap (queueOf s k)

/-- REFILL_COMPLETE: the spilled frame at an index of a queue, the first in egress order that is not refilled, stands in the prefetch
buffer, while it has room; one with poison is discarded and counted REFILL_POISON, the Cabinet's device counter 5 (R213, R569; log
entry 166). -/
def execRefillComplete (sub : BitVec 5) (queue : BitVec 3) (index : Nat) (s : State) : Res :=
  let k := sub.toNat
  let l := queueOf s k queue.toNat
  .next (match l[index]? with
    | none => s
    | some c =>
      if (egressOrder s k).find? (wantsRefill s) != some c || decide (2097152 < s.cab.prefetch + c.len) then s
      else
        let h := handleOf s (hIndex c.handle)
        whenAwake (spillSpans h c.start c.len) (fun s =>
        let bad := pktPoisoned s h c.start c.len
        let s := noteSpillRead h c.start c.len s
        if bad then dropCopy c (count .cabinet 0 5 1 (setQueue k queue.toNat (l.eraseIdx index) s))
        else setQueue k queue.toNat (l.set index { c with refilled := true })
          { s with cab := { s.cab with prefetch := s.cab.prefetch + c.len } }) s)

/-- FREE_RING_REFILL: a cache part below a quarter refills, one above three quarters writes back (R208, R209). -/
def execFreeRingRefill (group : BitVec 3) (spill : Bool) (s : State) : Res :=
  let x := groupOf s group.toNat
  let n := if spill then x.spillCache.length else x.vatCache.length
  let part := if spill then 2048 else 6144
  .next (whenAwake [if spill then (x.spillRing, 4 * x.spillEntries) else (x.vatRing, 4 * x.vatEntries)] (fun s =>
    if decide (n < part / 4) && decide (0 < (if spill then x.spillCount else x.vatCount)) then ringRefill group.toNat spill s
    else if part / 4 * 3 < n then ringWriteBack group.toNat spill s
    else s) s)

/-! ### The end of back-pressure -/

/-- XOFF_RELEASE: at a tick an owner's use is at most XON (R181, R183, R184). -/
def execXoffRelease (owner : BitVec 8) (s : State) : Res :=
  let o := owner.toNat
  let x := ownerUse s o
  .next (
    if !x.xoff || decide ((ownerProf s.sh.cur o).xon.toNat < x.vat + x.spill) then s
    else
      let s := setOwnerUse o { x with xoff := false } s
      let s := if exposureHold s o then s else { s with cab := { s.cab with pfcOn := tabErase s.cab.pfcOn o } }
      let s := if o < 32 && pfcEnabled s (o / 8) (o % 8) then raise (168 + o / 8) [] s else s
      if 40 ≤ o && o < 48 then returnCredits 5 s else s)

/-- BUDGET_MODE_END: at a tick that opens a new interval, while XOFF does not hold for the owner (R187). -/
def execBudgetModeEnd (owner : BitVec 8) (s : State) : Res :=
  let o := owner.toNat
  let x := ownerUse s o
  .next (
    if !x.budget || x.xoff || s.sh.sheet.toNat % max 1 (ownerProf s.sh.cur o).budgetSheets.toNat ≠ 0 then s
    else
      let s := setOwnerUse o { x with budget := false, drops := 0 } s
      { s with cab := { s.cab with pfcBudget := tabErase s.cab.pfcBudget o } })

end Sys2Proof.Machine
end

