-- ==== Sys2Proof/Machine/PowerInstr.lean ====
section
/-!
DEFINITION. Happenings of resets, boot, pins and monitors (13_reset_boot_and_power_states.md, 15_package_pins_and_electrical.md; R658-R682,
R691-R695, R752-R759).
-/
namespace Sys2Proof.Machine

/-! ### Pins -/

/-- PORST_N_ASSERT (R659, R661). -/
def execPorstNAssert (s : State) : Res :=
  .next (if s.pow.held.getLsbD srcPorst then s else holdSource srcPorst (assertReset 4 srcPorst s))

/-- PORST_N_RELEASE: the straps are sampled, and the exit begins when no source remains (R660, R663, R676). -/
def execPorstNRelease (bootSrc clkMode : BitVec 2) (s : State) : Res :=
  .next (
    if !s.pow.held.getLsbD srcPorst then s
    else beginExit (dropSource srcPorst (updPow (fun p => { p with bootSrc := bootSrc, clkMode := clkMode }) s)))

/-- RST_N_ASSERT (R659, R661, R695). -/
def execRstNAssert (s : State) : Res :=
  .next (if s.pow.held.getLsbD srcRst then s else holdSource srcRst (assertReset 3 srcRst s))

/-- RST_N_RELEASE (R660). -/
def execRstNRelease (s : State) : Res :=
  .next (if !s.pow.held.getLsbD srcRst then s else beginExit (dropSource srcRst s))

/-- PFAIL_N_FALL: PFAIL_N has stayed low for 1 µs (R691, R693). -/
def execPfailNFall (s : State) : Res :=
  .next (
    if s.pow.pfailLow then s
    else afterSeal (beginS2 0 (updPow (fun p => { p with pfailLow := true, pfailDeferred := p.level == 2 }) s)))

/-- PFAIL_N_RISE: during or after S2 it is flagged and changes nothing else (R694). -/
def execPfailNRise (s : State) : Res :=
  .next (
    if !s.pow.pfailLow then s
    else
      let s := updPow (fun p => { p with pfailLow := false, pfailDeferred := false }) s
      if s.pow.current = .s2 then raise 453 [] (setFlag 0x69C 2 s) else s)

/-! ### Exits and boot -/

/-- L2_EXIT: the items in flight are voided, DATAPATH_RESET completes, and a deferred PFAIL_N takes effect (R664, R667, R668, R693). -/
def execL2Exit (s : State) : Res :=
  .next (
    if s.pow.level ≠ 2 then s
    else
      let m := s.pow.datapath
      let s := l2VoidItems (loadCause 2 s)
      let s := updPow (fun p => { p with level := 0, datapath := none }) s
      let s := raise 449 [] (match m with | some m => finishCmd m 0 0 [] s | none => s)
      sweepBad (if s.pow.pfailDeferred then beginS2 0 (updPow (fun p => { p with pfailDeferred := false }) s) else s))

/-- The bytes of the attempt: the companion's when all have arrived, host memory from BOOT_ADDR, else those the flash gave (R679-R681). -/
def attemptImage (s : State) (flash : List Byte) : Option (List Byte) :=
  match s.pow.source.toNat with
  | 2 =>
    let n := 256 + leNat (tabRead 0 s.pow.image 8 4)
    if (List.range n).all (fun i => (tabFind s.pow.image i).isSome) then some (tabRead 0 s.pow.image 0 n) else none
  | 1 => if s.host.busMaster then some (hostRead s (s.pow.bootHi ++ s.pow.bootLo).toNat s.pow.bootLength.toNat) else none
  | _ => some flash

/-- BOOT_IMAGE_LOADED: the image of the attempt is checked, and started or given up (R678-R681). -/
def execBootImageLoaded (image : List Byte) (s : State) : Res :=
  .next (
    if s.pow.level < 3 || s.pow.tripped || s.pow.stage ≠ .loading then s
    else match attemptImage s image with
      | none => s
      | some img => afterSeal (bootImage img s))

/-- BOOT_TIMEOUT: the attempt has waited too long (Table 13.7). -/
def execBootTimeout (s : State) : Res :=
  .next (
    if s.pow.level < 3 || s.pow.tripped || s.pow.stage ≠ .loading then s
    else match s.pow.source.toNat with
      | 1 => bootFail 7 s
      | 2 => bootFail 9 s
      | _ => bootFail 8 s)

/-- A write to BOOT_CTRL (R682): SOURCE 0b00 names no source. -/
def bootCtrl (value : BitVec 32) (s : State) : State :=
  let src := value.toNat % 4
  if s.pow.stage ≠ .waiting || !value.getLsbD 31 || src = 0 then s else bootAttempt src s

/-- BOOT_CTRL_GO. -/
def execBootCtrlGo (value : BitVec 32) (s : State) : Res := .next (if hostOpen s then bootCtrl value s else s)

/-- MP_WATCHDOG_EXPIRY: the firmware has not serviced the watchdog for 500 ms (R658). -/
def execMpWatchdogExpiry (s : State) : Res := .next (if s.host.fwReady && !s.pow.tripped then pulseL3 srcWatchdog s else s)

/-! ### Monitors -/

/-- THERMAL_WARN in 1/16 °C: 95 °C for CB1 and 100 °C for EB1 after reset (Table 15.15). -/
def warnLevel (s : State) : Int :=
  match s.pow.warnAt with
  | some b => 16 * b.toInt
  | none => if Config.gradeEB1 then 1600 else 1520

/-- The grade's maximum plus 10 °C, in 1/16 °C (R757). -/
def criticalLevel : Int := if Config.gradeEB1 then 1840 else 1760

/-- The crossings of THERMAL_WARN as it stands at the sample: a rise through it, and from there a fall to 2 °C below it (R756, Table 15.18;
log entry 82). -/
def thermalWarn (old new : Int) (s : State) : State :=
  let w := warnLevel s
  let warm := s.pow.warm || decide (w ≤ old)
  let rise := decide (old < w) && decide (w ≤ new)
  let fall := warm && decide (w - 32 < old) && decide (new ≤ w - 32)
  let s := updPow (fun p => { p with warm := decide (w ≤ new) || (warm && decide (w - 32 < new)) }) s
  if rise || fall then raise 464 [(ofInt 16 new, 16)] (setFlag 0x6AC 0 s) else s

/-- The critical temperature begins S2 with cause 2 (R757). -/
def thermalCritical (old new : Int) (s : State) : State :=
  if old < criticalLevel ∧ criticalLevel ≤ new then
    beginS2 2 (raise 465 [(ofInt 16 new, 16)] (setFlag 0x6AC 1 (updPow (fun p => { p with critical := true }) s)))
  else s

/-- The thermal trip at 125 °C: the device stops until an L3 or L4 source; one that is asserted already lets the boot ROM wait (R745, R758,
R759). -/
def thermalTrip (new : Int) (s : State) : State :=
  if new < 2000 || s.pow.tripped then s
  else
    let s := (List.range 8).foldl (fun a c => enterSelfRefresh c a) (setFlag 0x6AC 3 s)
    updPow (fun p => { p with
      tripped := !inReset s, hot := p.hot || inReset s, tripLow := true, refclk := false, refclkHeld := false }) s

/-- A device reset after a trip goes on to boot once it has cooled (R759). -/
def thermalCool (new : Int) (s : State) : State :=
  if !s.pow.hot || s.pow.tripped || 1680 ≤ new then s
  else
    let s := updPow (fun p => { p with hot := false }) s
    if s.pow.exiting then bootStart s else s

/-- A sensor's temperature in a sample. -/
def sensorTemp (m : MonitorSample) (i : Nat) : Int := (m.sensors.extractLsb' (12 * i) 12).toInt

/-- The die temperature of a sample: the highest of its 16 sensors (R755). -/
def sampleTemp (m : MonitorSample) : Int := (List.range 16).foldl (fun a i => max a (sensorTemp m i)) (sensorTemp m 0)

/-- The sensors that stand at the die temperature. -/
def hottestSensors (m : MonitorSample) : List Nat := (List.range 16).filter (fun i => sensorTemp m i == sampleTemp m)

/-- THERMAL_SAMPLE: the sensors and the rails as the always-on monitors read them; which of several hottest sensors HOTTEST names is open
(R755-R759, Tables 15.14 and 15.16; log entries 2 and 173). -/
def execThermalSample (temp : MonitorSample) (s : State) : Res :=
  let new := sampleTemp temp
  let old := s.pow.temp
  let hs := hottestSensors temp
  let s := drawFree (updPow (fun p => { p with
    temp := new, hottest := BitVec.ofNat 4 (hs.getD (freeNow s % hs.length) 0), warn := decide (warnLevel s ≤ new)
    supplyLow := temp.low, supplyHigh := temp.high &&& ~~~ temp.low }) s)
  .next (afterSeal (thermalCool new (if s.pow.tripped then s else thermalTrip new (thermalCritical old new (thermalWarn old new s)))))

/-- SUPPLY_FAULT: a rail has stood outside its tolerance for 2 µs, on one side of it (R752; log entry 173). -/
def execSupplyFault (rail : BitVec 3) (high : Bool) (s : State) : Res :=
  let m := BitVec.ofNat 7 (2 ^ rail.toNat)
  .next (
    if rail = 7 then s
    else
      let s := updPow (fun p => { p with
        supplyLow := if high then p.supplyLow &&& ~~~ m else p.supplyLow ||| m
        supplyHigh := if high then p.supplyHigh ||| m else p.supplyHigh &&& ~~~ m }) s
      afterSeal (beginS2 3 (raise 466 [(rail.toNat, 8)] (setFlag 0x6AC 2 s))))

end Sys2Proof.Machine
end

