-- ==== Sys2Proof/Machine/RegOps.lean ====
section
/-!
DEFINITION. What the registers of BAR0 below 0x2000 read as (Tables 1.1 to 1.5, 3.7, 3.8, 4.6, 4.7, 6.12, 6.13, 7.12, 7.13, 8.10, 8.11,
9.15 to 9.17, 10.8, 10.9, 11.5 to 11.7, 12.3 to 12.6, 13.9 to 13.13, 14.11 to 14.14, 15.14 to 15.17; R7, R608).
-/
namespace Sys2Proof.Machine

/-- A register word from its fields, lowest first. -/
def regWord (fs : List (Nat × Nat)) : BitVec 32 := BitVec.ofNat 32 (packNat fs)

/-- A bit for each index for which a test holds, as fields of a register word. -/
def bitFields (n : Nat) (f : Nat → Bool) : List (Nat × Nat) := (List.range n).map (fun i => (b2n (f i), 1))

/-- The W1C flag registers. -/
def flagRegs : List Nat := [0xC, 0x40C, 0x440, 0x480, 0x4C0, 0x500, 0x540, 0x580, 0x5C0, 0x600, 0x69C, 0x6AC, 0x6C4]

/-- The RC totals (Tables 1.5 and 11.6). -/
def isTotal (off : Nat) : Bool := (0x410 ≤ off && off ≤ 0x41C) || (0x610 ≤ off && off ≤ 0x64C)

/-- DEVICE_STATUS (Table 12.4). -/
def deviceStatus (s : State) : BitVec 32 :=
  regWord [(0, 16), (s.host.lastReset.toNat, 3), (s.pow.clkMode.toNat, 2), (s.pow.bootSrc.toNat, 2), (powerCode s.pow.current, 3),
    (s.sec.level, 2), (s.sec.lifecycle, 2), (b2n s.pow.dump, 1), (b2n s.host.fwReady, 1)]

/-- SHEET_STATE (Table 1.3). -/
def sheetState (s : State) : BitVec 32 :=
  regWord [(s.sh.cur.period.toNat, 9), (s.sh.cur.window.toNat - 1, 3), (b2n s.sh.pending.isSome, 1), (sheetStateBits s, 3),
    ((oldestFurnish s).toNat, 8), (pendingFurnish s, 8)]

/-- PFC_XOFF_STATE (Table 3.8). -/
def pfcXoffState (s : State) : BitVec 32 :=
  regWord (bitFields 32 (fun i => (List.range 8).any (fun k => (subOf s (8 * (i / 8) + k)).xoffSent.getLsbD (classPrio s (8 * (i / 8) + k) (i % 8)))))

/-- DOVETAIL_STATE (Table 6.13). -/
def dovetailState (s : State) : BitVec 32 :=
  regWord ([((s.dov.locks.filter (fun p => p.2.owner != 4095)).length, 13), (0, 3)] ++
    bitFields 8 (fun k => (supervisorOf s k).started) ++
    bitFields 8 (fun k => s.cores.threads.any (fun p => clusterOf p.1 == k && decide (p.2.st = .halt))))

/-- COP_STATE (Table 8.11). -/
def copState (s : State) : BitVec 32 :=
  let l := match s.cop.link.state with | .down => 0 | .lock => 1 | .deskew => 2 | .param => 3 | .up => 4
  regWord (bitFields 14 (fun u => (unitOf s u).fenced) ++ [(0, 14), (l, 3), (0, 1)])

/-- DRAM_STATE (Table 10.9). -/
def dramStateReg (s : State) : BitVec 32 :=
  regWord ([(s.dram.stateCode.toNat, 2), (0, 5), (b2n s.dram.panic, 1)] ++ bitFields 8 (fun c => (chanState s c).saved.isSome) ++
    bitFields 8 (fun c => (chanState s c).selfRefresh) ++ bitFields 8 (fun c => (chanState s c).fenced))

/-- BOOT_STATUS (Table 13.10). -/
def bootStatus (s : State) : BitVec 32 :=
  let st := match s.pow.stage with | .rom => 0 | .loading => 1 | .checking => 2 | .starting => 3 | .running => 4 | .waiting => 15
  regWord [(0, 8), (s.pow.attempts, 8), (s.pow.result, 8), (s.pow.slot.toNat, 2), (s.pow.source.toNat, 2), (st, 4)]

/-- THERMAL_STATUS (Table 15.14). -/
def thermalStatus (s : State) : BitVec 32 :=
  regWord [(ofInt 16 s.pow.temp, 16), (s.pow.hottest.toNat, 4), (b2n s.pow.warn, 1), (b2n s.pow.critical, 1)]

/-- Registers of the mailboxes, queues and rings (Table 12.6); a write-only register reads 0. -/
def mailboxReg (s : State) (off : Nat) : BitVec 32 :=
  let n := (off - 0x1040) / 4
  let r := (off - 0x1100) / 8 % 16
  if off = 0x1004 then BitVec.ofNat 32 s.host.cq.head
  else if off = 0x1008 then BitVec.ofNat 32 s.host.cq.tail
  else if off = 0x100C then BitVec.ofNat 32 s.host.eq.head
  else if off = 0x1010 then BitVec.ofNat 32 s.host.eq.tail
  else if 0x1040 ≤ off && off < 0x1080 then
    regWord [((tabGet 0 s.host.tag n).toNat, 16), ((tabGet 0 s.host.status n).toNat, 8), (0, 6), (b2n (s.host.done.getLsbD n), 1),
      (b2n (s.host.busy.getLsbD n), 1)]
  else if 0x1100 ≤ off && off < 0x1180 then BitVec.ofNat 32 (if off % 8 = 0 then (exrOf s r).head else (exrOf s r).tail)
  else if 0x1180 ≤ off && off < 0x1200 then BitVec.ofNat 32 (if off % 8 = 0 then (injOf s r).tail else (injOf s r).head)
  else 0

/-- Registers of the chapters at 0x400 to 0x6CC. -/
def chapterReg (s : State) (off : Nat) : BitVec 32 :=
  match off with
  | 0x400 => s.sh.sheet.setWidth 32
  | 0x404 => regWord [(s.sh.latchHi.toNat, 16), (s.sh.latchFurnish.toNat, 8)]
  | 0x408 => sheetState s
  | 0x444 => pfcXoffState s
  | 0x484 => regWord [(s.disp.frozen.toNat, 8), (s.disp.fenced.toNat, 8), (eventsInFlight s, 13)]
  | 0x4C4 => dovetailState s
  | 0x504 => regWord (bitFields 16 (fun t => (tabGet {} s.lk.tables t).enabled) ++
      [(s.lk.notices.length, 13), (0, 2), (b2n (tabGet {} s.lk.tables 16).enabled, 1)])
  | 0x544 => copState s
  | 0x584 => regWord [(min (s.ev.exposure / 256) (2 ^ 29 - 1), 29), (b2n s.ev.xoff, 1), (evCode s.ev.state, 2)]
  | 0x588 => s.ev.durable.setWidth 32
  | 0x58C => s.ev.latchHi.setWidth 32
  | 0x5C4 => dramStateReg s
  | 0x680 => s.pow.cause.setWidth 32
  | 0x684 => bootStatus s
  | 0x68C => s.pow.bootLo
  | 0x690 => s.pow.bootHi
  | 0x694 => s.pow.bootLength.setWidth 32
  | 0x698 => powerStateWord s
  | 0x6A0 => thermalStatus s
  | 0x6A4 => BitVec.ofNat 32 (ofInt 8 (warnLevel s / 16))
  | 0x6A8 => regWord [(s.pow.supplyLow.toNat, 7), (s.pow.supplyHigh.toNat, 7)]
  | 0x6C0 => BitVec.ofNat 32 (securityState s)
  | 0x6C8 => s.cores.mulTrap.setWidth 32
  | 0x6CC => regWord [(s.sec.diagPage.toNat, 4), (0, 18), (s.sec.diagIndex.toNat, 6), (s.sec.diagStructure.toNat, 4)]
  | _ => if 0x660 ≤ off && off < 0x670 then tabGet 0 s.failover ((off - 0x660) / 4) else 0

/-- A register of BAR0 below 0x2000; an unassigned offset reads 0 (R608). -/
def barReg (s : State) (off : Nat) : BitVec 32 :=
  if off = 0x6AC then flagReg s off ||| BitVec.ofNat 32 (s.pow.extraCauses * 4096)
  else if flagRegs.contains off then flagReg s off
  else if isTotal off then BitVec.ofNat 32 (tabGet 0 s.totals off)
  else match off with
    | 0x0 => 0x6436B100
    | 0x4 => s.host.fwVersion
    | 0x8 => deviceStatus s
    | 0x10 => regWord [(s.host.accessOffset.toNat, 25), (0, 4), (s.host.accessKind.toNat, 3)]
    | 0x14 => regWord (bitFields 16 (fun r => (injOf s r).enabled) ++ bitFields 16 (fun r => (exrOf s r).enabled))
    | 0x18 => regWord [(b2n s.host.cq.enabled, 1), (b2n s.host.eq.enabled, 1)]
    | _ => if 0x1000 ≤ off then mailboxReg s off else chapterReg s off

/-! ### The other regions of BAR0 (Table 12.2) -/

/-- A word of a rule: its staging words, and in word 0x7C the VALID of the active entry (Table 2.10, R133). -/
def ruleReg (s : State) (off : Nat) : BitVec 32 :=
  let x := ruleOf s ((off - 0x400000) / 0x100000) (off % 0x100000 / 0x80)
  let w := off % 0x80 / 4
  if w = 31 then regWord [(b2n x.valid, 1)] else if w < 19 then tabGet 0 x.staging w else 0

/-- A word of a range comparator: its staging copy, and in word 0x4 the VALID of the active one (Table 2.11, R133). -/
def comparatorReg (s : State) (off : Nat) : BitVec 32 :=
  let x := comparatorOf s ((off - 0x900000) / 0x800) (off % 0x800 / 8)
  if off % 8 = 4 then regWord [(x.stagingField.toNat, 5), (0, 26), (b2n x.valid, 1)] else x.staging

/-- What a read of the dword at a BAR0 offset returns, outside the diagnostic window; an unassigned offset reads 0 (R608, Table 12.2). -/
def barRead (s : State) (off : Nat) : BitVec 32 :=
  if off < 0x2000 then barReg s off
  else if 0x10000 ≤ off && off < 0x11000 then BitVec.ofNat 32 (leNat (tabRead 0 s.host.mbx (off - 0x10000) 4))
  else if 0x20000 ≤ off && off < 0x20400 then msixDword s ((off - 0x20000) / 4)
  else if off = 0x20800 then s.host.msixPba.setWidth 32
  else if off = 0x20804 then BitVec.ofNat 32 (s.host.msixPba.toNat / 2 ^ 32)
  else if 0x400000 ≤ off && off < 0x900000 then ruleReg s off
  else if 0x900000 ≤ off && off < 0x902800 then comparatorReg s off
  else 0

/-! ### The diagnostic window (Table 14.8, R732, R733) -/

/-- Is a structure granted by the state in force? -/
def diagGranted (s : State) : Bool :=
  let c := s.sec.diagStructure.toNat
  if 1 ≤ c && c ≤ 5 then decide (2 ≤ s.sec.level)
  else if c = 6 then decide (2 ≤ s.sec.level) && s.sec.lifecycle != 1
  else if c = 7 then decide (3 ≤ s.sec.level)
  else if c = 8 then decide (3 ≤ s.sec.level) && s.sec.lifecycle == 0
  else false

/-- The dword of a 36-bit word that an offset shows. -/
def wordDword (w : Word36) (off : Nat) : BitVec 32 := if off % 8 < 4 then w.setWidth 32 else BitVec.ofNat 32 (w.toNat / 2 ^ 32)

/-- A word of a core's thread registers, 64 words per thread. -/
def diagThread (s : State) (core i : Nat) : Word36 :=
  let t := 8 * core + i / 64
  let n := i % 64
  if n < 32 then regG s t (BitVec.ofNat 5 n) else readSpecial s t (n - 32)

/-- The handle, and the offset in its packet space, whose Vat cell holds a byte of the Vat. -/
def vatOwner (s : State) (a : Nat) : Option (Nat × Nat) :=
  s.cab.handles.findSome? (fun h =>
    if h.2.spilled then none
    else (h.2.cells.find? (fun c => c.2.1 % 2 ^ 32 == a / 256)).map (fun c => (h.1, 256 * c.1 + a % 256)))

/-- A lock word as Dovetail memory holds it (R353). -/
def lockWord (l : Lock) : Word36 := l.owner.setWidth 36

/-- The live slot that stands at a slot number of Dovetail memory, with its channel and number (log entry 171). -/
def slotAt (s : State) (n : Nat) : Option (Nat × Nat × ChanSlot) :=
  let p := Config.slotPlace ((List.range 1024).map (chanSize s)) n
  ((chanOf s p.1).slots.find? (fun q => q.1 % chanSize s p.1 == p.2)).map (fun q => (p.1, q))

/-- A word of the channel slots; none where the slot is free, whose content is open. -/
def slotWord (s : State) (w : Nat) : Option Word36 := (slotAt s (w / 4)).map (fun x => x.2.2.words.getD (w % 4) 0)

/-- A word of a live slot written. -/
def putSlotWord (w : Nat) (f : Word36 → Word36) (s : State) : State :=
  match slotAt s (w / 4) with
  | none => s
  | some (c, i, x) =>
    let x := { x with words := (List.range 4).map (fun j => if j = w % 4 then f (x.words.getD j 0) else x.words.getD j 0) }
    setChan c { chanOf s c with slots := tabPut (chanOf s c).slots i x } s

/-- The key of the slot whose 32 bytes stand at a place of the key store: signing slots, then enciphering slots (Table 14.8). -/
def storeSlot (o : Nat) : Nat := if o / 32 < 8 then o / 32 else o / 32 + 24

/-- The 32 bytes of a key slot. -/
def slotBytes (x : KeySlot) : List Byte := (x.key ++ zeros 32).take 32

/-- The dword at a byte of the selected structure; none where its content is open: free channel slots, free Vat cells, and what the window
has not written of a halted management processor's memories. -/
def diagDword (s : State) (o : Nat) : Option (BitVec 32) :=
  let k := s.sec.diagIndex.toNat
  match s.sec.diagStructure.toNat with
  | 1 => some (if k < 8 ∧ o < 524288 then wordDword (tabGet 0 s.cores.imem (k * 65536 + o / 8)) o else 0)
  | 2 => some (if o < 262144 then wordDword (dmemGet s k (o / 8)) o else 0)
  | 3 => some (if o < 4096 then wordDword (diagThread s k (o / 8)) o else 0)
  | 4 => some (if o < 4194304 then BitVec.ofNat 32 (leNat (tabRead 0 s.disp.ctxStore o 4)) else 0)
  | 5 =>
    if o < 32768 then some (wordDword (lockWord (lockOf s (o / 8))) o)
    else if o < 1081344 then (slotWord s ((o - 32768) / 8)).map (fun w => wordDword w o) else some 0
  | 6 => if o < 100663296 then (vatOwner s o).map (fun h => BitVec.ofNat 32 (leNat (pktRead s (handleOf s h.1) h.2 4))) else some 0
  | 7 => if o < 1048576 then (if s.sec.mpHalted then tabFind s.sec.mpMem (o / 4) else none) else some 0
  | 8 => some (if o < 1280 then BitVec.ofNat 32 (leAt (slotBytes (keySlot s (storeSlot o))) (o % 32) 4) else 0)
  | _ => some 0

/-- The byte of the structure that a window offset reads. -/
def diagByte (s : State) (offset : Nat) : Nat := 2 ^ 24 * s.sec.diagPage.toNat + offset / 4 * 4

/-- DIAG_WINDOW_READ (R732). -/
def execDiagWindowRead (offset : BitVec 24) (s : State) : Res :=
  .next (
    if !hostOpen s then s
    else if !diagGranted s then updHost (fun h => { h with readData := 0 }) s
    else match diagDword s (diagByte s offset.toNat) with
      | some v => updHost (fun h => { h with readData := v }) s
      | none => drawFree (updHost (fun h => { h with readData := BitVec.ofNat 32 (freeNow s) }) s))

/-- A 36-bit word with the dword that an offset shows replaced. -/
def putDword (w : Word36) (o : Nat) (v : BitVec 32) : Word36 :=
  if o % 8 < 4 then BitVec.ofNat 36 (w.toNat / 2 ^ 32 * 2 ^ 32 + v.toNat) else BitVec.ofNat 36 (v.toNat % 16 * 2 ^ 32 + w.toNat % 2 ^ 32)

/-- A written thread register. -/
def diagPutThread (core i : Nat) (w : Word36) (s : State) : State :=
  let t := 8 * core + i / 64
  let n := i % 64
  if n < 32 then setG t (BitVec.ofNat 5 n) w s else updThr t (writeSpecial (n - 32) w) s

/-- A lock word written: its owner (R353). -/
def diagPutLock (k : Nat) (w : Word36) (s : State) : State := setLock k { lockOf s k with owner := w.setWidth 12 } s

/-- A dword written in the selected structure; one whose content is open, or outside it, takes nothing the model holds (log entry
171). -/
def diagPut (o : Nat) (v : BitVec 32) (s : State) : State :=
  let k := s.sec.diagIndex.toNat
  match s.sec.diagStructure.toNat with
  | 1 =>
    let a := k * 65536 + o / 8
    if k < 8 ∧ o < 524288 then { s with cores := { s.cores with imem := tabSet 0 s.cores.imem a (putDword (tabGet 0 s.cores.imem a) o v) } } else s
  | 2 => if o < 262144 then dmemPut k (o / 8) (putDword (dmemGet s k (o / 8)) o v) s else s
  | 3 => if o < 4096 then diagPutThread k (o / 8) (putDword (diagThread s k (o / 8)) o v) s else s
  | 4 => if o < 4194304 then updDisp (fun d => { d with ctxStore := tabWrite 0 d.ctxStore o (leBytes 4 v.toNat) }) s else s
  | 5 =>
    if o < 32768 then diagPutLock (o / 8) (putDword (lockWord (lockOf s (o / 8))) o v) s
    else if o < 1081344 then putSlotWord ((o - 32768) / 8) (fun w => putDword w o v) s else s
  | 6 => match vatOwner s o with
    | some h => pktWrite h.1 h.2 (leBytes 4 v.toNat) false s
    | none => s
  | 7 => if o < 1048576 ∧ s.sec.mpHalted then updSec (fun c => { c with mpMem := tabPut c.mpMem (o / 4) v }) s else s
  | 8 =>
    let x := keySlot s (storeSlot o)
    let b := slotBytes x
    if o < 1280 then
      updSec (fun c => { c with keys := tabSet {} c.keys (storeSlot o) { x with
        key := b.take (o % 32) ++ leBytes 4 v.toNat ++ b.drop (o % 32 + 4) } }) s
    else s
  | _ => s

/-- A write in the diagnostic window (R611, R733). -/
def diagWrite (offset : Nat) (v : BitVec 32) (s : State) : State :=
  if s.sec.level = 3 && s.sec.lifecycle == 0 then diagPut (diagByte s offset) v s
  else accessError (if s.sec.lifecycle = 1 then 3 else 2) (0x1000000 + offset) s

/-- DIAG_WINDOW_WRITE. -/
def execDiagWindowWrite (offset : BitVec 24) (value : BitVec 32) (s : State) : Res :=
  .next (if hostOpen s then diagWrite offset.toNat value s else s)

end Sys2Proof.Machine
end

