-- ==== Sys2Proof/Machine/HostRegs.lean ====
section
/-!
DEFINITION. Register writes through BAR0, configuration requests, and what the management processor itself does
(12_host_port_and_mailboxes.md; R7, R14, R15, R130, R131, R601, R604-R617, R648, R652, R682, R720, R733, R740).
-/
namespace Sys2Proof.Machine

/-! ### Register writes -/

/-- A write that clears the bits written 1 (W1C). -/
def clearFlags (off : Nat) (v : BitVec 32) (s : State) : State :=
  { s with flags := tabUpd 0 s.flags off (fun w => w &&& ~~~ v) }

/-- Writes to registers of the chapters at 0x400 to 0x6CC; one that is read-only or reserved is ignored (R7). -/
def writeChapterReg (off : Nat) (v : BitVec 32) (s : State) : State :=
  if 0x660 ≤ off && off < 0x670 then { s with failover := tabSet 0 s.failover ((off - 0x660) / 4) v }
  else match off with
    | 0x688 => bootCtrl v s
    | 0x68C => updPow (fun p => { p with bootLo := v }) s
    | 0x690 => updPow (fun p => { p with bootHi := v }) s
    | 0x694 => updPow (fun p => { p with bootLength := v.setWidth 20 }) s
    | 0x6A4 => updPow (fun p => { p with warnAt := some (v.setWidth 8) }) s
    | 0x6C8 => if s.sec.level < 2 then s else { s with cores := { s.cores with mulTrap := v.setWidth 8 } }
    | 0x6CC => updSec (fun c => { c with
        diagStructure := BitVec.ofNat 4 (natBits v.toNat 28 4), diagIndex := BitVec.ofNat 6 (natBits v.toNat 22 6), diagPage := v.setWidth 4 }) s
    | _ => s

/-- Writes to the mailbox, queue and doorbell registers (Table 12.6). -/
def writeMailboxReg (off : Nat) (v : BitVec 32) (s : State) : State :=
  let w := v.toNat % 65536
  let r := (off - 0x1100) / 8 % 16
  if off = 0x1000 then mbxGo w s
  else if off = 0x1004 then cqHead w s
  else if off = 0x100C then eqHead w s
  else if 0x1080 ≤ off && off < 0x10C0 then ringDoorbell ((off - 0x1080) / 4) v.toNat s
  else if 0x1100 ≤ off && off < 0x1180 && off % 8 == 0 then exrHead r w s
  else if 0x1180 ≤ off && off < 0x1200 && off % 8 == 0 then injTail r w s
  else s

/-- A write to a byte range of a mailbox (R614, R617). -/
def writeMailbox (off : Nat) (v : BitVec 32) (s : State) : State :=
  let o := off - 0x10000
  if s.host.busy.getLsbD (o / 256) then accessError 4 off s
  else updHost (fun h => { h with mbx := tabWrite 0 h.mbx o (leBytes 4 v.toNat) }) s

/-- A write to the MSI-X table: an unmasked vector's pending message is sent (R648). -/
def writeMsix (off : Nat) (v : BitVec 32) (s : State) : State :=
  let k := (off - 0x20000) / 4
  msixPending (updHost (fun h => { h with msixTable := tabPut h.msixTable k (if k % 4 = 3 then v &&& 1 else v) }) s)

/-- A write to a classifier rule: staging words, and VALID (Table 2.10, R130, R131). -/
def writeRule (off : Nat) (v : BitVec 32) (s : State) : State :=
  let p := (off - 0x400000) / 0x100000
  let r := off % 0x100000 / 0x80
  let w := off % 0x80 / 4
  let x := ruleOf s p r
  if w = 31 then ruleControl p r (v.getLsbD 0) s
  else if 18 < w then s
  else setRule p r { x with staging := tabSet 0 x.staging w (if w = 18 then v &&& 0xF1FFF else v) } s

/-- A write to a range comparator (Table 2.11, R130, R131). -/
def writeComparator (off : Nat) (v : BitVec 32) (s : State) : State :=
  let p := (off - 0x900000) / 0x800
  let n := off % 0x800 / 8
  if off % 8 = 4 then comparatorControl p n v.toNat s
  else setComparator p n { comparatorOf s p n with staging := v } s

/-- A 32-bit write to BAR0, by Table 12.2. -/
def barWrite (off : Nat) (v : BitVec 32) (s : State) : State :=
  if flagRegs.contains off then clearFlags off v s
  else if off < 0x1000 then writeChapterReg off v s
  else if off < 0x2000 then writeMailboxReg off v s
  else if 0x10000 ≤ off && off < 0x11000 then writeMailbox off v s
  else if 0x20000 ≤ off && off < 0x20400 then writeMsix off v s
  else if off = 0x20800 || off = 0x20804 then s
  else if 0x400000 ≤ off && off < 0x900000 then writeRule off v s
  else if 0x900000 ≤ off && off < 0x902800 then writeComparator off v s
  else if 0x1000000 ≤ off then diagWrite (off - 0x1000000) v s
  else accessError 2 off s

/-- REGISTER_WRITE: a dword written by the host; one whose byte enables are not all set is a narrow write, whatever else
its offset would be: KIND 1 alone is recorded (R14, R15, R609; log entry 105). -/
def execRegisterWrite (offset : BitVec 25) (enables : BitVec 4) (value : BitVec 32) (s : State) : Res :=
  let off := offset.toNat / 4 * 4
  .next (
    if !hostOpen s then s
    else if enables ≠ 0xF then accessError 1 off s
    else barWrite off value s)

/-! ### Configuration space -/

/-- A dword of which a request writes the enabled bytes. -/
def enabledBytes (en : BitVec 4) (old new : BitVec 32) : BitVec 32 :=
  let m : BitVec 32 := (List.range 4).foldl (fun m i => if en.getLsbD i then m ||| BitVec.ofNat 32 (0xFF * 2 ^ (8 * i)) else m) 0
  (old &&& ~~~ m) ||| (new &&& m)

/-- The registers that hold state: the command register, BAR0, and those of the capabilities for power management, the read request size,
MSI-X and AER's ECRC (Table 12.1; log entry 50). -/
def configWrite (register : BitVec 10) (en : BitVec 4) (v : BitVec 32) (s : State) : State :=
  updHost (fun h =>
    if register = 1 then { h with busMaster := if en.getLsbD 0 then v.getLsbD 2 else h.busMaster }
    else if register = 4 then { h with bar0 := h.bar0.extractLsb' 32 32 ++ (enabledBytes en (h.bar0.setWidth 32) v &&& 0xFE000000) }
    else if register = 5 then { h with bar0 := enabledBytes en (h.bar0.extractLsb' 32 32) v ++ h.bar0.setWidth 32 }
    else if register = Config.capPm + 1 then
      { h with d3hot := if en.getLsbD 0 then (if v.toNat % 4 = 3 then true else if v.toNat % 4 = 0 then false else h.d3hot) else h.d3hot }
    else if register = Config.capMsix then
      if en.getLsbD 3 then { h with msixEnable := v.getLsbD 31, msixFmask := v.getLsbD 30 } else h
    else if register = Config.capExp + 2 then { h with readRequest := if en.getLsbD 1 then v.extractLsb' 12 3 else h.readRequest }
    else if register = Config.capAer + 1 then { h with aerEcrc := h.aerEcrc && !(en.getLsbD 2 && v.getLsbD 19) }
    else if register = Config.capAer + 6 then
      { h with
        ecrcGen := if en.getLsbD 0 then v.getLsbD 6 else h.ecrcGen
        ecrcCheck := if en.getLsbD 1 then v.getLsbD 8 else h.ecrcCheck }
    else h) s

/-- The bits of a configuration dword that Table 12.1 fixes, and their values: identity and class, one function of an endpoint, BAR0 and no
other BAR or ROM, no INTx, and in the capabilities Max_Payload_Size 512, ×8 at 32.0 GT/s without ASPM, 10-bit tags, the 64 MSI-X vectors
with their table and PBA, ECRC generation and checking, and the serial number. -/
def configBits (r : BitVec 10) (s : State) : BitVec 32 × BitVec 32 :=
  let h := s.host
  let bit := fun (b : Bool) (n : Nat) => if b then BitVec.ofNat 32 (2 ^ n) else 0
  if r = 0 then (0xFFFFFFFF, 0x64361F7C)
  else if r = 1 then (0x00180004, 0x00100000 ||| bit h.busMaster 2)
  else if r = 2 then (0xFFFFFFFF, 0x028000B1)
  else if r = 3 then (0x00FF0000, 0)
  else if r = 4 then (0xFFFFFFFF, h.bar0.setWidth 32 ||| 4)
  else if r = 5 then (0xFFFFFFFF, h.bar0.extractLsb' 32 32)
  else if 6 ≤ r.toNat && r.toNat ≤ 9 || r = 12 then (0xFFFFFFFF, 0)
  else if r = 15 then (0x0000FF00, 0)
  else if r = Config.capPm then (0xFF, 0x01)
  else if r = Config.capPm + 1 then (3, if h.d3hot then 3 else 0)
  else if r = Config.capExp then (0xFF, 0x10)
  else if r = Config.capExp + 1 then (7, 2)
  else if r = Config.capExp + 2 then (0x70E0, BitVec.ofNat 32 (h.readRequest.toNat * 2 ^ 12 + Config.payloadCode.val * 2 ^ 5))
  else if r = Config.capExp + 3 then (0xFFF, 0x085)
  else if r = Config.capExp + 9 then (0x30000, 0x30000)
  else if r = Config.capMsix then (0xFFFF00FF, 0x003F0011 ||| bit h.msixEnable 31 ||| bit h.msixFmask 30)
  else if r = Config.capMsix + 1 then (0xFFFFFFFF, 0x00020000)
  else if r = Config.capMsix + 2 then (0xFFFFFFFF, 0x00020800)
  else if r = Config.capAer then (0xFFFF, 0x0001)
  else if r = Config.capAer + 1 then (0x80000, bit h.aerEcrc 19)
  else if r = Config.capAer + 6 then (0x1E0, 0xA0 ||| bit h.ecrcGen 6 ||| bit h.ecrcCheck 8)
  else if r = Config.capDsn then (0xFFFF, 0x0003)
  else if r = Config.capDsn + 1 then (0xFFFFFFFF, Config.serial.setWidth 32)
  else if r = Config.capDsn + 2 then (0xFFFFFFFF, Config.serial.extractLsb' 32 32)
  else (0, 0)

/-- A dword of the configuration space; what Table 12.1 does not fix is an open value. -/
def configRead (register : BitVec 10) (s : State) : State :=
  let b := configBits register s
  updHost (fun h => { h with readData := fixBits (BitVec.ofNat 32 (freeNow s)) b.1 b.2 }) (drawFree s)

/-- Does port H answer configuration requests: not in a host-interface reset, while an L3 or L4 reset is held, or stopped by R758 (R676)? -/
def configOpen (s : State) : Bool := !s.pow.tripped && !s.pow.held.getLsbD 6 && !inReset s

/-- CONFIGURATION_REQUEST (R604-R606, R648). -/
def execConfigurationRequest (write : Bool) (register : BitVec 10) (enables : BitVec 4) (value : BitVec 32) (s : State) : Res :=
  .next (
    if !configOpen s then s
    else if write then msixPending (configWrite register enables value s)
    else configRead register s)

/-! ### The management processor -/

/-- Does the management processor execute: it is not halted (R720), held in reset, or stopped by R758? -/
def mpRuns (s : State) : Bool := !s.sec.mpHalted && !s.pow.tripped && !inReset s

/-- A general register of the management processor; g0 reads 0. -/
def mpReg (s : State) (g : BitVec 5) : Word36 := if g = 0 then 0 else tabGet 0 s.host.mpRegs g.toNat

/-- Write a general register of the management processor; a write to g0 is discarded. -/
def setMpReg (g : BitVec 5) (v : Word36) (s : State) : State :=
  if g = 0 then s else updHost (fun h => { h with mpRegs := tabSet 0 h.mpRegs g.toNat v }) s

/-- The device control register that ga names. -/
def mpAddress (s : State) (ga : BitVec 5) : Nat := (mpReg s ga).toNat % 2 ^ 24

/-- MRD: a device control register is read; one that nothing has written holds an open value (Table 12.15, R652, log entry 2). -/
def execMrd (gd ga _gb : BitVec 5) (s : State) : Res :=
  let a := mpAddress s ga
  .next (
    if !mpRuns s then s
    else match tabFind s.host.mpCtl a with
      | some v => setMpReg gd (v.setWidth 36) s
      | none =>
        let v := BitVec.ofNat 32 (freeNow s)
        setMpReg gd (v.setWidth 36) (updHost (fun h => { h with mpCtl := tabPut h.mpCtl a v }) (drawFree s)))

/-- MWR: a device control register is written (Table 12.15). -/
def execMwr (_gd ga gb : BitVec 5) (s : State) : Res :=
  let a := mpAddress s ga
  let v := (mpReg s gb).setWidth 32
  .next (if mpRuns s then updHost (fun h => { h with mpCtl := tabPut h.mpCtl a v }) s else s)

/-- MWAIT: whether an event is pending for the management processor, and its source, are open; until one is it stalls (Table 12.15). -/
def execMwait (gd _ga _gb : BitVec 5) (s : State) : Res :=
  let f := freeNow s
  .next (
    if !mpRuns s then s
    else
      let s := drawFree s
      if natBit f 9 then setMpReg gd (BitVec.ofNat 36 (f % 512)) s else s)

/-- MRST: L3 self-reset (Table 12.15, Table 13.1). -/
def execMrst (_gd _ga _gb : BitVec 5) (s : State) : Res := .next (if mpRuns s then pulseL3 srcFatal s else s)

/-- MANAGEMENT_PROCESSOR_HALT: at D3 JTAG halts or resumes the management processor (R720). -/
def execManagementProcessorHalt (halt : Bool) (s : State) : Res :=
  .next (if s.sec.level = 3 then sweepBad (updSec (fun c => { c with mpHalted := halt, mpMem := if halt then c.mpMem else [] }) s) else s)

end Sys2Proof.Machine
end

