-- ==== Sys2Proof/Machine/FaultInstr.lean ====
section
/-!
DEFINITION. Faults the firmware answers, breakpoints and steps, and the fatal error (11_integrity_and_fault_containment.md, Core faults;
14_security_and_debug.md, Fatal errors, Tables 14.9 and 14.10; R581, R596-R599, R602, R717, R728, R729, R734-R739).
-/
namespace Sys2Proof.Machine

/-! ### Core faults -/

/-- A cluster is fenced under R599 for a cause. -/
def fenceFault (k cause : Nat) (s : State) : State :=
  raise 492 [(k, 8), (cause, 8)] (setFlag 0x600 10 (fenceCluster k s))

/-- WATCHDOG_EXPIRY: a core whose threads could run has completed nothing for 200,000 cycles; it takes an L1 reset (R596, R597). -/
def execWatchdogExpiry (core : BitVec 6) (s : State) : Res :=
  let n := core.toNat
  let able := (coreThreads [n]).any (fun t => decide ((thr s t).st = .ready) || decide ((thr s t).st = .run))
  .next (
    if !able || s.sec.deviceFrozen || s.disp.frozen.getLsbD (n / 8) then s
    else settle (raise 491 [(n, 8)] (setFlag 0x600 9 (bumpTotal 0x64C 1 (resetCores [n] s)))))

/-- CLUSTER_FAULT_TIMEOUT: a cluster has left a request unanswered for 50 µs (R599). -/
def execClusterFaultTimeout (cluster : BitVec 3) (s : State) : Res :=
  let k := cluster.toNat
  .next (if s.disp.fenced.getLsbD k then s else settle (fenceFault k 1 s))

/-- INSTRUCTION_REWRITE: an uncorrectable word is rewritten from its shadow; one that a rewrite has not cured fences its cluster
(R581). -/
def execInstructionRewrite (cluster : BitVec 3) (address : BitVec 16) (s : State) : Res :=
  let k := cluster.toNat
  let a := k * 65536 + address.toNat
  .next (
    if !s.cores.imemBad.contains a then s
    else if s.cores.imemRewritten.contains a then settle (fenceFault k 2 (raise 484 [(k, 8), (address.toNat, 32)] s))
    else { s with cores := { s.cores with
      imem := tabSet 0 s.cores.imem a (tabGet 0 s.cores.imemShadow a)
      imemBad := s.cores.imemBad.filter (· != a), imemWeak := s.cores.imemWeak.filter (· != a), imemRewritten := a :: s.cores.imemRewritten } })

/-! ### Debug -/

/-- CHALLENGE_EXPIRY: the challenge record has stood for 60,000 ms (R717). -/
def execChallengeExpiry (s : State) : Res := .next (updSec (fun c => { c with challenge := none }) s)

/-- A matching breakpoint `i` of a thread freezes its scope, unless that is frozen (R728). -/
def breakFreeze (t i : Nat) (s : State) : State :=
  let scope := (tabGet {} s.sec.breakpoints (4 * clusterOf t + i)).scope
  let index := match scope with | 0 => t | 1 => clusterOf t | _ => 0
  let s := setFlag 0x6C4 5 (count .debug 0 3 1 s)
  if scopeFrozen s scope index then s else freezeScope scope index i s

/-- BREAKPOINT_MATCH: a thread reaches an address of breakpoints, whose scopes freeze (R728). -/
def execBreakpointMatch (t : BitVec 9) (s : State) : Res :=
  let n := t.toNat
  let k := clusterOf n
  .next (
    if !(decide ((thr s n).st = .run) || decide ((thr s n).st = .ready)) then s
    else
      let is := hitList s n
      let s := if is.isEmpty then s else updThr n (fun x => { x with broke := some x.pc }) s
      is.foldl (fun a i => raise 459 [(k, 8), (i, 32)] a) (is.foldl (fun a i => breakFreeze n i a) s))

/-- STEP_LIMIT: a stepped thread has completed COUNT instructions, or 10 ms have passed; it is frozen again and the DEBUG_STEP
completes (R729). -/
def execStepLimit (t : BitVec 9) (s : State) : Res :=
  .next (match s.sec.stepMbx with
    | none => s
    | some (_, u) =>
      if u ≠ t.toNat then s
      else sweepBad (stepEnds (if scopeFrozen s 0 u then s else freezeScope 0 u 255 s)))

/-! ### The dump -/

/-- A section of the dump: its TYPE and content. -/
structure DumpSection where
  type : Nat
  bytes : List Byte

/-- `n` open bytes, from the `k`-th open value on (log entry 2). -/
def openBytes (s : State) (k n : Nat) : List Byte := (List.range n).map (fun i => BitVec.ofNat 8 (Config.free (s.fresh + k + i)))

/-- Thread registers: 50 words of 5 bytes, then zeros. -/
def dumpThread (s : State) (t : Nat) : List Byte :=
  ((List.range 32).flatMap (fun i => leBytes 5 (regG s t (BitVec.ofNat 5 i)).toNat) ++
    (List.range 18).flatMap (fun i => leBytes 5 (readSpecial s t i).toNat)) ++ zeros 6

/-- The last 65,536 trace records of the trace region, oldest first. -/
def dumpTrace (s : State) : List Byte :=
  let t := s.sec.trace
  let n := min 65536 (min t.written (t.size / 16))
  (List.range n).flatMap (fun i => dramBytes s (t.base + (t.offset + t.size - 16 * (n - i)) % t.size) 16)

/-- A byte of the Vat; that of a free cell is open. -/
def dumpVat (s : State) (k : Nat) : List Byte :=
  let cells := (List.range 393216).map (fun i => (i, vatOwner s (256 * i)))
  cells.flatMap (fun c => match c.2 with
    | some h => pktRead s (handleOf s h.1) h.2 256
    | none => openBytes s (k + 256 * c.1) 256)

/-- Where each section's open values begin among those drawn, and how many are drawn in all. -/
def openFirmware : Nat := 2
def openSlots : Nat := openFirmware + 16777216
def openTrace : Nat := openSlots + 1048576
def openVat : Nat := openTrace + 1048576
def openAll : Nat := openVat + 100663296

/-- Dovetail memory: each lock word with its waiter queue beside it, then the channel slots, of which free ones are open (Table 14.10, R353;
log entry 171). -/
def dumpDovetail (s : State) : List Byte :=
  (List.range 4096).flatMap (fun k =>
    leBytes 8 ((Config.queueBits (lockOf s k).waiters).toNat * 2 ^ 36 + (lockWord (lockOf s k)).toNat)) ++
  (List.range 131072).flatMap (fun w => match slotWord s w with
    | some v => leBytes 8 v.toNat
    | none => openBytes s (openSlots + 8 * w) 8)

/-- The sections the lifecycle state allows, in TYPE order (Table 14.10, R734). -/
def dumpSections (s : State) : List DumpSection :=
  let tr := dumpTrace s
  [{ type := 1, bytes := openBytes s openFirmware (Config.free (s.fresh + 1) % 16777217) },
   { type := 2, bytes := (List.range 2048).flatMap (fun i => leBytes 4 (barReg s (4 * i)).toNat) },
   { type := 3, bytes := (List.range 512).flatMap (dumpThread s) },
   { type := 4, bytes := dumpDovetail s },
   { type := 5, bytes := (List.range 64).flatMap (fun c => (List.range 32768).flatMap (fun a => leBytes 5 (dmemGet s c a).toNat)) },
   { type := 6, bytes := (List.range 524288).flatMap (fun a => leBytes 5 (tabGet 0 s.cores.imem a).toNat) },
   { type := 7, bytes := tabRead 0 s.disp.ctxStore 0 4194304 }] ++
  (if s.sec.trace.enabled then [{ type := 8, bytes := tr ++ openBytes s openTrace (1048576 - tr.length) }] else []) ++
  (if s.sec.lifecycle = 1 then [] else [{ type := 9, bytes := dumpVat s openVat }])

/-- The directory, with sections one after another from `off`. -/
def dumpDirectory : Nat → List DumpSection → List Byte
  | _, [] => []
  | off, x :: r =>
    layout [(x.type, 2), (0, 2), (off, 4), (x.bytes.length, 4), (crc32c x.bytes, 4)] ++ dumpDirectory (off + x.bytes.length) r

/-- A header closed by the CRC of its first 4,092 bytes. -/
def closeHeader (bs : List Byte) : List Byte :=
  let b := bs.take 4092 ++ zeros (4092 - bs.length)
  b ++ leBytes 4 (crc32c b)

/-- The header of a new dump (Table 14.9); DETAIL, whose parts the firmware finds, is open. -/
def newHeader (s : State) (cause : Nat) (xs : List DumpSection) : List Byte :=
  let f := freeNow s
  let detail := if cause = 1 then f % 256 else if cause = 2 then f % 2 ^ 22 else f
  let total := 4096 + xs.foldl (fun a x => a + x.bytes.length) 0
  closeHeader (layout [(0x4E47444D, 4), (1, 2), (cause, 2), (detail, 4), (0, 4), (0, 2), (s.sh.sheet.toNat, 6)] ++ ptpLe s.line.ptp.time ++
    layout [(0, 2), (s.host.fwVersion.toNat, 4), (s.sec.lifecycle, 1), (s.sec.level, 1), (powerCode s.pow.current, 1), (xs.length, 1), (0, 4),
      (total, 8), (Config.serial.toNat, 8)] ++ dumpDirectory 4096 xs)

/-- A dump is written to the dump region (R734). -/
def writeDump (base cause : Nat) (s : State) : State :=
  let s := drainTrace s
  let xs := dumpSections s
  let bs := newHeader s cause xs ++ xs.flatMap (fun x => x.bytes)
  { dramWrite 7 base bs false s with fresh := s.fresh + openAll }

/-- A later fatal error leaves the dump, and counts in its header (R738). -/
def laterFatal (base cause : Nat) (s : State) : State :=
  let h := dumpHeader s
  dramWrite 7 base (closeHeader (h.take 12 ++ leBytes 4 (leAt h 12 4 + 1) ++ leBytes 2 cause ++ h.drop 18)) false s

/-- Does the dump region lie on a fenced channel (R735)? -/
def dumpFenced (s : State) (base : Nat) : Bool := (List.range 8).any (fun c => (chanState s c).fenced && onChannel s c base dumpSize)

/-- What the firmware writes at a fatal error (R734, R735, R738). -/
def dumpFatal (cause : Nat) (s : State) : State :=
  match s.dram.dumpBase with
  | none => s
  | some base =>
    if !s.dram.started || dumpFenced s base then s
    else if s.pow.dump then laterFatal base cause s
    else writeDump base cause s

/-- FATAL_ERROR: an uncontained fault, a management-processor exception or a failed self-check: the dump, FATAL_N and an L3 self-reset
(R602, R734-R739). -/
def execFatalError (cause : BitVec 8) (s : State) : Res :=
  .next (
    if s.pow.tripped || inReset s then s
    else pulseL3 srcFatal (updPow (fun p => { p with fatalLow := true }) (dumpFatal cause.toNat s)))

end Sys2Proof.Machine
end

