-- ==== Sys2Proof/Machine/ClassOps.lean ====
section
/-!
DEFINITION. Classification: rules, actions, meters and the control path (02_line_ports_and_classifier.md, Rules and range
comparators, Actions, The control path, Meters; R127-R150, R772).
-/
namespace Sys2Proof.Machine

/-- Count on a pipeline counter (Table 2.15). -/
def countPipe (p i n : Nat) (s : State) : State := count .pipe p i n s

/-! ### Rules -/

/-- Does range comparator `n` hit (R127, R135)? -/
def comparatorHits (p : Pipe) (key : List Nat) (n : Nat) : Bool :=
  let c := tabGet {} p.comparators n
  let v := key.getD c.field.toNat 0
  c.valid && !c.bad && decide (natBits c.active.toNat 0 16 ≤ v) && decide (v ≤ natBits c.active.toNat 16 16)

/-- Value of key field `f` in a rule's words (Table 2.10). -/
def ruleValue (ws : Tab (BitVec 32)) (f : Nat) : Nat := natBits (tabGet 0 ws (f / 2)).toNat (16 * (f % 2)) 16

/-- Does a rule match (R128)? -/
def ruleMatches (p : Pipe) (key : List Nat) (r : Rule) : Bool :=
  let care := tabGet 0 r.active 16
  let refs := tabGet 0 r.active 17
  let en := natBits (tabGet 0 r.active 18).toNat 16 4
  r.valid && !r.bad && (maskList 32 care.toNat).all (fun f => key.getD f 0 == ruleValue r.active f) &&
  (maskList 4 en).all (fun j => comparatorHits p key (natBits refs.toNat (8 * j) 8))

/-- The matching rule of lowest index (R129). -/
def matchRule (p : Pipe) (key : List Nat) : Option (Nat × Rule) := p.rules.find? (fun q => ruleMatches p key q.2)

/-- Does a valid rule or comparator fail its parity check at the match (R135)? -/
def ruleParity (p : Pipe) : Bool := p.rules.any (fun q => q.2.valid && q.2.bad) || p.comparators.any (fun q => q.2.valid && q.2.bad)

/-! ### Domain and context -/

/-- H of an action's HASH_FIELDS (R137). -/
def keyHash (key : List Nat) (fields : Nat) : Nat :=
  if fields = 0 then 0 else crc32c ((maskList 32 fields).flatMap (fun f => beBytes 2 (key.getD f 0)))

/-- A number of R138: its base, by source, plus bits of H or of a key field. -/
def pickNumber (src field bits base h : Nat) (key : List Nat) : Nat :=
  match src with
  | 1 => base + h % 2 ^ bits
  | 2 => base + key.getD field 0 % 2 ^ bits
  | _ => base

/-- The ordering domain of a frame (R138). -/
def actionDomain (a : BitVec 128) (key : List Nat) : BitVec 16 :=
  BitVec.ofNat 16 (pickNumber (actWord a 1 30 2) (actWord a 1 25 5) (actWord a 1 16 5) (actWord a 1 0 16) (keyHash key (actWord a 3 0 32)) key)

/-- The flow context index of a frame (R138). -/
def actionCtx (a : BitVec 128) (key : List Nat) : BitVec 14 :=
  BitVec.ofNat 14 (pickNumber (actWord a 2 30 2) (actWord a 2 25 5) (actWord a 2 20 5) (actWord a 2 0 14) (keyHash key (actWord a 3 0 32)) key)

/-- The traffic class of a frame (Table 2.12). -/
def actionClass (a : BitVec 128) (x : Parsed) : BitVec 3 :=
  BitVec.ofNat 3 (if actWord a 0 25 1 = 1 then x.pcp.getD (actWord a 0 26 3) else actWord a 0 26 3)

/-! ### Meters -/

/-- Meter profile of the furnish in force; none is CBS and PBS of 0 (R772). -/
def meterProf (s : State) (p i : Nat) : MeterProfile := tabGet {} s.sh.cur.meters (p * 1024 + i)

/-- A meter's levels in 1/256 byte, full buckets at the profile's sizes (R772). -/
def meterLevels (pr : MeterProfile) (m : Meter) : Nat × Nat :=
  (if m.full then 256 * pr.cbs.toNat else m.c, if m.pFull then 256 * pr.pbs.toNat else m.p)

/-- Meter a frame of `b` bytes: its colour and the meter after it (R148, R149; RFC 2698). -/
def meterMark (pr : MeterProfile) (m : Meter) (b : Nat) (yellow : Bool) : Nat × Meter :=
  let l := meterLevels pr m
  if l.2 < 256 * b then (2, m)
  else if yellow || decide (l.1 < 256 * b) then (1, { m with pFull := false, p := l.2 - 256 * b })
  else (0, { full := false, pFull := false, c := l.1 - 256 * b, p := l.2 - 256 * b })

/-- The colour of a frame under its action, with its meter's counters (R147-R150). -/
def meterFrame (pipe : Nat) (a : BitVec 128) (x : Parsed) (b : Nat) (s : State) : BitVec 2 × State :=
  if actWord a 0 23 1 = 0 then (0, s)
  else
    let i := actWord a 0 12 10
    let r := meterMark (meterProf s pipe i) (tabGet {} (pipeOf s pipe).meters i) b (actWord a 0 22 1 == 1 && x.dei)
    let s := updPipe pipe (fun p => { p with meters := tabSet {} p.meters i r.2 }) s
    let k := pipe * 1024 + i
    (BitVec.ofNat 2 r.1, count .meter k (3 + r.1) b (count .meter k r.1 1 s))

/-! ### The control path -/

/-- A control-path frame: the limiter, then its exception ring; whether it was delivered (R140-R145). -/
def controlPath (pipe ring : Nat) (f : ExrFrame) (s : State) : Bool × State :=
  let p := pipeOf s pipe
  if p.level < 65536 then (false, raiseFirst (128 + pipe) 0 [] (countPipe pipe 8 1 s))
  else
    let s := exrDrain ring (setPipe pipe { p with level := p.level - 65536 } s)
    if exrFull s ring then
      let x := exrOf s ring
      (false, raiseFirst (143 + pipe) 0 [] (countPipe pipe 9 1 (setExr ring { x with drops := x.drops + 1 } s)))
    else (true, exrWrite ring f s)

end Sys2Proof.Machine
end

