-- ==== Sys2Proof/Machine/AdmitOps.lean ====
section
/-!
DEFINITION. Admission of classified frames (03_vat_cabinet_and_queues.md, Admission, Lossless classes, Drop budgets, Random early
drop; R166, R172-R191, R725), and the way of a frame through its pipeline (R115, R140, R141).
-/
namespace Sys2Proof.Machine

/-- A frame at its arrival point (Table 1.7). -/
structure Arrival where
  pipe : Nat
  /-- Ingress port code and subport. -/
  port : Nat
  sub : Nat
  /-- Bytes before the FCS, and the FCS; an injected or companion frame has none. -/
  bytes : List Byte
  fcs : List Byte
  rx : PtpTime
  /-- Its bytes came poisoned (R593), and the lines of its packet space written with a cell parity error (R590). -/
  poisoned : Bool := false
  cells : List Nat := []

/-- Frame length through the FCS (Frame limits). -/
def Arrival.length (f : Arrival) : Nat := f.bytes.length + 4

/-- A classified frame on its way to admission. -/
structure Classified where
  arrival : Arrival
  parsed : Parsed
  key : List Nat
  rule : Nat
  action : BitVec 128
  cls : BitVec 3
  colour : BitVec 2
  evidence : Bool

/-! ### Drop budgets -/

/-- Subports on which a drop budget asserts PFC for an owner: those whose frames hold cells, and that of the frame dropped (R94). -/
def budgetSubports (s : State) (o : Nat) (sub : Option Nat) : BitVec 32 :=
  ownerSubports s o ||| (match sub with | some k => BitVec.ofNat 32 (2 ^ k) | none => 0)

/-- Count a drop of an ordinary owner; its budget reached, the owner enters budget mode (R186, R188). An owner above 31 has no PFC port,
and never enters it (log entry 153). -/
def budgetDrop (b : Bank) (o : Nat) (sub : Option Nat) (s : State) : State :=
  let p := ownerProf b o
  let x := ownerUse s o
  if x.budget || 32 ≤ o || p.lossless || p.dropBudget = 0 || !pfcEnabled s (o / 8) (o % 8) then s
  else if x.drops + 1 < p.dropBudget.toNat then setOwnerUse o { x with drops := x.drops + 1 } s
  else
    let s := setOwnerUse o { x with drops := x.drops + 1, budget := true } s
    let s := { s with cab := { s.cab with pfcBudget := tabSet 0 s.cab.pfcBudget o (budgetSubports s o sub) } }
    raise 173 [] (count .owner o 9 1 (setFlag 0x440 1 s))

/-! ### Random early drop -/

/-- MIN, MAX and MAXP of a colour (Table 3.4). -/
def redColour (r : RedProfile) (col : Nat) : Nat × Nat × Nat :=
  match col with
  | 0 => (r.gMin.toNat, r.gMax.toNat, r.gMaxp.toNat)
  | 1 => (r.yMin.toNat, r.yMax.toNat, r.yMaxp.toNat)
  | _ => (r.rMin.toNat, r.rMax.toNat, r.rMaxp.toNat)

/-- The drop probability for an average in 1/256 cells (R190). -/
def redProbability (r : RedProfile) (col avg : Nat) : Nat :=
  let (mn, mx, mp) := redColour r col
  if avg < 256 * mn then 0 else if 256 * mx ≤ avg then 65536 else mp * (avg - 256 * mn) / (256 * (mx - mn))

/-- Draw from the LFSR of an admission point (R191, R773). -/
def redDraw (pipe : Nat) (s : State) : Nat × State :=
  let d := lfsrDraw (tabGet 0 s.cab.lfsr pipe)
  (d.1, { s with cab := { s.cab with lfsr := tabSet 0 s.cab.lfsr pipe d.2 } })

/-! ### Push-out -/

/-- A copy waiting in an egress queue. -/
structure Waiting where
  key : Nat
  copy : Copy

/-- May a waiting copy be a victim for a frame of a class charged to a drawer (R176, R177)? -/
def victimOk (s : State) (d cls : Nat) (w : Waiting) : Bool :=
  let h := handleOf s (hIndex w.copy.handle)
  decide (w.copy.cls.toNat < cls) && !staleHandle s w.copy.handle && h.drawer == d && h.refs == 1 && h.pins == 0 && !h.spilled &&
  !w.copy.evidence && !w.copy.lossless

/-- Is one victim taken before another: lowest class first, newest within a class (R176)? -/
def victimBefore (a b : Waiting) : Bool :=
  decide (a.copy.cls.toNat < b.copy.cls.toNat) || (a.copy.cls == b.copy.cls && decide (b.copy.order < a.copy.order))

/-- Insert a victim in the order in which victims are taken. -/
def victimInsert (w : Waiting) : List Waiting → List Waiting
  | [] => [w]
  | x :: r => if victimBefore w x then w :: x :: r else x :: victimInsert w r

/-- The copies that may be victims, in the order in which they are taken. -/
def victims (s : State) (d cls : Nat) : List Waiting :=
  ((s.cab.queues.flatMap (fun q => q.2.map (fun c => { key := q.1, copy := c : Waiting }))).filter (victimOk s d cls)).foldl
    (fun l w => victimInsert w l) []

/-- As many victims as free `n` cells, of the first 8 (R176). -/
def chooseVictims (s : State) : Nat → Nat → List Waiting → List Waiting
  | _, 0, _ => []
  | _, _, [] => []
  | n, k + 1, w :: r =>
    let m := (handleOf s (hIndex w.copy.handle)).cells.length
    if n ≤ m then [w] else w :: chooseVictims s (n - m) k r

/-- Evict one victim (R179); a drop budget it spends asserts PFC on the subport the victim arrived on (R94, R186). -/
def evict (b : Bank) (w : Waiting) (s : State) : State :=
  let h := handleOf s (hIndex w.copy.handle)
  let o := h.charge.toNat
  let s := { s with cab := { s.cab with queues := tabUpd [] s.cab.queues w.key (fun l => l.filter (fun c => c.order != w.copy.order)) } }
  budgetDrop b o h.subport (count .owner o 7 1 (setFlag 0x440 7 (dropCopy w.copy s)))

/-- Evict victims for `n` cells of a drawer; none when they do not suffice, or their group grants no cell (R178, R210). -/
def pushOut (b : Bank) (d cls n : Nat) (s : State) : Option State :=
  let vs := chooseVictims s n 8 (victims s d cls)
  let freed := (vs.map (fun w => (handleOf s (hIndex w.copy.handle)).cells.length)).foldl (· + ·) 0
  if freed < n || !(groupOf s (d / 8)).filled then none
  else
    some (vs.foldl (fun a w => evict b w a) s)

/-! ### Admission -/

/-- A frame that arrives while XOFF or budget mode holds for its owner has PFC asserted on its subport (R183, R94). -/
def noteArrival (o : Nat) (sub : Option Nat) (s : State) : State :=
  match sub with
  | none => s
  | some k =>
    let m := BitVec.ofNat 32 (2 ^ k)
    let s := if ownerXoff s o then { s with cab := { s.cab with pfcOn := tabUpd 0 s.cab.pfcOn o (fun x => x ||| m) } } else s
    if (ownerUse s o).budget then { s with cab := { s.cab with pfcBudget := tabUpd 0 s.cab.pfcBudget o (fun x => x ||| m) } } else s

/-- Where admission takes a frame's cells (Admission). -/
inductive Admit where
  | grant (p : Pay)
  | overrun
  | red
  | tail
  | frozen
  | stopped
  deriving DecidableEq, Repr

/-- The tests of admission in their order (R174), with the state in which the grant is made. -/
def admitTest (b : Bank) (o n : Nat) (lossless : Bool) (c : Classified) (s : State) : Admit × State :=
  let p := ownerProf b o
  let d := p.drawer.toNat
  if admissionStopped s then (.stopped, s)
  else if s.sec.deviceFrozen then
    let h := readyHeadroom b o d n lossless s
    (if h.1 then .grant .headroom else .frozen, h.2)
  else if lossless || (ownerUse s o).budget then
    let v := readyVat b o d n s
    if v.1 then (.grant .vat, v.2)
    else
      let x := readySpill b o d n v.2
      if x.1 then (.grant .spill, x.2)
      else
        let h := readyHeadroom b o d n lossless x.2
        (if h.1 then .grant .headroom else .overrun, h.2)
  else
    let r := redDraw c.arrival.pipe s
    if r.1 < redProbability (tabGet {} b.reds p.red.toNat) c.colour.toNat (ownerUse r.2 o).avg then (.red, r.2)
    else
      let v := readyVat b o d n r.2
      if v.1 then (.grant .vat, v.2)
      else
        let x := readySpill b o d n v.2
        if x.1 then (.grant .spill, x.2)
        else match pushOut b d c.cls.toNat n x.2 with
          | some s => (.grant .vat, s)
          | none => (.tail, x.2)

/-- The bytes of packet space that a frame fills: the headroom's zeros, the frame and its FCS (R159). -/
def Arrival.image (f : Arrival) : List Byte := zeros 32 ++ f.bytes ++ f.fcs

/-- The packet handle of an admitted frame (R159-R161, R166, R200). -/
def frameHandle (o d : Nat) (spilled : Bool) (c : Classified) (h : Handle) : Handle :=
  let f := c.arrival
  { h with
    kind := .packet, owner := 254, charge := BitVec.ofNat 8 o, drawer := d
    subport := if f.port < 4 then some (8 * f.port + f.sub) else none
    refs := 1, spilled := spilled, evidence := c.evidence, cls := c.cls
    data := if spilled then [] else f.image.zipIdx.map (fun q => (q.2, q.1))
    record := receiveRecord f.rx f.port f.sub c.parsed
    poison := if spilled then 0
      else (touchedLines 32 f.bytes.length).foldl (fun m l =>
        if f.poisoned || f.cells.contains l.1 then m ||| BitVec.ofNat 256 (2 ^ l.1) else m) 0 }

/-- A line of a spilled handle goes to DRAM poisoned (R554, R588). -/
def markSpilled (h : Handle) (l : Nat) (s : State) : State :=
  match tabFind h.cells (l / 4) with
  | none => s
  | some c =>
    let a := (c.2 + 64 * (l % 4)) / 64
    if lineClosed s a then s else { s with dram := { s.dram with poison := tabSet false s.dram.poison a true } }

/-- The spill engine writes a spilled frame to DRAM by whole lines as it arrives, and its head cell is held in the prefetch
buffer (R212; log entry 115). -/
def spillFrame (i : Nat) (f : Arrival) (s : State) : State :=
  let h := handleOf s i
  let n := f.image.length
  let s := pktWrite i 0 (f.image ++ pktRead s h n ((64 - n % 64) % 64)) f.poisoned s
  let s := f.cells.foldl (fun a l => if 64 * l < n then markSpilled h l a else a) s
  updHandle i (fun h => { h with headHeld := true }) { s with cab := { s.cab with prefetch := s.cab.prefetch + 256 } }

/-- The work item of an admitted frame (R227, R235, Table 4.1). -/
def frameItem (s : State) (c : Classified) (lossless : Bool) (h : HandleWord) : Item :=
  let f := c.arrival
  let w := windowOf s s.sh.furnish
  let ctx := actionCtx c.action c.key
  { isEvent := false, cls := c.cls, port := BitVec.ofNat 6 f.port, subport := f.sub, domain := actionDomain c.action c.key, seq := 0
    furnish := s.sh.furnish, arrival := s.sh.sheet, window := w, deadline := s.sh.sheet + BitVec.ofNat 48 w, ctx := ctx
    evidence := c.evidence, lossless := lossless, colour := c.colour, handle := h, pipe := f.pipe, rule := c.rule, action := c.action
    dd0 := BitVec.ofNat 36 (packNat [(h.toNat, 24), (f.port, 6), (c.cls.toNat, 3), (c.colour.toNat, 2), (b2n c.evidence, 1)])
    dd1 := BitVec.ofNat 36 (packNat [(f.length, 14), (c.rule, 14), (c.parsed.status, 8)])
    dd2 := 0, dd3 := dd3Of s.sh.sheet s.sh.furnish ctx, place := .global 0 }

/-- Admission of a frame (R174, R175, R180-R182, R725, Table 9.14), and its way to the dispatcher. -/
def admitFrame (b : Bank) (c : Classified) (s : State) : State :=
  let f := c.arrival
  let o := chargeOwner f.port c.cls.toNat
  let p := ownerProf b o
  let d := p.drawer.toNat
  let lossless := p.lossless || c.evidence
  let n := ceilDiv (f.length + 32) 256
  let sub := if f.port < 4 then some (8 * f.port + f.sub) else none
  let s := noteArrival o sub s
  let r := admitTest b o n lossless c s
  let s := r.2
  match r.1 with
  | .grant pay =>
    let h := newHandle (frameHandle o d (pay = .spill) c) s
    let s := addCells h.1 (List.range n) pay h.2
    let s := if pay = .spill then spillFrame h.1 f s else s
    let s := count .owner o 1 n (count .owner o 0 1 s)
    let s := if pay = .spill then count .owner o 2 1 s else s
    let s := afterGrant b o s
    enterItem (frameItem s c lossless (handleWord s h.1)) s
  | .red => budgetDrop b o sub (count .owner o (3 + c.colour.toNat) 1 s)
  | .tail => budgetDrop b o sub (count .owner o 6 1 s)
  | .overrun =>
    let s := raise 172 [] (count .owner o 8 1 (setFlag 0x440 0 s))
    if c.evidence then evidenceLoss (actionCtx c.action c.key).toNat s.sh.sheet s else s
  | .stopped => if c.evidence then evidenceLoss (actionCtx c.action c.key).toNat s.sh.sheet s else s
  | .frozen =>
    let s := count .debug 0 5 1 s
    if c.evidence then evidenceLoss (actionCtx c.action c.key).toNat s.sh.sheet s else s

/-! ### The way through a pipeline -/

/-- The exception frame of a control-path frame (R105, R140, Table 12.13). -/
def controlFrame (s : State) (f : Arrival) (x : Parsed) (reason rule cls : Nat) : ExrFrame :=
  { reason := reason, poisoned := f.poisoned, bytes := f.bytes, frameLength := f.length, pipe := f.pipe, cls := cls
    arrival := s.sh.sheet, rule := rule, map := 0, record := receiveRecord f.rx f.port f.sub x }

/-- A matched frame's action (R136-R141). -/
def takeAction (b : Bank) (f : Arrival) (x : Parsed) (key : List Nat) (rule index : Nat) (s : State) : State :=
  let a := tabGet 0 b.actions (f.pipe * 8192 + index)
  let cls := actionClass a x
  let m := meterFrame f.pipe a x f.length s
  let s := m.2
  let c : Classified :=
    { arrival := f, parsed := x, key := key, rule := rule, action := a, cls := cls, colour := m.1, evidence := actWord a 0 24 1 == 1 }
  match actCode a with
  | 1 => countPipe f.pipe 6 1 s
  | 2 | 4 | 5 | 6 => admitFrame b c s
  | 3 =>
    let r := controlPath f.pipe (actControlRing a) (controlFrame s f x 3 rule cls.toNat) s
    if r.1 then countPipe f.pipe 7 1 r.2 else r.2
  | _ => (controlPath f.pipe (pipeOf s f.pipe).missRing (controlFrame s f x 2 rule cls.toNat) (countPipe f.pipe 5 1 s)).2

/-- Report the parity errors a frame meets in its parse and its match (R135, R155). -/
def noteParity (pipe : Nat) (x : Parsed) (s : State) : State :=
  let s := if x.stop = some (.fail 10) then raise (138 + pipe) [] (countPipe pipe 11 1 s) else s
  if !x.failed && ruleParity (pipeOf s pipe) then raise (133 + pipe) [] (countPipe pipe 11 1 s) else s

/-- A frame at its arrival point: stamp, parse, match, action (R55, R57, R115, R136, R140). -/
def frameArrives (f : Arrival) (s : State) : State :=
  let p := pipeOf s f.pipe
  let x := parseFrame p f.bytes
  let s := noteParity f.pipe x (countPipe f.pipe 0 1 s)
  let s := if x.stop = some .depth then countPipe f.pipe 4 1 s else s
  if x.failed then (controlPath f.pipe p.failRing (controlFrame s f x 1 0xFFFF 0) (countPipe f.pipe 3 1 s)).2
  else
    let key := frameKey p f.port f.sub f.bytes x
    match matchRule p key with
    | none => (controlPath f.pipe p.missRing (controlFrame s f x 0 0xFFFF 0) (countPipe f.pipe 2 1 s)).2
    | some (r, rule) =>
      let k := f.pipe * 8192 + r
      let s := count .rule k 1 f.length (count .rule k 0 1 (countPipe f.pipe 1 1 s))
      match bankOf s s.sh.furnish with
      | none => raise 452 [] (countPipe f.pipe 10 1 s)
      | some b => takeAction b f x key r (natBits (tabGet 0 rule.active 18).toNat 0 13) s

end Sys2Proof.Machine
end

