-- ==== Sys2Proof/Machine/IngressInstr.lean ====
section
/-!
DEFINITION. Frames on their way in: the receive MACs, PFC frames, host injection and companion packets
(02_line_ports_and_classifier.md; R86-R91, R101, R104, R106, R578, R639-R645, R468, R469, R681, R767).
-/
namespace Sys2Proof.Machine

/-- May a subport receive frames (R767), its clock not stopped by a thermal trip (R758)? -/
def receives (s : State) (k : Nat) : Bool := !s.pow.tripped && (portOf s (k / 8)).enabled && subInMode s k && (subOf s k).linkUp

/-! ### Line ports -/

/-- The receive timestamp of a frame: its first bit stands its whole length before its last (R101; log entry 44). -/
def rxStamp (s : State) (k n : Nat) (jitter : BitVec 8) : PtpTime :=
  ptpOfNs (stampOf s k (ballTime s k (- (n : Int)) (subOf s k).ingressDelay) jitter.toNat)

/-- What the PCS and FEC report with a frame (R151, R153, R578). -/
def noteFec (k : Nat) (e : RxErrors) (s : State) : State :=
  let s := countMac k 15 e.symbols s
  if (portOf s (k / 8)).fecNone then s
  else
    let s := countMac k 7 e.corrected s
    if e.codewords = 0 then s
    else setPort (k / 8) { portOf s (k / 8) with fecSeen := true } (countMac k 8 e.codewords s)

/-- Does a frame's FCS fail, or FEC leave it in error (R86, R578)? -/
def fcsBad (s : State) (k : Nat) (frame : List Byte) (e : RxErrors) : Bool :=
  (e.fec && !(portOf s (k / 8)).fecNone) || crcEth (frame.take (frame.length - 4)) != leNat (frame.drop (frame.length - 4))

/-- A MAC control frame: PFC acts, any other is counted and discarded (R89-R91). -/
def macControl (k : Nat) (frame : List Byte) (s : State) : State :=
  if beNat (bytesAt frame 14 2) = 0x0101 then
    pauseFrom k (BitVec.ofNat 8 (beNat (bytesAt frame 16 2)))
      ((List.range 8).map (fun p => BitVec.ofNat 16 (beNat (bytesAt frame (18 + 2 * p) 2)))) (countMac k 5 1 s)
  else countMac k 6 1 s

/-- A frame at its arrival point, in the sheet that the last tick opened: what that tick still owes comes first (R32, R33, R143, R147). -/
def frameComes (f : Arrival) (s : State) : State := frameArrives f (endTick s)

/-- FRAME_RECEIVE: a frame of a subport is checked and passed to its pipeline, its cells checked on the way (R590); RX_FRAMES and RX_BYTES
count the frames that pass the checks, those of MAC control among them (R86, R89, R101, R767; log entry 106). -/
def execFrameReceive (sub : BitVec 5) (frame : List Byte) (errors : RxErrors) (jitter : BitVec 8) (s : State) : Res :=
  let k := sub.toNat
  let n := frame.length
  .next (
    if !receives s k then s
    else
      let s := noteFec k errors (noteTraffic s)
      if n < 64 then countMac k 3 1 s
      else if (portOf s (k / 8)).maxFrame < n then countMac k 4 1 s
      else if fcsBad s k frame errors then countMac k 2 1 s
      else
        let s := countMac k 1 n (countMac k 0 1 s)
        let cells := errors.cells.map (·.toNat)
        if beNat (bytesAt frame 12 2) = 0x8808 then macControl k frame s
        else frameComes
          { pipe := k / 8, port := k / 8, sub := k % 8, bytes := frame.take (n - 4), fcs := frame.drop (n - 4)
            rx := rxStamp s k n jitter, cells := cells } (noteCellParity 0 (k / 8) cells.length s))

/-- PFC_FRAME_RECEIVE: a PFC frame of 64 bytes (R90, R91). A frame carries eight quanta. -/
def execPfcFrameReceive (sub : BitVec 5) (enable : BitVec 8) (quanta : List (BitVec 16)) (s : State) : Res :=
  let k := sub.toNat
  if quanta.length ≠ 8 then .fault .illFormedOperand
  else .next (if receives s k then pauseFrom k enable quanta (countMac k 5 1 (countMac k 1 64 (countMac k 0 1 (noteTraffic s)))) else s)

/-! ### Host injection -/

/-- The ring pipeline 4 takes its next frame from: in round robin, enabled, with a descriptor, and not stopped (R606, R643, R644,
R725). -/
def nextInj (s : State) : Option Nat :=
  if !s.host.busMaster || s.sec.deviceFrozen || admissionStopped s then none
  else ((List.range 16).map (fun i => (s.host.injLast + 1 + i) % 16)).find? (fun r =>
    let x := injOf s r
    x.enabled && x.head != x.tail && !ownerXoff s (32 + x.cls))

/-- INJ_HEAD advances, and is written to HEAD_WB every 16 frames and when it reaches INJ_TAIL (R642, R646). -/
def injAdvance (r : Nat) (s : State) : State :=
  let x := injOf s r
  let head := (x.head + 1) % x.entries
  let write := head == x.tail || decide (16 ≤ x.sinceWb + 1)
  let s := setInj r { x with head := head, sinceWb := if write then 0 else x.sinceWb + 1 } s
  markCause (18 + r) (if write then hostWrite x.headWb (leBytes 4 head) s else s)

/-- A ring's DMA read failed (R641). -/
def ringFault (r : Nat) (s : State) : State := raise 35 [(1, 8), (r, 8)] (setFlag 0xC 4 s)

/-- A bad descriptor (R640). -/
def injBad (r : Nat) (s : State) : State :=
  let x := injOf s r
  raise 34 [(r, 8)] (setFlag 0xC 5 (count .host 0 11 1 (setInj r { x with bad := x.bad + 1 } s)))

/-- INJECTION_FETCH: the next descriptor and its frame are read and passed to pipeline 4, its cells checked on the way (R639-R644, R106,
R590; log entry 45). -/
def execInjectionFetch (descriptor frame : DmaResult) (cells : List (BitVec 8)) (s : State) : Res :=
  .next (match nextInj s with
    | none => s
    | some r =>
      let x := injOf s r
      let d := hostRead s (x.address.toNat + 16 * x.head) 16
      let len := leAt d 8 2
      let s := updHost (fun h => { h with injLast := r }) s
      let descriptor := seenH s descriptor
      let frame := seenH s frame
      if descriptor ≠ .ok then injAdvance r (ringFault r (noteTlp 489 descriptor s))
      else if len < 60 || 9212 < len || leAt d 10 6 ≠ 0 then injAdvance r (injBad r s)
      else if frame = .error then injAdvance r (ringFault r s)
      else
        let s := setInj r { injOf s r with frames := x.frames + 1, bytes := x.bytes + len } s
        let s := injAdvance r (count .host 0 10 1 (noteTlp 489 frame s))
        frameComes
          { pipe := 4, port := 8, sub := 0, bytes := hostRead s (leAt d 0 8) len, fcs := []
            rx := s.line.ptp.time, poisoned := dmaDark frame, cells := cells.map (·.toNat) } (noteCellParity 0 8 cells.length s))

/-! ### Companion packets -/

/-- A frame of the companion ends, admitted or dropped: the credits of its flits return (R455). -/
def endPacket (s : State) : State :=
  let n := (linkOf s).frameFlits
  let s := updLink (fun l => { l with frame := none, frameFlits := 0, withheld := tabUpd 0 l.withheld 5 (· + n) }) s
  returnCredits 5 s

/-- A frame of the companion is discarded (R469). -/
def badPacket (passing : Bool) (s : State) : State :=
  let s := raiseFirst 222 0 [] (count .portC 0 10 1 (setFlag 0x540 7 s))
  endPacket (updLink (fun l => { l with passing := passing }) s)

/-- Bytes of a boot image from the companion (R681). -/
def bootPacket (bs : List Byte) (s : State) : State :=
  if beNat (bytesAt bs 0 4) = 0x4E474249 && decide (bs.length ≤ 8200) then
    { s with pow := { s.pow with image := ((bs.drop 8).zipIdx).foldl (fun t q => tabPut t (beNat (bytesAt bs 4 4) + q.2) q.1) s.pow.image } }
  else s

/-- A frame of the companion is whole: it goes to pipeline 4, or to the boot ROM that waits for its image (R106, R468, R681). -/
def packetEnds (bs : List Byte) (s : State) : State :=
  let s := updLink (fun l => { l with passing := false }) (count .portC 0 9 1 s)
  if bs.length < 60 || 9212 < bs.length then badPacket false s
  else if s.pow.level ≠ 0 ∧ s.pow.source = 2 ∧ s.pow.stage = .loading then endPacket (bootPacket bs s)
  else endPacket (frameComes { pipe := 4, port := 9, sub := 0, bytes := bs, fcs := [], rx := s.line.ptp.time } s)

/-- The data of an accepted PKT flit (Table 8.9, R468, R469; log entry 46). -/
def packetFlit (p : List Byte) (s : State) : State :=
  let sop := natBit (leAt p 0 1) 0
  let eop := natBit (leAt p 0 1) 1
  let n := leAt p 1 1
  let data := bytesAt p 2 (min n 54)
  let short := n = 0 ∨ 54 < n ∨ (n < 54 ∧ eop = false)
  let s := updLink (fun l => { l with frameFlits := l.frameFlits + 1 }) s
  let begun := (linkOf s).frame
  if (linkOf s).passing && !sop then
    if eop then endPacket (updLink (fun l => { l with passing := false }) s) else endPacket s
  else match begun, sop with
    | none, false => badPacket (!eop) s
    | some _, true =>
      let s := updLink (fun l => { l with frameFlits := 1 }) (badPacket false (updLink (fun l => { l with frameFlits := l.frameFlits - 1 }) s))
      if short then badPacket (!eop) s
      else if eop then packetEnds data s else updLink (fun l => { l with frame := some data }) s
    | none, true =>
      if short then badPacket (!eop) s
      else if eop then packetEnds data s else updLink (fun l => { l with frame := some data, passing := false }) s
    | some bs, false =>
      if short || decide (9212 < bs.length + n) then badPacket (!eop) s
      else if eop then packetEnds (bs ++ data) s else updLink (fun l => { l with frame := some (bs ++ data) }) s

/-- PKT: a flit of a companion packet (R468, R469). -/
def execPktFlit (flit : BitVec 544) (s : State) : Res := .next (rxFlit 7 true flit packetFlit s)

/-! ### Pauses -/

/-- PFC_PAUSE_EXPIRY: a priority's pause ends after its quanta (R91). -/
def execPfcPauseExpiry (sub : BitVec 5) (prio : BitVec 3) (s : State) : Res :=
  .next (updSub sub.toNat (fun x => { x with paused := tabErase x.paused prio.toNat }) s)

/-- PFC_REFRESH_EXPIRY: PFC_REFRESH quanta have passed, and the XOFF frame is due again at the next frame boundary (R92). -/
def execPfcRefreshExpiry (sub : BitVec 5) (s : State) : Res :=
  .next (if (subOf s sub.toNat).xoffSent = 0 then s else updSub sub.toNat (fun x => { x with refreshDue := true }) s)

end Sys2Proof.Machine
end

