-- ==== Sys2Proof/Machine/IntegerInstr.lean ====
section
/-!
DEFINITION. Integer instructions, shifts, bit fields and special-register moves (05_core_instruction_set.md, Integer
instructions; R271-R276, R760).
-/
namespace Sys2Proof.Machine

/-- A register ALU instruction of major 0: gd := f ga gb (Table 5.5). -/
def aluR (t : BitVec 9) (func : Nat) (gd ga gb : BitVec 5) (zf : BitVec 9) (srcs : List (BitVec 5))
    (f : Word36 → Word36 → Word36) (s : State) : State :=
  issue t { word := encR 0 gd ga gb zf func, illegal := fun _ _ => zf != 0, srcs := srcs, dsts := [gd]
            act := fun n s => advance n (setG n gd (f (regG s n ga) (regG s n gb)) s) } s

/-- A truth value as a word. -/
def boolWord (b : Bool) : Word36 := if b then 1 else 0

/-- Rotation left. -/
def rotl36 (a : Word36) (n : Nat) : Word36 := a.rotateLeft (n % 36)

/-- Leading zeros, 0 to 36. -/
def clz36 (a : Word36) : Nat := if a = 0 then 36 else 35 - Nat.log2 a.toNat
/-- Trailing zeros, 0 to 36. -/
def ctz36 (a : Word36) : Nat := ((List.range 36).find? (fun i => a.getLsbD i)).getD 36
/-- Number of 1 bits. -/
def popc36 (a : Word36) : Nat := ((List.range 36).filter (fun i => a.getLsbD i)).length
/-- The bytes of bits [31:0] in reverse order, bits [35:32] zero. -/
def bswap36 (a : Word36) : Word36 := BitVec.ofNat 36 (beNat (leBytes 4 a.toNat))

def execAdd (t : BitVec 9) (gd ga gb : BitVec 5) (zf : BitVec 9) (s : State) : Res :=
  .next (aluR t 0x00 gd ga gb zf [ga, gb] (fun a b => a + b) s)
def execSub (t : BitVec 9) (gd ga gb : BitVec 5) (zf : BitVec 9) (s : State) : Res :=
  .next (aluR t 0x01 gd ga gb zf [ga, gb] (fun a b => a - b) s)
def execAnd (t : BitVec 9) (gd ga gb : BitVec 5) (zf : BitVec 9) (s : State) : Res :=
  .next (aluR t 0x02 gd ga gb zf [ga, gb] (fun a b => a &&& b) s)
def execOr (t : BitVec 9) (gd ga gb : BitVec 5) (zf : BitVec 9) (s : State) : Res :=
  .next (aluR t 0x03 gd ga gb zf [ga, gb] (fun a b => a ||| b) s)
def execXor (t : BitVec 9) (gd ga gb : BitVec 5) (zf : BitVec 9) (s : State) : Res :=
  .next (aluR t 0x04 gd ga gb zf [ga, gb] (fun a b => a ^^^ b) s)
def execNor (t : BitVec 9) (gd ga gb : BitVec 5) (zf : BitVec 9) (s : State) : Res :=
  .next (aluR t 0x05 gd ga gb zf [ga, gb] (fun a b => ~~~(a ||| b)) s)
def execAndn (t : BitVec 9) (gd ga gb : BitVec 5) (zf : BitVec 9) (s : State) : Res :=
  .next (aluR t 0x06 gd ga gb zf [ga, gb] (fun a b => a &&& ~~~b) s)

/-- Shift amount gb[5:0]. -/
def shamt (b : Word36) : Nat := natBits b.toNat 0 6

def execSll (t : BitVec 9) (gd ga gb : BitVec 5) (zf : BitVec 9) (s : State) : Res :=
  .next (aluR t 0x08 gd ga gb zf [ga, gb] (fun a b => a <<< shamt b) s)
def execSrl (t : BitVec 9) (gd ga gb : BitVec 5) (zf : BitVec 9) (s : State) : Res :=
  .next (aluR t 0x09 gd ga gb zf [ga, gb] (fun a b => a >>> shamt b) s)
def execSra (t : BitVec 9) (gd ga gb : BitVec 5) (zf : BitVec 9) (s : State) : Res :=
  .next (aluR t 0x0A gd ga gb zf [ga, gb] (fun a b => a.sshiftRight (shamt b)) s)
def execRol (t : BitVec 9) (gd ga gb : BitVec 5) (zf : BitVec 9) (s : State) : Res :=
  .next (aluR t 0x0B gd ga gb zf [ga, gb] (fun a b => rotl36 a b.toNat) s)
def execSlt (t : BitVec 9) (gd ga gb : BitVec 5) (zf : BitVec 9) (s : State) : Res :=
  .next (aluR t 0x0C gd ga gb zf [ga, gb] (fun a b => boolWord (a.slt b)) s)
def execSltu (t : BitVec 9) (gd ga gb : BitVec 5) (zf : BitVec 9) (s : State) : Res :=
  .next (aluR t 0x0D gd ga gb zf [ga, gb] (fun a b => boolWord (a.ult b)) s)
def execMin (t : BitVec 9) (gd ga gb : BitVec 5) (zf : BitVec 9) (s : State) : Res :=
  .next (aluR t 0x0E gd ga gb zf [ga, gb] (fun a b => if a.slt b then a else b) s)
def execMax (t : BitVec 9) (gd ga gb : BitVec 5) (zf : BitVec 9) (s : State) : Res :=
  .next (aluR t 0x0F gd ga gb zf [ga, gb] (fun a b => if a.slt b then b else a) s)
def execMinu (t : BitVec 9) (gd ga gb : BitVec 5) (zf : BitVec 9) (s : State) : Res :=
  .next (aluR t 0x10 gd ga gb zf [ga, gb] (fun a b => if a.ult b then a else b) s)
def execMaxu (t : BitVec 9) (gd ga gb : BitVec 5) (zf : BitVec 9) (s : State) : Res :=
  .next (aluR t 0x11 gd ga gb zf [ga, gb] (fun a b => if a.ult b then b else a) s)
def execClz (t : BitVec 9) (gd ga gb : BitVec 5) (zf : BitVec 9) (s : State) : Res :=
  .next (aluR t 0x14 gd ga gb zf [ga] (fun a _ => BitVec.ofNat 36 (clz36 a)) s)
def execCtz (t : BitVec 9) (gd ga gb : BitVec 5) (zf : BitVec 9) (s : State) : Res :=
  .next (aluR t 0x15 gd ga gb zf [ga] (fun a _ => BitVec.ofNat 36 (ctz36 a)) s)
def execPopc (t : BitVec 9) (gd ga gb : BitVec 5) (zf : BitVec 9) (s : State) : Res :=
  .next (aluR t 0x16 gd ga gb zf [ga] (fun a _ => BitVec.ofNat 36 (popc36 a)) s)
def execBswap (t : BitVec 9) (gd ga gb : BitVec 5) (zf : BitVec 9) (s : State) : Res :=
  .next (aluR t 0x17 gd ga gb zf [ga] (fun a _ => bswap36 a) s)

/-! ### Immediate forms -/

/-- An immediate ALU instruction of majors 1 to 6: gd := f ga imm. -/
def aluI (t : BitVec 9) (major : Nat) (gd ga : BitVec 5) (zf : BitVec 4) (imm : BitVec 16)
    (f : Word36 → Word36) (s : State) : State :=
  issue t { word := encI major gd ga zf imm, illegal := fun _ _ => zf != 0, srcs := [ga], dsts := [gd]
            act := fun n s => advance n (setG n gd (f (regG s n ga)) s) } s

def execAddi (t : BitVec 9) (gd ga : BitVec 5) (zf : BitVec 4) (imm : BitVec 16) (s : State) : Res :=
  .next (aluI t 1 gd ga zf imm (fun a => a + imm.signExtend 36) s)
def execAndi (t : BitVec 9) (gd ga : BitVec 5) (zf : BitVec 4) (imm : BitVec 16) (s : State) : Res :=
  .next (aluI t 2 gd ga zf imm (fun a => a &&& imm.setWidth 36) s)
def execOri (t : BitVec 9) (gd ga : BitVec 5) (zf : BitVec 4) (imm : BitVec 16) (s : State) : Res :=
  .next (aluI t 3 gd ga zf imm (fun a => a ||| imm.setWidth 36) s)
def execXori (t : BitVec 9) (gd ga : BitVec 5) (zf : BitVec 4) (imm : BitVec 16) (s : State) : Res :=
  .next (aluI t 4 gd ga zf imm (fun a => a ^^^ imm.setWidth 36) s)
def execSlti (t : BitVec 9) (gd ga : BitVec 5) (zf : BitVec 4) (imm : BitVec 16) (s : State) : Res :=
  .next (aluI t 5 gd ga zf imm (fun a => boolWord (a.slt (imm.signExtend 36))) s)
def execSltiu (t : BitVec 9) (gd ga : BitVec 5) (zf : BitVec 4) (imm : BitVec 16) (s : State) : Res :=
  .next (aluI t 6 gd ga zf imm (fun a => boolWord (a.ult (imm.signExtend 36))) s)

/-- LUI: gd := IMM20 << 16. -/
def execLui (t : BitVec 9) (gd zf : BitVec 5) (imm : BitVec 20) (s : State) : Res :=
  .next (issue t { word := encU gd zf imm, illegal := fun _ _ => zf != 0, dsts := [gd]
                   act := fun n s => advance n (setG n gd (imm.setWidth 36 <<< 16) s) } s)

/-! ### Shifts by immediate and bit fields (Table 5.6, R276) -/

/-- A major 8 instruction: gd := f ga gd. -/
def fieldOp (t : BitVec 9) (func : Nat) (gd ga : BitVec 5) (pos len : BitVec 6) (zf : BitVec 2) (bad : Bool)
    (srcs : List (BitVec 5)) (f : Word36 → Word36 → Word36) (s : State) : State :=
  issue t { word := encS gd ga pos len zf func, illegal := fun _ _ => zf != 0 || bad, srcs := srcs, dsts := [gd]
            act := fun n s => advance n (setG n gd (f (regG s n ga) (regG s n gd)) s) } s

/-- SLLI, SRLI, SRAI and ROLI are illegal with POS > 35 or LEN ≠ 0 (R276). -/
def badShift (pos len : BitVec 6) : Bool := decide (35 < pos.toNat) || len != 0
/-- EXTU, EXTS and INS are illegal with LEN = 0 or POS + LEN > 36 (R276). -/
def badField (pos len : BitVec 6) : Bool := len == 0 || decide (36 < pos.toNat + len.toNat)

def execSlli (t : BitVec 9) (gd ga : BitVec 5) (pos len : BitVec 6) (zf : BitVec 2) (s : State) : Res :=
  .next (fieldOp t 0 gd ga pos len zf (badShift pos len) [ga] (fun a _ => a <<< pos.toNat) s)
def execSrli (t : BitVec 9) (gd ga : BitVec 5) (pos len : BitVec 6) (zf : BitVec 2) (s : State) : Res :=
  .next (fieldOp t 1 gd ga pos len zf (badShift pos len) [ga] (fun a _ => a >>> pos.toNat) s)
def execSrai (t : BitVec 9) (gd ga : BitVec 5) (pos len : BitVec 6) (zf : BitVec 2) (s : State) : Res :=
  .next (fieldOp t 2 gd ga pos len zf (badShift pos len) [ga] (fun a _ => a.sshiftRight pos.toNat) s)
def execRoli (t : BitVec 9) (gd ga : BitVec 5) (pos len : BitVec 6) (zf : BitVec 2) (s : State) : Res :=
  .next (fieldOp t 3 gd ga pos len zf (badShift pos len) [ga] (fun a _ => rotl36 a pos.toNat) s)
def execExtu (t : BitVec 9) (gd ga : BitVec 5) (pos len : BitVec 6) (zf : BitVec 2) (s : State) : Res :=
  .next (fieldOp t 4 gd ga pos len zf (badField pos len) [ga]
    (fun a _ => BitVec.ofNat 36 (natBits a.toNat pos.toNat len.toNat)) s)
def execExts (t : BitVec 9) (gd ga : BitVec 5) (pos len : BitVec 6) (zf : BitVec 2) (s : State) : Res :=
  .next (fieldOp t 5 gd ga pos len zf (badField pos len) [ga]
    (fun a _ => BitVec.ofInt 36 (sInt len.toNat (natBits a.toNat pos.toNat len.toNat))) s)

/-- The word `d` with bits [pos + len − 1 : pos] taken from bits [len − 1 : 0] of `a`. -/
def insertField (a d : Word36) (pos len : Nat) : Word36 :=
  let mask := BitVec.ofNat 36 ((2 ^ len - 1) * 2 ^ pos)
  (d &&& ~~~mask) ||| ((a <<< pos) &&& mask)

def execIns (t : BitVec 9) (gd ga : BitVec 5) (pos len : BitVec 6) (zf : BitVec 2) (s : State) : Res :=
  .next (fieldOp t 6 gd ga pos len zf (badField pos len) [ga, gd]
    (fun a d => insertField a d pos.toNat len.toNat) s)

/-! ### Special registers (R273, R312, R760) -/

/-- Is a read of MH or ML a MUL_EARLY (R312)? -/
def mulEarly (s : State) (t n : Nat) : Bool :=
  (n == 5 || n == 6) && !(thr s t).muls.isEmpty && s.cores.mulTrap.getLsbD (clusterOf t)

/-- MFS: gd := special register IMM16[5:0]. -/
def execMfs (t : BitVec 9) (gd ga : BitVec 5) (zf : BitVec 4) (imm : BitVec 16) (s : State) : Res :=
  let n := natBits imm.toNat 0 6
  .next (issue t { word := encI 10 gd ga zf imm, dsts := [gd], specials := [n]
                   illegal := fun _ _ => zf != 0 || ga != 0 || natBits imm.toNat 6 10 != 0 || decide (17 < n)
                   act := fun k s =>
                     if mulEarly s k n then haltThread k 0x0A (encI 10 gd ga zf imm) 0 s
                     else advance k (setG k gd (readSpecial s k n) s) } s)

/-- MTS: special register IMM16[5:0] := ga. -/
def execMts (t : BitVec 9) (gd ga : BitVec 5) (zf : BitVec 4) (imm : BitVec 16) (s : State) : Res :=
  let n := natBits imm.toNat 0 6
  .next (issue t { word := encI 11 gd ga zf imm, srcs := [ga]
                   illegal := fun _ _ => zf != 0 || gd != 0 || natBits imm.toNat 6 10 != 0 || !specialWritable n
                   act := fun k s => advance k (updThr k (writeSpecial n (regG s k ga)) s) } s)

end Sys2Proof.Machine
end

