-- ==== Sys2Proof/Machine/LookupInstr.lean ====
section
/-!
DEFINITION. The lookup instructions of majors 26 and 27 and the lookup engine's own happenings
(05_core_instruction_set.md, Lookup instructions; 07_lookup_engine.md; R304-R307, R382-R384, R400-R402, R413, R418, R421).
-/
namespace Sys2Proof.Machine

/-- Words of a core's data memory from an address. -/
def dmemWords (s : State) (core a n : Nat) : List Word36 := (List.range n).map (fun i => dmemGet s core (a + i))

/-- The operation an LKUP sends to the engine, its operands read at issue. -/
def lookupOp (s : State) (n op : Nat) (gd ga gb : BitVec 5) (async : Bool) (table : Nat) : LkOp :=
  let src := (regG s n ga).toNat
  let k := keyWords s table
  { thread := n, table := table, op := op, key := dmemWords s (coreOf n) src k
    r0 := dmemGet s (coreOf n) (src + k), r1 := dmemGet s (coreOf n) (src + k + 1)
    source := src, result := (regG s n gb).toNat, gd := gd, async := async }

/-- The data-memory words an LKUP reads: the key, and after it the result words of an insert (R304); none where one lies beyond data
memory, for the engine reads nothing then (R383). -/
def keyAddrs (s : State) (n op : Nat) (ga gb : BitVec 5) (table : BitVec 6) : List Nat :=
  let a := (regG s n ga).toNat
  let k := readWords s table.toNat op
  if 32768 < a + k || 32768 < (regG s n gb).toNat + writeWords s table.toNat op then [] else (List.range k).map (a + ·)

/-- The first of them that is uncorrectable (R582). -/
def badKey (s : State) (n op : Nat) (ga gb : BitVec 5) (table : BitVec 6) : Option Nat :=
  (keyAddrs s n op ga gb table).find? (fun a => s.cores.dmemBad.contains (dmemKey (coreOf n) a))

/-- An LKUP goes to the engine: its operands are read and, with A = 1, gd is pending (R287, R305, R579). -/
def sendLookup (n op : Nat) (gd ga gb : BitVec 5) (a : Bool) (table : BitVec 6) (s : State) : State :=
  let s := checkDmem ((keyAddrs s n op ga gb table).map (dmemKey (coreOf n))) (drainStores n s)
  let i := s.lk.nextOp
  let s := updLk (fun l => { l with
    ops := tabPut l.ops i (lookupOp s n op gd ga gb a table.toNat), nextOp := i + 1 }) s
  updThr n (fun x => if !a || gd = 0 then x else { x with pending := tabPut x.pending gd.toNat i }) s

/-- An LKUP of operation `op` (R287, R304-R306): with A = 0 the thread stalls until the status lands; with A = 1 gd is
pending and the thread goes on; a fifth waits until one lands. An uncorrectable word among its operands raises DMEM_ECC (R582). -/
def lkupInstr (t : BitVec 9) (op : Nat) (gd ga gb : BitVec 5) (a : Bool) (table : BitVec 6) (zf : BitVec 6) (s : State) : State :=
  let word := encL gd ga gb a table op zf
  issue t { word := word, illegal := fun _ _ => zf != 0, srcs := [ga, gb], dsts := [gd]
            act := fun n s =>
              if 4 ≤ outstanding s n then stallThread n (.lookupFull op gd ga gb a table) ctrStallLookup s
              else match badKey s n op ga gb table with
              | some w => haltThread n 0x04 word w (noteDmemUe (coreOf n) w s)
              | none =>
                let s := sendLookup n op gd ga gb a table s
                if a then advance n s else stallThread n .lookup ctrStallLookup s } s

/-- LKUP, OP 0: a lookup. -/
def execLkup (t : BitVec 9) (gd ga gb : BitVec 5) (a : Bool) (table : BitVec 6) (zf : BitVec 6) (s : State) : Res :=
  .next (lkupInstr t 0 gd ga gb a table zf s)

/-- LKUP, OP 1: an insert. -/
def execLkupInsert (t : BitVec 9) (gd ga gb : BitVec 5) (a : Bool) (table : BitVec 6) (zf : BitVec 6) (s : State) : Res :=
  .next (lkupInstr t 1 gd ga gb a table zf s)

/-- LKUP, OP 2: a delete. -/
def execLkupDelete (t : BitVec 9) (gd ga gb : BitVec 5) (a : Bool) (table : BitVec 6) (zf : BitVec 6) (s : State) : Res :=
  .next (lkupInstr t 2 gd ga gb a table zf s)

/-- LKWAIT: a long stall until every outstanding lookup of the thread has landed (R305). -/
def execLkwait (t : BitVec 9) (zf : BitVec 30) (s : State) : Res :=
  .next (issue t { word := BitVec.ofNat 36 (27 * 2 ^ 30 + zf.toNat), illegal := fun _ _ => zf != 0
                   act := fun n s => if 0 < outstanding s n then stallThread n .lookupWait ctrStallLookup s else advance n s } s)

/-- A lookup of a thread has landed: the wait it may end (R305, R306, R338). An instruction that stalled on pending registers executes
again; a fifth LKUP goes to the engine, and with A = 0 waits on for its own status. -/
def wakeLookups (t : Nat) (s : State) : State :=
  match (thr s t).stall with
  | .lookupAgain rs => if rs.any (fun r => (tabFind (thr s t).pending r.toNat).isSome) then s else makeReady t s
  | .lookupWait => if outstanding s t = 0 then completeStalled t id s else s
  | .lookupFull op gd ga gb a table =>
    if 4 ≤ outstanding s t then s
    else match badKey s t op ga gb table with
    | some w => stopThread t 0x04 (encL gd ga gb a table op 0) w (noteDmemUe (coreOf t) w s)
    | none =>
      let s := sendLookup t op gd ga gb a table s
      if a then completeStalled t id s else updThr t (fun x => { x with stall := .lookup }) s
  | _ => s

/-- The last lookup that a handler or a reset awaits has landed (R322, Table 6.6). -/
def endAwait (t : Nat) (s : State) : State :=
  if (thr s t).awaiting && !awaitsLookups s t then walk (coreOf t) (updThr t (fun x => { x with awaiting := false }) s) else s

/-- The status of operation number `i` lands in gd (R304, R305); that of a reset thread or of an abandoned wait is discarded (Table
6.6). -/
def landStatus (i : Nat) (o : LkOp) (st : Word36) (s : State) : State :=
  if o.discard then endAwait o.thread s
  else if o.async then
    endAwait o.thread (wakeLookups o.thread (updThr o.thread (fun x =>
      let y := putG o.gd st x
      { y with pending := y.pending.filter (fun p => p.2 != i) }) s))
  else completeStalled o.thread (putG o.gd st) s

/-- An operation as the engine reads it from its queue: of one that fails parity in a learning queue, the words are open (R416; log entry
122). -/
def opSeen (s : State) (o : LkOp) : LkOp :=
  let w := fun i => BitVec.ofNat 36 (Config.free (s.fresh + i))
  if o.bad then { o with bad := false, key := (List.range o.key.length).map (fun i => w (2 + i)), r0 := w 0, r1 := w 1 } else o

/-- A word of a queue or record that fails parity is reported (LOOKUP_FLAGS.PARITY of Table 7.12). -/
def noteOp (o : LkOp) (s : State) : State :=
  if o.bad then { setFlag 0x500 0 s with fresh := s.fresh + 2 + o.key.length } else s

/-- An operation ends: it writes its result words, then its status word (R307). -/
def completeLookup (p : Nat × LkOp) (s : State) : State :=
  let r := runLookup (opSeen s p.2) (noteOp p.2 (updLk (fun l => { l with ops := tabErase l.ops p.1 }) s))
  landStatus p.1 p.2 r.1.status (dmemPuts (coreOf p.2.thread) p.2.result r.1.words r.2)

/-- Do two operations on one table reach one bucket (R384; log entry 125)? -/
def shareBucket (s : State) (t : Nat) (k l : List Word36) : Bool :=
  let a := keyBuckets (tableOf s t) k
  let b := keyBuckets (tableOf s t) l
  decide (t ≤ 16) && (a.1 == b.1 || a.1 == b.2 || a.2 == b.1 || a.2 == b.2)

/-- Must an operation be applied before a later one: both of one thread, or of one bucket (R384, R397)? -/
def mustPrecede (s : State) (a b : LkOp) : Bool :=
  a.table == b.table && (a.thread == b.thread || shareBucket s a.table a.key b.key)

/-- The spans of DRAM that an operation on the flow table reads: its buckets that no frame holds (R404). -/
def opSpans (s : State) (o : LkOp) : List (Nat × Nat) :=
  let b := keyBuckets (tableOf s o.table) o.key
  if o.table ≠ 16 then [] else ([b.1, b.2].filter (fun i => (tabFind s.lk.frames i).isNone)).map (fun i => (flowAddr s i, 256))

/-- LOOKUP_COMPLETE: the outstanding operation at a place of the engine's list ends, unless one that precedes it under R384 is still
outstanding, or its bucket's controller is in self-refresh (R561). -/
def execLookupComplete (index : Nat) (s : State) : Res :=
  .next (match s.lk.ops[index]? with
    | none => s
    | some p => if (s.lk.ops.take index).any (fun q => mustPrecede s q.2 p.2) then s else whenAwake (opSpans s p.2) (completeLookup p) s)

/-- The operations outstanding that a host's operation on a key comes after: those of its buckets, and what precedes them (R384). -/
def aheadOf (s : State) (t : Nat) (k : List Word36) : List (Nat × LkOp) :=
  s.lk.ops.foldr (fun p acc =>
    if (p.2.table == t && shareBucket s t p.2.key k) || acc.any (fun q => mustPrecede s p.2 q.2) then p :: acc else acc) []

/-- Apply the operations that arrived before a host's operation on a key and reach its buckets (R384). -/
def applyAhead (t : Nat) (k : List Word36) (s : State) : State := (aheadOf s t k).foldl (fun a p => completeLookup p a) s

/-- A pin ends: PINNED is cleared, the flap record freed, and it is reported (R400). -/
def unpin (f : FlapRecord) (s : State) : State :=
  let s := dropFlap f.table f.key s
  let b := keyBuckets (tableOf s f.table) f.key
  let s := (openBuckets f.table b.1 b.2 s).2
  match findKey s f.table b.1 b.2 f.key with
  | none => s
  | some i => match entryAt s f.table i with
    | none => s
    | some e => notice 4 f.table i e.key (e.r0, e.r1) (0, 0)
        (raise 264 [(f.table, 8), (i, 32)] (putEntry f.table i { e with pinned := false } s))

/-- UNPIN: at the pin's end sheet the entry is unpinned (R400). -/
def execUnpin (record : Nat) (s : State) : Res :=
  .next (match s.lk.flaps[record]? with
    | none => s
    | some f =>
      let a := noteFlap (some f) s
      match (flapSeen s f).pinEnd with
      | none => a
      | some e => if (s.sh.sheet - e).toNat < 2 ^ 47 then unpin f a else a)

/-- The indices of a table's entries that are valid. -/
def tableEntries (s : State) (t : Nat) : List Nat :=
  (List.range (4 * (tableOf s t).buckets)).filter (fun i => (entryAt s t i).isSome || entryBad s t i)

/-- Is an entry old enough to be deleted (R402)? -/
def agedOut (s : State) (t : Nat) (e : LkEntry) : Bool :=
  e.learned && !e.static && !e.pinned && decide ((tableOf s t).ageLimit ≤ (ageNow s - e.age).toNat)

/-- Free the unpinned flap records of a table whose window has ended (R401). -/
def scanFlaps (t : Nat) (s : State) : State :=
  let mine := s.lk.flaps.filter (fun f => f.table == t)
  let ended := fun f => f.table == t && (flapSeen s f).pinEnd.isNone &&
    decide ((tableOf s t).moveWindow ≤ (s.sh.sheet - (flapSeen s f).start).toNat)
  noteFlap (mine.find? (·.bad)) (updLk (fun l => { l with flaps := l.flaps.filter (fun f => !ended f) }) s)

/-- AGE_OUT: one scan of an exact-match table: flap records whose window has ended are freed, and on a LEARN table that ages bad entries
are invalidated and old ones deleted (R401, R402, R418). -/
def execAgeOut (table : BitVec 5) (s : State) : Res :=
  let t := table.toNat
  let x := tableOf s t
  .next (
    if 15 < t then s
    else
      let s := scanFlaps t s
      if !x.configured || !x.learn || x.ageLimit = 0 then s
      else
        let is := tableEntries s t
        let s := (is.filter (entryBad s t)).foldl (dropBad t) s
        is.foldl (fun a i => match entryAt a t i with
          | some e => if agedOut a t e then removeEntry t i e (lkCount t 15 1 a) else a
          | none => a) s)

/-- NODE_RECLAIM: replaced nodes and released results return to free memory once no trie lookup is outstanding (R413). -/
def execNodeReclaim (s : State) : Res :=
  .next (if trieBusy s then s else reclaimNodes s)

/-- Put a static entry back from its shadow; bad entries met in its buckets are invalidated (R418). -/
def rewriteEntry (t i : Nat) (e : LkEntry) (s : State) : State :=
  let b := keyBuckets (tableOf s t) e.key
  let s := ((openBuckets t b.1 b.2 s).2)
  if (findKey s t b.1 b.2 e.key).isSome then s
  else if (entryAt s t i).isNone then putEntry t i e s
  else (insertNew t e s).2

/-- The place of a trie's memory has good parity again: a result (place 7), or the word of a node entry (R421). -/
def rewritePlace (place i : Nat) (s : State) : State :=
  updLk (fun l => if place = 7 then { l with resultBad := l.resultBad.filter (· != i) }
    else { l with nodeBad := l.nodeBad.filter (· != i / 2) }) s

/-- SHADOW_REWRITE: the firmware rewrites an entry from its shadow (R418, R421). -/
def execShadowRewrite (index : Nat) (s : State) : Res :=
  .next (match s.lk.rewrites[index]? with
    | none => s
    | some w =>
      let s := updLk (fun l => { l with rewrites := l.rewrites.eraseIdx index }) s
      raise 267 [] (lkDevice 6 1 (match w with
        | .entry t i e => rewriteEntry t i e s
        | .trie _ place i => rewritePlace place i s)))

end Sys2Proof.Machine
end

