-- ==== Sys2Proof/Machine/LookupCmd.lean ====
section
/-!
DEFINITION. Commands 0x06xx (07_lookup_engine.md, Table 7.17; R386, R395, R397, R400, R407, R410-R415, R425).
-/
namespace Sys2Proof.Machine

/-- The payload's 5-byte words from an offset. -/
def cmdWords (p : List Byte) (off n : Nat) : List Word36 := (List.range n).map (fun i => BitVec.ofNat 36 (leAt p (off + 5 * i) 5))

/-- Are bits [39:36] of the payload's 5-byte words zero? -/
def wordsOk (p : List Byte) (off n : Nat) : Nat × Bool :=
  (off, (List.range n).all (fun i => decide (leAt p (off + 5 * i) 5 < 2 ^ 36)))

/-- A KEY field of `n` words, those beyond the table's KEY_WORDS zero (R425). -/
def keyOk (s : State) (p : List Byte) (off n : Nat) : List (Nat × Bool) :=
  [wordsOk p off n, (off, ((cmdWords p off n).drop (tableOf s (leAt p 0 1)).keyWords).all (· == 0))]

/-- The key a command names. -/
def cmdKey (s : State) (p : List Byte) : List Word36 := cmdWords p 4 (tableOf s (leAt p 0 1)).keyWords

/-- Do the buckets of an exact-match table overlap another configured table's (R386)? -/
def bucketsOverlap (s : State) (t base n : Nat) : Bool :=
  s.lk.tables.any (fun q => decide (q.1 < 16) && q.1 != t && q.2.configured &&
    decide (q.2.base < base + n) && decide (base < q.2.base + q.2.buckets))

/-- The LFSR value a seed gives (R395). -/
def lfsrSeed (v : Nat) : BitVec 32 := if v = 0 then 1 else BitVec.ofNat 32 v

/-- EM_TABLE_CONFIG. -/
def emTableConfig : CmdSpec :=
  { op := 0x0601, fixed := 20
    checks := fun s p =>
      let base := leAt p 4 4
      let n := leAt p 8 4
      let sized := isPow2 n && decide (256 ≤ n) && decide (n ≤ 65536)
      [inRange p 0 1 0 15, inRange p 1 1 1 4, inRange p 2 1 0 7, rsv p 3 1,
       (4, !sized || (base % n == 0 && decide (base + n ≤ 65536) && !bucketsOverlap s (leAt p 0 1) base n)), (8, sized)]
    body := fun s _ p =>
      let t := leAt p 0 1
      if (tableOf s t).enabled then refuse s 0x03
      else okCmd (updTable t (fun x => { x with
        configured := true, keyWords := leAt p 1 1, programWrite := natBit (leAt p 2 1) 0, learn := natBit (leAt p 2 1) 1
        evictOldest := natBit (leAt p 2 1) 2, base := leAt p 4 4, buckets := leAt p 8 4, seed0 := BitVec.ofNat 32 (leAt p 12 4)
        seed1 := BitVec.ofNat 32 (leAt p 16 4), lfsr := lfsrSeed (leAt p 12 4) }) (dropRewrites t (fun _ => true) s)) }

/-- Zero bytes of DRAM. -/
def dramZero (a n : Nat) (s : State) : State :=
  let open' := fun (k : Nat) => decide (a ≤ k) && decide (k < a + n) && !lineClosed s (k / 64)
  noteAccess 2 true a n { s with dram := { s.dram with
    mem := s.dram.mem.filter (fun c => !open' c.1), poison := s.dram.poison.filter (fun l => !open' (64 * l.1)) } }

/-- Drop every cached flow bucket. -/
def dropFrames (s : State) : State := updLk (fun l => { l with frames := [], frameBad := [], lru := [] }) s

/-- Clear a table: its entries, their parity marks and its flap records (R407). -/
def clearTable (t : Nat) (s : State) : State :=
  let x := tableOf s t
  let s := dropRewrites t (fun _ => true) (updLk (fun l => { l with flaps := l.flaps.filter (fun f => f.table != t) }) s)
  if t = 16 then dramZero x.extBase (256 * x.extContexts) (dramZero x.base (256 * x.buckets) s)
  else updLk (fun l => { l with
    entries := tabClear l.entries (4 * x.base) (4 * x.buckets)
    bad := l.bad.filter (fun i => !(decide (4 * x.base ≤ i) && decide (i < 4 * (x.base + x.buckets)))) }) s

/-- TABLE_ENABLE. -/
def tableEnable : CmdSpec :=
  { op := 0x0602, fixed := 2, checks := fun _ p => [inRange p 0 1 0 16, inRange p 1 1 0 2]
    body := fun s _ p =>
      let t := leAt p 0 1
      if !(tableOf s t).configured then refuse s 0x03
      else
        let s := if leAt p 1 1 = 2 then clearTable t s else s
        let s := if t = 16 && leAt p 1 1 != 0 then dropFrames s else s
        okCmd (updTable t (fun x => { x with enabled := leAt p 1 1 != 0 }) s) }

/-- LEARN_CONFIG. -/
def learnConfig : CmdSpec :=
  { op := 0x0603, fixed := 12
    checks := fun _ p => [inRange p 0 1 0 15, inRange p 1 1 1 15, inRange p 2 2 0 32767, inRange p 4 4 1 16777215,
      inRange p 8 4 1 268435455]
    body := okState (fun s p => updTable (leAt p 0 1) (fun x => { x with
      moveLimit := leAt p 1 1, ageLimit := leAt p 2 2, moveWindow := leAt p 4 4, hold := leAt p 8 4 }) s) }

/-- FLOW_TABLE_CONFIG. -/
def flowTableConfig : CmdSpec :=
  { op := 0x0604, fixed := 36
    checks := fun s p =>
      let n := leAt p 4 4
      let sized := isPow2 n && decide (1024 ≤ n) && decide (n ≤ 262144)
      [inRange p 0 1 1 9, (1, leAt p 1 1 == 0 || leAt p 1 1 == 1 || leAt p 1 1 == 4 || leAt p 1 1 == 5), rsv p 2 2, (4, sized),
       (8, leAt p 8 8 % 4096 == 0 && (!sized || decide (leAt p 8 8 + 256 * n ≤ dramInstalled s))),
       (24, leAt p 24 8 % 4096 == 0 && (leAt p 32 4 == 0 || decide (leAt p 24 8 + 256 * leAt p 32 4 ≤ dramInstalled s))),
       inRange p 32 4 0 4194304]
    body := fun s _ p =>
      if (tableOf s 16).enabled then refuse s 0x03
      else okCmd (updTable 16 (fun x => { x with
        configured := true, keyWords := leAt p 0 1, programWrite := natBit (leAt p 1 1) 0, evictOldest := natBit (leAt p 1 1) 2
        buckets := leAt p 4 4, base := leAt p 8 8, seed0 := BitVec.ofNat 32 (leAt p 16 4), seed1 := BitVec.ofNat 32 (leAt p 20 4)
        lfsr := lfsrSeed (leAt p 16 4), extBase := leAt p 24 8, extContexts := leAt p 32 4 }) (dropFrames (dropRewrites 16 (fun _ => true) s))) }

/-- The status word and result words of an answer, as 5 bytes each. -/
def answerBytes (a : LkAnswer) (n : Nat) : List Byte := word5 a.status ++ ((a.words ++ [0, 0]).take n).flatMap word5

/-- The checks and the state check of the three entry commands. -/
def entryCmd (op fixed : Nat) (more : List Byte → List (Nat × Bool)) (run : State → List Byte → LkAnswer × State) (words : Nat) :
    CmdSpec :=
  { op := op, fixed := fixed, checks := fun s p => [inRange p 0 1 0 16] ++ more p ++ keyOk s p 4 9
    body := fun s _ p =>
      if !((tableOf s (leAt p 0 1)).configured && (tableOf s (leAt p 0 1)).enabled) then refuse s 0x03
      else
        let r := run (applyAhead (leAt p 0 1) (cmdKey s p) s) p
        okCmd r.2 (answerBytes r.1 words) }

/-- ENTRY_WRITE: an insert under R391. -/
def entryWrite : CmdSpec :=
  entryCmd 0x0610 59 (fun p => [inRange p 1 1 0 1, rsv p 2 2, wordsOk p 49 2])
    (fun s p => plainInsert (leAt p 0 1) (cmdKey s p) (BitVec.ofNat 36 (leAt p 49 5)) (BitVec.ofNat 36 (leAt p 54 5)) (leAt p 1 1 == 1) s) 0

/-- ENTRY_DELETE. -/
def entryDelete : CmdSpec :=
  entryCmd 0x0611 49 (fun p => [rsv p 1 3]) (fun s p => deleteEntry (leAt p 0 1) (cmdKey s p) s) 0

/-- ENTRY_LOOKUP. -/
def entryLookup : CmdSpec :=
  entryCmd 0x0612 49 (fun p => [rsv p 1 3]) (fun s p => lookupEntry (leAt p 0 1) (cmdKey s p) s) 2

/-- ENTRY_READ: an entry that is not valid reads as zero. -/
def entryRead : CmdSpec :=
  { op := 0x0613, fixed := 8
    checks := fun s p => [inRange p 0 1 0 16, rsv p 1 3, (4, decide (leAt p 4 4 < 4 * (tableOf s (leAt p 0 1)).buckets))]
    body := fun s _ p =>
      let t := leAt p 0 1
      let i := leAt p 4 4
      let s := if t = 16 then checkFrame (i / 4) s else s
      let s := if entryBad s t i then dropBad t s i else s
      okCmd s (match entryAt s t i with
        | none => zeros 64
        | some e => ((e.key ++ List.replicate 9 0).take 9).flatMap word5 ++ word5 e.r0 ++ word5 e.r1 ++
            layout [(packNat [(e.table.toNat, 4), (b2n e.pinned, 1), (b2n e.learned, 1), (b2n e.static, 1), (1, 1)], 1),
              (e.age.toNat, 2)] ++ zeros 6) }

/-- Does TABLE_FLUSH remove the entry? -/
def flushes (p : List Byte) (e : LkEntry) : Bool :=
  let m := fun off (w : Word36) =>
    w &&& BitVec.ofNat 36 (leAt p (off + 10) 5) == BitVec.ofNat 36 (leAt p off 5) &&& BitVec.ofNat 36 (leAt p (off + 10) 5)
  match leAt p 1 1 with
  | 0 => !e.static
  | 1 => true
  | _ => e.learned && m 4 e.r0 && m 9 e.r1

/-- TABLE_FLUSH. -/
def tableFlush : CmdSpec :=
  { op := 0x0614, fixed := 24, checks := fun _ p => [inRange p 0 1 0 16, inRange p 1 1 0 2, rsv p 2 2, wordsOk p 4 2, wordsOk p 14 2]
    body := fun s _ p =>
      let t := leAt p 0 1
      let s := if t = 16 then s.lk.frameBad.foldl (fun a b => checkFrame b a) s else s
      let is := tableEntries s t
      let r := is.foldl (fun (a : Nat × State) i => match entryAt a.2 t i with
        | some e => if flushes p e then (a.1 + 1, removeEntry t i e a.2) else a
        | none => a) (0, (is.filter (entryBad s t)).foldl (dropBad t) s)
      okCmd (dropRewrites t (flushes p) r.2) (leBytes 4 r.1) }

/-- FLAP_RELEASE (R400). -/
def flapRelease : CmdSpec :=
  { op := 0x0615, fixed := 24, checks := fun s p => [inRange p 0 1 0 15, rsv p 1 3] ++ keyOk s p 4 4
    body := fun s _ p =>
      match flapOf s (leAt p 0 1) (cmdKey s p) with
      | some f =>
        let a := noteFlap (some f) s
        if (flapSeen s f).pinEnd.isSome then okCmd (unpin f a) else refuse a 0x03
      | none => refuse s 0x03 }

/-! ### Tries -/

/-- A trie number 32 to 43 at payload offset 0. -/
def trieNo (p : List Byte) : Nat × Bool := inRange p 0 1 32 43

/-- Free node entries beyond the reserve (R410). -/
def freeNodes (s : State) : Nat := nodeRoom - nodesUsed s

/-- Entries of node memory written anew have good parity (R421). -/
def renewNodes (b n : Nat) (s : State) : State :=
  updLk (fun l => { l with nodeBad := l.nodeBad.filter (fun w => decide (2 * w + 2 ≤ b) || decide (b + n ≤ 2 * w)) }) s

/-- TRIE_CONFIG. -/
def trieConfig : CmdSpec :=
  { op := 0x0620, fixed := 2, checks := fun _ p => [trieNo p, inRange p 1 1 0 1]
    body := fun s _ p =>
      let t := leAt p 0 1
      let x := trieOf s t
      if leAt p 1 1 = 0 then
        let s := dropTrie t s
        okCmd s (leBytes 4 (freeNodes s))
      else if x.enabled then okCmd s (leBytes 4 (freeNodes s))
      else match (if nodeRoom < nodesUsed s + rootSize t then none else freeBlock (usedBlocks s) (rootSize t)) with
        | none => refuse s 0x06
        | some b =>
          let s := setTrie t { x with enabled := true, nodes := [{ depth := 0, path := 0, base := b }] } (renewNodes b (rootSize t) s)
          okCmd s (leBytes 4 (freeNodes s)) }

/-- The address in 16 payload bytes: 4 or 16 of them, most significant first. -/
def trieAddress (t : Nat) (p : List Byte) : Nat := beNat (bytesAt p 4 (trieBits t / 8))

/-- The checks of a prefix (R425): its bits beyond PLEN, and the bytes beyond an IPv4 prefix, are zero. -/
def prefixOk (p : List Byte) : List (Nat × Bool) :=
  let t := leAt p 0 1
  let w := trieBits t
  [trieNo p, inRange p 1 1 0 w, rsv p 2 2,
   (4, trieAddress t p % 2 ^ (w - leAt p 1 1) == 0 && (bytesAt p (4 + w / 8) (16 - w / 8)).all (· == 0))]

/-- The firmware waits for the outstanding trie lookups where a change of routes needs the node memory that they hold (R411, R413; log entry
124). -/
def awaitTries (t : Nat) (new : List Route) (s : State) : State :=
  if (builtNodes t new s).isSome then s
  else reclaimNodes ((s.lk.ops.filter (fun p => decide (32 ≤ p.2.table))).foldl (fun a p => completeLookup p a) s)

/-- Would a route break a limit of R415? The nodes it adds stand outside the reserve, which holds the copies. -/
def noRouteSpace (s : State) (t : Nat) (r : Route) : Bool :=
  let rs := (trieOf s t).routes
  let qs := (builtPaths t (rs ++ [r]) s).filter (fun q => !needsNode t rs q.1 q.2)
  decide (786432 < unitsUsed s + (if t < 40 then 1 else 4)) ||
  decide (nodeRoom < nodesUsed s + (qs.map (fun q => nodeSize t q.1)).foldl (· + ·) 0) ||
  (builtNodes t (rs ++ [r]) s).isNone ||
  (decide (64 < r.plen) && decide (8 ≤ (rs.filter (fun q => decide (64 < q.plen) && samePrefix 128 64 q.prefixBits r.prefixBits)).length))

/-- The route of a prefix, if present. -/
def routeOf (s : State) (t n a : Nat) : Option Route := (trieOf s t).routes.find? (fun r => r.plen == n && r.prefixBits == a)

/-- Write a route result. -/
def putResult (i : Nat) (v : Word36 × Word36) (s : State) : State :=
  updLk (fun l => { l with results := tabPut l.results i v, resultBad := l.resultBad.filter (· != i) }) s

/-- ROUTE_ADD (R411, R412, R415). -/
def routeAdd : CmdSpec :=
  { op := 0x0621, fixed := 30, checks := fun _ p => prefixOk p ++ [wordsOk p 20 2, (20, decide (leAt p 25 5 < 2 ^ 28))]
    body := fun s _ p =>
      let t := leAt p 0 1
      let v := (BitVec.ofNat 36 (leAt p 20 5), BitVec.ofNat 36 (leAt p 25 5))
      if !(trieOf s t).enabled then refuse s 0x03
      else match routeOf s t (leAt p 1 1) (trieAddress t p) with
        | some r => okCmd (lkDevice 7 1 (putResult r.index v s)) (layout [(r.index, 4), (1, 1)])
        | none =>
          let r : Route := { prefixBits := trieAddress t p, plen := leAt p 1 1, index := freeResult s }
          let s := awaitTries t ((trieOf s t).routes ++ [r]) s
          if noRouteSpace s t r then refuse s 0x06
          else okCmd (lkDevice 7 1 (putResult r.index v (changeRoutes t ((trieOf s t).routes ++ [r]) s))) (layout [(r.index, 4), (0, 1)]) }

/-- ROUTE_DELETE (R411-R413); NO_SPACE where node memory has no room for the copies (log entry 124). -/
def routeDelete : CmdSpec :=
  { op := 0x0622, fixed := 20, checks := fun _ p => prefixOk p
    body := fun s _ p =>
      let t := leAt p 0 1
      let rs := (trieOf s t).routes
      if !(trieOf s t).enabled then refuse s 0x03
      else match routeOf s t (leAt p 1 1) (trieAddress t p) with
        | none => refuse s 0x07
        | some r =>
          let new := rs.filter (fun q => q != r)
          let s := awaitTries t new s
          if (builtNodes t new s).isNone then refuse s 0x06
          else okCmd (lkDevice 7 1 (updLk (fun l => { l with staleResults := l.staleResults ++ [r.index] })
            (changeRoutes t new s))) }

/-- ROUTE_LOOKUP. -/
def routeLookup : CmdSpec :=
  { op := 0x0623, fixed := 20, checks := fun _ p => [trieNo p, rsv p 1 3]
    body := fun s _ p =>
      let t := leAt p 0 1
      if !(trieOf s t).enabled then refuse s 0x03
      else
        let r := lookupTrie t (trieAddress t p) s
        okCmd r.2 (answerBytes r.1 2) }

/-- TRIE_STATUS. -/
def trieStatus : CmdSpec :=
  { op := 0x0624
    body := okReply (fun s _ => layout [(unitsUsed s, 4), (freeNodes s, 4),
      (packNat ((List.range 12).map (fun i => (b2n (trieOf s (32 + i)).enabled, 1))), 2)]) }

/-- The first `n` notices as they are read: one that fails parity has open bytes (R416; log entry 122). -/
def noticesSeen (s : State) (n : Nat) : List (List Byte) :=
  ((s.lk.notices.take n).zipIdx).map (fun p => if s.lk.noticeBad.contains p.2 then leBytes 64 (Config.free (s.fresh + p.2)) else p.1)

/-- The first `n` notices leave the queue; one that fails parity is reported (LOOKUP_FLAGS.PARITY of Table 7.12). -/
def takeNotices (n : Nat) (s : State) : State :=
  let s := if s.lk.noticeBad.any (fun i => decide (i < n)) then setFlag 0x500 0 { s with fresh := s.fresh + n } else s
  updLk (fun l => { l with
    notices := l.notices.drop n, noticeBad := (l.noticeBad.filter (fun i => decide (n ≤ i))).map (· - n) }) s

/-- NOTICE_READ: up to MAX notices, oldest first, leave the queue. -/
def noticeRead : CmdSpec :=
  { op := 0x0630, fixed := 1, checks := fun _ p => [inRange p 0 1 1 3]
    body := fun s _ p =>
      let ns := noticesSeen s (leAt p 0 1)
      okCmd (takeNotices (leAt p 0 1) s) (leBytes 1 ns.length ++ zeros 15 ++ ns.flatten) }

/-- LOOKUP_COUNTERS. -/
def lookupCounters : CmdSpec :=
  { op := 0x0631, fixed := 2
    checks := fun _ p => [(0, decide (leAt p 0 1 ≤ 16) || (decide (32 ≤ leAt p 0 1) && decide (leAt p 0 1 ≤ 43)) || leAt p 0 1 == 255),
      inRange p 1 1 0 1]
    body := counterBody .lookup (fun p => leAt p 0 1) 1 16 }

/-! ### Happenings -/

def execEmTableConfig (m : BitVec 4) (s : State) : Res := .next (runCmd emTableConfig m s)
def execTableEnable (m : BitVec 4) (s : State) : Res := .next (runCmd tableEnable m s)
def execLearnConfig (m : BitVec 4) (s : State) : Res := .next (runCmd learnConfig m s)
def execFlowTableConfig (m : BitVec 4) (s : State) : Res := .next (runCmd flowTableConfig m s)
def execEntryWrite (m : BitVec 4) (s : State) : Res := .next (runCmd entryWrite m s)
def execEntryDelete (m : BitVec 4) (s : State) : Res := .next (runCmd entryDelete m s)
def execEntryLookup (m : BitVec 4) (s : State) : Res := .next (runCmd entryLookup m s)
def execEntryRead (m : BitVec 4) (s : State) : Res := .next (runCmd entryRead m s)
def execTableFlush (m : BitVec 4) (s : State) : Res := .next (runCmd tableFlush m s)
def execFlapRelease (m : BitVec 4) (s : State) : Res := .next (runCmd flapRelease m s)
def execTrieConfig (m : BitVec 4) (s : State) : Res := .next (runCmd trieConfig m s)
def execRouteAdd (m : BitVec 4) (s : State) : Res := .next (runCmd routeAdd m s)
def execRouteDelete (m : BitVec 4) (s : State) : Res := .next (runCmd routeDelete m s)
def execRouteLookup (m : BitVec 4) (s : State) : Res := .next (runCmd routeLookup m s)
def execTrieStatus (m : BitVec 4) (s : State) : Res := .next (runCmd trieStatus m s)
def execNoticeRead (m : BitVec 4) (s : State) : Res := .next (runCmd noticeRead m s)
def execLookupCounters (m : BitVec 4) (s : State) : Res := .next (runCmd lookupCounters m s)

end Sys2Proof.Machine
end

