-- ==== Sys2Proof/Machine/MemoryInstr.lean ====
section
/-!
DEFINITION. Memory instructions over the four spaces (05_core_instruction_set.md, Core address map, Memory
instructions and addressing modes; R280-R295).
-/
namespace Sys2Proof.Machine

/-- A memory instruction, its addressing decoded: what `act` does with the thread, the effective address and the value
to write back to ga. -/
def memInstr (t : BitVec 9) (major : Nat) (pkt store : Bool) (gt ga : BitVec 5) (w mode : BitVec 2) (md : BitVec 16)
    (illegal : Bool) (act : Nat → Nat → Option Word36 → ModeField → Word36 → State → State) (s : State) : State :=
  let f := modeField pkt mode md
  let word := encM major gt ga w mode md
  let regs := modeRegs ga mode f
  issue t { word := word, illegal := fun s n => illegal || modeIllegal (thr s n) mode f
            srcs := if store then gt :: regs else regs
            specials := modeSpecials pkt mode f
            dsts := (if store then [] else [gt]) ++ (if decide (2 ≤ mode.toNat) then [ga] else [])
            act := fun n s =>
              let e := effAddr (thr s n) ga mode f
              act n e.1.toNat e.2 f word s } s

/-- A load completes: gt receives the value, then ga its update (R289). -/
def loadDone (t : Nat) (gt ga : BitVec 5) (v : Word36) (wb : Option Word36) (s : State) : State :=
  advance t (updThr t (fun x => writeBack ga wb (putG gt v x)) s)

/-- A store completes: ga receives its update (R289). -/
def storeDone (t : Nat) (ga : BitVec 5) (wb : Option Word36) (s : State) : State :=
  advance t (updThr t (writeBack ga wb) s)

/-- Does a load from poisoned lines raise POISON (R295)? -/
def poisonStops (s : State) (t : Nat) (bad : Bool) : Bool := bad && !(thr s t).psnmask

/-- Deliver loaded octets, setting PSN where they came from a poisoned line under PSNMASK (R291, R295). -/
def octetDone (t : Nat) (gt ga : BitVec 5) (bs : List Byte) (bad : Bool) (wb : Option Word36) (s : State) : State :=
  let s := if bad then updThr t (fun x => { x with psn := true }) s else s
  loadDone t gt ga (octetValue bs) wb s

/-! ### Data memory -/

/-- LDW: gt := word ea of the core's data memory. -/
def execLdw (t : BitVec 9) (gt ga : BitVec 5) (w mode : BitVec 2) (md : BitVec 16) (s : State) : Res :=
  .next (memInstr t 16 false false gt ga w mode md (w != 0) (fun n ea wb _ word s =>
    if 32767 < ea then haltThread n 0x05 word ea s
    else if s.cores.dmemBad.contains (dmemKey (coreOf n) ea) then haltThread n 0x04 word ea (noteDmemUe (coreOf n) ea s)
    else loadDone n gt ga (dmemGet s (coreOf n) ea) wb (checkDmem [dmemKey (coreOf n) ea] s)) s)

/-- STW: word ea of the core's data memory := gt. -/
def execStw (t : BitVec 9) (gt ga : BitVec 5) (w mode : BitVec 2) (md : BitVec 16) (s : State) : Res :=
  .next (memInstr t 17 false true gt ga w mode md (w != 0) (fun n ea wb _ word s =>
    if 32767 < ea then haltThread n 0x05 word ea s
    else storeDone n ga wb (dmemStore (coreOf n) ea [regG s n gt] s)) s)

/-! ### Packet memory -/

/-- The handle a packet access selects. -/
def selHandle (s : State) (t : Nat) (f : ModeField) : HandleWord := getHnd (thr s t) f.hsel

/-- DETAIL of PACKET_ACCESS and POISON (Table 6.5). -/
def pktDetail (f : ModeField) (ea : Nat) : Nat := f.hsel * 2 ^ 28 + ea % 2 ^ 14

/-- Does a packet access raise PACKET_ACCESS (R292)? -/
def pktBad (s : State) (t : Nat) (h : HandleWord) (ea n limit : Nat) : Bool :=
  staleHandle s h || decide (limit < ea + n) || (thr s t).terminated

/-- Count an access with a stale or null handle (R158). -/
def pktNote (s : State) (h : HandleWord) : State := if staleHandle s h then noteStale s else s

/-- LDP: gt := W + 1 octets of the selected handle; a long stall from a spilled handle (R293, R160). -/
def execLdp (t : BitVec 9) (gt ga : BitVec 5) (w mode : BitVec 2) (md : BitVec 16) (s : State) : Res :=
  .next (memInstr t 18 true false gt ga w mode md false (fun n ea wb f word s =>
    let h := selHandle s n f
    let k := w.toNat + 1
    if pktBad s n h ea k 16384 then haltThread n 0x06 word (pktDetail f ea) (pktNote s h)
    else
      let s := checkVat (hIndex h) ea k (drainStores n s)
      let x := handleOf s (hIndex h)
      if x.spilled && decide (ea < 16352) then
        stallThread n (.dram gt ga k wb (some (hIndex h)) ea (f.hsel * 2 ^ 28 + ea % 2 ^ 14) word) ctrStallDram s
      else if poisonStops s n (pktPoisoned s x ea k) then haltThread n 0x09 word (pktDetail f ea) s
      else octetDone n gt ga (pktRead s x ea k) (pktPoisoned s x ea k) wb s) s)

/-- A store to packet space whose slots hold cells enters the store buffer (R294). -/
def storePacket (n : Nat) (gt ga : BitVec 5) (h : HandleWord) (ea k : Nat) (wb : Option Word36) (s : State) : State :=
  storeDone n ga wb (pushStore n { space := 0, object := h.toNat, address := ea, bytes := octetBytes k (regG s n gt) } s)

/-- Has the index of a handle been released, with no new handle there yet? A growth cell has no owner then (log
entry 17). -/
def noGrowth (s : State) (h : HandleWord) (slots : List Nat) : Bool :=
  decide ((handleOf s (hIndex h)).kind = .free) && !slots.isEmpty

/-- STP: W + 1 octets of the selected handle := gt; a slot without a cell is given one first, or the thread waits at its
drawer (R162, R193). -/
def execStp (t : BitVec 9) (gt ga : BitVec 5) (w mode : BitVec 2) (md : BitVec 16) (s : State) : Res :=
  .next (settleVoided t.toNat s (memInstr t 19 true true gt ga w mode md false (fun n ea wb f word => stamped n (fun s =>
    let h := selHandle s n f
    let k := w.toNat + 1
    let x := handleOf s (hIndex h)
    let slots := missingSlots x ea k
    if pktBad s n h ea k 16352 || noGrowth s h slots then haltThread n 0x06 word (pktDetail f ea) (pktNote s h)
    else if slots.isEmpty then storePacket n gt ga h ea k wb s
    else
      let b := threadBank s n
      let r := if (drawerWaiters s x.drawer).isEmpty then readyGrow b x slots.length s else (false, s)
      if r.1 then storePacket n gt ga h ea k wb (progress (waitsDrawer x.drawer) (grow b (hIndex h) slots r.2))
      else stallThread n (.drawer x.drawer slots.length (.store gt ga w mode md) word) ctrStallDrawer
        (joinDrawer x.drawer n r.2))) s))

/-! ### Flow context -/

/-- Does a context access raise CONTEXT_RANGE (R282)? A thread without an item reaches no context (log entry 18). -/
def ctxBad (s : State) (t ea n : Nat) : Bool :=
  match (thr s t).ctx with
  | none => true
  | some c => decide (256 < ea + n) || decide (residentCore s c.toNat ≠ some (coreOf t))

/-- The context of a thread's item. -/
def ctxOf (s : State) (t : Nat) : Nat := match (thr s t).ctx with | some c => c.toNat | none => 0

/-- LDC: gt := W + 1 octets of the item's context. -/
def execLdc (t : BitVec 9) (gt ga : BitVec 5) (w mode : BitVec 2) (md : BitVec 16) (s : State) : Res :=
  .next (memInstr t 20 false false gt ga w mode md false (fun n ea wb _ word s =>
    let k := w.toNat + 1
    if ctxBad s n ea k then haltThread n 0x07 word ea s
    else
      let s := checkCtx (ctxOf s n) ea k (ctxTouch (ctxOf s n) (drainStores n s))
      let bad := ctxPoisoned s (ctxOf s n) ea k
      if poisonStops s n bad then haltThread n 0x09 word (ea % 2 ^ 14) s
      else octetDone n gt ga (ctxRead s (ctxOf s n) ea k) bad wb s) s)

/-- STC: W + 1 octets of the item's context := gt. -/
def execStc (t : BitVec 9) (gt ga : BitVec 5) (w mode : BitVec 2) (md : BitVec 16) (s : State) : Res :=
  .next (memInstr t 21 false true gt ga w mode md false (fun n ea wb _ word s =>
    let k := w.toNat + 1
    if ctxBad s n ea k then haltThread n 0x07 word ea s
    else storeDone n ga wb (pushStore n
      { space := 1, object := ctxOf s n, address := ea, bytes := octetBytes k (regG s n gt) } s)) s)

/-! ### DRAM windows (R283-R285) -/

/-- LDD: gt := W + 1 octets of DRAM; a long stall. -/
def execLdd (t : BitVec 9) (gt ga : BitVec 5) (w mode : BitVec 2) (md : BitVec 16) (s : State) : Res :=
  .next (memInstr t 22 false false gt ga w mode md false (fun n ea wb _ word s =>
    let k := w.toNat + 1
    if windowBad s n ea k false then haltThread n 0x08 word (natBits ea 32 4 * 2 ^ 26) s
    else
      let s := drainStores n s
      stallThread n (.dram gt ga k wb none (windowAddr s n ea) (ea % 2 ^ 14) word) ctrStallDram (requestLines 3 false (windowAddr s n ea) k s)) s)

/-- STD: W + 1 octets of DRAM := gt; the store leaves the core, and is translated, when its buffer entry drains (R285). -/
def execStd (t : BitVec 9) (gt ga : BitVec 5) (w mode : BitVec 2) (md : BitVec 16) (s : State) : Res :=
  .next (memInstr t 23 false true gt ga w mode md false (fun n ea wb _ word s =>
    let k := w.toNat + 1
    if windowBad s n ea k true then haltThread n 0x08 word (natBits ea 32 4 * 2 ^ 26) s
    else storeDone n ga wb (pushStore n
      { space := 2, object := n, address := ea, bytes := octetBytes k (regG s n gt) } s)) s)

/-! ### Happenings -/

/-- STORE_BUFFER_DRAIN: the oldest entry of the thread's store buffer drains to its memory (R294), a store to a controller in self-refresh
once it has left it (R561). -/
def execStoreBufferDrain (t : BitVec 9) (s : State) : Res :=
  .next (match (thr s t.toNat).stores with
    | [] => s
    | e :: r => whenAwake (if e.space = 2 then [(windowAddr s e.object e.address, e.bytes.length)] else [])
        (fun s => drainEntry e (updThr t.toNat (fun x => { x with stores := r }) s)) s)

/-- Finish a stalled load: the value, PSN and ga, and READY (R338, R291, R295). -/
def finishDram (n : Nat) (gt ga : BitVec 5) (bs : List Byte) (bad : Bool) (wb : Option Word36) (s : State) : State :=
  endStall n (octetDone n gt ga bs bad wb s)

/-- DRAM_READ_COMPLETE: the data of a thread's DRAM access returns and it becomes READY (R338); a request to a controller
in self-refresh waits at its port (R561). -/
def execDramReadComplete (t : BitVec 9) (s : State) : Res :=
  let n := t.toNat
  .next (match (thr s n).stall with
    | .dram gt ga k wb obj a detail word =>
      match obj with
      | some i =>
        let x := handleOf s i
        whenAwake (spillSpans x a k) (fun s =>
        let bad := pktPoisoned s x a k
        let s := noteSpillRead x a k s
        if poisonStops s n bad then stopThread n 0x09 word detail s
        else finishDram n gt ga (pktRead s x a k) bad wb s) s
      | none =>
        whenAwake [(a, k)] (fun s =>
        let bad := dramPoisoned s a k
        let s := serveLines 3 a k s
        if poisonStops s n bad then stopThread n 0x09 word detail s
        else finishDram n gt ga (dramBytes s a k) bad wb s) s
    | _ => s)

end Sys2Proof.Machine
end

