-- ==== Sys2Proof/Machine/MultiplyInstr.lean ====
section
/-!
DEFINITION. The multiplier (05_core_instruction_set.md, Multiplier; R308-R312).
-/
namespace Sys2Proof.Machine

/-- A multiply of major 12: its result joins those in flight, which land in order (R309, R310). -/
def multiply (t : BitVec 9) (func : Nat) (gd ga gb : BitVec 5) (zf : BitVec 9) (f : Word36 → Word36 → MulResult)
    (s : State) : State :=
  issue t { word := encR 12 gd ga gb zf func, illegal := fun _ _ => zf != 0 || gd != 0, srcs := [ga, gb]
            act := fun n s => advance n (updThr n (fun x =>
              { x with muls := x.muls ++ [f (regG s n ga) (regG s n gb)] }) s) } s

/-- MH:ML of a 72-bit product. -/
def product72 (p : BitVec 72) : MulResult := { mh := p.extractLsb' 36 36, ml := p.extractLsb' 0 36 }

/-- Lanes of `w` bits multiplied by `f`, `n` of them, in ML. -/
def lanes (w n : Nat) (f : Nat → Nat → Nat) (a b : Word36) : MulResult :=
  { mh := 0, ml := BitVec.ofNat 36 (packNat ((List.range n).map (fun i =>
      (f (natBits a.toNat (w * i) w) (natBits b.toNat (w * i) w), w)))) }

def execMul (t : BitVec 9) (gd ga gb : BitVec 5) (zf : BitVec 9) (s : State) : Res :=
  .next (multiply t 0 gd ga gb zf (fun a b => product72 (a.signExtend 72 * b.signExtend 72)) s)
def execMulu (t : BitVec 9) (gd ga gb : BitVec 5) (zf : BitVec 9) (s : State) : Res :=
  .next (multiply t 1 gd ga gb zf (fun a b => product72 (a.setWidth 72 * b.setWidth 72)) s)
def execClmul (t : BitVec 9) (gd ga gb : BitVec 5) (zf : BitVec 9) (s : State) : Res :=
  .next (multiply t 2 gd ga gb zf (fun a b =>
    product72 (BitVec.ofNat 72 (clmulN 32 (natBits a.toNat 0 32) (natBits b.toNat 0 32)))) s)
def execGfm8 (t : BitVec 9) (gd ga gb : BitVec 5) (zf : BitVec 9) (s : State) : Res :=
  .next (multiply t 3 gd ga gb zf (lanes 8 4 gf8) s)
def execGfm16 (t : BitVec 9) (gd ga gb : BitVec 5) (zf : BitVec 9) (s : State) : Res :=
  .next (multiply t 4 gd ga gb zf (lanes 16 2 gf16) s)

/-- MULTIPLY_LAND: the oldest result in flight of the thread lands in MH and ML (R309, R311). -/
def execMultiplyLand (t : BitVec 9) (s : State) : Res :=
  .next (match (thr s t.toNat).muls with
    | [] => s
    | r :: rest => updThr t.toNat (fun x => mendSpecials [5, 6] { x with mh := r.mh, ml := r.ml, muls := rest }) s)

end Sys2Proof.Machine
end

