-- ==== Sys2Proof/Machine/PacketInstr.lean ====
section
/-!
DEFINITION. Packet management and emit instructions, the Cabinet's late answers and drawer grants
(05_core_instruction_set.md, Packet memory instructions, Emit; 03_vat_cabinet_and_queues.md, Waiting allocation,
Releasing cells; R193-R207, R296-R301).
-/
namespace Sys2Proof.Machine

/-! ### What the Cabinet does for each instruction -/

/-- Does a thread act for an owner (R296)? -/
def actsFor (s : State) (t o : Nat) : Bool :=
  o == 64 + coreOf t ||
  (o == 128 && (match (thr s t).item with
    | some k => match itemOf s k with
      | some x => x.evidence || (x.isEvent && decide (320 ≤ x.source.toNat) && decide (x.source.toNat ≤ 383))
      | none => false
    | none => false))

/-- The Cabinet refuses: PKT_REFUSED at the instruction (R297). -/
def cabRefuse (t : Nat) (word : Word36) (s : State) : State := stopThread t 0x0B word 0 s

/-- Owner named by PALLOC and PALLOCE. -/
def allocOwner (op : CabOp) (t : Nat) : Nat := if op = .palloce then 128 else 64 + coreOf t

/-- A new buffer handle of `n` cells (R165). -/
def allocBuffer (b : Bank) (o d n : Nat) (p : Pay) (s : State) : Nat × State :=
  let r := newHandle (fun h => { h with
    kind := .buffer, owner := BitVec.ofNat 8 o, charge := BitVec.ofNat 8 o, drawer := d, spilled := p == .spill }) s
  (r.1, progress (waitsDrawer d) (afterGrant b o (addCells r.1 (List.range n) p r.2)))

/-- Allocate a buffer handle of `n` cells, from the Vat or the spill region, if they can be granted (R170, R171). -/
def tryAlloc (t o n : Nat) (s : State) : Option Nat × State :=
  let b := threadBank s t
  let d := (ownerProf b o).drawer.toNat
  let v := readyVat b o d n s
  if v.1 then
    let r := allocBuffer b o d n .vat v.2
    (some r.1, r.2)
  else
    let x := readySpill b o d n v.2
    if x.1 then
      let r := allocBuffer b o d n .spill x.2
      (some r.1, r.2)
    else (none, x.2)

/-- PALLOC and PALLOCE (Table 5.10, R193, R296, R298). -/
def cabAlloc (op : CabOp) (t : Nat) (gd ga : BitVec 5) (word : Word36) (s : State) : State :=
  let n := natBits (regG s t ga).toNat 0 7
  let o := allocOwner op t
  if 64 < n then cabRefuse t word s
  else if !actsFor s t o then cabRefuse t word (noteRefusedFree nullHandle o t s)
  else
    let b := threadBank s t
    let d := (ownerProf b o).drawer.toNat
    match (if (drawerWaiters s d).isEmpty then tryAlloc t o n s else (none, s)) with
    | (some i, s) => advance t (setG t gd ((handleWord s i).setWidth 36) s)
    | (none, s) => stallThread t (.drawer d n (.alloc op gd ga) word) ctrStallDrawer (joinDrawer d t s)

/-- The checks of PFREE, PFREES, PXFER and PBIND: a live buffer handle whose owner the thread acts for (R158, R196-R199,
R204, R296); otherwise the refusal. -/
def cabOwned (t : Nat) (h : HandleWord) (word : Word36) (s : State) (act : Nat → State → State) : State :=
  let x := handleOf s (hIndex h)
  if staleHandle s h then cabRefuse t word (noteStale s)
  else if x.kind ≠ .buffer || !actsFor s t x.owner.toNat then cabRefuse t word (noteRefusedFree h x.owner.toNat t s)
  else act (hIndex h) s

/-- Free a range of slots of a buffer handle; the handle goes with its last cell (R196), or at the last pin (R206). -/
def freeRange (i first n : Nat) (s : State) : State :=
  let slots := (List.range 64).filter (fun k => decide (first ≤ k) && decide (k < first + n))
  let h := handleOf s i
  if h.pins ≠ 0 then
    updHandle i (fun h => { h with deferSlots := h.deferSlots ||| BitVec.ofNat 64 (packNat ((List.range 64).map
      (fun k => (b2n (slots.contains k), 1)))) }) s
  else
    let some := h.cells.any (fun c => slots.contains c.1)
    let s := freeSlots i slots s
    if some && (handleOf s i).cells.isEmpty then releaseIndex i s else s

/-- May an owner be named as the receiver of a transfer (R198)? -/
def xferOwner (o : Nat) : Bool := !reservedOwner o

/-- PXFER: the cells and their charge move to owner gb[7:0] (R198); those of a spilled handle are judged by R171 (log entry 155). -/
def cabXfer (t : Nat) (gd : BitVec 5) (h : HandleWord) (o : Nat) (word : Word36) (i : Nat) (s : State) : State :=
  let x := handleOf s i
  let b := threadBank s t
  let p := ownerProf b o
  let n := x.cells.length
  if !xferOwner o then cabRefuse t word (noteRefusedFree h x.owner.toNat t s)
  else
    let fits := if x.spilled then spillBudget s b o n else vatBudget s b o p.drawer.toNat n
    if !fits then advance t (setG t gd 1 s)
    else
      let pay := if x.spilled then Pay.spill else Pay.vat
      let s := chargeUse o p.drawer.toNat n pay (dischargeUse x.charge.toNat x.drawer n pay s)
      let s := setHandle i { x with owner := BitVec.ofNat 8 o, charge := BitVec.ofNat 8 o, drawer := p.drawer.toNat } s
      let s := if n = 0 then s else progress (waitsDrawer x.drawer) s
      advance t (setG t gd 0 (afterGrant b o s))

/-- PBIND: a buffer handle becomes a packet handle of the Cabinet (owner 254) with reference count 1; its charge and its drawer stay
(R199). -/
def cabBind (t i : Nat) (s : State) : State :=
  advance t (updHandle i (fun x => { x with kind := .packet, owner := 254, refs := 1 }) s)

/-- The frame that EMIT names is well formed (R301, Table 5.11). -/
def emitFields (b c : Nat) : Bool :=
  let len := natBits b 14 14
  let start := natBits b 0 14
  let ts := natBits c 34 2
  let opts :=
    if ts = 0 then c == 0
    else natBits c 32 2 != 3 && natBits c 9 7 == 0 &&
      (if ts = 1 then natBits c 0 9 == 0 else natBits c 25 7 == 0)
  decide (18 ≤ len) && decide (len ≤ 9216) && decide (start + len ≤ 16352) && natBits b 28 8 == 0 && opts

/-- Is the handle a live packet handle (R301)? -/
def livePacket (s : State) (h : HandleWord) : Bool :=
  !staleHandle s h && decide ((handleOf s (hIndex h)).kind = .packet) && (handleOf s (hIndex h)).refs != 0

/-- Does EMIT or EMITF raise EMIT_BAD (R301)? A thread without an item stages nothing (log entry 19). -/
def emitBad (s : State) (t : Nat) (ga gb gc : BitVec 5) : Bool :=
  let a := (regG s t ga).toNat
  !livePacket s (BitVec.ofNat 24 a) || !emitFields (regG s t gb).toNat (regG s t gc).toNat || (thr s t).hdl ||
  (match (thr s t).item with
    | some k => match itemOf s k with
      | some x => decide (16 ≤ x.staged.length)
      | none => true
    | none => true)

/-- The output an EMIT stages (Table 5.11). -/
def stagedOf (s : State) (t : Nat) (ga gb gc : BitVec 5) : Staged :=
  let a := (regG s t ga).toNat
  let b := (regG s t gb).toNat
  { handle := BitVec.ofNat 24 a, map := natBits a 24 12, start := natBits b 0 14, len := natBits b 14 14, opts := regG s t gc }

/-- Stage one output, with its reference (R299). -/
def stageOutput (t : Nat) (o : Staged) (s : State) : State :=
  match (thr s t).item with
  | none => s
  | some k => updItem k (fun x => { x with staged := x.staged ++ [o] }) (addRef (hIndex o.handle) s)

/-- A handle named in bits [23:0] of a register. -/
def regHandle (s : State) (t : Nat) (r : BitVec 5) : HandleWord := (regG s t r).setWidth 24

/-- EMIT and EMITF (R158, R299-R301). -/
def cabEmit (t : Nat) (gc ga gb : BitVec 5) (word : Word36) (final : Bool) (s : State) : State :=
  if emitBad s t ga gb gc then stopThread t 0x0C word 0 (pktNote s (regHandle s t ga))
  else
    let s := drainStores t s
    let o := stagedOf s t ga gb gc
    if !canRef s (hIndex o.handle) then cabRefuse t word (noteRefError s)
    else
      let s := advance t (stageOutput t o s)
      if final then completeItem t false s else s

/-- VOID (R300); a thread without an item, or in a handler, has none to void (log entry 19). -/
def cabVoid (t : Nat) (word : Word36) (s : State) : State :=
  if (thr s t).hdl || (thr s t).item.isNone then stopThread t 0x0C word 0 s
  else completeItem t true (advance t (drainStores t s))

/-- An instruction of major 24 or 25 at the Cabinet (Tables 5.10 and 5.11). -/
def cabAct (op : CabOp) (t : Nat) (gd ga gb : BitVec 5) (word : Word36) (s : State) : State :=
  let h := regHandle s t ga
  let b := (regG s t gb).toNat
  match op with
  | .palloc | .palloce => stamped t (cabAlloc op t gd ga word) s
  | .pfree => cabOwned t h word s (fun i s => advance t (freeHandle i s))
  | .pfrees => cabOwned t h word s (fun i s => advance t (freeRange i (natBits b 0 6) (natBits b 6 6) s))
  | .pxfer => stamped t (fun s => cabOwned t h word s (cabXfer t gd h (natBits b 0 8) word)) s
  | .pbind => cabOwned t h word s (cabBind t)
  | .pref =>
    if staleHandle s h then cabRefuse t word (noteStale s)
    else if !canRef s (hIndex h) then cabRefuse t word (noteRefError s)
    else advance t (addRef (hIndex h) s)
  | .pderef =>
    if staleHandle s h then cabRefuse t word (noteStale s)
    else if (handleOf s (hIndex h)).kind ≠ .packet || (handleOf s (hIndex h)).refs == 0 then cabRefuse t word (noteRefError s)
    else advance t (dropRef (hIndex h) s)
  | .emit => cabEmit t gd ga gb word false s
  | .emitf => cabEmit t gd ga gb word true s
  | .voidItem => cabVoid t word s

/-! ### The instructions -/

/-- An instruction of major 24 or 25: the Cabinet answers at once, or, for those of Table 6.4, later when `slow`
(R298). -/
def cabInstr (t : BitVec 9) (major func : Nat) (op : CabOp) (gd ga gb : BitVec 5) (zf : BitVec 9) (slow : Bool)
    (srcs dsts : List (BitVec 5)) (s : State) : State :=
  let word := encR major gd ga gb zf func
  issue t { word := word, illegal := fun _ _ => zf != 0, srcs := srcs, dsts := dsts
            act := fun n s =>
              if slow then stallThread n (.cabinet op gd ga gb word) ctrStallCabinet s
              else cabAct op n gd ga gb word s } s

def execPalloc (t : BitVec 9) (gd ga gb : BitVec 5) (zf : BitVec 9) (s : State) : Res :=
  .next (settleVoided t.toNat s (cabInstr t 24 0 .palloc gd ga gb zf false [ga] [gd] s))
def execPalloce (t : BitVec 9) (gd ga gb : BitVec 5) (zf : BitVec 9) (s : State) : Res :=
  .next (settleVoided t.toNat s (cabInstr t 24 1 .palloce gd ga gb zf false [ga] [gd] s))
def execPfree (t : BitVec 9) (gd ga gb : BitVec 5) (zf : BitVec 9) (slow : Bool) (s : State) : Res :=
  .next (cabInstr t 24 2 .pfree gd ga gb zf slow [ga] [] s)
def execPfrees (t : BitVec 9) (gd ga gb : BitVec 5) (zf : BitVec 9) (slow : Bool) (s : State) : Res :=
  .next (cabInstr t 24 3 .pfrees gd ga gb zf slow [ga, gb] [] s)
def execPxfer (t : BitVec 9) (gd ga gb : BitVec 5) (zf : BitVec 9) (slow : Bool) (s : State) : Res :=
  .next (settleVoided t.toNat s (cabInstr t 24 4 .pxfer gd ga gb zf slow [ga, gb] [gd] s))
def execPbind (t : BitVec 9) (gd ga gb : BitVec 5) (zf : BitVec 9) (slow : Bool) (s : State) : Res :=
  .next (cabInstr t 24 5 .pbind gd ga gb zf slow [ga] [] s)
def execPref (t : BitVec 9) (gd ga gb : BitVec 5) (zf : BitVec 9) (slow : Bool) (s : State) : Res :=
  .next (cabInstr t 24 6 .pref gd ga gb zf slow [ga] [] s)
def execPderef (t : BitVec 9) (gd ga gb : BitVec 5) (zf : BitVec 9) (slow : Bool) (s : State) : Res :=
  .next (cabInstr t 24 7 .pderef gd ga gb zf slow [ga] [] s)
def execEmit (t : BitVec 9) (gd ga gb : BitVec 5) (zf : BitVec 9) (slow : Bool) (s : State) : Res :=
  .next (cabInstr t 25 0 .emit gd ga gb zf slow [gd, ga, gb] [] s)
def execEmitF (t : BitVec 9) (gd ga gb : BitVec 5) (zf : BitVec 9) (slow : Bool) (s : State) : Res :=
  .next (settle (cabInstr t 25 1 .emitf gd ga gb zf slow [gd, ga, gb] [] s))
def execVoidItem (t : BitVec 9) (gd ga gb : BitVec 5) (zf : BitVec 9) (slow : Bool) (s : State) : Res :=
  .next (settle (cabInstr t 25 2 .voidItem gd ga gb zf slow [] [] s))

/-! ### Happenings -/

/-- A stalled instruction that has been answered: READY, unless the answer halted, freed or stalled its thread again. -/
def settleAnswer (t : Nat) (s : State) : State :=
  let x := thr s t
  if (x.st = .stall || (x.st = .frozen && x.before = .stall)) && x.stall = .none then endStall t s else s

/-- The Cabinet answers a thread's stalled packet management or emit instruction (R298). -/
def cabinetAnswer (n : Nat) (s : State) : State :=
  match (thr s n).stall with
  | .cabinet op gd ga gb word => settleAnswer n (cabAct op n gd ga gb word (updThr n (fun x => { x with stall := .none }) s))
  | _ => s

/-- CABINET_ANSWER (R298). -/
def execCabinetAnswer (t : BitVec 9) (s : State) : Res := .next (settle (cabinetAnswer t.toNat s))

/-- Take the thread at the head of a drawer's wait queue out of it. -/
def leaveDrawer (d t : Nat) (s : State) : State :=
  { s with cab := { s.cab with waiters := tabUpd [] s.cab.waiters d (·.filter (· != t)) } }

/-- A waiting store executes with its cells: the address is that of its registers, which have not changed. -/
def grantStore (d t : Nat) (gt ga : BitVec 5) (w mode : BitVec 2) (md : BitVec 16) (word : Word36) (s : State) : State :=
  let f := modeField true mode md
  let e := effAddr (thr s t) ga mode f
  let h := selHandle s t f
  let k := w.toNat + 1
  let x := handleOf s (hIndex h)
  let slots := missingSlots x e.1.toNat k
  let b := threadBank s t
  if pktBad s t h e.1.toNat k 16352 || noGrowth s h slots then
    stopThread t 0x06 word (pktDetail f e.1.toNat) (leaveDrawer d t (pktNote s h))
  else if slots.isEmpty then endStall t (storePacket t gt ga h e.1.toNat k e.2 (leaveDrawer d t s))
  else
    let r := readyGrow b x slots.length s
    if r.1 then
      endStall t (storePacket t gt ga h e.1.toNat k e.2
        (progress (waitsDrawer d) (grow b (hIndex h) slots (leaveDrawer d t r.2))))
    else r.2

/-- DRAWER_GRANT: the oldest waiter of a drawer is granted its whole request when it fits (R194). -/
def execDrawerGrant (drawer : BitVec 6) (s : State) : Res :=
  let d := drawer.toNat
  .next (match drawerWaiters s d with
    | [] => s
    | t :: _ => if stampLost s t then settle (voidStamp t (leaveDrawer d t s)) else match (thr s t).stall with
      | .drawer _ n (.alloc op gd _) _ =>
        match tryAlloc t (allocOwner op t) n s with
        | (some i, s) => completeStalled t (putG gd ((handleWord s i).setWidth 36)) (leaveDrawer d t s)
        | (none, s) => s
      | .drawer _ _ (.store gt ga w mode md) word => grantStore d t gt ga w mode md word s
      | _ => s)

end Sys2Proof.Machine
end

