-- ==== Sys2Proof/Machine/SystemInstr.lean ====
section
/-!
DEFINITION. The system instructions of major 48 (05_core_instruction_set.md, Table 5.15, Exceptions;
06_threads_and_dovetail.md, Supervisors; R323, R346-R351).
-/
namespace Sys2Proof.Machine

/-- A format R instruction of major 48. -/
def sysInstr (t : BitVec 9) (func : Nat) (gd ga gb : BitVec 5) (zf : BitVec 9) (illegal : State → Nat → Bool)
    (srcs : List (BitVec 5)) (act : Nat → Word36 → State → State) (s : State) : State :=
  let word := encR 48 gd ga gb zf func
  issue t { word := word, illegal := fun s n => zf != 0 || illegal s n, srcs := srcs, act := fun n s => act n word s } s

/-- YIELD: the thread becomes READY and its core takes the next ready thread of the slot table (Table 6.4). -/
def execYieldRun (t : BitVec 9) (gd ga gb : BitVec 5) (zf : BitVec 9) (s : State) : Res :=
  .next (sysInstr t 0x01 gd ga gb zf (fun _ _ => false) [] (fun n _ s =>
    walk (coreOf n) (updThr n (fun x => { x with st := .ready }) (count .core (coreOf n) ctrYields 1 (advance n s)))) s)

/-- FENCE: the thread's stores are made visible (R287). -/
def execFence (t : BitVec 9) (gd ga gb : BitVec 5) (zf : BitVec 9) (s : State) : Res :=
  .next (sysInstr t 0x02 gd ga gb zf (fun _ _ => false) [] (fun n _ s => advance n (drainStores n s)) s)

/-- BRK: raise BREAK (R320). -/
def execBrk (t : BitVec 9) (gd ga gb : BitVec 5) (zf : BitVec 9) (s : State) : Res :=
  .next (sysInstr t 0x03 gd ga gb zf (fun _ _ => false) [] (fun n word s => haltThread n 0x10 word 0 s) s)

/-- A deadline handler ends: its item is voided and counted lost under R48, and its thread is free (R323, R363). -/
def endHandler (n : Nat) (s : State) : State :=
  let s := detachOps n (loseLocks n 4 (checkHeld n s))
  let s := match (thr s n).item with
    | some k => match itemOf s k with
      | some x => voidItem k (lateLoss x s)
      | none => s
    | none => s
  admitEvents (freeThread n s)

/-- END: the DEADLINE handler ends its item under R48; a TERMINATED handler frees its thread (R323, R363). -/
def execEndH (t : BitVec 9) (gd ga gb : BitVec 5) (zf : BitVec 9) (s : State) : Res :=
  .next (settle (sysInstr t 0x08 gd ga gb zf (fun s n => !(thr s n).hdl) [] (fun n _ s => endHandler n (advance n s)) s))

/-- RESUME: the interrupted instruction executes again, with a deadline of N + W + 4 (R47, R323). -/
def execResumeH (t : BitVec 9) (gd ga gb : BitVec 5) (zf : BitVec 9) (s : State) : Res :=
  .next (sysInstr t 0x09 gd ga gb zf (fun s n => !(thr s n).hdl || (thr s n).terminated) [] (fun n _ s =>
    match (thr s n).item with
    | none => s
    | some k => match itemOf s k with
      | none => s
      | some x =>
        let d := x.arrival + BitVec.ofNat 48 (x.window + 4)
        updThr n (fun y => { y with pc := y.epc, hdl := false, rsm := true, dl := d.setWidth 36 })
          (putItem k { x with resumed := true, deadline := d } s)) s)

/-! ### Supervisor instructions -/

/-- A supervisor instruction raises ILLEGAL in any other thread. -/
def notSupervisor (s : State) (n : Nat) : Bool := !isSupervisor s n

/-- Is an SVEND or SVRST of thread `u` ignored (R350)? -/
def svIgnored (s : State) (n u : Nat) (halted : Bool) : Bool :=
  u / 64 != clusterOf n || u == n || (halted && decide ((thr s u).st ≠ .halt))

/-- Count an ignored supervisor instruction (R350). -/
def noteSvIgnored (s : State) : State := raiseFirst 206 0 [] (count .dovetail 0 15 1 (setFlag 0x4C0 7 s))

/-- The thread that ga[11:0] names. -/
def svTarget (s : State) (n : Nat) (ga : BitVec 5) : Nat := natBits (regG s n ga).toNat 0 12

/-- SVEND: end the item of the halted thread ga[11:0], which becomes FREE with its registers kept (R348). -/
def execSvend (t : BitVec 9) (gd ga gb : BitVec 5) (zf : BitVec 9) (s : State) : Res :=
  .next (settle (sysInstr t 0x20 gd ga gb zf notSupervisor [ga] (fun n _ s =>
    let u := svTarget s n ga
    advance n (if svIgnored s n u true then noteSvIgnored s
      else admitEvents (freeThread u (endFaulted u (detachOps u (loseLocks u 4 (checkHeld u s))))))) s))

/-- SVRST: L0 reset of thread ga[11:0] (R349, R351). -/
def execSvrst (t : BitVec 9) (gd ga gb : BitVec 5) (zf : BitVec 9) (s : State) : Res :=
  .next (settle (sysInstr t 0x21 gd ga gb zf notSupervisor [ga] (fun n _ s =>
    let u := svTarget s n ga
    advance n (if svIgnored s n u false then noteSvIgnored s else admitEvents (l0Reset u (checkHeld u s)))) s))

end Sys2Proof.Machine
end

