-- ==== Sys2Proof/Machine/Dispatch.lean ====
section
/-!
DEFINITION. The meaning of each command, one arm per row of spec/opcode_table.json.
-/
namespace Sys2Proof.Machine

/-- A command's effect on everything but the queue. -/
def exec (i : Instr) (s : State) : Host.Outcome State Fault Refusal :=
  match i with
  | .deviceQuery m => Sys2Proof.Machine.execDeviceQuery m s
  | .completionQueueSet m => Sys2Proof.Machine.execCompletionQueueSet m s
  | .eventQueueSet m => Sys2Proof.Machine.execEventQueueSet m s
  | .eventMask m => Sys2Proof.Machine.execEventMask m s
  | .msixMap m => Sys2Proof.Machine.execMsixMap m s
  | .fwRegionSet m => Sys2Proof.Machine.execFwRegionSet m s
  | .exrSet m => Sys2Proof.Machine.execExrSet m s
  | .injSet m => Sys2Proof.Machine.execInjSet m s
  | .ringStatus m => Sys2Proof.Machine.execRingStatus m s
  | .hostCounters m => Sys2Proof.Machine.execHostCounters m s
  | .echo m => Sys2Proof.Machine.execEcho m s
  | .portConfig m => Sys2Proof.Machine.execPortConfig m s
  | .portEnable m => Sys2Proof.Machine.execPortEnable m s
  | .portStatus m => Sys2Proof.Machine.execPortStatus m s
  | .portCounters m => Sys2Proof.Machine.execPortCounters m s
  | .pfcConfig m => Sys2Proof.Machine.execPfcConfig m s
  | .ptpSetTime m => Sys2Proof.Machine.execPtpSetTime m s
  | .ptpStep m => Sys2Proof.Machine.execPtpStep m s
  | .ptpFreq m => Sys2Proof.Machine.execPtpFreq m s
  | .ptpQuery m => Sys2Proof.Machine.execPtpQuery m s
  | .ptpPortDelay m => Sys2Proof.Machine.execPtpPortDelay m s
  | .ppsConfig m => Sys2Proof.Machine.execPpsConfig m s
  | .txTimestampRead m => Sys2Proof.Machine.execTxTimestampRead m s
  | .clockRefSelect m => Sys2Proof.Machine.execClockRefSelect m s
  | .pipeConfig m => Sys2Proof.Machine.execPipeConfig m s
  | .parseNodeWrite m => Sys2Proof.Machine.execParseNodeWrite m s
  | .parseTransitionWrite m => Sys2Proof.Machine.execParseTransitionWrite m s
  | .keyFieldWrite m => Sys2Proof.Machine.execKeyFieldWrite m s
  | .ruleRead m => Sys2Proof.Machine.execRuleRead m s
  | .actionLoad m => Sys2Proof.Machine.execActionLoad m s
  | .meterProfileLoad m => Sys2Proof.Machine.execMeterProfileLoad m s
  | .meterReset m => Sys2Proof.Machine.execMeterReset m s
  | .classifierCounters m => Sys2Proof.Machine.execClassifierCounters m s
  | .ruleCounters m => Sys2Proof.Machine.execRuleCounters m s
  | .meterCounters m => Sys2Proof.Machine.execMeterCounters m s
  | .vatGroupConfig m => Sys2Proof.Machine.execVatGroupConfig m s
  | .drawerConfig m => Sys2Proof.Machine.execDrawerConfig m s
  | .cabinetInit m => Sys2Proof.Machine.execCabinetInit m s
  | .cabinetSeed m => Sys2Proof.Machine.execCabinetSeed m s
  | .ownerProfileLoad m => Sys2Proof.Machine.execOwnerProfileLoad m s
  | .redProfileLoad m => Sys2Proof.Machine.execRedProfileLoad m s
  | .schedProfileLoad m => Sys2Proof.Machine.execSchedProfileLoad m s
  | .egressMapLoad m => Sys2Proof.Machine.execEgressMapLoad m s
  | .ownerStatus m => Sys2Proof.Machine.execOwnerStatus m s
  | .ownerCounters m => Sys2Proof.Machine.execOwnerCounters m s
  | .queueCounters m => Sys2Proof.Machine.execQueueCounters m s
  | .drawerStatus m => Sys2Proof.Machine.execDrawerStatus m s
  | .cabinetCounters m => Sys2Proof.Machine.execCabinetCounters m s
  | .handleQuery m => Sys2Proof.Machine.execHandleQuery m s
  | .programWrite m => Sys2Proof.Machine.execProgramWrite m s
  | .programLoadDma m dma => Sys2Proof.Machine.execProgramLoadDma m dma s
  | .programRead m => Sys2Proof.Machine.execProgramRead m s
  | .entryLoad m => Sys2Proof.Machine.execEntryLoad m s
  | .dispatchMapLoad m => Sys2Proof.Machine.execDispatchMapLoad m s
  | .doorbellRoute m => Sys2Proof.Machine.execDoorbellRoute m s
  | .domainStatus m => Sys2Proof.Machine.execDomainStatus m s
  | .contextStatus m => Sys2Proof.Machine.execContextStatus m s
  | .contextRead m => Sys2Proof.Machine.execContextRead m s
  | .contextWrite m => Sys2Proof.Machine.execContextWrite m s
  | .dispatchCounters m => Sys2Proof.Machine.execDispatchCounters m s
  | .clusterFence m => Sys2Proof.Machine.execClusterFence m s
  | .windowConfig m => Sys2Proof.Machine.execWindowConfig m s
  | .windowQuery m => Sys2Proof.Machine.execWindowQuery m s
  | .dmemWrite m => Sys2Proof.Machine.execDmemWrite m s
  | .dmemRead m => Sys2Proof.Machine.execDmemRead m s
  | .slotTableSet m => Sys2Proof.Machine.execSlotTableSet m s
  | .supervisorSet m => Sys2Proof.Machine.execSupervisorSet m s
  | .threadStatus m => Sys2Proof.Machine.execThreadStatus m s
  | .threadReset m => Sys2Proof.Machine.execThreadReset m s
  | .coreCounters m => Sys2Proof.Machine.execCoreCounters m s
  | .lockTry m => Sys2Proof.Machine.execLockTry m s
  | .lockRelease m => Sys2Proof.Machine.execLockRelease m s
  | .lockQuery m => Sys2Proof.Machine.execLockQuery m s
  | .lockBreak m => Sys2Proof.Machine.execLockBreak m s
  | .channelConfig m => Sys2Proof.Machine.execChannelConfig m s
  | .channelPost m => Sys2Proof.Machine.execChannelPost m s
  | .channelTake m => Sys2Proof.Machine.execChannelTake m s
  | .channelStatus m => Sys2Proof.Machine.execChannelStatus m s
  | .dovetailCounters m => Sys2Proof.Machine.execDovetailCounters m s
  | .emTableConfig m => Sys2Proof.Machine.execEmTableConfig m s
  | .tableEnable m => Sys2Proof.Machine.execTableEnable m s
  | .learnConfig m => Sys2Proof.Machine.execLearnConfig m s
  | .flowTableConfig m => Sys2Proof.Machine.execFlowTableConfig m s
  | .entryWrite m => Sys2Proof.Machine.execEntryWrite m s
  | .entryDelete m => Sys2Proof.Machine.execEntryDelete m s
  | .entryLookup m => Sys2Proof.Machine.execEntryLookup m s
  | .entryRead m => Sys2Proof.Machine.execEntryRead m s
  | .tableFlush m => Sys2Proof.Machine.execTableFlush m s
  | .flapRelease m => Sys2Proof.Machine.execFlapRelease m s
  | .trieConfig m => Sys2Proof.Machine.execTrieConfig m s
  | .routeAdd m => Sys2Proof.Machine.execRouteAdd m s
  | .routeDelete m => Sys2Proof.Machine.execRouteDelete m s
  | .routeLookup m => Sys2Proof.Machine.execRouteLookup m s
  | .trieStatus m => Sys2Proof.Machine.execTrieStatus m s
  | .noticeRead m => Sys2Proof.Machine.execNoticeRead m s
  | .lookupCounters m => Sys2Proof.Machine.execLookupCounters m s
  | .wmStreamLoad m => Sys2Proof.Machine.execWmStreamLoad m s
  | .copFence m => Sys2Proof.Machine.execCopFence m s
  | .copStatus m => Sys2Proof.Machine.execCopStatus m s
  | .copCounters m => Sys2Proof.Machine.execCopCounters m s
  | .compConfig m => Sys2Proof.Machine.execCompConfig m s
  | .compEnable m => Sys2Proof.Machine.execCompEnable m s
  | .compStatus m => Sys2Proof.Machine.execCompStatus m s
  | .compWindowSet m => Sys2Proof.Machine.execCompWindowSet m s
  | .compEventRoute m => Sys2Proof.Machine.execCompEventRoute m s
  | .compCounters m => Sys2Proof.Machine.execCompCounters m s
  | .storeCfgAccess m data completion => Sys2Proof.Machine.execStoreCfgAccess m data completion s
  | .storeLink m => Sys2Proof.Machine.execStoreLink m s
  | .storeControllerAdd m ok => Sys2Proof.Machine.execStoreControllerAdd m ok s
  | .storeAdmin m entry dma => Sys2Proof.Machine.execStoreAdmin m entry dma s
  | .storeMemberSet m => Sys2Proof.Machine.execStoreMemberSet m s
  | .storeSet m r => Sys2Proof.Machine.execStoreSet m r s
  | .storeRead m result dma => Sys2Proof.Machine.execStoreRead m result dma s
  | .storeRelease m => Sys2Proof.Machine.execStoreRelease m s
  | .evidenceConfig m => Sys2Proof.Machine.execEvidenceConfig m s
  | .laneConfig m => Sys2Proof.Machine.execLaneConfig m s
  | .evidenceRun m => Sys2Proof.Machine.execEvidenceRun m s
  | .commitRoute m => Sys2Proof.Machine.execCommitRoute m s
  | .streamOpen m => Sys2Proof.Machine.execStreamOpen m s
  | .streamClose m => Sys2Proof.Machine.execStreamClose m s
  | .streamKey m => Sys2Proof.Machine.execStreamKey m s
  | .streamQuery m => Sys2Proof.Machine.execStreamQuery m s
  | .evidenceStatus m => Sys2Proof.Machine.execEvidenceStatus m s
  | .evidenceCounters m => Sys2Proof.Machine.execEvidenceCounters m s
  | .dramPopulation m => Sys2Proof.Machine.execDramPopulation m s
  | .dramTiming m => Sys2Proof.Machine.execDramTiming m s
  | .dramRangeSet m => Sys2Proof.Machine.execDramRangeSet m s
  | .dramTrain m verify steps => Sys2Proof.Machine.execDramTrain m verify steps s
  | .dramStart m => Sys2Proof.Machine.execDramStart m s
  | .dramSched m => Sys2Proof.Machine.execDramSched m s
  | .dramRefresh m => Sys2Proof.Machine.execDramRefresh m s
  | .dramEcc m => Sys2Proof.Machine.execDramEcc m s
  | .dramReserve m => Sys2Proof.Machine.execDramReserve m s
  | .dramFence m => Sys2Proof.Machine.execDramFence m s
  | .dramStatus m => Sys2Proof.Machine.execDramStatus m s
  | .dramCounters m => Sys2Proof.Machine.execDramCounters m s
  | .dramErrorLog m => Sys2Proof.Machine.execDramErrorLog m s
  | .chipReset m => Sys2Proof.Machine.execChipReset m s
  | .datapathReset m => Sys2Proof.Machine.execDatapathReset m s
  | .coreReset m => Sys2Proof.Machine.execCoreReset m s
  | .powerTolerance m => Sys2Proof.Machine.execPowerTolerance m s
  | .powerPolicy m => Sys2Proof.Machine.execPowerPolicy m s
  | .powerFail m => Sys2Proof.Machine.execPowerFail m s
  | .powerStatus m => Sys2Proof.Machine.execPowerStatus m s
  | .gpioConfig m => Sys2Proof.Machine.execGpioConfig m s
  | .lifecycleAdvance m => Sys2Proof.Machine.execLifecycleAdvance m s
  | .fuseProgram m => Sys2Proof.Machine.execFuseProgram m s
  | .fwKeyRevoke m => Sys2Proof.Machine.execFwKeyRevoke m s
  | .rollbackAdvance m => Sys2Proof.Machine.execRollbackAdvance m s
  | .securityQuery m => Sys2Proof.Machine.execSecurityQuery m s
  | .keyGenerate m => Sys2Proof.Machine.execKeyGenerate m s
  | .keyImport m => Sys2Proof.Machine.execKeyImport m s
  | .keyDelete m => Sys2Proof.Machine.execKeyDelete m s
  | .keyQuery m => Sys2Proof.Machine.execKeyQuery m s
  | .keyLoadPlain m => Sys2Proof.Machine.execKeyLoadPlain m s
  | .debugChallenge m => Sys2Proof.Machine.execDebugChallenge m s
  | .debugUnlock m => Sys2Proof.Machine.execDebugUnlock m s
  | .debugAttach m => Sys2Proof.Machine.execDebugAttach m s
  | .debugHalt m => Sys2Proof.Machine.execDebugHalt m s
  | .debugRelease m => Sys2Proof.Machine.execDebugRelease m s
  | .debugStep m => Sys2Proof.Machine.execDebugStep m s
  | .threadRegRead m => Sys2Proof.Machine.execThreadRegRead m s
  | .threadRegWrite m => Sys2Proof.Machine.execThreadRegWrite m s
  | .breakpointSet m => Sys2Proof.Machine.execBreakpointSet m s
  | .traceConfig m => Sys2Proof.Machine.execTraceConfig m s
  | .traceStatus m => Sys2Proof.Machine.execTraceStatus m s
  | .debugCounters m => Sys2Proof.Machine.execDebugCounters m s
  | .dumpRead m => Sys2Proof.Machine.execDumpRead m s
  | .dumpClear m => Sys2Proof.Machine.execDumpClear m s
  | .dumpQuery m => Sys2Proof.Machine.execDumpQuery m s
  | .sheetSet m => Sys2Proof.Machine.execSheetSet m s
  | .sheetStart m => Sys2Proof.Machine.execSheetStart m s
  | .sheetAlign m => Sys2Proof.Machine.execSheetAlign m s
  | .sheetQuery m => Sys2Proof.Machine.execSheetQuery m s
  | .sheetNext m => Sys2Proof.Machine.execSheetNext m s
  | .tickSubscribe m => Sys2Proof.Machine.execTickSubscribe m s
  | .furnishBegin m => Sys2Proof.Machine.execFurnishBegin m s
  | .furnishCloseUnit m => Sys2Proof.Machine.execFurnishCloseUnit m s
  | .furnishCommit m => Sys2Proof.Machine.execFurnishCommit m s
  | .furnishAbort m => Sys2Proof.Machine.execFurnishAbort m s
  | .furnishStatus m => Sys2Proof.Machine.execFurnishStatus m s
  | .lateCounters m => Sys2Proof.Machine.execLateCounters m s
  | .mbxGo mask => Sys2Proof.Machine.execMbxGo mask s
  | .cqHeldCompletion => Sys2Proof.Machine.execCqHeldCompletion s
  | .doorbell d value => Sys2Proof.Machine.execDoorbell d value s
  | .cqHeadWrite value => Sys2Proof.Machine.execCqHeadWrite value s
  | .eqHeadWrite value => Sys2Proof.Machine.execEqHeadWrite value s
  | .exrHeadWrite ring value => Sys2Proof.Machine.execExrHeadWrite ring value s
  | .injTailWrite ring value => Sys2Proof.Machine.execInjTailWrite ring value s
  | .sheetNowLoRead => Sys2Proof.Machine.execSheetNowLoRead s
  | .dLoRead => Sys2Proof.Machine.execDLoRead s
  | .rcRead offset => Sys2Proof.Machine.execRcRead offset s
  | .ruleValidWrite pipe rule value => Sys2Proof.Machine.execRuleValidWrite pipe rule value s
  | .comparatorValidWrite pipe index value => Sys2Proof.Machine.execComparatorValidWrite pipe index value s
  | .bootCtrlGo value => Sys2Proof.Machine.execBootCtrlGo value s
  | .diagWindowRead offset => Sys2Proof.Machine.execDiagWindowRead offset s
  | .diagWindowWrite offset value => Sys2Proof.Machine.execDiagWindowWrite offset value s
  | .registerWrite offset enables value => Sys2Proof.Machine.execRegisterWrite offset enables value s
  | .msixMessage message => Sys2Proof.Machine.execMsixMessage message s
  | .eventMergedPost => Sys2Proof.Machine.execEventMergedPost s
  | .hostifReset => Sys2Proof.Machine.execHostifReset s
  | .hostifResetEnd => Sys2Proof.Machine.execHostifResetEnd s
  | .porstNAssert => Sys2Proof.Machine.execPorstNAssert s
  | .porstNRelease bootSrc clkMode => Sys2Proof.Machine.execPorstNRelease bootSrc clkMode s
  | .rstNAssert => Sys2Proof.Machine.execRstNAssert s
  | .rstNRelease => Sys2Proof.Machine.execRstNRelease s
  | .l2Exit => Sys2Proof.Machine.execL2Exit s
  | .bootImageLoaded image => Sys2Proof.Machine.execBootImageLoaded image s
  | .mpWatchdogExpiry => Sys2Proof.Machine.execMpWatchdogExpiry s
  | .pfailNFall => Sys2Proof.Machine.execPfailNFall s
  | .flushComplete member result => Sys2Proof.Machine.execFlushComplete member result s
  | .flushAllowExpiry => Sys2Proof.Machine.execFlushAllowExpiry s
  | .pfailNRise => Sys2Proof.Machine.execPfailNRise s
  | .ppsInEdge jitter => Sys2Proof.Machine.execPpsInEdge jitter s
  | .ppsOutPulse level => Sys2Proof.Machine.execPpsOutPulse level s
  | .ref10mLoss => Sys2Proof.Machine.execRef10mLoss s
  | .ref10mRelock => Sys2Proof.Machine.execRef10mRelock s
  | .sheetTick => Sys2Proof.Machine.execSheetTick s
  | .alignTakesEffect => Sys2Proof.Machine.execAlignTakesEffect s
  | .lateOrdinary domain seq => Sys2Proof.Machine.execLateOrdinary domain seq s
  | .lateLossless domain seq => Sys2Proof.Machine.execLateLossless domain seq s
  | .ceiling domain seq => Sys2Proof.Machine.execCeiling domain seq s
  | .ceilingXon port cls => Sys2Proof.Machine.execCeilingXon port cls s
  | .furnishConfirmAsk parity reset => Sys2Proof.Machine.execFurnishConfirmAsk parity reset s
  | .furnishSwitch => Sys2Proof.Machine.execFurnishSwitch s
  | .furnishRetire => Sys2Proof.Machine.execFurnishRetire s
  | .xoffRelease owner => Sys2Proof.Machine.execXoffRelease owner s
  | .budgetModeEnd owner => Sys2Proof.Machine.execBudgetModeEnd owner s
  | .residueDrop sub queue => Sys2Proof.Machine.execResidueDrop sub queue s
  | .exrResidue ring => Sys2Proof.Machine.execExrResidue ring s
  | .allwaitDetection scope => Sys2Proof.Machine.execAllwaitDetection scope s
  | .frameReceive sub frame errors jitter => Sys2Proof.Machine.execFrameReceive sub frame errors jitter s
  | .exceptionCopyWrite ring => Sys2Proof.Machine.execExceptionCopyWrite ring s
  | .pfcFrameReceive sub enable quanta => Sys2Proof.Machine.execPfcFrameReceive sub enable quanta s
  | .pfcPauseExpiry sub prio => Sys2Proof.Machine.execPfcPauseExpiry sub prio s
  | .pfcRefreshExpiry sub => Sys2Proof.Machine.execPfcRefreshExpiry sub s
  | .linkUp sub => Sys2Proof.Machine.execLinkUp sub s
  | .linkDown sub => Sys2Proof.Machine.execLinkDown sub s
  | .linkTrainingTimeout sub => Sys2Proof.Machine.execLinkTrainingTimeout sub s
  | .laneLost port lane => Sys2Proof.Machine.execLaneLost port lane s
  | .laneRegained port lane => Sys2Proof.Machine.execLaneRegained port lane s
  | .injectionFetch descriptor frame cells => Sys2Proof.Machine.execInjectionFetch descriptor frame cells s
  | .frameBoundary boundary => Sys2Proof.Machine.execFrameBoundary boundary s
  | .transmitEnd sub jitter => Sys2Proof.Machine.execTransmitEnd sub jitter s
  | .refillComplete sub queue index => Sys2Proof.Machine.execRefillComplete sub queue index s
  | .panicChange => Sys2Proof.Machine.execPanicChange s
  | .freeRingRefill group spill => Sys2Proof.Machine.execFreeRingRefill group spill s
  | .drawerGrant drawer => Sys2Proof.Machine.execDrawerGrant drawer s
  | .threadOffer t => Sys2Proof.Machine.execThreadOffer t s
  | .multiplyLand t => Sys2Proof.Machine.execMultiplyLand t s
  | .storeBufferDrain t => Sys2Proof.Machine.execStoreBufferDrain t s
  | .dramReadComplete t => Sys2Proof.Machine.execDramReadComplete t s
  | .cabinetAnswer t => Sys2Proof.Machine.execCabinetAnswer t s
  | .lookupComplete index => Sys2Proof.Machine.execLookupComplete index s
  | .shadowRewrite index => Sys2Proof.Machine.execShadowRewrite index s
  | .nodeReclaim => Sys2Proof.Machine.execNodeReclaim s
  | .unpin record => Sys2Proof.Machine.execUnpin record s
  | .ageOut table => Sys2Proof.Machine.execAgeOut table s
  | .unitDone unit fault => Sys2Proof.Machine.execUnitDone unit fault s
  | .opDone flit => Sys2Proof.Machine.execOpDone flit s
  | .rdReq flit => Sys2Proof.Machine.execRdReq flit s
  | .wrReq flit => Sys2Proof.Machine.execWrReq flit s
  | .eventFlit flit => Sys2Proof.Machine.execEventFlit flit s
  | .pktFlit flit => Sys2Proof.Machine.execPktFlit flit s
  | .trainFlit flit => Sys2Proof.Machine.execTrainFlit flit s
  | .nakFlit flit => Sys2Proof.Machine.execNakFlit flit s
  | .idleFlit flit => Sys2Proof.Machine.execIdleFlit flit s
  | .tabinoTrainingTimeout => Sys2Proof.Machine.execTabinoTrainingTimeout s
  | .opTimeout cv => Sys2Proof.Machine.execOpTimeout cv s
  | .stripeForm lane => Sys2Proof.Machine.execStripeForm lane s
  | .nvmeCompletion index status => Sys2Proof.Machine.execNvmeCompletion index status s
  | .ioTimeout index => Sys2Proof.Machine.execIoTimeout index s
  | .sealTake => Sys2Proof.Machine.execSealTake s
  | .durableAdvance => Sys2Proof.Machine.execDurableAdvance s
  | .exposureXoff => Sys2Proof.Machine.execExposureXoff s
  | .refreshIssue turn => Sys2Proof.Machine.execRefreshIssue turn s
  | .zqCalibration channel => Sys2Proof.Machine.execZqCalibration channel s
  | .patrolScrub channel error => Sys2Proof.Machine.execPatrolScrub channel error s
  | .dramRead address error => Sys2Proof.Machine.execDramRead address error s
  | .selfRefreshEntry channel => Sys2Proof.Machine.execSelfRefreshEntry channel s
  | .selfRefreshWake channel => Sys2Proof.Machine.execSelfRefreshWake channel s
  | .selfRefreshExit channel verify step => Sys2Proof.Machine.execSelfRefreshExit channel verify step s
  | .thermalRewake channel => Sys2Proof.Machine.execThermalRewake channel s
  | .powerStateEntry => Sys2Proof.Machine.execPowerStateEntry s
  | .wakeUp cause => Sys2Proof.Machine.execWakeUp cause s
  | .thermalSample temp => Sys2Proof.Machine.execThermalSample temp s
  | .supplyFault rail high => Sys2Proof.Machine.execSupplyFault rail high s
  | .watchdogExpiry core => Sys2Proof.Machine.execWatchdogExpiry core s
  | .clusterFaultTimeout cluster => Sys2Proof.Machine.execClusterFaultTimeout cluster s
  | .instructionRewrite cluster address => Sys2Proof.Machine.execInstructionRewrite cluster address s
  | .fatalError cause => Sys2Proof.Machine.execFatalError cause s
  | .challengeExpiry => Sys2Proof.Machine.execChallengeExpiry s
  | .breakpointMatch t => Sys2Proof.Machine.execBreakpointMatch t s
  | .stepLimit t => Sys2Proof.Machine.execStepLimit t s
  | .add t gd ga gb zf => Sys2Proof.Machine.execAdd t gd ga gb zf s
  | .sub t gd ga gb zf => Sys2Proof.Machine.execSub t gd ga gb zf s
  | .and t gd ga gb zf => Sys2Proof.Machine.execAnd t gd ga gb zf s
  | .or t gd ga gb zf => Sys2Proof.Machine.execOr t gd ga gb zf s
  | .xor t gd ga gb zf => Sys2Proof.Machine.execXor t gd ga gb zf s
  | .nor t gd ga gb zf => Sys2Proof.Machine.execNor t gd ga gb zf s
  | .andn t gd ga gb zf => Sys2Proof.Machine.execAndn t gd ga gb zf s
  | .sll t gd ga gb zf => Sys2Proof.Machine.execSll t gd ga gb zf s
  | .srl t gd ga gb zf => Sys2Proof.Machine.execSrl t gd ga gb zf s
  | .sra t gd ga gb zf => Sys2Proof.Machine.execSra t gd ga gb zf s
  | .rol t gd ga gb zf => Sys2Proof.Machine.execRol t gd ga gb zf s
  | .slt t gd ga gb zf => Sys2Proof.Machine.execSlt t gd ga gb zf s
  | .sltu t gd ga gb zf => Sys2Proof.Machine.execSltu t gd ga gb zf s
  | .min t gd ga gb zf => Sys2Proof.Machine.execMin t gd ga gb zf s
  | .max t gd ga gb zf => Sys2Proof.Machine.execMax t gd ga gb zf s
  | .minu t gd ga gb zf => Sys2Proof.Machine.execMinu t gd ga gb zf s
  | .maxu t gd ga gb zf => Sys2Proof.Machine.execMaxu t gd ga gb zf s
  | .clz t gd ga gb zf => Sys2Proof.Machine.execClz t gd ga gb zf s
  | .ctz t gd ga gb zf => Sys2Proof.Machine.execCtz t gd ga gb zf s
  | .popc t gd ga gb zf => Sys2Proof.Machine.execPopc t gd ga gb zf s
  | .bswap t gd ga gb zf => Sys2Proof.Machine.execBswap t gd ga gb zf s
  | .addi t gd ga zf imm => Sys2Proof.Machine.execAddi t gd ga zf imm s
  | .andi t gd ga zf imm => Sys2Proof.Machine.execAndi t gd ga zf imm s
  | .ori t gd ga zf imm => Sys2Proof.Machine.execOri t gd ga zf imm s
  | .xori t gd ga zf imm => Sys2Proof.Machine.execXori t gd ga zf imm s
  | .slti t gd ga zf imm => Sys2Proof.Machine.execSlti t gd ga zf imm s
  | .sltiu t gd ga zf imm => Sys2Proof.Machine.execSltiu t gd ga zf imm s
  | .lui t gd zf imm => Sys2Proof.Machine.execLui t gd zf imm s
  | .slli t gd ga pos len zf => Sys2Proof.Machine.execSlli t gd ga pos len zf s
  | .srli t gd ga pos len zf => Sys2Proof.Machine.execSrli t gd ga pos len zf s
  | .srai t gd ga pos len zf => Sys2Proof.Machine.execSrai t gd ga pos len zf s
  | .roli t gd ga pos len zf => Sys2Proof.Machine.execRoli t gd ga pos len zf s
  | .extu t gd ga pos len zf => Sys2Proof.Machine.execExtu t gd ga pos len zf s
  | .exts t gd ga pos len zf => Sys2Proof.Machine.execExts t gd ga pos len zf s
  | .ins t gd ga pos len zf => Sys2Proof.Machine.execIns t gd ga pos len zf s
  | .mfs t gd ga zf imm => Sys2Proof.Machine.execMfs t gd ga zf imm s
  | .mts t gd ga zf imm => Sys2Proof.Machine.execMts t gd ga zf imm s
  | .mul t gd ga gb zf => Sys2Proof.Machine.execMul t gd ga gb zf s
  | .mulu t gd ga gb zf => Sys2Proof.Machine.execMulu t gd ga gb zf s
  | .clmul t gd ga gb zf => Sys2Proof.Machine.execClmul t gd ga gb zf s
  | .gfm8 t gd ga gb zf => Sys2Proof.Machine.execGfm8 t gd ga gb zf s
  | .gfm16 t gd ga gb zf => Sys2Proof.Machine.execGfm16 t gd ga gb zf s
  | .ldw t gt ga w mode md => Sys2Proof.Machine.execLdw t gt ga w mode md s
  | .stw t gt ga w mode md => Sys2Proof.Machine.execStw t gt ga w mode md s
  | .ldp t gt ga w mode md => Sys2Proof.Machine.execLdp t gt ga w mode md s
  | .stp t gt ga w mode md => Sys2Proof.Machine.execStp t gt ga w mode md s
  | .ldc t gt ga w mode md => Sys2Proof.Machine.execLdc t gt ga w mode md s
  | .stc t gt ga w mode md => Sys2Proof.Machine.execStc t gt ga w mode md s
  | .ldd t gt ga w mode md => Sys2Proof.Machine.execLdd t gt ga w mode md s
  | .std t gt ga w mode md => Sys2Proof.Machine.execStd t gt ga w mode md s
  | .palloc t gd ga gb zf => Sys2Proof.Machine.execPalloc t gd ga gb zf s
  | .palloce t gd ga gb zf => Sys2Proof.Machine.execPalloce t gd ga gb zf s
  | .pfree t gd ga gb zf slow => Sys2Proof.Machine.execPfree t gd ga gb zf slow s
  | .pfrees t gd ga gb zf slow => Sys2Proof.Machine.execPfrees t gd ga gb zf slow s
  | .pxfer t gd ga gb zf slow => Sys2Proof.Machine.execPxfer t gd ga gb zf slow s
  | .pbind t gd ga gb zf slow => Sys2Proof.Machine.execPbind t gd ga gb zf slow s
  | .pref t gd ga gb zf slow => Sys2Proof.Machine.execPref t gd ga gb zf slow s
  | .pderef t gd ga gb zf slow => Sys2Proof.Machine.execPderef t gd ga gb zf slow s
  | .emit t gd ga gb zf slow => Sys2Proof.Machine.execEmit t gd ga gb zf slow s
  | .emitF t gd ga gb zf slow => Sys2Proof.Machine.execEmitF t gd ga gb zf slow s
  | .voidItem t gd ga gb zf slow => Sys2Proof.Machine.execVoidItem t gd ga gb zf slow s
  | .lkup t gd ga gb a table zf => Sys2Proof.Machine.execLkup t gd ga gb a table zf s
  | .lkupInsert t gd ga gb a table zf => Sys2Proof.Machine.execLkupInsert t gd ga gb a table zf s
  | .lkupDelete t gd ga gb a table zf => Sys2Proof.Machine.execLkupDelete t gd ga gb a table zf s
  | .lkwait t zf => Sys2Proof.Machine.execLkwait t zf s
  | .beq t ga gb zf target => Sys2Proof.Machine.execBeq t ga gb zf target s
  | .bne t ga gb zf target => Sys2Proof.Machine.execBne t ga gb zf target s
  | .blt t ga gb zf target => Sys2Proof.Machine.execBlt t ga gb zf target s
  | .bge t ga gb zf target => Sys2Proof.Machine.execBge t ga gb zf target s
  | .bltu t ga gb zf target => Sys2Proof.Machine.execBltu t ga gb zf target s
  | .bgeu t ga gb zf target => Sys2Proof.Machine.execBgeu t ga gb zf target s
  | .bbs t ga bit zf target => Sys2Proof.Machine.execBbs t ga bit zf target s
  | .bbc t ga bit zf target => Sys2Proof.Machine.execBbc t ga bit zf target s
  | .jump t gd zf target => Sys2Proof.Machine.execJump t gd zf target s
  | .jal t gd zf target => Sys2Proof.Machine.execJal t gd zf target s
  | .jr t gd ga gb zf => Sys2Proof.Machine.execJr t gd ga gb zf s
  | .jalr t gd ga gb zf => Sys2Proof.Machine.execJalr t gd ga gb zf s
  | .dlock t gd ga gb imm => Sys2Proof.Machine.execDlock t gd ga gb imm s
  | .dtry t gd ga gb imm => Sys2Proof.Machine.execDtry t gd ga gb imm s
  | .dunlk t gd ga gb imm => Sys2Proof.Machine.execDunlk t gd ga gb imm s
  | .dcres t gd ga gb imm => Sys2Proof.Machine.execDcres t gd ga gb imm s
  | .dcput t gd ga gb imm => Sys2Proof.Machine.execDcput t gd ga gb imm s
  | .dccmt t gd ga gb imm => Sys2Proof.Machine.execDccmt t gd ga gb imm s
  | .dctake t gd ga gb imm => Sys2Proof.Machine.execDctake t gd ga gb imm s
  | .yieldRun t gd ga gb zf => Sys2Proof.Machine.execYieldRun t gd ga gb zf s
  | .fence t gd ga gb zf => Sys2Proof.Machine.execFence t gd ga gb zf s
  | .brk t gd ga gb zf => Sys2Proof.Machine.execBrk t gd ga gb zf s
  | .endH t gd ga gb zf => Sys2Proof.Machine.execEndH t gd ga gb zf s
  | .resumeH t gd ga gb zf => Sys2Proof.Machine.execResumeH t gd ga gb zf s
  | .svend t gd ga gb zf => Sys2Proof.Machine.execSvend t gd ga gb zf s
  | .svrst t gd ga gb zf => Sys2Proof.Machine.execSvrst t gd ga gb zf s
  | .cpst t gd unit cls zf => Sys2Proof.Machine.execCpst t gd unit cls zf s
  | .waitcp t gd unit cls zf => Sys2Proof.Machine.execWaitcp t gd unit cls zf s
  | .chainOp t unit ga gb notify imm => Sys2Proof.Machine.execChainOp t unit ga gb notify imm s
  | .hashOp t unit ga gb notify imm => Sys2Proof.Machine.execHashOp t unit ga gb notify imm s
  | .signOp t unit ga gb notify imm => Sys2Proof.Machine.execSignOp t unit ga gb notify imm s
  | .publicKey t unit ga gb notify imm => Sys2Proof.Machine.execPublicKey t unit ga gb notify imm s
  | .encodeOp t unit ga gb notify imm => Sys2Proof.Machine.execEncodeOp t unit ga gb notify imm s
  | .companionOp t cv func ga gb imm => Sys2Proof.Machine.execCompanionOp t cv func ga gb imm s
  | .mrd gd ga gb => Sys2Proof.Machine.execMrd gd ga gb s
  | .mwr gd ga gb => Sys2Proof.Machine.execMwr gd ga gb s
  | .mwait gd ga gb => Sys2Proof.Machine.execMwait gd ga gb s
  | .mrst gd ga gb => Sys2Proof.Machine.execMrst gd ga gb s
  | .configurationRequest write register enables value => Sys2Proof.Machine.execConfigurationRequest write register enables value s
  | .bootTimeout => Sys2Proof.Machine.execBootTimeout s
  | .blockLock => Sys2Proof.Machine.execBlockLock s
  | .laneDeskew => Sys2Proof.Machine.execLaneDeskew s
  | .stoppedSheetSpan => Sys2Proof.Machine.execStoppedSheetSpan s
  | .managementProcessorHalt halt => Sys2Proof.Machine.execManagementProcessorHalt halt s

end Sys2Proof.Machine
end

