-- ==== Sys2Proof/Safety.lean ====
section
/-!
DEFINITION. The terms in which the statements speak: the next state of an outcome, canonical memories, fuses that only advance, a
command that the firmware accepts and completes, and what the mere reporting of happenings may change.
-/
namespace Sys2Proof.Machine

/-- The next state of an outcome, if it is one. -/
def nextOf (o : Res) : Option State :=
  match o with
  | .next s => some s
  | _ => none

/-! ### Good states -/

/-- Host memory and DRAM stand in canonical form: addresses strictly rising, no byte equal to an unlisted one. -/
def State.memWf (s : State) : Prop := Memory.wf s.host.mem = true ∧ Memory.wf s.dram.mem = true

/-- Fuses only advance: the lifecycle, the revocations and the rollback count never go back, and a key once programmed stands. -/
structure Fuses.Le (a b : Fuses) : Prop where
  deployed : a.deployed = true → b.deployed = true
  retired : a.retired = true → b.retired = true
  revoke : ∀ i, a.revoke.getLsbD i = true → b.revoke.getLsbD i = true
  rollback : a.rollback ≤ b.rollback
  deviceKey : ∀ k, a.deviceKey = some k → b.deviceKey = some k
  debugKey : ∀ k, a.debugKey = some k → b.debugKey = some k

/-! ### Reporting -/

/-- What reporting leaves alone at port H: all but mailboxes, the tails of the two queues, what waits for them, host memory, interrupt causes
and the record of an access error. -/
structure HostPort.Quiet (a b : HostPort) : Prop where
  fwReady : b.fwReady = a.fwReady
  fwVersion : b.fwVersion = a.fwVersion
  lastReset : b.lastReset = a.lastReset
  eventMask : b.eventMask = a.eventMask
  exr : b.exr = a.exr
  inj : b.inj = a.inj
  injLast : b.injLast = a.injLast
  causes : b.causes = a.causes
  msixTable : b.msixTable = a.msixTable
  msixPba : b.msixPba = a.msixPba
  msixEnable : b.msixEnable = a.msixEnable
  msixFmask : b.msixFmask = a.msixFmask
  busMaster : b.busMaster = a.busMaster
  d3hot : b.d3hot = a.d3hot
  ecrcGen : b.ecrcGen = a.ecrcGen
  ecrcCheck : b.ecrcCheck = a.ecrcCheck
  aerEcrc : b.aerEcrc = a.aerEcrc
  bar0 : b.bar0 = a.bar0
  readRequest : b.readRequest = a.readRequest
  readData : b.readData = a.readData
  fwRegion : b.fwRegion = a.fwRegion
  mpRegs : b.mpRegs = a.mpRegs
  mpCtl : b.mpCtl = a.mpCtl
  cq : b.cq = { a.cq with tail := b.cq.tail, phase := b.cq.phase }
  eq : b.eq = { a.eq with tail := b.eq.tail, phase := b.eq.phase }

/-- Only flags, counts, trace records, events and completions may differ. -/
structure Reports (s t : State) : Prop where
  pending : t.pending = s.pending
  totals : t.totals = s.totals
  cntTot : t.cntTot = s.cntTot
  cntSheet : t.cntSheet = s.cntSheet
  failover : t.failover = s.failover
  sheets : t.sh = { s.sh with firstSeen := t.sh.firstSeen }
  line : t.line = s.line
  host : s.host.Quiet t.host
  cab : t.cab = s.cab
  disp : t.disp = s.disp
  cores : t.cores = s.cores
  dov : t.dov = s.dov
  lk : t.lk = s.lk
  cop : t.cop = s.cop
  dram : t.dram = s.dram
  ev : t.ev = s.ev
  sec : t.sec = { s.sec with trace := t.sec.trace }
  pow : t.pow = s.pow

/-! ### Mailbox commands -/

/-- A parameter of the command that a mailbox holds: `n` payload bytes from `off`, little-endian. -/
def par (s : State) (m : BitVec 4) (off n : Nat) : Nat := leAt (mbxPayload s m.toNat) off n

/-- Can a completion be reported at once: the completion queue is disabled, or it has room and holds no earlier one (R626, R627)? -/
def completionRoom (s : State) : Bool :=
  !s.host.cq.enabled || (s.host.held.isEmpty && !ringFull s s.host.cq.head s.host.cq.tail s.host.cq.entries)

/-- Mailbox `m` holds command `c`, which may start (R622, R623), whose header R761 and R63 pass, which the lifecycle state and the debug
level allow (R619), and whose payload R618 and R628 pass. -/
structure Accepted (c : CmdSpec) (m : BitVec 4) (s : State) : Prop where
  opcode : mbxOpcode s m.toNat = c.op
  start : mayStart s m.toNat = true
  header : headerFault s m.toNat c.load = none
  granted : cmdDenied s c.op (mbxPayload s m.toNat) = false
  furnish : (furnishOp c.op && furnishHeld s) = false
  target : c.load = true → loadFault s (mbxField s m.toNat 8 1) = none
  payload : payloadFault c (startCmd m.toNat s) (mbxPayload s m.toNat) = none

/-- Mailbox `m` reports its command's end with a status, and TAG echoed (R621, Table 12.6). -/
structure Completed (m : BitVec 4) (status : Byte) (s t : State) : Prop where
  busy : t.host.busy.getLsbD m.toNat = false
  done : t.host.done.getLsbD m.toNat = true
  status : tabGet 0 t.host.status m.toNat = status
  tag : tabGet 0 t.host.tag m.toNat = BitVec.ofNat 16 (mbxField s m.toNat 2 2)

/-- The payload of mailbox `m` begins with the bytes returned (R620). -/
def Returns (m : BitVec 4) (bs : List Byte) (t : State) : Prop := tabRead 0 t.host.mbx (256 * m.toNat + 16) bs.length = bs

/-- A command takes effect: the outcome is a next state in which mailbox `m` reports OK and its payload begins with `bs`, and which differs
from `f` of the state with the command taken up only by reporting. -/
def Effect (o : Res) (m : BitVec 4) (s : State) (f : State → State) (bs : List Byte) : Prop :=
  ∃ t, o = .next t ∧ Completed m 0 s t ∧ Returns m bs t ∧ Reports (f (startCmd m.toNat s)) t

/-- The `n` counters of an object of a scope are returned as they stood at the last tick, after its sheet number, and cleared where the
payload byte at `clear` is 1 (R152). -/
def CountersRead (o : Res) (m : BitVec 4) (s : State) (sc : Scope) (x clear n : Nat) : Prop :=
  Effect o m s (fun a => if par s m clear 1 = 1 then clearCounters sc x n a else a)
    (leBytes 8 s.cntSheet.toNat ++ (List.range n).flatMap (fun i => leBytes 8 (tabGet 0 s.cntTot (cntKey sc x i))))

/-- A command takes effect: the outcome is a next state in which mailbox `m` reports OK and of which `p` holds. -/
def Ends (o : Res) (m : BitVec 4) (s : State) (p : State → Prop) : Prop := ∃ t, o = .next t ∧ Completed m 0 s t ∧ p t

/-- Something happens: the outcome is a next state that differs from `u` only by reporting. -/
def Happens (o : Res) (u : State) : Prop := ∃ t, o = .next t ∧ Reports u t

/-- A load command of `n` entries changes the content of the bank being built by `f`, counts its entries for the unit, and leaves the unit
open (R60-R62). -/
def Loads (o : Res) (m : BitVec 4) (s : State) (unit n : Nat) (f : Bank → Bank) : Prop :=
  ∀ b, s.sh.next = some b → Effect o m s (updSheets (fun x => { x with next := some { b with
    bank := f b.bank, written := tabUpd 0 b.written unit (· + n), complete := b.complete &&& ~~~ BitVec.ofNat 18 (2 ^ unit) } })) []

/-- Nothing waits for the end of an item: no power-fail sequence runs, no reset stands behind one, and no tick has only its actions 6 and 7
left (R32, R520, R666). -/
structure Settled (s : State) : Prop where
  quiet : s.ev.pf = .idle
  reset : s.pow.after = .none
  tick : s.sh.tickOwed = true → tickDue s = true

/-! ### Core instructions -/

/-- Thread `t` may issue an instruction that reads `srcs` and writes `dsts`: it runs with nothing left of an earlier instruction (R329),
the word at its PC has no error mark (R579, R581) and is no reserved one (R274), no register of the instruction is pending, none it reads
and no special register has a parity error, and its handler is within its limit (R318, R319, R305, R44). -/
structure CanIssue (s : State) (t : BitVec 9) (srcs dsts : List (BitVec 5)) : Prop where
  runs : mayIssue s t.toNat = true
  after : (thr s t.toNat).after = .none
  word : instrBad s t.toNat = false
  strong : s.cores.imemWeak.contains (fetchKey s t.toNat) = false
  legal : reservedWord (wordAt s t.toNat) = false
  settled : (srcs ++ dsts).all (fun r => (tabFind (thr s t.toNat).pending r.toNat).isNone) = true
  parity : srcs.all (fun r => !(thr s t.toNat).badRegs.contains r.toNat) = true
  special : (thr s t.toNat).badRegs.all (fun r => decide (r < 32)) = true
  limit : (thr s t.toNat).terminated = true → (thr s t.toNat).handlerCount < 1024

/-- One step of thread `t` that leaves it as `x`, and everything but it as `a` has it, reporting, the counts of issued instructions
and the mark of a breakpoint apart. -/
def StepTo (o : Res) (t : BitVec 9) (x : Thread) (a : State) : Prop :=
  ∃ u, o = .next u ∧ thr u t.toNat = { x with handlerCount := (thr u t.toNat).handlerCount, broke := none } ∧
    (∀ k, k ≠ t.toNat → thr u k = thr a k) ∧
    Reports { a with cores := { a.cores with threads := u.cores.threads, stepping := u.cores.stepping } } u

/-- Thread `t` goes on at the next address, general register `gd` holding `v` (g0 nothing), and nothing else changes. -/
def GdGets (o : Res) (t : BitVec 9) (s : State) (gd : BitVec 5) (v : Word36) : Prop :=
  StepTo o t { putG gd v (thr s t.toNat) with pc := (thr s t.toNat).pc + 1 } s

end Sys2Proof.Machine
end

