-- ==== Sys2Proof/Certificates/Slice0/Obligations.lean ====
section
/-!
DEFINITION. The statements about the model: what every command does, in the order of the spec's chapters, then what the machine as a whole
keeps.
-/
open Sys2Proof Sys2Proof.Machine
/-- Commands 0x00xx that pass their checks take effect (Table 12.16): DEVICE_QUERY returns the device's identity and state;
COMPLETION_QUEUE_SET and EVENT_QUEUE_SET enable a disabled queue at its address with head 0 (R766), or disable it; EVENT_MASK sets or clears
COUNT mask bits from FIRST; MSIX_MAP gives a cause its vector and HOLDOFF; FW_REGION_SET, before DRAM_START, gives the firmware region;
EXR_SET and INJ_SET enable a disabled ring with head and tail 0, or disable a ring, which keeps no address (R655); RING_STATUS and
HOST_COUNTERS return what they count; ECHO returns its payload. -/
def Obligations.HostCommandsTakeEffect : Prop :=
  ∀ (s : State) (m : BitVec 4),
    (Accepted completionQueueSet m s → s.pow.after = .none →
      (par s m 10 1 = 1 → s.host.cq.enabled = false → s.host.busMaster = true → s.host.held = [] →
        Ends (exec (.completionQueueSet m) s) m s (fun t => t.host.cq = { t.host.cq with
          enabled := true, address := BitVec.ofNat 64 (par s m 0 8), entries := par s m 8 2, head := 0 })) ∧
      (par s m 10 1 = 0 → Ends (exec (.completionQueueSet m) s) m s (fun t => t.host.cq.enabled = false ∧ t.host.cq.address = 0))) ∧
    (completionRoom s = true →
    (Accepted eventQueueSet m s → par s m 12 1 = 1 → s.host.eq.enabled = false → Ends (exec (.eventQueueSet m) s) m s (fun t =>
      t.host.eq = { t.host.eq with
        enabled := true, address := BitVec.ofNat 64 (par s m 0 8), entries := par s m 8 4, head := 0 })) ∧
    (Accepted eventQueueSet m s → par s m 12 1 = 0 → Ends (exec (.eventQueueSet m) s) m s (fun t =>
      t.host.eq.enabled = false ∧ t.host.eq.address = 0)) ∧
    (Accepted deviceQuery m s → Effect (exec (.deviceQuery m) s) m s id
      (layout [(0x6436, 2), (0xB1, 1), (0, 1), (s.host.fwVersion.toNat, 4), (Config.serial.toNat, 8), (s.sec.lifecycle, 1), (s.sec.level, 1),
        (powerCode s.pow.current, 1), (s.pow.bootSrc.toNat + 4 * s.pow.clkMode.toNat, 1), (ofInt 16 s.pow.temp, 2), (0, 2),
        (s.sh.sheet.toNat, 8), (if s.dram.started then dramInstalled s else 0, 8)])) ∧
    (Accepted eventMaskSet m s → Ends (exec (.eventMask m) s) m s (fun t => ∀ n < 512, t.host.eventMask.getLsbD n =
      (if par s m 0 2 ≤ n ∧ n < par s m 0 2 + par s m 2 2 then par s m 4 1 == 1 else s.host.eventMask.getLsbD n))) ∧
    (Accepted msixMap m s → Effect (exec (.msixMap m) s) m s (updHost (fun h => { h with
      causes := tabSet {} h.causes (par s m 0 1) { vector := BitVec.ofNat 8 (par s m 1 1), holdoff := BitVec.ofNat 16 (par s m 2 2) } })) []) ∧
    (Accepted fwRegionSet m s → s.dram.started = false → Effect (exec (.fwRegionSet m) s) m s
      (updHost (fun h => { h with fwRegion := some (BitVec.ofNat 64 (par s m 0 8), BitVec.ofNat 64 (par s m 8 8)) })) []) ∧
    (Accepted exrSet m s → par s m 1 1 = 1 → (exrOf s (par s m 0 1)).enabled = false → Ends (exec (.exrSet m) s) m s (fun t =>
      exrOf t (par s m 0 1) = { exrOf s (par s m 0 1) with
        enabled := true, slotShift := par s m 2 1, entries := par s m 4 4, address := BitVec.ofNat 64 (par s m 8 8)
        tailWb := BitVec.ofNat 64 (par s m 16 8), residue := par s m 24 2, head := 0, tail := 0 } ∧
      ∀ r, r ≠ par s m 0 1 → exrOf t r = exrOf s r)) ∧
    (Accepted exrSet m s → par s m 1 1 = 0 → Ends (exec (.exrSet m) s) m s (fun t =>
      (exrOf t (par s m 0 1)).enabled = false ∧ (exrOf t (par s m 0 1)).address = 0 ∧
      ∀ r, r ≠ par s m 0 1 → exrOf t r = exrOf s r)) ∧
    (Accepted injSet m s → par s m 1 1 = 1 → (injOf s (par s m 0 1)).enabled = false → ticking s = true →
      Ends (exec (.injSet m) s) m s (fun t => injOf t (par s m 0 1) = { injOf s (par s m 0 1) with
        enabled := true, cls := par s m 2 1, entries := par s m 4 4, address := BitVec.ofNat 64 (par s m 8 8)
        headWb := BitVec.ofNat 64 (par s m 16 8), head := 0, tail := 0, sinceWb := 0 } ∧
      ∀ r, r ≠ par s m 0 1 → injOf t r = injOf s r)) ∧
    (Accepted injSet m s → par s m 1 1 = 0 → Ends (exec (.injSet m) s) m s (fun t =>
      (injOf t (par s m 0 1)).enabled = false ∧ (injOf t (par s m 0 1)).address = 0 ∧
      ∀ r, r ≠ par s m 0 1 → injOf t r = injOf s r)) ∧
    (Accepted ringStatus m s → par s m 0 1 = 0 → Effect (exec (.ringStatus m) s) m s id
      (layout [((exrOf s (par s m 1 1)).head, 4), ((exrOf s (par s m 1 1)).tail, 4), (b2n (exrOf s (par s m 1 1)).enabled, 1), (0, 7),
        ((exrOf s (par s m 1 1)).frames, 8), ((exrOf s (par s m 1 1)).bytes, 8), ((exrOf s (par s m 1 1)).drops, 8)])) ∧
    (Accepted ringStatus m s → par s m 0 1 = 1 → Effect (exec (.ringStatus m) s) m s id
      (layout [((injOf s (par s m 1 1)).head, 4), ((injOf s (par s m 1 1)).tail, 4), (b2n (injOf s (par s m 1 1)).enabled, 1),
        (b2n (ownerXoff s (32 + (injOf s (par s m 1 1)).cls)), 1), (0, 6), ((injOf s (par s m 1 1)).frames, 8),
        ((injOf s (par s m 1 1)).bytes, 8), ((injOf s (par s m 1 1)).bad, 8)])) ∧
    (Accepted hostCounters m s → CountersRead (exec (.hostCounters m) s) m s .host 0 0 12) ∧
    (Accepted echoCmd m s → Effect (exec (.echo m) s) m s id (mbxPayload s m.toNat)))
/-- Writes and reads of port H while it answers (R605). With FW_READY, MBX_GO accepts idle mailboxes, lowest first (R615), and reports event
36 for a busy one (R616); a head or tail moves to a value in its ring order and any other is ACCESS_ERROR kind 5 at its offset (R612); a
write of 1 clears a flag bit (R10); a narrow write is kind 1 and has no effect (R609), a write to a busy mailbox kind 4 (R617), a write to
an idle one stores its bytes (R614); a read of DURABLE_LO latches D_HI (R516), and an RC total is returned and cleared (R12). -/
def Obligations.PortHAccessesTakeEffect : Prop :=
  ∀ s : State, hostOpen s = true →
    (∀ mask : BitVec 16, s.host.fwReady = true → (∀ m < 16, mask.getLsbD m = true → s.host.busy.getLsbD m = false ∧
        definedOps.contains (mbxOpcode s m) = true) →
      (∀ m ∈ s.host.accepted, definedOps.contains (mbxOpcode s m) = true) →
      exec (.mbxGo mask) s = .next (updHost (fun h => { h with
        busy := h.busy ||| mask, done := h.done &&& ~~~ mask, accepted := h.accepted ++ maskList 16 mask.toNat }) s)) ∧
    (∀ m < 16, s.host.fwReady = true → s.host.busy.getLsbD m = true → (∀ q ∈ s.host.accepted, definedOps.contains (mbxOpcode s q) = true) →
      ∃ t, exec (.mbxGo (BitVec.ofNat 16 (2 ^ m))) s = .next t ∧ (flagReg t 0xC).getLsbD 1 = true ∧ t.host.accepted = s.host.accepted ∧
        t.host.busy = s.host.busy) ∧
    (∀ v : BitVec 32, exec (.cqHeadWrite v) s = .next (
      if v.toNat % 65536 < s.host.cq.entries ∧ (v.toNat % 65536 + s.host.cq.entries - s.host.cq.head) % s.host.cq.entries ≤
        (s.host.cq.tail + s.host.cq.entries - s.host.cq.head) % s.host.cq.entries
      then updHost (fun h => { h with cq := { h.cq with head := v.toNat % 65536 } }) s else accessError 5 0x1004 s)) ∧
    (∀ v : BitVec 32, exec (.eqHeadWrite v) s = .next (
      if v.toNat % 65536 < s.host.eq.entries ∧ (v.toNat % 65536 + s.host.eq.entries - s.host.eq.head) % s.host.eq.entries ≤
        (s.host.eq.tail + s.host.eq.entries - s.host.eq.head) % s.host.eq.entries
      then updHost (fun h => { h with eq := { h.eq with head := v.toNat % 65536 } }) s else accessError 5 0x100C s)) ∧
    (∀ (r : BitVec 4) (v : BitVec 32), ∃ t, exec (.exrHeadWrite r v) s = .next t ∧
      if v.toNat % 65536 < (exrOf s r.toNat).entries ∧
        (v.toNat % 65536 + (exrOf s r.toNat).entries - (exrOf s r.toNat).head) % (exrOf s r.toNat).entries ≤
        ((exrOf s r.toNat).tail + (exrOf s r.toNat).entries - (exrOf s r.toNat).head) % (exrOf s r.toNat).entries
      then exrOf t r.toNat = { exrOf s r.toNat with head := v.toNat % 65536 } ∧ ∀ q, q ≠ r.toNat → exrOf t q = exrOf s q
      else t = accessError 5 (0x1100 + 8 * r.toNat) s) ∧
    (∀ (r : BitVec 4) (v : BitVec 32), ∃ t, exec (.injTailWrite r v) s = .next t ∧
      if v.toNat % 65536 < (injOf s r.toNat).entries ∧
        (v.toNat % 65536 + (injOf s r.toNat).entries - (injOf s r.toNat).tail) % (injOf s r.toNat).entries ≤
        (((injOf s r.toNat).head + (injOf s r.toNat).entries - 1) % (injOf s r.toNat).entries + (injOf s r.toNat).entries -
          (injOf s r.toNat).tail) % (injOf s r.toNat).entries
      then injOf t r.toNat = { injOf s r.toNat with tail := v.toNat % 65536 } ∧ ∀ q, q ≠ r.toNat → injOf t q = injOf s q
      else t = accessError 5 (0x1180 + 8 * r.toNat) s) ∧
    (∀ (o : BitVec 25) (v : BitVec 32), o.toNat % 4 = 0 → flagRegs.contains o.toNat = true → ∃ t, exec (.registerWrite o 0xF v) s = .next t ∧
      flagReg t o.toNat = flagReg s o.toNat &&& ~~~ v ∧ ∀ q, q ≠ o.toNat → flagReg t q = flagReg s q) ∧
    (∀ (o : BitVec 25) (e : BitVec 4) (v : BitVec 32), e ≠ 0xF →
      exec (.registerWrite o e v) s = .next (accessError 1 (o.toNat / 4 * 4) s)) ∧
    (∀ (o : BitVec 25) (v : BitVec 32), o.toNat % 4 = 0 → 0x10000 ≤ o.toNat → o.toNat < 0x11000 → ∃ t, exec (.registerWrite o 0xF v) s = .next t ∧
      if s.host.busy.getLsbD ((o.toNat - 0x10000) / 256) = true then t = accessError 4 o.toNat s
      else leNat (tabRead 0 t.host.mbx (o.toNat - 0x10000) 4) = v.toNat) ∧
    (∃ t, exec .dLoRead s = .next t ∧ t.host.readData.toNat = s.ev.durable.toNat % 2 ^ 32 ∧
      t.ev.latchHi.toNat = s.ev.durable.toNat / 2 ^ 32 % 2 ^ 16) ∧
    (∀ o : BitVec 25, tabGet 0 s.totals o.toNat < 2 ^ 32 → ∃ t, exec (.rcRead o) s = .next t ∧
      t.host.readData.toNat = tabGet 0 s.totals o.toNat ∧ tabGet 0 t.totals o.toNat = 0 ∧
      ∀ q, q ≠ o.toNat → tabGet 0 t.totals q = tabGet 0 s.totals q)
/-- What port H and the management processor do of themselves. A held completion is written once the queue has room, and the L3 reset of a
CHIP_RESET follows its own (R626, R669); a merged entry is posted once the event queue has (R632); a cause with uncovered entries sends its
vector's message, or sets its pending bit while masked, and that serves every cause of the vector whose HOLDOFF has passed (R646-R648); a
configuration write sets Bus Master Enable (R606), Table 12.1 fixes two reads; MRD and MWR read and write one device control register, MRST
resets the device, at D3 the processor halts and resumes (Table 12.15, R720). MWAIT answers an event source, or waits: which, the spec
leaves open (log entry 2). -/
def Obligations.HostSideAndManagementProcessor : Prop :=
  ∀ s : State,
    (∀ c r, s.host.held = c :: r → s.host.cq.enabled = true → ringFull s s.host.cq.head s.host.cq.tail s.host.cq.entries = false →
      exec .cqHeldCompletion s = .next (sweepBad (afterSeal (postCompletion c (updHost (fun h => { h with held := r }) s))))) ∧
    (∀ src e, s.host.merged = [(src, e)] → s.host.eq.enabled = true → ringFull s s.host.eq.head s.host.eq.tail s.host.eq.entries = false →
      exec .eventMergedPost s = .next (postEvent src e.count e.sheetLo e.data e.trunc true (updHost (fun h => { h with merged := [] }) s))) ∧
    (∀ (c : BitVec 6) (due : BitVec 34), c.toNat ≤ 33 → s.host.uncovered.getLsbD c.toNat = true → s.host.msixEnable = true →
      s.host.busMaster = true → ∃ t, exec (.msixMessage ⟨c, due⟩) s = .next t ∧
        (∀ d < 34, t.host.uncovered.getLsbD d = (s.host.uncovered.getLsbD d && !decide (d = c.toNat ∨
          (tabGet {} s.host.causes d).vector.toNat % 64 = (tabGet {} s.host.causes c.toNat).vector.toNat % 64 ∧
            ((tabGet {} s.host.causes d).holdoff = 0 ∨ due.getLsbD d = true)))) ∧
        if msixMasked s ((tabGet {} s.host.causes c.toNat).vector.toNat % 64) = true
        then t.host.msixPba.getLsbD ((tabGet {} s.host.causes c.toNat).vector.toNat % 64) = true ∧ t.host.mem = s.host.mem
        else t.host.msixPba = s.host.msixPba ∧ t.host.mem = memWrite s.host.mem
          (msixDword s (4 * ((tabGet {} s.host.causes c.toNat).vector.toNat % 64) + 1) ++
            msixDword s (4 * ((tabGet {} s.host.causes c.toNat).vector.toNat % 64))).toNat
          (leBytes 4 (msixDword s (4 * ((tabGet {} s.host.causes c.toNat).vector.toNat % 64) + 2)).toNat)) ∧
    (configOpen s = true → ∀ (e : BitVec 4) (v : BitVec 32),
      (e.getLsbD 0 = true → ∃ t, exec (.configurationRequest true 1 e v) s = .next t ∧ t.host.busMaster = v.getLsbD 2) ∧
      (∃ t, exec (.configurationRequest false 0 e v) s = .next t ∧ t.host.readData = 0x64361F7C) ∧
      (∃ t, exec (.configurationRequest false 2 e v) s = .next t ∧ t.host.readData = 0x028000B1) ∧
      (∃ t, exec (.configurationRequest false 1 e v) s = .next t ∧ t.host.readData.getLsbD 2 = s.host.busMaster)) ∧
    (mpRuns s = true → ∀ gd ga gb : BitVec 5,
      (∃ t, exec (.mrd gd ga gb) s = .next t ∧ ∃ v : BitVec 32, tabFind t.host.mpCtl ((mpReg s ga).toNat % 2 ^ 24) = some v ∧
        (∀ w, tabFind s.host.mpCtl ((mpReg s ga).toNat % 2 ^ 24) = some w → v = w) ∧ (gd ≠ 0 → mpReg t gd = v.setWidth 36) ∧
        ∀ g, g ≠ gd → mpReg t g = mpReg s g) ∧
      (∃ t, exec (.mwr gd ga gb) s = .next t ∧ tabFind t.host.mpCtl ((mpReg s ga).toNat % 2 ^ 24) = some ((mpReg s gb).setWidth 32) ∧
        (∀ q, q ≠ (mpReg s ga).toNat % 2 ^ 24 → tabFind t.host.mpCtl q = tabFind s.host.mpCtl q) ∧ ∀ g, mpReg t g = mpReg s g) ∧
      (∃ t, exec (.mwait gd ga gb) s = .next t ∧ (∀ g, g ≠ gd → mpReg t g = mpReg s g) ∧
        (mpReg t gd = mpReg s gd ∨ ∃ src < 512, mpReg t gd = BitVec.ofNat 36 src)) ∧
      exec (.mrst gd ga gb) s = .next (pulseL3 srcFatal s)) ∧
    (s.sec.level = 3 → (∃ t, exec (.managementProcessorHalt true) s = .next t ∧ t.sec.mpHalted = true) ∧
      (∃ t, exec (.managementProcessorHalt false) s = .next t ∧ t.sec.mpHalted = false))
/-- Commands 0x0D01 to 0x0D06 and 0x0D20 that pass their checks take effect (Table 1.13): SHEET_SET on a stopped generator loads the
counter, the period and the window, and a copied next bank too (R17, R20, R763); SHEET_START starts it at once or at the next PTP second,
its sheet the first of the second (R477); SHEET_ALIGN waits for the next PTP second (R74); SHEET_NEXT loads the next bank and counts its
entry (R59, R61, R62); TICK_SUBSCRIBE sets one slot (R34); SHEET_QUERY and LATE_COUNTERS return what they describe (R23, R76). -/
def Obligations.SheetCommandsTakeEffect : Prop :=
  ∀ (s : State) (m : BitVec 4), completionRoom s = true →
    (Accepted sheetSet m s → s.sh.running = false → Ends (exec (.sheetSet m) s) m s (fun t =>
      t.sh.sheet = BitVec.ofNat 48 (par s m 4 8) ∧ t.sh.cur = { s.sh.cur with
        period := BitVec.ofNat 9 (par s m 0 2), window := BitVec.ofNat 4 (par s m 2 1) } ∧
      t.sh.furnish = s.sh.furnish ∧ t.sh.running = false ∧ ∀ b, s.sh.next = some b → t.sh.next = some (
        if tabGet 0 b.written 17 = 0 then { b with bank := { b.bank with
          period := BitVec.ofNat 9 (par s m 0 2), window := BitVec.ofNat 4 (par s m 2 1) } } else b))) ∧
    (Accepted sheetStart m s → s.sh.running = false → s.sh.furnish ≠ 0 → par s m 0 1 = 0 → Effect (exec (.sheetStart m) s) m s
      (fun a => updEv (fun e => { e with second := s.line.ptp.time.sec, secondSheet := s.sh.sheet })
        (updSheets (fun x => { x with running := true, startReq := false, tickTime := s.line.ptp.time }) a)) []) ∧
    (Accepted sheetStart m s → s.sh.running = false → s.sh.furnish ≠ 0 → par s m 0 1 = 1 → Effect (exec (.sheetStart m) s) m s
      (updSheets (fun x => { x with startReq := true })) []) ∧
    (Accepted sheetAlign m s → Effect (exec (.sheetAlign m) s) m s
      (updSheets (fun x => { x with alignReq := some (par s m 0 1 == 1) })) []) ∧
    (Accepted sheetQuery m s → Effect (exec (.sheetQuery m) s) m s id
      (layout [(s.sh.sheet.toNat, 8), (s.sh.tickTime.sec.toNat, 6), (s.sh.tickTime.ns.toNat, 4), (s.sh.cur.period.toNat, 2),
        (s.sh.cur.window.toNat, 1), (b2n s.sh.aligned + 2 * b2n s.sh.alignEn + 4 * b2n (ticking s), 1), (s.sh.furnish.toNat, 1),
        (if s.sh.pending.isSome then (nextFurnish s.sh.furnish).toNat else 0, 1), ((s.sh.pending.map (fun c => c.sheet.toNat)).getD 0, 8),
        ((oldestFurnish s).toNat, 1)])) ∧
    (∀ b, Accepted sheetNext m s → s.sh.next = some b → Effect (exec (.sheetNext m) s) m s (updSheets (fun x => { x with next := some { b with
      bank := { b.bank with period := BitVec.ofNat 9 (par s m 0 2), window := BitVec.ofNat 4 (par s m 2 1) }
      written := tabSet 0 b.written 17 (tabGet 0 b.written 17 + 1)
      complete := b.complete &&& 0x1FFFF } })) []) ∧
    (Accepted tickSubscribe m s → Ends (exec (.tickSubscribe m) s) m s (fun t =>
      tabGet {} t.sh.subs (par s m 0 1) = { tabGet {} s.sh.subs (par s m 0 1) with
        enable := par s m 1 1 == 1, domain := BitVec.ofNat 16 (par s m 2 2), divisor := BitVec.ofNat 16 (par s m 4 2)
        hostEvent := par s m 6 1 == 1 } ∧
      ∀ k, k ≠ par s m 0 1 → tabGet {} t.sh.subs k = tabGet {} s.sh.subs k)) ∧
    (Accepted lateCounters m s → Effect (exec (.lateCounters m) s) m s
      (fun a => if par s m 2 1 = 1 then updSheets (fun x => { x with late := tabClear x.late ((par s m 0 1 * 8 + par s m 1 1) * 4) 4 }) a else a)
      (layout [(tabGet 0 s.sh.late ((par s m 0 1 * 8 + par s m 1 1) * 4), 8), (tabGet 0 s.sh.late ((par s m 0 1 * 8 + par s m 1 1) * 4 + 1), 8),
        (tabGet 0 s.sh.late ((par s m 0 1 * 8 + par s m 1 1) * 4 + 2), 8), (tabGet 0 s.sh.late ((par s m 0 1 * 8 + par s m 1 1) * 4 + 3), 8)]))
/-- Commands 0x0D10 to 0x0D14 that pass their checks take effect: FURNISH_BEGIN opens complete copies of the current banks for F + 1 (R60),
FURNISH_CLOSE_UNIT completes a unit whose count agrees (R61), FURNISH_COMMIT with every asked unit complete is accepted for a sheet in range
while the generator runs, and takes effect at once while it is stopped (R66), FURNISH_ABORT cancels a pending commit and, with DISCARD, the
next banks (R71), FURNISH_STATUS returns the furnish registers. -/
def Obligations.FurnishCommandsTakeEffect : Prop :=
  ∀ (s : State) (m : BitVec 4), completionRoom s = true →
    (Accepted furnishBegin m s → par s m 0 1 = (nextFurnish s.sh.furnish).toNat → s.sh.old = none → s.sh.pending = none → s.sh.next = none →
      Effect (exec (.furnishBegin m) s) m s
        (updSheets (fun x => { x with next := some { bank := x.cur, complete := 0x3FFFF, written := [] } })) []) ∧
    (∀ b, Accepted furnishCloseUnit m s → s.sh.next = some b → tabGet 0 b.written (unitPlace (par s m 0 1)) = par s m 4 4 →
      Effect (exec (.furnishCloseUnit m) s) m s (updSheets (fun x => { x with next := some { b with
        complete := b.complete ||| BitVec.ofNat 18 (2 ^ unitPlace (par s m 0 1)) } })) []) ∧
    (∀ b, Accepted furnishCommit m s → par s m 0 1 = (nextFurnish s.sh.furnish).toNat → s.sh.pending = none → s.sh.next = some b →
      incompleteUnit s b = none → ticking s = true → s.sh.sheet.toNat + 2 ≤ par s m 8 8 → par s m 8 8 ≤ s.sh.sheet.toNat + 1048576 →
      Effect (exec (.furnishCommit m) s) m s (updSheets (fun x => { x with
        pending := some { sheet := BitVec.ofNat 48 (par s m 8 8), asked := none, failed := [] } })) []) ∧
    (∀ b, Accepted furnishCommit m s → par s m 0 1 = (nextFurnish s.sh.furnish).toNat → s.sh.pending = none → s.sh.next = some b →
      incompleteUnit s b = none → ticking s = false → Ends (exec (.furnishCommit m) s) m s (fun t =>
        t.sh.furnish = nextFurnish s.sh.furnish ∧ t.sh.cur = b.bank ∧ t.sh.old = some (s.sh.furnish, s.sh.cur) ∧ t.sh.next = none ∧
        t.sh.pending = none ∧ t.sh.sheet = s.sh.sheet)) ∧
    (Accepted furnishAbort m s → par s m 0 1 = (nextFurnish s.sh.furnish).toNat → s.sh.next.isSome = true →
      (∀ c, s.sh.pending = some c → 2 ^ 47 ≤ (s.sh.sheet + 1 - c.sheet).toNat) → Effect (exec (.furnishAbort m) s) m s
        (updSheets (fun x => { x with pending := none, next := if par s m 1 1 = 1 then none else x.next })) []) ∧
    (Accepted furnishStatus m s → Effect (exec (.furnishStatus m) s) m s id
      (layout [(s.sh.furnish.toNat, 1), ((oldestFurnish s).toNat, 1), ((nextFurnish s.sh.furnish).toNat, 1),
        (b2n s.sh.next.isSome + 2 * b2n s.sh.pending.isSome, 1), ((s.sh.next.map (fun b => b.complete.toNat)).getD 0, 16)]))
/-- The tick's own happenings: a ticking generator counts one sheet (R19) unless a reset clears it; a span of the stopped generator lets
first happenings recur (R762); alignment and a start take effect at the PTP second (R25, R26, R74); SHEET_NOW_LO latches (R28); every unit
that is not fenced is asked before a commit's sheet (R67), at which the stamp points switch, or the commit is refused (R68, R69); the old
bank is freed at a tick when no item of its furnish is in flight, voided ones apart (R72, R229). The tick's actions 6 and 7 follow the last
of its actions 2 to 5 (R32): settle, which leaves a state alone where nothing waits for them. -/
def Obligations.TicksAndCommitsTakeEffect : Prop :=
  ∀ s : State,
    (ticking s = true → ∃ t, exec .sheetTick s = .next t ∧ (s.sh.tickOwed = false → t.sh.sheet = s.sh.sheet + 1 ∨ t.sh.sheet = 0)) ∧
    (ticking s = false → exec .stoppedSheetSpan s = .next (updSheets (fun x => { x with firstSeen := [] }) s)) ∧
    (s.sh.alignReq = some true → s.sh.startReq = false → exec .alignTakesEffect s = .next
      (updSheets (fun x => { x with alignEn := true, alignReq := none, realign := false }) s)) ∧
    (s.sh.alignReq = some false → s.sh.startReq = false → ∃ t, exec .alignTakesEffect s = .next t ∧ t.sh = { s.sh with
      alignEn := false, alignReq := none, aligned := false, realign := false, firstSeen := t.sh.firstSeen } ∧
      (s.sh.aligned = true → (flagReg t 0x40C).getLsbD 0 = true) ∧ (s.sh.aligned = false → t.flags = s.flags)) ∧
    (s.sh.alignReq = none → s.sh.startReq = true → exec .alignTakesEffect s = .next
      (updEv (fun e => { e with second := s.line.ptp.time.sec, secondSheet := s.sh.sheet })
        (updSheets (fun x => { x with running := true, alignEn := true, startReq := false, tickTime := s.line.ptp.time }) s))) ∧
    (hostOpen s = true → ∃ t, exec .sheetNowLoRead s = .next t ∧ t.host.readData.toNat = s.sh.sheet.toNat % 2 ^ 32 ∧
      t.sh = { s.sh with latchHi := BitVec.ofNat 16 (s.sh.sheet.toNat / 2 ^ 32), latchFurnish := s.sh.furnish }) ∧
    (∀ (c : PendingCommit) (parity reset : BitVec 18), s.sh.pending = some c → c.asked = none → s.sh.sheet + 1 = c.sheet →
      ∃ f, exec (.furnishConfirmAsk parity reset) s = .next (updSheets (fun x => { x with
        pending := some { c with asked := some (askedUnits s), failed := f } }) (drawFree s)) ∧
        (f = [] ↔ askedUnits s &&& (parity ||| reset ||| ~~~ ((s.sh.next.map (·.complete)).getD 0)) = 0)) ∧
    (∀ c : PendingCommit, s.sh.pending = some c → (s.sh.sheet - c.sheet).toNat < 2 ^ 47 →
      (∀ b, s.sh.next = some b → c.failed = [] → ∃ t, exec .furnishSwitch s = .next (settle t) ∧ t.sh.furnish = nextFurnish s.sh.furnish ∧
        t.sh.cur = b.bank ∧ t.sh.old = some (s.sh.furnish, s.sh.cur) ∧ t.sh.next = none ∧ t.sh.pending = none ∧
        t.sh.sheet = s.sh.sheet ∧ t.disp = s.disp) ∧
      (c.failed ≠ [] → ∃ t, exec .furnishSwitch s = .next (settle t) ∧
        t.sh = { s.sh with pending := none, firstSeen := t.sh.firstSeen } ∧ (flagReg t 0x40C).getLsbD 2 = true ∧ t.disp = s.disp)) ∧
    ((∀ k < 8, (tabGet {} s.sh.subs k).enable = false) → deliverTicks s = s) ∧
    (Settled s → settle s = s) ∧
    (∀ (f : BitVec 8) (b : Bank), s.sh.old = some (f, b) → ticking s = true → s.sh.tickOwed = true →
      (∀ p ∈ s.disp.items, p.2.furnish = f → p.2.voided = true) →
      ∃ t, exec .furnishRetire s = .next (settle t) ∧ t.sh = { s.sh with old := none, firstSeen := t.sh.firstSeen } ∧
        (flagReg t 0x40C).getLsbD 3 = true)
/-- Late items. An ordinary item past its deadline is voided as a late drop and its thread terminated (R43, R44); a lossless item or an event
freezes its domain, and its thread takes a deadline exception, or finds it waiting (R41, R45, R777); at its ceiling it is terminated,
voided as a late loss and XOFF asserted (R49, R51); the XOFF ends at the tick closing the first whole sheet without a frozen domain, which
is judged when that tick begins (R51). The tick's later actions may follow (R32): settle. -/
def Obligations.LateItemsEnd : Prop :=
  ∀ (s : State) (domain seq : BitVec 16) (x : Item), itemOf s (itemKey domain seq) = some x → x.ended = false →
    (x.hard = false → overdue s x = true → exec (.lateOrdinary domain seq) s = .next (settle (admitEvents (voidItem (itemKey domain seq)
      (lateDrop x (terminateItem x (setFlag 0x40C 4 s))))))) ∧
    (x.hard = true → x.late = false → overdue s x = true → ∃ a, a = setFlag 0x40C 4 (putItem (itemKey domain seq) { x with late := true } s) ∧
      (∀ n v, x.place = .onThread n → v = voidSlots n (checkHeld n a) →
        (halted (thr v n) = false → (thr v n).st ≠ .frozen → exec (.lateLossless domain seq) s = .next (settle (enterHandler n 0x20 v))) ∧
        (halted (thr v n) = true → exec (.lateLossless domain seq) s = .next (settle v)) ∧
        (halted (thr v n) = false → (thr v n).st = .frozen → exec (.lateLossless domain seq) s = .next (settle
          (updThr n (fun y => { y with owed := 2 }) (abandonFrozen n v))))) ∧
      ((∀ n, x.place ≠ .onThread n) → exec (.lateLossless domain seq) s = .next
        (settle (updItem (itemKey domain seq) (fun y => { y with lateWaiting := true }) a)))) ∧
    (x.hard = true → x.late = true → pastCeiling s x = true → exec (.ceiling domain seq) s = .next (settle (admitEvents (ceilingPfc x
      (voidItem (itemKey domain seq) (lateLoss x (raise 6 [] (setFlag 0x40C 5 (terminateItem x s))))))))) ∧
    (∀ (p : BitVec 2) (c : BitVec 3), ∃ t, exec (.ceilingXon p c) s = .next (settle t) ∧
      t.sh.ceilingXoff = s.sh.ceilingXoff.filter (fun e => !(s.sh.xonDue.contains e.1 && e.1 / 64 == p.toNat && e.1 % 8 == c.toNat)) ∧
      t = updSheets (fun y => { y with ceilingXoff := t.sh.ceilingXoff, xonDue := t.sh.xonDue }) s) ∧
    (∀ k n, (k, n) ∈ s.sh.ceilingXoff → (k ∈ (beginTick s).sh.xonDue ↔ ∃ n', (k, n') ∈ s.sh.ceilingXoff ∧
      (∀ q ∈ s.disp.items, q.2.port.toNat = k / 64 → q.2.cls.toNat = k % 8 → domainFrozen s q.2.domain = false) ∧
      (s.sh.sheet - n').toNat < 2 ^ 47))
/-- Commands 0x01xx that pass their checks take effect (Table 2.18): PORT_CONFIG configures a disabled port; PORT_ENABLE enables it while
SHEET runs and powers the lanes it names, or takes its links and lanes down (R84); PFC_CONFIG, whose old
settings hold on a subport that transmits until its next frame boundary (Table 2.16); PTP_SET_TIME and PTP_STEP move the clock,
which loses alignment until the next second (R95, R99); PTP_FREQ sets the frequency offset (R96); delays (R101, R102);
TX_TIMESTAMP_READ takes the oldest entries (R107); status and counters are returned. -/
def Obligations.LineCommandsTakeEffect : Prop :=
  ∀ (s : State) (m : BitVec 4), completionRoom s = true →
    (Accepted portConfig m s → (portOf s (par s m 0 1)).enabled = false → Effect (exec (.portConfig m) s) m s
      (setPort (par s m 0 1) { portOf s (par s m 0 1) with
        configured := true, mode := BitVec.ofNat 8 (par s m 1 1), fecNone := par s m 2 1 == 1, interface := BitVec.ofNat 8 (par s m 3 1)
        rxMap := BitVec.ofNat 32 (par s m 4 4), txMap := BitVec.ofNat 32 (par s m 8 4), rxPol := BitVec.ofNat 8 (par s m 12 1)
        txPol := BitVec.ofNat 8 (par s m 13 1), maxFrame := par s m 14 2, presets := BitVec.ofNat 64 (par s m 16 8)
        macs := bytesAt (mbxPayload s m.toNat) 24 48 }) []) ∧
    (Accepted portEnable m s → (portOf s (par s m 0 1)).configured = true → par s m 1 1 = 1 → ticking s = true →
      Effect (exec (.portEnable m) s) m s (setPort (par s m 0 1) { portOf s (par s m 0 1) with
        enabled := true, rxPower := namedLanes (portOf s (par s m 0 1)) (portOf s (par s m 0 1)).rxMap
        txPower := namedLanes (portOf s (par s m 0 1)) (portOf s (par s m 0 1)).txMap }) []) ∧
    (Accepted portEnable m s → (portOf s (par s m 0 1)).configured = true → par s m 1 1 = 0 → (portOf s (par s m 0 1)).enabled = true →
      Ends (exec (.portEnable m) s) m s (fun t => portOf t (par s m 0 1) = { portOf s (par s m 0 1) with
        enabled := false, signal := 0, lock := 0, lost := 0, rxPower := 0, txPower := 0 } ∧ (∀ p, p ≠ par s m 0 1 → portOf t p = portOf s p) ∧
        (∀ i < 8, (subOf t (8 * par s m 0 1 + i)).linkUp = false) ∧
        ∀ k, k / 8 ≠ par s m 0 1 → subOf t k = subOf s k)) ∧
    (Accepted portStatus m s → Effect (exec (.portStatus m) s) m s id (layout [((portOf s (par s m 0 1)).mode.toNat, 1),
      (subBitmap s (par s m 0 1) (·.linkUp), 1), (subBitmap s (par s m 0 1) (·.trained), 1), (b2n (portOf s (par s m 0 1)).enabled, 1),
      ((portOf s (par s m 0 1)).signal.toNat, 1), ((portOf s (par s m 0 1)).lock.toNat, 1)])) ∧
    (Accepted portCounters m s → CountersRead (exec (.portCounters m) s) m s .mac (8 * par s m 0 1 + par s m 1 1) 2 16) ∧
    (Accepted pfcConfig m s → Ends (exec (.pfcConfig m) s) m s (fun t => portOf t (par s m 0 1) = { portOf s (par s m 0 1) with
      pfcEnable := BitVec.ofNat 8 (par s m 1 1), classMap := BitVec.ofNat 24 (par s m 2 3), pfcQuanta := BitVec.ofNat 16 (par s m 6 2)
      pfcRefresh := BitVec.ofNat 16 (par s m 8 2) } ∧ ∀ k, if k / 8 = par s m 0 1 ∧ (tabGet {} s.cab.egress k).sending.isSome = true
        then pfcConf t k = pfcConf s k else subOf t k = subOf s k)) ∧
    (Accepted ptpSetTime m s → Effect (exec (.ptpSetTime m) s) m s
      (fun a => updSheets (fun x => { x with aligned := false, realign := x.alignEn }) (updPtp (fun c => { c with
        time := { sec := BitVec.ofNat 48 (par s m 0 6), ns := BitVec.ofNat 32 (par s m 6 4) }, frac := 0 }) a)) []) ∧
    (Accepted ptpStep m s → ∀ u < 2 ^ 48 * giga * 2 ^ 32, (u : Int) = ptpUnits s.line.ptp + sInt 64 (par s m 0 8) * 2 ^ 32 →
      Effect (exec (.ptpStep m) s) m s (fun a => updSheets (fun x => { x with aligned := false, realign := x.alignEn })
        (updPtp (ptpAt u) a)) []) ∧
    (Accepted ptpFreq m s → Effect (exec (.ptpFreq m) s) m s (updPtp (fun c => { c with adj := BitVec.ofNat 64 (par s m 0 8) })) []) ∧
    (Accepted ptpQuery m s → Effect (exec (.ptpQuery m) s) m s id (ptpLe s.line.ptp.time ++ ptpLe s.line.ptp.ppsIn ++
      layout [(s.line.ptp.adj.toNat, 8), (b2n s.line.ptp.ref10, 1), (b2n s.line.ptp.locked, 1)])) ∧
    (Accepted ptpPortDelay m s → Effect (exec (.ptpPortDelay m) s) m s (updSub (8 * par s m 0 1 + par s m 1 1) (fun x => { x with
      ingressDelay := BitVec.ofNat 32 (par s m 4 4), egressDelay := BitVec.ofNat 32 (par s m 8 4) })) []) ∧
    (Accepted txTimestampRead m s → (∀ x ∈ (portOf s (par s m 0 1)).txStamps, x.length = 16) →
      Effect (exec (.txTimestampRead m) s) m s (setPort (par s m 0 1) { portOf s (par s m 0 1) with
        txStamps := (portOf s (par s m 0 1)).txStamps.drop (par s m 1 1) })
        (leBytes 1 (min (par s m 1 1) (portOf s (par s m 0 1)).txStamps.length) ++ zeros 15 ++
          ((portOf s (par s m 0 1)).txStamps.take (par s m 1 1)).flatten))
/-- Commands 0x02xx that pass their checks take effect (Table 2.19): PIPE_CONFIG and the parser's tables of a pipeline (R119, R124, R126);
RULE_READ returns the active copy of a rule (R133); ACTION_LOAD and METER_PROFILE_LOAD load the bank being built (R154, R156);
METER_RESET fills meters (R772); the three counter commands return their counters and clear them if asked (R152). -/
def Obligations.ClassifierCommandsTakeEffect : Prop :=
  ∀ (s : State) (m : BitVec 4), completionRoom s = true →
    (Accepted pipeConfig m s → Effect (exec (.pipeConfig m) s) m s (updPipe (par s m 0 1) (fun x => { x with
      layerLimit := par s m 1 1, depth := par s m 2 2, limitRate := par s m 4 4, limitBurst := par s m 8 2
      missRing := par s m 10 1, failRing := par s m 11 1, level := min x.level (par s m 8 2 * 65536) })) []) ∧
    (Accepted parseNodeWrite m s → Effect (exec (.parseNodeWrite m) s) m s (updPipe (par s m 0 1) (fun x => { x with
      nodes := tabPut x.nodes (par s m 1 1) { bytes := bytesAt (mbxPayload s m.toNat) 4 16 } })) []) ∧
    (Accepted parseTransitionWrite m s → Effect (exec (.parseTransitionWrite m) s) m s (updPipe (par s m 0 1) (fun x => { x with
      transitions := tabPut x.transitions (par s m 2 2) { bytes := bytesAt (mbxPayload s m.toNat) 4 8 } })) []) ∧
    (Accepted keyFieldWrite m s → Effect (exec (.keyFieldWrite m) s) m s (updPipe (par s m 0 1) (fun x => { x with
      extractors := tabPut x.extractors (par s m 1 1) { bytes := bytesAt (mbxPayload s m.toNat) 4 8 } })) []) ∧
    (Accepted ruleRead m s → Effect (exec (.ruleRead m) s) m s id ((List.range 31).flatMap (fun i => leBytes 4
      (if i < 19 then (tabGet 0 (ruleOf s (par s m 0 1) (par s m 2 2)).active i).toNat else 0)) ++
      leBytes 4 (b2n (ruleOf s (par s m 0 1) (par s m 2 2)).valid))) ∧
    (Accepted actionLoad m s → Loads (exec (.actionLoad m) s) m s (par s m 0 1) (par s m 1 1) (fun b => { b with
      actions := putEntries b.actions (par s m 0 1 * 8192 + par s m 2 2) ((List.range (par s m 1 1)).map (fun i =>
        BitVec.ofNat 128 (par s m (4 + 16 * i) 16))) })) ∧
    (Accepted meterProfileLoad m s → Loads (exec (.meterProfileLoad m) s) m s (par s m 0 1) (par s m 1 1) (fun b => { b with
      meters := putEntries b.meters (par s m 0 1 * 1024 + par s m 2 2) ((List.range (par s m 1 1)).map (fun i =>
        { cir := BitVec.ofNat 32 (par s m (4 + 16 * i) 4), pir := BitVec.ofNat 32 (par s m (8 + 16 * i) 4)
          cbs := BitVec.ofNat 32 (par s m (12 + 16 * i) 4), pbs := BitVec.ofNat 32 (par s m (16 + 16 * i) 4) })) })) ∧
    (Accepted meterReset m s → Effect (exec (.meterReset m) s) m s (updPipe (par s m 0 1) (fun x => { x with
      meters := tabClear x.meters (par s m 2 2) (par s m 4 2) })) []) ∧
    (Accepted classifierCounters m s → CountersRead (exec (.classifierCounters m) s) m s .pipe (par s m 0 1) 1 12) ∧
    (Accepted ruleCounters m s → Effect (exec (.ruleCounters m) s) m s
      (fun a => if par s m 1 1 = 1 then (List.range (par s m 4 2)).foldl (fun b i =>
        clearCounters .rule (par s m 0 1 * 8192 + par s m 2 2 + i) 2 b) a else a)
      (leBytes 8 s.cntSheet.toNat ++ (List.range (par s m 4 2)).flatMap (fun i =>
        leBytes 8 (tabGet 0 s.cntTot (cntKey .rule (par s m 0 1 * 8192 + par s m 2 2 + i) 0)) ++
        leBytes 8 (tabGet 0 s.cntTot (cntKey .rule (par s m 0 1 * 8192 + par s m 2 2 + i) 1))))) ∧
    (Accepted meterCounters m s → CountersRead (exec (.meterCounters m) s) m s .meter (par s m 0 1 * 1024 + par s m 2 2) 1 6)
/-- Links, lanes and clock pins: a link comes up on lanes none of which is lost (R79, R600) and goes down with its queues emptied, the frame
in transmission apart, which counts nothing when it ends, and its pauses ended (log entry 149) (R219, R222, R767); a lane lost takes down
the subports that use it and regained is locked again (R600); training that takes too long is reported (R82); PPS edges (R112, R113); the
loss and the return of the 10 MHz input, an event while it is the selected one (R98). PPS_CONFIG, whose ended output level the spec leaves
open (log entry 2), and CLOCK_REF_SELECT, whose lock on a new input is open (R97, R98). -/
def Obligations.LinksAndPinsTakeEffect : Prop :=
  ∀ (s : State) (sub : BitVec 5) (port : BitVec 2) (lane : BitVec 3),
    (linkDownIn s sub.toNat = true → (portOf s (sub.toNat / 8)).lost &&& laneMask (subLanes (portOf s (sub.toNat / 8)) (sub.toNat % 8)) = 0 →
      Happens (exec (.linkUp sub) s) (updSub sub.toNat (fun y => { y with linkUp := true, trained := trains (portOf s (sub.toNat / 8)) })
        (setPort (sub.toNat / 8) { portOf s (sub.toNat / 8) with
          signal := (portOf s (sub.toNat / 8)).signal ||| laneMask (subLanes (portOf s (sub.toNat / 8)) (sub.toNat % 8))
          lock := (portOf s (sub.toNat / 8)).lock ||| laneMask (subLanes (portOf s (sub.toNat / 8)) (sub.toNat % 8)) } s))) ∧
    ((subOf s sub.toNat).linkUp = true → ∃ t, exec (.linkDown sub) s = .next t ∧ subOf t sub.toNat = { subOf s sub.toNat with
      linkUp := false, trained := false, paused := [], xoffSent := 0, refreshDue := false } ∧ (∀ q < 8, queueOf t sub.toNat q = []) ∧
      (∀ k q, k ≠ sub.toNat → q < 8 → queueOf t k q = queueOf s k q) ∧ (∀ k, k ≠ sub.toNat → subOf t k = subOf s k) ∧
      (∀ k, tabGet {} t.cab.egress k = { tabGet {} s.cab.egress k with sending := (tabGet {} s.cab.egress k).sending.map (fun f => { f with
        counted := f.counted && k != sub.toNat }) }) ∧ t.line.ports = s.line.ports ∧ t.sh.sheet = s.sh.sheet) ∧
    (linkDownIn s sub.toNat = true → trains (portOf s (sub.toNat / 8)) = true →
      exec (.linkTrainingTimeout sub) s = .next (raise (82 + sub.toNat / 8) [] s)) ∧
    ((portOf s port.toNat).enabled = true → (portOf s port.toNat).lock.getLsbD lane.toNat = true →
      ∀ i < 8, usesLane (portOf s port.toNat) i lane.toNat = true → ∃ t, exec (.laneLost port lane) s = .next t ∧
        portOf t port.toNat = { portOf s port.toNat with
          lock := (portOf s port.toNat).lock &&& ~~~ BitVec.ofNat 8 (2 ^ lane.toNat)
          lost := (portOf s port.toNat).lost ||| BitVec.ofNat 8 (2 ^ lane.toNat) } ∧
        (subOf t (8 * port.toNat + i)).linkUp = false ∧ (flagReg t 0x600).getLsbD 11 = true) ∧
    ((portOf s port.toNat).enabled = true → (portOf s port.toNat).lost.getLsbD lane.toNat = true →
      Happens (exec (.laneRegained port lane) s) (setPort port.toNat { portOf s port.toNat with
        lock := (portOf s port.toNat).lock ||| BitVec.ofNat 8 (2 ^ lane.toNat)
        lost := (portOf s port.toNat).lost &&& ~~~ BitVec.ofNat 8 (2 ^ lane.toNat) } s)) ∧
    (s.line.ptp.inEnable = true → ∀ jitter : BitVec 8, ∃ d : Int, -4 ≤ d ∧ d ≤ 4 ∧ Happens (exec (.ppsInEdge jitter) s)
      (updPtp (fun c => { c with ppsIn := ptpOfNs ((ptpUnits c / 2 ^ 32 : Nat) + d) }) s)) ∧
    (s.line.ptp.outEnable = true → ∀ level, exec (.ppsOutPulse level) s = .next (updPtp (fun c => { c with ppsOut := level }) s)) ∧
    (s.line.ptp.refIn = true →
      (s.line.ptp.ref10 = true → exec .ref10mLoss s = .next (raise 86 [] (updPtp (fun c => { c with refIn := false, locked := false }) s))) ∧
      (s.line.ptp.ref10 = false → exec .ref10mLoss s = .next (updPtp (fun c => { c with refIn := false }) s))) ∧
    (s.line.ptp.refIn = false →
      (s.line.ptp.ref10 = true → exec .ref10mRelock s = .next (raise 86 [] (updPtp (fun c => { c with refIn := true, locked := true }) s))) ∧
      (s.line.ptp.ref10 = false → exec .ref10mRelock s = .next (updPtp (fun c => { c with refIn := true }) s))) ∧
    (∀ m : BitVec 4, completionRoom s = true →
      (Accepted ppsConfig m s → ∃ level, (par s m 0 1 = 1 → level = (s.line.ptp.outEnable && s.line.ptp.ppsOut)) ∧
        (par s m 0 1 = 0 → s.line.ptp.outEnable = false → level = s.line.ptp.ppsOut) ∧
        Effect (exec (.ppsConfig m) s) m s (updPtp (fun c => { c with outEnable := par s m 0 1 == 1, inEnable := par s m 1 1 == 1
                                                                      ppsWidth := BitVec.ofNat 16 (par s m 2 2), ppsOut := level })) []) ∧
      (Accepted clockRefSelect m s → ∃ locked, (par s m 0 1 = 0 → locked = (s.line.ptp.locked || s.line.ptp.ref10)) ∧
        (s.line.ptp.ref10 = true → par s m 0 1 = 1 → locked = s.line.ptp.locked) ∧
        (s.line.ptp.ref10 = false → par s m 0 1 = 1 → s.line.ptp.refIn = false → locked = false) ∧
        Effect (exec (.clockRefSelect m) s) m s (updPtp (fun c => { c with ref10 := par s m 0 1 == 1, locked := locked })) []))
/-- Rules, comparators and frames on their way in: a write of VALID = 1 makes the staging copy the active one, VALID = 0 leaves the rule or
comparator invalid (R131); received frames too short, too long or with a bad FCS are discarded and counted, others counted and classified
or, with type 0x8808, taken by the MAC (R86, R87, R89), in the sheet the last tick opened (R32); a PFC frame pauses the enabled priorities
(R90, R91), whose pause and refresh expire (R91, R92); cells with a parity error on the way are reported (R590); a frame of an injection
ring goes to pipeline 4 with the PTP time of its arrival (R106, R639, R642), a bad descriptor is skipped (R640). -/
def Obligations.FramesArrive : Prop :=
  ∀ (s : State) (sub : BitVec 5) (frame : List Byte) (errors : RxErrors) (jitter : BitVec 8),
    (∀ (pipe : BitVec 3) (rule : BitVec 13) (v : BitVec 32), hostOpen s = true → pipe.toNat < 5 → ∃ t,
      exec (.ruleValidWrite pipe rule v) s = .next t ∧
      (v.getLsbD 0 = true → (ruleOf t pipe.toNat rule.toNat).active = (ruleOf s pipe.toNat rule.toNat).staging ∧
        (ruleOf t pipe.toNat rule.toNat).valid = true) ∧
      (v.getLsbD 0 = false → (ruleOf t pipe.toNat rule.toNat).valid = false) ∧ t.sh = s.sh ∧ t.host = s.host ∧ t.cab = s.cab) ∧
    (∀ (pipe : BitVec 3) (n : BitVec 8) (v : BitVec 32), hostOpen s = true → pipe.toNat < 5 → ∃ t,
      exec (.comparatorValidWrite pipe n v) s = .next t ∧
      (v.getLsbD 31 = true → (comparatorOf t pipe.toNat n.toNat).active = (comparatorOf s pipe.toNat n.toNat).staging ∧
        (comparatorOf t pipe.toNat n.toNat).field = BitVec.ofNat 5 v.toNat ∧ (comparatorOf t pipe.toNat n.toNat).valid = true) ∧
      (v.getLsbD 31 = false → (comparatorOf t pipe.toNat n.toNat).valid = false) ∧ t.sh = s.sh ∧ t.host = s.host ∧ t.cab = s.cab) ∧
    (receives s sub.toNat = true → ∀ a, a = noteFec sub.toNat errors (noteTraffic s) →
      (frame.length < 64 → exec (.frameReceive sub frame errors jitter) s = .next (countMac sub.toNat 3 1 a)) ∧
      (64 ≤ frame.length → (portOf a (sub.toNat / 8)).maxFrame < frame.length →
        exec (.frameReceive sub frame errors jitter) s = .next (countMac sub.toNat 4 1 a)) ∧
      (64 ≤ frame.length → frame.length ≤ (portOf a (sub.toNat / 8)).maxFrame → fcsBad a sub.toNat frame errors = true →
        exec (.frameReceive sub frame errors jitter) s = .next (countMac sub.toNat 2 1 a)) ∧
      (64 ≤ frame.length → frame.length ≤ (portOf a (sub.toNat / 8)).maxFrame → fcsBad a sub.toNat frame errors = false →
        (beNat (bytesAt frame 12 2) = 0x8808 → exec (.frameReceive sub frame errors jitter) s = .next
          (macControl sub.toNat frame (countMac sub.toNat 1 frame.length (countMac sub.toNat 0 1 a)))) ∧
        (beNat (bytesAt frame 12 2) ≠ 0x8808 → ∃ rx, exec (.frameReceive sub frame errors jitter) s = .next (frameComes
          { pipe := sub.toNat / 8, port := sub.toNat / 8, sub := sub.toNat % 8, bytes := frame.take (frame.length - 4)
            fcs := frame.drop (frame.length - 4), rx := rx, cells := errors.cells.map (·.toNat) }
          (noteCellParity 0 (sub.toNat / 8) errors.cells.length (countMac sub.toNat 1 frame.length (countMac sub.toNat 0 1 a))))))) ∧
    (∀ (enable : BitVec 8) (quanta : List (BitVec 16)), quanta.length = 8 → receives s sub.toNat = true →
      ∃ t, exec (.pfcFrameReceive sub enable quanta) s = .next t ∧
        (∀ p < 8, (enable &&& (pfcConf s sub.toNat).enable).getLsbD p = true → quanta.getD p 0 ≠ 0 →
          tabFind (subOf t sub.toNat).paused p = some (quanta.getD p 0)) ∧
        (∀ k, k ≠ sub.toNat → subOf t k = subOf s k) ∧ t.line.ports = s.line.ports ∧ t.cab = s.cab ∧ t.host = s.host) ∧
    (∀ (enable : BitVec 8) (quanta : List (BitVec 16)), quanta.length ≠ 8 →
      exec (.pfcFrameReceive sub enable quanta) s = .fault .illFormedOperand) ∧
    (∀ prio : BitVec 3, exec (.pfcPauseExpiry sub prio) s = .next
      (updSub sub.toNat (fun x => { x with paused := tabErase x.paused prio.toNat }) s)) ∧
    ((subOf s sub.toNat).xoffSent ≠ 0 → exec (.pfcRefreshExpiry sub) s = .next (updSub sub.toNat (fun x => { x with refreshDue := true }) s)) ∧
    (∀ (r : Nat) (d : List Byte), nextInj s = some r → d = hostRead s ((injOf s r).address.toNat + 16 * (injOf s r).head) 16 →
      (60 ≤ leAt d 8 2 → leAt d 8 2 ≤ 9212 → leAt d 10 6 = 0 → ∀ cells, ∃ a, exec (.injectionFetch .ok .ok cells) s = .next (frameComes
        { pipe := 4, port := 8, sub := 0, bytes := hostRead a (leAt d 0 8) (leAt d 8 2), fcs := [], rx := s.line.ptp.time
          cells := cells.map (·.toNat) } (noteCellParity 0 8 cells.length a)) ∧
        (injOf a r).head = ((injOf s r).head + 1) % (injOf s r).entries ∧ (injOf a r).frames = (injOf s r).frames + 1 ∧
        (injOf a r).bytes = (injOf s r).bytes + leAt d 8 2 ∧ a.host.injLast = r) ∧
      (leAt d 8 2 < 60 → ∀ cells, exec (.injectionFetch .ok .ok cells) s = .next
        (injAdvance r (injBad r (updHost (fun h => { h with injLast := r }) s)))))
/-- Commands 0x03xx that pass their checks take effect (Table 3.14): with every port and ring disabled, VAT_GROUP_CONFIG, DRAWER_CONFIG and
CABINET_INIT lay out drawers and fill the free rings (R169, R210, R211); CABINET_SEED (R191); owner, RED and scheduling profiles and
egress maps load the bank being built (R168, R185, R192, R223-R226); status and counters are returned (R152, R158). -/
def Obligations.CabinetCommandsTakeEffect : Prop :=
  ∀ (s : State) (m : BitVec 4), completionRoom s = true →
    (portsOff s = true →
      (Accepted vatGroupConfig m s → Effect (exec (.vatGroupConfig m) s) m s (setGroup (par s m 0 1) {
        firstCell := par s m 4 4, cells := par s m 8 4, spillCells := par s m 12 4, vatRing := par s m 16 8, spillRing := par s m 24 8
        spillBase := par s m 32 8, vatEntries := par s m 40 4, spillEntries := par s m 44 4 }) []) ∧
      (Accepted drawerConfig m s → Effect (exec (.drawerConfig m) s) m s (fun a => { a with cab := { a.cab with
        size := tabSet 0 a.cab.size (par s m 0 1) (par s m 4 4) } }) []) ∧
      (Accepted cabinetInit m s → Ends (exec (.cabinetInit m) s) m s (fun t => (∀ g < 8, groupOf t g = { groupOf s g with
        vatCache := [], spillCache := [], vatHead := 0, vatCount := (groupOf s g).cells, spillHead := 0
        spillCount := (groupOf s g).spillCells, filled := true }) ∧ t.cab.handles = s.cab.handles ∧ t.cab.queues = s.cab.queues))) ∧
    (Accepted cabinetSeed m s → Effect (exec (.cabinetSeed m) s) m s (fun a => { a with cab := { a.cab with
      seed := BitVec.ofNat 32 (par s m 0 4) } }) []) ∧
    (Accepted ownerProfileLoad m s → Loads (exec (.ownerProfileLoad m) s) m s 5 (par s m 1 1) (fun b => { b with
      owners := putEntries b.owners (par s m 0 1) ((List.range (par s m 1 1)).map (fun i => ownerProfileAt (mbxPayload s m.toNat) (4 + 32 * i))) })) ∧
    (Accepted redProfileLoad m s → Loads (exec (.redProfileLoad m) s) m s 5 (par s m 1 1) (fun b => { b with
      reds := putEntries b.reds (par s m 0 1) ((List.range (par s m 1 1)).map (fun i => redProfileAt (mbxPayload s m.toNat) (4 + 32 * i))) })) ∧
    (Accepted schedProfileLoad m s → Loads (exec (.schedProfileLoad m) s) m s 5 1 (fun b => { b with
      scheds := tabPut b.scheds (8 * par s m 0 1 + par s m 1 1) {
        strict := BitVec.ofNat 8 (par s m 4 1), mirrorQueue := BitVec.ofNat 8 (par s m 5 1), residue := BitVec.ofNat 16 (par s m 6 2)
        weight := BitVec.ofNat 64 (par s m 8 8) } })) ∧
    (Accepted egressMapLoad m s → Loads (exec (.egressMapLoad m) s) m s 16 (par s m 2 1) (fun b => { b with
      egress := putEntries b.egress (par s m 0 2) ((List.range (par s m 2 1)).map (fun i => BitVec.ofNat 64 (par s m (4 + 8 * i) 8))) })) ∧
    (Accepted ownerStatus m s → ∀ x, x = ownerUse s (par s m 0 1) → Effect (exec (.ownerStatus m) s) m s id
      (layout [(x.vat, 4), (x.spill, 4), (x.headroom, 4), (x.avg, 4), (b2n (ownerXoff s (par s m 0 1)) + 2 * b2n x.budget, 1),
        (s.sh.furnish.toNat, 1)])) ∧
    (Accepted ownerCounters m s → CountersRead (exec (.ownerCounters m) s) m s .owner (par s m 0 1) 1 12) ∧
    (Accepted queueCounters m s → CountersRead (exec (.queueCounters m) s) m s .queue
      (queueKey (8 * par s m 0 1 + par s m 1 1) (par s m 2 1)) 3 6) ∧
    (Accepted drawerStatus m s → Effect (exec (.drawerStatus m) s) m s id (layout [(drawerSize s (par s m 0 1), 4),
      (drawerInUse s (par s m 0 1), 4), (sharedFree s s.sh.cur (par s m 0 1), 4), ((tabGet [] s.cab.waiters (par s m 0 1)).length, 2), (0, 2),
      (vatFree s (par s m 0 1 / 8), 4), (spillFree s (par s m 0 1 / 8), 4)])) ∧
    (Accepted cabinetCounters m s → CountersRead (exec (.cabinetCounters m) s) m s .cabinet 0 0 5) ∧
    (∀ h, Accepted handleQuery m s → staleHandle s (BitVec.ofNat 24 (par s m 0 4)) = false → h = handleOf s (hIndex (BitVec.ofNat 24 (par s m 0 4))) →
      Effect (exec (.handleQuery m) s) m s id (layout [(kindCode h.kind, 1), (h.owner.toNat, 1), (h.charge.toNat, 1), (h.pins, 1),
        (h.refs, 2), (h.cells.length, 1), (b2n h.spilled, 1)]))
/-- The transmit side: at a frame boundary PFC settings come into force (Table 2.16), and a PFC frame that is due goes first (R92); else the
highest strict queue that is ready is served (R221), and its head is sent with its FCS, inverted where it is poisoned or meets a cell parity
error (R302, R590, R591), or discarded where MAX_FRAME is less (R88) or its handle stale (R158); a frame that ends gives up its reference
(R216) and leaves its transmit timestamp within the deviation of R103 where it asks for one (R107); of the spilled frames of a subport the
first in egress order is refilled (R213). -/
def Obligations.FramesLeave : Prop :=
  ∀ (s : State) (sub : BitVec 5) (parity : Bool),
    (∀ a, (subOf s sub.toNat).linkUp = true → (tabGet {} s.cab.egress sub.toNat).sending = none → a = adoptPfc sub.toNat s →
      ((pfcAsserted a sub.toNat ≠ (subOf s sub.toNat).xoffSent ∨ (subOf s sub.toNat).refreshDue = true) → ∃ t f,
        exec (.frameBoundary ⟨sub, parity⟩) s = .next t ∧ (tabGet {} t.cab.egress sub.toNat).sending = some f ∧ f.copy = none ∧
        f.bytes = sealFrame (pfcFrame (portOf s (sub.toNat / 8)) (sub.toNat % 8) (pfcAsserted a sub.toNat)
          ((subOf s sub.toNat).xoffSent &&& ~~~ pfcAsserted a sub.toNat)) false ∧
        subOf t sub.toNat = { subOf s sub.toNat with xoffSent := pfcAsserted a sub.toNat, refreshDue := false, pfcOld := none } ∧
        t.cab.queues = s.cab.queues) ∧
      (pfcAsserted a sub.toNat = (subOf s sub.toNat).xoffSent → (subOf s sub.toNat).refreshDue = false →
        ((schedule a sub.toNat).1 = none → ∃ t, exec (.frameBoundary ⟨sub, parity⟩) s = .next t ∧ t.cab.queues = s.cab.queues ∧
          (tabGet {} t.cab.egress sub.toNat).sending = none) ∧
        (∀ (q : Nat) (c : Copy) (l : List Copy), (schedule a sub.toNat).1 = some q → queueOf s sub.toNat q = c :: l →
          (staleHandle s c.handle = false → c.len ≤ (portOf s (sub.toNat / 8)).maxFrame → natBit c.opts.toNat 35 = false → s.cab.vatBad = [] →
              s.cab.vatWeak = [] →
            ∃ t f, exec (.frameBoundary ⟨sub, parity⟩) s = .next t ∧
            queueOf t sub.toNat q = l ∧ (tabGet {} t.cab.egress sub.toNat).sending = some f ∧ f.copy = some (q, c) ∧
            f.bytes = sealFrame ((pktRead s (handleOf s (hIndex c.handle)) c.start c.len).take (c.len - 4))
              (parity || pktPoisoned s (handleOf s (hIndex c.handle)) c.start c.len) ∧ t.cab.handles = s.cab.handles) ∧
          (staleHandle s c.handle = true ∨ (portOf s (sub.toNat / 8)).maxFrame < c.len → ∃ t, exec (.frameBoundary ⟨sub, parity⟩) s = .next t ∧
              queueOf t sub.toNat q = l ∧
            (tabGet {} t.cab.egress sub.toNat).sending = none)))) ∧
    (∀ q < 8, (schedProf s.sh.cur sub.toNat).strict.getLsbD q = true → queueReady s sub.toNat q = true →
      (∀ r < 8, q < r → (schedProf s.sh.cur sub.toNat).strict.getLsbD r = true → queueReady s sub.toNat r = false) →
      schedule s sub.toNat = (some q, tabGet {} s.cab.egress sub.toNat)) ∧
    (∀ (f : TxFrame) (jitter : BitVec 8) (a : State), (tabGet {} s.cab.egress sub.toNat).sending = some f →
      a = (if f.counted then countMac sub.toNat 10 f.bytes.length (countMac sub.toNat 9 1 (setSending sub.toNat none s))
        else setSending sub.toNat none s) →
      (f.copy = none → exec (.transmitEnd sub jitter) s = .next a) ∧
      (∀ q c, f.copy = some (q, c) →
        (natBits c.opts.toNat 34 2 ≠ 1 → exec (.transmitEnd sub jitter) s = .next (dropCopy c
          (count .queue (queueKey sub.toNat q) 2 f.bytes.length (count .queue (queueKey sub.toNat q) 1 1 a)))) ∧
        (natBits c.opts.toNat 34 2 = 1 → ∃ u : Int, f.began.ns + b2n f.began.part - 4 ≤ u ∧ u ≤ f.began.ns + 4 ∧
            exec (.transmitEnd sub jitter) s = .next
          (dropCopy c (pushStamp sub.toNat (natBits c.opts.toNat 16 16) u f.counted
          (count .queue (queueKey sub.toNat q) 2 f.bytes.length (count .queue (queueKey sub.toNat q) 1 1 a))))))) ∧
    (∀ (queue : BitVec 3) (c : Copy), (queueOf s sub.toNat queue.toNat).find? (pastResidue s) = some c →
      exec (.residueDrop sub queue) s = .next (dropCopy c (count .queue (queueKey sub.toNat queue.toNat) 3 1 (setFlag 0x440 8
        (setQueue sub.toNat queue.toNat ((queueOf s sub.toNat queue.toNat).filter (fun d => d.order != c.order)) s))))) ∧
    (∀ (queue : BitVec 3) (index : Nat) (c : Copy), (queueOf s sub.toNat queue.toNat)[index]? = some c → 
      (egressOrder s sub.toNat).find? (wantsRefill s) = some c → s.cab.prefetch + c.len ≤ 2097152 →
      pktPoisoned s (handleOf s (hIndex c.handle)) c.start c.len = false →
      (∀ p ∈ spillSpans (handleOf s (hIndex c.handle)) c.start c.len, dramAsleep s p.1 p.2 = false) →
          ∀ a, a = noteSpillRead (handleOf s (hIndex c.handle)) c.start c.len s →
        exec (.refillComplete sub queue index) s = .next
          (setQueue sub.toNat queue.toNat ((queueOf s sub.toNat queue.toNat).set index { c with refilled := true })
            { a with cab := { a.cab with prefetch := a.cab.prefetch + c.len } }))
/-- The Cabinet's own happenings: free-ring cache parts refill below a quarter and write back above three quarters (R208), while their
rings' channels are awake (R561); a drawer grants its oldest waiter when its whole request fits (R194), a waiter whose item's furnish is
neither current nor old being voided (R57); XOFF ends at XON (R181) and budget mode at a new interval (R187); waiting copies of an exception
ring are written as room returns (R637) or discarded past their residue. -/
def Obligations.CabinetHappenings : Prop :=
  ∀ s : State,
    (∀ g : BitVec 3, dramAsleep s (groupOf s g.toNat).vatRing (4 * (groupOf s g.toNat).vatEntries) = false →
      ((groupOf s g.toNat).vatCache.length < 1536 → 0 < (groupOf s g.toNat).vatCount →
      exec (.freeRingRefill g false) s = .next (ringRefill g.toNat false s)) ∧
      (4608 < (groupOf s g.toNat).vatCache.length → exec (.freeRingRefill g false) s = .next (ringWriteBack g.toNat false s))) ∧
    (∀ g : BitVec 3, dramAsleep s (groupOf s g.toNat).spillRing (4 * (groupOf s g.toNat).spillEntries) = false →
      ((groupOf s g.toNat).spillCache.length < 512 → 0 < (groupOf s g.toNat).spillCount →
      exec (.freeRingRefill g true) s = .next (ringRefill g.toNat true s)) ∧
      (1536 < (groupOf s g.toNat).spillCache.length → exec (.freeRingRefill g true) s = .next (ringWriteBack g.toNat true s))) ∧
    (∀ (d : BitVec 6) (t : Nat) (l : List Nat), drawerWaiters s d.toNat = t :: l →
      (stampLost s t = true → exec (.drawerGrant d) s = .next (settle (voidStamp t (leaveDrawer d.toNat t s)))) ∧
      (∀ n op gd zf w i r, stampLost s t = false → (thr s t).stall = .drawer d.toNat n (.alloc op gd zf) w →
        tryAlloc t (allocOwner op t) n s = (some i, r) → exec (.drawerGrant d) s = .next
          (completeStalled t (putG gd ((handleWord r i).setWidth 36)) (leaveDrawer d.toNat t r))) ∧
      (∀ n gt ga w mode md word, stampLost s t = false → (thr s t).stall = .drawer d.toNat n (.store gt ga w mode md) word →
        exec (.drawerGrant d) s = .next (grantStore d.toNat t gt ga w mode md word s))) ∧
    (∀ o : BitVec 8, (ownerUse s o.toNat).xoff = true →
      (ownerUse s o.toNat).vat + (ownerUse s o.toNat).spill ≤ (ownerProf s.sh.cur o.toNat).xon.toNat →
      ∃ t, exec (.xoffRelease o) s = .next t ∧ ownerUse t o.toNat = { ownerUse s o.toNat with xoff := false } ∧
        (exposureHold s o.toNat = false → tabFind t.cab.pfcOn o.toNat = none) ∧ t.cab.handles = s.cab.handles ∧
        t.cab.queues = s.cab.queues ∧ ∀ p, p ≠ o.toNat → ownerUse t p = ownerUse s p) ∧
    (∀ o : BitVec 8, (ownerUse s o.toNat).budget = true → (ownerUse s o.toNat).xoff = false →
      s.sh.sheet.toNat % max 1 (ownerProf s.sh.cur o.toNat).budgetSheets.toNat = 0 →
      ∃ t, exec (.budgetModeEnd o) s = .next t ∧ ownerUse t o.toNat = { ownerUse s o.toNat with budget := false, drops := 0 } ∧
        tabFind t.cab.pfcBudget o.toNat = none ∧ t.cab.handles = s.cab.handles ∧ t.cab.queues = s.cab.queues) ∧
    (∀ (r : BitVec 4) (c : Copy) (w : List Copy), tabGet [] s.cab.exrWait r.toNat = c :: w →
      (exrFull s r.toNat = false → exec (.exceptionCopyWrite r) s = .next (exrCopy r.toNat c
        { s with cab := { s.cab with exrWait := tabSet [] s.cab.exrWait r.toNat w } })) ∧
      (pastResidue s c = true → Happens (exec (.exrResidue r) s) (dropCopy c { s with cab := { s.cab with
          exrWait := tabSet [] s.cab.exrWait r.toNat w } })))
/-- Commands 0x04xx that pass their checks take effect (Tables 4.11 and 5.21): instructions and data words are written and read (R242, R268,
R327), by DMA too unless the read fails, which is a DMA_FAULT that changes nothing; entry tables and the dispatch map load the bank being
built (R266); doorbell routes (R264), windows (R285), contexts, which none of the items in flight may name when written (R249, R269);
the dispatch counters are returned. A read of instruction, context or data memory corrects the words it can, and poisons a context's line that has an
uncorrectable word (R579, R583). -/
def Obligations.DispatchCommandsTakeEffect : Prop :=
  ∀ (s : State) (m : BitVec 4), completionRoom s = true →
    (Accepted programWrite m s → Effect (exec (.programWrite m) s) m s (writeProgram (par s m 0 1) (par s m 2 2)
      ((List.range (par s m 1 1)).map (fun i => BitVec.ofNat 36 (par s m (8 + 5 * i) 5)))) []) ∧
    (∀ bs, Accepted (programLoadDma .ok) m s → s.host.busMaster = true → bs = hostRead s (par s m 8 8) (5 * par s m 4 4) →
      (∀ i < par s m 4 4, leAt bs (5 * i) 5 < 2 ^ 36) → Effect (exec (.programLoadDma m .ok) s) m s
        (writeProgram (par s m 0 1) (par s m 2 2) ((List.range (par s m 4 4)).map (fun i => BitVec.ofNat 36 (leAt bs (5 * i) 5)))) []) ∧
    (Accepted (programLoadDma .error) m s → ∃ t, exec (.programLoadDma m .error) s = .next t ∧ Completed m 0x05 s t ∧ t.cores = s.cores) ∧
    (Accepted programRead m s → Effect (exec (.programRead m) s) m s
      (checkImem ((List.range (par s m 1 1)).map (par s m 0 1 * 65536 + par s m 2 2 + ·)))
      ((tabRead 0 s.cores.imem (par s m 0 1 * 65536 + par s m 2 2) (par s m 1 1)).flatMap (fun w => leBytes 5 w.toNat))) ∧
    (Accepted entryLoad m s → Effect (exec (.entryLoad m) s) m s (fun a => (maskList 8 (par s m 0 1)).foldl (fun a c =>
      loadBank (7 + c) (par s m 1 1) (fun b => { b with
        entries := putEntries b.entries (c * 256 + par s m 2 1) ((List.range (par s m 1 1)).map (fun i =>
          BitVec.ofNat 32 (par s m (4 + 4 * i) 4))) }) a) a) []) ∧
    (Accepted dispatchMapLoad m s → Loads (exec (.dispatchMapLoad m) s) m s 6 (par s m 1 1) (fun b => { b with
      dmap := putEntries b.dmap (par s m 0 1) ((List.range (par s m 1 1)).map (fun i => BitVec.ofNat 32 (par s m (4 + 4 * i) 4))) })) ∧
    (Accepted doorbellRoute m s → Effect (exec (.doorbellRoute m) s) m s (updDisp (fun d => { d with
      routes := tabSet {} d.routes (par s m 0 1) {
        enable := par s m 1 1 == 1, cls := BitVec.ofNat 3 (par s m 2 1), domain := BitVec.ofNat 16 (par s m 4 2)
        ctx := BitVec.ofNat 14 (par s m 6 2) } })) []) ∧
    (Accepted contextRead m s → Effect (exec (.contextRead m) s) m s (checkCtx (par s m 0 2) (128 * par s m 2 1) 128)
      (ctxRead s (par s m 0 2) (128 * par s m 2 1) 128)) ∧
    (Accepted contextWrite m s → ctxInFlight s (BitVec.ofNat 14 (par s m 0 2)) = 0 → Ends (exec (.contextWrite m) s) m s (fun t =>
      ctxRead t (par s m 0 2) (128 * par s m 2 1) 128 = bytesAt (mbxPayload s m.toNat) 4 128)) ∧
    (Accepted dispatchCounters m s → CountersRead (exec (.dispatchCounters m) s) m s .dispatch 0 0 15) ∧
    (Accepted windowConfig m s → Effect (exec (.windowConfig m) s) m s (fun a => (maskList 8 (par s m 0 1)).foldl (fun a c =>
      { a with cores := { a.cores with windows := tabSet {} a.cores.windows (c * 16 + par s m 1 1) {
          enable := natBit (par s m 2 1) 0, read := natBit (par s m 2 1) 1, write := natBit (par s m 2 1) 2
          base := BitVec.ofNat 64 (par s m 4 8), pages := BitVec.ofNat 32 (par s m 12 4) } } }) a) []) ∧
    (∀ w, Accepted windowQuery m s → w = tabGet {} s.cores.windows (par s m 0 1 * 16 + par s m 1 1) → Effect (exec (.windowQuery m) s) m s id
      (layout [(b2n w.enable + 2 * b2n w.read + 4 * b2n w.write, 1), (0, 3), (w.base.toNat, 8), (w.pages.toNat, 4)])) ∧
    (Accepted dmemWrite m s → Effect (exec (.dmemWrite m) s) m s (dmemStore (par s m 0 1) (par s m 2 2)
      ((List.range (par s m 1 1)).map (fun i => BitVec.ofNat 36 (par s m (8 + 5 * i) 5)))) []) ∧
    (Accepted dmemRead m s → Effect (exec (.dmemRead m) s) m s
      (checkDmem ((List.range (par s m 1 1)).map (fun i => dmemKey (par s m 0 1) (par s m 2 2 + i)))) ((List.range (par s m 1 1)).flatMap (fun i =>
      leBytes 5 (dmemGet s (par s m 0 1) (par s m 2 2 + i)).toNat)))
/-- What brings items to threads: a doorbell whose route is enabled makes an event item while fewer than 4,096 are in flight, and is
discarded otherwise (R229, R264, R265); a free thread is offered the oldest item of its core's affinity list, then of the global lists
(R246, R247), and what may follow an item that ends there follows it (R32); an item that enters takes the next sequence number of its domain
(R231). CLUSTER_FENCE sets and ends a fence, and what may follow the ends of items follows it (R259, R32); DOMAIN_STATUS and CONTEXT_STATUS
return what Table 4.11 says. -/
def Obligations.ItemsEnterAndRun : Prop :=
  ∀ s : State,
    (∀ (d : BitVec 4) (v : BitVec 32) (r : DoorbellRoute), hostOpen s = true → r = tabGet {} s.disp.routes d.toNat →
      (r.enable = true → eventsInFlight s < 4096 → ∃ x, exec (.doorbell d v) s = .next (enterItem x s) ∧ x.isEvent = true ∧
        x.domain = r.domain ∧ x.cls = r.cls ∧ x.ctx = r.ctx ∧ x.source.toNat = 16 + d.toNat ∧ x.arrival = s.sh.sheet ∧
        x.furnish = s.sh.furnish ∧ natBits x.dd0.toNat 0 24 = v.toNat % 2 ^ 24) ∧
      (r.enable = true → 4096 ≤ eventsInFlight s → ∃ t, exec (.doorbell d v) s = .next t ∧ t.disp = s.disp ∧
        (flagReg t 0x480).getLsbD 6 = true) ∧
      (r.enable = false → exec (.doorbell d v) s = .next s)) ∧
    (∀ (t : BitVec 9) (k : Nat) (x : Item), firstItem s (tabGet [] s.disp.affLists (coreOf t.toNat)) (mayTake s t.toNat) = some (k, x) →
      exec (.threadOffer t) s = .next (settle (deliver k t.toNat x (count .dispatch 0 2 1 (unlist k s))))) ∧
    (∀ (t : BitVec 9) (k : Nat) (x : Item), firstItem s (tabGet [] s.disp.affLists (coreOf t.toNat)) (mayTake s t.toNat) = none →
      globalOffer s t.toNat = some (k, x) → exec (.threadOffer t) s = .next (settle (placeBy (globalFree s x.map) k x (unlist k s)))) ∧
    (∀ (x : Item) (b : Bank), (tabGet 0 s.disp.nextAssign x.domain.toNat - tabGet 0 s.disp.nextRelease x.domain.toNat).toNat ≠ 32768 →
      bankOf s x.furnish = some b → noCluster s (tabGet 0 b.dmap (mapIndex x)) = false →
      tabGet 0 (enterItem x s).disp.nextAssign x.domain.toNat = tabGet 0 s.disp.nextAssign x.domain.toNat + 1 ∧
      ∃ y, itemOf (enterItem x s) (itemKey x.domain (tabGet 0 s.disp.nextAssign x.domain.toNat)) = some y ∧
        y.seq = tabGet 0 s.disp.nextAssign x.domain.toNat ∧ y.domain = x.domain ∧ y.deadline = x.deadline ∧ y.furnish = x.furnish) ∧
    (∀ m : BitVec 4, completionRoom s = true →
      (∀ d, Accepted domainStatus m s → d = BitVec.ofNat 16 (par s m 0 2) →
        (s.disp.items.filter (fun x => x.2.domain == d && x.2.late)).length < 256 → Effect (exec (.domainStatus m) s) m s id
          (layout [((tabGet 0 s.disp.nextAssign d.toNat).toNat, 2), ((tabGet 0 s.disp.nextRelease d.toNat).toNat, 2),
            ((tabGet 0 s.disp.nextAssign d.toNat - tabGet 0 s.disp.nextRelease d.toNat).toNat, 2), (b2n (domainFrozen s d), 1),
            ((s.disp.items.filter (fun x => x.2.domain == d && x.2.late)).length, 1)])) ∧
      (Accepted contextStatus m s → Effect (exec (.contextStatus m) s) m s id (layout [((affinityCore s (par s m 0 2)).getD 255, 1),
        ((residentCore s (par s m 0 2)).getD 255, 1), (ctxInFlight s (BitVec.ofNat 14 (par s m 0 2)), 2),
        (ctxWaiting s (BitVec.ofNat 14 (par s m 0 2)), 2)])) ∧
      (Accepted clusterFence m s → par s m 1 1 = 1 → s.disp.fenced.getLsbD (par s m 0 1) = false →
        ∃ u, exec (.clusterFence m) s = .next (settle u) ∧ Effect (.next u) m s (fun a => fenceCluster (par s m 0 1) a) []) ∧
      (Accepted clusterFence m s → par s m 1 1 = 0 → s.disp.fenced.getLsbD (par s m 0 1) = true →
        ∃ u, exec (.clusterFence m) s = .next (settle u) ∧
          Effect (.next u) m s (updDisp (fun d => { d with fenced := d.fenced &&& ~~~ BitVec.ofNat 8 (2 ^ par s m 0 1) })) []))
/-- Commands 0x05xx that pass their checks take effect (Table 6.17): slot tables (R331), supervisors (R339, R341), thread resets (R351),
locks tried, released, broken and queried for a mailbox's identity 513 + m (R353-R367, R381), channels resized while empty (R369), status and
counters returned; the times a core counts are drawn once a sheet, and stand between
its reads (R151; log entry 94). A lock whose word or queue fails is released first, broken with cause 7 (R584). -/
def Obligations.DovetailCommandsTakeEffect : Prop :=
  ∀ (s : State) (m : BitVec 4), completionRoom s = true →
    (Accepted slotTableSet m s → Effect (exec (.slotTableSet m) s) m s (fun a => { a with cores := { a.cores with
      slots := (maskList 64 (par s m 0 8)).foldl (fun t c =>
        tabUpd {} t c (fun x => { x with entries := BitVec.ofNat 64 (par s m 8 8) })) a.cores.slots } }) []) ∧
    (∀ w : Supervisor, Accepted supervisorSet m s → w = { supervisorOf s (par s m 0 1) with
        core := par s m 1 1, thread := par s m 2 1, entry := BitVec.ofNat 16 (par s m 4 2) } →
      (s.disp.fenced.getLsbD (par s m 0 1) = true ∨ w = supervisorOf s (par s m 0 1)) →
      (par s m 3 1 = 0 → Effect (exec (.supervisorSet m) s) m s (fun a => { a with cores := { a.cores with
        supervisors := tabSet {} a.cores.supervisors (par s m 0 1) w } }) []) ∧
      (par s m 3 1 = 1 → (supervisorOf s (par s m 0 1)).started = false → Ends (exec (.supervisorSet m) s) m s (fun t =>
        supervisorOf t (par s m 0 1) = { w with started := true }))) ∧
    (Accepted threadStatus m s → Effect (exec (.threadStatus m) s) m s id
      ((List.range 8).flatMap (fun i => threadStatusBytes s (8 * par s m 0 1 + i)))) ∧
    (Accepted threadReset m s → ∃ u, exec (.threadReset m) s = .next (settle u) ∧
      Effect (.next u) m s (fun a => admitEvents (l0Reset (par s m 0 2) (checkHeld (par s m 0 2) a))) []) ∧
    (∀ k timed, Accepted coreCounters m s → k = par s m 0 1 → timed = (fun a => addTimed .core k 2 (addTimed .core k 1 a)) →
      Effect (exec (.coreCounters m) s) m s (fun a => if par s m 1 1 = 1 then clearCounters .core k 12 (timed a) else timed a)
        (leBytes 8 s.cntSheet.toNat ++ (List.range 12).flatMap (fun i =>
          leBytes 8 (tabGet 0 (timed (startCmd m.toNat s)).cntTot (cntKey .core k i))))) ∧
    (Accepted dovetailCounters m s → CountersRead (exec (.dovetailCounters m) s) m s .dovetail 0 0 16) ∧
    (∀ k l, Accepted lockQuery m s → k = par s m 0 2 → l = lockOf s k → l.waiters = [] → lockUnit k = none →
      (DovWord.lock k ∈ s.dov.bad ∨ DovWord.queue k ∈ s.dov.bad) → Effect (exec (.lockQuery m) s) m s (checkLock k)
        (layout [(4095, 2), (1, 1), (0, 1), (0, 1), (0, 1), (l.owner.toNat, 2)]) ∧
      lockOf (checkLock k s) k = { l with owner := 4095, last := l.owner, broken := 7 } ∧
      DovWord.lock k ∉ (checkLock k s).dov.bad ∧ DovWord.queue k ∉ (checkLock k s).dov.bad ∧
      (flagReg (checkLock k s) 0x600).getLsbD 4 = true) ∧
    (s.dov.weak = [] → s.dov.bad = [] →
    (Accepted lockTry m s → (lockOf s (par s m 0 2)).owner = 4095 → Effect (exec (.lockTry m) s) m s
      (fun a => lockProgress (par s m 0 2) (setLock (par s m 0 2)
        { lockOf s (par s m 0 2) with owner := BitVec.ofNat 12 (513 + m.toNat) } a))
      (leBytes 5 (grantWord { lockOf s (par s m 0 2) with owner := BitVec.ofNat 12 (513 + m.toNat) }).toNat)) ∧
    (Accepted lockTry m s → (lockOf s (par s m 0 2)).owner ≠ 4095 → (lockOf s (par s m 0 2)).owner.toNat ≠ 513 + m.toNat →
      Effect (exec (.lockTry m) s) m s id (leBytes 5 (lockOf s (par s m 0 2)).owner.toNat)) ∧
    (Accepted lockRelease m s → (lockOf s (par s m 0 2)).owner.toNat = 513 + m.toNat →
      Effect (exec (.lockRelease m) s) m s (unlock (par s m 0 2) (513 + m.toNat)) []) ∧
    (∀ l w, Accepted lockQuery m s → l = lockOf s (par s m 0 2) → w = l.waiters.length → Effect (exec (.lockQuery m) s) m s
      (fun a => if w < 256 then a else drawFree a)
      (layout [(l.owner.toNat, 2), (b2n (l.broken != 0), 1), (if w < 256 then w else freeNow s, 1),
        (l.waiters.foldl (fun a t => max a (effPrio s t)) 0, 1),
        (if l.owner.toNat < 512 then inherited s l.owner.toNat else 0, 1), (l.last.toNat, 2)])) ∧
    (Accepted lockBreak m s → lockUnit (par s m 0 2) = none → (lockOf s (par s m 0 2)).owner ≠ 4095 →
      Effect (exec (.lockBreak m) s) m s (loseLock (par s m 0 2) 5) []) ∧
    (Accepted channelConfig m s → (chanOf s (par s m 0 2)).slots = [] → (chanOf s (par s m 0 2)).readers = [] →
      (chanOf s (par s m 0 2)).writers = [] → Effect (exec (.channelConfig m) s) m s
        (setChan (par s m 0 2) { chanOf s (par s m 0 2) with size := par s m 2 2 }) []) ∧
    (∀ x, Accepted channelStatus m s → x = chanOf s (par s m 0 2) → Effect (exec (.channelStatus m) s) m s id
      (layout [(chanSize s (par s m 0 2), 2), (0, 2), ((x.slots.filter (fun q => q.2.state == .committed)).length, 2), (x.readers.length, 2),
        (x.writers.length, 2), (x.readers.length, 2)])))
/-- Register instructions of major 0 (Table 5.5, R271, R275): gd receives the 36-bit result, wrapped; shifts by 36 or more give 0, or the
sign; nothing but gd and the PC changes, and g0 keeps 0 (R270). -/
def Obligations.RegisterInstructionsCompute : Prop :=
  ∀ (s : State) (t : BitVec 9) (gd ga gb : BitVec 5) (a b : Word36), a = regG s t.toNat ga → b = regG s t.toNat gb →
    (CanIssue s t [ga, gb] [gd] →
      GdGets (exec (.add t gd ga gb 0) s) t s gd (BitVec.ofNat 36 (a.toNat + b.toNat)) ∧
      GdGets (exec (.sub t gd ga gb 0) s) t s gd (BitVec.ofInt 36 (a.toInt - b.toInt)) ∧
      GdGets (exec (.and t gd ga gb 0) s) t s gd (a &&& b) ∧
      GdGets (exec (.or t gd ga gb 0) s) t s gd (a ||| b) ∧
      GdGets (exec (.xor t gd ga gb 0) s) t s gd (a ^^^ b) ∧
      GdGets (exec (.nor t gd ga gb 0) s) t s gd (~~~(a ||| b)) ∧
      GdGets (exec (.andn t gd ga gb 0) s) t s gd (a &&& ~~~b) ∧
      GdGets (exec (.sll t gd ga gb 0) s) t s gd (BitVec.ofNat 36 (a.toNat * 2 ^ (b.toNat % 64))) ∧
      GdGets (exec (.srl t gd ga gb 0) s) t s gd (BitVec.ofNat 36 (a.toNat / 2 ^ (b.toNat % 64))) ∧
      GdGets (exec (.sra t gd ga gb 0) s) t s gd (BitVec.ofInt 36 (a.toInt / 2 ^ (b.toNat % 64))) ∧
      (∃ v, GdGets (exec (.rol t gd ga gb 0) s) t s gd v ∧ ∀ i < 36, v.getLsbD ((i + b.toNat) % 36) = a.getLsbD i) ∧
      GdGets (exec (.slt t gd ga gb 0) s) t s gd (if a.toInt < b.toInt then 1 else 0) ∧
      GdGets (exec (.sltu t gd ga gb 0) s) t s gd (if a.toNat < b.toNat then 1 else 0) ∧
      GdGets (exec (.min t gd ga gb 0) s) t s gd (BitVec.ofInt 36 (min a.toInt b.toInt)) ∧
      GdGets (exec (.max t gd ga gb 0) s) t s gd (BitVec.ofInt 36 (max a.toInt b.toInt)) ∧
      GdGets (exec (.minu t gd ga gb 0) s) t s gd (BitVec.ofNat 36 (min a.toNat b.toNat)) ∧
      GdGets (exec (.maxu t gd ga gb 0) s) t s gd (BitVec.ofNat 36 (max a.toNat b.toNat))) ∧
    (CanIssue s t [ga] [gd] →
      (∃ n ≤ 36, GdGets (exec (.clz t gd ga gb 0) s) t s gd (BitVec.ofNat 36 n) ∧ a.toNat < 2 ^ (36 - n) ∧ (n < 36 → a.getLsbD (35 - n) = true)) ∧
      (∃ n ≤ 36, GdGets (exec (.ctz t gd ga gb 0) s) t s gd (BitVec.ofNat 36 n) ∧ a.toNat % 2 ^ n = 0 ∧ (n < 36 → a.getLsbD n = true)) ∧
      GdGets (exec (.popc t gd ga gb 0) s) t s gd (BitVec.ofNat 36 ((List.range 36).countP (fun i => a.getLsbD i))) ∧
      (∃ v, GdGets (exec (.bswap t gd ga gb 0) s) t s gd v ∧ leBytes 4 v.toNat = (leBytes 4 a.toNat).reverse ∧ v.toNat < 2 ^ 32))
/-- Immediate and bit-field instructions, and special registers (Tables 5.5, 5.6 and 5.1; R273, R276, R312): ADDI and the set-less-than
forms extend the sign, ANDI, ORI and XORI extend with zeros, SLTIU compares unsigned with the sign-extended immediate; EXTU, EXTS and INS
take LEN bits from POS; MFS reads a special register, MTS writes one that is writable. Nothing but the destination and the PC changes. -/
def Obligations.ImmediateAndFieldInstructionsCompute : Prop :=
  ∀ (s : State) (t : BitVec 9) (gd ga : BitVec 5) (a : Word36), a = regG s t.toNat ga →
    (∀ imm : BitVec 16, CanIssue s t [ga] [gd] →
      GdGets (exec (.addi t gd ga 0 imm) s) t s gd (BitVec.ofInt 36 (a.toInt + imm.toInt)) ∧
      GdGets (exec (.andi t gd ga 0 imm) s) t s gd (BitVec.ofNat 36 (a.toNat &&& imm.toNat)) ∧
      GdGets (exec (.ori t gd ga 0 imm) s) t s gd (BitVec.ofNat 36 (a.toNat ||| imm.toNat)) ∧
      GdGets (exec (.xori t gd ga 0 imm) s) t s gd (BitVec.ofNat 36 (a.toNat ^^^ imm.toNat)) ∧
      GdGets (exec (.slti t gd ga 0 imm) s) t s gd (if a.toInt < imm.toInt then 1 else 0) ∧
      GdGets (exec (.sltiu t gd ga 0 imm) s) t s gd (if a.toNat < (BitVec.ofInt 36 imm.toInt).toNat then 1 else 0)) ∧
    (∀ imm : BitVec 20, CanIssue s t [] [gd] → GdGets (exec (.lui t gd 0 imm) s) t s gd (BitVec.ofNat 36 (imm.toNat * 65536))) ∧
    (∀ pos : BitVec 6, pos.toNat < 36 → CanIssue s t [ga] [gd] →
      GdGets (exec (.slli t gd ga pos 0 0) s) t s gd (BitVec.ofNat 36 (a.toNat * 2 ^ pos.toNat)) ∧
      GdGets (exec (.srli t gd ga pos 0 0) s) t s gd (BitVec.ofNat 36 (a.toNat / 2 ^ pos.toNat)) ∧
      GdGets (exec (.srai t gd ga pos 0 0) s) t s gd (BitVec.ofInt 36 (a.toInt / 2 ^ pos.toNat)) ∧
      (∃ v, GdGets (exec (.roli t gd ga pos 0 0) s) t s gd v ∧ ∀ i < 36, v.getLsbD ((i + pos.toNat) % 36) = a.getLsbD i)) ∧
    (∀ pos len : BitVec 6, 0 < len.toNat → pos.toNat + len.toNat ≤ 36 →
      (CanIssue s t [ga] [gd] →
        GdGets (exec (.extu t gd ga pos len 0) s) t s gd (BitVec.ofNat 36 (a.toNat / 2 ^ pos.toNat % 2 ^ len.toNat)) ∧
        GdGets (exec (.exts t gd ga pos len 0) s) t s gd
          (BitVec.ofInt 36 (BitVec.ofNat len.toNat (a.toNat / 2 ^ pos.toNat)).toInt)) ∧
      (CanIssue s t [ga, gd] [gd] → ∃ v, GdGets (exec (.ins t gd ga pos len 0) s) t s gd v ∧ ∀ i < 36, v.getLsbD i =
        (if pos.toNat ≤ i ∧ i < pos.toNat + len.toNat then a.getLsbD (i - pos.toNat) else (regG s t.toNat gd).getLsbD i))) ∧
    (∀ n : BitVec 16, n.toNat ≤ 17 → CanIssue s t [] [gd] → mulEarly s t.toNat n.toNat = false →
      GdGets (exec (.mfs t gd 0 0 n) s) t s gd (readSpecial s t.toNat n.toNat)) ∧
    (∀ n : BitVec 16, specialWritable n.toNat = true → CanIssue s t [ga] [] → StepTo (exec (.mts t 0 ga 0 n) s) t
      { writeSpecial n.toNat a (thr s t.toNat) with pc := (thr s t.toNat).pc + 1 } s)
/-- Multiplies enter the pipeline and land in MH and ML in issue order (R308-R311, Table 5.13): MUL and MULU the 72-bit product, CLMUL the
carry-less product of bits [31:0], GFM8 and GFM16 lanes over their fields; gd must be g0, and only the PC changes besides. -/
def Obligations.MultipliesEnterAndLand : Prop :=
  ∀ (s : State) (t : BitVec 9) (ga gb : BitVec 5) (a b : Word36), a = regG s t.toNat ga → b = regG s t.toNat gb →
    (CanIssue s t [ga, gb] [] →
      (∀ c, c = Instr.mul t 0 ga gb 0 → ∃ r, ((r.mh.toNat * 2 ^ 36 + r.ml.toNat : Nat) : Int) = a.toInt * b.toInt % 2 ^ 72 ∧
        StepTo (exec c s) t { thr s t.toNat with muls := (thr s t.toNat).muls ++ [r], pc := (thr s t.toNat).pc + 1 } s) ∧
      (∀ c, c = Instr.mulu t 0 ga gb 0 → ∃ r, r.mh.toNat * 2 ^ 36 + r.ml.toNat = a.toNat * b.toNat ∧
        StepTo (exec c s) t { thr s t.toNat with muls := (thr s t.toNat).muls ++ [r], pc := (thr s t.toNat).pc + 1 } s) ∧
      (∀ c, c = Instr.clmul t 0 ga gb 0 → ∃ r, r.mh.toNat * 2 ^ 36 + r.ml.toNat = clmulN 32 (a.toNat % 2 ^ 32) (b.toNat % 2 ^ 32) ∧
        StepTo (exec c s) t { thr s t.toNat with muls := (thr s t.toNat).muls ++ [r], pc := (thr s t.toNat).pc + 1 } s) ∧
      (∀ c, c = Instr.gfm8 t 0 ga gb 0 → ∃ r, r.mh = 0 ∧ (∀ i < 4, r.ml.toNat / 2 ^ (8 * i) % 256 =
          gf8 (a.toNat / 2 ^ (8 * i) % 256) (b.toNat / 2 ^ (8 * i) % 256)) ∧ r.ml.toNat < 2 ^ 32 ∧
        StepTo (exec c s) t { thr s t.toNat with muls := (thr s t.toNat).muls ++ [r], pc := (thr s t.toNat).pc + 1 } s) ∧
      (∀ c, c = Instr.gfm16 t 0 ga gb 0 → ∃ r, r.mh = 0 ∧ (∀ i < 2, r.ml.toNat / 2 ^ (16 * i) % 65536 =
          gf16 (a.toNat / 2 ^ (16 * i) % 65536) (b.toNat / 2 ^ (16 * i) % 65536)) ∧ r.ml.toNat < 2 ^ 32 ∧
        StepTo (exec c s) t { thr s t.toNat with muls := (thr s t.toNat).muls ++ [r], pc := (thr s t.toNat).pc + 1 } s)) ∧
    (∀ r rest, (thr s t.toNat).muls = r :: rest → exec (.multiplyLand t) s = .next
      (updThr t.toNat (fun x => mendSpecials [5, 6] { x with mh := r.mh, ml := r.ml, muls := rest }) s))
/-- Loads, in the addressing modes of Table 5.9 (R289): a data-memory word (R281), octets of the selected handle (R292) and of the item's
context (R282) land in gt at once; those of a spilled handle and of a DRAM window (R283) stall the thread and land when the data returns
(R293, R338), asked of the memory when they issue (R542). A read corrects the words it can and poisons the lines of those it cannot (R579,
R580, R583). Effective addresses: displacement, register, and post-increment. -/
def Obligations.LoadsDeliver : Prop :=
  (∀ (x : Thread) (ga : BitVec 5) (md : BitVec 16), effAddr x ga 0 (modeField false 0 md) = (getG x ga + md.signExtend 36, none) ∧
    effAddr x ga 2 (modeField false 2 md) = (getG x ga, some (getG x ga + md.signExtend 36)) ∧
    ∀ gb : BitVec 5, effAddr x ga 1 (modeField false 1 (BitVec.ofNat 16 (gb.toNat * 2048))) = (getG x ga + getG x gb, none)) ∧
  ∀ (s : State) (t : BitVec 9) (gt ga : BitVec 5) (w mode : BitVec 2) (md : BitVec 16) (f g : ModeField) (a : State) (ea : Nat)
    (wb : Option Word36) (upd : List (BitVec 5)), f = modeField false mode md → g = modeField true mode md → a = noteIssue t.toNat s →
    upd = (if 2 ≤ mode.toNat then [ga] else []) →
    (CanIssue s t (modeRegs ga mode f) ([gt] ++ upd) → modeIllegal (thr s t.toNat) mode f = false →
      effAddr (thr s t.toNat) ga mode f = (BitVec.ofNat 36 ea, wb) → ea < 2 ^ 36 →
      (ea ≤ 32767 → s.cores.dmemBad.contains (dmemKey (coreOf t.toNat) ea) = false → StepTo (exec (.ldw t gt ga 0 mode md) s) t
        { writeBack ga wb (putG gt (dmemGet s (coreOf t.toNat) ea) (thr s t.toNat)) with pc := (thr s t.toNat).pc + 1 }
        (checkDmem [dmemKey (coreOf t.toNat) ea] s)) ∧
      (ctxBad s t.toNat ea (w.toNat + 1) = false → ∀ d c b, d = drainStores t.toNat a → c = ctxOf d t.toNat →
        b = checkCtx c ea (w.toNat + 1) (ctxTouch c d) → ctxPoisoned b (ctxOf b t.toNat) ea (w.toNat + 1) = false →
        exec (.ldc t gt ga w mode md) s = .next (stepIssued t.toNat (advance t.toNat (updThr t.toNat
          (fun x => writeBack ga wb (putG gt (octetValue (ctxRead b (ctxOf b t.toNat) ea (w.toNat + 1))) x)) b)))) ∧
      (windowBad s t.toNat ea (w.toNat + 1) false = false → exec (.ldd t gt ga w mode md) s = .next (stallThread t.toNat
        (.dram gt ga (w.toNat + 1) wb none (windowAddr s t.toNat ea) (ea % 2 ^ 14) (encM 22 gt ga w mode md)) ctrStallDram
        (requestLines 3 false (windowAddr s t.toNat ea) (w.toNat + 1) (drainStores t.toNat a))))) ∧
    (CanIssue s t (modeRegs ga mode g) ([gt] ++ upd) → modeIllegal (thr s t.toNat) mode g = false →
      effAddr (thr s t.toNat) ga mode g = (BitVec.ofNat 36 ea, wb) → ea < 2 ^ 36 → ∀ h b, h = selHandle s t.toNat g →
      b = checkVat (hIndex h) ea (w.toNat + 1) (drainStores t.toNat a) → pktBad s t.toNat h ea (w.toNat + 1) 16384 = false →
      (((handleOf b (hIndex h)).spilled && decide (ea < 16352)) = false → pktPoisoned b (handleOf b (hIndex h)) ea (w.toNat + 1) = false →
        exec (.ldp t gt ga w mode md) s = .next (stepIssued t.toNat (advance t.toNat (updThr t.toNat
          (fun x => writeBack ga wb (putG gt (octetValue (pktRead b (handleOf b (hIndex h)) ea (w.toNat + 1))) x)) b)))) ∧
      (((handleOf b (hIndex h)).spilled && decide (ea < 16352)) = true → exec (.ldp t gt ga w mode md) s = .next (stallThread t.toNat
        (.dram gt ga (w.toNat + 1) wb (some (hIndex h)) ea (g.hsel * 2 ^ 28 + ea % 2 ^ 14) (encM 18 gt ga w mode md)) ctrStallDram b))) ∧
    (∀ k i x d word b, (thr s t.toNat).stall = .dram gt ga k wb (some i) x d word → pktPoisoned s (handleOf s i) x k = false →
      (∀ p ∈ spillSpans (handleOf s i) x k, dramAsleep s p.1 p.2 = false) → b = noteSpillRead (handleOf s i) x k s →
      exec (.dramReadComplete t) s = .next (finishDram t.toNat gt ga (pktRead b (handleOf s i) x k) false wb b)) ∧
    (∀ k x d word b, (thr s t.toNat).stall = .dram gt ga k wb none x d word → dramAsleep s x k = false → dramPoisoned s x k = false →
      b = serveLines 3 x k s → exec (.dramReadComplete t) s = .next (finishDram t.toNat gt ga (dramBytes b x k) false wb b))
/-- Stores: STW writes a data-memory word (R281); octet stores of W + 1 bytes, most significant first (R291), enter the thread's store
buffer of 8 (R294), a packet slot without a cell being granted one first or its thread waiting at the drawer (R162, R193); each drains to
its context bytes, its handle or its DRAM lines and to no other byte (R565); one to DRAM goes through the window that stands when it
drains (R285; log entry 120). -/
def Obligations.StoresReachMemory : Prop :=
  ∀ (s : State) (t : BitVec 9) (gt ga : BitVec 5) (w mode : BitVec 2) (md : BitVec 16) (f g : ModeField) (a : State) (ea : Nat)
    (wb : Option Word36) (upd : List (BitVec 5)), f = modeField false mode md → g = modeField true mode md → a = noteIssue t.toNat s →
    upd = (if 2 ≤ mode.toNat then [ga] else []) →
    (CanIssue s t (gt :: modeRegs ga mode f) upd → modeIllegal (thr s t.toNat) mode f = false →
      effAddr (thr s t.toNat) ga mode f = (BitVec.ofNat 36 ea, wb) → ea < 2 ^ 36 →
      (ea ≤ 32767 → StepTo (exec (.stw t gt ga 0 mode md) s) t { writeBack ga wb (thr s t.toNat) with pc := (thr s t.toNat).pc + 1 }
        (dmemStore (coreOf t.toNat) ea [regG s t.toNat gt] s)) ∧
      ((thr s t.toNat).stores.length < 8 → ctxBad s t.toNat ea (w.toNat + 1) = false → StepTo (exec (.stc t gt ga w mode md) s) t
        { writeBack ga wb (thr s t.toNat) with
          stores := (thr s t.toNat).stores ++ [{ space := 1, object := ctxOf s t.toNat, address := ea
                                                 bytes := beBytes (w.toNat + 1) (regG s t.toNat gt).toNat }]
          pc := (thr s t.toNat).pc + 1 } s) ∧
      ((thr s t.toNat).stores.length < 8 → windowBad s t.toNat ea (w.toNat + 1) true = false → StepTo (exec (.std t gt ga w mode md) s) t
        { writeBack ga wb (thr s t.toNat) with
          stores := (thr s t.toNat).stores ++ [{ space := 2, object := t.toNat, address := ea
                                                 bytes := beBytes (w.toNat + 1) (regG s t.toNat gt).toNat }]
          pc := (thr s t.toNat).pc + 1 } s) ∧
      (8 ≤ (thr s t.toNat).stores.length → windowBad s t.toNat ea (w.toNat + 1) true = false → exec (.std t gt ga w mode md) s = .next
        (stepIssued t.toNat (storeDone t.toNat ga wb (pushStore t.toNat
          { space := 2, object := t.toNat, address := ea, bytes := beBytes (w.toNat + 1) (regG s t.toNat gt).toNat } a))))) ∧
    (CanIssue s t (gt :: modeRegs ga mode g) upd → modeIllegal (thr s t.toNat) mode g = false →
      effAddr (thr s t.toNat) ga mode g = (BitVec.ofNat 36 ea, wb) → ea < 2 ^ 36 → ∀ h x, h = selHandle s t.toNat g →
      x = handleOf s (hIndex h) →
      (stampLost s t.toNat = true → exec (.stp t gt ga w mode md) s = .next (settle (stepIssued t.toNat (voidStamp t.toNat a)))) ∧
      (stampLost s t.toNat = false → pktBad s t.toNat h ea (w.toNat + 1) 16352 = false →
      (missingSlots x ea (w.toNat + 1) = [] → exec (.stp t gt ga w mode md) s = .next (stepIssued t.toNat
        (storePacket t.toNat gt ga h ea (w.toNat + 1) wb a))) ∧
      (∀ n b, n = (missingSlots x ea (w.toNat + 1)).length → 0 < n → x.kind ≠ .free → x.spilled = false → b = threadBank s t.toNat →
        (∀ r, (drawerWaiters s x.drawer).isEmpty = true → r = readyGrow b x n a →
          (r.1 = true → exec (.stp t gt ga w mode md) s = .next (stepIssued t.toNat (storePacket t.toNat gt ga h ea (w.toNat + 1) wb
            (progress (waitsDrawer x.drawer) (grow b (hIndex h) (missingSlots x ea (w.toNat + 1)) r.2))))) ∧
          (r.1 = false → exec (.stp t gt ga w mode md) s = .next (stallThread t.toNat
            (.drawer x.drawer n (.store gt ga w mode md) (encM 19 gt ga w mode md)) ctrStallDrawer (joinDrawer x.drawer t.toNat r.2)))) ∧
        ((drawerWaiters s x.drawer).isEmpty = false → exec (.stp t gt ga w mode md) s = .next (stallThread t.toNat
          (.drawer x.drawer n (.store gt ga w mode md) (encM 19 gt ga w mode md)) ctrStallDrawer (joinDrawer x.drawer t.toNat a)))))) ∧
    (∀ (e : StoreEntry) (r : List StoreEntry), (thr s t.toNat).stores = e :: r →
      (e.space = 2 → dramAsleep s (windowAddr s e.object e.address) e.bytes.length = false) → ∃ u, exec (.storeBufferDrain t) s = .next u ∧
      (thr u t.toNat).stores = r ∧
      (e.space = 0 → u = drainEntry e (updThr t.toNat (fun x => { x with stores := r }) s)) ∧
      (e.space = 1 → e.address + e.bytes.length ≤ 256 → ctxRead u e.object e.address e.bytes.length = e.bytes ∧
        (∀ off n, (off + n ≤ e.address ∨ e.address + e.bytes.length ≤ off) → ctxRead u e.object off n = ctxRead s e.object off n) ∧
        ∀ c off n, c ≠ e.object → off + n ≤ 256 → ctxRead u c off n = ctxRead s c off n) ∧
      (e.space = 2 → windowBad s e.object e.address e.bytes.length true = true → u.dram.mem = s.dram.mem) ∧
      (e.space = 2 → windowBad s e.object e.address e.bytes.length true = false → ∀ d x, d = windowAddr s e.object e.address →
        memGet u.dram.mem x = (if d ≤ x ∧ x < d + e.bytes.length ∧ lineClosed s (x / 64) = false then
          e.bytes.getD (x - d) 0 else memGet s.dram.mem x)))
/-- Packet management (Table 5.10): for a thread that acts for the owner, PALLOC and PALLOCE make a buffer handle of at most 64 cells or
wait at the drawer (R193, R296), an item's stamp standing (R57), PFREE and PFREES free all its cells or a range (R196, R206), PXFER moves
them to another owner if its budget has room (R198), PBIND makes it a packet handle with one reference, PREF and PDEREF add and remove a
reference (R202-R204); an answer that comes late stalls the thread until CABINET_ANSWER (R298). -/
def Obligations.PacketManagementActs : Prop :=
  ∀ (s : State) (t : BitVec 9) (gd ga gb : BitVec 5) (a : State) (h : HandleWord) (i : Nat) (x : Handle) (b : Nat), a = noteIssue t.toNat s →
    h = regHandle s t.toNat ga → i = hIndex h → x = handleOf s i → b = (regG s t.toNat gb).toNat →
    (CanIssue s t [ga] [gd] → stampLost s t.toNat = false → natBits (regG s t.toNat ga).toNat 0 7 ≤ 64 → ∀ n d o r p,
      n = natBits (regG s t.toNat ga).toNat 0 7 → d = (ownerProf (threadBank s t.toNat) o).drawer.toNat →
      r = readyVat (threadBank s t.toNat) o d n a → p = readySpill (threadBank s t.toNat) o d n r.2 →
      ∀ c func op, ((c = Instr.palloc t gd ga gb 0 ∧ o = 64 + coreOf t.toNat ∧ func = 0 ∧ op = CabOp.palloc) ∨
        (c = Instr.palloce t gd ga gb 0 ∧ o = 128 ∧ actsFor s t.toNat 128 = true ∧ func = 1 ∧ op = CabOp.palloce)) →
      ((drawerWaiters s d).isEmpty = true → (r.1 = true ∨ p.1 = true) → ∃ k u, exec c s = .next u ∧
        (handleOf u k).kind = .buffer ∧ (handleOf u k).owner = BitVec.ofNat 8 o ∧ (handleOf u k).charge = BitVec.ofNat 8 o ∧
        (handleOf u k).spilled = !r.1 ∧ (thr u t.toNat).pc = (thr s t.toNat).pc + 1 ∧
        (gd ≠ 0 → (regG u t.toNat gd).toNat = (handleOf u k).gen.toNat * 2 ^ 20 + k)) ∧
      ((drawerWaiters s d).isEmpty = true → r.1 = false → p.1 = false → exec c s = .next
        (stallThread t.toNat (.drawer d n (.alloc op gd ga) (encR 24 gd ga gb 0 func)) ctrStallDrawer (joinDrawer d t.toNat p.2))) ∧
      ((drawerWaiters s d).isEmpty = false → exec c s = .next
        (stallThread t.toNat (.drawer d n (.alloc op gd ga) (encR 24 gd ga gb 0 func)) ctrStallDrawer (joinDrawer d t.toNat a)))) ∧
    (staleHandle s h = false → x.kind = .buffer → actsFor s t.toNat x.owner.toNat = true →
      (CanIssue s t [ga] [] → exec (.pfree t gd ga gb 0 false) s = .next (stepIssued t.toNat (advance t.toNat (freeHandle i a))) ∧
        StepTo (exec (.pbind t gd ga gb 0 false) s) t { thr s t.toNat with pc := (thr s t.toNat).pc + 1 }
          (setHandle i { x with kind := .packet, owner := 254, refs := 1 } s)) ∧
      (CanIssue s t [ga, gb] [] → exec (.pfrees t gd ga gb 0 false) s = .next
        (stepIssued t.toNat (advance t.toNat (freeRange i (natBits b 0 6) (natBits b 6 6) a)))) ∧
      (CanIssue s t [ga, gb] [gd] → stampLost s t.toNat = false → xferOwner (natBits b 0 8) = true →
          ∀ p, p = ownerProf (threadBank s t.toNat) (natBits b 0 8) →
        (x.spilled = false → vatBudget s (threadBank s t.toNat) (natBits b 0 8) p.drawer.toNat x.cells.length = true → ∃ u,
          exec (.pxfer t gd ga gb 0 false) s = .next u ∧
          handleOf u i = { x with owner := BitVec.ofNat 8 b, charge := BitVec.ofNat 8 b, drawer := p.drawer.toNat } ∧
          regG u t.toNat gd = 0 ∧ (thr u t.toNat).pc = (thr s t.toNat).pc + 1) ∧
        (x.spilled = false → vatBudget s (threadBank s t.toNat) (natBits b 0 8) p.drawer.toNat x.cells.length = false →
          GdGets (exec (.pxfer t gd ga gb 0 false) s) t s gd 1))) ∧
    (staleHandle s h = false → CanIssue s t [ga] [] →
      (canRef s i = true → StepTo (exec (.pref t gd ga gb 0 false) s) t { thr s t.toNat with pc := (thr s t.toNat).pc + 1 }
        (setHandle i { x with refs := x.refs + 1 } s)) ∧
      (x.kind = .packet → x.refs ≠ 0 → exec (.pderef t gd ga gb 0 false) s = .next
        (stepIssued t.toNat (advance t.toNat (dropRef i a))))) ∧
    (∀ op word, (thr s t.toNat).stall = .cabinet op gd ga gb word → exec (.cabinetAnswer t) s = .next (settle (settleAnswer t.toNat
      (cabAct op t.toNat gd ga gb word (updThr t.toNat (fun y => { y with stall := .none }) s))))) ∧
    (CanIssue s t [ga] [] → exec (.pfree t gd ga gb 0 true) s = .next
      (stallThread t.toNat (.cabinet .pfree gd ga gb (encR 24 gd ga gb 0 2)) ctrStallCabinet a))
/-- EMIT and EMITF stage an output with a reference on its handle, the thread's stores visible (R287, R299), EMITF and VOID end the item and
free the thread (R38, R300), and what may follow the end of an item follows (R32, R520); a stale handle is counted (R158), and a bad handle,
frame, option, handler or seventeenth output is EMIT_BAD (R301). -/
def Obligations.EmitAndVoidAct : Prop :=
  ∀ (s : State) (t : BitVec 9) (gc ga gb : BitVec 5) (a : State), a = noteIssue t.toNat s →
    (CanIssue s t [gc, ga, gb] [] → emitBad s t.toNat ga gb gc = false → ∀ b o, b = drainStores t.toNat a → o = stagedOf s t.toNat ga gb gc →
      canRef b (hIndex o.handle) = true →
      exec (.emit t gc ga gb 0 false) s = .next (stepIssued t.toNat (advance t.toNat (stageOutput t.toNat o b))) ∧
      exec (.emitF t gc ga gb 0 false) s = .next (settle (stepIssued t.toNat
        (completeItem t.toNat false (advance t.toNat (stageOutput t.toNat o b)))))) ∧
    (CanIssue s t [gc, ga, gb] [] → emitBad s t.toNat ga gb gc = true → ∀ b, b = pktNote a (regHandle s t.toNat ga) →
      exec (.emit t gc ga gb 0 false) s = .next (stepIssued t.toNat (haltThread t.toNat 0x0C (encR 25 gc ga gb 0 0) 0 b)) ∧
      exec (.emitF t gc ga gb 0 false) s = .next (settle (stepIssued t.toNat (haltThread t.toNat 0x0C (encR 25 gc ga gb 0 1) 0 b)))) ∧
    (CanIssue s t [] [] → (thr s t.toNat).hdl = false → (thr s t.toNat).item ≠ none →
      exec (.voidItem t gc ga gb 0 false) s = .next (settle (stepIssued t.toNat
        (completeItem t.toNat true (advance t.toNat (drainStores t.toNat a))))))
/-- Control transfers (Table 5.14, R274, R277, R279): a branch taken goes to TARGET, one not taken to the next address; BBS and BBC test
bit BIT; J and JAL go to TARGET, JR and JALR to ga[15:0], read before gd is written (log entry 15); JAL and JALR leave PC + 1 in gd;
nothing else changes. -/
def Obligations.ControlTransfersGo : Prop :=
  ∀ (s : State) (t : BitVec 9) (gd ga gb : BitVec 5) (target : BitVec 16) (a b : Word36) (x : Thread),
    a = regG s t.toNat ga → b = regG s t.toNat gb → x = thr s t.toNat →
    (CanIssue s t [ga, gb] [] →
      StepTo (exec (.beq t ga gb 0 target) s) t { x with pc := if a = b then target else x.pc + 1 } s ∧
      StepTo (exec (.bne t ga gb 0 target) s) t { x with pc := if a ≠ b then target else x.pc + 1 } s ∧
      StepTo (exec (.blt t ga gb 0 target) s) t { x with pc := if a.toInt < b.toInt then target else x.pc + 1 } s ∧
      StepTo (exec (.bge t ga gb 0 target) s) t { x with pc := if b.toInt ≤ a.toInt then target else x.pc + 1 } s ∧
      StepTo (exec (.bltu t ga gb 0 target) s) t { x with pc := if a.toNat < b.toNat then target else x.pc + 1 } s ∧
      StepTo (exec (.bgeu t ga gb 0 target) s) t { x with pc := if b.toNat ≤ a.toNat then target else x.pc + 1 } s) ∧
    (∀ bit : BitVec 6, bit.toNat < 36 → CanIssue s t [ga] [] →
      StepTo (exec (.bbs t ga bit 0 target) s) t { x with pc := if a.getLsbD bit.toNat = true then target else x.pc + 1 } s ∧
      StepTo (exec (.bbc t ga bit 0 target) s) t { x with pc := if a.getLsbD bit.toNat = false then target else x.pc + 1 } s) ∧
    (CanIssue s t [] [] → StepTo (exec (.jump t gd 0 target) s) t { x with pc := target } s) ∧
    (CanIssue s t [] [gd] → StepTo (exec (.jal t gd 0 target) s) t
      { putG gd (BitVec.ofNat 36 (x.pc + 1).toNat) x with pc := target } s) ∧
    (CanIssue s t [ga] [] → StepTo (exec (.jr t gd ga gb 0) s) t { x with pc := BitVec.ofNat 16 a.toNat } s) ∧
    (CanIssue s t [ga] [gd] → StepTo (exec (.jalr t gd ga gb 0) s) t
      { putG gd (BitVec.ofNat 36 (x.pc + 1).toNat) x with pc := BitVec.ofNat 16 a.toNat } s)
/-- System instructions (Table 5.15): YIELD makes the thread READY and lets its core choose (R336), FENCE drains its stores (R287), BRK
raises BREAK (R320), END ends a late item and frees its thread, RESUME executes the interrupted instruction again under the deadline
N + W + 4 (R47, R323), and a supervisor's SVEND and SVRST end or reset another thread of its cluster (R348-R351), or are ignored; what may
follow the end of an item follows (R32, R520). -/
def Obligations.SystemInstructionsAct : Prop :=
  ∀ (s : State) (t : BitVec 9) (gd ga gb : BitVec 5) (a : State), a = noteIssue t.toNat s →
    (CanIssue s t [] [] →
      exec (.yieldRun t gd ga gb 0) s = .next (stepIssued t.toNat (walk (coreOf t.toNat) (updThr t.toNat (fun x => { x with st := .ready })
        (count .core (coreOf t.toNat) 11 1 (advance t.toNat a))))) ∧
      exec (.fence t gd ga gb 0) s = .next (stepIssued t.toNat (advance t.toNat (drainStores t.toNat a))) ∧
      exec (.brk t gd ga gb 0) s = .next (stepIssued t.toNat (haltThread t.toNat 0x10 (encR 48 gd ga gb 0 3) 0 a)) ∧
      ((thr s t.toNat).hdl = false → exec (.endH t gd ga gb 0) s = .next (settle (haltThread t.toNat 0x01 (encR 48 gd ga gb 0 8) 0 s)) ∧
        exec (.resumeH t gd ga gb 0) s = .next (haltThread t.toNat 0x01 (encR 48 gd ga gb 0 9) 0 s)) ∧
      (∀ b, (thr s t.toNat).hdl = true → b = detachOps t.toNat (loseLocks t.toNat 4 (checkHeld t.toNat (advance t.toNat a))) →
        (∀ k x, (thr b t.toNat).item = some k → itemOf b k = some x →
          exec (.endH t gd ga gb 0) s = .next (settle (stepIssued t.toNat
            (admitEvents (freeThread t.toNat (voidItem k (lateLoss x b))))))) ∧
        ((thr b t.toNat).item = none → exec (.endH t gd ga gb 0) s = .next
          (settle (stepIssued t.toNat (admitEvents (freeThread t.toNat b)))))) ∧
      (∀ k x d, (thr s t.toNat).hdl = true → (thr s t.toNat).terminated = false → (thr s t.toNat).item = some k → itemOf s k = some x →
        d = x.arrival + BitVec.ofNat 48 x.window + 4 → StepTo (exec (.resumeH t gd ga gb 0) s) t { thr s t.toNat with
          pc := (thr s t.toNat).epc, hdl := false, rsm := true, dl := d.setWidth 36 }
          (putItem k { x with resumed := true, deadline := d } s))) ∧
    (CanIssue s t [ga] [] → ∀ u, u = (regG s t.toNat ga).toNat % 4096 →
      (isSupervisor s t.toNat = false →
        exec (.svend t gd ga gb 0) s = .next (settle (haltThread t.toNat 0x01 (encR 48 gd ga gb 0 32) 0 s)) ∧
        exec (.svrst t gd ga gb 0) s = .next (settle (haltThread t.toNat 0x01 (encR 48 gd ga gb 0 33) 0 s))) ∧
      (isSupervisor s t.toNat = true → u / 64 = clusterOf t.toNat → u ≠ t.toNat →
        ((thr s u).st = .halt → exec (.svend t gd ga gb 0) s = .next (settle (stepIssued t.toNat (advance t.toNat
          (admitEvents (freeThread u (endFaulted u (detachOps u (loseLocks u 4 (checkHeld u a)))))))))) ∧
        ((thr s u).st ≠ .halt → ∃ n, exec (.svend t gd ga gb 0) s = .next (settle n) ∧ thr n u = thr s u ∧ (flagReg n 0x4C0).getLsbD 7 = true ∧
          (thr n t.toNat).pc = (thr s t.toNat).pc + 1) ∧
        exec (.svrst t gd ga gb 0) s = .next (settle (stepIssued t.toNat (advance t.toNat
          (admitEvents (l0Reset u (checkHeld u a))))))) ∧
      (isSupervisor s t.toNat = true → (u / 64 ≠ clusterOf t.toNat ∨ u = t.toNat) → ∃ n, exec (.svrst t gd ga gb 0) s = .next (settle n) ∧
        (flagReg n 0x4C0).getLsbD 7 = true ∧ (thr n t.toNat).pc = (thr s t.toNat).pc + 1 ∧ n.dov = s.dov))
/-- Dovetail locks (R353-R360, R376): a free lock is granted to DLOCK and DTRY with its grant word; a lock already owned gives it again; one
owned by another master makes DLOCK wait, or break the cycle its wait would close, and DTRY read the owner back; DUNLK by the owner frees
the lock, which goes to a waiter of highest effective priority (R358), and by another is ignored and counted (R359). A lock whose word or
queue fails is released first, broken with cause 7 (R364, R584), and its grant word tells so. -/
def Obligations.LocksAreGranted : Prop :=
  ∀ (s : State) (t : BitVec 9) (gd ga gb : BitVec 5) (imm : BitVec 12) (k : Nat) (a : State) (l : Lock), a = noteIssue t.toNat s →
    k = ((regG s t.toNat ga).toNat + imm.toNat) % 4096 → l = lockOf s k →
    (CanIssue s t [ga] [gd] → l.waiters = [] → lockUnit k = none → (DovWord.lock k ∈ s.dov.bad ∨ DovWord.queue k ∈ s.dov.bad) →
      ∀ g : Lock, g = { l with owner := BitVec.ofNat 12 t.toNat, last := l.owner, broken := 7 } →
      StepTo (exec (.dlock t gd ga gb imm) s) t { putG gd (grantWord g) (thr s t.toNat) with pc := (thr s t.toNat).pc + 1 }
        (lockProgress k (setLock k g (checkLock k s))) ∧
      StepTo (exec (.dtry t gd ga gb imm) s) t { putG gd (grantWord g) (thr s t.toNat) with pc := (thr s t.toNat).pc + 1 }
        (lockProgress k (setLock k g (checkLock k s)))) ∧
    (s.dov.weak = [] → s.dov.bad = [] →
    (CanIssue s t [ga] [gd] → l.owner = 4095 → ∀ g : Lock, g = { l with owner := BitVec.ofNat 12 t.toNat } →
      StepTo (exec (.dlock t gd ga gb imm) s) t { putG gd (grantWord g) (thr s t.toNat) with pc := (thr s t.toNat).pc + 1 }
        (lockProgress k (setLock k g s)) ∧
      StepTo (exec (.dtry t gd ga gb imm) s) t { putG gd (grantWord g) (thr s t.toNat) with pc := (thr s t.toNat).pc + 1 }
        (lockProgress k (setLock k g s))) ∧
    (CanIssue s t [ga] [gd] → l.owner.toNat = t.toNat →
      GdGets (exec (.dlock t gd ga gb imm) s) t s gd (grantWord l) ∧ GdGets (exec (.dtry t gd ga gb imm) s) t s gd (grantWord l)) ∧
    (CanIssue s t [ga] [gd] → l.owner ≠ 4095 → l.owner.toNat ≠ t.toNat →
      GdGets (exec (.dtry t gd ga gb imm) s) t s gd (BitVec.ofNat 36 l.owner.toNat) ∧
      (lockCycle (s.dov.locks.length + 1) a t.toNat k = none →
        exec (.dlock t gd ga gb imm) s = .next (queueLock k t.toNat gd (encD 40 0 gd ga gb imm) a)) ∧
      (∀ others, lockCycle (s.dov.locks.length + 1) a t.toNat k = some others →
        exec (.dlock t gd ga gb imm) s = .next (stepIssued t.toNat (breakCycle k t.toNat gd (encD 40 0 gd ga gb imm) others a)))) ∧
    (CanIssue s t [ga] [] → (thr s t.toNat).stores = [] → (l.owner.toNat = t.toNat → lockUnit k = none →
      (l.waiters = [] → ∃ u, exec (.dunlk t gd ga gb imm) s = .next u ∧ lockOf u k = { l with owner := 4095, last := l.owner, broken := 0 } ∧
        (thr u t.toNat).pc = (thr s t.toNat).pc + 1 ∧ u.cab = s.cab) ∧
      (l.waiters ≠ [] → ∃ u, exec (.dunlk t gd ga gb imm) s = .next u ∧ ∃ w ∈ l.waiters, (lockOf u k).owner = BitVec.ofNat 12 w ∧
        (lockOf u k).waiters = l.waiters.filter (· != w) ∧ ∀ v ∈ l.waiters, effPrio s v ≤ effPrio s w)) ∧
      (l.owner.toNat ≠ t.toNat → ∃ u, exec (.dunlk t gd ga gb imm) s = .next u ∧ u.dov.locks = s.dov.locks ∧
        (flagReg u 0x4C0).getLsbD 5 = true ∧ (thr u t.toNat).pc = (thr s t.toNat).pc + 1))) ∧
    (∀ (scope : BitVec 4) (v : Nat) (b : State) (n : Nat), scope.toNat < 8 → (detectorOf s scope.toNat).fired = true →
      abortChoice s ((liveIn s scope.toNat).filter (isWaiting s)) = some v → n = (liveIn s scope.toNat).length →
      b = { s with dov := { s.dov with detectors := tabUpd {} s.dov.detectors scope.toNat (fun d => { d with fired := false }) } } →
      exec (.allwaitDetection scope) s = .next (postFault (1016 + scope.toNat) (1000 + scope.toNat)
        (faultMsg b v 1 0x12 (BitVec.ofNat 36 n) (waitDetail (thr b v)))
        (recoveryAbort v (checkHeld v (raise 201 [] (count .dovetail 0 9 1 (setFlag 0x4C0 2 b)))))))
/-- Dovetail channels (R370-R374): DCRES reserves the next slot in order and returns its token, or waits; DCPUT writes a word of the slot of
a live token, DCCMT commits it, a bad token being ignored and counted (R371); DCTAKE claims the lowest unclaimed number, takes its four
words and returns 0, 1 for a void slot, or waits until it is committed (R372); CHANNEL_POST and CHANNEL_TAKE do the same without waiting
(R375). A channel whose pointers fail is emptied before its next
reservation, and a committed slot that fails becomes a void marker (R584). -/
def Obligations.ChannelsPass : Prop :=
  (∀ (s : State) (t : BitVec 9) (gd ga gb : BitVec 5) (imm : BitVec 12) (c : Nat) (a : State), a = noteIssue t.toNat s →
    c = ((regG s t.toNat ga).toNat + imm.toNat) % 1024 →
    (CanIssue s t [ga] [gd] → (chanOf s c).readers = [] → (chanOf s c).writers = [] → DovWord.pointers c ∈ s.dov.bad →
      StepTo (exec (.dcres t gd ga gb imm) s) t
        { putG gd (tokenWord s c (chanOf s c).reserved) (thr s t.toNat) with pc := (thr s t.toNat).pc + 1 }
        (reserveSlot c (BitVec.ofNat 12 t.toNat) .reserved [0, 0, 0, 0] (checkChan c s))) ∧
    (∀ i sl, tabFind (chanOf s c).slots i = some sl → sl.state = .committed → DovWord.slot c (i % chanSize s c) ∈ s.dov.bad →
      tabFind (chanOf (checkSlot c i s) c).slots i = some { sl with state := .voided } ∧
      DovWord.slot c (i % chanSize s c) ∉ (checkSlot c i s).dov.bad) ∧
    (s.dov.weak = [] → s.dov.bad = [] →
    (CanIssue s t [ga] [gd] → mayReserve s c = true → StepTo (exec (.dcres t gd ga gb imm) s) t
      { putG gd (tokenWord s c (chanOf s c).reserved) (thr s t.toNat) with pc := (thr s t.toNat).pc + 1 }
      (reserveSlot c (BitVec.ofNat 12 t.toNat) .reserved [0, 0, 0, 0] s)) ∧
    (CanIssue s t [ga] [gd] → mayReserve s c = false → exec (.dcres t gd ga gb imm) s = .next (stallThread t.toNat
      (.chanWrite c gd (encD 41 0 gd ga gb imm)) ctrStallChannel (setChan c { chanOf s c with writers := (chanOf s c).writers ++ [t.toNat] } a))) ∧
    (CanIssue s t [ga, gb] [] → ∀ d i sl, tokenSlot s (regG s t.toNat ga) t.toNat = some (d, i) → tabFind (chanOf s d).slots i = some sl →
      StepTo (exec (.dcput t gd ga gb imm) s) t { thr s t.toNat with pc := (thr s t.toNat).pc + 1 } (setChan d { chanOf s d with
        slots := tabPut (chanOf s d).slots i { sl with words := sl.words.set (imm.toNat % 4) (regG s t.toNat gb) } } s)) ∧
    (CanIssue s t [ga, gb] [] → tokenSlot s (regG s t.toNat ga) t.toNat = none → ∃ u, exec (.dcput t gd ga gb imm) s = .next u ∧
      u.dov = s.dov ∧ (flagReg u 0x4C0).getLsbD 6 = true ∧ (thr u t.toNat).pc = (thr s t.toNat).pc + 1) ∧
    (CanIssue s t [ga] [] → ∀ b d i, b = drainStores t.toNat a → tokenSlot b (regG s t.toNat ga) t.toNat = some (d, i) →
      exec (.dccmt t gd ga gb imm) s = .next (stepIssued t.toNat (advance t.toNat (commitSlot d i b)))) ∧
    (CanIssue s t [ga, gb] [gd] → (regG s t.toNat gb).toNat ≤ 32764 → ∀ i, i = claimNumber (chanOf s c) →
      (∀ sl, readySlot s c i = some sl → exec (.dctake t gd ga gb imm) s = .next (stepIssued t.toNat (advance t.toNat (setG t.toNat gd
        (if sl.state = .committed then 0 else 1) (deliverWords t.toNat c i (regG s t.toNat gb).toNat sl (takeClaim c a)))))) ∧
      (readySlot s c i = none → ∃ b, b = takeClaim c a ∧ exec (.dctake t gd ga gb imm) s = .next (stallThread t.toNat
        (.chanRead c i gd gb (encD 41 3 gd ga gb imm)) ctrStallChannel
        (setChan c { chanOf b c with readers := tabPut (chanOf b c).readers i t.toNat } b)))))) ∧
  (∀ (s : State) c x, x = chanOf s c → x.readers = [] → x.writers = [] → DovWord.pointers c ∈ s.dov.bad →
      chanOf (checkChan c s) c = { x with slots := [], returned := [], nextClaim := x.reserved } ∧
      DovWord.pointers c ∉ (checkChan c s).dov.bad) ∧
  (∀ (s : State) (m : BitVec 4), completionRoom s = true → s.dov.weak = [] → s.dov.bad = [] →
      (∀ c n, Accepted channelPost m s → c = par s m 0 2 → n = (chanOf s c).reserved → mayReserve s c = true →
        Effect (exec (.channelPost m) s) m s (fun a => commitSlot c n (reserveSlot c (BitVec.ofNat 12 (513 + m.toNat)) .reserved
          ((List.range 4).map (fun i => BitVec.ofNat 36 (par s m (4 + 5 * i) 5))) a)) []) ∧
      (∀ c i sl u, Accepted channelTake m s → c = par s m 0 2 → i = claimNumber (chanOf s c) → readySlot s c i = some sl →
        u = (fun a => settleChan c (progress (waitsChan c) (setChan c { chanOf (takeClaim c a) c with
          slots := tabErase (chanOf a c).slots i } (takeClaim c a)))) →
        (sl.state = .committed → sl.words.length = 4 → Effect (exec (.channelTake m) s) m s u (leBytes 1 0 ++ zeros 3 ++ sl.words.flatMap word5)) ∧
        (sl.state ≠ .committed → Effect (exec (.channelTake m) s) m s (fun a => drawWords (u a))
          (leBytes 1 1 ++ zeros 3 ++ (openWords s).flatMap word5))))
/-- Commands 0x06xx that pass their checks take effect (Table 7.17): tables and learning are configured while disabled (R386, R395), enabled
or cleared (R407); entries are written, deleted, looked up and read as a program would, after the operations that arrived before them at
their buckets (R384), their status word and results returned; flushes count what they remove; a pinned flap is released (R400); notices
leave their queue in order (R422); counters are returned (R152). An entry that fails parity is gone before
it is read or flushed (R416, R418). -/
def Obligations.LookupCommandsTakeEffect : Prop :=
  ∀ (s : State) (m : BitVec 4) (p : List Byte) (t : Nat), completionRoom s = true → p = mbxPayload s m.toNat → t = par s m 0 1 →
    (Accepted emTableConfig m s → (tableOf s t).enabled = false → Effect (exec (.emTableConfig m) s) m s (fun a => updTable t (fun x => { x with
      configured := true, keyWords := par s m 1 1, programWrite := natBit (par s m 2 1) 0, learn := natBit (par s m 2 1) 1
      evictOldest := natBit (par s m 2 1) 2, base := par s m 4 4, buckets := par s m 8 4, seed0 := BitVec.ofNat 32 (par s m 12 4)
      seed1 := BitVec.ofNat 32 (par s m 16 4), lfsr := if par s m 12 4 = 0 then 1 else BitVec.ofNat 32 (par s m 12 4) })
      (dropRewrites t (fun _ => true) a)) []) ∧
    (Accepted tableEnable m s → (tableOf s t).configured = true →
      (par s m 1 1 = 0 → Effect (exec (.tableEnable m) s) m s (updTable t (fun x => { x with enabled := false })) []) ∧
      (par s m 1 1 = 1 → t < 16 → Effect (exec (.tableEnable m) s) m s (updTable t (fun x => { x with enabled := true })) []) ∧
      (par s m 1 1 = 2 → t < 16 → Ends (exec (.tableEnable m) s) m s (fun u => (tableOf u t).enabled = true ∧
        ∀ i < 4 * (tableOf s t).buckets, entryAt u t i = none))) ∧
    (Accepted learnConfig m s → Effect (exec (.learnConfig m) s) m s (updTable t (fun x => { x with
      moveLimit := par s m 1 1, ageLimit := par s m 2 2, moveWindow := par s m 4 4, hold := par s m 8 4 })) []) ∧
    (Accepted flowTableConfig m s → (tableOf s 16).enabled = false → Effect (exec (.flowTableConfig m) s) m s
      (fun a => updTable 16 (fun x => { x with
        configured := true, keyWords := par s m 0 1, programWrite := natBit (par s m 1 1) 0, evictOldest := natBit (par s m 1 1) 2
        buckets := par s m 4 4, base := par s m 8 8, seed0 := BitVec.ofNat 32 (par s m 16 4), seed1 := BitVec.ofNat 32 (par s m 20 4)
        lfsr := if par s m 16 4 = 0 then 1 else BitVec.ofNat 32 (par s m 16 4), extBase := par s m 24 8
        extContexts := par s m 32 4 }) (dropFrames (dropRewrites 16 (fun _ => true) a))) []) ∧
    ((tableOf s t).configured = true → (tableOf s t).enabled = true →
      (∀ a r, a = applyAhead t (cmdKey s p) (startCmd m.toNat s) → Accepted entryWrite m s →
        r = plainInsert t (cmdKey a p) (BitVec.ofNat 36 (par s m 49 5)) (BitVec.ofNat 36 (par s m 54 5)) (par s m 1 1 == 1) a →
            Effect (exec (.entryWrite m) s) m s (fun _ => r.2) (word5 r.1.status)) ∧
      (∀ a r, a = applyAhead t (cmdKey s p) (startCmd m.toNat s) → Accepted entryDelete m s → r = deleteEntry t (cmdKey a p) a →
        Effect (exec (.entryDelete m) s) m s (fun _ => r.2) (word5 r.1.status)) ∧
      (∀ a r, a = applyAhead t (cmdKey s p) (startCmd m.toNat s) → Accepted entryLookup m s → r = lookupEntry t (cmdKey a p) a →
        Effect (exec (.entryLookup m) s) m s (fun _ => r.2) (word5 r.1.status ++ ((r.1.words ++ [0, 0]).take 2).flatMap word5))) ∧
    (Accepted entryRead m s → (t = 16 → s.lk.frameBad.contains (par s m 4 4 / 4) = false) → entryBad s t (par s m 4 4) = false →
      (entryAt s t (par s m 4 4) = none → Effect (exec (.entryRead m) s) m s id (zeros 64)) ∧
      (∀ e, entryAt s t (par s m 4 4) = some e → Effect (exec (.entryRead m) s) m s id
        (((e.key ++ List.replicate 9 0).take 9).flatMap word5 ++ word5 e.r0 ++ word5 e.r1 ++
        layout [(e.table.toNat + 16 * b2n e.pinned + 32 * b2n e.learned + 64 * b2n e.static + 128, 1), (e.age.toNat, 2)] ++ zeros 6))) ∧
    (Accepted tableFlush m s → t < 16 → Ends (exec (.tableFlush m) s) m s (fun u => ∀ i < 4 * (tableOf s t).buckets,
      entryAt u t i = if entryBad s t i then none else (entryAt s t i).filter (fun e => !flushes p e))) ∧
    (∀ f a, Accepted flapRelease m s → flapOf s t (cmdKey s p) = some f → a = startCmd m.toNat s → (flapSeen a f).pinEnd.isSome = true →
      Effect (exec (.flapRelease m) s) m s (fun _ => unpin f (noteFlap (some f) a)) []) ∧
    (∀ l, Accepted noticeRead m s → (∀ x ∈ s.lk.notices, x.length = 64) → l = noticesSeen (startCmd m.toNat s) t →
      Effect (exec (.noticeRead m) s) m s (takeNotices t) (leBytes 1 (min t s.lk.notices.length) ++ zeros 15 ++ l.flatten) ∧
      (s.lk.noticeBad = [] → l = s.lk.notices.take t ∧ (takeNotices t s).lk.notices = s.lk.notices.drop t)) ∧
    (Accepted lookupCounters m s → CountersRead (exec (.lookupCounters m) s) m s .lookup t 1 16)
/-- Lookups of programs (R304-R307, R384): LKUP sends its key and operands, read at issue, to the engine and stalls, or leaves gd pending; a
fifth waits, as LKWAIT does while any is outstanding; an uncorrectable word among its operands is DMEM_ECC (R582); an operation that ends,
after earlier ones of its thread or of its buckets on its table (R384, R397), writes its results and its status. A trie lookup finds a
longest matching route (R408, R412), or meets a word it reads that fails parity and asks for its rewrite (R421). -/
def Obligations.LookupsRunAndLand : Prop :=
  ∀ (s : State) (t : BitVec 9) (gd ga gb : BitVec 5) (table : BitVec 6) (a : State), a = noteIssue t.toNat s →
    (∀ (c : Bool → Instr) (op : Nat),
      ((∀ x, c x = .lkup t gd ga gb x table 0) ∧ op = 0 ∨ (∀ x, c x = .lkupInsert t gd ga gb x table 0) ∧ op = 1 ∨
        (∀ x, c x = .lkupDelete t gd ga gb x table 0) ∧ op = 2) → CanIssue s t [ga, gb] [gd] →
      (outstanding s t.toNat < 4 → badKey a t.toNat op ga gb table = none →
        ∀ (x : Bool) b u, b = checkDmem ((keyAddrs a t.toNat op ga gb table).map (dmemKey (coreOf t.toNat))) (drainStores t.toNat a) → u = updThr t.toNat
          (fun y => if !x || gd = 0 then y else { y with pending := tabPut y.pending gd.toNat b.lk.nextOp })
          (updLk (fun l => { l with ops := tabPut l.ops b.lk.nextOp (lookupOp b t.toNat op gd ga gb x table.toNat)
                                    nextOp := b.lk.nextOp + 1 }) b) →
        exec (c x) s = .next (if x then stepIssued t.toNat (advance t.toNat u) else stallThread t.toNat .lookup ctrStallLookup u)) ∧
      (∀ x w, outstanding s t.toNat < 4 → badKey a t.toNat op ga gb table = some w → exec (c x) s = .next
        (stepIssued t.toNat (haltThread t.toNat 0x04 (encL gd ga gb x table op 0) w (noteDmemUe (coreOf t.toNat) w a)))) ∧
      (∀ x, 4 ≤ outstanding s t.toNat → exec (c x) s = .next
        (stallThread t.toNat (.lookupFull op gd ga gb x table) ctrStallLookup a))) ∧
    (CanIssue s t [] [] → (outstanding s t.toNat = 0 → StepTo (exec (.lkwait t 0) s) t
        { thr s t.toNat with pc := (thr s t.toNat).pc + 1 } s) ∧
      (0 < outstanding s t.toNat → exec (.lkwait t 0) s = .next (stallThread t.toNat .lookupWait ctrStallLookup a))) ∧
    (∀ index i o r, s.lk.ops[index]? = some (i, o) →
      (s.lk.ops.take index).any (fun p => p.2.table == o.table && (p.2.thread == o.thread || shareBucket s o.table p.2.key o.key)) = false →
      (∀ p ∈ opSpans s o, dramAsleep s p.1 p.2 = false) →
      r = runLookup (opSeen s o) (noteOp o (updLk (fun l => { l with ops := tabErase l.ops i }) s)) →
      exec (.lookupComplete index) s = .next (landStatus i o r.1.status (dmemPuts (coreOf o.thread) o.result r.1.words r.2))) ∧
    (∀ (k x : Nat) (q : Nat × Nat), badRead s k x = some q → natBits (lookupTrie k x s).1.status.toNat 32 4 = 2 ∧
      (lookupTrie k x s).1.words = [] ∧ Rewrite.trie k q.1 q.2 ∈ (lookupTrie k x s).2.lk.rewrites) ∧
    (∀ (k x : Nat) (r : Route), badRead s k x = none → longestMatch s k x = some r →
      r ∈ (trieOf s k).routes ∧ samePrefix (trieBits k) r.plen r.prefixBits x = true ∧
      (∀ q ∈ (trieOf s k).routes, samePrefix (trieBits k) q.plen q.prefixBits x = true → q.plen ≤ r.plen) ∧
      ((lookupTrie k x s).1.words.head? = some (tabGet (0, 0) s.lk.results r.index).1) ∧
      natBits (lookupTrie k x s).1.status.toNat 32 4 = 0)
/-- Commands on tries take effect (R408, R410-R415): tries are enabled within the node reserve, routes added, replaced, deleted and looked
up, the nodes and results they leave held until no lookup can read them. The lookup engine's own happenings: pins end at their sheet (R400),
scans free the flap records whose window has ended (R401) and delete entries as old as AGE_LIMIT (R402), shadows are written back (R418,
R421), and replaced nodes return once no trie lookup is outstanding (R413). -/
def Obligations.LookupHappenings : Prop :=
  ∀ s : State,
    (∀ record f e, s.lk.flaps[record]? = some f → (flapSeen s f).pinEnd = some e →
      (s.sh.sheet - e).toNat < 2 ^ 47 → exec (.unpin record) s = .next (unpin f (noteFlap (some f) s))) ∧
    (∀ k : BitVec 5, k.toNat < 16 → ∃ u, exec (.ageOut k) s = .next u ∧ ∀ f ∈ u.lk.flaps, f.table = k.toNat → f.pinEnd = none →
      f.bad = false → (s.sh.sheet - f.start).toNat < (tableOf s k.toNat).moveWindow) ∧
    (∀ k : BitVec 5, k.toNat < 16 → (tableOf s k.toNat).configured = true →
      (tableOf s k.toNat).learn = true → (tableOf s k.toNat).ageLimit ≠ 0 → (∀ i ∈ tableEntries s k.toNat, entryBad s k.toNat i = false) →
      ∃ u, exec (.ageOut k) s = .next u ∧ u.lk.tables = s.lk.tables ∧ ∀ i < 4 * (tableOf s k.toNat).buckets,
        entryAt u k.toNat i = (entryAt s k.toNat i).filter (fun e => !agedOut s k.toNat e)) ∧
    (∀ index w, s.lk.rewrites[index]? = some w → ∃ u, u = updLk (fun l => { l with rewrites := l.rewrites.eraseIdx index }) s ∧
      (∀ t i e, w = .entry t i e → Happens (exec (.shadowRewrite index) s) (rewriteEntry t i e u)) ∧
      (∀ t place i, w = .trie t place i → Happens (exec (.shadowRewrite index) s) (updLk (fun l =>
        if place = 7 then { l with resultBad := l.resultBad.filter (· != i) }
        else { l with nodeBad := l.nodeBad.filter (· != i / 2) }) u))) ∧
    (s.lk.ops.any (fun p => decide (32 ≤ p.2.table)) = false → exec .nodeReclaim s = .next (updLk (fun l => { l with
      staleNodes := [], staleResults := [], results := l.results.filter (fun r => !l.staleResults.contains r.1) }) s)) ∧
    (∀ (m : BitVec 4) (p : List Byte) (t : Nat), completionRoom s = true → p = mbxPayload s m.toNat → t = par s m 0 1 →
      (Accepted trieConfig m s → par s m 1 1 = 1 → (trieOf s t).enabled = false → nodesUsed s + rootSize t ≤ nodeRoom → ∀ b x u,
        freeBlock (usedBlocks s) (rootSize t) = some b →
        x = { trieOf s t with enabled := true, nodes := [{ depth := 0, path := 0, base := b }] } → u = setTrie t x s →
        Effect (exec (.trieConfig m) s) m s (fun a => setTrie t x (renewNodes b (rootSize t) a)) (leBytes 4 (nodeRoom - nodesUsed u))) ∧
      (Accepted trieConfig m s → par s m 1 1 = 0 → Ends (exec (.trieConfig m) s) m s (fun u => trieOf u t = {} ∧
        ∀ k, k ≠ t → trieOf u k = trieOf s k)) ∧
      ((trieOf s t).enabled = true → ∀ v, v = (BitVec.ofNat 36 (par s m 20 5), BitVec.ofNat 36 (par s m 25 5)) →
        (∀ r, Accepted routeAdd m s → routeOf s t (par s m 1 1) (trieAddress t p) = some r → Effect (exec (.routeAdd m) s) m s
          (putResult r.index v) (layout [(r.index, 4), (1, 1)])) ∧
        (∀ (r : Route) new b, Accepted routeAdd m s → routeOf s t (par s m 1 1) (trieAddress t p) = none →
          r = { prefixBits := trieAddress t p, plen := par s m 1 1, index := freeResult s } → new = (trieOf s t).routes ++ [r] →
          b = awaitTries t new (startCmd m.toNat s) → noRouteSpace b t r = false → Effect (exec (.routeAdd m) s) m s
            (fun _ => putResult r.index v (changeRoutes t new b)) (layout [(r.index, 4), (0, 1)])) ∧
        (∀ r new b, Accepted routeDelete m s → routeOf s t (par s m 1 1) (trieAddress t p) = some r →
          new = (trieOf s t).routes.filter (fun q => q != r) → b = awaitTries t new (startCmd m.toNat s) → (builtNodes t new b).isSome = true →
          Ends (exec (.routeDelete m) s) m s (fun u => (trieOf u t).routes = new ∧ u.lk.results = b.lk.results ∧
            u.lk.staleResults = b.lk.staleResults ++ [r.index] ∧ ∃ l, u.lk.staleNodes = b.lk.staleNodes ++ l) ∧
          Effect (exec (.routeDelete m) s) m s (fun _ => updLk (fun l => { l with staleResults := l.staleResults ++ [r.index] })
            (changeRoutes t new b)) []) ∧
        (∀ r, Accepted routeLookup m s → r = lookupTrie t (trieAddress t p) (startCmd m.toNat s) → Effect (exec (.routeLookup m) s) m s
          (fun _ => r.2) (word5 r.1.status ++ ((r.1.words ++ [0, 0]).take 2).flatMap word5))) ∧
      (Accepted trieStatus m s → Effect (exec (.trieStatus m) s) m s id (layout [(unitsUsed s, 4), (freeNodes s, 4),
        (packNat ((List.range 12).map (fun i => (b2n (trieOf s (32 + i)).enabled, 1))), 2)])))
/-- Commands 0x07xx that pass their checks take effect (Table 8.15): stream parameters load the bank being built; a fence takes an idle unit
at once and a busy one when it is done (Table 8.12); port C is configured while disabled, enabled while SHEET runs, or taken DOWN (R450);
its windows and event routes are set; unit and link status and counters are returned, measured busy time drawn once a sheet (R151; log entry
94). A unit's operation ends with its status (R432), and the link takes up block lock, deskew and training anew (R450). -/
def Obligations.CoprocessorCommandsTakeEffect : Prop :=
  (∀ (s : State) (m : BitVec 4), completionRoom s = true →
    (Accepted wmStreamLoad m s → Loads (exec (.wmStreamLoad m) s) m s 15 (par s m 2 1) (fun b => { b with
      streams := putEntries b.streams (par s m 0 2) ((List.range (par s m 2 1)).map (fun i =>
        { flags := BitVec.ofNat 8 (par s m (4 + 8 * i) 1), key := BitVec.ofNat 8 (par s m (5 + 8 * i) 1)
          ivPrefix := BitVec.ofNat 32 (beNat (bytesAt (mbxPayload s m.toNat) (8 + 8 * i) 4)) })) })) ∧
    (Accepted copFence m s →
      (par s m 1 1 = 0 → Effect (exec (.copFence m) s) m s (setUnit (par s m 0 1)
        { unitOf s (par s m 0 1) with fenced := false, fencePending := false }) []) ∧
      (par s m 1 1 = 1 → (unitOf s (par s m 0 1)).busy = true → Effect (exec (.copFence m) s) m s (setUnit (par s m 0 1)
        { unitOf s (par s m 0 1) with fencePending := true }) []) ∧
      (par s m 1 1 = 1 → (unitOf s (par s m 0 1)).busy = false → Effect (exec (.copFence m) s) m s (setUnit (par s m 0 1)
        { unitOf s (par s m 0 1) with fenced := true }) [])) ∧
    (∀ u, Accepted copStatus m s → u = (if par s m 0 1 < 14 then par s m 0 1 else par s m 0 1 - 2) → Effect (exec (.copStatus m) s) m s id
      (layout [((statusWord (unitOf s u)).toNat, 5), (b2n (unitOf s u).fenced, 1), ((lockOf s (4064 + u)).owner.toNat, 2)])) ∧
    (∀ u timed, Accepted copCounters m s → u = (if par s m 0 1 < 14 then par s m 0 1 else par s m 0 1 - 2) → timed = addTimed .unit u 5 →
      Effect (exec (.copCounters m) s) m s (fun a => if par s m 1 1 = 1 then clearCounters .unit u 6 (timed a) else timed a)
        (leBytes 8 s.cntSheet.toNat ++ (List.range 6).flatMap (fun i =>
          leBytes 8 (tabGet 0 (timed (startCmd m.toNat s)).cntTot (cntKey .unit u i))))) ∧
    (Accepted compConfig m s → (linkOf s).enabled = false → Effect (exec (.compConfig m) s) m s (updLink (fun l => { l with
      laneMap := BitVec.ofNat 8 (par s m 0 1), rxPol := BitVec.ofNat 8 (par s m 1 1), txPol := BitVec.ofNat 8 (par s m 2 1)
      opTimeout := par s m 4 2 })) []) ∧
    (Accepted compEnable m s → par s m 0 1 = 1 → ticking s = true →
      ((linkOf s).enabled = false → Effect (exec (.compEnable m) s) m s
        (updLink (fun l => { l with enabled := true, state := .lock, blockLock := 0, trains := 0 })) []) ∧
      ((linkOf s).enabled = true → Effect (exec (.compEnable m) s) m s id [])) ∧
    (Accepted compEnable m s → par s m 0 1 = 0 → Ends (exec (.compEnable m) s) m s (fun t =>
      (linkOf t).state = .down ∧ (linkOf t).enabled = false ∧ (linkOf t).replay = [] ∧ (linkOf t).blockLock = 0 ∧
      ((linkOf s).state ≠ .up → t.cop.units = s.cop.units))) ∧
    (Accepted compStatus m s → (linkOf s).advertised.length ≤ 100 → Effect (exec (.compStatus m) s) m s id
      (layout [(linkCode (linkOf s).state, 1), ((linkOf s).blockLock.toNat, 1)] ++ ((linkOf s).partner ++ [0, 0]).take 2 ++
        ((linkOf s).advertised.flatMap (fun c => leBytes 2 c.toNat)))) ∧
    (Accepted compWindowSet m s → Effect (exec (.compWindowSet m) s) m s (fun a => { a with cop := { a.cop with
      windows := tabSet {} a.cop.windows (par s m 0 1) {
        enable := natBit (par s m 1 1) 0, read := natBit (par s m 1 1) 1, write := natBit (par s m 1 1) 2
        units := BitVec.ofNat 8 (par s m 2 1), base := BitVec.ofNat 64 (par s m 4 8), pages := BitVec.ofNat 32 (par s m 12 4) } } }) []) ∧
    (Accepted compEventRoute m s → Effect (exec (.compEventRoute m) s) m s (fun a => { a with cop := { a.cop with
      routes := tabSet {} a.cop.routes (par s m 0 1) {
        enable := par s m 1 1 = 1, cls := BitVec.ofNat 3 (par s m 2 1), domain := BitVec.ofNat 16 (par s m 4 2)
        ctx := BitVec.ofNat 14 (par s m 6 2) } } }) []) ∧
    (Accepted compCounters m s → CountersRead (exec (.compCounters m) s) m s .portC 0 0 15)) ∧
  (∀ s : State,
    (∀ (u : Nat) (o : UnitOp) (code d : Nat), (unitOf s u).op = some o → (unitOf s u).held = false → o.notify = none → o.pin = nullHandle →
      d = (if o.detached then 0x0B else code) → ∃ x, x = unitOf (holdOrClose u code s) u ∧ x.busy = false ∧ x.done = true ∧
        x.error = (d != 0) ∧ x.errorCode = BitVec.ofNat 8 d ∧ x.op = none) ∧
    ((linkOf s).enabled = true → (linkOf s).state = .lock →
      exec .blockLock s = .next (updLink (fun l => { l with state := .deskew, blockLock := 0xF, trains := 0 }) s)) ∧
    ((linkOf s).state = .deskew → exec .laneDeskew s = .next (updLink (fun l => { l with state := .param, trains := 0 }) s)) ∧
    ((linkOf s).enabled = true → (linkOf s).state ≠ .up → exec .tabinoTrainingTimeout s = .next (beginTraining (leaveUp .down s))))
/-- Coprocessor instructions (R313-R316, R430-R433): an issue by the holder of the unit's lock to a free unit that is not fenced starts the
operation, the thread's stores visible; CPST reads a unit's status word, WAITCP waits until it is not BUSY; the unit's end writes its
outputs; a companion operation sends one OP flit (R461), whether it notifies being open (log entry 25), and ends by time-out with 0x0D
(R463). Errors are raised in the order absent, not owned, fenced, busy; an issue with a pin waits while its handle holds 15 (R207), and one
that needs the stream parameters of a furnish neither current nor old voids its item (R57). A unit's reads correct the words they can
(R579). -/
def Obligations.CoprocessorsOperate : Prop :=
  ∀ (s : State) (t : BitVec 9) (unit : BitVec 3) (gd ga gb : BitVec 5) (notify : Bool) (imm : BitVec 11) (a b : State),
    a = noteIssue t.toNat s → b = drainStores t.toNat a →
    (∀ (c : Instr) (cls op : Nat) (mk : State → Nat → Nat → Word36 → BitVec 11 → HandleWord → UnitOp),
      (c = .chainOp t unit ga gb notify imm ∧ cls = 0 ∧ op = 0 ∧ mk = watermarkOp ∨
        c = .hashOp t unit ga gb notify imm ∧ cls = 0 ∧ op = 1 ∧ mk = watermarkOp ∨
        c = .signOp t unit ga gb notify imm ∧ cls = 1 ∧ op = 0 ∧ mk = signatureOp ∧ natBits imm.toNat 3 7 = 0 ∨
        c = .publicKey t unit ga gb notify imm ∧ cls = 1 ∧ op = 1 ∧ mk = signatureOp ∧ natBits imm.toNat 3 7 = 0 ∨
        c = .encodeOp t unit ga gb notify imm ∧ cls = 2 ∧ op = 0 ∧ mk = stripeOp ∧ natBits imm.toNat 0 10 = 0) →
      CanIssue s t [ga, gb] [] →
      (issueFault s t.toNat cls unit.toNat false = none → cls = 0 → stampLost s t.toNat = true →
        exec c s = .next (settle (stepIssued t.toNat (voidStamp t.toNat a)))) ∧
      ((cls = 0 → stampLost s t.toNat = false) →
      (issueFault s t.toNat cls unit.toNat false = none → pinsFull s (regG s t.toNat gb) = true → exec c s = .next (stallThread t.toNat
        (.pins (hIndex ((regG s t.toNat gb).setWidth 24)) cls op unit ga gb notify imm) ctrStallCop a)) ∧
      (issueFault s t.toNat cls unit.toNat false = none → pinsFull s (regG s t.toNat gb) = false → ∃ o,
        o = { mk b t.toNat op (regG s t.toNat ga) imm ((regG s t.toNat gb).setWidth 24) with
          notify := if notify then notifyOf b t.toNat (regG s t.toNat ga) else none } ∧
        exec c s = .next (stepIssued t.toNat (advance t.toNat (startUnit (unitBase cls + unit.toNat) t.toNat o (regG s t.toNat gb)
          (noteDescriptor t.toNat (regG s t.toNat ga) imm o (noteDescRead t.toNat cls (regG s t.toNat ga) imm o b)))))) ∧
      (∀ e, issueFault s t.toNat cls unit.toNat false = some e →
        exec c s = .next (stepIssued t.toNat (haltThread t.toNat e (encC (56 + cls) op unit ga gb notify imm) (cls * 16 + unit.toNat) a))))) ∧
    (∀ (u : Nat) (o : UnitOp) (w : Word36), u < 14 → pinBad s w = false → o.code = 0 → w.setWidth 24 = nullHandle →
      unitOf (startUnit u t.toNat o w s) u = { unitOf s u with
        busy := true, done := false, error := false, errorCode := 0, owner := BitVec.ofNat 12 t.toNat
        op := some { o with pin := nullHandle, stale := false }, held := false }) ∧
    (∀ (cls : BitVec 2) u, u = unitBase cls.toNat + unit.toNat → unit.toNat < unitCount cls.toNat → CanIssue s t [] [gd] →
      GdGets (exec (.cpst t gd unit cls 0) s) t s gd (statusWord (unitOf s u)) ∧
      ((unitOf s u).busy = false →
        GdGets (exec (.waitcp t gd unit cls 0) s) t s gd (statusWord (unitOf s u))) ∧
      ((unitOf s u).busy = true → exec (.waitcp t gd unit cls 0) s = .next (stallThread t.toNat
        (.unit u gd) ctrStallCop a))) ∧
    (∀ (u : BitVec 5) (o : UnitOp) (d e : State), u.toNat < 14 → (unitOf s u.toNat).op = some o → (unitOf s u.toNat).held = false →
      (∀ p ∈ unitSpans s o, dramAsleep s p.1 p.2 = false) → d = noteUnitReads o s → o.ins.any (regionPoisoned d) = false →
      e = count .unit u.toNat 1 ((o.ins.map (·.length)).foldl (· + ·) 0) d →
      exec (.unitDone u false) s = .next (finishUnit u.toNat 0 (writeOuts o (unitOut e u.toNat o) e))) ∧
    (∀ (cv : BitVec 3) (func : BitVec 5) (i : BitVec 14), CanIssue s t [ga, gb] [] →
      issueFault s t.toNat 3 cv.toNat (decide ((linkOf s).state ≠ .up)) = none → ∃ u n, exec (.companionOp t cv func ga gb i) s = .next u ∧
        unitOf u (14 + cv.toNat) = { unitOf b (14 + cv.toNat) with
          busy := true, done := false, error := false, errorCode := 0, owner := BitVec.ofNat 12 t.toNat
          op := some { op := func.toNat, notify := n }, tag := (unitOf b (14 + cv.toNat)).tag + 1, issued := s.sh.sheet } ∧
        (thr u t.toNat).pc = (thr s t.toNat).pc + 1) ∧
    (∀ cv : BitVec 3, (unitOf s (14 + cv.toNat)).busy = true → (unitOf s (14 + cv.toNat)).held = false →
        (linkOf s).opTimeout ≤ (s.sh.sheet - (unitOf s (14 + cv.toNat)).issued).toNat →
      exec (.opTimeout cv) s = .next (finishUnit (14 + cv.toNat) 0x0D (raise 221 [] (count .portC 0 13 1 (setFlag 0x540 5 s)))))
/-- The Tabino link (R448-R469): a flit's bytes go to the lanes in turn, in blocks of 16 after their sync header (R448); eight
TRAIN flits in a row bring it UP with the credits advertised (R450), and a fifth NAK without
acknowledgement takes it DOWN; a flit with a bad CRC is discarded (R452), one out of order answered by a NAK (R457); in order,
OP_DONE ends its unit's operation, RD_REQ is answered and WR_REQ applied when R464 allows it, EVENT makes an event item on its route,
PKT carries a frame, and IDLE only acknowledges. -/
def Obligations.CompanionLinkCarries : Prop :=
  ∀ (s : State) (f : BitVec 544) (b : List Byte) (a : State), b = flitIn f → a = count .portC 0 1 1 s →
    (∀ (l : Tabino) (flit bs : List Byte) (k p : Nat), bs = l.partBlock ++ flit → k < 64 * (bs.length / 64) →
      mapDistinct l.laneMap.toNat = true → p = natBits l.laneMap.toNat (2 * (k % 4)) 2 →
      ∃ x ∈ (sendBytes flit l).wire.getD p [], (l.txPol.getLsbD p = false → x.sync = 2 ∧ x.bytes.getD (k % 64 / 4) 0 = bs.getD k 0) ∧
        (l.txPol.getLsbD p = true → x.sync = 1 ∧ x.bytes.getD (k % 64 / 4) 0 = ~~~ bs.getD k 0)) ∧
    ((linkOf s).state ≠ .down → crc32c (b.take 64) ≠ leAt b 64 4 → ∀ c, c = Instr.rdReq f ∨ c = Instr.trainFlit f ∨ c = Instr.idleFlit f →
      exec c s = .next (discardFlit (if c = Instr.idleFlit f then a else noteTraffic a))) ∧
    (crc32c (b.take 64) = leAt b 64 4 →
      ((linkOf s).state = .param → leAt b 0 1 = 0 → exec (.idleFlit f) s = .next (updLink (fun l => { l with trains := 0 }) a)) ∧
      ((linkOf s).state = .param → leAt b 0 1 = 8 → ∃ t, exec (.trainFlit f) s = .next t ∧
        ((linkOf s).trains = 7 → 8 ≤ leAt b 12 2 → 6 ≤ leAt b 14 2 → (linkOf t).state = .up ∧
          tabGet 0 (linkOf t).credits 1 = leAt b 12 2 ∧ tabGet 0 (linkOf t).credits 2 = leAt b 14 2) ∧
        ((linkOf s).trains < 7 → (linkOf t).state = .param ∧ (linkOf t).trains = (linkOf s).trains + 1)) ∧
      ((linkOf s).state = .up → ∀ h, h = takeHeader b (updLink (fun l => { l with trains := 0 })
          (if leAt b 0 1 = 0 then a else noteTraffic a)) →
        (leAt b 0 1 = 0 → exec (.idleFlit f) s = .next h) ∧
        (leAt b 0 1 = 9 → 4 ≤ (linkOf h).naks → (linkOf h).state = .up → ∃ t, exec (.nakFlit f) s = .next t ∧ (linkOf t).state = .down) ∧
        (leAt b 0 1 = 9 → (linkOf h).naks < 4 → (linkOf h).state = .up → exec (.nakFlit f) s = .next
          (((linkOf h).replay.filter (fun q => decide ((q.1 - BitVec.ofNat 12 (leAt b 8 2)).toNat < 2048))).foldl
            (fun c q => putFlit q.2.type q.1.toNat q.2.payload c)
            (count .portC 0 4 1 (updLink (fun l => { l with naks := l.naks + 1 }) h)))) ∧
        (leAt b 0 1 = 3 → leAt b 2 2 % 4096 ≠ (linkOf h).rxSeq.toNat → exec (.rdReq f) s = .next (sendNak h)) ∧
        (leAt b 2 2 % 4096 = (linkOf h).rxSeq.toNat → ∀ (c : State) (p : List Byte), p = bytesAt b 8 56 →
          c = updLink (fun l => { l with rxSeq := l.rxSeq + 1, rxAny := true, nakSent := false }) h →
          (∀ o, leAt b 0 1 = 2 → leAt p 0 1 < 8 → (unitOf c (14 + leAt p 0 1)).op = some o → (unitOf c (14 + leAt p 0 1)).busy = true →
            (unitOf c (14 + leAt p 0 1)).held = false → ((unitOf c (14 + leAt p 0 1)).tag - 1).toNat = leAt p 1 1 →
            exec (.opDone f) s = .next (finishUnit (14 + leAt p 0 1)
              (if leAt p 2 1 = 0 then 0 else (128 + leAt p 2 1) % 256) (freeCredit 3 c))) ∧
          (∀ x, leAt b 0 1 = 3 → compAccess c (leAt p 0 5) (leAt p 5 1 + 1) (leAt p 7 1) false = some x → exec (.rdReq f) s = .next
            ((List.range (ceilDiv (leAt p 5 1 + 1) 48)).foldl (fun d i => sendFlit 4 2 (layout [(leAt p 6 1, 1),
              (if dramPoisoned d (x + 48 * i) (min 48 (leAt p 5 1 + 1 - 48 * i)) then 2 else 0, 1),
              (min 48 (leAt p 5 1 + 1 - 48 * i), 1), (i, 1), (0, 4)] ++
              dramBytes d (x + 48 * i) (min 48 (leAt p 5 1 + 1 - 48 * i))) d)
              (noteAccess 6 false x (leAt p 5 1 + 1) (freeCredit 4 (count .portC 0 6 1 c))))) ∧
          (leAt b 0 1 = 3 → compAccess c (leAt p 0 5) (leAt p 5 1 + 1) (leAt p 7 1) false = none → exec (.rdReq f) s = .next
            (sendFlit 4 2 (layout [(leAt p 6 1, 1), (1, 1), (0, 1), (0, 1), (0, 4)]) (noteDenied (freeCredit 4 (count .portC 0 6 1 c))))) ∧
          (∀ x, leAt b 0 1 = 5 → 0 < leAt p 5 1 → leAt p 5 1 ≤ 48 → compAccess c (leAt p 0 5) (leAt p 5 1) (leAt p 7 1) true = some x →
            exec (.wrReq f) s = .next (dramWrite 6 x (bytesAt p 8 (leAt p 5 1)) false (freeCredit 4 (count .portC 0 7 1 c)))) ∧
          (∀ r, leAt b 0 1 = 6 → r = tabGet {} c.cop.routes (leAt p 0 1 % 16) → r.enable = true → exec (.eventFlit f) s = .next (freeCredit 6
            (completionEvent { source := BitVec.ofNat 9 (224 + leAt p 0 1 % 16), cls := r.cls, domain := r.domain, ctx := r.ctx
                               data0 := BitVec.ofNat 24 (leAt p 1 3), data1 := BitVec.ofNat 14 (leAt p 4 2) } (count .portC 0 11 1 c)))) ∧
          (leAt b 0 1 = 7 → exec (.pktFlit f) s = .next (packetFlit p c)))))

/-- Commands 0x08xx of the store that pass their checks take effect (Table 9.21): port S carries a configuration request while its link is
enabled; the link, a controller of at most 64 queues in all and a member are set; an admin command returns its entry; blocks of a member
reach host memory at the address given, and a transfer that a member does not complete fails it (R505); links, controllers and members are
set with the evidence path stopped (R16); a set is formatted from position 0, or mounted at the positions the host gives. -/
def Obligations.StoreCommandsTakeEffect : Prop :=
  ∀ (s : State) (m : BitVec 4) (a : State), a = startCmd m.toNat s → completionRoom s = true →
    (∀ data completion, Accepted (storeCfgAccess data completion) m s → s.ev.linkEnable = true →
      ∀ p, p = mbxPayload s m.toNat → ∃ t, exec (.storeCfgAccess m data completion) s = .next t ∧ Completed m 0 s t ∧ Returns m (leBytes 4
        (if par s m 0 1 = 0 then (cfgRead data p a).toNat else par s m 8 4) ++ leBytes 1 completion.toNat) t ∧
        Reports (if par s m 0 1 = 0 ∨ completion ≠ 0 then a else cfgWrite p a) t) ∧
    (Accepted storeLink m s → evActive s = false → ∃ t, exec (.storeLink m) s = .next t ∧ Completed m 0 s t ∧ Returns m [] t ∧
        Reports (updEv (fun e => { e with
      linkEnable := par s m 0 1 = 1, linkSpeed := par s m 1 1, linkWidth := par s m 2 1
      memBase := BitVec.ofNat 64 (par s m 4 8), memSize := BitVec.ofNat 64 (par s m 12 8) })
      { a with pow := { a.pow with perstHigh := par s m 0 1 = 1, refclk := par s m 0 1 = 1 || a.pow.refclk } }) t) ∧
    (Accepted (storeControllerAdd true) m s → evActive s = false → otherQueues s (par s m 0 1) + par s m 3 1 ≤ 64 →
      ∃ t, exec (.storeControllerAdd m true) s = .next t ∧ Completed m 0 s t ∧ Returns m [] t ∧
        Reports (updEv (fun e => { e with controllers := tabPut e.controllers (par s m 0 1) {
        bus := par s m 1 1, devfn := par s m 2 1, queues := par s m 3 1, depth := par s m 4 2, ioTimeout := par s m 6 2
        bar0 := BitVec.ofNat 64 (par s m 8 8), readyTimeout := par s m 16 2 } }) a) t) ∧
    (∀ entry r, Accepted (storeAdmin entry r) m s → s.host.busMaster = true → seenH s r = .ok → ∃ t, exec (.storeAdmin m entry r) s = .next t ∧
        Completed m 0 s t ∧
        Returns m (leBytes 16 entry.toNat) t ∧
        Reports a t) ∧
    (Accepted storeMemberSet m s → evActive s = false → ∃ t, exec (.storeMemberSet m) s = .next t ∧ Completed m 0 s t ∧ Returns m [] t ∧
        Reports (updEv (fun e => { e with
      members := tabPut e.members (par s m 0 1) { ctrl := par s m 1 1, flags := BitVec.ofNat 8 (par s m 2 1)
                                                  nsid := BitVec.ofNat 32 (par s m 4 4), blocks := par s m 8 8 } }) a) t) ∧
    (∀ (x : StoreSet) k, Accepted (storeSet ⟨k, .ok⟩) m s → evActive s = false → par s m 0 1 = 0 →
      x = { n := par s m 1 1, k := par s m 2 1, m := par s m 3 1, setId := bytesAt (mbxPayload s m.toNat) 4 16, rows := par s m 20 8
            sealRows := par s m 28 8, superSeq := 1, created := s.line.ptp.time } →
      ∃ t, exec (.storeSet m ⟨k, .ok⟩) s = .next t ∧ Completed m 0 s t ∧ t.ev.set = some x ∧ t.ev.nextStripe = 0 ∧ t.ev.sealSeq = 0 ∧ t.ev.stop = 0 ∧
        Returns m (leBytes 8 (x.n * x.rows / (x.k + x.m))) t ∧ (∀ i, i < x.n →
          tabGet (zeros 4096) t.ev.disk (i * 2 ^ 64) = superblock t x i 0)) ∧
    (∀ q c k, Accepted (storeSet ⟨k, .ok⟩) m s → evActive s = false → par s m 0 1 = 1 → mountSuper s = some (q, c) →
      ∃ t, exec (.storeSet m ⟨k, .ok⟩) s = .next t ∧ Completed m 0 s t ∧ t.ev.set = some {
          n := par s m 1 1, k := par s m 2 1, m := par s m 3 1, setId := bytesAt (mbxPayload s m.toNat) 4 16, rows := par s m 20 8
          sealRows := par s m 28 8, superSeq := q, created := c } ∧
        t.ev.nextStripe = par s m 36 8 ∧ t.ev.sealBlock = par s m 44 8 ∧ t.ev.sealSeq = par s m 52 8 ∧
        t.ev.releasedStripe = par s m 60 8 ∧ t.ev.releasedSeal = par s m 68 8 ∧ t.ev.writes = [] ∧ t.ev.disk = s.ev.disk) ∧
    (∀ r, Accepted (storeSet r) m s → evActive s = false → r.result ≠ .ok → ∃ t, exec (.storeSet m r) s = .next t ∧
      Completed m 0x0A s t ∧ Reports (settleMember (r.member.toNat % par s m 1 1) r.result a) t) ∧
    (∀ e dma, e ≠ .ok → Accepted (storeRead e dma) m s → ∃ t, exec (.storeRead m e dma) s = .next t ∧ Completed m 0x0A s t ∧
      Reports (settleMember (par s m 0 1) e a) t) ∧
    (∀ r d bs u, Accepted (storeRead .ok r) m s → s.host.busMaster = true → r ≠ .error → d = dmaSeen (ecrcCheckS s) r →
      bs = (List.range (par s m 12 2)).flatMap (fun i => tabGet (zeros 4096) s.ev.disk (par s m 0 1 * 2 ^ 64 + (par s m 4 8 + i))) →
      u = hostWriteBad (BitVec.ofNat 64 (par s m 16 8)) bs (fun _ => dmaDark d) (noteTlp 490 d a) →
      ∃ t, exec (.storeRead m .ok r) s = .next t ∧ Completed m 0 s t ∧ Returns m [] t ∧ Reports u t ∧
        t = sweepBad (finishCmd m.toNat 0 0 [] u) ∧ (s.host.cq.enabled = false →
          t.host.ep = u.host.ep ∧ (d = .ok → t.host.mem = memWrite s.host.mem (par s m 16 8) bs)))

/-- Commands 0x08xx of the evidence path that pass their checks take effect (Table 9.21): the path and its lanes are configured while it
stands still, a lane beginning at position 0 (log entry 32); EVIDENCE_RUN takes and frees the reserved units' locks; routes are set; a stream is
opened with its context's evidence area written, closed, or given another key, while its context is idle; released positions are set (R501). -/
def Obligations.EvidenceCommandsTakeEffect : Prop :=
  ∀ (s : State) (m : BitVec 4) (a : State), a = startCmd m.toNat s → completionRoom s = true →
    (Accepted evidenceConfig m s → evActive s = false → ∃ t, exec (.evidenceConfig m) s = .next t ∧ Completed m 0 s t ∧ Returns m [] t ∧
        Reports (updEv (fun e => { e with
      budget := par s m 0 4, stripeAge := par s m 4 2, commitStep := par s m 6 2, flushAllow := par s m 8 2
      classes := BitVec.ofNat 8 (par s m 10 1), stMask := BitVec.ofNat 8 (par s m 11 1), sgMask := BitVec.ofNat 8 (par s m 12 1)
      powerSlot := par s m 13 1, configured := true, ctrlBase := par s m 16 8, tickBase := par s m 24 8, tableBase := par s m 32 8
      powerKeyId := BitVec.ofNat 32 (par s m 40 4) }) a) t) ∧
    (Accepted laneConfig m s → evActive s = false → ∃ t, exec (.laneConfig m) s = .next t ∧ Completed m 0 s t ∧ Returns m [] t ∧
        Reports (setLane (par s m 0 1) {
      configured := true, logShift := par s m 1 1, sealShift := par s m 2 1, logBase := par s m 4 8, sealBase := par s m 12 8 } a) t) ∧
    (Accepted evidenceRun m s → par s m 0 1 = 1 → s.ev.state ≠ .powerFail → s.ev.state ≠ .running → s.pow.storeReinit = false →
      s.ev.set.isSome = true → (∀ l ∈ laneList s, (s.ev.budget + 1) * 2 ^ 20 ≤ 2 ^ l.2.logShift) →
      ∃ t, exec (.evidenceRun m) s = .next t ∧ Completed m 0 s t ∧ t.ev.state = .running ∧
        (∀ u ∈ reservedUnits s, (lockOf t (unitLock u)).owner.toNat = unitIdentity u)) ∧
    (Accepted evidenceRun m s → par s m 0 1 = 0 → s.ev.state = .running → s.pow.storeReinit = false → openStreams s = [] →
      ∃ t, exec (.evidenceRun m) s = .next t ∧ Completed m 0 s t ∧ t.ev.state = .stopped ∧ t.ev.xoff = false) ∧
    (Accepted commitRoute m s → ∃ t, exec (.commitRoute m) s = .next t ∧ Completed m 0 s t ∧ Returns m [] t ∧
        Reports (updEv (fun e => { e with
      routes := tabPut e.routes (par s m 0 1) { enable := par s m 1 1 = 1, cls := BitVec.ofNat 3 (par s m 2 1)
                                                domain := BitVec.ofNat 16 (par s m 4 2), ctx := BitVec.ofNat 14 (par s m 6 2) } }) a) t) ∧
    (Accepted streamOpen m s → ctxIdle s (par s m 0 2) = true → streamOf s (par s m 0 2) = none →
      (par s m 12 4 = 0 → s.sh.aligned = true) → ∃ t, exec (.streamOpen m) s = .next t ∧ Completed m 0 s t ∧ Returns m [] t ∧
        Reports (setStream (par s m 0 2) {
        streamId := BitVec.ofNat 32 (par s m 4 4), slot := par s m 3 1, keyId := BitVec.ofNat 32 (par s m 8 4), wmStream := par s m 16 2
        ream := BitVec.ofNat 32 (par s m 20 4) - 1, prevSeal := bytesAt (mbxPayload s m.toNat) 64 32, first := par s m 96 1 = 0
        prevKey := if par s m 96 1 = 0 then none else sealKeyOf s (bytesAt (mbxPayload s m.toNat) 64 32)
        durableReam := 0, sealHash := bytesAt (mbxPayload s m.toNat) 64 32 }
        (ctxWrite (par s m 0 2) 64 (evidenceArea s (mbxPayload s m.toNat)) a)) t) ∧
    (∀ x, Accepted streamClose m s → streamOf s (par s m 0 2) = some x → ctxIdle s (par s m 0 2) = true → par s m 2 1 = 0 →
      ∃ t, exec (.streamClose m) s = .next t ∧ Completed m 0 s t ∧ Returns m [] t ∧
        Reports (closeReam (par s m 0 2) (s.sh.sheet - 1).toNat 6 a) t) ∧
    (∀ x, Accepted streamClose m s → streamOf s (par s m 0 2) = some x → ctxIdle s (par s m 0 2) = true → par s m 2 1 = 1 →
      ∃ t, exec (.streamClose m) s = .next t ∧ Completed m 0 s t ∧ streamOf t (par s m 0 2) = none ∧
        t.ev.built = s.ev.built ++ [(par s m 0 2, builtSeal (checkCtx (par s m 0 2) 0 256 a) (par s m 0 2) (s.sh.sheet - 1).toNat 6)]) ∧
    (∀ x, Accepted streamKey m s → streamOf s (par s m 0 2) = some x → ctxIdle s (par s m 0 2) = true →
      ∃ t, exec (.streamKey m) s = .next t ∧ Completed m 0 s t ∧ Returns m [] t ∧
        Reports (rewriteSupers (setStream (par s m 0 2)
        { x with slot := par s m 2 1, keyId := BitVec.ofNat 32 (par s m 4 4) } a)) t) ∧
    (Accepted storeRelease m s → ∃ t, exec (.storeRelease m) s = .next t ∧ Completed m 0 s t ∧ t.ev.releasedStripe = par s m 0 8 ∧
        t.ev.releasedSeal = par s m 8 8 ∧ t.ev.nextStripe = s.ev.nextStripe ∧
      (∀ x, s.ev.set = some x → failedCount s x ≤ x.m → s.ev.nextStripe - par s m 0 8 < x.n * x.rows / (x.k + x.m) →
        t.ev.stop.getLsbD 0 = false))

/-- The store engine forms stripes (R493, R494, R499, R501): a lane with a full stripe, or aged bytes, has the next stripe number written as
K data shards in lane order and M parity shards, read from the lane's log for the Stripe unit and again for the store (R587), shard j of
stripe g in slot (g mod CAP)(K + M) + j, each with a write of its own to the member the slot gives unless that has failed; with the store
full nothing is formed and the store stops. D then advances to the newest tick all of whose positions are durable, less W + 5 (R516), with a
report once COMMIT_STEP sheets have passed (R517); exposure back-pressure begins at the budget and ends at seven eighths of it (R496). -/
def Obligations.StripesFormAndBecomeDurable : Prop :=
  (∀ (s : State) (lane : BitVec 6) (x : StoreSet) (u valid : Nat) (b : State), s.ev.set = some x → evActive s = true → pfClosed s = false →
    s.ev.flushBad = false → b = noteLaneRead 5 (laneOf s lane.toNat) (laneOf s lane.toNat).stripeEnd valid
      (noteLaneRead 4 (laneOf s lane.toNat) (laneOf s lane.toNat).stripeEnd valid s) →
    (laneOf s lane.toNat).configured = true → valid = min ((laneOf s lane.toNat).writePos - (laneOf s lane.toNat).stripeEnd) (x.k * 4096) →
    0 < valid → (valid = x.k * 4096 ∨ laneAged s (laneOf s lane.toNat) = true) →
    s.ev.nextStripe - s.ev.releasedStripe < x.n * x.rows / (x.k + x.m) → failedCount s x ≤ x.m →
    nextUnit s s.ev.stMask.toNat 10 4 s.ev.stTurn = some u →
    ∃ t, exec (.stripeForm lane) s = .next t ∧ t.ev.nextStripe = s.ev.nextStripe + 1 ∧ t.ev.stTurn = u ∧
      (laneOf t lane.toNat).stripeEnd = (laneOf s lane.toNat).stripeEnd + valid ∧
      tabFind t.ev.stripes s.ev.nextStripe = some { lane := lane.toNat, start := (laneOf s lane.toNat).stripeEnd, valid := valid } ∧
      (∀ j, j < x.k + x.m → (memberOf s (shardSlot x s.ev.nextStripe j % x.n)).failed = false →
        ∃ w ∈ t.ev.writes, w.item = .shard s.ev.nextStripe j ∧ w.member = shardSlot x s.ev.nextStripe j % x.n ∧
          w.block = shardLba x + shardSlot x s.ev.nextStripe j / x.n ∧
          (j < x.k → w.data = bytesAt (laneBytes b (laneOf s lane.toNat) (laneOf s lane.toNat).stripeEnd valid ++ zeros (x.k * 4096 - valid))
            (4096 * j) 4096)) ∧
      (∀ i, i ≤ x.m → (memberOf s (shardSlot x s.ev.nextStripe i % x.n)).failed = false →
        ∃ w ∈ t.ev.writes, w.item = .header s.ev.nextStripe i ∧ w.member = shardSlot x s.ev.nextStripe i % x.n ∧
          w.block = headerLba x + shardSlot x s.ev.nextStripe i / x.n)) ∧
  (∀ (s : State) (lane : BitVec 6) (x : StoreSet), s.ev.set = some x → evActive s = true → pfClosed s = false →
      (laneOf s lane.toNat).configured = true →
    (laneOf s lane.toNat).stripeEnd + x.k * 4096 ≤ (laneOf s lane.toNat).writePos → 0 < x.k →
    x.n * x.rows / (x.k + x.m) ≤ s.ev.nextStripe - s.ev.releasedStripe → s.ev.stop.getLsbD 0 = false →
    ∃ t, exec (.stripeForm lane) s = .next t ∧ Reports (setFlag 0x580 4 (updEv (fun e => { e with stop := e.stop ||| 1 }) s)) t) ∧
  (∀ (s : State) (t : Sheet) (w : Nat) (ps : Tab Nat), (reachedMarks s).getLast? = some (t, w, ps) → w + 5 ≤ t.toNat →
    ((t - BitVec.ofNat 48 (w + 5) - s.ev.lastReport).toNat < s.ev.commitStep ∨
      2 ^ 47 ≤ (t - BitVec.ofNat 48 (w + 5) - s.ev.lastReport).toNat) →
    exec .durableAdvance s = .next (updEv (fun e => { e with
      marks := e.marks.drop (reachedMarks s).length, durable := t - BitVec.ofNat 48 (w + 5) }) s)) ∧
  (∀ (s : State) (d : Sheet) (w : Nat) (ps : Tab Nat), (reachedMarks s).getLast? = some (d, w, ps) → w + 5 ≤ d.toNat →
    s.ev.commitStep ≤ (d - BitVec.ofNat 48 (w + 5) - s.ev.lastReport).toNat →
    (d - BitVec.ofNat 48 (w + 5) - s.ev.lastReport).toNat < 2 ^ 47 → (tabGet {} s.ev.routes 0).enable = false →
    ∃ t, exec .durableAdvance s = .next t ∧ Reports (setFlag 0x580 0 (updEv (fun e => { e with
      marks := e.marks.drop (reachedMarks s).length, durable := d - BitVec.ofNat 48 (w + 5)
      lastReport := d - BitVec.ofNat 48 (w + 5) }) s)) t) ∧
  (∀ s : State, s.ev.xoff = false → evActive s = true → s.ev.budget * 2 ^ 20 ≤ s.ev.exposure →
    ∃ t, exec .exposureXoff s = .next t ∧ Reports (exposurePfc true (updEv (fun e => { e with xoff := true }) s)) t) ∧
  (∀ s : State, s.ev.xoff = true → 8 * s.ev.exposure ≤ 7 * (s.ev.budget * 2 ^ 20) →
    ∃ t, exec .exposureXoff s = .next t ∧ Reports (returnCredits 5 (exposurePfc false (updEv (fun e => { e with xoff := false }) s))) t)

/-- The store engine's other happenings outside the power-fail sequence: a seal in line whose lanes are durable far enough is signed and
appended when its STREAM_ID and REAM are the stream's next, and refused else (R512-R514); a write that completes stands in its member's block and
an error or a time-out fails the member and gives up its writes (R495, R505). -/
def Obligations.SealsAndWritesEnd : Prop :=
  (∀ (s : State) (w : SealWait) (rest : List SealWait) (x : StoreSet) (u c : Nat) (st : Machine.Stream) (k body b : List Byte) (a : State),
    s.ev.seals = w :: rest → w.built = none → s.ev.set = some x → s.ev.state = .running → s.ev.pf = .idle → s.pow.after = .none →
    lanesReached s w.targets = true → nextRecordBlock s - s.ev.releasedSeal < x.sealRows → failedCount s x ≤ x.m →
    nextUnit s s.ev.sgMask.toNat 8 2 s.ev.sgTurn = some u → sealRipe s w = true →
    b = dramBytes s ((laneOf s w.lane).sealBase + 256 * ((laneOf s w.lane).sealTaken % 2 ^ (laneOf s w.lane).sealShift)) 256 →
    c = beNat (bytesAt b 192 2) → streamOf s c = some st → a = takeSlot w.lane (noteAccess 5 false
      ((laneOf s w.lane).sealBase + 256 * ((laneOf s w.lane).sealTaken % 2 ^ (laneOf s w.lane).sealShift)) 256
      (updEv (fun e => { e with seals := rest }) s)) →
    (beNat (bytesAt b 8 4) = st.streamId.toNat → beNat (bytesAt b 12 4) = (st.ream + 1).toNat → signKey s st.slot = some k →
      body = sealBody a st b → ∃ t, exec .sealTake s = .next t ∧ t.ev.seals = rest ∧ t.ev.sealSeq = s.ev.sealSeq + 1 ∧
        t.ev.sealRecords.getLast? = some (body ++ edSign k body) ∧ (laneOf t w.lane).sealTaken = (laneOf s w.lane).sealTaken + 1 ∧
        (∃ y, streamOf t c = some y ∧ y.ream = st.ream + 1 ∧ y.prevSeal = sha256 (body ++ edSign k body) ∧ y.first = false)) ∧
    (¬ (beNat (bytesAt b 8 4) = st.streamId.toNat ∧ beNat (bytesAt b 12 4) = (st.ream + 1).toNat) → s.ev.sealsOut = [] →
      ∃ t, exec .sealTake s = .next t ∧ Reports (setFlag 0x580 6 a) t)) ∧
  (∀ (s : State) (w : SealWait) (rest : List SealWait) (x : StoreSet) (u c : Nat) (st : Machine.Stream) (b : List Byte),
    s.ev.seals = w :: rest → w.built = some (c, b) → s.ev.set = some x → s.ev.state = .running → s.ev.pf = .idle → s.pow.after = .none →
    lanesReached s w.targets = true → nextRecordBlock s - s.ev.releasedSeal < x.sealRows → failedCount s x ≤ x.m →
    nextUnit s s.ev.sgMask.toNat 8 2 s.ev.sgTurn = some u → sealRipe s w = true → tabFind s.ev.streams c = some st →
    ¬ (beNat (bytesAt b 8 4) = st.streamId.toNat ∧ beNat (bytesAt b 12 4) = (st.ream + 1).toNat) → s.ev.sealsOut = [] →
    ∃ t, exec .sealTake s = .next t ∧ Reports (setFlag 0x580 6 (updEv (fun e => { e with seals := rest }) s)) t) ∧
  (∀ (s : State) (i : Nat) (w : StoreWrite), s.ev.writes[i]? = some w → s.ev.pf = .idle → s.pow.after = .none →
    (∃ t, exec (.nvmeCompletion i 0) s = .next t ∧ t.ev.writes = s.ev.writes.eraseIdx i ∧
      t.ev.disk = tabPut s.ev.disk (w.member * 2 ^ 64 + w.block) w.data ∧ t.ev.members = s.ev.members ∧
      (∀ g y, w.item = .shard g 0 → s.ev.stripes = [(g, y)] → y.start = (laneOf s y.lane).durable →
        (s.ev.writes.eraseIdx i).all (fun v => !ofStripe g v.item) = true → (laneOf t y.lane).durable = y.start + y.valid)) ∧
    (∀ status, status ≠ 0 → (memberOf s w.member).failed = false → ∃ t, exec (.nvmeCompletion i status) s = .next t ∧
      (memberOf t w.member).failed = true ∧ t.ev.writes = (s.ev.writes.eraseIdx i).filter (fun v => v.member != w.member) ∧
      t.ev.disk = s.ev.disk) ∧
    ((memberOf s w.member).failed = false → ∃ t, exec (.ioTimeout i) s = .next t ∧ (memberOf t w.member).failed = true ∧
      t.ev.writes = s.ev.writes.filter (fun v => v.member != w.member) ∧ t.ev.disk = s.ev.disk))

/-- The commands that read the path return a stream's state (R518), the path's status and its counters. Step 6 of the power-fail sequence
(R521, Table 9.14): each member's Flush is noted; when all have completed, the marker is signed again with
FLUSH_UNCONFIRMED = 0, and without a marker the sequence ends; one that ends in error fails its member and leaves the marker unconfirmed
(R505); at the expiry of the allowance the sequence ends as it stands, its reserved units' locks freed (log entry 131). -/
def Obligations.PowerFailFlushes : Prop :=
  ∀ s : State,
    (∀ x : StoreSet, s.ev.set = some x → s.pow.after = .none →
      (∀ member : BitVec 5, s.ev.pf = .flush → allFlushed { s with ev := { s.ev with flushed := s.ev.flushed ++ [member.toNat] } } x = false →
        exec (.flushComplete member .ok) s = .next (updEv (fun e => { e with flushed := e.flushed ++ [member.toNat] }) s)) ∧
      (∀ member : BitVec 5, s.ev.pf = .flush → allFlushed { s with ev := { s.ev with flushed := s.ev.flushed ++ [member.toNat] } } x = true →
        s.ev.flushBad = false → s.ev.marker = [] → ∃ t, exec (.flushComplete member .ok) s = .next t ∧ Reports (releaseUnits (updEv (fun e => { e with
          flushed := e.flushed ++ [member.toNat], state := .sealed, pf := .idle }) s)) t) ∧
      (∀ (member : BitVec 5) (e : StoreEnd), s.ev.pf = .flush → e ≠ .ok → ∃ t, exec (.flushComplete member e) s = .next t ∧
        t.ev.pf = .flush ∧ t.ev.flushBad = true ∧ (memberOf t member.toNat).failed = true ∧ t.ev.sealRecords = s.ev.sealRecords) ∧
      (∀ (member : BitVec 5) (k : List Byte), s.ev.pf = .flush →
        allFlushed { s with ev := { s.ev with flushed := s.ev.flushed ++ [member.toNat] } } x = true →
        s.ev.flushBad = false → s.ev.marker ≠ [] → signKey s s.ev.powerSlot = some k → ∃ t, exec (.flushComplete member .ok) s = .next t ∧
          t.ev.sealRecords = s.ev.sealRecords.dropLast ++ [markerBody s false ++ edSign k (markerBody s false)] ∧
          t.ev.sealSeq = s.ev.sealSeq ∧ (t.ev.pf = .confirm ∨ t.ev.writes = [])) ∧
      (s.ev.pf = .flush ∨ s.ev.pf = .confirm → ∃ t, exec .flushAllowExpiry s = .next t ∧ Reports (releaseUnits (updEv (fun e => { e with
        state := .sealed, pf := .idle }) s)) t)) ∧
    (∀ (m : BitVec 4) (a : State), a = startCmd m.toNat s → completionRoom s = true →
      (∀ x b, Accepted streamQuery m s → streamOf s (par s m 0 2) = some x → x.sealHash.length = 32 → b = checkCtx (par s m 0 2) 172 8 a →
        ∃ t, exec (.streamQuery m) s = .next t ∧ Completed m 0 s t ∧ Returns m (leBytes 4 x.streamId.toNat ++ [1, 0, 0, 0] ++
          leBytes 4 x.durableReam.toNat ++
            leBytes 4 (beNat (ctxRead b (par s m 0 2) 172 4)) ++ leBytes 4 (beNat (ctxRead b (par s m 0 2) 176 4)) ++ [0, 0, 0, 0] ++
            leBytes 8 s.ev.durable.toNat ++ leBytes 8 x.lastLoss.toNat ++ x.sealHash) t ∧
          Reports b t) ∧
      (Accepted evidenceStatus m s → ∃ t, exec (.evidenceStatus m) s = .next t ∧ Completed m 0 s t ∧ Returns m (leBytes 8 s.ev.durable.toNat ++
          leBytes 8 s.ev.exposure ++ leBytes 8 s.ev.nextStripe ++ leBytes 8 s.ev.releasedStripe ++
          leBytes 8 (if s.ev.sealRecords = [] then s.ev.sealBlock else s.ev.sealBlock + 1) ++
          leBytes 8 s.ev.sealSeq ++
          leBytes 4 (packNat ((List.range 32).map (fun i => (b2n (memberOf s i).failed, 1)))) ++ leBytes 1 (evCode s.ev.state)) t ∧
          Reports a t) ∧
      (Accepted evidenceCounters m s → ∃ t, exec (.evidenceCounters m) s = .next t ∧ Completed m 0 s t ∧ Returns m (leBytes 8 s.cntSheet.toNat ++
          (List.range 16).flatMap (fun i => leBytes 8 (tabGet 0 s.cntTot (cntKey .evidence 0 i)))) t ∧
          Reports (if par s m 0 1 = 1 then clearCounters .evidence 0 16 a else a) t))

/-- Commands 0x09xx that pass their checks take effect (Table 10.13): population, timing, ranges and the reserved areas are set before
DRAM_START, a range command returning its BASE and the installed bytes (R533); training saves the settings of each channel or fences it
(R529-R532); the start needs every populated channel trained or fenced (R574), and moves no byte where the map stands as at the last start;
what DRAM_ECC gives applies from the next tick (R16). -/
def Obligations.DramCommandsTakeEffect : Prop :=
  (∀ (s : State) (m : BitVec 4) (a : State), a = startCmd m.toNat s → completionRoom s = true →
    (Accepted dramPopulation m s → s.dram.started = false → ∃ t, exec (.dramPopulation m) s = .next t ∧ Completed m 0 s t ∧ Returns m [] t ∧
        Reports (updDram (fun d => { d with
      population := some { channels := BitVec.ofNat 8 (par s m 0 1), speed := par s m 1 1, ranks := par s m 2 1, width := par s m 3 1
                           density := par s m 4 1 } }) a) t) ∧
    (Accepted dramTiming m s → s.dram.started = false → ∃ t, exec (.dramTiming m) s = .next t ∧ Completed m 0 s t ∧ Returns m [] t ∧
        Reports (updDram (fun d => { d with
      timing := (List.range 20).map (fun i => par s m (2 * i) 2) }) a) t) ∧
    (∀ b : State, Accepted dramRangeSet m s → s.dram.started = false → b = updDram (fun d => { d with
        ranges := tabSet {} d.ranges (par s m 0 1) { channels := BitVec.ofNat 8 (par s m 1 1), large := par s m 2 1 = 1
                                                     enable := par s m 3 1 = 1, size := par s m 4 4 } }) s →
      ∃ t, exec (.dramRangeSet m) s = .next t ∧ Completed m 0 s t ∧ Returns m (leBytes 8 (rangeBase b (par s m 0 1)) ++
        leBytes 8 (dramInstalled b)) t ∧
        Reports ({ a with dram := b.dram }) t) ∧
    (∀ verify steps p, Accepted (dramTrain verify steps) m s → par s m 1 1 = 0 → s.dram.timing ≠ [] → s.dram.population = some p →
      (∀ c ∈ maskList 8 (par s m 0 1), natBits steps.toNat (4 * c) 4 = 0) →
      ∃ t, exec (.dramTrain m verify steps) s = .next t ∧ Completed m 0 s t ∧ t.dram.stateCode = 1 ∧ t.dram.mem = s.dram.mem ∧
        (∀ c ∈ maskList 8 (par s m 0 1), (chanState t c).saved = some (p, s.dram.timing) ∧ (chanState t c).retrain = false ∧
          (chanState t c).fenced = (chanState s c).fenced) ∧
        Returns m (zeros 8) t) ∧
    (∀ verify steps c, Accepted (dramTrain verify steps) m s → par s m 1 1 = 0 → s.dram.timing ≠ [] →
      c ∈ maskList 8 (par s m 0 1) → natBits steps.toNat (4 * c) 4 ≠ 0 →
      ∃ t, exec (.dramTrain m verify steps) s = .next t ∧ Completed m 0 s t ∧ (chanState t c).fenced = true) ∧
    (Accepted dramStart m s → s.dram.started = false → populated s ≠ [] → s.dram.dumpBase.isSome = true →
      (∀ c ∈ populated s, chanTrained s c = true ∨ (chanState s c).fenced = true) → s.dram.layout = s.dram.ranges → dumpStands s = false →
      ∃ t, exec (.dramStart m) s = .next t ∧ Completed m 0 s t ∧ Returns m [] t ∧
        Reports (updDram (fun d => { d with started := true, stateCode := 2 }) a) t) ∧
    (Accepted dramSched m s → ∃ t, exec (.dramSched m) s = .next t ∧ Completed m 0 s t ∧ Returns m [] t ∧
        Reports (updDram (fun d => { d with
      wrHigh := par s m 0 2, wrLow := par s m 2 2, ageLimit := par s m 4 2, panicLevel := par s m 6 2, panicHyst := par s m 8 2 }) a) t) ∧
    (Accepted dramRefresh m s → ∃ t, exec (.dramRefresh m) s = .next t ∧ Completed m 0 s t ∧ Returns m [] t ∧
        Reports (updDram (fun d => { d with
      refreshMode := par s m 0 1, refreshRate := par s m 1 1 }) a) t) ∧
    (Accepted dramEcc m s → ∃ t, exec (.dramEcc m) s = .next t ∧ Completed m 0 s t ∧ Returns m [] t ∧
        Reports (updDram (fun d => { d with
      eccNext := some [par s m 0 2, par s m 2 2, par s m 4 4, par s m 8 2] }) a) t) ∧
    (Accepted dramReserve m s → s.dram.started = false → ∃ t, exec (.dramReserve m) s = .next t ∧ Completed m 0 s t ∧ Returns m [] t ∧
        Reports (updDram (fun d => { d with
      dumpBase := some (par s m 0 8), spare := [(par s m 8 8, par s m 16 8), (par s m 24 8, par s m 32 8)], spareUsed := [0, 0] }) a) t)) ∧
  (∀ (s : State) (u v c h : Nat), ticking s = true → s.sh.tickOwed = false → s.ev.pf = .idle → s.pow.after = .none →
    s.dram.eccNext = some [u, v, c, h] →
    ∃ t, exec .sheetTick s = .next t ∧ t.dram.ueLimit = u ∧ t.dram.stormSheets = v ∧ t.dram.ceLimit = c ∧ t.dram.scrubHours = h ∧
      t.dram.eccNext = none)

/-- The DRAM controllers' happenings: reads meet errors (R552-R554, R557, R565); refreshes are issued, or postponed while requests wait for
the controller, at most 4 of each (R548-R550); ZQ calibrations change nothing a command sees (R551); scrub reads come after the other requests
of their bank (R558, R559); self-refresh is entered where the device rests and left by a training that the die temperature chooses
(R560-R564, R692, R694). -/
def Obligations.DramHappenings : Prop :=
  (∀ (s : State) (a : BitVec 40) (c x : Nat), dramPlace s a.toNat = some (c, x) → s.dram.started = true →
    (chanState s c).selfRefresh = false → (chanState s c).waiting = [] → (∀ e, (chanState s c).fenced = true → ∃ t, exec (.dramRead a e) s = .next t ∧
      Reports (endWakePause (logDramError (64 * (a.toNat / 64)) c 2 s)) t) ∧
    ((chanState s c).fenced = false → linePoisoned s (a.toNat / 64) = false →
      (∃ t, exec (.dramRead a .none) s = .next t ∧ t.dram.mem = s.dram.mem ∧ t.dram.poison = s.dram.poison ∧ t.pow.waking = false ∧
        t.dram.errorLog = s.dram.errorLog ∧ (∀ k, (chanState t k).fenced = (chanState s k).fenced)) ∧
      (∃ t, exec (.dramRead a .correctable) s = .next t ∧ t.dram.mem = s.dram.mem ∧ t.dram.poison = s.dram.poison ∧
        (chanState t c).ceSince = if s.dram.ceLimit ≤ (chanState s c).ceSince + 1 then 0 else (chanState s c).ceSince + 1) ∧
      (∃ t, exec (.dramRead a .uncorrectable) s = .next t ∧ tabGet false t.dram.poison (a.toNat / 64) = true ∧
        t.dram.errorLog.getLast? = some { address := 64 * (a.toNat / 64), channel := c, kind := 0, sheet := s.sh.sheet } ∧
        ((chanState t c).fenced = true ↔ s.dram.ueLimit ≤ (stormSheets s c).length)))) ∧
  (∀ (s : State) (c index : BitVec 3) (postpone : Bool) (k : Nat) (a : State), chanServes s c.toNat = true →
    refreshKey s index.toNat = some k → a = setChanState c.toNat { chanState s c.toNat with
      owed := tabUpd 0 (chanState s c.toNat).owed k (· + 1) } s →
    (postpone = true → refreshBusy s c.toNat = true → tabGet 0 (chanState s c.toNat).owed k < 4 →
        exec (.refreshIssue ⟨c, index, postpone⟩) s = .next a) ∧
    (postpone = false ∨ refreshBusy s c.toNat = false ∨ 4 ≤ tabGet 0 (chanState s c.toNat).owed k →
        ∃ t, exec (.refreshIssue ⟨c, index, postpone⟩) s = .next t ∧
      tabFind (chanState t c.toNat).owed k = none ∧ (chanState t c.toNat).subA = closeRows k (chanState s c.toNat).subA ∧
      (chanState t c.toNat).subB = closeRows k (chanState s c.toNat).subB ∧ t.dram.mem = s.dram.mem)) ∧
  (∀ (s : State) (c : BitVec 3), exec (.zqCalibration c) s = .next s) ∧
  (∀ (s u : State) (c : BitVec 3) (p : Population), chanRuns s c.toNat = true → s.dram.population = some p → s.dram.scrubHours ≠ 0 →
    (chanState s c.toNat).fenced = false → u = scrubTurn p c.toNat (64 * (chanState s c.toNat).scrubPos) (setChanState c.toNat
      { chanState s c.toNat with scrubPos := ((chanState s c.toNat).scrubPos + 1) % dimmLines p } (chanCount c.toNat 10 1 s)) →
    (∀ a, dramDevice u c.toNat (64 * (chanState s c.toNat).scrubPos) = some a → ∃ t, exec (.patrolScrub c .none) s = .next t ∧
      Reports (serveLine 8 (a / 64) (sendRequest 8 false (a / 64) u)) t) ∧
    (dramDevice u c.toNat (64 * (chanState s c.toNat).scrubPos) = none → ∃ t, exec (.patrolScrub c .none) s = .next t ∧ Reports u t)) ∧
  (∀ (s : State) (c : BitVec 3), chanRuns s c.toNat = true → mayRest s = true → ∃ t, exec (.selfRefreshEntry c) s = .next t ∧
    (chanState t c.toNat).selfRefresh = true ∧ (chanState t c.toNat).waking = false ∧ (chanState t c.toNat).temp = s.pow.temp ∧
    (chanState t c.toNat).subA.rows = [] ∧ (chanState t c.toNat).subB.rows = [] ∧ t.dram.mem = s.dram.mem) ∧
  (∀ (s : State) (c : BitVec 3), (chanState s c.toNat).selfRefresh = true → mayWake s = true →
    ((chanState s c.toNat).waking = false → ∃ t, exec (.selfRefreshWake c) s = .next t ∧
      Reports (setChanState c.toNat { chanState s c.toNat with waking := true } s) t) ∧
    (∀ verify step, (chanState s c.toNat).waking = true →
      (chanState s c.toNat).temp - 320 ≤ s.pow.temp → s.pow.temp ≤ (chanState s c.toNat).temp + 320 → verify = true →
      ∃ t, exec (.selfRefreshExit c verify step) s = .next t ∧ (chanState t c.toNat).selfRefresh = false ∧
        (chanState t c.toNat).waking = false ∧ (chanState t c.toNat).saved = (chanState s c.toNat).saved ∧
        (chanState t c.toNat).fenced = (chanState s c.toNat).fenced ∧ t.pow.waking = false ∧ t.dram.mem = s.dram.mem) ∧
    (∀ verify (step : BitVec 3) p, (chanState s c.toNat).waking = true → s.dram.population = some p →
      (s.pow.temp < (chanState s c.toNat).temp - 320 ∨ (chanState s c.toNat).temp + 320 < s.pow.temp ∨ verify = false) →
      ∃ t, exec (.selfRefreshExit c verify step) s = .next t ∧ (chanState t c.toNat).selfRefresh = false ∧
        (step = 0 → (chanState t c.toNat).saved = some (p, s.dram.timing)) ∧ (step ≠ 0 → (chanState t c.toNat).fenced = true)))

/-- A write to a fenced channel is discarded, and a read of one of its lines is poisoned (R565); DRAM_FENCE fences a channel, and no other.
Panic begins and ends at its thresholds (R546). Refreshes of which 4 are owed come first (R550); a subchannel's scheduler takes in panic a
write burst begun, then the oldest able request of the refill port, ahead of all others (R545, R547), else the oldest request beyond
AGE_LIMIT, then the oldest row hit of the mode (R542), which the queued writes decide (R544). -/
def Obligations.FencedChannelsKeepNothing : Prop :=
  (∀ (s : State) (a : Nat) (bs : List Byte), s.dram.started = true →
    (∀ l c x, dramPlace s (64 * l) = some (c, x) → (chanState s c).fenced = true →
      linePoisoned s l = true ∧ (∀ k, k / 64 = l → memGet (dramStore a bs s).dram.mem k = memGet s.dram.mem k)) ∧
    (∀ k, k < a ∨ a + bs.length ≤ k → memGet (dramStore a bs s).dram.mem k = memGet s.dram.mem k) ∧
    (∀ i, i < bs.length → (∀ c x, dramPlace s (64 * ((a + i) / 64)) = some (c, x) → (chanState s c).fenced = false) →
      memGet (dramStore a bs s).dram.mem (a + i) = bs.getD i 0)) ∧
  (∀ (s : State) (m : BitVec 4), completionRoom s = true →
    (Accepted dramFence m s → (chanState s (par s m 0 1)).fenced = false → par s m 0 1 ∈ populated s →
      ∃ t, exec (.dramFence m) s = .next t ∧ Completed m 0 s t ∧ (chanState t (par s m 0 1)).fenced = true ∧
        (∀ c, c ≠ par s m 0 1 → (chanState t c).fenced = (chanState s c).fenced))) ∧
  (∀ (s : State) (c : Nat), chanServes s c = true → (∃ o ∈ (chanState s c).owed, 4 ≤ o.2) →
    (∀ o ∈ (chanState s c).owed, 4 ≤ o.2 → tabFind (chanState (channelCycle s c) c).owed o.1 = none) ∧
    (chanState (channelCycle s c) c).subA.queue = (chanState s c).subA.queue ∧
    (chanState (channelCycle s c) c).subB.queue = (chanState s c).subB.queue) ∧
  (∀ s : State, (s.dram.panic = false → refillWanted s = true → fillLevel s < s.dram.panicLevel * 4096 →
      ∃ t, exec .panicChange s = .next t ∧ Reports (updDram (fun d => { d with panic := true }) s) t) ∧
    (s.dram.panic = true → s.dram.panicLevel = 0 ∨ refillWanted s = false ∨ (s.dram.panicLevel + s.dram.panicHyst) * 4096 ≤ fillLevel s →
      ∃ t, exec .panicChange s = .next t ∧ Reports (updDram (fun d => { d with panic := false }) s) t)) ∧
  (∀ (k : SchedRules) (q : SubChannel), k.wrLow < k.wrHigh →
    (k.wrHigh ≤ (q.queue.filter (·.write)).length → q.nextMode k = true) ∧
    ((∃ r ∈ q.queue, r.write = false) → (q.queue.filter (·.write)).length ≤ k.wrLow → q.nextMode k = false) ∧
    ((∃ r ∈ q.queue, r.write = false) → k.wrLow < (q.queue.filter (·.write)).length →
      (q.queue.filter (·.write)).length < k.wrHigh → q.nextMode k = q.writeMode) ∧
    (q.queue ≠ [] → (∀ r ∈ q.queue, r.write = true) → q.nextMode k = true)) ∧
  (∀ (k : SchedRules) (q : SubChannel),
    (k.panic = true → ∀ r, q.begun = some r → q.choose k = some r) ∧
    (k.panic = true → q.begun = none → (∃ r ∈ q.queue, r.port = 0 ∧ q.able k r = true) →
      ∃ r, q.choose k = some r ∧ r.port = 0 ∧ q.able k r = true) ∧
    (k.panic = false → ∀ (r : DramReq) (older newer : List DramReq), q.queue = older ++ r :: newer →
      (∀ x ∈ older, x.since + k.age < q.clock → q.able k x = false) → r.since + k.age < q.clock → q.able k r = true →
      q.choose k = some r) ∧
    (k.panic = false → (∀ x ∈ q.queue, x.since + k.age < q.clock → q.able k x = false) →
      ∀ (r : DramReq) (older newer : List DramReq), q.queue = older ++ r :: newer →
      (∀ x ∈ older, x.write = q.writeMode → q.hits x = false) → r.write = q.writeMode → q.hits r = true → q.choose k = some r))

/-- Faults are contained: a core whose watchdog expires takes an L1 reset (R596, R597), a cluster that leaves a request unanswered is fenced
(R599), an uncorrectable instruction word is rewritten from its shadow once and fences its cluster when it fails again (R581), and a fatal
error writes its dump, drives FATAL_N low and resets the device at L3 with DRAM and the key store kept (R602, R671, R703, R734); what may
follow the end of an item follows (R32, R520). DRAM's status, counters as at the last tick (R575) and error log, whose entries leave it
(log entry 35), are returned. -/
def Obligations.FaultsAreContained : Prop :=
  (∀ (s : State) (n : BitVec 6), (∃ t ∈ coreThreads [n.toNat], (thr s t).st = .ready ∨ (thr s t).st = .run) → s.sec.deviceFrozen = false →
    s.disp.frozen.getLsbD (n.toNat / 8) = false →
    ∃ u, u = resetCores [n.toNat] s ∧ exec (.watchdogExpiry n) s = .next (settle (raise 491 [(n.toNat, 8)] (setFlag 0x600 9
      (bumpTotal 0x64C 1 u)))) ∧ (∀ a, a < 32768 → tabGet 0 u.cores.dmem (n.toNat * 32768 + a) = 0) ∧ u.cores.imem = s.cores.imem) ∧
  (∀ (s : State) (k : BitVec 3), s.disp.fenced.getLsbD k.toNat = false →
    (∃ u, u = fenceCluster k.toNat s ∧ exec (.clusterFaultTimeout k) s = .next (settle (raise 492 [(k.toNat, 8), (1, 8)]
      (setFlag 0x600 10 u))) ∧ u.disp.fenced = s.disp.fenced ||| BitVec.ofNat 8 (2 ^ k.toNat) ∧
      u.disp.frozen = s.disp.frozen &&& ~~~ BitVec.ofNat 8 (2 ^ k.toNat))) ∧
  (∀ (s : State) (k : BitVec 3) (a : BitVec 16), s.cores.imemBad.contains (k.toNat * 65536 + a.toNat) = true →
    (s.cores.imemRewritten.contains (k.toNat * 65536 + a.toNat) = false → ∃ u, exec (.instructionRewrite k a) s = .next u ∧
      tabGet 0 u.cores.imem (k.toNat * 65536 + a.toNat) = tabGet 0 s.cores.imemShadow (k.toNat * 65536 + a.toNat) ∧
      (∀ b, b ≠ k.toNat * 65536 + a.toNat → tabGet 0 u.cores.imem b = tabGet 0 s.cores.imem b) ∧
      u.cores.imemBad = s.cores.imemBad.filter (· != k.toNat * 65536 + a.toNat) ∧ u.cores.threads = s.cores.threads) ∧
    (s.cores.imemRewritten.contains (k.toNat * 65536 + a.toNat) = true → exec (.instructionRewrite k a) s = .next
      (settle (fenceFault k.toNat 2 (raise 484 [(k.toNat, 8), (a.toNat, 32)] s))))) ∧
  (∀ (s : State) (cause : BitVec 8), s.pow.tripped = false → inReset s = false → s.pow.held &&& 3 = 0 → s.pow.clkMode ≠ 0 → s.pow.level < 4 →
    ∃ u, exec (.fatalError cause) s = .next u ∧ u.pow.level = 3 ∧ u.pow.fatalLow = true ∧ u.pow.cause.getLsbD 4 = true ∧
      u.host.lastReset = 3 ∧ u.host.fwReady = false ∧ u.cores = {} ∧ u.cab = {} ∧ u.sec.keys = s.sec.keys ∧
      u.dram.mem = (dumpFatal cause.toNat s).dram.mem ∧ (s.dram.dumpBase = none → u.dram.mem = s.dram.mem) ∧
      (s.pow.dump = true → u.pow.dump = true)) ∧
  (∀ (s : State) (m : BitVec 4) (a : State), a = startCmd m.toNat s → completionRoom s = true →
    (∀ p, Accepted dramStatus m s → s.dram.population = some p → ∃ t, exec (.dramStatus m) s = .next t ∧ Completed m 0 s t ∧
        Returns m (leBytes 4 (dramState s) ++ leBytes 1 p.channels.toNat ++ leBytes 1 p.speed ++ [0, 0] ++ leBytes 8 (dramInstalled s) ++
        (List.range 8).flatMap (fun c => leBytes 1 (ofInt 8 ((chanState s c).temp / 16)))) t ∧
        Reports a t) ∧
    (Accepted dramCounters m s → ∃ t, exec (.dramCounters m) s = .next t ∧ Completed m 0 s t ∧ Returns m (leBytes 8 s.cntSheet.toNat ++
        (List.range 15).flatMap (fun i => leBytes 8 (tabGet 0 s.cntTot (cntKey .channel (par s m 0 1) i)))) t ∧
        Reports (if par s m 1 1 = 1 then clearCounters .channel (par s m 0 1) 15 a else a) t) ∧
    (Accepted dramErrorLog m s → s.dram.errorLog.length ≤ par s m 0 1 → ∃ t, exec (.dramErrorLog m) s = .next t ∧ Completed m 0 s t ∧
        Returns m (leBytes 1 s.dram.errorLog.length ++ zeros 15 ++ s.dram.errorLog.flatMap (fun e =>
        leBytes 8 e.address ++ leBytes 1 e.channel ++ leBytes 1 e.kind ++ leBytes 6 e.sheet.toNat)) t ∧
        Reports (updDram (fun d => { d with errorLog := [] }) a) t))

/-- Trace is set and drains (R730, R731), and the dump reaches host memory at the address given, poisoned lines marked (R592), is described
and cleared (R736, R737). Debug happens: a challenge expires (R717), the breakpoints that match freeze their scopes (R728), a step ends with
its thread frozen again and its command completed with the PC and the number of instructions done (R729), and the diagnostic window shows
and takes what the level and the lifecycle state grant (R611, R732, R733). -/
def Obligations.DebugHappenings : Prop :=
  (∀ s : State, exec .challengeExpiry s = .next { s with sec := { s.sec with challenge := none } }) ∧
  (∀ (s : State) (t : BitVec 9), (thr s t.toNat).st = .run ∨ (thr s t.toNat).st = .ready → hitList s t.toNat ≠ [] →
    s.disp.frozen.getLsbD (t.toNat / 64) = false → s.sec.deviceFrozen = false →
    ∃ u, exec (.breakpointMatch t) s = .next u ∧ (thr u t.toNat).st = .frozen ∧ (thr u t.toNat).before = .ready ∧
      (thr u t.toNat).pc = (thr s t.toNat).pc ∧ (thr u t.toNat).broke = some (thr s t.toNat).pc ∧
      (∀ k, (thr s k).st = .frozen → (thr u k).st = .frozen) ∧ ∀ i ∈ hitList s t.toNat,
      ((tabGet {} s.sec.breakpoints (4 * (t.toNat / 64) + i)).scope = 1 → u.disp.frozen.getLsbD (t.toNat / 64) = true ∧
        ∀ k, k / 64 = t.toNat / 64 → (thr u k).st = .frozen) ∧
      ((tabGet {} s.sec.breakpoints (4 * (t.toNat / 64) + i)).scope = 2 → u.sec.deviceFrozen = true ∧ ∀ k, k < 512 → (thr u k).st = .frozen)) ∧
  (∀ (s : State) (m : BitVec 4) (t : BitVec 9), s.sec.stepMbx = some (m.toNat, t.toNat) → completionRoom s = true →
    m.toNat ∉ s.host.accepted → ∃ u, exec (.stepLimit t) s = .next u ∧ Completed m 0 s u ∧ (thr u t.toNat).st = .frozen ∧
      u.sec.stepMbx = none ∧ (∀ k left, s.cores.stepping = some (k, left) →
        Returns m (leBytes 2 (thr s t.toNat).pc.toNat ++ leBytes 2 (par s m 2 2 - left)) u)) ∧
  (∀ (s : State) (o : BitVec 24), hostOpen s = true →
    (diagGranted s = false → ∃ u, exec (.diagWindowRead o) s = .next u ∧ u.host.readData = 0) ∧
    (∀ v, diagGranted s = true → diagDword s (2 ^ 24 * s.sec.diagPage.toNat + o.toNat / 4 * 4) = some v →
      exec (.diagWindowRead o) s = .next { s with host := { s.host with readData := v } }) ∧
    (∀ v, s.sec.level = 3 → s.sec.lifecycle = 0 → s.sec.diagStructure = 4 → 2 ^ 24 * s.sec.diagPage.toNat + o.toNat / 4 * 4 < 4194304 →
      exec (.diagWindowWrite o v) s = .next { s with disp := { s.disp with
        ctxStore := tabWrite 0 s.disp.ctxStore (2 ^ 24 * s.sec.diagPage.toNat + o.toNat / 4 * 4) (leBytes 4 v.toNat) } }) ∧
    (∀ v, (s.sec.level ≠ 3 ∨ s.sec.lifecycle ≠ 0) → Happens (exec (.diagWindowWrite o v) s) s)) ∧
  (∀ (s : State) (m : BitVec 4), completionRoom s = true →
    (Accepted traceConfig m s → par s m 0 1 = 0 → Ends (exec (.traceConfig m) s) m s (fun t =>
      t.sec.trace.enabled = false ∧ t.sec.trace.writing = false)) ∧
    (Accepted traceConfig m s → par s m 0 1 = 1 → s.sec.trace.enabled = false → Ends (exec (.traceConfig m) s) m s (fun t =>
      t.sec.trace.enabled = true ∧ t.sec.trace.writing = true ∧ t.sec.trace.kinds = BitVec.ofNat 8 (par s m 1 1) ∧
      t.sec.trace.stopAtEnd = decide (par s m 2 1 = 1) ∧ t.sec.trace.cores = BitVec.ofNat 64 (par s m 4 8) ∧
      t.sec.trace.base = par s m 12 8 ∧ t.sec.trace.size = par s m 20 4 ∧ t.sec.trace.written = 0 ∧ t.sec.trace.offset = 0)) ∧
    (∀ x, Accepted traceStatus m s → x = (drainTrace s).sec.trace → Effect (exec (.traceStatus m) s) m s drainTrace
      (leBytes 8 x.written ++ leBytes 8 x.offset ++ leBytes 8 x.lost ++ leBytes 1 (b2n x.writing))) ∧
    (∀ d b u, Accepted dumpRead m s → s.pow.dump = true → s.dram.dumpBase = some d → s.host.busMaster = true →
      b = noteAccess 7 false (d + par s m 0 4) (par s m 4 4) (startCmd m.toNat s) →
      u = hostWriteBad (BitVec.ofNat 64 (par s m 8 8)) (dramBytes b (d + par s m 0 4) (par s m 4 4))
        (fun i => linePoisoned b ((d + par s m 0 4 + i) / 64)) b → Effect (exec (.dumpRead m) s) m s (fun _ => u) [] ∧
      exec (.dumpRead m) s = .next (sweepBad (finishCmd m.toNat 0 0 [] u)) ∧ (s.host.cq.enabled = false → ∃ t, exec (.dumpRead m) s = .next t ∧
        t.host.mem = memWrite b.host.mem (par s m 8 8) (dramBytes b (d + par s m 0 4) (par s m 4 4)) ∧ t.host.ep = u.host.ep)) ∧
    (∀ d, Accepted dumpClear m s → s.pow.dump = true → s.dram.dumpBase = some d → Effect (exec (.dumpClear m) s) m s
      (fun a => updPow (fun p => { p with dump := false, fatalLow := false }) (dramWrite 7 d (zeros 4) false a)) []) ∧
    (∀ d, Accepted dumpQuery m s → s.pow.dump = true → s.dram.dumpBase = some d →
      Effect (exec (.dumpQuery m) s) m s id (dramBytes s d 64)))

/-- Commands 0x0Axx that pass their checks take effect (Table 13.16): CHIP_RESET resets the device at L3 at once, or stays BUSY while it
seals first (R666, R669; log entry 170); DATAPATH_RESET asserts L2 and stays BUSY until its exit (R665, R668); CORE_RESET takes an L1 reset
(R262, R352); POWER_FAIL begins S2 (R691); tolerances and policy apply from the next tick (R16, R683-R685), GPIOs at once (R697), and the
power state is returned, its times open (log entry 2). -/
def Obligations.PowerCommandsTakeEffect : Prop :=
  (∀ (s : State) (m : BitVec 4), completionRoom s = true →
    (Accepted chipReset m s → s2Running s = false → par s m 0 1 = 0 → s.ev.pf = .idle → s.pow.level = 0 → s.pow.held &&& 3 = 0 →
      s.host.held = [] → s.pow.clkMode ≠ 0 → ∃ t, exec (.chipReset m) s = .next t ∧ t.pow.level = 3 ∧ t.pow.cause.getLsbD 2 = true ∧
          t.host.lastReset = 3 ∧
        t.host.fwReady = false ∧ t.host.busy = 0 ∧ t.cores = {} ∧ t.cab = {} ∧ t.disp = {} ∧ t.dram.mem = s.dram.mem ∧
        t.sec.keys = s.sec.keys ∧ t.sec.fuses = s.sec.fuses) ∧
    (Accepted chipReset m s → s2Running s = false → par s m 0 1 = 1 → s.ev.state = .running → s.pow.level = 0 →
      s.disp.items.all (fun p => p.2.ended) = false → ∃ t, exec (.chipReset m) s = .next t ∧ t.host.busy.getLsbD m.toNat = true ∧
        t.pow.after = .chip m.toNat ∧ t.pow.level = 0 ∧ t.ev.state = .powerFail ∧ t.ev.pf = .items) ∧
    (Accepted datapathReset m s → s2Running s = false → par s m 0 1 = 0 → s.ev.state ≠ .running → s.ev.pf = .idle → s.pow.level = 0 →
      ∃ t, exec (.datapathReset m) s = .next t ∧ t.pow.level = 2 ∧ t.pow.datapath = some m.toNat ∧ (s.sec.stepMbx = none →
        t.host.busy = s.host.busy) ∧
        t.cores.threads = [] ∧ t.cores.dmem = [] ∧ t.cores.imem = s.cores.imem ∧ t.cab.queues = [] ∧ t.sh.furnish = 0 ∧
        t.lk.tables = s.lk.tables ∧ t.sec.keys = s.sec.keys) ∧
    (Accepted coreReset m s → ∃ u, exec (.coreReset m) s = .next (settle u) ∧ Completed m 0 s u ∧
      Reports (if par s m 0 1 = 0 then resetCores [par s m 1 1] (startCmd m.toNat s)
        else markFrozen 1 (par s m 1 1) false (resetCores (clusterCores (par s m 1 1)) (startCmd m.toNat s))) u) ∧
    (Accepted powerTolerance m s → Effect (exec (.powerTolerance m) s) m s (updPow (fun x => { x with
      policyNext := { x.policyNext with
        tolerance := [par s m 0 4, par s m 4 4, par s m 8 4, par s m 12 4, par s m 16 4, par s m 20 4, par s m 24 4] } })) []) ∧
    (Accepted powerPolicy m s → Effect (exec (.powerPolicy m) s) m s (updPow (fun x => { x with policyNext := { x.policyNext with
      allow := BitVec.ofNat 3 (par s m 0 1), idleSheets := par s m 2 2, wakeThreads := par s m 4 2, a1Idle := par s m 6 2 } })) []) ∧
    (Accepted powerFail m s → s.pow.current ≠ .s2 → s.pow.level = 0 → s.pow.after = .none → s.sec.stepMbx = none →
      Ends (exec (.powerFail m) s) m s (fun t =>
      t.pow.current = .s2 ∧ t.pow.gated = 0 ∧ t.sec.level = 0 ∧ t.sec.mpHalted = false ∧ (s.ev.state = .running → s.sec.deviceFrozen = false →
        (t.ev.state = .powerFail ∨ t.ev.state = .sealed) ∧ t.ev.pfSheet = s.sh.sheet))) ∧
    (Accepted powerStatus m s → ∃ a b c d e, Effect (exec (.powerStatus m) s) m s id
      (leBytes 4 (powerStateWord s).toNat ++ zeros 4 ++ [a, b, c, d, e].flatMap (leBytes 8))) ∧
    (Accepted gpioConfig m s → Effect (exec (.gpioConfig m) s) m s (updPow (fun x => { x with
      gpio := tabSet {} x.gpio (par s m 0 1) { mode := par s m 1 1, level := par s m 2 1 = 1, pull := par s m 3 1 } })) [])) ∧
  (∀ s : State, ticking s = true → s.sh.tickOwed = false → s.ev.pf = .idle → s.pow.after = .none → ∃ t, exec .sheetTick s = .next t ∧
    t.pow.policy = s.pow.policyNext)

/-- Resets assert and exit (R658-R664, R667-R676, R679-R682, R649, R650): PORST_N keeps the fuses alone, RST_N keeps DRAM, keys and the fuses;
the exit begins when no source remains and loads RESET_CAUSE and LAST_RESET, with the straps sampled at PORST_N's release; an L2 exit voids
the items in flight and completes DATAPATH_RESET; a host-interface reset aborts what waits at port H and clears its queues. -/
def Obligations.ResetsAssertAndExit : Prop :=
  (∀ s : State, s.pow.held.getLsbD 0 = false → s.pow.level ≤ 4 → ∃ t, exec .porstNAssert s = .next t ∧ t.pow.level = 4 ∧
      t.pow.held = s.pow.held ||| 1 ∧
    t.sec = { fuses := s.sec.fuses } ∧ t.cores = {} ∧ t.cab = {} ∧ t.disp = {} ∧ t.dov = {} ∧ t.lk = {} ∧ t.cop = {} ∧ t.sh = {} ∧
    t.dram = {} ∧ t.flags = [] ∧ t.host.fwReady = false ∧ t.host.busy = 0) ∧
  (∀ s : State, s.pow.held.getLsbD 1 = false → s.pow.level < 4 → ∃ t, exec .rstNAssert s = .next t ∧ t.pow.level = 3 ∧
    t.pow.held = s.pow.held ||| 2 ∧ t.sec.fuses = s.sec.fuses ∧ t.sec.keys = s.sec.keys ∧ t.dram.mem = s.dram.mem ∧
    t.dram.poison = s.dram.poison ∧ t.cores = {} ∧ t.cab = {} ∧ t.disp = {} ∧ t.dov = {} ∧ t.lk = {} ∧ t.cop = {} ∧ t.sh = {} ∧
    t.host.fwReady = false ∧ t.pow.gpio = s.pow.gpio) ∧
  (∀ (s : State) (b c : BitVec 2), s.pow.held.getLsbD 0 = true → s.pow.held &&& 2 = 0 → 3 ≤ s.pow.level → s.pow.exiting = false → c ≠ 0 →
      s.pow.hot = false →
    ∃ t, exec (.porstNRelease b c) s = .next t ∧ t.pow.bootSrc = b ∧ t.pow.clkMode = c ∧ t.pow.held = s.pow.held &&& ~~~ 1 ∧
      t.pow.cause = s.pow.since ∧ t.host.lastReset = BitVec.ofNat 3 s.pow.level ∧
      t.pow.stage = (if b = 3 ∨ b = 2 then .loading else .waiting) ∧ (b = 3 ∨ b = 2 → t.pow.source = b)) ∧
  (∀ s : State, s.pow.held.getLsbD 1 = true → s.pow.held &&& 1 = 0 → 3 ≤ s.pow.level → s.pow.exiting = false → s.pow.clkMode ≠ 0 →
    s.pow.hot = false → ∃ t, exec .rstNRelease s = .next t ∧ t.pow.held = s.pow.held &&& ~~~ 2 ∧ t.pow.cause = s.pow.since ∧
      t.host.lastReset = BitVec.ofNat 3 s.pow.level ∧ t.pow.stage = (if s.pow.bootSrc = 3 ∨ s.pow.bootSrc = 2 then .loading else .waiting)) ∧
  (∀ s : State, s.pow.level = 2 → s.pow.pfailDeferred = false →
    (s.pow.datapath = none → Happens (exec .l2Exit s) (updPow (fun p => { p with level := 0, datapath := none })
      (l2VoidItems (loadCause 2 s)))) ∧
    (∀ m : BitVec 4, s.pow.datapath = some m.toNat → completionRoom s = true → m.toNat ∉ s.host.accepted →
      ∃ t, exec .l2Exit s = .next t ∧ Completed m 0 s t ∧ t.pow.level = 0 ∧ t.pow.cause = s.pow.since ∧ t.host.lastReset = 2 ∧
        t.disp.items = [] ∧ t.pow.datapath = none)) ∧
  (∀ s : State, s.pow.held.getLsbD 6 = false →
    (s.pow.level < 3 → s.pow.after = .none → ∃ t, exec .hostifReset s = .next t ∧ t.pow.held = s.pow.held ||| 0x40 ∧
        t.pow.since = s.pow.since ||| 0x40 ∧
      t.host.accepted = [] ∧ t.host.muted = runningMbx s ∧ t.host.cq = {} ∧ t.host.eq = {} ∧ t.host.busMaster = false ∧ t.host.msixEnable = false ∧
      (∀ m : BitVec 4, m.toNat ∈ s.host.accepted → tabGet 0 t.host.status m.toNat = 0x0B ∧ t.host.busy.getLsbD m.toNat = false) ∧
      t.cores = s.cores ∧ t.cab.handles = s.cab.handles) ∧
    (3 ≤ s.pow.level → ∃ t, exec .hostifReset s = .next t ∧ t.pow.held = s.pow.held ||| 0x40 ∧ t.pow.absorbed = true ∧
      t.host = s.host)) ∧
  (∀ s : State, s.pow.held.getLsbD 6 = true → ∃ t, exec .hostifResetEnd s = .next t ∧ t.pow.held = s.pow.held &&& ~~~ 0x40 ∧
    (s.pow.absorbed = false → t.pow.cause = s.pow.since ∧ t.host.lastReset = 5 ∧ (s.pow.level = 0 → t.pow.since = 0)) ∧
    (s.pow.absorbed = true → t.pow.cause = s.pow.cause ∧ t.host.lastReset = s.host.lastReset ∧ t.pow.absorbed = false)) ∧
  (∀ s : State, s.host.fwReady = true → s.pow.tripped = false → s.pow.level < 4 → s.pow.held &&& 3 = 0 → s.pow.clkMode ≠ 0 →
    ∃ t, exec .mpWatchdogExpiry s = .next t ∧ t.pow.level = 3 ∧ t.pow.cause.getLsbD 3 = true ∧ t.host.fwReady = false ∧
      t.dram.mem = s.dram.mem)

/-- The device boots (R678-R682, Tables 13.6 and 13.7): a loaded image starts the firmware exactly when it passes every check, and a failure
is recorded, the first flash slot giving way to the second and every other attempt to the host; BOOT_CTRL begins the attempt it names. -/
def Obligations.ImagesBoot : Prop :=
  (∀ (s : State) (flash img : List Byte) (f : Nat), 3 ≤ s.pow.level → s.pow.tripped = false → s.pow.stage = .loading →
      attemptImage s flash = some img →
    f = imageFault s img → s.pow.pfailLow = false → s.pow.after = .none → s.host.fwReady = false → ∃ t,
      exec (.bootImageLoaded flash) s = .next t ∧ t.host.fwReady = decide (f = 0) ∧ t.pow.level = (if f = 0 then 0 else s.pow.level) ∧
      t.host.fwVersion = (if f = 0 then BitVec.ofNat 32 (0x02030000 + leAt img 26 2) else s.host.fwVersion) ∧
      t.pow.result = (if f = 0 then s.pow.result else f) ∧
      t.pow.stage = (if f = 0 then .running else if s.pow.source = 3 ∧ s.pow.slot = 0 then .loading else .waiting) ∧
      t.pow.slot = (if f ≠ 0 ∧ s.pow.source = 3 ∧ s.pow.slot = 0 then 1 else s.pow.slot)) ∧
  (∀ s : State, 3 ≤ s.pow.level → s.pow.tripped = false → s.pow.stage = .loading → exec .bootTimeout s = .next (updPow (fun p => { p with
    stage := .waiting, result := if s.pow.source = 1 then 7 else if s.pow.source = 2 then 9 else 8 }) s)) ∧
  (∀ (s : State) (v : BitVec 32), hostOpen s = true → s.pow.stage = .waiting → v.getLsbD 31 = true → v.toNat % 4 ≠ 0 →
    ∃ t, exec (.bootCtrlGo v) s = .next t ∧ t.pow.source = v.setWidth 2 ∧ t.pow.slot = 0 ∧ t.pow.attempts = s.pow.attempts + 1 ∧
      t.pow.stage = .loading ∧ t.pow.image = [] ∧ (v.toNat % 4 = 2 → t.cop.link = { enabled := true, state := .lock }))

/-- Power states, supplies and temperature (R683-R695, R743-R759): a tick's choice enters the deepest state that qualifies, a wake returns
to A0, PFAIL_N, a supply fault and the critical temperature begin S2 unless a reset defers it, a later cause is counted, and the trip at 125
°C stops the device. -/
def Obligations.PowerHappenings : Prop :=
  (∀ s : State, ticking s = true → s.host.fwReady = true → s.pow.level = 0 → (s.pow.current = .a0 ∨ s.pow.current = .a1) →
    (rested s = true → stateAllowed s 2 8000 = true → ∃ t, exec .powerStateEntry s = .next t ∧ t.pow.current = .s1b ∧
      t.pow.gated = 0xFF ∧ t.pow.perstHigh = false ∧ t.pow.refclk = false ∧ t.pow.refclkHeld = s.pow.refclk ∧
      t.sec.level = (if s.sec.level = 1 then 0 else s.sec.level)) ∧
    (rested s = true → stateAllowed s 2 8000 = false → stateAllowed s 1 60 = true →
      Happens (exec .powerStateEntry s) (updPow (fun p => { p with current := .s1a, gated := 0xFF }) s)) ∧
    (rested s = false → Happens (exec .powerStateEntry s) (updPow (fun p => { p with
      gated := if stateAllowed s 0 3 then p.gated ||| idleClusters s else 0
      current := if stateAllowed s 0 3 = true ∧ s.pow.gated ||| idleClusters s ≠ 0 then .a1 else .a0 }) s))) ∧
  (∀ (s : State) (cause : BitVec 4),
    (s.pow.current = .s1a → Happens (exec (.wakeUp cause) s) (updPow (fun p => { p with
      current := .a0, gated := 0, restIdle := 0, waking := s.dram.started && !entering s, storeReinit := false }) s)) ∧
    (s.pow.current = .s1b → 2 ≤ cause.toNat → Happens (exec (.wakeUp cause) s) (updPow (fun p => { p with
      current := .a0, gated := 0, restIdle := 0, waking := false, storeReinit := !s.ev.controllers.isEmpty
      perstHigh := p.perstHigh || s.ev.linkEnable, refclk := p.refclk || p.refclkHeld }) s)) ∧
    (s.pow.current = .s1b → cause.toNat < 2 → exec (.wakeUp cause) s = .next s)) ∧
  (∀ (s : State) (c : BitVec 3), (s.pow.current = .s1a ∨ s.pow.current = .s1b) → (chanState s c.toNat).selfRefresh = true →
    (chanState s c.toNat).fenced = false → 256 ≤ (dieTemp s - (chanState s c.toNat).temp).natAbs → ∃ ok step u, step < 7 ∧
      u = raise 409 [] (restoreTraining c.toNat ok step (raise 409 [] (drawFree s))) ∧ exec (.thermalRewake c) s = .next
        (raise 455 [(c.toNat, 8)] (setFlag 0x69C 4 (setChanState c.toNat { chanState u c.toNat with temp := dieTemp u } u)))) ∧
  (∀ s : State, s.pow.pfailLow = false → s.pow.after = .none →
    (s.pow.level ≠ 0 → exec .pfailNFall s = .next (updPow (fun p => { p with pfailLow := true, pfailDeferred := p.level == 2 }) s)) ∧
    (s.pow.tripped = false → s.pow.level = 0 → s.pow.current ≠ .s2 → ∃ t, exec .pfailNFall s = .next t ∧ t.pow.current = .s2 ∧ t.pow.pfailLow = true ∧
      t.pow.gated = 0 ∧ t.sec.level = 0) ∧
    (s.pow.tripped = false → s.pow.level = 0 → s.pow.current = .s2 → exec .pfailNFall s = .next (updPow (fun p => { p with
      pfailLow := true, pfailDeferred := false, extraCauses := min (p.extraCauses + 1) 255 }) s))) ∧
  (∀ s : State, s.pow.pfailLow = true → Happens (exec .pfailNRise s) (updPow (fun p => { p with pfailLow := false, pfailDeferred := false }) s)) ∧
  (∀ (s : State) (rail : BitVec 3) (high : Bool), rail ≠ 7 → s.pow.after = .none → s.pow.tripped = false → s.pow.level = 0 →
    (s.pow.current ≠ .s2 → ∃ t, exec (.supplyFault rail high) s = .next t ∧ t.pow.current = .s2 ∧
      (if high then t.pow.supplyHigh else t.pow.supplyLow).getLsbD rail.toNat = true) ∧
    (s.pow.current = .s2 → high = true → Happens (exec (.supplyFault rail high) s) (updPow (fun p => { p with
      supplyLow := p.supplyLow &&& ~~~ BitVec.ofNat 7 (2 ^ rail.toNat)
      supplyHigh := p.supplyHigh ||| BitVec.ofNat 7 (2 ^ rail.toNat), extraCauses := min (p.extraCauses + 1) 255 }) s))) ∧
  (∀ (s : State) (x : MonitorSample) (v w : Int), v = sampleTemp x → w = warnLevel s → s.pow.tripped = false → s.pow.hot = false →
    s.pow.after = .none → (v < criticalLevel → ∃ h ∈ hottestSensors x, Happens (exec (.thermalSample x) s) (updPow (fun p => { p with
      temp := v, hottest := BitVec.ofNat 4 h, warn := decide (w ≤ v), supplyLow := x.low, supplyHigh := x.high &&& ~~~ x.low
      warm := decide (w ≤ v) || ((p.warm || decide (w ≤ p.temp)) && decide (w - 32 < v)) }) s)) ∧
    (s.pow.temp < criticalLevel → criticalLevel ≤ v → s.pow.current ≠ .s2 → s.pow.level = 0 → ∃ t, exec (.thermalSample x) s = .next t ∧
      t.pow.current = .s2 ∧ t.pow.critical = true ∧ t.pow.temp = v) ∧
    (2000 ≤ v → ∃ t, exec (.thermalSample x) s = .next t ∧ t.pow.tripped = !inReset s ∧ t.pow.tripLow = true ∧ t.pow.refclk = false)) ∧
  (∀ (s : State) (m : BitVec 4), s.ev.pf = .flush → s.pow.after = .chip m.toNat → s.pow.level = 0 → s.pow.held &&& 3 = 0 →
    completionRoom s = true → s.host.held = [] → s.pow.clkMode ≠ 0 →
    ∃ t, exec .flushAllowExpiry s = .next t ∧ t.pow.level = 3 ∧ t.pow.cause.getLsbD 2 = true ∧ t.host.fwReady = false)

/-- Commands 0x0B0x and 0x0B1x that pass their checks take effect (Table 14.17): the lifecycle, the fuses, the revocations and the rollback count
advance (R699-R701, R711, R712); keys are generated, imported, loaded, deleted and described, a generated or loaded one returned wrapped under
DEVICE_KEY with random bytes of the device's source (R703-R706, log entry 2), and a signing slot's change joins the superblocks (R502). -/
def Obligations.SecurityCommandsTakeEffect : Prop :=
  ∀ (s : State) (m : BitVec 4), completionRoom s = true →
    (∀ same : Bool, Accepted lifecycleAdvance m s → same = decide (par s m 4 4 = Config.serial.toNat % 2 ^ 32) → s.ev.state ≠ .running →
      (par s m 0 1 = 1 → s.sec.fuses.deviceKey.isSome = true) → ∃ t, exec (.lifecycleAdvance m) s = .next t ∧
        Completed m (if same then 0 else 3) s t ∧
        t.sec.fuses = (if !same then s.sec.fuses else if par s m 0 1 = 1 then { s.sec.fuses with deployed := true }
          else { s.sec.fuses with retired := true }) ∧
        t.sec.keys = if same ∧ par s m 0 1 = 2 then [] else s.sec.keys) ∧
    (Accepted fuseProgram m s → par s m 0 1 = 0 → s.sec.fuses.deviceKey = none → ∃ k : List Byte, k.length = 32 ∧
      Effect (exec (.fuseProgram m) s) m s (updSec (fun c => { c with fuses := { c.fuses with deviceKey := some k } })) []) ∧
    (Accepted fuseProgram m s → par s m 0 1 = 1 → s.sec.fuses.debugKey = none → Effect (exec (.fuseProgram m) s) m s
      (updSec (fun c => { c with fuses := { c.fuses with debugKey := some (bytesAt (mbxPayload s m.toNat) 4 32) } })) []) ∧
    (Accepted fwKeyRevoke m s → par s m 0 1 ≠ s.pow.keyIndex → (∃ k, k < 4 ∧ k ≠ par s m 0 1 ∧ s.sec.fuses.revoke.getLsbD k = false) →
      Effect (exec (.fwKeyRevoke m) s) m s (updSec (fun c => { c with fuses := { c.fuses with
        revoke := c.fuses.revoke ||| BitVec.ofNat 4 (2 ^ par s m 0 1) } })) []) ∧
    (Accepted rollbackAdvance m s → s.sec.fuses.rollback < par s m 0 1 ∧ Effect (exec (.rollbackAdvance m) s) m s
      (updSec (fun c => { c with fuses := { c.fuses with rollback := par s m 0 1 } })) []) ∧
    (Accepted securityQuery m s → Effect (exec (.securityQuery m) s) m s id
      (leBytes 4 (securityState s) ++ leBytes 1 (b2n s.sec.fuses.debugKey.isSome) ++ [0, 0, 0] ++ leBytes 8 Config.serial.toNat ++
        [0, 1, 2, 3].flatMap (fun i => leBytes 32 (Config.fwKey i).toNat))) ∧
    (Accepted keyGenerate m s → slotInUse s (mbxPayload s m.toNat) = false → Ends (exec (.keyGenerate m) s) m s (fun t =>
      ∃ key iv : List Byte, key.length = 32 ∧ iv.length = 12 ∧
        keySlot t (slotPlace (mbxPayload s m.toNat)) = { kind := par s m 0 1, keyId := BitVec.ofNat 32 (par s m 4 4), key := key } ∧
        Returns m (blobHead (par s m 0 1) (par s m 4 4) ++ iv ++
          (gcmSeal (deviceKey s) iv (blobAad (blobHead (par s m 0 1) (par s m 4 4))) key).1 ++
          (gcmSeal (deviceKey s) iv (blobAad (blobHead (par s m 0 1) (par s m 4 4))) key).2 ++
          if par s m 0 1 = 1 then edPublic key else []) t ∧
        ∀ i, i ≠ slotPlace (mbxPayload s m.toNat) → keySlot t i = keySlot s i)) ∧
    (Accepted keyLoadPlain m s → slotInUse s (mbxPayload s m.toNat) = false → Ends (exec (.keyLoadPlain m) s) m s (fun t =>
      keySlot t (slotPlace (mbxPayload s m.toNat)) =
        { kind := par s m 0 1, keyId := BitVec.ofNat 32 (par s m 4 4), key := bytesAt (mbxPayload s m.toNat) 8 32 } ∧
      (∃ iv : List Byte, iv.length = 12 ∧ Returns m (blobHead (par s m 0 1) (par s m 4 4) ++ iv ++
        (gcmSeal (deviceKey s) iv (blobAad (blobHead (par s m 0 1) (par s m 4 4))) (bytesAt (mbxPayload s m.toNat) 8 32)).1 ++
        (gcmSeal (deviceKey s) iv (blobAad (blobHead (par s m 0 1) (par s m 4 4))) (bytesAt (mbxPayload s m.toNat) 8 32)).2) t) ∧
      ∀ i, i ≠ slotPlace (mbxPayload s m.toNat) → keySlot t i = keySlot s i)) ∧
    (Accepted keyDelete m s → slotInUse s (mbxPayload s m.toNat) = false → Ends (exec (.keyDelete m) s) m s (fun t =>
      ((keySlot s (slotPlace (mbxPayload s m.toNat))).kind ≠ 0 → keySlot t (slotPlace (mbxPayload s m.toNat)) = {}) ∧
      ∀ i, i ≠ slotPlace (mbxPayload s m.toNat) → keySlot t i = keySlot s i)) ∧
    (∀ key : Option (List Byte), mayStart s m.toNat = true → mbxOpcode s m.toNat = 0x0B11 → headerFault s m.toNat false = none →
      s.sec.lifecycle ≠ 2 → 72 ≤ (mbxPayload s m.toNat).length →
      firstBad (slotChecks (mbxPayload s m.toNat) ++ [rsv (mbxPayload s m.toNat) 2 2]) = none →
      slotInUse s (mbxPayload s m.toNat) = false → key = unwrapKey s (par s m 0 1) (bytesAt (mbxPayload s m.toNat) 4 68) →
      ∃ t, exec (.keyImport m) s = .next t ∧ Completed m (if key.isSome then 0 else 2) s t ∧
        keySlot t (slotPlace (mbxPayload s m.toNat)) = (match key with
          | some k => { kind := par s m 0 1, keyId := BitVec.ofNat 32 (par s m 4 4), key := k }
          | none => keySlot s (slotPlace (mbxPayload s m.toNat)))) ∧
    (Accepted keyQuery m s → (keySlot s (slotPlace (mbxPayload s m.toNat))).kind = 1 → Effect (exec (.keyQuery m) s) m s id
      ([1, 0, 0, 0] ++ leBytes 4 (keySlot s (slotPlace (mbxPayload s m.toNat))).keyId.toNat ++
        edPublic (keySlot s (slotPlace (mbxPayload s m.toNat))).key))

/-- Debug commands 0x0B2x and 0x0B3x that pass their checks take effect (Table 14.17): a challenge holds random bytes
(R717, log entry 2); a signature under DEBUG_KEY attaches D2 and one that does not verify counts a failure (R718, R719); levels attach (R713, R720);
scopes freeze and are released (R722, R724); a frozen thread steps (R729), and its registers are read and written; breakpoints are set
(R728), and counters returned. -/
def Obligations.DebugCommandsTakeEffect : Prop :=
  ∀ (s : State) (m : BitVec 4), completionRoom s = true →
    (Accepted debugChallenge m s → ∃ nonce r : List Byte, nonce.length = 32 ∧
      r = leBytes 4 0x4E474455 ++ [2, 0, 0, 0] ++ leBytes 8 Config.serial.toNat ++ nonce ++
        leBytes 8 (if ticking s then s.sh.sheet.toNat else 0) ++ leBytes 4 60000 ++ zeros 4 ∧
      Effect (exec (.debugChallenge m) s) m s (updSec (fun c => { c with challenge := some r })) r) ∧
    (∀ r good, Accepted debugUnlock m s → s.sec.challenge = some r → s.pow.current ≠ .s2 →
      good = unlockVerifies s r (bytesAt (mbxPayload s m.toNat) 0 64) → ∃ t, exec (.debugUnlock m) s = .next t ∧
        Completed m (if good then 0 else 4) s t ∧ t.sec.challenge = none ∧ t.sec.level = (if good then 2 else s.sec.level) ∧
        t.sec.unlockFails = if good then s.sec.unlockFails else min (s.sec.unlockFails + 1) 8) ∧
    (mayStart s m.toNat = true → mbxOpcode s m.toNat = 0x0B21 → ∃ t, exec (.debugUnlock m) s = .next t ∧ t.sec.challenge = none) ∧
    (Accepted debugAttach m s → s.pow.current ≠ .s2 → s.sec.stepMbx = none → Ends (exec (.debugAttach m) s) m s (fun t =>
      t.sec.level = par s m 0 1 ∧ t.sec.path = false ∧ t.sec.fuses = s.sec.fuses ∧
      (par s m 0 1 < 2 → 2 ≤ s.sec.level → t.cores.mulTrap = 0 ∧ ∀ b ∈ t.sec.breakpoints, b.2.enable = false))) ∧
    (Accepted debugHalt m s → scopeFrozen s (par s m 0 1) (par s m 2 2) = false →
      Effect (exec (.debugHalt m) s) m s (freezeScope (par s m 0 1) (par s m 2 2) 255) [] ∧
      Ends (exec (.debugHalt m) s) m s (fun t => scopeFrozen t (par s m 0 1) (par s m 2 2) = true ∧
        ∀ k ∈ scopeThreads (par s m 0 1) (par s m 2 2), (thr t k).st = .frozen ∧ (thr t k).pc = (thr s k).pc)) ∧
    (Accepted debugRelease m s → scopeFrozen s (par s m 0 1) (par s m 2 2) = true →
      Effect (exec (.debugRelease m) s) m s (releaseScope (par s m 0 1) (par s m 2 2)) [] ∧
      (0 < par s m 0 1 → Ends (exec (.debugRelease m) s) m s (fun t => scopeFrozen t (par s m 0 1) (par s m 2 2) = false))) ∧
    (Accepted debugStep m s → (thr s (par s m 0 2)).st = .frozen → (thr s (par s m 0 2)).before = .ready → (thr s (par s m 0 2)).owed = 0 →
      ∃ t, exec (.debugStep m) s = .next t ∧ t.host.busy = s.host.busy ∧ t.sec.stepMbx = some (m.toNat, par s m 0 2) ∧
        t.cores.stepping = some (par s m 0 2, par s m 2 2) ∧ ((thr t (par s m 0 2)).st = .ready ∨ (thr t (par s m 0 2)).st = .run) ∧
        (thr t (par s m 0 2)).pc = (thr s (par s m 0 2)).pc) ∧
    (Accepted threadRegRead m s → Effect (exec (.threadRegRead m) s) m s id
      (if par s m 2 1 = 0 then (List.range 32).flatMap (fun i => leBytes 5 (regG s (par s m 0 2) (BitVec.ofNat 5 i)).toNat)
        else (List.range 18).flatMap (fun i => leBytes 5 (readSpecial s (par s m 0 2) i).toNat))) ∧
    (Accepted threadRegWrite m s → (thr s (par s m 0 2)).st = .frozen → Ends (exec (.threadRegWrite m) s) m s (fun t =>
      (par s m 2 1 < 32 → regG t (par s m 0 2) (BitVec.ofNat 5 (par s m 2 1)) = BitVec.ofNat 36 (par s m 4 5)) ∧
      (32 ≤ par s m 2 1 → thr t (par s m 0 2) = writeSpecial (par s m 2 1 - 32) (BitVec.ofNat 36 (par s m 4 5)) (thr s (par s m 0 2))) ∧
      ∀ k, k ≠ par s m 0 2 → thr t k = thr s k)) ∧
    (Accepted breakpointSet m s → Effect (exec (.breakpointSet m) s) m s (updSec (fun c => { c with
      breakpoints := tabSet {} c.breakpoints (4 * par s m 0 1 + par s m 1 1) {
        enable := natBit (par s m 2 1) 0, scope := natBits (par s m 2 1) 1 2, threads := BitVec.ofNat 8 (par s m 3 1)
        address := BitVec.ofNat 16 (par s m 4 2), cores := BitVec.ofNat 8 (par s m 6 1) } })) []) ∧
    (Accepted debugCounters m s → CountersRead (exec (.debugCounters m) s) m s .debug 0 0 8)

/-- A step runs the command at the front of the queue, first in first out; on an empty queue the block idles through one cycle of its PTP
clock and of its DRAM schedulers (DESIGN CHOICE, log entry 3), which leaves all but the clock, its pins, the controllers' requests and what
is counted of them alone; the table gives no row bits, so no word spells a command (log entry 42). -/
def Obligations.StepsRunTheFrontCommand : Prop :=
  (∀ (c : Instr) (rest : List Instr) (s : State), s.pending = c :: rest → Machine.step s = exec c { s with pending := rest }) ∧
  (∀ s : State, s.pending = [] → Machine.step s = .next (dramCycle (ptpCycle s)) ∧ ∃ t, Machine.step s = .next t ∧
    t.line.ports = s.line.ports ∧ t.pending = [] ∧ t.cores = s.cores ∧ t.cab = s.cab ∧ t.disp = s.disp ∧ t.dram.mem = s.dram.mem ∧
    t.dram.poison = s.dram.poison ∧ (∀ c, (chanState t c).fenced = (chanState s c).fenced) ∧ t.sec.keys = s.sec.keys ∧
    t.sh.sheet = s.sh.sheet ∧ t.host.mbx = s.host.mbx ∧ t.cntTot = s.cntTot) ∧
  (∀ (s : State) (n w : Nat), decodeTableWord n w = none ∧ s.withFetchWord n w = s)

/-- What reset leaves (R9, R18, R20, R87, Tables 1.2, 9.21, 10.13, 12.4 and 13.9; the release of PORST_N with every strap pulled up is the
model's choice, log entry 1): the generator stopped at sheet 0 with period 16 and window 1, furnish 0, ports disabled with MAX_FRAME 1,522,
no mailbox busy, DRAM not started, evidence stopped, level D0, a part whose fuses stand as made, RESET_CAUSE of PORST_N, the boot ROM
loading slot 0 of the flash, nothing waiting, and memories in canonical form. -/
def Obligations.ResetLeavesTheSpecsValues : Prop :=
  ∀ s : State, s = State.reset → s.pending = [] ∧ s.memWf ∧ s.sh.running = false ∧ s.sh.sheet = 0 ∧ s.sh.furnish = 0 ∧
    s.sh.cur.period = 16 ∧ s.sh.cur.window = 1 ∧ (∀ p, (portOf s p).enabled = false ∧ (portOf s p).maxFrame = 1522) ∧
    s.host.busy = 0 ∧ s.host.fwReady = false ∧ s.dram.started = false ∧ s.ev.state = .stopped ∧ s.sec.level = 0 ∧ s.sec.lifecycle = 0 ∧
    s.pow.level = 4 ∧ s.pow.cause = 1 ∧ s.pow.stage = .loading ∧ s.pow.source = 3 ∧ s.pow.slot = 0 ∧ s.cores.threads = [] ∧
    (∀ n, flagReg s n = 0) ∧ (∀ k, thr s k = {}) ∧ (∀ t g, regG s t g = 0)

/-- A core takes the cause that comes first in Table 5.18 (R319) before the instruction has changed a register (R318), as SLLI shows: its
word uncorrectable, then reserved (R274) or illegal (R276), then, once no register of it is pending (R305), a parity error of its source, or
of the special register that MFS reads (R577), then the handler's limit (R44); and a halted thread keeps its registers and its address, and
its message goes to its cluster's fault channel (R320, R343). -/
def Obligations.ExceptionsComeInOrder : Prop :=
  (∀ (s : State) (t : BitVec 9) (gd ga : BitVec 5) (pos len : BitVec 6) (z : BitVec 2), mayIssue s t.toNat = true → (thr s t.toNat).after = .none →
    (instrBad s t.toNat = true → ∃ w, exec (.slli t gd ga pos len z) s = .next (haltThread t.toNat 0x02 w 0 (noteInstrUe t.toNat s))) ∧
    (instrBad s t.toNat = false → s.cores.imemWeak.contains (fetchKey s t.toNat) = false →
      (reservedWord (wordAt s t.toNat) = true → exec (.slli t gd ga pos len z) s = .next (haltThread t.toNat 0x01 (wordAt s t.toNat) 0 s)) ∧
      (reservedWord (wordAt s t.toNat) = false → (35 < pos.toNat ∨ len ≠ 0 ∨ z ≠ 0) →
          ∃ w, exec (.slli t gd ga pos len z) s = .next (haltThread t.toNat 0x01 w 0 s)) ∧
      (reservedWord (wordAt s t.toNat) = false → pos.toNat ≤ 35 → len = 0 → z = 0 →
        (((tabFind (thr s t.toNat).pending ga.toNat).isSome || (tabFind (thr s t.toNat).pending gd.toNat).isSome) = true →
          exec (.slli t gd ga pos len z) s = .next (stallThread t.toNat
            (.lookupAgain ([ga, gd].filter (fun r => (tabFind (thr s t.toNat).pending r.toNat).isSome))) ctrStallLookup s)) ∧
        (((tabFind (thr s t.toNat).pending ga.toNat).isSome || (tabFind (thr s t.toNat).pending gd.toNat).isSome) = false →
          (ga.toNat ∈ (thr s t.toNat).badRegs →
            ∃ w, exec (.slli t gd ga pos len z) s = .next (haltThread t.toNat 0x03 w 0 (noteRegParity t.toNat s))) ∧
          (ga.toNat ∉ (thr s t.toNat).badRegs → (thr s t.toNat).terminated = true → 1024 ≤ (thr s t.toNat).handlerCount →
            ∃ w, exec (.slli t gd ga pos len z) s = .next (haltThread t.toNat 0x11 w 0 s)))))) ∧
  (∀ (s : State) (t : BitVec 9) (gd : BitVec 5) (n : BitVec 16), mayIssue s t.toNat = true → (thr s t.toNat).after = .none →
    instrBad s t.toNat = false → s.cores.imemWeak.contains (fetchKey s t.toNat) = false → reservedWord (wordAt s t.toNat) = false →
    n.toNat ≤ 17 → tabFind (thr s t.toNat).pending gd.toNat = none → 32 + n.toNat ∈ (thr s t.toNat).badRegs →
    ∃ w, exec (.mfs t gd 0 0 n) s = .next (haltThread t.toNat 0x03 w 0 (noteRegParity t.toNat s))) ∧
  (∀ (s : State) (t code d : Nat) (w : Word36), code < 64 → isSupervisor s t = false →
    s.dov.weak = [] → s.dov.bad = [] → (chanOf s (1016 + t / 64)).readers = [] → (chanOf s (1016 + t / 64)).writers = [] →
    (thr (haltThread t code w d s) t).st = .halt ∧ (thr (haltThread t code w d s) t).lastEx = BitVec.ofNat 6 code ∧
      (thr (haltThread t code w d s) t).pc = (thr s t).pc ∧ (thr (haltThread t code w d s) t).g = (thr s t).g ∧
      (∃ x, (thr (haltThread t code w d s) t).fault = some x) ∧ (haltThread t code w d s).cores.dmem = s.cores.dmem)

/-- Every step keeps host memory and DRAM in canonical form: addresses strictly rising, and no byte equal to what an unlisted address
reads as. -/
def Obligations.StepsKeepMemoriesCanonical : Prop :=
  ∀ s t : State, Machine.step s = .next t → s.memWf → t.memWf

/-- Fuses only advance at any command: a lifecycle fuse or a revocation once blown stays blown, the rollback count never falls, and DEVICE_KEY and
DEBUG_KEY, once programmed, stand (R698, R699, R701, R711, R712). -/
def Obligations.FusesOnlyAdvance : Prop :=
  ∀ (c : Instr) (s t : State), exec c s = .next t → s.sec.fuses.Le t.sec.fuses

/-- No command touches the commands that wait behind it: the queue is the host's and is served first in, first out (DESIGN CHOICE of the block
model, log entry 3). -/
def Obligations.CommandsLeaveTheQueue : Prop :=
  ∀ (c : Instr) (s t : State), exec c s = .next t → t.pending = s.pending

/-- The sheet number moves by ticks alone: any other command but SHEET_SET leaves it, or clears it with a reset, and a tick adds 1, whatever the
PTP clock does (R19, R20, R27). -/
def Obligations.SheetNumberMovesByTicks : Prop :=
  (∀ (c : Instr) (s t : State), exec c s = .next t → (∀ m, c ≠ .sheetSet m) → c ≠ .sheetTick → t.sh.sheet = s.sh.sheet ∨ t.sh.sheet = 0) ∧
  (∀ s t : State, exec .sheetTick s = .next t → t.sh.sheet = s.sh.sheet + 1 ∨ t.sh.sheet = s.sh.sheet ∨ t.sh.sheet = 0)

/-- Key slots change by the commands of Key slots and a granted write in the diagnostic window alone: any other command leaves every slot as it
is, or erases all of them, at L4 or in RETIRED (R700, R703-R706, R733). -/
def Obligations.KeySlotsChangeByKeyCommands : Prop :=
  ∀ (c : Instr) (s t : State), exec c s = .next t → (∀ m, c ≠ .keyGenerate m) → (∀ m, c ≠ .keyImport m) → (∀ m, c ≠ .keyDelete m) →
    (∀ m, c ≠ .keyLoadPlain m) → (∀ o v, c ≠ .diagWindowWrite o v) → (∀ o e v, c = .registerWrite o e v → o.toNat < 0x1000000) →
    t.sec.keys = s.sec.keys ∨ t.sec.keys = []

/-- R270: every read of g0 gives 0, whatever register file stands, and a write to g0 is discarded. -/
def Obligations.RegisterZeroReadsZero : Prop :=
  (∀ (s : State) (t : Nat), regG s t 0 = 0) ∧ (∀ (s : State) (t : Nat) (v : Word36), setG t 0 v s = s) ∧
  (∀ (x : Thread) (v : Word36), putG 0 v x = x)

/-- R703: the key store keeps its slots through L2 and L3 resets, and clears them at L4. -/
def Obligations.KeySlotsLastUntilL4 : Prop :=
  (∀ (s : State) (src : Nat), s.pow.level ≤ 2 → (assertReset 2 src s).sec.keys = s.sec.keys) ∧
  (∀ (s : State) (src : Nat), s.pow.level ≤ 3 → (assertReset 3 src s).sec.keys = s.sec.keys) ∧
  (∀ (s : State) (src : Nat), s.pow.level ≤ 4 → (assertReset 4 src s).sec.keys = [])
end

