-- ==== Sys2Proof/Laws/Report.lean ====
section
/-!
SUPPORT. What reporting a happening can change: one lemma for each shared operation of HostOps.lean and CmdRun.lean.
-/
namespace Sys2Proof.Machine

theorem HostPort.Quiet.refl (a : HostPort) : a.Quiet a := by constructor <;> rfl

theorem HostPort.Quiet.trans {a b c : HostPort} (h : a.Quiet b) (k : b.Quiet c) : a.Quiet c :=
  ⟨k.1.trans h.1, k.2.trans h.2, k.3.trans h.3, k.4.trans h.4, k.5.trans h.5, k.6.trans h.6, k.7.trans h.7, k.8.trans h.8,
   k.9.trans h.9, k.10.trans h.10, k.11.trans h.11, k.12.trans h.12, k.13.trans h.13, k.14.trans h.14, k.15.trans h.15,
   k.16.trans h.16, k.17.trans h.17, k.18.trans h.18, k.19.trans h.19, k.20.trans h.20,
   k.21.trans h.21, k.22.trans h.22, k.23.trans h.23, by rw [k.24, h.24], by rw [k.25, h.25]⟩

theorem Reports.refl (s : State) : Reports s s := by constructor <;> first | rfl | exact .refl _

theorem Reports.trans {a b c : State} (h : Reports a b) (k : Reports b c) : Reports a c :=
  { pending := k.pending.trans h.pending
    totals := k.totals.trans h.totals
    cntTot := k.cntTot.trans h.cntTot
    cntSheet := k.cntSheet.trans h.cntSheet
    failover := k.failover.trans h.failover
    sheets := by rw [k.sheets, h.sheets]
    line := k.line.trans h.line
    host := h.host.trans k.host
    cab := k.cab.trans h.cab
    disp := k.disp.trans h.disp
    cores := k.cores.trans h.cores
    dov := k.dov.trans h.dov
    lk := k.lk.trans h.lk
    cop := k.cop.trans h.cop
    dram := k.dram.trans h.dram
    ev := k.ev.trans h.ev
    sec := by rw [k.sec, h.sec]
    pow := k.pow.trans h.pow }

theorem Reports.ite {c : Prop} [Decidable c] {s a b : State} (h : Reports s a) (k : Reports s b) : Reports s (if c then a else b) := by
  split <;> assumption

theorem drawFree_reports (s : State) : Reports s (drawFree s) := by constructor <;> first | rfl | exact .refl _

theorem setFlag_reports (off bit : Nat) (s : State) : Reports s (setFlag off bit s) := by
  constructor <;> first | rfl | exact .refl _

theorem count_reports (sc : Scope) (x i n : Nat) (s : State) : Reports s (count sc x i n s) := by
  constructor <;> first | rfl | exact .refl _

theorem hostWriteBad_reports (a : BitVec 64) (bs : List Byte) (bad : Nat → Bool) (s : State) : Reports s (hostWriteBad a bs bad s) := by
  constructor <;> first | rfl | (constructor <;> rfl)

theorem hostWrite_reports (a : BitVec 64) (bs : List Byte) (s : State) : Reports s (hostWrite a bs s) :=
  hostWriteBad_reports a bs _ s

theorem markCause_reports (c : Nat) (s : State) : Reports s (markCause c s) := by
  constructor <;> first | rfl | (constructor <;> rfl)

theorem advance_stands (q : HostQueue) : q.advance = { q with tail := q.advance.tail, phase := q.advance.phase } := by
  unfold HostQueue.advance; split <;> rfl

theorem eqAdvance_reports (s : State) : Reports s { s with host := { s.host with eq := s.host.eq.advance } } := by
  constructor <;> first | rfl | (constructor <;> first | rfl | exact advance_stands _)

theorem cqAdvance_reports (s : State) : Reports s { s with host := { s.host with cq := s.host.cq.advance } } := by
  constructor <;> first | rfl | (constructor <;> first | rfl | exact advance_stands _)

theorem mergedSet_reports (t : Tab MergedEvent) (s : State) : Reports s { s with host := { s.host with merged := t } } := by
  constructor <;> first | rfl | (constructor <;> rfl)

theorem firstSeenSet_reports (l : List Nat) (s : State) : Reports s { s with sh := { s.sh with firstSeen := l } } := by
  constructor <;> first | rfl | exact .refl _

theorem traceSet_reports (t : Trace) (s : State) : Reports s { s with sec := { s.sec with trace := t } } := by
  constructor <;> first | rfl | exact .refl _

theorem postEvent_reports (src n : Nat) (lo : BitVec 32) (d : BitVec 64) (tr mg : Bool) (s : State) :
    Reports s (postEvent src n lo d tr mg s) := by
  unfold postEvent
  exact (((hostWrite_reports _ _ s).trans (eqAdvance_reports _)).trans (count_reports _ _ _ _ _)).trans (markCause_reports _ _)

theorem postMergedN_reports (n : Nat) : ∀ s : State, Reports s (postMergedN n s) := by
  induction n with
  | zero => exact Reports.refl
  | succ n ih =>
    intro s
    unfold postMergedN
    split
    · exact .refl _
    · split
      · exact ((mergedSet_reports _ s).trans (postEvent_reports _ _ _ _ _ _ _)).trans (ih _)
      · exact .refl _

theorem postMerged_reports (s : State) : Reports s (postMerged s) := postMergedN_reports _ s

theorem mergeRaise_reports (src : Nat) (lo : BitVec 32) (d : BitVec 64) (tr : Bool) (s : State) :
    Reports s (mergeRaise src lo d tr s) :=
  ((mergedSet_reports _ s).trans (count_reports _ _ _ _ _)).trans (setFlag_reports _ _ _)

theorem forwardRaise_reports (src : Nat) (data : List (Nat × Nat)) (s : State) : Reports s (forwardRaise src data s) := by
  unfold forwardRaise
  dsimp only
  split
  · exact count_reports _ _ _ _ _
  · split
    · exact (postMerged_reports s).trans (postEvent_reports _ _ _ _ _ _ _)
    · exact (postMerged_reports s).trans (mergeRaise_reports _ _ _ _ _)

theorem pushTrace_reports (k c m d : Nat) (s : State) : Reports s (pushTrace k c m d s) := by
  unfold pushTrace
  dsimp only
  split
  · exact (traceSet_reports _ s).trans (drawFree_reports _)
  · have h : Reports s (setFlag 0x6C4 6 (count .debug 0 7 1
        { s with sec := { s.sec with trace := { s.sec.trace with lost := s.sec.trace.lost + 1 } } })) :=
      ((traceSet_reports _ s).trans (count_reports _ _ _ _ _)).trans (setFlag_reports _ _ _)
    split
    · exact h
    · split
      · exact (h.trans (firstSeenSet_reports _ _)).trans (forwardRaise_reports _ _ _)
      · exact h.trans (firstSeenSet_reports _ _)

theorem trace_reports (k c m d : Nat) (s : State) : Reports s (trace k c m d s) := by
  unfold trace
  split
  · exact pushTrace_reports _ _ _ _ _
  · exact .refl _

theorem raise_reports (src : Nat) (data : List (Nat × Nat)) (s : State) : Reports s (raise src data s) := by
  unfold raise
  dsimp only
  split
  · exact trace_reports _ _ _ _ _
  · exact (trace_reports _ _ _ _ s).trans (forwardRaise_reports _ _ _)

theorem raiseFirst_reports (src key : Nat) (data : List (Nat × Nat)) (s : State) : Reports s (raiseFirst src key data s) := by
  unfold raiseFirst
  dsimp only
  split
  · exact .refl _
  · exact (firstSeenSet_reports _ s).trans (raise_reports _ _ _)

theorem accessError_reports (kind off : Nat) (s : State) : Reports s (accessError kind off s) := by
  unfold accessError
  have h : ∀ a : State, Reports a (raiseFirst 32 0 [(off, 32), (kind, 8)] (count .host 0 2 1 (setFlag 0xC 0 a))) := fun a =>
    ((setFlag_reports _ _ a).trans (count_reports _ _ _ _ _)).trans (raiseFirst_reports _ _ _ _)
  split
  · exact h s
  · refine Reports.trans ?_ (h _)
    constructor <;> first | rfl | (constructor <;> rfl)

theorem writeStatus_reports (m : Nat) (st : Byte) (s : State) : Reports s (writeStatus m st s) := by
  constructor <;> first | rfl | (constructor <;> rfl)

theorem putCompletion_reports (c : Completion) (s : State) : Reports s (putCompletion c s) :=
  (hostWrite_reports _ _ s).trans (cqAdvance_reports _)

theorem noteCqFull_reports (s : State) : Reports s (noteCqFull s) :=
  .ite ((setFlag_reports _ _ s).trans (raise_reports _ _ _)) (.refl _)

theorem writeCompletion_reports (c : Completion) (s : State) : Reports s (writeCompletion c s) :=
  (putCompletion_reports c s).trans (noteCqFull_reports _)

theorem signalCompletion_reports (m : Nat) (s : State) : Reports s (signalCompletion m s) := by
  unfold signalCompletion
  split
  · exact .refl _
  · exact markCause_reports _ _

theorem postCompletion_reports (c : Completion) (s : State) : Reports s (postCompletion c s) :=
  ((writeCompletion_reports c s).trans (writeStatus_reports _ _ _)).trans (signalCompletion_reports _ _)

theorem writeResults_reports (m : Nat) (bs : List Byte) (s : State) : Reports s (writeResults m bs s) := by
  constructor <;> first | rfl | (constructor <;> rfl)

theorem heldSet_reports (l : List Completion) (s : State) : Reports s { s with host := { s.host with held := l } } := by
  constructor <;> first | rfl | (constructor <;> rfl)

theorem mutedSet_reports (l : List Nat) (s : State) : Reports s { s with host := { s.host with muted := l } } := by
  constructor <;> first | rfl | (constructor <;> rfl)

theorem countEnd_reports (st : Nat) (s : State) : Reports s (countEnd st s) :=
  .ite (count_reports _ _ _ _ _) ((count_reports _ _ _ _ _).trans (count_reports _ _ _ _ _))

theorem reportEnd_reports (c : Completion) (s : State) : Reports s (reportEnd c s) :=
  .ite ((mutedSet_reports _ s).trans (writeStatus_reports _ _ _)) (.ite (postCompletion_reports _ _) (heldSet_reports _ _))

theorem finishCmd_reports (m st d : Nat) (res : List Byte) (s : State) : Reports s (finishCmd m st d res s) :=
  ((writeResults_reports _ _ s).trans (countEnd_reports _ _)).trans (reportEnd_reports _ _)

theorem startCmd_reports (m : Nat) (s : State) : Reports s (startCmd m s) := by
  constructor <;> first | rfl | (constructor <;> rfl)

theorem sweepN_reports (n : Nat) : ∀ s : State, Reports s (sweepN n s) := by
  induction n with
  | zero => exact Reports.refl
  | succ n ih =>
    intro s
    unfold sweepN
    split
    · exact ((startCmd_reports _ s).trans (finishCmd_reports _ _ _ _ _)).trans (ih _)
    · exact .refl _

theorem sweepBad_reports (s : State) : Reports s (sweepBad s) := sweepN_reports 16 s

end Sys2Proof.Machine
end

