-- ==== Sys2Proof/Laws/Table.lean ====
section
/-!
SUPPORT. Sparse tables: what a lookup gives after an update, that the canonical form is kept, and that every operation on a byte memory
keeps it.
-/
namespace Sys2Proof.Machine

variable {α : Type}

/-! ### Lookups -/

theorem tabFind_append (s t : Tab α) (k : Nat) : tabFind (s ++ t) k = (tabFind s k).or (tabFind t k) := by
  induction s with
  | nil => simp [tabFind]
  | cons p s ih =>
    obtain ⟨q, v⟩ := p
    by_cases h : q = k <;> simp [tabFind, h, ih]

theorem tabFind_filter (f : Nat → Bool) (t : Tab α) (k : Nat) :
    tabFind (t.filter (fun p => f p.1)) k = if f k then tabFind t k else none := by
  induction t with
  | nil => simp [tabFind]
  | cons p t ih =>
    obtain ⟨q, v⟩ := p
    by_cases hf : f q
    · simp only [List.filter_cons, hf, if_true, tabFind]
      by_cases h : q = k
      · subst h; simp [hf]
      · simp [h, ih]
    · simp only [List.filter_cons, hf, tabFind]
      by_cases h : q = k
      · subst h; simp [ih, hf]
      · simp [h, ih]

theorem tabFind_splice (t es : Tab α) (a n k : Nat) :
    tabFind (tabSplice t a n es) k =
      if k < a then (tabFind t k).or (tabFind es k) else if k < a + n then tabFind es k else (tabFind es k).or (tabFind t k) := by
  unfold tabSplice
  rw [tabFind_append, tabFind_append, tabFind_filter (fun q => decide (q < a)), tabFind_filter (fun q => decide (a + n ≤ q))]
  by_cases h1 : k < a
  · have h2 : ¬ a + n ≤ k := by omega
    simp [h1, h2]
  · by_cases h2 : k < a + n
    · have h3 : ¬ a + n ≤ k := by omega
      simp [h1, h2, h3]
    · have h3 : a + n ≤ k := by omega
      simp [h1, h2, h3]

theorem tabFind_put_self (t : Tab α) (k : Nat) (v : α) : tabFind (tabPut t k v) k = some v := by
  simp [tabPut, tabFind_splice, tabFind]

theorem tabFind_put_of_ne (t : Tab α) {k q : Nat} (v : α) (h : q ≠ k) : tabFind (tabPut t k v) q = tabFind t q := by
  have h' : k ≠ q := fun e => h e.symm
  unfold tabPut
  rw [tabFind_splice]
  by_cases h1 : q < k
  · simp [h1, tabFind, h']
  · have h2 : ¬ q < k + 1 := by omega
    simp [h1, h2, tabFind, h']

@[simp] theorem tabGet_put_self (d : α) (t : Tab α) (k : Nat) (v : α) : tabGet d (tabPut t k v) k = v := by
  simp [tabGet, tabFind_put_self]

theorem tabGet_put_of_ne (d : α) (t : Tab α) {k q : Nat} (v : α) (h : q ≠ k) : tabGet d (tabPut t k v) q = tabGet d t q := by
  simp [tabGet, tabFind_put_of_ne t v h]

@[simp] theorem tabGet_set_self [DecidableEq α] (d : α) (t : Tab α) (k : Nat) (v : α) : tabGet d (tabSet d t k v) k = v := by
  unfold tabGet tabSet
  rw [tabFind_splice]
  by_cases h : v = d <;> simp [h, tabFind]

theorem tabGet_set_of_ne [DecidableEq α] (d : α) (t : Tab α) {k q : Nat} (v : α) (h : q ≠ k) :
    tabGet d (tabSet d t k v) q = tabGet d t q := by
  have h' : k ≠ q := fun e => h e.symm
  unfold tabGet tabSet
  rw [tabFind_splice]
  by_cases h1 : q < k
  · by_cases hv : v = d <;> simp [h1, hv, tabFind, h']
  · have h2 : ¬ q < k + 1 := by omega
    by_cases hv : v = d <;> simp [h1, h2, hv, tabFind, h']

@[simp] theorem tabGet_upd_self [DecidableEq α] (d : α) (t : Tab α) (k : Nat) (f : α → α) :
    tabGet d (tabUpd d t k f) k = f (tabGet d t k) := by simp [tabUpd]

theorem tabGet_upd_of_ne [DecidableEq α] (d : α) (t : Tab α) {k q : Nat} (f : α → α) (h : q ≠ k) :
    tabGet d (tabUpd d t k f) q = tabGet d t q := by simp [tabUpd, tabGet_set_of_ne, h]

theorem tabFind_erase (t : Tab α) (k q : Nat) : tabFind (tabErase t k) q = if q = k then none else tabFind t q := by
  unfold tabErase tabClear
  rw [tabFind_filter (fun x => decide (x < k) || decide (k + 1 ≤ x))]
  by_cases h : q = k
  · subst h; simp <;> (intro h; omega)
  · have : q < k ∨ k + 1 ≤ q := by omega
    simp [h, this]

/-! ### Runs of consecutive keys -/

theorem tabFind_entries [DecidableEq α] (d : α) (vs : List α) : ∀ a k : Nat,
    (tabFind (tabEntries d a vs) k).getD d = if a ≤ k then vs.getD (k - a) d else d := by
  induction vs with
  | nil => intro a k; simp [tabEntries, tabFind]
  | cons v vs ih =>
    intro a k
    have tail : a ≠ k → (if a + 1 ≤ k then vs.getD (k - (a + 1)) d else d) = if a ≤ k then (v :: vs).getD (k - a) d else d := by
      intro hk
      by_cases h : a + 1 ≤ k
      · have h1 : a ≤ k := by omega
        have e : k - a = k - (a + 1) + 1 := by omega
        rw [if_pos h, if_pos h1, e, List.getD_cons_succ]
      · have h1 : ¬ a ≤ k := by omega
        rw [if_neg h, if_neg h1]
    by_cases hv : v = d
    · simp only [tabEntries, hv, if_true, ih]
      by_cases h : a = k
      · subst h
        have h1 : ¬ a + 1 ≤ a := by omega
        rw [if_neg h1, if_pos (Nat.le_refl a), Nat.sub_self, List.getD_cons_zero]
      · rw [hv] at tail; exact tail h
    · simp only [tabEntries, hv, if_false, tabFind]
      by_cases h : a = k
      · subst h; simp
      · rw [if_neg h, ih]; exact tail h

theorem tabFind_entries_none [DecidableEq α] (d : α) (vs : List α) : ∀ a k : Nat, k < a ∨ a + vs.length ≤ k →
    tabFind (tabEntries d a vs) k = none := by
  induction vs with
  | nil => intro a k _; simp [tabEntries, tabFind]
  | cons v vs ih =>
    intro a k h
    have hk : a ≠ k := by simp only [List.length_cons] at h; omega
    have h' : k < a + 1 ∨ a + 1 + vs.length ≤ k := by simp only [List.length_cons] at h; omega
    by_cases hv : v = d <;> simp [tabEntries, hv, tabFind, hk, ih _ _ h']

/-- A lookup after a write of consecutive values. -/
theorem tabGet_write [DecidableEq α] (d : α) (t : Tab α) (a : Nat) (vs : List α) (k : Nat) :
    tabGet d (tabWrite d t a vs) k = if a ≤ k ∧ k < a + vs.length then vs.getD (k - a) d else tabGet d t k := by
  unfold tabGet tabWrite
  rw [tabFind_splice]
  by_cases h1 : k < a
  · have : ¬ (a ≤ k ∧ k < a + vs.length) := by omega
    simp [h1, this, tabFind_entries_none d vs a k (Or.inl h1)]
  · by_cases h2 : k < a + vs.length
    · have h3 : a ≤ k := by omega
      have := tabFind_entries d vs a k
      simp only [h3, if_true] at this
      simp [h1, h2, h3, this]
    · simp [h1, h2, tabFind_entries_none d vs a k (Or.inr (by omega))]

/-- What was written is read back. -/
theorem tabRead_write [DecidableEq α] (d : α) (t : Tab α) (a : Nat) (vs : List α) :
    tabRead d (tabWrite d t a vs) a vs.length = vs := by
  apply List.ext_getElem
  · simp [tabRead]
  · intro i h1 h2
    simp only [tabRead, List.getElem_map, List.getElem_range, tabGet_write]
    have : i < vs.length := h2
    simp [this, List.getD_eq_getElem?_getD]

/-- A read of keys apart from those written is unchanged. -/
theorem tabRead_write_apart [DecidableEq α] (d : α) (t : Tab α) (a : Nat) (vs : List α) (b n : Nat)
    (h : b + n ≤ a ∨ a + vs.length ≤ b) : tabRead d (tabWrite d t a vs) b n = tabRead d t b n := by
  apply List.ext_getElem
  · simp [tabRead]
  · intro i h1 h2
    simp only [tabRead, List.getElem_map, List.getElem_range, tabGet_write]
    have hi : i < n := by simpa [tabRead] using h2
    have : ¬ (a ≤ b + i ∧ b + i < a + vs.length) := by omega
    simp [this]

/-! ### The canonical form -/

theorem tabWfFrom_mono [DecidableEq α] {d : α} {t : Tab α} {lo lo' : Nat} (h : lo' ≤ lo) (w : tabWfFrom d lo t = true) :
    tabWfFrom d lo' t = true := by
  cases t with
  | nil => rfl
  | cons p t =>
    simp only [tabWfFrom, Bool.and_eq_true, decide_eq_true_eq] at w ⊢
    exact ⟨⟨by omega, w.1.2⟩, w.2⟩

theorem tabWfFrom_filter [DecidableEq α] {d : α} (f : Nat → Bool) : ∀ {t : Tab α} {lo : Nat}, tabWfFrom d lo t = true →
    tabWfFrom d lo (t.filter (fun p => f p.1)) = true := by
  intro t
  induction t with
  | nil => intro lo _; rfl
  | cons p t ih =>
    intro lo w
    simp only [tabWfFrom, Bool.and_eq_true, decide_eq_true_eq] at w
    by_cases hf : f p.1
    · simp only [List.filter_cons, hf, if_true, tabWfFrom, Bool.and_eq_true, decide_eq_true_eq]
      exact ⟨w.1, ih w.2⟩
    · simp only [List.filter_cons, hf]
      exact tabWfFrom_mono (by omega) (ih w.2)

theorem tabWfFrom_append [DecidableEq α] {d : α} {u : Tab α} {m : Nat} (wu : tabWfFrom d m u = true) : ∀ {t : Tab α} {lo : Nat},
    tabWfFrom d lo t = true → (∀ p ∈ t, p.1 < m) → lo ≤ m → tabWfFrom d lo (t ++ u) = true := by
  intro t
  induction t with
  | nil => intro lo _ _ hlo; exact tabWfFrom_mono hlo wu
  | cons p t ih =>
    intro lo w hb _
    simp only [tabWfFrom, Bool.and_eq_true, decide_eq_true_eq] at w
    simp only [List.cons_append, tabWfFrom, Bool.and_eq_true, decide_eq_true_eq]
    refine ⟨w.1, ih w.2 (fun q hq => hb q (by simp [hq])) ?_⟩
    have := hb p (by simp)
    omega

theorem tabWfFrom_from [DecidableEq α] {d : α} {a : Nat} : ∀ {t : Tab α} {lo : Nat}, tabWfFrom d lo t = true → (∀ p ∈ t, a ≤ p.1) →
    tabWfFrom d a t = true := by
  intro t lo w h
  cases t with
  | nil => rfl
  | cons p t =>
    simp only [tabWfFrom, Bool.and_eq_true, decide_eq_true_eq] at w ⊢
    exact ⟨⟨h p (by simp), w.1.2⟩, w.2⟩

theorem tabWf_splice [DecidableEq α] {d : α} {t es : Tab α} {a n : Nat} (w : tabWf d t = true) (we : tabWfFrom d a es = true)
    (hb : ∀ p ∈ es, p.1 < a + n) : tabWf d (tabSplice t a n es) = true := by
  unfold tabWf tabSplice at *
  have h1 := tabWfFrom_filter (fun q => decide (q < a)) w
  have h3 : tabWfFrom d (a + n) (t.filter (fun p => decide (a + n ≤ p.1))) = true :=
    tabWfFrom_from (tabWfFrom_filter (fun q => decide (a + n ≤ q)) w) (by intro p hp; simpa using (List.mem_filter.mp hp).2)
  rw [List.append_assoc]
  refine tabWfFrom_append (m := a) (tabWfFrom_append (m := a + n) h3 we hb (by omega)) h1 ?_ (by omega)
  intro p hp
  simpa using (List.mem_filter.mp hp).2

theorem tabWfFrom_entries [DecidableEq α] (d : α) (vs : List α) : ∀ a : Nat, tabWfFrom d a (tabEntries d a vs) = true := by
  induction vs with
  | nil => intro a; rfl
  | cons v vs ih =>
    intro a
    by_cases hv : v = d
    · simp only [tabEntries, hv, if_true]
      exact tabWfFrom_mono (by omega) (ih (a + 1))
    · simp only [tabEntries, hv, if_false, tabWfFrom, Bool.and_eq_true, decide_eq_true_eq]
      exact ⟨⟨by omega, hv⟩, ih (a + 1)⟩

theorem tabEntries_bound [DecidableEq α] (d : α) (vs : List α) : ∀ a : Nat, ∀ p ∈ tabEntries d a vs, p.1 < a + vs.length := by
  induction vs with
  | nil => intro a p hp; simp [tabEntries] at hp
  | cons v vs ih =>
    intro a p hp
    have step : p ∈ tabEntries d (a + 1) vs → p.1 < a + (v :: vs).length := fun h => by
      have := ih (a + 1) p h
      simp only [List.length_cons]
      omega
    by_cases hv : v = d
    · simp only [tabEntries, hv, if_true] at hp
      exact step hp
    · simp only [tabEntries, hv, if_false, List.mem_cons] at hp
      rcases hp with rfl | hp
      · simp only [List.length_cons]; omega
      · exact step hp

/-- A write keeps a table canonical. -/
theorem tabWf_write [DecidableEq α] {d : α} {t : Tab α} (a : Nat) (vs : List α) (w : tabWf d t = true) :
    tabWf d (tabWrite d t a vs) = true := tabWf_splice w (tabWfFrom_entries d vs a) (tabEntries_bound d vs a)

theorem tabWf_filter [DecidableEq α] {d : α} {t : Tab α} (f : Nat → Bool) (w : tabWf d t = true) :
    tabWf d (t.filter (fun p => f p.1)) = true := tabWfFrom_filter f w

theorem tabWf_clear [DecidableEq α] {d : α} {t : Tab α} (a n : Nat) (w : tabWf d t = true) : tabWf d (tabClear t a n) = true :=
  tabWfFrom_filter (fun q => decide (q < a) || decide (a + n ≤ q)) w

theorem tabWf_set [DecidableEq α] {d : α} {t : Tab α} (k : Nat) (v : α) (w : tabWf d t = true) : tabWf d (tabSet d t k v) = true := by
  unfold tabSet
  by_cases h : v = d
  · simpa [h] using tabWf_splice (es := []) (a := k) (n := 1) w rfl (by simp)
  · simp only [h, if_false]
    exact tabWf_splice w (by simp [tabWfFrom, h]) (by simp)

/-- A write to a byte memory keeps its canonical form. -/
theorem memWrite_wf {m : List (Nat × Byte)} (a : Nat) (bs : List Byte) (w : Memory.wf m = true) : Memory.wf (memWrite m a bs) = true :=
  tabWf_write a bs w

/-- A byte after a write: the byte written there, or what it was. -/
theorem memGet_write (m : List (Nat × Byte)) (a : Nat) (bs : List Byte) (k : Nat) :
    memGet (memWrite m a bs) k = if a ≤ k ∧ k < a + bs.length then bs.getD (k - a) memDefault else memGet m k :=
  tabGet_write memDefault m a bs k

/-- Bytes written are read back. -/
theorem memRead_write (m : List (Nat × Byte)) (a : Nat) (bs : List Byte) : memRead (memWrite m a bs) a bs.length = bs :=
  tabRead_write memDefault m a bs

end Sys2Proof.Machine
end

