-- ==== Sys2Proof/Laws/Command.lean ====
section
/-!
SUPPORT. The run of a mailbox command that the firmware accepts: what its body leaves, then its completion.
-/
namespace Sys2Proof.Machine

/-- The state in which a command's body runs, and what the body leaves. -/
abbrev bodyOf (c : CmdSpec) (m : BitVec 4) (s : State) : CmdRes := c.body (startCmd m.toNat s) m.toNat (mbxPayload s m.toNat)

/-- An accepted command runs its body and completes. -/
theorem runCmd_accepted {c : CmdSpec} {m : BitVec 4} {s : State} (h : Accepted c m s) :
    runCmd c m s = sweepBad (finishCmd m.toNat (bodyOf c m s).status (bodyOf c m s).detail (bodyOf c m s).result (bodyOf c m s).state) := by
  have hs : (mayStart s m.toNat && mbxOpcode s m.toNat == c.op) = true := by simp [h.start, h.opcode]
  unfold runCmd
  rw [if_pos hs]
  have ho : cmdOutcome c m.toNat (startCmd m.toNat s) = bodyOf c m s := by
    unfold cmdOutcome
    have e1 : headerFault (startCmd m.toNat s) m.toNat c.load = none := h.header
    have e2 : cmdDenied (startCmd m.toNat s) c.op (mbxPayload (startCmd m.toNat s) m.toNat) = false := h.granted
    have e3 : (furnishOp c.op && furnishHeld (startCmd m.toNat s)) = false := h.furnish
    have e4 : (if c.load = true then loadFault (startCmd m.toNat s) (mbxField (startCmd m.toNat s) m.toNat 8 1) else none) = none := by
      split
      · next hl => exact h.target hl
      · rfl
    have e5 : payloadFault c (startCmd m.toNat s) (mbxPayload (startCmd m.toNat s) m.toNat) = none := h.payload
    simp only [e1, e2, e3, e4, e5]
    rfl
  rw [ho]

/-! ### What other mailboxes' completions leave of one mailbox -/

/-- What the host reads of mailbox `m` stands, and `m` has no command waiting. -/
structure MbxSame (m : Nat) (s t : State) : Prop where
  busy : t.host.busy.getLsbD m = s.host.busy.getLsbD m
  done : t.host.done.getLsbD m = s.host.done.getLsbD m
  status : tabGet 0 t.host.status m = tabGet 0 s.host.status m
  tag : tabGet 0 t.host.tag m = tabGet 0 s.host.tag m
  bytes : ∀ k, 256 * m ≤ k → k < 256 * m + 256 → tabGet 0 t.host.mbx k = tabGet 0 s.host.mbx k
  quiet : ∀ q ∈ t.host.accepted, q ∈ s.host.accepted

theorem MbxSame.refl (m : Nat) (s : State) : MbxSame m s s := ⟨rfl, rfl, rfl, rfl, fun _ _ _ => rfl, fun _ h => h⟩

theorem MbxSame.trans {m : Nat} {a b c : State} (h : MbxSame m a b) (k : MbxSame m b c) : MbxSame m a c :=
  ⟨k.busy.trans h.busy, k.done.trans h.done, k.status.trans h.status, k.tag.trans h.tag,
   fun i x y => (k.bytes i x y).trans (h.bytes i x y), fun q hq => h.quiet q (k.quiet q hq)⟩

/-- A state whose mailboxes and accepted commands are those of another. -/
theorem MbxSame.of_eq {m : Nat} {s t : State} (a : t.host.busy = s.host.busy) (b : t.host.done = s.host.done)
    (c : t.host.status = s.host.status) (d : t.host.tag = s.host.tag) (e : t.host.mbx = s.host.mbx)
    (f : t.host.accepted = s.host.accepted) : MbxSame m s t :=
  ⟨by rw [a], by rw [b], by rw [c], by rw [d], fun _ _ _ => by rw [e], fun _ h => by rwa [f] at h⟩

/-- The mailboxes' own registers and bytes, and the accepted commands. -/
structure MbxEq (s t : State) : Prop where
  busy : t.host.busy = s.host.busy
  done : t.host.done = s.host.done
  status : t.host.status = s.host.status
  tag : t.host.tag = s.host.tag
  mbx : t.host.mbx = s.host.mbx
  accepted : t.host.accepted = s.host.accepted

/-- These, and all that decides whether a completion finds room. -/
structure Apart (s t : State) : Prop extends MbxEq s t where
  held : t.host.held = s.host.held
  cq : t.host.cq = s.host.cq
  busMaster : t.host.busMaster = s.host.busMaster

theorem MbxEq.trans {a b c : State} (h : MbxEq a b) (k : MbxEq b c) : MbxEq a c :=
  ⟨k.1.trans h.1, k.2.trans h.2, k.3.trans h.3, k.4.trans h.4, k.5.trans h.5, k.6.trans h.6⟩
theorem MbxEq.same {s t : State} (m : Nat) (h : MbxEq s t) : MbxSame m s t := .of_eq h.busy h.done h.status h.tag h.mbx h.accepted
theorem Apart.refl (s : State) : Apart s s := ⟨by constructor <;> rfl, rfl, rfl, rfl⟩
theorem Apart.trans {a b c : State} (h : Apart a b) (k : Apart b c) : Apart a c :=
  ⟨h.1.trans k.1, k.2.trans h.2, k.3.trans h.3, k.4.trans h.4⟩
theorem Apart.ite {c : Prop} [Decidable c] {s a b : State} (h : Apart s a) (k : Apart s b) : Apart s (if c then a else b) := by
  split <;> assumption
theorem Apart.room {s t : State} (h : Apart s t) : completionRoom t = completionRoom s := by
  simp [completionRoom, ringFull, h.held, h.cq, h.busMaster]

theorem setFlag_apart (off bit : Nat) (s : State) : Apart s (setFlag off bit s) := ⟨by constructor <;> rfl, rfl, rfl, rfl⟩
theorem count_apart (sc : Scope) (x i n : Nat) (s : State) : Apart s (count sc x i n s) := ⟨by constructor <;> rfl, rfl, rfl, rfl⟩
theorem hostWrite_apart (a : BitVec 64) (bs : List Byte) (s : State) : Apart s (hostWrite a bs s) := ⟨by constructor <;> rfl, rfl, rfl, rfl⟩
theorem markCause_apart (c : Nat) (s : State) : Apart s (markCause c s) := ⟨by constructor <;> rfl, rfl, rfl, rfl⟩
theorem eqSet_apart (q : HostQueue) (s : State) : Apart s { s with host := { s.host with eq := q } } := ⟨by constructor <;> rfl, rfl, rfl, rfl⟩
theorem mergedSet_apart (t : Tab MergedEvent) (s : State) : Apart s { s with host := { s.host with merged := t } } := ⟨by constructor <;> rfl,
    rfl, rfl, rfl⟩
theorem firstSeenSet_apart (l : List Nat) (s : State) : Apart s { s with sh := { s.sh with firstSeen := l } } := ⟨by constructor <;> rfl, rfl,
    rfl, rfl⟩
theorem traceSet_apart (t : Trace) (s : State) : Apart s { s with sec := { s.sec with trace := t } } := ⟨by constructor <;> rfl, rfl, rfl, rfl⟩
theorem drawFree_apart (s : State) : Apart s (drawFree s) := ⟨by constructor <;> rfl, rfl, rfl, rfl⟩

theorem postEvent_apart (src n : Nat) (lo : BitVec 32) (d : BitVec 64) (tr mg : Bool) (s : State) :
    Apart s (postEvent src n lo d tr mg s) :=
  (((hostWrite_apart _ _ s).trans (eqSet_apart _ _)).trans (count_apart _ _ _ _ _)).trans (markCause_apart _ _)

theorem postMergedN_apart (n : Nat) : ∀ s : State, Apart s (postMergedN n s) := by
  induction n with
  | zero => exact Apart.refl
  | succ n ih =>
    intro s
    unfold postMergedN
    split
    · exact .refl _
    · exact .ite (((mergedSet_apart _ s).trans (postEvent_apart _ _ _ _ _ _ _)).trans (ih _)) (.refl _)

theorem mergeRaise_apart (src : Nat) (lo : BitVec 32) (d : BitVec 64) (tr : Bool) (s : State) : Apart s (mergeRaise src lo d tr s) :=
  ((mergedSet_apart _ s).trans (count_apart _ _ _ _ _)).trans (setFlag_apart _ _ _)

theorem forwardRaise_apart (src : Nat) (data : List (Nat × Nat)) (s : State) : Apart s (forwardRaise src data s) := by
  unfold forwardRaise
  exact .ite (count_apart _ _ _ _ _) (.ite ((postMergedN_apart _ s).trans (postEvent_apart _ _ _ _ _ _ _))
    ((postMergedN_apart _ s).trans (mergeRaise_apart _ _ _ _ _)))

theorem pushTrace_apart (k c m d : Nat) (s : State) : Apart s (pushTrace k c m d s) := by
  unfold pushTrace
  have h : Apart s (setFlag 0x6C4 6 (count .debug 0 7 1
      { s with sec := { s.sec with trace := { s.sec.trace with lost := s.sec.trace.lost + 1 } } })) :=
    ((traceSet_apart _ s).trans (count_apart _ _ _ _ _)).trans (setFlag_apart _ _ _)
  exact .ite ((traceSet_apart _ s).trans (drawFree_apart _)) (.ite h (.ite ((h.trans (firstSeenSet_apart _ _)).trans (forwardRaise_apart _ _ _))
    (h.trans (firstSeenSet_apart _ _))))

theorem raise_apart (src : Nat) (data : List (Nat × Nat)) (s : State) : Apart s (raise src data s) := by
  have h : Apart s (trace 1 255 4095 src s) := .ite (pushTrace_apart _ _ _ _ _) (.refl _)
  unfold raise
  exact .ite h (h.trans (forwardRaise_apart _ _ _))

theorem raiseFirst_apart (src key : Nat) (data : List (Nat × Nat)) (s : State) : Apart s (raiseFirst src key data s) := by
  unfold raiseFirst
  exact .ite (.refl _) ((firstSeenSet_apart _ s).trans (raise_apart _ _ _))

theorem accessError_apart (kind off : Nat) (s : State) : Apart s (accessError kind off s) := by
  have h : ∀ a : State, Apart a (raiseFirst 32 0 [(off, 32), (kind, 8)] (count .host 0 2 1 (setFlag 0xC 0 a))) := fun a =>
    ((setFlag_apart _ _ a).trans (count_apart _ _ _ _ _)).trans (raiseFirst_apart _ _ _ _)
  unfold accessError
  refine Apart.trans ?_ (h _)
  exact .ite (.refl _) (⟨by constructor <;> rfl, rfl, rfl, rfl⟩)

/-! ### The completion itself -/

theorem getLsbD_pow (w m q : Nat) (hm : m < w) : (BitVec.ofNat w (2 ^ q)).getLsbD m = decide (m = q) := by
  rw [BitVec.getLsbD_ofNat]
  simp only [hm, decide_true, Bool.true_and, Nat.testBit_two_pow]
  simp [eq_comm]

/-- MBX_STATUS of one mailbox after a completion is written to it, and to another. -/
theorem writeStatus_self {m : Nat} (hm : m < 16) (st : Byte) (s : State) :
    (writeStatus m st s).host.busy.getLsbD m = false ∧ (writeStatus m st s).host.done.getLsbD m = true ∧
    tabGet 0 (writeStatus m st s).host.status m = st ∧
    tabGet 0 (writeStatus m st s).host.tag m = BitVec.ofNat 16 (mbxField s m 2 2) := by
  refine ⟨?_, ?_, ?_, ?_⟩
  · simp only [writeStatus, BitVec.getLsbD_and, BitVec.getLsbD_not, getLsbD_pow 16 m m hm, decide_true, Bool.not_true, Bool.and_false]
  · simp only [writeStatus, BitVec.getLsbD_or, getLsbD_pow 16 m m hm, decide_true, Bool.or_true]
  · simp [writeStatus]
  · simp [writeStatus]

theorem writeStatus_other {m q : Nat} (hm : m < 16) (hne : m ≠ q) (st : Byte) (s : State) :
    MbxSame m s (writeStatus q st s) := by
  constructor
  · simp only [writeStatus, BitVec.getLsbD_and, BitVec.getLsbD_not, getLsbD_pow 16 m q hm]
    simp [hm, hne]
  · simp only [writeStatus, BitVec.getLsbD_or, getLsbD_pow 16 m q hm]
    simp [hne]
  · simp [writeStatus, tabGet_set_of_ne _ _ _ hne]
  · simp [writeStatus, tabGet_set_of_ne _ _ _ hne]
  · intro k _ _; rfl
  · intro k h; exact h

theorem putCompletion_mbx (c : Completion) (s : State) : MbxEq s (putCompletion c s) := by constructor <;> rfl

theorem noteCqFull_apart (s : State) : Apart s (noteCqFull s) := .ite ((setFlag_apart _ _ s).trans (raise_apart _ _ _)) (.refl _)

theorem writeCompletion_mbx (c : Completion) (s : State) : MbxEq s (writeCompletion c s) :=
  (putCompletion_mbx c s).trans (noteCqFull_apart _).toMbxEq

theorem countEnd_apart (st : Nat) (s : State) : Apart s (countEnd st s) :=
  .ite (count_apart _ _ _ _ _) ((count_apart _ _ _ _ _).trans (count_apart _ _ _ _ _))

theorem signalCompletion_apart (m : Nat) (s : State) : Apart s (signalCompletion m s) := .ite (.refl _) (markCause_apart _ _)

theorem mbxField_eq {s t : State} (h : t.host.mbx = s.host.mbx) (m off n : Nat) : mbxField t m off n = mbxField s m off n := by
  simp [mbxField, h]

/-- Result bytes leave every mailbox's bytes outside them. -/
theorem writeResults_other {m q : Nat} (hne : m ≠ q) (bs : List Byte) (hb : bs.length ≤ 240) (s : State) :
    MbxSame m s (writeResults q bs s) := by
  refine ⟨rfl, rfl, rfl, rfl, ?_, fun _ h => h⟩
  intro k h1 h2
  simp only [writeResults, tabGet_write]
  have : ¬ (256 * q + 16 ≤ k ∧ k < 256 * q + 16 + bs.length) := by omega
  simp [this]

theorem MbxSame.ite {m : Nat} {c : Prop} [Decidable c] {s a b : State} (h : MbxSame m s a) (k : MbxSame m s b) :
    MbxSame m s (if c then a else b) := by split <;> assumption

theorem reportEnd_other {m : Nat} {c : Completion} (hm : m < 16) (hne : m ≠ c.mbx) (s : State) :
    MbxSame m s (reportEnd c s) :=
  have q : MbxSame m s { s with host := { s.host with muted := s.host.muted.filter (· != c.mbx) } } := .of_eq rfl rfl rfl rfl rfl rfl
  .ite (q.trans (writeStatus_other hm hne _ _))
    (.ite ((((writeCompletion_mbx c s).same m).trans (writeStatus_other hm hne _ _)).trans ((signalCompletion_apart _ _).same m))
      (.of_eq rfl rfl rfl rfl rfl rfl))

/-- What a command's end leaves of another mailbox. -/
theorem finishCmd_other {m q : Nat} (hm : m < 16) (hne : m ≠ q) (st d : Nat) (bs : List Byte) (hb : bs.length ≤ 240)
    (s : State) : MbxSame m s (finishCmd q st d bs s) :=
  ((writeResults_other hne bs hb s).trans ((countEnd_apart _ _).same m)).trans (reportEnd_other (c := ⟨q, _, _, _⟩) hm hne _)

/-- What undefined opcodes' ends leave of a mailbox that waits for none. -/
theorem sweepN_other {m : Nat} (hm : m < 16) (n : Nat) : ∀ s : State, m ∉ s.host.accepted →
    MbxSame m s (sweepN n s) := by
  induction n with
  | zero => intro s _; exact .refl _ _
  | succ n ih =>
    intro s h1
    unfold sweepN
    split
    · next q hq =>
      have hmem : q ∈ s.host.accepted := List.mem_of_find?_eq_some hq
      have hne : m ≠ q := fun e => h1 (e ▸ hmem)
      have a : MbxSame m s (startCmd q s) := ⟨rfl, rfl, rfl, rfl, fun _ _ _ => rfl, fun x hx => (List.mem_filter.mp hx).1⟩
      have b := a.trans (finishCmd_other hm hne 0x01 0 [] (by simp) (startCmd q s))
      exact b.trans (ih _ (fun hx => h1 (b.quiet _ hx)))
    · exact .refl _ _

/-- A completion with room is reported in its mailbox. -/
theorem reportEnd_self {c : Completion} (hm : c.mbx < 16) (s : State) (room : completionRoom s = true) :
    (reportEnd c s).host.busy.getLsbD c.mbx = false ∧ (reportEnd c s).host.done.getLsbD c.mbx = true ∧
    tabGet 0 (reportEnd c s).host.status c.mbx = c.status ∧
    tabGet 0 (reportEnd c s).host.tag c.mbx = BitVec.ofNat 16 (mbxField s c.mbx 2 2) ∧
    (reportEnd c s).host.mbx = s.host.mbx ∧ (reportEnd c s).host.accepted = s.host.accepted := by
  by_cases hc : s.host.cq.enabled && !s.host.muted.contains c.mbx
  · have hr : (s.host.held.isEmpty && !ringFull s s.host.cq.head s.host.cq.tail s.host.cq.entries) = true := by
      simp only [Bool.and_eq_true] at hc
      simpa [completionRoom, hc.1] using room
    have e : reportEnd c s = postCompletion c s := by
      unfold reportEnd
      rw [if_neg (by simpa using hc), if_pos hr]
    have w := writeCompletion_mbx c s
    have g := signalCompletion_apart c.mbx (writeStatus c.mbx c.status (writeCompletion c s))
    have p := writeStatus_self hm c.status (writeCompletion c s)
    rw [mbxField_eq w.mbx] at p
    rw [e]
    unfold postCompletion
    rw [g.busy, g.done, g.status, g.tag, g.mbx, g.accepted]
    exact ⟨p.1, p.2.1, p.2.2.1, p.2.2.2, w.mbx, w.accepted⟩
  · have e : reportEnd c s = writeStatus c.mbx c.status
        { s with host := { s.host with muted := s.host.muted.filter (· != c.mbx) } } := by
      unfold reportEnd
      rw [if_pos (by cases h : s.host.cq.enabled <;> simp_all)]
    have p := writeStatus_self hm c.status { s with host := { s.host with muted := s.host.muted.filter (· != c.mbx) } }
    rw [e]
    exact ⟨p.1, p.2.1, p.2.2.1, p.2.2.2, rfl, rfl⟩

/-- The end of a command that took effect, in its own mailbox. -/
theorem finishCmd_self {m : Nat} (hm : m < 16) (bs : List Byte) (s : State) (room : completionRoom s = true) :
    (finishCmd m 0 0 bs s).host.busy.getLsbD m = false ∧ (finishCmd m 0 0 bs s).host.done.getLsbD m = true ∧
    tabGet 0 (finishCmd m 0 0 bs s).host.status m = 0 ∧
    tabGet 0 (finishCmd m 0 0 bs s).host.tag m = BitVec.ofNat 16 (mbxField s m 2 2) ∧
    (finishCmd m 0 0 bs s).host.mbx = (writeResults m bs s).host.mbx ∧ (finishCmd m 0 0 bs s).host.accepted = s.host.accepted := by
  have room' : completionRoom (countEnd 0 (writeResults m bs s)) = true := room
  have p := reportEnd_self (c := ⟨m, BitVec.ofNat 8 0, BitVec.ofNat 32 0, bs.length⟩) hm _ room'
  have tagEq : mbxField (countEnd 0 (writeResults m bs s)) m 2 2 = mbxField s m 2 2 := by
    have : (countEnd 0 (writeResults m bs s)).host.mbx = tabWrite 0 s.host.mbx (256 * m + 16) bs := rfl
    simp only [mbxField, this]
    rw [tabRead_write_apart]
    exact Or.inl (by omega)
  rw [tagEq] at p
  exact p

/-- An accepted command whose body takes effect completes with OK; its results stand in its payload, and beyond what its body left only
reporting happened. -/
theorem accepted_completes {c : CmdSpec} {m : BitVec 4} {s : State} (h : Accepted c m s)  (ok : (bodyOf c m s).status = 0) (dt : (bodyOf c m s).detail = 0) (len : (bodyOf c m s).result.length ≤ 240)
    (mbx : (bodyOf c m s).state.host.mbx = s.host.mbx)
    (wait : (bodyOf c m s).state.host.accepted = (startCmd m.toNat s).host.accepted)
    (room : completionRoom (bodyOf c m s).state = true) :
    Completed m 0 s (runCmd c m s) ∧ Returns m (bodyOf c m s).result (runCmd c m s) ∧ Reports (bodyOf c m s).state (runCmd c m s) := by
  have hm : m.toNat < 16 := m.isLt
  rw [runCmd_accepted h, ok, dt]
  have f := finishCmd_self hm (bodyOf c m s).result (bodyOf c m s).state room
  have notIn : m.toNat ∉ (finishCmd m.toNat 0 0 (bodyOf c m s).result (bodyOf c m s).state).host.accepted := by
    rw [f.2.2.2.2.2, wait]
    simp [startCmd]
  have o := sweepN_other hm 16 _ notIn
  refine ⟨⟨?_, ?_, ?_, ?_⟩, ?_, ?_⟩
  · exact o.busy.trans f.1
  · exact o.done.trans f.2.1
  · exact o.status.trans f.2.2.1
  · refine (o.tag.trans f.2.2.2.1).trans ?_
    rw [mbxField_eq mbx]
  · unfold Returns
    have : tabRead 0 (sweepBad (finishCmd m.toNat 0 0 (bodyOf c m s).result (bodyOf c m s).state)).host.mbx (256 * m.toNat + 16)
        (bodyOf c m s).result.length =
        tabRead 0 (finishCmd m.toNat 0 0 (bodyOf c m s).result (bodyOf c m s).state).host.mbx (256 * m.toNat + 16)
        (bodyOf c m s).result.length := by
      unfold tabRead
      apply List.map_congr_left
      intro i hi
      have := List.mem_range.mp hi
      exact o.bytes _ (by omega) (by omega)
    rw [this, f.2.2.2.2.1]
    exact tabRead_write _ _ _ _
  · exact (finishCmd_reports _ _ _ _ _).trans (sweepBad_reports _)

/-- An accepted command whose body takes effect as `f`, returning `bs`. -/
theorem effect_of_ok {c : CmdSpec} {m : BitVec 4} {s : State} {f : State → State} {bs : List Byte} (h : Accepted c m s)
    (ok : bodyOf c m s = okCmd (f (startCmd m.toNat s)) bs) (len : bs.length ≤ 240)
    (room : completionRoom (f (startCmd m.toNat s)) = true) (mbx : (f (startCmd m.toNat s)).host.mbx = s.host.mbx)
    (wait : (f (startCmd m.toNat s)).host.accepted = (startCmd m.toNat s).host.accepted) :
    Effect (.next (runCmd c m s)) m s f bs := by
  have h1 : (bodyOf c m s).status = 0 := by rw [ok]; rfl
  have h2 : (bodyOf c m s).detail = 0 := by rw [ok]; rfl
  have h3 : (bodyOf c m s).state = f (startCmd m.toNat s) := by rw [ok]; rfl
  have h4 : (bodyOf c m s).result = bs := by rw [ok]; rfl
  have a := accepted_completes h h1 h2 (by rw [h4]; exact len) (by rw [h3]; exact mbx) (by rw [h3]; exact wait) (by rw [h3]; exact room)
  rw [h3, h4] at a
  exact ⟨_, rfl, a⟩

/-- The same where the effect leaves the mailboxes and the completion queue alone. -/
theorem effect_of_apart {c : CmdSpec} {m : BitVec 4} {s : State} {f : State → State} {bs : List Byte} (h : Accepted c m s)
    (ok : bodyOf c m s = okCmd (f (startCmd m.toNat s)) bs) (len : bs.length ≤ 240) (room : completionRoom s = true)
    (ap : Apart (startCmd m.toNat s) (f (startCmd m.toNat s))) : Effect (.next (runCmd c m s)) m s f bs :=
  effect_of_ok h ok len (by rw [ap.room]; exact room) ap.mbx ap.accepted

theorem leBytes_length : ∀ n x : Nat, (leBytes n x).length = n
  | 0, _ => rfl
  | n + 1, x => by simp [leBytes, leBytes_length n]

theorem counterReply_length (s : State) (sc : Scope) (x n : Nat) : (counterReply s sc x n).length = 8 + 8 * n := by
  simp [counterReply, leBytes_length, List.map_const', Nat.mul_comm]

/-- An accepted counter command (R152). -/
theorem counters_read {c : CmdSpec} {m : BitVec 4} {s : State} {sc : Scope} {x : List Byte → Nat} {off n : Nat} (h : Accepted c m s)
    (e : c.body = counterBody sc x off n) (len : n ≤ 29) (room : completionRoom s = true) :
    CountersRead (.next (runCmd c m s)) m s sc (x (mbxPayload s m.toNat)) off n := by
  have key : ∀ a : State, completionRoom (if par s m off 1 = 1 then clearCounters sc (x (mbxPayload s m.toNat)) n a else a) = completionRoom a ∧
      (if par s m off 1 = 1 then clearCounters sc (x (mbxPayload s m.toNat)) n a else a).host = a.host := by
    intro a; split <;> exact ⟨rfl, rfl⟩
  unfold CountersRead
  refine effect_of_ok h ?_ ?_ ?_ ?_ ?_
  · show c.body _ _ _ = _
    rw [e]
    rfl
  · have := counterReply_length s sc (x (mbxPayload s m.toNat)) n
    unfold counterReply at this
    exact Nat.le_trans (Nat.le_of_eq this) (by omega)
  · rw [(key _).1]; exact room
  · rw [(key _).2]; rfl
  · rw [(key _).2]

/-- Where nothing waits for the end of an item, nothing follows it. -/
theorem settle_settled {s : State} (h : Settled s) : settle s = s := by
  have e : pfMove s = s := by unfold pfMove; rw [h.quiet]
  have r : pfRun s = s := by simp only [pfRun, e]
  unfold settle finishTick afterSeal
  rw [r]
  simp only [h.quiet, h.reset, ne_eq, not_true_eq_false, if_false]
  split
  · next c => rw [Bool.and_eq_true, Bool.not_eq_true'] at c; rw [h.tick c.1] at c; exact absurd c.2 (by decide)
  · rfl

/-- What holds after the reporting of a command's effect. -/
theorem Effect.ends {o : Res} {m : BitVec 4} {s : State} {f : State → State} {bs : List Byte} {p : State → Prop}
    (h : Effect o m s f bs) (k : ∀ t, Returns m bs t → Reports (f (startCmd m.toNat s)) t → p t) : Ends o m s p := by
  obtain ⟨t, e, c, r, q⟩ := h
  exact ⟨t, e, c, k t r q⟩

end Sys2Proof.Machine
end

