-- ==== Sys2Proof/Laws/Issue.lean ====
section
/-!
SUPPORT. What issuing a core instruction does when the thread can issue it.
-/
namespace Sys2Proof.Machine

theorem noteCorrected_none (memory : Nat) (s : State) : noteCorrected memory 0 s = s := rfl

theorem checkImem_strong {s : State} {k : Nat} (h : s.cores.imemWeak.contains k = false) : checkImem [k] s = s := by
  have hk : ∀ x ∈ s.cores.imemWeak, x ≠ k := fun x hx e => by simp_all
  have h1 : s.cores.imemWeak.filter (fun x => [k].contains x) = [] :=
    List.filter_eq_nil_iff.mpr fun x hx => by simpa using hk x hx
  have h2 : s.cores.imemWeak.filter (fun x => !([k].contains x)) = s.cores.imemWeak :=
    List.filter_eq_self.mpr fun x hx => by simpa using hk x hx
  unfold checkImem
  rw [h1, h2]
  split <;> rfl

/-- A thread that can issue an instruction which is legal there issues it: nothing but its own action follows (R318, R319, R305, R44). -/
theorem issue_can {s : State} {t : BitVec 9} {c : CoreInstr} (h : CanIssue s t c.srcs c.dsts) (il : c.illegal s t.toNat = false) :
    issue t c s = stepIssued t.toNat (c.act t.toNat (noteIssue t.toNat s)) := by
  unfold issue
  have h3 : pendingRegs s t.toNat c = [] := List.filter_eq_nil_iff.mpr fun x hx => by
    have := List.all_eq_true.mp h.settled x hx
    cases hh : tabFind (thr s t.toNat).pending x.toNat <;> simp_all
  have h4 : sourceBad s t.toNat c = false := by
    have p := h.parity
    have q := h.special
    simp only [List.all_eq_true] at p q
    simp only [sourceBad, Bool.or_eq_false_iff, List.any_eq_false]
    refine ⟨fun x hx => by simpa using p x hx, fun r _ hr => ?_⟩
    have := q _ (List.elem_iff.mp hr)
    have : 32 + r < 32 := by simpa using this
    omega
  have h5 : ((thr s t.toNat).terminated && decide (1024 ≤ (thr s t.toNat).handlerCount)) = false := by
    have := h.limit
    cases hh : (thr s t.toNat).terminated <;> simp_all
  simp only [h.runs, h.after, h.word, checkImem_strong h.strong, issueFetched, h.legal, il, h3, h4, h5]
  rfl

end Sys2Proof.Machine
end

