-- ==== Sys2Proof/Laws/Keeps.lean ====
section
/-!
SUPPORT. What every command keeps: how `Keeps` is carried through the shapes in which operations are written.
-/
namespace Sys2Proof.Machine

theorem Fuses.Le.refl (a : Fuses) : a.Le a := ⟨id, id, fun _ => id, Nat.le_refl _, fun _ => id, fun _ => id⟩

theorem Fuses.Le.trans {a b c : Fuses} (h : a.Le b) (k : b.Le c) : a.Le c :=
  ⟨k.1 ∘ h.1, k.2 ∘ h.2, fun i => k.3 i ∘ h.3 i, Nat.le_trans h.4 k.4, fun i => k.5 i ∘ h.5 i, fun i => k.6 i ∘ h.6 i⟩

/-- What a state is compared with: an earlier state, and whether its sheet number and its key slots are compared too. -/
structure Base where
  state : State
  sheet : Bool
  keys : Bool

/-- What commands keep: the queue of the commands that wait behind them, canonical memories, and the fuses; and, but for the tick and
SHEET_SET, the sheet number, which a reset clears; and, but for the commands of Key slots and the diagnostic window, the key slots, which
a reset or RETIRED erases. -/
structure Keeps (z : Base) (t : State) : Prop where
  pending : t.pending = z.state.pending
  hostMem : Memory.wf z.state.host.mem = true → Memory.wf t.host.mem = true
  dramMem : Memory.wf z.state.dram.mem = true → Memory.wf t.dram.mem = true
  fuses : z.state.sec.fuses.Le t.sec.fuses
  sheet : z.sheet = true → t.sh.sheet = z.state.sh.sheet ∨ t.sh.sheet = 0
  keys : z.keys = true → t.sec.keys = z.state.sec.keys ∨ t.sec.keys = []

theorem Keeps.refl (s : State) (a b : Bool) : Keeps ⟨s, a, b⟩ s := ⟨rfl, id, id, .refl _, fun _ => .inl rfl, fun _ => .inl rfl⟩

/-- A change of other fields. -/
theorem Keeps.upd {z : Base} {x y : State} (h : Keeps z x) (a : y.pending = x.pending) (b : y.host.mem = x.host.mem)
    (c : y.dram.mem = x.dram.mem) (d : y.sec.fuses = x.sec.fuses) (e : y.sh.sheet = x.sh.sheet) (f : y.sec.keys = x.sec.keys) : Keeps z y :=
  ⟨a.trans h.1, fun w => by rw [b]; exact h.2 w, fun w => by rw [c]; exact h.3 w, by rw [d]; exact h.4, by rw [e]; exact h.5,
   by rw [f]; exact h.6⟩

/-- A record update of other fields. -/
theorem Keeps.mk' {z : Base} {x : State} {fresh flags totals cntAcc cntTot cntSheet failover sh line host cab disp cores dov lk cop dram ev sec pow}
    (h : Keeps z x) (b : host.mem = x.host.mem) (c : dram.mem = x.dram.mem) (d : sec.fuses = x.sec.fuses) (e : sh.sheet = x.sh.sheet)
    (f : sec.keys = x.sec.keys) :
    Keeps z ⟨x.pending, fresh, flags, totals, cntAcc, cntTot, cntSheet, failover, sh, line, host, cab, disp, cores, dov, lk, cop, dram, ev,
      sec, pow⟩ := h.upd rfl b c d e f

/-- A command's body keeps what its result's state keeps; a result keeps what its next state keeps; and so for pairs and options. -/
def KeepsC (z : Base) (r : CmdRes) : Prop := Keeps z r.state
def KeepsR (z : Base) (o : Res) : Prop := ∀ t, o = .next t → Keeps z t
def KeepsP {γ : Type} (z : Base) (x : State × γ) : Prop := Keeps z x.1
def KeepsQ {γ : Type} (z : Base) (x : γ × State) : Prop := Keeps z x.2
def KeepsO (z : Base) (x : Option State) : Prop := ∀ t, x = some t → Keeps z t
def KeepsOP {γ : Type} (z : Base) (x : Option (State × γ)) : Prop := ∀ t, x = some t → Keeps z t.1
def KeepsOQ {γ : Type} (z : Base) (x : Option (γ × State)) : Prop := ∀ t, x = some t → Keeps z t.2
def KeepsS (z : Base) (c : CmdSpec) : Prop := ∀ s m p, Keeps z s → KeepsC z (c.body s m p)
def KeepsI (z : Base) (c : CoreInstr) : Prop := ∀ t s, Keeps z s → Keeps z (c.act t s)

theorem Keeps.ite {c : Prop} [Decidable c] {z : Base} {a b : State} (h : Keeps z a) (k : Keeps z b) : Keeps z (if c then a else b) := by
  split <;> assumption

theorem KeepsC.ite {c : Prop} [Decidable c] {z : Base} {a b : CmdRes} (h : KeepsC z a) (k : KeepsC z b) : KeepsC z (if c then a else b) := by
  split <;> assumption

theorem KeepsR.ite {c : Prop} [Decidable c] {z : Base} {a b : Res} (h : KeepsR z a) (k : KeepsR z b) : KeepsR z (if c then a else b) := by
  split <;> assumption

theorem KeepsP.ite {γ : Type} {c : Prop} [Decidable c] {z : Base} {a b : State × γ} (h : KeepsP z a) (k : KeepsP z b) : KeepsP z (if c then a
    else b) := by
  split <;> assumption

theorem KeepsQ.ite {γ : Type} {c : Prop} [Decidable c] {z : Base} {a b : γ × State} (h : KeepsQ z a) (k : KeepsQ z b) : KeepsQ z (if c then a
    else b) := by
  split <;> assumption

theorem KeepsO.ite {c : Prop} [Decidable c] {z : Base} {a b : Option State} (h : KeepsO z a) (k : KeepsO z b) : KeepsO z (if c then a else b) := by
  split <;> assumption

theorem KeepsOP.ite {γ : Type} {c : Prop} [Decidable c] {z : Base} {a b : Option (State × γ)} (h : KeepsOP z a) (k : KeepsOP z b) : KeepsOP z (if c then a else b) := by
  split <;> assumption

theorem Keeps.foldl {β : Type} {z : Base} {x : State} {f : State → β → State} {l : List β} (h : Keeps z x) (k : ∀ a b, Keeps z a → Keeps z (f a b)) :
    Keeps z (l.foldl f x) := by
  induction l generalizing x with
  | nil => exact h
  | cons b l ih => exact ih (k x b h)

theorem KeepsP.foldl {β γ : Type} {z : Base} {x : State × γ} {f : State × γ → β → State × γ} {l : List β} (h : KeepsP z x)
    (k : ∀ a b, KeepsP z a → KeepsP z (f a b)) : KeepsP z (l.foldl f x) := by
  induction l generalizing x with
  | nil => exact h
  | cons b l ih => exact ih (k x b h)

theorem KeepsQ.foldl {β γ : Type} {z : Base} {x : γ × State} {f : γ × State → β → γ × State} {l : List β} (h : KeepsQ z x)
    (k : ∀ a b, KeepsQ z a → KeepsQ z (f a b)) : KeepsQ z (l.foldl f x) := by
  induction l generalizing x with
  | nil => exact h
  | cons b l ih => exact ih (k x b h)

theorem KeepsC.mk {z : Base} {s : State} {a b : Nat} {r : List Byte} (h : Keeps z s) : KeepsC z ⟨s, a, b, r⟩ := h
theorem KeepsC.ok {z : Base} {s : State} {r : List Byte} (h : Keeps z s) : KeepsC z (okCmd s r) := h
theorem KeepsC.refuse {z : Base} {s : State} {a b : Nat} (h : Keeps z s) : KeepsC z (refuse s a b) := h
theorem KeepsC.out {z : Base} {r : CmdRes} (h : KeepsC z r) : Keeps z r.state := h
theorem KeepsR.next {z : Base} {s : State} (h : Keeps z s) : KeepsR z (.next s) := fun _ e => by cases e; exact h
theorem KeepsR.stop {z : Base} {f : Fault} : KeepsR z (.fault f) := fun _ e => by cases e
theorem KeepsP.mk {γ : Type} {z : Base} {s : State} {x : γ} (h : Keeps z s) : KeepsP z (s, x) := h
theorem KeepsP.out {γ : Type} {z : Base} {x : State × γ} (h : KeepsP z x) : Keeps z x.1 := h
theorem KeepsQ.mk {γ : Type} {z : Base} {s : State} {x : γ} (h : Keeps z s) : KeepsQ z (x, s) := h
theorem KeepsQ.out {γ : Type} {z : Base} {x : γ × State} (h : KeepsQ z x) : Keeps z x.2 := h
theorem KeepsO.mk {z : Base} {s : State} (h : Keeps z s) : KeepsO z (some s) := fun _ e => by cases e; exact h
theorem KeepsO.none {z : Base} : KeepsO z none := fun _ e => by cases e
theorem KeepsO.getD {z : Base} {s : State} {x : Option State} (h : KeepsO z x) (k : Keeps z s) : Keeps z (x.getD s) := by
  cases x with
  | none => exact k
  | some t => exact h t rfl
theorem KeepsOP.mk {γ : Type} {z : Base} {x : State × γ} (h : KeepsP z x) : KeepsOP z (some x) := fun _ e => by cases e; exact h
theorem KeepsOP.none {γ : Type} {z : Base} : KeepsOP z (none : Option (State × γ)) := fun _ e => by cases e
theorem KeepsOQ.mk {γ : Type} {z : Base} {x : γ × State} (h : KeepsQ z x) : KeepsOQ z (some x) := fun _ e => by cases e; exact h
theorem KeepsOQ.none {γ : Type} {z : Base} : KeepsOQ z (none : Option (γ × State)) := fun _ e => by cases e
theorem KeepsOQ.ite {γ : Type} {c : Prop} [Decidable c] {z : Base} {a b : Option (γ × State)} (h : KeepsOQ z a) (k : KeepsOQ z b) :
    KeepsOQ z (if c then a else b) := by split <;> assumption
theorem KeepsS.mk {z : Base} {o : Nat} {l : Bool} {f : Nat} {e : List Byte → Nat} {c : State → List Byte → List (Nat × Bool)}
    {b : State → Nat → List Byte → CmdRes} (h : ∀ s m p, Keeps z s → KeepsC z (b s m p)) : KeepsS z ⟨o, l, f, e, c, b⟩ := h
theorem KeepsS.out {z : Base} {s : State} {c : CmdSpec} {m : Nat} {p : List Byte} (h : KeepsS z c) (k : Keeps z s) : KeepsC z (c.body s m p) := h s m p k
theorem KeepsI.mk {z : Base} {w : Word36} {i : State → Nat → Bool} {a d : List (BitVec 5)} {sp : List Nat} {b : Nat → State → State}
    (h : ∀ t s, Keeps z s → Keeps z (b t s)) : KeepsI z ⟨w, i, a, sp, d, b⟩ := h
theorem KeepsI.out {z : Base} {s : State} {c : CoreInstr} {t : Nat} (h : KeepsI z c) (k : Keeps z s) : Keeps z (c.act t s) := h t s k

theorem hostWriteBad_keeps {z : Base} (a : BitVec 64) (bs : List Byte) (bad : Nat → Bool) (s : State) (h : Keeps z s) :
    Keeps z (hostWriteBad a bs bad s) := ⟨h.1, fun w => memWrite_wf _ _ (h.2 w), h.3, h.4, h.5, h.6⟩

theorem hostWrite_keeps {z : Base} (a : BitVec 64) (bs : List Byte) (s : State) (h : Keeps z s) : Keeps z (hostWrite a bs s) :=
  hostWriteBad_keeps a bs _ s h

theorem updHost_keeps {z : Base} (f : HostPort → HostPort) (hf : ∀ x, (f x).mem = x.mem) (s : State) (h : Keeps z s) :
    Keeps z (updHost f s) := h.upd rfl (hf _) rfl rfl rfl rfl

theorem updSheets_keeps {z : Base} (f : Sheets → Sheets) (hf : ∀ x, (f x).sheet = x.sheet) (s : State) (h : Keeps z s) :
    Keeps z (updSheets f s) := h.upd rfl rfl rfl rfl (hf _) rfl

theorem updSec_keeps {z : Base} (f : Secure → Secure) (hf : ∀ x, (f x).fuses = x.fuses ∧ (f x).keys = x.keys) (s : State) (h : Keeps z s) :
    Keeps z (updSec f s) := h.upd rfl rfl rfl (hf _).1 rfl (hf _).2

/-- A change of the fuses that only advances them. -/
theorem updSec_advances {z : Base} (f : Secure → Secure) (s : State) (hf : s.sec.fuses.Le (f s.sec).fuses)
    (hk : (f s.sec).keys = s.sec.keys ∨ (f s.sec).keys = []) (h : Keeps z s) : Keeps z (updSec f s) :=
  ⟨h.1, h.2, h.3, h.4.trans hf, h.5, fun e => by
    cases hk with
    | inl q => exact (h.6 e).imp (q.trans ·) (q.trans ·)
    | inr q => exact .inr q⟩

/-- A change of the key slots. -/
theorem updSec_keys {z : Base} (e : z.keys = false) (f : Secure → Secure) (hf : ∀ x, (f x).fuses = x.fuses) (s : State) (h : Keeps z s) :
    Keeps z (updSec f s) :=
  ⟨h.1, h.2, h.3, by show z.state.sec.fuses.Le (f s.sec).fuses; rw [hf]; exact h.4, h.5, fun k => by rw [e] at k; cases k⟩

/-- A change of the sheet number. -/
theorem updSheets_sheet {z : Base} (e : z.sheet = false) (f : Sheets → Sheets) (s : State) (h : Keeps z s) : Keeps z (updSheets f s) :=
  ⟨h.1, h.2, h.3, h.4, fun k => absurd (e.symm.trans k) (by decide), h.6⟩

theorem updDram_keeps {z : Base} (f : Dram → Dram) (hf : ∀ x, (f x).mem = x.mem) (s : State) (h : Keeps z s) :
    Keeps z (updDram f s) := h.upd rfl rfl (hf _) rfl rfl rfl

/-- A change of DRAM that keeps its memory canonical. -/
theorem Keeps.dramMem' {z : Base} {s t : State} (h : Keeps z s) (a : t.pending = s.pending) (b : t.host.mem = s.host.mem)
    (c : Memory.wf s.dram.mem = true → Memory.wf t.dram.mem = true) (d : t.sec = s.sec) (e : t.sh = s.sh) : Keeps z t :=
  ⟨a.trans h.1, fun w => by rw [b]; exact h.2 w, fun w => c (h.3 w), by rw [d]; exact h.4, by rw [e]; exact h.5, by rw [d]; exact h.6⟩

theorem dramStore_keeps {z : Base} (a : Nat) (bs : List Byte) (s : State) (h : Keeps z s) : Keeps z (dramStore a bs s) :=
  h.dramMem' rfl rfl (fun w => memWrite_wf _ _ w) rfl rfl

/-- A reset that clears the sheet number. -/
theorem Keeps.cleared {z : Base} {s t : State} (h : Keeps z s) (a : t.pending = s.pending) (b : t.host.mem = s.host.mem)
    (c : Memory.wf s.dram.mem = true → Memory.wf t.dram.mem = true) (d : t.sec.fuses = s.sec.fuses) (e : t.sh.sheet = 0)
    (f : t.sec.keys = s.sec.keys ∨ t.sec.keys = []) : Keeps z t :=
  ⟨a.trans h.1, fun w => by rw [b]; exact h.2 w, fun w => c (h.3 w), by rw [d]; exact h.4, fun _ => .inr e, fun k => by
    cases f with
    | inl q => rw [q]; exact h.6 k
    | inr q => exact .inr q⟩

end Sys2Proof.Machine
end

