-- ==== Sys2Proof/Laws/KeepsOps.lean ====
section
/-!
SUPPORT. One lemma for each operation, command body and command of HostOps, Cmd, ThreadOps, DramMap, CabinetOps, ParserOps, EccOps, EgressOps,
ContextOps, DispatchOps, PtpOps, LineOps, ClassOps, MemOps, AdmitOps, DovetailOps, Ops, CopOps, CmdRun: it keeps what every command keeps.
-/
set_option linter.constructorNameAsVariable false
set_option linter.unusedVariables false
namespace Sys2Proof.Machine

theorem writeStatus_keeps {z : Base} (a0 a1 a2 : _) (k0 : Keeps z a2) : Keeps z (writeStatus a0 a1 a2) := by
  unfold writeStatus
  extract_lets -merge -underBinder x0
  exact Keeps.mk' k0 rfl rfl rfl rfl rfl

theorem count_keeps {z : Base} (a0 a1 a2 a3 a4 : _) (k0 : Keeps z a4) : Keeps z (count a0 a1 a2 a3 a4) := by
  unfold count
  exact Keeps.mk' k0 rfl rfl rfl rfl rfl

theorem drawFree_keeps {z : Base} (a0 : _) (k0 : Keeps z a0) : Keeps z (drawFree a0) := by
  unfold drawFree
  exact Keeps.mk' k0 rfl rfl rfl rfl rfl

theorem setFlag_keeps {z : Base} (a0 a1 a2 : _) (k0 : Keeps z a2) : Keeps z (setFlag a0 a1 a2) := by
  unfold setFlag
  exact Keeps.mk' k0 rfl rfl rfl rfl rfl

theorem markCause_keeps {z : Base} (a0 a1 : _) (k0 : Keeps z a1) : Keeps z (markCause a0 a1) := by
  unfold markCause
  extract_lets -merge -underBinder x0
  exact Keeps.mk' k0 rfl rfl rfl rfl rfl

theorem postEvent_keeps {z : Base} (a0 a1 a2 a3 a4 a5 a6 : _) (k0 : Keeps z a6) : Keeps z (postEvent a0 a1 a2 a3 a4 a5 a6) := by
  unfold postEvent
  extract_lets -merge -underBinder x0 x1 x2 x3
  have h4 : Keeps z x2 := hostWrite_keeps _ _ _ k0
  exact markCause_keeps _ _ (count_keeps _ _ _ _ _ (Keeps.mk' h4 rfl rfl rfl rfl rfl))

theorem postMergedN_keeps {z : Base} (n : Nat) : ∀ (s : State), Keeps z s → Keeps z (postMergedN n s) := by
  induction n with
  | zero => exact fun _ h => h
  | succ n ih =>
    intro s h
    unfold postMergedN
    split
    · exact h
    · exact Keeps.ite (ih _ (postEvent_keeps _ _ _ _ _ _ _ (Keeps.mk' h rfl rfl rfl rfl rfl))) h

theorem postMerged_keeps {z : Base} (a0 : _) (k0 : Keeps z a0) : Keeps z (postMerged a0) := by
  unfold postMerged
  exact postMergedN_keeps _ _ k0

theorem mergeRaise_keeps {z : Base} (a0 a1 a2 a3 a4 : _) (k0 : Keeps z a4) : Keeps z (mergeRaise a0 a1 a2 a3 a4) := by
  unfold mergeRaise
  extract_lets -merge -underBinder x0 x1
  exact setFlag_keeps _ _ _ (count_keeps _ _ _ _ _ (Keeps.mk' k0 rfl rfl rfl rfl rfl))

theorem forwardRaise_keeps {z : Base} (a0 a1 a2 : _) (k0 : Keeps z a2) : Keeps z (forwardRaise a0 a1 a2) := by
  unfold forwardRaise
  extract_lets -merge -underBinder x0 x1 x2
  have h3 : Keeps z x2 := postMerged_keeps _ k0
  exact Keeps.ite (count_keeps _ _ _ _ _ k0) (Keeps.ite (postEvent_keeps _ _ _ _ _ _ _ h3) (mergeRaise_keeps _ _ _ _ _ h3))

theorem pushTrace_keeps {z : Base} (a0 a1 a2 a3 a4 : _) (k0 : Keeps z a4) : Keeps z (pushTrace a0 a1 a2 a3 a4) := by
  unfold pushTrace
  extract_lets -merge -underBinder x0 x1 x2 x3 x4 x5
  have h6 : Keeps z x3 := setFlag_keeps _ _ _ (count_keeps _ _ _ _ _ (Keeps.mk' k0 rfl rfl rfl rfl rfl))
  have h7 : Keeps z x5 := Keeps.mk' h6 rfl rfl rfl rfl rfl
  exact Keeps.ite (drawFree_keeps _ (Keeps.mk' k0 rfl rfl rfl rfl rfl)) (Keeps.ite h6 (Keeps.ite (forwardRaise_keeps _ _ _ h7) h7))

theorem trace_keeps {z : Base} (a0 a1 a2 a3 a4 : _) (k0 : Keeps z a4) : Keeps z (trace a0 a1 a2 a3 a4) := by
  unfold trace
  exact Keeps.ite (pushTrace_keeps _ _ _ _ _ k0) k0

theorem raise_keeps {z : Base} (a0 a1 a2 : _) (k0 : Keeps z a2) : Keeps z (raise a0 a1 a2) := by
  unfold raise
  extract_lets -merge -underBinder x0
  have h1 : Keeps z x0 := trace_keeps _ _ _ _ _ k0
  exact Keeps.ite h1 (forwardRaise_keeps _ _ _ h1)

theorem raiseFirst_keeps {z : Base} (a0 a1 a2 a3 : _) (k0 : Keeps z a3) : Keeps z (raiseFirst a0 a1 a2 a3) := by
  unfold raiseFirst
  extract_lets -merge -underBinder x0 x1
  exact Keeps.ite k0 (raise_keeps _ _ _ (Keeps.mk' k0 rfl rfl rfl rfl rfl))

theorem accessError_keeps {z : Base} (a0 a1 a2 : _) (k0 : Keeps z a2) : Keeps z (accessError a0 a1 a2) := by
  unfold accessError
  extract_lets -merge -underBinder x0 x1
  have h2 : Keeps z x1 := Keeps.ite k0 (Keeps.mk' k0 rfl rfl rfl rfl rfl)
  exact raiseFirst_keeps _ _ _ _ (count_keeps _ _ _ _ _ (setFlag_keeps _ _ _ h2))

theorem bumpTotal_keeps {z : Base} (a0 a1 a2 : _) (k0 : Keeps z a2) : Keeps z (bumpTotal a0 a1 a2) := by
  unfold bumpTotal
  exact Keeps.mk' k0 rfl rfl rfl rfl rfl

theorem countMax_keeps {z : Base} (a0 a1 a2 a3 a4 : _) (k0 : Keeps z a4) : Keeps z (countMax a0 a1 a2 a3 a4) := by
  unfold countMax
  exact Keeps.mk' k0 rfl rfl rfl rfl rfl

theorem signalCompletion_keeps {z : Base} (a0 a1 : _) (k0 : Keeps z a1) : Keeps z (signalCompletion a0 a1) := by
  unfold signalCompletion
  exact Keeps.ite k0 (markCause_keeps _ _ k0)

theorem noteCqFull_keeps {z : Base} (a0 : _) (k0 : Keeps z a0) : Keeps z (noteCqFull a0) := by
  unfold noteCqFull
  exact Keeps.ite (raise_keeps _ _ _ (setFlag_keeps _ _ _ k0)) k0

theorem putCompletion_keeps {z : Base} (a0 a1 : _) (k0 : Keeps z a1) : Keeps z (putCompletion a0 a1) := by
  unfold putCompletion
  extract_lets -merge -underBinder x0 x1 x2
  have h3 : Keeps z x1 := hostWrite_keeps _ _ _ k0
  exact Keeps.mk' h3 rfl rfl rfl rfl rfl

theorem writeCompletion_keeps {z : Base} (a0 a1 : _) (k0 : Keeps z a1) : Keeps z (writeCompletion a0 a1) := by
  unfold writeCompletion
  exact noteCqFull_keeps _ (putCompletion_keeps _ _ k0)

theorem postCompletion_keeps {z : Base} (a0 a1 : _) (k0 : Keeps z a1) : Keeps z (postCompletion a0 a1) := by
  unfold postCompletion
  exact signalCompletion_keeps _ _ (writeStatus_keeps _ _ _ (writeCompletion_keeps _ _ k0))

theorem reportEnd_keeps {z : Base} (a0 a1 : _) (k0 : Keeps z a1) : Keeps z (reportEnd a0 a1) := by
  unfold reportEnd
  extract_lets -merge -underBinder x0 x1
  exact Keeps.ite (writeStatus_keeps _ _ _ (Keeps.mk' k0 rfl rfl rfl rfl rfl)) (Keeps.ite (postCompletion_keeps _ _ k0) (Keeps.mk' k0 rfl rfl rfl rfl
      rfl))

theorem countEnd_keeps {z : Base} (a0 a1 : _) (k0 : Keeps z a1) : Keeps z (countEnd a0 a1) := by
  unfold countEnd
  exact Keeps.ite (count_keeps _ _ _ _ _ k0) (count_keeps _ _ _ _ _ (count_keeps _ _ _ _ _ k0))

theorem writeResults_keeps {z : Base} (a0 a1 a2 : _) (k0 : Keeps z a2) : Keeps z (writeResults a0 a1 a2) := by
  unfold writeResults
  extract_lets -merge -underBinder x0
  exact Keeps.mk' k0 rfl rfl rfl rfl rfl

theorem finishCmd_keeps {z : Base} (a0 a1 a2 a3 a4 : _) (k0 : Keeps z a4) : Keeps z (finishCmd a0 a1 a2 a3 a4) := by
  unfold finishCmd
  exact reportEnd_keeps _ _ (countEnd_keeps _ _ (writeResults_keeps _ _ _ k0))

theorem noteTraffic_keeps {z : Base} (a0 : _) (k0 : Keeps z a0) : Keeps z (noteTraffic a0) := by
  unfold noteTraffic
  extract_lets -merge -underBinder x0
  exact Keeps.mk' k0 rfl rfl rfl rfl rfl

theorem noteEcrc_keeps {z : Base} (a0 a1 : _) (k0 : Keeps z a1) : Keeps z (noteEcrc a0 a1) := by
  unfold noteEcrc
  extract_lets -merge -underBinder x0 x1 x2
  have h3 : Keeps z x0 := bumpTotal_keeps _ _ _ (setFlag_keeps _ _ _ k0)
  exact Keeps.ite (Keeps.mk' h3 rfl rfl rfl rfl rfl) (Keeps.mk' h3 rfl rfl rfl rfl rfl)

theorem noteTlp_keeps {z : Base} (a0 a1 a2 : _) (k0 : Keeps z a2) : Keeps z (noteTlp a0 a1 a2) := by
  unfold noteTlp
  exact Keeps.ite (noteEcrc_keeps _ _ (raise_keeps _ _ _ k0)) (Keeps.ite (raise_keeps _ _ _ k0) k0)

theorem okCmd_keeps {z : Base} (a0 a1 : _) (k0 : Keeps z a0) : KeepsC z (okCmd a0 a1) := by
  unfold okCmd
  exact KeepsC.mk k0

theorem startCmd_keeps {z : Base} (a0 a1 : _) (k0 : Keeps z a1) : Keeps z (startCmd a0 a1) := by
  unfold startCmd
  extract_lets -merge -underBinder x0
  exact Keeps.mk' k0 rfl rfl rfl rfl rfl

theorem refuse_keeps {z : Base} (a0 a1 a2 : _) (k0 : Keeps z a0) : KeepsC z (refuse a0 a1 a2) := by
  unfold refuse
  exact KeepsC.mk k0

theorem setThr_keeps {z : Base} (a0 a1 a2 : _) (k0 : Keeps z a2) : Keeps z (setThr a0 a1 a2) := by
  unfold setThr
  extract_lets -merge -underBinder x0
  exact Keeps.mk' k0 rfl rfl rfl rfl rfl

theorem updThr_keeps {z : Base} (a0 a1 a2 : _) (k0 : Keeps z a2) : Keeps z (updThr a0 a1 a2) := by
  unfold updThr
  exact setThr_keeps _ _ _ k0

theorem setLock_keeps {z : Base} (a0 a1 a2 : _) (k0 : Keeps z a2) : Keeps z (setLock a0 a1 a2) := by
  unfold setLock
  extract_lets -merge -underBinder x0
  exact Keeps.mk' k0 rfl rfl rfl rfl rfl

theorem walk_keeps {z : Base} (a0 a1 : _) (k0 : Keeps z a1) : Keeps z (walk a0 a1) := by
  unfold walk
  refine Keeps.ite k0 ?_
  split
  · exact k0
  · extract_lets -merge -underBinder x0 x1 x2
    exact trace_keeps _ _ _ _ _ (count_keeps _ _ _ _ _ (updThr_keeps _ _ _ (Keeps.mk' k0 rfl rfl rfl rfl rfl)))

theorem makeReady_keeps {z : Base} (a0 a1 : _) (k0 : Keeps z a1) : Keeps z (makeReady a0 a1) := by
  unfold makeReady
  exact walk_keeps _ _ (updThr_keeps _ _ _ k0)

theorem markProgress_keeps {z : Base} (a0 a1 : _) (k0 : Keeps z a1) : Keeps z (markProgress a0 a1) := by
  unfold markProgress
  extract_lets -merge -underBinder x0
  exact Keeps.mk' k0 rfl rfl rfl rfl rfl

theorem progress_keeps {z : Base} (a0 a1 : _) (k0 : Keeps z a1) : Keeps z (progress a0 a1) := by
  unfold progress
  extract_lets -merge -underBinder x0
  exact Keeps.foldl (markProgress_keeps _ _ k0) (fun _ _ h1 => markProgress_keeps _ _ h1)

theorem stepDone_keeps {z : Base} (a0 a1 : _) (k0 : Keeps z a1) : Keeps z (stepDone a0 a1) := by
  unfold stepDone
  split
  · extract_lets -merge -underBinder x0
    exact Keeps.ite (Keeps.mk' k0 rfl rfl rfl rfl rfl) k0
  · exact k0

theorem endStall_keeps {z : Base} (a0 a1 : _) (k0 : Keeps z a1) : Keeps z (endStall a0 a1) := by
  unfold endStall
  exact makeReady_keeps _ _ (stepDone_keeps _ _ k0)

theorem setG_keeps {z : Base} (a0 a1 a2 a3 : _) (k0 : Keeps z a3) : Keeps z (setG a0 a1 a2 a3) := by
  unfold setG
  exact updThr_keeps _ _ _ k0

theorem logDramError_keeps {z : Base} (a0 a1 a2 a3 : _) (k0 : Keeps z a3) : Keeps z (logDramError a0 a1 a2 a3) := by
  unfold logDramError
  extract_lets -merge -underBinder x0 x1
  exact Keeps.mk' k0 rfl rfl rfl rfl rfl

theorem chanCount_keeps {z : Base} (a0 a1 a2 a3 : _) (k0 : Keeps z a3) : Keeps z (chanCount a0 a1 a2 a3) := by
  unfold chanCount
  exact count_keeps _ _ _ _ _ k0

theorem setChanState_keeps {z : Base} (a0 a1 a2 : _) (k0 : Keeps z a2) : Keeps z (setChanState a0 a1 a2) := by
  unfold setChanState
  extract_lets -merge -underBinder x0
  exact Keeps.mk' k0 rfl rfl rfl rfl rfl

theorem wakeChan_keeps {z : Base} (a0 a1 : _) (k0 : Keeps z a1) : Keeps z (wakeChan a0 a1) := by
  unfold wakeChan
  extract_lets -merge -underBinder x0
  exact Keeps.ite (setChanState_keeps _ _ _ (chanCount_keeps _ _ _ _ k0)) k0

theorem chanCountSome_keeps {z : Base} (a0 a1 a2 a3 : _) (k0 : Keeps z a3) : Keeps z (chanCountSome a0 a1 a2 a3) := by
  unfold chanCountSome
  exact Keeps.ite k0 (chanCount_keeps _ _ _ _ k0)

theorem issueRefresh_keeps {z : Base} (a0 a1 a2 : _) (k0 : Keeps z a2) : Keeps z (issueRefresh a0 a1 a2) := by
  unfold issueRefresh
  extract_lets -merge -underBinder x0
  exact chanCountSome_keeps _ _ _ _ (setChanState_keeps _ _ _ k0)

theorem issueDue_keeps {z : Base} (a0 a1 : _) (k0 : Keeps z a1) : Keeps z (issueDue a0 a1) := by
  unfold issueDue
  exact Keeps.foldl k0 (fun _ _ h0 => issueRefresh_keeps _ _ _ h0)

theorem setSubChan_keeps {z : Base} (a0 a1 a2 a3 : _) (k0 : Keeps z a3) : Keeps z (setSubChan a0 a1 a2 a3) := by
  unfold setSubChan
  extract_lets -merge -underBinder x0 x1
  exact setChanState_keeps _ _ _ k0

theorem putStep_keeps {z : Base} (a0 a1 a2 a3 : _) (k0 : Keeps z a3) : Keeps z (putStep a0 a1 a2 a3) := by
  unfold putStep
  exact chanCountSome_keeps _ _ _ _ (chanCountSome_keeps _ _ _ _ (chanCountSome_keeps _ _ _ _ (setSubChan_keeps _ _ _ _ k0)))

theorem runSub_keeps {z : Base} (a0 a1 a2 a3 : _) (k0 : Keeps z a3) : Keeps z (runSub a0 a1 a2 a3) := by
  unfold runSub
  extract_lets -merge -underBinder x0 x1
  have h2 : Keeps z x0 := issueDue_keeps _ _ k0
  exact Keeps.ite k0 (putStep_keeps _ _ _ _ h2)

theorem sendRequest_keeps {z : Base} (a0 a1 a2 a3 : _) (k0 : Keeps z a3) : Keeps z (sendRequest a0 a1 a2 a3) := by
  unfold sendRequest
  refine Keeps.ite k0 ?_
  split
  · exact k0
  · extract_lets -merge -underBinder x0 x1
    have h2 : Keeps z x0 := runSub_keeps _ _ _ _ k0
    exact setSubChan_keeps _ _ _ _ h2

theorem noteLine_keeps {z : Base} (a0 a1 a2 a3 a4 : _) (k0 : Keeps z a4) : Keeps z (noteLine a0 a1 a2 a3 a4) := by
  unfold noteLine
  split
  · exact k0
  · extract_lets -merge -underBinder x0 x1
    have h2 : Keeps z x1 := chanCount_keeps _ _ _ _ (chanCount_keeps _ _ _ _ k0)
    exact Keeps.ite k0 (Keeps.ite (logDramError_keeps _ _ _ _ (chanCount_keeps _ _ _ _ k0)) (Keeps.ite (wakeChan_keeps _ _ (setChanState_keeps _ _ _
        k0)) (sendRequest_keeps _ _ _ _ (Keeps.ite (chanCount_keeps _ _ _ _ h2) h2))))

theorem requestLines_keeps {z : Base} (a0 a1 a2 a3 a4 : _) (k0 : Keeps z a4) : Keeps z (requestLines a0 a1 a2 a3 a4) := by
  unfold requestLines
  exact Keeps.foldl k0 (fun _ _ h0 => noteLine_keeps _ _ _ _ _ h0)

theorem serveLine_keeps {z : Base} (a0 a1 a2 : _) (k0 : Keeps z a2) : Keeps z (serveLine a0 a1 a2) := by
  unfold serveLine
  split
  · exact k0
  · exact runSub_keeps _ _ _ _ k0

theorem serveLines_keeps {z : Base} (a0 a1 a2 a3 : _) (k0 : Keeps z a3) : Keeps z (serveLines a0 a1 a2 a3) := by
  unfold serveLines
  exact Keeps.foldl k0 (fun _ _ h0 => serveLine_keeps _ _ _ h0)

theorem noteAccess_keeps {z : Base} (a0 a1 a2 a3 a4 : _) (k0 : Keeps z a4) : Keeps z (noteAccess a0 a1 a2 a3 a4) := by
  unfold noteAccess
  extract_lets -merge -underBinder x0
  have h1 : Keeps z x0 := requestLines_keeps _ _ _ _ _ k0
  exact Keeps.ite h1 (serveLines_keeps _ _ _ _ h1)

theorem dramWrite_keeps {z : Base} (a0 a1 a2 a3 a4 : _) (k0 : Keeps z a4) : Keeps z (dramWrite a0 a1 a2 a3 a4) := by
  unfold dramWrite
  extract_lets -merge -underBinder x0 x1
  have h2 : Keeps z x0 := noteAccess_keeps _ _ _ _ _ (dramStore_keeps _ _ _ k0)
  exact Keeps.mk' h2 rfl rfl rfl rfl rfl

theorem emptyQueues_keeps {z : Base} (a0 a1 : _) (k0 : Keeps z a1) : Keeps z (emptyQueues a0 a1) := by
  unfold emptyQueues
  exact Keeps.foldl k0 (fun _ _ h0 => runSub_keeps _ _ _ _ h0)

theorem channelCycle_keeps {z : Base} (a0 a1 : _) (k0 : Keeps z a0) : Keeps z (channelCycle a0 a1) := by
  unfold channelCycle
  exact Keeps.ite k0 (Keeps.ite (issueDue_keeps _ _ k0) (Keeps.foldl k0 (fun _ _ h0 => putStep_keeps _ _ _ _ h0)))

theorem whenAwake_keeps {z : Base} (a0 a1 a2 : _) (k0 : ∀ y0, Keeps z y0 → Keeps z (a1 y0)) (k1 : Keeps z a2) : Keeps z (whenAwake a0 a1 a2) := by
  unfold whenAwake
  exact Keeps.ite (Keeps.foldl k1 (fun _ _ h0 => Keeps.ite (wakeChan_keeps _ _ h0) h0)) (k0 _ k1)

theorem dramCycle_keeps {z : Base} (a0 : _) (k0 : Keeps z a0) : Keeps z (dramCycle a0) := by
  unfold dramCycle
  exact Keeps.foldl k0 (fun _ _ h0 => channelCycle_keeps _ _ h0)

theorem resumeWaits_keeps {z : Base} (a0 a1 : _) (k0 : Keeps z a1) : Keeps z (resumeWaits a0 a1) := by
  unfold resumeWaits
  extract_lets -merge -underBinder x0
  exact Keeps.foldl (setChanState_keeps _ _ _ k0) (fun _ _ h1 => noteLine_keeps _ _ _ _ _ h1)

theorem setGroup_keeps {z : Base} (a0 a1 a2 : _) (k0 : Keeps z a2) : Keeps z (setGroup a0 a1 a2) := by
  unfold setGroup
  extract_lets -merge -underBinder x0
  exact Keeps.mk' k0 rfl rfl rfl rfl rfl

theorem takeCells_keeps {z : Base} (a0 a1 a2 a3 : _) (k0 : Keeps z a3) : KeepsQ z (takeCells a0 a1 a2 a3) := by
  unfold takeCells
  extract_lets -merge -underBinder x0
  exact KeepsQ.ite (KeepsQ.mk (setGroup_keeps _ _ _ k0)) (KeepsQ.mk (setGroup_keeps _ _ _ k0))

theorem setOwnerUse_keeps {z : Base} (a0 a1 a2 : _) (k0 : Keeps z a2) : Keeps z (setOwnerUse a0 a1 a2) := by
  unfold setOwnerUse
  extract_lets -merge -underBinder x0
  exact Keeps.mk' k0 rfl rfl rfl rfl rfl

theorem updOwner_keeps {z : Base} (a0 a1 a2 : _) (k0 : Keeps z a2) : Keeps z (updOwner a0 a1 a2) := by
  unfold updOwner
  exact setOwnerUse_keeps _ _ _ k0

theorem chargeUse_keeps {z : Base} (a0 a1 a2 a3 a4 : _) (k0 : Keeps z a4) : Keeps z (chargeUse a0 a1 a2 a3 a4) := by
  unfold chargeUse
  split
  · extract_lets -merge -underBinder x0
    exact updOwner_keeps _ _ _ (Keeps.mk' k0 rfl rfl rfl rfl rfl)
  · exact updOwner_keeps _ _ _ k0
  · exact updOwner_keeps _ _ _ k0

theorem setHandle_keeps {z : Base} (a0 a1 a2 : _) (k0 : Keeps z a2) : Keeps z (setHandle a0 a1 a2) := by
  unfold setHandle
  extract_lets -merge -underBinder x0
  exact Keeps.mk' k0 rfl rfl rfl rfl rfl

theorem addCells_keeps {z : Base} (a0 a1 a2 a3 : _) (k0 : Keeps z a3) : Keeps z (addCells a0 a1 a2 a3) := by
  unfold addCells
  extract_lets -merge -underBinder x0 x1 x2 x3 x4 x5
  have h6 : KeepsQ z x2 := takeCells_keeps _ _ _ _ k0
  have h7 : Keeps z x3 := chargeUse_keeps _ _ _ _ _ (KeepsQ.out h6)
  exact setHandle_keeps _ _ _ (Keeps.mk' h7 rfl rfl rfl rfl rfl)

theorem noteStale_keeps {z : Base} (a0 : _) (k0 : Keeps z a0) : Keeps z (noteStale a0) := by
  unfold noteStale
  exact raise_keeps _ _ _ (count_keeps _ _ _ _ _ (setFlag_keeps _ _ _ k0))

theorem noteRefError_keeps {z : Base} (a0 : _) (k0 : Keeps z a0) : Keeps z (noteRefError a0) := by
  unfold noteRefError
  exact raise_keeps _ _ _ (count_keeps _ _ _ _ _ (setFlag_keeps _ _ _ k0))

theorem updHandle_keeps {z : Base} (a0 a1 a2 : _) (k0 : Keeps z a2) : Keeps z (updHandle a0 a1 a2) := by
  unfold updHandle
  exact setHandle_keeps _ _ _ k0

theorem addRef_keeps {z : Base} (a0 a1 : _) (k0 : Keeps z a1) : Keeps z (addRef a0 a1) := by
  unfold addRef
  exact updHandle_keeps _ _ _ k0

theorem addPin_keeps {z : Base} (a0 a1 : _) (k0 : Keeps z a1) : Keeps z (addPin a0 a1) := by
  unfold addPin
  exact updHandle_keeps _ _ _ k0

theorem dropHead_keeps {z : Base} (a0 a1 : _) (k0 : Keeps z a1) : Keeps z (dropHead a0 a1) := by
  unfold dropHead
  extract_lets -merge -underBinder x0 x1
  exact Keeps.ite (setHandle_keeps _ _ _ (Keeps.mk' k0 rfl rfl rfl rfl rfl)) k0

theorem releaseIndex_keeps {z : Base} (a0 a1 : _) (k0 : Keeps z a1) : Keeps z (releaseIndex a0 a1) := by
  unfold releaseIndex
  exact updHandle_keeps _ _ _ (dropHead_keeps _ _ k0)

theorem giveCells_keeps {z : Base} (a0 a1 a2 a3 : _) (k0 : Keeps z a3) : Keeps z (giveCells a0 a1 a2 a3) := by
  unfold giveCells
  extract_lets -merge -underBinder x0
  exact Keeps.ite k0 (setGroup_keeps _ _ _ k0)

theorem dischargeUse_keeps {z : Base} (a0 a1 a2 a3 a4 : _) (k0 : Keeps z a4) : Keeps z (dischargeUse a0 a1 a2 a3 a4) := by
  unfold dischargeUse
  split
  · extract_lets -merge -underBinder x0
    exact updOwner_keeps _ _ _ (Keeps.mk' k0 rfl rfl rfl rfl rfl)
  · exact updOwner_keeps _ _ _ k0
  · exact updOwner_keeps _ _ _ k0

theorem freeSlots_keeps {z : Base} (a0 a1 a2 : _) (k0 : Keeps z a2) : Keeps z (freeSlots a0 a1 a2) := by
  unfold freeSlots
  extract_lets -merge -underBinder x0 x1 x2 x3 x4 x5 x6 x7 x8
  have h9 : Keeps z x6 := Keeps.foldl k0 (fun _ _ h12 => giveCells_keeps _ _ _ _ h12)
  have h10 : Keeps z x7 := Keeps.ite (dischargeUse_keeps _ _ _ _ _ h9) (dischargeUse_keeps _ _ _ _ _ (dischargeUse_keeps _ _ _ _ _ h9))
  have h11 : Keeps z x8 := setHandle_keeps _ _ _ h10
  exact Keeps.ite h11 (progress_keeps _ _ h11)

theorem freeHandle_keeps {z : Base} (a0 a1 : _) (k0 : Keeps z a1) : Keeps z (freeHandle a0 a1) := by
  unfold freeHandle
  exact Keeps.ite (releaseIndex_keeps _ _ (freeSlots_keeps _ _ _ k0)) (updHandle_keeps _ _ _ k0)

theorem dropRef_keeps {z : Base} (a0 a1 : _) (k0 : Keeps z a1) : Keeps z (dropRef a0 a1) := by
  unfold dropRef
  extract_lets -merge -underBinder x0 x1
  have h2 : Keeps z x1 := setHandle_keeps _ _ _ k0
  exact Keeps.ite (noteRefError_keeps _ k0) (Keeps.ite (freeHandle_keeps _ _ h2) h2)

theorem dropRefWord_keeps {z : Base} (a0 a1 : _) (k0 : Keeps z a1) : Keeps z (dropRefWord a0 a1) := by
  unfold dropRefWord
  exact Keeps.ite (noteStale_keeps _ k0) (dropRef_keeps _ _ k0)

theorem noteSpillRead_keeps {z : Base} (a0 a1 a2 a3 : _) (k0 : Keeps z a3) : Keeps z (noteSpillRead a0 a1 a2 a3) := by
  unfold noteSpillRead
  exact Keeps.foldl k0 (fun _ _ h0 => noteAccess_keeps _ _ _ _ _ h0)

theorem dropPin_keeps {z : Base} (a0 a1 : _) (k0 : Keeps z a1) : Keeps z (dropPin a0 a1) := by
  unfold dropPin
  extract_lets -merge -underBinder x0 x1 x2
  have h3 : Keeps z x0 := updHandle_keeps _ _ _ k0
  have h4 : Keeps z x2 := freeSlots_keeps _ _ _ (setHandle_keeps _ _ _ h3)
  exact Keeps.ite h3 (Keeps.ite (releaseIndex_keeps _ _ (freeSlots_keeps _ _ _ h3)) (Keeps.ite (Keeps.ite (releaseIndex_keeps _ _ h4) h4) h3))

theorem noteRing_keeps {z : Base} (a0 a1 a2 a3 a4 : _) (k0 : Keeps z a4) : Keeps z (noteRing a0 a1 a2 a3 a4) := by
  unfold noteRing
  extract_lets -merge -underBinder x0
  exact noteAccess_keeps _ _ _ _ _ (noteAccess_keeps _ _ _ _ _ k0)

theorem ringRefill_keeps {z : Base} (a0 a1 a2 : _) (k0 : Keeps z a2) : Keeps z (ringRefill a0 a1 a2) := by
  unfold ringRefill
  extract_lets -merge -underBinder x0
  split
  · extract_lets -merge -underBinder x1 x2 x3 x4 x5 x6 x7
    have h8 : Keeps z x2 := noteRing_keeps _ _ _ _ _ k0
    have h9 : Keeps z x7 := setGroup_keeps _ _ _ h8
    exact Keeps.ite k0 (Keeps.ite h9 (Keeps.foldl (setFlag_keeps _ _ _ h9) (fun _ _ h10 => raise_keeps _ _ _ (count_keeps _ _ _ _ _ h10))))

theorem topUpN_keeps {z : Base} (k : Nat) : ∀ (g : Nat) (b : Bool) (n : Nat) (s : State), Keeps z s → Keeps z (topUpN k g b n s) := by
  induction k with
  | zero => exact fun _ _ _ _ h => h
  | succ k ih => exact fun _ _ _ _ h => Keeps.ite (ih _ _ _ _ (ringRefill_keeps _ _ _ h)) h

theorem topUp_keeps {z : Base} (a0 a1 a2 a3 : _) (k0 : Keeps z a3) : Keeps z (topUp a0 a1 a2 a3) := by
  unfold topUp
  exact topUpN_keeps _ _ _ _ _ k0

theorem readyHeadroom_keeps {z : Base} (a0 a1 a2 a3 a4 a5 : _) (k0 : Keeps z a5) : KeepsQ z (readyHeadroom a0 a1 a2 a3 a4 a5) := by
  unfold readyHeadroom
  extract_lets -merge -underBinder x0
  have h1 : Keeps z x0 := topUp_keeps _ _ _ _ k0
  exact KeepsQ.ite (KeepsQ.mk h1) (KeepsQ.mk k0)

theorem readyVat_keeps {z : Base} (a0 a1 a2 a3 a4 : _) (k0 : Keeps z a4) : KeepsQ z (readyVat a0 a1 a2 a3 a4) := by
  unfold readyVat
  extract_lets -merge -underBinder x0
  have h1 : Keeps z x0 := topUp_keeps _ _ _ _ k0
  exact KeepsQ.ite (KeepsQ.mk h1) (KeepsQ.mk k0)

theorem noteSpillFull_keeps {z : Base} (a0 : _) (k0 : Keeps z a0) : Keeps z (noteSpillFull a0) := by
  unfold noteSpillFull
  exact raiseFirst_keeps _ _ _ _ (count_keeps _ _ _ _ _ (setFlag_keeps _ _ _ k0))

theorem readySpill_keeps {z : Base} (a0 a1 a2 a3 a4 : _) (k0 : Keeps z a4) : KeepsQ z (readySpill a0 a1 a2 a3 a4) := by
  unfold readySpill
  extract_lets -merge -underBinder x0
  have h1 : Keeps z x0 := topUp_keeps _ _ _ _ k0
  exact KeepsQ.ite (KeepsQ.ite (KeepsQ.mk h1) (KeepsQ.mk (Keeps.ite (noteSpillFull_keeps _ h1) h1))) (KeepsQ.mk k0)

theorem newHandle_keeps {z : Base} (a0 a1 : _) (k0 : Keeps z a1) : KeepsQ z (newHandle a0 a1) := by
  unfold newHandle
  extract_lets -merge -underBinder x0 x1
  exact KeepsQ.mk (setHandle_keeps _ _ _ (drawFree_keeps _ k0))

theorem afterGrant_keeps {z : Base} (a0 a1 a2 : _) (k0 : Keeps z a2) : Keeps z (afterGrant a0 a1 a2) := by
  unfold afterGrant
  extract_lets -merge -underBinder x0 x1 x2 x3 x4
  have h5 : Keeps z x1 := countMax_keeps _ _ _ _ _ k0
  have h6 : Keeps z x2 := updOwner_keeps _ _ _ h5
  have h7 : Keeps z x4 := Keeps.mk' h6 rfl rfl rfl rfl rfl
  exact Keeps.ite (Keeps.ite (Keeps.ite (raise_keeps _ _ _ h7) h7) h6) h5

theorem setSub_keeps {z : Base} (a0 a1 a2 : _) (k0 : Keeps z a2) : Keeps z (setSub a0 a1 a2) := by
  unfold setSub
  extract_lets -merge -underBinder x0
  exact Keeps.mk' k0 rfl rfl rfl rfl rfl

theorem updSub_keeps {z : Base} (a0 a1 a2 : _) (k0 : Keeps z a2) : Keeps z (updSub a0 a1 a2) := by
  unfold updSub
  exact setSub_keeps _ _ _ k0

theorem setPort_keeps {z : Base} (a0 a1 a2 : _) (k0 : Keeps z a2) : Keeps z (setPort a0 a1 a2) := by
  unfold setPort
  extract_lets -merge -underBinder x0
  exact Keeps.mk' k0 rfl rfl rfl rfl rfl

theorem noteRefusedFree_keeps {z : Base} (a0 a1 a2 a3 : _) (k0 : Keeps z a3) : Keeps z (noteRefusedFree a0 a1 a2 a3) := by
  unfold noteRefusedFree
  exact raise_keeps _ _ _ (count_keeps _ _ _ _ _ (setFlag_keeps _ _ _ k0))

theorem ringPut_keeps {z : Base} (a0 a1 a2 a3 a4 : _) (k0 : Keeps z a4) : Keeps z (ringPut a0 a1 a2 a3 a4) := by
  unfold ringPut
  extract_lets -merge -underBinder x0
  exact dramWrite_keeps _ _ _ _ _ (dramWrite_keeps _ _ _ _ _ k0)

theorem ringWriteBack_keeps {z : Base} (a0 a1 a2 : _) (k0 : Keeps z a2) : Keeps z (ringWriteBack a0 a1 a2) := by
  unfold ringWriteBack
  extract_lets -merge -underBinder x0
  split
  · extract_lets -merge -underBinder x1 x2
    have h3 : Keeps z x2 := ringPut_keeps _ _ _ _ _ k0
    exact Keeps.ite k0 (setGroup_keeps _ _ _ h3)

theorem setPipe_keeps {z : Base} (a0 a1 a2 : _) (k0 : Keeps z a2) : Keeps z (setPipe a0 a1 a2) := by
  unfold setPipe
  extract_lets -merge -underBinder x0
  exact Keeps.mk' k0 rfl rfl rfl rfl rfl

theorem updPipe_keeps {z : Base} (a0 a1 a2 : _) (k0 : Keeps z a2) : Keeps z (updPipe a0 a1 a2) := by
  unfold updPipe
  exact setPipe_keeps _ _ _ k0

theorem noteCorrected_keeps {z : Base} (a0 a1 a2 : _) (k0 : Keeps z a2) : Keeps z (noteCorrected a0 a1 a2) := by
  unfold noteCorrected
  exact Keeps.ite k0 (raiseFirst_keeps _ _ _ _ (bumpTotal_keeps _ _ _ (setFlag_keeps _ _ _ k0)))

theorem poisonVatLine_keeps {z : Base} (a0 a1 a2 : _) (k0 : Keeps z a2) : Keeps z (poisonVatLine a0 a1 a2) := by
  unfold poisonVatLine
  extract_lets -merge -underBinder x0 x1 x2
  have h3 : Keeps z x1 := setHandle_keeps _ _ _ k0
  have h4 : Keeps z x2 := bumpTotal_keeps _ _ _ (setFlag_keeps _ _ _ h3)
  split
  · exact raise_keeps _ _ _ h4
  · exact raise_keeps _ _ _ (drawFree_keeps _ h4)

theorem checkVat_keeps {z : Base} (a0 a1 a2 a3 : _) (k0 : Keeps z a3) : Keeps z (checkVat a0 a1 a2 a3) := by
  unfold checkVat
  extract_lets -merge -underBinder x0 x1 x2 x3 x4 x5 x6
  have h7 : Keeps z x6 := Keeps.mk' k0 rfl rfl rfl rfl rfl
  exact Keeps.ite k0 (Keeps.foldl (noteCorrected_keeps _ _ _ h7) (fun _ _ h8 => poisonVatLine_keeps _ _ _ h8))

theorem renewVat_keeps {z : Base} (a0 a1 a2 a3 : _) (k0 : Keeps z a3) : Keeps z (renewVat a0 a1 a2 a3) := by
  unfold renewVat
  extract_lets -merge -underBinder x0 x1 x2 x3 x4
  have h5 : Keeps z x0 := Keeps.ite k0 (checkVat_keeps _ _ _ _ k0)
  have h6 : Keeps z x1 := Keeps.ite h5 (checkVat_keeps _ _ _ _ h5)
  exact Keeps.ite k0 (Keeps.mk' h6 rfl rfl rfl rfl rfl)

theorem poisonCtxLine_keeps {z : Base} (a0 a1 a2 : _) (k0 : Keeps z a2) : Keeps z (poisonCtxLine a0 a1 a2) := by
  unfold poisonCtxLine
  extract_lets -merge -underBinder x0 x1
  have h2 : Keeps z x1 := Keeps.mk' k0 rfl rfl rfl rfl rfl
  exact raise_keeps _ _ _ (bumpTotal_keeps _ _ _ (setFlag_keeps _ _ _ h2))

theorem checkCtx_keeps {z : Base} (a0 a1 a2 a3 : _) (k0 : Keeps z a3) : Keeps z (checkCtx a0 a1 a2 a3) := by
  unfold checkCtx
  extract_lets -merge -underBinder x0 x1 x2 x3 x4
  have h5 : Keeps z x4 := Keeps.mk' k0 rfl rfl rfl rfl rfl
  exact Keeps.ite k0 (Keeps.foldl (noteCorrected_keeps _ _ _ h5) (fun _ _ h6 => poisonCtxLine_keeps _ _ _ h6))

theorem renewCtx_keeps {z : Base} (a0 a1 a2 a3 : _) (k0 : Keeps z a3) : Keeps z (renewCtx a0 a1 a2 a3) := by
  unfold renewCtx
  extract_lets -merge -underBinder x0 x1 x2 x3
  have h4 : Keeps z x0 := Keeps.ite k0 (checkCtx_keeps _ _ _ _ k0)
  have h5 : Keeps z x1 := Keeps.ite h4 (checkCtx_keeps _ _ _ _ h4)
  exact Keeps.ite k0 (Keeps.mk' h5 rfl rfl rfl rfl rfl)

theorem checkDmem_keeps {z : Base} (a0 a1 : _) (k0 : Keeps z a1) : Keeps z (checkDmem a0 a1) := by
  unfold checkDmem
  extract_lets -merge -underBinder x0 x1
  exact Keeps.ite k0 (noteCorrected_keeps _ _ _ (Keeps.mk' k0 rfl rfl rfl rfl rfl))

theorem checkImem_keeps {z : Base} (a0 a1 : _) (k0 : Keeps z a1) : Keeps z (checkImem a0 a1) := by
  unfold checkImem
  extract_lets -merge -underBinder x0 x1
  exact Keeps.ite k0 (noteCorrected_keeps _ _ _ (Keeps.mk' k0 rfl rfl rfl rfl rfl))

theorem noteCellParity_keeps {z : Base} (a0 a1 a2 a3 : _) (k0 : Keeps z a3) : Keeps z (noteCellParity a0 a1 a2 a3) := by
  unfold noteCellParity
  exact Keeps.ite k0 (Keeps.foldl (bumpTotal_keeps _ _ _ (setFlag_keeps _ _ _ k0)) (fun _ _ h0 => raise_keeps _ _ _ h0))

theorem addCopyRefs_keeps {z : Base} (w : HandleWord) (l : List Dest) : ∀ (s : State), Keeps z s → KeepsQ z (addCopyRefs w l s) := by
  induction l with
  | nil => exact fun _ h => h
  | cons d r ih =>
    intro s h
    unfold addCopyRefs
    split
    · exact ih _ (noteStale_keeps _ h)
    · split
      · exact ih _ (noteRefError_keeps _ h)
      · exact ih _ (addRef_keeps _ _ h)

theorem leavePrefetch_keeps {z : Base} (a0 a1 : _) (k0 : Keeps z a1) : Keeps z (leavePrefetch a0 a1) := by
  unfold leavePrefetch
  extract_lets -merge -underBinder x0
  exact Keeps.ite (Keeps.mk' k0 rfl rfl rfl rfl rfl) k0

theorem dropCopy_keeps {z : Base} (a0 a1 : _) (k0 : Keeps z a1) : Keeps z (dropCopy a0 a1) := by
  unfold dropCopy
  exact dropRefWord_keeps _ _ (leavePrefetch_keeps _ _ k0)

theorem setQueue_keeps {z : Base} (a0 a1 a2 a3 : _) (k0 : Keeps z a3) : Keeps z (setQueue a0 a1 a2 a3) := by
  unfold setQueue
  extract_lets -merge -underBinder x0
  exact Keeps.mk' k0 rfl rfl rfl rfl rfl

theorem enqueueCopy_keeps {z : Base} (a0 a1 a2 a3 : _) (k0 : Keeps z a3) : Keeps z (enqueueCopy a0 a1 a2 a3) := by
  unfold enqueueCopy
  extract_lets -merge -underBinder x0 x1 x2
  have h3 : Keeps z x1 := countMax_keeps _ _ _ _ _ (count_keeps _ _ _ _ _ k0)
  exact Keeps.ite (dropCopy_keeps _ _ (count_keeps _ _ _ _ _ k0)) (setQueue_keeps _ _ _ _ (Keeps.mk' h3 rfl rfl rfl rfl rfl))

theorem setExr_keeps {z : Base} (a0 a1 a2 : _) (k0 : Keeps z a2) : Keeps z (setExr a0 a1 a2) := by
  unfold setExr
  extract_lets -merge -underBinder x0
  exact Keeps.mk' k0 rfl rfl rfl rfl rfl

theorem exrWrite_keeps {z : Base} (a0 a1 a2 : _) (k0 : Keeps z a2) : Keeps z (exrWrite a0 a1 a2) := by
  unfold exrWrite
  extract_lets -merge -underBinder x0 x1 x2 x3 x4 x5 x6 x7
  have h8 : Keeps z x3 := hostWriteBad_keeps _ _ _ _ k0
  have h9 : Keeps z x4 := setExr_keeps _ _ _ h8
  have h10 : Keeps z x5 := hostWrite_keeps _ _ _ h9
  have h11 : Keeps z x6 := count_keeps _ _ _ _ _ h10
  have h12 : Keeps z x7 := Keeps.ite (count_keeps _ _ _ _ _ h11) h11
  exact markCause_keeps _ _ h12

theorem exrCopy_keeps {z : Base} (a0 a1 a2 : _) (k0 : Keeps z a2) : Keeps z (exrCopy a0 a1 a2) := by
  unfold exrCopy
  extract_lets -merge -underBinder x0 x1 x2
  have h3 : Keeps z x1 := checkVat_keeps _ _ _ _ (checkVat_keeps _ _ _ _ k0)
  have h4 : Keeps z x2 := noteSpillRead_keeps _ _ _ _ h3
  exact Keeps.ite (noteStale_keeps _ k0) (dropRefWord_keeps _ _ (exrWrite_keeps _ _ _ h4))

theorem exrArrive_keeps {z : Base} (a0 a1 a2 : _) (k0 : Keeps z a2) : Keeps z (exrArrive a0 a1 a2) := by
  unfold exrArrive
  extract_lets -merge -underBinder x0 x1
  exact Keeps.ite (exrCopy_keeps _ _ _ k0) (Keeps.mk' k0 rfl rfl rfl rfl rfl)

theorem sendCopy_keeps {z : Base} (a0 a1 a2 : _) (k0 : Keeps z a2) : Keeps z (sendCopy a0 a1 a2) := by
  unfold sendCopy
  split
  · exact enqueueCopy_keeps _ _ _ _ k0
  · exact exrArrive_keeps _ _ _ k0

theorem releaseOutput_keeps {z : Base} (a0 a1 a2 a3 : _) (k0 : Keeps z a3) : Keeps z (releaseOutput a0 a1 a2 a3) := by
  unfold releaseOutput
  split
  · exact dropRefWord_keeps _ _ k0
  · extract_lets -merge -underBinder x0
    have h1 : KeepsQ z x0 := addCopyRefs_keeps _ _ _ k0
    exact Keeps.foldl (KeepsQ.out h1) (fun _ _ h2 => sendCopy_keeps _ _ _ h2)

theorem exrDrainN_keeps {z : Base} (n : Nat) : ∀ (r : Nat) (s : State), Keeps z s → Keeps z (exrDrainN n r s) := by
  induction n with
  | zero => exact fun _ _ h => h
  | succ n ih =>
    intro r s h
    unfold exrDrainN
    split
    · exact h
    · exact Keeps.ite h (ih _ _ (exrCopy_keeps _ _ _ (Keeps.mk' h rfl rfl rfl rfl rfl)))

theorem exrDrain_keeps {z : Base} (a0 a1 : _) (k0 : Keeps z a1) : Keeps z (exrDrain a0 a1) := by
  unfold exrDrain
  exact exrDrainN_keeps _ _ _ k0

theorem ctxWrite_keeps {z : Base} (a0 a1 a2 a3 : _) (k0 : Keeps z a3) : Keeps z (ctxWrite a0 a1 a2 a3) := by
  unfold ctxWrite
  extract_lets -merge -underBinder x0 x1 x2 x3
  have h4 : Keeps z x0 := renewCtx_keeps _ _ _ _ k0
  have h5 : Keeps z x3 := Keeps.mk' h4 rfl rfl rfl rfl rfl
  split
  · extract_lets -merge -underBinder x6
    exact Keeps.mk' h5 rfl rfl rfl rfl rfl
  · extract_lets -merge -underBinder x7
    exact Keeps.mk' h5 rfl rfl rfl rfl rfl

theorem ctxTouch_keeps {z : Base} (a0 a1 : _) (k0 : Keeps z a1) : Keeps z (ctxTouch a0 a1) := by
  unfold ctxTouch
  split
  · exact k0
  · extract_lets -merge -underBinder x0
    exact Keeps.mk' k0 rfl rfl rfl rfl rfl

theorem noteOrphan_keeps {z : Base} (a0 : _) (k0 : Keeps z a0) : Keeps z (noteOrphan a0) := by
  unfold noteOrphan
  exact raise_keeps _ _ _ (count_keeps _ _ _ _ _ (setFlag_keeps _ _ _ k0))

theorem ctxCount4_keeps {z : Base} (a0 a1 a2 : _) (k0 : Keeps z a2) : Keeps z (ctxCount4 a0 a1 a2) := by
  unfold ctxCount4
  extract_lets -merge -underBinder x0
  have h1 : Keeps z x0 := checkCtx_keeps _ _ _ _ k0
  exact ctxWrite_keeps _ _ _ _ h1

theorem evidenceLoss_keeps {z : Base} (a0 a1 a2 : _) (k0 : Keeps z a2) : Keeps z (evidenceLoss a0 a1 a2) := by
  unfold evidenceLoss
  split
  · exact noteOrphan_keeps _ k0
  · extract_lets -merge -underBinder x0 x1 x2
    have h3 : Keeps z x0 := ctxCount4_keeps _ _ _ k0
    have h4 : Keeps z x2 := Keeps.mk' h3 rfl rfl rfl rfl rfl
    exact raiseFirst_keeps _ _ _ _ (count_keeps _ _ _ _ _ (setFlag_keeps _ _ _ h4))

theorem ctxWriteBack_keeps {z : Base} (a0 a1 : _) (k0 : Keeps z a1) : Keeps z (ctxWriteBack a0 a1) := by
  unfold ctxWriteBack
  split
  · exact k0
  · extract_lets -merge -underBinder x0 x1 x2
    have h3 : Keeps z x0 := checkCtx_keeps _ _ _ _ k0
    exact Keeps.mk' h3 rfl rfl rfl rfl rfl

theorem ctxEvict_keeps {z : Base} (a0 a1 : _) (k0 : Keeps z a1) : Keeps z (ctxEvict a0 a1) := by
  unfold ctxEvict
  extract_lets -merge -underBinder x0
  refine Keeps.ite k0 ?_
  split
  · exact ctxWriteBack_keeps _ _ k0
  · exact k0

theorem ctxLoad_keeps {z : Base} (a0 a1 a2 : _) (k0 : Keeps z a2) : Keeps z (ctxLoad a0 a1 a2) := by
  unfold ctxLoad
  extract_lets -merge -underBinder x0 x1 x2
  have h3 : Keeps z x0 := checkCtx_keeps _ _ _ _ (ctxEvict_keeps _ _ (ctxWriteBack_keeps _ _ k0))
  have h4 : Keeps z x2 := Keeps.ite k0 (Keeps.mk' h3 rfl rfl rfl rfl rfl)
  exact ctxTouch_keeps _ _ h4

theorem ctxDiscard_keeps {z : Base} (a0 a1 : _) (k0 : Keeps z a1) : Keeps z (ctxDiscard a0 a1) := by
  unfold ctxDiscard
  split
  · exact k0
  · extract_lets -merge -underBinder x0
    exact Keeps.mk' k0 rfl rfl rfl rfl rfl

theorem evidencePoison_keeps {z : Base} (a0 a1 : _) (k0 : Keeps z a1) : Keeps z (evidencePoison a0 a1) := by
  unfold evidencePoison
  split
  · exact noteOrphan_keeps _ k0
  · exact count_keeps _ _ _ _ _ (ctxCount4_keeps _ _ _ k0)

theorem dropItem_keeps {z : Base} (a0 a1 : _) (k0 : Keeps z a1) : Keeps z (dropItem a0 a1) := by
  unfold dropItem
  extract_lets -merge -underBinder x0
  exact Keeps.mk' k0 rfl rfl rfl rfl rfl

theorem noteStampVoid_keeps {z : Base} (a0 a1 : _) (k0 : Keeps z a1) : Keeps z (noteStampVoid a0 a1) := by
  unfold noteStampVoid
  exact raise_keeps _ _ _ (Keeps.ite k0 (count_keeps _ _ _ _ _ k0))

theorem releaseItem_keeps {z : Base} (a0 a1 a2 : _) (k0 : Keeps z a2) : Keeps z (releaseItem a0 a1 a2) := by
  unfold releaseItem
  extract_lets -merge -underBinder x0 x1 x2
  have h3 : Keeps z x0 := dropItem_keeps _ _ k0
  have h4 : Keeps z x2 := Keeps.mk' h3 rfl rfl rfl rfl rfl
  refine Keeps.ite h4 ?_
  split
  · exact Keeps.foldl (noteStampVoid_keeps _ _ h4) (fun _ _ h5 => dropRefWord_keeps _ _ h5)
  · exact Keeps.foldl (count_keeps _ _ _ _ _ h4) (fun _ _ h6 => releaseOutput_keeps _ _ _ _ h6)

theorem releaseRun_keeps {z : Base} (n : Nat) : ∀ (d : BitVec 16) (s : State), Keeps z s → Keeps z (releaseRun n d s) := by
  induction n with
  | zero => exact fun _ _ h => h
  | succ n ih =>
    intro d s h
    unfold releaseRun
    extract_lets k
    split
    · exact h
    · exact Keeps.ite (ih _ _ (releaseItem_keeps _ _ _ h)) h

theorem releaseDomain_keeps {z : Base} (a0 a1 : _) (k0 : Keeps z a1) : Keeps z (releaseDomain a0 a1) := by
  unfold releaseDomain
  exact releaseRun_keeps _ _ _ k0

theorem putItem_keeps {z : Base} (a0 a1 a2 : _) (k0 : Keeps z a2) : Keeps z (putItem a0 a1 a2) := by
  unfold putItem
  extract_lets -merge -underBinder x0
  exact Keeps.mk' k0 rfl rfl rfl rfl rfl

theorem unlist_keeps {z : Base} (a0 a1 : _) (k0 : Keeps z a1) : Keeps z (unlist a0 a1) := by
  unfold unlist
  extract_lets -merge -underBinder x0
  exact Keeps.mk' k0 rfl rfl rfl rfl rfl

theorem noteThaw_keeps {z : Base} (a0 a1 : _) (k0 : Keeps z a1) : Keeps z (noteThaw a0 a1) := by
  unfold noteThaw
  extract_lets -merge -underBinder x0
  exact Keeps.ite k0 (Keeps.mk' k0 rfl rfl rfl rfl rfl)

theorem endItem_keeps {z : Base} (a0 a1 a2 : _) (k0 : Keeps z a2) : Keeps z (endItem a0 a1 a2) := by
  unfold endItem
  split
  · exact k0
  · extract_lets -merge -underBinder x0 x1
    have h2 : Keeps z x0 := by
      show Keeps z (_)
      unfold x0
      split
      · exact ctxTouch_keeps _ _ k0
      · exact k0
    exact releaseDomain_keeps _ _ (putItem_keeps _ _ _ (unlist_keeps _ _ (noteThaw_keeps _ _ h2)))

theorem voidItem_keeps {z : Base} (a0 a1 : _) (k0 : Keeps z a1) : Keeps z (voidItem a0 a1) := by
  unfold voidItem
  split
  · exact k0
  · extract_lets -merge -underBinder x0 x1
    have h2 : Keeps z x0 := Keeps.foldl k0 (fun _ _ h4 => dropRefWord_keeps _ _ h4)
    have h3 : Keeps z x1 := Keeps.ite h2 (dropRefWord_keeps _ _ h2)
    exact endItem_keeps _ _ _ h3

theorem countLate_keeps {z : Base} (a0 a1 a2 a3 : _) (k0 : Keeps z a3) : Keeps z (countLate a0 a1 a2 a3) := by
  unfold countLate
  extract_lets -merge -underBinder x0
  exact Keeps.mk' k0 rfl rfl rfl rfl rfl

theorem lateLoss_keeps {z : Base} (a0 a1 : _) (k0 : Keeps z a1) : Keeps z (lateLoss a0 a1) := by
  unfold lateLoss
  extract_lets -merge -underBinder x0
  have h1 : Keeps z x0 := countLate_keeps _ _ _ _ (bumpTotal_keeps _ _ _ k0)
  exact Keeps.ite (evidenceLoss_keeps _ _ _ h1) h1

theorem seqLimit_keeps {z : Base} (a0 a1 : _) (k0 : Keeps z a1) : Keeps z (seqLimit a0 a1) := by
  unfold seqLimit
  extract_lets -merge -underBinder x0 x1
  have h2 : Keeps z x0 := Keeps.ite k0 (dropRefWord_keeps _ _ k0)
  have h3 : Keeps z x1 := raiseFirst_keeps _ _ _ _ (count_keeps _ _ _ _ _ (setFlag_keeps _ _ _ h2))
  exact Keeps.ite (lateLoss_keeps _ _ h3) h3

theorem voidCounted_keeps {z : Base} (a0 a1 a2 : _) (k0 : Keeps z a2) : Keeps z (voidCounted a0 a1 a2) := by
  unfold voidCounted
  exact voidItem_keeps _ _ (count_keeps _ _ _ _ _ k0)

theorem wakeBelow_keeps {z : Base} (a0 a1 a2 : _) (k0 : Keeps z a2) : Keeps z (wakeBelow a0 a1 a2) := by
  unfold wakeBelow
  extract_lets -merge -underBinder x0
  split
  · extract_lets -merge -underBinder x1
    exact Keeps.ite (Keeps.mk' k0 rfl rfl rfl rfl rfl) k0
  · exact k0

theorem agedLookups_keeps {z : Base} (a0 a1 : _) (k0 : Keeps z a1) : Keeps z (agedLookups a0 a1) := by
  unfold agedLookups
  extract_lets -merge -underBinder x0
  exact Keeps.mk' k0 rfl rfl rfl rfl rfl

theorem deliver_keeps {z : Base} (a0 a1 a2 a3 : _) (k0 : Keeps z a3) : Keeps z (deliver a0 a1 a2 a3) := by
  unfold deliver
  split
  · exact noteStampVoid_keeps _ _ (voidItem_keeps _ _ k0)
  · extract_lets -merge -underBinder x0 x1 x2 x3 x4 x5 x6 x7 x8 x9
    have h10 : Keeps z x0 := ctxLoad_keeps _ _ _ k0
    have h11 : Keeps z x2 := putItem_keeps _ _ _ h10
    have h12 : Keeps z x4 := agedLookups_keeps _ _ h11
    have h13 : Keeps z x5 := Keeps.ite h12 (dropHead_keeps _ _ h12)
    have h14 : Keeps z x8 := Keeps.mk' h13 rfl rfl rfl rfl rfl
    have h15 : Keeps z x9 := markProgress_keeps _ _ (markProgress_keeps _ _ h14)
    exact walk_keeps _ _ (setThr_keeps _ _ _ h15)

theorem runOn_keeps {z : Base} (a0 a1 a2 a3 a4 : _) (k0 : Keeps z a4) : Keeps z (runOn a0 a1 a2 a3 a4) := by
  unfold runOn
  split
  · exact wakeBelow_keeps _ _ _ (deliver_keeps _ _ _ _ (count_keeps _ _ _ _ _ k0))
  · exact k0

theorem waitAffinity_keeps {z : Base} (a0 a1 a2 a3 : _) (k0 : Keeps z a3) : Keeps z (waitAffinity a0 a1 a2 a3) := by
  unfold waitAffinity
  extract_lets -merge -underBinder x0 x1
  have h2 : Keeps z x0 := putItem_keeps _ _ _ (count_keeps _ _ _ _ _ k0)
  exact Keeps.mk' h2 rfl rfl rfl rfl rfl

theorem waitGlobal_keeps {z : Base} (a0 a1 a2 : _) (k0 : Keeps z a2) : Keeps z (waitGlobal a0 a1 a2) := by
  unfold waitGlobal
  extract_lets -merge -underBinder x0 x1
  have h2 : Keeps z x0 := putItem_keeps _ _ _ (count_keeps _ _ _ _ _ k0)
  exact Keeps.mk' h2 rfl rfl rfl rfl rfl

theorem placeBy_keeps {z : Base} (a0 a1 a2 a3 : _) (k0 : Keeps z a3) : Keeps z (placeBy a0 a1 a2 a3) := by
  unfold placeBy
  extract_lets -merge -underBinder x0
  clear_value x0
  split
  · refine Keeps.ite (Keeps.ite (runOn_keeps _ _ _ _ _ k0) (waitAffinity_keeps _ _ _ _ k0)) (Keeps.ite (runOn_keeps _ _ _ _ _ k0) ?_)
    split
    · exact runOn_keeps _ _ _ _ _ k0
    · exact waitGlobal_keeps _ _ _ k0
  · split
    · exact runOn_keeps _ _ _ _ _ k0
    · exact waitGlobal_keeps _ _ _ k0

theorem place_keeps {z : Base} (a0 a1 a2 : _) (k0 : Keeps z a2) : Keeps z (place a0 a1 a2) := by
  unfold place
  exact placeBy_keeps _ _ _ _ k0

theorem wakeFor_keeps {z : Base} (a0 a1 : _) (k0 : Keeps z a1) : Keeps z (wakeFor a0 a1) := by
  unfold wakeFor
  exact wakeBelow_keeps _ _ _ k0

theorem enterItem_keeps {z : Base} (a0 a1 : _) (k0 : Keeps z a1) : Keeps z (enterItem a0 a1) := by
  unfold enterItem
  extract_lets -merge -underBinder x0 x1 x2 x3 x4 x5 x6
  have h7 : Keeps z x0 := count_keeps _ _ _ _ _ k0
  have h8 : Keeps z x1 := Keeps.ite (trace_keeps _ _ _ _ _ (markProgress_keeps _ _ h7)) h7
  have h9 : Keeps z x6 := Keeps.mk' h8 rfl rfl rfl rfl rfl
  refine Keeps.ite (seqLimit_keeps _ _ h8) ?_
  split
  · exact noteStampVoid_keeps _ _ (voidItem_keeps _ _ (putItem_keeps _ _ _ h9))
  · extract_lets -merge -underBinder x10 x11 x12 x13
    have h14 : Keeps z x12 := raiseFirst_keeps _ _ _ _ (setFlag_keeps _ _ _ h9)
    have h15 : Keeps z x13 := Keeps.ite (evidenceLoss_keeps _ _ _ h14) h14
    exact Keeps.ite (voidCounted_keeps _ _ _ (putItem_keeps _ _ _ h15)) (place_keeps _ _ _ (wakeFor_keeps _ _ (putItem_keeps _ _ _ h9)))

theorem completionEvent_keeps {z : Base} (a0 a1 : _) (k0 : Keeps z a1) : Keeps z (completionEvent a0 a1) := by
  unfold completionEvent
  extract_lets -merge -underBinder x0
  exact Keeps.ite (enterItem_keeps _ _ k0) (Keeps.mk' k0 rfl rfl rfl rfl rfl)

theorem updItem_keeps {z : Base} (a0 a1 a2 : _) (k0 : Keeps z a2) : Keeps z (updItem a0 a1 a2) := by
  unfold updItem
  split
  · exact putItem_keeps _ _ _ k0
  · exact k0

theorem lateDrop_keeps {z : Base} (a0 a1 : _) (k0 : Keeps z a1) : Keeps z (lateDrop a0 a1) := by
  unfold lateDrop
  extract_lets -merge -underBinder x0
  have h1 : Keeps z x0 := countLate_keeps _ _ _ _ (bumpTotal_keeps _ _ _ k0)
  exact Keeps.ite (evidenceLoss_keeps _ _ _ h1) h1

theorem lateResumed_keeps {z : Base} (a0 a1 : _) (k0 : Keeps z a1) : Keeps z (lateResumed a0 a1) := by
  unfold lateResumed
  exact countLate_keeps _ _ _ _ (bumpTotal_keeps _ _ _ k0)

theorem updPtp_keeps {z : Base} (a0 a1 : _) (k0 : Keeps z a1) : Keeps z (updPtp a0 a1) := by
  unfold updPtp
  extract_lets -merge -underBinder x0
  exact Keeps.mk' k0 rfl rfl rfl rfl rfl

theorem ptpCycle_keeps {z : Base} (a0 : _) (k0 : Keeps z a0) : Keeps z (ptpCycle a0) := by
  unfold ptpCycle
  extract_lets -merge -underBinder x0 x1 x2 x3 x4 x5
  have h6 : Keeps z x4 := updPtp_keeps _ _ k0
  exact Keeps.ite k0 (Keeps.ite h6 (Keeps.mk' h6 rfl rfl rfl rfl rfl))

theorem discardQueues_keeps {z : Base} (a0 a1 : _) (k0 : Keeps z a1) : Keeps z (discardQueues a0 a1) := by
  unfold discardQueues
  refine Keeps.foldl k0 (fun _ _ h0 => ?_)
  extract_lets -merge -underBinder x1
  exact Keeps.foldl (setQueue_keeps _ _ _ _ h0) (fun _ _ h2 => dropCopy_keeps _ _ (count_keeps _ _ _ _ _ h2))

theorem linkDown_keeps {z : Base} (a0 a1 : _) (k0 : Keeps z a1) : Keeps z (linkDown a0 a1) := by
  unfold linkDown
  extract_lets -merge -underBinder x0 x1 x2
  have h3 : Keeps z x0 := updSub_keeps _ _ _ k0
  have h4 : Keeps z x2 := Keeps.mk' h3 rfl rfl rfl rfl rfl
  exact Keeps.ite k0 (discardQueues_keeps _ _ (raise_keeps _ _ _ h4))

theorem countMac_keeps {z : Base} (a0 a1 a2 a3 : _) (k0 : Keeps z a3) : Keeps z (countMac a0 a1 a2 a3) := by
  unfold countMac
  exact count_keeps _ _ _ _ _ k0

theorem pauseFrom_keeps {z : Base} (a0 a1 a2 a3 : _) (k0 : Keeps z a3) : Keeps z (pauseFrom a0 a1 a2 a3) := by
  unfold pauseFrom
  extract_lets -merge -underBinder x0
  exact updSub_keeps _ _ _ k0

theorem linkUp_keeps {z : Base} (a0 a1 : _) (k0 : Keeps z a1) : Keeps z (linkUp a0 a1) := by
  unfold linkUp
  extract_lets -merge -underBinder x0 x1 x2 x3
  have h4 : Keeps z x3 := setPort_keeps _ _ _ k0
  exact raise_keeps _ _ _ (updSub_keeps _ _ _ h4)

theorem countPipe_keeps {z : Base} (a0 a1 a2 a3 : _) (k0 : Keeps z a3) : Keeps z (countPipe a0 a1 a2 a3) := by
  unfold countPipe
  exact count_keeps _ _ _ _ _ k0

theorem controlPath_keeps {z : Base} (a0 a1 a2 a3 : _) (k0 : Keeps z a3) : KeepsQ z (controlPath a0 a1 a2 a3) := by
  unfold controlPath
  extract_lets -merge -underBinder x0 x1 x2
  have h3 : Keeps z x1 := exrDrain_keeps _ _ (setPipe_keeps _ _ _ k0)
  exact KeepsQ.ite (KeepsQ.mk (raiseFirst_keeps _ _ _ _ (countPipe_keeps _ _ _ _ k0))) (KeepsQ.ite (KeepsQ.mk (raiseFirst_keeps _ _ _ _
      (countPipe_keeps _ _ _ _ (setExr_keeps _ _ _ h3)))) (KeepsQ.mk (exrWrite_keeps _ _ _ h3)))

theorem meterFrame_keeps {z : Base} (a0 a1 a2 a3 a4 : _) (k0 : Keeps z a4) : KeepsQ z (meterFrame a0 a1 a2 a3 a4) := by
  unfold meterFrame
  extract_lets -merge -underBinder x0 x1 x2 x3
  have h4 : Keeps z x2 := updPipe_keeps _ _ _ k0
  exact KeepsQ.ite (KeepsQ.mk k0) (KeepsQ.mk (count_keeps _ _ _ _ _ (count_keeps _ _ _ _ _ h4)))

theorem dmemPut_keeps {z : Base} (a0 a1 a2 a3 : _) (k0 : Keeps z a3) : Keeps z (dmemPut a0 a1 a2 a3) := by
  unfold dmemPut
  extract_lets -merge -underBinder x0
  exact Keeps.mk' k0 rfl rfl rfl rfl rfl

theorem dmemPuts_keeps {z : Base} (a0 a1 a2 a3 : _) (k0 : Keeps z a3) : Keeps z (dmemPuts a0 a1 a2 a3) := by
  unfold dmemPuts
  exact Keeps.foldl k0 (fun _ _ h0 => dmemPut_keeps _ _ _ _ h0)

theorem spillSlot_keeps {z : Base} (a0 a1 a2 a3 a4 a5 : _) (k0 : Keeps z a5) : Keeps z (spillSlot a0 a1 a2 a3 a4 a5) := by
  unfold spillSlot
  split
  · exact k0
  · refine Keeps.foldl k0 (fun _ _ h0 => ?_)
    extract_lets -merge -underBinder x1 x2
    exact Keeps.ite (dramWrite_keeps _ _ _ _ _ h0) h0

theorem vatWrite_keeps {z : Base} (a0 a1 a2 a3 a4 : _) (k0 : Keeps z a4) : Keeps z (vatWrite a0 a1 a2 a3 a4) := by
  unfold vatWrite
  extract_lets -merge -underBinder x0 x1
  have h2 : Keeps z x0 := renewVat_keeps _ _ _ _ k0
  exact setHandle_keeps _ _ _ h2

theorem pktWrite_keeps {z : Base} (a0 a1 a2 a3 a4 : _) (k0 : Keeps z a4) : Keeps z (pktWrite a0 a1 a2 a3 a4) := by
  unfold pktWrite
  extract_lets -merge -underBinder x0
  exact Keeps.ite (Keeps.foldl k0 (fun _ _ h1 => spillSlot_keeps _ _ _ _ _ _ h1)) (vatWrite_keeps _ _ _ _ _ k0)

theorem drainEntry_keeps {z : Base} (a0 a1 : _) (k0 : Keeps z a1) : Keeps z (drainEntry a0 a1) := by
  unfold drainEntry
  split
  · extract_lets -merge -underBinder x0
    exact Keeps.ite (noteStale_keeps _ k0) (Keeps.ite k0 (pktWrite_keeps _ _ _ _ _ k0))
  · exact ctxWrite_keeps _ _ _ _ (ctxTouch_keeps _ _ k0)
  · exact Keeps.ite k0 (dramWrite_keeps _ _ _ _ _ k0)

theorem drainStores_keeps {z : Base} (a0 a1 : _) (k0 : Keeps z a1) : Keeps z (drainStores a0 a1) := by
  unfold drainStores
  extract_lets -merge -underBinder x0
  exact Keeps.foldl (setThr_keeps _ _ _ k0) (fun _ _ h1 => drainEntry_keeps _ _ h1)

theorem noteDmemUe_keeps {z : Base} (a0 a1 a2 : _) (k0 : Keeps z a2) : Keeps z (noteDmemUe a0 a1 a2) := by
  unfold noteDmemUe
  exact raise_keeps _ _ _ (setFlag_keeps _ _ _ (bumpTotal_keeps _ _ _ k0))

theorem joinDrawer_keeps {z : Base} (a0 a1 a2 : _) (k0 : Keeps z a2) : Keeps z (joinDrawer a0 a1 a2) := by
  unfold joinDrawer
  extract_lets -merge -underBinder x0
  exact Keeps.mk' k0 rfl rfl rfl rfl rfl

theorem dmemStore_keeps {z : Base} (a0 a1 a2 a3 : _) (k0 : Keeps z a3) : Keeps z (dmemStore a0 a1 a2 a3) := by
  unfold dmemStore
  extract_lets -merge -underBinder x0 x1
  have h2 : Keeps z x0 := dmemPuts_keeps _ _ _ _ k0
  exact Keeps.mk' h2 rfl rfl rfl rfl rfl

theorem pushStore_keeps {z : Base} (a0 a1 a2 : _) (k0 : Keeps z a2) : Keeps z (pushStore a0 a1 a2) := by
  unfold pushStore
  extract_lets -merge -underBinder x0
  have h1 : Keeps z x0 := by
    refine Keeps.ite k0 ?_
    split
    · exact k0
    · exact drainEntry_keeps _ _ (updThr_keeps _ _ _ k0)
  exact updThr_keeps _ _ _ h1

theorem readyGrow_keeps {z : Base} (a0 a1 a2 a3 : _) (k0 : Keeps z a3) : KeepsQ z (readyGrow a0 a1 a2 a3) := by
  unfold readyGrow
  exact KeepsQ.ite (readySpill_keeps _ _ _ _ _ k0) (readyVat_keeps _ _ _ _ _ k0)

theorem grow_keeps {z : Base} (a0 a1 a2 a3 : _) (k0 : Keeps z a3) : Keeps z (grow a0 a1 a2 a3) := by
  unfold grow
  extract_lets -merge -underBinder x0
  exact afterGrant_keeps _ _ _ (addCells_keeps _ _ _ _ k0)

theorem noteArrival_keeps {z : Base} (a0 a1 a2 : _) (k0 : Keeps z a2) : Keeps z (noteArrival a0 a1 a2) := by
  unfold noteArrival
  split
  · exact k0
  · extract_lets -merge -underBinder x0 x1 x2 x3
    have h4 : Keeps z x2 := Keeps.ite (Keeps.mk' k0 rfl rfl rfl rfl rfl) k0
    exact Keeps.ite (Keeps.mk' h4 rfl rfl rfl rfl rfl) h4

theorem redDraw_keeps {z : Base} (a0 a1 : _) (k0 : Keeps z a1) : KeepsQ z (redDraw a0 a1) := by
  unfold redDraw
  extract_lets -merge -underBinder x0 x1
  exact KeepsQ.mk (Keeps.mk' k0 rfl rfl rfl rfl rfl)

theorem budgetDrop_keeps {z : Base} (a0 a1 a2 a3 : _) (k0 : Keeps z a3) : Keeps z (budgetDrop a0 a1 a2 a3) := by
  unfold budgetDrop
  extract_lets -merge -underBinder x0 x1 x2 x3 x4
  have h5 : Keeps z x2 := setOwnerUse_keeps _ _ _ k0
  have h6 : Keeps z x4 := Keeps.mk' h5 rfl rfl rfl rfl rfl
  exact Keeps.ite k0 (Keeps.ite (setOwnerUse_keeps _ _ _ k0) (raise_keeps _ _ _ (count_keeps _ _ _ _ _ (setFlag_keeps _ _ _ h6))))

theorem evict_keeps {z : Base} (a0 a1 a2 : _) (k0 : Keeps z a2) : Keeps z (evict a0 a1 a2) := by
  unfold evict
  extract_lets -merge -underBinder x0 x1 x2 x3
  have h4 : Keeps z x3 := Keeps.mk' k0 rfl rfl rfl rfl rfl
  exact budgetDrop_keeps _ _ _ _ (count_keeps _ _ _ _ _ (setFlag_keeps _ _ _ (dropCopy_keeps _ _ h4)))

theorem pushOut_keeps {z : Base} (a0 a1 a2 a3 a4 : _) (k0 : Keeps z a4) : KeepsO z (pushOut a0 a1 a2 a3 a4) := by
  unfold pushOut
  extract_lets -merge -underBinder x0 x1
  exact KeepsO.ite KeepsO.none (KeepsO.mk (Keeps.foldl k0 (fun _ _ h2 => evict_keeps _ _ _ h2)))

theorem admitTest_keeps {z : Base} (b : Bank) (o n : Nat) (ll : Bool) (c : Classified) (s : State) (h : Keeps z s) :
    KeepsQ z (admitTest b o n ll c s) := by
  have v : ∀ d x, Keeps z x → Keeps z (readyVat b o d n x).2 := fun d x k => KeepsQ.out (readyVat_keeps b o d n x k)
  have p : ∀ d x, Keeps z x → Keeps z (readySpill b o d n x).2 := fun d x k => KeepsQ.out (readySpill_keeps b o d n x k)
  have q : ∀ d l x, Keeps z x → Keeps z (readyHeadroom b o d n l x).2 := fun d l x k => KeepsQ.out (readyHeadroom_keeps b o d n l x k)
  have r : Keeps z (redDraw c.arrival.pipe s).2 := KeepsQ.out (redDraw_keeps _ _ h)
  unfold admitTest
  refine KeepsQ.ite h (KeepsQ.ite (q _ _ _ h) (KeepsQ.ite (KeepsQ.ite (v _ _ h) (KeepsQ.ite (p _ _ (v _ _ h)) (q _ _ _ (p _ _ (v _ _ h)))))
    (KeepsQ.ite r (KeepsQ.ite (v _ _ r) (KeepsQ.ite (p _ _ (v _ _ r)) ?_)))))
  split
  · next e => exact pushOut_keeps _ _ _ _ _ (p _ _ (v _ _ r)) _ e
  · exact p _ _ (v _ _ r)

theorem markSpilled_keeps {z : Base} (a0 a1 a2 : _) (k0 : Keeps z a2) : Keeps z (markSpilled a0 a1 a2) := by
  unfold markSpilled
  split
  · exact k0
  · extract_lets -merge -underBinder x0 x1
    exact Keeps.ite k0 (Keeps.mk' k0 rfl rfl rfl rfl rfl)

theorem spillFrame_keeps {z : Base} (a0 a1 a2 : _) (k0 : Keeps z a2) : Keeps z (spillFrame a0 a1 a2) := by
  unfold spillFrame
  extract_lets -merge -underBinder x0 x1 x2 x3 x4
  have h5 : Keeps z x2 := pktWrite_keeps _ _ _ _ _ k0
  have h6 : Keeps z x3 := Keeps.foldl h5 (fun _ _ h7 => Keeps.ite (markSpilled_keeps _ _ _ h7) h7)
  exact updHandle_keeps _ _ _ (Keeps.mk' h6 rfl rfl rfl rfl rfl)

theorem admitFrame_keeps {z : Base} (a0 a1 a2 : _) (k0 : Keeps z a2) : Keeps z (admitFrame a0 a1 a2) := by
  unfold admitFrame
  extract_lets -merge -underBinder x0 x1 x2 x3 x4 x5 x6 x7 x8 x9
  have h10 : Keeps z x7 := noteArrival_keeps _ _ _ k0
  have h11 : KeepsQ z x8 := admitTest_keeps _ _ _ _ _ _ h10
  have h12 : Keeps z x9 := KeepsQ.out h11
  split
  · extract_lets -merge -underBinder x13 x14 x15 x16 x17 x18
    have h19 : KeepsQ z x13 := newHandle_keeps _ _ h12
    have h20 : Keeps z x14 := addCells_keeps _ _ _ _ (KeepsQ.out h19)
    have h21 : Keeps z x15 := Keeps.ite (spillFrame_keeps _ _ _ h20) h20
    have h22 : Keeps z x16 := count_keeps _ _ _ _ _ (count_keeps _ _ _ _ _ h21)
    have h23 : Keeps z x17 := Keeps.ite (count_keeps _ _ _ _ _ h22) h22
    have h24 : Keeps z x18 := afterGrant_keeps _ _ _ h23
    exact enterItem_keeps _ _ h24
  · exact budgetDrop_keeps _ _ _ _ (count_keeps _ _ _ _ _ h12)
  · exact budgetDrop_keeps _ _ _ _ (count_keeps _ _ _ _ _ h12)
  · extract_lets -merge -underBinder x25
    have h26 : Keeps z x25 := raise_keeps _ _ _ (count_keeps _ _ _ _ _ (setFlag_keeps _ _ _ h12))
    exact Keeps.ite (evidenceLoss_keeps _ _ _ h26) h26
  · exact Keeps.ite (evidenceLoss_keeps _ _ _ h12) h12
  · extract_lets -merge -underBinder x27
    have h28 : Keeps z x27 := count_keeps _ _ _ _ _ h12
    exact Keeps.ite (evidenceLoss_keeps _ _ _ h28) h28

theorem noteParity_keeps {z : Base} (a0 a1 a2 : _) (k0 : Keeps z a2) : Keeps z (noteParity a0 a1 a2) := by
  unfold noteParity
  extract_lets -merge -underBinder x0
  have h1 : Keeps z x0 := Keeps.ite (raise_keeps _ _ _ (countPipe_keeps _ _ _ _ k0)) k0
  exact Keeps.ite (raise_keeps _ _ _ (countPipe_keeps _ _ _ _ h1)) h1

theorem takeAction_keeps {z : Base} (a0 a1 a2 a3 a4 a5 a6 : _) (k0 : Keeps z a6) : Keeps z (takeAction a0 a1 a2 a3 a4 a5 a6) := by
  unfold takeAction
  extract_lets -merge -underBinder x0 x1 x2 x3 x4
  have h5 : KeepsQ z x2 := meterFrame_keeps _ _ _ _ _ k0
  have h6 : Keeps z x3 := KeepsQ.out h5
  split
  · exact countPipe_keeps _ _ _ _ h6
  · exact admitFrame_keeps _ _ _ h6
  · exact admitFrame_keeps _ _ _ h6
  · exact admitFrame_keeps _ _ _ h6
  · exact admitFrame_keeps _ _ _ h6
  · extract_lets -merge -underBinder x7
    have h8 : KeepsQ z x7 := controlPath_keeps _ _ _ _ h6
    exact Keeps.ite (countPipe_keeps _ _ _ _ (KeepsQ.out h8)) (KeepsQ.out h8)
  · exact KeepsQ.out (controlPath_keeps _ _ _ _ (countPipe_keeps _ _ _ _ h6))

theorem frameArrives_keeps {z : Base} (a0 a1 : _) (k0 : Keeps z a1) : Keeps z (frameArrives a0 a1) := by
  unfold frameArrives
  extract_lets -merge -underBinder x0 x1 x2 x3 x4
  have h5 : Keeps z x2 := noteParity_keeps _ _ _ (countPipe_keeps _ _ _ _ k0)
  have h6 : Keeps z x3 := Keeps.ite (countPipe_keeps _ _ _ _ h5) h5
  refine Keeps.ite (KeepsQ.out (controlPath_keeps _ _ _ _ (countPipe_keeps _ _ _ _ h6))) ?_
  split
  · exact KeepsQ.out (controlPath_keeps _ _ _ _ (countPipe_keeps _ _ _ _ h6))
  · extract_lets -merge -underBinder x7 x8
    have h9 : Keeps z x8 := count_keeps _ _ _ _ _ (count_keeps _ _ _ _ _ (countPipe_keeps _ _ _ _ h6))
    split
    · exact raise_keeps _ _ _ (countPipe_keeps _ _ _ _ h9)
    · exact takeAction_keeps _ _ _ _ _ _ _ h9

theorem setChan_keeps {z : Base} (a0 a1 a2 : _) (k0 : Keeps z a2) : Keeps z (setChan a0 a1 a2) := by
  unfold setChan
  extract_lets -merge -underBinder x0
  exact Keeps.mk' k0 rfl rfl rfl rfl rfl

theorem leaveWait_keeps {z : Base} (a0 a1 : _) (k0 : Keeps z a1) : Keeps z (leaveWait a0 a1) := by
  unfold leaveWait
  extract_lets -merge -underBinder x0
  have h1 : Keeps z x0 := by
    show Keeps z (_)
    unfold x0
    split
    · extract_lets -merge -underBinder x2
      exact setLock_keeps _ _ _ k0
    · extract_lets -merge -underBinder x3
      exact setChan_keeps _ _ _ k0
    · extract_lets -merge -underBinder x4
      exact setChan_keeps _ _ _ k0
    · extract_lets -merge -underBinder x5
      exact Keeps.mk' k0 rfl rfl rfl rfl rfl
    · extract_lets -merge -underBinder x6
      exact Keeps.mk' k0 rfl rfl rfl rfl rfl
    · exact k0
  exact updThr_keeps _ _ _ h1

theorem correctDov_keeps {z : Base} (a0 a1 : _) (k0 : Keeps z a1) : Keeps z (correctDov a0 a1) := by
  unfold correctDov
  extract_lets -merge -underBinder x0 x1
  exact Keeps.ite k0 (noteCorrected_keeps _ _ _ (Keeps.mk' k0 rfl rfl rfl rfl rfl))

theorem reclaim_keeps {z : Base} (a0 a1 : _) (k0 : Keeps z a1) : Keeps z (reclaim a0 a1) := by
  unfold reclaim
  extract_lets -merge -underBinder x0 x1 x2
  have h3 : Keeps z x2 := setChan_keeps _ _ _ k0
  exact Keeps.foldl h3 (fun _ _ h4 => updThr_keeps _ _ _ h4)

theorem completeStalled_keeps {z : Base} (a0 a1 a2 : _) (k0 : Keeps z a2) : Keeps z (completeStalled a0 a1 a2) := by
  unfold completeStalled
  exact endStall_keeps _ _ (updThr_keeps _ _ _ k0)

theorem deliverSlot_keeps {z : Base} (a0 a1 a2 a3 a4 : _) (k0 : Keeps z a4) : Keeps z (deliverSlot a0 a1 a2 a3 a4) := by
  unfold deliverSlot
  extract_lets -merge -underBinder x0 x1 x2
  have h3 : Keeps z x1 := setChan_keeps _ _ _ k0
  have h4 : Keeps z x2 := progress_keeps _ _ h3
  split
  · extract_lets -merge -underBinder x5
    have h6 : Keeps z x5 := Keeps.ite (dmemPuts_keeps _ _ _ _ h4) h4
    exact completeStalled_keeps _ _ _ h6

theorem voidChannel_keeps {z : Base} (a0 a1 : _) (k0 : Keeps z a1) : Keeps z (voidChannel a0 a1) := by
  unfold voidChannel
  refine Keeps.foldl (Keeps.ite k0 (progress_keeps _ _ (count_keeps _ _ _ _ _ k0))) (fun _ _ h0 => ?_)
  split
  · extract_lets -merge -underBinder x1
    exact deliverSlot_keeps _ _ _ _ _ h0
  · exact h0

theorem forgetWord_keeps {z : Base} (a0 a1 : _) (k0 : Keeps z a1) : Keeps z (forgetWord a0 a1) := by
  unfold forgetWord
  extract_lets -merge -underBinder x0
  exact Keeps.ite k0 (Keeps.mk' k0 rfl rfl rfl rfl rfl)

theorem noteDovUe_keeps {z : Base} (a0 a1 a2 : _) (k0 : Keeps z a2) : Keeps z (noteDovUe a0 a1 a2) := by
  unfold noteDovUe
  exact raise_keeps _ _ _ (bumpTotal_keeps _ _ _ (setFlag_keeps _ _ _ (forgetWord_keeps _ _ k0)))

theorem voidPointers_keeps {z : Base} (a0 a1 : _) (k0 : Keeps z a1) : Keeps z (voidPointers a0 a1) := by
  unfold voidPointers
  exact reclaim_keeps _ _ (voidChannel_keeps _ _ (noteDovUe_keeps _ _ _ k0))

theorem checkPointers_keeps {z : Base} (a0 a1 : _) (k0 : Keeps z a1) : Keeps z (checkPointers a0 a1) := by
  unfold checkPointers
  extract_lets -merge -underBinder x0
  have h1 : Keeps z x0 := correctDov_keeps _ _ k0
  exact Keeps.ite k0 (Keeps.ite (voidPointers_keeps _ _ h1) h1)

theorem checkSlot_keeps {z : Base} (a0 a1 a2 : _) (k0 : Keeps z a2) : Keeps z (checkSlot a0 a1 a2) := by
  unfold checkSlot
  extract_lets -merge -underBinder x0 x1
  refine Keeps.ite k0 ?_
  split
  · exact k0
  · extract_lets -merge -underBinder x2
    have h3 : Keeps z x2 := correctDov_keeps _ _ k0
    exact Keeps.ite k0 (Keeps.ite h3 (noteDovUe_keeps _ _ _ (setChan_keeps _ _ _ h3)))

theorem reserveSlot_keeps {z : Base} (a0 a1 a2 a3 a4 : _) (k0 : Keeps z a4) : Keeps z (reserveSlot a0 a1 a2 a3 a4) := by
  unfold reserveSlot
  extract_lets -merge -underBinder x0 x1
  have h2 : Keeps z x1 := forgetWord_keeps _ _ k0
  exact setChan_keeps _ _ _ h2

theorem postTwo_keeps {z : Base} (a0 a1 a2 : _) (k0 : Keeps z a2) : Keeps z (postTwo a0 a1 a2) := by
  unfold postTwo
  exact progress_keeps _ _ (count_keeps _ _ _ _ _ (reserveSlot_keeps _ _ _ _ _ (reserveSlot_keeps _ _ _ _ _ k0)))

theorem dropHeld_keeps {z : Base} (a0 a1 : _) (k0 : Keeps z a1) : Keeps z (dropHeld a0 a1) := by
  unfold dropHeld
  extract_lets -merge -underBinder x0 x1 x2
  have h3 : Keeps z x1 := Keeps.mk' k0 rfl rfl rfl rfl rfl
  exact Keeps.ite (updThr_keeps _ _ _ h3) (Keeps.mk' h3 rfl rfl rfl rfl rfl)

theorem chanStep_keeps {z : Base} (a0 a1 : _) (k0 : Keeps z a1) : KeepsO z (chanStep a0 a1) := by
  unfold chanStep
  extract_lets -merge -underBinder x0
  split
  · extract_lets -merge -underBinder x1
    have h2 : Keeps z x1 := checkSlot_keeps _ _ _ k0
    split
    · exact KeepsO.mk (deliverSlot_keeps _ _ _ _ _ h2)
    · exact KeepsO.none
  · split
    · extract_lets -merge -underBinder x3 x4
      exact KeepsO.ite (KeepsO.mk (completeStalled_keeps _ _ _ (reserveSlot_keeps _ _ _ _ _ (setChan_keeps _ _ _ k0)))) KeepsO.none
    · split
      · exact KeepsO.ite (KeepsO.mk (postTwo_keeps _ _ _ (dropHeld_keeps _ _ k0))) KeepsO.none
      · exact KeepsO.none

theorem chanRun_keeps {z : Base} (n : Nat) : ∀ (c : Nat) (s : State), Keeps z s → Keeps z (chanRun n c s) := by
  induction n with
  | zero => exact fun _ _ h => h
  | succ n ih =>
    intro c s h
    have k := chanStep_keeps c s h
    unfold chanRun
    split
    · next e => exact ih _ _ (k _ e)
    · exact h

theorem settleChan_keeps {z : Base} (a0 a1 : _) (k0 : Keeps z a1) : Keeps z (settleChan a0 a1) := by
  unfold settleChan
  exact chanRun_keeps _ _ _ k0

theorem postFault_keeps {z : Base} (a0 a1 a2 a3 : _) (k0 : Keeps z a3) : Keeps z (postFault a0 a1 a2 a3) := by
  unfold postFault
  extract_lets -merge -underBinder x0 x1 x2 x3 x4
  have h5 : Keeps z x0 := checkPointers_keeps _ _ k0
  have h6 : Keeps z x1 := raiseFirst_keeps _ _ _ _ h5
  have h7 : Keeps z x3 := raiseFirst_keeps _ _ _ _ h5
  exact Keeps.ite (settleChan_keeps _ _ (postTwo_keeps _ _ _ h5)) (Keeps.ite (Keeps.ite h5 (updThr_keeps _ _ _ (Keeps.mk' h6 rfl rfl rfl rfl rfl)))
      (Keeps.ite h5 (Keeps.mk' h7 rfl rfl rfl rfl rfl)))

theorem discardLookups_keeps {z : Base} (a0 a1 : _) (k0 : Keeps z a1) : Keeps z (discardLookups a0 a1) := by
  unfold discardLookups
  extract_lets -merge -underBinder x0
  exact Keeps.mk' k0 rfl rfl rfl rfl rfl

theorem setUnit_keeps {z : Base} (a0 a1 a2 : _) (k0 : Keeps z a2) : Keeps z (setUnit a0 a1 a2) := by
  unfold setUnit
  extract_lets -merge -underBinder x0
  exact Keeps.mk' k0 rfl rfl rfl rfl rfl

theorem detachOps_keeps {z : Base} (a0 a1 : _) (k0 : Keeps z a1) : Keeps z (detachOps a0 a1) := by
  unfold detachOps
  refine Keeps.foldl k0 (fun _ _ h0 => ?_)
  split
  · extract_lets -merge -underBinder x1
    exact Keeps.ite (count_keeps _ _ _ _ _ (setFlag_keeps _ _ _ (setUnit_keeps _ _ _ h0))) h0
  · exact h0

theorem voidSlot_keeps {z : Base} (a0 a1 a2 : _) (k0 : Keeps z a2) : Keeps z (voidSlot a0 a1 a2) := by
  unfold voidSlot
  extract_lets -merge -underBinder x0
  split
  · exact k0
  · extract_lets -merge -underBinder x1
    have h2 : Keeps z x1 := setChan_keeps _ _ _ k0
    exact settleChan_keeps _ _ (progress_keeps _ _ (count_keeps _ _ _ _ _ h2))

theorem voidSlots_keeps {z : Base} (a0 a1 : _) (k0 : Keeps z a1) : Keeps z (voidSlots a0 a1) := by
  unfold voidSlots
  extract_lets -merge -underBinder x0
  exact Keeps.foldl k0 (fun _ _ h1 => voidSlot_keeps _ _ _ h1)

theorem lockProgress_keeps {z : Base} (a0 a1 : _) (k0 : Keeps z a1) : Keeps z (lockProgress a0 a1) := by
  unfold lockProgress
  exact progress_keeps _ _ k0

theorem freeLock_keeps {z : Base} (a0 a1 a2 : _) (k0 : Keeps z a2) : Keeps z (freeLock a0 a1 a2) := by
  unfold freeLock
  extract_lets -merge -underBinder x0 x1
  have h2 : Keeps z x1 := lockProgress_keeps _ _ k0
  split
  · exact setLock_keeps _ _ _ h2
  · extract_lets -merge -underBinder x3 x4
    exact completeStalled_keeps _ _ _ (trace_keeps _ _ _ _ _ (count_keeps _ _ _ _ _ (setLock_keeps _ _ _ h2)))

theorem loseLock_keeps {z : Base} (a0 a1 a2 : _) (k0 : Keeps z a2) : Keeps z (loseLock a0 a1 a2) := by
  unfold loseLock
  split
  · extract_lets -merge -underBinder x0 x1
    exact Keeps.ite (setLock_keeps _ _ _ k0) (freeLock_keeps _ _ _ k0)
  · exact raiseFirst_keeps _ _ _ _ (count_keeps _ _ _ _ _ (setFlag_keeps _ _ _ (freeLock_keeps _ _ _ k0)))

theorem loseLocks_keeps {z : Base} (a0 a1 a2 : _) (k0 : Keeps z a2) : Keeps z (loseLocks a0 a1 a2) := by
  unfold loseLocks
  exact Keeps.foldl k0 (fun _ _ h0 => loseLock_keeps _ _ _ h0)

theorem resetThread_keeps {z : Base} (a0 a1 a2 : _) (k0 : Keeps z a2) : Keeps z (resetThread a0 a1 a2) := by
  unfold resetThread
  extract_lets -merge -underBinder x0 x1 x2
  have h3 : Keeps z x0 := discardLookups_keeps _ _ (leaveWait_keeps _ _ (drainStores_keeps _ _ k0))
  have h4 : Keeps z x1 := detachOps_keeps _ _ (voidSlots_keeps _ _ (loseLocks_keeps _ _ _ h3))
  exact setThr_keeps _ _ _ h4

theorem endFaulted_keeps {z : Base} (a0 a1 : _) (k0 : Keeps z a1) : Keeps z (endFaulted a0 a1) := by
  unfold endFaulted
  split
  · exact k0
  · split
    · exact k0
    · extract_lets -merge -underBinder x0
      have h1 : Keeps z x0 := count_keeps _ _ _ _ _ k0
      exact Keeps.ite k0 (voidItem_keeps _ _ (Keeps.ite (lateLoss_keeps _ _ h1) (Keeps.ite (evidenceLoss_keeps _ _ _ h1) h1)))

theorem repostFaults_keeps {z : Base} (a0 a1 : _) (k0 : Keeps z a1) : Keeps z (repostFaults a0 a1) := by
  unfold repostFaults
  extract_lets -merge -underBinder x0 x1 x2 x3 x4 x5
  have h6 : Keeps z x3 := setChan_keeps _ _ _ k0
  have h7 : Keeps z x4 := Keeps.foldl h6 (fun _ _ h9 => Keeps.ite (dropHeld_keeps _ _ h9) h9)
  have h8 : Keeps z x5 := settleChan_keeps _ _ h7
  refine Keeps.foldl h8 (fun _ _ h10 => ?_)
  split
  · exact postFault_keeps _ _ _ _ h10
  · exact h10

theorem enterSupervisor_keeps {z : Base} (a0 a1 : _) (k0 : Keeps z a1) : Keeps z (enterSupervisor a0 a1) := by
  unfold enterSupervisor
  extract_lets -merge -underBinder x0 x1 x2
  have h3 : Keeps z x2 := Keeps.mk' k0 rfl rfl rfl rfl rfl
  exact walk_keeps _ _ (updThr_keeps _ _ _ h3)

theorem l0Reset_keeps {z : Base} (a0 a1 : _) (k0 : Keeps z a1) : Keeps z (l0Reset a0 a1) := by
  unfold l0Reset
  extract_lets -merge -underBinder x0
  have h1 : Keeps z x0 := resetThread_keeps _ _ _ (endFaulted_keeps _ _ k0)
  exact Keeps.ite (repostFaults_keeps _ _ (enterSupervisor_keeps _ _ h1)) (walk_keeps _ _ (dropHeld_keeps _ _ h1))

theorem haltThread_keeps {z : Base} (a0 a1 a2 a3 a4 : _) (k0 : Keeps z a4) : Keeps z (haltThread a0 a1 a2 a3 a4) := by
  unfold haltThread
  extract_lets -merge -underBinder x0 x1 x2 x3 x4
  have h5 : Keeps z x2 := updThr_keeps _ _ _ k0
  have h6 : Keeps z x3 := raiseFirst_keeps _ _ _ _ (count_keeps _ _ _ _ _ (setFlag_keeps _ _ _ h5))
  have h7 : Keeps z x4 := postFault_keeps _ _ _ _ h6
  exact Keeps.ite (raise_keeps _ _ _ (count_keeps _ _ _ _ _ (setFlag_keeps _ _ _ (l0Reset_keeps _ _ h7)))) (walk_keeps _ _ (postFault_keeps _ _ _ _
      h6))

theorem runAfter_keeps {z : Base} (a0 a1 : _) (k0 : Keeps z a1) : Keeps z (runAfter a0 a1) := by
  unfold runAfter
  extract_lets -merge -underBinder x0
  refine Keeps.ite k0 ?_
  split
  · exact k0
  · exact haltThread_keeps _ _ _ _ _ k0
  · exact walk_keeps _ _ (updThr_keeps _ _ _ k0)

theorem leaveAfter_keeps {z : Base} (a0 a1 a2 : _) (k0 : Keeps z a2) : Keeps z (leaveAfter a0 a1 a2) := by
  unfold leaveAfter
  exact runAfter_keeps _ _ (makeReady_keeps _ _ (updThr_keeps _ _ _ k0))

theorem stopThread_keeps {z : Base} (a0 a1 a2 a3 a4 : _) (k0 : Keeps z a4) : Keeps z (stopThread a0 a1 a2 a3 a4) := by
  unfold stopThread
  exact Keeps.ite (haltThread_keeps _ _ _ _ _ k0) (leaveAfter_keeps _ _ _ k0)

theorem recoveryAbort_keeps {z : Base} (a0 a1 : _) (k0 : Keeps z a1) : Keeps z (recoveryAbort a0 a1) := by
  unfold recoveryAbort
  split
  · extract_lets -merge -underBinder x0
    have h1 : Keeps z x0 := count_keeps _ _ _ _ _ (detachOps_keeps _ _ (voidSlots_keeps _ _ (loseLocks_keeps _ _ _ (leaveWait_keeps _ _ k0))))
    exact Keeps.ite (leaveAfter_keeps _ _ _ h1) (haltThread_keeps _ _ _ _ _ h1)

theorem checkLock_keeps {z : Base} (a0 a1 : _) (k0 : Keeps z a1) : Keeps z (checkLock a0 a1) := by
  unfold checkLock
  extract_lets -merge -underBinder x0 x1
  have h2 : Keeps z x0 := correctDov_keeps _ _ k0
  have h3 : Keeps z x1 := noteDovUe_keeps _ _ _ (forgetWord_keeps _ _ h2)
  exact Keeps.ite k0 (Keeps.ite h2 (loseLock_keeps _ _ _ (Keeps.foldl h3 (fun _ _ h4 => recoveryAbort_keeps _ _ h4))))

theorem checkChan_keeps {z : Base} (a0 a1 : _) (k0 : Keeps z a1) : Keeps z (checkChan a0 a1) := by
  unfold checkChan
  extract_lets -merge -underBinder x0 x1
  have h2 : Keeps z x0 := correctDov_keeps _ _ k0
  have h3 : Keeps z x1 := voidPointers_keeps _ _ h2
  exact Keeps.ite k0 (Keeps.ite h2 (Keeps.foldl h3 (fun _ _ h4 => recoveryAbort_keeps _ _ h4)))

theorem checkHeld_keeps {z : Base} (a0 a1 : _) (k0 : Keeps z a1) : Keeps z (checkHeld a0 a1) := by
  unfold checkHeld
  extract_lets -merge -underBinder x0 x1
  have h2 : Keeps z x0 := Keeps.foldl k0 (fun _ _ h3 => checkLock_keeps _ _ h3)
  exact Keeps.ite k0 (Keeps.foldl h2 (fun _ _ h4 => checkChan_keeps _ _ h4))

theorem advance_keeps {z : Base} (a0 a1 : _) (k0 : Keeps z a1) : Keeps z (advance a0 a1) := by
  unfold advance
  exact updThr_keeps _ _ _ k0

theorem noteInstrUe_keeps {z : Base} (a0 a1 : _) (k0 : Keeps z a1) : Keeps z (noteInstrUe a0 a1) := by
  unfold noteInstrUe
  exact raise_keeps _ _ _ (setFlag_keeps _ _ _ (bumpTotal_keeps _ _ _ k0))

theorem stallThread_keeps {z : Base} (a0 a1 a2 a3 : _) (k0 : Keeps z a3) : Keeps z (stallThread a0 a1 a2 a3) := by
  unfold stallThread
  extract_lets -merge -underBinder x0 x1 x2
  have h3 : Keeps z x2 := updThr_keeps _ _ _ (Keeps.mk' k0 rfl rfl rfl rfl rfl)
  exact walk_keeps _ _ (count_keeps _ _ _ _ _ h3)

theorem noteRegParity_keeps {z : Base} (a0 a1 : _) (k0 : Keeps z a1) : Keeps z (noteRegParity a0 a1) := by
  unfold noteRegParity
  exact raiseFirst_keeps _ _ _ _ (setFlag_keeps _ _ _ (bumpTotal_keeps _ _ _ k0))

theorem stepIssued_keeps {z : Base} (a0 a1 : _) (k0 : Keeps z a1) : Keeps z (stepIssued a0 a1) := by
  unfold stepIssued
  exact Keeps.ite k0 (stepDone_keeps _ _ k0)

theorem noteIssue_keeps {z : Base} (a0 a1 : _) (k0 : Keeps z a1) : Keeps z (noteIssue a0 a1) := by
  unfold noteIssue
  exact updThr_keeps _ _ _ (count_keeps _ _ _ _ _ k0)

theorem issueFetched_keeps {z : Base} (a0 a1 a2 : _) (k0 : KeepsI z a1) (k1 : Keeps z a2) : Keeps z (issueFetched a0 a1 a2) := by
  unfold issueFetched
  exact Keeps.ite (haltThread_keeps _ _ _ _ _ k1) (Keeps.ite (haltThread_keeps _ _ _ _ _ k1) (Keeps.ite (stallThread_keeps _ _ _ _ k1) (Keeps.ite
      (haltThread_keeps _ _ _ _ _ (noteRegParity_keeps _ _ k1)) (Keeps.ite (haltThread_keeps _ _ _ _ _ k1) (stepIssued_keeps _ _ (KeepsI.out k0
      (noteIssue_keeps _ _ k1)))))))

theorem issue_keeps {z : Base} (a0 a1 a2 : _) (k0 : KeepsI z a1) (k1 : Keeps z a2) : Keeps z (issue a0 a1 a2) := by
  unfold issue
  extract_lets -merge -underBinder x0
  exact Keeps.ite k1 (Keeps.ite (runAfter_keeps _ _ k1) (Keeps.ite (haltThread_keeps _ _ _ _ _ (noteInstrUe_keeps _ _ k1)) (issueFetched_keeps _ _ _
      k0 (checkImem_keeps _ _ k1))))

theorem jumpTo_keeps {z : Base} (a0 a1 a2 : _) (k0 : Keeps z a2) : Keeps z (jumpTo a0 a1 a2) := by
  unfold jumpTo
  exact updThr_keeps _ _ _ (trace_keeps _ _ _ _ _ k0)

theorem regionWrite_keeps {z : Base} (a0 a1 a2 : _) (k0 : Keeps z a2) : Keeps z (regionWrite a0 a1 a2) := by
  unfold regionWrite
  split
  · exact dmemPuts_keeps _ _ _ _ k0
  · exact pktWrite_keeps _ _ _ _ _ k0
  · exact dramWrite_keeps _ _ _ _ _ k0
  · exact k0

theorem okState_keeps {z : Base} (a0 a1 a2 a3 : _) (k0 : ∀ y0 y1, Keeps z y0 → Keeps z (a0 y0 y1)) (k1 : Keeps z a1) : KeepsC z (okState a0 a1 a2 a3)
    := by
  unfold okState
  exact KeepsC.ok (k0 _ _ k1)

theorem loadBank_keeps {z : Base} (a0 a1 a2 a3 : _) (k0 : Keeps z a3) : Keeps z (loadBank a0 a1 a2 a3) := by
  unfold loadBank
  split
  · exact k0
  · extract_lets -merge -underBinder x0
    exact Keeps.mk' k0 rfl rfl rfl rfl rfl

theorem addTimed_keeps {z : Base} (a0 a1 a2 a3 : _) (k0 : Keeps z a3) : Keeps z (addTimed a0 a1 a2 a3) := by
  unfold addTimed
  extract_lets -merge -underBinder x0 x1 x2 x3
  exact Keeps.ite k0 (drawFree_keeps _ (Keeps.mk' k0 rfl rfl rfl rfl rfl))

theorem sweepN_keeps {z : Base} (n : Nat) : ∀ (s : State), Keeps z s → Keeps z (sweepN n s) := by
  induction n with
  | zero => exact fun _ h => h
  | succ n ih =>
    intro s h
    unfold sweepN
    split
    · exact ih _ (finishCmd_keeps _ _ _ _ _ (startCmd_keeps _ _ h))
    · exact h

theorem sweepBad_keeps {z : Base} (a0 : _) (k0 : Keeps z a0) : Keeps z (sweepBad a0) := by
  unfold sweepBad
  exact sweepN_keeps _ _ k0

theorem clearCounters_keeps {z : Base} (a0 a1 a2 a3 : _) (k0 : Keeps z a3) : Keeps z (clearCounters a0 a1 a2 a3) := by
  unfold clearCounters
  exact Keeps.mk' k0 rfl rfl rfl rfl rfl

theorem counterBody_keeps {z : Base} (a0 a1 a2 a3 a4 a5 a6 : _) (k0 : Keeps z a4) : KeepsC z (counterBody a0 a1 a2 a3 a4 a5 a6) := by
  unfold counterBody
  exact KeepsC.mk (Keeps.ite (clearCounters_keeps _ _ _ _ k0) k0)

theorem cmdOutcome_keeps {z : Base} (a0 a1 a2 : _) (k0 : KeepsS z a0) (k1 : Keeps z a2) : KeepsC z (cmdOutcome a0 a1 a2) := by
  unfold cmdOutcome
  extract_lets -merge -underBinder x0
  split
  · exact KeepsC.refuse k1
  · refine KeepsC.ite (KeepsC.refuse k1) (KeepsC.ite (KeepsC.refuse k1) ?_)
    split
    · exact KeepsC.refuse k1
    · split
      · exact KeepsC.refuse k1
      · exact KeepsS.out k0 k1

theorem okReply_keeps {z : Base} (a0 a1 a2 a3 : _) (k0 : Keeps z a1) : KeepsC z (okReply a0 a1 a2 a3) := by
  unfold okReply
  exact KeepsC.ok k0

theorem timedBody_keeps {z : Base} (a0 a1 a2 a3 a4 a5 a6 a7 : _) (k0 : Keeps z a5) : KeepsC z (timedBody a0 a1 a2 a3 a4 a5 a6 a7) := by
  unfold timedBody
  exact counterBody_keeps _ _ _ _ _ _ _ (Keeps.foldl k0 (fun _ _ h0 => addTimed_keeps _ _ _ _ h0))

theorem runCmd_keeps {z : Base} (a0 a1 a2 : _) (k0 : KeepsS z a0) (k1 : Keeps z a2) : Keeps z (runCmd a0 a1 a2) := by
  unfold runCmd
  extract_lets -merge -underBinder x0
  have h1 : KeepsC z x0 := cmdOutcome_keeps _ _ _ k0 (startCmd_keeps _ _ k1)
  exact Keeps.ite (sweepBad_keeps _ (finishCmd_keeps _ _ _ _ _ (KeepsC.out h1))) k1

end Sys2Proof.Machine
end

