-- ==== Sys2Proof/Laws/KeepsUnits.lean ====
section
/-!
SUPPORT. One lemma for each operation, command body and command of CabinetCmd, UnitOps, CompleteOps, CopOut, CompanionOps, ControlInstr, CopCmd,
EvidenceOps, HostInstr, LookupOps, LateOps, FurnishOps: it keeps what every command keeps.
-/
set_option linter.constructorNameAsVariable false
set_option linter.unusedVariables false
namespace Sys2Proof.Machine

theorem fillRings_keeps {z : Base} (a0 a1 : _) (k0 : Keeps z a1) : Keeps z (fillRings a0 a1) := by
  unfold fillRings
  extract_lets -merge -underBinder x0 x1 x2
  have h3 : Keeps z x1 := dramWrite_keeps _ _ _ _ _ k0
  have h4 : Keeps z x2 := dramWrite_keeps _ _ _ _ _ h3
  exact setGroup_keeps _ _ _ h4

theorem cabinetCounters_keeps {z : Base} : KeepsS z (cabinetCounters) := by
  unfold cabinetCounters
  exact KeepsS.mk (fun _ _ _ h0 => counterBody_keeps _ _ _ _ _ _ _ h0)

theorem cabinetInit_keeps {z : Base} : KeepsS z (cabinetInit) := by
  unfold cabinetInit
  exact KeepsS.mk (fun _ _ _ h0 => KeepsC.ite (KeepsC.refuse h0) (KeepsC.ok (Keeps.foldl h0 (fun _ _ h1 => fillRings_keeps _ _ h1))))

theorem cabinetSeed_keeps {z : Base} : KeepsS z (cabinetSeed) := by
  unfold cabinetSeed
  exact KeepsS.mk (fun _ _ _ h0 => okState_keeps _ _ _ _ (fun _ _ h1 => Keeps.mk' h1 rfl rfl rfl rfl rfl) h0)

theorem setDrawer_keeps {z : Base} (a0 a1 a2 : _) (k0 : Keeps z a2) : Keeps z (setDrawer a0 a1 a2) := by
  unfold setDrawer
  extract_lets -merge -underBinder x0
  exact Keeps.mk' k0 rfl rfl rfl rfl rfl

theorem drawerConfig_keeps {z : Base} : KeepsS z (drawerConfig) := by
  unfold drawerConfig
  exact KeepsS.mk (fun _ _ _ h0 => KeepsC.ite (KeepsC.refuse h0) (KeepsC.ok (setDrawer_keeps _ _ _ h0)))

theorem drawerStatus_keeps {z : Base} : KeepsS z (drawerStatus) := by
  unfold drawerStatus
  exact KeepsS.mk (fun _ _ _ h0 => okReply_keeps _ _ _ _ h0)

theorem egressMapLoad_keeps {z : Base} : KeepsS z (egressMapLoad) := by
  unfold egressMapLoad
  exact KeepsS.mk (fun _ _ _ h0 => okState_keeps _ _ _ _ (fun _ _ h1 => loadBank_keeps _ _ _ _ h1) h0)

theorem execCabinetCounters_keeps {z : Base} (a0 a1 : _) (k0 : Keeps z a1) : KeepsR z (execCabinetCounters a0 a1) := by
  unfold execCabinetCounters
  exact KeepsR.next (runCmd_keeps _ _ _ cabinetCounters_keeps k0)

theorem execCabinetInit_keeps {z : Base} (a0 a1 : _) (k0 : Keeps z a1) : KeepsR z (execCabinetInit a0 a1) := by
  unfold execCabinetInit
  exact KeepsR.next (runCmd_keeps _ _ _ cabinetInit_keeps k0)

theorem execCabinetSeed_keeps {z : Base} (a0 a1 : _) (k0 : Keeps z a1) : KeepsR z (execCabinetSeed a0 a1) := by
  unfold execCabinetSeed
  exact KeepsR.next (runCmd_keeps _ _ _ cabinetSeed_keeps k0)

theorem execDrawerConfig_keeps {z : Base} (a0 a1 : _) (k0 : Keeps z a1) : KeepsR z (execDrawerConfig a0 a1) := by
  unfold execDrawerConfig
  exact KeepsR.next (runCmd_keeps _ _ _ drawerConfig_keeps k0)

theorem execDrawerStatus_keeps {z : Base} (a0 a1 : _) (k0 : Keeps z a1) : KeepsR z (execDrawerStatus a0 a1) := by
  unfold execDrawerStatus
  exact KeepsR.next (runCmd_keeps _ _ _ drawerStatus_keeps k0)

theorem execEgressMapLoad_keeps {z : Base} (a0 a1 : _) (k0 : Keeps z a1) : KeepsR z (execEgressMapLoad a0 a1) := by
  unfold execEgressMapLoad
  exact KeepsR.next (runCmd_keeps _ _ _ egressMapLoad_keeps k0)

theorem handleQuery_keeps {z : Base} : KeepsS z (handleQuery) := by
  unfold handleQuery
  refine KeepsS.mk (fun _ _ _ h0 => ?_)
  extract_lets -merge -underBinder x1 x2
  exact KeepsC.ite (KeepsC.mk (noteStale_keeps _ h0)) (KeepsC.ok h0)

theorem execHandleQuery_keeps {z : Base} (a0 a1 : _) (k0 : Keeps z a1) : KeepsR z (execHandleQuery a0 a1) := by
  unfold execHandleQuery
  exact KeepsR.next (runCmd_keeps _ _ _ handleQuery_keeps k0)

theorem ownerCounters_keeps {z : Base} : KeepsS z (ownerCounters) := by
  unfold ownerCounters
  exact KeepsS.mk (fun _ _ _ h0 => counterBody_keeps _ _ _ _ _ _ _ h0)

theorem execOwnerCounters_keeps {z : Base} (a0 a1 : _) (k0 : Keeps z a1) : KeepsR z (execOwnerCounters a0 a1) := by
  unfold execOwnerCounters
  exact KeepsR.next (runCmd_keeps _ _ _ ownerCounters_keeps k0)

theorem ownerProfileLoad_keeps {z : Base} : KeepsS z (ownerProfileLoad) := by
  unfold ownerProfileLoad
  exact KeepsS.mk (fun _ _ _ h0 => okState_keeps _ _ _ _ (fun _ _ h1 => loadBank_keeps _ _ _ _ h1) h0)

theorem execOwnerProfileLoad_keeps {z : Base} (a0 a1 : _) (k0 : Keeps z a1) : KeepsR z (execOwnerProfileLoad a0 a1) := by
  unfold execOwnerProfileLoad
  exact KeepsR.next (runCmd_keeps _ _ _ ownerProfileLoad_keeps k0)

theorem ownerStatus_keeps {z : Base} : KeepsS z (ownerStatus) := by
  unfold ownerStatus
  exact KeepsS.mk (fun _ _ _ h0 => okReply_keeps _ _ _ _ h0)

theorem execOwnerStatus_keeps {z : Base} (a0 a1 : _) (k0 : Keeps z a1) : KeepsR z (execOwnerStatus a0 a1) := by
  unfold execOwnerStatus
  exact KeepsR.next (runCmd_keeps _ _ _ ownerStatus_keeps k0)

theorem queueCounters_keeps {z : Base} : KeepsS z (queueCounters) := by
  unfold queueCounters
  exact KeepsS.mk (fun _ _ _ h0 => counterBody_keeps _ _ _ _ _ _ _ h0)

theorem execQueueCounters_keeps {z : Base} (a0 a1 : _) (k0 : Keeps z a1) : KeepsR z (execQueueCounters a0 a1) := by
  unfold execQueueCounters
  exact KeepsR.next (runCmd_keeps _ _ _ queueCounters_keeps k0)

theorem redProfileLoad_keeps {z : Base} : KeepsS z (redProfileLoad) := by
  unfold redProfileLoad
  exact KeepsS.mk (fun _ _ _ h0 => okState_keeps _ _ _ _ (fun _ _ h1 => loadBank_keeps _ _ _ _ h1) h0)

theorem execRedProfileLoad_keeps {z : Base} (a0 a1 : _) (k0 : Keeps z a1) : KeepsR z (execRedProfileLoad a0 a1) := by
  unfold execRedProfileLoad
  exact KeepsR.next (runCmd_keeps _ _ _ redProfileLoad_keeps k0)

theorem schedProfileLoad_keeps {z : Base} : KeepsS z (schedProfileLoad) := by
  unfold schedProfileLoad
  exact KeepsS.mk (fun _ _ _ h0 => okState_keeps _ _ _ _ (fun _ _ h1 => loadBank_keeps _ _ _ _ h1) h0)

theorem execSchedProfileLoad_keeps {z : Base} (a0 a1 : _) (k0 : Keeps z a1) : KeepsR z (execSchedProfileLoad a0 a1) := by
  unfold execSchedProfileLoad
  exact KeepsR.next (runCmd_keeps _ _ _ schedProfileLoad_keeps k0)

theorem vatGroupConfig_keeps {z : Base} : KeepsS z (vatGroupConfig) := by
  unfold vatGroupConfig
  exact KeepsS.mk (fun _ _ _ h0 => KeepsC.ite (KeepsC.refuse h0) (KeepsC.ok (setGroup_keeps _ _ _ h0)))

theorem execVatGroupConfig_keeps {z : Base} (a0 a1 : _) (k0 : Keeps z a1) : KeepsR z (execVatGroupConfig a0 a1) := by
  unfold execVatGroupConfig
  exact KeepsR.next (runCmd_keeps _ _ _ vatGroupConfig_keeps k0)

theorem wakeWaitcp_keeps {z : Base} (a0 a1 : _) (k0 : Keeps z a1) : Keeps z (wakeWaitcp a0 a1) := by
  unfold wakeWaitcp
  refine Keeps.foldl k0 (fun _ _ h0 => ?_)
  split
  · exact Keeps.ite (completeStalled_keeps _ _ _ h0) h0
  · exact h0

theorem freeUnitLock_keeps {z : Base} (a0 a1 : _) (k0 : Keeps z a1) : Keeps z (freeUnitLock a0 a1) := by
  unfold freeUnitLock
  extract_lets -merge -underBinder x0 x1 x2
  have h3 : Keeps z x2 := checkLock_keeps _ _ k0
  exact Keeps.ite (Keeps.ite (freeLock_keeps _ _ _ h3) h3) k0

theorem closeUnit_keeps {z : Base} (a0 a1 a2 : _) (k0 : Keeps z a2) : Keeps z (closeUnit a0 a1 a2) := by
  unfold closeUnit
  extract_lets -merge -underBinder x0
  split
  · exact k0
  · extract_lets -merge -underBinder x1 x2 x3 x4 x5 x6
    have h7 : Keeps z x2 := setUnit_keeps _ _ _ k0
    have h8 : Keeps z x3 := count_keeps _ _ _ _ _ h7
    have h9 : Keeps z x4 := Keeps.ite h8 (count_keeps _ _ _ _ _ h8)
    have h10 : Keeps z x5 := Keeps.ite h9 (dropPin_keeps _ _ h9)
    have h11 : Keeps z x6 := by
      show Keeps z (_)
      unfold x6
      split
      · exact enterItem_keeps _ _ h10
      · exact h10
    exact wakeWaitcp_keeps _ _ (freeUnitLock_keeps _ _ h11)

theorem holdOrClose_keeps {z : Base} (a0 a1 a2 : _) (k0 : Keeps z a2) : Keeps z (holdOrClose a0 a1 a2) := by
  unfold holdOrClose
  extract_lets -merge -underBinder x0
  split
  · exact k0
  · refine Keeps.ite k0 ?_
    split
    · extract_lets -merge -underBinder x1
      exact Keeps.ite (closeUnit_keeps _ _ _ k0) (setUnit_keeps _ _ _ (Keeps.mk' k0 rfl rfl rfl rfl rfl))
    · exact closeUnit_keeps _ _ _ k0

theorem startUnit_keeps {z : Base} (a0 a1 a2 a3 a4 : _) (k0 : Keeps z a4) : Keeps z (startUnit a0 a1 a2 a3 a4) := by
  unfold startUnit
  extract_lets -merge -underBinder x0 x1 x2 x3 x4 x5 x6 x7 x8
  have h9 : Keeps z x5 := Keeps.ite (noteStale_keeps _ k0) k0
  have h10 : Keeps z x6 := Keeps.ite h9 (addPin_keeps _ _ h9)
  have h11 : Keeps z x8 := setUnit_keeps _ _ _ h10
  exact Keeps.ite (holdOrClose_keeps _ _ _ h11) h11

theorem noteDescriptor_keeps {z : Base} (a0 a1 a2 a3 a4 : _) (k0 : Keeps z a4) : Keeps z (noteDescriptor a0 a1 a2 a3 a4) := by
  unfold noteDescriptor
  refine Keeps.ite k0 ?_
  split
  · exact noteDmemUe_keeps _ _ _ k0
  · exact k0

theorem noteDescRead_keeps {z : Base} (a0 a1 a2 a3 a4 a5 : _) (k0 : Keeps z a5) : Keeps z (noteDescRead a0 a1 a2 a3 a4 a5) := by
  unfold noteDescRead
  extract_lets -merge -underBinder x0
  exact Keeps.ite k0 (Keeps.ite (noteAccess_keeps _ _ _ _ _ k0) (checkDmem_keeps _ _ k0))

theorem issueUnit_keeps {z : Base} (a0 a1 a2 a3 a4 a5 a6 a7 a8 : _) (k0 : Keeps z a8) : Keeps z (issueUnit a0 a1 a2 a3 a4 a5 a6 a7 a8) := by
  unfold issueUnit
  extract_lets -merge -underBinder x0 x1 x2 x3
  have h4 : Keeps z x1 := drainStores_keeps _ _ k0
  exact startUnit_keeps _ _ _ _ _ (noteDescriptor_keeps _ _ _ _ _ (noteDescRead_keeps _ _ _ _ _ _ h4))

theorem resumePin_keeps {z : Base} (a0 a1 : _) (k0 : Keeps z a1) : Keeps z (resumePin a0 a1) := by
  unfold resumePin
  refine Keeps.ite (makeReady_keeps _ _ k0) ?_
  split
  · exact stopThread_keeps _ _ _ _ _ k0
  · exact completeStalled_keeps _ _ _ (issueUnit_keeps _ _ _ _ _ _ _ _ _ k0)

theorem resumePins_keeps {z : Base} (n : Nat) : ∀ (i : Nat) (s : State), Keeps z s → Keeps z (resumePins n i s) := by
  induction n with
  | zero => exact fun _ _ h => h
  | succ n ih =>
    intro i s h
    unfold resumePins
    refine Keeps.ite h ?_
    split
    · exact ih _ _ (resumePin_keeps _ _ h)
    · exact h

theorem endUnit_keeps {z : Base} (a0 a1 a2 : _) (k0 : Keeps z a2) : Keeps z (endUnit a0 a1 a2) := by
  unfold endUnit
  split
  · exact k0
  · exact resumePins_keeps _ _ _ (closeUnit_keeps _ _ _ k0)

theorem admitOne_keeps {z : Base} (a0 a1 : _) (k0 : Keeps z a1) : Keeps z (admitOne a0 a1) := by
  unfold admitOne
  extract_lets -merge -underBinder x0 x1
  have h2 : Keeps z x1 := Keeps.mk' k0 rfl rfl rfl rfl rfl
  split
  · exact endUnit_keeps _ _ _ h2
  · exact enterItem_keeps _ _ h2

theorem admitWaiting_keeps {z : Base} (n : Nat) : ∀ (s : State), Keeps z s → Keeps z (admitWaiting n s) := by
  induction n with
  | zero => exact fun _ h => h
  | succ n ih =>
    intro s h
    unfold admitWaiting
    split
    · exact ih _ (admitOne_keeps _ _ h)
    · exact h

theorem admitEvents_keeps {z : Base} (a0 : _) (k0 : Keeps z a0) : Keeps z (admitEvents a0) := by
  unfold admitEvents
  exact admitWaiting_keeps _ _ k0

theorem finishUnit_keeps {z : Base} (a0 a1 a2 : _) (k0 : Keeps z a2) : Keeps z (finishUnit a0 a1 a2) := by
  unfold finishUnit
  split
  · exact k0
  · exact resumePins_keeps _ _ _ (holdOrClose_keeps _ _ _ k0)

theorem freeThread_keeps {z : Base} (a0 a1 : _) (k0 : Keeps z a1) : Keeps z (freeThread a0 a1) := by
  unfold freeThread
  extract_lets -merge -underBinder x0
  have h1 : Keeps z x0 := updThr_keeps _ _ _ k0
  split
  · exact leaveAfter_keeps _ _ _ h1
  · exact leaveAfter_keeps _ _ _ h1
  · exact walk_keeps _ _ (updThr_keeps _ _ _ h1)

theorem voidStamp_keeps {z : Base} (a0 a1 : _) (k0 : Keeps z a1) : Keeps z (voidStamp a0 a1) := by
  unfold voidStamp
  split
  · exact k0
  · split
    · exact k0
    · exact admitEvents_keeps _ (freeThread_keeps _ _ (noteStampVoid_keeps _ _ (voidItem_keeps _ _ (detachOps_keeps _ _ (loseLocks_keeps _ _ _
          (checkHeld_keeps _ _ k0))))))

theorem stamped_keeps {z : Base} (a0 a1 a2 : _) (k0 : ∀ y0, Keeps z y0 → Keeps z (a1 y0)) (k1 : Keeps z a2) : Keeps z (stamped a0 a1 a2) := by
  unfold stamped
  exact Keeps.ite (voidStamp_keeps _ _ k1) (k0 _ k1)

theorem noteLateEnd_keeps {z : Base} (a0 a1 : _) (k0 : Keeps z a1) : Keeps z (noteLateEnd a0 a1) := by
  unfold noteLateEnd
  exact Keeps.ite (setFlag_keeps _ _ _ k0) k0

theorem completeOutputs_keeps {z : Base} (a0 a1 a2 a3 : _) (k0 : Keeps z a3) : Keeps z (completeOutputs a0 a1 a2 a3) := by
  unfold completeOutputs
  extract_lets -merge -underBinder x0 x1 x2 x3 x4 x5
  have h6 : Keeps z x1 := noteLateEnd_keeps _ _ k0
  have h7 : Keeps z x2 := Keeps.ite (lateResumed_keeps _ _ h6) h6
  have h8 : Keeps z x4 := Keeps.ite (evidencePoison_keeps _ _ h7) h7
  have h9 : Keeps z x5 := Keeps.ite h8 (dropRefWord_keeps _ _ h8)
  exact Keeps.ite (voidItem_keeps _ _ (lateDrop_keeps _ _ h6)) (Keeps.ite (voidCounted_keeps _ _ _ h7) (Keeps.ite (voidCounted_keeps _ _ _
      (setFlag_keeps _ _ _ h7)) (endItem_keeps _ _ _ h9)))

theorem completeItem_keeps {z : Base} (a0 a1 a2 : _) (k0 : Keeps z a2) : Keeps z (completeItem a0 a1 a2) := by
  unfold completeItem
  split
  · exact k0
  · split
    · exact k0
    · extract_lets -merge -underBinder x0 x1
      have h2 : Keeps z x0 := checkHeld_keeps _ _ k0
      have h3 : Keeps z x1 := Keeps.ite (voidSlots_keeps _ _ h2) h2
      exact admitEvents_keeps _ (freeThread_keeps _ _ (completeOutputs_keeps _ _ _ _ (detachOps_keeps _ _ (loseLocks_keeps _ _ _ h3))))

theorem noteUnitReads_keeps {z : Base} (a0 a1 : _) (k0 : Keeps z a1) : Keeps z (noteUnitReads a0 a1) := by
  unfold noteUnitReads
  refine Keeps.foldl k0 (fun _ _ h0 => ?_)
  split
  · exact checkDmem_keeps _ _ h0
  · exact noteSpillRead_keeps _ _ _ _ (checkVat_keeps _ _ _ _ h0)
  · exact noteAccess_keeps _ _ _ _ _ h0
  · exact h0

theorem noteInputs_keeps {z : Base} (a0 a1 : _) (k0 : Keeps z a1) : Keeps z (noteInputs a0 a1) := by
  unfold noteInputs
  refine Keeps.foldl k0 (fun _ _ h0 => Keeps.ite h0 ?_)
  split
  · exact noteDmemUe_keeps _ _ _ h0
  · exact h0

theorem freeOuts_keeps {z : Base} (a0 a1 : _) (k0 : Keeps z a1) : KeepsQ z (freeOuts a0 a1) := by
  unfold freeOuts
  exact KeepsQ.mk (drawFree_keeps _ k0)

theorem writeOuts_keeps {z : Base} (a0 a1 a2 : _) (k0 : Keeps z a2) : Keeps z (writeOuts a0 a1 a2) := by
  unfold writeOuts
  exact Keeps.foldl k0 (fun _ _ h0 => Keeps.ite h0 (regionWrite_keeps _ _ _ h0))

theorem completeUnit_keeps {z : Base} (a0 a1 a2 : _) (k0 : Keeps z a2) : Keeps z (completeUnit a0 a1 a2) := by
  unfold completeUnit
  split
  · exact k0
  · refine Keeps.ite k0 (whenAwake_keeps _ _ _ (fun _ h0 => ?_) k0)
    extract_lets -merge -underBinder x1 x2 x3 x4 x5 x6 x7 x8 x9
    have h10 : Keeps z x1 := noteUnitReads_keeps _ _ h0
    have h11 : Keeps z x3 := count_keeps _ _ _ _ _ h10
    have h12 : Keeps z x4 := Keeps.ite (count_keeps _ _ _ _ _ (noteInputs_keeps _ _ h11)) h11
    have h13 : KeepsQ z x5 := freeOuts_keeps _ _ h12
    have h14 : Keeps z x6 := raise_keeps _ _ _ (setFlag_keeps _ _ _ (writeOuts_keeps _ _ _ (KeepsQ.out h13)))
    have h15 : Keeps z x8 := setUnit_keeps _ _ _ h14
    have h16 : Keeps z x9 := Keeps.ite h12 (writeOuts_keeps _ _ _ h12)
    exact Keeps.ite (finishUnit_keeps _ _ _ h15) (finishUnit_keeps _ _ _ h16)

theorem setLink_keeps {z : Base} (a0 a1 : _) (k0 : Keeps z a1) : Keeps z (setLink a0 a1) := by
  unfold setLink
  extract_lets -merge -underBinder x0
  exact Keeps.mk' k0 rfl rfl rfl rfl rfl

theorem updLink_keeps {z : Base} (a0 a1 : _) (k0 : Keeps z a1) : Keeps z (updLink a0 a1) := by
  unfold updLink
  exact setLink_keeps _ _ k0

theorem returnCredits_keeps {z : Base} (a0 a1 : _) (k0 : Keeps z a1) : Keeps z (returnCredits a0 a1) := by
  unfold returnCredits
  exact Keeps.ite (updLink_keeps _ _ k0) k0

theorem beginTraining_keeps {z : Base} (a0 : _) (k0 : Keeps z a0) : Keeps z (beginTraining a0) := by
  unfold beginTraining
  exact updLink_keeps _ _ k0

theorem leaveUp_keeps {z : Base} (a0 a1 : _) (k0 : Keeps z a1) : Keeps z (leaveUp a0 a1) := by
  unfold leaveUp
  extract_lets -merge -underBinder x0 x1 x2
  have h3 : Keeps z x1 := updLink_keeps _ _ k0
  have h4 : Keeps z x2 := raise_keeps _ _ _ (setFlag_keeps _ _ _ h3)
  exact Keeps.ite (Keeps.foldl h4 (fun _ _ h5 => Keeps.ite (finishUnit_keeps _ _ _ h5) h5)) h3

theorem putFlit_keeps {z : Base} (a0 a1 a2 a3 : _) (k0 : Keeps z a3) : Keeps z (putFlit a0 a1 a2 a3) := by
  unfold putFlit
  extract_lets -merge -underBinder x0
  have h1 : Keeps z x0 := Keeps.foldl (Keeps.ite k0 (noteTraffic_keeps _ k0)) (fun _ _ h2 => returnCredits_keeps _ _ h2)
  exact count_keeps _ _ _ _ _ (updLink_keeps _ _ h1)

theorem sendNak_keeps {z : Base} (a0 : _) (k0 : Keeps z a0) : Keeps z (sendNak a0) := by
  unfold sendNak
  exact Keeps.ite k0 (putFlit_keeps _ _ _ _ (count_keeps _ _ _ _ _ (updLink_keeps _ _ k0)))

theorem discardFlit_keeps {z : Base} (a0 : _) (k0 : Keeps z a0) : Keeps z (discardFlit a0) := by
  unfold discardFlit
  extract_lets -merge -underBinder x0
  have h1 : Keeps z x0 := raiseFirst_keeps _ _ _ _ (count_keeps _ _ _ _ _ (setFlag_keeps _ _ _ (updLink_keeps _ _ k0)))
  exact Keeps.ite (sendNak_keeps _ h1) h1

theorem enterUp_keeps {z : Base} (a0 : _) (k0 : Keeps z a0) : Keeps z (enterUp a0) := by
  unfold enterUp
  exact raise_keeps _ _ _ (updLink_keeps _ _ k0)

theorem execBlockLock_keeps {z : Base} (a0 : _) (k0 : Keeps z a0) : KeepsR z (execBlockLock a0) := by
  unfold execBlockLock
  exact KeepsR.next (Keeps.ite (updLink_keeps _ _ k0) k0)

theorem sendSeq_keeps {z : Base} (a0 a1 : _) (k0 : Keeps z a1) : Keeps z (sendSeq a0 a1) := by
  unfold sendSeq
  extract_lets -merge -underBinder x0 x1
  have h2 : Keeps z x1 := updLink_keeps _ _ k0
  exact putFlit_keeps _ _ _ _ h2

theorem sendFlit_keeps {z : Base} (a0 a1 a2 a3 : _) (k0 : Keeps z a3) : Keeps z (sendFlit a0 a1 a2 a3) := by
  unfold sendFlit
  extract_lets -merge -underBinder x0 x1
  exact Keeps.ite (sendSeq_keeps _ _ k0) (setLink_keeps _ _ k0)

theorem execCompanionOp_keeps {z : Base} (a0 a1 a2 a3 a4 a5 a6 : _) (k0 : Keeps z a6) : KeepsR z (execCompanionOp a0 a1 a2 a3 a4 a5 a6) := by
  unfold execCompanionOp
  extract_lets -merge -underBinder x0
  refine KeepsR.next (issue_keeps _ _ _ (KeepsI.mk (fun _ _ h1 => ?_)) k0)
  split
  · exact haltThread_keeps _ _ _ _ _ h1
  · extract_lets -merge -underBinder x2 x3 x4 x5 x6 x7
    have h8 : Keeps z x2 := drainStores_keeps _ _ h1
    have h9 : Keeps z x6 := drawFree_keeps _ h8
    have h10 : Keeps z x7 := setUnit_keeps _ _ _ h9
    exact advance_keeps _ _ (sendFlit_keeps _ _ _ _ h10)

theorem sendWaiting_keeps {z : Base} (n : Nat) : ∀ (s : State), Keeps z s → Keeps z (sendWaiting n s) := by
  induction n with
  | zero => exact fun _ h => h
  | succ n ih =>
    intro s h
    unfold sendWaiting
    dsimp only
    split
    · exact ih _ (sendSeq_keeps _ _ (setLink_keeps _ _ h))
    · exact h

theorem takeHeader_keeps {z : Base} (a0 a1 : _) (k0 : Keeps z a1) : Keeps z (takeHeader a0 a1) := by
  unfold takeHeader
  extract_lets -merge -underBinder x0 x1 x2 x3 x4
  have h5 : Keeps z x3 := Keeps.ite (updLink_keeps _ _ k0) k0
  have h6 : Keeps z x4 := Keeps.ite (updLink_keeps _ _ h5) h5
  exact sendWaiting_keeps _ _ h6

theorem rxFlit_keeps {z : Base} (a0 a1 a2 a3 a4 : _) (k0 : ∀ y0 y1, Keeps z y1 → Keeps z (a3 y0 y1)) (k1 : Keeps z a4) : Keeps z (rxFlit a0 a1 a2 a3
    a4) := by
  unfold rxFlit
  extract_lets -merge -underBinder x0 x1 x2 x3 x4
  have h5 : Keeps z x1 := count_keeps _ _ _ _ _ k1
  have h6 : Keeps z x2 := Keeps.ite h5 (noteTraffic_keeps _ h5)
  have h7 : Keeps z x3 := Keeps.ite h6 (updLink_keeps _ _ h6)
  have h8 : Keeps z x4 := takeHeader_keeps _ _ h7
  exact Keeps.ite h5 (Keeps.ite (discardFlit_keeps _ h6) (Keeps.ite (k0 _ _ (Keeps.ite (takeHeader_keeps _ _ h7) h7)) (Keeps.ite h7 (Keeps.ite
      (sendNak_keeps _ h8) (k0 _ _ (updLink_keeps _ _ h8))))))

theorem freeCredit_keeps {z : Base} (a0 a1 : _) (k0 : Keeps z a1) : Keeps z (freeCredit a0 a1) := by
  unfold freeCredit
  exact returnCredits_keeps _ _ (updLink_keeps _ _ k0)

theorem execEventFlit_keeps {z : Base} (a0 a1 : _) (k0 : Keeps z a1) : KeepsR z (execEventFlit a0 a1) := by
  unfold execEventFlit
  refine KeepsR.next (rxFlit_keeps _ _ _ _ _ (fun _ _ h0 => ?_) k0)
  extract_lets -merge -underBinder x1 x2
  have h3 : Keeps z x2 := count_keeps _ _ _ _ _ h0
  exact Keeps.ite (freeCredit_keeps _ _ (completionEvent_keeps _ _ h3)) (freeCredit_keeps _ _ (raise_keeps _ _ _ (count_keeps _ _ _ _ _ (setFlag_keeps
      _ _ _ h3))))

theorem execIdleFlit_keeps {z : Base} (a0 a1 : _) (k0 : Keeps z a1) : KeepsR z (execIdleFlit a0 a1) := by
  unfold execIdleFlit
  exact KeepsR.next (rxFlit_keeps _ _ _ _ _ (fun _ _ h0 => h0) k0)

theorem execLaneDeskew_keeps {z : Base} (a0 : _) (k0 : Keeps z a0) : KeepsR z (execLaneDeskew a0) := by
  unfold execLaneDeskew
  exact KeepsR.next (Keeps.ite (updLink_keeps _ _ k0) k0)

theorem execNakFlit_keeps {z : Base} (a0 a1 : _) (k0 : Keeps z a1) : KeepsR z (execNakFlit a0 a1) := by
  unfold execNakFlit
  refine KeepsR.next (rxFlit_keeps _ _ _ _ _ (fun _ _ h0 => Keeps.ite h0 ?_) k0)
  extract_lets -merge -underBinder x1 x2
  have h3 : Keeps z x1 := updLink_keeps _ _ h0
  exact Keeps.ite (leaveUp_keeps _ _ (raise_keeps _ _ _ (count_keeps _ _ _ _ _ h3))) (Keeps.foldl (count_keeps _ _ _ _ _ h3) (fun _ _ h4 =>
      putFlit_keeps _ _ _ _ h4))

theorem execOpDone_keeps {z : Base} (a0 a1 : _) (k0 : Keeps z a1) : KeepsR z (execOpDone a0 a1) := by
  unfold execOpDone
  refine KeepsR.next (rxFlit_keeps _ _ _ _ _ (fun _ _ h0 => ?_) k0)
  extract_lets -merge -underBinder x1 x2 x3 x4
  have h5 : Keeps z x4 := freeCredit_keeps _ _ h0
  split
  · exact Keeps.ite (finishUnit_keeps _ _ _ h5) (raise_keeps _ _ _ (count_keeps _ _ _ _ _ (setFlag_keeps _ _ _ h5)))
  · exact raise_keeps _ _ _ (count_keeps _ _ _ _ _ (setFlag_keeps _ _ _ h5))

theorem execOpTimeout_keeps {z : Base} (a0 a1 : _) (k0 : Keeps z a1) : KeepsR z (execOpTimeout a0 a1) := by
  unfold execOpTimeout
  extract_lets -merge -underBinder x0 x1
  exact KeepsR.next (Keeps.ite (finishUnit_keeps _ _ _ (raise_keeps _ _ _ (count_keeps _ _ _ _ _ (setFlag_keeps _ _ _ k0)))) k0)

theorem noteDenied_keeps {z : Base} (a0 : _) (k0 : Keeps z a0) : Keeps z (noteDenied a0) := by
  unfold noteDenied
  exact raiseFirst_keeps _ _ _ _ (count_keeps _ _ _ _ _ (setFlag_keeps _ _ _ k0))

theorem execRdReq_keeps {z : Base} (a0 a1 : _) (k0 : Keeps z a1) : KeepsR z (execRdReq a0 a1) := by
  unfold execRdReq
  refine KeepsR.next (rxFlit_keeps _ _ _ _ _ (fun _ _ h0 => ?_) k0)
  extract_lets -merge -underBinder x1 x2 x3
  have h4 : Keeps z x3 := freeCredit_keeps _ _ (count_keeps _ _ _ _ _ h0)
  split
  · exact sendFlit_keeps _ _ _ _ (noteDenied_keeps _ h4)
  · extract_lets -merge -underBinder x5
    have h6 : Keeps z x5 := noteAccess_keeps _ _ _ _ _ h4
    refine Keeps.foldl h6 (fun _ _ h7 => ?_)
    extract_lets -merge -underBinder x8
    exact sendFlit_keeps _ _ _ _ h7

theorem execTabinoTrainingTimeout_keeps {z : Base} (a0 : _) (k0 : Keeps z a0) : KeepsR z (execTabinoTrainingTimeout a0) := by
  unfold execTabinoTrainingTimeout
  exact KeepsR.next (Keeps.ite (beginTraining_keeps _ (leaveUp_keeps _ _ k0)) k0)

theorem execTrainFlit_keeps {z : Base} (a0 a1 : _) (k0 : Keeps z a1) : KeepsR z (execTrainFlit a0 a1) := by
  unfold execTrainFlit
  refine KeepsR.next (rxFlit_keeps _ _ _ _ _ (fun _ _ h0 => Keeps.ite ?_ h0) k0)
  extract_lets -merge -underBinder x1 x2 x3
  have h4 : Keeps z x1 := updLink_keeps _ _ h0
  have h5 : Keeps z x2 := putFlit_keeps _ _ _ _ h4
  exact Keeps.ite (enterUp_keeps _ h5) h5

theorem execWrReq_keeps {z : Base} (a0 a1 : _) (k0 : Keeps z a1) : KeepsR z (execWrReq a0 a1) := by
  unfold execWrReq
  refine KeepsR.next (rxFlit_keeps _ _ _ _ _ (fun _ _ h0 => ?_) k0)
  extract_lets -merge -underBinder x1 x2
  have h3 : Keeps z x2 := freeCredit_keeps _ _ (count_keeps _ _ _ _ _ h0)
  split
  · exact noteDenied_keeps _ h3
  · exact dramWrite_keeps _ _ _ _ _ h3

theorem bitBranch_keeps {z : Base} (a0 a1 a2 a3 a4 a5 a6 a7 : _) (k0 : Keeps z a7) : Keeps z (bitBranch a0 a1 a2 a3 a4 a5 a6 a7) := by
  unfold bitBranch
  exact issue_keeps _ _ _ (KeepsI.mk (fun _ _ h0 => Keeps.ite (jumpTo_keeps _ _ _ h0) (advance_keeps _ _ h0))) k0

theorem branch_keeps {z : Base} (a0 a1 a2 a3 a4 a5 a6 a7 : _) (k0 : Keeps z a7) : Keeps z (branch a0 a1 a2 a3 a4 a5 a6 a7) := by
  unfold branch
  exact issue_keeps _ _ _ (KeepsI.mk (fun _ _ h0 => Keeps.ite (jumpTo_keeps _ _ _ h0) (advance_keeps _ _ h0))) k0

theorem execBbc_keeps {z : Base} (a0 a1 a2 a3 a4 a5 : _) (k0 : Keeps z a5) : KeepsR z (execBbc a0 a1 a2 a3 a4 a5) := by
  unfold execBbc
  exact KeepsR.next (bitBranch_keeps _ _ _ _ _ _ _ _ k0)

theorem execBbs_keeps {z : Base} (a0 a1 a2 a3 a4 a5 : _) (k0 : Keeps z a5) : KeepsR z (execBbs a0 a1 a2 a3 a4 a5) := by
  unfold execBbs
  exact KeepsR.next (bitBranch_keeps _ _ _ _ _ _ _ _ k0)

theorem execBeq_keeps {z : Base} (a0 a1 a2 a3 a4 a5 : _) (k0 : Keeps z a5) : KeepsR z (execBeq a0 a1 a2 a3 a4 a5) := by
  unfold execBeq
  exact KeepsR.next (branch_keeps _ _ _ _ _ _ _ _ k0)

theorem execBge_keeps {z : Base} (a0 a1 a2 a3 a4 a5 : _) (k0 : Keeps z a5) : KeepsR z (execBge a0 a1 a2 a3 a4 a5) := by
  unfold execBge
  exact KeepsR.next (branch_keeps _ _ _ _ _ _ _ _ k0)

theorem execBgeu_keeps {z : Base} (a0 a1 a2 a3 a4 a5 : _) (k0 : Keeps z a5) : KeepsR z (execBgeu a0 a1 a2 a3 a4 a5) := by
  unfold execBgeu
  exact KeepsR.next (branch_keeps _ _ _ _ _ _ _ _ k0)

theorem execBlt_keeps {z : Base} (a0 a1 a2 a3 a4 a5 : _) (k0 : Keeps z a5) : KeepsR z (execBlt a0 a1 a2 a3 a4 a5) := by
  unfold execBlt
  exact KeepsR.next (branch_keeps _ _ _ _ _ _ _ _ k0)

theorem execBltu_keeps {z : Base} (a0 a1 a2 a3 a4 a5 : _) (k0 : Keeps z a5) : KeepsR z (execBltu a0 a1 a2 a3 a4 a5) := by
  unfold execBltu
  exact KeepsR.next (branch_keeps _ _ _ _ _ _ _ _ k0)

theorem execBne_keeps {z : Base} (a0 a1 a2 a3 a4 a5 : _) (k0 : Keeps z a5) : KeepsR z (execBne a0 a1 a2 a3 a4 a5) := by
  unfold execBne
  exact KeepsR.next (branch_keeps _ _ _ _ _ _ _ _ k0)

theorem execJal_keeps {z : Base} (a0 a1 a2 a3 a4 : _) (k0 : Keeps z a4) : KeepsR z (execJal a0 a1 a2 a3 a4) := by
  unfold execJal
  exact KeepsR.next (issue_keeps _ _ _ (KeepsI.mk (fun _ _ h0 => jumpTo_keeps _ _ _ (setG_keeps _ _ _ _ h0))) k0)

theorem execJalr_keeps {z : Base} (a0 a1 a2 a3 a4 a5 : _) (k0 : Keeps z a5) : KeepsR z (execJalr a0 a1 a2 a3 a4 a5) := by
  unfold execJalr
  exact KeepsR.next (issue_keeps _ _ _ (KeepsI.mk (fun _ _ h0 => jumpTo_keeps _ _ _ (setG_keeps _ _ _ _ h0))) k0)

theorem execJr_keeps {z : Base} (a0 a1 a2 a3 a4 a5 : _) (k0 : Keeps z a5) : KeepsR z (execJr a0 a1 a2 a3 a4 a5) := by
  unfold execJr
  exact KeepsR.next (issue_keeps _ _ _ (KeepsI.mk (fun _ _ h0 => jumpTo_keeps _ _ _ h0)) k0)

theorem execJump_keeps {z : Base} (a0 a1 a2 a3 a4 : _) (k0 : Keeps z a4) : KeepsR z (execJump a0 a1 a2 a3 a4) := by
  unfold execJump
  exact KeepsR.next (issue_keeps _ _ _ (KeepsI.mk (fun _ _ h0 => jumpTo_keeps _ _ _ h0)) k0)

theorem compConfig_keeps {z : Base} : KeepsS z (compConfig) := by
  unfold compConfig
  exact KeepsS.mk (fun _ _ _ h0 => KeepsC.ite (KeepsC.refuse h0) (KeepsC.ok (updLink_keeps _ _ h0)))

theorem compCounters_keeps {z : Base} : KeepsS z (compCounters) := by
  unfold compCounters
  exact KeepsS.mk (fun _ _ _ h0 => counterBody_keeps _ _ _ _ _ _ _ h0)

theorem compEnable_keeps {z : Base} : KeepsS z (compEnable) := by
  unfold compEnable
  exact KeepsS.mk (fun _ _ _ h0 => KeepsC.ite (KeepsC.ite (KeepsC.refuse h0) (KeepsC.ok (Keeps.ite h0 (beginTraining_keeps _ (updLink_keeps _ _
      h0))))) (KeepsC.ok (updLink_keeps _ _ (leaveUp_keeps _ _ h0))))

theorem compEventRoute_keeps {z : Base} : KeepsS z (compEventRoute) := by
  unfold compEventRoute
  exact KeepsS.mk (fun _ _ _ h0 => okState_keeps _ _ _ _ (fun _ _ h1 => Keeps.mk' h1 rfl rfl rfl rfl rfl) h0)

theorem compStatus_keeps {z : Base} : KeepsS z (compStatus) := by
  unfold compStatus
  exact KeepsS.mk (fun _ _ _ h0 => okReply_keeps _ _ _ _ h0)

theorem compWindowSet_keeps {z : Base} : KeepsS z (compWindowSet) := by
  unfold compWindowSet
  exact KeepsS.mk (fun _ _ _ h0 => okState_keeps _ _ _ _ (fun _ _ h1 => Keeps.mk' h1 rfl rfl rfl rfl rfl) h0)

theorem copCounters_keeps {z : Base} : KeepsS z (copCounters) := by
  unfold copCounters
  exact KeepsS.mk (fun _ _ _ h0 => timedBody_keeps _ _ _ _ _ _ _ _ h0)

theorem copFence_keeps {z : Base} : KeepsS z (copFence) := by
  unfold copFence
  refine KeepsS.mk (fun _ _ _ h0 => okState_keeps _ _ _ _ (fun _ _ h1 => ?_) h0)
  extract_lets -merge -underBinder x2 x3
  exact Keeps.ite (setUnit_keeps _ _ _ h1) (Keeps.ite (setUnit_keeps _ _ _ h1) (setUnit_keeps _ _ _ h1))

theorem copStatus_keeps {z : Base} : KeepsS z (copStatus) := by
  unfold copStatus
  exact KeepsS.mk (fun _ _ _ h0 => okReply_keeps _ _ _ _ h0)

theorem execCompConfig_keeps {z : Base} (a0 a1 : _) (k0 : Keeps z a1) : KeepsR z (execCompConfig a0 a1) := by
  unfold execCompConfig
  exact KeepsR.next (runCmd_keeps _ _ _ compConfig_keeps k0)

theorem execCompCounters_keeps {z : Base} (a0 a1 : _) (k0 : Keeps z a1) : KeepsR z (execCompCounters a0 a1) := by
  unfold execCompCounters
  exact KeepsR.next (runCmd_keeps _ _ _ compCounters_keeps k0)

theorem execCompEnable_keeps {z : Base} (a0 a1 : _) (k0 : Keeps z a1) : KeepsR z (execCompEnable a0 a1) := by
  unfold execCompEnable
  exact KeepsR.next (runCmd_keeps _ _ _ compEnable_keeps k0)

theorem execCompEventRoute_keeps {z : Base} (a0 a1 : _) (k0 : Keeps z a1) : KeepsR z (execCompEventRoute a0 a1) := by
  unfold execCompEventRoute
  exact KeepsR.next (runCmd_keeps _ _ _ compEventRoute_keeps k0)

theorem execCompStatus_keeps {z : Base} (a0 a1 : _) (k0 : Keeps z a1) : KeepsR z (execCompStatus a0 a1) := by
  unfold execCompStatus
  exact KeepsR.next (runCmd_keeps _ _ _ compStatus_keeps k0)

theorem execCompWindowSet_keeps {z : Base} (a0 a1 : _) (k0 : Keeps z a1) : KeepsR z (execCompWindowSet a0 a1) := by
  unfold execCompWindowSet
  exact KeepsR.next (runCmd_keeps _ _ _ compWindowSet_keeps k0)

theorem execCopCounters_keeps {z : Base} (a0 a1 : _) (k0 : Keeps z a1) : KeepsR z (execCopCounters a0 a1) := by
  unfold execCopCounters
  exact KeepsR.next (runCmd_keeps _ _ _ copCounters_keeps k0)

theorem execCopFence_keeps {z : Base} (a0 a1 : _) (k0 : Keeps z a1) : KeepsR z (execCopFence a0 a1) := by
  unfold execCopFence
  exact KeepsR.next (runCmd_keeps _ _ _ copFence_keeps k0)

theorem execCopStatus_keeps {z : Base} (a0 a1 : _) (k0 : Keeps z a1) : KeepsR z (execCopStatus a0 a1) := by
  unfold execCopStatus
  exact KeepsR.next (runCmd_keeps _ _ _ copStatus_keeps k0)

theorem wmStreamLoad_keeps {z : Base} : KeepsS z (wmStreamLoad) := by
  unfold wmStreamLoad
  exact KeepsS.mk (fun _ _ _ h0 => okState_keeps _ _ _ _ (fun _ _ h1 => loadBank_keeps _ _ _ _ h1) h0)

theorem execWmStreamLoad_keeps {z : Base} (a0 a1 : _) (k0 : Keeps z a1) : KeepsR z (execWmStreamLoad a0 a1) := by
  unfold execWmStreamLoad
  exact KeepsR.next (runCmd_keeps _ _ _ wmStreamLoad_keeps k0)

theorem updEv_keeps {z : Base} (a0 a1 : _) (k0 : Keeps z a1) : Keeps z (updEv a0 a1) := by
  unfold updEv
  exact Keeps.mk' k0 rfl rfl rfl rfl rfl

theorem commitItem_keeps {z : Base} (a0 a1 a2 a3 : _) (k0 : Keeps z a3) : Keeps z (commitItem a0 a1 a2 a3) := by
  unfold commitItem
  extract_lets -merge -underBinder x0
  exact Keeps.ite (completionEvent_keeps _ _ k0) k0

theorem reportDurable_keeps {z : Base} (a0 : _) (k0 : Keeps z a0) : Keeps z (reportDurable a0) := by
  unfold reportDurable
  extract_lets -merge -underBinder x0 x1
  have h2 : Keeps z x1 := raise_keeps _ _ _ (setFlag_keeps _ _ _ (updEv_keeps _ _ k0))
  exact Keeps.ite (commitItem_keeps _ _ _ _ h2) k0

theorem advanceDurable_keeps {z : Base} (a0 : _) (k0 : Keeps z a0) : Keeps z (advanceDurable a0) := by
  unfold advanceDurable
  split
  · exact k0
  · extract_lets -merge -underBinder x0
    have h1 : Keeps z x0 := updEv_keeps _ _ k0
    exact Keeps.ite (reportDurable_keeps _ (updEv_keeps _ _ h1)) h1

theorem setLane_keeps {z : Base} (a0 a1 a2 : _) (k0 : Keeps z a2) : Keeps z (setLane a0 a1 a2) := by
  unfold setLane
  exact updEv_keeps _ _ k0

theorem readLane_keeps {z : Base} (a0 a1 : _) (k0 : Keeps z a1) : Keeps z (readLane a0 a1) := by
  unfold readLane
  extract_lets -merge -underBinder x0 x1 x2 x3
  have h4 : Keeps z x1 := noteAccess_keeps _ _ _ _ _ k0
  exact setLane_keeps _ _ _ h4

theorem readLanes_keeps {z : Base} (a0 : _) (k0 : Keeps z a0) : Keeps z (readLanes a0) := by
  unfold readLanes
  exact Keeps.foldl k0 (fun _ _ h0 => readLane_keeps _ _ h0)

theorem lineSeals_keeps {z : Base} (a0 : _) (k0 : Keeps z a0) : Keeps z (lineSeals a0) := by
  unfold lineSeals
  extract_lets -merge -underBinder x0 x1 x2
  exact updEv_keeps _ _ k0

theorem nextReam_keeps {z : Base} (c first : Nat) (s : State) (h : Keeps z s) : Keeps z (nextReam c first s) := by
  unfold nextReam
  extract_lets -merge -underBinder n put s1 s2
  have w : ∀ (off k v : Nat) (a : State), Keeps z a → Keeps z (put off k v a) := fun _ _ _ _ k => ctxWrite_keeps _ _ _ _ k
  have h1 : Keeps z s1 := w _ _ _ _ (w _ _ _ _ (w _ _ _ _ (w _ _ _ _ (w _ _ _ _ h))))
  have h2 : Keeps z s2 := w _ _ _ _ (w _ _ _ _ (w _ _ _ _ (w _ _ _ _ (w _ _ _ _ h1))))
  exact Keeps.ite (ctxWrite_keeps _ _ _ _ h2) (updEv_keeps _ _ h2)

theorem closeReam_keeps {z : Base} (a0 a1 a2 a3 : _) (k0 : Keeps z a3) : Keeps z (closeReam a0 a1 a2 a3) := by
  unfold closeReam
  extract_lets -merge -underBinder x0 x1
  have h2 : Keeps z x0 := checkCtx_keeps _ _ _ _ k0
  exact nextReam_keeps _ _ _ (updEv_keeps _ _ h2)

theorem noteStop_keeps {z : Base} (a0 a1 : _) (k0 : Keeps z a1) : Keeps z (noteStop a0 a1) := by
  unfold noteStop
  exact Keeps.ite k0 (raise_keeps _ _ _ (setFlag_keeps _ _ _ (updEv_keeps _ _ k0)))

theorem noteLaneRead_keeps {z : Base} (a0 a1 a2 a3 a4 : _) (k0 : Keeps z a4) : Keeps z (noteLaneRead a0 a1 a2 a3 a4) := by
  unfold noteLaneRead
  extract_lets -merge -underBinder x0 x1
  exact noteAccess_keeps _ _ _ _ _ (noteAccess_keeps _ _ _ _ _ k0)

theorem issueWrite_keeps {z : Base} (a0 a1 a2 a3 a4 a5 : _) (k0 : Keeps z a5) : Keeps z (issueWrite a0 a1 a2 a3 a4 a5) := by
  unfold issueWrite
  extract_lets -merge -underBinder x0
  exact Keeps.ite k0 (updEv_keeps _ _ k0)

theorem countWrite_keeps {z : Base} (a0 a1 a2 : _) (k0 : Keeps z a2) : Keeps z (countWrite a0 a1 a2) := by
  unfold countWrite
  exact Keeps.ite k0 (count_keeps _ _ _ _ _ k0)

theorem noteHigh_keeps {z : Base} (a0 a1 a2 a3 : _) (k0 : Keeps z a3) : Keeps z (noteHigh a0 a1 a2 a3) := by
  unfold noteHigh
  exact Keeps.ite (raise_keeps _ _ _ (setFlag_keeps _ _ _ (updEv_keeps _ _ k0))) k0

theorem writeStripe_keeps {z : Base} (a0 a1 a2 a3 a4 : _) (k0 : Keeps z a4) : Keeps z (writeStripe a0 a1 a2 a3 a4) := by
  unfold writeStripe
  extract_lets -merge -underBinder x0 x1 x2 x3 x4 x5 x6 x7 x8 x9 x10 x11 x12 x13 x14 x15 x16 x17 x18
  have h19 : Keeps z x2 := noteLaneRead_keeps _ _ _ _ _ k0
  have h20 : Keeps z x4 := noteLaneRead_keeps _ _ _ _ _ h19
  have h21 : Keeps z x10 := Keeps.foldl h20 (fun _ _ h29 => raise_keeps _ _ _ (bumpTotal_keeps _ _ _ (setFlag_keeps _ _ _ h29)))
  have h22 : Keeps z x11 := Keeps.foldl h21 (fun _ _ h30 => issueWrite_keeps _ _ _ _ _ _ (countWrite_keeps _ _ _ h30))
  have h23 : Keeps z x12 := Keeps.foldl h22 (fun _ _ h31 => issueWrite_keeps _ _ _ _ _ _ (countWrite_keeps _ _ _ h31))
  have h24 : Keeps z x13 := count_keeps _ _ _ _ _ (count_keeps _ _ _ _ _ h23)
  have h25 : Keeps z x14 := Keeps.ite (count_keeps _ _ _ _ _ (count_keeps _ _ _ _ _ h24)) h24
  have h26 : Keeps z x15 := Keeps.ite h25 (count_keeps _ _ _ _ _ h25)
  have h27 : Keeps z x17 := setLane_keeps _ _ _ h26
  have h28 : Keeps z x18 := updEv_keeps _ _ h27
  exact noteHigh_keeps _ _ _ _ h28

theorem formStripe_keeps {z : Base} (a0 a1 a2 : _) (k0 : Keeps z a2) : Keeps z (formStripe a0 a1 a2) := by
  unfold formStripe
  split
  · exact k0
  · extract_lets -merge -underBinder x0 x1
    refine Keeps.ite k0 (Keeps.ite (Keeps.ite (noteStop_keeps _ _ k0) (Keeps.ite k0 ?_)) k0)
    split
    · exact writeStripe_keeps _ _ _ _ _ k0
    · exact k0

theorem flushLane_keeps {z : Base} (i : Nat) : ∀ (n : Nat) (s : State), Keeps z s → Keeps z (flushLane i n s) := by
  induction i with
  | zero => exact fun _ _ h => h
  | succ i ih =>
    intro n s h
    unfold flushLane
    exact Keeps.ite (ih _ _ (formStripe_keeps _ _ _ h)) h

theorem pfFlush_keeps {z : Base} (a0 : _) (k0 : Keeps z a0) : Keeps z (pfFlush a0) := by
  unfold pfFlush
  extract_lets -merge -underBinder x0 x1
  have h2 : Keeps z x0 := readLanes_keeps _ k0
  have h3 : Keeps z x1 := lineSeals_keeps _ (Keeps.foldl h2 (fun _ _ h4 => closeReam_keeps _ _ _ _ h4))
  exact Keeps.foldl (updEv_keeps _ _ h3) (fun _ _ h5 => flushLane_keeps _ _ _ h5)

theorem releaseUnits_keeps {z : Base} (a0 : _) (k0 : Keeps z a0) : Keeps z (releaseUnits a0) := by
  unfold releaseUnits
  refine Keeps.foldl k0 (fun _ _ h0 => ?_)
  extract_lets -merge -underBinder x1 x2
  have h3 : Keeps z x2 := checkLock_keeps _ _ h0
  exact Keeps.ite (Keeps.ite (freeLock_keeps _ _ _ h3) h3) h0

theorem pfEnd_keeps {z : Base} (a0 : _) (k0 : Keeps z a0) : Keeps z (pfEnd a0) := by
  unfold pfEnd
  exact raise_keeps _ _ _ (setFlag_keeps _ _ _ (releaseUnits_keeps _ (updEv_keeps _ _ k0)))

theorem signRecord_keeps {z : Base} (a0 a1 a2 : _) (k0 : Keeps z a2) : KeepsQ z (signRecord a0 a1 a2) := by
  unfold signRecord
  split
  · exact KeepsQ.mk k0
  · exact KeepsQ.mk (drawFree_keeps _ k0)

theorem writeSealBlock_keeps {z : Base} (a0 a1 : _) (k0 : Keeps z a1) : Keeps z (writeSealBlock a0 a1) := by
  unfold writeSealBlock
  extract_lets -merge -underBinder x0 x1
  exact Keeps.foldl k0 (fun _ _ h2 => issueWrite_keeps _ _ _ _ _ _ h2)

theorem appendRecord_keeps {z : Base} (a0 a1 a2 : _) (k0 : Keeps z a2) : Keeps z (appendRecord a0 a1 a2) := by
  unfold appendRecord
  extract_lets -merge -underBinder x0 x1
  have h2 : Keeps z x1 := updEv_keeps _ _ k0
  exact noteHigh_keeps _ _ _ _ (writeSealBlock_keeps _ _ h2)

theorem pfMarker_keeps {z : Base} (a0 a1 : _) (k0 : Keeps z a1) : Keeps z (pfMarker a0 a1) := by
  unfold pfMarker
  extract_lets -merge -underBinder x0 x1
  have h2 : Keeps z x0 := updEv_keeps _ _ k0
  have h3 : KeepsQ z x1 := signRecord_keeps _ _ _ h2
  exact appendRecord_keeps _ _ _ (updEv_keeps _ _ (KeepsQ.out h3))

theorem pfConfirm_keeps {z : Base} (a0 a1 : _) (k0 : Keeps z a1) : Keeps z (pfConfirm a0 a1) := by
  unfold pfConfirm
  extract_lets -merge -underBinder x0 x1
  have h2 : KeepsQ z x1 := signRecord_keeps _ _ _ k0
  exact writeSealBlock_keeps _ _ (updEv_keeps _ _ (KeepsQ.out h2))

theorem pfMove_keeps {z : Base} (a0 : _) (k0 : Keeps z a0) : Keeps z (pfMove a0) := by
  unfold pfMove
  split
  · exact Keeps.ite k0 (Keeps.ite (pfFlush_keeps _ k0) (updEv_keeps _ _ k0))
  · exact pfEnd_keeps _ k0
  · exact Keeps.ite (Keeps.ite (updEv_keeps _ _ (noteStop_keeps _ _ k0)) (pfMarker_keeps _ _ (advanceDurable_keeps _ k0))) k0
  · exact Keeps.ite (updEv_keeps _ _ k0) k0
  · exact Keeps.ite k0 (Keeps.ite (pfEnd_keeps _ k0) (pfConfirm_keeps _ _ k0))
  · exact Keeps.ite (pfEnd_keeps _ k0) k0
  · exact k0

theorem pfRun_keeps {z : Base} (a0 : _) (k0 : Keeps z a0) : Keeps z (pfRun a0) := by
  unfold pfRun
  exact pfMove_keeps _ (pfMove_keeps _ (pfMove_keeps _ (pfMove_keeps _ (pfMove_keeps _ (pfMove_keeps _ k0)))))

theorem setStream_keeps {z : Base} (a0 a1 a2 : _) (k0 : Keeps z a2) : Keeps z (setStream a0 a1 a2) := by
  unfold setStream
  exact updEv_keeps _ _ k0

theorem sealDurable_keeps {z : Base} (a0 a1 : _) (k0 : Keeps z a1) : Keeps z (sealDurable a0 a1) := by
  unfold sealDurable
  split
  · exact k0
  · extract_lets -merge -underBinder x0
    have h1 : Keeps z x0 := by
      show Keeps z (_)
      unfold x0
      split
      · exact setStream_keeps _ _ _ k0
      · exact k0
    exact commitItem_keeps _ _ _ _ h1

theorem settleSeals_keeps {z : Base} (a0 : _) (k0 : Keeps z a0) : Keeps z (settleSeals a0) := by
  unfold settleSeals
  extract_lets -merge -underBinder x0
  exact Keeps.foldl (updEv_keeps _ _ k0) (fun _ _ h1 => sealDurable_keeps _ _ h1)

theorem putField_keeps {z : Base} (a0 a1 a2 a3 : _) (k0 : Keeps z a3) : Keeps z (putField a0 a1 a2 a3) := by
  unfold putField
  exact dramWrite_keeps _ _ _ _ _ k0

theorem settleStripes_keeps {z : Base} (n : Nat) : ∀ (s : State), Keeps z s → Keeps z (settleStripes n s) := by
  induction n with
  | zero => exact fun _ h => h
  | succ n ih =>
    intro s h
    unfold settleStripes
    split
    · exact h
    · exact ih _ (putField_keeps _ _ _ _ (updEv_keeps _ _ (setLane_keeps _ _ _ (count_keeps _ _ _ _ _ h))))

theorem afterWrites_keeps {z : Base} (a0 : _) (k0 : Keeps z a0) : Keeps z (afterWrites a0) := by
  unfold afterWrites
  exact pfRun_keeps _ (settleSeals_keeps _ (settleStripes_keeps _ _ k0))

theorem pfBegin_keeps {z : Base} (a0 : _) (k0 : Keeps z a0) : Keeps z (pfBegin a0) := by
  unfold pfBegin
  exact Keeps.ite k0 (pfRun_keeps _ (count_keeps _ _ _ _ _ (updEv_keeps _ _ k0)))

theorem rewriteSupers_keeps {z : Base} (a0 : _) (k0 : Keeps z a0) : Keeps z (rewriteSupers a0) := by
  unfold rewriteSupers
  split
  · exact k0
  · extract_lets -merge -underBinder x0
    exact Keeps.foldl (updEv_keeps _ _ k0) (fun _ _ h1 => issueWrite_keeps _ _ _ _ _ _ h1)

theorem exposurePfc_keeps {z : Base} (a0 a1 : _) (k0 : Keeps z a1) : Keeps z (exposurePfc a0 a1) := by
  unfold exposurePfc
  exact Keeps.foldl k0 (fun _ _ h0 => Keeps.mk' h0 rfl rfl rfl rfl rfl)

theorem endExposure_keeps {z : Base} (a0 : _) (k0 : Keeps z a0) : Keeps z (endExposure a0) := by
  unfold endExposure
  exact Keeps.ite (raise_keeps _ _ _ (returnCredits_keeps _ _ (exposurePfc_keeps _ _ (updEv_keeps _ _ k0)))) k0

theorem startReams_keeps {z : Base} (a0 : _) (k0 : Keeps z a0) : Keeps z (startReams a0) := by
  unfold startReams
  exact updEv_keeps _ _ (Keeps.foldl k0 (fun _ _ h0 => ctxWrite_keeps _ _ _ _ h0))

theorem markSecond_keeps {z : Base} (a0 : _) (k0 : Keeps z a0) : Keeps z (markSecond a0) := by
  unfold markSecond
  exact updEv_keeps _ _ k0

theorem noteSecond_keeps {z : Base} (a0 : _) (k0 : Keeps z a0) : Keeps z (noteSecond a0) := by
  unfold noteSecond
  exact Keeps.ite k0 (markSecond_keeps _ k0)

theorem publishTick_keeps {z : Base} (a0 : _) (k0 : Keeps z a0) : Keeps z (publishTick a0) := by
  unfold publishTick
  extract_lets -merge -underBinder x0 x1 x2 x3
  have h4 : Keeps z x1 := putField_keeps _ _ _ _ k0
  have h5 : Keeps z x2 := putField_keeps _ _ _ _ h4
  have h6 : Keeps z x3 := putField_keeps _ _ _ _ h5
  exact dramWrite_keeps _ _ _ _ _ h6

theorem evidenceTick_keeps {z : Base} (a0 : _) (k0 : Keeps z a0) : Keeps z (evidenceTick a0) := by
  unfold evidenceTick
  extract_lets -merge -underBinder x0 x1 x2 x3
  have h4 : Keeps z x0 := startReams_keeps _ (noteSecond_keeps _ k0)
  have h5 : Keeps z x1 := Keeps.ite (publishTick_keeps _ h4) h4
  have h6 : Keeps z x2 := lineSeals_keeps _ (readLanes_keeps _ h5)
  have h7 : Keeps z x3 := updEv_keeps _ _ h6
  exact Keeps.ite (Keeps.ite (count_keeps _ _ _ _ _ h7) h7) h5

theorem execDurableAdvance_keeps {z : Base} (a0 : _) (k0 : Keeps z a0) : KeepsR z (execDurableAdvance a0) := by
  unfold execDurableAdvance
  exact KeepsR.next (advanceDurable_keeps _ k0)

theorem execExposureXoff_keeps {z : Base} (a0 : _) (k0 : Keeps z a0) : KeepsR z (execExposureXoff a0) := by
  unfold execExposureXoff
  extract_lets -merge -underBinder x0
  exact KeepsR.next (Keeps.ite (raise_keeps _ _ _ (setFlag_keeps _ _ _ (exposurePfc_keeps _ _ (updEv_keeps _ _ k0)))) (Keeps.ite (endExposure_keeps _
      k0) k0))

theorem failMember_keeps {z : Base} (a0 a1 : _) (k0 : Keeps z a1) : Keeps z (failMember a0 a1) := by
  unfold failMember
  extract_lets -merge -underBinder x0 x1
  have h2 : Keeps z x0 := updEv_keeps _ _ k0
  have h3 : Keeps z x1 := raise_keeps _ _ _ (setFlag_keeps _ _ _ h2)
  refine Keeps.ite k0 ?_
  split
  · exact Keeps.ite (noteStop_keeps _ _ (noteStop_keeps _ _ h3)) h3
  · exact h3

theorem memberError_keeps {z : Base} (a0 a1 a2 : _) (k0 : Keeps z a2) : Keeps z (memberError a0 a1 a2) := by
  unfold memberError
  exact failMember_keeps _ _ (raise_keeps _ _ _ (count_keeps _ _ _ _ _ k0))

theorem memberTimeout_keeps {z : Base} (a0 a1 : _) (k0 : Keeps z a1) : Keeps z (memberTimeout a0 a1) := by
  unfold memberTimeout
  exact failMember_keeps _ _ (count_keeps _ _ _ _ _ k0)

theorem memberEnds_keeps {z : Base} (a0 a1 a2 : _) (k0 : Keeps z a2) : Keeps z (memberEnds a0 a1 a2) := by
  unfold memberEnds
  split
  · exact k0
  · exact memberError_keeps _ _ _ k0
  · exact memberTimeout_keeps _ _ k0

theorem sealStream_keeps {z : Base} (a0 a1 a2 a3 a4 a5 : _) (k0 : Keeps z a5) : Keeps z (sealStream a0 a1 a2 a3 a4 a5) := by
  unfold sealStream
  extract_lets -merge -underBinder x0 x1 x2 x3 x4 x5 x6
  have h7 : Keeps z x1 := noteAccess_keeps _ _ _ _ _ k0
  have h8 : KeepsQ z x2 := signRecord_keeps _ _ _ (drawFree_keeps _ h7)
  have h9 : Keeps z x5 := appendRecord_keeps _ _ _ (count_keeps _ _ _ _ _ (KeepsQ.out h8))
  have h10 : Keeps z x6 := setStream_keeps _ _ _ h9
  exact updEv_keeps _ _ h10

theorem refuseSeal_keeps {z : Base} (a0 : _) (k0 : Keeps z a0) : Keeps z (refuseSeal a0) := by
  unfold refuseSeal
  exact raise_keeps _ _ _ (count_keeps _ _ _ _ _ (setFlag_keeps _ _ _ k0))

theorem takeSlot_keeps {z : Base} (a0 a1 : _) (k0 : Keeps z a1) : Keeps z (takeSlot a0 a1) := by
  unfold takeSlot
  extract_lets -merge -underBinder x0 x1
  have h2 : Keeps z x1 := setLane_keeps _ _ _ k0
  exact putField_keeps _ _ _ _ h2

theorem takeSeal_keeps {z : Base} (a0 a1 a2 a3 : _) (k0 : Keeps z a3) : Keeps z (takeSeal a0 a1 a2 a3) := by
  unfold takeSeal
  extract_lets -merge -underBinder x0
  have h1 : Keeps z x0 := updEv_keeps _ _ k0
  split
  · split
    · exact Keeps.ite (sealStream_keeps _ _ _ _ _ _ (count_keeps _ _ _ _ _ h1)) (refuseSeal_keeps _ h1)
    · exact refuseSeal_keeps _ h1
  · extract_lets -merge -underBinder x2 x3 x4 x5 x6
    have h7 : Keeps z x4 := noteAccess_keeps _ _ _ _ _ h1
    have h8 : Keeps z x6 := takeSlot_keeps _ _ h7
    split
    · exact Keeps.ite (sealStream_keeps _ _ _ _ _ _ (count_keeps _ _ _ _ _ h8)) (refuseSeal_keeps _ h8)
    · exact refuseSeal_keeps _ h8

theorem execStripeForm_keeps {z : Base} (a0 a1 : _) (k0 : Keeps z a1) : KeepsR z (execStripeForm a0 a1) := by
  unfold execStripeForm
  exact KeepsR.next (formStripe_keeps _ _ _ k0)

theorem startMbx_keeps {z : Base} (a0 a1 : _) (k0 : Keeps z a0) : Keeps z (startMbx a0 a1) := by
  unfold startMbx
  exact Keeps.ite (raise_keeps _ _ _ (setFlag_keeps _ _ _ k0)) (updHost_keeps _ (fun _ => by first | rfl | (split <;> rfl)) _ k0)

theorem mbxGo_keeps {z : Base} (a0 a1 : _) (k0 : Keeps z a1) : Keeps z (mbxGo a0 a1) := by
  unfold mbxGo
  exact Keeps.ite (sweepBad_keeps _ (Keeps.foldl k0 (fun _ _ h0 => startMbx_keeps _ _ h0))) k0

theorem cqHead_keeps {z : Base} (a0 a1 : _) (k0 : Keeps z a1) : Keeps z (cqHead a0 a1) := by
  unfold cqHead
  extract_lets -merge -underBinder x0
  exact Keeps.ite (updHost_keeps _ (fun _ => by first | rfl | (split <;> rfl)) _ k0) (accessError_keeps _ _ _ k0)

theorem eqHead_keeps {z : Base} (a0 a1 : _) (k0 : Keeps z a1) : Keeps z (eqHead a0 a1) := by
  unfold eqHead
  extract_lets -merge -underBinder x0
  exact Keeps.ite (updHost_keeps _ (fun _ => by first | rfl | (split <;> rfl)) _ k0) (accessError_keeps _ _ _ k0)

theorem exrHead_keeps {z : Base} (a0 a1 a2 : _) (k0 : Keeps z a2) : Keeps z (exrHead a0 a1 a2) := by
  unfold exrHead
  extract_lets -merge -underBinder x0
  exact Keeps.ite (setExr_keeps _ _ _ k0) (accessError_keeps _ _ _ k0)

theorem setInj_keeps {z : Base} (a0 a1 a2 : _) (k0 : Keeps z a2) : Keeps z (setInj a0 a1 a2) := by
  unfold setInj
  exact updHost_keeps _ (fun _ => by first | rfl | (split <;> rfl)) _ k0

theorem injTail_keeps {z : Base} (a0 a1 a2 : _) (k0 : Keeps z a2) : Keeps z (injTail a0 a1 a2) := by
  unfold injTail
  extract_lets -merge -underBinder x0
  exact Keeps.ite (setInj_keeps _ _ _ k0) (accessError_keeps _ _ _ k0)

theorem msixSend_keeps {z : Base} (a0 a1 : _) (k0 : Keeps z a1) : Keeps z (msixSend a0 a1) := by
  unfold msixSend
  exact count_keeps _ _ _ _ _ (hostWrite_keeps _ _ _ k0)

theorem msixPending_keeps {z : Base} (a0 : _) (k0 : Keeps z a0) : Keeps z (msixPending a0) := by
  unfold msixPending
  exact Keeps.ite k0 (Keeps.foldl k0 (fun _ _ h0 => Keeps.ite h0 (msixSend_keeps _ _ (updHost_keeps _ (fun _ => by first | rfl | (split <;> rfl)) _
      h0))))

theorem execCqHeadWrite_keeps {z : Base} (a0 a1 : _) (k0 : Keeps z a1) : KeepsR z (execCqHeadWrite a0 a1) := by
  unfold execCqHeadWrite
  exact KeepsR.next (Keeps.ite (cqHead_keeps _ _ k0) k0)

theorem execDLoRead_keeps {z : Base} (a0 : _) (k0 : Keeps z a0) : KeepsR z (execDLoRead a0) := by
  unfold execDLoRead
  exact KeepsR.next (Keeps.ite (updEv_keeps _ _ (updHost_keeps _ (fun _ => by first | rfl | (split <;> rfl)) _ k0)) k0)

theorem execEqHeadWrite_keeps {z : Base} (a0 a1 : _) (k0 : Keeps z a1) : KeepsR z (execEqHeadWrite a0 a1) := by
  unfold execEqHeadWrite
  exact KeepsR.next (Keeps.ite (eqHead_keeps _ _ k0) k0)

theorem execEventMergedPost_keeps {z : Base} (a0 : _) (k0 : Keeps z a0) : KeepsR z (execEventMergedPost a0) := by
  unfold execEventMergedPost
  exact KeepsR.next (postMerged_keeps _ k0)

theorem execExceptionCopyWrite_keeps {z : Base} (a0 a1 : _) (k0 : Keeps z a1) : KeepsR z (execExceptionCopyWrite a0 a1) := by
  unfold execExceptionCopyWrite
  extract_lets -merge -underBinder x0
  refine KeepsR.next ?_
  split
  · exact k0
  · extract_lets -merge -underBinder x1
    exact Keeps.ite k0 (exrCopy_keeps _ _ _ (Keeps.mk' k0 rfl rfl rfl rfl rfl))

theorem execExrHeadWrite_keeps {z : Base} (a0 a1 a2 : _) (k0 : Keeps z a2) : KeepsR z (execExrHeadWrite a0 a1 a2) := by
  unfold execExrHeadWrite
  exact KeepsR.next (Keeps.ite (exrHead_keeps _ _ _ k0) k0)

theorem execExrResidue_keeps {z : Base} (a0 a1 : _) (k0 : Keeps z a1) : KeepsR z (execExrResidue a0 a1) := by
  unfold execExrResidue
  extract_lets -merge -underBinder x0 x1
  refine KeepsR.next ?_
  split
  · exact k0
  · extract_lets -merge -underBinder x2 x3
    have h4 : Keeps z x3 := Keeps.mk' k0 rfl rfl rfl rfl rfl
    exact raise_keeps _ _ _ (setFlag_keeps _ _ _ (count_keeps _ _ _ _ _ (dropCopy_keeps _ _ h4)))

theorem execInjTailWrite_keeps {z : Base} (a0 a1 a2 : _) (k0 : Keeps z a2) : KeepsR z (execInjTailWrite a0 a1 a2) := by
  unfold execInjTailWrite
  exact KeepsR.next (Keeps.ite (injTail_keeps _ _ _ k0) k0)

theorem execMbxGo_keeps {z : Base} (a0 a1 : _) (k0 : Keeps z a1) : KeepsR z (execMbxGo a0 a1) := by
  unfold execMbxGo
  exact KeepsR.next (Keeps.ite (mbxGo_keeps _ _ k0) k0)

theorem execMsixMessage_keeps {z : Base} (a0 a1 : _) (k0 : Keeps z a1) : KeepsR z (execMsixMessage a0 a1) := by
  unfold execMsixMessage
  extract_lets -merge -underBinder x0 x1 x2 x3
  have h4 : Keeps z x3 := updHost_keeps _ (fun _ => by first | rfl | (split <;> rfl)) _ k0
  exact KeepsR.next (Keeps.ite k0 (Keeps.ite (updHost_keeps _ (fun _ => by first | rfl | (split <;> rfl)) _ h4) (msixSend_keeps _ _ h4)))

theorem execRcRead_keeps {z : Base} (a0 a1 : _) (k0 : Keeps z a1) : KeepsR z (execRcRead a0 a1) := by
  unfold execRcRead
  exact KeepsR.next (Keeps.ite (updHost_keeps _ (fun _ => by first | rfl | (split <;> rfl)) _ (Keeps.mk' k0 rfl rfl rfl rfl rfl)) k0)

theorem lkDevice_keeps {z : Base} (a0 a1 a2 : _) (k0 : Keeps z a2) : Keeps z (lkDevice a0 a1 a2) := by
  unfold lkDevice
  exact count_keeps _ _ _ _ _ k0

theorem lkCount_keeps {z : Base} (a0 a1 a2 a3 : _) (k0 : Keeps z a3) : Keeps z (lkCount a0 a1 a2 a3) := by
  unfold lkCount
  exact count_keeps _ _ _ _ _ k0

theorem updLk_keeps {z : Base} (a0 a1 : _) (k0 : Keeps z a1) : Keeps z (updLk a0 a1) := by
  unfold updLk
  exact Keeps.mk' k0 rfl rfl rfl rfl rfl

theorem lookupTrie_keeps {z : Base} (a0 a1 a2 : _) (k0 : Keeps z a2) : KeepsQ z (lookupTrie a0 a1 a2) := by
  unfold lookupTrie
  extract_lets -merge -underBinder x0
  have h1 : Keeps z x0 := lkDevice_keeps _ _ _ (lkCount_keeps _ _ _ _ k0)
  split
  · extract_lets -merge -underBinder x2 x3
    have h4 : Keeps z x2 := raise_keeps _ _ _ (lkCount_keeps _ _ _ _ (setFlag_keeps _ _ _ h1))
    have h5 : Keeps z x3 := Keeps.ite h4 (updLk_keeps _ _ h4)
    exact KeepsQ.mk h5
  · split
    · exact KeepsQ.mk (lkCount_keeps _ _ _ _ h1)
    · extract_lets -merge -underBinder x6
      exact KeepsQ.mk (lkCount_keeps _ _ _ _ h1)

theorem checkFrame_keeps {z : Base} (a0 a1 : _) (k0 : Keeps z a1) : Keeps z (checkFrame a0 a1) := by
  unfold checkFrame
  exact Keeps.ite (raiseFirst_keeps _ _ _ _ (lkDevice_keeps _ _ _ (setFlag_keeps _ _ _ (updLk_keeps _ _ k0)))) k0

theorem fetchBucket_keeps {z : Base} (a0 a1 : _) (k0 : Keeps z a1) : Keeps z (fetchBucket a0 a1) := by
  unfold fetchBucket
  extract_lets -merge -underBinder x0 x1 x2 x3
  have h4 : Keeps z x3 := noteAccess_keeps _ _ _ _ _ (lkDevice_keeps _ _ _ k0)
  exact Keeps.ite (lkDevice_keeps _ _ _ (updLk_keeps _ _ k0)) (updLk_keeps _ _ h4)

theorem readBucket_keeps {z : Base} (a0 a1 a2 : _) (k0 : Keeps z a2) : KeepsQ z (readBucket a0 a1 a2) := by
  unfold readBucket
  extract_lets -merge -underBinder x0
  have h1 : Keeps z x0 := checkFrame_keeps _ _ k0
  exact KeepsQ.ite (KeepsQ.mk (fetchBucket_keeps _ _ h1)) (KeepsQ.mk k0)

theorem writeFlow_keeps {z : Base} (a0 a1 a2 : _) (k0 : Keeps z a2) : Keeps z (writeFlow a0 a1 a2) := by
  unfold writeFlow
  extract_lets -merge -underBinder x0 x1
  have h2 : Keeps z x1 := dramWrite_keeps _ _ _ _ _ k0
  split
  · exact updLk_keeps _ _ h2
  · exact h2

theorem clearEntry_keeps {z : Base} (a0 a1 a2 : _) (k0 : Keeps z a2) : Keeps z (clearEntry a0 a1 a2) := by
  unfold clearEntry
  exact Keeps.ite (writeFlow_keeps _ _ _ k0) (updLk_keeps _ _ k0)

theorem notice_keeps {z : Base} (a0 a1 a2 a3 a4 a5 a6 : _) (k0 : Keeps z a6) : Keeps z (notice a0 a1 a2 a3 a4 a5 a6) := by
  unfold notice
  extract_lets -merge -underBinder x0 x1
  have h2 : Keeps z x1 := updLk_keeps _ _ k0
  exact Keeps.ite (Keeps.ite (raise_keeps _ _ _ h2) h2) (raiseFirst_keeps _ _ _ _ (lkDevice_keeps _ _ _ (setFlag_keeps _ _ _ k0)))

theorem dropBad_keeps {z : Base} (a0 a1 a2 : _) (k0 : Keeps z a1) : Keeps z (dropBad a0 a1 a2) := by
  unfold dropBad
  extract_lets -merge -underBinder x0 x1 x2
  clear_value x0
  have h3 : Keeps z x1 := raise_keeps _ _ _ (setFlag_keeps _ _ _ (clearEntry_keeps _ _ _ k0))
  have h4 : Keeps z x2 := Keeps.ite (raise_keeps _ _ _ (setFlag_keeps _ _ _ h3)) h3
  split
  · exact h4
  · exact Keeps.ite (updLk_keeps _ _ h4) (notice_keeps _ _ _ _ _ _ _ h4)

theorem openBuckets_keeps {z : Base} (a0 a1 a2 a3 : _) (k0 : Keeps z a3) : KeepsQ z (openBuckets a0 a1 a2 a3) := by
  unfold openBuckets
  extract_lets -merge -underBinder x0 x1 x2
  have h3 : KeepsQ z x0 := readBucket_keeps _ _ _ k0
  have h4 : KeepsQ z x1 := readBucket_keeps _ _ _ (KeepsQ.out h3)
  exact KeepsQ.mk (Keeps.foldl (KeepsQ.out h4) (fun _ _ h5 => dropBad_keeps _ _ _ h5))

theorem lookupEntry_keeps {z : Base} (a0 a1 a2 : _) (k0 : Keeps z a2) : KeepsQ z (lookupEntry a0 a1 a2) := by
  unfold lookupEntry
  extract_lets -merge -underBinder x0 x1 x2
  have h3 : KeepsQ z x1 := openBuckets_keeps _ _ _ _ k0
  have h4 : Keeps z x2 := lkDevice_keeps _ _ _ (lkCount_keeps _ _ _ _ (KeepsQ.out h3))
  split
  · split
    · exact KeepsQ.mk (lkCount_keeps _ _ _ _ h4)
    · exact KeepsQ.mk h4
  · split
    · exact KeepsQ.mk (lkCount_keeps _ _ _ _ h4)
    · exact KeepsQ.mk (lkCount_keeps _ _ _ _ h4)

theorem openInsert_keeps {z : Base} (a0 a1 a2 : _) (k0 : Keeps z a2) : KeepsQ z (openInsert a0 a1 a2) := by
  unfold openInsert
  extract_lets -merge -underBinder x0 x1
  have h2 : Keeps z x1 := lkCount_keeps _ _ _ _ (KeepsQ.out (openBuckets_keeps _ _ _ _ k0))
  exact KeepsQ.mk h2

theorem putEntry_keeps {z : Base} (a0 a1 a2 a3 : _) (k0 : Keeps z a3) : Keeps z (putEntry a0 a1 a2 a3) := by
  unfold putEntry
  exact Keeps.ite (writeFlow_keeps _ _ _ k0) (updLk_keeps _ _ k0)

theorem install_keeps {z : Base} (a0 a1 a2 a3 a4 a5 : _) (k0 : Keeps z a5) : KeepsQ z (install a0 a1 a2 a3 a4 a5) := by
  unfold install
  exact KeepsQ.mk (putEntry_keeps _ _ _ _ k0)

theorem setTable_keeps {z : Base} (a0 a1 a2 : _) (k0 : Keeps z a2) : Keeps z (setTable a0 a1 a2) := by
  unfold setTable
  exact updLk_keeps _ _ k0

theorem updTable_keeps {z : Base} (a0 a1 a2 : _) (k0 : Keeps z a2) : Keeps z (updTable a0 a1 a2) := by
  unfold updTable
  exact setTable_keeps _ _ _ k0

theorem tableDraw_keeps {z : Base} (a0 a1 a2 : _) (k0 : Keeps z a2) : KeepsQ z (tableDraw a0 a1 a2) := by
  unfold tableDraw
  extract_lets -merge -underBinder x0
  exact KeepsQ.mk (updTable_keeps _ _ _ k0)

theorem walkPath_keeps {z : Base} (n : Nat) : ∀ (t b : Nat) (l : Option (List Word36)) (p : List (Nat × Nat)) (s : State), Keeps z s →
    KeepsQ z (walkPath n t b l p s) := by
  induction n with
  | zero => exact fun _ _ _ _ _ h => h
  | succ n ih =>
    intro t b l p s h
    have k : ∀ w, Keeps z (tableDraw t w s).2 := fun w => KeepsQ.out (tableDraw_keeps t w s h)
    unfold walkPath
    extract_lets -merge -underBinder ways d s1 i
    have h1 : Keeps z s1 := k _
    refine KeepsQ.ite h ?_
    split
    · exact h1
    · extract_lets -merge -underBinder a r s2
      have h2 : Keeps z s2 := Keeps.foldl (KeepsQ.out (readBucket_keeps _ _ _ h1)) (fun _ _ ha => dropBad_keeps _ _ _ ha)
      exact KeepsQ.ite h2 (ih _ _ _ _ _ h2)

theorem runPath_keeps {z : Base} (a0 a1 a2 : _) (k0 : Keeps z a2) : Keeps z (runPath a0 a1 a2) := by
  unfold runPath
  refine Keeps.foldl k0 (fun _ _ h0 => ?_)
  split
  · exact clearEntry_keeps _ _ _ (putEntry_keeps _ _ _ _ h0)
  · exact h0

theorem chooseVictim_keeps {z : Base} (a0 a1 a2 a3 : _) (k0 : Keeps z a3) : KeepsQ z (chooseVictim a0 a1 a2 a3) := by
  unfold chooseVictim
  extract_lets -merge -underBinder x0 x1
  have h2 : KeepsQ z x1 := tableDraw_keeps _ _ _ k0
  exact KeepsQ.ite (KeepsQ.mk k0) (KeepsQ.ite (KeepsQ.mk k0) (KeepsQ.mk (KeepsQ.out h2)))

theorem dropFlap_keeps {z : Base} (a0 a1 a2 : _) (k0 : Keeps z a2) : Keeps z (dropFlap a0 a1 a2) := by
  unfold dropFlap
  exact updLk_keeps _ _ k0

theorem insertNew_keeps {z : Base} (a0 a1 a2 : _) (k0 : Keeps z a2) : KeepsQ z (insertNew a0 a1 a2) := by
  unfold insertNew
  extract_lets -merge -underBinder x0
  split
  · exact install_keeps _ _ _ _ _ _ k0
  · split
    · exact install_keeps _ _ _ _ _ _ k0
    · extract_lets -merge -underBinder x1 x2
      have h3 : KeepsQ z x1 := walkPath_keeps _ _ _ _ _ _ k0
      have h4 : Keeps z x2 := KeepsQ.out h3
      split
      · extract_lets -merge -underBinder x5
        have h6 : Keeps z x5 := lkDevice_keeps _ _ _ (lkCount_keeps _ _ _ _ (runPath_keeps _ _ _ h4))
        exact install_keeps _ _ _ _ _ _ h6
      · extract_lets -merge -underBinder x7 x8
        have h9 : KeepsQ z x7 := chooseVictim_keeps _ _ _ _ h4
        have h10 : Keeps z x8 := KeepsQ.out h9
        split
        · exact KeepsQ.mk (raiseFirst_keeps _ _ _ _ (lkCount_keeps _ _ _ _ (setFlag_keeps _ _ _ h10)))
        · split
          · exact KeepsQ.mk h10
          · extract_lets -merge -underBinder x11
            have h12 : Keeps z x11 := notice_keeps _ _ _ _ _ _ _ (lkCount_keeps _ _ _ _ (setFlag_keeps _ _ _ (dropFlap_keeps _ _ _ h10)))
            exact KeepsQ.mk (putEntry_keeps _ _ _ _ h12)

theorem refreshAge_keeps {z : Base} (a0 a1 a2 a3 : _) (k0 : Keeps z a3) : Keeps z (refreshAge a0 a1 a2 a3) := by
  unfold refreshAge
  exact lkCount_keeps _ _ _ _ (putEntry_keeps _ _ _ _ k0)

theorem noteFlap_keeps {z : Base} (a0 a1 : _) (k0 : Keeps z a1) : Keeps z (noteFlap a0 a1) := by
  unfold noteFlap
  split
  · exact Keeps.ite (drawFree_keeps _ (setFlag_keeps _ _ _ k0)) k0
  · exact k0

theorem applyMove_keeps {z : Base} (a0 a1 a2 a3 a4 a5 : _) (k0 : Keeps z a5) : Keeps z (applyMove a0 a1 a2 a3 a4 a5) := by
  unfold applyMove
  extract_lets -merge -underBinder x0
  have h1 : Keeps z x0 := putEntry_keeps _ _ _ _ k0
  exact notice_keeps _ _ _ _ _ _ _ (raise_keeps _ _ _ (lkCount_keeps _ _ _ _ (setFlag_keeps _ _ _ h1)))

theorem putFlap_keeps {z : Base} (a0 a1 : _) (k0 : Keeps z a1) : Keeps z (putFlap a0 a1) := by
  unfold putFlap
  exact updLk_keeps _ _ k0

theorem moveEntry_keeps {z : Base} (a0 a1 a2 a3 a4 a5 : _) (k0 : Keeps z a5) : KeepsQ z (moveEntry a0 a1 a2 a3 a4 a5) := by
  unfold moveEntry
  extract_lets -merge -underBinder x0 x1
  clear_value x0
  have h2 : Keeps z x1 := noteFlap_keeps _ _ k0
  split
  · exact KeepsQ.mk (applyMove_keeps _ _ _ _ _ _ (raiseFirst_keeps _ _ _ _ (lkDevice_keeps _ _ _ (setFlag_keeps _ _ _ h2))))
  · extract_lets -merge -underBinder x3 x4
    have h5 : Keeps z x3 := putFlap_keeps _ _ h2
    have h6 : Keeps z x4 := putEntry_keeps _ _ _ _ h5
    exact KeepsQ.ite (KeepsQ.mk (applyMove_keeps _ _ _ _ _ _ (putFlap_keeps _ _ h2))) (KeepsQ.mk (notice_keeps _ _ _ _ _ _ _ (raise_keeps _ _ _
        (lkCount_keeps _ _ _ _ (setFlag_keeps _ _ _ h6)))))

theorem learnFound_keeps {z : Base} (a0 a1 a2 a3 a4 a5 : _) (k0 : Keeps z a5) : KeepsQ z (learnFound a0 a1 a2 a3 a4 a5) := by
  unfold learnFound
  extract_lets -merge -underBinder x0
  exact KeepsQ.ite (KeepsQ.ite (KeepsQ.mk k0) (KeepsQ.mk (notice_keeps _ _ _ _ _ _ _ (lkCount_keeps _ _ _ _ k0)))) (KeepsQ.ite (KeepsQ.mk
      (refreshAge_keeps _ _ _ _ k0)) (KeepsQ.ite (KeepsQ.mk (lkCount_keeps _ _ _ _ k0)) (moveEntry_keeps _ _ _ _ _ _ k0)))

theorem learn_keeps {z : Base} (a0 a1 a2 a3 a4 : _) (k0 : Keeps z a4) : KeepsQ z (learn a0 a1 a2 a3 a4) := by
  unfold learn
  extract_lets -merge -underBinder x0 x1
  have h2 : KeepsQ z x0 := openInsert_keeps _ _ _ k0
  have h3 : Keeps z x1 := KeepsQ.out h2
  split
  · extract_lets -merge -underBinder x4
    have h5 : KeepsQ z x4 := insertNew_keeps _ _ _ (lkDevice_keeps _ _ _ h3)
    exact KeepsQ.mk (Keeps.ite (KeepsQ.out h5) (lkCount_keeps _ _ _ _ (KeepsQ.out h5)))
  · split
    · exact KeepsQ.mk h3
    · extract_lets -merge -underBinder x6 x7
      have h8 : KeepsQ z x6 := learnFound_keeps _ _ _ _ _ _ h3
      exact KeepsQ.mk (lkDevice_keeps _ _ _ (KeepsQ.out h8))

theorem plainInsert_keeps {z : Base} (a0 a1 a2 a3 a4 a5 : _) (k0 : Keeps z a5) : KeepsQ z (plainInsert a0 a1 a2 a3 a4 a5) := by
  unfold plainInsert
  extract_lets -merge -underBinder x0 x1
  have h2 : KeepsQ z x0 := openInsert_keeps _ _ _ k0
  have h3 : Keeps z x1 := lkDevice_keeps _ _ _ (KeepsQ.out h2)
  split
  · exact insertNew_keeps _ _ _ h3
  · split
    · exact KeepsQ.mk h3
    · extract_lets -merge -underBinder x4
      exact KeepsQ.mk (putEntry_keeps _ _ _ _ h3)

theorem insertEntry_keeps {z : Base} (a0 a1 a2 a3 a4 : _) (k0 : Keeps z a4) : KeepsQ z (insertEntry a0 a1 a2 a3 a4) := by
  unfold insertEntry
  exact KeepsQ.ite (learn_keeps _ _ _ _ _ k0) (plainInsert_keeps _ _ _ _ _ _ k0)

theorem dropRewrites_keeps {z : Base} (a0 a1 a2 : _) (k0 : Keeps z a2) : Keeps z (dropRewrites a0 a1 a2) := by
  unfold dropRewrites
  exact updLk_keeps _ _ k0

theorem removeEntry_keeps {z : Base} (a0 a1 a2 a3 : _) (k0 : Keeps z a3) : Keeps z (removeEntry a0 a1 a2 a3) := by
  unfold removeEntry
  exact dropFlap_keeps _ _ _ (clearEntry_keeps _ _ _ k0)

theorem deleteEntry_keeps {z : Base} (a0 a1 a2 : _) (k0 : Keeps z a2) : KeepsQ z (deleteEntry a0 a1 a2) := by
  unfold deleteEntry
  extract_lets -merge -underBinder x0 x1 x2
  have h3 : KeepsQ z x1 := openBuckets_keeps _ _ _ _ k0
  have h4 : Keeps z x2 := dropRewrites_keeps _ _ _ (lkDevice_keeps _ _ _ (KeepsQ.out h3))
  split
  · split
    · exact KeepsQ.mk (removeEntry_keeps _ _ _ _ (lkCount_keeps _ _ _ _ h4))
    · exact KeepsQ.mk h4
  · split
    · exact KeepsQ.mk h4
    · exact KeepsQ.mk h4

theorem runLookup_keeps {z : Base} (a0 a1 : _) (k0 : Keeps z a1) : KeepsQ z (runLookup a0 a1) := by
  unfold runLookup
  refine KeepsQ.ite (KeepsQ.mk k0) (KeepsQ.ite (KeepsQ.mk k0) (KeepsQ.ite (lookupTrie_keeps _ _ _ k0) ?_))
  split
  · exact lookupEntry_keeps _ _ _ k0
  · exact insertEntry_keeps _ _ _ _ _ k0
  · exact deleteEntry_keeps _ _ _ k0

theorem reclaimNodes_keeps {z : Base} (a0 : _) (k0 : Keeps z a0) : Keeps z (reclaimNodes a0) := by
  unfold reclaimNodes
  exact updLk_keeps _ _ k0

theorem setTrie_keeps {z : Base} (a0 a1 a2 : _) (k0 : Keeps z a2) : Keeps z (setTrie a0 a1 a2) := by
  unfold setTrie
  exact updLk_keeps _ _ k0

theorem changeRoutes_keeps {z : Base} (a0 a1 a2 : _) (k0 : Keeps z a2) : Keeps z (changeRoutes a0 a1 a2) := by
  unfold changeRoutes
  extract_lets -merge -underBinder x0 x1 x2 x3
  exact updLk_keeps _ _ (setTrie_keeps _ _ _ k0)

theorem dropTrie_keeps {z : Base} (a0 a1 : _) (k0 : Keeps z a1) : Keeps z (dropTrie a0 a1) := by
  unfold dropTrie
  extract_lets -merge -underBinder x0 x1
  have h2 : Keeps z x1 := updLk_keeps _ _ (setTrie_keeps _ _ _ k0)
  exact Keeps.ite h2 (reclaimNodes_keeps _ h2)

theorem abandonFrozen_keeps {z : Base} (a0 a1 : _) (k0 : Keeps z a1) : Keeps z (abandonFrozen a0 a1) := by
  unfold abandonFrozen
  exact updThr_keeps _ _ _ (leaveWait_keeps _ _ k0)

theorem enterHandler_keeps {z : Base} (a0 a1 a2 : _) (k0 : Keeps z a2) : Keeps z (enterHandler a0 a1 a2) := by
  unfold enterHandler
  extract_lets -merge -underBinder x0
  have h1 : Keeps z x0 := leaveWait_keeps _ _ k0
  exact walk_keeps _ _ (updThr_keeps _ _ _ h1)

theorem takeTerminated_keeps {z : Base} (a0 a1 : _) (k0 : Keeps z a1) : Keeps z (takeTerminated a0 a1) := by
  unfold takeTerminated
  exact enterHandler_keeps _ _ _ (updThr_keeps _ _ _ k0)

theorem terminateThread_keeps {z : Base} (a0 a1 : _) (k0 : Keeps z a1) : Keeps z (terminateThread a0 a1) := by
  unfold terminateThread
  extract_lets -merge -underBinder x0
  have h1 : Keeps z x0 := detachOps_keeps _ _ (voidSlots_keeps _ _ (checkHeld_keeps _ _ k0))
  refine Keeps.ite (updThr_keeps _ _ _ h1) ?_
  split
  · exact updThr_keeps _ _ _ (abandonFrozen_keeps _ _ h1)
  · exact takeTerminated_keeps _ _ h1

theorem terminateItem_keeps {z : Base} (a0 a1 : _) (k0 : Keeps z a1) : Keeps z (terminateItem a0 a1) := by
  unfold terminateItem
  split
  · exact terminateThread_keeps _ _ k0
  · exact k0

theorem ceilingPfc_keeps {z : Base} (a0 a1 : _) (k0 : Keeps z a1) : Keeps z (ceilingPfc a0 a1) := by
  unfold ceilingPfc
  extract_lets -merge -underBinder x0 x1 x2
  exact Keeps.ite (countLate_keeps _ _ _ _ (bumpTotal_keeps _ _ _ (Keeps.mk' k0 rfl rfl rfl rfl rfl))) k0

theorem atCeiling_keeps {z : Base} (a0 a1 : _) (k0 : Keeps z a1) : Keeps z (atCeiling a0 a1) := by
  unfold atCeiling
  split
  · exact k0
  · extract_lets -merge -underBinder x0
    have h1 : Keeps z x0 := raise_keeps _ _ _ (setFlag_keeps _ _ _ (terminateItem_keeps _ _ k0))
    exact Keeps.ite k0 (admitEvents_keeps _ (ceilingPfc_keeps _ _ (voidItem_keeps _ _ (lateLoss_keeps _ _ h1))))

theorem ceilingXon_keeps {z : Base} (a0 a1 a2 : _) (k0 : Keeps z a2) : Keeps z (ceilingXon a0 a1 a2) := by
  unfold ceilingXon
  extract_lets -merge -underBinder x0 x1
  exact Keeps.mk' k0 rfl rfl rfl rfl rfl

theorem lateLossless_keeps {z : Base} (a0 a1 : _) (k0 : Keeps z a1) : Keeps z (lateLossless a0 a1) := by
  unfold lateLossless
  split
  · exact k0
  · extract_lets -merge -underBinder x0
    have h1 : Keeps z x0 := setFlag_keeps _ _ _ (putItem_keeps _ _ _ k0)
    refine Keeps.ite k0 ?_
    split
    · extract_lets -merge -underBinder x2
      have h3 : Keeps z x2 := voidSlots_keeps _ _ (checkHeld_keeps _ _ h1)
      refine Keeps.ite h3 ?_
      split
      · exact updThr_keeps _ _ _ (abandonFrozen_keeps _ _ h3)
      · exact enterHandler_keeps _ _ _ h3
    · exact updItem_keeps _ _ _ h1

theorem lateOrdinary_keeps {z : Base} (a0 a1 : _) (k0 : Keeps z a1) : Keeps z (lateOrdinary a0 a1) := by
  unfold lateOrdinary
  split
  · exact k0
  · exact Keeps.ite k0 (admitEvents_keeps _ (voidItem_keeps _ _ (lateDrop_keeps _ _ (terminateItem_keeps _ _ (setFlag_keeps _ _ _ k0)))))

theorem applyCommit_keeps {z : Base} (a0 : _) (k0 : Keeps z a0) : Keeps z (applyCommit a0) := by
  unfold applyCommit
  split
  · exact k0
  · extract_lets -merge -underBinder x0 x1
    have h2 : Keeps z x0 := updSheets_keeps _ (fun _ => by first | rfl | (split <;> rfl)) _ k0
    exact raise_keeps _ _ _ (setFlag_keeps _ _ _ (Keeps.mk' h2 rfl rfl rfl rfl rfl))

theorem deliverTick_keeps {z : Base} (a0 a1 : _) (k0 : Keeps z a1) : Keeps z (deliverTick a0 a1) := by
  unfold deliverTick
  extract_lets -merge -underBinder x0
  exact Keeps.ite k0 (Keeps.ite (enterItem_keeps _ _ k0) (raise_keeps _ _ _ (setFlag_keeps _ _ _ (count_keeps _ _ _ _ _ (updSheets_keeps _ (fun _ =>
      by first | rfl | (split <;> rfl)) _ k0)))))

theorem forwardTick_keeps {z : Base} (a0 a1 : _) (k0 : Keeps z a1) : Keeps z (forwardTick a0 a1) := by
  unfold forwardTick
  exact Keeps.ite (forwardRaise_keeps _ _ _ k0) k0

theorem deliverTicks_keeps {z : Base} (a0 : _) (k0 : Keeps z a0) : Keeps z (deliverTicks a0) := by
  unfold deliverTicks
  exact Keeps.ite (Keeps.foldl (Keeps.foldl k0 (fun _ _ h1 => forwardTick_keeps _ _ h1)) (fun _ _ h0 => deliverTick_keeps _ _ h0)) k0

theorem furnishRetire_keeps {z : Base} (a0 : _) (k0 : Keeps z a0) : Keeps z (furnishRetire a0) := by
  unfold furnishRetire
  exact Keeps.ite (raise_keeps _ _ _ (setFlag_keeps _ _ _ (updSheets_keeps _ (fun _ => by first | rfl | (split <;> rfl)) _ k0))) k0

theorem furnishSwitch_keeps {z : Base} (a0 : _) (k0 : Keeps z a0) : Keeps z (furnishSwitch a0) := by
  unfold furnishSwitch
  split
  · exact k0
  · refine Keeps.ite k0 ?_
    split
    · exact applyCommit_keeps _ k0
    · exact raise_keeps _ _ _ (setFlag_keeps _ _ _ (updSheets_keeps _ (fun _ => by first | rfl | (split <;> rfl)) _ k0))

theorem startSheets_keeps {z : Base} (a0 : _) (k0 : Keeps z a0) : Keeps z (startSheets a0) := by
  unfold startSheets
  exact markSecond_keeps _ (updSheets_keeps _ (fun _ => by first | rfl | (split <;> rfl)) _ k0)

theorem execAlignTakesEffect_keeps {z : Base} (a0 : _) (k0 : Keeps z a0) : KeepsR z (execAlignTakesEffect a0) := by
  unfold execAlignTakesEffect
  extract_lets -merge -underBinder x0
  have h1 : Keeps z x0 := by
    show Keeps z (_)
    unfold x0
    split
    · exact k0
    · exact updSheets_keeps _ (fun _ => by first | rfl | (split <;> rfl)) _ k0
    · extract_lets -merge -underBinder x2 x3
      have h4 : Keeps z x3 := updSheets_keeps _ (fun _ => by first | rfl | (split <;> rfl)) _ k0
      exact Keeps.ite (raise_keeps _ _ _ (setFlag_keeps _ _ _ h4)) h4
  exact KeepsR.next (Keeps.ite (startSheets_keeps _ (updSheets_keeps _ (fun _ => by first | rfl | (split <;> rfl)) _ h1)) h1)

theorem furnishAbort_keeps {z : Base} : KeepsS z (furnishAbort) := by
  unfold furnishAbort
  exact KeepsS.mk (fun _ _ _ h0 => KeepsC.ite (KeepsC.refuse h0) (KeepsC.ite (KeepsC.refuse h0) (KeepsC.ite (KeepsC.refuse h0) (KeepsC.ok
      (updSheets_keeps _ (fun _ => by first | rfl | (split <;> rfl)) _ h0)))))

theorem execFurnishAbort_keeps {z : Base} (a0 a1 : _) (k0 : Keeps z a1) : KeepsR z (execFurnishAbort a0 a1) := by
  unfold execFurnishAbort
  exact KeepsR.next (runCmd_keeps _ _ _ furnishAbort_keeps k0)

theorem furnishBegin_keeps {z : Base} : KeepsS z (furnishBegin) := by
  unfold furnishBegin
  refine KeepsS.mk (fun _ _ _ h0 => KeepsC.ite (KeepsC.refuse h0) ?_)
  split
  · exact KeepsC.refuse h0
  · exact KeepsC.ite (KeepsC.refuse h0) (KeepsC.ite (KeepsC.refuse h0) (KeepsC.ok (updSheets_keeps _ (fun _ => by first | rfl | (split <;> rfl)) _
        h0)))

theorem execFurnishBegin_keeps {z : Base} (a0 a1 : _) (k0 : Keeps z a1) : KeepsR z (execFurnishBegin a0 a1) := by
  unfold execFurnishBegin
  exact KeepsR.next (runCmd_keeps _ _ _ furnishBegin_keeps k0)

theorem furnishCloseUnit_keeps {z : Base} : KeepsS z (furnishCloseUnit) := by
  unfold furnishCloseUnit
  refine KeepsS.mk (fun _ _ _ h0 => ?_)
  extract_lets -merge -underBinder x1
  split
  · exact KeepsC.refuse h0
  · exact KeepsC.ite (KeepsC.refuse h0) (KeepsC.ok (updSheets_keeps _ (fun _ => by first | rfl | (split <;> rfl)) _ h0))

theorem execFurnishCloseUnit_keeps {z : Base} (a0 a1 : _) (k0 : Keeps z a1) : KeepsR z (execFurnishCloseUnit a0 a1) := by
  unfold execFurnishCloseUnit
  exact KeepsR.next (runCmd_keeps _ _ _ furnishCloseUnit_keeps k0)

theorem furnishCommit_keeps {z : Base} : KeepsS z (furnishCommit) := by
  unfold furnishCommit
  refine KeepsS.mk (fun _ _ _ h0 => ?_)
  extract_lets -merge -underBinder x1 x2
  refine KeepsC.ite (KeepsC.refuse h0) (KeepsC.ite (KeepsC.refuse h0) ?_)
  split
  · exact KeepsC.refuse h0
  · refine KeepsC.ite (KeepsC.refuse h0) (KeepsC.ite (KeepsC.refuse h0) ?_)
    split
    · exact KeepsC.refuse h0
    · exact KeepsC.ite (KeepsC.ok (updSheets_keeps _ (fun _ => by first | rfl | (split <;> rfl)) _ h0)) (KeepsC.ok (applyCommit_keeps _ h0))

theorem execFurnishCommit_keeps {z : Base} (a0 a1 : _) (k0 : Keeps z a1) : KeepsR z (execFurnishCommit a0 a1) := by
  unfold execFurnishCommit
  exact KeepsR.next (runCmd_keeps _ _ _ furnishCommit_keeps k0)

theorem execFurnishConfirmAsk_keeps {z : Base} (a0 a1 a2 : _) (k0 : Keeps z a2) : KeepsR z (execFurnishConfirmAsk a0 a1 a2) := by
  unfold execFurnishConfirmAsk
  refine KeepsR.next ?_
  split
  · exact k0
  · extract_lets -merge -underBinder x0 x1
    exact Keeps.ite k0 (drawFree_keeps _ (updSheets_keeps _ (fun _ => by first | rfl | (split <;> rfl)) _ k0))

theorem furnishStatus_keeps {z : Base} : KeepsS z (furnishStatus) := by
  unfold furnishStatus
  exact KeepsS.mk (fun _ _ _ h0 => okReply_keeps _ _ _ _ h0)

theorem execFurnishStatus_keeps {z : Base} (a0 a1 : _) (k0 : Keeps z a1) : KeepsR z (execFurnishStatus a0 a1) := by
  unfold execFurnishStatus
  exact KeepsR.next (runCmd_keeps _ _ _ furnishStatus_keeps k0)

theorem lateCounters_keeps {z : Base} : KeepsS z (lateCounters) := by
  unfold lateCounters
  refine KeepsS.mk (fun _ _ _ h0 => ?_)
  extract_lets -merge -underBinder x1 x2
  exact KeepsC.ok (Keeps.ite (updSheets_keeps _ (fun _ => by first | rfl | (split <;> rfl)) _ h0) h0)

theorem execLateCounters_keeps {z : Base} (a0 a1 : _) (k0 : Keeps z a1) : KeepsR z (execLateCounters a0 a1) := by
  unfold execLateCounters
  exact KeepsR.next (runCmd_keeps _ _ _ lateCounters_keeps k0)

theorem sheetAlign_keeps {z : Base} : KeepsS z (sheetAlign) := by
  unfold sheetAlign
  exact KeepsS.mk (fun _ _ _ h0 => okState_keeps _ _ _ _ (fun _ _ h1 => updSheets_keeps _ (fun _ => by first | rfl | (split <;> rfl)) _ h1) h0)

theorem execSheetAlign_keeps {z : Base} (a0 a1 : _) (k0 : Keeps z a1) : KeepsR z (execSheetAlign a0 a1) := by
  unfold execSheetAlign
  exact KeepsR.next (runCmd_keeps _ _ _ sheetAlign_keeps k0)

theorem sheetNext_keeps {z : Base} : KeepsS z (sheetNext) := by
  unfold sheetNext
  exact KeepsS.mk (fun _ _ _ h0 => okState_keeps _ _ _ _ (fun _ _ h1 => loadBank_keeps _ _ _ _ h1) h0)

theorem execSheetNext_keeps {z : Base} (a0 a1 : _) (k0 : Keeps z a1) : KeepsR z (execSheetNext a0 a1) := by
  unfold execSheetNext
  exact KeepsR.next (runCmd_keeps _ _ _ sheetNext_keeps k0)

theorem execSheetNowLoRead_keeps {z : Base} (a0 : _) (k0 : Keeps z a0) : KeepsR z (execSheetNowLoRead a0) := by
  unfold execSheetNowLoRead
  exact KeepsR.next (Keeps.ite (updSheets_keeps _ (fun _ => by first | rfl | (split <;> rfl)) _ (updHost_keeps _ (fun _ => by first | rfl | (split <;>
      rfl)) _ k0)) k0)

theorem sheetQuery_keeps {z : Base} : KeepsS z (sheetQuery) := by
  unfold sheetQuery
  exact KeepsS.mk (fun _ _ _ h0 => okReply_keeps _ _ _ _ h0)

theorem execSheetQuery_keeps {z : Base} (a0 a1 : _) (k0 : Keeps z a1) : KeepsR z (execSheetQuery a0 a1) := by
  unfold execSheetQuery
  exact KeepsR.next (runCmd_keeps _ _ _ sheetQuery_keeps k0)

theorem sheetSet_keeps {z : Base} (es : z.sheet = false) : KeepsS z sheetSet :=
  KeepsS.mk (fun _ _ _ h => KeepsC.ite (KeepsC.refuse h) (KeepsC.ok (updSheets_sheet es _ _ h)))

theorem execSheetSet_keeps {z : Base} (a0 a1 : _) (es : z.sheet = false) (k0 : Keeps z a1) : KeepsR z (execSheetSet a0 a1) := by
  unfold execSheetSet
  exact KeepsR.next (runCmd_keeps _ _ _ (sheetSet_keeps es) k0)

theorem sheetStart_keeps {z : Base} : KeepsS z (sheetStart) := by
  unfold sheetStart
  exact KeepsS.mk (fun _ _ _ h0 => KeepsC.ite (KeepsC.refuse h0) (KeepsC.ite (KeepsC.ok (updSheets_keeps _ (fun _ => by first | rfl | (split <;> rfl))
      _ h0)) (KeepsC.ok (startSheets_keeps _ h0))))

theorem execSheetStart_keeps {z : Base} (a0 a1 : _) (k0 : Keeps z a1) : KeepsR z (execSheetStart a0 a1) := by
  unfold execSheetStart
  exact KeepsR.next (runCmd_keeps _ _ _ sheetStart_keeps k0)

theorem tickSubscribe_keeps {z : Base} : KeepsS z (tickSubscribe) := by
  unfold tickSubscribe
  exact KeepsS.mk (fun _ _ _ h0 => okState_keeps _ _ _ _ (fun _ _ h1 => updSheets_keeps _ (fun _ => by first | rfl | (split <;> rfl)) _ h1) h0)

theorem execTickSubscribe_keeps {z : Base} (a0 a1 : _) (k0 : Keeps z a1) : KeepsR z (execTickSubscribe a0 a1) := by
  unfold execTickSubscribe
  exact KeepsR.next (runCmd_keeps _ _ _ tickSubscribe_keeps k0)

end Sys2Proof.Machine
end

