-- ==== Sys2Proof/Laws/KeepsStores.lean ====
section
/-!
SUPPORT. One lemma for each operation, command body and command of DovetailInstr, DovetailCmd, LineInstr, LineCmd, FenceOps, SecureOps, DramOps,
ResetOps, EvidenceInstr, HostCmd, PowerOps, PowerCmd, DramCmd: it keeps what every command keeps.
-/
set_option linter.constructorNameAsVariable false
set_option linter.unusedVariables false
namespace Sys2Proof.Machine

theorem badToken_keeps {z : Base} (a0 : _) (k0 : Keeps z a0) : Keeps z (badToken a0) := by
  unfold badToken
  exact raiseFirst_keeps _ _ _ _ (count_keeps _ _ _ _ _ (setFlag_keeps _ _ _ k0))

theorem queueLock_keeps {z : Base} (a0 a1 a2 a3 a4 : _) (k0 : Keeps z a4) : Keeps z (queueLock a0 a1 a2 a3 a4) := by
  unfold queueLock
  extract_lets -merge -underBinder x0 x1 x2 x3
  have h4 : Keeps z x2 := count_keeps _ _ _ _ _ (setLock_keeps _ _ _ k0)
  have h5 : Keeps z x3 := stallThread_keeps _ _ _ _ h4
  exact count_keeps _ _ _ _ _ h5

theorem breakCycle_keeps {z : Base} (a0 a1 a2 a3 a4 a5 : _) (k0 : Keeps z a5) : Keeps z (breakCycle a0 a1 a2 a3 a4 a5) := by
  unfold breakCycle
  extract_lets -merge -underBinder x0 x1 x2
  have h3 : Keeps z x0 := raise_keeps _ _ _ (count_keeps _ _ _ _ _ (setFlag_keeps _ _ _ k0))
  have h4 : Keeps z x2 := queueLock_keeps _ _ _ _ _ h3
  refine Keeps.ite (recoveryAbort_keeps _ _ (checkHeld_keeps _ _ (updThr_keeps _ _ _ h3))) ?_
  split
  · exact recoveryAbort_keeps _ _ (checkHeld_keeps _ _ h4)
  · exact h4

theorem commitSlot_keeps {z : Base} (a0 a1 a2 : _) (k0 : Keeps z a2) : Keeps z (commitSlot a0 a1 a2) := by
  unfold commitSlot
  split
  · exact k0
  · extract_lets -merge -underBinder x0
    exact settleChan_keeps _ _ (progress_keeps _ _ (count_keeps _ _ _ _ _ (setChan_keeps _ _ _ k0)))

theorem takeClaim_keeps {z : Base} (a0 a1 : _) (k0 : Keeps z a1) : Keeps z (takeClaim a0 a1) := by
  unfold takeClaim
  extract_lets -merge -underBinder x0
  exact setChan_keeps _ _ _ k0

theorem deliverWords_keeps {z : Base} (a0 a1 a2 a3 a4 a5 : _) (k0 : Keeps z a5) : Keeps z (deliverWords a0 a1 a2 a3 a4 a5) := by
  unfold deliverWords
  extract_lets -merge -underBinder x0 x1
  have h2 : Keeps z x1 := progress_keeps _ _ (setChan_keeps _ _ _ k0)
  exact settleChan_keeps _ _ (Keeps.ite (dmemPuts_keeps _ _ _ _ h2) h2)

theorem dovInstr_keeps {z : Base} (a0 a1 a2 a3 a4 a5 a6 a7 a8 a9 a10 : _) (k0 : ∀ y0 y1 y2, Keeps z y2 → Keeps z (a9 y0 y1 y2)) (k1 : Keeps z a10) :
    Keeps z (dovInstr a0 a1 a2 a3 a4 a5 a6 a7 a8 a9 a10) := by
  unfold dovInstr
  extract_lets -merge -underBinder x0
  exact issue_keeps _ _ _ (KeepsI.mk (fun _ _ h1 => k0 _ _ _ h1)) k1

theorem execDccmt_keeps {z : Base} (a0 a1 a2 a3 a4 a5 : _) (k0 : Keeps z a5) : KeepsR z (execDccmt a0 a1 a2 a3 a4 a5) := by
  unfold execDccmt
  refine KeepsR.next (dovInstr_keeps _ _ _ _ _ _ _ _ _ _ _ (fun _ _ _ h0 => ?_) k0)
  extract_lets -merge -underBinder x1
  have h2 : Keeps z x1 := checkChan_keeps _ _ (drainStores_keeps _ _ h0)
  refine advance_keeps _ _ ?_
  split
  · exact badToken_keeps _ h2
  · exact commitSlot_keeps _ _ _ h2

theorem execDcput_keeps {z : Base} (a0 a1 a2 a3 a4 a5 : _) (k0 : Keeps z a5) : KeepsR z (execDcput a0 a1 a2 a3 a4 a5) := by
  unfold execDcput
  refine KeepsR.next (dovInstr_keeps _ _ _ _ _ _ _ _ _ _ _ (fun _ _ _ h0 => ?_) k0)
  extract_lets -merge -underBinder x1
  have h2 : Keeps z x1 := checkChan_keeps _ _ h0
  refine advance_keeps _ _ ?_
  split
  · exact badToken_keeps _ h2
  · split
    · exact badToken_keeps _ h2
    · extract_lets -merge -underBinder x3
      exact setChan_keeps _ _ _ h2

theorem execDcres_keeps {z : Base} (a0 a1 a2 a3 a4 a5 : _) (k0 : Keeps z a5) : KeepsR z (execDcres a0 a1 a2 a3 a4 a5) := by
  unfold execDcres
  refine KeepsR.next (dovInstr_keeps _ _ _ _ _ _ _ _ _ _ _ (fun _ _ _ h0 => ?_) k0)
  extract_lets -merge -underBinder x1 x2 x3 x4
  have h5 : Keeps z x2 := checkChan_keeps _ _ h0
  exact Keeps.ite (advance_keeps _ _ (setG_keeps _ _ _ _ (reserveSlot_keeps _ _ _ _ _ h5))) (stallThread_keeps _ _ _ _ (setChan_keeps _ _ _ h5))

theorem execDctake_keeps {z : Base} (a0 a1 a2 a3 a4 a5 : _) (k0 : Keeps z a5) : KeepsR z (execDctake a0 a1 a2 a3 a4 a5) := by
  unfold execDctake
  refine KeepsR.next (dovInstr_keeps _ _ _ _ _ _ _ _ _ _ _ (fun _ _ _ h0 => ?_) k0)
  extract_lets -merge -underBinder x1 x2 x3 x4 x5
  have h6 : Keeps z x3 := checkChan_keeps _ _ h0
  have h7 : Keeps z x5 := checkSlot_keeps _ _ _ (takeClaim_keeps _ _ h6)
  refine Keeps.ite (haltThread_keeps _ _ _ _ _ h0) ?_
  split
  · exact advance_keeps _ _ (setG_keeps _ _ _ _ (deliverWords_keeps _ _ _ _ _ _ h7))
  · extract_lets -merge -underBinder x8
    exact stallThread_keeps _ _ _ _ (setChan_keeps _ _ _ h7)

theorem takeLock_keeps {z : Base} (a0 a1 a2 : _) (k0 : Keeps z a2) : Keeps z (takeLock a0 a1 a2) := by
  unfold takeLock
  extract_lets -merge -underBinder x0
  exact lockProgress_keeps _ _ (trace_keeps _ _ _ _ _ (count_keeps _ _ _ _ _ (setLock_keeps _ _ _ k0)))

theorem execDlock_keeps {z : Base} (a0 a1 a2 a3 a4 a5 : _) (k0 : Keeps z a5) : KeepsR z (execDlock a0 a1 a2 a3 a4 a5) := by
  unfold execDlock
  refine KeepsR.next (dovInstr_keeps _ _ _ _ _ _ _ _ _ _ _ (fun _ _ _ h0 => ?_) k0)
  extract_lets -merge -underBinder x1 x2 x3 x4
  have h5 : Keeps z x2 := checkLock_keeps _ _ h0
  have h6 : Keeps z x4 := takeLock_keeps _ _ _ h5
  refine Keeps.ite (advance_keeps _ _ (setG_keeps _ _ _ _ h5)) (Keeps.ite (advance_keeps _ _ (setG_keeps _ _ _ _ h6)) ?_)
  split
  · exact breakCycle_keeps _ _ _ _ _ _ h5
  · exact queueLock_keeps _ _ _ _ _ h5

theorem tryLock_keeps {z : Base} (a0 a1 a2 : _) (k0 : Keeps z a2) : KeepsQ z (tryLock a0 a1 a2) := by
  unfold tryLock
  extract_lets -merge -underBinder x0 x1
  have h2 : Keeps z x1 := takeLock_keeps _ _ _ k0
  exact KeepsQ.ite (KeepsQ.mk k0) (KeepsQ.ite (KeepsQ.mk h2) (KeepsQ.mk k0))

theorem execDtry_keeps {z : Base} (a0 a1 a2 a3 a4 a5 : _) (k0 : Keeps z a5) : KeepsR z (execDtry a0 a1 a2 a3 a4 a5) := by
  unfold execDtry
  refine KeepsR.next (dovInstr_keeps _ _ _ _ _ _ _ _ _ _ _ (fun _ _ _ h0 => ?_) k0)
  extract_lets -merge -underBinder x1 x2
  have h3 : KeepsQ z x2 := tryLock_keeps _ _ _ (checkLock_keeps _ _ h0)
  exact advance_keeps _ _ (setG_keeps _ _ _ _ (KeepsQ.out h3))

theorem unlock_keeps {z : Base} (a0 a1 a2 : _) (k0 : Keeps z a2) : Keeps z (unlock a0 a1 a2) := by
  unfold unlock
  extract_lets -merge -underBinder x0
  refine Keeps.ite ?_ (raise_keeps _ _ _ (count_keeps _ _ _ _ _ (setFlag_keeps _ _ _ k0)))
  split
  · exact Keeps.ite (setLock_keeps _ _ _ k0) (freeLock_keeps _ _ _ k0)
  · exact freeLock_keeps _ _ _ k0

theorem execDunlk_keeps {z : Base} (a0 a1 a2 a3 a4 a5 : _) (k0 : Keeps z a5) : KeepsR z (execDunlk a0 a1 a2 a3 a4 a5) := by
  unfold execDunlk
  refine KeepsR.next (dovInstr_keeps _ _ _ _ _ _ _ _ _ _ _ (fun _ _ _ h0 => ?_) k0)
  extract_lets -merge -underBinder x1
  exact advance_keeps _ _ (unlock_keeps _ _ _ (checkLock_keeps _ _ (drainStores_keeps _ _ h0)))

theorem channelConfig_keeps {z : Base} : KeepsS z (channelConfig) := by
  unfold channelConfig
  refine KeepsS.mk (fun _ _ _ h0 => ?_)
  extract_lets -merge -underBinder x1 x2
  have h3 : Keeps z x1 := checkChan_keeps _ _ h0
  exact KeepsC.ite (KeepsC.refuse h3) (KeepsC.ok (setChan_keeps _ _ _ h3))

theorem channelPost_keeps {z : Base} : KeepsS z (channelPost) := by
  unfold channelPost
  refine KeepsS.mk (fun _ _ _ h0 => ?_)
  extract_lets -merge -underBinder x1 x2 x3
  have h4 : Keeps z x2 := checkChan_keeps _ _ h0
  exact KeepsC.ite (KeepsC.refuse h4) (KeepsC.ok (commitSlot_keeps _ _ _ (reserveSlot_keeps _ _ _ _ _ h4)))

theorem channelStatus_keeps {z : Base} : KeepsS z (channelStatus) := by
  unfold channelStatus
  refine KeepsS.mk (fun _ _ _ h0 => ?_)
  extract_lets -merge -underBinder x1 x2
  have h3 : Keeps z x1 := checkChan_keeps _ _ h0
  exact KeepsC.ok h3

theorem channelTake_keeps {z : Base} : KeepsS z (channelTake) := by
  unfold channelTake
  refine KeepsS.mk (fun _ _ _ h0 => ?_)
  extract_lets -merge -underBinder x1 x2 x3 x4
  have h5 : Keeps z x2 := checkChan_keeps _ _ h0
  have h6 : Keeps z x4 := checkSlot_keeps _ _ _ h5
  split
  · exact KeepsC.refuse h6
  · extract_lets -merge -underBinder x7 x8 x9
    have h10 : Keeps z x7 := takeClaim_keeps _ _ h6
    have h11 : Keeps z x9 := progress_keeps _ _ (setChan_keeps _ _ _ h10)
    exact KeepsC.ite (KeepsC.ok (settleChan_keeps _ _ h11)) (KeepsC.ok (Keeps.mk' (settleChan_keeps _ _ h11) rfl rfl rfl rfl rfl))

theorem coreCounters_keeps {z : Base} : KeepsS z (coreCounters) := by
  unfold coreCounters
  exact KeepsS.mk (fun _ _ _ h0 => timedBody_keeps _ _ _ _ _ _ _ _ h0)

theorem detectorTick_keeps {z : Base} (a0 : _) (k0 : Keeps z a0) : Keeps z (detectorTick a0) := by
  unfold detectorTick
  extract_lets -merge -underBinder x0
  refine Keeps.foldl k0 (fun _ _ h1 => ?_)
  extract_lets -merge -underBinder x2 x3 x4
  exact Keeps.mk' h1 rfl rfl rfl rfl rfl

theorem dovetailCounters_keeps {z : Base} : KeepsS z (dovetailCounters) := by
  unfold dovetailCounters
  exact KeepsS.mk (fun _ _ _ h0 => counterBody_keeps _ _ _ _ _ _ _ h0)

theorem execAllwaitDetection_keeps {z : Base} (a0 a1 : _) (k0 : Keeps z a1) : KeepsR z (execAllwaitDetection a0 a1) := by
  unfold execAllwaitDetection
  extract_lets -merge -underBinder x0 x1 x2 x3
  have h4 : Keeps z x2 := Keeps.mk' k0 rfl rfl rfl rfl rfl
  refine KeepsR.next (Keeps.ite k0 ?_)
  split
  · exact h4
  · extract_lets -merge -underBinder x5 x6
    have h7 : Keeps z x6 := Keeps.ite (raise_keeps _ _ _ (count_keeps _ _ _ _ _ (setFlag_keeps _ _ _ h4))) (raise_keeps _ _ _ (count_keeps _ _ _ _ _
        (setFlag_keeps _ _ _ h4)))
    exact postFault_keeps _ _ _ _ (recoveryAbort_keeps _ _ (checkHeld_keeps _ _ h7))

theorem execChannelConfig_keeps {z : Base} (a0 a1 : _) (k0 : Keeps z a1) : KeepsR z (execChannelConfig a0 a1) := by
  unfold execChannelConfig
  exact KeepsR.next (runCmd_keeps _ _ _ channelConfig_keeps k0)

theorem execChannelPost_keeps {z : Base} (a0 a1 : _) (k0 : Keeps z a1) : KeepsR z (execChannelPost a0 a1) := by
  unfold execChannelPost
  exact KeepsR.next (runCmd_keeps _ _ _ channelPost_keeps k0)

theorem execChannelStatus_keeps {z : Base} (a0 a1 : _) (k0 : Keeps z a1) : KeepsR z (execChannelStatus a0 a1) := by
  unfold execChannelStatus
  exact KeepsR.next (runCmd_keeps _ _ _ channelStatus_keeps k0)

theorem execChannelTake_keeps {z : Base} (a0 a1 : _) (k0 : Keeps z a1) : KeepsR z (execChannelTake a0 a1) := by
  unfold execChannelTake
  exact KeepsR.next (runCmd_keeps _ _ _ channelTake_keeps k0)

theorem execCoreCounters_keeps {z : Base} (a0 a1 : _) (k0 : Keeps z a1) : KeepsR z (execCoreCounters a0 a1) := by
  unfold execCoreCounters
  exact KeepsR.next (runCmd_keeps _ _ _ coreCounters_keeps k0)

theorem execDovetailCounters_keeps {z : Base} (a0 a1 : _) (k0 : Keeps z a1) : KeepsR z (execDovetailCounters a0 a1) := by
  unfold execDovetailCounters
  exact KeepsR.next (runCmd_keeps _ _ _ dovetailCounters_keeps k0)

theorem lockBreak_keeps {z : Base} : KeepsS z (lockBreak) := by
  unfold lockBreak
  refine KeepsS.mk (fun _ _ _ h0 => ?_)
  extract_lets -merge -underBinder x1 x2 x3
  have h4 : Keeps z x2 := checkLock_keeps _ _ h0
  exact KeepsC.ite (KeepsC.refuse h4) (KeepsC.ok (loseLock_keeps _ _ _ h4))

theorem execLockBreak_keeps {z : Base} (a0 a1 : _) (k0 : Keeps z a1) : KeepsR z (execLockBreak a0 a1) := by
  unfold execLockBreak
  exact KeepsR.next (runCmd_keeps _ _ _ lockBreak_keeps k0)

theorem lockQuery_keeps {z : Base} : KeepsS z (lockQuery) := by
  unfold lockQuery
  refine KeepsS.mk (fun _ _ _ h0 => ?_)
  extract_lets -merge -underBinder x1 x2 x3
  have h4 : Keeps z x1 := checkLock_keeps _ _ h0
  exact KeepsC.ok (Keeps.ite h4 (drawFree_keeps _ h4))

theorem execLockQuery_keeps {z : Base} (a0 a1 : _) (k0 : Keeps z a1) : KeepsR z (execLockQuery a0 a1) := by
  unfold execLockQuery
  exact KeepsR.next (runCmd_keeps _ _ _ lockQuery_keeps k0)

theorem lockRelease_keeps {z : Base} : KeepsS z (lockRelease) := by
  unfold lockRelease
  refine KeepsS.mk (fun _ _ _ h0 => ?_)
  extract_lets -merge -underBinder x1 x2
  have h3 : Keeps z x1 := checkLock_keeps _ _ h0
  exact KeepsC.mk (unlock_keeps _ _ _ h3)

theorem execLockRelease_keeps {z : Base} (a0 a1 : _) (k0 : Keeps z a1) : KeepsR z (execLockRelease a0 a1) := by
  unfold execLockRelease
  exact KeepsR.next (runCmd_keeps _ _ _ lockRelease_keeps k0)

theorem lockTry_keeps {z : Base} : KeepsS z (lockTry) := by
  unfold lockTry
  refine KeepsS.mk (fun _ _ _ h0 => ?_)
  extract_lets -merge -underBinder x1
  have h2 : KeepsQ z x1 := tryLock_keeps _ _ _ (checkLock_keeps _ _ h0)
  exact KeepsC.ok (KeepsQ.out h2)

theorem execLockTry_keeps {z : Base} (a0 a1 : _) (k0 : Keeps z a1) : KeepsR z (execLockTry a0 a1) := by
  unfold execLockTry
  exact KeepsR.next (runCmd_keeps _ _ _ lockTry_keeps k0)

theorem slotTableSet_keeps {z : Base} : KeepsS z (slotTableSet) := by
  unfold slotTableSet
  refine KeepsS.mk (fun _ _ _ h0 => okState_keeps _ _ _ _ (fun _ _ h1 => ?_) h0)
  extract_lets -merge -underBinder x2 x3
  exact Keeps.mk' h1 rfl rfl rfl rfl rfl

theorem execSlotTableSet_keeps {z : Base} (a0 a1 : _) (k0 : Keeps z a1) : KeepsR z (execSlotTableSet a0 a1) := by
  unfold execSlotTableSet
  exact KeepsR.next (runCmd_keeps _ _ _ slotTableSet_keeps k0)

theorem supervisorSet_keeps {z : Base} : KeepsS z (supervisorSet) := by
  unfold supervisorSet
  refine KeepsS.mk (fun _ _ _ h0 => ?_)
  extract_lets -merge -underBinder x1 x2 x3 x4 x5 x6 x7
  have h8 : Keeps z x6 := Keeps.mk' h0 rfl rfl rfl rfl rfl
  exact KeepsC.ite (KeepsC.refuse h0) (KeepsC.ite (KeepsC.ok (repostFaults_keeps _ _ (enterSupervisor_keeps _ _ (setThr_keeps _ _ _ h8)))) (KeepsC.ok
      h8))

theorem execSupervisorSet_keeps {z : Base} (a0 a1 : _) (k0 : Keeps z a1) : KeepsR z (execSupervisorSet a0 a1) := by
  unfold execSupervisorSet
  exact KeepsR.next (runCmd_keeps _ _ _ supervisorSet_keeps k0)

theorem threadReset_keeps {z : Base} : KeepsS z (threadReset) := by
  unfold threadReset
  exact KeepsS.mk (fun _ _ _ h0 => okState_keeps _ _ _ _ (fun _ _ h1 => admitEvents_keeps _ (l0Reset_keeps _ _ (checkHeld_keeps _ _ h1))) h0)

theorem threadStatus_keeps {z : Base} : KeepsS z (threadStatus) := by
  unfold threadStatus
  exact KeepsS.mk (fun _ _ _ h0 => okReply_keeps _ _ _ _ h0)

theorem execThreadStatus_keeps {z : Base} (a0 a1 : _) (k0 : Keeps z a1) : KeepsR z (execThreadStatus a0 a1) := by
  unfold execThreadStatus
  exact KeepsR.next (runCmd_keeps _ _ _ threadStatus_keeps k0)

theorem setRule_keeps {z : Base} (a0 a1 a2 a3 : _) (k0 : Keeps z a3) : Keeps z (setRule a0 a1 a2 a3) := by
  unfold setRule
  exact updPipe_keeps _ _ _ k0

theorem ruleControl_keeps {z : Base} (a0 a1 a2 a3 : _) (k0 : Keeps z a3) : Keeps z (ruleControl a0 a1 a2 a3) := by
  unfold ruleControl
  extract_lets -merge -underBinder x0
  exact setRule_keeps _ _ _ _ k0

theorem setComparator_keeps {z : Base} (a0 a1 a2 a3 : _) (k0 : Keeps z a3) : Keeps z (setComparator a0 a1 a2 a3) := by
  unfold setComparator
  exact updPipe_keeps _ _ _ k0

theorem comparatorControl_keeps {z : Base} (a0 a1 a2 a3 : _) (k0 : Keeps z a3) : Keeps z (comparatorControl a0 a1 a2 a3) := by
  unfold comparatorControl
  extract_lets -merge -underBinder x0 x1
  exact setComparator_keeps _ _ _ _ k0

theorem execComparatorValidWrite_keeps {z : Base} (a0 a1 a2 a3 : _) (k0 : Keeps z a3) : KeepsR z (execComparatorValidWrite a0 a1 a2 a3) := by
  unfold execComparatorValidWrite
  exact KeepsR.next (Keeps.ite (comparatorControl_keeps _ _ _ _ k0) k0)

theorem execLaneLost_keeps {z : Base} (a0 a1 a2 : _) (k0 : Keeps z a2) : KeepsR z (execLaneLost a0 a1 a2) := by
  unfold execLaneLost
  extract_lets -merge -underBinder x0 x1 x2 x3
  have h4 : Keeps z x3 := raise_keeps _ _ _ (setFlag_keeps _ _ _ (setPort_keeps _ _ _ k0))
  exact KeepsR.next (Keeps.ite k0 (Keeps.foldl h4 (fun _ _ h5 => linkDown_keeps _ _ h5)))

theorem execLaneRegained_keeps {z : Base} (a0 a1 a2 : _) (k0 : Keeps z a2) : KeepsR z (execLaneRegained a0 a1 a2) := by
  unfold execLaneRegained
  extract_lets -merge -underBinder x0 x1 x2
  exact KeepsR.next (Keeps.ite k0 (raise_keeps _ _ _ (setPort_keeps _ _ _ k0)))

theorem execLinkDown_keeps {z : Base} (a0 a1 : _) (k0 : Keeps z a1) : KeepsR z (execLinkDown a0 a1) := by
  unfold execLinkDown
  exact KeepsR.next (linkDown_keeps _ _ k0)

theorem execLinkTrainingTimeout_keeps {z : Base} (a0 a1 : _) (k0 : Keeps z a1) : KeepsR z (execLinkTrainingTimeout a0 a1) := by
  unfold execLinkTrainingTimeout
  extract_lets -merge -underBinder x0
  exact KeepsR.next (Keeps.ite (raise_keeps _ _ _ k0) k0)

theorem execLinkUp_keeps {z : Base} (a0 a1 : _) (k0 : Keeps z a1) : KeepsR z (execLinkUp a0 a1) := by
  unfold execLinkUp
  extract_lets -merge -underBinder x0 x1
  exact KeepsR.next (Keeps.ite (linkUp_keeps _ _ k0) k0)

theorem execPpsInEdge_keeps {z : Base} (a0 a1 : _) (k0 : Keeps z a1) : KeepsR z (execPpsInEdge a0 a1) := by
  unfold execPpsInEdge
  extract_lets -merge -underBinder x0
  exact KeepsR.next (Keeps.ite (raise_keeps _ _ _ (updPtp_keeps _ _ k0)) k0)

theorem execPpsOutPulse_keeps {z : Base} (a0 a1 : _) (k0 : Keeps z a1) : KeepsR z (execPpsOutPulse a0 a1) := by
  unfold execPpsOutPulse
  exact KeepsR.next (Keeps.ite (updPtp_keeps _ _ k0) k0)

theorem execRef10mLoss_keeps {z : Base} (a0 : _) (k0 : Keeps z a0) : KeepsR z (execRef10mLoss a0) := by
  unfold execRef10mLoss
  extract_lets -merge -underBinder x0
  exact KeepsR.next (Keeps.ite k0 (Keeps.ite (raise_keeps _ _ _ (updPtp_keeps _ _ k0)) (updPtp_keeps _ _ k0)))

theorem execRef10mRelock_keeps {z : Base} (a0 : _) (k0 : Keeps z a0) : KeepsR z (execRef10mRelock a0) := by
  unfold execRef10mRelock
  extract_lets -merge -underBinder x0
  exact KeepsR.next (Keeps.ite (updPtp_keeps _ _ k0) (Keeps.ite (raise_keeps _ _ _ (updPtp_keeps _ _ k0)) (updPtp_keeps _ _ k0)))

theorem execRuleValidWrite_keeps {z : Base} (a0 a1 a2 a3 : _) (k0 : Keeps z a3) : KeepsR z (execRuleValidWrite a0 a1 a2 a3) := by
  unfold execRuleValidWrite
  exact KeepsR.next (Keeps.ite (ruleControl_keeps _ _ _ _ k0) k0)

theorem actionLoad_keeps {z : Base} : KeepsS z (actionLoad) := by
  unfold actionLoad
  exact KeepsS.mk (fun _ _ _ h0 => okState_keeps _ _ _ _ (fun _ _ h1 => loadBank_keeps _ _ _ _ h1) h0)

theorem disablePort_keeps {z : Base} (a0 a1 : _) (k0 : Keeps z a1) : Keeps z (disablePort a0 a1) := by
  unfold disablePort
  extract_lets -merge -underBinder x0 x1
  have h2 : Keeps z x0 := Keeps.foldl k0 (fun _ _ h3 => linkDown_keeps _ _ h3)
  exact setPort_keeps _ _ _ h2

theorem ptpStepped_keeps {z : Base} (a0 : _) (k0 : Keeps z a0) : Keeps z (ptpStepped a0) := by
  unfold ptpStepped
  extract_lets -merge -underBinder x0 x1
  have h2 : Keeps z x0 := updSheets_keeps _ (fun _ => by first | rfl | (split <;> rfl)) _ k0
  have h3 : Keeps z x1 := Keeps.ite (raise_keeps _ _ _ (setFlag_keeps _ _ _ h2)) h2
  exact raise_keeps _ _ _ h3

theorem classifierCounters_keeps {z : Base} : KeepsS z (classifierCounters) := by
  unfold classifierCounters
  exact KeepsS.mk (fun _ _ _ h0 => counterBody_keeps _ _ _ _ _ _ _ h0)

theorem clockRefSelect_keeps {z : Base} : KeepsS z (clockRefSelect) := by
  unfold clockRefSelect
  refine KeepsS.mk (fun _ _ _ h0 => okState_keeps _ _ _ _ (fun _ _ h1 => ?_) h0)
  extract_lets -merge -underBinder x2
  exact Keeps.ite h1 (Keeps.ite (updPtp_keeps _ _ (drawFree_keeps _ h1)) (updPtp_keeps _ _ h1))

theorem execActionLoad_keeps {z : Base} (a0 a1 : _) (k0 : Keeps z a1) : KeepsR z (execActionLoad a0 a1) := by
  unfold execActionLoad
  exact KeepsR.next (runCmd_keeps _ _ _ actionLoad_keeps k0)

theorem execClassifierCounters_keeps {z : Base} (a0 a1 : _) (k0 : Keeps z a1) : KeepsR z (execClassifierCounters a0 a1) := by
  unfold execClassifierCounters
  exact KeepsR.next (runCmd_keeps _ _ _ classifierCounters_keeps k0)

theorem execClockRefSelect_keeps {z : Base} (a0 a1 : _) (k0 : Keeps z a1) : KeepsR z (execClockRefSelect a0 a1) := by
  unfold execClockRefSelect
  exact KeepsR.next (runCmd_keeps _ _ _ clockRefSelect_keeps k0)

theorem keyFieldWrite_keeps {z : Base} : KeepsS z (keyFieldWrite) := by
  unfold keyFieldWrite
  exact KeepsS.mk (fun _ _ _ h0 => okState_keeps _ _ _ _ (fun _ _ h1 => updPipe_keeps _ _ _ h1) h0)

theorem execKeyFieldWrite_keeps {z : Base} (a0 a1 : _) (k0 : Keeps z a1) : KeepsR z (execKeyFieldWrite a0 a1) := by
  unfold execKeyFieldWrite
  exact KeepsR.next (runCmd_keeps _ _ _ keyFieldWrite_keeps k0)

theorem meterCounters_keeps {z : Base} : KeepsS z (meterCounters) := by
  unfold meterCounters
  exact KeepsS.mk (fun _ _ _ h0 => counterBody_keeps _ _ _ _ _ _ _ h0)

theorem execMeterCounters_keeps {z : Base} (a0 a1 : _) (k0 : Keeps z a1) : KeepsR z (execMeterCounters a0 a1) := by
  unfold execMeterCounters
  exact KeepsR.next (runCmd_keeps _ _ _ meterCounters_keeps k0)

theorem meterProfileLoad_keeps {z : Base} : KeepsS z (meterProfileLoad) := by
  unfold meterProfileLoad
  exact KeepsS.mk (fun _ _ _ h0 => okState_keeps _ _ _ _ (fun _ _ h1 => loadBank_keeps _ _ _ _ h1) h0)

theorem execMeterProfileLoad_keeps {z : Base} (a0 a1 : _) (k0 : Keeps z a1) : KeepsR z (execMeterProfileLoad a0 a1) := by
  unfold execMeterProfileLoad
  exact KeepsR.next (runCmd_keeps _ _ _ meterProfileLoad_keeps k0)

theorem meterReset_keeps {z : Base} : KeepsS z (meterReset) := by
  unfold meterReset
  exact KeepsS.mk (fun _ _ _ h0 => okState_keeps _ _ _ _ (fun _ _ h1 => updPipe_keeps _ _ _ h1) h0)

theorem execMeterReset_keeps {z : Base} (a0 a1 : _) (k0 : Keeps z a1) : KeepsR z (execMeterReset a0 a1) := by
  unfold execMeterReset
  exact KeepsR.next (runCmd_keeps _ _ _ meterReset_keeps k0)

theorem parseNodeWrite_keeps {z : Base} : KeepsS z (parseNodeWrite) := by
  unfold parseNodeWrite
  exact KeepsS.mk (fun _ _ _ h0 => okState_keeps _ _ _ _ (fun _ _ h1 => updPipe_keeps _ _ _ h1) h0)

theorem execParseNodeWrite_keeps {z : Base} (a0 a1 : _) (k0 : Keeps z a1) : KeepsR z (execParseNodeWrite a0 a1) := by
  unfold execParseNodeWrite
  exact KeepsR.next (runCmd_keeps _ _ _ parseNodeWrite_keeps k0)

theorem parseTransitionWrite_keeps {z : Base} : KeepsS z (parseTransitionWrite) := by
  unfold parseTransitionWrite
  exact KeepsS.mk (fun _ _ _ h0 => okState_keeps _ _ _ _ (fun _ _ h1 => updPipe_keeps _ _ _ h1) h0)

theorem execParseTransitionWrite_keeps {z : Base} (a0 a1 : _) (k0 : Keeps z a1) : KeepsR z (execParseTransitionWrite a0 a1) := by
  unfold execParseTransitionWrite
  exact KeepsR.next (runCmd_keeps _ _ _ parseTransitionWrite_keeps k0)

theorem holdPfc_keeps {z : Base} (a0 a1 : _) (k0 : Keeps z a1) : Keeps z (holdPfc a0 a1) := by
  unfold holdPfc
  exact Keeps.ite (updSub_keeps _ _ _ k0) k0

theorem pfcConfig_keeps {z : Base} : KeepsS z (pfcConfig) := by
  unfold pfcConfig
  exact KeepsS.mk (fun _ _ _ h0 => okState_keeps _ _ _ _ (fun _ _ h1 => setPort_keeps _ _ _ (Keeps.foldl h1 (fun _ _ h2 => holdPfc_keeps _ _ h2))) h0)

theorem execPfcConfig_keeps {z : Base} (a0 a1 : _) (k0 : Keeps z a1) : KeepsR z (execPfcConfig a0 a1) := by
  unfold execPfcConfig
  exact KeepsR.next (runCmd_keeps _ _ _ pfcConfig_keeps k0)

theorem pipeConfig_keeps {z : Base} : KeepsS z (pipeConfig) := by
  unfold pipeConfig
  exact KeepsS.mk (fun _ _ _ h0 => okState_keeps _ _ _ _ (fun _ _ h1 => updPipe_keeps _ _ _ h1) h0)

theorem execPipeConfig_keeps {z : Base} (a0 a1 : _) (k0 : Keeps z a1) : KeepsR z (execPipeConfig a0 a1) := by
  unfold execPipeConfig
  exact KeepsR.next (runCmd_keeps _ _ _ pipeConfig_keeps k0)

theorem portConfig_keeps {z : Base} : KeepsS z (portConfig) := by
  unfold portConfig
  refine KeepsS.mk (fun _ _ _ h0 => ?_)
  extract_lets -merge -underBinder x1
  exact KeepsC.ite (KeepsC.refuse h0) (KeepsC.ok (setPort_keeps _ _ _ h0))

theorem execPortConfig_keeps {z : Base} (a0 a1 : _) (k0 : Keeps z a1) : KeepsR z (execPortConfig a0 a1) := by
  unfold execPortConfig
  exact KeepsR.next (runCmd_keeps _ _ _ portConfig_keeps k0)

theorem portCounters_keeps {z : Base} : KeepsS z (portCounters) := by
  unfold portCounters
  exact KeepsS.mk (fun _ _ _ h0 => counterBody_keeps _ _ _ _ _ _ _ h0)

theorem execPortCounters_keeps {z : Base} (a0 a1 : _) (k0 : Keeps z a1) : KeepsR z (execPortCounters a0 a1) := by
  unfold execPortCounters
  exact KeepsR.next (runCmd_keeps _ _ _ portCounters_keeps k0)

theorem portEnable_keeps {z : Base} : KeepsS z (portEnable) := by
  unfold portEnable
  refine KeepsS.mk (fun _ _ _ h0 => ?_)
  extract_lets -merge -underBinder x1
  exact KeepsC.ite (KeepsC.refuse h0) (KeepsC.ite (KeepsC.ok (setPort_keeps _ _ _ h0)) (KeepsC.ok (Keeps.ite (disablePort_keeps _ _ h0) h0)))

theorem execPortEnable_keeps {z : Base} (a0 a1 : _) (k0 : Keeps z a1) : KeepsR z (execPortEnable a0 a1) := by
  unfold execPortEnable
  exact KeepsR.next (runCmd_keeps _ _ _ portEnable_keeps k0)

theorem portStatus_keeps {z : Base} : KeepsS z (portStatus) := by
  unfold portStatus
  exact KeepsS.mk (fun _ _ _ h0 => okReply_keeps _ _ _ _ h0)

theorem execPortStatus_keeps {z : Base} (a0 a1 : _) (k0 : Keeps z a1) : KeepsR z (execPortStatus a0 a1) := by
  unfold execPortStatus
  exact KeepsR.next (runCmd_keeps _ _ _ portStatus_keeps k0)

theorem ppsConfig_keeps {z : Base} : KeepsS z (ppsConfig) := by
  unfold ppsConfig
  refine KeepsS.mk (fun _ _ _ h0 => okState_keeps _ _ _ _ (fun _ _ h1 => ?_) h0)
  extract_lets -merge -underBinder x2 x3 x4
  exact updPtp_keeps _ _ (Keeps.ite (drawFree_keeps _ h1) h1)

theorem execPpsConfig_keeps {z : Base} (a0 a1 : _) (k0 : Keeps z a1) : KeepsR z (execPpsConfig a0 a1) := by
  unfold execPpsConfig
  exact KeepsR.next (runCmd_keeps _ _ _ ppsConfig_keeps k0)

theorem ptpFreq_keeps {z : Base} : KeepsS z (ptpFreq) := by
  unfold ptpFreq
  exact KeepsS.mk (fun _ _ _ h0 => okState_keeps _ _ _ _ (fun _ _ h1 => updPtp_keeps _ _ h1) h0)

theorem execPtpFreq_keeps {z : Base} (a0 a1 : _) (k0 : Keeps z a1) : KeepsR z (execPtpFreq a0 a1) := by
  unfold execPtpFreq
  exact KeepsR.next (runCmd_keeps _ _ _ ptpFreq_keeps k0)

theorem ptpPortDelay_keeps {z : Base} : KeepsS z (ptpPortDelay) := by
  unfold ptpPortDelay
  exact KeepsS.mk (fun _ _ _ h0 => okState_keeps _ _ _ _ (fun _ _ h1 => updSub_keeps _ _ _ h1) h0)

theorem execPtpPortDelay_keeps {z : Base} (a0 a1 : _) (k0 : Keeps z a1) : KeepsR z (execPtpPortDelay a0 a1) := by
  unfold execPtpPortDelay
  exact KeepsR.next (runCmd_keeps _ _ _ ptpPortDelay_keeps k0)

theorem ptpQuery_keeps {z : Base} : KeepsS z (ptpQuery) := by
  unfold ptpQuery
  exact KeepsS.mk (fun _ _ _ h0 => okReply_keeps _ _ _ _ h0)

theorem execPtpQuery_keeps {z : Base} (a0 a1 : _) (k0 : Keeps z a1) : KeepsR z (execPtpQuery a0 a1) := by
  unfold execPtpQuery
  exact KeepsR.next (runCmd_keeps _ _ _ ptpQuery_keeps k0)

theorem ptpSetTime_keeps {z : Base} : KeepsS z (ptpSetTime) := by
  unfold ptpSetTime
  exact KeepsS.mk (fun _ _ _ h0 => okState_keeps _ _ _ _ (fun _ _ h1 => ptpStepped_keeps _ (updPtp_keeps _ _ h1)) h0)

theorem execPtpSetTime_keeps {z : Base} (a0 a1 : _) (k0 : Keeps z a1) : KeepsR z (execPtpSetTime a0 a1) := by
  unfold execPtpSetTime
  exact KeepsR.next (runCmd_keeps _ _ _ ptpSetTime_keeps k0)

theorem ptpStep_keeps {z : Base} : KeepsS z (ptpStep) := by
  unfold ptpStep
  exact KeepsS.mk (fun _ _ _ h0 => okState_keeps _ _ _ _ (fun _ _ h1 => ptpStepped_keeps _ (updPtp_keeps _ _ h1)) h0)

theorem execPtpStep_keeps {z : Base} (a0 a1 : _) (k0 : Keeps z a1) : KeepsR z (execPtpStep a0 a1) := by
  unfold execPtpStep
  exact KeepsR.next (runCmd_keeps _ _ _ ptpStep_keeps k0)

theorem ruleCounters_keeps {z : Base} : KeepsS z (ruleCounters) := by
  unfold ruleCounters
  refine KeepsS.mk (fun _ _ _ h0 => ?_)
  extract_lets -merge -underBinder x1
  exact KeepsC.mk (Keeps.ite (Keeps.foldl h0 (fun _ _ h2 => clearCounters_keeps _ _ _ _ h2)) h0)

theorem execRuleCounters_keeps {z : Base} (a0 a1 : _) (k0 : Keeps z a1) : KeepsR z (execRuleCounters a0 a1) := by
  unfold execRuleCounters
  exact KeepsR.next (runCmd_keeps _ _ _ ruleCounters_keeps k0)

theorem ruleRead_keeps {z : Base} : KeepsS z (ruleRead) := by
  unfold ruleRead
  exact KeepsS.mk (fun _ _ _ h0 => okReply_keeps _ _ _ _ h0)

theorem execRuleRead_keeps {z : Base} (a0 a1 : _) (k0 : Keeps z a1) : KeepsR z (execRuleRead a0 a1) := by
  unfold execRuleRead
  exact KeepsR.next (runCmd_keeps _ _ _ ruleRead_keeps k0)

theorem txTimestampRead_keeps {z : Base} : KeepsS z (txTimestampRead) := by
  unfold txTimestampRead
  refine KeepsS.mk (fun _ _ _ h0 => ?_)
  extract_lets -merge -underBinder x1 x2
  exact KeepsC.ok (setPort_keeps _ _ _ h0)

theorem execTxTimestampRead_keeps {z : Base} (a0 a1 : _) (k0 : Keeps z a1) : KeepsR z (execTxTimestampRead a0 a1) := by
  unfold execTxTimestampRead
  exact KeepsR.next (runCmd_keeps _ _ _ txTimestampRead_keeps k0)

theorem fenceContext_keeps {z : Base} (a0 a1 : _) (k0 : Keeps z a1) : Keeps z (fenceContext a0 a1) := by
  unfold fenceContext
  exact Keeps.ite (raise_keeps _ _ _ (setFlag_keeps _ _ _ (ctxDiscard_keeps _ _ k0))) (ctxWriteBack_keeps _ _ k0)

theorem updDisp_keeps {z : Base} (a0 a1 : _) (k0 : Keeps z a1) : Keeps z (updDisp a0 a1) := by
  unfold updDisp
  exact Keeps.mk' k0 rfl rfl rfl rfl rfl

theorem stopSupervisors_keeps {z : Base} (a0 a1 : _) (k0 : Keeps z a1) : Keeps z (stopSupervisors a0 a1) := by
  unfold stopSupervisors
  exact Keeps.foldl k0 (fun _ _ h0 => Keeps.ite (Keeps.mk' h0 rfl rfl rfl rfl rfl) h0)

theorem fenceItem_keeps {z : Base} (a0 a1 : _) (k0 : Keeps z a1) : Keeps z (fenceItem a0 a1) := by
  unfold fenceItem
  split
  · exact k0
  · split
    · exact k0
    · exact Keeps.ite k0 (voidCounted_keeps _ _ _ (Keeps.ite (lateLoss_keeps _ _ k0) k0))

theorem fenceThread_keeps {z : Base} (a0 a1 : _) (k0 : Keeps z a1) : Keeps z (fenceThread a0 a1) := by
  unfold fenceThread
  extract_lets -merge -underBinder x0
  have h1 : Keeps z x0 := detachOps_keeps _ _ (voidSlots_keeps _ _ (loseLocks_keeps _ _ _ (leaveWait_keeps _ _ (checkHeld_keeps _ _ k0))))
  exact updThr_keeps _ _ _ h1

theorem moveAffinity_keeps {z : Base} (a0 a1 : _) (k0 : Keeps z a1) : Keeps z (moveAffinity a0 a1) := by
  unfold moveAffinity
  extract_lets -merge -underBinder x0 x1
  have h2 : Keeps z x1 := updDisp_keeps _ _ k0
  refine Keeps.foldl h2 (fun _ _ h3 => ?_)
  split
  · exact waitGlobal_keeps _ _ _ (wakeFor_keeps _ _ h3)
  · exact h3

theorem fenceCores_keeps {z : Base} (a0 a1 : _) (k0 : Keeps z a1) : Keeps z (fenceCores a0 a1) := by
  unfold fenceCores
  extract_lets -merge -underBinder x0 x1 x2 x3
  have h4 : Keeps z x1 := Keeps.foldl (setFlag_keeps _ _ _ k0) (fun _ _ h7 => fenceItem_keeps _ _ h7)
  have h5 : Keeps z x2 := Keeps.foldl h4 (fun _ _ h8 => fenceThread_keeps _ _ h8)
  have h6 : Keeps z x3 := Keeps.foldl h5 (fun _ _ h9 => fenceContext_keeps _ _ h9)
  exact moveAffinity_keeps _ _ h6

theorem fenceCluster_keeps {z : Base} (a0 a1 : _) (k0 : Keeps z a1) : Keeps z (fenceCluster a0 a1) := by
  unfold fenceCluster
  extract_lets -merge -underBinder x0 x1
  have h2 : Keeps z x1 := stopSupervisors_keeps _ _ (fenceCores_keeps _ _ k0)
  exact admitEvents_keeps _ (raise_keeps _ _ _ (updDisp_keeps _ _ h2))

theorem resetCores_keeps {z : Base} (a0 a1 : _) (k0 : Keeps z a1) : Keeps z (resetCores a0 a1) := by
  unfold resetCores
  extract_lets -merge -underBinder x0 x1
  have h2 : Keeps z x0 := stopSupervisors_keeps _ _ (fenceCores_keeps _ _ k0)
  have h3 : Keeps z x1 := Keeps.foldl h2 (fun _ _ h4 => dropHeld_keeps _ _ (resetThread_keeps _ _ _ (checkHeld_keeps _ _ h4)))
  exact admitEvents_keeps _ (Keeps.foldl h3 (fun _ _ h5 => Keeps.mk' h5 rfl rfl rfl rfl rfl))

theorem threadOffer_keeps {z : Base} (a0 a1 : _) (k0 : Keeps z a1) : Keeps z (threadOffer a0 a1) := by
  unfold threadOffer
  split
  · exact deliver_keeps _ _ _ _ (count_keeps _ _ _ _ _ (unlist_keeps _ _ k0))
  · split
    · exact placeBy_keeps _ _ _ _ (unlist_keeps _ _ k0)
    · exact k0

theorem addDebugCounters_keeps {z : Base} (a0 : _) (k0 : Keeps z a0) : Keeps z (addDebugCounters a0) := by
  unfold addDebugCounters
  refine Keeps.foldl k0 (fun _ _ h0 => ?_)
  extract_lets -merge -underBinder x1
  exact Keeps.mk' h0 rfl rfl rfl rfl rfl

theorem stepEnds_keeps {z : Base} (a0 : _) (k0 : Keeps z a0) : Keeps z (stepEnds a0) := by
  unfold stepEnds
  split
  · exact k0
  · extract_lets -merge -underBinder x0 x1
    exact finishCmd_keeps _ _ _ _ _ (updSec_keeps _ (fun _ => by exact ⟨rfl, rfl⟩) _ (Keeps.mk' k0 rfl rfl rfl rfl rfl))

theorem markFrozen_keeps {z : Base} (a0 a1 a2 a3 : _) (k0 : Keeps z a3) : Keeps z (markFrozen a0 a1 a2 a3) := by
  unfold markFrozen
  split
  · exact k0
  · exact updDisp_keeps _ _ k0
  · exact updSec_keeps _ (fun _ => by exact ⟨rfl, rfl⟩) _ k0

theorem thawThread_keeps {z : Base} (a0 a1 : _) (k0 : Keeps z a1) : Keeps z (thawThread a0 a1) := by
  unfold thawThread
  extract_lets -merge -underBinder x0 x1
  have h2 : Keeps z x1 := walk_keeps _ _ (setThr_keeps _ _ _ k0)
  exact Keeps.ite k0 (Keeps.ite h2 (Keeps.ite (takeTerminated_keeps _ _ h2) (Keeps.ite (enterHandler_keeps _ _ _ h2) h2)))

theorem releaseScope_keeps {z : Base} (a0 a1 a2 : _) (k0 : Keeps z a2) : Keeps z (releaseScope a0 a1 a2) := by
  unfold releaseScope
  extract_lets -merge -underBinder x0 x1 x2 x3 x4
  have h5 : Keeps z x0 := markFrozen_keeps _ _ _ _ k0
  have h6 : Keeps z x2 := Keeps.foldl h5 (fun _ _ h9 => thawThread_keeps _ _ h9)
  have h7 : Keeps z x3 := trace_keeps _ _ _ _ _ (raise_keeps _ _ _ (setFlag_keeps _ _ _ h6))
  have h8 : Keeps z x4 := addDebugCounters_keeps _ h7
  exact Keeps.ite (Keeps.ite (ptpStepped_keeps _ h8) h8) h7

theorem releaseAll_keeps {z : Base} (a0 : _) (k0 : Keeps z a0) : Keeps z (releaseAll a0) := by
  unfold releaseAll
  extract_lets -merge -underBinder x0 x1 x2
  have h3 : Keeps z x0 := stepEnds_keeps _ k0
  have h4 : Keeps z x1 := Keeps.ite (releaseScope_keeps _ _ _ h3) h3
  have h5 : Keeps z x2 := Keeps.foldl h4 (fun _ _ h6 => Keeps.ite (releaseScope_keeps _ _ _ h6) h6)
  exact Keeps.foldl h5 (fun _ _ h7 => releaseScope_keeps _ _ _ h7)

theorem endStops_keeps {z : Base} (a0 : _) (k0 : Keeps z a0) : Keeps z (endStops a0) := by
  unfold endStops
  extract_lets -merge -underBinder x0 x1
  have h2 : Keeps z x0 := updSec_keeps _ (fun _ => by exact ⟨rfl, rfl⟩) _ (releaseAll_keeps _ k0)
  exact Keeps.mk' h2 rfl rfl rfl rfl rfl

theorem noteAttach_keeps {z : Base} (on : Bool) (s : State) (h : Keeps z s) : Keeps z (noteAttach on s) := by
  have f : ∀ (v : Nat) (x : State), Keeps z x → Keeps z (if x.ev.configured || evActive x then putField (x.ev.ctrlBase + 8) 4 v x else x) :=
    fun v x k => Keeps.ite (putField_keeps _ _ _ _ k) k
  unfold noteAttach
  extract_lets n force
  split
  · exact f _ _ (updEv_keeps _ _ h)
  · exact f _ _ h
  · exact f _ _ (updEv_keeps _ _ h)
  · exact h

theorem setLevel_keeps {z : Base} (a0 a1 a2 : _) (k0 : Keeps z a2) : Keeps z (setLevel a0 a1 a2) := by
  unfold setLevel
  extract_lets -merge -underBinder x0 x1 x2 x3 x4
  have h5 : Keeps z x1 := updSec_keeps _ (fun _ => by exact ⟨rfl, rfl⟩) _ k0
  have h6 : Keeps z x2 := Keeps.ite (endStops_keeps _ h5) h5
  have h7 : Keeps z x3 := Keeps.ite (updSec_keeps _ (fun _ => by exact ⟨rfl, rfl⟩) _ h6) h6
  have h8 : Keeps z x4 := Keeps.ite (noteAttach_keeps _ _ h7) h7
  exact Keeps.ite h8 (raise_keeps _ _ _ (setFlag_keeps _ _ _ h8))

theorem attachLevel_keeps {z : Base} (a0 a1 : _) (k0 : Keeps z a1) : Keeps z (attachLevel a0 a1) := by
  unfold attachLevel
  exact setLevel_keeps _ _ _ (Keeps.ite k0 (count_keeps _ _ _ _ _ k0))

theorem detachForS2_keeps {z : Base} (a0 : _) (k0 : Keeps z a0) : Keeps z (detachForS2 a0) := by
  unfold detachForS2
  exact setLevel_keeps _ _ _ (updSec_keeps _ (fun _ => by exact ⟨rfl, rfl⟩) _ (releaseAll_keeps _ k0))

theorem stopSpans_keeps {z : Base} (a0 a1 : _) (k0 : Keeps z a1) : Keeps z (stopSpans a0 a1) := by
  unfold stopSpans
  extract_lets -merge -underBinder x0
  exact Keeps.ite (Keeps.mk' k0 rfl rfl rfl rfl rfl) k0

theorem freezeThread_keeps {z : Base} (a0 a1 : _) (k0 : Keeps z a1) : Keeps z (freezeThread a0 a1) := by
  unfold freezeThread
  extract_lets -merge -underBinder x0
  exact Keeps.ite k0 (walk_keeps _ _ (setThr_keeps _ _ _ k0))

theorem freezeScope_keeps {z : Base} (a0 a1 a2 a3 : _) (k0 : Keeps z a3) : Keeps z (freezeScope a0 a1 a2 a3) := by
  unfold freezeScope
  extract_lets -merge -underBinder x0 x1 x2
  have h3 : Keeps z x0 := stopSpans_keeps _ _ k0
  have h4 : Keeps z x1 := Keeps.foldl (markFrozen_keeps _ _ _ _ h3) (fun _ _ h6 => freezeThread_keeps _ _ h6)
  have h5 : Keeps z x2 := raise_keeps _ _ _ (setFlag_keeps _ _ _ (count_keeps _ _ _ _ _ h4))
  exact trace_keeps _ _ _ _ _ h5

theorem drawBytes_keeps {z : Base} (a0 a1 : _) (k0 : Keeps z a1) : Keeps z (drawBytes a0 a1) := by
  unfold drawBytes
  exact Keeps.mk' k0 rfl rfl rfl rfl rfl

theorem noteRest_keeps {z : Base} (a0 : _) (k0 : Keeps z a0) : Keeps z (noteRest a0) := by
  unfold noteRest
  exact updDram_keeps _ (fun _ => by first | rfl | (split <;> rfl)) _ k0

theorem enterSelfRefresh_keeps {z : Base} (a0 a1 : _) (k0 : Keeps z a1) : Keeps z (enterSelfRefresh a0 a1) := by
  unfold enterSelfRefresh
  extract_lets -merge -underBinder x0 x1 x2 x3 x4
  have h5 : Keeps z x0 := emptyQueues_keeps _ _ k0
  have h6 : Keeps z x4 := setChanState_keeps _ _ _ h5
  exact Keeps.ite (raise_keeps _ _ _ (noteRest_keeps _ h6)) k0

theorem loseSpilled_keeps {z : Base} (a0 a1 : _) (k0 : Keeps z a1) : Keeps z (loseSpilled a0 a1) := by
  unfold loseSpilled
  extract_lets -merge -underBinder x0
  exact Keeps.mk' k0 rfl rfl rfl rfl rfl

theorem takeSpare_keeps {z : Base} (a0 a1 : _) (k0 : Keeps z a1) : KeepsOQ z (takeSpare a0 a1) := by
  unfold takeSpare
  extract_lets -merge -underBinder x0 x1
  split
  · exact KeepsOQ.mk (KeepsQ.mk (updDram_keeps _ (fun _ => by first | rfl | (split <;> rfl)) _ k0))
  · exact KeepsOQ.none

theorem ringFill_keeps {z : Base} (a0 a1 a2 a3 a4 : _) (k0 : Keeps z a4) : Keeps z (ringFill a0 a1 a2 a3 a4) := by
  unfold ringFill
  exact dramWrite_keeps _ _ _ _ _ k0

theorem rebuildSpill_keeps {z : Base} (g : Nat) (s : State) (h : Keeps z s) : Keeps z (rebuildSpill g s) := by
  have k := takeSpare_keeps (page (256 * (groupOf s g).spillCells) + page (4 * (groupOf s g).spillEntries)) s h
  unfold rebuildSpill
  dsimp only
  split
  · exact Keeps.ite (setGroup_keeps _ _ _ h) (setGroup_keeps _ _ _ (count_keeps _ _ _ _ _ h))
  · next e => exact ringFill_keeps _ _ _ _ _ (setGroup_keeps _ _ _ (k _ e))

theorem retireCells_keeps {z : Base} (a0 a1 : _) (k0 : Keeps z a1) : Keeps z (retireCells a0 a1) := by
  unfold retireCells
  extract_lets -merge -underBinder x0
  exact Keeps.mk' k0 rfl rfl rfl rfl rfl

theorem rebuildVat_keeps {z : Base} (g : Nat) (s : State) (h : Keeps z s) : Keeps z (rebuildVat g s) := by
  have k := takeSpare_keeps (page (4 * (groupOf s g).vatEntries)) s h
  unfold rebuildVat
  dsimp only
  split
  · exact setGroup_keeps _ _ _ h
  · next e => exact ringFill_keeps _ _ _ _ _ (setGroup_keeps _ _ _ (k _ e))

theorem fenceGroup_keeps {z : Base} (a0 a1 a2 : _) (k0 : Keeps z a1) : Keeps z (fenceGroup a0 a1 a2) := by
  unfold fenceGroup
  extract_lets -merge -underBinder x0 x1 x2
  have h3 : Keeps z x2 := Keeps.ite (rebuildSpill_keeps _ _ (retireCells_keeps _ _ k0)) k0
  exact Keeps.ite (rebuildVat_keeps _ _ h3) h3

theorem reportLost_keeps {z : Base} (a0 a1 : _) (k0 : Keeps z a1) : Keeps z (reportLost a0 a1) := by
  unfold reportLost
  refine Keeps.foldl k0 (fun _ _ h0 => ?_)
  extract_lets -merge -underBinder x1 x2 x3 x4
  exact Keeps.ite (raise_keeps _ _ _ (setFlag_keeps _ _ _ h0)) h0

theorem fenceChannel_keeps {z : Base} (a0 a1 a2 : _) (k0 : Keeps z a2) : Keeps z (fenceChannel a0 a1 a2) := by
  unfold fenceChannel
  extract_lets -merge -underBinder x0 x1 x2 x3
  have h4 : Keeps z x1 := resumeWaits_keeps _ _ (setChanState_keeps _ _ _ k0)
  have h5 : Keeps z x2 := loseSpilled_keeps _ _ h4
  have h6 : Keeps z x3 := Keeps.foldl h5 (fun _ _ h7 => fenceGroup_keeps _ _ _ h7)
  exact Keeps.ite k0 (reportLost_keeps _ _ (raise_keeps _ _ _ (setFlag_keeps _ _ _ h6)))

theorem trainFail_keeps {z : Base} (a0 a1 a2 : _) (k0 : Keeps z a2) : Keeps z (trainFail a0 a1 a2) := by
  unfold trainFail
  exact fenceChannel_keeps _ _ _ (raise_keeps _ _ _ (setFlag_keeps _ _ _ k0))

theorem fullTraining_keeps {z : Base} (a0 a1 a2 : _) (k0 : Keeps z a2) : Keeps z (fullTraining a0 a1 a2) := by
  unfold fullTraining
  extract_lets -merge -underBinder x0 x1
  have h2 : Keeps z x1 := Keeps.mk' k0 rfl rfl rfl rfl rfl
  refine Keeps.ite ?_ (trainFail_keeps _ _ _ h2)
  split
  · extract_lets -merge -underBinder x3
    exact setChanState_keeps _ _ _ h2
  · exact h2

theorem restoreTraining_keeps {z : Base} (a0 a1 a2 a3 : _) (k0 : Keeps z a3) : Keeps z (restoreTraining a0 a1 a2 a3) := by
  unfold restoreTraining
  extract_lets -merge -underBinder x0
  exact Keeps.ite (setChanState_keeps _ _ _ k0) (fullTraining_keeps _ _ _ k0)

theorem endWakePause_keeps {z : Base} (a0 : _) (k0 : Keeps z a0) : Keeps z (endWakePause a0) := by
  unfold endWakePause
  extract_lets -merge -underBinder x0
  exact Keeps.mk' k0 rfl rfl rfl rfl rfl

theorem noteCorrectable_keeps {z : Base} (a0 a1 : _) (k0 : Keeps z a1) : Keeps z (noteCorrectable a0 a1) := by
  unfold noteCorrectable
  extract_lets -merge -underBinder x0 x1
  have h2 : Keeps z x1 := chanCount_keeps _ _ _ _ k0
  exact Keeps.ite (raise_keeps _ _ _ (setFlag_keeps _ _ _ (setChanState_keeps _ _ _ h2))) (setChanState_keeps _ _ _ h2)

theorem reportUncorrectable_keeps {z : Base} (a0 a1 a2 a3 : _) (k0 : Keeps z a3) : Keeps z (reportUncorrectable a0 a1 a2 a3) := by
  unfold reportUncorrectable
  extract_lets -merge -underBinder x0 x1 x2 x3 x4
  have h5 : Keeps z x0 := logDramError_keeps _ _ _ _ (chanCount_keeps _ _ _ _ (setFlag_keeps _ _ _ k0))
  have h6 : Keeps z x1 := raiseFirst_keeps _ _ _ _ h5
  have h7 : Keeps z x4 := setChanState_keeps _ _ _ h6
  exact Keeps.ite (fenceChannel_keeps _ _ _ (setFlag_keeps _ _ _ h7)) h7

theorem noteUncorrectable_keeps {z : Base} (a0 a1 a2 a3 : _) (k0 : Keeps z a3) : Keeps z (noteUncorrectable a0 a1 a2 a3) := by
  unfold noteUncorrectable
  extract_lets -merge -underBinder x0
  exact reportUncorrectable_keeps _ _ _ _ (Keeps.mk' k0 rfl rfl rfl rfl rfl)

theorem readLine_keeps {z : Base} (a0 a1 a2 a3 a4 : _) (k0 : Keeps z a4) : Keeps z (readLine a0 a1 a2 a3 a4) := by
  unfold readLine
  refine Keeps.ite k0 ?_
  split
  · exact k0
  · exact noteCorrectable_keeps _ _ k0
  · exact noteUncorrectable_keeps _ _ _ _ k0

theorem execDramRead_keeps {z : Base} (a0 a1 a2 : _) (k0 : Keeps z a2) : KeepsR z (execDramRead a0 a1 a2) := by
  unfold execDramRead
  refine KeepsR.next ?_
  split
  · exact k0
  · refine whenAwake_keeps _ _ _ (fun _ h0 => Keeps.ite h0 ?_) k0
    extract_lets -merge -underBinder x1 x2
    have h3 : Keeps z x1 := serveLine_keeps _ _ _ (noteLine_keeps _ _ _ _ _ h0)
    have h4 : Keeps z x2 := endWakePause_keeps _ h3
    exact Keeps.ite h4 (readLine_keeps _ _ _ _ _ h4)

theorem execPanicChange_keeps {z : Base} (a0 : _) (k0 : Keeps z a0) : KeepsR z (execPanicChange a0) := by
  unfold execPanicChange
  extract_lets -merge -underBinder x0 x1 x2 x3
  have h4 : Keeps z x3 := drawFree_keeps _ k0
  exact KeepsR.next (Keeps.ite (raise_keeps _ _ _ (setFlag_keeps _ _ _ (updDram_keeps _ (fun _ => by first | rfl | (split <;> rfl)) _ h4))) (Keeps.ite
      (raise_keeps _ _ _ (updDram_keeps _ (fun _ => by first | rfl | (split <;> rfl)) _ h4)) h4))

theorem scrubTurn_keeps {z : Base} (a0 a1 a2 a3 : _) (k0 : Keeps z a3) : Keeps z (scrubTurn a0 a1 a2 a3) := by
  unfold scrubTurn
  extract_lets -merge -underBinder x0
  exact runSub_keeps _ _ _ _ k0

theorem noteDarkLine_keeps {z : Base} (a0 a1 a2 : _) (k0 : Keeps z a2) : Keeps z (noteDarkLine a0 a1 a2) := by
  unfold noteDarkLine
  extract_lets -merge -underBinder x0
  exact reportUncorrectable_keeps _ _ _ _ (drawFree_keeps _ (setChanState_keeps _ _ _ k0))

theorem execPatrolScrub_keeps {z : Base} (a0 a1 a2 : _) (k0 : Keeps z a2) : KeepsR z (execPatrolScrub a0 a1 a2) := by
  unfold execPatrolScrub
  extract_lets -merge -underBinder x0
  refine KeepsR.next ?_
  split
  · exact k0
  · extract_lets -merge -underBinder x1 x2 x3 x4 x5
    have h6 : Keeps z x3 := setChanState_keeps _ _ _ (chanCount_keeps _ _ _ _ k0)
    have h7 : Keeps z x4 := scrubTurn_keeps _ _ _ _ h6
    have h8 : Keeps z x5 := by
      show Keeps z (_)
      unfold x5
      split
      · exact readLine_keeps _ _ _ _ _ (serveLine_keeps _ _ _ (sendRequest_keeps _ _ _ _ h7))
      · refine Keeps.ite h7 ?_
        split
        · exact noteCorrectable_keeps _ _ h7
        · exact noteDarkLine_keeps _ _ _ h7
        · exact h7
    exact Keeps.ite k0 (Keeps.ite (raise_keeps _ _ _ h8) h8)

theorem execRefreshIssue_keeps {z : Base} (a0 a1 : _) (k0 : Keeps z a1) : KeepsR z (execRefreshIssue a0 a1) := by
  unfold execRefreshIssue
  extract_lets -merge -underBinder x0
  refine KeepsR.next ?_
  split
  · exact k0
  · extract_lets -merge -underBinder x1 x2
    have h3 : Keeps z x2 := setChanState_keeps _ _ _ k0
    exact Keeps.ite k0 (Keeps.ite h3 (issueRefresh_keeps _ _ _ h3))

theorem execSelfRefreshEntry_keeps {z : Base} (a0 a1 : _) (k0 : Keeps z a1) : KeepsR z (execSelfRefreshEntry a0 a1) := by
  unfold execSelfRefreshEntry
  exact KeepsR.next (Keeps.ite (enterSelfRefresh_keeps _ _ k0) k0)

theorem leaveSelfRefresh_keeps {z : Base} (a0 a1 a2 a3 : _) (k0 : Keeps z a3) : Keeps z (leaveSelfRefresh a0 a1 a2 a3) := by
  unfold leaveSelfRefresh
  extract_lets -merge -underBinder x0 x1
  have h2 : Keeps z x1 := raise_keeps _ _ _ (noteRest_keeps _ (endWakePause_keeps _ (setChanState_keeps _ _ _ k0)))
  exact resumeWaits_keeps _ _ (Keeps.ite (restoreTraining_keeps _ _ _ _ h2) (fullTraining_keeps _ _ _ (raise_keeps _ _ _ (setFlag_keeps _ _ _ h2))))

theorem execSelfRefreshExit_keeps {z : Base} (a0 a1 a2 a3 : _) (k0 : Keeps z a3) : KeepsR z (execSelfRefreshExit a0 a1 a2 a3) := by
  unfold execSelfRefreshExit
  extract_lets -merge -underBinder x0
  exact KeepsR.next (Keeps.ite (leaveSelfRefresh_keeps _ _ _ _ k0) k0)

theorem execSelfRefreshWake_keeps {z : Base} (a0 a1 : _) (k0 : Keeps z a1) : KeepsR z (execSelfRefreshWake a0 a1) := by
  unfold execSelfRefreshWake
  exact KeepsR.next (wakeChan_keeps _ _ k0)

theorem execZqCalibration_keeps {z : Base} (a0 a1 : _) (k0 : Keeps z a1) : KeepsR z (execZqCalibration a0 a1) := by
  unfold execZqCalibration
  exact KeepsR.next k0

theorem updPow_keeps {z : Base} (a0 a1 : _) (k0 : Keeps z a1) : Keeps z (updPow a0 a1) := by
  unfold updPow
  exact Keeps.mk' k0 rfl rfl rfl rfl rfl

theorem bootAttempt_keeps {z : Base} (a0 a1 : _) (k0 : Keeps z a1) : Keeps z (bootAttempt a0 a1) := by
  unfold bootAttempt
  extract_lets -merge -underBinder x0 x1
  have h2 : Keeps z x0 := updPow_keeps _ _ k0
  exact Keeps.ite (Keeps.mk' h2 rfl rfl rfl rfl rfl) h2

theorem bootStart_keeps {z : Base} (a0 : _) (k0 : Keeps z a0) : Keeps z (bootStart a0) := by
  unfold bootStart
  extract_lets -merge -underBinder x0
  have h1 : Keeps z x0 := updPow_keeps _ _ k0
  exact Keeps.ite (updPow_keeps _ _ k0) (Keeps.ite (bootAttempt_keeps _ _ h1) (Keeps.ite (bootAttempt_keeps _ _ h1) (updPow_keeps _ _ h1)))

theorem loadCause_keeps {z : Base} (a0 a1 : _) (k0 : Keeps z a1) : Keeps z (loadCause a0 a1) := by
  unfold loadCause
  extract_lets -merge -underBinder x0 x1
  have h2 : Keeps z x0 := updPow_keeps _ _ k0
  exact Keeps.mk' h2 rfl rfl rfl rfl rfl

theorem beginExit_keeps {z : Base} (a0 : _) (k0 : Keeps z a0) : Keeps z (beginExit a0) := by
  unfold beginExit
  extract_lets -merge -underBinder x0
  exact Keeps.ite k0 (bootStart_keeps _ (loadCause_keeps _ _ (updPow_keeps _ _ k0)))

theorem l2Datapath_keeps {z : Base} (a0 : _) (k0 : Keeps z a0) : Keeps z (l2Datapath a0) := by
  unfold l2Datapath
  extract_lets -merge -underBinder x0 x1 x2 x3
  have h4 : Keeps z x0 := Keeps.foldl k0 (fun _ _ h7 => Keeps.ite (disablePort_keeps _ _ h7) h7)
  have h5 : Keeps z x1 := updSheets_keeps _ (fun _ => by first | rfl | (split <;> rfl)) _ h4
  have h6 : Keeps z x3 := Keeps.mk' h5 rfl rfl rfl rfl rfl
  exact Keeps.foldl h6 (fun _ _ h8 => Keeps.ite (fillRings_keeps _ _ h8) h8)

theorem noteLink_keeps {z : Base} (a0 : _) (k0 : Keeps z a0) : Keeps z (noteLink a0) := by
  unfold noteLink
  exact Keeps.ite (raise_keeps _ _ _ (setFlag_keeps _ _ _ k0)) k0

theorem noteL2Locks_keeps {z : Base} (a0 : _) (k0 : Keeps z a0) : Keeps z (noteL2Locks a0) := by
  unfold noteL2Locks
  extract_lets -merge -underBinder x0
  exact Keeps.ite k0 (raiseFirst_keeps _ _ _ _ (count_keeps _ _ _ _ _ (setFlag_keeps _ _ _ k0)))

theorem l2Cores_keeps {z : Base} (a0 : _) (k0 : Keeps z a0) : Keeps z (l2Cores a0) := by
  unfold l2Cores
  extract_lets -merge -underBinder x0 x1 x2 x3
  have h4 : Keeps z x0 := noteLink_keeps _ k0
  have h5 : Keeps z x1 := Keeps.foldl h4 (fun _ _ h7 => fenceContext_keeps _ _ h7)
  have h6 : Keeps z x2 := noteL2Locks_keeps _ (updDisp_keeps _ _ (endStops_keeps _ h5))
  exact Keeps.mk' h6 rfl rfl rfl rfl rfl

theorem l2Clear_keeps {z : Base} (a0 : _) (k0 : Keeps z a0) : Keeps z (l2Clear a0) := by
  unfold l2Clear
  exact l2Datapath_keeps _ (l2Cores_keeps _ k0)

theorem l3Clear_keeps {z : Base} (s : State) (h : Keeps z s) : Keeps z (l3Clear s) := by
  have k : Keeps z ((List.range 8).foldl (fun a c => enterSelfRefresh c a) s) := Keeps.foldl h (fun _ _ ha => enterSelfRefresh_keeps _ _ ha)
  exact k.cleared rfl rfl id rfl rfl (.inl rfl)

theorem l4Clear_keeps {z : Base} (s : State) (h : Keeps z s) : Keeps z (l4Clear s) :=
  h.cleared rfl rfl (fun _ => rfl) rfl rfl (.inr rfl)

theorem clearLevel_keeps {z : Base} (a0 a1 : _) (k0 : Keeps z a1) : Keeps z (clearLevel a0 a1) := by
  unfold clearLevel
  split
  · exact l2Clear_keeps _ k0
  · exact l3Clear_keeps _ k0
  · exact l4Clear_keeps _ k0

theorem assertReset_keeps {z : Base} (a0 a1 a2 : _) (k0 : Keeps z a2) : Keeps z (assertReset a0 a1 a2) := by
  unfold assertReset
  extract_lets -merge -underBinder x0 x1
  have h2 : Keeps z x0 := updPow_keeps _ _ k0
  have h3 : Keeps z x1 := clearLevel_keeps _ _ (updPow_keeps _ _ h2)
  exact Keeps.ite h2 (Keeps.ite h3 (updPow_keeps _ _ h3))

theorem pulseL3_keeps {z : Base} (a0 a1 : _) (k0 : Keeps z a1) : Keeps z (pulseL3 a0 a1) := by
  unfold pulseL3
  exact beginExit_keeps _ (assertReset_keeps _ _ _ k0)

theorem chipEnds_keeps {z : Base} (a0 a1 : _) (k0 : Keeps z a1) : Keeps z (chipEnds a0 a1) := by
  unfold chipEnds
  exact Keeps.ite k0 (pulseL3_keeps _ _ (updPow_keeps _ _ k0))

theorem afterSeal_keeps {z : Base} (a0 : _) (k0 : Keeps z a0) : Keeps z (afterSeal a0) := by
  unfold afterSeal
  refine Keeps.ite k0 ?_
  split
  · exact k0
  · exact chipEnds_keeps _ _ (finishCmd_keeps _ _ _ _ _ (updPow_keeps _ _ k0))
  · exact chipEnds_keeps _ _ k0
  · exact assertReset_keeps _ _ _ (updPow_keeps _ _ k0)

theorem s2Steps_keeps {z : Base} (a0 a1 : _) (k0 : Keeps z a1) : Keeps z (s2Steps a0 a1) := by
  unfold s2Steps
  exact Keeps.ite (pfBegin_keeps _ k0) (Keeps.ite k0 (pfRun_keeps _ (updEv_keeps _ _ k0)))

theorem enterPower_keeps {z : Base} (a0 a1 a2 : _) (k0 : Keeps z a2) : Keeps z (enterPower a0 a1 a2) := by
  unfold enterPower
  exact Keeps.ite k0 (raise_keeps _ _ _ (setFlag_keeps _ _ _ (updPow_keeps _ _ k0)))

theorem beginS2_keeps {z : Base} (a0 a1 : _) (k0 : Keeps z a1) : Keeps z (beginS2 a0 a1) := by
  unfold beginS2
  extract_lets -merge -underBinder x0 x1
  have h2 : Keeps z x0 := raise_keeps _ _ _ (setFlag_keeps _ _ _ (detachForS2_keeps _ k0))
  exact Keeps.ite k0 (Keeps.ite (updPow_keeps _ _ k0) (s2Steps_keeps _ _ (enterPower_keeps _ _ _ (updPow_keeps _ _ h2))))

theorem bootFail_keeps {z : Base} (a0 a1 : _) (k0 : Keeps z a1) : Keeps z (bootFail a0 a1) := by
  unfold bootFail
  exact updPow_keeps _ _ k0

theorem startFirmware_keeps {z : Base} (a0 a1 : _) (k0 : Keeps z a1) : Keeps z (startFirmware a0 a1) := by
  unfold startFirmware
  extract_lets -merge -underBinder x0 x1 x2
  have h3 : Keeps z x0 := updPow_keeps _ _ k0
  have h4 : Keeps z x2 := Keeps.mk' h3 rfl rfl rfl rfl rfl
  exact Keeps.ite (beginS2_keeps _ _ h4) h4

theorem bootImage_keeps {z : Base} (a0 a1 : _) (k0 : Keeps z a1) : Keeps z (bootImage a0 a1) := by
  unfold bootImage
  split
  · exact startFirmware_keeps _ _ k0
  · exact Keeps.ite (setFlag_keeps _ _ _ (updPow_keeps _ _ k0)) (bootFail_keeps _ _ k0)

theorem dropSource_keeps {z : Base} (a0 a1 : _) (k0 : Keeps z a1) : Keeps z (dropSource a0 a1) := by
  unfold dropSource
  exact updPow_keeps _ _ k0

theorem holdSource_keeps {z : Base} (a0 a1 : _) (k0 : Keeps z a1) : Keeps z (holdSource a0 a1) := by
  unfold holdSource
  exact updPow_keeps _ _ k0

theorem l2VoidItems_keeps {z : Base} (a0 : _) (k0 : Keeps z a0) : Keeps z (l2VoidItems a0) := by
  unfold l2VoidItems
  extract_lets -merge -underBinder x0
  exact updDisp_keeps _ _ (Keeps.ite k0 (count_keeps _ _ _ _ _ k0))

theorem execFlushAllowExpiry_keeps {z : Base} (a0 : _) (k0 : Keeps z a0) : KeepsR z (execFlushAllowExpiry a0) := by
  unfold execFlushAllowExpiry
  exact KeepsR.next (afterSeal_keeps _ (Keeps.ite (pfEnd_keeps _ k0) k0))

theorem flushEnds_keeps {z : Base} (a0 a1 a2 : _) (k0 : Keeps z a2) : Keeps z (flushEnds a0 a1 a2) := by
  unfold flushEnds
  split
  · exact updEv_keeps _ _ k0
  · exact updEv_keeps _ _ (memberEnds_keeps _ _ _ k0)

theorem execFlushComplete_keeps {z : Base} (a0 a1 a2 : _) (k0 : Keeps z a2) : KeepsR z (execFlushComplete a0 a1 a2) := by
  unfold execFlushComplete
  exact KeepsR.next (afterSeal_keeps _ (Keeps.ite (pfRun_keeps _ (flushEnds_keeps _ _ _ k0)) k0))

theorem execIoTimeout_keeps {z : Base} (a0 a1 : _) (k0 : Keeps z a1) : KeepsR z (execIoTimeout a0 a1) := by
  unfold execIoTimeout
  refine KeepsR.next (afterSeal_keeps _ ?_)
  split
  · exact k0
  · exact afterWrites_keeps _ (memberTimeout_keeps _ _ k0)

theorem execNvmeCompletion_keeps {z : Base} (a0 a1 a2 : _) (k0 : Keeps z a2) : KeepsR z (execNvmeCompletion a0 a1 a2) := by
  unfold execNvmeCompletion
  refine KeepsR.next (afterSeal_keeps _ ?_)
  split
  · exact k0
  · extract_lets -merge -underBinder x0
    have h1 : Keeps z x0 := updEv_keeps _ _ k0
    exact Keeps.ite (afterWrites_keeps _ (updEv_keeps _ _ h1)) (afterWrites_keeps _ (memberError_keeps _ _ _ h1))

theorem execSealTake_keeps {z : Base} (a0 : _) (k0 : Keeps z a0) : KeepsR z (execSealTake a0) := by
  unfold execSealTake
  refine KeepsR.next (afterSeal_keeps _ ?_)
  split
  · refine Keeps.ite k0 (Keeps.ite (noteStop_keeps _ _ k0) (Keeps.ite k0 ?_))
    split
    · exact pfRun_keeps _ (settleSeals_keeps _ (takeSeal_keeps _ _ _ _ k0))
    · exact k0
  · exact k0

theorem flushHeld_keeps {z : Base} (a0 : _) (k0 : Keeps z a0) : Keeps z (flushHeld a0) := by
  unfold flushHeld
  exact Keeps.foldl (updHost_keeps _ (fun _ => by first | rfl | (split <;> rfl)) _ k0) (fun _ _ h0 => writeStatus_keeps _ _ _ h0)

theorem completionQueueSet_keeps {z : Base} : KeepsS z (completionQueueSet) := by
  unfold completionQueueSet
  exact KeepsS.mk (fun _ _ _ h0 => KeepsC.ite (KeepsC.ok (flushHeld_keeps _ (updHost_keeps _ (fun _ => by first | rfl | (split <;> rfl)) _ h0)))
      (KeepsC.ite (KeepsC.refuse h0) (KeepsC.ok (updHost_keeps _ (fun _ => by first | rfl | (split <;> rfl)) _ h0))))

theorem deviceQuery_keeps {z : Base} : KeepsS z (deviceQuery) := by
  unfold deviceQuery
  exact KeepsS.mk (fun _ _ _ h0 => okReply_keeps _ _ _ _ h0)

theorem echoCmd_keeps {z : Base} : KeepsS z (echoCmd) := by
  unfold echoCmd
  exact KeepsS.mk (fun _ _ _ h0 => okReply_keeps _ _ _ _ h0)

theorem eventMaskSet_keeps {z : Base} : KeepsS z (eventMaskSet) := by
  unfold eventMaskSet
  refine KeepsS.mk (fun _ _ _ h0 => okState_keeps _ _ _ _ (fun _ _ h1 => ?_) h0)
  extract_lets -merge -underBinder x2
  exact updHost_keeps _ (fun _ => by first | rfl | (split <;> rfl)) _ h1

theorem flushMerged_keeps {z : Base} (a0 : _) (k0 : Keeps z a0) : Keeps z (flushMerged a0) := by
  unfold flushMerged
  exact count_keeps _ _ _ _ _ (updHost_keeps _ (fun _ => by first | rfl | (split <;> rfl)) _ k0)

theorem eventQueueSet_keeps {z : Base} : KeepsS z (eventQueueSet) := by
  unfold eventQueueSet
  exact KeepsS.mk (fun _ _ _ h0 => KeepsC.ite (KeepsC.ok (flushMerged_keeps _ (updHost_keeps _ (fun _ => by first | rfl | (split <;> rfl)) _ h0)))
      (KeepsC.ite (KeepsC.refuse h0) (KeepsC.ok (updHost_keeps _ (fun _ => by first | rfl | (split <;> rfl)) _ h0))))

theorem execCompletionQueueSet_keeps {z : Base} (a0 a1 : _) (k0 : Keeps z a1) : KeepsR z (execCompletionQueueSet a0 a1) := by
  unfold execCompletionQueueSet
  exact KeepsR.next (afterSeal_keeps _ (runCmd_keeps _ _ _ completionQueueSet_keeps k0))

theorem execCqHeldCompletion_keeps {z : Base} (a0 : _) (k0 : Keeps z a0) : KeepsR z (execCqHeldCompletion a0) := by
  unfold execCqHeldCompletion
  refine KeepsR.next ?_
  split
  · exact k0
  · exact Keeps.ite k0 (sweepBad_keeps _ (afterSeal_keeps _ (postCompletion_keeps _ _ (updHost_keeps _ (fun _ => by first | rfl | (split <;> rfl)) _
        k0))))

theorem execDeviceQuery_keeps {z : Base} (a0 a1 : _) (k0 : Keeps z a1) : KeepsR z (execDeviceQuery a0 a1) := by
  unfold execDeviceQuery
  exact KeepsR.next (runCmd_keeps _ _ _ deviceQuery_keeps k0)

theorem execEcho_keeps {z : Base} (a0 a1 : _) (k0 : Keeps z a1) : KeepsR z (execEcho a0 a1) := by
  unfold execEcho
  exact KeepsR.next (runCmd_keeps _ _ _ echoCmd_keeps k0)

theorem execEventMask_keeps {z : Base} (a0 a1 : _) (k0 : Keeps z a1) : KeepsR z (execEventMask a0 a1) := by
  unfold execEventMask
  exact KeepsR.next (runCmd_keeps _ _ _ eventMaskSet_keeps k0)

theorem execEventQueueSet_keeps {z : Base} (a0 a1 : _) (k0 : Keeps z a1) : KeepsR z (execEventQueueSet a0 a1) := by
  unfold execEventQueueSet
  exact KeepsR.next (runCmd_keeps _ _ _ eventQueueSet_keeps k0)

theorem exrSet_keeps {z : Base} : KeepsS z (exrSet) := by
  unfold exrSet
  refine KeepsS.mk (fun _ _ _ h0 => ?_)
  extract_lets -merge -underBinder x1 x2
  exact KeepsC.ite (KeepsC.ok (setExr_keeps _ _ _ h0)) (KeepsC.ite (KeepsC.refuse h0) (KeepsC.ok (setExr_keeps _ _ _ h0)))

theorem execExrSet_keeps {z : Base} (a0 a1 : _) (k0 : Keeps z a1) : KeepsR z (execExrSet a0 a1) := by
  unfold execExrSet
  exact KeepsR.next (runCmd_keeps _ _ _ exrSet_keeps k0)

theorem fwRegionSet_keeps {z : Base} : KeepsS z (fwRegionSet) := by
  unfold fwRegionSet
  exact KeepsS.mk (fun _ _ _ h0 => KeepsC.ite (KeepsC.refuse h0) (KeepsC.ok (updHost_keeps _ (fun _ => by first | rfl | (split <;> rfl)) _ h0)))

theorem execFwRegionSet_keeps {z : Base} (a0 a1 : _) (k0 : Keeps z a1) : KeepsR z (execFwRegionSet a0 a1) := by
  unfold execFwRegionSet
  exact KeepsR.next (runCmd_keeps _ _ _ fwRegionSet_keeps k0)

theorem hostCounters_keeps {z : Base} : KeepsS z (hostCounters) := by
  unfold hostCounters
  exact KeepsS.mk (fun _ _ _ h0 => counterBody_keeps _ _ _ _ _ _ _ h0)

theorem execHostCounters_keeps {z : Base} (a0 a1 : _) (k0 : Keeps z a1) : KeepsR z (execHostCounters a0 a1) := by
  unfold execHostCounters
  exact KeepsR.next (runCmd_keeps _ _ _ hostCounters_keeps k0)

theorem injSet_keeps {z : Base} : KeepsS z (injSet) := by
  unfold injSet
  refine KeepsS.mk (fun _ _ _ h0 => ?_)
  extract_lets -merge -underBinder x1 x2
  exact KeepsC.ite (KeepsC.ok (setInj_keeps _ _ _ h0)) (KeepsC.ite (KeepsC.refuse h0) (KeepsC.ok (setInj_keeps _ _ _ h0)))

theorem execInjSet_keeps {z : Base} (a0 a1 : _) (k0 : Keeps z a1) : KeepsR z (execInjSet a0 a1) := by
  unfold execInjSet
  exact KeepsR.next (runCmd_keeps _ _ _ injSet_keeps k0)

theorem msixMap_keeps {z : Base} : KeepsS z (msixMap) := by
  unfold msixMap
  refine KeepsS.mk (fun _ _ _ h0 => okState_keeps _ _ _ _ (fun _ _ h1 => ?_) h0)
  extract_lets -merge -underBinder x2
  exact updHost_keeps _ (fun _ => by first | rfl | (split <;> rfl)) _ h1

theorem execMsixMap_keeps {z : Base} (a0 a1 : _) (k0 : Keeps z a1) : KeepsR z (execMsixMap a0 a1) := by
  unfold execMsixMap
  exact KeepsR.next (runCmd_keeps _ _ _ msixMap_keeps k0)

theorem ringStatus_keeps {z : Base} : KeepsS z (ringStatus) := by
  unfold ringStatus
  exact KeepsS.mk (fun _ _ _ h0 => okReply_keeps _ _ _ _ h0)

theorem execRingStatus_keeps {z : Base} (a0 a1 : _) (k0 : Keeps z a1) : KeepsR z (execRingStatus a0 a1) := by
  unfold execRingStatus
  exact KeepsR.next (runCmd_keeps _ _ _ ringStatus_keeps k0)

theorem abortCmd_keeps {z : Base} (a0 a1 : _) (k0 : Keeps z a1) : Keeps z (abortCmd a0 a1) := by
  unfold abortCmd
  exact writeStatus_keeps _ _ _ (count_keeps _ _ _ _ _ (count_keeps _ _ _ _ _ k0))

theorem powerTick_keeps {z : Base} (a0 : _) (k0 : Keeps z a0) : Keeps z (powerTick a0) := by
  unfold powerTick
  extract_lets -merge -underBinder x0
  exact updPow_keeps _ _ k0

theorem enterS1b_keeps {z : Base} (a0 : _) (k0 : Keeps z a0) : Keeps z (enterS1b a0) := by
  unfold enterS1b
  extract_lets -merge -underBinder x0 x1 x2
  have h3 : Keeps z x0 := Keeps.foldl k0 (fun _ _ h6 => linkDown_keeps _ _ h6)
  have h4 : Keeps z x1 := leaveUp_keeps _ _ h3
  have h5 : Keeps z x2 := Keeps.ite (setLevel_keeps _ _ _ h4) h4
  exact updPow_keeps _ _ h5

theorem hostifClear_keeps {z : Base} (a0 : _) (k0 : Keeps z a0) : Keeps z (hostifClear a0) := by
  unfold hostifClear
  extract_lets -merge -underBinder x0 x1
  have h2 : Keeps z x0 := flushMerged_keeps _ (flushHeld_keeps _ k0)
  have h3 : Keeps z x1 := Keeps.foldl h2 (fun _ _ h4 => abortCmd_keeps _ _ h4)
  exact updHost_keeps _ (fun _ => by first | rfl | (split <;> rfl)) _ h3

theorem execHostifReset_keeps {z : Base} (a0 : _) (k0 : Keeps z a0) : KeepsR z (execHostifReset a0) := by
  unfold execHostifReset
  extract_lets -merge -underBinder x0
  have h1 : Keeps z x0 := holdSource_keeps _ _ (updPow_keeps _ _ k0)
  exact KeepsR.next (Keeps.ite k0 (Keeps.ite h1 (afterSeal_keeps _ (hostifClear_keeps _ h1))))

theorem execHostifResetEnd_keeps {z : Base} (a0 : _) (k0 : Keeps z a0) : KeepsR z (execHostifResetEnd a0) := by
  unfold execHostifResetEnd
  extract_lets -merge -underBinder x0 x1 x2
  have h3 : Keeps z x0 := dropSource_keeps _ _ k0
  have h4 : Keeps z x2 := loadCause_keeps _ _ h3
  exact KeepsR.next (Keeps.ite k0 (Keeps.ite (updPow_keeps _ _ h3) (Keeps.ite h4 (updPow_keeps _ _ h4))))

theorem execPowerStateEntry_keeps {z : Base} (a0 : _) (k0 : Keeps z a0) : KeepsR z (execPowerStateEntry a0) := by
  unfold execPowerStateEntry
  extract_lets -merge -underBinder x0 x1
  have h2 : Keeps z x1 := updPow_keeps _ _ k0
  exact KeepsR.next (Keeps.ite k0 (Keeps.ite (enterS1b_keeps _ (enterPower_keeps _ _ _ (updPow_keeps _ _ k0))) (Keeps.ite (enterPower_keeps _ _ _
      (updPow_keeps _ _ k0)) (Keeps.ite (enterPower_keeps _ _ _ h2) (enterPower_keeps _ _ _ h2)))))

theorem execThermalRewake_keeps {z : Base} (a0 a1 : _) (k0 : Keeps z a1) : KeepsR z (execThermalRewake a0 a1) := by
  unfold execThermalRewake
  extract_lets -merge -underBinder x0 x1 x2 x3 x4
  have h5 : Keeps z x3 := raise_keeps _ _ _ (restoreTraining_keeps _ _ _ _ (raise_keeps _ _ _ (drawFree_keeps _ k0)))
  exact KeepsR.next (Keeps.ite k0 (raise_keeps _ _ _ (setFlag_keeps _ _ _ (setChanState_keeps _ _ _ h5))))

theorem execWakeUp_keeps {z : Base} (a0 a1 : _) (k0 : Keeps z a1) : KeepsR z (execWakeUp a0 a1) := by
  unfold execWakeUp
  extract_lets -merge -underBinder x0 x1 x2 x3 x4
  have h5 : Keeps z x3 := raise_keeps _ _ _ k0
  have h6 : Keeps z x4 := Keeps.ite (setFlag_keeps _ _ _ h5) h5
  exact KeepsR.next (Keeps.ite k0 (enterPower_keeps _ _ _ (updPow_keeps _ _ h6)))

theorem chipReset_keeps {z : Base} : KeepsS z (chipReset) := by
  unfold chipReset
  refine KeepsS.mk (fun _ _ _ h0 => KeepsC.ite (KeepsC.refuse h0) ?_)
  extract_lets -merge -underBinder x1
  have h2 : Keeps z x1 := updPow_keeps _ _ h0
  exact KeepsC.ok (Keeps.ite (pfBegin_keeps _ h2) h2)

theorem coreReset_keeps {z : Base} : KeepsS z (coreReset) := by
  unfold coreReset
  refine KeepsS.mk (fun _ _ _ h0 => okState_keeps _ _ _ _ (fun _ _ h1 => ?_) h0)
  extract_lets -merge -underBinder x2
  exact Keeps.ite (raise_keeps _ _ _ (resetCores_keeps _ _ h1)) (raise_keeps _ _ _ (drawFree_keeps _ (markFrozen_keeps _ _ _ _ (resetCores_keeps _ _
      h1))))

theorem datapathReset_keeps {z : Base} : KeepsS z (datapathReset) := by
  unfold datapathReset
  refine KeepsS.mk (fun _ _ _ h0 => KeepsC.ite (KeepsC.refuse h0) ?_)
  extract_lets -merge -underBinder x1
  have h2 : Keeps z x1 := updPow_keeps _ _ h0
  exact KeepsC.ok (Keeps.ite (pfBegin_keeps _ h2) h2)

theorem runLong_keeps {z : Base} (a0 a1 a2 : _) (k0 : KeepsS z a0) (k1 : Keeps z a2) : Keeps z (runLong a0 a1 a2) := by
  unfold runLong
  extract_lets -merge -underBinder x0
  have h1 : KeepsC z x0 := cmdOutcome_keeps _ _ _ k0 (startCmd_keeps _ _ k1)
  exact Keeps.ite (Keeps.ite (KeepsC.out h1) (sweepBad_keeps _ (finishCmd_keeps _ _ _ _ _ (KeepsC.out h1)))) k1

theorem execChipReset_keeps {z : Base} (a0 a1 : _) (k0 : Keeps z a1) : KeepsR z (execChipReset a0 a1) := by
  unfold execChipReset
  exact KeepsR.next (afterSeal_keeps _ (runLong_keeps _ _ _ chipReset_keeps k0))

theorem execDatapathReset_keeps {z : Base} (a0 a1 : _) (k0 : Keeps z a1) : KeepsR z (execDatapathReset a0 a1) := by
  unfold execDatapathReset
  exact KeepsR.next (afterSeal_keeps _ (runLong_keeps _ _ _ datapathReset_keeps k0))

theorem gpioConfig_keeps {z : Base} : KeepsS z (gpioConfig) := by
  unfold gpioConfig
  exact KeepsS.mk (fun _ _ _ h0 => okState_keeps _ _ _ _ (fun _ _ h1 => updPow_keeps _ _ h1) h0)

theorem execGpioConfig_keeps {z : Base} (a0 a1 : _) (k0 : Keeps z a1) : KeepsR z (execGpioConfig a0 a1) := by
  unfold execGpioConfig
  exact KeepsR.next (runCmd_keeps _ _ _ gpioConfig_keeps k0)

theorem powerFail_keeps {z : Base} : KeepsS z (powerFail) := by
  unfold powerFail
  exact KeepsS.mk (fun _ _ _ h0 => KeepsC.ite (KeepsC.refuse h0) (KeepsC.ok (beginS2_keeps _ _ h0)))

theorem execPowerFail_keeps {z : Base} (a0 a1 : _) (k0 : Keeps z a1) : KeepsR z (execPowerFail a0 a1) := by
  unfold execPowerFail
  exact KeepsR.next (afterSeal_keeps _ (runCmd_keeps _ _ _ powerFail_keeps k0))

theorem powerPolicy_keeps {z : Base} : KeepsS z (powerPolicy) := by
  unfold powerPolicy
  exact KeepsS.mk (fun _ _ _ h0 => okState_keeps _ _ _ _ (fun _ _ h1 => updPow_keeps _ _ h1) h0)

theorem execPowerPolicy_keeps {z : Base} (a0 a1 : _) (k0 : Keeps z a1) : KeepsR z (execPowerPolicy a0 a1) := by
  unfold execPowerPolicy
  exact KeepsR.next (runCmd_keeps _ _ _ powerPolicy_keeps k0)

theorem powerStatus_keeps {z : Base} : KeepsS z (powerStatus) := by
  unfold powerStatus
  exact KeepsS.mk (fun _ _ _ h0 => KeepsC.ok (Keeps.mk' h0 rfl rfl rfl rfl rfl))

theorem execPowerStatus_keeps {z : Base} (a0 a1 : _) (k0 : Keeps z a1) : KeepsR z (execPowerStatus a0 a1) := by
  unfold execPowerStatus
  exact KeepsR.next (runCmd_keeps _ _ _ powerStatus_keeps k0)

theorem powerTolerance_keeps {z : Base} : KeepsS z (powerTolerance) := by
  unfold powerTolerance
  exact KeepsS.mk (fun _ _ _ h0 => okState_keeps _ _ _ _ (fun _ _ h1 => updPow_keeps _ _ h1) h0)

theorem execPowerTolerance_keeps {z : Base} (a0 a1 : _) (k0 : Keeps z a1) : KeepsR z (execPowerTolerance a0 a1) := by
  unfold execPowerTolerance
  exact KeepsR.next (runCmd_keeps _ _ _ powerTolerance_keeps k0)

theorem dramCounters_keeps {z : Base} : KeepsS z (dramCounters) := by
  unfold dramCounters
  exact KeepsS.mk (fun _ _ _ h0 => timedBody_keeps _ _ _ _ _ _ _ _ h0)

theorem dramEcc_keeps {z : Base} : KeepsS z (dramEcc) := by
  unfold dramEcc
  exact KeepsS.mk (fun _ _ _ h0 => okState_keeps _ _ _ _ (fun _ _ h1 => updDram_keeps _ (fun _ => by first | rfl | (split <;> rfl)) _ h1) h0)

theorem dramErrorLog_keeps {z : Base} : KeepsS z (dramErrorLog) := by
  unfold dramErrorLog
  refine KeepsS.mk (fun _ _ _ h0 => ?_)
  extract_lets -merge -underBinder x1
  exact KeepsC.ok (updDram_keeps _ (fun _ => by first | rfl | (split <;> rfl)) _ h0)

theorem dramFence_keeps {z : Base} : KeepsS z (dramFence) := by
  unfold dramFence
  refine KeepsS.mk (fun _ _ _ h0 => ?_)
  extract_lets -merge -underBinder x1
  exact KeepsC.ite (KeepsC.refuse h0) (KeepsC.ok (fenceChannel_keeps _ _ _ h0))

theorem dramPopulation_keeps {z : Base} : KeepsS z (dramPopulation) := by
  unfold dramPopulation
  exact KeepsS.mk (fun _ _ _ h0 => KeepsC.ite (KeepsC.refuse h0) (KeepsC.ok (updDram_keeps _ (fun _ => by first | rfl | (split <;> rfl)) _ h0)))

theorem withRange_keeps {z : Base} (a0 a1 a2 : _) (k0 : Keeps z a0) : Keeps z (withRange a0 a1 a2) := by
  unfold withRange
  exact updDram_keeps _ (fun _ => by first | rfl | (split <;> rfl)) _ k0

theorem dramRangeSet_keeps {z : Base} : KeepsS z (dramRangeSet) := by
  unfold dramRangeSet
  refine KeepsS.mk (fun _ _ _ h0 => KeepsC.ite (KeepsC.refuse h0) ?_)
  extract_lets -merge -underBinder x1
  have h2 : Keeps z x1 := withRange_keeps _ _ _ h0
  exact KeepsC.ok h2

theorem dramRefresh_keeps {z : Base} : KeepsS z (dramRefresh) := by
  unfold dramRefresh
  exact KeepsS.mk (fun _ _ _ h0 => okState_keeps _ _ _ _ (fun _ _ h1 => updDram_keeps _ (fun _ => by first | rfl | (split <;> rfl)) _ h1) h0)

theorem dramReserve_keeps {z : Base} : KeepsS z (dramReserve) := by
  unfold dramReserve
  exact KeepsS.mk (fun _ _ _ h0 => KeepsC.ite (KeepsC.refuse h0) (KeepsC.ok (updDram_keeps _ (fun _ => by first | rfl | (split <;> rfl)) _ h0)))

theorem dramSched_keeps {z : Base} : KeepsS z (dramSched) := by
  unfold dramSched
  exact KeepsS.mk (fun _ _ _ h0 => okState_keeps _ _ _ _ (fun _ _ h1 => updDram_keeps _ (fun _ => by first | rfl | (split <;> rfl)) _ h1) h0)

theorem remapDram_keeps {z : Base} (old new : State) (_ : Keeps z old) (h : Keeps z new) : Keeps z (remapDram old new) := by
  have f : ∀ (l : List (Nat × Byte)) (t : List (Nat × Byte)), Memory.wf t = true →
      Memory.wf (l.foldl (fun t p => tabSet memDefault t p.1 p.2) t) = true := by
    intro l
    induction l with
    | nil => exact fun _ w => w
    | cons p l ih => exact fun t w => ih _ (tabWf_set _ _ w)
  exact h.dramMem' rfl rfl (fun _ => f _ [] rfl) rfl rfl

theorem findDump_keeps {z : Base} (a0 : _) (k0 : Keeps z a0) : Keeps z (findDump a0) := by
  unfold findDump
  extract_lets -merge -underBinder x0
  exact Keeps.ite (raise_keeps _ _ _ (Keeps.mk' k0 rfl rfl rfl rfl rfl)) k0

theorem dramStart_keeps {z : Base} : KeepsS z (dramStart) := by
  unfold dramStart
  refine KeepsS.mk (fun _ _ _ h0 => KeepsC.ite (KeepsC.ok h0) (KeepsC.ite (KeepsC.refuse h0) ?_))
  extract_lets -merge -underBinder x1 x2
  have h3 : Keeps z x1 := updDram_keeps _ (fun _ => by first | rfl | (split <;> rfl)) _ h0
  have h4 : Keeps z x2 := Keeps.ite h0 (remapDram_keeps _ _ h3 h0)
  exact KeepsC.ok (findDump_keeps _ (updDram_keeps _ (fun _ => by first | rfl | (split <;> rfl)) _ h4))

theorem dramStatus_keeps {z : Base} : KeepsS z (dramStatus) := by
  unfold dramStatus
  exact KeepsS.mk (fun _ _ _ h0 => okReply_keeps _ _ _ _ h0)

theorem dramTiming_keeps {z : Base} : KeepsS z (dramTiming) := by
  unfold dramTiming
  exact KeepsS.mk (fun _ _ _ h0 => KeepsC.ite (KeepsC.refuse h0) (KeepsC.ok (updDram_keeps _ (fun _ => by first | rfl | (split <;> rfl)) _ h0)))

theorem dramTrain_keeps {z : Base} (a0 a1 : _) : KeepsS z (dramTrain a0 a1) := by
  unfold dramTrain
  refine KeepsS.mk (fun _ _ _ h0 => ?_)
  extract_lets -merge -underBinder x1 x2 x3 x4
  have h5 : Keeps z x4 := updDram_keeps _ (fun _ => by first | rfl | (split <;> rfl)) _ h0
  exact KeepsC.ite (KeepsC.refuse h0) (KeepsC.ok (Keeps.foldl h5 (fun _ _ h6 => Keeps.ite (restoreTraining_keeps _ _ _ _ h6) (fullTraining_keeps _ _ _
      h6))))

theorem execDramCounters_keeps {z : Base} (a0 a1 : _) (k0 : Keeps z a1) : KeepsR z (execDramCounters a0 a1) := by
  unfold execDramCounters
  exact KeepsR.next (runCmd_keeps _ _ _ dramCounters_keeps k0)

theorem execDramEcc_keeps {z : Base} (a0 a1 : _) (k0 : Keeps z a1) : KeepsR z (execDramEcc a0 a1) := by
  unfold execDramEcc
  exact KeepsR.next (runCmd_keeps _ _ _ dramEcc_keeps k0)

theorem execDramErrorLog_keeps {z : Base} (a0 a1 : _) (k0 : Keeps z a1) : KeepsR z (execDramErrorLog a0 a1) := by
  unfold execDramErrorLog
  exact KeepsR.next (runCmd_keeps _ _ _ dramErrorLog_keeps k0)

theorem execDramFence_keeps {z : Base} (a0 a1 : _) (k0 : Keeps z a1) : KeepsR z (execDramFence a0 a1) := by
  unfold execDramFence
  exact KeepsR.next (runCmd_keeps _ _ _ dramFence_keeps k0)

theorem execDramPopulation_keeps {z : Base} (a0 a1 : _) (k0 : Keeps z a1) : KeepsR z (execDramPopulation a0 a1) := by
  unfold execDramPopulation
  exact KeepsR.next (runCmd_keeps _ _ _ dramPopulation_keeps k0)

theorem execDramRangeSet_keeps {z : Base} (a0 a1 : _) (k0 : Keeps z a1) : KeepsR z (execDramRangeSet a0 a1) := by
  unfold execDramRangeSet
  exact KeepsR.next (runCmd_keeps _ _ _ dramRangeSet_keeps k0)

theorem execDramRefresh_keeps {z : Base} (a0 a1 : _) (k0 : Keeps z a1) : KeepsR z (execDramRefresh a0 a1) := by
  unfold execDramRefresh
  exact KeepsR.next (runCmd_keeps _ _ _ dramRefresh_keeps k0)

theorem execDramReserve_keeps {z : Base} (a0 a1 : _) (k0 : Keeps z a1) : KeepsR z (execDramReserve a0 a1) := by
  unfold execDramReserve
  exact KeepsR.next (runCmd_keeps _ _ _ dramReserve_keeps k0)

theorem execDramSched_keeps {z : Base} (a0 a1 : _) (k0 : Keeps z a1) : KeepsR z (execDramSched a0 a1) := by
  unfold execDramSched
  exact KeepsR.next (runCmd_keeps _ _ _ dramSched_keeps k0)

theorem execDramStart_keeps {z : Base} (a0 a1 : _) (k0 : Keeps z a1) : KeepsR z (execDramStart a0 a1) := by
  unfold execDramStart
  exact KeepsR.next (runCmd_keeps _ _ _ dramStart_keeps k0)

theorem execDramStatus_keeps {z : Base} (a0 a1 : _) (k0 : Keeps z a1) : KeepsR z (execDramStatus a0 a1) := by
  unfold execDramStatus
  exact KeepsR.next (runCmd_keeps _ _ _ dramStatus_keeps k0)

theorem execDramTiming_keeps {z : Base} (a0 a1 : _) (k0 : Keeps z a1) : KeepsR z (execDramTiming a0 a1) := by
  unfold execDramTiming
  exact KeepsR.next (runCmd_keeps _ _ _ dramTiming_keeps k0)

theorem execDramTrain_keeps {z : Base} (a0 a1 a2 a3 : _) (k0 : Keeps z a3) : KeepsR z (execDramTrain a0 a1 a2 a3) := by
  unfold execDramTrain
  exact KeepsR.next (runCmd_keeps _ _ _ (dramTrain_keeps _ _) k0)

end Sys2Proof.Machine
end

