-- ==== Sys2Proof/Laws/KeepsPower.lean ====
section
/-!
SUPPORT. One lemma for each operation, command body and command of EvidenceCmd, SecureCmd, TickOps, CopInstr, DispatchCmd, EgressInstr, PowerInstr,
RegOps, HostRegs, FaultInstr, IngressInstr, IntegerInstr: it keeps what every command keeps.
-/
set_option linter.constructorNameAsVariable false
set_option linter.unusedVariables false
namespace Sys2Proof.Machine

theorem cfgWrite_keeps {z : Base} (a0 a1 : _) (k0 : Keeps z a1) : Keeps z (cfgWrite a0 a1) := by
  unfold cfgWrite
  extract_lets -merge -underBinder x0
  exact Keeps.ite (updEv_keeps _ _ k0) (updEv_keeps _ _ k0)

theorem commitRoute_keeps {z : Base} : KeepsS z (commitRoute) := by
  unfold commitRoute
  exact KeepsS.mk (fun _ _ _ h0 => okState_keeps _ _ _ _ (fun _ _ h1 => updEv_keeps _ _ h1) h0)

theorem evidenceConfig_keeps {z : Base} : KeepsS z (evidenceConfig) := by
  unfold evidenceConfig
  exact KeepsS.mk (fun _ _ _ h0 => KeepsC.ite (KeepsC.refuse h0) (KeepsC.ok (updEv_keeps _ _ h0)))

theorem evidenceCounters_keeps {z : Base} : KeepsS z (evidenceCounters) := by
  unfold evidenceCounters
  exact KeepsS.mk (fun _ _ _ h0 => counterBody_keeps _ _ _ _ _ _ _ h0)

theorem evidenceStart_keeps {z : Base} (a0 : _) (k0 : Keeps z a0) : Keeps z (evidenceStart a0) := by
  unfold evidenceStart
  extract_lets -merge -underBinder x0 x1
  have h2 : Keeps z x0 := Keeps.foldl k0 (fun _ _ h4 => setLock_keeps _ _ _ h4)
  have h3 : Keeps z x1 := updEv_keeps _ _ h2
  refine Keeps.foldl h3 (fun _ _ h5 => ?_)
  extract_lets -merge -underBinder x6
  exact putField_keeps _ _ _ _ (putField_keeps _ _ _ _ h5)

theorem evidenceStop_keeps {z : Base} (a0 : _) (k0 : Keeps z a0) : Keeps z (evidenceStop a0) := by
  unfold evidenceStop
  exact releaseUnits_keeps _ (endExposure_keeps _ (updEv_keeps _ _ k0))

theorem evidenceRun_keeps {z : Base} : KeepsS z (evidenceRun) := by
  unfold evidenceRun
  exact KeepsS.mk (fun _ _ _ h0 => KeepsC.ite (KeepsC.refuse h0) (KeepsC.ite (KeepsC.ite (KeepsC.ok h0) (KeepsC.ite (KeepsC.refuse h0) (KeepsC.ok
      (evidenceStart_keeps _ h0)))) (KeepsC.ite (KeepsC.refuse h0) (KeepsC.ok (Keeps.ite (evidenceStop_keeps _ h0) h0)))))

theorem evidenceStatus_keeps {z : Base} : KeepsS z (evidenceStatus) := by
  unfold evidenceStatus
  exact KeepsS.mk (fun _ _ _ h0 => okReply_keeps _ _ _ _ h0)

theorem execCommitRoute_keeps {z : Base} (a0 a1 : _) (k0 : Keeps z a1) : KeepsR z (execCommitRoute a0 a1) := by
  unfold execCommitRoute
  exact KeepsR.next (runCmd_keeps _ _ _ commitRoute_keeps k0)

theorem execEvidenceConfig_keeps {z : Base} (a0 a1 : _) (k0 : Keeps z a1) : KeepsR z (execEvidenceConfig a0 a1) := by
  unfold execEvidenceConfig
  exact KeepsR.next (runCmd_keeps _ _ _ evidenceConfig_keeps k0)

theorem execEvidenceCounters_keeps {z : Base} (a0 a1 : _) (k0 : Keeps z a1) : KeepsR z (execEvidenceCounters a0 a1) := by
  unfold execEvidenceCounters
  exact KeepsR.next (runCmd_keeps _ _ _ evidenceCounters_keeps k0)

theorem execEvidenceRun_keeps {z : Base} (a0 a1 : _) (k0 : Keeps z a1) : KeepsR z (execEvidenceRun a0 a1) := by
  unfold execEvidenceRun
  exact KeepsR.next (runCmd_keeps _ _ _ evidenceRun_keeps k0)

theorem execEvidenceStatus_keeps {z : Base} (a0 a1 : _) (k0 : Keeps z a1) : KeepsR z (execEvidenceStatus a0 a1) := by
  unfold execEvidenceStatus
  exact KeepsR.next (runCmd_keeps _ _ _ evidenceStatus_keeps k0)

theorem laneConfig_keeps {z : Base} : KeepsS z (laneConfig) := by
  unfold laneConfig
  exact KeepsS.mk (fun _ _ _ h0 => KeepsC.ite (KeepsC.refuse h0) (KeepsC.ok (setLane_keeps _ _ _ h0)))

theorem execLaneConfig_keeps {z : Base} (a0 a1 : _) (k0 : Keeps z a1) : KeepsR z (execLaneConfig a0 a1) := by
  unfold execLaneConfig
  exact KeepsR.next (runCmd_keeps _ _ _ laneConfig_keeps k0)

theorem storeAdmin_keeps {z : Base} (a0 a1 : _) : KeepsS z (storeAdmin a0 a1) := by
  unfold storeAdmin
  refine KeepsS.mk (fun _ _ _ h0 => ?_)
  extract_lets -merge -underBinder x1
  exact KeepsC.ite (KeepsC.refuse h0) (KeepsC.ite (KeepsC.refuse (noteTlp_keeps _ _ _ h0)) (KeepsC.ok h0))

theorem execStoreAdmin_keeps {z : Base} (a0 a1 a2 a3 : _) (k0 : Keeps z a3) : KeepsR z (execStoreAdmin a0 a1 a2 a3) := by
  unfold execStoreAdmin
  exact KeepsR.next (runCmd_keeps _ _ _ (storeAdmin_keeps _ _) k0)

theorem storeCfgAccess_keeps {z : Base} (a0 a1 : _) : KeepsS z (storeCfgAccess a0 a1) := by
  unfold storeCfgAccess
  exact KeepsS.mk (fun _ _ _ h0 => KeepsC.ite (KeepsC.refuse h0) (KeepsC.ite (KeepsC.ok h0) (KeepsC.ok (Keeps.ite (cfgWrite_keeps _ _ h0) h0))))

theorem execStoreCfgAccess_keeps {z : Base} (a0 a1 a2 a3 : _) (k0 : Keeps z a3) : KeepsR z (execStoreCfgAccess a0 a1 a2 a3) := by
  unfold execStoreCfgAccess
  exact KeepsR.next (runCmd_keeps _ _ _ (storeCfgAccess_keeps _ _) k0)

theorem storeControllerAdd_keeps {z : Base} (a0 : _) : KeepsS z (storeControllerAdd a0) := by
  unfold storeControllerAdd
  exact KeepsS.mk (fun _ _ _ h0 => KeepsC.ite (KeepsC.refuse h0) (KeepsC.ite (KeepsC.refuse h0) (KeepsC.ite (KeepsC.refuse h0) (KeepsC.ok (updEv_keeps
      _ _ h0)))))

theorem execStoreControllerAdd_keeps {z : Base} (a0 a1 a2 : _) (k0 : Keeps z a2) : KeepsR z (execStoreControllerAdd a0 a1 a2) := by
  unfold execStoreControllerAdd
  exact KeepsR.next (runCmd_keeps _ _ _ (storeControllerAdd_keeps _) k0)

theorem whenStopped_keeps {z : Base} (a0 a1 a2 a3 : _) (k0 : ∀ y0 y1, Keeps z y0 → Keeps z (a0 y0 y1)) (k1 : Keeps z a1) : KeepsC z (whenStopped a0 a1
    a2 a3) := by
  unfold whenStopped
  exact KeepsC.ite (KeepsC.refuse k1) (okState_keeps _ _ _ _ (fun _ _ h0 => k0 _ _ h0) k1)

theorem storeLink_keeps {z : Base} : KeepsS z (storeLink) := by
  unfold storeLink
  refine KeepsS.mk (fun _ _ _ h0 => whenStopped_keeps _ _ _ _ (fun _ _ h1 => ?_) h0)
  extract_lets -merge -underBinder x2 x3
  exact updEv_keeps _ _ (Keeps.mk' h1 rfl rfl rfl rfl rfl)

theorem execStoreLink_keeps {z : Base} (a0 a1 : _) (k0 : Keeps z a1) : KeepsR z (execStoreLink a0 a1) := by
  unfold execStoreLink
  exact KeepsR.next (runCmd_keeps _ _ _ storeLink_keeps k0)

theorem storeMemberSet_keeps {z : Base} : KeepsS z (storeMemberSet) := by
  unfold storeMemberSet
  exact KeepsS.mk (fun _ _ _ h0 => whenStopped_keeps _ _ _ _ (fun _ _ h1 => updEv_keeps _ _ h1) h0)

theorem execStoreMemberSet_keeps {z : Base} (a0 a1 : _) (k0 : Keeps z a1) : KeepsR z (execStoreMemberSet a0 a1) := by
  unfold execStoreMemberSet
  exact KeepsR.next (runCmd_keeps _ _ _ storeMemberSet_keeps k0)

theorem settleMember_keeps {z : Base} (a0 a1 a2 : _) (k0 : Keeps z a2) : Keeps z (settleMember a0 a1 a2) := by
  unfold settleMember
  exact settleSeals_keeps _ (settleStripes_keeps _ _ (memberEnds_keeps _ _ _ k0))

theorem storeRead_keeps {z : Base} (a0 a1 : _) : KeepsS z (storeRead a0 a1) := by
  unfold storeRead
  refine KeepsS.mk (fun _ _ _ h0 => KeepsC.ite (KeepsC.refuse (settleMember_keeps _ _ _ h0)) (KeepsC.ite (KeepsC.refuse h0) ?_))
  extract_lets -merge -underBinder x1 x2
  exact KeepsC.ok (hostWriteBad_keeps _ _ _ _ (noteTlp_keeps _ _ _ h0))

theorem execStoreRead_keeps {z : Base} (a0 a1 a2 a3 : _) (k0 : Keeps z a3) : KeepsR z (execStoreRead a0 a1 a2 a3) := by
  unfold execStoreRead
  exact KeepsR.next (runCmd_keeps _ _ _ (storeRead_keeps _ _) k0)

theorem storeRelease_keeps {z : Base} : KeepsS z (storeRelease) := by
  unfold storeRelease
  refine KeepsS.mk (fun _ _ _ h0 => okState_keeps _ _ _ _ (fun _ _ h1 => ?_) h0)
  extract_lets -merge -underBinder x2
  have h3 : Keeps z x2 := updEv_keeps _ _ h1
  split
  · exact h3
  · extract_lets -merge -underBinder x4 x5 x6 x7
    exact updEv_keeps _ _ h3

theorem execStoreRelease_keeps {z : Base} (a0 a1 : _) (k0 : Keeps z a1) : KeepsR z (execStoreRelease a0 a1) := by
  unfold execStoreRelease
  exact KeepsR.next (runCmd_keeps _ _ _ storeRelease_keeps k0)

theorem formatSupers_keeps {z : Base} (a0 a1 : _) (k0 : Keeps z a1) : Keeps z (formatSupers a0 a1) := by
  unfold formatSupers
  exact Keeps.foldl k0 (fun _ _ h0 => updEv_keeps _ _ h0)

theorem storeSet_keeps {z : Base} (a0 : _) : KeepsS z (storeSet a0) := by
  unfold storeSet
  refine KeepsS.mk (fun _ _ _ h0 => KeepsC.ite (KeepsC.refuse h0) (KeepsC.ite (KeepsC.refuse (settleMember_keeps _ _ _ h0)) ?_))
  extract_lets -merge -underBinder x1 x2
  refine KeepsC.ite (KeepsC.ok (formatSupers_keeps _ _ (updEv_keeps _ _ h0))) ?_
  split
  · exact KeepsC.refuse h0
  · exact KeepsC.ok (updEv_keeps _ _ h0)

theorem execStoreSet_keeps {z : Base} (a0 a1 a2 : _) (k0 : Keeps z a2) : KeepsR z (execStoreSet a0 a1 a2) := by
  unfold execStoreSet
  exact KeepsR.next (runCmd_keeps _ _ _ (storeSet_keeps _) k0)

theorem streamClose_keeps {z : Base} : KeepsS z (streamClose) := by
  unfold streamClose
  refine KeepsS.mk (fun _ _ _ h0 => ?_)
  extract_lets -merge -underBinder x1
  split
  · exact KeepsC.refuse h0
  · extract_lets -merge -underBinder x2
    have h3 : Keeps z x2 := closeReam_keeps _ _ _ _ h0
    refine KeepsC.ite (KeepsC.refuse h0) (KeepsC.ite (KeepsC.ok h3) (KeepsC.ok ?_))
    split
    · exact setStream_keeps _ _ _ (ctxWrite_keeps _ _ _ _ h3)
    · exact h3

theorem execStreamClose_keeps {z : Base} (a0 a1 : _) (k0 : Keeps z a1) : KeepsR z (execStreamClose a0 a1) := by
  unfold execStreamClose
  exact KeepsR.next (runCmd_keeps _ _ _ streamClose_keeps k0)

theorem streamKey_keeps {z : Base} : KeepsS z (streamKey) := by
  unfold streamKey
  refine KeepsS.mk (fun _ _ _ h0 => ?_)
  extract_lets -merge -underBinder x1
  split
  · exact KeepsC.refuse h0
  · exact KeepsC.ite (KeepsC.refuse h0) (KeepsC.ok (rewriteSupers_keeps _ (setStream_keeps _ _ _ h0)))

theorem execStreamKey_keeps {z : Base} (a0 a1 : _) (k0 : Keeps z a1) : KeepsR z (execStreamKey a0 a1) := by
  unfold execStreamKey
  exact KeepsR.next (runCmd_keeps _ _ _ streamKey_keeps k0)

theorem streamOpen_keeps {z : Base} : KeepsS z (streamOpen) := by
  unfold streamOpen
  refine KeepsS.mk (fun _ _ _ h0 => ?_)
  extract_lets -merge -underBinder x1
  exact KeepsC.ite (KeepsC.refuse h0) (KeepsC.ok (setStream_keeps _ _ _ (ctxWrite_keeps _ _ _ _ h0)))

theorem execStreamOpen_keeps {z : Base} (a0 a1 : _) (k0 : Keeps z a1) : KeepsR z (execStreamOpen a0 a1) := by
  unfold execStreamOpen
  exact KeepsR.next (runCmd_keeps _ _ _ streamOpen_keeps k0)

theorem streamQuery_keeps {z : Base} : KeepsS z (streamQuery) := by
  unfold streamQuery
  refine KeepsS.mk (fun _ _ _ h0 => ?_)
  extract_lets -merge -underBinder x1 x2 x3 x4
  have h5 : Keeps z x3 := Keeps.ite (checkCtx_keeps _ _ _ _ h0) h0
  exact KeepsC.ok h5

theorem execStreamQuery_keeps {z : Base} (a0 a1 : _) (k0 : Keeps z a1) : KeepsR z (execStreamQuery a0 a1) := by
  unfold execStreamQuery
  exact KeepsR.next (runCmd_keeps _ _ _ streamQuery_keeps k0)

theorem breakpointSet_keeps {z : Base} : KeepsS z (breakpointSet) := by
  unfold breakpointSet
  exact KeepsS.mk (fun _ _ _ h0 => okState_keeps _ _ _ _ (fun _ _ h1 => updSec_keeps _ (fun _ => by exact ⟨rfl, rfl⟩) _ h1) h0)

theorem changeSlot_keeps {z : Base} (p : List Byte) (k : KeySlot) (s : State) (ek : z.keys = false) (h : Keeps z s) : Keeps z (changeSlot p k s) := by
  have h1 := updSec_keys ek (fun c => { c with keys := tabSet {} c.keys (slotPlace p) k }) (fun _ => rfl) s h
  exact raise_keeps _ _ _ (Keeps.ite (rewriteSupers_keeps _ h1) h1)

theorem debugAttach_keeps {z : Base} : KeepsS z (debugAttach) := by
  unfold debugAttach
  exact KeepsS.mk (fun _ _ _ h0 => KeepsC.ite (KeepsC.refuse h0) (KeepsC.ok (attachLevel_keeps _ _ h0)))

theorem debugChallenge_keeps {z : Base} : KeepsS z (debugChallenge) := by
  unfold debugChallenge
  refine KeepsS.mk (fun _ _ _ h0 => ?_)
  extract_lets -merge -underBinder x1
  exact KeepsC.ok (drawBytes_keeps _ _ (updSec_keeps _ (fun _ => by exact ⟨rfl, rfl⟩) _ h0))

theorem debugCounters_keeps {z : Base} : KeepsS z (debugCounters) := by
  unfold debugCounters
  exact KeepsS.mk (fun _ _ _ h0 => counterBody_keeps _ _ _ _ _ _ _ h0)

theorem debugHalt_keeps {z : Base} : KeepsS z (debugHalt) := by
  unfold debugHalt
  exact KeepsS.mk (fun _ _ _ h0 => KeepsC.ite (KeepsC.refuse h0) (KeepsC.ok (freezeScope_keeps _ _ _ _ h0)))

theorem debugRelease_keeps {z : Base} : KeepsS z (debugRelease) := by
  unfold debugRelease
  exact KeepsS.mk (fun _ _ _ h0 => KeepsC.ite (KeepsC.refuse h0) (KeepsC.ok (releaseScope_keeps _ _ _ h0)))

theorem debugStep_keeps {z : Base} : KeepsS z (debugStep) := by
  unfold debugStep
  refine KeepsS.mk (fun _ _ _ h0 => KeepsC.ite (KeepsC.refuse h0) ?_)
  extract_lets -merge -underBinder x1 x2 x3
  have h4 : Keeps z x2 := count_keeps _ _ _ _ _ (updSec_keeps _ (fun _ => by exact ⟨rfl, rfl⟩) _ h0)
  exact KeepsC.ok (releaseScope_keeps _ _ _ (Keeps.mk' h4 rfl rfl rfl rfl rfl))

theorem debugUnlock_keeps {z : Base} : KeepsS z (debugUnlock) := by
  unfold debugUnlock
  refine KeepsS.mk (fun _ _ _ h0 => ?_)
  split
  · exact KeepsC.refuse h0
  · extract_lets -merge -underBinder x1 x2
    have h3 : Keeps z x1 := updSec_keeps _ (fun _ => by exact ⟨rfl, rfl⟩) _ h0
    have h4 : Keeps z x2 := updSec_keeps _ (fun _ => by exact ⟨rfl, rfl⟩) _ h3
    exact KeepsC.ite (KeepsC.refuse h3) (KeepsC.ite (KeepsC.ok (attachLevel_keeps _ _ h3)) (KeepsC.refuse (raise_keeps _ _ _ (setFlag_keeps _ _ _
        (count_keeps _ _ _ _ _ h4)))))

theorem writeTrace_keeps {z : Base} (a0 : _) (k0 : Keeps z a0) : Keeps z (writeTrace a0) := by
  unfold writeTrace
  extract_lets -merge -underBinder x0
  split
  · exact k0
  · extract_lets -merge -underBinder x1 x2
    have h3 : Keeps z x1 := count_keeps _ _ _ _ _ (dramWrite_keeps _ _ _ _ _ k0)
    exact updSec_keeps _ (fun _ => by exact ⟨rfl, rfl⟩) _ h3

theorem drainTrace_keeps {z : Base} (a0 : _) (k0 : Keeps z a0) : Keeps z (drainTrace a0) := by
  unfold drainTrace
  exact Keeps.ite (Keeps.foldl k0 (fun _ _ h0 => writeTrace_keeps _ h0)) k0

theorem dumpClear_keeps {z : Base} : KeepsS z (dumpClear) := by
  unfold dumpClear
  exact KeepsS.mk (fun _ _ _ h0 => KeepsC.ite (KeepsC.refuse h0) (KeepsC.ok (updPow_keeps _ _ (dramWrite_keeps _ _ _ _ _ h0))))

theorem dumpQuery_keeps {z : Base} : KeepsS z (dumpQuery) := by
  unfold dumpQuery
  exact KeepsS.mk (fun _ _ _ h0 => KeepsC.ite (KeepsC.refuse h0) (KeepsC.ok h0))

theorem dumpRead_keeps {z : Base} : KeepsS z (dumpRead) := by
  unfold dumpRead
  refine KeepsS.mk (fun _ _ _ h0 => KeepsC.ite (KeepsC.refuse h0) (KeepsC.ite (KeepsC.refuse h0) ?_))
  extract_lets -merge -underBinder x1 x2
  have h3 : Keeps z x2 := noteAccess_keeps _ _ _ _ _ h0
  exact KeepsC.ok (hostWriteBad_keeps _ _ _ _ h3)

theorem execBreakpointSet_keeps {z : Base} (a0 a1 : _) (k0 : Keeps z a1) : KeepsR z (execBreakpointSet a0 a1) := by
  unfold execBreakpointSet
  exact KeepsR.next (runCmd_keeps _ _ _ breakpointSet_keeps k0)

theorem execDebugAttach_keeps {z : Base} (a0 a1 : _) (k0 : Keeps z a1) : KeepsR z (execDebugAttach a0 a1) := by
  unfold execDebugAttach
  exact KeepsR.next (runCmd_keeps _ _ _ debugAttach_keeps k0)

theorem execDebugChallenge_keeps {z : Base} (a0 a1 : _) (k0 : Keeps z a1) : KeepsR z (execDebugChallenge a0 a1) := by
  unfold execDebugChallenge
  exact KeepsR.next (runCmd_keeps _ _ _ debugChallenge_keeps k0)

theorem execDebugCounters_keeps {z : Base} (a0 a1 : _) (k0 : Keeps z a1) : KeepsR z (execDebugCounters a0 a1) := by
  unfold execDebugCounters
  exact KeepsR.next (runCmd_keeps _ _ _ debugCounters_keeps k0)

theorem execDebugHalt_keeps {z : Base} (a0 a1 : _) (k0 : Keeps z a1) : KeepsR z (execDebugHalt a0 a1) := by
  unfold execDebugHalt
  exact KeepsR.next (runCmd_keeps _ _ _ debugHalt_keeps k0)

theorem execDebugRelease_keeps {z : Base} (a0 a1 : _) (k0 : Keeps z a1) : KeepsR z (execDebugRelease a0 a1) := by
  unfold execDebugRelease
  exact KeepsR.next (runCmd_keeps _ _ _ debugRelease_keeps k0)

theorem execDebugStep_keeps {z : Base} (a0 a1 : _) (k0 : Keeps z a1) : KeepsR z (execDebugStep a0 a1) := by
  unfold execDebugStep
  exact KeepsR.next (runLong_keeps _ _ _ debugStep_keeps k0)

theorem execDebugUnlock_keeps {z : Base} (a0 a1 : _) (k0 : Keeps z a1) : KeepsR z (execDebugUnlock a0 a1) := by
  unfold execDebugUnlock
  extract_lets -merge -underBinder x0 x1
  have h2 : Keeps z x1 := runCmd_keeps _ _ _ debugUnlock_keeps k0
  exact KeepsR.next (Keeps.ite (updSec_keeps _ (fun _ => by exact ⟨rfl, rfl⟩) _ h2) h2)

theorem execDumpClear_keeps {z : Base} (a0 a1 : _) (k0 : Keeps z a1) : KeepsR z (execDumpClear a0 a1) := by
  unfold execDumpClear
  exact KeepsR.next (runCmd_keeps _ _ _ dumpClear_keeps k0)

theorem execDumpQuery_keeps {z : Base} (a0 a1 : _) (k0 : Keeps z a1) : KeepsR z (execDumpQuery a0 a1) := by
  unfold execDumpQuery
  exact KeepsR.next (runCmd_keeps _ _ _ dumpQuery_keeps k0)

theorem execDumpRead_keeps {z : Base} (a0 a1 : _) (k0 : Keeps z a1) : KeepsR z (execDumpRead a0 a1) := by
  unfold execDumpRead
  exact KeepsR.next (runCmd_keeps _ _ _ dumpRead_keeps k0)

theorem fuseProgram_keeps {z : Base} : KeepsS z fuseProgram := by
  refine KeepsS.mk (fun s _ p h => ?_)
  dsimp only
  refine KeepsC.ite ?_ ?_
  · split
    · exact h
    · next e =>
      refine KeepsC.ok (drawBytes_keeps _ _ (updSec_advances _ _ ⟨id, id, fun _ => id, Nat.le_refl _, fun k q => ?_, fun _ => id⟩ (.inl rfl) h))
      rw [q] at e; exact absurd rfl e
  · split
    · exact h
    · next e =>
      refine KeepsC.ok (updSec_advances _ _ ⟨id, id, fun _ => id, Nat.le_refl _, fun _ => id, fun k q => ?_⟩ (.inl rfl) h)
      rw [q] at e; exact absurd rfl e

theorem execFuseProgram_keeps {z : Base} (a0 a1 : _) (k0 : Keeps z a1) : KeepsR z (execFuseProgram a0 a1) := by
  unfold execFuseProgram
  exact KeepsR.next (runCmd_keeps _ _ _ fuseProgram_keeps k0)

theorem fwKeyRevoke_keeps {z : Base} : KeepsS z fwKeyRevoke := by
  refine KeepsS.mk (fun s _ p h => ?_)
  dsimp only
  split
  · exact h
  · refine KeepsC.ok (updSec_advances _ _ ⟨id, id, fun i q => ?_, Nat.le_refl _, fun _ => id, fun _ => id⟩ (.inl rfl) h)
    simp [q]

theorem execFwKeyRevoke_keeps {z : Base} (a0 a1 : _) (k0 : Keeps z a1) : KeepsR z (execFwKeyRevoke a0 a1) := by
  unfold execFwKeyRevoke
  exact KeepsR.next (runCmd_keeps _ _ _ fwKeyRevoke_keeps k0)

theorem keyDelete_keeps {z : Base} (ek : z.keys = false) : KeepsS z (keyDelete) := by
  unfold keyDelete
  exact KeepsS.mk (fun _ _ _ h0 => KeepsC.ite (KeepsC.refuse h0) (KeepsC.ok (Keeps.ite h0 (changeSlot_keeps _ _ _ ek h0))))

theorem execKeyDelete_keeps {z : Base} (a0 a1 : _) (ek : z.keys = false) (k0 : Keeps z a1) : KeepsR z (execKeyDelete a0 a1) := by
  unfold execKeyDelete
  exact KeepsR.next (runCmd_keeps _ _ _ (keyDelete_keeps ek) k0)

theorem loadSlot_keeps {z : Base} (a0 a1 a2 a3 : _) (ek : z.keys = false) (k0 : Keeps z a3) : KeepsC z (loadSlot a0 a1 a2 a3) := by
  unfold loadSlot
  extract_lets -merge -underBinder x0 x1
  exact KeepsC.ok (changeSlot_keeps _ _ _ ek (drawBytes_keeps _ _ k0))

theorem keyGenerate_keeps {z : Base} (ek : z.keys = false) : KeepsS z (keyGenerate) := by
  unfold keyGenerate
  exact KeepsS.mk (fun _ _ _ h0 => KeepsC.ite (KeepsC.refuse h0) (loadSlot_keeps _ _ _ _ ek (drawBytes_keeps _ _ h0)))

theorem execKeyGenerate_keeps {z : Base} (a0 a1 : _) (ek : z.keys = false) (k0 : Keeps z a1) : KeepsR z (execKeyGenerate a0 a1) := by
  unfold execKeyGenerate
  exact KeepsR.next (runCmd_keeps _ _ _ (keyGenerate_keeps ek) k0)

theorem keyImport_keeps {z : Base} (ek : z.keys = false) : KeepsS z (keyImport) := by
  unfold keyImport
  exact KeepsS.mk (fun _ _ _ h0 => KeepsC.ite (KeepsC.refuse h0) (KeepsC.ok (changeSlot_keeps _ _ _ ek h0)))

theorem execKeyImport_keeps {z : Base} (a0 a1 : _) (ek : z.keys = false) (k0 : Keeps z a1) : KeepsR z (execKeyImport a0 a1) := by
  unfold execKeyImport
  exact KeepsR.next (runCmd_keeps _ _ _ (keyImport_keeps ek) k0)

theorem keyLoadPlain_keeps {z : Base} (ek : z.keys = false) : KeepsS z (keyLoadPlain) := by
  unfold keyLoadPlain
  exact KeepsS.mk (fun _ _ _ h0 => KeepsC.ite (KeepsC.refuse h0) (loadSlot_keeps _ _ _ _ ek h0))

theorem execKeyLoadPlain_keeps {z : Base} (a0 a1 : _) (ek : z.keys = false) (k0 : Keeps z a1) : KeepsR z (execKeyLoadPlain a0 a1) := by
  unfold execKeyLoadPlain
  exact KeepsR.next (runCmd_keeps _ _ _ (keyLoadPlain_keeps ek) k0)

theorem keyQuery_keeps {z : Base} : KeepsS z (keyQuery) := by
  unfold keyQuery
  exact KeepsS.mk (fun _ _ _ h0 => okReply_keeps _ _ _ _ h0)

theorem execKeyQuery_keeps {z : Base} (a0 a1 : _) (k0 : Keeps z a1) : KeepsR z (execKeyQuery a0 a1) := by
  unfold execKeyQuery
  exact KeepsR.next (runCmd_keeps _ _ _ keyQuery_keeps k0)

theorem lifecycleAdvance_keeps {z : Base} : KeepsS z lifecycleAdvance := by
  refine KeepsS.mk (fun s _ p h => ?_)
  dsimp only
  split
  · exact h
  · have k : Keeps z (updSec (fun c => { c with
        fuses := if leAt p 0 1 = 1 then { c.fuses with deployed := true } else { c.fuses with retired := true }
        keys := if leAt p 0 1 = 2 then [] else c.keys }) s) := by
      refine updSec_advances _ _ ?_ (by dsimp only; split <;> simp) h
      dsimp only
      split
      · exact ⟨fun _ => rfl, id, fun _ => id, Nat.le_refl _, fun _ => id, fun _ => id⟩
      · exact ⟨id, fun _ => rfl, fun _ => id, Nat.le_refl _, fun _ => id, fun _ => id⟩
    exact KeepsC.ok (raise_keeps _ _ _ (Keeps.ite (rewriteSupers_keeps _ (Keeps.ite (setLevel_keeps _ _ _ k) k))
      (Keeps.ite (setLevel_keeps _ _ _ k) k)))

theorem execLifecycleAdvance_keeps {z : Base} (a0 a1 : _) (k0 : Keeps z a1) : KeepsR z (execLifecycleAdvance a0 a1) := by
  unfold execLifecycleAdvance
  exact KeepsR.next (runCmd_keeps _ _ _ lifecycleAdvance_keeps k0)

theorem rollbackAdvance_keeps {z : Base} : KeepsS z rollbackAdvance :=
  KeepsS.mk (fun s _ p h => KeepsC.ok (updSec_advances _ _
    ⟨id, id, fun _ => id, Nat.le_max_left _ _, fun _ => id, fun _ => id⟩ (.inl rfl) h))

theorem execRollbackAdvance_keeps {z : Base} (a0 a1 : _) (k0 : Keeps z a1) : KeepsR z (execRollbackAdvance a0 a1) := by
  unfold execRollbackAdvance
  exact KeepsR.next (runCmd_keeps _ _ _ rollbackAdvance_keeps k0)

theorem securityQuery_keeps {z : Base} : KeepsS z (securityQuery) := by
  unfold securityQuery
  exact KeepsS.mk (fun _ _ _ h0 => okReply_keeps _ _ _ _ h0)

theorem execSecurityQuery_keeps {z : Base} (a0 a1 : _) (k0 : Keeps z a1) : KeepsR z (execSecurityQuery a0 a1) := by
  unfold execSecurityQuery
  exact KeepsR.next (runCmd_keeps _ _ _ securityQuery_keeps k0)

theorem threadRegRead_keeps {z : Base} : KeepsS z (threadRegRead) := by
  unfold threadRegRead
  exact KeepsS.mk (fun _ _ _ h0 => okReply_keeps _ _ _ _ h0)

theorem execThreadRegRead_keeps {z : Base} (a0 a1 : _) (k0 : Keeps z a1) : KeepsR z (execThreadRegRead a0 a1) := by
  unfold execThreadRegRead
  exact KeepsR.next (runCmd_keeps _ _ _ threadRegRead_keeps k0)

theorem threadRegWrite_keeps {z : Base} : KeepsS z (threadRegWrite) := by
  unfold threadRegWrite
  refine KeepsS.mk (fun _ _ _ h0 => KeepsC.ite (KeepsC.refuse h0) ?_)
  extract_lets -merge -underBinder x1 x2 x3
  exact KeepsC.ok (Keeps.ite (setG_keeps _ _ _ _ h0) (updThr_keeps _ _ _ h0))

theorem execThreadRegWrite_keeps {z : Base} (a0 a1 : _) (k0 : Keeps z a1) : KeepsR z (execThreadRegWrite a0 a1) := by
  unfold execThreadRegWrite
  exact KeepsR.next (runCmd_keeps _ _ _ threadRegWrite_keeps k0)

theorem traceConfig_keeps {z : Base} : KeepsS z (traceConfig) := by
  unfold traceConfig
  exact KeepsS.mk (fun _ _ _ h0 => KeepsC.ite (KeepsC.ok (updSec_keeps _ (fun _ => by exact ⟨rfl, rfl⟩) _ (drainTrace_keeps _ h0))) (KeepsC.ite
      (KeepsC.refuse h0) (KeepsC.ok (updSec_keeps _ (fun _ => by exact ⟨rfl, rfl⟩) _ h0))))

theorem execTraceConfig_keeps {z : Base} (a0 a1 : _) (k0 : Keeps z a1) : KeepsR z (execTraceConfig a0 a1) := by
  unfold execTraceConfig
  exact KeepsR.next (runCmd_keeps _ _ _ traceConfig_keeps k0)

theorem traceStatus_keeps {z : Base} : KeepsS z (traceStatus) := by
  unfold traceStatus
  refine KeepsS.mk (fun _ _ _ h0 => ?_)
  extract_lets -merge -underBinder x1 x2
  have h3 : Keeps z x1 := drainTrace_keeps _ h0
  exact KeepsC.ok h3

theorem execTraceStatus_keeps {z : Base} (a0 a1 : _) (k0 : Keeps z a1) : KeepsR z (execTraceStatus a0 a1) := by
  unfold execTraceStatus
  exact KeepsR.next (runCmd_keeps _ _ _ traceStatus_keeps k0)

theorem addCounters_keeps {z : Base} (a0 : _) (k0 : Keeps z a0) : Keeps z (addCounters a0) := by
  unfold addCounters
  extract_lets -merge -underBinder x0
  exact Keeps.mk' k0 rfl rfl rfl rfl rfl

theorem applyNext_keeps {z : Base} (a0 : _) (k0 : Keeps z a0) : Keeps z (applyNext a0) := by
  unfold applyNext
  extract_lets -merge -underBinder x0
  have h1 : Keeps z x0 := by
    show Keeps z (_)
    unfold x0
    split
    · exact updDram_keeps _ (fun _ => by first | rfl | (split <;> rfl)) _ k0
    · exact k0
  exact updPow_keeps _ _ h1

theorem noteFecSheet_keeps {z : Base} (a0 : _) (k0 : Keeps z a0) : Keeps z (noteFecSheet a0) := by
  unfold noteFecSheet
  refine Keeps.foldl k0 (fun _ _ h0 => ?_)
  extract_lets -merge -underBinder x1
  exact Keeps.ite (raise_keeps _ _ _ (setPort_keeps _ _ _ h0)) h0

theorem noteWrap_keeps {z : Base} (a0 : _) (k0 : Keeps z a0) : Keeps z (noteWrap a0) := by
  unfold noteWrap
  exact Keeps.ite (raise_keeps _ _ _ k0) k0

theorem noteAligned_keeps {z : Base} (a0 : _) (k0 : Keeps z a0) : Keeps z (noteAligned a0) := by
  unfold noteAligned
  exact Keeps.ite (raise_keeps _ _ _ (updSheets_keeps _ (fun _ => by first | rfl | (split <;> rfl)) _ k0)) k0

theorem openSheet_keeps {z : Base} (s : State) (es : z.sheet = false) (h : Keeps z s) : Keeps z (openSheet s) :=
  updSheets_sheet es _ _ h

theorem countSheets_keeps {z : Base} (a0 : _) (k0 : Keeps z a0) : Keeps z (countSheets a0) := by
  unfold countSheets
  extract_lets -merge -underBinder x0
  have h1 : Keeps z x0 := Keeps.foldl k0 (fun _ _ h2 => count_keeps _ _ _ _ _ h2)
  exact Keeps.ite (Keeps.foldl h1 (fun _ _ h3 => count_keeps _ _ _ _ _ h3)) h1

theorem beginTick_keeps {z : Base} (a0 : _) (es : z.sheet = false) (k0 : Keeps z a0) : Keeps z (beginTick a0) := by
  unfold beginTick
  extract_lets -merge -underBinder x0
  have h1 : Keeps z x0 := updSheets_keeps _ (fun _ => by first | rfl | (split <;> rfl)) _ k0
  exact noteFecSheet_keeps _ (noteWrap_keeps _ (noteAligned_keeps _ (applyNext_keeps _ (openSheet_keeps _ es (addCounters_keeps _ (countSheets_keeps _
      h1))))))

theorem dueActions_keeps {z : Base} (a0 : _) (k0 : Keeps z a0) : Keeps z (dueActions a0) := by
  unfold dueActions
  extract_lets -merge -underBinder x0 x1 x2
  have h3 : Keeps z x0 := Keeps.foldl k0 (fun _ _ h6 => lateLossless_keeps _ _ (lateOrdinary_keeps _ _ h6))
  have h4 : Keeps z x1 := Keeps.foldl h3 (fun _ _ h7 => atCeiling_keeps _ _ h7)
  have h5 : Keeps z x2 := Keeps.foldl h4 (fun _ _ h8 => ceilingXon_keeps _ _ _ h8)
  exact furnishRetire_keeps _ (furnishSwitch_keeps _ h5)

theorem refill_keeps {z : Base} (a0 : _) (k0 : Keeps z a0) : Keeps z (refill a0) := by
  unfold refill
  extract_lets -merge -underBinder x0 x1 x2
  exact Keeps.mk' k0 rfl rfl rfl rfl rfl

theorem tickRest_keeps {z : Base} (a0 : _) (k0 : Keeps z a0) : Keeps z (tickRest a0) := by
  unfold tickRest
  extract_lets -merge -underBinder x0 x1
  have h2 : Keeps z x0 := refill_keeps _ (updSheets_keeps _ (fun _ => by first | rfl | (split <;> rfl)) _ k0)
  have h3 : Keeps z x1 := afterSeal_keeps _ (pfRun_keeps _ (evidenceTick_keeps _ (detectorTick_keeps _ h2)))
  exact deliverTicks_keeps _ (powerTick_keeps _ (drainTrace_keeps _ h3))

theorem endTick_keeps {z : Base} (a0 : _) (k0 : Keeps z a0) : Keeps z (endTick a0) := by
  unfold endTick
  exact Keeps.ite (tickRest_keeps _ (dueActions_keeps _ k0)) k0

theorem finishTick_keeps {z : Base} (a0 : _) (k0 : Keeps z a0) : Keeps z (finishTick a0) := by
  unfold finishTick
  exact Keeps.ite (tickRest_keeps _ k0) k0

theorem settle_keeps {z : Base} (a0 : _) (k0 : Keeps z a0) : Keeps z (settle a0) := by
  unfold settle
  exact finishTick_keeps _ (afterSeal_keeps _ (pfRun_keeps _ k0))

theorem execCeiling_keeps {z : Base} (a0 a1 a2 : _) (k0 : Keeps z a2) : KeepsR z (execCeiling a0 a1 a2) := by
  unfold execCeiling
  exact KeepsR.next (settle_keeps _ (atCeiling_keeps _ _ k0))

theorem execCeilingXon_keeps {z : Base} (a0 a1 a2 : _) (k0 : Keeps z a2) : KeepsR z (execCeilingXon a0 a1 a2) := by
  unfold execCeilingXon
  exact KeepsR.next (settle_keeps _ (ceilingXon_keeps _ _ _ k0))

theorem settleVoided_keeps {z : Base} (a0 a1 a2 : _) (k0 : Keeps z a1) (k1 : Keeps z a2) : Keeps z (settleVoided a0 a1 a2) := by
  unfold settleVoided
  exact Keeps.ite (settle_keeps _ k1) k1

theorem execCoreReset_keeps {z : Base} (a0 a1 : _) (k0 : Keeps z a1) : KeepsR z (execCoreReset a0 a1) := by
  unfold execCoreReset
  exact KeepsR.next (settle_keeps _ (runCmd_keeps _ _ _ coreReset_keeps k0))

theorem execFurnishRetire_keeps {z : Base} (a0 : _) (k0 : Keeps z a0) : KeepsR z (execFurnishRetire a0) := by
  unfold execFurnishRetire
  exact KeepsR.next (settle_keeps _ (furnishRetire_keeps _ k0))

theorem execFurnishSwitch_keeps {z : Base} (a0 : _) (k0 : Keeps z a0) : KeepsR z (execFurnishSwitch a0) := by
  unfold execFurnishSwitch
  exact KeepsR.next (settle_keeps _ (furnishSwitch_keeps _ k0))

theorem execLateLossless_keeps {z : Base} (a0 a1 a2 : _) (k0 : Keeps z a2) : KeepsR z (execLateLossless a0 a1 a2) := by
  unfold execLateLossless
  exact KeepsR.next (settle_keeps _ (lateLossless_keeps _ _ k0))

theorem execLateOrdinary_keeps {z : Base} (a0 a1 a2 : _) (k0 : Keeps z a2) : KeepsR z (execLateOrdinary a0 a1 a2) := by
  unfold execLateOrdinary
  exact KeepsR.next (settle_keeps _ (lateOrdinary_keeps _ _ k0))

theorem execSheetTick_keeps {z : Base} (a0 : _) (es : z.sheet = false) (k0 : Keeps z a0) : KeepsR z (execSheetTick a0) := by
  unfold execSheetTick
  extract_lets -merge -underBinder x0
  have h1 : Keeps z x0 := Keeps.ite (endTick_keeps _ k0) k0
  exact KeepsR.next (Keeps.ite (finishTick_keeps _ (beginTick_keeps _ es h1)) h1)

theorem execStoppedSheetSpan_keeps {z : Base} (a0 : _) (k0 : Keeps z a0) : KeepsR z (execStoppedSheetSpan a0) := by
  unfold execStoppedSheetSpan
  exact KeepsR.next (Keeps.ite k0 (updSheets_keeps _ (fun _ => by first | rfl | (split <;> rfl)) _ k0))

theorem execThreadOffer_keeps {z : Base} (a0 a1 : _) (k0 : Keeps z a1) : KeepsR z (execThreadOffer a0 a1) := by
  unfold execThreadOffer
  exact KeepsR.next (settle_keeps _ (threadOffer_keeps _ _ k0))

theorem execThreadReset_keeps {z : Base} (a0 a1 : _) (k0 : Keeps z a1) : KeepsR z (execThreadReset a0 a1) := by
  unfold execThreadReset
  exact KeepsR.next (settle_keeps _ (runCmd_keeps _ _ _ threadReset_keeps k0))

theorem copInstr_keeps {z : Base} (a0 a1 a2 a3 a4 a5 a6 a7 a8 a9 : _) (k0 : Keeps z a9) : Keeps z (copInstr a0 a1 a2 a3 a4 a5 a6 a7 a8 a9) := by
  unfold copInstr
  extract_lets -merge -underBinder x0
  refine issue_keeps _ _ _ (KeepsI.mk (fun _ _ h1 => ?_)) k0
  split
  · exact haltThread_keeps _ _ _ _ _ h1
  · exact Keeps.ite (voidStamp_keeps _ _ h1) (Keeps.ite (stallThread_keeps _ _ _ _ h1) (advance_keeps _ _ (issueUnit_keeps _ _ _ _ _ _ _ _ _ h1)))

theorem execChainOp_keeps {z : Base} (a0 a1 a2 a3 a4 a5 a6 : _) (k0 : Keeps z a6) : KeepsR z (execChainOp a0 a1 a2 a3 a4 a5 a6) := by
  unfold execChainOp
  exact KeepsR.next (settleVoided_keeps _ _ _ k0 (copInstr_keeps _ _ _ _ _ _ _ _ _ _ k0))

theorem readStatus_keeps {z : Base} (a0 a1 a2 a3 a4 : _) (k0 : Keeps z a4) : Keeps z (readStatus a0 a1 a2 a3 a4) := by
  unfold readStatus
  exact Keeps.ite (advance_keeps _ _ (setG_keeps _ _ _ _ (drawFree_keeps _ k0))) (advance_keeps _ _ (setG_keeps _ _ _ _ k0))

theorem execCpst_keeps {z : Base} (a0 a1 a2 a3 a4 a5 : _) (k0 : Keeps z a5) : KeepsR z (execCpst a0 a1 a2 a3 a4 a5) := by
  unfold execCpst
  exact KeepsR.next (issue_keeps _ _ _ (KeepsI.mk (fun _ _ h0 => readStatus_keeps _ _ _ _ _ h0)) k0)

theorem execEncodeOp_keeps {z : Base} (a0 a1 a2 a3 a4 a5 a6 : _) (k0 : Keeps z a6) : KeepsR z (execEncodeOp a0 a1 a2 a3 a4 a5 a6) := by
  unfold execEncodeOp
  exact KeepsR.next (copInstr_keeps _ _ _ _ _ _ _ _ _ _ k0)

theorem execHashOp_keeps {z : Base} (a0 a1 a2 a3 a4 a5 a6 : _) (k0 : Keeps z a6) : KeepsR z (execHashOp a0 a1 a2 a3 a4 a5 a6) := by
  unfold execHashOp
  exact KeepsR.next (settleVoided_keeps _ _ _ k0 (copInstr_keeps _ _ _ _ _ _ _ _ _ _ k0))

theorem execPublicKey_keeps {z : Base} (a0 a1 a2 a3 a4 a5 a6 : _) (k0 : Keeps z a6) : KeepsR z (execPublicKey a0 a1 a2 a3 a4 a5 a6) := by
  unfold execPublicKey
  exact KeepsR.next (copInstr_keeps _ _ _ _ _ _ _ _ _ _ k0)

theorem execSignOp_keeps {z : Base} (a0 a1 a2 a3 a4 a5 a6 : _) (k0 : Keeps z a6) : KeepsR z (execSignOp a0 a1 a2 a3 a4 a5 a6) := by
  unfold execSignOp
  exact KeepsR.next (copInstr_keeps _ _ _ _ _ _ _ _ _ _ k0)

theorem execUnitDone_keeps {z : Base} (a0 a1 a2 : _) (k0 : Keeps z a2) : KeepsR z (execUnitDone a0 a1 a2) := by
  unfold execUnitDone
  exact KeepsR.next (Keeps.ite (completeUnit_keeps _ _ _ k0) k0)

theorem execWaitcp_keeps {z : Base} (a0 a1 a2 a3 a4 a5 : _) (k0 : Keeps z a5) : KeepsR z (execWaitcp a0 a1 a2 a3 a4 a5) := by
  unfold execWaitcp
  refine KeepsR.next (issue_keeps _ _ _ (KeepsI.mk (fun _ _ h0 => ?_)) k0)
  extract_lets -merge -underBinder x1
  exact Keeps.ite (stallThread_keeps _ _ _ _ h0) (readStatus_keeps _ _ _ _ _ h0)

theorem ringDoorbell_keeps {z : Base} (a0 a1 a2 : _) (k0 : Keeps z a2) : Keeps z (ringDoorbell a0 a1 a2) := by
  unfold ringDoorbell
  extract_lets -merge -underBinder x0
  exact Keeps.ite k0 (Keeps.ite (raise_keeps _ _ _ (count_keeps _ _ _ _ _ (setFlag_keeps _ _ _ k0))) (enterItem_keeps _ _ k0))

theorem clusterFence_keeps {z : Base} : KeepsS z (clusterFence) := by
  unfold clusterFence
  refine KeepsS.mk (fun _ _ _ h0 => ?_)
  extract_lets -merge -underBinder x1 x2
  exact KeepsC.ite (KeepsC.ok (Keeps.ite h0 (fenceCluster_keeps _ _ h0))) (KeepsC.ite (KeepsC.refuse h0) (KeepsC.ok (raise_keeps _ _ _ (updDisp_keeps
      _ _ h0))))

theorem contextRead_keeps {z : Base} : KeepsS z (contextRead) := by
  unfold contextRead
  refine KeepsS.mk (fun _ _ _ h0 => ?_)
  extract_lets -merge -underBinder x1
  have h2 : Keeps z x1 := checkCtx_keeps _ _ _ _ h0
  exact KeepsC.ok h2

theorem contextStatus_keeps {z : Base} : KeepsS z (contextStatus) := by
  unfold contextStatus
  exact KeepsS.mk (fun _ _ _ h0 => okReply_keeps _ _ _ _ h0)

theorem contextWrite_keeps {z : Base} : KeepsS z (contextWrite) := by
  unfold contextWrite
  refine KeepsS.mk (fun _ _ _ h0 => ?_)
  extract_lets -merge -underBinder x1
  exact KeepsC.ite (KeepsC.refuse h0) (KeepsC.ok (ctxWrite_keeps _ _ _ _ h0))

theorem dispatchCounters_keeps {z : Base} : KeepsS z (dispatchCounters) := by
  unfold dispatchCounters
  exact KeepsS.mk (fun _ _ _ h0 => counterBody_keeps _ _ _ _ _ _ _ h0)

theorem dispatchMapLoad_keeps {z : Base} : KeepsS z (dispatchMapLoad) := by
  unfold dispatchMapLoad
  exact KeepsS.mk (fun _ _ _ h0 => okState_keeps _ _ _ _ (fun _ _ h1 => loadBank_keeps _ _ _ _ h1) h0)

theorem dmemRead_keeps {z : Base} : KeepsS z (dmemRead) := by
  unfold dmemRead
  refine KeepsS.mk (fun _ _ _ h0 => ?_)
  extract_lets -merge -underBinder x1
  have h2 : Keeps z x1 := checkDmem_keeps _ _ h0
  exact KeepsC.ok h2

theorem dmemWrite_keeps {z : Base} : KeepsS z (dmemWrite) := by
  unfold dmemWrite
  exact KeepsS.mk (fun _ _ _ h0 => okState_keeps _ _ _ _ (fun _ _ h1 => dmemStore_keeps _ _ _ _ h1) h0)

theorem domainStatus_keeps {z : Base} : KeepsS z (domainStatus) := by
  unfold domainStatus
  refine KeepsS.mk (fun _ _ _ h0 => ?_)
  extract_lets -merge -underBinder x1 x2 x3 x4
  exact KeepsC.ok (Keeps.ite h0 (drawFree_keeps _ h0))

theorem doorbellRoute_keeps {z : Base} : KeepsS z (doorbellRoute) := by
  unfold doorbellRoute
  exact KeepsS.mk (fun _ _ _ h0 => okState_keeps _ _ _ _ (fun _ _ h1 => updDisp_keeps _ _ h1) h0)

theorem entryLoad_keeps {z : Base} : KeepsS z (entryLoad) := by
  unfold entryLoad
  refine KeepsS.mk (fun _ _ _ h0 => okState_keeps _ _ _ _ (fun _ _ h1 => ?_) h0)
  extract_lets -merge -underBinder x2
  exact Keeps.foldl h1 (fun _ _ h3 => loadBank_keeps _ _ _ _ h3)

theorem execClusterFence_keeps {z : Base} (a0 a1 : _) (k0 : Keeps z a1) : KeepsR z (execClusterFence a0 a1) := by
  unfold execClusterFence
  exact KeepsR.next (settle_keeps _ (runCmd_keeps _ _ _ clusterFence_keeps k0))

theorem execContextRead_keeps {z : Base} (a0 a1 : _) (k0 : Keeps z a1) : KeepsR z (execContextRead a0 a1) := by
  unfold execContextRead
  exact KeepsR.next (runCmd_keeps _ _ _ contextRead_keeps k0)

theorem execContextStatus_keeps {z : Base} (a0 a1 : _) (k0 : Keeps z a1) : KeepsR z (execContextStatus a0 a1) := by
  unfold execContextStatus
  exact KeepsR.next (runCmd_keeps _ _ _ contextStatus_keeps k0)

theorem execContextWrite_keeps {z : Base} (a0 a1 : _) (k0 : Keeps z a1) : KeepsR z (execContextWrite a0 a1) := by
  unfold execContextWrite
  exact KeepsR.next (runCmd_keeps _ _ _ contextWrite_keeps k0)

theorem execDispatchCounters_keeps {z : Base} (a0 a1 : _) (k0 : Keeps z a1) : KeepsR z (execDispatchCounters a0 a1) := by
  unfold execDispatchCounters
  exact KeepsR.next (runCmd_keeps _ _ _ dispatchCounters_keeps k0)

theorem execDispatchMapLoad_keeps {z : Base} (a0 a1 : _) (k0 : Keeps z a1) : KeepsR z (execDispatchMapLoad a0 a1) := by
  unfold execDispatchMapLoad
  exact KeepsR.next (runCmd_keeps _ _ _ dispatchMapLoad_keeps k0)

theorem execDmemRead_keeps {z : Base} (a0 a1 : _) (k0 : Keeps z a1) : KeepsR z (execDmemRead a0 a1) := by
  unfold execDmemRead
  exact KeepsR.next (runCmd_keeps _ _ _ dmemRead_keeps k0)

theorem execDmemWrite_keeps {z : Base} (a0 a1 : _) (k0 : Keeps z a1) : KeepsR z (execDmemWrite a0 a1) := by
  unfold execDmemWrite
  exact KeepsR.next (runCmd_keeps _ _ _ dmemWrite_keeps k0)

theorem execDomainStatus_keeps {z : Base} (a0 a1 : _) (k0 : Keeps z a1) : KeepsR z (execDomainStatus a0 a1) := by
  unfold execDomainStatus
  exact KeepsR.next (runCmd_keeps _ _ _ domainStatus_keeps k0)

theorem execDoorbell_keeps {z : Base} (a0 a1 a2 : _) (k0 : Keeps z a2) : KeepsR z (execDoorbell a0 a1 a2) := by
  unfold execDoorbell
  exact KeepsR.next (Keeps.ite (ringDoorbell_keeps _ _ _ k0) k0)

theorem execDoorbellRoute_keeps {z : Base} (a0 a1 : _) (k0 : Keeps z a1) : KeepsR z (execDoorbellRoute a0 a1) := by
  unfold execDoorbellRoute
  exact KeepsR.next (runCmd_keeps _ _ _ doorbellRoute_keeps k0)

theorem execEntryLoad_keeps {z : Base} (a0 a1 : _) (k0 : Keeps z a1) : KeepsR z (execEntryLoad a0 a1) := by
  unfold execEntryLoad
  exact KeepsR.next (runCmd_keeps _ _ _ entryLoad_keeps k0)

theorem writeProgram_keeps {z : Base} (a0 a1 a2 a3 : _) (k0 : Keeps z a3) : Keeps z (writeProgram a0 a1 a2 a3) := by
  unfold writeProgram
  refine Keeps.foldl k0 (fun _ _ h0 => ?_)
  extract_lets -merge -underBinder x1 x2
  exact Keeps.mk' h0 rfl rfl rfl rfl rfl

theorem programLoadDma_keeps {z : Base} (a0 : _) : KeepsS z (programLoadDma a0) := by
  unfold programLoadDma
  refine KeepsS.mk (fun _ _ _ h0 => ?_)
  extract_lets -merge -underBinder x1 x2 x3
  exact KeepsC.ite (KeepsC.refuse h0) (KeepsC.ite (KeepsC.refuse (noteTlp_keeps _ _ _ h0)) (KeepsC.ite (KeepsC.refuse h0) (KeepsC.ok
      (writeProgram_keeps _ _ _ _ h0))))

theorem execProgramLoadDma_keeps {z : Base} (a0 a1 a2 : _) (k0 : Keeps z a2) : KeepsR z (execProgramLoadDma a0 a1 a2) := by
  unfold execProgramLoadDma
  exact KeepsR.next (runCmd_keeps _ _ _ (programLoadDma_keeps _) k0)

theorem programRead_keeps {z : Base} : KeepsS z (programRead) := by
  unfold programRead
  refine KeepsS.mk (fun _ _ _ h0 => ?_)
  extract_lets -merge -underBinder x1 x2
  have h3 : Keeps z x2 := checkImem_keeps _ _ h0
  exact KeepsC.ok h3

theorem execProgramRead_keeps {z : Base} (a0 a1 : _) (k0 : Keeps z a1) : KeepsR z (execProgramRead a0 a1) := by
  unfold execProgramRead
  exact KeepsR.next (runCmd_keeps _ _ _ programRead_keeps k0)

theorem programWrite_keeps {z : Base} : KeepsS z (programWrite) := by
  unfold programWrite
  exact KeepsS.mk (fun _ _ _ h0 => okState_keeps _ _ _ _ (fun _ _ h1 => writeProgram_keeps _ _ _ _ h1) h0)

theorem execProgramWrite_keeps {z : Base} (a0 a1 : _) (k0 : Keeps z a1) : KeepsR z (execProgramWrite a0 a1) := by
  unfold execProgramWrite
  exact KeepsR.next (runCmd_keeps _ _ _ programWrite_keeps k0)

theorem windowConfig_keeps {z : Base} : KeepsS z (windowConfig) := by
  unfold windowConfig
  exact KeepsS.mk (fun _ _ _ h0 => okState_keeps _ _ _ _ (fun _ _ h1 => Keeps.foldl h1 (fun _ _ h2 => Keeps.mk' h2 rfl rfl rfl rfl rfl)) h0)

theorem execWindowConfig_keeps {z : Base} (a0 a1 : _) (k0 : Keeps z a1) : KeepsR z (execWindowConfig a0 a1) := by
  unfold execWindowConfig
  exact KeepsR.next (runCmd_keeps _ _ _ windowConfig_keeps k0)

theorem windowQuery_keeps {z : Base} : KeepsS z (windowQuery) := by
  unfold windowQuery
  exact KeepsS.mk (fun _ _ _ h0 => okReply_keeps _ _ _ _ h0)

theorem execWindowQuery_keeps {z : Base} (a0 a1 : _) (k0 : Keeps z a1) : KeepsR z (execWindowQuery a0 a1) := by
  unfold execWindowQuery
  exact KeepsR.next (runCmd_keeps _ _ _ windowQuery_keeps k0)

theorem adoptPfc_keeps {z : Base} (a0 a1 : _) (k0 : Keeps z a1) : Keeps z (adoptPfc a0 a1) := by
  unfold adoptPfc
  exact updSub_keeps _ _ _ k0

theorem execBudgetModeEnd_keeps {z : Base} (a0 a1 : _) (k0 : Keeps z a1) : KeepsR z (execBudgetModeEnd a0 a1) := by
  unfold execBudgetModeEnd
  extract_lets -merge -underBinder x0 x1 x2 x3
  have h4 : Keeps z x2 := setOwnerUse_keeps _ _ _ k0
  exact KeepsR.next (Keeps.ite k0 (Keeps.mk' h4 rfl rfl rfl rfl rfl))

theorem setSending_keeps {z : Base} (a0 a1 a2 : _) (k0 : Keeps z a2) : Keeps z (setSending a0 a1 a2) := by
  unfold setSending
  extract_lets -merge -underBinder x0
  exact Keeps.mk' k0 rfl rfl rfl rfl rfl

theorem sendPfc_keeps {z : Base} (a0 a1 : _) (k0 : Keeps z a1) : Keeps z (sendPfc a0 a1) := by
  unfold sendPfc
  extract_lets -merge -underBinder x0 x1 x2 x3
  have h4 : Keeps z x3 := updSub_keeps _ _ _ k0
  exact countMac_keeps _ _ _ _ (setSending_keeps _ _ _ (noteTraffic_keeps _ h4))

theorem startFrame_keeps {z : Base} (a0 a1 a2 a3 a4 : _) (k0 : Keeps z a4) : Keeps z (startFrame a0 a1 a2 a3 a4) := by
  unfold startFrame
  extract_lets -merge -underBinder x0 x1 x2 x3 x4 x5 x6 x7
  have h8 : Keeps z x0 := checkVat_keeps _ _ _ _ (Keeps.ite (noteCellParity_keeps _ _ _ _ k0) k0)
  have h9 : Keeps z x1 := Keeps.ite (checkVat_keeps _ _ _ _ h8) h8
  have h10 : KeepsQ z x6 := by
    refine KeepsQ.ite ?_ (KeepsQ.mk h9)
    split
    · exact KeepsQ.mk (drawFree_keeps _ h9)
    · exact KeepsQ.mk (countMac_keeps _ _ _ _ (drawFree_keeps _ h9))
  have h11 : Keeps z x7 := Keeps.ite (raiseFirst_keeps _ _ _ _ (bumpTotal_keeps _ _ _ (setFlag_keeps _ _ _ (KeepsQ.out h10)))) (KeepsQ.out h10)
  exact Keeps.ite (dropCopy_keeps _ _ k0) (Keeps.ite (dropCopy_keeps _ _ (countMac_keeps _ _ _ _ k0)) (setSending_keeps _ _ _ (noteTraffic_keeps _
      h11)))

theorem execFrameBoundary_keeps {z : Base} (a0 a1 : _) (k0 : Keeps z a1) : KeepsR z (execFrameBoundary a0 a1) := by
  unfold execFrameBoundary
  extract_lets -merge -underBinder x0 x1 x2 x3 x4 x5
  have h6 : Keeps z x1 := adoptPfc_keeps _ _ k0
  have h7 : Keeps z x5 := Keeps.mk' h6 rfl rfl rfl rfl rfl
  refine KeepsR.next (Keeps.ite k0 (Keeps.ite h6 (Keeps.ite (sendPfc_keeps _ _ h6) ?_)))
  split
  · exact h7
  · split
    · exact h7
    · exact startFrame_keeps _ _ _ _ _ (setQueue_keeps _ _ _ _ h7)

theorem execFreeRingRefill_keeps {z : Base} (a0 a1 a2 : _) (k0 : Keeps z a2) : KeepsR z (execFreeRingRefill a0 a1 a2) := by
  unfold execFreeRingRefill
  extract_lets -merge -underBinder x0 x1 x2
  exact KeepsR.next (whenAwake_keeps _ _ _ (fun _ h3 => Keeps.ite (ringRefill_keeps _ _ _ h3) (Keeps.ite (ringWriteBack_keeps _ _ _ h3) h3)) k0)

theorem execRefillComplete_keeps {z : Base} (a0 a1 a2 a3 : _) (k0 : Keeps z a3) : KeepsR z (execRefillComplete a0 a1 a2 a3) := by
  unfold execRefillComplete
  extract_lets -merge -underBinder x0 x1
  refine KeepsR.next ?_
  split
  · exact k0
  · extract_lets -merge -underBinder x2
    refine Keeps.ite k0 (whenAwake_keeps _ _ _ (fun _ h3 => ?_) k0)
    extract_lets -merge -underBinder x4 x5 x6
    have h7 : Keeps z x5 := noteSpillRead_keeps _ _ _ _ h3
    exact Keeps.ite (dropCopy_keeps _ _ (count_keeps _ _ _ _ _ (setQueue_keeps _ _ _ _ h7))) (setQueue_keeps _ _ _ _ (Keeps.mk' h7 rfl rfl rfl rfl
        rfl))

theorem execResidueDrop_keeps {z : Base} (a0 a1 a2 : _) (k0 : Keeps z a2) : KeepsR z (execResidueDrop a0 a1 a2) := by
  unfold execResidueDrop
  extract_lets -merge -underBinder x0 x1
  refine KeepsR.next ?_
  split
  · exact k0
  · exact dropCopy_keeps _ _ (count_keeps _ _ _ _ _ (setFlag_keeps _ _ _ (setQueue_keeps _ _ _ _ k0)))

theorem pushStamp_keeps {z : Base} (a0 a1 a2 a3 a4 : _) (k0 : Keeps z a4) : Keeps z (pushStamp a0 a1 a2 a3 a4) := by
  unfold pushStamp
  extract_lets -merge -underBinder x0 x1 x2 x3
  have h4 : Keeps z x3 := setPort_keeps _ _ _ k0
  exact Keeps.ite (raise_keeps _ _ _ (Keeps.ite (countMac_keeps _ _ _ _ k0) k0)) (Keeps.ite (raise_keeps _ _ _ h4) h4)

theorem execTransmitEnd_keeps {z : Base} (a0 a1 a2 : _) (k0 : Keeps z a2) : KeepsR z (execTransmitEnd a0 a1 a2) := by
  unfold execTransmitEnd
  extract_lets -merge -underBinder x0
  refine KeepsR.next ?_
  split
  · exact k0
  · extract_lets -merge -underBinder x1 x2
    have h3 : Keeps z x1 := setSending_keeps _ _ _ k0
    have h4 : Keeps z x2 := Keeps.ite (countMac_keeps _ _ _ _ (countMac_keeps _ _ _ _ h3)) h3
    split
    · exact h4
    · extract_lets -merge -underBinder x5 x6
      have h7 : Keeps z x5 := count_keeps _ _ _ _ _ (count_keeps _ _ _ _ _ h4)
      have h8 : Keeps z x6 := Keeps.ite (pushStamp_keeps _ _ _ _ _ h7) h7
      exact dropCopy_keeps _ _ h8

theorem execXoffRelease_keeps {z : Base} (a0 a1 : _) (k0 : Keeps z a1) : KeepsR z (execXoffRelease a0 a1) := by
  unfold execXoffRelease
  extract_lets -merge -underBinder x0 x1 x2 x3 x4 x5
  have h6 : Keeps z x2 := setOwnerUse_keeps _ _ _ k0
  have h7 : Keeps z x4 := Keeps.ite h6 (Keeps.mk' h6 rfl rfl rfl rfl rfl)
  have h8 : Keeps z x5 := Keeps.ite (raise_keeps _ _ _ h7) h7
  exact KeepsR.next (Keeps.ite k0 (Keeps.ite (returnCredits_keeps _ _ h8) h8))

theorem bootCtrl_keeps {z : Base} (a0 a1 : _) (k0 : Keeps z a1) : Keeps z (bootCtrl a0 a1) := by
  unfold bootCtrl
  extract_lets -merge -underBinder x0
  exact Keeps.ite k0 (bootAttempt_keeps _ _ k0)

theorem execBootCtrlGo_keeps {z : Base} (a0 a1 : _) (k0 : Keeps z a1) : KeepsR z (execBootCtrlGo a0 a1) := by
  unfold execBootCtrlGo
  exact KeepsR.next (Keeps.ite (bootCtrl_keeps _ _ k0) k0)

theorem execBootImageLoaded_keeps {z : Base} (a0 a1 : _) (k0 : Keeps z a1) : KeepsR z (execBootImageLoaded a0 a1) := by
  unfold execBootImageLoaded
  refine KeepsR.next (Keeps.ite k0 ?_)
  split
  · exact k0
  · exact afterSeal_keeps _ (bootImage_keeps _ _ k0)

theorem execBootTimeout_keeps {z : Base} (a0 : _) (k0 : Keeps z a0) : KeepsR z (execBootTimeout a0) := by
  unfold execBootTimeout
  refine KeepsR.next (Keeps.ite k0 ?_)
  split
  · exact bootFail_keeps _ _ k0
  · exact bootFail_keeps _ _ k0
  · exact bootFail_keeps _ _ k0

theorem execL2Exit_keeps {z : Base} (a0 : _) (k0 : Keeps z a0) : KeepsR z (execL2Exit a0) := by
  unfold execL2Exit
  extract_lets -merge -underBinder x0 x1 x2 x3
  clear_value x0
  have h4 : Keeps z x1 := l2VoidItems_keeps _ (loadCause_keeps _ _ k0)
  have h5 : Keeps z x2 := updPow_keeps _ _ h4
  have h6 : Keeps z x3 := by
    refine raise_keeps _ _ _ ?_
    split
    · exact finishCmd_keeps _ _ _ _ _ h5
    · exact h5
  exact KeepsR.next (Keeps.ite k0 (sweepBad_keeps _ (Keeps.ite (beginS2_keeps _ _ (updPow_keeps _ _ h6)) h6)))

theorem execMpWatchdogExpiry_keeps {z : Base} (a0 : _) (k0 : Keeps z a0) : KeepsR z (execMpWatchdogExpiry a0) := by
  unfold execMpWatchdogExpiry
  exact KeepsR.next (Keeps.ite (pulseL3_keeps _ _ k0) k0)

theorem execPfailNFall_keeps {z : Base} (a0 : _) (k0 : Keeps z a0) : KeepsR z (execPfailNFall a0) := by
  unfold execPfailNFall
  exact KeepsR.next (Keeps.ite k0 (afterSeal_keeps _ (beginS2_keeps _ _ (updPow_keeps _ _ k0))))

theorem execPfailNRise_keeps {z : Base} (a0 : _) (k0 : Keeps z a0) : KeepsR z (execPfailNRise a0) := by
  unfold execPfailNRise
  extract_lets -merge -underBinder x0
  have h1 : Keeps z x0 := updPow_keeps _ _ k0
  exact KeepsR.next (Keeps.ite k0 (Keeps.ite (raise_keeps _ _ _ (setFlag_keeps _ _ _ h1)) h1))

theorem execPorstNAssert_keeps {z : Base} (a0 : _) (k0 : Keeps z a0) : KeepsR z (execPorstNAssert a0) := by
  unfold execPorstNAssert
  exact KeepsR.next (Keeps.ite k0 (holdSource_keeps _ _ (assertReset_keeps _ _ _ k0)))

theorem execPorstNRelease_keeps {z : Base} (a0 a1 a2 : _) (k0 : Keeps z a2) : KeepsR z (execPorstNRelease a0 a1 a2) := by
  unfold execPorstNRelease
  exact KeepsR.next (Keeps.ite k0 (beginExit_keeps _ (dropSource_keeps _ _ (updPow_keeps _ _ k0))))

theorem execRstNAssert_keeps {z : Base} (a0 : _) (k0 : Keeps z a0) : KeepsR z (execRstNAssert a0) := by
  unfold execRstNAssert
  exact KeepsR.next (Keeps.ite k0 (holdSource_keeps _ _ (assertReset_keeps _ _ _ k0)))

theorem execRstNRelease_keeps {z : Base} (a0 : _) (k0 : Keeps z a0) : KeepsR z (execRstNRelease a0) := by
  unfold execRstNRelease
  exact KeepsR.next (Keeps.ite k0 (beginExit_keeps _ (dropSource_keeps _ _ k0)))

theorem execSupplyFault_keeps {z : Base} (a0 a1 a2 : _) (k0 : Keeps z a2) : KeepsR z (execSupplyFault a0 a1 a2) := by
  unfold execSupplyFault
  extract_lets -merge -underBinder x0 x1
  have h2 : Keeps z x1 := updPow_keeps _ _ k0
  exact KeepsR.next (Keeps.ite k0 (afterSeal_keeps _ (beginS2_keeps _ _ (raise_keeps _ _ _ (setFlag_keeps _ _ _ h2)))))

theorem thermalCool_keeps {z : Base} (a0 a1 : _) (k0 : Keeps z a1) : Keeps z (thermalCool a0 a1) := by
  unfold thermalCool
  extract_lets -merge -underBinder x0
  have h1 : Keeps z x0 := updPow_keeps _ _ k0
  exact Keeps.ite k0 (Keeps.ite (bootStart_keeps _ h1) h1)

theorem thermalTrip_keeps {z : Base} (a0 a1 : _) (k0 : Keeps z a1) : Keeps z (thermalTrip a0 a1) := by
  unfold thermalTrip
  extract_lets -merge -underBinder x0
  have h1 : Keeps z x0 := Keeps.foldl (setFlag_keeps _ _ _ k0) (fun _ _ h2 => enterSelfRefresh_keeps _ _ h2)
  exact Keeps.ite k0 (updPow_keeps _ _ h1)

theorem thermalCritical_keeps {z : Base} (a0 a1 a2 : _) (k0 : Keeps z a2) : Keeps z (thermalCritical a0 a1 a2) := by
  unfold thermalCritical
  exact Keeps.ite (beginS2_keeps _ _ (raise_keeps _ _ _ (setFlag_keeps _ _ _ (updPow_keeps _ _ k0)))) k0

theorem thermalWarn_keeps {z : Base} (a0 a1 a2 : _) (k0 : Keeps z a2) : Keeps z (thermalWarn a0 a1 a2) := by
  unfold thermalWarn
  extract_lets -merge -underBinder x0 x1 x2 x3 x4
  have h5 : Keeps z x4 := updPow_keeps _ _ k0
  exact Keeps.ite (raise_keeps _ _ _ (setFlag_keeps _ _ _ h5)) h5

theorem execThermalSample_keeps {z : Base} (a0 a1 : _) (k0 : Keeps z a1) : KeepsR z (execThermalSample a0 a1) := by
  unfold execThermalSample
  extract_lets -merge -underBinder x0 x1 x2 x3
  have h4 : Keeps z x3 := drawFree_keeps _ (updPow_keeps _ _ k0)
  exact KeepsR.next (afterSeal_keeps _ (thermalCool_keeps _ _ (Keeps.ite h4 (thermalTrip_keeps _ _ (thermalCritical_keeps _ _ _ (thermalWarn_keeps _ _
      _ h4))))))

theorem diagPutThread_keeps {z : Base} (a0 a1 a2 a3 : _) (k0 : Keeps z a3) : Keeps z (diagPutThread a0 a1 a2 a3) := by
  unfold diagPutThread
  extract_lets -merge -underBinder x0 x1
  exact Keeps.ite (setG_keeps _ _ _ _ k0) (updThr_keeps _ _ _ k0)

theorem diagPutLock_keeps {z : Base} (a0 a1 a2 : _) (k0 : Keeps z a2) : Keeps z (diagPutLock a0 a1 a2) := by
  unfold diagPutLock
  extract_lets -merge -underBinder x0
  exact setLock_keeps _ _ _ k0

theorem putSlotWord_keeps {z : Base} (a0 a1 a2 : _) (k0 : Keeps z a2) : Keeps z (putSlotWord a0 a1 a2) := by
  unfold putSlotWord
  split
  · exact k0
  · extract_lets -merge -underBinder x0 x1
    exact setChan_keeps _ _ _ k0

theorem diagPut_keeps {z : Base} (o : Nat) (v : BitVec 32) (s : State) (ek : z.keys = false) (h : Keeps z s) : Keeps z (diagPut o v s) := by
  unfold diagPut
  extract_lets k
  split
  · exact Keeps.ite (Keeps.mk' h rfl rfl rfl rfl rfl) h
  · exact Keeps.ite (dmemPut_keeps _ _ _ _ h) h
  · exact Keeps.ite (diagPutThread_keeps _ _ _ _ h) h
  · exact Keeps.ite (updDisp_keeps _ _ h) h
  · exact Keeps.ite (diagPutLock_keeps _ _ _ h) (Keeps.ite (putSlotWord_keeps _ _ _ h) h)
  · split
    · exact pktWrite_keeps _ _ _ _ _ h
    · exact h
  · exact Keeps.ite (updSec_keeps _ (fun _ => by exact ⟨rfl, rfl⟩) _ h) h
  · exact Keeps.ite (updSec_keys ek _ (fun _ => by rfl) _ h) h
  · exact h

theorem diagWrite_keeps {z : Base} (a0 a1 a2 : _) (ek : z.keys = false) (k0 : Keeps z a2) : Keeps z (diagWrite a0 a1 a2) := by
  unfold diagWrite
  exact Keeps.ite (diagPut_keeps _ _ _ ek k0) (accessError_keeps _ _ _ k0)

theorem execDiagWindowRead_keeps {z : Base} (a0 a1 : _) (k0 : Keeps z a1) : KeepsR z (execDiagWindowRead a0 a1) := by
  unfold execDiagWindowRead
  refine KeepsR.next (Keeps.ite k0 (Keeps.ite (updHost_keeps _ (fun _ => by first | rfl | (split <;> rfl)) _ k0) ?_))
  split
  · exact updHost_keeps _ (fun _ => by first | rfl | (split <;> rfl)) _ k0
  · exact drawFree_keeps _ (updHost_keeps _ (fun _ => by first | rfl | (split <;> rfl)) _ k0)

theorem execDiagWindowWrite_keeps {z : Base} (a0 a1 a2 : _) (ek : z.keys = false) (k0 : Keeps z a2) : KeepsR z (execDiagWindowWrite a0 a1 a2) := by
  unfold execDiagWindowWrite
  exact KeepsR.next (Keeps.ite (diagWrite_keeps _ _ _ ek k0) k0)

theorem clearFlags_keeps {z : Base} (a0 a1 a2 : _) (k0 : Keeps z a2) : Keeps z (clearFlags a0 a1 a2) := by
  unfold clearFlags
  exact Keeps.mk' k0 rfl rfl rfl rfl rfl

theorem writeChapterReg_keeps {z : Base} (a0 a1 a2 : _) (k0 : Keeps z a2) : Keeps z (writeChapterReg a0 a1 a2) := by
  unfold writeChapterReg
  refine Keeps.ite (Keeps.mk' k0 rfl rfl rfl rfl rfl) ?_
  split
  · exact bootCtrl_keeps _ _ k0
  · exact updPow_keeps _ _ k0
  · exact updPow_keeps _ _ k0
  · exact updPow_keeps _ _ k0
  · exact updPow_keeps _ _ k0
  · extract_lets -merge -underBinder x0
    exact Keeps.ite k0 (Keeps.mk' k0 rfl rfl rfl rfl rfl)
  · exact updSec_keeps _ (fun _ => by exact ⟨rfl, rfl⟩) _ k0
  · exact k0

theorem writeMailboxReg_keeps {z : Base} (a0 a1 a2 : _) (k0 : Keeps z a2) : Keeps z (writeMailboxReg a0 a1 a2) := by
  unfold writeMailboxReg
  extract_lets -merge -underBinder x0 x1
  exact Keeps.ite (mbxGo_keeps _ _ k0) (Keeps.ite (cqHead_keeps _ _ k0) (Keeps.ite (eqHead_keeps _ _ k0) (Keeps.ite (ringDoorbell_keeps _ _ _ k0)
      (Keeps.ite (exrHead_keeps _ _ _ k0) (Keeps.ite (injTail_keeps _ _ _ k0) k0)))))

theorem writeMailbox_keeps {z : Base} (a0 a1 a2 : _) (k0 : Keeps z a2) : Keeps z (writeMailbox a0 a1 a2) := by
  unfold writeMailbox
  extract_lets -merge -underBinder x0
  exact Keeps.ite (accessError_keeps _ _ _ k0) (updHost_keeps _ (fun _ => by first | rfl | (split <;> rfl)) _ k0)

theorem writeMsix_keeps {z : Base} (a0 a1 a2 : _) (k0 : Keeps z a2) : Keeps z (writeMsix a0 a1 a2) := by
  unfold writeMsix
  extract_lets -merge -underBinder x0
  exact msixPending_keeps _ (updHost_keeps _ (fun _ => by first | rfl | (split <;> rfl)) _ k0)

theorem writeRule_keeps {z : Base} (a0 a1 a2 : _) (k0 : Keeps z a2) : Keeps z (writeRule a0 a1 a2) := by
  unfold writeRule
  extract_lets -merge -underBinder x0 x1 x2 x3
  exact Keeps.ite (ruleControl_keeps _ _ _ _ k0) (Keeps.ite k0 (setRule_keeps _ _ _ _ k0))

theorem writeComparator_keeps {z : Base} (a0 a1 a2 : _) (k0 : Keeps z a2) : Keeps z (writeComparator a0 a1 a2) := by
  unfold writeComparator
  extract_lets -merge -underBinder x0 x1 x2
  exact Keeps.ite (comparatorControl_keeps _ _ _ _ k0) (setComparator_keeps _ _ _ _ k0)

theorem barWrite_keeps {z : Base} (a0 a1 a2 : _) (ek : z.keys = false) (k0 : Keeps z a2) : Keeps z (barWrite a0 a1 a2) := by
  unfold barWrite
  exact Keeps.ite (clearFlags_keeps _ _ _ k0) (Keeps.ite (writeChapterReg_keeps _ _ _ k0) (Keeps.ite (writeMailboxReg_keeps _ _ _ k0) (Keeps.ite
      (writeMailbox_keeps _ _ _ k0) (Keeps.ite (writeMsix_keeps _ _ _ k0) (Keeps.ite k0 (Keeps.ite (writeRule_keeps _ _ _ k0) (Keeps.ite
      (writeComparator_keeps _ _ _ k0) (Keeps.ite (diagWrite_keeps _ _ _ ek k0) (accessError_keeps _ _ _ k0)))))))))

theorem configRead_keeps {z : Base} (a0 a1 : _) (k0 : Keeps z a1) : Keeps z (configRead a0 a1) := by
  unfold configRead
  extract_lets -merge -underBinder x0
  exact updHost_keeps _ (fun _ => by first | rfl | (split <;> rfl)) _ (drawFree_keeps _ k0)

theorem configWrite_keeps {z : Base} (r : BitVec 10) (en : BitVec 4) (v : BitVec 32) (s : State) (h : Keeps z s) :
    Keeps z (configWrite r en v s) := by
  unfold configWrite
  refine updHost_keeps _ (fun x => ?_) _ h
  repeat' split
  all_goals rfl

theorem execConfigurationRequest_keeps {z : Base} (a0 a1 a2 a3 a4 : _) (k0 : Keeps z a4) : KeepsR z (execConfigurationRequest a0 a1 a2 a3 a4) := by
  unfold execConfigurationRequest
  exact KeepsR.next (Keeps.ite k0 (Keeps.ite (msixPending_keeps _ (configWrite_keeps _ _ _ _ k0)) (configRead_keeps _ _ k0)))

theorem execManagementProcessorHalt_keeps {z : Base} (a0 a1 : _) (k0 : Keeps z a1) : KeepsR z (execManagementProcessorHalt a0 a1) := by
  unfold execManagementProcessorHalt
  exact KeepsR.next (Keeps.ite (sweepBad_keeps _ (updSec_keeps _ (fun _ => by exact ⟨rfl, rfl⟩) _ k0)) k0)

theorem setMpReg_keeps {z : Base} (a0 a1 a2 : _) (k0 : Keeps z a2) : Keeps z (setMpReg a0 a1 a2) := by
  unfold setMpReg
  exact Keeps.ite k0 (updHost_keeps _ (fun _ => by first | rfl | (split <;> rfl)) _ k0)

theorem execMrd_keeps {z : Base} (a0 a1 a2 a3 : _) (k0 : Keeps z a3) : KeepsR z (execMrd a0 a1 a2 a3) := by
  unfold execMrd
  extract_lets -merge -underBinder x0
  refine KeepsR.next (Keeps.ite k0 ?_)
  split
  · exact setMpReg_keeps _ _ _ k0
  · extract_lets -merge -underBinder x1
    exact setMpReg_keeps _ _ _ (updHost_keeps _ (fun _ => by first | rfl | (split <;> rfl)) _ (drawFree_keeps _ k0))

theorem execMrst_keeps {z : Base} (a0 a1 a2 a3 : _) (k0 : Keeps z a3) : KeepsR z (execMrst a0 a1 a2 a3) := by
  unfold execMrst
  exact KeepsR.next (Keeps.ite (pulseL3_keeps _ _ k0) k0)

theorem execMwait_keeps {z : Base} (a0 a1 a2 a3 : _) (k0 : Keeps z a3) : KeepsR z (execMwait a0 a1 a2 a3) := by
  unfold execMwait
  extract_lets -merge -underBinder x0 x1
  have h2 : Keeps z x1 := drawFree_keeps _ k0
  exact KeepsR.next (Keeps.ite k0 (Keeps.ite (setMpReg_keeps _ _ _ h2) h2))

theorem execMwr_keeps {z : Base} (a0 a1 a2 a3 : _) (k0 : Keeps z a3) : KeepsR z (execMwr a0 a1 a2 a3) := by
  unfold execMwr
  extract_lets -merge -underBinder x0 x1
  exact KeepsR.next (Keeps.ite (updHost_keeps _ (fun _ => by first | rfl | (split <;> rfl)) _ k0) k0)

theorem execRegisterWrite_keeps {z : Base} (a0 a1 a2 a3 : _) (ek : z.keys = false) (k0 : Keeps z a3) : KeepsR z (execRegisterWrite a0 a1 a2 a3) := by
  unfold execRegisterWrite
  extract_lets -merge -underBinder x0
  exact KeepsR.next (Keeps.ite k0 (Keeps.ite (accessError_keeps _ _ _ k0) (barWrite_keeps _ _ _ ek k0)))

theorem breakFreeze_keeps {z : Base} (a0 a1 a2 : _) (k0 : Keeps z a2) : Keeps z (breakFreeze a0 a1 a2) := by
  unfold breakFreeze
  extract_lets -merge -underBinder x0 x1 x2
  clear_value x0
  have h3 : Keeps z x2 := setFlag_keeps _ _ _ (count_keeps _ _ _ _ _ k0)
  exact Keeps.ite h3 (freezeScope_keeps _ _ _ _ h3)

theorem laterFatal_keeps {z : Base} (a0 a1 a2 : _) (k0 : Keeps z a2) : Keeps z (laterFatal a0 a1 a2) := by
  unfold laterFatal
  extract_lets -merge -underBinder x0
  exact dramWrite_keeps _ _ _ _ _ k0

theorem writeDump_keeps {z : Base} (a0 a1 a2 : _) (k0 : Keeps z a2) : Keeps z (writeDump a0 a1 a2) := by
  unfold writeDump
  extract_lets -merge -underBinder x0 x1 x2 x3
  have h4 : Keeps z x0 := drainTrace_keeps _ k0
  have h5 : Keeps z x3 := dramWrite_keeps _ _ _ _ _ h4
  exact Keeps.mk' h5 rfl rfl rfl rfl rfl

theorem dumpFatal_keeps {z : Base} (a0 a1 : _) (k0 : Keeps z a1) : Keeps z (dumpFatal a0 a1) := by
  unfold dumpFatal
  split
  · exact k0
  · exact Keeps.ite k0 (Keeps.ite (laterFatal_keeps _ _ _ k0) (writeDump_keeps _ _ _ k0))

theorem execBreakpointMatch_keeps {z : Base} (a0 a1 : _) (k0 : Keeps z a1) : KeepsR z (execBreakpointMatch a0 a1) := by
  unfold execBreakpointMatch
  extract_lets -merge -underBinder x0 x1 x2 x3
  have h4 : Keeps z x3 := Keeps.ite k0 (updThr_keeps _ _ _ k0)
  exact KeepsR.next (Keeps.ite k0 (Keeps.foldl (Keeps.foldl h4 (fun _ _ h6 => breakFreeze_keeps _ _ _ h6)) (fun _ _ h5 => raise_keeps _ _ _ h5)))

theorem execChallengeExpiry_keeps {z : Base} (a0 : _) (k0 : Keeps z a0) : KeepsR z (execChallengeExpiry a0) := by
  unfold execChallengeExpiry
  exact KeepsR.next (updSec_keeps _ (fun _ => by exact ⟨rfl, rfl⟩) _ k0)

theorem fenceFault_keeps {z : Base} (a0 a1 a2 : _) (k0 : Keeps z a2) : Keeps z (fenceFault a0 a1 a2) := by
  unfold fenceFault
  exact raise_keeps _ _ _ (setFlag_keeps _ _ _ (fenceCluster_keeps _ _ k0))

theorem execClusterFaultTimeout_keeps {z : Base} (a0 a1 : _) (k0 : Keeps z a1) : KeepsR z (execClusterFaultTimeout a0 a1) := by
  unfold execClusterFaultTimeout
  extract_lets -merge -underBinder x0
  exact KeepsR.next (Keeps.ite k0 (settle_keeps _ (fenceFault_keeps _ _ _ k0)))

theorem execFatalError_keeps {z : Base} (a0 a1 : _) (k0 : Keeps z a1) : KeepsR z (execFatalError a0 a1) := by
  unfold execFatalError
  exact KeepsR.next (Keeps.ite k0 (pulseL3_keeps _ _ (updPow_keeps _ _ (dumpFatal_keeps _ _ k0))))

theorem execInstructionRewrite_keeps {z : Base} (a0 a1 a2 : _) (k0 : Keeps z a2) : KeepsR z (execInstructionRewrite a0 a1 a2) := by
  unfold execInstructionRewrite
  extract_lets -merge -underBinder x0 x1 x2
  exact KeepsR.next (Keeps.ite k0 (Keeps.ite (settle_keeps _ (fenceFault_keeps _ _ _ (raise_keeps _ _ _ k0))) (Keeps.mk' k0 rfl rfl rfl rfl rfl)))

theorem execStepLimit_keeps {z : Base} (a0 a1 : _) (k0 : Keeps z a1) : KeepsR z (execStepLimit a0 a1) := by
  unfold execStepLimit
  refine KeepsR.next ?_
  split
  · exact k0
  · exact Keeps.ite k0 (sweepBad_keeps _ (stepEnds_keeps _ (Keeps.ite k0 (freezeScope_keeps _ _ _ _ k0))))

theorem execWatchdogExpiry_keeps {z : Base} (a0 a1 : _) (k0 : Keeps z a1) : KeepsR z (execWatchdogExpiry a0 a1) := by
  unfold execWatchdogExpiry
  extract_lets -merge -underBinder x0 x1
  exact KeepsR.next (Keeps.ite k0 (settle_keeps _ (raise_keeps _ _ _ (setFlag_keeps _ _ _ (bumpTotal_keeps _ _ _ (resetCores_keeps _ _ k0))))))

theorem endPacket_keeps {z : Base} (a0 : _) (k0 : Keeps z a0) : Keeps z (endPacket a0) := by
  unfold endPacket
  extract_lets -merge -underBinder x0 x1
  have h2 : Keeps z x1 := updLink_keeps _ _ k0
  exact returnCredits_keeps _ _ h2

theorem badPacket_keeps {z : Base} (a0 a1 : _) (k0 : Keeps z a1) : Keeps z (badPacket a0 a1) := by
  unfold badPacket
  extract_lets -merge -underBinder x0
  have h1 : Keeps z x0 := raiseFirst_keeps _ _ _ _ (count_keeps _ _ _ _ _ (setFlag_keeps _ _ _ k0))
  exact endPacket_keeps _ (updLink_keeps _ _ h1)

theorem bootPacket_keeps {z : Base} (a0 a1 : _) (k0 : Keeps z a1) : Keeps z (bootPacket a0 a1) := by
  unfold bootPacket
  extract_lets -merge -underBinder x0
  exact Keeps.ite (Keeps.mk' k0 rfl rfl rfl rfl rfl) k0

theorem noteFec_keeps {z : Base} (a0 a1 a2 : _) (k0 : Keeps z a2) : Keeps z (noteFec a0 a1 a2) := by
  unfold noteFec
  extract_lets -merge -underBinder x0 x1 x2
  have h3 : Keeps z x0 := countMac_keeps _ _ _ _ k0
  have h4 : Keeps z x1 := countMac_keeps _ _ _ _ h3
  exact Keeps.ite h3 (Keeps.ite h4 (setPort_keeps _ _ _ (countMac_keeps _ _ _ _ h4)))

theorem macControl_keeps {z : Base} (a0 a1 a2 : _) (k0 : Keeps z a2) : Keeps z (macControl a0 a1 a2) := by
  unfold macControl
  exact Keeps.ite (pauseFrom_keeps _ _ _ _ (countMac_keeps _ _ _ _ k0)) (countMac_keeps _ _ _ _ k0)

theorem frameComes_keeps {z : Base} (a0 a1 : _) (k0 : Keeps z a1) : Keeps z (frameComes a0 a1) := by
  unfold frameComes
  exact frameArrives_keeps _ _ (endTick_keeps _ k0)

theorem execFrameReceive_keeps {z : Base} (a0 a1 a2 a3 a4 : _) (k0 : Keeps z a4) : KeepsR z (execFrameReceive a0 a1 a2 a3 a4) := by
  unfold execFrameReceive
  extract_lets -merge -underBinder x0 x1 x2 x3 x4
  have h5 : Keeps z x2 := noteFec_keeps _ _ _ (noteTraffic_keeps _ k0)
  have h6 : Keeps z x3 := countMac_keeps _ _ _ _ (countMac_keeps _ _ _ _ h5)
  exact KeepsR.next (Keeps.ite k0 (Keeps.ite (countMac_keeps _ _ _ _ h5) (Keeps.ite (countMac_keeps _ _ _ _ h5) (Keeps.ite (countMac_keeps _ _ _ _ h5)
      (Keeps.ite (macControl_keeps _ _ _ h6) (frameComes_keeps _ _ (noteCellParity_keeps _ _ _ _ h6)))))))

theorem injAdvance_keeps {z : Base} (a0 a1 : _) (k0 : Keeps z a1) : Keeps z (injAdvance a0 a1) := by
  unfold injAdvance
  extract_lets -merge -underBinder x0 x1 x2 x3
  have h4 : Keeps z x3 := setInj_keeps _ _ _ k0
  exact markCause_keeps _ _ (Keeps.ite (hostWrite_keeps _ _ _ h4) h4)

theorem ringFault_keeps {z : Base} (a0 a1 : _) (k0 : Keeps z a1) : Keeps z (ringFault a0 a1) := by
  unfold ringFault
  exact raise_keeps _ _ _ (setFlag_keeps _ _ _ k0)

theorem injBad_keeps {z : Base} (a0 a1 : _) (k0 : Keeps z a1) : Keeps z (injBad a0 a1) := by
  unfold injBad
  extract_lets -merge -underBinder x0
  exact raise_keeps _ _ _ (setFlag_keeps _ _ _ (count_keeps _ _ _ _ _ (setInj_keeps _ _ _ k0)))

theorem execInjectionFetch_keeps {z : Base} (a0 a1 a2 a3 : _) (k0 : Keeps z a3) : KeepsR z (execInjectionFetch a0 a1 a2 a3) := by
  unfold execInjectionFetch
  refine KeepsR.next ?_
  split
  · exact k0
  · extract_lets -merge -underBinder x0 x1 x2 x3 x4 x5 x6 x7 x8
    have h9 : Keeps z x3 := updHost_keeps _ (fun _ => by first | rfl | (split <;> rfl)) _ k0
    have h10 : Keeps z x7 := setInj_keeps _ _ _ h9
    have h11 : Keeps z x8 := injAdvance_keeps _ _ (count_keeps _ _ _ _ _ (noteTlp_keeps _ _ _ h10))
    exact Keeps.ite (injAdvance_keeps _ _ (ringFault_keeps _ _ (noteTlp_keeps _ _ _ h9))) (Keeps.ite (injAdvance_keeps _ _ (injBad_keeps _ _ h9))
        (Keeps.ite (injAdvance_keeps _ _ (ringFault_keeps _ _ h9)) (frameComes_keeps _ _ (noteCellParity_keeps _ _ _ _ h11))))

theorem execPfcFrameReceive_keeps {z : Base} (a0 a1 a2 a3 : _) (k0 : Keeps z a3) : KeepsR z (execPfcFrameReceive a0 a1 a2 a3) := by
  unfold execPfcFrameReceive
  extract_lets -merge -underBinder x0
  exact KeepsR.ite KeepsR.stop (KeepsR.next (Keeps.ite (pauseFrom_keeps _ _ _ _ (countMac_keeps _ _ _ _ (countMac_keeps _ _ _ _ (countMac_keeps _ _ _
      _ (noteTraffic_keeps _ k0))))) k0))

theorem execPfcPauseExpiry_keeps {z : Base} (a0 a1 a2 : _) (k0 : Keeps z a2) : KeepsR z (execPfcPauseExpiry a0 a1 a2) := by
  unfold execPfcPauseExpiry
  exact KeepsR.next (updSub_keeps _ _ _ k0)

theorem execPfcRefreshExpiry_keeps {z : Base} (a0 a1 : _) (k0 : Keeps z a1) : KeepsR z (execPfcRefreshExpiry a0 a1) := by
  unfold execPfcRefreshExpiry
  exact KeepsR.next (Keeps.ite k0 (updSub_keeps _ _ _ k0))

theorem packetEnds_keeps {z : Base} (a0 a1 : _) (k0 : Keeps z a1) : Keeps z (packetEnds a0 a1) := by
  unfold packetEnds
  extract_lets -merge -underBinder x0
  have h1 : Keeps z x0 := updLink_keeps _ _ (count_keeps _ _ _ _ _ k0)
  exact Keeps.ite (badPacket_keeps _ _ h1) (Keeps.ite (endPacket_keeps _ (bootPacket_keeps _ _ h1)) (endPacket_keeps _ (frameComes_keeps _ _ h1)))

theorem packetFlit_keeps {z : Base} (a0 a1 : _) (k0 : Keeps z a1) : Keeps z (packetFlit a0 a1) := by
  unfold packetFlit
  extract_lets -merge -underBinder x0 x1 x2 x3 x4 x5 x6
  clear_value x0 x6
  have h7 : Keeps z x5 := updLink_keeps _ _ k0
  refine Keeps.ite (Keeps.ite (endPacket_keeps _ (updLink_keeps _ _ h7)) (endPacket_keeps _ h7)) ?_
  split
  · exact badPacket_keeps _ _ h7
  · extract_lets -merge -underBinder x8
    have h9 : Keeps z x8 := updLink_keeps _ _ (badPacket_keeps _ _ (updLink_keeps _ _ h7))
    exact Keeps.ite (badPacket_keeps _ _ h9) (Keeps.ite (packetEnds_keeps _ _ h9) (updLink_keeps _ _ h9))
  · exact Keeps.ite (badPacket_keeps _ _ h7) (Keeps.ite (packetEnds_keeps _ _ h7) (updLink_keeps _ _ h7))
  · exact Keeps.ite (badPacket_keeps _ _ h7) (Keeps.ite (packetEnds_keeps _ _ h7) (updLink_keeps _ _ h7))

theorem execPktFlit_keeps {z : Base} (a0 a1 : _) (k0 : Keeps z a1) : KeepsR z (execPktFlit a0 a1) := by
  unfold execPktFlit
  exact KeepsR.next (rxFlit_keeps _ _ _ _ _ (fun _ _ h0 => packetFlit_keeps _ _ h0) k0)

theorem aluI_keeps {z : Base} (a0 a1 a2 a3 a4 a5 a6 a7 : _) (k0 : Keeps z a7) : Keeps z (aluI a0 a1 a2 a3 a4 a5 a6 a7) := by
  unfold aluI
  exact issue_keeps _ _ _ (KeepsI.mk (fun _ _ h0 => advance_keeps _ _ (setG_keeps _ _ _ _ h0))) k0

theorem aluR_keeps {z : Base} (a0 a1 a2 a3 a4 a5 a6 a7 a8 : _) (k0 : Keeps z a8) : Keeps z (aluR a0 a1 a2 a3 a4 a5 a6 a7 a8) := by
  unfold aluR
  exact issue_keeps _ _ _ (KeepsI.mk (fun _ _ h0 => advance_keeps _ _ (setG_keeps _ _ _ _ h0))) k0

theorem execAdd_keeps {z : Base} (a0 a1 a2 a3 a4 a5 : _) (k0 : Keeps z a5) : KeepsR z (execAdd a0 a1 a2 a3 a4 a5) := by
  unfold execAdd
  exact KeepsR.next (aluR_keeps _ _ _ _ _ _ _ _ _ k0)

theorem execAddi_keeps {z : Base} (a0 a1 a2 a3 a4 a5 : _) (k0 : Keeps z a5) : KeepsR z (execAddi a0 a1 a2 a3 a4 a5) := by
  unfold execAddi
  exact KeepsR.next (aluI_keeps _ _ _ _ _ _ _ _ k0)

theorem execAnd_keeps {z : Base} (a0 a1 a2 a3 a4 a5 : _) (k0 : Keeps z a5) : KeepsR z (execAnd a0 a1 a2 a3 a4 a5) := by
  unfold execAnd
  exact KeepsR.next (aluR_keeps _ _ _ _ _ _ _ _ _ k0)

theorem execAndi_keeps {z : Base} (a0 a1 a2 a3 a4 a5 : _) (k0 : Keeps z a5) : KeepsR z (execAndi a0 a1 a2 a3 a4 a5) := by
  unfold execAndi
  exact KeepsR.next (aluI_keeps _ _ _ _ _ _ _ _ k0)

theorem execAndn_keeps {z : Base} (a0 a1 a2 a3 a4 a5 : _) (k0 : Keeps z a5) : KeepsR z (execAndn a0 a1 a2 a3 a4 a5) := by
  unfold execAndn
  exact KeepsR.next (aluR_keeps _ _ _ _ _ _ _ _ _ k0)

theorem execBswap_keeps {z : Base} (a0 a1 a2 a3 a4 a5 : _) (k0 : Keeps z a5) : KeepsR z (execBswap a0 a1 a2 a3 a4 a5) := by
  unfold execBswap
  exact KeepsR.next (aluR_keeps _ _ _ _ _ _ _ _ _ k0)

theorem execClz_keeps {z : Base} (a0 a1 a2 a3 a4 a5 : _) (k0 : Keeps z a5) : KeepsR z (execClz a0 a1 a2 a3 a4 a5) := by
  unfold execClz
  exact KeepsR.next (aluR_keeps _ _ _ _ _ _ _ _ _ k0)

theorem execCtz_keeps {z : Base} (a0 a1 a2 a3 a4 a5 : _) (k0 : Keeps z a5) : KeepsR z (execCtz a0 a1 a2 a3 a4 a5) := by
  unfold execCtz
  exact KeepsR.next (aluR_keeps _ _ _ _ _ _ _ _ _ k0)

theorem fieldOp_keeps {z : Base} (a0 a1 a2 a3 a4 a5 a6 a7 a8 a9 a10 : _) (k0 : Keeps z a10) : Keeps z (fieldOp a0 a1 a2 a3 a4 a5 a6 a7 a8 a9 a10) :=
    by
  unfold fieldOp
  exact issue_keeps _ _ _ (KeepsI.mk (fun _ _ h0 => advance_keeps _ _ (setG_keeps _ _ _ _ h0))) k0

theorem execExts_keeps {z : Base} (a0 a1 a2 a3 a4 a5 a6 : _) (k0 : Keeps z a6) : KeepsR z (execExts a0 a1 a2 a3 a4 a5 a6) := by
  unfold execExts
  exact KeepsR.next (fieldOp_keeps _ _ _ _ _ _ _ _ _ _ _ k0)

theorem execExtu_keeps {z : Base} (a0 a1 a2 a3 a4 a5 a6 : _) (k0 : Keeps z a6) : KeepsR z (execExtu a0 a1 a2 a3 a4 a5 a6) := by
  unfold execExtu
  exact KeepsR.next (fieldOp_keeps _ _ _ _ _ _ _ _ _ _ _ k0)

theorem execIns_keeps {z : Base} (a0 a1 a2 a3 a4 a5 a6 : _) (k0 : Keeps z a6) : KeepsR z (execIns a0 a1 a2 a3 a4 a5 a6) := by
  unfold execIns
  exact KeepsR.next (fieldOp_keeps _ _ _ _ _ _ _ _ _ _ _ k0)

theorem execLui_keeps {z : Base} (a0 a1 a2 a3 a4 : _) (k0 : Keeps z a4) : KeepsR z (execLui a0 a1 a2 a3 a4) := by
  unfold execLui
  exact KeepsR.next (issue_keeps _ _ _ (KeepsI.mk (fun _ _ h0 => advance_keeps _ _ (setG_keeps _ _ _ _ h0))) k0)

theorem execMax_keeps {z : Base} (a0 a1 a2 a3 a4 a5 : _) (k0 : Keeps z a5) : KeepsR z (execMax a0 a1 a2 a3 a4 a5) := by
  unfold execMax
  exact KeepsR.next (aluR_keeps _ _ _ _ _ _ _ _ _ k0)

theorem execMaxu_keeps {z : Base} (a0 a1 a2 a3 a4 a5 : _) (k0 : Keeps z a5) : KeepsR z (execMaxu a0 a1 a2 a3 a4 a5) := by
  unfold execMaxu
  exact KeepsR.next (aluR_keeps _ _ _ _ _ _ _ _ _ k0)

theorem execMfs_keeps {z : Base} (a0 a1 a2 a3 a4 a5 : _) (k0 : Keeps z a5) : KeepsR z (execMfs a0 a1 a2 a3 a4 a5) := by
  unfold execMfs
  extract_lets -merge -underBinder x0
  exact KeepsR.next (issue_keeps _ _ _ (KeepsI.mk (fun _ _ h1 => Keeps.ite (haltThread_keeps _ _ _ _ _ h1) (advance_keeps _ _ (setG_keeps _ _ _ _
      h1)))) k0)

theorem execMin_keeps {z : Base} (a0 a1 a2 a3 a4 a5 : _) (k0 : Keeps z a5) : KeepsR z (execMin a0 a1 a2 a3 a4 a5) := by
  unfold execMin
  exact KeepsR.next (aluR_keeps _ _ _ _ _ _ _ _ _ k0)

theorem execMinu_keeps {z : Base} (a0 a1 a2 a3 a4 a5 : _) (k0 : Keeps z a5) : KeepsR z (execMinu a0 a1 a2 a3 a4 a5) := by
  unfold execMinu
  exact KeepsR.next (aluR_keeps _ _ _ _ _ _ _ _ _ k0)

theorem execMts_keeps {z : Base} (a0 a1 a2 a3 a4 a5 : _) (k0 : Keeps z a5) : KeepsR z (execMts a0 a1 a2 a3 a4 a5) := by
  unfold execMts
  extract_lets -merge -underBinder x0
  exact KeepsR.next (issue_keeps _ _ _ (KeepsI.mk (fun _ _ h1 => advance_keeps _ _ (updThr_keeps _ _ _ h1))) k0)

theorem execNor_keeps {z : Base} (a0 a1 a2 a3 a4 a5 : _) (k0 : Keeps z a5) : KeepsR z (execNor a0 a1 a2 a3 a4 a5) := by
  unfold execNor
  exact KeepsR.next (aluR_keeps _ _ _ _ _ _ _ _ _ k0)

theorem execOr_keeps {z : Base} (a0 a1 a2 a3 a4 a5 : _) (k0 : Keeps z a5) : KeepsR z (execOr a0 a1 a2 a3 a4 a5) := by
  unfold execOr
  exact KeepsR.next (aluR_keeps _ _ _ _ _ _ _ _ _ k0)

theorem execOri_keeps {z : Base} (a0 a1 a2 a3 a4 a5 : _) (k0 : Keeps z a5) : KeepsR z (execOri a0 a1 a2 a3 a4 a5) := by
  unfold execOri
  exact KeepsR.next (aluI_keeps _ _ _ _ _ _ _ _ k0)

theorem execPopc_keeps {z : Base} (a0 a1 a2 a3 a4 a5 : _) (k0 : Keeps z a5) : KeepsR z (execPopc a0 a1 a2 a3 a4 a5) := by
  unfold execPopc
  exact KeepsR.next (aluR_keeps _ _ _ _ _ _ _ _ _ k0)

theorem execRol_keeps {z : Base} (a0 a1 a2 a3 a4 a5 : _) (k0 : Keeps z a5) : KeepsR z (execRol a0 a1 a2 a3 a4 a5) := by
  unfold execRol
  exact KeepsR.next (aluR_keeps _ _ _ _ _ _ _ _ _ k0)

theorem execRoli_keeps {z : Base} (a0 a1 a2 a3 a4 a5 a6 : _) (k0 : Keeps z a6) : KeepsR z (execRoli a0 a1 a2 a3 a4 a5 a6) := by
  unfold execRoli
  exact KeepsR.next (fieldOp_keeps _ _ _ _ _ _ _ _ _ _ _ k0)

theorem execSll_keeps {z : Base} (a0 a1 a2 a3 a4 a5 : _) (k0 : Keeps z a5) : KeepsR z (execSll a0 a1 a2 a3 a4 a5) := by
  unfold execSll
  exact KeepsR.next (aluR_keeps _ _ _ _ _ _ _ _ _ k0)

theorem execSlli_keeps {z : Base} (a0 a1 a2 a3 a4 a5 a6 : _) (k0 : Keeps z a6) : KeepsR z (execSlli a0 a1 a2 a3 a4 a5 a6) := by
  unfold execSlli
  exact KeepsR.next (fieldOp_keeps _ _ _ _ _ _ _ _ _ _ _ k0)

theorem execSlt_keeps {z : Base} (a0 a1 a2 a3 a4 a5 : _) (k0 : Keeps z a5) : KeepsR z (execSlt a0 a1 a2 a3 a4 a5) := by
  unfold execSlt
  exact KeepsR.next (aluR_keeps _ _ _ _ _ _ _ _ _ k0)

theorem execSlti_keeps {z : Base} (a0 a1 a2 a3 a4 a5 : _) (k0 : Keeps z a5) : KeepsR z (execSlti a0 a1 a2 a3 a4 a5) := by
  unfold execSlti
  exact KeepsR.next (aluI_keeps _ _ _ _ _ _ _ _ k0)

theorem execSltiu_keeps {z : Base} (a0 a1 a2 a3 a4 a5 : _) (k0 : Keeps z a5) : KeepsR z (execSltiu a0 a1 a2 a3 a4 a5) := by
  unfold execSltiu
  exact KeepsR.next (aluI_keeps _ _ _ _ _ _ _ _ k0)

theorem execSltu_keeps {z : Base} (a0 a1 a2 a3 a4 a5 : _) (k0 : Keeps z a5) : KeepsR z (execSltu a0 a1 a2 a3 a4 a5) := by
  unfold execSltu
  exact KeepsR.next (aluR_keeps _ _ _ _ _ _ _ _ _ k0)

theorem execSra_keeps {z : Base} (a0 a1 a2 a3 a4 a5 : _) (k0 : Keeps z a5) : KeepsR z (execSra a0 a1 a2 a3 a4 a5) := by
  unfold execSra
  exact KeepsR.next (aluR_keeps _ _ _ _ _ _ _ _ _ k0)

theorem execSrai_keeps {z : Base} (a0 a1 a2 a3 a4 a5 a6 : _) (k0 : Keeps z a6) : KeepsR z (execSrai a0 a1 a2 a3 a4 a5 a6) := by
  unfold execSrai
  exact KeepsR.next (fieldOp_keeps _ _ _ _ _ _ _ _ _ _ _ k0)

theorem execSrl_keeps {z : Base} (a0 a1 a2 a3 a4 a5 : _) (k0 : Keeps z a5) : KeepsR z (execSrl a0 a1 a2 a3 a4 a5) := by
  unfold execSrl
  exact KeepsR.next (aluR_keeps _ _ _ _ _ _ _ _ _ k0)

theorem execSrli_keeps {z : Base} (a0 a1 a2 a3 a4 a5 a6 : _) (k0 : Keeps z a6) : KeepsR z (execSrli a0 a1 a2 a3 a4 a5 a6) := by
  unfold execSrli
  exact KeepsR.next (fieldOp_keeps _ _ _ _ _ _ _ _ _ _ _ k0)

theorem execSub_keeps {z : Base} (a0 a1 a2 a3 a4 a5 : _) (k0 : Keeps z a5) : KeepsR z (execSub a0 a1 a2 a3 a4 a5) := by
  unfold execSub
  exact KeepsR.next (aluR_keeps _ _ _ _ _ _ _ _ _ k0)

theorem execXor_keeps {z : Base} (a0 a1 a2 a3 a4 a5 : _) (k0 : Keeps z a5) : KeepsR z (execXor a0 a1 a2 a3 a4 a5) := by
  unfold execXor
  exact KeepsR.next (aluR_keeps _ _ _ _ _ _ _ _ _ k0)

theorem execXori_keeps {z : Base} (a0 a1 a2 a3 a4 a5 : _) (k0 : Keeps z a5) : KeepsR z (execXori a0 a1 a2 a3 a4 a5) := by
  unfold execXori
  exact KeepsR.next (aluI_keeps _ _ _ _ _ _ _ _ k0)

end Sys2Proof.Machine
end

