-- ==== Sys2Proof/Laws/KeepsCores.lean ====
section
/-!
SUPPORT. One lemma for each operation, command body and command of LookupInstr, LookupCmd, MemoryInstr, MultiplyInstr, PacketInstr, SystemInstr: it
keeps what every command keeps.
-/
set_option linter.constructorNameAsVariable false
set_option linter.unusedVariables false
namespace Sys2Proof.Machine

theorem noteOp_keeps {z : Base} (a0 a1 : _) (k0 : Keeps z a1) : Keeps z (noteOp a0 a1) := by
  unfold noteOp
  extract_lets -merge -underBinder x0
  have h1 : Keeps z x0 := setFlag_keeps _ _ _ k0
  exact Keeps.ite (Keeps.mk' h1 rfl rfl rfl rfl rfl) k0

theorem endAwait_keeps {z : Base} (a0 a1 : _) (k0 : Keeps z a1) : Keeps z (endAwait a0 a1) := by
  unfold endAwait
  exact Keeps.ite (walk_keeps _ _ (updThr_keeps _ _ _ k0)) k0

theorem sendLookup_keeps {z : Base} (a0 a1 a2 a3 a4 a5 a6 a7 : _) (k0 : Keeps z a7) : Keeps z (sendLookup a0 a1 a2 a3 a4 a5 a6 a7) := by
  unfold sendLookup
  extract_lets -merge -underBinder x0 x1 x2
  have h3 : Keeps z x0 := checkDmem_keeps _ _ (drainStores_keeps _ _ k0)
  have h4 : Keeps z x2 := updLk_keeps _ _ h3
  exact updThr_keeps _ _ _ h4

theorem wakeLookups_keeps {z : Base} (a0 a1 : _) (k0 : Keeps z a1) : Keeps z (wakeLookups a0 a1) := by
  unfold wakeLookups
  split
  · exact Keeps.ite k0 (makeReady_keeps _ _ k0)
  · exact Keeps.ite (completeStalled_keeps _ _ _ k0) k0
  · refine Keeps.ite k0 ?_
    split
    · exact stopThread_keeps _ _ _ _ _ (noteDmemUe_keeps _ _ _ k0)
    · extract_lets -merge -underBinder x0
      have h1 : Keeps z x0 := sendLookup_keeps _ _ _ _ _ _ _ _ k0
      exact Keeps.ite (completeStalled_keeps _ _ _ h1) (updThr_keeps _ _ _ h1)
  · exact k0

theorem landStatus_keeps {z : Base} (a0 a1 a2 a3 : _) (k0 : Keeps z a3) : Keeps z (landStatus a0 a1 a2 a3) := by
  unfold landStatus
  exact Keeps.ite (endAwait_keeps _ _ k0) (Keeps.ite (endAwait_keeps _ _ (wakeLookups_keeps _ _ (updThr_keeps _ _ _ k0))) (completeStalled_keeps _ _ _
      k0))

theorem completeLookup_keeps {z : Base} (a0 a1 : _) (k0 : Keeps z a1) : Keeps z (completeLookup a0 a1) := by
  unfold completeLookup
  extract_lets -merge -underBinder x0
  have h1 : KeepsQ z x0 := runLookup_keeps _ _ (noteOp_keeps _ _ (updLk_keeps _ _ k0))
  exact landStatus_keeps _ _ _ _ (dmemPuts_keeps _ _ _ _ (KeepsQ.out h1))

theorem applyAhead_keeps {z : Base} (a0 a1 a2 : _) (k0 : Keeps z a2) : Keeps z (applyAhead a0 a1 a2) := by
  unfold applyAhead
  exact Keeps.foldl k0 (fun _ _ h0 => completeLookup_keeps _ _ h0)

theorem scanFlaps_keeps {z : Base} (a0 a1 : _) (k0 : Keeps z a1) : Keeps z (scanFlaps a0 a1) := by
  unfold scanFlaps
  extract_lets -merge -underBinder x0 x1
  exact noteFlap_keeps _ _ (updLk_keeps _ _ k0)

theorem execAgeOut_keeps {z : Base} (a0 a1 : _) (k0 : Keeps z a1) : KeepsR z (execAgeOut a0 a1) := by
  unfold execAgeOut
  extract_lets -merge -underBinder x0 x1 x2 x3 x4
  have h5 : Keeps z x2 := scanFlaps_keeps _ _ k0
  have h6 : Keeps z x4 := Keeps.foldl h5 (fun _ _ h7 => dropBad_keeps _ _ _ h7)
  refine KeepsR.next (Keeps.ite k0 (Keeps.ite h5 (Keeps.foldl h6 (fun _ _ h8 => ?_))))
  split
  · exact Keeps.ite (removeEntry_keeps _ _ _ _ (lkCount_keeps _ _ _ _ h8)) h8
  · exact h8

theorem unpin_keeps {z : Base} (a0 a1 : _) (k0 : Keeps z a1) : Keeps z (unpin a0 a1) := by
  unfold unpin
  extract_lets -merge -underBinder x0 x1 x2
  have h3 : Keeps z x0 := dropFlap_keeps _ _ _ k0
  have h4 : Keeps z x2 := KeepsQ.out (openBuckets_keeps _ _ _ _ h3)
  split
  · exact h4
  · split
    · exact h4
    · exact notice_keeps _ _ _ _ _ _ _ (raise_keeps _ _ _ (putEntry_keeps _ _ _ _ h4))

theorem lkupInstr_keeps {z : Base} (a0 a1 a2 a3 a4 a5 a6 a7 a8 : _) (k0 : Keeps z a8) : Keeps z (lkupInstr a0 a1 a2 a3 a4 a5 a6 a7 a8) := by
  unfold lkupInstr
  extract_lets -merge -underBinder x0
  refine issue_keeps _ _ _ (KeepsI.mk (fun _ _ h1 => Keeps.ite (stallThread_keeps _ _ _ _ h1) ?_)) k0
  split
  · exact haltThread_keeps _ _ _ _ _ (noteDmemUe_keeps _ _ _ h1)
  · extract_lets -merge -underBinder x2
    have h3 : Keeps z x2 := sendLookup_keeps _ _ _ _ _ _ _ _ h1
    exact Keeps.ite (advance_keeps _ _ h3) (stallThread_keeps _ _ _ _ h3)

theorem execLkup_keeps {z : Base} (a0 a1 a2 a3 a4 a5 a6 a7 : _) (k0 : Keeps z a7) : KeepsR z (execLkup a0 a1 a2 a3 a4 a5 a6 a7) := by
  unfold execLkup
  exact KeepsR.next (lkupInstr_keeps _ _ _ _ _ _ _ _ _ k0)

theorem execLkupDelete_keeps {z : Base} (a0 a1 a2 a3 a4 a5 a6 a7 : _) (k0 : Keeps z a7) : KeepsR z (execLkupDelete a0 a1 a2 a3 a4 a5 a6 a7) := by
  unfold execLkupDelete
  exact KeepsR.next (lkupInstr_keeps _ _ _ _ _ _ _ _ _ k0)

theorem execLkupInsert_keeps {z : Base} (a0 a1 a2 a3 a4 a5 a6 a7 : _) (k0 : Keeps z a7) : KeepsR z (execLkupInsert a0 a1 a2 a3 a4 a5 a6 a7) := by
  unfold execLkupInsert
  exact KeepsR.next (lkupInstr_keeps _ _ _ _ _ _ _ _ _ k0)

theorem execLkwait_keeps {z : Base} (a0 a1 a2 : _) (k0 : Keeps z a2) : KeepsR z (execLkwait a0 a1 a2) := by
  unfold execLkwait
  exact KeepsR.next (issue_keeps _ _ _ (KeepsI.mk (fun _ _ h0 => Keeps.ite (stallThread_keeps _ _ _ _ h0) (advance_keeps _ _ h0))) k0)

theorem execLookupComplete_keeps {z : Base} (a0 a1 : _) (k0 : Keeps z a1) : KeepsR z (execLookupComplete a0 a1) := by
  unfold execLookupComplete
  refine KeepsR.next ?_
  split
  · exact k0
  · exact Keeps.ite k0 (whenAwake_keeps _ _ _ (fun _ h0 => completeLookup_keeps _ _ h0) k0)

theorem execNodeReclaim_keeps {z : Base} (a0 : _) (k0 : Keeps z a0) : KeepsR z (execNodeReclaim a0) := by
  unfold execNodeReclaim
  exact KeepsR.next (Keeps.ite k0 (reclaimNodes_keeps _ k0))

theorem rewriteEntry_keeps {z : Base} (a0 a1 a2 a3 : _) (k0 : Keeps z a3) : Keeps z (rewriteEntry a0 a1 a2 a3) := by
  unfold rewriteEntry
  extract_lets -merge -underBinder x0 x1
  have h2 : Keeps z x1 := KeepsQ.out (openBuckets_keeps _ _ _ _ k0)
  exact Keeps.ite h2 (Keeps.ite (putEntry_keeps _ _ _ _ h2) (KeepsQ.out (insertNew_keeps _ _ _ h2)))

theorem rewritePlace_keeps {z : Base} (a0 a1 a2 : _) (k0 : Keeps z a2) : Keeps z (rewritePlace a0 a1 a2) := by
  unfold rewritePlace
  exact updLk_keeps _ _ k0

theorem execShadowRewrite_keeps {z : Base} (a0 a1 : _) (k0 : Keeps z a1) : KeepsR z (execShadowRewrite a0 a1) := by
  unfold execShadowRewrite
  refine KeepsR.next ?_
  split
  · exact k0
  · extract_lets -merge -underBinder x0
    have h1 : Keeps z x0 := updLk_keeps _ _ k0
    refine raise_keeps _ _ _ (lkDevice_keeps _ _ _ ?_)
    split
    · exact rewriteEntry_keeps _ _ _ _ h1
    · exact rewritePlace_keeps _ _ _ h1

theorem execUnpin_keeps {z : Base} (a0 a1 : _) (k0 : Keeps z a1) : KeepsR z (execUnpin a0 a1) := by
  unfold execUnpin
  refine KeepsR.next ?_
  split
  · exact k0
  · extract_lets -merge -underBinder x0
    have h1 : Keeps z x0 := noteFlap_keeps _ _ k0
    split
    · exact h1
    · exact Keeps.ite (unpin_keeps _ _ h1) h1

theorem awaitTries_keeps {z : Base} (a0 a1 a2 : _) (k0 : Keeps z a2) : Keeps z (awaitTries a0 a1 a2) := by
  unfold awaitTries
  exact Keeps.ite k0 (reclaimNodes_keeps _ (Keeps.foldl k0 (fun _ _ h0 => completeLookup_keeps _ _ h0)))

theorem dramZero_keeps {z : Base} (a n : Nat) (s : State) (h : Keeps z s) : Keeps z (dramZero a n s) := by
  unfold dramZero
  exact noteAccess_keeps _ _ _ _ _ (h.dramMem' rfl rfl
    (fun w => tabWf_filter (fun k => !(decide (a ≤ k) && decide (k < a + n) && !lineClosed s (k / 64))) w) rfl rfl)

theorem clearTable_keeps {z : Base} (a0 a1 : _) (k0 : Keeps z a1) : Keeps z (clearTable a0 a1) := by
  unfold clearTable
  extract_lets -merge -underBinder x0 x1
  have h2 : Keeps z x1 := dropRewrites_keeps _ _ _ (updLk_keeps _ _ k0)
  exact Keeps.ite (dramZero_keeps _ _ _ (dramZero_keeps _ _ _ h2)) (updLk_keeps _ _ h2)

theorem dropFrames_keeps {z : Base} (a0 : _) (k0 : Keeps z a0) : Keeps z (dropFrames a0) := by
  unfold dropFrames
  exact updLk_keeps _ _ k0

theorem emTableConfig_keeps {z : Base} : KeepsS z (emTableConfig) := by
  unfold emTableConfig
  refine KeepsS.mk (fun _ _ _ h0 => ?_)
  extract_lets -merge -underBinder x1
  exact KeepsC.ite (KeepsC.refuse h0) (KeepsC.ok (updTable_keeps _ _ _ (dropRewrites_keeps _ _ _ h0)))

theorem entryCmd_keeps {z : Base} (a0 a1 a2 a3 a4 : _) (k0 : ∀ y0 y1, Keeps z y0 → KeepsQ z (a3 y0 y1)) : KeepsS z (entryCmd a0 a1 a2 a3 a4) := by
  unfold entryCmd
  refine KeepsS.mk (fun _ _ _ h0 => KeepsC.ite (KeepsC.refuse h0) ?_)
  extract_lets -merge -underBinder x1
  have h2 : KeepsQ z x1 := k0 _ _ (applyAhead_keeps _ _ _ h0)
  exact KeepsC.ok (KeepsQ.out h2)

theorem entryDelete_keeps {z : Base} : KeepsS z (entryDelete) := by
  unfold entryDelete
  exact entryCmd_keeps _ _ _ _ _ (fun _ _ h0 => deleteEntry_keeps _ _ _ h0)

theorem entryLookup_keeps {z : Base} : KeepsS z (entryLookup) := by
  unfold entryLookup
  exact entryCmd_keeps _ _ _ _ _ (fun _ _ h0 => lookupEntry_keeps _ _ _ h0)

theorem entryRead_keeps {z : Base} : KeepsS z (entryRead) := by
  unfold entryRead
  refine KeepsS.mk (fun _ _ _ h0 => ?_)
  extract_lets -merge -underBinder x1 x2 x3 x4
  have h5 : Keeps z x3 := Keeps.ite (checkFrame_keeps _ _ h0) h0
  have h6 : Keeps z x4 := Keeps.ite (dropBad_keeps _ _ _ h5) h5
  exact KeepsC.ok h6

theorem entryWrite_keeps {z : Base} : KeepsS z (entryWrite) := by
  unfold entryWrite
  exact entryCmd_keeps _ _ _ _ _ (fun _ _ h0 => plainInsert_keeps _ _ _ _ _ _ h0)

theorem execEmTableConfig_keeps {z : Base} (a0 a1 : _) (k0 : Keeps z a1) : KeepsR z (execEmTableConfig a0 a1) := by
  unfold execEmTableConfig
  exact KeepsR.next (runCmd_keeps _ _ _ emTableConfig_keeps k0)

theorem execEntryDelete_keeps {z : Base} (a0 a1 : _) (k0 : Keeps z a1) : KeepsR z (execEntryDelete a0 a1) := by
  unfold execEntryDelete
  exact KeepsR.next (runCmd_keeps _ _ _ entryDelete_keeps k0)

theorem execEntryLookup_keeps {z : Base} (a0 a1 : _) (k0 : Keeps z a1) : KeepsR z (execEntryLookup a0 a1) := by
  unfold execEntryLookup
  exact KeepsR.next (runCmd_keeps _ _ _ entryLookup_keeps k0)

theorem execEntryRead_keeps {z : Base} (a0 a1 : _) (k0 : Keeps z a1) : KeepsR z (execEntryRead a0 a1) := by
  unfold execEntryRead
  exact KeepsR.next (runCmd_keeps _ _ _ entryRead_keeps k0)

theorem execEntryWrite_keeps {z : Base} (a0 a1 : _) (k0 : Keeps z a1) : KeepsR z (execEntryWrite a0 a1) := by
  unfold execEntryWrite
  exact KeepsR.next (runCmd_keeps _ _ _ entryWrite_keeps k0)

theorem flapRelease_keeps {z : Base} : KeepsS z (flapRelease) := by
  unfold flapRelease
  refine KeepsS.mk (fun _ _ _ h0 => ?_)
  split
  · extract_lets -merge -underBinder x1
    have h2 : Keeps z x1 := noteFlap_keeps _ _ h0
    exact KeepsC.ite (KeepsC.ok (unpin_keeps _ _ h2)) (KeepsC.refuse h2)
  · exact KeepsC.refuse h0

theorem execFlapRelease_keeps {z : Base} (a0 a1 : _) (k0 : Keeps z a1) : KeepsR z (execFlapRelease a0 a1) := by
  unfold execFlapRelease
  exact KeepsR.next (runCmd_keeps _ _ _ flapRelease_keeps k0)

theorem flowTableConfig_keeps {z : Base} : KeepsS z (flowTableConfig) := by
  unfold flowTableConfig
  exact KeepsS.mk (fun _ _ _ h0 => KeepsC.ite (KeepsC.refuse h0) (KeepsC.ok (updTable_keeps _ _ _ (dropFrames_keeps _ (dropRewrites_keeps _ _ _
      h0)))))

theorem execFlowTableConfig_keeps {z : Base} (a0 a1 : _) (k0 : Keeps z a1) : KeepsR z (execFlowTableConfig a0 a1) := by
  unfold execFlowTableConfig
  exact KeepsR.next (runCmd_keeps _ _ _ flowTableConfig_keeps k0)

theorem learnConfig_keeps {z : Base} : KeepsS z (learnConfig) := by
  unfold learnConfig
  exact KeepsS.mk (fun _ _ _ h0 => okState_keeps _ _ _ _ (fun _ _ h1 => updTable_keeps _ _ _ h1) h0)

theorem execLearnConfig_keeps {z : Base} (a0 a1 : _) (k0 : Keeps z a1) : KeepsR z (execLearnConfig a0 a1) := by
  unfold execLearnConfig
  exact KeepsR.next (runCmd_keeps _ _ _ learnConfig_keeps k0)

theorem lookupCounters_keeps {z : Base} : KeepsS z (lookupCounters) := by
  unfold lookupCounters
  exact KeepsS.mk (fun _ _ _ h0 => counterBody_keeps _ _ _ _ _ _ _ h0)

theorem execLookupCounters_keeps {z : Base} (a0 a1 : _) (k0 : Keeps z a1) : KeepsR z (execLookupCounters a0 a1) := by
  unfold execLookupCounters
  exact KeepsR.next (runCmd_keeps _ _ _ lookupCounters_keeps k0)

theorem takeNotices_keeps {z : Base} (a0 a1 : _) (k0 : Keeps z a1) : Keeps z (takeNotices a0 a1) := by
  unfold takeNotices
  extract_lets -merge -underBinder x0
  have h1 : Keeps z x0 := Keeps.ite (setFlag_keeps _ _ _ (Keeps.mk' k0 rfl rfl rfl rfl rfl)) k0
  exact updLk_keeps _ _ h1

theorem noticeRead_keeps {z : Base} : KeepsS z (noticeRead) := by
  unfold noticeRead
  refine KeepsS.mk (fun _ _ _ h0 => ?_)
  extract_lets -merge -underBinder x1
  exact KeepsC.ok (takeNotices_keeps _ _ h0)

theorem execNoticeRead_keeps {z : Base} (a0 a1 : _) (k0 : Keeps z a1) : KeepsR z (execNoticeRead a0 a1) := by
  unfold execNoticeRead
  exact KeepsR.next (runCmd_keeps _ _ _ noticeRead_keeps k0)

theorem putResult_keeps {z : Base} (a0 a1 a2 : _) (k0 : Keeps z a2) : Keeps z (putResult a0 a1 a2) := by
  unfold putResult
  exact updLk_keeps _ _ k0

theorem routeAdd_keeps {z : Base} : KeepsS z (routeAdd) := by
  unfold routeAdd
  refine KeepsS.mk (fun _ _ _ h0 => ?_)
  extract_lets -merge -underBinder x1 x2
  refine KeepsC.ite (KeepsC.refuse h0) ?_
  split
  · exact KeepsC.ok (lkDevice_keeps _ _ _ (putResult_keeps _ _ _ h0))
  · extract_lets -merge -underBinder x3 x4
    have h5 : Keeps z x4 := awaitTries_keeps _ _ _ h0
    exact KeepsC.ite (KeepsC.refuse h5) (KeepsC.ok (lkDevice_keeps _ _ _ (putResult_keeps _ _ _ (changeRoutes_keeps _ _ _ h5))))

theorem execRouteAdd_keeps {z : Base} (a0 a1 : _) (k0 : Keeps z a1) : KeepsR z (execRouteAdd a0 a1) := by
  unfold execRouteAdd
  exact KeepsR.next (runCmd_keeps _ _ _ routeAdd_keeps k0)

theorem routeDelete_keeps {z : Base} : KeepsS z (routeDelete) := by
  unfold routeDelete
  refine KeepsS.mk (fun _ _ _ h0 => ?_)
  extract_lets -merge -underBinder x1 x2
  refine KeepsC.ite (KeepsC.refuse h0) ?_
  split
  · exact KeepsC.refuse h0
  · extract_lets -merge -underBinder x3 x4
    have h5 : Keeps z x4 := awaitTries_keeps _ _ _ h0
    exact KeepsC.ite (KeepsC.refuse h5) (KeepsC.ok (lkDevice_keeps _ _ _ (updLk_keeps _ _ (changeRoutes_keeps _ _ _ h5))))

theorem execRouteDelete_keeps {z : Base} (a0 a1 : _) (k0 : Keeps z a1) : KeepsR z (execRouteDelete a0 a1) := by
  unfold execRouteDelete
  exact KeepsR.next (runCmd_keeps _ _ _ routeDelete_keeps k0)

theorem routeLookup_keeps {z : Base} : KeepsS z (routeLookup) := by
  unfold routeLookup
  refine KeepsS.mk (fun _ _ _ h0 => ?_)
  extract_lets -merge -underBinder x1 x2
  have h3 : KeepsQ z x2 := lookupTrie_keeps _ _ _ h0
  exact KeepsC.ite (KeepsC.refuse h0) (KeepsC.ok (KeepsQ.out h3))

theorem execRouteLookup_keeps {z : Base} (a0 a1 : _) (k0 : Keeps z a1) : KeepsR z (execRouteLookup a0 a1) := by
  unfold execRouteLookup
  exact KeepsR.next (runCmd_keeps _ _ _ routeLookup_keeps k0)

theorem tableEnable_keeps {z : Base} : KeepsS z (tableEnable) := by
  unfold tableEnable
  refine KeepsS.mk (fun _ _ _ h0 => ?_)
  extract_lets -merge -underBinder x1 x2 x3
  have h4 : Keeps z x2 := Keeps.ite (clearTable_keeps _ _ h0) h0
  have h5 : Keeps z x3 := Keeps.ite (dropFrames_keeps _ h4) h4
  exact KeepsC.ite (KeepsC.refuse h0) (KeepsC.ok (updTable_keeps _ _ _ h5))

theorem execTableEnable_keeps {z : Base} (a0 a1 : _) (k0 : Keeps z a1) : KeepsR z (execTableEnable a0 a1) := by
  unfold execTableEnable
  exact KeepsR.next (runCmd_keeps _ _ _ tableEnable_keeps k0)

theorem tableFlush_keeps {z : Base} : KeepsS z (tableFlush) := by
  unfold tableFlush
  refine KeepsS.mk (fun _ _ _ h0 => ?_)
  extract_lets -merge -underBinder x1 x2 x3 x4
  have h5 : Keeps z x2 := Keeps.ite (Keeps.foldl h0 (fun _ _ h7 => checkFrame_keeps _ _ h7)) h0
  have h6 : KeepsQ z x4 := by
    refine KeepsQ.foldl (KeepsQ.mk (Keeps.foldl h5 (fun _ _ h9 => dropBad_keeps _ _ _ h9))) (fun _ _ h8 => ?_)
    split
    · exact KeepsQ.ite (KeepsQ.mk (removeEntry_keeps _ _ _ _ (KeepsQ.out h8))) h8
    · exact h8
  exact KeepsC.ok (dropRewrites_keeps _ _ _ (KeepsQ.out h6))

theorem execTableFlush_keeps {z : Base} (a0 a1 : _) (k0 : Keeps z a1) : KeepsR z (execTableFlush a0 a1) := by
  unfold execTableFlush
  exact KeepsR.next (runCmd_keeps _ _ _ tableFlush_keeps k0)

theorem renewNodes_keeps {z : Base} (a0 a1 a2 : _) (k0 : Keeps z a2) : Keeps z (renewNodes a0 a1 a2) := by
  unfold renewNodes
  exact updLk_keeps _ _ k0

theorem trieConfig_keeps {z : Base} : KeepsS z (trieConfig) := by
  unfold trieConfig
  refine KeepsS.mk (fun _ _ _ h0 => ?_)
  extract_lets -merge -underBinder x1 x2 x3
  have h4 : Keeps z x3 := dropTrie_keeps _ _ h0
  refine KeepsC.ite (KeepsC.ok h4) (KeepsC.ite (KeepsC.ok h0) ?_)
  split
  · exact KeepsC.refuse h0
  · extract_lets -merge -underBinder x5
    have h6 : Keeps z x5 := setTrie_keeps _ _ _ (renewNodes_keeps _ _ _ h0)
    exact KeepsC.ok h6

theorem execTrieConfig_keeps {z : Base} (a0 a1 : _) (k0 : Keeps z a1) : KeepsR z (execTrieConfig a0 a1) := by
  unfold execTrieConfig
  exact KeepsR.next (runCmd_keeps _ _ _ trieConfig_keeps k0)

theorem trieStatus_keeps {z : Base} : KeepsS z (trieStatus) := by
  unfold trieStatus
  exact KeepsS.mk (fun _ _ _ h0 => okReply_keeps _ _ _ _ h0)

theorem execTrieStatus_keeps {z : Base} (a0 a1 : _) (k0 : Keeps z a1) : KeepsR z (execTrieStatus a0 a1) := by
  unfold execTrieStatus
  exact KeepsR.next (runCmd_keeps _ _ _ trieStatus_keeps k0)

theorem pktNote_keeps {z : Base} (a0 a1 : _) (k0 : Keeps z a0) : Keeps z (pktNote a0 a1) := by
  unfold pktNote
  exact Keeps.ite (noteStale_keeps _ k0) k0

theorem loadDone_keeps {z : Base} (a0 a1 a2 a3 a4 a5 : _) (k0 : Keeps z a5) : Keeps z (loadDone a0 a1 a2 a3 a4 a5) := by
  unfold loadDone
  exact advance_keeps _ _ (updThr_keeps _ _ _ k0)

theorem octetDone_keeps {z : Base} (a0 a1 a2 a3 a4 a5 a6 : _) (k0 : Keeps z a6) : Keeps z (octetDone a0 a1 a2 a3 a4 a5 a6) := by
  unfold octetDone
  extract_lets -merge -underBinder x0
  have h1 : Keeps z x0 := Keeps.ite (updThr_keeps _ _ _ k0) k0
  exact loadDone_keeps _ _ _ _ _ _ h1

theorem finishDram_keeps {z : Base} (a0 a1 a2 a3 a4 a5 a6 : _) (k0 : Keeps z a6) : Keeps z (finishDram a0 a1 a2 a3 a4 a5 a6) := by
  unfold finishDram
  exact endStall_keeps _ _ (octetDone_keeps _ _ _ _ _ _ _ k0)

theorem execDramReadComplete_keeps {z : Base} (a0 a1 : _) (k0 : Keeps z a1) : KeepsR z (execDramReadComplete a0 a1) := by
  unfold execDramReadComplete
  extract_lets -merge -underBinder x0
  refine KeepsR.next ?_
  split
  · split
    · extract_lets -merge -underBinder x1
      refine whenAwake_keeps _ _ _ (fun _ h2 => ?_) k0
      extract_lets -merge -underBinder x3 x4
      have h5 : Keeps z x4 := noteSpillRead_keeps _ _ _ _ h2
      exact Keeps.ite (stopThread_keeps _ _ _ _ _ h5) (finishDram_keeps _ _ _ _ _ _ _ h5)
    · refine whenAwake_keeps _ _ _ (fun _ h6 => ?_) k0
      extract_lets -merge -underBinder x7 x8
      have h9 : Keeps z x8 := serveLines_keeps _ _ _ _ h6
      exact Keeps.ite (stopThread_keeps _ _ _ _ _ h9) (finishDram_keeps _ _ _ _ _ _ _ h9)
  · exact k0

theorem storeDone_keeps {z : Base} (a0 a1 a2 a3 : _) (k0 : Keeps z a3) : Keeps z (storeDone a0 a1 a2 a3) := by
  unfold storeDone
  exact advance_keeps _ _ (updThr_keeps _ _ _ k0)

theorem storePacket_keeps {z : Base} (a0 a1 a2 a3 a4 a5 a6 a7 : _) (k0 : Keeps z a7) : Keeps z (storePacket a0 a1 a2 a3 a4 a5 a6 a7) := by
  unfold storePacket
  exact storeDone_keeps _ _ _ _ (pushStore_keeps _ _ _ k0)

theorem memInstr_keeps {z : Base} (a0 a1 a2 a3 a4 a5 a6 a7 a8 a9 a10 a11 : _) (k0 : ∀ y0 y1 y2 y3 y4 y5, Keeps z y5 → Keeps z (a10 y0 y1 y2 y3 y4 y5))
    (k1 : Keeps z a11) : Keeps z (memInstr a0 a1 a2 a3 a4 a5 a6 a7 a8 a9 a10 a11) := by
  unfold memInstr
  extract_lets -merge -underBinder x0 x1 x2
  refine issue_keeps _ _ _ (KeepsI.mk (fun _ _ h3 => ?_)) k1
  extract_lets -merge -underBinder x4
  exact k0 _ _ _ _ _ _ h3

theorem execLdc_keeps {z : Base} (a0 a1 a2 a3 a4 a5 a6 : _) (k0 : Keeps z a6) : KeepsR z (execLdc a0 a1 a2 a3 a4 a5 a6) := by
  unfold execLdc
  refine KeepsR.next (memInstr_keeps _ _ _ _ _ _ _ _ _ _ _ _ (fun _ _ _ _ _ _ h0 => ?_) k0)
  extract_lets -merge -underBinder x1 x2 x3
  have h4 : Keeps z x2 := checkCtx_keeps _ _ _ _ (ctxTouch_keeps _ _ (drainStores_keeps _ _ h0))
  exact Keeps.ite (haltThread_keeps _ _ _ _ _ h0) (Keeps.ite (haltThread_keeps _ _ _ _ _ h4) (octetDone_keeps _ _ _ _ _ _ _ h4))

theorem execLdd_keeps {z : Base} (a0 a1 a2 a3 a4 a5 a6 : _) (k0 : Keeps z a6) : KeepsR z (execLdd a0 a1 a2 a3 a4 a5 a6) := by
  unfold execLdd
  refine KeepsR.next (memInstr_keeps _ _ _ _ _ _ _ _ _ _ _ _ (fun _ _ _ _ _ _ h0 => ?_) k0)
  extract_lets -merge -underBinder x1 x2
  have h3 : Keeps z x2 := drainStores_keeps _ _ h0
  exact Keeps.ite (haltThread_keeps _ _ _ _ _ h0) (stallThread_keeps _ _ _ _ (requestLines_keeps _ _ _ _ _ h3))

theorem execLdp_keeps {z : Base} (a0 a1 a2 a3 a4 a5 a6 : _) (k0 : Keeps z a6) : KeepsR z (execLdp a0 a1 a2 a3 a4 a5 a6) := by
  unfold execLdp
  refine KeepsR.next (memInstr_keeps _ _ _ _ _ _ _ _ _ _ _ _ (fun _ _ _ _ _ _ h0 => ?_) k0)
  extract_lets -merge -underBinder x1 x2 x3 x4
  have h5 : Keeps z x3 := checkVat_keeps _ _ _ _ (drainStores_keeps _ _ h0)
  exact Keeps.ite (haltThread_keeps _ _ _ _ _ (pktNote_keeps _ _ h0)) (Keeps.ite (stallThread_keeps _ _ _ _ h5) (Keeps.ite (haltThread_keeps _ _ _ _ _
      h5) (octetDone_keeps _ _ _ _ _ _ _ h5)))

theorem execLdw_keeps {z : Base} (a0 a1 a2 a3 a4 a5 a6 : _) (k0 : Keeps z a6) : KeepsR z (execLdw a0 a1 a2 a3 a4 a5 a6) := by
  unfold execLdw
  exact KeepsR.next (memInstr_keeps _ _ _ _ _ _ _ _ _ _ _ _ (fun _ _ _ _ _ _ h0 => Keeps.ite (haltThread_keeps _ _ _ _ _ h0) (Keeps.ite
      (haltThread_keeps _ _ _ _ _ (noteDmemUe_keeps _ _ _ h0)) (loadDone_keeps _ _ _ _ _ _ (checkDmem_keeps _ _ h0)))) k0)

theorem execStc_keeps {z : Base} (a0 a1 a2 a3 a4 a5 a6 : _) (k0 : Keeps z a6) : KeepsR z (execStc a0 a1 a2 a3 a4 a5 a6) := by
  unfold execStc
  refine KeepsR.next (memInstr_keeps _ _ _ _ _ _ _ _ _ _ _ _ (fun _ _ _ _ _ _ h0 => ?_) k0)
  extract_lets -merge -underBinder x1
  exact Keeps.ite (haltThread_keeps _ _ _ _ _ h0) (storeDone_keeps _ _ _ _ (pushStore_keeps _ _ _ h0))

theorem execStd_keeps {z : Base} (a0 a1 a2 a3 a4 a5 a6 : _) (k0 : Keeps z a6) : KeepsR z (execStd a0 a1 a2 a3 a4 a5 a6) := by
  unfold execStd
  refine KeepsR.next (memInstr_keeps _ _ _ _ _ _ _ _ _ _ _ _ (fun _ _ _ _ _ _ h0 => ?_) k0)
  extract_lets -merge -underBinder x1
  exact Keeps.ite (haltThread_keeps _ _ _ _ _ h0) (storeDone_keeps _ _ _ _ (pushStore_keeps _ _ _ h0))

theorem execStoreBufferDrain_keeps {z : Base} (a0 a1 : _) (k0 : Keeps z a1) : KeepsR z (execStoreBufferDrain a0 a1) := by
  unfold execStoreBufferDrain
  refine KeepsR.next ?_
  split
  · exact k0
  · exact whenAwake_keeps _ _ _ (fun _ h0 => drainEntry_keeps _ _ (updThr_keeps _ _ _ h0)) k0

theorem execStp_keeps {z : Base} (a0 a1 a2 a3 a4 a5 a6 : _) (k0 : Keeps z a6) : KeepsR z (execStp a0 a1 a2 a3 a4 a5 a6) := by
  unfold execStp
  refine KeepsR.next (settleVoided_keeps _ _ _ k0 (memInstr_keeps _ _ _ _ _ _ _ _ _ _ _ _ (fun _ _ _ _ _ _ h0 => stamped_keeps _ _ _ (fun _ h1 => ?_)
      h0) k0))
  extract_lets -merge -underBinder x2 x3 x4 x5 x6 x7
  have h8 : KeepsQ z x7 := KeepsQ.ite (readyGrow_keeps _ _ _ _ h1) (KeepsQ.mk h1)
  exact Keeps.ite (haltThread_keeps _ _ _ _ _ (pktNote_keeps _ _ h1)) (Keeps.ite (storePacket_keeps _ _ _ _ _ _ _ _ h1) (Keeps.ite (storePacket_keeps
      _ _ _ _ _ _ _ _ (progress_keeps _ _ (grow_keeps _ _ _ _ (KeepsQ.out h8)))) (stallThread_keeps _ _ _ _ (joinDrawer_keeps _ _ _ (KeepsQ.out
      h8)))))

theorem execStw_keeps {z : Base} (a0 a1 a2 a3 a4 a5 a6 : _) (k0 : Keeps z a6) : KeepsR z (execStw a0 a1 a2 a3 a4 a5 a6) := by
  unfold execStw
  exact KeepsR.next (memInstr_keeps _ _ _ _ _ _ _ _ _ _ _ _ (fun _ _ _ _ _ _ h0 => Keeps.ite (haltThread_keeps _ _ _ _ _ h0) (storeDone_keeps _ _ _ _
      (dmemStore_keeps _ _ _ _ h0))) k0)

theorem multiply_keeps {z : Base} (a0 a1 a2 a3 a4 a5 a6 a7 : _) (k0 : Keeps z a7) : Keeps z (multiply a0 a1 a2 a3 a4 a5 a6 a7) := by
  unfold multiply
  exact issue_keeps _ _ _ (KeepsI.mk (fun _ _ h0 => advance_keeps _ _ (updThr_keeps _ _ _ h0))) k0

theorem execClmul_keeps {z : Base} (a0 a1 a2 a3 a4 a5 : _) (k0 : Keeps z a5) : KeepsR z (execClmul a0 a1 a2 a3 a4 a5) := by
  unfold execClmul
  exact KeepsR.next (multiply_keeps _ _ _ _ _ _ _ _ k0)

theorem execGfm16_keeps {z : Base} (a0 a1 a2 a3 a4 a5 : _) (k0 : Keeps z a5) : KeepsR z (execGfm16 a0 a1 a2 a3 a4 a5) := by
  unfold execGfm16
  exact KeepsR.next (multiply_keeps _ _ _ _ _ _ _ _ k0)

theorem execGfm8_keeps {z : Base} (a0 a1 a2 a3 a4 a5 : _) (k0 : Keeps z a5) : KeepsR z (execGfm8 a0 a1 a2 a3 a4 a5) := by
  unfold execGfm8
  exact KeepsR.next (multiply_keeps _ _ _ _ _ _ _ _ k0)

theorem execMul_keeps {z : Base} (a0 a1 a2 a3 a4 a5 : _) (k0 : Keeps z a5) : KeepsR z (execMul a0 a1 a2 a3 a4 a5) := by
  unfold execMul
  exact KeepsR.next (multiply_keeps _ _ _ _ _ _ _ _ k0)

theorem execMultiplyLand_keeps {z : Base} (a0 a1 : _) (k0 : Keeps z a1) : KeepsR z (execMultiplyLand a0 a1) := by
  unfold execMultiplyLand
  refine KeepsR.next ?_
  split
  · exact k0
  · exact updThr_keeps _ _ _ k0

theorem execMulu_keeps {z : Base} (a0 a1 a2 a3 a4 a5 : _) (k0 : Keeps z a5) : KeepsR z (execMulu a0 a1 a2 a3 a4 a5) := by
  unfold execMulu
  exact KeepsR.next (multiply_keeps _ _ _ _ _ _ _ _ k0)

theorem allocBuffer_keeps {z : Base} (a0 a1 a2 a3 a4 a5 : _) (k0 : Keeps z a5) : KeepsQ z (allocBuffer a0 a1 a2 a3 a4 a5) := by
  unfold allocBuffer
  extract_lets -merge -underBinder x0
  have h1 : KeepsQ z x0 := newHandle_keeps _ _ k0
  exact KeepsQ.mk (progress_keeps _ _ (afterGrant_keeps _ _ _ (addCells_keeps _ _ _ _ (KeepsQ.out h1))))

theorem cabRefuse_keeps {z : Base} (a0 a1 a2 : _) (k0 : Keeps z a2) : Keeps z (cabRefuse a0 a1 a2) := by
  unfold cabRefuse
  exact stopThread_keeps _ _ _ _ _ k0

theorem tryAlloc_keeps {z : Base} (a0 a1 a2 a3 : _) (k0 : Keeps z a3) : KeepsQ z (tryAlloc a0 a1 a2 a3) := by
  unfold tryAlloc
  extract_lets -merge -underBinder x0 x1 x2 x3 x4 x5
  have h6 : KeepsQ z x2 := readyVat_keeps _ _ _ _ _ k0
  have h7 : KeepsQ z x3 := allocBuffer_keeps _ _ _ _ _ _ (KeepsQ.out h6)
  have h8 : KeepsQ z x4 := readySpill_keeps _ _ _ _ _ (KeepsQ.out h6)
  have h9 : KeepsQ z x5 := allocBuffer_keeps _ _ _ _ _ _ (KeepsQ.out h8)
  exact KeepsQ.ite (KeepsQ.mk (KeepsQ.out h7)) (KeepsQ.ite (KeepsQ.mk (KeepsQ.out h9)) (KeepsQ.mk (KeepsQ.out h8)))

theorem cabAlloc_keeps {z : Base} (op : CabOp) (t : Nat) (gd ga : BitVec 5) (w : Word36) (s : State) (h : Keeps z s) :
    Keeps z (cabAlloc op t gd ga w s) := by
  unfold cabAlloc
  extract_lets -merge -underBinder n o b d
  refine Keeps.ite (cabRefuse_keeps _ _ _ h) (Keeps.ite (cabRefuse_keeps _ _ _ (noteRefusedFree_keeps _ _ _ _ h)) ?_)
  have k : KeepsQ z (if (drawerWaiters s d).isEmpty then tryAlloc t o n s else (none, s)) := KeepsQ.ite (tryAlloc_keeps _ _ _ _ h) h
  split
  · next e => rw [e] at k; exact advance_keeps _ _ (setG_keeps _ _ _ _ k)
  · next e => rw [e] at k; exact stallThread_keeps _ _ _ _ (joinDrawer_keeps _ _ _ k)

theorem cabOwned_keeps {z : Base} (a0 a1 a2 a3 a4 : _) (k0 : Keeps z a3) (k1 : ∀ y0 y1, Keeps z y1 → Keeps z (a4 y0 y1)) : Keeps z (cabOwned a0 a1 a2
    a3 a4) := by
  unfold cabOwned
  extract_lets -merge -underBinder x0
  exact Keeps.ite (cabRefuse_keeps _ _ _ (noteStale_keeps _ k0)) (Keeps.ite (cabRefuse_keeps _ _ _ (noteRefusedFree_keeps _ _ _ _ k0)) (k1 _ _ k0))

theorem freeRange_keeps {z : Base} (a0 a1 a2 a3 : _) (k0 : Keeps z a3) : Keeps z (freeRange a0 a1 a2 a3) := by
  unfold freeRange
  extract_lets -merge -underBinder x0 x1 x2 x3
  have h4 : Keeps z x3 := freeSlots_keeps _ _ _ k0
  exact Keeps.ite (updHandle_keeps _ _ _ k0) (Keeps.ite (releaseIndex_keeps _ _ h4) h4)

theorem cabXfer_keeps {z : Base} (a0 a1 a2 a3 a4 a5 a6 : _) (k0 : Keeps z a6) : Keeps z (cabXfer a0 a1 a2 a3 a4 a5 a6) := by
  unfold cabXfer
  extract_lets -merge -underBinder x0 x1 x2 x3 x4 x5 x6 x7 x8
  have h9 : Keeps z x6 := chargeUse_keeps _ _ _ _ _ (dischargeUse_keeps _ _ _ _ _ k0)
  have h10 : Keeps z x7 := setHandle_keeps _ _ _ h9
  have h11 : Keeps z x8 := Keeps.ite h10 (progress_keeps _ _ h10)
  exact Keeps.ite (cabRefuse_keeps _ _ _ (noteRefusedFree_keeps _ _ _ _ k0)) (Keeps.ite (advance_keeps _ _ (setG_keeps _ _ _ _ k0)) (advance_keeps _ _
      (setG_keeps _ _ _ _ (afterGrant_keeps _ _ _ h11))))

theorem cabBind_keeps {z : Base} (a0 a1 a2 : _) (k0 : Keeps z a2) : Keeps z (cabBind a0 a1 a2) := by
  unfold cabBind
  exact advance_keeps _ _ (updHandle_keeps _ _ _ k0)

theorem stageOutput_keeps {z : Base} (a0 a1 a2 : _) (k0 : Keeps z a2) : Keeps z (stageOutput a0 a1 a2) := by
  unfold stageOutput
  split
  · exact k0
  · exact updItem_keeps _ _ _ (addRef_keeps _ _ k0)

theorem cabEmit_keeps {z : Base} (a0 a1 a2 a3 a4 a5 a6 : _) (k0 : Keeps z a6) : Keeps z (cabEmit a0 a1 a2 a3 a4 a5 a6) := by
  unfold cabEmit
  extract_lets -merge -underBinder x0 x1 x2
  have h3 : Keeps z x0 := drainStores_keeps _ _ k0
  have h4 : Keeps z x2 := advance_keeps _ _ (stageOutput_keeps _ _ _ h3)
  exact Keeps.ite (stopThread_keeps _ _ _ _ _ (pktNote_keeps _ _ k0)) (Keeps.ite (cabRefuse_keeps _ _ _ (noteRefError_keeps _ h3)) (Keeps.ite
      (completeItem_keeps _ _ _ h4) h4))

theorem cabVoid_keeps {z : Base} (a0 a1 a2 : _) (k0 : Keeps z a2) : Keeps z (cabVoid a0 a1 a2) := by
  unfold cabVoid
  exact Keeps.ite (stopThread_keeps _ _ _ _ _ k0) (completeItem_keeps _ _ _ (advance_keeps _ _ (drainStores_keeps _ _ k0)))

theorem cabAct_keeps {z : Base} (a0 a1 a2 a3 a4 a5 a6 : _) (k0 : Keeps z a6) : Keeps z (cabAct a0 a1 a2 a3 a4 a5 a6) := by
  unfold cabAct
  extract_lets -merge -underBinder x0 x1
  split
  · exact stamped_keeps _ _ _ (fun _ h2 => cabAlloc_keeps _ _ _ _ _ _ h2) k0
  · exact stamped_keeps _ _ _ (fun _ h3 => cabAlloc_keeps _ _ _ _ _ _ h3) k0
  · exact cabOwned_keeps _ _ _ _ _ k0 (fun _ _ h4 => advance_keeps _ _ (freeHandle_keeps _ _ h4))
  · exact cabOwned_keeps _ _ _ _ _ k0 (fun _ _ h5 => advance_keeps _ _ (freeRange_keeps _ _ _ _ h5))
  · exact stamped_keeps _ _ _ (fun _ h6 => cabOwned_keeps _ _ _ _ _ h6 (fun _ _ h7 => cabXfer_keeps _ _ _ _ _ _ _ h7)) k0
  · exact cabOwned_keeps _ _ _ _ _ k0 (fun _ _ h8 => cabBind_keeps _ _ _ h8)
  · exact Keeps.ite (cabRefuse_keeps _ _ _ (noteStale_keeps _ k0)) (Keeps.ite (cabRefuse_keeps _ _ _ (noteRefError_keeps _ k0)) (advance_keeps _ _
        (addRef_keeps _ _ k0)))
  · exact Keeps.ite (cabRefuse_keeps _ _ _ (noteStale_keeps _ k0)) (Keeps.ite (cabRefuse_keeps _ _ _ (noteRefError_keeps _ k0)) (advance_keeps _ _
        (dropRef_keeps _ _ k0)))
  · exact cabEmit_keeps _ _ _ _ _ _ _ k0
  · exact cabEmit_keeps _ _ _ _ _ _ _ k0
  · exact cabVoid_keeps _ _ _ k0

theorem cabInstr_keeps {z : Base} (a0 a1 a2 a3 a4 a5 a6 a7 a8 a9 a10 a11 : _) (k0 : Keeps z a11) : Keeps z (cabInstr a0 a1 a2 a3 a4 a5 a6 a7 a8 a9 a10
    a11) := by
  unfold cabInstr
  extract_lets -merge -underBinder x0
  exact issue_keeps _ _ _ (KeepsI.mk (fun _ _ h1 => Keeps.ite (stallThread_keeps _ _ _ _ h1) (cabAct_keeps _ _ _ _ _ _ _ h1))) k0

theorem settleAnswer_keeps {z : Base} (a0 a1 : _) (k0 : Keeps z a1) : Keeps z (settleAnswer a0 a1) := by
  unfold settleAnswer
  extract_lets -merge -underBinder x0
  exact Keeps.ite (endStall_keeps _ _ k0) k0

theorem cabinetAnswer_keeps {z : Base} (a0 a1 : _) (k0 : Keeps z a1) : Keeps z (cabinetAnswer a0 a1) := by
  unfold cabinetAnswer
  split
  · exact settleAnswer_keeps _ _ (cabAct_keeps _ _ _ _ _ _ _ (updThr_keeps _ _ _ k0))
  · exact k0

theorem execCabinetAnswer_keeps {z : Base} (a0 a1 : _) (k0 : Keeps z a1) : KeepsR z (execCabinetAnswer a0 a1) := by
  unfold execCabinetAnswer
  exact KeepsR.next (settle_keeps _ (cabinetAnswer_keeps _ _ k0))

theorem leaveDrawer_keeps {z : Base} (a0 a1 a2 : _) (k0 : Keeps z a2) : Keeps z (leaveDrawer a0 a1 a2) := by
  unfold leaveDrawer
  extract_lets -merge -underBinder x0
  exact Keeps.mk' k0 rfl rfl rfl rfl rfl

theorem grantStore_keeps {z : Base} (a0 a1 a2 a3 a4 a5 a6 a7 a8 : _) (k0 : Keeps z a8) : Keeps z (grantStore a0 a1 a2 a3 a4 a5 a6 a7 a8) := by
  unfold grantStore
  extract_lets -merge -underBinder x0 x1 x2 x3 x4 x5 x6 x7
  have h8 : KeepsQ z x7 := readyGrow_keeps _ _ _ _ k0
  exact Keeps.ite (stopThread_keeps _ _ _ _ _ (leaveDrawer_keeps _ _ _ (pktNote_keeps _ _ k0))) (Keeps.ite (endStall_keeps _ _ (storePacket_keeps _ _
      _ _ _ _ _ _ (leaveDrawer_keeps _ _ _ k0))) (Keeps.ite (endStall_keeps _ _ (storePacket_keeps _ _ _ _ _ _ _ _ (progress_keeps _ _ (grow_keeps _ _
      _ _ (leaveDrawer_keeps _ _ _ (KeepsQ.out h8)))))) (KeepsQ.out h8)))

theorem execDrawerGrant_keeps {z : Base} (d : BitVec 6) (s : State) (h : Keeps z s) : KeepsR z (execDrawerGrant d s) := by
  unfold execDrawerGrant
  dsimp only
  refine KeepsR.next ?_
  split
  · exact h
  · next t _ _ =>
    refine Keeps.ite (settle_keeps _ (voidStamp_keeps _ _ (leaveDrawer_keeps _ _ _ h))) ?_
    split
    · next n op _ _ _ _ =>
      have k := tryAlloc_keeps t (allocOwner op t) n s h
      split
      · next e => rw [e] at k; exact completeStalled_keeps _ _ _ (leaveDrawer_keeps _ _ _ k)
      · next e => rw [e] at k; exact k
    · exact grantStore_keeps _ _ _ _ _ _ _ _ _ h
    · exact h

theorem execEmit_keeps {z : Base} (a0 a1 a2 a3 a4 a5 a6 : _) (k0 : Keeps z a6) : KeepsR z (execEmit a0 a1 a2 a3 a4 a5 a6) := by
  unfold execEmit
  exact KeepsR.next (cabInstr_keeps _ _ _ _ _ _ _ _ _ _ _ _ k0)

theorem execEmitF_keeps {z : Base} (a0 a1 a2 a3 a4 a5 a6 : _) (k0 : Keeps z a6) : KeepsR z (execEmitF a0 a1 a2 a3 a4 a5 a6) := by
  unfold execEmitF
  exact KeepsR.next (settle_keeps _ (cabInstr_keeps _ _ _ _ _ _ _ _ _ _ _ _ k0))

theorem execPalloc_keeps {z : Base} (a0 a1 a2 a3 a4 a5 : _) (k0 : Keeps z a5) : KeepsR z (execPalloc a0 a1 a2 a3 a4 a5) := by
  unfold execPalloc
  exact KeepsR.next (settleVoided_keeps _ _ _ k0 (cabInstr_keeps _ _ _ _ _ _ _ _ _ _ _ _ k0))

theorem execPalloce_keeps {z : Base} (a0 a1 a2 a3 a4 a5 : _) (k0 : Keeps z a5) : KeepsR z (execPalloce a0 a1 a2 a3 a4 a5) := by
  unfold execPalloce
  exact KeepsR.next (settleVoided_keeps _ _ _ k0 (cabInstr_keeps _ _ _ _ _ _ _ _ _ _ _ _ k0))

theorem execPbind_keeps {z : Base} (a0 a1 a2 a3 a4 a5 a6 : _) (k0 : Keeps z a6) : KeepsR z (execPbind a0 a1 a2 a3 a4 a5 a6) := by
  unfold execPbind
  exact KeepsR.next (cabInstr_keeps _ _ _ _ _ _ _ _ _ _ _ _ k0)

theorem execPderef_keeps {z : Base} (a0 a1 a2 a3 a4 a5 a6 : _) (k0 : Keeps z a6) : KeepsR z (execPderef a0 a1 a2 a3 a4 a5 a6) := by
  unfold execPderef
  exact KeepsR.next (cabInstr_keeps _ _ _ _ _ _ _ _ _ _ _ _ k0)

theorem execPfree_keeps {z : Base} (a0 a1 a2 a3 a4 a5 a6 : _) (k0 : Keeps z a6) : KeepsR z (execPfree a0 a1 a2 a3 a4 a5 a6) := by
  unfold execPfree
  exact KeepsR.next (cabInstr_keeps _ _ _ _ _ _ _ _ _ _ _ _ k0)

theorem execPfrees_keeps {z : Base} (a0 a1 a2 a3 a4 a5 a6 : _) (k0 : Keeps z a6) : KeepsR z (execPfrees a0 a1 a2 a3 a4 a5 a6) := by
  unfold execPfrees
  exact KeepsR.next (cabInstr_keeps _ _ _ _ _ _ _ _ _ _ _ _ k0)

theorem execPref_keeps {z : Base} (a0 a1 a2 a3 a4 a5 a6 : _) (k0 : Keeps z a6) : KeepsR z (execPref a0 a1 a2 a3 a4 a5 a6) := by
  unfold execPref
  exact KeepsR.next (cabInstr_keeps _ _ _ _ _ _ _ _ _ _ _ _ k0)

theorem execPxfer_keeps {z : Base} (a0 a1 a2 a3 a4 a5 a6 : _) (k0 : Keeps z a6) : KeepsR z (execPxfer a0 a1 a2 a3 a4 a5 a6) := by
  unfold execPxfer
  exact KeepsR.next (settleVoided_keeps _ _ _ k0 (cabInstr_keeps _ _ _ _ _ _ _ _ _ _ _ _ k0))

theorem execVoidItem_keeps {z : Base} (a0 a1 a2 a3 a4 a5 a6 : _) (k0 : Keeps z a6) : KeepsR z (execVoidItem a0 a1 a2 a3 a4 a5 a6) := by
  unfold execVoidItem
  exact KeepsR.next (settle_keeps _ (cabInstr_keeps _ _ _ _ _ _ _ _ _ _ _ _ k0))

theorem endHandler_keeps {z : Base} (a0 a1 : _) (k0 : Keeps z a1) : Keeps z (endHandler a0 a1) := by
  unfold endHandler
  extract_lets -merge -underBinder x0 x1
  have h2 : Keeps z x0 := detachOps_keeps _ _ (loseLocks_keeps _ _ _ (checkHeld_keeps _ _ k0))
  have h3 : Keeps z x1 := by
    show Keeps z (_)
    unfold x1
    split
    · split
      · exact voidItem_keeps _ _ (lateLoss_keeps _ _ h2)
      · exact h2
    · exact h2
  exact admitEvents_keeps _ (freeThread_keeps _ _ h3)

theorem sysInstr_keeps {z : Base} (a0 a1 a2 a3 a4 a5 a6 a7 a8 a9 : _) (k0 : ∀ y0 y1 y2, Keeps z y2 → Keeps z (a8 y0 y1 y2)) (k1 : Keeps z a9) : Keeps
    z (sysInstr a0 a1 a2 a3 a4 a5 a6 a7 a8 a9) := by
  unfold sysInstr
  extract_lets -merge -underBinder x0
  exact issue_keeps _ _ _ (KeepsI.mk (fun _ _ h1 => k0 _ _ _ h1)) k1

theorem execBrk_keeps {z : Base} (a0 a1 a2 a3 a4 a5 : _) (k0 : Keeps z a5) : KeepsR z (execBrk a0 a1 a2 a3 a4 a5) := by
  unfold execBrk
  exact KeepsR.next (sysInstr_keeps _ _ _ _ _ _ _ _ _ _ (fun _ _ _ h0 => haltThread_keeps _ _ _ _ _ h0) k0)

theorem execEndH_keeps {z : Base} (a0 a1 a2 a3 a4 a5 : _) (k0 : Keeps z a5) : KeepsR z (execEndH a0 a1 a2 a3 a4 a5) := by
  unfold execEndH
  exact KeepsR.next (settle_keeps _ (sysInstr_keeps _ _ _ _ _ _ _ _ _ _ (fun _ _ _ h0 => endHandler_keeps _ _ (advance_keeps _ _ h0)) k0))

theorem execFence_keeps {z : Base} (a0 a1 a2 a3 a4 a5 : _) (k0 : Keeps z a5) : KeepsR z (execFence a0 a1 a2 a3 a4 a5) := by
  unfold execFence
  exact KeepsR.next (sysInstr_keeps _ _ _ _ _ _ _ _ _ _ (fun _ _ _ h0 => advance_keeps _ _ (drainStores_keeps _ _ h0)) k0)

theorem execResumeH_keeps {z : Base} (a0 a1 a2 a3 a4 a5 : _) (k0 : Keeps z a5) : KeepsR z (execResumeH a0 a1 a2 a3 a4 a5) := by
  unfold execResumeH
  refine KeepsR.next (sysInstr_keeps _ _ _ _ _ _ _ _ _ _ (fun _ _ _ h0 => ?_) k0)
  split
  · exact h0
  · split
    · exact h0
    · extract_lets -merge -underBinder x1
      exact updThr_keeps _ _ _ (putItem_keeps _ _ _ h0)

theorem noteSvIgnored_keeps {z : Base} (a0 : _) (k0 : Keeps z a0) : Keeps z (noteSvIgnored a0) := by
  unfold noteSvIgnored
  exact raiseFirst_keeps _ _ _ _ (count_keeps _ _ _ _ _ (setFlag_keeps _ _ _ k0))

theorem execSvend_keeps {z : Base} (a0 a1 a2 a3 a4 a5 : _) (k0 : Keeps z a5) : KeepsR z (execSvend a0 a1 a2 a3 a4 a5) := by
  unfold execSvend
  refine KeepsR.next (settle_keeps _ (sysInstr_keeps _ _ _ _ _ _ _ _ _ _ (fun _ _ _ h0 => ?_) k0))
  extract_lets -merge -underBinder x1
  exact advance_keeps _ _ (Keeps.ite (noteSvIgnored_keeps _ h0) (admitEvents_keeps _ (freeThread_keeps _ _ (endFaulted_keeps _ _ (detachOps_keeps _ _
      (loseLocks_keeps _ _ _ (checkHeld_keeps _ _ h0)))))))

theorem execSvrst_keeps {z : Base} (a0 a1 a2 a3 a4 a5 : _) (k0 : Keeps z a5) : KeepsR z (execSvrst a0 a1 a2 a3 a4 a5) := by
  unfold execSvrst
  refine KeepsR.next (settle_keeps _ (sysInstr_keeps _ _ _ _ _ _ _ _ _ _ (fun _ _ _ h0 => ?_) k0))
  extract_lets -merge -underBinder x1
  exact advance_keeps _ _ (Keeps.ite (noteSvIgnored_keeps _ h0) (admitEvents_keeps _ (l0Reset_keeps _ _ (checkHeld_keeps _ _ h0))))

theorem execYieldRun_keeps {z : Base} (a0 a1 a2 a3 a4 a5 : _) (k0 : Keeps z a5) : KeepsR z (execYieldRun a0 a1 a2 a3 a4 a5) := by
  unfold execYieldRun
  exact KeepsR.next (sysInstr_keeps _ _ _ _ _ _ _ _ _ _ (fun _ _ _ h0 => walk_keeps _ _ (updThr_keeps _ _ _ (count_keeps _ _ _ _ _ (advance_keeps _ _
      h0)))) k0)

end Sys2Proof.Machine
end

