-- ==== Sys2Proof/Laws/State.lean ====
section
/-!
SUPPORT. What each update of the state leaves: one lemma per field it does not name.
-/
set_option linter.constructorNameAsVariable false
namespace Sys2Proof.Machine

@[simp] theorem addCounters_pending (a0 : _) : (addCounters a0).pending = a0.pending := rfl
@[simp] theorem addCounters_fresh (a0 : _) : (addCounters a0).fresh = a0.fresh := rfl
@[simp] theorem addCounters_flags (a0 : _) : (addCounters a0).flags = a0.flags := rfl
@[simp] theorem addCounters_totals (a0 : _) : (addCounters a0).totals = a0.totals := rfl
@[simp] theorem addCounters_failover (a0 : _) : (addCounters a0).failover = a0.failover := rfl
@[simp] theorem addCounters_line (a0 : _) : (addCounters a0).line = a0.line := rfl
@[simp] theorem addCounters_host (a0 : _) : (addCounters a0).host = a0.host := rfl
@[simp] theorem addCounters_cab (a0 : _) : (addCounters a0).cab = a0.cab := rfl
@[simp] theorem addCounters_disp (a0 : _) : (addCounters a0).disp = a0.disp := rfl
@[simp] theorem addCounters_cores (a0 : _) : (addCounters a0).cores = a0.cores := rfl
@[simp] theorem addCounters_dov (a0 : _) : (addCounters a0).dov = a0.dov := rfl
@[simp] theorem addCounters_lk (a0 : _) : (addCounters a0).lk = a0.lk := rfl
@[simp] theorem addCounters_cop (a0 : _) : (addCounters a0).cop = a0.cop := rfl
@[simp] theorem addCounters_dram (a0 : _) : (addCounters a0).dram = a0.dram := rfl
@[simp] theorem addCounters_ev (a0 : _) : (addCounters a0).ev = a0.ev := rfl
@[simp] theorem addCounters_sec (a0 : _) : (addCounters a0).sec = a0.sec := rfl
@[simp] theorem addCounters_pow (a0 : _) : (addCounters a0).pow = a0.pow := rfl

@[simp] theorem agedLookups_pending (a0 a1 : _) : (agedLookups a0 a1).pending = a1.pending := rfl
@[simp] theorem agedLookups_fresh (a0 a1 : _) : (agedLookups a0 a1).fresh = a1.fresh := rfl
@[simp] theorem agedLookups_flags (a0 a1 : _) : (agedLookups a0 a1).flags = a1.flags := rfl
@[simp] theorem agedLookups_totals (a0 a1 : _) : (agedLookups a0 a1).totals = a1.totals := rfl
@[simp] theorem agedLookups_cntAcc (a0 a1 : _) : (agedLookups a0 a1).cntAcc = a1.cntAcc := rfl
@[simp] theorem agedLookups_cntTot (a0 a1 : _) : (agedLookups a0 a1).cntTot = a1.cntTot := rfl
@[simp] theorem agedLookups_cntSheet (a0 a1 : _) : (agedLookups a0 a1).cntSheet = a1.cntSheet := rfl
@[simp] theorem agedLookups_failover (a0 a1 : _) : (agedLookups a0 a1).failover = a1.failover := rfl
@[simp] theorem agedLookups_sh (a0 a1 : _) : (agedLookups a0 a1).sh = a1.sh := rfl
@[simp] theorem agedLookups_line (a0 a1 : _) : (agedLookups a0 a1).line = a1.line := rfl
@[simp] theorem agedLookups_host (a0 a1 : _) : (agedLookups a0 a1).host = a1.host := rfl
@[simp] theorem agedLookups_cab (a0 a1 : _) : (agedLookups a0 a1).cab = a1.cab := rfl
@[simp] theorem agedLookups_disp (a0 a1 : _) : (agedLookups a0 a1).disp = a1.disp := rfl
@[simp] theorem agedLookups_cores (a0 a1 : _) : (agedLookups a0 a1).cores = a1.cores := rfl
@[simp] theorem agedLookups_dov (a0 a1 : _) : (agedLookups a0 a1).dov = a1.dov := rfl
@[simp] theorem agedLookups_cop (a0 a1 : _) : (agedLookups a0 a1).cop = a1.cop := rfl
@[simp] theorem agedLookups_dram (a0 a1 : _) : (agedLookups a0 a1).dram = a1.dram := rfl
@[simp] theorem agedLookups_ev (a0 a1 : _) : (agedLookups a0 a1).ev = a1.ev := rfl
@[simp] theorem agedLookups_sec (a0 a1 : _) : (agedLookups a0 a1).sec = a1.sec := rfl
@[simp] theorem agedLookups_pow (a0 a1 : _) : (agedLookups a0 a1).pow = a1.pow := rfl

@[simp] theorem bumpTotal_pending (a0 a1 a2 : _) : (bumpTotal a0 a1 a2).pending = a2.pending := rfl
@[simp] theorem bumpTotal_fresh (a0 a1 a2 : _) : (bumpTotal a0 a1 a2).fresh = a2.fresh := rfl
@[simp] theorem bumpTotal_flags (a0 a1 a2 : _) : (bumpTotal a0 a1 a2).flags = a2.flags := rfl
@[simp] theorem bumpTotal_cntAcc (a0 a1 a2 : _) : (bumpTotal a0 a1 a2).cntAcc = a2.cntAcc := rfl
@[simp] theorem bumpTotal_cntTot (a0 a1 a2 : _) : (bumpTotal a0 a1 a2).cntTot = a2.cntTot := rfl
@[simp] theorem bumpTotal_cntSheet (a0 a1 a2 : _) : (bumpTotal a0 a1 a2).cntSheet = a2.cntSheet := rfl
@[simp] theorem bumpTotal_failover (a0 a1 a2 : _) : (bumpTotal a0 a1 a2).failover = a2.failover := rfl
@[simp] theorem bumpTotal_sh (a0 a1 a2 : _) : (bumpTotal a0 a1 a2).sh = a2.sh := rfl
@[simp] theorem bumpTotal_line (a0 a1 a2 : _) : (bumpTotal a0 a1 a2).line = a2.line := rfl
@[simp] theorem bumpTotal_host (a0 a1 a2 : _) : (bumpTotal a0 a1 a2).host = a2.host := rfl
@[simp] theorem bumpTotal_cab (a0 a1 a2 : _) : (bumpTotal a0 a1 a2).cab = a2.cab := rfl
@[simp] theorem bumpTotal_disp (a0 a1 a2 : _) : (bumpTotal a0 a1 a2).disp = a2.disp := rfl
@[simp] theorem bumpTotal_cores (a0 a1 a2 : _) : (bumpTotal a0 a1 a2).cores = a2.cores := rfl
@[simp] theorem bumpTotal_dov (a0 a1 a2 : _) : (bumpTotal a0 a1 a2).dov = a2.dov := rfl
@[simp] theorem bumpTotal_lk (a0 a1 a2 : _) : (bumpTotal a0 a1 a2).lk = a2.lk := rfl
@[simp] theorem bumpTotal_cop (a0 a1 a2 : _) : (bumpTotal a0 a1 a2).cop = a2.cop := rfl
@[simp] theorem bumpTotal_dram (a0 a1 a2 : _) : (bumpTotal a0 a1 a2).dram = a2.dram := rfl
@[simp] theorem bumpTotal_ev (a0 a1 a2 : _) : (bumpTotal a0 a1 a2).ev = a2.ev := rfl
@[simp] theorem bumpTotal_sec (a0 a1 a2 : _) : (bumpTotal a0 a1 a2).sec = a2.sec := rfl
@[simp] theorem bumpTotal_pow (a0 a1 a2 : _) : (bumpTotal a0 a1 a2).pow = a2.pow := rfl

@[simp] theorem clearCounters_pending (a0 a1 a2 a3 : _) : (clearCounters a0 a1 a2 a3).pending = a3.pending := rfl
@[simp] theorem clearCounters_fresh (a0 a1 a2 a3 : _) : (clearCounters a0 a1 a2 a3).fresh = a3.fresh := rfl
@[simp] theorem clearCounters_flags (a0 a1 a2 a3 : _) : (clearCounters a0 a1 a2 a3).flags = a3.flags := rfl
@[simp] theorem clearCounters_totals (a0 a1 a2 a3 : _) : (clearCounters a0 a1 a2 a3).totals = a3.totals := rfl
@[simp] theorem clearCounters_cntAcc (a0 a1 a2 a3 : _) : (clearCounters a0 a1 a2 a3).cntAcc = a3.cntAcc := rfl
@[simp] theorem clearCounters_cntSheet (a0 a1 a2 a3 : _) : (clearCounters a0 a1 a2 a3).cntSheet = a3.cntSheet := rfl
@[simp] theorem clearCounters_failover (a0 a1 a2 a3 : _) : (clearCounters a0 a1 a2 a3).failover = a3.failover := rfl
@[simp] theorem clearCounters_sh (a0 a1 a2 a3 : _) : (clearCounters a0 a1 a2 a3).sh = a3.sh := rfl
@[simp] theorem clearCounters_line (a0 a1 a2 a3 : _) : (clearCounters a0 a1 a2 a3).line = a3.line := rfl
@[simp] theorem clearCounters_host (a0 a1 a2 a3 : _) : (clearCounters a0 a1 a2 a3).host = a3.host := rfl
@[simp] theorem clearCounters_cab (a0 a1 a2 a3 : _) : (clearCounters a0 a1 a2 a3).cab = a3.cab := rfl
@[simp] theorem clearCounters_disp (a0 a1 a2 a3 : _) : (clearCounters a0 a1 a2 a3).disp = a3.disp := rfl
@[simp] theorem clearCounters_cores (a0 a1 a2 a3 : _) : (clearCounters a0 a1 a2 a3).cores = a3.cores := rfl
@[simp] theorem clearCounters_dov (a0 a1 a2 a3 : _) : (clearCounters a0 a1 a2 a3).dov = a3.dov := rfl
@[simp] theorem clearCounters_lk (a0 a1 a2 a3 : _) : (clearCounters a0 a1 a2 a3).lk = a3.lk := rfl
@[simp] theorem clearCounters_cop (a0 a1 a2 a3 : _) : (clearCounters a0 a1 a2 a3).cop = a3.cop := rfl
@[simp] theorem clearCounters_dram (a0 a1 a2 a3 : _) : (clearCounters a0 a1 a2 a3).dram = a3.dram := rfl
@[simp] theorem clearCounters_ev (a0 a1 a2 a3 : _) : (clearCounters a0 a1 a2 a3).ev = a3.ev := rfl
@[simp] theorem clearCounters_sec (a0 a1 a2 a3 : _) : (clearCounters a0 a1 a2 a3).sec = a3.sec := rfl
@[simp] theorem clearCounters_pow (a0 a1 a2 a3 : _) : (clearCounters a0 a1 a2 a3).pow = a3.pow := rfl

@[simp] theorem clearFlags_pending (a0 a1 a2 : _) : (clearFlags a0 a1 a2).pending = a2.pending := rfl
@[simp] theorem clearFlags_fresh (a0 a1 a2 : _) : (clearFlags a0 a1 a2).fresh = a2.fresh := rfl
@[simp] theorem clearFlags_totals (a0 a1 a2 : _) : (clearFlags a0 a1 a2).totals = a2.totals := rfl
@[simp] theorem clearFlags_cntAcc (a0 a1 a2 : _) : (clearFlags a0 a1 a2).cntAcc = a2.cntAcc := rfl
@[simp] theorem clearFlags_cntTot (a0 a1 a2 : _) : (clearFlags a0 a1 a2).cntTot = a2.cntTot := rfl
@[simp] theorem clearFlags_cntSheet (a0 a1 a2 : _) : (clearFlags a0 a1 a2).cntSheet = a2.cntSheet := rfl
@[simp] theorem clearFlags_failover (a0 a1 a2 : _) : (clearFlags a0 a1 a2).failover = a2.failover := rfl
@[simp] theorem clearFlags_sh (a0 a1 a2 : _) : (clearFlags a0 a1 a2).sh = a2.sh := rfl
@[simp] theorem clearFlags_line (a0 a1 a2 : _) : (clearFlags a0 a1 a2).line = a2.line := rfl
@[simp] theorem clearFlags_host (a0 a1 a2 : _) : (clearFlags a0 a1 a2).host = a2.host := rfl
@[simp] theorem clearFlags_cab (a0 a1 a2 : _) : (clearFlags a0 a1 a2).cab = a2.cab := rfl
@[simp] theorem clearFlags_disp (a0 a1 a2 : _) : (clearFlags a0 a1 a2).disp = a2.disp := rfl
@[simp] theorem clearFlags_cores (a0 a1 a2 : _) : (clearFlags a0 a1 a2).cores = a2.cores := rfl
@[simp] theorem clearFlags_dov (a0 a1 a2 : _) : (clearFlags a0 a1 a2).dov = a2.dov := rfl
@[simp] theorem clearFlags_lk (a0 a1 a2 : _) : (clearFlags a0 a1 a2).lk = a2.lk := rfl
@[simp] theorem clearFlags_cop (a0 a1 a2 : _) : (clearFlags a0 a1 a2).cop = a2.cop := rfl
@[simp] theorem clearFlags_dram (a0 a1 a2 : _) : (clearFlags a0 a1 a2).dram = a2.dram := rfl
@[simp] theorem clearFlags_ev (a0 a1 a2 : _) : (clearFlags a0 a1 a2).ev = a2.ev := rfl
@[simp] theorem clearFlags_sec (a0 a1 a2 : _) : (clearFlags a0 a1 a2).sec = a2.sec := rfl
@[simp] theorem clearFlags_pow (a0 a1 a2 : _) : (clearFlags a0 a1 a2).pow = a2.pow := rfl

@[simp] theorem count_pending (a0 a1 a2 a3 a4 : _) : (count a0 a1 a2 a3 a4).pending = a4.pending := rfl
@[simp] theorem count_fresh (a0 a1 a2 a3 a4 : _) : (count a0 a1 a2 a3 a4).fresh = a4.fresh := rfl
@[simp] theorem count_flags (a0 a1 a2 a3 a4 : _) : (count a0 a1 a2 a3 a4).flags = a4.flags := rfl
@[simp] theorem count_totals (a0 a1 a2 a3 a4 : _) : (count a0 a1 a2 a3 a4).totals = a4.totals := rfl
@[simp] theorem count_cntTot (a0 a1 a2 a3 a4 : _) : (count a0 a1 a2 a3 a4).cntTot = a4.cntTot := rfl
@[simp] theorem count_cntSheet (a0 a1 a2 a3 a4 : _) : (count a0 a1 a2 a3 a4).cntSheet = a4.cntSheet := rfl
@[simp] theorem count_failover (a0 a1 a2 a3 a4 : _) : (count a0 a1 a2 a3 a4).failover = a4.failover := rfl
@[simp] theorem count_sh (a0 a1 a2 a3 a4 : _) : (count a0 a1 a2 a3 a4).sh = a4.sh := rfl
@[simp] theorem count_line (a0 a1 a2 a3 a4 : _) : (count a0 a1 a2 a3 a4).line = a4.line := rfl
@[simp] theorem count_host (a0 a1 a2 a3 a4 : _) : (count a0 a1 a2 a3 a4).host = a4.host := rfl
@[simp] theorem count_cab (a0 a1 a2 a3 a4 : _) : (count a0 a1 a2 a3 a4).cab = a4.cab := rfl
@[simp] theorem count_disp (a0 a1 a2 a3 a4 : _) : (count a0 a1 a2 a3 a4).disp = a4.disp := rfl
@[simp] theorem count_cores (a0 a1 a2 a3 a4 : _) : (count a0 a1 a2 a3 a4).cores = a4.cores := rfl
@[simp] theorem count_dov (a0 a1 a2 a3 a4 : _) : (count a0 a1 a2 a3 a4).dov = a4.dov := rfl
@[simp] theorem count_lk (a0 a1 a2 a3 a4 : _) : (count a0 a1 a2 a3 a4).lk = a4.lk := rfl
@[simp] theorem count_cop (a0 a1 a2 a3 a4 : _) : (count a0 a1 a2 a3 a4).cop = a4.cop := rfl
@[simp] theorem count_dram (a0 a1 a2 a3 a4 : _) : (count a0 a1 a2 a3 a4).dram = a4.dram := rfl
@[simp] theorem count_ev (a0 a1 a2 a3 a4 : _) : (count a0 a1 a2 a3 a4).ev = a4.ev := rfl
@[simp] theorem count_sec (a0 a1 a2 a3 a4 : _) : (count a0 a1 a2 a3 a4).sec = a4.sec := rfl
@[simp] theorem count_pow (a0 a1 a2 a3 a4 : _) : (count a0 a1 a2 a3 a4).pow = a4.pow := rfl

@[simp] theorem countLate_pending (a0 a1 a2 a3 : _) : (countLate a0 a1 a2 a3).pending = a3.pending := rfl
@[simp] theorem countLate_fresh (a0 a1 a2 a3 : _) : (countLate a0 a1 a2 a3).fresh = a3.fresh := rfl
@[simp] theorem countLate_flags (a0 a1 a2 a3 : _) : (countLate a0 a1 a2 a3).flags = a3.flags := rfl
@[simp] theorem countLate_totals (a0 a1 a2 a3 : _) : (countLate a0 a1 a2 a3).totals = a3.totals := rfl
@[simp] theorem countLate_cntAcc (a0 a1 a2 a3 : _) : (countLate a0 a1 a2 a3).cntAcc = a3.cntAcc := rfl
@[simp] theorem countLate_cntTot (a0 a1 a2 a3 : _) : (countLate a0 a1 a2 a3).cntTot = a3.cntTot := rfl
@[simp] theorem countLate_cntSheet (a0 a1 a2 a3 : _) : (countLate a0 a1 a2 a3).cntSheet = a3.cntSheet := rfl
@[simp] theorem countLate_failover (a0 a1 a2 a3 : _) : (countLate a0 a1 a2 a3).failover = a3.failover := rfl
@[simp] theorem countLate_line (a0 a1 a2 a3 : _) : (countLate a0 a1 a2 a3).line = a3.line := rfl
@[simp] theorem countLate_host (a0 a1 a2 a3 : _) : (countLate a0 a1 a2 a3).host = a3.host := rfl
@[simp] theorem countLate_cab (a0 a1 a2 a3 : _) : (countLate a0 a1 a2 a3).cab = a3.cab := rfl
@[simp] theorem countLate_disp (a0 a1 a2 a3 : _) : (countLate a0 a1 a2 a3).disp = a3.disp := rfl
@[simp] theorem countLate_cores (a0 a1 a2 a3 : _) : (countLate a0 a1 a2 a3).cores = a3.cores := rfl
@[simp] theorem countLate_dov (a0 a1 a2 a3 : _) : (countLate a0 a1 a2 a3).dov = a3.dov := rfl
@[simp] theorem countLate_lk (a0 a1 a2 a3 : _) : (countLate a0 a1 a2 a3).lk = a3.lk := rfl
@[simp] theorem countLate_cop (a0 a1 a2 a3 : _) : (countLate a0 a1 a2 a3).cop = a3.cop := rfl
@[simp] theorem countLate_dram (a0 a1 a2 a3 : _) : (countLate a0 a1 a2 a3).dram = a3.dram := rfl
@[simp] theorem countLate_ev (a0 a1 a2 a3 : _) : (countLate a0 a1 a2 a3).ev = a3.ev := rfl
@[simp] theorem countLate_sec (a0 a1 a2 a3 : _) : (countLate a0 a1 a2 a3).sec = a3.sec := rfl
@[simp] theorem countLate_pow (a0 a1 a2 a3 : _) : (countLate a0 a1 a2 a3).pow = a3.pow := rfl

@[simp] theorem countMax_pending (a0 a1 a2 a3 a4 : _) : (countMax a0 a1 a2 a3 a4).pending = a4.pending := rfl
@[simp] theorem countMax_fresh (a0 a1 a2 a3 a4 : _) : (countMax a0 a1 a2 a3 a4).fresh = a4.fresh := rfl
@[simp] theorem countMax_flags (a0 a1 a2 a3 a4 : _) : (countMax a0 a1 a2 a3 a4).flags = a4.flags := rfl
@[simp] theorem countMax_totals (a0 a1 a2 a3 a4 : _) : (countMax a0 a1 a2 a3 a4).totals = a4.totals := rfl
@[simp] theorem countMax_cntTot (a0 a1 a2 a3 a4 : _) : (countMax a0 a1 a2 a3 a4).cntTot = a4.cntTot := rfl
@[simp] theorem countMax_cntSheet (a0 a1 a2 a3 a4 : _) : (countMax a0 a1 a2 a3 a4).cntSheet = a4.cntSheet := rfl
@[simp] theorem countMax_failover (a0 a1 a2 a3 a4 : _) : (countMax a0 a1 a2 a3 a4).failover = a4.failover := rfl
@[simp] theorem countMax_sh (a0 a1 a2 a3 a4 : _) : (countMax a0 a1 a2 a3 a4).sh = a4.sh := rfl
@[simp] theorem countMax_line (a0 a1 a2 a3 a4 : _) : (countMax a0 a1 a2 a3 a4).line = a4.line := rfl
@[simp] theorem countMax_host (a0 a1 a2 a3 a4 : _) : (countMax a0 a1 a2 a3 a4).host = a4.host := rfl
@[simp] theorem countMax_cab (a0 a1 a2 a3 a4 : _) : (countMax a0 a1 a2 a3 a4).cab = a4.cab := rfl
@[simp] theorem countMax_disp (a0 a1 a2 a3 a4 : _) : (countMax a0 a1 a2 a3 a4).disp = a4.disp := rfl
@[simp] theorem countMax_cores (a0 a1 a2 a3 a4 : _) : (countMax a0 a1 a2 a3 a4).cores = a4.cores := rfl
@[simp] theorem countMax_dov (a0 a1 a2 a3 a4 : _) : (countMax a0 a1 a2 a3 a4).dov = a4.dov := rfl
@[simp] theorem countMax_lk (a0 a1 a2 a3 a4 : _) : (countMax a0 a1 a2 a3 a4).lk = a4.lk := rfl
@[simp] theorem countMax_cop (a0 a1 a2 a3 a4 : _) : (countMax a0 a1 a2 a3 a4).cop = a4.cop := rfl
@[simp] theorem countMax_dram (a0 a1 a2 a3 a4 : _) : (countMax a0 a1 a2 a3 a4).dram = a4.dram := rfl
@[simp] theorem countMax_ev (a0 a1 a2 a3 a4 : _) : (countMax a0 a1 a2 a3 a4).ev = a4.ev := rfl
@[simp] theorem countMax_sec (a0 a1 a2 a3 a4 : _) : (countMax a0 a1 a2 a3 a4).sec = a4.sec := rfl
@[simp] theorem countMax_pow (a0 a1 a2 a3 a4 : _) : (countMax a0 a1 a2 a3 a4).pow = a4.pow := rfl

@[simp] theorem discardLookups_pending (a0 a1 : _) : (discardLookups a0 a1).pending = a1.pending := rfl
@[simp] theorem discardLookups_fresh (a0 a1 : _) : (discardLookups a0 a1).fresh = a1.fresh := rfl
@[simp] theorem discardLookups_flags (a0 a1 : _) : (discardLookups a0 a1).flags = a1.flags := rfl
@[simp] theorem discardLookups_totals (a0 a1 : _) : (discardLookups a0 a1).totals = a1.totals := rfl
@[simp] theorem discardLookups_cntAcc (a0 a1 : _) : (discardLookups a0 a1).cntAcc = a1.cntAcc := rfl
@[simp] theorem discardLookups_cntTot (a0 a1 : _) : (discardLookups a0 a1).cntTot = a1.cntTot := rfl
@[simp] theorem discardLookups_cntSheet (a0 a1 : _) : (discardLookups a0 a1).cntSheet = a1.cntSheet := rfl
@[simp] theorem discardLookups_failover (a0 a1 : _) : (discardLookups a0 a1).failover = a1.failover := rfl
@[simp] theorem discardLookups_sh (a0 a1 : _) : (discardLookups a0 a1).sh = a1.sh := rfl
@[simp] theorem discardLookups_line (a0 a1 : _) : (discardLookups a0 a1).line = a1.line := rfl
@[simp] theorem discardLookups_host (a0 a1 : _) : (discardLookups a0 a1).host = a1.host := rfl
@[simp] theorem discardLookups_cab (a0 a1 : _) : (discardLookups a0 a1).cab = a1.cab := rfl
@[simp] theorem discardLookups_disp (a0 a1 : _) : (discardLookups a0 a1).disp = a1.disp := rfl
@[simp] theorem discardLookups_cores (a0 a1 : _) : (discardLookups a0 a1).cores = a1.cores := rfl
@[simp] theorem discardLookups_dov (a0 a1 : _) : (discardLookups a0 a1).dov = a1.dov := rfl
@[simp] theorem discardLookups_cop (a0 a1 : _) : (discardLookups a0 a1).cop = a1.cop := rfl
@[simp] theorem discardLookups_dram (a0 a1 : _) : (discardLookups a0 a1).dram = a1.dram := rfl
@[simp] theorem discardLookups_ev (a0 a1 : _) : (discardLookups a0 a1).ev = a1.ev := rfl
@[simp] theorem discardLookups_sec (a0 a1 : _) : (discardLookups a0 a1).sec = a1.sec := rfl
@[simp] theorem discardLookups_pow (a0 a1 : _) : (discardLookups a0 a1).pow = a1.pow := rfl

@[simp] theorem dmemPut_pending (a0 a1 a2 a3 : _) : (dmemPut a0 a1 a2 a3).pending = a3.pending := rfl
@[simp] theorem dmemPut_fresh (a0 a1 a2 a3 : _) : (dmemPut a0 a1 a2 a3).fresh = a3.fresh := rfl
@[simp] theorem dmemPut_flags (a0 a1 a2 a3 : _) : (dmemPut a0 a1 a2 a3).flags = a3.flags := rfl
@[simp] theorem dmemPut_totals (a0 a1 a2 a3 : _) : (dmemPut a0 a1 a2 a3).totals = a3.totals := rfl
@[simp] theorem dmemPut_cntAcc (a0 a1 a2 a3 : _) : (dmemPut a0 a1 a2 a3).cntAcc = a3.cntAcc := rfl
@[simp] theorem dmemPut_cntTot (a0 a1 a2 a3 : _) : (dmemPut a0 a1 a2 a3).cntTot = a3.cntTot := rfl
@[simp] theorem dmemPut_cntSheet (a0 a1 a2 a3 : _) : (dmemPut a0 a1 a2 a3).cntSheet = a3.cntSheet := rfl
@[simp] theorem dmemPut_failover (a0 a1 a2 a3 : _) : (dmemPut a0 a1 a2 a3).failover = a3.failover := rfl
@[simp] theorem dmemPut_sh (a0 a1 a2 a3 : _) : (dmemPut a0 a1 a2 a3).sh = a3.sh := rfl
@[simp] theorem dmemPut_line (a0 a1 a2 a3 : _) : (dmemPut a0 a1 a2 a3).line = a3.line := rfl
@[simp] theorem dmemPut_host (a0 a1 a2 a3 : _) : (dmemPut a0 a1 a2 a3).host = a3.host := rfl
@[simp] theorem dmemPut_cab (a0 a1 a2 a3 : _) : (dmemPut a0 a1 a2 a3).cab = a3.cab := rfl
@[simp] theorem dmemPut_disp (a0 a1 a2 a3 : _) : (dmemPut a0 a1 a2 a3).disp = a3.disp := rfl
@[simp] theorem dmemPut_dov (a0 a1 a2 a3 : _) : (dmemPut a0 a1 a2 a3).dov = a3.dov := rfl
@[simp] theorem dmemPut_lk (a0 a1 a2 a3 : _) : (dmemPut a0 a1 a2 a3).lk = a3.lk := rfl
@[simp] theorem dmemPut_cop (a0 a1 a2 a3 : _) : (dmemPut a0 a1 a2 a3).cop = a3.cop := rfl
@[simp] theorem dmemPut_dram (a0 a1 a2 a3 : _) : (dmemPut a0 a1 a2 a3).dram = a3.dram := rfl
@[simp] theorem dmemPut_ev (a0 a1 a2 a3 : _) : (dmemPut a0 a1 a2 a3).ev = a3.ev := rfl
@[simp] theorem dmemPut_sec (a0 a1 a2 a3 : _) : (dmemPut a0 a1 a2 a3).sec = a3.sec := rfl
@[simp] theorem dmemPut_pow (a0 a1 a2 a3 : _) : (dmemPut a0 a1 a2 a3).pow = a3.pow := rfl

@[simp] theorem drawBytes_pending (a0 a1 : _) : (drawBytes a0 a1).pending = a1.pending := rfl
@[simp] theorem drawBytes_flags (a0 a1 : _) : (drawBytes a0 a1).flags = a1.flags := rfl
@[simp] theorem drawBytes_totals (a0 a1 : _) : (drawBytes a0 a1).totals = a1.totals := rfl
@[simp] theorem drawBytes_cntAcc (a0 a1 : _) : (drawBytes a0 a1).cntAcc = a1.cntAcc := rfl
@[simp] theorem drawBytes_cntTot (a0 a1 : _) : (drawBytes a0 a1).cntTot = a1.cntTot := rfl
@[simp] theorem drawBytes_cntSheet (a0 a1 : _) : (drawBytes a0 a1).cntSheet = a1.cntSheet := rfl
@[simp] theorem drawBytes_failover (a0 a1 : _) : (drawBytes a0 a1).failover = a1.failover := rfl
@[simp] theorem drawBytes_sh (a0 a1 : _) : (drawBytes a0 a1).sh = a1.sh := rfl
@[simp] theorem drawBytes_line (a0 a1 : _) : (drawBytes a0 a1).line = a1.line := rfl
@[simp] theorem drawBytes_host (a0 a1 : _) : (drawBytes a0 a1).host = a1.host := rfl
@[simp] theorem drawBytes_cab (a0 a1 : _) : (drawBytes a0 a1).cab = a1.cab := rfl
@[simp] theorem drawBytes_disp (a0 a1 : _) : (drawBytes a0 a1).disp = a1.disp := rfl
@[simp] theorem drawBytes_cores (a0 a1 : _) : (drawBytes a0 a1).cores = a1.cores := rfl
@[simp] theorem drawBytes_dov (a0 a1 : _) : (drawBytes a0 a1).dov = a1.dov := rfl
@[simp] theorem drawBytes_lk (a0 a1 : _) : (drawBytes a0 a1).lk = a1.lk := rfl
@[simp] theorem drawBytes_cop (a0 a1 : _) : (drawBytes a0 a1).cop = a1.cop := rfl
@[simp] theorem drawBytes_dram (a0 a1 : _) : (drawBytes a0 a1).dram = a1.dram := rfl
@[simp] theorem drawBytes_ev (a0 a1 : _) : (drawBytes a0 a1).ev = a1.ev := rfl
@[simp] theorem drawBytes_sec (a0 a1 : _) : (drawBytes a0 a1).sec = a1.sec := rfl
@[simp] theorem drawBytes_pow (a0 a1 : _) : (drawBytes a0 a1).pow = a1.pow := rfl

@[simp] theorem drawFree_pending (a0 : _) : (drawFree a0).pending = a0.pending := rfl
@[simp] theorem drawFree_flags (a0 : _) : (drawFree a0).flags = a0.flags := rfl
@[simp] theorem drawFree_totals (a0 : _) : (drawFree a0).totals = a0.totals := rfl
@[simp] theorem drawFree_cntAcc (a0 : _) : (drawFree a0).cntAcc = a0.cntAcc := rfl
@[simp] theorem drawFree_cntTot (a0 : _) : (drawFree a0).cntTot = a0.cntTot := rfl
@[simp] theorem drawFree_cntSheet (a0 : _) : (drawFree a0).cntSheet = a0.cntSheet := rfl
@[simp] theorem drawFree_failover (a0 : _) : (drawFree a0).failover = a0.failover := rfl
@[simp] theorem drawFree_sh (a0 : _) : (drawFree a0).sh = a0.sh := rfl
@[simp] theorem drawFree_line (a0 : _) : (drawFree a0).line = a0.line := rfl
@[simp] theorem drawFree_host (a0 : _) : (drawFree a0).host = a0.host := rfl
@[simp] theorem drawFree_cab (a0 : _) : (drawFree a0).cab = a0.cab := rfl
@[simp] theorem drawFree_disp (a0 : _) : (drawFree a0).disp = a0.disp := rfl
@[simp] theorem drawFree_cores (a0 : _) : (drawFree a0).cores = a0.cores := rfl
@[simp] theorem drawFree_dov (a0 : _) : (drawFree a0).dov = a0.dov := rfl
@[simp] theorem drawFree_lk (a0 : _) : (drawFree a0).lk = a0.lk := rfl
@[simp] theorem drawFree_cop (a0 : _) : (drawFree a0).cop = a0.cop := rfl
@[simp] theorem drawFree_dram (a0 : _) : (drawFree a0).dram = a0.dram := rfl
@[simp] theorem drawFree_ev (a0 : _) : (drawFree a0).ev = a0.ev := rfl
@[simp] theorem drawFree_sec (a0 : _) : (drawFree a0).sec = a0.sec := rfl
@[simp] theorem drawFree_pow (a0 : _) : (drawFree a0).pow = a0.pow := rfl

@[simp] theorem dropItem_pending (a0 a1 : _) : (dropItem a0 a1).pending = a1.pending := rfl
@[simp] theorem dropItem_fresh (a0 a1 : _) : (dropItem a0 a1).fresh = a1.fresh := rfl
@[simp] theorem dropItem_flags (a0 a1 : _) : (dropItem a0 a1).flags = a1.flags := rfl
@[simp] theorem dropItem_totals (a0 a1 : _) : (dropItem a0 a1).totals = a1.totals := rfl
@[simp] theorem dropItem_cntAcc (a0 a1 : _) : (dropItem a0 a1).cntAcc = a1.cntAcc := rfl
@[simp] theorem dropItem_cntTot (a0 a1 : _) : (dropItem a0 a1).cntTot = a1.cntTot := rfl
@[simp] theorem dropItem_cntSheet (a0 a1 : _) : (dropItem a0 a1).cntSheet = a1.cntSheet := rfl
@[simp] theorem dropItem_failover (a0 a1 : _) : (dropItem a0 a1).failover = a1.failover := rfl
@[simp] theorem dropItem_sh (a0 a1 : _) : (dropItem a0 a1).sh = a1.sh := rfl
@[simp] theorem dropItem_line (a0 a1 : _) : (dropItem a0 a1).line = a1.line := rfl
@[simp] theorem dropItem_host (a0 a1 : _) : (dropItem a0 a1).host = a1.host := rfl
@[simp] theorem dropItem_cab (a0 a1 : _) : (dropItem a0 a1).cab = a1.cab := rfl
@[simp] theorem dropItem_cores (a0 a1 : _) : (dropItem a0 a1).cores = a1.cores := rfl
@[simp] theorem dropItem_dov (a0 a1 : _) : (dropItem a0 a1).dov = a1.dov := rfl
@[simp] theorem dropItem_lk (a0 a1 : _) : (dropItem a0 a1).lk = a1.lk := rfl
@[simp] theorem dropItem_cop (a0 a1 : _) : (dropItem a0 a1).cop = a1.cop := rfl
@[simp] theorem dropItem_dram (a0 a1 : _) : (dropItem a0 a1).dram = a1.dram := rfl
@[simp] theorem dropItem_ev (a0 a1 : _) : (dropItem a0 a1).ev = a1.ev := rfl
@[simp] theorem dropItem_sec (a0 a1 : _) : (dropItem a0 a1).sec = a1.sec := rfl
@[simp] theorem dropItem_pow (a0 a1 : _) : (dropItem a0 a1).pow = a1.pow := rfl

@[simp] theorem endWakePause_pending (a0 : _) : (endWakePause a0).pending = a0.pending := rfl
@[simp] theorem endWakePause_fresh (a0 : _) : (endWakePause a0).fresh = a0.fresh := rfl
@[simp] theorem endWakePause_flags (a0 : _) : (endWakePause a0).flags = a0.flags := rfl
@[simp] theorem endWakePause_totals (a0 : _) : (endWakePause a0).totals = a0.totals := rfl
@[simp] theorem endWakePause_cntAcc (a0 : _) : (endWakePause a0).cntAcc = a0.cntAcc := rfl
@[simp] theorem endWakePause_cntTot (a0 : _) : (endWakePause a0).cntTot = a0.cntTot := rfl
@[simp] theorem endWakePause_cntSheet (a0 : _) : (endWakePause a0).cntSheet = a0.cntSheet := rfl
@[simp] theorem endWakePause_failover (a0 : _) : (endWakePause a0).failover = a0.failover := rfl
@[simp] theorem endWakePause_sh (a0 : _) : (endWakePause a0).sh = a0.sh := rfl
@[simp] theorem endWakePause_line (a0 : _) : (endWakePause a0).line = a0.line := rfl
@[simp] theorem endWakePause_host (a0 : _) : (endWakePause a0).host = a0.host := rfl
@[simp] theorem endWakePause_cab (a0 : _) : (endWakePause a0).cab = a0.cab := rfl
@[simp] theorem endWakePause_disp (a0 : _) : (endWakePause a0).disp = a0.disp := rfl
@[simp] theorem endWakePause_cores (a0 : _) : (endWakePause a0).cores = a0.cores := rfl
@[simp] theorem endWakePause_dov (a0 : _) : (endWakePause a0).dov = a0.dov := rfl
@[simp] theorem endWakePause_lk (a0 : _) : (endWakePause a0).lk = a0.lk := rfl
@[simp] theorem endWakePause_cop (a0 : _) : (endWakePause a0).cop = a0.cop := rfl
@[simp] theorem endWakePause_dram (a0 : _) : (endWakePause a0).dram = a0.dram := rfl
@[simp] theorem endWakePause_ev (a0 : _) : (endWakePause a0).ev = a0.ev := rfl
@[simp] theorem endWakePause_sec (a0 : _) : (endWakePause a0).sec = a0.sec := rfl

@[simp] theorem joinDrawer_pending (a0 a1 a2 : _) : (joinDrawer a0 a1 a2).pending = a2.pending := rfl
@[simp] theorem joinDrawer_fresh (a0 a1 a2 : _) : (joinDrawer a0 a1 a2).fresh = a2.fresh := rfl
@[simp] theorem joinDrawer_flags (a0 a1 a2 : _) : (joinDrawer a0 a1 a2).flags = a2.flags := rfl
@[simp] theorem joinDrawer_totals (a0 a1 a2 : _) : (joinDrawer a0 a1 a2).totals = a2.totals := rfl
@[simp] theorem joinDrawer_cntAcc (a0 a1 a2 : _) : (joinDrawer a0 a1 a2).cntAcc = a2.cntAcc := rfl
@[simp] theorem joinDrawer_cntTot (a0 a1 a2 : _) : (joinDrawer a0 a1 a2).cntTot = a2.cntTot := rfl
@[simp] theorem joinDrawer_cntSheet (a0 a1 a2 : _) : (joinDrawer a0 a1 a2).cntSheet = a2.cntSheet := rfl
@[simp] theorem joinDrawer_failover (a0 a1 a2 : _) : (joinDrawer a0 a1 a2).failover = a2.failover := rfl
@[simp] theorem joinDrawer_sh (a0 a1 a2 : _) : (joinDrawer a0 a1 a2).sh = a2.sh := rfl
@[simp] theorem joinDrawer_line (a0 a1 a2 : _) : (joinDrawer a0 a1 a2).line = a2.line := rfl
@[simp] theorem joinDrawer_host (a0 a1 a2 : _) : (joinDrawer a0 a1 a2).host = a2.host := rfl
@[simp] theorem joinDrawer_disp (a0 a1 a2 : _) : (joinDrawer a0 a1 a2).disp = a2.disp := rfl
@[simp] theorem joinDrawer_cores (a0 a1 a2 : _) : (joinDrawer a0 a1 a2).cores = a2.cores := rfl
@[simp] theorem joinDrawer_dov (a0 a1 a2 : _) : (joinDrawer a0 a1 a2).dov = a2.dov := rfl
@[simp] theorem joinDrawer_lk (a0 a1 a2 : _) : (joinDrawer a0 a1 a2).lk = a2.lk := rfl
@[simp] theorem joinDrawer_cop (a0 a1 a2 : _) : (joinDrawer a0 a1 a2).cop = a2.cop := rfl
@[simp] theorem joinDrawer_dram (a0 a1 a2 : _) : (joinDrawer a0 a1 a2).dram = a2.dram := rfl
@[simp] theorem joinDrawer_ev (a0 a1 a2 : _) : (joinDrawer a0 a1 a2).ev = a2.ev := rfl
@[simp] theorem joinDrawer_sec (a0 a1 a2 : _) : (joinDrawer a0 a1 a2).sec = a2.sec := rfl
@[simp] theorem joinDrawer_pow (a0 a1 a2 : _) : (joinDrawer a0 a1 a2).pow = a2.pow := rfl

@[simp] theorem l4Clear_pending (a0 : _) : (l4Clear a0).pending = a0.pending := rfl
@[simp] theorem l4Clear_fresh (a0 : _) : (l4Clear a0).fresh = a0.fresh := rfl

@[simp] theorem leaveDrawer_pending (a0 a1 a2 : _) : (leaveDrawer a0 a1 a2).pending = a2.pending := rfl
@[simp] theorem leaveDrawer_fresh (a0 a1 a2 : _) : (leaveDrawer a0 a1 a2).fresh = a2.fresh := rfl
@[simp] theorem leaveDrawer_flags (a0 a1 a2 : _) : (leaveDrawer a0 a1 a2).flags = a2.flags := rfl
@[simp] theorem leaveDrawer_totals (a0 a1 a2 : _) : (leaveDrawer a0 a1 a2).totals = a2.totals := rfl
@[simp] theorem leaveDrawer_cntAcc (a0 a1 a2 : _) : (leaveDrawer a0 a1 a2).cntAcc = a2.cntAcc := rfl
@[simp] theorem leaveDrawer_cntTot (a0 a1 a2 : _) : (leaveDrawer a0 a1 a2).cntTot = a2.cntTot := rfl
@[simp] theorem leaveDrawer_cntSheet (a0 a1 a2 : _) : (leaveDrawer a0 a1 a2).cntSheet = a2.cntSheet := rfl
@[simp] theorem leaveDrawer_failover (a0 a1 a2 : _) : (leaveDrawer a0 a1 a2).failover = a2.failover := rfl
@[simp] theorem leaveDrawer_sh (a0 a1 a2 : _) : (leaveDrawer a0 a1 a2).sh = a2.sh := rfl
@[simp] theorem leaveDrawer_line (a0 a1 a2 : _) : (leaveDrawer a0 a1 a2).line = a2.line := rfl
@[simp] theorem leaveDrawer_host (a0 a1 a2 : _) : (leaveDrawer a0 a1 a2).host = a2.host := rfl
@[simp] theorem leaveDrawer_disp (a0 a1 a2 : _) : (leaveDrawer a0 a1 a2).disp = a2.disp := rfl
@[simp] theorem leaveDrawer_cores (a0 a1 a2 : _) : (leaveDrawer a0 a1 a2).cores = a2.cores := rfl
@[simp] theorem leaveDrawer_dov (a0 a1 a2 : _) : (leaveDrawer a0 a1 a2).dov = a2.dov := rfl
@[simp] theorem leaveDrawer_lk (a0 a1 a2 : _) : (leaveDrawer a0 a1 a2).lk = a2.lk := rfl
@[simp] theorem leaveDrawer_cop (a0 a1 a2 : _) : (leaveDrawer a0 a1 a2).cop = a2.cop := rfl
@[simp] theorem leaveDrawer_dram (a0 a1 a2 : _) : (leaveDrawer a0 a1 a2).dram = a2.dram := rfl
@[simp] theorem leaveDrawer_ev (a0 a1 a2 : _) : (leaveDrawer a0 a1 a2).ev = a2.ev := rfl
@[simp] theorem leaveDrawer_sec (a0 a1 a2 : _) : (leaveDrawer a0 a1 a2).sec = a2.sec := rfl
@[simp] theorem leaveDrawer_pow (a0 a1 a2 : _) : (leaveDrawer a0 a1 a2).pow = a2.pow := rfl

@[simp] theorem loseSpilled_pending (a0 a1 : _) : (loseSpilled a0 a1).pending = a1.pending := rfl
@[simp] theorem loseSpilled_fresh (a0 a1 : _) : (loseSpilled a0 a1).fresh = a1.fresh := rfl
@[simp] theorem loseSpilled_flags (a0 a1 : _) : (loseSpilled a0 a1).flags = a1.flags := rfl
@[simp] theorem loseSpilled_totals (a0 a1 : _) : (loseSpilled a0 a1).totals = a1.totals := rfl
@[simp] theorem loseSpilled_cntAcc (a0 a1 : _) : (loseSpilled a0 a1).cntAcc = a1.cntAcc := rfl
@[simp] theorem loseSpilled_cntTot (a0 a1 : _) : (loseSpilled a0 a1).cntTot = a1.cntTot := rfl
@[simp] theorem loseSpilled_cntSheet (a0 a1 : _) : (loseSpilled a0 a1).cntSheet = a1.cntSheet := rfl
@[simp] theorem loseSpilled_failover (a0 a1 : _) : (loseSpilled a0 a1).failover = a1.failover := rfl
@[simp] theorem loseSpilled_sh (a0 a1 : _) : (loseSpilled a0 a1).sh = a1.sh := rfl
@[simp] theorem loseSpilled_line (a0 a1 : _) : (loseSpilled a0 a1).line = a1.line := rfl
@[simp] theorem loseSpilled_host (a0 a1 : _) : (loseSpilled a0 a1).host = a1.host := rfl
@[simp] theorem loseSpilled_disp (a0 a1 : _) : (loseSpilled a0 a1).disp = a1.disp := rfl
@[simp] theorem loseSpilled_cores (a0 a1 : _) : (loseSpilled a0 a1).cores = a1.cores := rfl
@[simp] theorem loseSpilled_dov (a0 a1 : _) : (loseSpilled a0 a1).dov = a1.dov := rfl
@[simp] theorem loseSpilled_lk (a0 a1 : _) : (loseSpilled a0 a1).lk = a1.lk := rfl
@[simp] theorem loseSpilled_cop (a0 a1 : _) : (loseSpilled a0 a1).cop = a1.cop := rfl
@[simp] theorem loseSpilled_dram (a0 a1 : _) : (loseSpilled a0 a1).dram = a1.dram := rfl
@[simp] theorem loseSpilled_ev (a0 a1 : _) : (loseSpilled a0 a1).ev = a1.ev := rfl
@[simp] theorem loseSpilled_sec (a0 a1 : _) : (loseSpilled a0 a1).sec = a1.sec := rfl
@[simp] theorem loseSpilled_pow (a0 a1 : _) : (loseSpilled a0 a1).pow = a1.pow := rfl

@[simp] theorem markCause_pending (a0 a1 : _) : (markCause a0 a1).pending = a1.pending := rfl
@[simp] theorem markCause_fresh (a0 a1 : _) : (markCause a0 a1).fresh = a1.fresh := rfl
@[simp] theorem markCause_flags (a0 a1 : _) : (markCause a0 a1).flags = a1.flags := rfl
@[simp] theorem markCause_totals (a0 a1 : _) : (markCause a0 a1).totals = a1.totals := rfl
@[simp] theorem markCause_cntAcc (a0 a1 : _) : (markCause a0 a1).cntAcc = a1.cntAcc := rfl
@[simp] theorem markCause_cntTot (a0 a1 : _) : (markCause a0 a1).cntTot = a1.cntTot := rfl
@[simp] theorem markCause_cntSheet (a0 a1 : _) : (markCause a0 a1).cntSheet = a1.cntSheet := rfl
@[simp] theorem markCause_failover (a0 a1 : _) : (markCause a0 a1).failover = a1.failover := rfl
@[simp] theorem markCause_sh (a0 a1 : _) : (markCause a0 a1).sh = a1.sh := rfl
@[simp] theorem markCause_line (a0 a1 : _) : (markCause a0 a1).line = a1.line := rfl
@[simp] theorem markCause_cab (a0 a1 : _) : (markCause a0 a1).cab = a1.cab := rfl
@[simp] theorem markCause_disp (a0 a1 : _) : (markCause a0 a1).disp = a1.disp := rfl
@[simp] theorem markCause_cores (a0 a1 : _) : (markCause a0 a1).cores = a1.cores := rfl
@[simp] theorem markCause_dov (a0 a1 : _) : (markCause a0 a1).dov = a1.dov := rfl
@[simp] theorem markCause_lk (a0 a1 : _) : (markCause a0 a1).lk = a1.lk := rfl
@[simp] theorem markCause_cop (a0 a1 : _) : (markCause a0 a1).cop = a1.cop := rfl
@[simp] theorem markCause_dram (a0 a1 : _) : (markCause a0 a1).dram = a1.dram := rfl
@[simp] theorem markCause_ev (a0 a1 : _) : (markCause a0 a1).ev = a1.ev := rfl
@[simp] theorem markCause_sec (a0 a1 : _) : (markCause a0 a1).sec = a1.sec := rfl
@[simp] theorem markCause_pow (a0 a1 : _) : (markCause a0 a1).pow = a1.pow := rfl

@[simp] theorem markProgress_pending (a0 a1 : _) : (markProgress a0 a1).pending = a1.pending := rfl
@[simp] theorem markProgress_fresh (a0 a1 : _) : (markProgress a0 a1).fresh = a1.fresh := rfl
@[simp] theorem markProgress_flags (a0 a1 : _) : (markProgress a0 a1).flags = a1.flags := rfl
@[simp] theorem markProgress_totals (a0 a1 : _) : (markProgress a0 a1).totals = a1.totals := rfl
@[simp] theorem markProgress_cntAcc (a0 a1 : _) : (markProgress a0 a1).cntAcc = a1.cntAcc := rfl
@[simp] theorem markProgress_cntTot (a0 a1 : _) : (markProgress a0 a1).cntTot = a1.cntTot := rfl
@[simp] theorem markProgress_cntSheet (a0 a1 : _) : (markProgress a0 a1).cntSheet = a1.cntSheet := rfl
@[simp] theorem markProgress_failover (a0 a1 : _) : (markProgress a0 a1).failover = a1.failover := rfl
@[simp] theorem markProgress_sh (a0 a1 : _) : (markProgress a0 a1).sh = a1.sh := rfl
@[simp] theorem markProgress_line (a0 a1 : _) : (markProgress a0 a1).line = a1.line := rfl
@[simp] theorem markProgress_host (a0 a1 : _) : (markProgress a0 a1).host = a1.host := rfl
@[simp] theorem markProgress_cab (a0 a1 : _) : (markProgress a0 a1).cab = a1.cab := rfl
@[simp] theorem markProgress_disp (a0 a1 : _) : (markProgress a0 a1).disp = a1.disp := rfl
@[simp] theorem markProgress_cores (a0 a1 : _) : (markProgress a0 a1).cores = a1.cores := rfl
@[simp] theorem markProgress_lk (a0 a1 : _) : (markProgress a0 a1).lk = a1.lk := rfl
@[simp] theorem markProgress_cop (a0 a1 : _) : (markProgress a0 a1).cop = a1.cop := rfl
@[simp] theorem markProgress_dram (a0 a1 : _) : (markProgress a0 a1).dram = a1.dram := rfl
@[simp] theorem markProgress_ev (a0 a1 : _) : (markProgress a0 a1).ev = a1.ev := rfl
@[simp] theorem markProgress_sec (a0 a1 : _) : (markProgress a0 a1).sec = a1.sec := rfl
@[simp] theorem markProgress_pow (a0 a1 : _) : (markProgress a0 a1).pow = a1.pow := rfl

@[simp] theorem noteTraffic_pending (a0 : _) : (noteTraffic a0).pending = a0.pending := rfl
@[simp] theorem noteTraffic_fresh (a0 : _) : (noteTraffic a0).fresh = a0.fresh := rfl
@[simp] theorem noteTraffic_flags (a0 : _) : (noteTraffic a0).flags = a0.flags := rfl
@[simp] theorem noteTraffic_totals (a0 : _) : (noteTraffic a0).totals = a0.totals := rfl
@[simp] theorem noteTraffic_cntAcc (a0 : _) : (noteTraffic a0).cntAcc = a0.cntAcc := rfl
@[simp] theorem noteTraffic_cntTot (a0 : _) : (noteTraffic a0).cntTot = a0.cntTot := rfl
@[simp] theorem noteTraffic_cntSheet (a0 : _) : (noteTraffic a0).cntSheet = a0.cntSheet := rfl
@[simp] theorem noteTraffic_failover (a0 : _) : (noteTraffic a0).failover = a0.failover := rfl
@[simp] theorem noteTraffic_sh (a0 : _) : (noteTraffic a0).sh = a0.sh := rfl
@[simp] theorem noteTraffic_line (a0 : _) : (noteTraffic a0).line = a0.line := rfl
@[simp] theorem noteTraffic_host (a0 : _) : (noteTraffic a0).host = a0.host := rfl
@[simp] theorem noteTraffic_cab (a0 : _) : (noteTraffic a0).cab = a0.cab := rfl
@[simp] theorem noteTraffic_disp (a0 : _) : (noteTraffic a0).disp = a0.disp := rfl
@[simp] theorem noteTraffic_cores (a0 : _) : (noteTraffic a0).cores = a0.cores := rfl
@[simp] theorem noteTraffic_dov (a0 : _) : (noteTraffic a0).dov = a0.dov := rfl
@[simp] theorem noteTraffic_lk (a0 : _) : (noteTraffic a0).lk = a0.lk := rfl
@[simp] theorem noteTraffic_cop (a0 : _) : (noteTraffic a0).cop = a0.cop := rfl
@[simp] theorem noteTraffic_dram (a0 : _) : (noteTraffic a0).dram = a0.dram := rfl
@[simp] theorem noteTraffic_ev (a0 : _) : (noteTraffic a0).ev = a0.ev := rfl
@[simp] theorem noteTraffic_sec (a0 : _) : (noteTraffic a0).sec = a0.sec := rfl

@[simp] theorem putItem_pending (a0 a1 a2 : _) : (putItem a0 a1 a2).pending = a2.pending := rfl
@[simp] theorem putItem_fresh (a0 a1 a2 : _) : (putItem a0 a1 a2).fresh = a2.fresh := rfl
@[simp] theorem putItem_flags (a0 a1 a2 : _) : (putItem a0 a1 a2).flags = a2.flags := rfl
@[simp] theorem putItem_totals (a0 a1 a2 : _) : (putItem a0 a1 a2).totals = a2.totals := rfl
@[simp] theorem putItem_cntAcc (a0 a1 a2 : _) : (putItem a0 a1 a2).cntAcc = a2.cntAcc := rfl
@[simp] theorem putItem_cntTot (a0 a1 a2 : _) : (putItem a0 a1 a2).cntTot = a2.cntTot := rfl
@[simp] theorem putItem_cntSheet (a0 a1 a2 : _) : (putItem a0 a1 a2).cntSheet = a2.cntSheet := rfl
@[simp] theorem putItem_failover (a0 a1 a2 : _) : (putItem a0 a1 a2).failover = a2.failover := rfl
@[simp] theorem putItem_sh (a0 a1 a2 : _) : (putItem a0 a1 a2).sh = a2.sh := rfl
@[simp] theorem putItem_line (a0 a1 a2 : _) : (putItem a0 a1 a2).line = a2.line := rfl
@[simp] theorem putItem_host (a0 a1 a2 : _) : (putItem a0 a1 a2).host = a2.host := rfl
@[simp] theorem putItem_cab (a0 a1 a2 : _) : (putItem a0 a1 a2).cab = a2.cab := rfl
@[simp] theorem putItem_cores (a0 a1 a2 : _) : (putItem a0 a1 a2).cores = a2.cores := rfl
@[simp] theorem putItem_dov (a0 a1 a2 : _) : (putItem a0 a1 a2).dov = a2.dov := rfl
@[simp] theorem putItem_lk (a0 a1 a2 : _) : (putItem a0 a1 a2).lk = a2.lk := rfl
@[simp] theorem putItem_cop (a0 a1 a2 : _) : (putItem a0 a1 a2).cop = a2.cop := rfl
@[simp] theorem putItem_dram (a0 a1 a2 : _) : (putItem a0 a1 a2).dram = a2.dram := rfl
@[simp] theorem putItem_ev (a0 a1 a2 : _) : (putItem a0 a1 a2).ev = a2.ev := rfl
@[simp] theorem putItem_sec (a0 a1 a2 : _) : (putItem a0 a1 a2).sec = a2.sec := rfl
@[simp] theorem putItem_pow (a0 a1 a2 : _) : (putItem a0 a1 a2).pow = a2.pow := rfl

@[simp] theorem retireCells_pending (a0 a1 : _) : (retireCells a0 a1).pending = a1.pending := rfl
@[simp] theorem retireCells_fresh (a0 a1 : _) : (retireCells a0 a1).fresh = a1.fresh := rfl
@[simp] theorem retireCells_flags (a0 a1 : _) : (retireCells a0 a1).flags = a1.flags := rfl
@[simp] theorem retireCells_totals (a0 a1 : _) : (retireCells a0 a1).totals = a1.totals := rfl
@[simp] theorem retireCells_cntAcc (a0 a1 : _) : (retireCells a0 a1).cntAcc = a1.cntAcc := rfl
@[simp] theorem retireCells_cntTot (a0 a1 : _) : (retireCells a0 a1).cntTot = a1.cntTot := rfl
@[simp] theorem retireCells_cntSheet (a0 a1 : _) : (retireCells a0 a1).cntSheet = a1.cntSheet := rfl
@[simp] theorem retireCells_failover (a0 a1 : _) : (retireCells a0 a1).failover = a1.failover := rfl
@[simp] theorem retireCells_sh (a0 a1 : _) : (retireCells a0 a1).sh = a1.sh := rfl
@[simp] theorem retireCells_line (a0 a1 : _) : (retireCells a0 a1).line = a1.line := rfl
@[simp] theorem retireCells_host (a0 a1 : _) : (retireCells a0 a1).host = a1.host := rfl
@[simp] theorem retireCells_disp (a0 a1 : _) : (retireCells a0 a1).disp = a1.disp := rfl
@[simp] theorem retireCells_cores (a0 a1 : _) : (retireCells a0 a1).cores = a1.cores := rfl
@[simp] theorem retireCells_dov (a0 a1 : _) : (retireCells a0 a1).dov = a1.dov := rfl
@[simp] theorem retireCells_lk (a0 a1 : _) : (retireCells a0 a1).lk = a1.lk := rfl
@[simp] theorem retireCells_cop (a0 a1 : _) : (retireCells a0 a1).cop = a1.cop := rfl
@[simp] theorem retireCells_dram (a0 a1 : _) : (retireCells a0 a1).dram = a1.dram := rfl
@[simp] theorem retireCells_ev (a0 a1 : _) : (retireCells a0 a1).ev = a1.ev := rfl
@[simp] theorem retireCells_sec (a0 a1 : _) : (retireCells a0 a1).sec = a1.sec := rfl
@[simp] theorem retireCells_pow (a0 a1 : _) : (retireCells a0 a1).pow = a1.pow := rfl

@[simp] theorem setChan_pending (a0 a1 a2 : _) : (setChan a0 a1 a2).pending = a2.pending := rfl
@[simp] theorem setChan_fresh (a0 a1 a2 : _) : (setChan a0 a1 a2).fresh = a2.fresh := rfl
@[simp] theorem setChan_flags (a0 a1 a2 : _) : (setChan a0 a1 a2).flags = a2.flags := rfl
@[simp] theorem setChan_totals (a0 a1 a2 : _) : (setChan a0 a1 a2).totals = a2.totals := rfl
@[simp] theorem setChan_cntAcc (a0 a1 a2 : _) : (setChan a0 a1 a2).cntAcc = a2.cntAcc := rfl
@[simp] theorem setChan_cntTot (a0 a1 a2 : _) : (setChan a0 a1 a2).cntTot = a2.cntTot := rfl
@[simp] theorem setChan_cntSheet (a0 a1 a2 : _) : (setChan a0 a1 a2).cntSheet = a2.cntSheet := rfl
@[simp] theorem setChan_failover (a0 a1 a2 : _) : (setChan a0 a1 a2).failover = a2.failover := rfl
@[simp] theorem setChan_sh (a0 a1 a2 : _) : (setChan a0 a1 a2).sh = a2.sh := rfl
@[simp] theorem setChan_line (a0 a1 a2 : _) : (setChan a0 a1 a2).line = a2.line := rfl
@[simp] theorem setChan_host (a0 a1 a2 : _) : (setChan a0 a1 a2).host = a2.host := rfl
@[simp] theorem setChan_cab (a0 a1 a2 : _) : (setChan a0 a1 a2).cab = a2.cab := rfl
@[simp] theorem setChan_disp (a0 a1 a2 : _) : (setChan a0 a1 a2).disp = a2.disp := rfl
@[simp] theorem setChan_cores (a0 a1 a2 : _) : (setChan a0 a1 a2).cores = a2.cores := rfl
@[simp] theorem setChan_lk (a0 a1 a2 : _) : (setChan a0 a1 a2).lk = a2.lk := rfl
@[simp] theorem setChan_cop (a0 a1 a2 : _) : (setChan a0 a1 a2).cop = a2.cop := rfl
@[simp] theorem setChan_dram (a0 a1 a2 : _) : (setChan a0 a1 a2).dram = a2.dram := rfl
@[simp] theorem setChan_ev (a0 a1 a2 : _) : (setChan a0 a1 a2).ev = a2.ev := rfl
@[simp] theorem setChan_sec (a0 a1 a2 : _) : (setChan a0 a1 a2).sec = a2.sec := rfl
@[simp] theorem setChan_pow (a0 a1 a2 : _) : (setChan a0 a1 a2).pow = a2.pow := rfl

@[simp] theorem setChanState_pending (a0 a1 a2 : _) : (setChanState a0 a1 a2).pending = a2.pending := rfl
@[simp] theorem setChanState_fresh (a0 a1 a2 : _) : (setChanState a0 a1 a2).fresh = a2.fresh := rfl
@[simp] theorem setChanState_flags (a0 a1 a2 : _) : (setChanState a0 a1 a2).flags = a2.flags := rfl
@[simp] theorem setChanState_totals (a0 a1 a2 : _) : (setChanState a0 a1 a2).totals = a2.totals := rfl
@[simp] theorem setChanState_cntAcc (a0 a1 a2 : _) : (setChanState a0 a1 a2).cntAcc = a2.cntAcc := rfl
@[simp] theorem setChanState_cntTot (a0 a1 a2 : _) : (setChanState a0 a1 a2).cntTot = a2.cntTot := rfl
@[simp] theorem setChanState_cntSheet (a0 a1 a2 : _) : (setChanState a0 a1 a2).cntSheet = a2.cntSheet := rfl
@[simp] theorem setChanState_failover (a0 a1 a2 : _) : (setChanState a0 a1 a2).failover = a2.failover := rfl
@[simp] theorem setChanState_sh (a0 a1 a2 : _) : (setChanState a0 a1 a2).sh = a2.sh := rfl
@[simp] theorem setChanState_line (a0 a1 a2 : _) : (setChanState a0 a1 a2).line = a2.line := rfl
@[simp] theorem setChanState_host (a0 a1 a2 : _) : (setChanState a0 a1 a2).host = a2.host := rfl
@[simp] theorem setChanState_cab (a0 a1 a2 : _) : (setChanState a0 a1 a2).cab = a2.cab := rfl
@[simp] theorem setChanState_disp (a0 a1 a2 : _) : (setChanState a0 a1 a2).disp = a2.disp := rfl
@[simp] theorem setChanState_cores (a0 a1 a2 : _) : (setChanState a0 a1 a2).cores = a2.cores := rfl
@[simp] theorem setChanState_dov (a0 a1 a2 : _) : (setChanState a0 a1 a2).dov = a2.dov := rfl
@[simp] theorem setChanState_lk (a0 a1 a2 : _) : (setChanState a0 a1 a2).lk = a2.lk := rfl
@[simp] theorem setChanState_cop (a0 a1 a2 : _) : (setChanState a0 a1 a2).cop = a2.cop := rfl
@[simp] theorem setChanState_ev (a0 a1 a2 : _) : (setChanState a0 a1 a2).ev = a2.ev := rfl
@[simp] theorem setChanState_sec (a0 a1 a2 : _) : (setChanState a0 a1 a2).sec = a2.sec := rfl
@[simp] theorem setChanState_pow (a0 a1 a2 : _) : (setChanState a0 a1 a2).pow = a2.pow := rfl

@[simp] theorem setDrawer_pending (a0 a1 a2 : _) : (setDrawer a0 a1 a2).pending = a2.pending := rfl
@[simp] theorem setDrawer_fresh (a0 a1 a2 : _) : (setDrawer a0 a1 a2).fresh = a2.fresh := rfl
@[simp] theorem setDrawer_flags (a0 a1 a2 : _) : (setDrawer a0 a1 a2).flags = a2.flags := rfl
@[simp] theorem setDrawer_totals (a0 a1 a2 : _) : (setDrawer a0 a1 a2).totals = a2.totals := rfl
@[simp] theorem setDrawer_cntAcc (a0 a1 a2 : _) : (setDrawer a0 a1 a2).cntAcc = a2.cntAcc := rfl
@[simp] theorem setDrawer_cntTot (a0 a1 a2 : _) : (setDrawer a0 a1 a2).cntTot = a2.cntTot := rfl
@[simp] theorem setDrawer_cntSheet (a0 a1 a2 : _) : (setDrawer a0 a1 a2).cntSheet = a2.cntSheet := rfl
@[simp] theorem setDrawer_failover (a0 a1 a2 : _) : (setDrawer a0 a1 a2).failover = a2.failover := rfl
@[simp] theorem setDrawer_sh (a0 a1 a2 : _) : (setDrawer a0 a1 a2).sh = a2.sh := rfl
@[simp] theorem setDrawer_line (a0 a1 a2 : _) : (setDrawer a0 a1 a2).line = a2.line := rfl
@[simp] theorem setDrawer_host (a0 a1 a2 : _) : (setDrawer a0 a1 a2).host = a2.host := rfl
@[simp] theorem setDrawer_disp (a0 a1 a2 : _) : (setDrawer a0 a1 a2).disp = a2.disp := rfl
@[simp] theorem setDrawer_cores (a0 a1 a2 : _) : (setDrawer a0 a1 a2).cores = a2.cores := rfl
@[simp] theorem setDrawer_dov (a0 a1 a2 : _) : (setDrawer a0 a1 a2).dov = a2.dov := rfl
@[simp] theorem setDrawer_lk (a0 a1 a2 : _) : (setDrawer a0 a1 a2).lk = a2.lk := rfl
@[simp] theorem setDrawer_cop (a0 a1 a2 : _) : (setDrawer a0 a1 a2).cop = a2.cop := rfl
@[simp] theorem setDrawer_dram (a0 a1 a2 : _) : (setDrawer a0 a1 a2).dram = a2.dram := rfl
@[simp] theorem setDrawer_ev (a0 a1 a2 : _) : (setDrawer a0 a1 a2).ev = a2.ev := rfl
@[simp] theorem setDrawer_sec (a0 a1 a2 : _) : (setDrawer a0 a1 a2).sec = a2.sec := rfl
@[simp] theorem setDrawer_pow (a0 a1 a2 : _) : (setDrawer a0 a1 a2).pow = a2.pow := rfl

@[simp] theorem setExr_pending (a0 a1 a2 : _) : (setExr a0 a1 a2).pending = a2.pending := rfl
@[simp] theorem setExr_fresh (a0 a1 a2 : _) : (setExr a0 a1 a2).fresh = a2.fresh := rfl
@[simp] theorem setExr_flags (a0 a1 a2 : _) : (setExr a0 a1 a2).flags = a2.flags := rfl
@[simp] theorem setExr_totals (a0 a1 a2 : _) : (setExr a0 a1 a2).totals = a2.totals := rfl
@[simp] theorem setExr_cntAcc (a0 a1 a2 : _) : (setExr a0 a1 a2).cntAcc = a2.cntAcc := rfl
@[simp] theorem setExr_cntTot (a0 a1 a2 : _) : (setExr a0 a1 a2).cntTot = a2.cntTot := rfl
@[simp] theorem setExr_cntSheet (a0 a1 a2 : _) : (setExr a0 a1 a2).cntSheet = a2.cntSheet := rfl
@[simp] theorem setExr_failover (a0 a1 a2 : _) : (setExr a0 a1 a2).failover = a2.failover := rfl
@[simp] theorem setExr_sh (a0 a1 a2 : _) : (setExr a0 a1 a2).sh = a2.sh := rfl
@[simp] theorem setExr_line (a0 a1 a2 : _) : (setExr a0 a1 a2).line = a2.line := rfl
@[simp] theorem setExr_cab (a0 a1 a2 : _) : (setExr a0 a1 a2).cab = a2.cab := rfl
@[simp] theorem setExr_disp (a0 a1 a2 : _) : (setExr a0 a1 a2).disp = a2.disp := rfl
@[simp] theorem setExr_cores (a0 a1 a2 : _) : (setExr a0 a1 a2).cores = a2.cores := rfl
@[simp] theorem setExr_dov (a0 a1 a2 : _) : (setExr a0 a1 a2).dov = a2.dov := rfl
@[simp] theorem setExr_lk (a0 a1 a2 : _) : (setExr a0 a1 a2).lk = a2.lk := rfl
@[simp] theorem setExr_cop (a0 a1 a2 : _) : (setExr a0 a1 a2).cop = a2.cop := rfl
@[simp] theorem setExr_dram (a0 a1 a2 : _) : (setExr a0 a1 a2).dram = a2.dram := rfl
@[simp] theorem setExr_ev (a0 a1 a2 : _) : (setExr a0 a1 a2).ev = a2.ev := rfl
@[simp] theorem setExr_sec (a0 a1 a2 : _) : (setExr a0 a1 a2).sec = a2.sec := rfl
@[simp] theorem setExr_pow (a0 a1 a2 : _) : (setExr a0 a1 a2).pow = a2.pow := rfl

@[simp] theorem setFlag_pending (a0 a1 a2 : _) : (setFlag a0 a1 a2).pending = a2.pending := rfl
@[simp] theorem setFlag_fresh (a0 a1 a2 : _) : (setFlag a0 a1 a2).fresh = a2.fresh := rfl
@[simp] theorem setFlag_totals (a0 a1 a2 : _) : (setFlag a0 a1 a2).totals = a2.totals := rfl
@[simp] theorem setFlag_cntAcc (a0 a1 a2 : _) : (setFlag a0 a1 a2).cntAcc = a2.cntAcc := rfl
@[simp] theorem setFlag_cntTot (a0 a1 a2 : _) : (setFlag a0 a1 a2).cntTot = a2.cntTot := rfl
@[simp] theorem setFlag_cntSheet (a0 a1 a2 : _) : (setFlag a0 a1 a2).cntSheet = a2.cntSheet := rfl
@[simp] theorem setFlag_failover (a0 a1 a2 : _) : (setFlag a0 a1 a2).failover = a2.failover := rfl
@[simp] theorem setFlag_sh (a0 a1 a2 : _) : (setFlag a0 a1 a2).sh = a2.sh := rfl
@[simp] theorem setFlag_line (a0 a1 a2 : _) : (setFlag a0 a1 a2).line = a2.line := rfl
@[simp] theorem setFlag_host (a0 a1 a2 : _) : (setFlag a0 a1 a2).host = a2.host := rfl
@[simp] theorem setFlag_cab (a0 a1 a2 : _) : (setFlag a0 a1 a2).cab = a2.cab := rfl
@[simp] theorem setFlag_disp (a0 a1 a2 : _) : (setFlag a0 a1 a2).disp = a2.disp := rfl
@[simp] theorem setFlag_cores (a0 a1 a2 : _) : (setFlag a0 a1 a2).cores = a2.cores := rfl
@[simp] theorem setFlag_dov (a0 a1 a2 : _) : (setFlag a0 a1 a2).dov = a2.dov := rfl
@[simp] theorem setFlag_lk (a0 a1 a2 : _) : (setFlag a0 a1 a2).lk = a2.lk := rfl
@[simp] theorem setFlag_cop (a0 a1 a2 : _) : (setFlag a0 a1 a2).cop = a2.cop := rfl
@[simp] theorem setFlag_dram (a0 a1 a2 : _) : (setFlag a0 a1 a2).dram = a2.dram := rfl
@[simp] theorem setFlag_ev (a0 a1 a2 : _) : (setFlag a0 a1 a2).ev = a2.ev := rfl
@[simp] theorem setFlag_sec (a0 a1 a2 : _) : (setFlag a0 a1 a2).sec = a2.sec := rfl
@[simp] theorem setFlag_pow (a0 a1 a2 : _) : (setFlag a0 a1 a2).pow = a2.pow := rfl

@[simp] theorem setGroup_pending (a0 a1 a2 : _) : (setGroup a0 a1 a2).pending = a2.pending := rfl
@[simp] theorem setGroup_fresh (a0 a1 a2 : _) : (setGroup a0 a1 a2).fresh = a2.fresh := rfl
@[simp] theorem setGroup_flags (a0 a1 a2 : _) : (setGroup a0 a1 a2).flags = a2.flags := rfl
@[simp] theorem setGroup_totals (a0 a1 a2 : _) : (setGroup a0 a1 a2).totals = a2.totals := rfl
@[simp] theorem setGroup_cntAcc (a0 a1 a2 : _) : (setGroup a0 a1 a2).cntAcc = a2.cntAcc := rfl
@[simp] theorem setGroup_cntTot (a0 a1 a2 : _) : (setGroup a0 a1 a2).cntTot = a2.cntTot := rfl
@[simp] theorem setGroup_cntSheet (a0 a1 a2 : _) : (setGroup a0 a1 a2).cntSheet = a2.cntSheet := rfl
@[simp] theorem setGroup_failover (a0 a1 a2 : _) : (setGroup a0 a1 a2).failover = a2.failover := rfl
@[simp] theorem setGroup_sh (a0 a1 a2 : _) : (setGroup a0 a1 a2).sh = a2.sh := rfl
@[simp] theorem setGroup_line (a0 a1 a2 : _) : (setGroup a0 a1 a2).line = a2.line := rfl
@[simp] theorem setGroup_host (a0 a1 a2 : _) : (setGroup a0 a1 a2).host = a2.host := rfl
@[simp] theorem setGroup_disp (a0 a1 a2 : _) : (setGroup a0 a1 a2).disp = a2.disp := rfl
@[simp] theorem setGroup_cores (a0 a1 a2 : _) : (setGroup a0 a1 a2).cores = a2.cores := rfl
@[simp] theorem setGroup_dov (a0 a1 a2 : _) : (setGroup a0 a1 a2).dov = a2.dov := rfl
@[simp] theorem setGroup_lk (a0 a1 a2 : _) : (setGroup a0 a1 a2).lk = a2.lk := rfl
@[simp] theorem setGroup_cop (a0 a1 a2 : _) : (setGroup a0 a1 a2).cop = a2.cop := rfl
@[simp] theorem setGroup_dram (a0 a1 a2 : _) : (setGroup a0 a1 a2).dram = a2.dram := rfl
@[simp] theorem setGroup_ev (a0 a1 a2 : _) : (setGroup a0 a1 a2).ev = a2.ev := rfl
@[simp] theorem setGroup_sec (a0 a1 a2 : _) : (setGroup a0 a1 a2).sec = a2.sec := rfl
@[simp] theorem setGroup_pow (a0 a1 a2 : _) : (setGroup a0 a1 a2).pow = a2.pow := rfl

@[simp] theorem setHandle_pending (a0 a1 a2 : _) : (setHandle a0 a1 a2).pending = a2.pending := rfl
@[simp] theorem setHandle_fresh (a0 a1 a2 : _) : (setHandle a0 a1 a2).fresh = a2.fresh := rfl
@[simp] theorem setHandle_flags (a0 a1 a2 : _) : (setHandle a0 a1 a2).flags = a2.flags := rfl
@[simp] theorem setHandle_totals (a0 a1 a2 : _) : (setHandle a0 a1 a2).totals = a2.totals := rfl
@[simp] theorem setHandle_cntAcc (a0 a1 a2 : _) : (setHandle a0 a1 a2).cntAcc = a2.cntAcc := rfl
@[simp] theorem setHandle_cntTot (a0 a1 a2 : _) : (setHandle a0 a1 a2).cntTot = a2.cntTot := rfl
@[simp] theorem setHandle_cntSheet (a0 a1 a2 : _) : (setHandle a0 a1 a2).cntSheet = a2.cntSheet := rfl
@[simp] theorem setHandle_failover (a0 a1 a2 : _) : (setHandle a0 a1 a2).failover = a2.failover := rfl
@[simp] theorem setHandle_sh (a0 a1 a2 : _) : (setHandle a0 a1 a2).sh = a2.sh := rfl
@[simp] theorem setHandle_line (a0 a1 a2 : _) : (setHandle a0 a1 a2).line = a2.line := rfl
@[simp] theorem setHandle_host (a0 a1 a2 : _) : (setHandle a0 a1 a2).host = a2.host := rfl
@[simp] theorem setHandle_disp (a0 a1 a2 : _) : (setHandle a0 a1 a2).disp = a2.disp := rfl
@[simp] theorem setHandle_cores (a0 a1 a2 : _) : (setHandle a0 a1 a2).cores = a2.cores := rfl
@[simp] theorem setHandle_dov (a0 a1 a2 : _) : (setHandle a0 a1 a2).dov = a2.dov := rfl
@[simp] theorem setHandle_lk (a0 a1 a2 : _) : (setHandle a0 a1 a2).lk = a2.lk := rfl
@[simp] theorem setHandle_cop (a0 a1 a2 : _) : (setHandle a0 a1 a2).cop = a2.cop := rfl
@[simp] theorem setHandle_dram (a0 a1 a2 : _) : (setHandle a0 a1 a2).dram = a2.dram := rfl
@[simp] theorem setHandle_ev (a0 a1 a2 : _) : (setHandle a0 a1 a2).ev = a2.ev := rfl
@[simp] theorem setHandle_sec (a0 a1 a2 : _) : (setHandle a0 a1 a2).sec = a2.sec := rfl
@[simp] theorem setHandle_pow (a0 a1 a2 : _) : (setHandle a0 a1 a2).pow = a2.pow := rfl

@[simp] theorem setLink_pending (a0 a1 : _) : (setLink a0 a1).pending = a1.pending := rfl
@[simp] theorem setLink_fresh (a0 a1 : _) : (setLink a0 a1).fresh = a1.fresh := rfl
@[simp] theorem setLink_flags (a0 a1 : _) : (setLink a0 a1).flags = a1.flags := rfl
@[simp] theorem setLink_totals (a0 a1 : _) : (setLink a0 a1).totals = a1.totals := rfl
@[simp] theorem setLink_cntAcc (a0 a1 : _) : (setLink a0 a1).cntAcc = a1.cntAcc := rfl
@[simp] theorem setLink_cntTot (a0 a1 : _) : (setLink a0 a1).cntTot = a1.cntTot := rfl
@[simp] theorem setLink_cntSheet (a0 a1 : _) : (setLink a0 a1).cntSheet = a1.cntSheet := rfl
@[simp] theorem setLink_failover (a0 a1 : _) : (setLink a0 a1).failover = a1.failover := rfl
@[simp] theorem setLink_sh (a0 a1 : _) : (setLink a0 a1).sh = a1.sh := rfl
@[simp] theorem setLink_line (a0 a1 : _) : (setLink a0 a1).line = a1.line := rfl
@[simp] theorem setLink_host (a0 a1 : _) : (setLink a0 a1).host = a1.host := rfl
@[simp] theorem setLink_cab (a0 a1 : _) : (setLink a0 a1).cab = a1.cab := rfl
@[simp] theorem setLink_disp (a0 a1 : _) : (setLink a0 a1).disp = a1.disp := rfl
@[simp] theorem setLink_cores (a0 a1 : _) : (setLink a0 a1).cores = a1.cores := rfl
@[simp] theorem setLink_dov (a0 a1 : _) : (setLink a0 a1).dov = a1.dov := rfl
@[simp] theorem setLink_lk (a0 a1 : _) : (setLink a0 a1).lk = a1.lk := rfl
@[simp] theorem setLink_dram (a0 a1 : _) : (setLink a0 a1).dram = a1.dram := rfl
@[simp] theorem setLink_ev (a0 a1 : _) : (setLink a0 a1).ev = a1.ev := rfl
@[simp] theorem setLink_sec (a0 a1 : _) : (setLink a0 a1).sec = a1.sec := rfl
@[simp] theorem setLink_pow (a0 a1 : _) : (setLink a0 a1).pow = a1.pow := rfl

@[simp] theorem setLock_pending (a0 a1 a2 : _) : (setLock a0 a1 a2).pending = a2.pending := rfl
@[simp] theorem setLock_fresh (a0 a1 a2 : _) : (setLock a0 a1 a2).fresh = a2.fresh := rfl
@[simp] theorem setLock_flags (a0 a1 a2 : _) : (setLock a0 a1 a2).flags = a2.flags := rfl
@[simp] theorem setLock_totals (a0 a1 a2 : _) : (setLock a0 a1 a2).totals = a2.totals := rfl
@[simp] theorem setLock_cntAcc (a0 a1 a2 : _) : (setLock a0 a1 a2).cntAcc = a2.cntAcc := rfl
@[simp] theorem setLock_cntTot (a0 a1 a2 : _) : (setLock a0 a1 a2).cntTot = a2.cntTot := rfl
@[simp] theorem setLock_cntSheet (a0 a1 a2 : _) : (setLock a0 a1 a2).cntSheet = a2.cntSheet := rfl
@[simp] theorem setLock_failover (a0 a1 a2 : _) : (setLock a0 a1 a2).failover = a2.failover := rfl
@[simp] theorem setLock_sh (a0 a1 a2 : _) : (setLock a0 a1 a2).sh = a2.sh := rfl
@[simp] theorem setLock_line (a0 a1 a2 : _) : (setLock a0 a1 a2).line = a2.line := rfl
@[simp] theorem setLock_host (a0 a1 a2 : _) : (setLock a0 a1 a2).host = a2.host := rfl
@[simp] theorem setLock_cab (a0 a1 a2 : _) : (setLock a0 a1 a2).cab = a2.cab := rfl
@[simp] theorem setLock_disp (a0 a1 a2 : _) : (setLock a0 a1 a2).disp = a2.disp := rfl
@[simp] theorem setLock_cores (a0 a1 a2 : _) : (setLock a0 a1 a2).cores = a2.cores := rfl
@[simp] theorem setLock_lk (a0 a1 a2 : _) : (setLock a0 a1 a2).lk = a2.lk := rfl
@[simp] theorem setLock_cop (a0 a1 a2 : _) : (setLock a0 a1 a2).cop = a2.cop := rfl
@[simp] theorem setLock_dram (a0 a1 a2 : _) : (setLock a0 a1 a2).dram = a2.dram := rfl
@[simp] theorem setLock_ev (a0 a1 a2 : _) : (setLock a0 a1 a2).ev = a2.ev := rfl
@[simp] theorem setLock_sec (a0 a1 a2 : _) : (setLock a0 a1 a2).sec = a2.sec := rfl
@[simp] theorem setLock_pow (a0 a1 a2 : _) : (setLock a0 a1 a2).pow = a2.pow := rfl

@[simp] theorem setOwnerUse_pending (a0 a1 a2 : _) : (setOwnerUse a0 a1 a2).pending = a2.pending := rfl
@[simp] theorem setOwnerUse_fresh (a0 a1 a2 : _) : (setOwnerUse a0 a1 a2).fresh = a2.fresh := rfl
@[simp] theorem setOwnerUse_flags (a0 a1 a2 : _) : (setOwnerUse a0 a1 a2).flags = a2.flags := rfl
@[simp] theorem setOwnerUse_totals (a0 a1 a2 : _) : (setOwnerUse a0 a1 a2).totals = a2.totals := rfl
@[simp] theorem setOwnerUse_cntAcc (a0 a1 a2 : _) : (setOwnerUse a0 a1 a2).cntAcc = a2.cntAcc := rfl
@[simp] theorem setOwnerUse_cntTot (a0 a1 a2 : _) : (setOwnerUse a0 a1 a2).cntTot = a2.cntTot := rfl
@[simp] theorem setOwnerUse_cntSheet (a0 a1 a2 : _) : (setOwnerUse a0 a1 a2).cntSheet = a2.cntSheet := rfl
@[simp] theorem setOwnerUse_failover (a0 a1 a2 : _) : (setOwnerUse a0 a1 a2).failover = a2.failover := rfl
@[simp] theorem setOwnerUse_sh (a0 a1 a2 : _) : (setOwnerUse a0 a1 a2).sh = a2.sh := rfl
@[simp] theorem setOwnerUse_line (a0 a1 a2 : _) : (setOwnerUse a0 a1 a2).line = a2.line := rfl
@[simp] theorem setOwnerUse_host (a0 a1 a2 : _) : (setOwnerUse a0 a1 a2).host = a2.host := rfl
@[simp] theorem setOwnerUse_disp (a0 a1 a2 : _) : (setOwnerUse a0 a1 a2).disp = a2.disp := rfl
@[simp] theorem setOwnerUse_cores (a0 a1 a2 : _) : (setOwnerUse a0 a1 a2).cores = a2.cores := rfl
@[simp] theorem setOwnerUse_dov (a0 a1 a2 : _) : (setOwnerUse a0 a1 a2).dov = a2.dov := rfl
@[simp] theorem setOwnerUse_lk (a0 a1 a2 : _) : (setOwnerUse a0 a1 a2).lk = a2.lk := rfl
@[simp] theorem setOwnerUse_cop (a0 a1 a2 : _) : (setOwnerUse a0 a1 a2).cop = a2.cop := rfl
@[simp] theorem setOwnerUse_dram (a0 a1 a2 : _) : (setOwnerUse a0 a1 a2).dram = a2.dram := rfl
@[simp] theorem setOwnerUse_ev (a0 a1 a2 : _) : (setOwnerUse a0 a1 a2).ev = a2.ev := rfl
@[simp] theorem setOwnerUse_sec (a0 a1 a2 : _) : (setOwnerUse a0 a1 a2).sec = a2.sec := rfl
@[simp] theorem setOwnerUse_pow (a0 a1 a2 : _) : (setOwnerUse a0 a1 a2).pow = a2.pow := rfl

@[simp] theorem setPipe_pending (a0 a1 a2 : _) : (setPipe a0 a1 a2).pending = a2.pending := rfl
@[simp] theorem setPipe_fresh (a0 a1 a2 : _) : (setPipe a0 a1 a2).fresh = a2.fresh := rfl
@[simp] theorem setPipe_flags (a0 a1 a2 : _) : (setPipe a0 a1 a2).flags = a2.flags := rfl
@[simp] theorem setPipe_totals (a0 a1 a2 : _) : (setPipe a0 a1 a2).totals = a2.totals := rfl
@[simp] theorem setPipe_cntAcc (a0 a1 a2 : _) : (setPipe a0 a1 a2).cntAcc = a2.cntAcc := rfl
@[simp] theorem setPipe_cntTot (a0 a1 a2 : _) : (setPipe a0 a1 a2).cntTot = a2.cntTot := rfl
@[simp] theorem setPipe_cntSheet (a0 a1 a2 : _) : (setPipe a0 a1 a2).cntSheet = a2.cntSheet := rfl
@[simp] theorem setPipe_failover (a0 a1 a2 : _) : (setPipe a0 a1 a2).failover = a2.failover := rfl
@[simp] theorem setPipe_sh (a0 a1 a2 : _) : (setPipe a0 a1 a2).sh = a2.sh := rfl
@[simp] theorem setPipe_host (a0 a1 a2 : _) : (setPipe a0 a1 a2).host = a2.host := rfl
@[simp] theorem setPipe_cab (a0 a1 a2 : _) : (setPipe a0 a1 a2).cab = a2.cab := rfl
@[simp] theorem setPipe_disp (a0 a1 a2 : _) : (setPipe a0 a1 a2).disp = a2.disp := rfl
@[simp] theorem setPipe_cores (a0 a1 a2 : _) : (setPipe a0 a1 a2).cores = a2.cores := rfl
@[simp] theorem setPipe_dov (a0 a1 a2 : _) : (setPipe a0 a1 a2).dov = a2.dov := rfl
@[simp] theorem setPipe_lk (a0 a1 a2 : _) : (setPipe a0 a1 a2).lk = a2.lk := rfl
@[simp] theorem setPipe_cop (a0 a1 a2 : _) : (setPipe a0 a1 a2).cop = a2.cop := rfl
@[simp] theorem setPipe_dram (a0 a1 a2 : _) : (setPipe a0 a1 a2).dram = a2.dram := rfl
@[simp] theorem setPipe_ev (a0 a1 a2 : _) : (setPipe a0 a1 a2).ev = a2.ev := rfl
@[simp] theorem setPipe_sec (a0 a1 a2 : _) : (setPipe a0 a1 a2).sec = a2.sec := rfl
@[simp] theorem setPipe_pow (a0 a1 a2 : _) : (setPipe a0 a1 a2).pow = a2.pow := rfl

@[simp] theorem setPort_pending (a0 a1 a2 : _) : (setPort a0 a1 a2).pending = a2.pending := rfl
@[simp] theorem setPort_fresh (a0 a1 a2 : _) : (setPort a0 a1 a2).fresh = a2.fresh := rfl
@[simp] theorem setPort_flags (a0 a1 a2 : _) : (setPort a0 a1 a2).flags = a2.flags := rfl
@[simp] theorem setPort_totals (a0 a1 a2 : _) : (setPort a0 a1 a2).totals = a2.totals := rfl
@[simp] theorem setPort_cntAcc (a0 a1 a2 : _) : (setPort a0 a1 a2).cntAcc = a2.cntAcc := rfl
@[simp] theorem setPort_cntTot (a0 a1 a2 : _) : (setPort a0 a1 a2).cntTot = a2.cntTot := rfl
@[simp] theorem setPort_cntSheet (a0 a1 a2 : _) : (setPort a0 a1 a2).cntSheet = a2.cntSheet := rfl
@[simp] theorem setPort_failover (a0 a1 a2 : _) : (setPort a0 a1 a2).failover = a2.failover := rfl
@[simp] theorem setPort_sh (a0 a1 a2 : _) : (setPort a0 a1 a2).sh = a2.sh := rfl
@[simp] theorem setPort_host (a0 a1 a2 : _) : (setPort a0 a1 a2).host = a2.host := rfl
@[simp] theorem setPort_cab (a0 a1 a2 : _) : (setPort a0 a1 a2).cab = a2.cab := rfl
@[simp] theorem setPort_disp (a0 a1 a2 : _) : (setPort a0 a1 a2).disp = a2.disp := rfl
@[simp] theorem setPort_cores (a0 a1 a2 : _) : (setPort a0 a1 a2).cores = a2.cores := rfl
@[simp] theorem setPort_dov (a0 a1 a2 : _) : (setPort a0 a1 a2).dov = a2.dov := rfl
@[simp] theorem setPort_lk (a0 a1 a2 : _) : (setPort a0 a1 a2).lk = a2.lk := rfl
@[simp] theorem setPort_cop (a0 a1 a2 : _) : (setPort a0 a1 a2).cop = a2.cop := rfl
@[simp] theorem setPort_dram (a0 a1 a2 : _) : (setPort a0 a1 a2).dram = a2.dram := rfl
@[simp] theorem setPort_ev (a0 a1 a2 : _) : (setPort a0 a1 a2).ev = a2.ev := rfl
@[simp] theorem setPort_sec (a0 a1 a2 : _) : (setPort a0 a1 a2).sec = a2.sec := rfl
@[simp] theorem setPort_pow (a0 a1 a2 : _) : (setPort a0 a1 a2).pow = a2.pow := rfl

@[simp] theorem setQueue_pending (a0 a1 a2 a3 : _) : (setQueue a0 a1 a2 a3).pending = a3.pending := rfl
@[simp] theorem setQueue_fresh (a0 a1 a2 a3 : _) : (setQueue a0 a1 a2 a3).fresh = a3.fresh := rfl
@[simp] theorem setQueue_flags (a0 a1 a2 a3 : _) : (setQueue a0 a1 a2 a3).flags = a3.flags := rfl
@[simp] theorem setQueue_totals (a0 a1 a2 a3 : _) : (setQueue a0 a1 a2 a3).totals = a3.totals := rfl
@[simp] theorem setQueue_cntAcc (a0 a1 a2 a3 : _) : (setQueue a0 a1 a2 a3).cntAcc = a3.cntAcc := rfl
@[simp] theorem setQueue_cntTot (a0 a1 a2 a3 : _) : (setQueue a0 a1 a2 a3).cntTot = a3.cntTot := rfl
@[simp] theorem setQueue_cntSheet (a0 a1 a2 a3 : _) : (setQueue a0 a1 a2 a3).cntSheet = a3.cntSheet := rfl
@[simp] theorem setQueue_failover (a0 a1 a2 a3 : _) : (setQueue a0 a1 a2 a3).failover = a3.failover := rfl
@[simp] theorem setQueue_sh (a0 a1 a2 a3 : _) : (setQueue a0 a1 a2 a3).sh = a3.sh := rfl
@[simp] theorem setQueue_line (a0 a1 a2 a3 : _) : (setQueue a0 a1 a2 a3).line = a3.line := rfl
@[simp] theorem setQueue_host (a0 a1 a2 a3 : _) : (setQueue a0 a1 a2 a3).host = a3.host := rfl
@[simp] theorem setQueue_disp (a0 a1 a2 a3 : _) : (setQueue a0 a1 a2 a3).disp = a3.disp := rfl
@[simp] theorem setQueue_cores (a0 a1 a2 a3 : _) : (setQueue a0 a1 a2 a3).cores = a3.cores := rfl
@[simp] theorem setQueue_dov (a0 a1 a2 a3 : _) : (setQueue a0 a1 a2 a3).dov = a3.dov := rfl
@[simp] theorem setQueue_lk (a0 a1 a2 a3 : _) : (setQueue a0 a1 a2 a3).lk = a3.lk := rfl
@[simp] theorem setQueue_cop (a0 a1 a2 a3 : _) : (setQueue a0 a1 a2 a3).cop = a3.cop := rfl
@[simp] theorem setQueue_dram (a0 a1 a2 a3 : _) : (setQueue a0 a1 a2 a3).dram = a3.dram := rfl
@[simp] theorem setQueue_ev (a0 a1 a2 a3 : _) : (setQueue a0 a1 a2 a3).ev = a3.ev := rfl
@[simp] theorem setQueue_sec (a0 a1 a2 a3 : _) : (setQueue a0 a1 a2 a3).sec = a3.sec := rfl
@[simp] theorem setQueue_pow (a0 a1 a2 a3 : _) : (setQueue a0 a1 a2 a3).pow = a3.pow := rfl

@[simp] theorem setSending_pending (a0 a1 a2 : _) : (setSending a0 a1 a2).pending = a2.pending := rfl
@[simp] theorem setSending_fresh (a0 a1 a2 : _) : (setSending a0 a1 a2).fresh = a2.fresh := rfl
@[simp] theorem setSending_flags (a0 a1 a2 : _) : (setSending a0 a1 a2).flags = a2.flags := rfl
@[simp] theorem setSending_totals (a0 a1 a2 : _) : (setSending a0 a1 a2).totals = a2.totals := rfl
@[simp] theorem setSending_cntAcc (a0 a1 a2 : _) : (setSending a0 a1 a2).cntAcc = a2.cntAcc := rfl
@[simp] theorem setSending_cntTot (a0 a1 a2 : _) : (setSending a0 a1 a2).cntTot = a2.cntTot := rfl
@[simp] theorem setSending_cntSheet (a0 a1 a2 : _) : (setSending a0 a1 a2).cntSheet = a2.cntSheet := rfl
@[simp] theorem setSending_failover (a0 a1 a2 : _) : (setSending a0 a1 a2).failover = a2.failover := rfl
@[simp] theorem setSending_sh (a0 a1 a2 : _) : (setSending a0 a1 a2).sh = a2.sh := rfl
@[simp] theorem setSending_line (a0 a1 a2 : _) : (setSending a0 a1 a2).line = a2.line := rfl
@[simp] theorem setSending_host (a0 a1 a2 : _) : (setSending a0 a1 a2).host = a2.host := rfl
@[simp] theorem setSending_disp (a0 a1 a2 : _) : (setSending a0 a1 a2).disp = a2.disp := rfl
@[simp] theorem setSending_cores (a0 a1 a2 : _) : (setSending a0 a1 a2).cores = a2.cores := rfl
@[simp] theorem setSending_dov (a0 a1 a2 : _) : (setSending a0 a1 a2).dov = a2.dov := rfl
@[simp] theorem setSending_lk (a0 a1 a2 : _) : (setSending a0 a1 a2).lk = a2.lk := rfl
@[simp] theorem setSending_cop (a0 a1 a2 : _) : (setSending a0 a1 a2).cop = a2.cop := rfl
@[simp] theorem setSending_dram (a0 a1 a2 : _) : (setSending a0 a1 a2).dram = a2.dram := rfl
@[simp] theorem setSending_ev (a0 a1 a2 : _) : (setSending a0 a1 a2).ev = a2.ev := rfl
@[simp] theorem setSending_sec (a0 a1 a2 : _) : (setSending a0 a1 a2).sec = a2.sec := rfl
@[simp] theorem setSending_pow (a0 a1 a2 : _) : (setSending a0 a1 a2).pow = a2.pow := rfl

@[simp] theorem setSub_pending (a0 a1 a2 : _) : (setSub a0 a1 a2).pending = a2.pending := rfl
@[simp] theorem setSub_fresh (a0 a1 a2 : _) : (setSub a0 a1 a2).fresh = a2.fresh := rfl
@[simp] theorem setSub_flags (a0 a1 a2 : _) : (setSub a0 a1 a2).flags = a2.flags := rfl
@[simp] theorem setSub_totals (a0 a1 a2 : _) : (setSub a0 a1 a2).totals = a2.totals := rfl
@[simp] theorem setSub_cntAcc (a0 a1 a2 : _) : (setSub a0 a1 a2).cntAcc = a2.cntAcc := rfl
@[simp] theorem setSub_cntTot (a0 a1 a2 : _) : (setSub a0 a1 a2).cntTot = a2.cntTot := rfl
@[simp] theorem setSub_cntSheet (a0 a1 a2 : _) : (setSub a0 a1 a2).cntSheet = a2.cntSheet := rfl
@[simp] theorem setSub_failover (a0 a1 a2 : _) : (setSub a0 a1 a2).failover = a2.failover := rfl
@[simp] theorem setSub_sh (a0 a1 a2 : _) : (setSub a0 a1 a2).sh = a2.sh := rfl
@[simp] theorem setSub_host (a0 a1 a2 : _) : (setSub a0 a1 a2).host = a2.host := rfl
@[simp] theorem setSub_cab (a0 a1 a2 : _) : (setSub a0 a1 a2).cab = a2.cab := rfl
@[simp] theorem setSub_disp (a0 a1 a2 : _) : (setSub a0 a1 a2).disp = a2.disp := rfl
@[simp] theorem setSub_cores (a0 a1 a2 : _) : (setSub a0 a1 a2).cores = a2.cores := rfl
@[simp] theorem setSub_dov (a0 a1 a2 : _) : (setSub a0 a1 a2).dov = a2.dov := rfl
@[simp] theorem setSub_lk (a0 a1 a2 : _) : (setSub a0 a1 a2).lk = a2.lk := rfl
@[simp] theorem setSub_cop (a0 a1 a2 : _) : (setSub a0 a1 a2).cop = a2.cop := rfl
@[simp] theorem setSub_dram (a0 a1 a2 : _) : (setSub a0 a1 a2).dram = a2.dram := rfl
@[simp] theorem setSub_ev (a0 a1 a2 : _) : (setSub a0 a1 a2).ev = a2.ev := rfl
@[simp] theorem setSub_sec (a0 a1 a2 : _) : (setSub a0 a1 a2).sec = a2.sec := rfl
@[simp] theorem setSub_pow (a0 a1 a2 : _) : (setSub a0 a1 a2).pow = a2.pow := rfl

@[simp] theorem setThr_pending (a0 a1 a2 : _) : (setThr a0 a1 a2).pending = a2.pending := rfl
@[simp] theorem setThr_fresh (a0 a1 a2 : _) : (setThr a0 a1 a2).fresh = a2.fresh := rfl
@[simp] theorem setThr_flags (a0 a1 a2 : _) : (setThr a0 a1 a2).flags = a2.flags := rfl
@[simp] theorem setThr_totals (a0 a1 a2 : _) : (setThr a0 a1 a2).totals = a2.totals := rfl
@[simp] theorem setThr_cntAcc (a0 a1 a2 : _) : (setThr a0 a1 a2).cntAcc = a2.cntAcc := rfl
@[simp] theorem setThr_cntTot (a0 a1 a2 : _) : (setThr a0 a1 a2).cntTot = a2.cntTot := rfl
@[simp] theorem setThr_cntSheet (a0 a1 a2 : _) : (setThr a0 a1 a2).cntSheet = a2.cntSheet := rfl
@[simp] theorem setThr_failover (a0 a1 a2 : _) : (setThr a0 a1 a2).failover = a2.failover := rfl
@[simp] theorem setThr_sh (a0 a1 a2 : _) : (setThr a0 a1 a2).sh = a2.sh := rfl
@[simp] theorem setThr_line (a0 a1 a2 : _) : (setThr a0 a1 a2).line = a2.line := rfl
@[simp] theorem setThr_host (a0 a1 a2 : _) : (setThr a0 a1 a2).host = a2.host := rfl
@[simp] theorem setThr_cab (a0 a1 a2 : _) : (setThr a0 a1 a2).cab = a2.cab := rfl
@[simp] theorem setThr_disp (a0 a1 a2 : _) : (setThr a0 a1 a2).disp = a2.disp := rfl
@[simp] theorem setThr_dov (a0 a1 a2 : _) : (setThr a0 a1 a2).dov = a2.dov := rfl
@[simp] theorem setThr_lk (a0 a1 a2 : _) : (setThr a0 a1 a2).lk = a2.lk := rfl
@[simp] theorem setThr_cop (a0 a1 a2 : _) : (setThr a0 a1 a2).cop = a2.cop := rfl
@[simp] theorem setThr_dram (a0 a1 a2 : _) : (setThr a0 a1 a2).dram = a2.dram := rfl
@[simp] theorem setThr_ev (a0 a1 a2 : _) : (setThr a0 a1 a2).ev = a2.ev := rfl
@[simp] theorem setThr_sec (a0 a1 a2 : _) : (setThr a0 a1 a2).sec = a2.sec := rfl
@[simp] theorem setThr_pow (a0 a1 a2 : _) : (setThr a0 a1 a2).pow = a2.pow := rfl

@[simp] theorem setUnit_pending (a0 a1 a2 : _) : (setUnit a0 a1 a2).pending = a2.pending := rfl
@[simp] theorem setUnit_fresh (a0 a1 a2 : _) : (setUnit a0 a1 a2).fresh = a2.fresh := rfl
@[simp] theorem setUnit_flags (a0 a1 a2 : _) : (setUnit a0 a1 a2).flags = a2.flags := rfl
@[simp] theorem setUnit_totals (a0 a1 a2 : _) : (setUnit a0 a1 a2).totals = a2.totals := rfl
@[simp] theorem setUnit_cntAcc (a0 a1 a2 : _) : (setUnit a0 a1 a2).cntAcc = a2.cntAcc := rfl
@[simp] theorem setUnit_cntTot (a0 a1 a2 : _) : (setUnit a0 a1 a2).cntTot = a2.cntTot := rfl
@[simp] theorem setUnit_cntSheet (a0 a1 a2 : _) : (setUnit a0 a1 a2).cntSheet = a2.cntSheet := rfl
@[simp] theorem setUnit_failover (a0 a1 a2 : _) : (setUnit a0 a1 a2).failover = a2.failover := rfl
@[simp] theorem setUnit_sh (a0 a1 a2 : _) : (setUnit a0 a1 a2).sh = a2.sh := rfl
@[simp] theorem setUnit_line (a0 a1 a2 : _) : (setUnit a0 a1 a2).line = a2.line := rfl
@[simp] theorem setUnit_host (a0 a1 a2 : _) : (setUnit a0 a1 a2).host = a2.host := rfl
@[simp] theorem setUnit_cab (a0 a1 a2 : _) : (setUnit a0 a1 a2).cab = a2.cab := rfl
@[simp] theorem setUnit_disp (a0 a1 a2 : _) : (setUnit a0 a1 a2).disp = a2.disp := rfl
@[simp] theorem setUnit_cores (a0 a1 a2 : _) : (setUnit a0 a1 a2).cores = a2.cores := rfl
@[simp] theorem setUnit_dov (a0 a1 a2 : _) : (setUnit a0 a1 a2).dov = a2.dov := rfl
@[simp] theorem setUnit_lk (a0 a1 a2 : _) : (setUnit a0 a1 a2).lk = a2.lk := rfl
@[simp] theorem setUnit_dram (a0 a1 a2 : _) : (setUnit a0 a1 a2).dram = a2.dram := rfl
@[simp] theorem setUnit_ev (a0 a1 a2 : _) : (setUnit a0 a1 a2).ev = a2.ev := rfl
@[simp] theorem setUnit_sec (a0 a1 a2 : _) : (setUnit a0 a1 a2).sec = a2.sec := rfl
@[simp] theorem setUnit_pow (a0 a1 a2 : _) : (setUnit a0 a1 a2).pow = a2.pow := rfl

@[simp] theorem startCmd_pending (a0 a1 : _) : (startCmd a0 a1).pending = a1.pending := rfl
@[simp] theorem startCmd_fresh (a0 a1 : _) : (startCmd a0 a1).fresh = a1.fresh := rfl
@[simp] theorem startCmd_flags (a0 a1 : _) : (startCmd a0 a1).flags = a1.flags := rfl
@[simp] theorem startCmd_totals (a0 a1 : _) : (startCmd a0 a1).totals = a1.totals := rfl
@[simp] theorem startCmd_cntAcc (a0 a1 : _) : (startCmd a0 a1).cntAcc = a1.cntAcc := rfl
@[simp] theorem startCmd_cntTot (a0 a1 : _) : (startCmd a0 a1).cntTot = a1.cntTot := rfl
@[simp] theorem startCmd_cntSheet (a0 a1 : _) : (startCmd a0 a1).cntSheet = a1.cntSheet := rfl
@[simp] theorem startCmd_failover (a0 a1 : _) : (startCmd a0 a1).failover = a1.failover := rfl
@[simp] theorem startCmd_sh (a0 a1 : _) : (startCmd a0 a1).sh = a1.sh := rfl
@[simp] theorem startCmd_line (a0 a1 : _) : (startCmd a0 a1).line = a1.line := rfl
@[simp] theorem startCmd_cab (a0 a1 : _) : (startCmd a0 a1).cab = a1.cab := rfl
@[simp] theorem startCmd_disp (a0 a1 : _) : (startCmd a0 a1).disp = a1.disp := rfl
@[simp] theorem startCmd_cores (a0 a1 : _) : (startCmd a0 a1).cores = a1.cores := rfl
@[simp] theorem startCmd_dov (a0 a1 : _) : (startCmd a0 a1).dov = a1.dov := rfl
@[simp] theorem startCmd_lk (a0 a1 : _) : (startCmd a0 a1).lk = a1.lk := rfl
@[simp] theorem startCmd_cop (a0 a1 : _) : (startCmd a0 a1).cop = a1.cop := rfl
@[simp] theorem startCmd_dram (a0 a1 : _) : (startCmd a0 a1).dram = a1.dram := rfl
@[simp] theorem startCmd_ev (a0 a1 : _) : (startCmd a0 a1).ev = a1.ev := rfl
@[simp] theorem startCmd_sec (a0 a1 : _) : (startCmd a0 a1).sec = a1.sec := rfl
@[simp] theorem startCmd_pow (a0 a1 : _) : (startCmd a0 a1).pow = a1.pow := rfl

@[simp] theorem unlist_pending (a0 a1 : _) : (unlist a0 a1).pending = a1.pending := rfl
@[simp] theorem unlist_fresh (a0 a1 : _) : (unlist a0 a1).fresh = a1.fresh := rfl
@[simp] theorem unlist_flags (a0 a1 : _) : (unlist a0 a1).flags = a1.flags := rfl
@[simp] theorem unlist_totals (a0 a1 : _) : (unlist a0 a1).totals = a1.totals := rfl
@[simp] theorem unlist_cntAcc (a0 a1 : _) : (unlist a0 a1).cntAcc = a1.cntAcc := rfl
@[simp] theorem unlist_cntTot (a0 a1 : _) : (unlist a0 a1).cntTot = a1.cntTot := rfl
@[simp] theorem unlist_cntSheet (a0 a1 : _) : (unlist a0 a1).cntSheet = a1.cntSheet := rfl
@[simp] theorem unlist_failover (a0 a1 : _) : (unlist a0 a1).failover = a1.failover := rfl
@[simp] theorem unlist_sh (a0 a1 : _) : (unlist a0 a1).sh = a1.sh := rfl
@[simp] theorem unlist_line (a0 a1 : _) : (unlist a0 a1).line = a1.line := rfl
@[simp] theorem unlist_host (a0 a1 : _) : (unlist a0 a1).host = a1.host := rfl
@[simp] theorem unlist_cab (a0 a1 : _) : (unlist a0 a1).cab = a1.cab := rfl
@[simp] theorem unlist_cores (a0 a1 : _) : (unlist a0 a1).cores = a1.cores := rfl
@[simp] theorem unlist_dov (a0 a1 : _) : (unlist a0 a1).dov = a1.dov := rfl
@[simp] theorem unlist_lk (a0 a1 : _) : (unlist a0 a1).lk = a1.lk := rfl
@[simp] theorem unlist_cop (a0 a1 : _) : (unlist a0 a1).cop = a1.cop := rfl
@[simp] theorem unlist_dram (a0 a1 : _) : (unlist a0 a1).dram = a1.dram := rfl
@[simp] theorem unlist_ev (a0 a1 : _) : (unlist a0 a1).ev = a1.ev := rfl
@[simp] theorem unlist_sec (a0 a1 : _) : (unlist a0 a1).sec = a1.sec := rfl
@[simp] theorem unlist_pow (a0 a1 : _) : (unlist a0 a1).pow = a1.pow := rfl

@[simp] theorem updDisp_pending (a0 a1 : _) : (updDisp a0 a1).pending = a1.pending := rfl
@[simp] theorem updDisp_fresh (a0 a1 : _) : (updDisp a0 a1).fresh = a1.fresh := rfl
@[simp] theorem updDisp_flags (a0 a1 : _) : (updDisp a0 a1).flags = a1.flags := rfl
@[simp] theorem updDisp_totals (a0 a1 : _) : (updDisp a0 a1).totals = a1.totals := rfl
@[simp] theorem updDisp_cntAcc (a0 a1 : _) : (updDisp a0 a1).cntAcc = a1.cntAcc := rfl
@[simp] theorem updDisp_cntTot (a0 a1 : _) : (updDisp a0 a1).cntTot = a1.cntTot := rfl
@[simp] theorem updDisp_cntSheet (a0 a1 : _) : (updDisp a0 a1).cntSheet = a1.cntSheet := rfl
@[simp] theorem updDisp_failover (a0 a1 : _) : (updDisp a0 a1).failover = a1.failover := rfl
@[simp] theorem updDisp_sh (a0 a1 : _) : (updDisp a0 a1).sh = a1.sh := rfl
@[simp] theorem updDisp_line (a0 a1 : _) : (updDisp a0 a1).line = a1.line := rfl
@[simp] theorem updDisp_host (a0 a1 : _) : (updDisp a0 a1).host = a1.host := rfl
@[simp] theorem updDisp_cab (a0 a1 : _) : (updDisp a0 a1).cab = a1.cab := rfl
@[simp] theorem updDisp_cores (a0 a1 : _) : (updDisp a0 a1).cores = a1.cores := rfl
@[simp] theorem updDisp_dov (a0 a1 : _) : (updDisp a0 a1).dov = a1.dov := rfl
@[simp] theorem updDisp_lk (a0 a1 : _) : (updDisp a0 a1).lk = a1.lk := rfl
@[simp] theorem updDisp_cop (a0 a1 : _) : (updDisp a0 a1).cop = a1.cop := rfl
@[simp] theorem updDisp_dram (a0 a1 : _) : (updDisp a0 a1).dram = a1.dram := rfl
@[simp] theorem updDisp_ev (a0 a1 : _) : (updDisp a0 a1).ev = a1.ev := rfl
@[simp] theorem updDisp_sec (a0 a1 : _) : (updDisp a0 a1).sec = a1.sec := rfl
@[simp] theorem updDisp_pow (a0 a1 : _) : (updDisp a0 a1).pow = a1.pow := rfl

@[simp] theorem updDram_pending (a0 a1 : _) : (updDram a0 a1).pending = a1.pending := rfl
@[simp] theorem updDram_fresh (a0 a1 : _) : (updDram a0 a1).fresh = a1.fresh := rfl
@[simp] theorem updDram_flags (a0 a1 : _) : (updDram a0 a1).flags = a1.flags := rfl
@[simp] theorem updDram_totals (a0 a1 : _) : (updDram a0 a1).totals = a1.totals := rfl
@[simp] theorem updDram_cntAcc (a0 a1 : _) : (updDram a0 a1).cntAcc = a1.cntAcc := rfl
@[simp] theorem updDram_cntTot (a0 a1 : _) : (updDram a0 a1).cntTot = a1.cntTot := rfl
@[simp] theorem updDram_cntSheet (a0 a1 : _) : (updDram a0 a1).cntSheet = a1.cntSheet := rfl
@[simp] theorem updDram_failover (a0 a1 : _) : (updDram a0 a1).failover = a1.failover := rfl
@[simp] theorem updDram_sh (a0 a1 : _) : (updDram a0 a1).sh = a1.sh := rfl
@[simp] theorem updDram_line (a0 a1 : _) : (updDram a0 a1).line = a1.line := rfl
@[simp] theorem updDram_host (a0 a1 : _) : (updDram a0 a1).host = a1.host := rfl
@[simp] theorem updDram_cab (a0 a1 : _) : (updDram a0 a1).cab = a1.cab := rfl
@[simp] theorem updDram_disp (a0 a1 : _) : (updDram a0 a1).disp = a1.disp := rfl
@[simp] theorem updDram_cores (a0 a1 : _) : (updDram a0 a1).cores = a1.cores := rfl
@[simp] theorem updDram_dov (a0 a1 : _) : (updDram a0 a1).dov = a1.dov := rfl
@[simp] theorem updDram_lk (a0 a1 : _) : (updDram a0 a1).lk = a1.lk := rfl
@[simp] theorem updDram_cop (a0 a1 : _) : (updDram a0 a1).cop = a1.cop := rfl
@[simp] theorem updDram_ev (a0 a1 : _) : (updDram a0 a1).ev = a1.ev := rfl
@[simp] theorem updDram_sec (a0 a1 : _) : (updDram a0 a1).sec = a1.sec := rfl
@[simp] theorem updDram_pow (a0 a1 : _) : (updDram a0 a1).pow = a1.pow := rfl

@[simp] theorem updEv_pending (a0 a1 : _) : (updEv a0 a1).pending = a1.pending := rfl
@[simp] theorem updEv_fresh (a0 a1 : _) : (updEv a0 a1).fresh = a1.fresh := rfl
@[simp] theorem updEv_flags (a0 a1 : _) : (updEv a0 a1).flags = a1.flags := rfl
@[simp] theorem updEv_totals (a0 a1 : _) : (updEv a0 a1).totals = a1.totals := rfl
@[simp] theorem updEv_cntAcc (a0 a1 : _) : (updEv a0 a1).cntAcc = a1.cntAcc := rfl
@[simp] theorem updEv_cntTot (a0 a1 : _) : (updEv a0 a1).cntTot = a1.cntTot := rfl
@[simp] theorem updEv_cntSheet (a0 a1 : _) : (updEv a0 a1).cntSheet = a1.cntSheet := rfl
@[simp] theorem updEv_failover (a0 a1 : _) : (updEv a0 a1).failover = a1.failover := rfl
@[simp] theorem updEv_sh (a0 a1 : _) : (updEv a0 a1).sh = a1.sh := rfl
@[simp] theorem updEv_line (a0 a1 : _) : (updEv a0 a1).line = a1.line := rfl
@[simp] theorem updEv_host (a0 a1 : _) : (updEv a0 a1).host = a1.host := rfl
@[simp] theorem updEv_cab (a0 a1 : _) : (updEv a0 a1).cab = a1.cab := rfl
@[simp] theorem updEv_disp (a0 a1 : _) : (updEv a0 a1).disp = a1.disp := rfl
@[simp] theorem updEv_cores (a0 a1 : _) : (updEv a0 a1).cores = a1.cores := rfl
@[simp] theorem updEv_dov (a0 a1 : _) : (updEv a0 a1).dov = a1.dov := rfl
@[simp] theorem updEv_lk (a0 a1 : _) : (updEv a0 a1).lk = a1.lk := rfl
@[simp] theorem updEv_cop (a0 a1 : _) : (updEv a0 a1).cop = a1.cop := rfl
@[simp] theorem updEv_dram (a0 a1 : _) : (updEv a0 a1).dram = a1.dram := rfl
@[simp] theorem updEv_sec (a0 a1 : _) : (updEv a0 a1).sec = a1.sec := rfl
@[simp] theorem updEv_pow (a0 a1 : _) : (updEv a0 a1).pow = a1.pow := rfl

@[simp] theorem updHost_pending (a0 a1 : _) : (updHost a0 a1).pending = a1.pending := rfl
@[simp] theorem updHost_fresh (a0 a1 : _) : (updHost a0 a1).fresh = a1.fresh := rfl
@[simp] theorem updHost_flags (a0 a1 : _) : (updHost a0 a1).flags = a1.flags := rfl
@[simp] theorem updHost_totals (a0 a1 : _) : (updHost a0 a1).totals = a1.totals := rfl
@[simp] theorem updHost_cntAcc (a0 a1 : _) : (updHost a0 a1).cntAcc = a1.cntAcc := rfl
@[simp] theorem updHost_cntTot (a0 a1 : _) : (updHost a0 a1).cntTot = a1.cntTot := rfl
@[simp] theorem updHost_cntSheet (a0 a1 : _) : (updHost a0 a1).cntSheet = a1.cntSheet := rfl
@[simp] theorem updHost_failover (a0 a1 : _) : (updHost a0 a1).failover = a1.failover := rfl
@[simp] theorem updHost_sh (a0 a1 : _) : (updHost a0 a1).sh = a1.sh := rfl
@[simp] theorem updHost_line (a0 a1 : _) : (updHost a0 a1).line = a1.line := rfl
@[simp] theorem updHost_cab (a0 a1 : _) : (updHost a0 a1).cab = a1.cab := rfl
@[simp] theorem updHost_disp (a0 a1 : _) : (updHost a0 a1).disp = a1.disp := rfl
@[simp] theorem updHost_cores (a0 a1 : _) : (updHost a0 a1).cores = a1.cores := rfl
@[simp] theorem updHost_dov (a0 a1 : _) : (updHost a0 a1).dov = a1.dov := rfl
@[simp] theorem updHost_lk (a0 a1 : _) : (updHost a0 a1).lk = a1.lk := rfl
@[simp] theorem updHost_cop (a0 a1 : _) : (updHost a0 a1).cop = a1.cop := rfl
@[simp] theorem updHost_dram (a0 a1 : _) : (updHost a0 a1).dram = a1.dram := rfl
@[simp] theorem updHost_ev (a0 a1 : _) : (updHost a0 a1).ev = a1.ev := rfl
@[simp] theorem updHost_sec (a0 a1 : _) : (updHost a0 a1).sec = a1.sec := rfl
@[simp] theorem updHost_pow (a0 a1 : _) : (updHost a0 a1).pow = a1.pow := rfl

@[simp] theorem updLk_pending (a0 a1 : _) : (updLk a0 a1).pending = a1.pending := rfl
@[simp] theorem updLk_fresh (a0 a1 : _) : (updLk a0 a1).fresh = a1.fresh := rfl
@[simp] theorem updLk_flags (a0 a1 : _) : (updLk a0 a1).flags = a1.flags := rfl
@[simp] theorem updLk_totals (a0 a1 : _) : (updLk a0 a1).totals = a1.totals := rfl
@[simp] theorem updLk_cntAcc (a0 a1 : _) : (updLk a0 a1).cntAcc = a1.cntAcc := rfl
@[simp] theorem updLk_cntTot (a0 a1 : _) : (updLk a0 a1).cntTot = a1.cntTot := rfl
@[simp] theorem updLk_cntSheet (a0 a1 : _) : (updLk a0 a1).cntSheet = a1.cntSheet := rfl
@[simp] theorem updLk_failover (a0 a1 : _) : (updLk a0 a1).failover = a1.failover := rfl
@[simp] theorem updLk_sh (a0 a1 : _) : (updLk a0 a1).sh = a1.sh := rfl
@[simp] theorem updLk_line (a0 a1 : _) : (updLk a0 a1).line = a1.line := rfl
@[simp] theorem updLk_host (a0 a1 : _) : (updLk a0 a1).host = a1.host := rfl
@[simp] theorem updLk_cab (a0 a1 : _) : (updLk a0 a1).cab = a1.cab := rfl
@[simp] theorem updLk_disp (a0 a1 : _) : (updLk a0 a1).disp = a1.disp := rfl
@[simp] theorem updLk_cores (a0 a1 : _) : (updLk a0 a1).cores = a1.cores := rfl
@[simp] theorem updLk_dov (a0 a1 : _) : (updLk a0 a1).dov = a1.dov := rfl
@[simp] theorem updLk_cop (a0 a1 : _) : (updLk a0 a1).cop = a1.cop := rfl
@[simp] theorem updLk_dram (a0 a1 : _) : (updLk a0 a1).dram = a1.dram := rfl
@[simp] theorem updLk_ev (a0 a1 : _) : (updLk a0 a1).ev = a1.ev := rfl
@[simp] theorem updLk_sec (a0 a1 : _) : (updLk a0 a1).sec = a1.sec := rfl
@[simp] theorem updLk_pow (a0 a1 : _) : (updLk a0 a1).pow = a1.pow := rfl

@[simp] theorem updPow_pending (a0 a1 : _) : (updPow a0 a1).pending = a1.pending := rfl
@[simp] theorem updPow_fresh (a0 a1 : _) : (updPow a0 a1).fresh = a1.fresh := rfl
@[simp] theorem updPow_flags (a0 a1 : _) : (updPow a0 a1).flags = a1.flags := rfl
@[simp] theorem updPow_totals (a0 a1 : _) : (updPow a0 a1).totals = a1.totals := rfl
@[simp] theorem updPow_cntAcc (a0 a1 : _) : (updPow a0 a1).cntAcc = a1.cntAcc := rfl
@[simp] theorem updPow_cntTot (a0 a1 : _) : (updPow a0 a1).cntTot = a1.cntTot := rfl
@[simp] theorem updPow_cntSheet (a0 a1 : _) : (updPow a0 a1).cntSheet = a1.cntSheet := rfl
@[simp] theorem updPow_failover (a0 a1 : _) : (updPow a0 a1).failover = a1.failover := rfl
@[simp] theorem updPow_sh (a0 a1 : _) : (updPow a0 a1).sh = a1.sh := rfl
@[simp] theorem updPow_line (a0 a1 : _) : (updPow a0 a1).line = a1.line := rfl
@[simp] theorem updPow_host (a0 a1 : _) : (updPow a0 a1).host = a1.host := rfl
@[simp] theorem updPow_cab (a0 a1 : _) : (updPow a0 a1).cab = a1.cab := rfl
@[simp] theorem updPow_disp (a0 a1 : _) : (updPow a0 a1).disp = a1.disp := rfl
@[simp] theorem updPow_cores (a0 a1 : _) : (updPow a0 a1).cores = a1.cores := rfl
@[simp] theorem updPow_dov (a0 a1 : _) : (updPow a0 a1).dov = a1.dov := rfl
@[simp] theorem updPow_lk (a0 a1 : _) : (updPow a0 a1).lk = a1.lk := rfl
@[simp] theorem updPow_cop (a0 a1 : _) : (updPow a0 a1).cop = a1.cop := rfl
@[simp] theorem updPow_dram (a0 a1 : _) : (updPow a0 a1).dram = a1.dram := rfl
@[simp] theorem updPow_ev (a0 a1 : _) : (updPow a0 a1).ev = a1.ev := rfl
@[simp] theorem updPow_sec (a0 a1 : _) : (updPow a0 a1).sec = a1.sec := rfl

@[simp] theorem updPtp_pending (a0 a1 : _) : (updPtp a0 a1).pending = a1.pending := rfl
@[simp] theorem updPtp_fresh (a0 a1 : _) : (updPtp a0 a1).fresh = a1.fresh := rfl
@[simp] theorem updPtp_flags (a0 a1 : _) : (updPtp a0 a1).flags = a1.flags := rfl
@[simp] theorem updPtp_totals (a0 a1 : _) : (updPtp a0 a1).totals = a1.totals := rfl
@[simp] theorem updPtp_cntAcc (a0 a1 : _) : (updPtp a0 a1).cntAcc = a1.cntAcc := rfl
@[simp] theorem updPtp_cntTot (a0 a1 : _) : (updPtp a0 a1).cntTot = a1.cntTot := rfl
@[simp] theorem updPtp_cntSheet (a0 a1 : _) : (updPtp a0 a1).cntSheet = a1.cntSheet := rfl
@[simp] theorem updPtp_failover (a0 a1 : _) : (updPtp a0 a1).failover = a1.failover := rfl
@[simp] theorem updPtp_sh (a0 a1 : _) : (updPtp a0 a1).sh = a1.sh := rfl
@[simp] theorem updPtp_host (a0 a1 : _) : (updPtp a0 a1).host = a1.host := rfl
@[simp] theorem updPtp_cab (a0 a1 : _) : (updPtp a0 a1).cab = a1.cab := rfl
@[simp] theorem updPtp_disp (a0 a1 : _) : (updPtp a0 a1).disp = a1.disp := rfl
@[simp] theorem updPtp_cores (a0 a1 : _) : (updPtp a0 a1).cores = a1.cores := rfl
@[simp] theorem updPtp_dov (a0 a1 : _) : (updPtp a0 a1).dov = a1.dov := rfl
@[simp] theorem updPtp_lk (a0 a1 : _) : (updPtp a0 a1).lk = a1.lk := rfl
@[simp] theorem updPtp_cop (a0 a1 : _) : (updPtp a0 a1).cop = a1.cop := rfl
@[simp] theorem updPtp_dram (a0 a1 : _) : (updPtp a0 a1).dram = a1.dram := rfl
@[simp] theorem updPtp_ev (a0 a1 : _) : (updPtp a0 a1).ev = a1.ev := rfl
@[simp] theorem updPtp_sec (a0 a1 : _) : (updPtp a0 a1).sec = a1.sec := rfl
@[simp] theorem updPtp_pow (a0 a1 : _) : (updPtp a0 a1).pow = a1.pow := rfl

@[simp] theorem updSec_pending (a0 a1 : _) : (updSec a0 a1).pending = a1.pending := rfl
@[simp] theorem updSec_fresh (a0 a1 : _) : (updSec a0 a1).fresh = a1.fresh := rfl
@[simp] theorem updSec_flags (a0 a1 : _) : (updSec a0 a1).flags = a1.flags := rfl
@[simp] theorem updSec_totals (a0 a1 : _) : (updSec a0 a1).totals = a1.totals := rfl
@[simp] theorem updSec_cntAcc (a0 a1 : _) : (updSec a0 a1).cntAcc = a1.cntAcc := rfl
@[simp] theorem updSec_cntTot (a0 a1 : _) : (updSec a0 a1).cntTot = a1.cntTot := rfl
@[simp] theorem updSec_cntSheet (a0 a1 : _) : (updSec a0 a1).cntSheet = a1.cntSheet := rfl
@[simp] theorem updSec_failover (a0 a1 : _) : (updSec a0 a1).failover = a1.failover := rfl
@[simp] theorem updSec_sh (a0 a1 : _) : (updSec a0 a1).sh = a1.sh := rfl
@[simp] theorem updSec_line (a0 a1 : _) : (updSec a0 a1).line = a1.line := rfl
@[simp] theorem updSec_host (a0 a1 : _) : (updSec a0 a1).host = a1.host := rfl
@[simp] theorem updSec_cab (a0 a1 : _) : (updSec a0 a1).cab = a1.cab := rfl
@[simp] theorem updSec_disp (a0 a1 : _) : (updSec a0 a1).disp = a1.disp := rfl
@[simp] theorem updSec_cores (a0 a1 : _) : (updSec a0 a1).cores = a1.cores := rfl
@[simp] theorem updSec_dov (a0 a1 : _) : (updSec a0 a1).dov = a1.dov := rfl
@[simp] theorem updSec_lk (a0 a1 : _) : (updSec a0 a1).lk = a1.lk := rfl
@[simp] theorem updSec_cop (a0 a1 : _) : (updSec a0 a1).cop = a1.cop := rfl
@[simp] theorem updSec_dram (a0 a1 : _) : (updSec a0 a1).dram = a1.dram := rfl
@[simp] theorem updSec_ev (a0 a1 : _) : (updSec a0 a1).ev = a1.ev := rfl
@[simp] theorem updSec_pow (a0 a1 : _) : (updSec a0 a1).pow = a1.pow := rfl

@[simp] theorem updSheets_pending (a0 a1 : _) : (updSheets a0 a1).pending = a1.pending := rfl
@[simp] theorem updSheets_fresh (a0 a1 : _) : (updSheets a0 a1).fresh = a1.fresh := rfl
@[simp] theorem updSheets_flags (a0 a1 : _) : (updSheets a0 a1).flags = a1.flags := rfl
@[simp] theorem updSheets_totals (a0 a1 : _) : (updSheets a0 a1).totals = a1.totals := rfl
@[simp] theorem updSheets_cntAcc (a0 a1 : _) : (updSheets a0 a1).cntAcc = a1.cntAcc := rfl
@[simp] theorem updSheets_cntTot (a0 a1 : _) : (updSheets a0 a1).cntTot = a1.cntTot := rfl
@[simp] theorem updSheets_cntSheet (a0 a1 : _) : (updSheets a0 a1).cntSheet = a1.cntSheet := rfl
@[simp] theorem updSheets_failover (a0 a1 : _) : (updSheets a0 a1).failover = a1.failover := rfl
@[simp] theorem updSheets_line (a0 a1 : _) : (updSheets a0 a1).line = a1.line := rfl
@[simp] theorem updSheets_host (a0 a1 : _) : (updSheets a0 a1).host = a1.host := rfl
@[simp] theorem updSheets_cab (a0 a1 : _) : (updSheets a0 a1).cab = a1.cab := rfl
@[simp] theorem updSheets_disp (a0 a1 : _) : (updSheets a0 a1).disp = a1.disp := rfl
@[simp] theorem updSheets_cores (a0 a1 : _) : (updSheets a0 a1).cores = a1.cores := rfl
@[simp] theorem updSheets_dov (a0 a1 : _) : (updSheets a0 a1).dov = a1.dov := rfl
@[simp] theorem updSheets_lk (a0 a1 : _) : (updSheets a0 a1).lk = a1.lk := rfl
@[simp] theorem updSheets_cop (a0 a1 : _) : (updSheets a0 a1).cop = a1.cop := rfl
@[simp] theorem updSheets_dram (a0 a1 : _) : (updSheets a0 a1).dram = a1.dram := rfl
@[simp] theorem updSheets_ev (a0 a1 : _) : (updSheets a0 a1).ev = a1.ev := rfl
@[simp] theorem updSheets_sec (a0 a1 : _) : (updSheets a0 a1).sec = a1.sec := rfl
@[simp] theorem updSheets_pow (a0 a1 : _) : (updSheets a0 a1).pow = a1.pow := rfl

@[simp] theorem writeResults_pending (a0 a1 a2 : _) : (writeResults a0 a1 a2).pending = a2.pending := rfl
@[simp] theorem writeResults_fresh (a0 a1 a2 : _) : (writeResults a0 a1 a2).fresh = a2.fresh := rfl
@[simp] theorem writeResults_flags (a0 a1 a2 : _) : (writeResults a0 a1 a2).flags = a2.flags := rfl
@[simp] theorem writeResults_totals (a0 a1 a2 : _) : (writeResults a0 a1 a2).totals = a2.totals := rfl
@[simp] theorem writeResults_cntAcc (a0 a1 a2 : _) : (writeResults a0 a1 a2).cntAcc = a2.cntAcc := rfl
@[simp] theorem writeResults_cntTot (a0 a1 a2 : _) : (writeResults a0 a1 a2).cntTot = a2.cntTot := rfl
@[simp] theorem writeResults_cntSheet (a0 a1 a2 : _) : (writeResults a0 a1 a2).cntSheet = a2.cntSheet := rfl
@[simp] theorem writeResults_failover (a0 a1 a2 : _) : (writeResults a0 a1 a2).failover = a2.failover := rfl
@[simp] theorem writeResults_sh (a0 a1 a2 : _) : (writeResults a0 a1 a2).sh = a2.sh := rfl
@[simp] theorem writeResults_line (a0 a1 a2 : _) : (writeResults a0 a1 a2).line = a2.line := rfl
@[simp] theorem writeResults_cab (a0 a1 a2 : _) : (writeResults a0 a1 a2).cab = a2.cab := rfl
@[simp] theorem writeResults_disp (a0 a1 a2 : _) : (writeResults a0 a1 a2).disp = a2.disp := rfl
@[simp] theorem writeResults_cores (a0 a1 a2 : _) : (writeResults a0 a1 a2).cores = a2.cores := rfl
@[simp] theorem writeResults_dov (a0 a1 a2 : _) : (writeResults a0 a1 a2).dov = a2.dov := rfl
@[simp] theorem writeResults_lk (a0 a1 a2 : _) : (writeResults a0 a1 a2).lk = a2.lk := rfl
@[simp] theorem writeResults_cop (a0 a1 a2 : _) : (writeResults a0 a1 a2).cop = a2.cop := rfl
@[simp] theorem writeResults_dram (a0 a1 a2 : _) : (writeResults a0 a1 a2).dram = a2.dram := rfl
@[simp] theorem writeResults_ev (a0 a1 a2 : _) : (writeResults a0 a1 a2).ev = a2.ev := rfl
@[simp] theorem writeResults_sec (a0 a1 a2 : _) : (writeResults a0 a1 a2).sec = a2.sec := rfl
@[simp] theorem writeResults_pow (a0 a1 a2 : _) : (writeResults a0 a1 a2).pow = a2.pow := rfl

@[simp] theorem writeStatus_pending (a0 a1 a2 : _) : (writeStatus a0 a1 a2).pending = a2.pending := rfl
@[simp] theorem writeStatus_fresh (a0 a1 a2 : _) : (writeStatus a0 a1 a2).fresh = a2.fresh := rfl
@[simp] theorem writeStatus_flags (a0 a1 a2 : _) : (writeStatus a0 a1 a2).flags = a2.flags := rfl
@[simp] theorem writeStatus_totals (a0 a1 a2 : _) : (writeStatus a0 a1 a2).totals = a2.totals := rfl
@[simp] theorem writeStatus_cntAcc (a0 a1 a2 : _) : (writeStatus a0 a1 a2).cntAcc = a2.cntAcc := rfl
@[simp] theorem writeStatus_cntTot (a0 a1 a2 : _) : (writeStatus a0 a1 a2).cntTot = a2.cntTot := rfl
@[simp] theorem writeStatus_cntSheet (a0 a1 a2 : _) : (writeStatus a0 a1 a2).cntSheet = a2.cntSheet := rfl
@[simp] theorem writeStatus_failover (a0 a1 a2 : _) : (writeStatus a0 a1 a2).failover = a2.failover := rfl
@[simp] theorem writeStatus_sh (a0 a1 a2 : _) : (writeStatus a0 a1 a2).sh = a2.sh := rfl
@[simp] theorem writeStatus_line (a0 a1 a2 : _) : (writeStatus a0 a1 a2).line = a2.line := rfl
@[simp] theorem writeStatus_cab (a0 a1 a2 : _) : (writeStatus a0 a1 a2).cab = a2.cab := rfl
@[simp] theorem writeStatus_disp (a0 a1 a2 : _) : (writeStatus a0 a1 a2).disp = a2.disp := rfl
@[simp] theorem writeStatus_cores (a0 a1 a2 : _) : (writeStatus a0 a1 a2).cores = a2.cores := rfl
@[simp] theorem writeStatus_dov (a0 a1 a2 : _) : (writeStatus a0 a1 a2).dov = a2.dov := rfl
@[simp] theorem writeStatus_lk (a0 a1 a2 : _) : (writeStatus a0 a1 a2).lk = a2.lk := rfl
@[simp] theorem writeStatus_cop (a0 a1 a2 : _) : (writeStatus a0 a1 a2).cop = a2.cop := rfl
@[simp] theorem writeStatus_dram (a0 a1 a2 : _) : (writeStatus a0 a1 a2).dram = a2.dram := rfl
@[simp] theorem writeStatus_ev (a0 a1 a2 : _) : (writeStatus a0 a1 a2).ev = a2.ev := rfl
@[simp] theorem writeStatus_sec (a0 a1 a2 : _) : (writeStatus a0 a1 a2).sec = a2.sec := rfl
@[simp] theorem writeStatus_pow (a0 a1 a2 : _) : (writeStatus a0 a1 a2).pow = a2.pow := rfl

end Sys2Proof.Machine
end

