-- ==== Sys2Proof/WellFormed.lean ====
section
/-!
DEFINITION. The commands the block can receive: a list operand has the length its happening gives it.
-/
namespace Sys2Proof

/-- Bytes a line port can deliver as one frame before its MAC gives up (R86, R87): the largest MAX_FRAME. -/
def maxLineFrame : Nat := 16383

/-- Can the block receive the command? A PFC frame carries eight quanta (R90). -/
def Instr.wellFormed : Instr → Bool
  | .pfcFrameReceive _ _ quanta => quanta.length == 8
  | _ => true

end Sys2Proof
end

