-- ==== Sys2Proof/Tests/Slice0.lean ====
section
/-!
SUPPORT. The author's tests: one named theorem, or a few, for each statement with hypotheses shows a state and operands that meet the
hypotheses of each of its clauses together; the well-formedness check refuses an ill-formed term; and single steps answer what worked examples
of the spec say.
-/
namespace Sys2Proof.Tests
open Sys2Proof Sys2Proof.Machine
set_option Elab.async false

/-- The clauses of Accepted as a test. -/
def acceptedB (c : CmdSpec) (m : BitVec 4) (s : State) : Bool :=
  decide (mbxOpcode s m.toNat = c.op) && mayStart s m.toNat && decide (headerFault s m.toNat c.load = none) &&
  !cmdDenied s c.op (mbxPayload s m.toNat) && !(furnishOp c.op && furnishHeld s) &&
  (!c.load || decide (loadFault s (mbxField s m.toNat 8 1) = none)) &&
  decide (payloadFault c (startCmd m.toNat s) (mbxPayload s m.toNat) = none)

theorem accepted_of {c : CmdSpec} {m : BitVec 4} {s : State} (h : acceptedB c m s = true) : Accepted c m s := by
  simp only [acceptedB, Bool.and_eq_true, decide_eq_true_eq, Bool.not_eq_true', Bool.or_eq_true] at h
  obtain ⟨⟨⟨⟨⟨⟨h1, h2⟩, h3⟩, h4⟩, h5⟩, h6⟩, h7⟩ := h
  exact ⟨h1, h2, h3, h4, h5, fun hl => by simpa [hl] using h6, h7⟩

/-- The clauses of CanIssue as a test. -/
def canIssueB (s : State) (t : BitVec 9) (srcs dsts : List (BitVec 5)) : Bool :=
  mayIssue s t.toNat && decide ((thr s t.toNat).after = .none) && !instrBad s t.toNat &&
  !s.cores.imemWeak.contains (fetchKey s t.toNat) && !reservedWord (wordAt s t.toNat) && (srcs ++ dsts).all (fun r => (tabFind (thr s t.toNat).pending r.toNat).isNone) &&
  srcs.all (fun r => !(thr s t.toNat).badRegs.contains r.toNat) && (thr s t.toNat).badRegs.all (fun r => decide (r < 32)) &&
  (!(thr s t.toNat).terminated || decide ((thr s t.toNat).handlerCount < 1024))

theorem canIssue_of {s : State} {t : BitVec 9} {srcs dsts : List (BitVec 5)} (h : canIssueB s t srcs dsts = true) :
    CanIssue s t srcs dsts := by
  simp only [canIssueB, Bool.and_eq_true, Bool.not_eq_true', Bool.or_eq_true, decide_eq_true_eq] at h
  obtain ⟨⟨⟨⟨⟨⟨⟨⟨h1, h2⟩, h3⟩, h4⟩, h5⟩, h6⟩, h7⟩, h9⟩, h8⟩ := h
  exact ⟨h1, h2, h3, h4, h5, h6, h7, h9, fun ht => by simpa [ht] using h8⟩

/-- A device whose firmware runs, with the generator on. -/
def up : State := { sh := { running := true }, host := { fwReady := true, busMaster := true }, pow := { level := 0, stage := .running } }

/-- Mailbox 0 holds a command with an opcode, a TARGET and a payload of (value, bytes) fields, and has been accepted. -/
def cmd (op : Nat) (p : List (Nat × Nat)) (s : State := up) (target : Nat := 0) : State :=
  let b := layout p
  { s with host := { s.host with
    accepted := [0], busy := 1
    mbx := tabEntries 0 0 (layout [(op, 2), (0x1234, 2), (b.length, 2), (0, 2), (target, 1), (0, 7)] ++ b) } }

/-- The same with the banks of furnish 1 open. -/
def opened : State := { up with sh := { up.sh with next := some { bank := {} } } }

/-- A load command: its TARGET is furnish 1. -/
def load (op : Nat) (p : List (Nat × Nat)) (s : State := opened) : State := cmd op p s 1

/-- An ordinary item of domain 5 on thread 9, arrived in sheet 0 with window 1. -/
def item : Item :=
  { isEvent := false, cls := 2, port := 1, domain := 5, seq := 7, furnish := 0, arrival := 0, window := 1, deadline := 1, ctx := 3
    evidence := false, lossless := false, dd0 := 0, dd1 := 0, dd2 := 0, dd3 := 0, place := .onThread 9 }

/-- The device in sheet 9 with the item in flight on its thread. -/
def flying (x : Item := item) (t : Thread := { st := .run, item := some (5 * 65536 + 7) }) : State :=
  { up with sh := { up.sh with sheet := 9 }, disp := { items := [(5 * 65536 + 7, x)] }, cores := { threads := [(9, t)] } }
/-- The device with 1 GiB of DRAM on channel 0. -/
def backed : State := { up with dram := { ranges := [(0, { channels := 1, enable := true, size := 1 })], layout := [(0, { channels := 1, enable := true, size := 1 })], started := true, stateCode := 2 } }
/-- A thread that runs, with four registers set. -/
def runner (x : Thread := {}) (s : State := up) : State := { s with cores := { s.cores with threads := [(511, { x with st := .run, g := [(1, 5), (2, 0xFFFFFFFFF), (3, 0x800000000)], pc := 65535 })] } }
/-- The device with an item of domain 5 on thread 511, which runs with the given registers. -/
def onThr (g : Tab Word36) (f : Thread → Thread := id) (x : Item := item) (s : State := up) : State :=
  { s with disp := { s.disp with items := [(5 * 65536 + 7, { x with place := .onThread 511 })], nextAssign := [(5, 8)], nextRelease := [(5, 7)] }
           cores := { s.cores with threads := [(511, f { st := .run, item := some (5 * 65536 + 7), ctx := some 3, g := g, pc := 65535 })] } }
/-- A packet handle with one cell, and a buffer of core 63 with one cell. -/
def handled (g : Tab Word36) (h : Handle) (s : State := up) : State :=
  let s := onThr g (fun x => { x with hnd := [(0, 0xFFFFFF), (3, 786431)] }) item s
  { s with cab := { s.cab with handles := [(786431, h)] } }
/-- A packet and a buffer. -/
def pkt : Handle := { used := true, kind := .packet, owner := 254, charge := 3, refs := 1, cells := [(0, (3, 0))] }
def buf : Handle := { used := true, kind := .buffer, owner := 127, charge := 127, drawer := 63, cells := [(0, (3, 0))] }
def prof : OwnerProfile := { drawer := 63, lossless := false, spillEn := false, red := 0, min := 2, max := 8, hr := 0, spillMax := 0, xoff := 6, xon := 4, dropBudget := 1, budgetSheets := 3 }
/-- The device with cells to grant in drawer 63. -/
def roomy : State := { up with
  sh := { up.sh with cur := { owners := [(65, prof), (127, prof), (128, prof)] } }
  cab := { up.cab with groups := [(7, { cells := 1024, filled := true, vatCache := [4, 5, 6] })], size := [(63, 1024)] } }

/-- Is the outcome a next state with a property? -/
def nextHas (o : Res) (p : State → Bool) : Bool := match o with | .next t => p t | _ => false

/-- R90: a PFC frame carries eight quanta. -/
theorem test_ill_formed_refused :
    (Instr.pfcFrameReceive 3 0 [1, 2]).wellFormed = false ∧ (Instr.pfcFrameReceive 3 0 (List.replicate 8 1)).wellFormed = true ∧
    nextHas (exec (.pfcFrameReceive 3 0 [1, 2]) up) (fun _ => true) = false := by decide +kernel

/-- Thread 511 with a register, CIRC0 and BREV, on a core whose data memory holds its own addresses about 0x0100 and 0x0200. -/
def reader (r : BitVec 5) (v : Word36) : State :=
  let s := onThr [(r.toNat, v)] (fun x => { x with circ := [(0, 0x04000005)], brev := 3 })
  { s with cores := { s.cores with
    dmem := (List.range 5).map (fun i => (63 * 32768 + 0x100 + i, BitVec.ofNat 36 (0x100 + i))) ++
      (List.range 8).map (fun i => (63 * 32768 + 0x200 + i, BitVec.ofNat 36 (0x200 + i))) } }

/-- What ldw gt, [g5] or [g6] reads and leaves. -/
def reads (r : BitVec 5) (v : Word36) (md : BitVec 16) (word after : Word36) : Bool :=
  nextHas (execLdw 511 7 r 0 3 md (reader r v)) (fun t => regG t 511 7 == word && regG t 511 r == after)

/-- 05, worked example: a five-word reorder ring. -/
theorem test_circular_addresses :
    reads 5 0x103 2 0x103 0x100 ∧ reads 5 0x100 2 0x100 0x102 ∧ reads 5 0x102 2 0x102 0x104 ∧ reads 5 0x104 2 0x104 0x101 ∧
    reads 5 0x101 2 0x101 0x103 := by decide +kernel

/-- 05, worked example: bit-reversed order for an 8-point transform. -/
theorem test_bit_reversed_addresses :
    reads 6 0x200 0x8001 0x200 0x204 ∧ reads 6 0x204 0x8001 0x204 0x202 ∧ reads 6 0x202 0x8001 0x202 0x206 ∧
    reads 6 0x206 0x8001 0x206 0x201 ∧ reads 6 0x203 0x8001 0x203 0x207 ∧ reads 6 0x207 0x8001 0x207 0x200 := by decide +kernel

/-- 05, worked example: the products of GF(2^16) and GF(2^8) lanes. -/
theorem test_field_products :
    nextHas (exec (.gfm16 511 0 7 8 0) (onThr [(7, 0x38000), (8, 0x50002)])) (fun t => (thr t 511).muls == [⟨0, 0x000F100B⟩]) ∧
    nextHas (exec (.gfm8 511 0 7 8 0) (onThr [(7, 0x8702), (8, 0x0287)])) (fun t => (thr t 511).muls == [⟨0, 0x1313⟩]) := by
  decide +kernel

/-- 10, worked example: decoding one address. -/
theorem test_dram_address :
    dramPlace { up with dram := { ranges := [(0, { channels := 0xFF, enable := true, size := 256 })] } } 0x1234567A40 = some (2, 0x2468ACF40) ∧
    dramDecode { channels := 0xFF, speed := 0, ranks := 2, width := 8, density := 16 } 0x2468ACF40 =
      { subchannel := 1, column := 480, group := (6 : Nat).xor (0x48D1 % 8), bank := 2, rank := 0, row := 0x48D1 } := by decide +kernel

/-- 03, worked example: drop probabilities at the averages after 5, 11, 21 and 22 ticks. -/
theorem test_drop_probabilities :
    let r : RedProfile := { weight := 4, gMin := 4000, gMax := 12000, gMaxp := 1311, yMin := 2000, yMax := 6000, yMaxp := 6554 }
    redProbability r 0 564845 = 0 ∧ redProbability r 1 564845 = 338 ∧ redProbability r 0 1041035 = 10 ∧ redProbability r 1 1041035 = 3386 ∧
    redProbability r 1 1519887 = 6450 ∧ redProbability r 1 1552894 = 65536 := by decide +kernel

/-- 12, worked example: an ACTION_LOAD through mailbox 2, its completion entry and MBX_STATUS_2. -/
def loadExample : State :=
  { opened with host := { opened.host with
    accepted := [2], busy := 4, cq := { enabled := true, address := 4096, entries := 16, phase := true }
    mbx := tabEntries 0 512 (layout [(0x01070220, 4), (0x14, 4), (0x00150001, 4), (0, 4), (0x00280100, 4), (0x5980C000, 4),
      (0x40100000, 4), (0x40E00000, 4), (0x6C, 4)]) } }

theorem test_action_load_example :
    nextHas (exec (.actionLoad 2) loadExample) (fun t =>
      memRead t.host.mem 4096 16 == layout [(0x02200107, 4), (0x200, 4), (0, 4), (0x80000015, 4)] &&
      tabGet 0 t.host.status 2 == 0 && tabGet 0 t.host.tag 2 == 0x0107 && t.host.done.getLsbD 2 && !t.host.busy.getLsbD 2) := by decide +kernel

/-- 13, worked example: three resets overlapping; RESET_CAUSE reads 0x62 and LAST_RESET 3. -/
theorem test_reset_cause :
    nextHas (exec .rstNRelease { up with pow := { level := 3, held := 2, since := 0x62, bootSrc := 3 } })
      (fun t => t.pow.cause == 0x62 && t.host.lastReset == 3) := by decide +kernel

/-- 01, worked example: a lossless item that arrived in sheet 5000 with W = 1 is late at the tick closing 5001; resumed, its DL is 5005. -/
theorem test_late_lossless_item :
    let s := flying { item with cls := 5, port := 2, lossless := true, arrival := 5000, deadline := 5001 }
    nextHas (exec (.lateLossless 5 7) { s with sh := { s.sh with sheet := 5002 } }) (fun t =>
      ((itemOf t (5 * 65536 + 7)).map (·.late)) == some true && nextHas (exec (.resumeH 9 0 0 0 0) t) (fun u =>
        ((itemOf u (5 * 65536 + 7)).map (fun x => x.deadline.toNat)) == some 5005)) := by decide +kernel

/-- The check value of CRC-32C and the digest of the empty message (RFC 3720, FIPS 180-4). -/
theorem test_check_values :
    crc32c ("123456789".toList.map (fun c => BitVec.ofNat 8 c.toNat)) = 0xE3069283 ∧
    beNat (sha256 []) = 0xE3B0C44298FC1C149AFBF4C8996FB92427AE41E4649B934CA495991B7852B855 := by decide +kernel

/-- R274 and R652: a word of a reserved major opcode, LKUP with OP 3 and a management-processor function at the PC raise ILLEGAL. -/
def reservedAt (w : Word36) : State :=
  let s := onThr []
  { s with cores := { s.cores with imem := [(7 * 65536 + 65535, w)] } }

theorem test_reserved_words_raise_illegal :
    [9663676416, 27917287616, 51539607600].all (fun w =>
      nextHas (exec (.slli 511 1 2 3 0 0) (reservedAt w)) (fun t => (thr t 511).lastEx == 1 && (thr t 511).st == .halt)) = true := by
  decide +kernel

/-- 10, Refresh: the fourth postponed refresh is due, and issues before the request that waits (R542, R550). -/
theorem test_due_refresh_comes_first :
    let q : DramReq := { port := 7, write := false, line := 0, rank := 0, group := 0, bank := 0, row := 0, since := 0 }
    let s : State := { backed with dram := { backed.dram with
      population := some { channels := 0xFF, speed := 2, ranks := 2, width := 4, density := 32 }, chans := [(0, { subA := { queue := [q] }, owed := [(0, 3)] })] } }
    nextHas (exec (.refreshIssue ⟨0, 0, true⟩) s) (fun t =>
      (chanState (dramCycle t) 0).owed == [] && (chanState (dramCycle t) 0).subA.queue.length == 1 &&
      (chanState (dramCycle (dramCycle t)) 0).subA.queue.map (·.opened) == [true]) := by decide +kernel

/-! ### States that meet the hypotheses of the statements -/

namespace HostCommandsTakeEffect
theorem test_states_meet_1 :
    (∃ (s : State) (m : BitVec 4), Accepted completionQueueSet m s ∧ s.pow.after = .none ∧ par s m 10 1 = 1 ∧ s.host.cq.enabled = false ∧
      s.host.busMaster = true ∧ s.host.held = []) ∧
    (∃ (s : State) (m : BitVec 4), Accepted completionQueueSet m s ∧ s.pow.after = .none ∧ par s m 10 1 = 0) ∧
    (∃ (s : State) (m : BitVec 4), Accepted eventQueueSet m s ∧ completionRoom s = true ∧ par s m 12 1 = 1 ∧ s.host.eq.enabled = false) ∧
    (∃ (s : State) (m : BitVec 4), Accepted eventQueueSet m s ∧ completionRoom s = true ∧ par s m 12 1 = 0) ∧
    (∃ (s : State) (m : BitVec 4), Accepted deviceQuery m s ∧ completionRoom s = true) ∧
    (∃ (s : State) (m : BitVec 4), Accepted eventMaskSet m s ∧ completionRoom s = true) ∧
    (∃ (s : State) (m : BitVec 4), Accepted msixMap m s ∧ completionRoom s = true) ∧
    (∃ (s : State) (m : BitVec 4), Accepted fwRegionSet m s ∧ completionRoom s = true ∧ s.dram.started = false) :=
  ⟨⟨cmd 2 [(0x1000,8),(16,2),(1,1),(0,1)], 0, accepted_of (by decide +kernel), by decide +kernel⟩,
  ⟨cmd 2 [(0,8),(16,2),(0,1),(0,1)], 0, accepted_of (by decide +kernel), by decide +kernel⟩,
  ⟨cmd 3 [(0x1000,8),(64,4),(1,1),(0,3)], 0, accepted_of (by decide +kernel), by decide +kernel⟩,
  ⟨cmd 3 [(0,8),(64,4),(0,1),(0,3)], 0, accepted_of (by decide +kernel), by decide +kernel⟩,
  ⟨cmd 1 [], 0, accepted_of (by decide +kernel), by decide +kernel⟩,
  ⟨cmd 4 [(511,2),(1,2),(0,1),(0,3)], 0, accepted_of (by decide +kernel), by decide +kernel⟩,
  ⟨cmd 5 [(33,1),(63,1),(7,2)], 0, accepted_of (by decide +kernel), by decide +kernel⟩,
  ⟨cmd 6 [(4096,8),(2^30,8)], 0, accepted_of (by decide +kernel), by decide +kernel⟩⟩
theorem test_states_meet_2 :
    (∃ (s : State) (m : BitVec 4), Accepted exrSet m s ∧ completionRoom s = true ∧ par s m 1 1 = 1 ∧ (exrOf s (par s m 0 1)).enabled =
      false) ∧
    (∃ (s : State) (m : BitVec 4), Accepted exrSet m s ∧ completionRoom s = true ∧ par s m 1 1 = 0) ∧
    (∃ (s : State) (m : BitVec 4), Accepted injSet m s ∧ completionRoom s = true ∧ par s m 1 1 = 1 ∧ (injOf s (par s m 0 1)).enabled =
      false ∧ ticking s = true) ∧
    (∃ (s : State) (m : BitVec 4), Accepted injSet m s ∧ completionRoom s = true ∧ par s m 1 1 = 0) ∧
    (∃ (s : State) (m : BitVec 4), Accepted ringStatus m s ∧ completionRoom s = true ∧ par s m 0 1 = 0) ∧
    (∃ (s : State) (m : BitVec 4), Accepted ringStatus m s ∧ completionRoom s = true ∧ par s m 0 1 = 1) ∧
    (∃ (s : State) (m : BitVec 4), Accepted hostCounters m s ∧ completionRoom s = true) ∧
    (∃ (s : State) (m : BitVec 4), Accepted echoCmd m s ∧ completionRoom s = true) :=
  ⟨⟨cmd 16 [(15,1),(1,1),(11,1),(0,1),(16,4),(4096,8),(8,8),(1,2)], 0, accepted_of (by decide +kernel), by decide +kernel⟩,
  ⟨cmd 16 [(15,1),(0,1),(11,1),(0,1),(16,4),(0,8),(0,8),(1,2)] { up with host := { up.host with exr := [(15, { enabled := true, address := 4096 })] } },
    0, accepted_of (by decide +kernel), by decide +kernel⟩,
  ⟨cmd 17 [(15,1),(1,1),(7,1),(0,1),(16,4),(64,8),(8,8)], 0, accepted_of (by decide +kernel), by decide +kernel⟩,
  ⟨cmd 17 [(15,1),(0,1),(0,2),(16,4),(0,16)] { up with host := { up.host with inj := [(15, { enabled := true, address := 4096 })] } }, 0,
    accepted_of (by decide +kernel), by decide +kernel⟩,
  ⟨cmd 18 [(0,1),(15,1)], 0, accepted_of (by decide +kernel), by decide +kernel⟩,
  ⟨cmd 18 [(1,1),(15,1)], 0, accepted_of (by decide +kernel), by decide +kernel⟩,
  ⟨cmd 19 [(1,1)] { up with cntTot := [(3,5)] }, 0, accepted_of (by decide +kernel), by decide +kernel⟩,
  ⟨cmd 32 [(0x123456,3)], 0, accepted_of (by decide +kernel), by decide +kernel⟩⟩
end HostCommandsTakeEffect

namespace PortHAccessesTakeEffect
theorem test_states_meet_1 :
    (∃ (s : State), hostOpen s = true) ∧
    (∃ (s : State) (mask : BitVec 16), hostOpen s = true ∧ s.host.fwReady = true ∧ (∀ m < 16, mask.getLsbD m = true → s.host.busy.getLsbD m
      = false ∧ definedOps.contains (mbxOpcode s m) = true) ∧ (∀ m ∈ s.host.accepted, definedOps.contains (mbxOpcode s m) = true)) ∧
    (∃ (s : State) (m : Nat), hostOpen s = true ∧ m < 16 ∧ s.host.fwReady = true ∧ s.host.busy.getLsbD m = true ∧ (∀ q ∈ s.host.accepted,
      definedOps.contains (mbxOpcode s q) = true)) ∧
    (∃ (s : State), hostOpen s = true) ∧
    (∃ (s : State), hostOpen s = true) ∧
    (∃ (s : State), hostOpen s = true) :=
  ⟨⟨{ up with ev := { durable := 0x123456789ABC } }, by decide +kernel⟩,
  ⟨up, 0, by decide +kernel⟩,
  ⟨cmd 1 [], (0 : Nat), by decide +kernel⟩,
  ⟨{ up with host := { up.host with cq := { enabled := true, entries := 16, tail := 15 } } }, by decide +kernel⟩,
  ⟨{ up with host := { up.host with eq := { enabled := true, entries := 64, tail := 63 } } }, by decide +kernel⟩,
  ⟨{ up with host := { up.host with exr := [(15, { enabled := true, entries := 16, tail := 15 })] } }, by decide +kernel⟩⟩
theorem test_states_meet_2 :
    (∃ (s : State), hostOpen s = true) ∧
    (∃ (s : State) (o : BitVec 25), hostOpen s = true ∧ o.toNat % 4 = 0 ∧ flagRegs.contains o.toNat = true) ∧
    (∃ (s : State) (e : BitVec 4), hostOpen s = true ∧ e ≠ 0xF) ∧
    (∃ (s : State) (o : BitVec 25), hostOpen s = true ∧ o.toNat % 4 = 0 ∧ 0x10000 ≤ o.toNat ∧ o.toNat < 0x11000) ∧
    (∃ (s : State) (o : BitVec 25), hostOpen s = true ∧ tabGet 0 s.totals o.toNat < 2 ^ 32) :=
  ⟨⟨{ up with host := { up.host with inj := [(15, { enabled := true, entries := 16, head := 0 })] } }, by decide +kernel⟩,
  ⟨{ up with flags := [(0x6C4, 0xFF)] }, 0x6C4, by decide +kernel⟩,
  ⟨up, 0x7, by decide +kernel⟩,
  ⟨up, 0x10FFC, by decide +kernel⟩,
  ⟨{ up with totals := [(0x648, 0xFFFFFFFF)] }, 0x648, by decide +kernel⟩⟩
end PortHAccessesTakeEffect

namespace HostSideAndManagementProcessor
theorem test_states_meet :
    (∃ (s : State) (c : _) (r : List Completion), s.host.held = c :: r ∧ s.host.cq.enabled = true ∧ ringFull s s.host.cq.head
      s.host.cq.tail s.host.cq.entries = false) ∧
    (∃ (s : State) (src : Nat) (e : _), s.host.merged = [(src, e)] ∧ s.host.eq.enabled = true ∧ ringFull s s.host.eq.head s.host.eq.tail
      s.host.eq.entries = false) ∧
    (∃ (s : State) (c : BitVec 6), c.toNat ≤ 33 ∧ s.host.uncovered.getLsbD c.toNat = true ∧ s.host.msixEnable = true ∧ s.host.busMaster =
      true) ∧
    (∃ (s : State), configOpen s = true) ∧
    (∃ (s : State) (e : BitVec 4), configOpen s = true ∧ e.getLsbD 0 = true) ∧
    (∃ (s : State), mpRuns s = true) ∧
    (∃ (s : State), s.sec.level = 3) :=
  ⟨⟨{ up with host := { up.host with held := [{ mbx := 0, status := 0, resultLen := 0, detail := 0 }], cq := { enabled := true, entries := 16, address := 64 } } },
    ({ mbx := 0, status := 0, resultLen := 0, detail := 0 } : Completion), ([] : List Completion), by decide +kernel⟩,
  ⟨{ up with host := { up.host with merged := [(36, { count := 2, sheetLo := 1, data := 3, trunc := false })], eq := { enabled := true, entries := 64, address := 64 } } },
    (36 : Nat), ({ count := 2, sheetLo := 1, data := 3, trunc := false } : MergedEvent), by decide +kernel⟩,
  ⟨{ up with host := { up.host with uncovered := 2 ^ 33, msixEnable := true } }, 33, by decide +kernel⟩,
  ⟨up, by decide +kernel⟩,
  ⟨up, 1, by decide +kernel⟩,
  ⟨{ up with host := { up.host with mpRegs := [(3, 0x400)], mpCtl := [(0x400, 7)] } }, by decide +kernel⟩,
  ⟨{ up with sec := { level := 3 } }, by decide +kernel⟩⟩
end HostSideAndManagementProcessor

namespace SheetCommandsTakeEffect
theorem test_states_meet :
    (∃ (s : State) (m : BitVec 4), Accepted sheetSet m s ∧ completionRoom s = true ∧ s.sh.running = false) ∧
    (∃ (s : State) (m : BitVec 4), Accepted sheetStart m s ∧ completionRoom s = true ∧ s.sh.running = false ∧ s.sh.furnish ≠ 0 ∧ par s m 0
      1 = 0) ∧
    (∃ (s : State) (m : BitVec 4), Accepted sheetStart m s ∧ completionRoom s = true ∧ s.sh.running = false ∧ s.sh.furnish ≠ 0 ∧ par s m 0
      1 = 1) ∧
    (∃ (s : State) (m : BitVec 4), Accepted sheetAlign m s ∧ completionRoom s = true) ∧
    (∃ (s : State) (m : BitVec 4), Accepted sheetQuery m s ∧ completionRoom s = true) ∧
    (∃ (s : State) (m : BitVec 4) (b : _), Accepted sheetNext m s ∧ completionRoom s = true ∧ s.sh.next = some b) ∧
    (∃ (s : State) (m : BitVec 4), Accepted tickSubscribe m s ∧ completionRoom s = true) ∧
    (∃ (s : State) (m : BitVec 4), Accepted lateCounters m s ∧ completionRoom s = true) :=
  ⟨⟨cmd 0xD01 [(256,2),(8,1),(0,1),(2^48-1,8)] { up with sh := {} }, 0, accepted_of (by decide +kernel), by decide +kernel⟩,
  ⟨cmd 0xD02 [(0,1),(0,3)] { up with sh := { furnish := 1 } }, 0, accepted_of (by decide +kernel), by decide +kernel⟩,
  ⟨cmd 0xD02 [(1,1),(0,3)] { up with sh := { furnish := 255 } }, 0, accepted_of (by decide +kernel), by decide +kernel⟩,
  ⟨cmd 0xD03 [(1,1),(0,3)], 0, accepted_of (by decide +kernel), by decide +kernel⟩,
  ⟨cmd 0xD04 [], 0, accepted_of (by decide +kernel), by decide +kernel⟩,
  ⟨load 0xD05 [(4,2),(1,1)], 0, ({ bank := {} } : NextBank), accepted_of (by decide +kernel), by decide +kernel⟩,
  ⟨cmd 0xD06 [(7,1),(1,1),(65535,2),(256,2),(1,1),(0,1)], 0, accepted_of (by decide +kernel), by decide +kernel⟩,
  ⟨cmd 0xD20 [(16,1),(7,1),(1,1),(0,1)] { up with sh := { up.sh with late := [(540, 3)] } }, 0, accepted_of (by decide +kernel),
    by decide +kernel⟩⟩
end SheetCommandsTakeEffect

namespace FurnishCommandsTakeEffect
theorem test_states_meet :
    (∃ (s : State) (m : BitVec 4), Accepted furnishBegin m s ∧ completionRoom s = true ∧ par s m 0 1 = (nextFurnish s.sh.furnish).toNat ∧
      s.sh.old = none ∧ s.sh.pending = none ∧ s.sh.next = none) ∧
    (∃ (s : State) (m : BitVec 4) (b : _), Accepted furnishCloseUnit m s ∧ completionRoom s = true ∧ s.sh.next = some b ∧ tabGet 0
      b.written (unitPlace (par s m 0 1)) = par s m 4 4) ∧
    (∃ (s : State) (m : BitVec 4) (b : _), Accepted furnishCommit m s ∧ completionRoom s = true ∧ par s m 0 1 = (nextFurnish
      s.sh.furnish).toNat ∧ s.sh.pending = none ∧ s.sh.next = some b ∧ incompleteUnit s b = none ∧ ticking s = true ∧ s.sh.sheet.toNat + 2
      ≤ par s m 8 8 ∧ par s m 8 8 ≤ s.sh.sheet.toNat + 1048576) ∧
    (∃ (s : State) (m : BitVec 4) (b : _), Accepted furnishCommit m s ∧ completionRoom s = true ∧ par s m 0 1 = (nextFurnish
      s.sh.furnish).toNat ∧ s.sh.pending = none ∧ s.sh.next = some b ∧ incompleteUnit s b = none ∧ ticking s = false) ∧
    (∃ (s : State) (m : BitVec 4), Accepted furnishAbort m s ∧ completionRoom s = true ∧ par s m 0 1 = (nextFurnish s.sh.furnish).toNat ∧
      s.sh.next.isSome = true ∧ (∀ c, s.sh.pending = some c → 2 ^ 47 ≤ (s.sh.sheet + 1 - c.sheet).toNat)) ∧
    (∃ (s : State) (m : BitVec 4), Accepted furnishStatus m s ∧ completionRoom s = true) :=
  ⟨⟨cmd 0xD10 [(1,1),(0,3)] { up with sh := { up.sh with furnish := 255 } }, 0, accepted_of (by decide +kernel), by decide +kernel⟩,
  ⟨cmd 0xD11 [(0x70,1),(0,3),(0,4)] opened, 0, ({ bank := {} } : NextBank), accepted_of (by decide +kernel), by decide +kernel⟩,
  ⟨cmd 0xD12 [(1,1),(0,7),(2,8)] opened, 0, ({ bank := {} } : NextBank), accepted_of (by decide +kernel), by decide +kernel⟩,
  ⟨cmd 0xD12 [(1,1),(0,7),(0,8)] { opened with sh := { opened.sh with running := false } }, 0, ({ bank := {} } : NextBank), accepted_of
    (by decide +kernel), by decide +kernel⟩,
  ⟨cmd 0xD13 [(1,1),(1,1),(0,2)] { opened with sh := { opened.sh with pending := some { sheet := 2 } } }, 0, accepted_of
    (by decide +kernel), by decide +kernel⟩,
  ⟨cmd 0xD14 [] opened, 0, accepted_of (by decide +kernel), by decide +kernel⟩⟩
end FurnishCommandsTakeEffect

namespace TicksAndCommitsTakeEffect
theorem test_states_meet_1 :
    (∃ (s : State), ticking s = true) ∧
    (∃ (s : State), ticking s = false) ∧
    (∃ (s : State), s.sh.alignReq = some true ∧ s.sh.startReq = false) ∧
    (∃ (s : State), s.sh.alignReq = some false ∧ s.sh.startReq = false) ∧
    (∃ (s : State), s.sh.alignReq = none ∧ s.sh.startReq = true) ∧
    (∃ (s : State), hostOpen s = true) :=
  ⟨⟨{ up with sh := { up.sh with sheet := 0xFFFFFFFFFFFF } }, by decide +kernel⟩,
  ⟨{ up with sh := {} }, by decide +kernel⟩,
  ⟨{ up with sh := { up.sh with alignReq := some true } }, by decide +kernel⟩,
  ⟨{ up with sh := { up.sh with alignReq := some false, aligned := true } }, by decide +kernel⟩,
  ⟨{ up with sh := { startReq := true } }, by decide +kernel⟩,
  ⟨{ up with sh := { up.sh with sheet := 0x123456789ABC } }, by decide +kernel⟩⟩
theorem test_states_meet_2 :
    (∃ (s : State) (c : PendingCommit), s.sh.pending = some c ∧ c.asked = none ∧ s.sh.sheet + 1 = c.sheet) ∧
    (∃ (s : State) (c : PendingCommit) (b : _), s.sh.pending = some c ∧ (s.sh.sheet - c.sheet).toNat < 2 ^ 47 ∧ s.sh.next = some b ∧
      c.failed = []) ∧
    (∃ (s : State) (c : PendingCommit), s.sh.pending = some c ∧ (s.sh.sheet - c.sheet).toNat < 2 ^ 47 ∧ c.failed ≠ []) ∧
    (∃ (s : State), (∀ k < 8, (tabGet {} s.sh.subs k).enable = false)) ∧
    (∃ (s : State), Settled s) ∧
    (∃ (s : State) (f : BitVec 8) (b : Bank), s.sh.old = some (f, b) ∧ ticking s = true ∧ s.sh.tickOwed = true ∧ (∀ p ∈ s.disp.items,
      p.2.furnish = f → p.2.voided = true)) :=
  ⟨⟨{ opened with sh := { opened.sh with pending := some { sheet := 1 } } }, { sheet := 1 }, by decide +kernel⟩,
  ⟨{ opened with sh := { opened.sh with sheet := 1, pending := some { sheet := 1 } } }, { sheet := 1 }, ({ bank := {} } : NextBank),
    by decide +kernel⟩,
  ⟨{ opened with sh := { opened.sh with sheet := 1, pending := some { sheet := 1, failed := [(16, 1)] } } }, { sheet := 1, failed := [(16, 1)] },
    by decide +kernel⟩,
  ⟨up, by decide +kernel⟩,
  ⟨up, ⟨by decide +kernel, rfl, by decide +kernel⟩⟩,
  ⟨{ up with sh := { up.sh with old := some (1, {}), furnish := 2, tickOwed := true } }, 1, {}, by decide +kernel⟩⟩
end TicksAndCommitsTakeEffect

namespace LateItemsEnd
theorem test_states_meet :
    (∃ (s : State) (domain : BitVec 16) (seq : BitVec 16) (x : Item), itemOf s (itemKey domain seq) = some x ∧ x.ended = false ∧ x.hard =
      false ∧ overdue s x = true) ∧
    (∃ (s : State) (domain : BitVec 16) (seq : BitVec 16) (x : Item), itemOf s (itemKey domain seq) = some x ∧ x.ended = false ∧ x.hard =
      true ∧ x.late = false ∧ overdue s x = true) ∧
    (∃ (s : State) (domain : BitVec 16) (seq : BitVec 16) (x : Item), itemOf s (itemKey domain seq) = some x ∧ x.ended = false ∧ x.hard =
      true ∧ x.late = true ∧ pastCeiling s x = true) ∧
    (∃ (s : State) (domain : BitVec 16) (seq : BitVec 16) (x : Item), itemOf s (itemKey domain seq) = some x ∧ x.ended = false) ∧
    (∃ (s : State) (domain : BitVec 16) (seq : BitVec 16) (x : Item) (k : _) (n : _), itemOf s (itemKey domain seq) = some x ∧ x.ended =
      false ∧ (k, n) ∈ s.sh.ceilingXoff) :=
  ⟨⟨flying, 5, 7, item, by decide +kernel⟩,
  ⟨flying { item with lossless := true }, 5, 7, { item with lossless := true }, by decide +kernel⟩,
  ⟨flying { item with lossless := true, late := true }, 5, 7, { item with lossless := true, late := true }, by decide +kernel⟩,
  ⟨{ flying with sh := { (flying).sh with ceilingXoff := [(64 + 2, 1)], xonDue := [66] } }, 5, 7, item, by decide +kernel⟩,
  ⟨{ flying with sh := { (flying).sh with ceilingXoff := [(64 + 2, 1)] } }, 5, 7, item, 66, 1, by decide +kernel⟩⟩
end LateItemsEnd

namespace LineCommandsTakeEffect
theorem test_states_meet_1 :
    (∃ (s : State) (m : BitVec 4), Accepted portConfig m s ∧ completionRoom s = true ∧ (portOf s (par s m 0 1)).enabled = false) ∧
    (∃ (s : State) (m : BitVec 4), Accepted portEnable m s ∧ completionRoom s = true ∧ (portOf s (par s m 0 1)).configured = true ∧ par s m
      1 1 = 1 ∧ ticking s = true) ∧
    (∃ (s : State) (m : BitVec 4), Accepted portEnable m s ∧ completionRoom s = true ∧ (portOf s (par s m 0 1)).configured = true ∧ par s m
      1 1 = 0 ∧ (portOf s (par s m 0 1)).enabled = true) ∧
    (∃ (s : State) (m : BitVec 4), Accepted portStatus m s ∧ completionRoom s = true) ∧
    (∃ (s : State) (m : BitVec 4), Accepted portCounters m s ∧ completionRoom s = true) ∧
    (∃ (s : State) (m : BitVec 4), Accepted pfcConfig m s ∧ completionRoom s = true) :=
  ⟨⟨cmd 0x101 [(3,1),(1,1),(0,1),(1,1),(0xFAC688,4),(0xFAC688,4),(0xFF,1),(1,1),(9216,2),(0x0505050505050505,8),(2^383+5,48)], 0,
    accepted_of (by decide +kernel), by decide +kernel⟩,
  ⟨cmd 0x102 [(3,1),(1,1),(0,2)] (setPort 3 { configured := true, mode := 1 } up), 0, accepted_of (by decide +kernel), by decide +kernel⟩,
  ⟨cmd 0x102 [(3,1),(0,1),(0,2)] (updSub 24 (fun x => { x with linkUp := true }) (setPort 3 { configured := true, enabled := true, mode := 1, signal := 255, lock := 254, lost := 1 }
    up)), 0, accepted_of (by decide +kernel), by decide +kernel⟩,
  ⟨cmd 0x103 [(3,1)] (updSub 24 (fun x => { x with linkUp := true }) (setPort 3 { configured := true, enabled := true, mode := 1, signal := 255, lock := 254, lost := 1 }
    up)), 0, accepted_of (by decide +kernel), by decide +kernel⟩,
  ⟨cmd 0x104 [(3,1),(7,1),(1,1)] { up with cntTot := [(cntKey .mac 31 0, 5)] }, 0, accepted_of (by decide +kernel), by decide +kernel⟩,
  ⟨cmd 0x105 [(3,1),(255,1),(0xFAC688,3),(0,1),(0xFFFF,2),(0xFFFE,2)], 0, accepted_of (by decide +kernel), by decide +kernel⟩⟩
theorem test_states_meet_2 :
    (∃ (s : State) (m : BitVec 4), Accepted ptpSetTime m s ∧ completionRoom s = true) ∧
    (∃ (s : State) (m : BitVec 4) (u : Nat), Accepted ptpStep m s ∧ completionRoom s = true ∧ u < 2 ^ 48 * giga * 2 ^ 32 ∧ (u : Int) =
      ptpUnits s.line.ptp + sInt 64 (par s m 0 8) * 2 ^ 32) ∧
    (∃ (s : State) (m : BitVec 4), Accepted ptpFreq m s ∧ completionRoom s = true) ∧
    (∃ (s : State) (m : BitVec 4), Accepted ptpQuery m s ∧ completionRoom s = true) ∧
    (∃ (s : State) (m : BitVec 4), Accepted ptpPortDelay m s ∧ completionRoom s = true) ∧
    (∃ (s : State) (m : BitVec 4), Accepted txTimestampRead m s ∧ completionRoom s = true ∧ (∀ x ∈ (portOf s (par s m 0 1)).txStamps,
      x.length = 16)) :=
  ⟨⟨cmd 0x110 [(2^48-1,6),(999999999,4)], 0, accepted_of (by decide +kernel), by decide +kernel⟩,
  ⟨cmd 0x111 [(5,8)], 0, (5 * 2^32 : Nat), accepted_of (by decide +kernel), by decide +kernel⟩,
  ⟨cmd 0x112 [(500000*65536,8)], 0, accepted_of (by decide +kernel), by decide +kernel⟩,
  ⟨cmd 0x113 [], 0, accepted_of (by decide +kernel), by decide +kernel⟩,
  ⟨cmd 0x114 [(3,1),(7,1),(0,2),(0xFFFFFFFF,4),(7,4)], 0, accepted_of (by decide +kernel), by decide +kernel⟩,
  ⟨cmd 0x116 [(3,1),(14,1)] (setPort 3 { txStamps := [zeros 15 ++ [7]] } up), 0, accepted_of (by decide +kernel), by decide +kernel⟩⟩
end LineCommandsTakeEffect

namespace ClassifierCommandsTakeEffect
theorem test_states_meet_1 :
    (∃ (s : State) (m : BitVec 4), Accepted pipeConfig m s ∧ completionRoom s = true) ∧
    (∃ (s : State) (m : BitVec 4), Accepted parseNodeWrite m s ∧ completionRoom s = true) ∧
    (∃ (s : State) (m : BitVec 4), Accepted parseTransitionWrite m s ∧ completionRoom s = true) ∧
    (∃ (s : State) (m : BitVec 4), Accepted keyFieldWrite m s ∧ completionRoom s = true) ∧
    (∃ (s : State) (m : BitVec 4), Accepted ruleRead m s ∧ completionRoom s = true) ∧
    (∃ (s : State) (m : BitVec 4), Accepted actionLoad m s ∧ completionRoom s = true) :=
  ⟨⟨cmd 0x201 [(4,1),(12,1),(320,2),(2000000,4),(65535,2),(15,1),(15,1)], 0, accepted_of (by decide +kernel), by decide +kernel⟩,
  ⟨cmd 0x210 [(4,1),(63,1),(0,2),(0xE,1),(1,1),(0,1),(255,1),(0,2),(1,1),(0,1),(0,1),(0,1),(0,2),(16,1),(0x41,1),(0,2)], 0, accepted_of
    (by decide +kernel), by decide +kernel⟩,
  ⟨cmd 0x211 [(4,1),(0,1),(511,2),(63,1),(0x41,1),(0xFFFFFFFF,4),(1,1),(0,1)], 0, accepted_of (by decide +kernel), by decide +kernel⟩,
  ⟨cmd 0x212 [(4,1),(29,1),(0,2),(0xE,1),(7,1),(1023,2),(16,1),(0,3)], 0, accepted_of (by decide +kernel), by decide +kernel⟩,
  ⟨cmd 0x213 [(4,1),(0,1),(8191,2)] (updPipe 4 (fun x => { x with rules := [(8191, { active := [(18, 7)], valid := true })] }) up), 0,
    accepted_of (by decide +kernel), by decide +kernel⟩,
  ⟨load 0x220 [(4,1),(1,1),(8191,2),(8,4),(16*65536,4),(14*2^20,4),(5,4)], 0, accepted_of (by decide +kernel), by decide +kernel⟩⟩
theorem test_states_meet_2 :
    (∃ (s : State) (m : BitVec 4), Accepted meterProfileLoad m s ∧ completionRoom s = true) ∧
    (∃ (s : State) (m : BitVec 4), Accepted meterReset m s ∧ completionRoom s = true) ∧
    (∃ (s : State) (m : BitVec 4), Accepted classifierCounters m s ∧ completionRoom s = true) ∧
    (∃ (s : State) (m : BitVec 4), Accepted ruleCounters m s ∧ completionRoom s = true) ∧
    (∃ (s : State) (m : BitVec 4), Accepted meterCounters m s ∧ completionRoom s = true) :=
  ⟨⟨load 0x221 [(4,1),(1,1),(1023,2),(1,4),(1,4),(9216,4),(16777215,4)], 0, accepted_of (by decide +kernel), by decide +kernel⟩,
  ⟨cmd 0x222 [(4,1),(0,1),(1023,2),(1,2)] (updPipe 4 (fun x => { x with meters := [(1023, { full := false })] }) up), 0, accepted_of
    (by decide +kernel), by decide +kernel⟩,
  ⟨cmd 0x230 [(4,1),(1,1)] { up with cntTot := [(cntKey .pipe 4 11, 5)] }, 0, accepted_of (by decide +kernel), by decide +kernel⟩,
  ⟨cmd 0x231 [(4,1),(1,1),(8190,2),(2,2)] { up with cntTot := [(cntKey .rule (5*8192-1) 1, 5)] }, 0, accepted_of (by decide +kernel),
    by decide +kernel⟩,
  ⟨cmd 0x232 [(4,1),(1,1),(1023,2)] { up with cntTot := [(cntKey .meter (5*1024-1) 5, 5)] }, 0, accepted_of (by decide +kernel),
    by decide +kernel⟩⟩
end ClassifierCommandsTakeEffect

namespace LinksAndPinsTakeEffect
theorem test_states_meet_1 :
    (∃ (s : State) (sub : BitVec 5), linkDownIn s sub.toNat = true ∧ (portOf s (sub.toNat / 8)).lost &&& laneMask (subLanes (portOf s
      (sub.toNat / 8)) (sub.toNat % 8)) = 0) ∧
    (∃ (s : State) (sub : BitVec 5), (subOf s sub.toNat).linkUp = true) ∧
    (∃ (s : State) (sub : BitVec 5), linkDownIn s sub.toNat = true ∧ trains (portOf s (sub.toNat / 8)) = true) ∧
    (∃ (s : State) (port : BitVec 2) (lane : BitVec 3) (i : Nat), (portOf s port.toNat).enabled = true ∧ (portOf s port.toNat).lock.getLsbD
      lane.toNat = true ∧ i < 8 ∧ usesLane (portOf s port.toNat) i lane.toNat = true) ∧
    (∃ (s : State) (port : BitVec 2) (lane : BitVec 3), (portOf s port.toNat).enabled = true ∧ (portOf s port.toNat).lost.getLsbD
      lane.toNat = true) ∧
    (∃ (s : State), s.line.ptp.inEnable = true) ∧
    (∃ (s : State), s.line.ptp.outEnable = true) :=
  ⟨⟨setPort 3 { configured := true, enabled := true, mode := 1, txMap := 0xFAC688, rxMap := 0xFAC688 } up, 24, by decide +kernel⟩,
  ⟨updSub 31 (fun x => { x with linkUp := true, trained := true }) (setPort 3 { configured := true, enabled := true, mode := 7, txMap := 0xFAC688, rxMap := 0xFAC688 }
    up), 31, by decide +kernel⟩,
  ⟨setPort 3 { configured := true, enabled := true, mode := 1, interface := 1, txMap := 0xFAC688, rxMap := 0xFAC688 } up, 24,
    by decide +kernel⟩,
  ⟨updSub 24 (fun x => { x with linkUp := true, trained := true }) (setPort 3 { configured := true, enabled := true, mode := 1, lock := 255, signal := 255, txMap := 0xFAC688, rxMap := 0xFAC688 }
    up), 3, 3, (0 : Nat), by decide +kernel⟩,
  ⟨setPort 3 { configured := true, enabled := true, mode := 1, lock := 127, lost := 128 } up, 3, 7, by decide +kernel⟩,
  ⟨updPtp (fun c => { c with inEnable := true }) up, by decide +kernel⟩,
  ⟨updPtp (fun c => { c with outEnable := true }) up, by decide +kernel⟩⟩
theorem test_states_meet_2 :
    (∃ (s : State), s.line.ptp.refIn = true ∧ s.line.ptp.ref10 = true) ∧
    (∃ (s : State), s.line.ptp.refIn = true ∧ s.line.ptp.ref10 = false) ∧
    (∃ (s : State), s.line.ptp.refIn = false ∧ s.line.ptp.ref10 = true) ∧
    (∃ (s : State), s.line.ptp.refIn = false ∧ s.line.ptp.ref10 = false) ∧
    (∃ (s : State) (m : BitVec 4), Accepted ppsConfig m s ∧ completionRoom s = true) ∧
    (∃ (s : State) (m : BitVec 4), Accepted clockRefSelect m s ∧ completionRoom s = true) :=
  ⟨⟨updPtp (fun c => { c with ref10 := true, refIn := true, locked := true }) up, by decide +kernel⟩,
  ⟨updPtp (fun c => { c with refIn := true }) up, by decide +kernel⟩,
  ⟨updPtp (fun c => { c with ref10 := true, refIn := false }) up, by decide +kernel⟩,
  ⟨updPtp (fun c => { c with refIn := false }) up, by decide +kernel⟩,
  ⟨cmd 0x115 [(1,1),(1,1),(500,2)], 0, accepted_of (by decide +kernel), by decide +kernel⟩,
  ⟨cmd 0x117 [(1,1)] (updPtp (fun c => { c with ref10 := true, locked := false }) up), 0, accepted_of (by decide +kernel),
    by decide +kernel⟩⟩
end LinksAndPinsTakeEffect

namespace FramesArrive
def lined : State := updSub 31 (fun x => { x with linkUp := true, trained := true }) (setPort 3 { configured := true, enabled := true, mode := 7, txMap := 0xFAC688, rxMap := 0xFAC688, lock := 255, pfcEnable := 255 } up)
def injecting : State := { up with host := { up.host with inj := [(15, { enabled := true, address := 4096, entries := 16, head := 15, tail := 0 })], mem := memWrite [] (4096 + 16 * 15) (layout [(0x8000, 8), (60, 2), (0, 6)]) } }
theorem test_states_meet_1 :
    (∃ (s : State) (pipe : BitVec 3), hostOpen s = true ∧ pipe.toNat < 5) ∧
    (∃ (s : State) (pipe : BitVec 3), hostOpen s = true ∧ pipe.toNat < 5) ∧
    (∃ (s : State) (sub : BitVec 5) (frame : List Byte) (errors : RxErrors) (a : _), a = noteFec sub.toNat errors (noteTraffic s) ∧
      receives s sub.toNat = true ∧ frame.length < 64) ∧
    (∃ (s : State) (sub : BitVec 5) (frame : List Byte) (errors : RxErrors) (a : _), a = noteFec sub.toNat errors (noteTraffic s) ∧
      receives s sub.toNat = true ∧ 64 ≤ frame.length ∧ (portOf a (sub.toNat / 8)).maxFrame < frame.length) ∧
    (∃ (s : State) (sub : BitVec 5) (frame : List Byte) (errors : RxErrors) (a : _), a = noteFec sub.toNat errors (noteTraffic s) ∧
      receives s sub.toNat = true ∧ 64 ≤ frame.length ∧ frame.length ≤ (portOf a (sub.toNat / 8)).maxFrame ∧ fcsBad a sub.toNat frame
      errors = true) ∧
    (∃ (s : State) (sub : BitVec 5) (frame : List Byte) (errors : RxErrors) (a : _), a = noteFec sub.toNat errors (noteTraffic s) ∧
      receives s sub.toNat = true ∧ 64 ≤ frame.length ∧ frame.length ≤ (portOf a (sub.toNat / 8)).maxFrame ∧ fcsBad a sub.toNat frame
      errors = false ∧ beNat (bytesAt frame 12 2) = 0x8808) :=
  ⟨⟨up, 4, by decide +kernel⟩,
  ⟨up, 4, by decide +kernel⟩,
  ⟨lined, 31, zeros 63, {}, _, rfl, by decide +kernel⟩,
  ⟨lined, 31, zeros 1523, {}, _, rfl, by decide +kernel⟩,
  ⟨lined, 31, zeros 63 ++ [1], {}, _, rfl, by decide +kernel⟩,
  ⟨lined, 31, sealFrame (zeros 12 ++ [0x88, 0x08] ++ zeros 46) false, {}, _, rfl, by decide +kernel⟩⟩
theorem test_states_meet_2 :
    (∃ (s : State) (sub : BitVec 5) (frame : List Byte) (errors : RxErrors) (a : _), a = noteFec sub.toNat errors (noteTraffic s) ∧
      receives s sub.toNat = true ∧ 64 ≤ frame.length ∧ frame.length ≤ (portOf a (sub.toNat / 8)).maxFrame ∧ fcsBad a sub.toNat frame
      errors = false ∧ beNat (bytesAt frame 12 2) ≠ 0x8808) ∧
    (∃ (s : State) (sub : BitVec 5) (quanta : List (BitVec 16)), quanta.length = 8 ∧ receives s sub.toNat = true) ∧
    (∃ (quanta : List (BitVec 16)), quanta.length ≠ 8) ∧
    (∃ (s : State) (sub : BitVec 5), (subOf s sub.toNat).xoffSent ≠ 0) ∧
    (∃ (s : State) (r : Nat) (d : List Byte), d = hostRead s ((injOf s r).address.toNat + 16 * (injOf s r).head) 16 ∧ nextInj s = some r ∧
      60 ≤ leAt d 8 2 ∧ leAt d 8 2 ≤ 9212 ∧ leAt d 10 6 = 0) ∧
    (∃ (s : State) (r : Nat) (d : List Byte), d = hostRead s ((injOf s r).address.toNat + 16 * (injOf s r).head) 16 ∧ nextInj s = some r ∧
      leAt d 8 2 < 60) :=
  ⟨⟨lined, 31, sealFrame (zeros 12 ++ [0x88, 0x09] ++ zeros 46) false, {}, _, rfl, by decide +kernel⟩,
  ⟨lined, 31, [1,0,0,0,0,0,0,0xFFFF], by decide +kernel⟩,
  ⟨[1,0,0,0,0,0,0], by decide +kernel⟩,
  ⟨updSub 31 (fun x => { x with xoffSent := 128 }) up, 31, by decide +kernel⟩,
  ⟨injecting, 15, _, rfl, by decide +kernel⟩,
  ⟨{ injecting with host := { injecting.host with mem := [] } }, 15, _, rfl, by decide +kernel⟩⟩
end FramesArrive

namespace CabinetCommandsTakeEffect
theorem test_states_meet_1 :
    (∃ (s : State) (m : BitVec 4), Accepted vatGroupConfig m s ∧ completionRoom s = true ∧ portsOff s = true) ∧
    (∃ (s : State) (m : BitVec 4), Accepted drawerConfig m s ∧ completionRoom s = true ∧ portsOff s = true) ∧
    (∃ (s : State) (m : BitVec 4), Accepted cabinetInit m s ∧ completionRoom s = true ∧ portsOff s = true) ∧
    (∃ (s : State) (m : BitVec 4), Accepted cabinetSeed m s ∧ completionRoom s = true) ∧
    (∃ (s : State) (m : BitVec 4), Accepted ownerProfileLoad m s ∧ completionRoom s = true) ∧
    (∃ (s : State) (m : BitVec 4), Accepted redProfileLoad m s ∧ completionRoom s = true) ∧
    (∃ (s : State) (m : BitVec 4), Accepted schedProfileLoad m s ∧ completionRoom s = true) :=
  ⟨⟨cmd 0x301 [(7,1),(0,3),(392192,4),(1024,4),(1024,4),(4096,8),(8192,8),(2^30,8),(1024,4),(1024,4)], 0, accepted_of (by decide +kernel),
    by decide +kernel⟩,
  ⟨cmd 0x302 [(63,1),(0,3),(1024,4)] (setGroup 7 { cells := 1024 } up), 0, accepted_of (by decide +kernel), by decide +kernel⟩,
  ⟨cmd 0x303 [], 0, accepted_of (by decide +kernel), by decide +kernel⟩,
  ⟨cmd 0x304 [(0xFFFFFFFF,4)], 0, accepted_of (by decide +kernel), by decide +kernel⟩,
  ⟨load 0x310 [(255,1),(1,1),(0,2),(63,1),(3,1),(31,1),(0,1),(0,4),(10,4),(0,4),(5,4),(15,4),(14,4),(1,2),(1,2)], 0, accepted_of
    (by decide +kernel), by decide +kernel⟩,
  ⟨load 0x311 [(31,1),(1,1),(0,2),(0,4),(1,4),(1,2),(1,2),(2,4),(3,4),(4,4),(5,4),(9,2),(15,1),(0,1)], 0, accepted_of (by decide +kernel),
    by decide +kernel⟩,
  ⟨load 0x312 [(3,1),(7,1),(0,2),(255,1),(7,1),(1,2),(0x0101010101010101,8)], 0, accepted_of (by decide +kernel), by decide +kernel⟩⟩
theorem test_states_meet_2 :
    (∃ (s : State) (m : BitVec 4), Accepted egressMapLoad m s ∧ completionRoom s = true) ∧
    (∃ (s : State) (m : BitVec 4) (x : _), x = ownerUse s (par s m 0 1) ∧ Accepted ownerStatus m s ∧ completionRoom s = true) ∧
    (∃ (s : State) (m : BitVec 4), Accepted ownerCounters m s ∧ completionRoom s = true) ∧
    (∃ (s : State) (m : BitVec 4), Accepted queueCounters m s ∧ completionRoom s = true) ∧
    (∃ (s : State) (m : BitVec 4), Accepted drawerStatus m s ∧ completionRoom s = true) ∧
    (∃ (s : State) (m : BitVec 4), Accepted cabinetCounters m s ∧ completionRoom s = true) ∧
    (∃ (s : State) (m : BitVec 4) (h : _), h = handleOf s (hIndex (BitVec.ofNat 24 (par s m 0 4))) ∧ Accepted handleQuery m s ∧
      completionRoom s = true ∧ staleHandle s (BitVec.ofNat 24 (par s m 0 4)) = false) :=
  ⟨⟨load 0x320 [(4095,2),(1,1),(0,1),(0xFFFFFFFF,4),(15,1),(31,1),(0,2)], 0, accepted_of (by decide +kernel), by decide +kernel⟩,
  ⟨cmd 0x330 [(255,1)] { up with cab := { up.cab with owners := [(255, { vat := 3, xoff := true })] } }, 0, _, rfl, accepted_of
    (by decide +kernel), by decide +kernel⟩,
  ⟨cmd 0x331 [(255,1),(1,1)], 0, accepted_of (by decide +kernel), by decide +kernel⟩,
  ⟨cmd 0x332 [(3,1),(7,1),(7,1),(1,1)], 0, accepted_of (by decide +kernel), by decide +kernel⟩,
  ⟨cmd 0x333 [(63,1)] { up with cab := { up.cab with waiters := [(63, [4, 5])], size := [(63, 100)] } }, 0, accepted_of
    (by decide +kernel), by decide +kernel⟩,
  ⟨cmd 0x334 [(1,1)], 0, accepted_of (by decide +kernel), by decide +kernel⟩,
  ⟨cmd 0x340 [(5,4)] (setHandle 5 { used := true, kind := .packet, owner := 254, charge := 3, refs := 1, pins := 2, cells := [(0, (3, 0))] }
    up), 0, _, rfl, accepted_of (by decide +kernel), by decide +kernel⟩⟩
end CabinetCommandsTakeEffect

namespace FramesLeave
def lined : State := updSub 31 (fun x => { x with linkUp := true, trained := true }) (setPort 3 { configured := true, enabled := true, mode := 7, txMap := 0xFAC688, rxMap := 0xFAC688, lock := 255, pfcEnable := 255 } up)
def cp : Copy := { handle := 5, start := 256, len := 68, cls := 2, port := 1, lossless := false, sheet := 0, residue := 2 }
def queued (c : Copy := cp) (h : Handle := { used := true, kind := .packet, owner := 254, refs := 1, cells := [(0, (3, 0))] }) : State := setQueue 31 7 [c] (setHandle 5 h lined)
def withSend (f : TxFrame) : State := { queued with cab := { queued.cab with egress := [(31, { sending := some f })], queues := [] } }
def tx (o : Option (Nat × Copy)) : TxFrame := { bytes := zeros 64, copy := o, began := { ns := 5 } }
theorem test_states_meet_1 :
    (∃ (s : State) (sub : BitVec 5) (a : _), a = adoptPfc sub.toNat s ∧ (subOf s sub.toNat).linkUp = true ∧ (tabGet {} s.cab.egress
      sub.toNat).sending = none ∧ (pfcAsserted a sub.toNat ≠ (subOf s sub.toNat).xoffSent ∨ (subOf s sub.toNat).refreshDue = true)) ∧
    (∃ (s : State) (sub : BitVec 5) (a : _), a = adoptPfc sub.toNat s ∧ (subOf s sub.toNat).linkUp = true ∧ (tabGet {} s.cab.egress
      sub.toNat).sending = none ∧ pfcAsserted a sub.toNat = (subOf s sub.toNat).xoffSent ∧ (subOf s sub.toNat).refreshDue = false ∧
      (schedule a sub.toNat).1 = none) ∧
    (∃ (s : State) (sub : BitVec 5) (a : _) (q : Nat) (c : Copy) (l : List Copy), a = adoptPfc sub.toNat s ∧ (subOf s sub.toNat).linkUp =
      true ∧ (tabGet {} s.cab.egress sub.toNat).sending = none ∧ pfcAsserted a sub.toNat = (subOf s sub.toNat).xoffSent ∧ (subOf s
      sub.toNat).refreshDue = false ∧ (schedule a sub.toNat).1 = some q ∧ queueOf s sub.toNat q = c :: l ∧ staleHandle s c.handle = false ∧
      c.len ≤ (portOf s (sub.toNat / 8)).maxFrame ∧ natBit c.opts.toNat 35 = false ∧ s.cab.vatBad = [] ∧ s.cab.vatWeak = []) ∧
    (∃ (s : State) (sub : BitVec 5) (a : _) (q : Nat) (c : Copy) (l : List Copy), a = adoptPfc sub.toNat s ∧ (subOf s sub.toNat).linkUp =
      true ∧ (tabGet {} s.cab.egress sub.toNat).sending = none ∧ pfcAsserted a sub.toNat = (subOf s sub.toNat).xoffSent ∧ (subOf s
      sub.toNat).refreshDue = false ∧ (schedule a sub.toNat).1 = some q ∧ queueOf s sub.toNat q = c :: l ∧ (staleHandle s c.handle = true ∨
      (portOf s (sub.toNat / 8)).maxFrame < c.len)) ∧
    (∃ (s : State) (sub : BitVec 5) (q : Nat), q < 8 ∧ (schedProf s.sh.cur sub.toNat).strict.getLsbD q = true ∧ queueReady s sub.toNat q =
      true ∧ (∀ r < 8, q < r → (schedProf s.sh.cur sub.toNat).strict.getLsbD r = true → queueReady s sub.toNat r = false)) :=
  ⟨⟨updSub 31 (fun x => { x with refreshDue := true, xoffSent := 128 }) lined, 31, _, rfl, by decide +kernel⟩,
  ⟨lined, 31, _, rfl, by decide +kernel⟩,
  ⟨queued, 31, _, 7, cp, [], rfl, by decide +kernel⟩,
  ⟨queued { cp with len := 1523 }, 31, _, 7, { cp with len := 1523 }, [], rfl, by decide +kernel⟩,
  ⟨queued, 31, (7 : Nat), by decide +kernel⟩⟩
theorem test_states_meet_2 :
    (∃ (s : State) (sub : BitVec 5) (f : TxFrame) (a : State), a = (if f.counted then countMac sub.toNat 10 f.bytes.length (countMac
      sub.toNat 9 1 (setSending sub.toNat none s)) else setSending sub.toNat none s) ∧ (tabGet {} s.cab.egress sub.toNat).sending = some f
      ∧ f.copy = none) ∧
    (∃ (s : State) (sub : BitVec 5) (f : TxFrame) (a : State) (q : Nat) (c : _), a = (if f.counted then countMac sub.toNat 10
      f.bytes.length (countMac sub.toNat 9 1 (setSending sub.toNat none s)) else setSending sub.toNat none s) ∧ (tabGet {} s.cab.egress
      sub.toNat).sending = some f ∧ f.copy = some (q, c) ∧ natBits c.opts.toNat 34 2 ≠ 1) ∧
    (∃ (s : State) (sub : BitVec 5) (f : TxFrame) (a : State) (q : Nat) (c : _), a = (if f.counted then countMac sub.toNat 10
      f.bytes.length (countMac sub.toNat 9 1 (setSending sub.toNat none s)) else setSending sub.toNat none s) ∧ (tabGet {} s.cab.egress
      sub.toNat).sending = some f ∧ f.copy = some (q, c) ∧ natBits c.opts.toNat 34 2 = 1) ∧
    (∃ (s : State) (sub : BitVec 5) (queue : BitVec 3) (c : Copy), (queueOf s sub.toNat queue.toNat).find? (pastResidue s) = some c) ∧
    (∃ (s : State) (sub : BitVec 5) (queue : BitVec 3) (index : Nat) (c : Copy) (a : _), a = noteSpillRead (handleOf s (hIndex c.handle))
      c.start c.len s ∧ (queueOf s sub.toNat queue.toNat)[index]? = some c ∧ (egressOrder s sub.toNat).find? (wantsRefill s) = some c ∧
      s.cab.prefetch + c.len ≤ 2097152 ∧ pktPoisoned s (handleOf s (hIndex c.handle)) c.start c.len = false ∧ (∀ p ∈ spillSpans (handleOf s
      (hIndex c.handle)) c.start c.len, dramAsleep s p.1 p.2 = false)) :=
  ⟨⟨withSend (tx none), 31, tx none, _, rfl, by decide +kernel⟩,
  ⟨withSend (tx (some (7, cp))), 31, tx (some (7, cp)), _, (7 : Nat), cp, rfl, by decide +kernel⟩,
  ⟨withSend (tx (some (7, { cp with opts := 2 ^ 34 + 5 * 65536 }))), 31, tx (some (7, { cp with opts := 2 ^ 34 + 5 * 65536 })), _, (7 :
    Nat), { cp with opts := 2 ^ 34 + 5 * 65536 }, rfl, by decide +kernel⟩,
  ⟨{ queued with sh := { queued.sh with sheet := 3 } }, 31, 7, cp, by decide +kernel⟩,
  ⟨queued cp { used := true, kind := .packet, owner := 254, refs := 1, cells := [(0, (3, 0))], spilled := true }, 31, 7, 0, cp, _, rfl,
    by decide +kernel⟩⟩
end FramesLeave

namespace CabinetHappenings
def stalled (x : Stall) (s : State := roomy) : State := { s with cores := { threads := [(9, { st := .stall, stall := x })] }, cab := { s.cab with waiters := [(63, [9, 10])] } }
def cp : Copy := { handle := 5, start := 256, len := 68, cls := 2, port := 1, lossless := false, sheet := 0, residue := 2 }
def waiting (e : ExrRing) : State := { up with sh := { up.sh with sheet := 3 }, host := { up.host with exr := [(15, e)] }, cab := { up.cab with exrWait := [(15, [cp])], handles := [(5, { used := true, kind := .packet, owner := 254, refs := 1, cells := [(0, (3, 0))] })] } }
def lostWaiter : State := let s := stalled (.drawer 63 2 (.alloc .palloc 7 8) 5); { s with sh := { s.sh with furnish := 9 }, disp := { items := [(5 * 65536 + 7, item)] }, cores := { threads := [(9, { st := .stall, stall := .drawer 63 2 (.alloc .palloc 7 8) 5, item := some (5 * 65536 + 7) })] } }
theorem test_states_meet_1 :
    (∃ (s : State) (g : BitVec 3), dramAsleep s (groupOf s g.toNat).vatRing (4 * (groupOf s g.toNat).vatEntries) = false ∧ (groupOf s
      g.toNat).vatCache.length < 1536 ∧ 0 < (groupOf s g.toNat).vatCount) ∧
    (∃ (s : State) (g : BitVec 3), dramAsleep s (groupOf s g.toNat).vatRing (4 * (groupOf s g.toNat).vatEntries) = false ∧ 4608 < (groupOf
      s g.toNat).vatCache.length) ∧
    (∃ (s : State) (g : BitVec 3), dramAsleep s (groupOf s g.toNat).spillRing (4 * (groupOf s g.toNat).spillEntries) = false ∧ (groupOf s
      g.toNat).spillCache.length < 512 ∧ 0 < (groupOf s g.toNat).spillCount) ∧
    (∃ (s : State) (g : BitVec 3), dramAsleep s (groupOf s g.toNat).spillRing (4 * (groupOf s g.toNat).spillEntries) = false ∧ 1536 <
      (groupOf s g.toNat).spillCache.length) ∧
    (∃ (s : State) (d : BitVec 6) (t : Nat) (l : List Nat), drawerWaiters s d.toNat = t :: l ∧ stampLost s t = true) ∧
    (∃ (s : State) (d : BitVec 6) (t : Nat) (l : List Nat) (n : Nat) (op : _) (gd : BitVec 5) (zf : BitVec 5) (w : Word36) (i : Nat) (r :
      State), tryAlloc t (allocOwner op t) n s = (some i, r) ∧ drawerWaiters s d.toNat = t :: l ∧ stampLost s t = false ∧ (thr s t).stall =
      .drawer d.toNat n (.alloc op gd zf) w) :=
  ⟨⟨setGroup 7 { cells := 1024, vatCache := List.range 1535, vatCount := 1 } up, 7, by decide +kernel⟩,
  ⟨setGroup 7 { cells := 8192, vatCache := List.range 4609 } up, 7, by decide +kernel⟩,
  ⟨setGroup 7 { spillCells := 1024, spillCache := List.range 511, spillCount := 1 } up, 7, by decide +kernel⟩,
  ⟨setGroup 7 { spillCells := 8192, spillCache := List.range 1537 } up, 7, by decide +kernel⟩,
  ⟨lostWaiter, 63, 9, [10], by decide +kernel⟩,
  ⟨stalled (.drawer 63 2 (.alloc .palloc 7 8) 5), 63, 9, [10], (2 : Nat), CabOp.palloc, (7 : BitVec 5), (8 : BitVec 5), (5 : Word36), _, _,
    rfl, by decide +kernel⟩⟩
theorem test_states_meet_2 :
    (∃ (s : State) (d : BitVec 6) (t : Nat) (l : List Nat) (n : Nat) (gt : BitVec 5) (ga : BitVec 5) (w : BitVec 2) (mode : BitVec 2) (md :
      BitVec 16) (word : Word36), drawerWaiters s d.toNat = t :: l ∧ stampLost s t = false ∧ (thr s t).stall = .drawer d.toNat n (.store gt
      ga w mode md) word) ∧
    (∃ (s : State) (o : BitVec 8), (ownerUse s o.toNat).xoff = true ∧ (ownerUse s o.toNat).vat + (ownerUse s o.toNat).spill ≤ (ownerProf
      s.sh.cur o.toNat).xon.toNat) ∧
    (∃ (s : State) (o : BitVec 8), (ownerUse s o.toNat).budget = true ∧ (ownerUse s o.toNat).xoff = false ∧ s.sh.sheet.toNat % max 1
      (ownerProf s.sh.cur o.toNat).budgetSheets.toNat = 0) ∧
    (∃ (s : State) (r : BitVec 4) (c : Copy) (w : List Copy), tabGet [] s.cab.exrWait r.toNat = c :: w ∧ exrFull s r.toNat = false) ∧
    (∃ (s : State) (r : BitVec 4) (c : Copy) (w : List Copy), tabGet [] s.cab.exrWait r.toNat = c :: w ∧ pastResidue s c = true) :=
  ⟨⟨stalled (.drawer 63 1 (.store 7 8 0 0 0) 5), 63, 9, [10], (1 : Nat), (7 : BitVec 5), (8 : BitVec 5), (0 : BitVec 2), (0 : BitVec 2), (0
    : BitVec 16), (5 : Word36), by decide +kernel⟩,
  ⟨{ roomy with cab := { roomy.cab with owners := [(65, { vat := 4, xoff := true })] } }, 65, by decide +kernel⟩,
  ⟨{ roomy with sh := { roomy.sh with sheet := 6 }, cab := { roomy.cab with owners := [(65, { vat := 4, budget := true, drops := 2 })] } },
    65, by decide +kernel⟩,
  ⟨waiting { enabled := true, entries := 16, address := 4096 }, 15, cp, [], by decide +kernel⟩,
  ⟨waiting { enabled := true, entries := 16, address := 4096, tail := 15 }, 15, cp, [], by decide +kernel⟩⟩
end CabinetHappenings

namespace DispatchCommandsTakeEffect
theorem test_states_meet_1 :
    (∃ (s : State) (m : BitVec 4), Accepted programWrite m s ∧ completionRoom s = true) ∧
    (∃ (s : State) (m : BitVec 4) (bs : _), bs = hostRead s (par s m 8 8) (5 * par s m 4 4) ∧ Accepted (programLoadDma .ok) m s ∧
      completionRoom s = true ∧ s.host.busMaster = true ∧ (∀ i < par s m 4 4, leAt bs (5 * i) 5 < 2 ^ 36)) ∧
    (∃ (s : State) (m : BitVec 4), Accepted (programLoadDma .error) m s ∧ completionRoom s = true) ∧
    (∃ (s : State) (m : BitVec 4), Accepted programRead m s ∧ completionRoom s = true) ∧
    (∃ (s : State) (m : BitVec 4), Accepted entryLoad m s ∧ completionRoom s = true) ∧
    (∃ (s : State) (m : BitVec 4), Accepted dispatchMapLoad m s ∧ completionRoom s = true) ∧
    (∃ (s : State) (m : BitVec 4), Accepted doorbellRoute m s ∧ completionRoom s = true) :=
  ⟨⟨cmd 0x401 [(0x81,1),(2,1),(65534,2),(0,4),(2^36-1,5),(7,5)], 0, accepted_of (by decide +kernel), by decide +kernel⟩,
  ⟨cmd 0x402 [(0x81,1),(0,1),(65534,2),(2,4),(4096,8)] { up with host := { up.host with mem := memWrite [] 4096 (leBytes 5 (2^36-1) ++ leBytes 5 3) } },
    0, _, rfl, accepted_of (by decide +kernel), by decide +kernel⟩,
  ⟨cmd 0x402 [(0x81,1),(0,1),(65534,2),(2,4),(4096,8)], 0, accepted_of (by decide +kernel), by decide +kernel⟩,
  ⟨cmd 0x403 [(7,1),(2,1),(65534,2)] { up with cores := { imem := [(7 * 65536 + 65535, 9)] } }, 0, accepted_of (by decide +kernel),
    by decide +kernel⟩,
  ⟨load 0x410 [(0x81,1),(1,1),(255,1),(0,1),(0x12345678,4)], 0, accepted_of (by decide +kernel), by decide +kernel⟩,
  ⟨load 0x411 [(55,1),(1,1),(0,2),(0x07FFFFFF,4)], 0, accepted_of (by decide +kernel), by decide +kernel⟩,
  ⟨cmd 0x420 [(15,1),(1,1),(7,1),(0,1),(65535,2),(16383,2)], 0, accepted_of (by decide +kernel), by decide +kernel⟩⟩
theorem test_states_meet_2 :
    (∃ (s : State) (m : BitVec 4), Accepted contextRead m s ∧ completionRoom s = true) ∧
    (∃ (s : State) (m : BitVec 4), Accepted contextWrite m s ∧ completionRoom s = true ∧ ctxInFlight s (BitVec.ofNat 14 (par s m 0 2)) = 0) ∧
    (∃ (s : State) (m : BitVec 4), Accepted dispatchCounters m s ∧ completionRoom s = true) ∧
    (∃ (s : State) (m : BitVec 4), Accepted windowConfig m s ∧ completionRoom s = true) ∧
    (∃ (s : State) (m : BitVec 4) (w : _), w = tabGet {} s.cores.windows (par s m 0 1 * 16 + par s m 1 1) ∧ Accepted windowQuery m s ∧
      completionRoom s = true) ∧
    (∃ (s : State) (m : BitVec 4), Accepted dmemWrite m s ∧ completionRoom s = true) ∧
    (∃ (s : State) (m : BitVec 4), Accepted dmemRead m s ∧ completionRoom s = true) :=
  ⟨⟨cmd 0x432 [(16383,2),(1,1),(0,1)] { up with disp := { ctxStore := [(16383*256+255, 7)] } }, 0, accepted_of (by decide +kernel),
    by decide +kernel⟩,
  ⟨cmd 0x433 [(16383,2),(1,1),(0,1),(2^1023+5,128)], 0, accepted_of (by decide +kernel), by decide +kernel⟩,
  ⟨cmd 0x434 [(1,1)], 0, accepted_of (by decide +kernel), by decide +kernel⟩,
  ⟨cmd 0x450 [(0x81,1),(15,1),(7,1),(0,1),(2^30-4096,8),(1,4)] backed, 0, accepted_of (by decide +kernel), by decide +kernel⟩,
  ⟨cmd 0x451 [(7,1),(15,1)] { up with cores := { windows := [(127, { enable := true, write := true, base := 4096, pages := 7 })] } }, 0, _,
    rfl, accepted_of (by decide +kernel), by decide +kernel⟩,
  ⟨cmd 0x452 [(63,1),(2,1),(32766,2),(0,4),(2^36-1,5),(7,5)], 0, accepted_of (by decide +kernel), by decide +kernel⟩,
  ⟨cmd 0x453 [(63,1),(2,1),(32766,2)] { up with cores := { dmem := [(63*32768+32767, 5)] } }, 0, accepted_of (by decide +kernel),
    by decide +kernel⟩⟩
end DispatchCommandsTakeEffect

namespace ItemsEnterAndRun
def routed (e : Bool := true) : State := { up with sh := { up.sh with cur := { dmap := (List.range 56).map (fun i => (i, 0x00018101)) } }, disp := { routes := [(15, { enable := e, cls := 7, domain := 5, ctx := 3 })] } }
def waitItem (p : Place) : Item := { item with map := 0x0001FF80, place := p, ctx := 3 }
def waitingItem (p : Place) : State := { up with disp := { items := [(5 * 65536 + 7, waitItem p)], affLists := (match p with | .affinity c => [(c, [5 * 65536 + 7])] | _ => []), globalLists := (match p with | .global c => [(c, [5 * 65536 + 7])] | _ => []), nextAssign := [(5, 8)], nextRelease := [(5, 7)] } }
def evItem : Item := { item with isEvent := true, late := true, domain := 5, ctx := 3 }
def fl2 : State := { up with disp := { items := [(5 * 65536 + 7, evItem)], nextAssign := [(5, 8)], nextRelease := [(5, 7)] } }
theorem test_states_meet_1 :
    (∃ (s : State) (d : BitVec 4) (r : DoorbellRoute), r = tabGet {} s.disp.routes d.toNat ∧ hostOpen s = true ∧ r.enable = true ∧
      eventsInFlight s < 4096) ∧
    (∃ (s : State) (d : BitVec 4) (r : DoorbellRoute), r = tabGet {} s.disp.routes d.toNat ∧ hostOpen s = true ∧ r.enable = true ∧ 4096 ≤
      eventsInFlight s) ∧
    (∃ (s : State) (d : BitVec 4) (r : DoorbellRoute), r = tabGet {} s.disp.routes d.toNat ∧ hostOpen s = true ∧ r.enable = false) ∧
    (∃ (s : State) (t : BitVec 9) (k : Nat) (x : Item), firstItem s (tabGet [] s.disp.affLists (coreOf t.toNat)) (mayTake s t.toNat) = some
      (k, x)) ∧
    (∃ (s : State) (t : BitVec 9) (k : Nat) (x : Item), firstItem s (tabGet [] s.disp.affLists (coreOf t.toNat)) (mayTake s t.toNat) = none
      ∧ globalOffer s t.toNat = some (k, x)) :=
  ⟨⟨routed, 15, _, rfl, by decide +kernel⟩,
  ⟨{ routed with disp := { routed.disp with items := (List.range 4096).map (fun i => (i, { item with isEvent := true })) } }, 15, _, rfl,
    by decide +kernel⟩,
  ⟨routed false, 15, _, rfl, by decide +kernel⟩,
  ⟨waitingItem (.affinity 63), 511, 5 * 65536 + 7, waitItem (.affinity 63), by decide +kernel⟩,
  ⟨waitingItem (.global 7), 511, 5 * 65536 + 7, waitItem (.global 7), by decide +kernel⟩⟩
theorem test_states_meet_2 :
    (∃ (s : State) (x : Item) (b : Bank), (tabGet 0 s.disp.nextAssign x.domain.toNat - tabGet 0 s.disp.nextRelease x.domain.toNat).toNat ≠
      32768 ∧ bankOf s x.furnish = some b ∧ noCluster s (tabGet 0 b.dmap (mapIndex x)) = false) ∧
    (∃ (s : State) (m : BitVec 4) (d : BitVec 16), d = BitVec.ofNat 16 (par s m 0 2) ∧ Accepted domainStatus m s ∧ completionRoom s = true
      ∧ (s.disp.items.filter (fun x => x.2.domain == d && x.2.late)).length < 256) ∧
    (∃ (s : State) (m : BitVec 4), Accepted contextStatus m s ∧ completionRoom s = true) ∧
    (∃ (s : State) (m : BitVec 4), Accepted clusterFence m s ∧ completionRoom s = true ∧ par s m 1 1 = 1 ∧ s.disp.fenced.getLsbD (par s m 0
      1) = false) ∧
    (∃ (s : State) (m : BitVec 4), Accepted clusterFence m s ∧ completionRoom s = true ∧ par s m 1 1 = 0 ∧ s.disp.fenced.getLsbD (par s m 0
      1) = true) :=
  ⟨⟨routed, item, { dmap := (List.range 56).map (fun i => (i, 0x00018101)) }, by decide +kernel⟩,
  ⟨cmd 0x430 [(5,2)] fl2, 0, _, rfl, accepted_of (by decide +kernel), by decide +kernel⟩,
  ⟨cmd 0x431 [(3,2)] fl2, 0, accepted_of (by decide +kernel), by decide +kernel⟩,
  ⟨cmd 0x440 [(7,1),(1,1),(0,2)], 0, accepted_of (by decide +kernel), by decide +kernel⟩,
  ⟨cmd 0x440 [(7,1),(0,1),(0,2)] { up with disp := { fenced := 0x80 } }, 0, accepted_of (by decide +kernel), by decide +kernel⟩⟩
end ItemsEnterAndRun

namespace DovetailCommandsTakeEffect
def dv (f : Dovetail) : State := { up with dov := f }
def slot : ChanSlot := { state := .committed, writer := 4, words := [1, 2, 3, 4] }
theorem test_states_meet_1 :
    (∃ (s : State) (m : BitVec 4), Accepted slotTableSet m s ∧ completionRoom s = true) ∧
    (∃ (s : State) (m : BitVec 4) (w : Supervisor), w = { supervisorOf s (par s m 0 1) with core := par s m 1 1, thread := par s m 2 1, entry := BitVec.ofNat 16 (par s m 4 2) }
      ∧ Accepted supervisorSet m s ∧ completionRoom s = true ∧ (s.disp.fenced.getLsbD (par s m 0 1) = true ∨ w = supervisorOf s (par s m 0
      1)) ∧ par s m 3 1 = 0) ∧
    (∃ (s : State) (m : BitVec 4) (w : Supervisor), w = { supervisorOf s (par s m 0 1) with core := par s m 1 1, thread := par s m 2 1, entry := BitVec.ofNat 16 (par s m 4 2) }
      ∧ Accepted supervisorSet m s ∧ completionRoom s = true ∧ (s.disp.fenced.getLsbD (par s m 0 1) = true ∨ w = supervisorOf s (par s m 0
      1)) ∧ par s m 3 1 = 1 ∧ (supervisorOf s (par s m 0 1)).started = false) ∧
    (∃ (s : State) (m : BitVec 4), Accepted threadStatus m s ∧ completionRoom s = true) ∧
    (∃ (s : State) (m : BitVec 4), Accepted threadReset m s ∧ completionRoom s = true) ∧
    (∃ (s : State) (m : BitVec 4) (k : Nat) (timed : State → State), k = par s m 0 1 ∧ timed = (fun a => addTimed .core k 2 (addTimed .core
      k 1 a)) ∧ Accepted coreCounters m s ∧ completionRoom s = true) ∧
    (∃ (s : State) (m : BitVec 4), Accepted dovetailCounters m s ∧ completionRoom s = true) ∧
    (∃ (s : State) (m : BitVec 4) (k : Nat) (l : _), k = par s m 0 2 ∧ l = lockOf s k ∧ Accepted lockQuery m s ∧ completionRoom s = true ∧
      l.waiters = [] ∧ lockUnit k = none ∧ (DovWord.lock k ∈ s.dov.bad ∨ DovWord.queue k ∈ s.dov.bad)) :=
  ⟨⟨cmd 0x501 [(2^63+1,8),(0x7654321076543210,8)], 0, accepted_of (by decide +kernel), by decide +kernel⟩,
  ⟨cmd 0x502 [(7,1),(7,1),(7,1),(0,1),(65535,2),(0,2)] { up with disp := { fenced := 0x80 } }, 0, _, rfl, accepted_of (by decide +kernel),
    by decide +kernel⟩,
  ⟨cmd 0x502 [(7,1),(7,1),(7,1),(1,1),(65535,2),(0,2)] { up with disp := { fenced := 0x80 } }, 0, _, rfl, accepted_of (by decide +kernel),
    by decide +kernel⟩,
  ⟨cmd 0x503 [(63,1)] (flying), 0, accepted_of (by decide +kernel), by decide +kernel⟩,
  ⟨cmd 0x504 [(9,2)] (flying), 0, accepted_of (by decide +kernel), by decide +kernel⟩,
  ⟨cmd 0x505 [(63,1),(1,1)], 0, _, _, rfl, rfl, accepted_of (by decide +kernel), by decide +kernel⟩,
  ⟨cmd 0x530 [(1,1)], 0, accepted_of (by decide +kernel), by decide +kernel⟩,
  ⟨cmd 0x0512 [(4000,2)] (dv { locks := [(4000, { owner := 4 })], bad := [.lock 4000] }), 0, _, _, rfl, rfl, accepted_of
    (by decide +kernel), by decide +kernel⟩⟩
theorem test_states_meet_2 :
    (∃ (s : State) (m : BitVec 4), Accepted lockTry m s ∧ completionRoom s = true ∧ s.dov.weak = [] ∧ s.dov.bad = [] ∧ (lockOf s (par s m 0
      2)).owner = 4095) ∧
    (∃ (s : State) (m : BitVec 4), Accepted lockTry m s ∧ completionRoom s = true ∧ s.dov.weak = [] ∧ s.dov.bad = [] ∧ (lockOf s (par s m 0
      2)).owner ≠ 4095 ∧ (lockOf s (par s m 0 2)).owner.toNat ≠ 513 + m.toNat) ∧
    (∃ (s : State) (m : BitVec 4), Accepted lockRelease m s ∧ completionRoom s = true ∧ s.dov.weak = [] ∧ s.dov.bad = [] ∧ (lockOf s (par s
      m 0 2)).owner.toNat = 513 + m.toNat) ∧
    (∃ (s : State) (m : BitVec 4) (l : _) (w : Nat), l = lockOf s (par s m 0 2) ∧ w = l.waiters.length ∧ Accepted lockQuery m s ∧
      completionRoom s = true ∧ s.dov.weak = [] ∧ s.dov.bad = []) ∧
    (∃ (s : State) (m : BitVec 4), Accepted lockBreak m s ∧ completionRoom s = true ∧ s.dov.weak = [] ∧ s.dov.bad = [] ∧ lockUnit (par s m
      0 2) = none ∧ (lockOf s (par s m 0 2)).owner ≠ 4095) ∧
    (∃ (s : State) (m : BitVec 4), Accepted channelConfig m s ∧ completionRoom s = true ∧ s.dov.weak = [] ∧ s.dov.bad = [] ∧ (chanOf s (par
      s m 0 2)).slots = [] ∧ (chanOf s (par s m 0 2)).readers = [] ∧ (chanOf s (par s m 0 2)).writers = []) ∧
    (∃ (s : State) (m : BitVec 4) (x : _), x = chanOf s (par s m 0 2) ∧ Accepted channelStatus m s ∧ completionRoom s = true ∧ s.dov.weak =
      [] ∧ s.dov.bad = []) :=
  ⟨⟨cmd 0x510 [(4095,2)], 0, accepted_of (by decide +kernel), by decide +kernel⟩,
  ⟨cmd 0x510 [(4095,2)] (dv { locks := [(4095, { owner := 4 })] }), 0, accepted_of (by decide +kernel), by decide +kernel⟩,
  ⟨cmd 0x511 [(4095,2)] (dv { locks := [(4095, { owner := 513 })] }), 0, accepted_of (by decide +kernel), by decide +kernel⟩,
  ⟨cmd 0x512 [(4095,2)] (dv { locks := [(4095, { owner := 4, waiters := [5, 6], broken := 5 })] }), 0, _, _, rfl, rfl, accepted_of
    (by decide +kernel), by decide +kernel⟩,
  ⟨cmd 0x513 [(4095,2)] (dv { locks := [(4095, { owner := 4 })] }), 0, accepted_of (by decide +kernel), by decide +kernel⟩,
  ⟨cmd 0x520 [(1014,2),(256,2)], 0, accepted_of (by decide +kernel), by decide +kernel⟩,
  ⟨cmd 0x523 [(1023,2)] (dv { channels := [(1023, { reserved := 1, slots := [(0, slot)] })] }), 0, _, rfl, accepted_of (by decide +kernel),
    by decide +kernel⟩⟩
end DovetailCommandsTakeEffect

namespace RegisterInstructionsCompute
theorem test_states_meet :
    (∃ (s : State) (t : BitVec 9) (gd : BitVec 5) (ga : BitVec 5) (gb : BitVec 5) (a : Word36) (b : Word36), a = regG s t.toNat ga ∧ b =
      regG s t.toNat gb ∧ CanIssue s t [ga, gb] [gd]) ∧
    (∃ (s : State) (t : BitVec 9) (gd : BitVec 5) (ga : BitVec 5) (gb : BitVec 5) (a : Word36) (b : Word36), a = regG s t.toNat ga ∧ b =
      regG s t.toNat gb ∧ CanIssue s t [ga] [gd]) :=
  ⟨⟨runner, 511, 31, 2, 3, _, _, rfl, rfl, canIssue_of (by decide +kernel)⟩,
  ⟨runner, 511, 2, 2, 3, _, _, rfl, rfl, canIssue_of (by decide +kernel)⟩⟩
end RegisterInstructionsCompute

namespace ImmediateAndFieldInstructionsCompute
theorem test_states_meet :
    (∃ (s : State) (t : BitVec 9) (gd : BitVec 5) (ga : BitVec 5) (a : Word36), a = regG s t.toNat ga ∧ CanIssue s t [ga] [gd]) ∧
    (∃ (s : State) (t : BitVec 9) (gd : BitVec 5) (ga : BitVec 5) (a : Word36), a = regG s t.toNat ga ∧ CanIssue s t [] [gd]) ∧
    (∃ (s : State) (t : BitVec 9) (gd : BitVec 5) (ga : BitVec 5) (a : Word36) (pos : BitVec 6), a = regG s t.toNat ga ∧ CanIssue s t [ga]
      [gd] ∧ pos.toNat < 36) ∧
    (∃ (s : State) (t : BitVec 9) (gd : BitVec 5) (ga : BitVec 5) (a : Word36) (pos : BitVec 6) (len : BitVec 6), a = regG s t.toNat ga ∧
      CanIssue s t [ga] [gd] ∧ 0 < len.toNat ∧ pos.toNat + len.toNat ≤ 36) ∧
    (∃ (s : State) (t : BitVec 9) (gd : BitVec 5) (ga : BitVec 5) (a : Word36) (pos : BitVec 6) (len : BitVec 6), a = regG s t.toNat ga ∧
      CanIssue s t [ga, gd] [gd] ∧ 0 < len.toNat ∧ pos.toNat + len.toNat ≤ 36) ∧
    (∃ (s : State) (t : BitVec 9) (gd : BitVec 5) (ga : BitVec 5) (a : Word36) (n : BitVec 16), a = regG s t.toNat ga ∧ CanIssue s t []
      [gd] ∧ n.toNat ≤ 17 ∧ mulEarly s t.toNat n.toNat = false) ∧
    (∃ (s : State) (t : BitVec 9) (ga : BitVec 5) (a : Word36) (n : BitVec 16), a = regG s t.toNat ga ∧ CanIssue s t [ga] [] ∧
      specialWritable n.toNat = true) :=
  ⟨⟨runner, 511, 31, 2, _, rfl, canIssue_of (by decide +kernel)⟩,
  ⟨runner, 511, 31, 2, _, rfl, canIssue_of (by decide +kernel)⟩,
  ⟨runner, 511, 31, 2, _, 35, rfl, canIssue_of (by decide +kernel), by decide +kernel⟩,
  ⟨runner, 511, 31, 2, _, 35, 1, rfl, canIssue_of (by decide +kernel), by decide +kernel⟩,
  ⟨runner, 511, 31, 2, _, 0, 36, rfl, canIssue_of (by decide +kernel), by decide +kernel⟩,
  ⟨runner, 511, 31, 2, _, 17, rfl, canIssue_of (by decide +kernel), by decide +kernel⟩,
  ⟨runner, 511, 2, _, 15, rfl, canIssue_of (by decide +kernel), by decide +kernel⟩⟩
end ImmediateAndFieldInstructionsCompute

namespace MultipliesEnterAndLand
theorem test_states_meet :
    (∃ (s : State) (t : BitVec 9) (ga : BitVec 5) (gb : BitVec 5) (a : Word36) (b : Word36) (c : _), a = regG s t.toNat ga ∧ b = regG s
      t.toNat gb ∧ c = Instr.mul t 0 ga gb 0 ∧ CanIssue s t [ga, gb] []) ∧
    (∃ (s : State) (t : BitVec 9) (ga : BitVec 5) (gb : BitVec 5) (a : Word36) (b : Word36) (c : _), a = regG s t.toNat ga ∧ b = regG s
      t.toNat gb ∧ c = Instr.mulu t 0 ga gb 0 ∧ CanIssue s t [ga, gb] []) ∧
    (∃ (s : State) (t : BitVec 9) (ga : BitVec 5) (gb : BitVec 5) (a : Word36) (b : Word36) (c : _), a = regG s t.toNat ga ∧ b = regG s
      t.toNat gb ∧ c = Instr.clmul t 0 ga gb 0 ∧ CanIssue s t [ga, gb] []) ∧
    (∃ (s : State) (t : BitVec 9) (ga : BitVec 5) (gb : BitVec 5) (a : Word36) (b : Word36) (c : _), a = regG s t.toNat ga ∧ b = regG s
      t.toNat gb ∧ c = Instr.gfm8 t 0 ga gb 0 ∧ CanIssue s t [ga, gb] []) ∧
    (∃ (s : State) (t : BitVec 9) (ga : BitVec 5) (gb : BitVec 5) (a : Word36) (b : Word36) (c : _), a = regG s t.toNat ga ∧ b = regG s
      t.toNat gb ∧ c = Instr.gfm16 t 0 ga gb 0 ∧ CanIssue s t [ga, gb] []) ∧
    (∃ (s : State) (t : BitVec 9) (ga : BitVec 5) (gb : BitVec 5) (a : Word36) (b : Word36) (r : MulResult) (rest : List MulResult), a =
      regG s t.toNat ga ∧ b = regG s t.toNat gb ∧ (thr s t.toNat).muls = r :: rest) :=
  ⟨⟨runner, 511, 2, 3, _, _, _, rfl, rfl, rfl, canIssue_of (by decide +kernel)⟩,
  ⟨runner, 511, 2, 3, _, _, _, rfl, rfl, rfl, canIssue_of (by decide +kernel)⟩,
  ⟨runner, 511, 2, 3, _, _, _, rfl, rfl, rfl, canIssue_of (by decide +kernel)⟩,
  ⟨runner, 511, 2, 3, _, _, _, rfl, rfl, rfl, canIssue_of (by decide +kernel)⟩,
  ⟨runner, 511, 2, 3, _, _, _, rfl, rfl, rfl, canIssue_of (by decide +kernel)⟩,
  ⟨runner { muls := [⟨1, 2⟩] }, 511, 2, 3, _, _, (⟨1, 2⟩ : MulResult), ([] : List MulResult), rfl, rfl, by decide +kernel⟩⟩
end MultipliesEnterAndLand

namespace LoadsDeliver
def lw : State := let s := onThr [(1, 32767)]; { s with cores := { s.cores with dmem := [(63 * 32768 + 32767, 9)] } }
def lc : State := let s := onThr [(1, 252)]; { s with disp := { s.disp with resident := [(3, 64)], ctxCopy := [(3 * 256 + 255, 7)] } }
def ld : State := let s := onThr [(1, 4092 + 15 * 2 ^ 32)] id item backed; { s with cores := { s.cores with windows := [(127, { enable := true, read := true, base := 4096, pages := 1 })] } }
def lp (h : Handle := pkt) : State := handled [(1, 16380)] h
def wd (i : Option Nat) (x : Nat) : State := let s := onThr [(1, 4092 + 15 * 2 ^ 32)] (fun y => { y with st := .stall, stall := .dram 2 1 4 (some 7) i x 0 5 }) item backed; { s with cab := { s.cab with handles := [(786431, pkt)] } }
theorem test_states_meet :
    (∃ (s : State) (t : BitVec 9) (gt : BitVec 5) (ga : BitVec 5) (mode : BitVec 2) (md : BitVec 16) (f : ModeField) (g : ModeField) (a :
      State) (ea : Nat) (wb : Option Word36) (upd : List (BitVec 5)), f = modeField false mode md ∧ g = modeField true mode md ∧ a =
      noteIssue t.toNat s ∧ upd = (if 2 ≤ mode.toNat then [ga] else []) ∧ CanIssue s t (modeRegs ga mode f) ([gt] ++ upd) ∧ modeIllegal
      (thr s t.toNat) mode f = false ∧ effAddr (thr s t.toNat) ga mode f = (BitVec.ofNat 36 ea, wb) ∧ ea < 2 ^ 36 ∧ ea ≤ 32767 ∧
      s.cores.dmemBad.contains (dmemKey (coreOf t.toNat) ea) = false) ∧
    (∃ (s : State) (t : BitVec 9) (gt : BitVec 5) (ga : BitVec 5) (w : BitVec 2) (mode : BitVec 2) (md : BitVec 16) (f : ModeField) (g :
      ModeField) (a : State) (ea : Nat) (wb : Option Word36) (upd : List (BitVec 5)) (d : _) (c : _) (b : _), f = modeField false mode md ∧
      g = modeField true mode md ∧ a = noteIssue t.toNat s ∧ upd = (if 2 ≤ mode.toNat then [ga] else []) ∧ d = drainStores t.toNat a ∧ c =
      ctxOf d t.toNat ∧ b = checkCtx c ea (w.toNat + 1) (ctxTouch c d) ∧ CanIssue s t (modeRegs ga mode f) ([gt] ++ upd) ∧ modeIllegal (thr
      s t.toNat) mode f = false ∧ effAddr (thr s t.toNat) ga mode f = (BitVec.ofNat 36 ea, wb) ∧ ea < 2 ^ 36 ∧ ctxBad s t.toNat ea (w.toNat
      + 1) = false ∧ ctxPoisoned b (ctxOf b t.toNat) ea (w.toNat + 1) = false) ∧
    (∃ (s : State) (t : BitVec 9) (gt : BitVec 5) (ga : BitVec 5) (w : BitVec 2) (mode : BitVec 2) (md : BitVec 16) (f : ModeField) (g :
      ModeField) (a : State) (ea : Nat) (wb : Option Word36) (upd : List (BitVec 5)), f = modeField false mode md ∧ g = modeField true mode
      md ∧ a = noteIssue t.toNat s ∧ upd = (if 2 ≤ mode.toNat then [ga] else []) ∧ CanIssue s t (modeRegs ga mode f) ([gt] ++ upd) ∧
      modeIllegal (thr s t.toNat) mode f = false ∧ effAddr (thr s t.toNat) ga mode f = (BitVec.ofNat 36 ea, wb) ∧ ea < 2 ^ 36 ∧ windowBad s
      t.toNat ea (w.toNat + 1) false = false) ∧
    (∃ (s : State) (t : BitVec 9) (gt : BitVec 5) (ga : BitVec 5) (w : BitVec 2) (mode : BitVec 2) (md : BitVec 16) (f : ModeField) (g :
      ModeField) (a : State) (ea : Nat) (wb : Option Word36) (upd : List (BitVec 5)) (h : HandleWord) (b : _), f = modeField false mode md
      ∧ g = modeField true mode md ∧ a = noteIssue t.toNat s ∧ upd = (if 2 ≤ mode.toNat then [ga] else []) ∧ h = selHandle s t.toNat g ∧ b
      = checkVat (hIndex h) ea (w.toNat + 1) (drainStores t.toNat a) ∧ CanIssue s t (modeRegs ga mode g) ([gt] ++ upd) ∧ modeIllegal (thr s
      t.toNat) mode g = false ∧ effAddr (thr s t.toNat) ga mode g = (BitVec.ofNat 36 ea, wb) ∧ ea < 2 ^ 36 ∧ pktBad s t.toNat h ea (w.toNat
      + 1) 16384 = false ∧ ((handleOf b (hIndex h)).spilled && decide (ea < 16352)) = false ∧ pktPoisoned b (handleOf b (hIndex h)) ea
      (w.toNat + 1) = false) ∧
    (∃ (s : State) (t : BitVec 9) (gt : BitVec 5) (ga : BitVec 5) (w : BitVec 2) (mode : BitVec 2) (md : BitVec 16) (f : ModeField) (g :
      ModeField) (a : State) (ea : Nat) (wb : Option Word36) (upd : List (BitVec 5)) (h : HandleWord) (b : _), f = modeField false mode md
      ∧ g = modeField true mode md ∧ a = noteIssue t.toNat s ∧ upd = (if 2 ≤ mode.toNat then [ga] else []) ∧ h = selHandle s t.toNat g ∧ b
      = checkVat (hIndex h) ea (w.toNat + 1) (drainStores t.toNat a) ∧ CanIssue s t (modeRegs ga mode g) ([gt] ++ upd) ∧ modeIllegal (thr s
      t.toNat) mode g = false ∧ effAddr (thr s t.toNat) ga mode g = (BitVec.ofNat 36 ea, wb) ∧ ea < 2 ^ 36 ∧ pktBad s t.toNat h ea (w.toNat
      + 1) 16384 = false ∧ ((handleOf b (hIndex h)).spilled && decide (ea < 16352)) = true) ∧
    (∃ (s : State) (t : BitVec 9) (gt : BitVec 5) (ga : BitVec 5) (mode : BitVec 2) (md : BitVec 16) (f : ModeField) (g : ModeField) (a :
      State) (wb : Option Word36) (upd : List (BitVec 5)) (k : Nat) (i : Nat) (x : Nat) (d : Nat) (word : Word36) (b : _), f = modeField
      false mode md ∧ g = modeField true mode md ∧ a = noteIssue t.toNat s ∧ upd = (if 2 ≤ mode.toNat then [ga] else []) ∧ b =
      noteSpillRead (handleOf s i) x k s ∧ (thr s t.toNat).stall = .dram gt ga k wb (some i) x d word ∧ pktPoisoned s (handleOf s i) x k =
      false ∧ (∀ p ∈ spillSpans (handleOf s i) x k, dramAsleep s p.1 p.2 = false)) ∧
    (∃ (s : State) (t : BitVec 9) (gt : BitVec 5) (ga : BitVec 5) (mode : BitVec 2) (md : BitVec 16) (f : ModeField) (g : ModeField) (a :
      State) (wb : Option Word36) (upd : List (BitVec 5)) (k : Nat) (x : Nat) (d : Nat) (word : Word36) (b : _), f = modeField false mode
      md ∧ g = modeField true mode md ∧ a = noteIssue t.toNat s ∧ upd = (if 2 ≤ mode.toNat then [ga] else []) ∧ b = serveLines 3 x k s ∧
      (thr s t.toNat).stall = .dram gt ga k wb none x d word ∧ dramAsleep s x k = false ∧ dramPoisoned s x k = false) :=
  ⟨⟨lw, 511, 2, 1, 2, 1, _, _, _, 32767, some 32768, _, rfl, rfl, rfl, rfl, canIssue_of (by decide +kernel), by decide +kernel⟩,
  ⟨lc, 511, 2, 1, 3, 0, 0, _, _, _, 252, none, _, _, _, _, rfl, rfl, rfl, rfl, rfl, rfl, rfl, canIssue_of (by decide +kernel),
    by decide +kernel⟩,
  ⟨ld, 511, 2, 1, 3, 0, 0, _, _, _, 4092 + 15 * 2 ^ 32, none, _, rfl, rfl, rfl, rfl, canIssue_of (by decide +kernel), by decide +kernel⟩,
  ⟨lp, 511, 2, 1, 3, 0, 0xC000, _, _, _, 16380, none, _, _, _, rfl, rfl, rfl, rfl, rfl, rfl, canIssue_of (by decide +kernel),
    by decide +kernel⟩,
  ⟨(handled [(1, 16351)] { pkt with spilled := true }), 511, 2, 1, 0, 0, 0xC000, _, _, _, 16351, none, _, _, _, rfl, rfl, rfl, rfl, rfl,
    rfl, canIssue_of (by decide +kernel), by decide +kernel⟩,
  ⟨wd (some 786431) (3 * 2 ^ 28 + 5), 511, 2, 1, 0, 0, _, _, _, some 7, _, (4 : Nat), (786431 : Nat), (3 * 2 ^ 28 + 5 : Nat), (0 : Nat), (5
    : Word36), _, rfl, rfl, rfl, rfl, rfl, by decide +kernel⟩,
  ⟨wd none (2 ^ 30 - 4), 511, 2, 1, 0, 0, _, _, _, some 7, _, (4 : Nat), (2 ^ 30 - 4 : Nat), (0 : Nat), (5 : Word36), _, rfl, rfl, rfl,
    rfl, rfl, by decide +kernel⟩⟩
end LoadsDeliver

namespace StoresReachMemory
def sc (n : Nat) : State := let s := onThr [(1, 252), (2, 9)] (fun x => { x with stores := List.replicate n { space := 1, object := 3, address := 0, bytes := [1] } }); { s with disp := { s.disp with resident := [(3, 64)], ctxCopy := [(3 * 256 + 255, 7)] } }
def sd (n : Nat) : State := let s := onThr [(1, 4092 + 15 * 2 ^ 32), (2, 9)] (fun x => { x with stores := List.replicate n { space := 1, object := 3, address := 0, bytes := [1] } }) item backed; { s with cores := { s.cores with windows := [(127, { enable := true, write := true, base := 4096, pages := 1 })] } }
def grown (w : Tab (List Nat)) : State := let s := handled [(1, 16348), (2, 9)] buf roomy; { s with cab := { s.cab with waiters := w } }
def lost : State := let s := handled [(1, 252), (2, 9)] pkt; { s with sh := { s.sh with furnish := 9 } }
def tight : State := let s := grown []; { s with cab := { s.cab with groups := [] } }
theorem test_states_meet_1 :
    (∃ (s : State) (t : BitVec 9) (gt : BitVec 5) (ga : BitVec 5) (mode : BitVec 2) (md : BitVec 16) (f : ModeField) (g : ModeField) (a :
      State) (ea : Nat) (wb : Option Word36) (upd : List (BitVec 5)), f = modeField false mode md ∧ g = modeField true mode md ∧ a =
      noteIssue t.toNat s ∧ upd = (if 2 ≤ mode.toNat then [ga] else []) ∧ CanIssue s t (gt :: modeRegs ga mode f) upd ∧ modeIllegal (thr s
      t.toNat) mode f = false ∧ effAddr (thr s t.toNat) ga mode f = (BitVec.ofNat 36 ea, wb) ∧ ea < 2 ^ 36 ∧ ea ≤ 32767) ∧
    (∃ (s : State) (t : BitVec 9) (gt : BitVec 5) (ga : BitVec 5) (w : BitVec 2) (mode : BitVec 2) (md : BitVec 16) (f : ModeField) (g :
      ModeField) (a : State) (ea : Nat) (wb : Option Word36) (upd : List (BitVec 5)), f = modeField false mode md ∧ g = modeField true mode
      md ∧ a = noteIssue t.toNat s ∧ upd = (if 2 ≤ mode.toNat then [ga] else []) ∧ CanIssue s t (gt :: modeRegs ga mode f) upd ∧
      modeIllegal (thr s t.toNat) mode f = false ∧ effAddr (thr s t.toNat) ga mode f = (BitVec.ofNat 36 ea, wb) ∧ ea < 2 ^ 36 ∧ (thr s
      t.toNat).stores.length < 8 ∧ ctxBad s t.toNat ea (w.toNat + 1) = false) ∧
    (∃ (s : State) (t : BitVec 9) (gt : BitVec 5) (ga : BitVec 5) (w : BitVec 2) (mode : BitVec 2) (md : BitVec 16) (f : ModeField) (g :
      ModeField) (a : State) (ea : Nat) (wb : Option Word36) (upd : List (BitVec 5)), f = modeField false mode md ∧ g = modeField true mode
      md ∧ a = noteIssue t.toNat s ∧ upd = (if 2 ≤ mode.toNat then [ga] else []) ∧ CanIssue s t (gt :: modeRegs ga mode f) upd ∧
      modeIllegal (thr s t.toNat) mode f = false ∧ effAddr (thr s t.toNat) ga mode f = (BitVec.ofNat 36 ea, wb) ∧ ea < 2 ^ 36 ∧ (thr s
      t.toNat).stores.length < 8 ∧ windowBad s t.toNat ea (w.toNat + 1) true = false) ∧
    (∃ (s : State) (t : BitVec 9) (gt : BitVec 5) (ga : BitVec 5) (w : BitVec 2) (mode : BitVec 2) (md : BitVec 16) (f : ModeField) (g :
      ModeField) (a : State) (ea : Nat) (wb : Option Word36) (upd : List (BitVec 5)), f = modeField false mode md ∧ g = modeField true mode
      md ∧ a = noteIssue t.toNat s ∧ upd = (if 2 ≤ mode.toNat then [ga] else []) ∧ CanIssue s t (gt :: modeRegs ga mode f) upd ∧
      modeIllegal (thr s t.toNat) mode f = false ∧ effAddr (thr s t.toNat) ga mode f = (BitVec.ofNat 36 ea, wb) ∧ ea < 2 ^ 36 ∧ 8 ≤ (thr s
      t.toNat).stores.length ∧ windowBad s t.toNat ea (w.toNat + 1) true = false) ∧
    (∃ (s : State) (t : BitVec 9) (gt : BitVec 5) (ga : BitVec 5) (mode : BitVec 2) (md : BitVec 16) (f : ModeField) (g : ModeField) (a :
      State) (ea : Nat) (wb : Option Word36) (upd : List (BitVec 5)) (h : HandleWord) (x : _), f = modeField false mode md ∧ g = modeField
      true mode md ∧ a = noteIssue t.toNat s ∧ upd = (if 2 ≤ mode.toNat then [ga] else []) ∧ h = selHandle s t.toNat g ∧ x = handleOf s
      (hIndex h) ∧ CanIssue s t (gt :: modeRegs ga mode g) upd ∧ modeIllegal (thr s t.toNat) mode g = false ∧ effAddr (thr s t.toNat) ga
      mode g = (BitVec.ofNat 36 ea, wb) ∧ ea < 2 ^ 36 ∧ stampLost s t.toNat = true) :=
  ⟨⟨onThr [(1, 32767)], 511, 1, 1, 2, 1, _, _, _, 32767, some 32768, _, rfl, rfl, rfl, rfl, canIssue_of (by decide +kernel),
    by decide +kernel⟩,
  ⟨sc 7, 511, 2, 1, 3, 0, 0, _, _, _, 252, none, _, rfl, rfl, rfl, rfl, canIssue_of (by decide +kernel), by decide +kernel⟩,
  ⟨sd 7, 511, 2, 1, 3, 0, 0, _, _, _, 4092 + 15 * 2 ^ 32, none, _, rfl, rfl, rfl, rfl, canIssue_of (by decide +kernel), by decide +kernel⟩,
  ⟨sd 8, 511, 2, 1, 3, 0, 0, _, _, _, 4092 + 15 * 2 ^ 32, none, _, rfl, rfl, rfl, rfl, canIssue_of (by decide +kernel), by decide +kernel⟩,
  ⟨lost, 511, 2, 1, 0, 0xC000, _, _, _, 252, none, _, _, _, rfl, rfl, rfl, rfl, rfl, rfl, canIssue_of (by decide +kernel),
    by decide +kernel⟩⟩
theorem test_states_meet_2 :
    (∃ (s : State) (t : BitVec 9) (gt : BitVec 5) (ga : BitVec 5) (w : BitVec 2) (mode : BitVec 2) (md : BitVec 16) (f : ModeField) (g :
      ModeField) (a : State) (ea : Nat) (wb : Option Word36) (upd : List (BitVec 5)) (h : HandleWord) (x : _), f = modeField false mode md
      ∧ g = modeField true mode md ∧ a = noteIssue t.toNat s ∧ upd = (if 2 ≤ mode.toNat then [ga] else []) ∧ h = selHandle s t.toNat g ∧ x
      = handleOf s (hIndex h) ∧ CanIssue s t (gt :: modeRegs ga mode g) upd ∧ modeIllegal (thr s t.toNat) mode g = false ∧ effAddr (thr s
      t.toNat) ga mode g = (BitVec.ofNat 36 ea, wb) ∧ ea < 2 ^ 36 ∧ stampLost s t.toNat = false ∧ pktBad s t.toNat h ea (w.toNat + 1) 16352
      = false ∧ missingSlots x ea (w.toNat + 1) = []) ∧
    (∃ (s : State) (t : BitVec 9) (gt : BitVec 5) (ga : BitVec 5) (w : BitVec 2) (mode : BitVec 2) (md : BitVec 16) (f : ModeField) (g :
      ModeField) (a : State) (ea : Nat) (wb : Option Word36) (upd : List (BitVec 5)) (h : HandleWord) (x : _) (n : Nat) (b : _) (r : _), f
      = modeField false mode md ∧ g = modeField true mode md ∧ a = noteIssue t.toNat s ∧ upd = (if 2 ≤ mode.toNat then [ga] else []) ∧ h =
      selHandle s t.toNat g ∧ x = handleOf s (hIndex h) ∧ n = (missingSlots x ea (w.toNat + 1)).length ∧ b = threadBank s t.toNat ∧ r =
      readyGrow b x n a ∧ CanIssue s t (gt :: modeRegs ga mode g) upd ∧ modeIllegal (thr s t.toNat) mode g = false ∧ effAddr (thr s
      t.toNat) ga mode g = (BitVec.ofNat 36 ea, wb) ∧ ea < 2 ^ 36 ∧ stampLost s t.toNat = false ∧ pktBad s t.toNat h ea (w.toNat + 1) 16352
      = false ∧ 0 < n ∧ x.kind ≠ .free ∧ x.spilled = false ∧ (drawerWaiters s x.drawer).isEmpty = true ∧ r.1 = true) ∧
    (∃ (s : State) (t : BitVec 9) (gt : BitVec 5) (ga : BitVec 5) (w : BitVec 2) (mode : BitVec 2) (md : BitVec 16) (f : ModeField) (g :
      ModeField) (a : State) (ea : Nat) (wb : Option Word36) (upd : List (BitVec 5)) (h : HandleWord) (x : _) (n : Nat) (b : _) (r : _), f
      = modeField false mode md ∧ g = modeField true mode md ∧ a = noteIssue t.toNat s ∧ upd = (if 2 ≤ mode.toNat then [ga] else []) ∧ h =
      selHandle s t.toNat g ∧ x = handleOf s (hIndex h) ∧ n = (missingSlots x ea (w.toNat + 1)).length ∧ b = threadBank s t.toNat ∧ r =
      readyGrow b x n a ∧ CanIssue s t (gt :: modeRegs ga mode g) upd ∧ modeIllegal (thr s t.toNat) mode g = false ∧ effAddr (thr s
      t.toNat) ga mode g = (BitVec.ofNat 36 ea, wb) ∧ ea < 2 ^ 36 ∧ stampLost s t.toNat = false ∧ pktBad s t.toNat h ea (w.toNat + 1) 16352
      = false ∧ 0 < n ∧ x.kind ≠ .free ∧ x.spilled = false ∧ (drawerWaiters s x.drawer).isEmpty = true ∧ r.1 = false) ∧
    (∃ (s : State) (t : BitVec 9) (gt : BitVec 5) (ga : BitVec 5) (w : BitVec 2) (mode : BitVec 2) (md : BitVec 16) (f : ModeField) (g :
      ModeField) (a : State) (ea : Nat) (wb : Option Word36) (upd : List (BitVec 5)) (h : HandleWord) (x : _) (n : Nat) (b : _), f =
      modeField false mode md ∧ g = modeField true mode md ∧ a = noteIssue t.toNat s ∧ upd = (if 2 ≤ mode.toNat then [ga] else []) ∧ h =
      selHandle s t.toNat g ∧ x = handleOf s (hIndex h) ∧ n = (missingSlots x ea (w.toNat + 1)).length ∧ b = threadBank s t.toNat ∧
      CanIssue s t (gt :: modeRegs ga mode g) upd ∧ modeIllegal (thr s t.toNat) mode g = false ∧ effAddr (thr s t.toNat) ga mode g =
      (BitVec.ofNat 36 ea, wb) ∧ ea < 2 ^ 36 ∧ stampLost s t.toNat = false ∧ pktBad s t.toNat h ea (w.toNat + 1) 16352 = false ∧ 0 < n ∧
      x.kind ≠ .free ∧ x.spilled = false ∧ (drawerWaiters s x.drawer).isEmpty = false) ∧
    (∃ (s : State) (t : BitVec 9) (ga : BitVec 5) (mode : BitVec 2) (md : BitVec 16) (f : ModeField) (g : ModeField) (a : State) (upd :
      List (BitVec 5)) (e : StoreEntry) (r : List StoreEntry), f = modeField false mode md ∧ g = modeField true mode md ∧ a = noteIssue
      t.toNat s ∧ upd = (if 2 ≤ mode.toNat then [ga] else []) ∧ (thr s t.toNat).stores = e :: r ∧ (e.space = 2 → dramAsleep s (windowAddr s
      e.object e.address) e.bytes.length = false)) :=
  ⟨⟨handled [(1, 252), (2, 9)] pkt, 511, 2, 1, 3, 0, 0xC000, _, _, _, 252, none, _, _, _, rfl, rfl, rfl, rfl, rfl, rfl, canIssue_of
    (by decide +kernel), by decide +kernel⟩,
  ⟨grown [], 511, 2, 1, 3, 0, 0xC000, _, _, _, 16348, none, _, _, _, _, _, _, rfl, rfl, rfl, rfl, rfl, rfl, rfl, rfl, rfl, canIssue_of
    (by decide +kernel), by decide +kernel⟩,
  ⟨tight, 511, 2, 1, 3, 0, 0xC000, _, _, _, 16348, none, _, _, _, _, _, _, rfl, rfl, rfl, rfl, rfl, rfl, rfl, rfl, rfl, canIssue_of
    (by decide +kernel), by decide +kernel⟩,
  ⟨grown [(63, [4])], 511, 2, 1, 3, 0, 0xC000, _, _, _, 16348, none, _, _, _, _, _, rfl, rfl, rfl, rfl, rfl, rfl, rfl, rfl, canIssue_of
    (by decide +kernel), by decide +kernel⟩,
  ⟨sc 8, 511, 1, 0, 0, _, _, _, _, { space := 1, object := 3, address := 0, bytes := [1] }, List.replicate 7 { space := 1, object := 3, address := 0, bytes := [1] },
    rfl, rfl, rfl, rfl, by decide +kernel⟩⟩
end StoresReachMemory

namespace PacketManagementActs
def pa (w : Tab (List Nat)) : State := let s := handled [(1, 3), (2, 9)] buf roomy; { s with cab := { s.cab with waiters := w } }
def pe : State := onThr [(1, 3)] id { item with evidence := true } roomy
def ph (h : Handle) (b : Word36) : State := handled [(1, 786431), (2, b)] h roomy
def pw : State := handled [(1, 786431), (2, 0)] buf roomy
def pw63 : State := { pe with cab := { pe.cab with waiters := [(63, [4])] } }
theorem test_states_meet_1 :
    (∃ (s : State) (t : BitVec 9) (gd : BitVec 5) (ga : BitVec 5) (gb : BitVec 5) (a : State) (h : HandleWord) (i : Nat) (x : Handle) (b :
      Nat) (n : Nat) (d : Nat) (o : Nat) (r : _) (p : _) (c : _) (func : Nat) (op : _), a = noteIssue t.toNat s ∧ h = regHandle s t.toNat
      ga ∧ i = hIndex h ∧ x = handleOf s i ∧ b = (regG s t.toNat gb).toNat ∧ n = natBits (regG s t.toNat ga).toNat 0 7 ∧ d = (ownerProf
      (threadBank s t.toNat) o).drawer.toNat ∧ r = readyVat (threadBank s t.toNat) o d n a ∧ p = readySpill (threadBank s t.toNat) o d n
      r.2 ∧ CanIssue s t [ga] [gd] ∧ ((c = Instr.palloc t gd ga gb 0 ∧ o = 64 + coreOf t.toNat ∧ func = 0 ∧ op = CabOp.palloc) ∨ (c =
      Instr.palloce t gd ga gb 0 ∧ o = 128 ∧ actsFor s t.toNat 128 = true ∧ func = 1 ∧ op = CabOp.palloce)) ∧ stampLost s t.toNat = false ∧
      natBits (regG s t.toNat ga).toNat 0 7 ≤ 64 ∧ (drawerWaiters s d).isEmpty = true ∧ (r.1 = true ∨ p.1 = true)) ∧
    (∃ (s : State) (t : BitVec 9) (gd : BitVec 5) (ga : BitVec 5) (gb : BitVec 5) (a : State) (h : HandleWord) (i : Nat) (x : Handle) (b :
      Nat) (n : Nat) (d : Nat) (o : Nat) (r : _) (p : _) (c : _) (func : Nat) (op : _), a = noteIssue t.toNat s ∧ h = regHandle s t.toNat
      ga ∧ i = hIndex h ∧ x = handleOf s i ∧ b = (regG s t.toNat gb).toNat ∧ n = natBits (regG s t.toNat ga).toNat 0 7 ∧ d = (ownerProf
      (threadBank s t.toNat) o).drawer.toNat ∧ r = readyVat (threadBank s t.toNat) o d n a ∧ p = readySpill (threadBank s t.toNat) o d n
      r.2 ∧ CanIssue s t [ga] [gd] ∧ ((c = Instr.palloc t gd ga gb 0 ∧ o = 64 + coreOf t.toNat ∧ func = 0 ∧ op = CabOp.palloc) ∨ (c =
      Instr.palloce t gd ga gb 0 ∧ o = 128 ∧ actsFor s t.toNat 128 = true ∧ func = 1 ∧ op = CabOp.palloce)) ∧ stampLost s t.toNat = false ∧
      natBits (regG s t.toNat ga).toNat 0 7 ≤ 64 ∧ (drawerWaiters s d).isEmpty = true ∧ r.1 = false ∧ p.1 = false) ∧
    (∃ (s : State) (t : BitVec 9) (gd : BitVec 5) (ga : BitVec 5) (gb : BitVec 5) (a : State) (h : HandleWord) (i : Nat) (x : Handle) (b :
      Nat) (n : Nat) (d : Nat) (o : Nat) (r : _) (p : _) (c : _) (func : Nat) (op : _), a = noteIssue t.toNat s ∧ h = regHandle s t.toNat
      ga ∧ i = hIndex h ∧ x = handleOf s i ∧ b = (regG s t.toNat gb).toNat ∧ n = natBits (regG s t.toNat ga).toNat 0 7 ∧ d = (ownerProf
      (threadBank s t.toNat) o).drawer.toNat ∧ r = readyVat (threadBank s t.toNat) o d n a ∧ p = readySpill (threadBank s t.toNat) o d n
      r.2 ∧ CanIssue s t [ga] [gd] ∧ ((c = Instr.palloc t gd ga gb 0 ∧ o = 64 + coreOf t.toNat ∧ func = 0 ∧ op = CabOp.palloc) ∨ (c =
      Instr.palloce t gd ga gb 0 ∧ o = 128 ∧ actsFor s t.toNat 128 = true ∧ func = 1 ∧ op = CabOp.palloce)) ∧ stampLost s t.toNat = false ∧
      natBits (regG s t.toNat ga).toNat 0 7 ≤ 64 ∧ (drawerWaiters s d).isEmpty = false) ∧
    (∃ (s : State) (t : BitVec 9) (ga : BitVec 5) (gb : BitVec 5) (a : State) (h : HandleWord) (i : Nat) (x : Handle) (b : Nat), a =
      noteIssue t.toNat s ∧ h = regHandle s t.toNat ga ∧ i = hIndex h ∧ x = handleOf s i ∧ b = (regG s t.toNat gb).toNat ∧ CanIssue s t
      [ga] [] ∧ staleHandle s h = false ∧ x.kind = .buffer ∧ actsFor s t.toNat x.owner.toNat = true) ∧
    (∃ (s : State) (t : BitVec 9) (ga : BitVec 5) (gb : BitVec 5) (a : State) (h : HandleWord) (i : Nat) (x : Handle) (b : Nat), a =
      noteIssue t.toNat s ∧ h = regHandle s t.toNat ga ∧ i = hIndex h ∧ x = handleOf s i ∧ b = (regG s t.toNat gb).toNat ∧ CanIssue s t
      [ga, gb] [] ∧ staleHandle s h = false ∧ x.kind = .buffer ∧ actsFor s t.toNat x.owner.toNat = true) ∧
    (∃ (s : State) (t : BitVec 9) (gd : BitVec 5) (ga : BitVec 5) (gb : BitVec 5) (a : State) (h : HandleWord) (i : Nat) (x : Handle) (b :
      Nat) (p : _), a = noteIssue t.toNat s ∧ h = regHandle s t.toNat ga ∧ i = hIndex h ∧ x = handleOf s i ∧ b = (regG s t.toNat gb).toNat
      ∧ p = ownerProf (threadBank s t.toNat) (natBits b 0 8) ∧ CanIssue s t [ga, gb] [gd] ∧ staleHandle s h = false ∧ x.kind = .buffer ∧
      actsFor s t.toNat x.owner.toNat = true ∧ stampLost s t.toNat = false ∧ xferOwner (natBits b 0 8) = true ∧ x.spilled = false ∧
      vatBudget s (threadBank s t.toNat) (natBits b 0 8) p.drawer.toNat x.cells.length = true) :=
  ⟨⟨pa [], 511, 3, 1, 0, _, _, _, _, _, _, _, (127 : Nat), _, _, Instr.palloc 511 3 1 0 0, (0 : Nat), CabOp.palloc, rfl, rfl, rfl, rfl, rfl,
    rfl, rfl, rfl, rfl, canIssue_of (by decide +kernel), .inl ⟨rfl, rfl, rfl, rfl⟩, by decide +kernel⟩,
  ⟨{ pa [] with cab := { (pa []).cab with groups := [] } }, 511, 3, 1, 0, _, _, _, _, _, _, _, (127 : Nat), _, _, Instr.palloc 511 3 1 0 0,
    (0 : Nat), CabOp.palloc, rfl, rfl, rfl, rfl, rfl, rfl, rfl, rfl, rfl, canIssue_of (by decide +kernel), .inl ⟨rfl, rfl, rfl, rfl⟩,
    by decide +kernel⟩,
  ⟨pw63, 511, 3, 1, 0, _, _, _, _, _, _, _, (128 : Nat), _, _, Instr.palloce 511 3 1 0 0, (1 : Nat), CabOp.palloce, rfl, rfl, rfl, rfl,
    rfl, rfl, rfl, rfl, rfl, canIssue_of (by decide +kernel), .inr ⟨rfl, rfl, by decide +kernel, rfl, rfl⟩, by decide +kernel⟩,
  ⟨ph buf 0, 511, 1, 2, _, _, _, _, _, rfl, rfl, rfl, rfl, rfl, canIssue_of (by decide +kernel), by decide +kernel⟩,
  ⟨ph buf (63 + 63 * 64), 511, 1, 2, _, _, _, _, _, rfl, rfl, rfl, rfl, rfl, canIssue_of (by decide +kernel), by decide +kernel⟩,
  ⟨ph buf 65, 511, 3, 1, 2, _, _, _, _, _, _, rfl, rfl, rfl, rfl, rfl, rfl, canIssue_of (by decide +kernel), by decide +kernel⟩⟩
theorem test_states_meet_2 :
    (∃ (s : State) (t : BitVec 9) (gd : BitVec 5) (ga : BitVec 5) (gb : BitVec 5) (a : State) (h : HandleWord) (i : Nat) (x : Handle) (b :
      Nat) (p : _), a = noteIssue t.toNat s ∧ h = regHandle s t.toNat ga ∧ i = hIndex h ∧ x = handleOf s i ∧ b = (regG s t.toNat gb).toNat
      ∧ p = ownerProf (threadBank s t.toNat) (natBits b 0 8) ∧ CanIssue s t [ga, gb] [gd] ∧ staleHandle s h = false ∧ x.kind = .buffer ∧
      actsFor s t.toNat x.owner.toNat = true ∧ stampLost s t.toNat = false ∧ xferOwner (natBits b 0 8) = true ∧ x.spilled = false ∧
      vatBudget s (threadBank s t.toNat) (natBits b 0 8) p.drawer.toNat x.cells.length = false) ∧
    (∃ (s : State) (t : BitVec 9) (ga : BitVec 5) (gb : BitVec 5) (a : State) (h : HandleWord) (i : Nat) (x : Handle) (b : Nat), a =
      noteIssue t.toNat s ∧ h = regHandle s t.toNat ga ∧ i = hIndex h ∧ x = handleOf s i ∧ b = (regG s t.toNat gb).toNat ∧ CanIssue s t
      [ga] [] ∧ staleHandle s h = false ∧ canRef s i = true) ∧
    (∃ (s : State) (t : BitVec 9) (ga : BitVec 5) (gb : BitVec 5) (a : State) (h : HandleWord) (i : Nat) (x : Handle) (b : Nat), a =
      noteIssue t.toNat s ∧ h = regHandle s t.toNat ga ∧ i = hIndex h ∧ x = handleOf s i ∧ b = (regG s t.toNat gb).toNat ∧ CanIssue s t
      [ga] [] ∧ staleHandle s h = false ∧ x.kind = .packet ∧ x.refs ≠ 0) ∧
    (∃ (s : State) (t : BitVec 9) (gd : BitVec 5) (ga : BitVec 5) (gb : BitVec 5) (a : State) (h : HandleWord) (i : Nat) (x : Handle) (b :
      Nat) (op : _) (word : Word36), a = noteIssue t.toNat s ∧ h = regHandle s t.toNat ga ∧ i = hIndex h ∧ x = handleOf s i ∧ b = (regG s
      t.toNat gb).toNat ∧ (thr s t.toNat).stall = .cabinet op gd ga gb word) ∧
    (∃ (s : State) (t : BitVec 9) (ga : BitVec 5) (gb : BitVec 5) (a : State) (h : HandleWord) (i : Nat) (x : Handle) (b : Nat), a =
      noteIssue t.toNat s ∧ h = regHandle s t.toNat ga ∧ i = hIndex h ∧ x = handleOf s i ∧ b = (regG s t.toNat gb).toNat ∧ CanIssue s t
      [ga] []) :=
  ⟨⟨ph buf 66, 511, 3, 1, 2, _, _, _, _, _, _, rfl, rfl, rfl, rfl, rfl, rfl, canIssue_of (by decide +kernel), by decide +kernel⟩,
  ⟨ph { pkt with refs := 4094 } 0, 511, 1, 2, _, _, _, _, _, rfl, rfl, rfl, rfl, rfl, canIssue_of (by decide +kernel), by decide +kernel⟩,
  ⟨ph pkt 0, 511, 1, 2, _, _, _, _, _, rfl, rfl, rfl, rfl, rfl, canIssue_of (by decide +kernel), by decide +kernel⟩,
  ⟨updThr 511 (fun y => { y with st := .stall, stall := .cabinet .pfree 0 1 0 5 }) (ph buf 0), 511, 0, 1, 0, _, _, _, _, _, CabOp.pfree, (5
    : Word36), rfl, rfl, rfl, rfl, rfl, by decide +kernel⟩,
  ⟨ph buf 0, 511, 1, 2, _, _, _, _, _, rfl, rfl, rfl, rfl, rfl, canIssue_of (by decide +kernel)⟩⟩
end PacketManagementActs

namespace EmitAndVoidAct
def em (g : Tab Word36 := [(1, 5 + 7 * 2 ^ 24), (2, 256 + 68 * 2 ^ 14), (3, 0)]) : State := 
 let s := flying item { st := .run, item := some (5 * 65536 + 7), g := g }
 { s with cab := { s.cab with handles := [(5, { used := true, kind := .packet, owner := 254, refs := 1, cells := [(0, (3, 0))] })] }, disp := { s.disp with nextAssign := [(5, 8)], nextRelease := [(5, 7)] } }
theorem test_states_meet :
    (∃ (s : State) (t : BitVec 9) (gc : BitVec 5) (ga : BitVec 5) (gb : BitVec 5) (a : State) (b : _) (o : _), a = noteIssue t.toNat s ∧ b
      = drainStores t.toNat a ∧ o = stagedOf s t.toNat ga gb gc ∧ CanIssue s t [gc, ga, gb] [] ∧ emitBad s t.toNat ga gb gc = false ∧
      canRef b (hIndex o.handle) = true) ∧
    (∃ (s : State) (t : BitVec 9) (gc : BitVec 5) (ga : BitVec 5) (gb : BitVec 5) (a : State) (b : _), a = noteIssue t.toNat s ∧ b =
      pktNote a (regHandle s t.toNat ga) ∧ CanIssue s t [gc, ga, gb] [] ∧ emitBad s t.toNat ga gb gc = true) ∧
    (∃ (s : State) (t : BitVec 9) (a : State), a = noteIssue t.toNat s ∧ CanIssue s t [] [] ∧ (thr s t.toNat).hdl = false ∧ (thr s
      t.toNat).item ≠ none) :=
  ⟨⟨em, 9, 3, 1, 2, _, _, _, rfl, rfl, rfl, canIssue_of (by decide +kernel), by decide +kernel⟩,
  ⟨em [], 9, 3, 1, 2, _, _, rfl, rfl, canIssue_of (by decide +kernel), by decide +kernel⟩,
  ⟨em, 9, _, rfl, canIssue_of (by decide +kernel), by decide +kernel⟩⟩
end EmitAndVoidAct

namespace ControlTransfersGo
theorem test_states_meet :
    (∃ (s : State) (t : BitVec 9) (ga : BitVec 5) (gb : BitVec 5) (a : Word36) (b : Word36) (x : Thread), a = regG s t.toNat ga ∧ b = regG
      s t.toNat gb ∧ x = thr s t.toNat ∧ CanIssue s t [ga, gb] []) ∧
    (∃ (s : State) (t : BitVec 9) (ga : BitVec 5) (gb : BitVec 5) (a : Word36) (b : Word36) (x : Thread) (bit : BitVec 6), a = regG s
      t.toNat ga ∧ b = regG s t.toNat gb ∧ x = thr s t.toNat ∧ CanIssue s t [ga] [] ∧ bit.toNat < 36) ∧
    (∃ (s : State) (t : BitVec 9) (ga : BitVec 5) (gb : BitVec 5) (a : Word36) (b : Word36) (x : Thread), a = regG s t.toNat ga ∧ b = regG
      s t.toNat gb ∧ x = thr s t.toNat ∧ CanIssue s t [] []) ∧
    (∃ (s : State) (t : BitVec 9) (gd : BitVec 5) (ga : BitVec 5) (gb : BitVec 5) (a : Word36) (b : Word36) (x : Thread), a = regG s
      t.toNat ga ∧ b = regG s t.toNat gb ∧ x = thr s t.toNat ∧ CanIssue s t [] [gd]) ∧
    (∃ (s : State) (t : BitVec 9) (ga : BitVec 5) (gb : BitVec 5) (a : Word36) (b : Word36) (x : Thread), a = regG s t.toNat ga ∧ b = regG
      s t.toNat gb ∧ x = thr s t.toNat ∧ CanIssue s t [ga] []) ∧
    (∃ (s : State) (t : BitVec 9) (gd : BitVec 5) (ga : BitVec 5) (gb : BitVec 5) (a : Word36) (b : Word36) (x : Thread), a = regG s
      t.toNat ga ∧ b = regG s t.toNat gb ∧ x = thr s t.toNat ∧ CanIssue s t [ga] [gd]) :=
  ⟨⟨runner, 511, 2, 3, _, _, _, rfl, rfl, rfl, canIssue_of (by decide +kernel)⟩,
  ⟨runner, 511, 2, 3, _, _, _, 35, rfl, rfl, rfl, canIssue_of (by decide +kernel), by decide +kernel⟩,
  ⟨runner, 511, 2, 3, _, _, _, rfl, rfl, rfl, canIssue_of (by decide +kernel)⟩,
  ⟨runner, 511, 31, 2, 3, _, _, _, rfl, rfl, rfl, canIssue_of (by decide +kernel)⟩,
  ⟨runner, 511, 2, 0, _, _, _, rfl, rfl, rfl, canIssue_of (by decide +kernel)⟩,
  ⟨runner, 511, 2, 2, 0, _, _, _, rfl, rfl, rfl, canIssue_of (by decide +kernel)⟩⟩
end ControlTransfersGo

namespace SystemInstructionsAct
def hd (p : Thread → Thread := id) : State := onThr [(1, 5)] (fun x => p { x with hdl := true, epc := 77 })
def sv (v : Nat) (x : Thread := { st := .halt }) : State := { up with cores := { threads := [(455, { st := .run, pc := 65535, g := [(1, BitVec.ofNat 36 v)] }), (454, x)] } }
theorem test_states_meet_1 :
    (∃ (s : State) (t : BitVec 9) (a : State), a = noteIssue t.toNat s ∧ CanIssue s t [] []) ∧
    (∃ (s : State) (t : BitVec 9) (a : State), a = noteIssue t.toNat s ∧ CanIssue s t [] [] ∧ (thr s t.toNat).hdl = false) ∧
    (∃ (s : State) (t : BitVec 9) (a : State) (b : _) (k : Nat) (x : _), a = noteIssue t.toNat s ∧ b = detachOps t.toNat (loseLocks t.toNat
      4 (checkHeld t.toNat (advance t.toNat a))) ∧ CanIssue s t [] [] ∧ (thr s t.toNat).hdl = true ∧ (thr b t.toNat).item = some k ∧ itemOf
      b k = some x) ∧
    (∃ (s : State) (t : BitVec 9) (a : State) (b : _), a = noteIssue t.toNat s ∧ b = detachOps t.toNat (loseLocks t.toNat 4 (checkHeld
      t.toNat (advance t.toNat a))) ∧ CanIssue s t [] [] ∧ (thr s t.toNat).hdl = true ∧ (thr b t.toNat).item = none) ∧
    (∃ (s : State) (t : BitVec 9) (a : State) (k : Nat) (x : _) (d : Sheet), a = noteIssue t.toNat s ∧ d = x.arrival + BitVec.ofNat 48
      x.window + 4 ∧ CanIssue s t [] [] ∧ (thr s t.toNat).hdl = true ∧ (thr s t.toNat).terminated = false ∧ (thr s t.toNat).item = some k ∧
      itemOf s k = some x) :=
  ⟨⟨onThr [], 511, _, rfl, canIssue_of (by decide +kernel)⟩,
  ⟨onThr [], 511, _, rfl, canIssue_of (by decide +kernel), by decide +kernel⟩,
  ⟨hd, 511, _, _, (5 * 65536 + 7 : Nat), { item with place := .onThread 511 }, rfl, rfl, canIssue_of (by decide +kernel),
    by decide +kernel⟩,
  ⟨hd (fun x => { x with item := none }), 511, _, _, rfl, rfl, canIssue_of (by decide +kernel), by decide +kernel⟩,
  ⟨hd, 511, _, (5 * 65536 + 7 : Nat), { item with place := .onThread 511 }, _, rfl, rfl, canIssue_of (by decide +kernel),
    by decide +kernel⟩⟩
theorem test_states_meet_2 :
    (∃ (s : State) (t : BitVec 9) (ga : BitVec 5) (a : State) (u : Nat), a = noteIssue t.toNat s ∧ u = (regG s t.toNat ga).toNat % 4096 ∧
      CanIssue s t [ga] [] ∧ isSupervisor s t.toNat = false) ∧
    (∃ (s : State) (t : BitVec 9) (ga : BitVec 5) (a : State) (u : Nat), a = noteIssue t.toNat s ∧ u = (regG s t.toNat ga).toNat % 4096 ∧
      CanIssue s t [ga] [] ∧ isSupervisor s t.toNat = true ∧ u / 64 = clusterOf t.toNat ∧ u ≠ t.toNat) ∧
    (∃ (s : State) (t : BitVec 9) (ga : BitVec 5) (a : State) (u : Nat), a = noteIssue t.toNat s ∧ u = (regG s t.toNat ga).toNat % 4096 ∧
      CanIssue s t [ga] [] ∧ isSupervisor s t.toNat = true ∧ u / 64 = clusterOf t.toNat ∧ u ≠ t.toNat ∧ (thr s u).st = .halt) ∧
    (∃ (s : State) (t : BitVec 9) (ga : BitVec 5) (a : State) (u : Nat), a = noteIssue t.toNat s ∧ u = (regG s t.toNat ga).toNat % 4096 ∧
      CanIssue s t [ga] [] ∧ isSupervisor s t.toNat = true ∧ u / 64 = clusterOf t.toNat ∧ u ≠ t.toNat ∧ (thr s u).st ≠ .halt) ∧
    (∃ (s : State) (t : BitVec 9) (ga : BitVec 5) (a : State) (u : Nat), a = noteIssue t.toNat s ∧ u = (regG s t.toNat ga).toNat % 4096 ∧
      CanIssue s t [ga] [] ∧ isSupervisor s t.toNat = true ∧ (u / 64 ≠ clusterOf t.toNat ∨ u = t.toNat)) :=
  ⟨⟨onThr [(1, 7)], 511, 1, _, _, rfl, rfl, canIssue_of (by decide +kernel), by decide +kernel⟩,
  ⟨sv 454, 455, 1, _, _, rfl, rfl, canIssue_of (by decide +kernel), by decide +kernel⟩,
  ⟨sv 454, 455, 1, _, _, rfl, rfl, canIssue_of (by decide +kernel), by decide +kernel⟩,
  ⟨sv 454 {}, 455, 1, _, _, rfl, rfl, canIssue_of (by decide +kernel), by decide +kernel⟩,
  ⟨sv 512, 455, 1, _, _, rfl, rfl, canIssue_of (by decide +kernel), by decide +kernel⟩⟩
end SystemInstructionsAct

namespace LocksAreGranted
def lk (l : Lock) (r : Tab Lock := []) (x : Tab Thread := []) : State :=
  let s := onThr [(1, 95), (2, 9)]
  { s with dov := { locks := r ++ [(4095, l)] }, cores := { s.cores with threads := x ++ s.cores.threads } }
def aw : State := { up with cores := { threads := [(9, { st := .stall, item := some 1, stall := .lock 4 2 5 })] }, dov := { detectors := [(0, { fired := true })] } }

def badLock : State := let s := lk {}; { s with dov := { s.dov with bad := [.lock 4095] } }
theorem test_states_meet_1 :
    (∃ (s : State) (t : BitVec 9) (gd : BitVec 5) (ga : BitVec 5) (imm : BitVec 12) (k : Nat) (a : State) (l : Lock) (g : Lock), a =
      noteIssue t.toNat s ∧ k = ((regG s t.toNat ga).toNat + imm.toNat) % 4096 ∧ l = lockOf s k ∧ g = { l with owner := BitVec.ofNat 12 t.toNat, last := l.owner, broken := 7 }
      ∧ CanIssue s t [ga] [gd] ∧ l.waiters = [] ∧ lockUnit k = none ∧ (DovWord.lock k ∈ s.dov.bad ∨ DovWord.queue k ∈ s.dov.bad)) ∧
    (∃ (s : State) (t : BitVec 9) (gd : BitVec 5) (ga : BitVec 5) (imm : BitVec 12) (k : Nat) (a : State) (l : Lock) (g : Lock), a =
      noteIssue t.toNat s ∧ k = ((regG s t.toNat ga).toNat + imm.toNat) % 4096 ∧ l = lockOf s k ∧ g = { l with owner := BitVec.ofNat 12 t.toNat }
      ∧ CanIssue s t [ga] [gd] ∧ s.dov.weak = [] ∧ s.dov.bad = [] ∧ l.owner = 4095) ∧
    (∃ (s : State) (t : BitVec 9) (gd : BitVec 5) (ga : BitVec 5) (imm : BitVec 12) (k : Nat) (a : State) (l : Lock), a = noteIssue t.toNat
      s ∧ k = ((regG s t.toNat ga).toNat + imm.toNat) % 4096 ∧ l = lockOf s k ∧ CanIssue s t [ga] [gd] ∧ s.dov.weak = [] ∧ s.dov.bad = [] ∧
      l.owner.toNat = t.toNat) ∧
    (∃ (s : State) (t : BitVec 9) (gd : BitVec 5) (ga : BitVec 5) (imm : BitVec 12) (k : Nat) (a : State) (l : Lock), a = noteIssue t.toNat
      s ∧ k = ((regG s t.toNat ga).toNat + imm.toNat) % 4096 ∧ l = lockOf s k ∧ CanIssue s t [ga] [gd] ∧ s.dov.weak = [] ∧ s.dov.bad = [] ∧
      l.owner ≠ 4095 ∧ l.owner.toNat ≠ t.toNat) ∧
    (∃ (s : State) (t : BitVec 9) (gd : BitVec 5) (ga : BitVec 5) (imm : BitVec 12) (k : Nat) (a : State) (l : Lock), a = noteIssue t.toNat
      s ∧ k = ((regG s t.toNat ga).toNat + imm.toNat) % 4096 ∧ l = lockOf s k ∧ CanIssue s t [ga] [gd] ∧ s.dov.weak = [] ∧ s.dov.bad = [] ∧
      l.owner ≠ 4095 ∧ l.owner.toNat ≠ t.toNat ∧ lockCycle (s.dov.locks.length + 1) a t.toNat k = none) :=
  ⟨⟨badLock, 511, 2, 1, 4000, _, _, _, _, rfl, rfl, rfl, rfl, canIssue_of (by decide +kernel), by decide +kernel⟩,
  ⟨lk {}, 511, 2, 1, 4000, _, _, _, _, rfl, rfl, rfl, rfl, canIssue_of (by decide +kernel), by decide +kernel⟩,
  ⟨lk { owner := 511 }, 511, 2, 1, 4000, _, _, _, rfl, rfl, rfl, canIssue_of (by decide +kernel), by decide +kernel⟩,
  ⟨lk { owner := 4 }, 511, 2, 1, 4000, _, _, _, rfl, rfl, rfl, canIssue_of (by decide +kernel), by decide +kernel⟩,
  ⟨lk { owner := 4 }, 511, 2, 1, 4000, _, _, _, rfl, rfl, rfl, canIssue_of (by decide +kernel), by decide +kernel⟩⟩
theorem test_states_meet_2 :
    (∃ (s : State) (t : BitVec 9) (gd : BitVec 5) (ga : BitVec 5) (imm : BitVec 12) (k : Nat) (a : State) (l : Lock) (others : _), a =
      noteIssue t.toNat s ∧ k = ((regG s t.toNat ga).toNat + imm.toNat) % 4096 ∧ l = lockOf s k ∧ CanIssue s t [ga] [gd] ∧ s.dov.weak = []
      ∧ s.dov.bad = [] ∧ l.owner ≠ 4095 ∧ l.owner.toNat ≠ t.toNat ∧ lockCycle (s.dov.locks.length + 1) a t.toNat k = some others) ∧
    (∃ (s : State) (t : BitVec 9) (ga : BitVec 5) (imm : BitVec 12) (k : Nat) (a : State) (l : Lock), a = noteIssue t.toNat s ∧ k = ((regG
      s t.toNat ga).toNat + imm.toNat) % 4096 ∧ l = lockOf s k ∧ CanIssue s t [ga] [] ∧ s.dov.weak = [] ∧ s.dov.bad = [] ∧ (thr s
      t.toNat).stores = [] ∧ l.owner.toNat = t.toNat ∧ lockUnit k = none ∧ l.waiters = []) ∧
    (∃ (s : State) (t : BitVec 9) (ga : BitVec 5) (imm : BitVec 12) (k : Nat) (a : State) (l : Lock), a = noteIssue t.toNat s ∧ k = ((regG
      s t.toNat ga).toNat + imm.toNat) % 4096 ∧ l = lockOf s k ∧ CanIssue s t [ga] [] ∧ s.dov.weak = [] ∧ s.dov.bad = [] ∧ (thr s
      t.toNat).stores = [] ∧ l.owner.toNat = t.toNat ∧ lockUnit k = none ∧ l.waiters ≠ []) ∧
    (∃ (s : State) (t : BitVec 9) (ga : BitVec 5) (imm : BitVec 12) (k : Nat) (a : State) (l : Lock), a = noteIssue t.toNat s ∧ k = ((regG
      s t.toNat ga).toNat + imm.toNat) % 4096 ∧ l = lockOf s k ∧ CanIssue s t [ga] [] ∧ s.dov.weak = [] ∧ s.dov.bad = [] ∧ (thr s
      t.toNat).stores = [] ∧ l.owner.toNat ≠ t.toNat) ∧
    (∃ (s : State) (t : BitVec 9) (ga : BitVec 5) (imm : BitVec 12) (k : Nat) (a : State) (l : Lock) (scope : BitVec 4) (v : Nat) (b :
      State) (n : Nat), a = noteIssue t.toNat s ∧ k = ((regG s t.toNat ga).toNat + imm.toNat) % 4096 ∧ l = lockOf s k ∧ n = (liveIn s
      scope.toNat).length ∧ b = { s with dov := { s.dov with detectors := tabUpd {} s.dov.detectors scope.toNat (fun d => { d with fired := false }) } }
      ∧ scope.toNat < 8 ∧ (detectorOf s scope.toNat).fired = true ∧ abortChoice s ((liveIn s scope.toNat).filter (isWaiting s)) = some v) :=
  ⟨⟨lk { owner := 4 } [(7, { owner := 511, waiters := [4] })] [(4, { st := .stall, stall := .lock 7 2 5 })], 511, 2, 1, 4000, _, _, _,
    (lockCycle 3 (lk { owner := 4 } [(7, { owner := 511, waiters := [4] })] [(4, { st := .stall, stall := .lock 7 2 5 })]) 511 4095).getD
    [], rfl, rfl, rfl, canIssue_of (by decide +kernel), by decide +kernel⟩,
  ⟨lk { owner := 511 }, 511, 1, 4000, _, _, _, rfl, rfl, rfl, canIssue_of (by decide +kernel), by decide +kernel⟩,
  ⟨lk { owner := 511, waiters := [4, 12] } [] [(4, { st := .stall, stall := .lock 4095 2 5 }), (12, { st := .stall, stall := .lock 4095 2 5, prio := 3 })],
    511, 1, 4000, _, _, _, rfl, rfl, rfl, canIssue_of (by decide +kernel), by decide +kernel⟩,
  ⟨lk { owner := 4 }, 511, 1, 4000, _, _, _, rfl, rfl, rfl, canIssue_of (by decide +kernel), by decide +kernel⟩,
  ⟨aw, 511, 1, 4000, _, _, _, 0, 9, _, _, rfl, rfl, rfl, rfl, rfl, by decide +kernel⟩⟩
end LocksAreGranted

namespace ChannelsPass
def ch (x : Channel) (g2 : Word36 := 32764) (g1 : Word36 := 23) (c : Nat := 1023) : State := let s := onThr [(1, g1), (2, g2)]; { s with dov := { channels := [(c, x)] } }
def slot : ChanSlot := { state := .committed, writer := 4, words := [1, 2, 3, 4] }
def vslot : ChanSlot := { state := .voided, writer := 4, words := [1, 2, 3, 4] }
def rs : ChanSlot := { state := .reserved, writer := 511, words := [1, 2, 3, 4] }
def tok : Word36 := BitVec.ofNat 36 (9 + 1 * 2 ^ 14 + 1014 * 2 ^ 22)

def badChan (w : DovWord) : State := let s := ch { reserved := 1, slots := [(0, slot)] }; { s with dov := { s.dov with bad := [w] } }
def dv (f : Dovetail) : State := { up with dov := f }
theorem test_states_meet_1 :
    (∃ (s : State) (t : BitVec 9) (gd : BitVec 5) (ga : BitVec 5) (imm : BitVec 12) (c : Nat) (a : State), a = noteIssue t.toNat s ∧ c =
      ((regG s t.toNat ga).toNat + imm.toNat) % 1024 ∧ CanIssue s t [ga] [gd] ∧ (chanOf s c).readers = [] ∧ (chanOf s c).writers = [] ∧
      DovWord.pointers c ∈ s.dov.bad) ∧
    (∃ (s : State) (t : BitVec 9) (ga : BitVec 5) (imm : BitVec 12) (c : Nat) (a : State) (i : Nat) (sl : _), a = noteIssue t.toNat s ∧ c =
      ((regG s t.toNat ga).toNat + imm.toNat) % 1024 ∧ tabFind (chanOf s c).slots i = some sl ∧ sl.state = .committed ∧ DovWord.slot c (i %
      chanSize s c) ∈ s.dov.bad) ∧
    (∃ (s : State) (t : BitVec 9) (gd : BitVec 5) (ga : BitVec 5) (imm : BitVec 12) (c : Nat) (a : State), a = noteIssue t.toNat s ∧ c =
      ((regG s t.toNat ga).toNat + imm.toNat) % 1024 ∧ CanIssue s t [ga] [gd] ∧ s.dov.weak = [] ∧ s.dov.bad = [] ∧ mayReserve s c = true) ∧
    (∃ (s : State) (t : BitVec 9) (gd : BitVec 5) (ga : BitVec 5) (imm : BitVec 12) (c : Nat) (a : State), a = noteIssue t.toNat s ∧ c =
      ((regG s t.toNat ga).toNat + imm.toNat) % 1024 ∧ CanIssue s t [ga] [gd] ∧ s.dov.weak = [] ∧ s.dov.bad = [] ∧ mayReserve s c = false) ∧
    (∃ (s : State) (t : BitVec 9) (ga : BitVec 5) (gb : BitVec 5) (imm : BitVec 12) (c : Nat) (a : State) (d : Nat) (i : Nat) (sl : _), a =
      noteIssue t.toNat s ∧ c = ((regG s t.toNat ga).toNat + imm.toNat) % 1024 ∧ CanIssue s t [ga, gb] [] ∧ s.dov.weak = [] ∧ s.dov.bad =
      [] ∧ tokenSlot s (regG s t.toNat ga) t.toNat = some (d, i) ∧ tabFind (chanOf s d).slots i = some sl) ∧
    (∃ (s : State) (t : BitVec 9) (ga : BitVec 5) (gb : BitVec 5) (imm : BitVec 12) (c : Nat) (a : State), a = noteIssue t.toNat s ∧ c =
      ((regG s t.toNat ga).toNat + imm.toNat) % 1024 ∧ CanIssue s t [ga, gb] [] ∧ s.dov.weak = [] ∧ s.dov.bad = [] ∧ tokenSlot s (regG s
      t.toNat ga) t.toNat = none) ∧
    (∃ (s : State) (t : BitVec 9) (ga : BitVec 5) (imm : BitVec 12) (c : Nat) (a : State) (b : _) (d : Nat) (i : Nat), a = noteIssue
      t.toNat s ∧ c = ((regG s t.toNat ga).toNat + imm.toNat) % 1024 ∧ b = drainStores t.toNat a ∧ CanIssue s t [ga] [] ∧ s.dov.weak = [] ∧
      s.dov.bad = [] ∧ tokenSlot b (regG s t.toNat ga) t.toNat = some (d, i)) :=
  ⟨⟨badChan (.pointers 1023), 511, 2, 1, 1000, _, _, rfl, rfl, canIssue_of (by decide +kernel), by decide +kernel⟩,
  ⟨badChan (.slot 1023 0), 511, 1, 1000, _, _, (0 : Nat), slot, rfl, rfl, by decide +kernel⟩,
  ⟨ch {}, 511, 2, 1, 1000, _, _, rfl, rfl, canIssue_of (by decide +kernel), by decide +kernel⟩,
  ⟨ch { writers := [4] }, 511, 2, 1, 1000, _, _, rfl, rfl, canIssue_of (by decide +kernel), by decide +kernel⟩,
  ⟨ch { reserved := 10, slots := [(9, rs)] } 5 tok 1014, 511, 1, 2, 3, _, _, (1014 : Nat), (9 : Nat), rs, rfl, rfl, canIssue_of
    (by decide +kernel), by decide +kernel⟩,
  ⟨ch { reserved := 10, slots := [(9, slot)] } 5 tok 1014, 511, 1, 2, 3, _, _, rfl, rfl, canIssue_of (by decide +kernel),
    by decide +kernel⟩,
  ⟨ch { reserved := 10, slots := [(9, rs)] } 5 tok 1014, 511, 1, 3, _, _, _, (1014 : Nat), (9 : Nat), rfl, rfl, rfl, canIssue_of
    (by decide +kernel), by decide +kernel⟩⟩
theorem test_states_meet_2 :
    (∃ (s : State) (t : BitVec 9) (gd : BitVec 5) (ga : BitVec 5) (gb : BitVec 5) (imm : BitVec 12) (c : Nat) (a : State) (i : Nat) (sl :
      _), a = noteIssue t.toNat s ∧ c = ((regG s t.toNat ga).toNat + imm.toNat) % 1024 ∧ i = claimNumber (chanOf s c) ∧ CanIssue s t [ga,
      gb] [gd] ∧ s.dov.weak = [] ∧ s.dov.bad = [] ∧ (regG s t.toNat gb).toNat ≤ 32764 ∧ readySlot s c i = some sl) ∧
    (∃ (s : State) (t : BitVec 9) (gd : BitVec 5) (ga : BitVec 5) (gb : BitVec 5) (imm : BitVec 12) (c : Nat) (a : State) (i : Nat), a =
      noteIssue t.toNat s ∧ c = ((regG s t.toNat ga).toNat + imm.toNat) % 1024 ∧ i = claimNumber (chanOf s c) ∧ CanIssue s t [ga, gb] [gd]
      ∧ s.dov.weak = [] ∧ s.dov.bad = [] ∧ (regG s t.toNat gb).toNat ≤ 32764 ∧ readySlot s c i = none) ∧
    (∃ (s : State) (c : Nat) (x : _), x = chanOf s c ∧ x.readers = [] ∧ x.writers = [] ∧ DovWord.pointers c ∈ s.dov.bad) ∧
    (∃ (s : State) (m : BitVec 4) (c : Nat) (n : Nat), c = par s m 0 2 ∧ n = (chanOf s c).reserved ∧ Accepted channelPost m s ∧
      completionRoom s = true ∧ s.dov.weak = [] ∧ s.dov.bad = [] ∧ mayReserve s c = true) ∧
    (∃ (s : State) (m : BitVec 4) (c : Nat) (i : Nat) (sl : _) (u : _), c = par s m 0 2 ∧ i = claimNumber (chanOf s c) ∧ u = (fun a =>
      settleChan c (progress (waitsChan c) (setChan c { chanOf (takeClaim c a) c with slots := tabErase (chanOf a c).slots i } (takeClaim c
      a)))) ∧ Accepted channelTake m s ∧ completionRoom s = true ∧ s.dov.weak = [] ∧ s.dov.bad = [] ∧ readySlot s c i = some sl ∧ sl.state
      = .committed ∧ sl.words.length = 4) ∧
    (∃ (s : State) (m : BitVec 4) (c : Nat) (i : Nat) (sl : _) (u : _), c = par s m 0 2 ∧ i = claimNumber (chanOf s c) ∧ u = (fun a =>
      settleChan c (progress (waitsChan c) (setChan c { chanOf (takeClaim c a) c with slots := tabErase (chanOf a c).slots i } (takeClaim c
      a)))) ∧ Accepted channelTake m s ∧ completionRoom s = true ∧ s.dov.weak = [] ∧ s.dov.bad = [] ∧ readySlot s c i = some sl ∧ sl.state
      ≠ .committed) :=
  ⟨⟨ch { reserved := 10, nextClaim := 9, slots := [(9, slot)] }, 511, 3, 1, 2, 1000, _, _, _, slot, rfl, rfl, rfl, canIssue_of
    (by decide +kernel), by decide +kernel⟩,
  ⟨ch { reserved := 10, nextClaim := 9, slots := [(9, rs)] }, 511, 3, 1, 2, 1000, _, _, _, rfl, rfl, rfl, canIssue_of (by decide +kernel),
    by decide +kernel⟩,
  ⟨dv { channels := [(1023, { reserved := 1, slots := [(0, slot)] })], bad := [.pointers 1023] }, (1023 : Nat), _, rfl, by decide +kernel⟩,
  ⟨cmd 0x521 [(1014,2),(0,2),(2^36-1,5),(1,5),(2,5),(3,5)], 0, _, _, rfl, rfl, accepted_of (by decide +kernel), by decide +kernel⟩,
  ⟨cmd 0x522 [(1014,2)] (dv { channels := [(1014, { reserved := 1, slots := [(0, slot)] })] }), 0, _, _, slot, _, rfl, rfl, rfl,
    accepted_of (by decide +kernel), by decide +kernel⟩,
  ⟨cmd 0x522 [(1014,2)] (dv { channels := [(1014, { reserved := 1, slots := [(0, vslot)] })] }), 0, _, _, vslot, _, rfl, rfl, rfl,
    accepted_of (by decide +kernel), by decide +kernel⟩⟩
end ChannelsPass

namespace LookupCommandsTakeEffect
def tb (x : LkTable) (e : Tab LkEntry := []) (s : State := up) : State := { s with lk := { s.lk with tables := [(15, x)], entries := e } }
def tbl : LkTable := { configured := true, enabled := true, keyWords := 4, base := 65280, buckets := 256 }
def en : LkEntry := { key := [1, 2, 3, 4], r0 := 5, r1 := 6, table := 15 }
def tr (x : Trie) (f : Lookup → Lookup := id) : State := { up with lk := f { up.lk with tries := [(32, x)] } }
def k9 : List (Nat × Nat) := [(1,5),(2,5),(3,5),(4,5),(0,25)]
def loc : State := insertNew 15 en (tb tbl) |>.2
theorem test_states_meet_1 :
    (∃ (s : State) (m : BitVec 4) (p : List Byte) (t : Nat), p = mbxPayload s m.toNat ∧ t = par s m 0 1 ∧ Accepted emTableConfig m s ∧
      completionRoom s = true ∧ (tableOf s t).enabled = false) ∧
    (∃ (s : State) (m : BitVec 4) (p : List Byte) (t : Nat), p = mbxPayload s m.toNat ∧ t = par s m 0 1 ∧ Accepted tableEnable m s ∧
      completionRoom s = true ∧ (tableOf s t).configured = true ∧ par s m 1 1 = 0) ∧
    (∃ (s : State) (m : BitVec 4) (p : List Byte) (t : Nat), p = mbxPayload s m.toNat ∧ t = par s m 0 1 ∧ Accepted tableEnable m s ∧
      completionRoom s = true ∧ (tableOf s t).configured = true ∧ par s m 1 1 = 1 ∧ t < 16) ∧
    (∃ (s : State) (m : BitVec 4) (p : List Byte) (t : Nat), p = mbxPayload s m.toNat ∧ t = par s m 0 1 ∧ Accepted tableEnable m s ∧
      completionRoom s = true ∧ (tableOf s t).configured = true ∧ par s m 1 1 = 2 ∧ t < 16) ∧
    (∃ (s : State) (m : BitVec 4) (p : List Byte) (t : Nat), p = mbxPayload s m.toNat ∧ t = par s m 0 1 ∧ Accepted learnConfig m s ∧
      completionRoom s = true) ∧
    (∃ (s : State) (m : BitVec 4) (p : List Byte) (t : Nat), p = mbxPayload s m.toNat ∧ t = par s m 0 1 ∧ Accepted flowTableConfig m s ∧
      completionRoom s = true ∧ (tableOf s 16).enabled = false) ∧
    (∃ (s : State) (m : BitVec 4) (p : List Byte) (t : Nat) (a : _) (r : _), p = mbxPayload s m.toNat ∧ t = par s m 0 1 ∧ a = applyAhead t
      (cmdKey s p) (startCmd m.toNat s) ∧ r = plainInsert t (cmdKey a p) (BitVec.ofNat 36 (par s m 49 5)) (BitVec.ofNat 36 (par s m 54 5))
      (par s m 1 1 == 1) a ∧ Accepted entryWrite m s ∧ completionRoom s = true ∧ (tableOf s t).configured = true ∧ (tableOf s t).enabled =
      true) ∧
    (∃ (s : State) (m : BitVec 4) (p : List Byte) (t : Nat) (a : _) (r : _), p = mbxPayload s m.toNat ∧ t = par s m 0 1 ∧ a = applyAhead t
      (cmdKey s p) (startCmd m.toNat s) ∧ r = deleteEntry t (cmdKey a p) a ∧ Accepted entryDelete m s ∧ completionRoom s = true ∧ (tableOf
      s t).configured = true ∧ (tableOf s t).enabled = true) :=
  ⟨⟨cmd 0x601 [(15,1),(4,1),(7,1),(0,1),(65280,4),(256,4),(0,4),(1,4)], 0, _, _, rfl, rfl, accepted_of (by decide +kernel),
    by decide +kernel⟩,
  ⟨cmd 0x602 [(15,1),(0,1)] (tb tbl), 0, _, _, rfl, rfl, accepted_of (by decide +kernel), by decide +kernel⟩,
  ⟨cmd 0x602 [(15,1),(1,1)] (tb tbl), 0, _, _, rfl, rfl, accepted_of (by decide +kernel), by decide +kernel⟩,
  ⟨cmd 0x602 [(15,1),(2,1)] (tb tbl [(4 * 65280 + 1023, en)]), 0, _, _, rfl, rfl, accepted_of (by decide +kernel), by decide +kernel⟩,
  ⟨cmd 0x603 [(15,1),(15,1),(32767,2),(16777215,4),(268435455,4)], 0, _, _, rfl, rfl, accepted_of (by decide +kernel), by decide +kernel⟩,
  ⟨cmd 0x604 [(9,1),(5,1),(0,2),(1024,4),(4096,8),(0,4),(9,4),(2^20,8),(1,4)] backed, 0, _, _, rfl, rfl, accepted_of (by decide +kernel),
    by decide +kernel⟩,
  ⟨cmd 0x610 ([(15,1),(1,1),(0,2)] ++ k9 ++ [(2^36-1,5),(6,5)]) (tb tbl), 0, _, _, _, _, rfl, rfl, rfl, rfl, accepted_of
    (by decide +kernel), by decide +kernel⟩,
  ⟨cmd 0x611 ([(15,1),(0,3)] ++ k9) loc, 0, _, _, _, _, rfl, rfl, rfl, rfl, accepted_of (by decide +kernel), by decide +kernel⟩⟩
theorem test_states_meet_2 :
    (∃ (s : State) (m : BitVec 4) (p : List Byte) (t : Nat) (a : _) (r : _), p = mbxPayload s m.toNat ∧ t = par s m 0 1 ∧ a = applyAhead t
      (cmdKey s p) (startCmd m.toNat s) ∧ r = lookupEntry t (cmdKey a p) a ∧ Accepted entryLookup m s ∧ completionRoom s = true ∧ (tableOf
      s t).configured = true ∧ (tableOf s t).enabled = true) ∧
    (∃ (s : State) (m : BitVec 4) (p : List Byte) (t : Nat), p = mbxPayload s m.toNat ∧ t = par s m 0 1 ∧ Accepted entryRead m s ∧
      completionRoom s = true ∧ (t = 16 → s.lk.frameBad.contains (par s m 4 4 / 4) = false) ∧ entryBad s t (par s m 4 4) = false ∧ entryAt
      s t (par s m 4 4) = none) ∧
    (∃ (s : State) (m : BitVec 4) (p : List Byte) (t : Nat) (e : _), p = mbxPayload s m.toNat ∧ t = par s m 0 1 ∧ Accepted entryRead m s ∧
      completionRoom s = true ∧ (t = 16 → s.lk.frameBad.contains (par s m 4 4 / 4) = false) ∧ entryBad s t (par s m 4 4) = false ∧ entryAt
      s t (par s m 4 4) = some e) ∧
    (∃ (s : State) (m : BitVec 4) (p : List Byte) (t : Nat), p = mbxPayload s m.toNat ∧ t = par s m 0 1 ∧ Accepted tableFlush m s ∧
      completionRoom s = true ∧ t < 16) ∧
    (∃ (s : State) (m : BitVec 4) (p : List Byte) (t : Nat) (f : _) (a : _), p = mbxPayload s m.toNat ∧ t = par s m 0 1 ∧ a = startCmd
      m.toNat s ∧ Accepted flapRelease m s ∧ completionRoom s = true ∧ flapOf s t (cmdKey s p) = some f ∧ (flapSeen a f).pinEnd.isSome =
      true) ∧
    (∃ (s : State) (m : BitVec 4) (p : List Byte) (t : Nat) (l : _), p = mbxPayload s m.toNat ∧ t = par s m 0 1 ∧ l = noticesSeen (startCmd
      m.toNat s) t ∧ Accepted noticeRead m s ∧ completionRoom s = true ∧ (∀ x ∈ s.lk.notices, x.length = 64)) ∧
    (∃ (s : State) (m : BitVec 4) (p : List Byte) (t : Nat) (l : _), p = mbxPayload s m.toNat ∧ t = par s m 0 1 ∧ l = noticesSeen (startCmd
      m.toNat s) t ∧ Accepted noticeRead m s ∧ completionRoom s = true ∧ (∀ x ∈ s.lk.notices, x.length = 64) ∧ s.lk.noticeBad = []) ∧
    (∃ (s : State) (m : BitVec 4) (p : List Byte) (t : Nat), p = mbxPayload s m.toNat ∧ t = par s m 0 1 ∧ Accepted lookupCounters m s ∧
      completionRoom s = true) :=
  ⟨⟨cmd 0x612 ([(15,1),(0,3)] ++ k9) loc, 0, _, _, _, _, rfl, rfl, rfl, rfl, accepted_of (by decide +kernel), by decide +kernel⟩,
  ⟨cmd 0x613 [(15,1),(0,3),(1023,4)] (tb tbl), 0, _, _, rfl, rfl, accepted_of (by decide +kernel), by decide +kernel⟩,
  ⟨cmd 0x613 [(15,1),(0,3),(1023,4)] (tb tbl [(4 * 65280 + 1023, en)]), 0, _, _, en, rfl, rfl, accepted_of (by decide +kernel),
    by decide +kernel⟩,
  ⟨cmd 0x614 [(15,1),(2,1),(0,2),(5,5),(0,5),(15,5),(0,5)] (tb tbl [(4 * 65280 + 1023, { en with learned := true })]), 0, _, _, rfl, rfl,
    accepted_of (by decide +kernel), by decide +kernel⟩,
  ⟨cmd 0x615 ([(15,1),(0,3)] ++ [(1,5),(2,5),(3,5),(4,5)]) (updLk (fun l => { l with flaps := [{ table := 15, key := [1, 2, 3, 4], start := 0, count := 5, pinEnd := some 9 }] })
    loc), 0, _, _, ({ table := 15, key := [1, 2, 3, 4], start := 0, count := 5, pinEnd := some 9 } : FlapRecord), _, rfl, rfl, rfl,
    accepted_of (by decide +kernel), by decide +kernel⟩,
  ⟨cmd 0x630 [(3,1)] (tr {} (fun l => { l with notices := [zeros 64, zeros 63 ++ [5]] })), 0, _, _, _, rfl, rfl, rfl, accepted_of
    (by decide +kernel), by decide +kernel⟩,
  ⟨cmd 0x630 [(1,1)] (tr {} (fun l => { l with notices := [zeros 64, zeros 63 ++ [5]] })), 0, _, _, _, rfl, rfl, rfl, accepted_of
    (by decide +kernel), by decide +kernel⟩,
  ⟨cmd 0x631 [(255,1),(1,1)], 0, _, _, rfl, rfl, accepted_of (by decide +kernel), by decide +kernel⟩⟩
end LookupCommandsTakeEffect

namespace LookupsRunAndLand
def op1 : LkOp := { thread := 511, table := 32, op := 0, key := [0x01020304], source := 5, result := 32766, gd := 2, async := true }
def rt : Route := { prefixBits := 0x01020304, plen := 32, index := 3 }
def rt0 : Route := { prefixBits := 0x01000000, plen := 8, index := 4 }
def lko (n : Nat) : State := let s := onThr [(1, 5)]; { s with lk := { s.lk with ops := (List.range n).map (fun i => (i, op1)), tries := [(32, { enabled := true, routes := [rt0, rt] })], results := [(3, (9, 2)), (4, (8, 1))], nextOp := n } }

def badTrie : State := let s := lko 4; { s with lk := { s.lk with resultBad := [3] } }
def badWord : State := let s := lko 3; { s with cores := { s.cores with dmemBad := [63 * 32768 + 5] } }
theorem test_states_meet :
    (∃ (s : State) (t : BitVec 9) (gd : BitVec 5) (ga : BitVec 5) (gb : BitVec 5) (table : BitVec 6) (a : State) (c : Bool → Instr) (op :
      Nat) (x : Bool) (b : _) (u : _), a = noteIssue t.toNat s ∧ b = checkDmem ((keyAddrs a t.toNat op ga gb table).map (dmemKey (coreOf
      t.toNat))) (drainStores t.toNat a) ∧ u = updThr t.toNat (fun y => if !x || gd = 0 then y else { y with pending := tabPut y.pending gd.toNat b.lk.nextOp })
      (updLk (fun l => { l with ops := tabPut l.ops b.lk.nextOp (lookupOp b t.toNat op gd ga gb x table.toNat), nextOp := b.lk.nextOp + 1 })
      b) ∧ CanIssue s t [ga, gb] [gd] ∧ ((∀ x, c x = .lkup t gd ga gb x table 0) ∧ op = 0 ∨ (∀ x, c x = .lkupInsert t gd ga gb x table 0) ∧
      op = 1 ∨ (∀ x, c x = .lkupDelete t gd ga gb x table 0) ∧ op = 2) ∧ outstanding s t.toNat < 4 ∧ badKey a t.toNat op ga gb table =
      none) ∧
    (∃ (s : State) (t : BitVec 9) (gd : BitVec 5) (ga : BitVec 5) (gb : BitVec 5) (table : BitVec 6) (a : State) (c : Bool → Instr) (op :
      Nat) (w : Nat), a = noteIssue t.toNat s ∧ CanIssue s t [ga, gb] [gd] ∧ ((∀ x, c x = .lkup t gd ga gb x table 0) ∧ op = 0 ∨ (∀ x, c x
      = .lkupInsert t gd ga gb x table 0) ∧ op = 1 ∨ (∀ x, c x = .lkupDelete t gd ga gb x table 0) ∧ op = 2) ∧ outstanding s t.toNat < 4 ∧
      badKey a t.toNat op ga gb table = some w) ∧
    (∃ (s : State) (t : BitVec 9) (gd : BitVec 5) (ga : BitVec 5) (gb : BitVec 5) (table : BitVec 6) (a : State) (c : Bool → Instr) (op :
      Nat), a = noteIssue t.toNat s ∧ CanIssue s t [ga, gb] [gd] ∧ ((∀ x, c x = .lkup t gd ga gb x table 0) ∧ op = 0 ∨ (∀ x, c x =
      .lkupInsert t gd ga gb x table 0) ∧ op = 1 ∨ (∀ x, c x = .lkupDelete t gd ga gb x table 0) ∧ op = 2) ∧ 4 ≤ outstanding s t.toNat) ∧
    (∃ (s : State) (t : BitVec 9) (a : State), a = noteIssue t.toNat s ∧ CanIssue s t [] [] ∧ outstanding s t.toNat = 0) ∧
    (∃ (s : State) (t : BitVec 9) (a : State), a = noteIssue t.toNat s ∧ CanIssue s t [] [] ∧ 0 < outstanding s t.toNat) ∧
    (∃ (s : State) (t : BitVec 9) (a : State) (index : _) (i : Nat) (o : _) (r : _), a = noteIssue t.toNat s ∧ r = runLookup (opSeen s o)
      (noteOp o (updLk (fun l => { l with ops := tabErase l.ops i }) s)) ∧ s.lk.ops[index]? = some (i, o) ∧ (s.lk.ops.take index).any (fun
      p => p.2.table == o.table && (p.2.thread == o.thread || shareBucket s o.table p.2.key o.key)) = false ∧ (∀ p ∈ opSpans s o,
      dramAsleep s p.1 p.2 = false)) ∧
    (∃ (s : State) (t : BitVec 9) (a : State) (k : Nat) (x : Nat) (q : Nat × Nat), a = noteIssue t.toNat s ∧ badRead s k x = some q) ∧
    (∃ (s : State) (t : BitVec 9) (a : State) (k : Nat) (x : Nat) (r : Route), a = noteIssue t.toNat s ∧ badRead s k x = none ∧
      longestMatch s k x = some r) ∧
    (∃ (s : State) (t : BitVec 9) (a : State) (k : Nat) (x : Nat) (r : Route) (q : _), a = noteIssue t.toNat s ∧ badRead s k x = none ∧
      longestMatch s k x = some r ∧ q ∈ (trieOf s k).routes ∧ samePrefix (trieBits k) q.plen q.prefixBits x = true) :=
  ⟨⟨lko 3, 511, 2, 1, 1, 32, _, fun x => .lkup 511 2 1 1 x 32 0, 0, true, _, _, rfl, rfl, rfl, canIssue_of (by decide +kernel),
    by decide +kernel⟩,
  ⟨badWord, 511, 2, 1, 1, 32, _, fun x => .lkup 511 2 1 1 x 32 0, 0, (5 : Nat), rfl, canIssue_of (by decide +kernel), by decide +kernel⟩,
  ⟨lko 4, 511, 2, 1, 1, 32, _, fun x => .lkup 511 2 1 1 x 32 0, 0, rfl, canIssue_of (by decide +kernel), by decide +kernel⟩,
  ⟨lko 0, 511, _, rfl, canIssue_of (by decide +kernel), by decide +kernel⟩,
  ⟨lko 4, 511, _, rfl, canIssue_of (by decide +kernel), by decide +kernel⟩,
  ⟨lko 4, 511, _, 0, (0 : Nat), op1, _, rfl, rfl, by decide +kernel⟩,
  ⟨badTrie, 511, _, 32, 0x01020304, (7, 3), rfl, by decide +kernel⟩,
  ⟨lko 4, 511, _, 32, 0x01020304, rt, rfl, by decide +kernel⟩,
  ⟨lko 4, 511, _, 32, 0x01020304, rt, rt0, rfl, by decide +kernel⟩⟩
end LookupsRunAndLand

namespace LookupHappenings
def tbl : LkTable := { configured := true, enabled := true, keyWords := 4, base := 65280, buckets := 256, learn := true }
def en : LkEntry := { key := [1, 2, 3, 4], r0 := 5, r1 := 6, table := 15, learned := true }
def fl : FlapRecord := { table := 15, key := [1, 2, 3, 4], start := 0, count := 5, pinEnd := some 9 }
def lh : State := { up with sh := { up.sh with sheet := 2 ^ 30 - 1 }, lk := { up.lk with tables := [(15, tbl)], entries := [(4 * 65280 + 1023, en)], flaps := [fl], rewrites := [.entry 15 1023 en], staleNodes := [(256, 4)], staleResults := [3], results := [(3, (1, 2))] } }
def tr (x : Trie) (f : Lookup → Lookup := id) : State := { up with lk := f { up.lk with tries := [(32, x)] } }
theorem test_states_meet_1 :
    (∃ (s : State) (record : Nat) (f : FlapRecord) (e : Sheet), s.lk.flaps[record]? = some f ∧ (flapSeen s f).pinEnd = some e ∧ (s.sh.sheet
      - e).toNat < 2 ^ 47) ∧
    (∃ (k : BitVec 5), k.toNat < 16) ∧
    (∃ (s : State) (k : BitVec 5), k.toNat < 16 ∧ (tableOf s k.toNat).configured = true ∧ (tableOf s k.toNat).learn = true ∧ (tableOf s
      k.toNat).ageLimit ≠ 0 ∧ (∀ i ∈ tableEntries s k.toNat, entryBad s k.toNat i = false)) ∧
    (∃ (s : State) (index : Nat) (w : Rewrite), s.lk.rewrites[index]? = some w) ∧
    (∃ (s : State), s.lk.ops.any (fun p => decide (32 ≤ p.2.table)) = false) ∧
    (∃ (s : State) (m : BitVec 4) (p : List Byte) (t : Nat) (b : Nat) (x : _) (u : _), p = mbxPayload s m.toNat ∧ t = par s m 0 1 ∧ x = { trieOf s t with enabled := true, nodes := [{ depth := 0, path := 0, base := b }] }
      ∧ u = setTrie t x s ∧ Accepted trieConfig m s ∧ completionRoom s = true ∧ par s m 1 1 = 1 ∧ (trieOf s t).enabled = false ∧ nodesUsed
      s + rootSize t ≤ nodeRoom ∧ freeBlock (usedBlocks s) (rootSize t) = some b) :=
  ⟨⟨lh, 0, fl, (9 : Sheet), by decide +kernel⟩,
  ⟨15, by decide +kernel⟩,
  ⟨lh, 15, by decide +kernel⟩,
  ⟨lh, (0 : Nat), (Rewrite.entry 15 1023 en : Rewrite), by decide +kernel⟩,
  ⟨lh, by decide +kernel⟩,
  ⟨cmd 0x620 [(43,1),(1,1)], 0, _, _, (0 : Nat), _, _, rfl, rfl, rfl, rfl, accepted_of (by decide +kernel), by decide +kernel⟩⟩
theorem test_states_meet_2 :
    (∃ (s : State) (m : BitVec 4) (p : List Byte) (t : Nat), p = mbxPayload s m.toNat ∧ t = par s m 0 1 ∧ Accepted trieConfig m s ∧
      completionRoom s = true ∧ par s m 1 1 = 0) ∧
    (∃ (s : State) (m : BitVec 4) (p : List Byte) (t : Nat) (v : Word36 × Word36) (r : _), p = mbxPayload s m.toNat ∧ t = par s m 0 1 ∧ v =
      (BitVec.ofNat 36 (par s m 20 5), BitVec.ofNat 36 (par s m 25 5)) ∧ Accepted routeAdd m s ∧ completionRoom s = true ∧ (trieOf s
      t).enabled = true ∧ routeOf s t (par s m 1 1) (trieAddress t p) = some r) ∧
    (∃ (s : State) (m : BitVec 4) (p : List Byte) (t : Nat) (v : Word36 × Word36) (r : Route) (new : _) (b : _), p = mbxPayload s m.toNat ∧
      t = par s m 0 1 ∧ v = (BitVec.ofNat 36 (par s m 20 5), BitVec.ofNat 36 (par s m 25 5)) ∧ r = { prefixBits := trieAddress t p, plen := par s m 1 1, index := freeResult s }
      ∧ new = (trieOf s t).routes ++ [r] ∧ b = awaitTries t new (startCmd m.toNat s) ∧ Accepted routeAdd m s ∧ completionRoom s = true ∧
      (trieOf s t).enabled = true ∧ routeOf s t (par s m 1 1) (trieAddress t p) = none ∧ noRouteSpace b t r = false) ∧
    (∃ (s : State) (m : BitVec 4) (p : List Byte) (t : Nat) (v : Word36 × Word36) (r : _) (new : _) (b : _), p = mbxPayload s m.toNat ∧ t =
      par s m 0 1 ∧ v = (BitVec.ofNat 36 (par s m 20 5), BitVec.ofNat 36 (par s m 25 5)) ∧ new = (trieOf s t).routes.filter (fun q => q !=
      r) ∧ b = awaitTries t new (startCmd m.toNat s) ∧ Accepted routeDelete m s ∧ completionRoom s = true ∧ (trieOf s t).enabled = true ∧
      routeOf s t (par s m 1 1) (trieAddress t p) = some r ∧ (builtNodes t new b).isSome = true) ∧
    (∃ (s : State) (m : BitVec 4) (p : List Byte) (t : Nat) (v : Word36 × Word36) (r : _), p = mbxPayload s m.toNat ∧ t = par s m 0 1 ∧ v =
      (BitVec.ofNat 36 (par s m 20 5), BitVec.ofNat 36 (par s m 25 5)) ∧ r = lookupTrie t (trieAddress t p) (startCmd m.toNat s) ∧ Accepted
      routeLookup m s ∧ completionRoom s = true ∧ (trieOf s t).enabled = true) ∧
    (∃ (s : State) (m : BitVec 4) (p : List Byte) (t : Nat), p = mbxPayload s m.toNat ∧ t = par s m 0 1 ∧ Accepted trieStatus m s ∧
      completionRoom s = true) :=
  ⟨⟨cmd 0x620 [(43,1),(0,1)] (setTrie 43 { enabled := true } up), 0, _, _, rfl, rfl, accepted_of (by decide +kernel), by decide +kernel⟩,
  ⟨cmd 0x621 ([(32,1),(32,1),(0,2),(0x04030201,4),(0,12),(2^36-1,5),(7,5)]) (tr { enabled := true, routes := [{ prefixBits := 0x01020304, plen := 32, index := 3 }] }),
    0, _, _, _, ({ prefixBits := 0x01020304, plen := 32, index := 3 } : Route), rfl, rfl, rfl, accepted_of (by decide +kernel),
    by decide +kernel⟩,
  ⟨cmd 0x621 ([(32,1),(0,1),(0,2),(0,16),(2^36-1,5),(2^28-1,5)]) (tr { enabled := true, routes := [{ prefixBits := 0x01020304, plen := 32, index := 0 }] }
    (fun l => { l with results := [(0, (1, 2))] })), 0, _, _, _, _, _, _, rfl, rfl, rfl, rfl, rfl, rfl, accepted_of (by decide +kernel),
    by decide +kernel⟩,
  ⟨cmd 0x622 ([(32,1),(32,1),(0,2),(0x04030201,4),(0,12)]) (tr { enabled := true, routes := [{ prefixBits := 0x01020304, plen := 32, index := 3 }] }),
    0, _, _, _, ({ prefixBits := 0x01020304, plen := 32, index := 3 } : Route), _, _, rfl, rfl, rfl, rfl, rfl, accepted_of
    (by decide +kernel), by decide +kernel⟩,
  ⟨cmd 0x623 ([(32,1),(0,3),(0x04030201,4),(0,12)]) (tr { enabled := true, routes := [{ prefixBits := 0x01020304, plen := 32, index := 3 }] }),
    0, _, _, _, _, rfl, rfl, rfl, rfl, accepted_of (by decide +kernel), by decide +kernel⟩,
  ⟨cmd 0x624 [] (tr { enabled := true, routes := [{ prefixBits := 0x01020304, plen := 32, index := 3 }] }), 0, _, _, rfl, rfl, accepted_of
    (by decide +kernel), by decide +kernel⟩⟩
end LookupHappenings

namespace CoprocessorCommandsTakeEffect
def cu (u : Nat) (x : Unit') : State := setUnit u x up
def li (l : Tabino) : State := setLink l up
def op0 : UnitOp := { op := 1, ins := [{ kind := 0, core := 63, address := 0, length := 3 }], desc := { kind := 0, core := 63, address := 100, length := 132 } }
theorem test_states_meet_1 :
    (∃ (s : State) (m : BitVec 4), Accepted wmStreamLoad m s ∧ completionRoom s = true) ∧
    (∃ (s : State) (m : BitVec 4), Accepted copFence m s ∧ completionRoom s = true ∧ par s m 1 1 = 0) ∧
    (∃ (s : State) (m : BitVec 4), Accepted copFence m s ∧ completionRoom s = true ∧ par s m 1 1 = 1 ∧ (unitOf s (par s m 0 1)).busy =
      true) ∧
    (∃ (s : State) (m : BitVec 4), Accepted copFence m s ∧ completionRoom s = true ∧ par s m 1 1 = 1 ∧ (unitOf s (par s m 0 1)).busy =
      false) ∧
    (∃ (s : State) (m : BitVec 4) (u : Nat), u = (if par s m 0 1 < 14 then par s m 0 1 else par s m 0 1 - 2) ∧ Accepted copStatus m s ∧
      completionRoom s = true) ∧
    (∃ (s : State) (m : BitVec 4) (u : Nat) (timed : State → State), u = (if par s m 0 1 < 14 then par s m 0 1 else par s m 0 1 - 2) ∧
      timed = addTimed .unit u 5 ∧ Accepted copCounters m s ∧ completionRoom s = true) ∧
    (∃ (s : State) (m : BitVec 4), Accepted compConfig m s ∧ completionRoom s = true ∧ (linkOf s).enabled = false) ∧
    (∃ (s : State) (m : BitVec 4), Accepted compEnable m s ∧ completionRoom s = true ∧ par s m 0 1 = 1 ∧ ticking s = true ∧ (linkOf
      s).enabled = false) ∧
    (∃ (s : State) (m : BitVec 4), Accepted compEnable m s ∧ completionRoom s = true ∧ par s m 0 1 = 1 ∧ ticking s = true ∧ (linkOf
      s).enabled = true) :=
  ⟨⟨load 0x701 [(1023,2),(1,1),(0,1),(1,1),(31,1),(0,2),(0x01020304,4)], 0, accepted_of (by decide +kernel), by decide +kernel⟩,
  ⟨cmd 0x702 [(13,1),(0,1)] (cu 13 { fenced := true }), 0, accepted_of (by decide +kernel), by decide +kernel⟩,
  ⟨cmd 0x702 [(13,1),(1,1)] (cu 13 { busy := true }), 0, accepted_of (by decide +kernel), by decide +kernel⟩,
  ⟨cmd 0x702 [(13,1),(1,1)] (cu 13 {}), 0, accepted_of (by decide +kernel), by decide +kernel⟩,
  ⟨cmd 0x703 [(23,1)] (setLock 4085 { owner := 9 } (cu 21 { busy := true, owner := 9, errorCode := 7, error := true })), 0, _, rfl,
    accepted_of (by decide +kernel), by decide +kernel⟩,
  ⟨cmd 0x704 [(23,1),(1,1)], 0, _, _, rfl, rfl, accepted_of (by decide +kernel), by decide +kernel⟩,
  ⟨cmd 0x710 [(0x1B,1),(15,1),(15,1),(0,1),(65535,2)], 0, accepted_of (by decide +kernel), by decide +kernel⟩,
  ⟨cmd 0x711 [(1,1)], 0, accepted_of (by decide +kernel), by decide +kernel⟩,
  ⟨cmd 0x711 [(1,1)] (li { enabled := true, state := .up }), 0, accepted_of (by decide +kernel), by decide +kernel⟩⟩
theorem test_states_meet_2 :
    (∃ (s : State) (m : BitVec 4), Accepted compEnable m s ∧ completionRoom s = true ∧ par s m 0 1 = 0) ∧
    (∃ (s : State) (m : BitVec 4), Accepted compStatus m s ∧ completionRoom s = true ∧ (linkOf s).advertised.length ≤ 100) ∧
    (∃ (s : State) (m : BitVec 4), Accepted compWindowSet m s ∧ completionRoom s = true) ∧
    (∃ (s : State) (m : BitVec 4), Accepted compEventRoute m s ∧ completionRoom s = true) ∧
    (∃ (s : State) (m : BitVec 4), Accepted compCounters m s ∧ completionRoom s = true) ∧
    (∃ (s : State) (u : Nat) (o : UnitOp) (code : Nat) (d : Nat), d = (if o.detached then 0x0B else code) ∧ (unitOf s u).op = some o ∧
      (unitOf s u).held = false ∧ o.notify = none ∧ o.pin = nullHandle) ∧
    (∃ (s : State), (linkOf s).enabled = true ∧ (linkOf s).state = .lock) ∧
    (∃ (s : State), (linkOf s).state = .deskew) ∧
    (∃ (s : State), (linkOf s).enabled = true ∧ (linkOf s).state ≠ .up) :=
  ⟨⟨cmd 0x711 [(0,1)] (setUnit 14 { busy := true, op := some { op := 4 } } (li { enabled := true, state := .up, blockLock := 15 })), 0,
    accepted_of (by decide +kernel), by decide +kernel⟩,
  ⟨cmd 0x712 [] (li { enabled := true, state := .up, blockLock := 15, partner := [1, 1], advertised := [8, 6, 1, 2, 3, 4] }), 0,
    accepted_of (by decide +kernel), by decide +kernel⟩,
  ⟨cmd 0x713 [(31,1),(7,1),(255,1),(0,1),(2^30-4096,8),(1,4)] backed, 0, accepted_of (by decide +kernel), by decide +kernel⟩,
  ⟨cmd 0x714 [(15,1),(1,1),(7,1),(0,1),(65535,2),(16383,2)], 0, accepted_of (by decide +kernel), by decide +kernel⟩,
  ⟨cmd 0x715 [(1,1)], 0, accepted_of (by decide +kernel), by decide +kernel⟩,
  ⟨cu 7 { busy := true, op := some op0 }, (7 : Nat), op0, (1 : Nat), _, rfl, by decide +kernel⟩,
  ⟨li { enabled := true, state := .lock }, by decide +kernel⟩,
  ⟨li { enabled := true, state := .deskew }, by decide +kernel⟩,
  ⟨li { enabled := true, state := .param }, by decide +kernel⟩⟩
end CoprocessorCommandsTakeEffect

namespace CoprocessorsOperate
/-- Thread 511 holds the lock of a unit; g1 names a descriptor of zeros at address 0 and g2 the null handle. -/
def unt (u : Nat) (x : Unit' := {}) (o : BitVec 12 := 511) : State := setUnit u x (setLock (4064 + u) { owner := o } (onThr [(1, 0), (2, 0xFFFFFF)]))
def op0 : UnitOp := { op := 1, ins := [{ kind := 0, core := 63, address := 0, length := 3 }], desc := { kind := 0, core := 63, address := 100, length := 132 } }
def cvu (x : Unit' := {}) : State := { setLink { enabled := true, state := .up, credits := [(1, 8), (2, 6)] } (unt 21 x) with sh := { up.sh with sheet := 99 } }

def lostUnit : State := let s := unt 7; { s with sh := { s.sh with furnish := 9 } }
def pinned : State := setUnit 7 {} (setLock 4071 { owner := 511 } (handled [(1, 0), (2, 786431)] { pkt with pins := 15 }))
theorem test_states_meet_1 :
    (∃ (s : State) (t : BitVec 9) (unit : BitVec 3) (ga : BitVec 5) (gb : BitVec 5) (notify : Bool) (imm : BitVec 11) (a : State) (b :
      State) (c : Instr) (cls : Nat) (op : Nat) (mk : State → Nat → Nat → Word36 → BitVec 11 → HandleWord → UnitOp), a = noteIssue t.toNat
      s ∧ b = drainStores t.toNat a ∧ cls = 0 ∧ (c = .chainOp t unit ga gb notify imm ∧ cls = 0 ∧ op = 0 ∧ mk = watermarkOp ∨ c = .hashOp t
      unit ga gb notify imm ∧ cls = 0 ∧ op = 1 ∧ mk = watermarkOp ∨ c = .signOp t unit ga gb notify imm ∧ cls = 1 ∧ op = 0 ∧ mk =
      signatureOp ∧ natBits imm.toNat 3 7 = 0 ∨ c = .publicKey t unit ga gb notify imm ∧ cls = 1 ∧ op = 1 ∧ mk = signatureOp ∧ natBits
      imm.toNat 3 7 = 0 ∨ c = .encodeOp t unit ga gb notify imm ∧ cls = 2 ∧ op = 0 ∧ mk = stripeOp ∧ natBits imm.toNat 0 10 = 0) ∧ CanIssue
      s t [ga, gb] [] ∧ issueFault s t.toNat cls unit.toNat false = none ∧ stampLost s t.toNat = true) ∧
    (∃ (s : State) (t : BitVec 9) (unit : BitVec 3) (ga : BitVec 5) (gb : BitVec 5) (notify : Bool) (imm : BitVec 11) (a : State) (b :
      State) (c : Instr) (cls : Nat) (op : Nat) (mk : State → Nat → Nat → Word36 → BitVec 11 → HandleWord → UnitOp), a = noteIssue t.toNat
      s ∧ b = drainStores t.toNat a ∧ (c = .chainOp t unit ga gb notify imm ∧ cls = 0 ∧ op = 0 ∧ mk = watermarkOp ∨ c = .hashOp t unit ga
      gb notify imm ∧ cls = 0 ∧ op = 1 ∧ mk = watermarkOp ∨ c = .signOp t unit ga gb notify imm ∧ cls = 1 ∧ op = 0 ∧ mk = signatureOp ∧
      natBits imm.toNat 3 7 = 0 ∨ c = .publicKey t unit ga gb notify imm ∧ cls = 1 ∧ op = 1 ∧ mk = signatureOp ∧ natBits imm.toNat 3 7 = 0
      ∨ c = .encodeOp t unit ga gb notify imm ∧ cls = 2 ∧ op = 0 ∧ mk = stripeOp ∧ natBits imm.toNat 0 10 = 0) ∧ CanIssue s t [ga, gb] [] ∧
      (cls = 0 → stampLost s t.toNat = false) ∧ issueFault s t.toNat cls unit.toNat false = none ∧ pinsFull s (regG s t.toNat gb) = true) ∧
    (∃ (s : State) (t : BitVec 9) (unit : BitVec 3) (ga : BitVec 5) (gb : BitVec 5) (notify : Bool) (imm : BitVec 11) (a : State) (b :
      State) (c : Instr) (cls : Nat) (op : Nat) (mk : State → Nat → Nat → Word36 → BitVec 11 → HandleWord → UnitOp), a = noteIssue t.toNat
      s ∧ b = drainStores t.toNat a ∧ (c = .chainOp t unit ga gb notify imm ∧ cls = 0 ∧ op = 0 ∧ mk = watermarkOp ∨ c = .hashOp t unit ga
      gb notify imm ∧ cls = 0 ∧ op = 1 ∧ mk = watermarkOp ∨ c = .signOp t unit ga gb notify imm ∧ cls = 1 ∧ op = 0 ∧ mk = signatureOp ∧
      natBits imm.toNat 3 7 = 0 ∨ c = .publicKey t unit ga gb notify imm ∧ cls = 1 ∧ op = 1 ∧ mk = signatureOp ∧ natBits imm.toNat 3 7 = 0
      ∨ c = .encodeOp t unit ga gb notify imm ∧ cls = 2 ∧ op = 0 ∧ mk = stripeOp ∧ natBits imm.toNat 0 10 = 0) ∧ CanIssue s t [ga, gb] [] ∧
      (cls = 0 → stampLost s t.toNat = false) ∧ issueFault s t.toNat cls unit.toNat false = none ∧ pinsFull s (regG s t.toNat gb) = false) ∧
    (∃ (s : State) (t : BitVec 9) (unit : BitVec 3) (ga : BitVec 5) (gb : BitVec 5) (notify : Bool) (imm : BitVec 11) (a : State) (b :
      State) (c : Instr) (cls : Nat) (op : Nat) (mk : State → Nat → Nat → Word36 → BitVec 11 → HandleWord → UnitOp) (e : Nat), a =
      noteIssue t.toNat s ∧ b = drainStores t.toNat a ∧ (c = .chainOp t unit ga gb notify imm ∧ cls = 0 ∧ op = 0 ∧ mk = watermarkOp ∨ c =
      .hashOp t unit ga gb notify imm ∧ cls = 0 ∧ op = 1 ∧ mk = watermarkOp ∨ c = .signOp t unit ga gb notify imm ∧ cls = 1 ∧ op = 0 ∧ mk =
      signatureOp ∧ natBits imm.toNat 3 7 = 0 ∨ c = .publicKey t unit ga gb notify imm ∧ cls = 1 ∧ op = 1 ∧ mk = signatureOp ∧ natBits
      imm.toNat 3 7 = 0 ∨ c = .encodeOp t unit ga gb notify imm ∧ cls = 2 ∧ op = 0 ∧ mk = stripeOp ∧ natBits imm.toNat 0 10 = 0) ∧ CanIssue
      s t [ga, gb] [] ∧ (cls = 0 → stampLost s t.toNat = false) ∧ issueFault s t.toNat cls unit.toNat false = some e) ∧
    (∃ (s : State) (t : BitVec 9) (a : State) (b : State) (u : Nat) (o : UnitOp) (w : Word36), a = noteIssue t.toNat s ∧ b = drainStores
      t.toNat a ∧ u < 14 ∧ pinBad s w = false ∧ o.code = 0 ∧ w.setWidth 24 = nullHandle) ∧
    (∃ (s : State) (t : BitVec 9) (unit : BitVec 3) (gd : BitVec 5) (a : State) (b : State) (cls : BitVec 2) (u : _), a = noteIssue t.toNat
      s ∧ b = drainStores t.toNat a ∧ u = unitBase cls.toNat + unit.toNat ∧ CanIssue s t [] [gd] ∧ unit.toNat < unitCount cls.toNat) :=
  ⟨⟨lostUnit, 511, 7, 1, 2, false, 0, _, _, .hashOp 511 7 1 2 false 0, _, 1, watermarkOp, rfl, rfl, rfl, .inr (.inl ⟨rfl, rfl, rfl, rfl⟩),
    canIssue_of (by decide +kernel), by decide +kernel⟩,
  ⟨pinned, 511, 7, 1, 2, false, 0, _, _, .hashOp 511 7 1 2 false 0, 0, 1, watermarkOp, rfl, rfl, .inr (.inl ⟨rfl, rfl, rfl, rfl⟩),
    canIssue_of (by decide +kernel), by decide +kernel⟩,
  ⟨unt 7, 511, 7, 1, 2, false, 0, _, _, .hashOp 511 7 1 2 false 0, 0, 1, watermarkOp, rfl, rfl, .inr (.inl ⟨rfl, rfl, rfl, rfl⟩),
    canIssue_of (by decide +kernel), by decide +kernel⟩,
  ⟨unt 7 {} 4, 511, 7, 1, 2, false, 0, _, _, .hashOp 511 7 1 2 false 0, 0, 1, watermarkOp, (13 : Nat), rfl, rfl, .inr (.inl ⟨rfl, rfl, rfl,
    rfl⟩), canIssue_of (by decide +kernel), by decide +kernel⟩,
  ⟨unt 13, 511, _, _, 13, op0, 0xFFFFFF, rfl, rfl, by decide +kernel⟩,
  ⟨unt 21 { busy := true }, 511, 7, 31, _, _, 3, _, rfl, rfl, rfl, canIssue_of (by decide +kernel), by decide +kernel⟩⟩
theorem test_states_meet_2 :
    (∃ (s : State) (t : BitVec 9) (unit : BitVec 3) (gd : BitVec 5) (a : State) (b : State) (cls : BitVec 2) (u : _), a = noteIssue t.toNat
      s ∧ b = drainStores t.toNat a ∧ u = unitBase cls.toNat + unit.toNat ∧ CanIssue s t [] [gd] ∧ unit.toNat < unitCount cls.toNat ∧
      (unitOf s u).busy = false) ∧
    (∃ (s : State) (t : BitVec 9) (unit : BitVec 3) (gd : BitVec 5) (a : State) (b : State) (cls : BitVec 2) (u : _), a = noteIssue t.toNat
      s ∧ b = drainStores t.toNat a ∧ u = unitBase cls.toNat + unit.toNat ∧ CanIssue s t [] [gd] ∧ unit.toNat < unitCount cls.toNat ∧
      (unitOf s u).busy = true) ∧
    (∃ (s : State) (t : BitVec 9) (a : State) (b : State) (u : BitVec 5) (o : UnitOp) (d : State) (e : State), a = noteIssue t.toNat s ∧ b
      = drainStores t.toNat a ∧ d = noteUnitReads o s ∧ e = count .unit u.toNat 1 ((o.ins.map (·.length)).foldl (· + ·) 0) d ∧ u.toNat < 14
      ∧ (unitOf s u.toNat).op = some o ∧ (unitOf s u.toNat).held = false ∧ (∀ p ∈ unitSpans s o, dramAsleep s p.1 p.2 = false) ∧ o.ins.any
      (regionPoisoned d) = false) ∧
    (∃ (s : State) (t : BitVec 9) (ga : BitVec 5) (gb : BitVec 5) (a : State) (b : State) (cv : BitVec 3), a = noteIssue t.toNat s ∧ b =
      drainStores t.toNat a ∧ CanIssue s t [ga, gb] [] ∧ issueFault s t.toNat 3 cv.toNat (decide ((linkOf s).state ≠ .up)) = none) ∧
    (∃ (s : State) (t : BitVec 9) (a : State) (b : State) (cv : BitVec 3), a = noteIssue t.toNat s ∧ b = drainStores t.toNat a ∧ (unitOf s
      (14 + cv.toNat)).busy = true ∧ (unitOf s (14 + cv.toNat)).held = false ∧ (linkOf s).opTimeout ≤ (s.sh.sheet - (unitOf s (14 +
      cv.toNat)).issued).toNat) :=
  ⟨⟨unt 21, 511, 7, 31, _, _, 3, _, rfl, rfl, rfl, canIssue_of (by decide +kernel), by decide +kernel⟩,
  ⟨unt 21 { busy := true }, 511, 7, 31, _, _, 3, _, rfl, rfl, rfl, canIssue_of (by decide +kernel), by decide +kernel⟩,
  ⟨unt 7 { busy := true, op := some op0 }, 511, _, _, 7, op0, _, _, rfl, rfl, rfl, rfl, by decide +kernel⟩,
  ⟨cvu, 511, 1, 2, _, _, 7, rfl, rfl, canIssue_of (by decide +kernel), by decide +kernel⟩,
  ⟨cvu { busy := true, op := some { op := 4 }, issued := 83 }, 511, _, _, 7, rfl, rfl, by decide +kernel⟩⟩
end CoprocessorsOperate

namespace CompanionLinkCarries
def flit (type seq : Nat) (p : List Byte) (wrong : Nat := 0) : BitVec 544 :=
  let b := leBytes 1 type ++ [0] ++ leBytes 2 seq ++ [0, 0, 0, 0] ++ (p ++ zeros 56).take 56
  BitVec.ofNat 544 (leAt (b ++ leBytes 4 (crc32c b + wrong)) 0 68)
def lst (st : LinkState) (f : Tabino → Tabino := id) : State := { setLink (f { enabled := true, state := st, credits := [(1, 8), (2, 6)] }) backed with cop := { (setLink (f { enabled := true, state := st, credits := [(1, 8), (2, 6)] }) backed).cop with
  units := [(21, { busy := true, tag := 4, op := some { op := 5 } })], windows := [(31, { enable := true, read := true, write := true, units := 255, base := 4096, pages := 1 })], routes := [(15, { enable := true, cls := 7, domain := 5, ctx := 3 })] } }
theorem test_states_meet_1 :
    (∃ (s : State) (f : BitVec 544) (b : List Byte) (a : State) (l : Tabino) (flit : List Byte) (bs : List Byte) (k : Nat) (p : Nat), b =
      flitIn f ∧ a = count .portC 0 1 1 s ∧ bs = l.partBlock ++ flit ∧ k < 64 * (bs.length / 64) ∧ mapDistinct l.laneMap.toNat = true ∧ p =
      natBits l.laneMap.toNat (2 * (k % 4)) 2) ∧
    (∃ (s : State) (f : BitVec 544) (b : List Byte) (a : State) (c : _), b = flitIn f ∧ a = count .portC 0 1 1 s ∧ (linkOf s).state ≠ .down
      ∧ crc32c (b.take 64) ≠ leAt b 64 4 ∧ (c = Instr.rdReq f ∨ c = Instr.trainFlit f ∨ c = Instr.idleFlit f)) ∧
    (∃ (s : State) (f : BitVec 544) (b : List Byte) (a : State), b = flitIn f ∧ a = count .portC 0 1 1 s ∧ crc32c (b.take 64) = leAt b 64 4
      ∧ (linkOf s).state = .param ∧ leAt b 0 1 = 0) ∧
    (∃ (s : State) (f : BitVec 544) (b : List Byte) (a : State), b = flitIn f ∧ a = count .portC 0 1 1 s ∧ crc32c (b.take 64) = leAt b 64 4
      ∧ (linkOf s).state = .param ∧ leAt b 0 1 = 8) ∧
    (∃ (s : State) (f : BitVec 544) (b : List Byte) (a : State) (h : _), b = flitIn f ∧ a = count .portC 0 1 1 s ∧ crc32c (b.take 64) =
      leAt b 64 4 ∧ (linkOf s).state = .up ∧ h = takeHeader b (updLink (fun l => { l with trains := 0 }) (if leAt b 0 1 = 0 then a else
      noteTraffic a)) ∧ leAt b 0 1 = 0) ∧
    (∃ (s : State) (f : BitVec 544) (b : List Byte) (a : State) (h : _), b = flitIn f ∧ a = count .portC 0 1 1 s ∧ crc32c (b.take 64) =
      leAt b 64 4 ∧ (linkOf s).state = .up ∧ h = takeHeader b (updLink (fun l => { l with trains := 0 }) (if leAt b 0 1 = 0 then a else
      noteTraffic a)) ∧ leAt b 0 1 = 9 ∧ 4 ≤ (linkOf h).naks ∧ (linkOf h).state = .up) ∧
    (∃ (s : State) (f : BitVec 544) (b : List Byte) (a : State) (h : _), b = flitIn f ∧ a = count .portC 0 1 1 s ∧ crc32c (b.take 64) =
      leAt b 64 4 ∧ (linkOf s).state = .up ∧ h = takeHeader b (updLink (fun l => { l with trains := 0 }) (if leAt b 0 1 = 0 then a else
      noteTraffic a)) ∧ leAt b 0 1 = 9 ∧ (linkOf h).naks < 4 ∧ (linkOf h).state = .up) :=
  ⟨⟨lst .up, flit 0 0 [], flitIn (flit 0 0 []), count .portC 0 1 1 (lst .up), { laneMap := 0xE4, txPol := 2 }, zeros 67 ++ [5], zeros 67 ++
    [5], 63, 3, by decide +kernel⟩,
  ⟨lst .up, flit 3 0 [] 1, flitIn (flit 3 0 [] 1), count .portC 0 1 1 (lst .up), Instr.rdReq (flit 3 0 [] 1), by decide +kernel⟩,
  ⟨lst .param, flit 0 0 [], flitIn (flit 0 0 []), count .portC 0 1 1 (lst .param), by decide +kernel⟩,
  ⟨lst .param (fun l => { l with trains := 7 }), flit 8 0 (layout [(1,1),(1,1),(0,2),(8,2),(6,2),(1,2)]), flitIn (flit 8 0 (layout
    [(1,1),(1,1),(0,2),(8,2),(6,2),(1,2)])), count .portC 0 1 1 (lst .param (fun l => { l with trains := 7 })), by decide +kernel⟩,
  ⟨lst .up, flit 0 0 [], flitIn (flit 0 0 []), count .portC 0 1 1 (lst .up), takeHeader (flitIn (flit 0 0 [])) (updLink (fun l => { l with trains := 0 })
    (count .portC 0 1 1 (lst .up))), by decide +kernel⟩,
  ⟨lst .up (fun l => { l with naks := 4 }), flit 9 0 [1, 0], flitIn (flit 9 0 [1, 0]), count .portC 0 1 1 (lst .up (fun l => { l with naks := 4 })),
    takeHeader (flitIn (flit 9 0 [1, 0])) (updLink (fun l => { l with trains := 0 }) (noteTraffic (count .portC 0 1 1 (lst .up (fun l => { l with naks := 4 }))))),
    by decide +kernel⟩,
  ⟨lst .up (fun l => { l with naks := 3, replay := [(1, { type := 1, cls := 1, payload := [7] })] }), flit 9 0 [1, 0], flitIn (flit 9 0 [1,
    0]), count .portC 0 1 1 (lst .up (fun l => { l with naks := 3, replay := [(1, { type := 1, cls := 1, payload := [7] })] })), takeHeader
    (flitIn (flit 9 0 [1, 0])) (updLink (fun l => { l with trains := 0 }) (noteTraffic (count .portC 0 1 1 (lst .up (fun l => { l with naks := 3, replay := [(1, { type := 1, cls := 1, payload := [7] })] }))))),
    by decide +kernel⟩⟩
theorem test_states_meet_2 :
    (∃ (s : State) (f : BitVec 544) (b : List Byte) (a : State) (h : _), b = flitIn f ∧ a = count .portC 0 1 1 s ∧ crc32c (b.take 64) =
      leAt b 64 4 ∧ (linkOf s).state = .up ∧ h = takeHeader b (updLink (fun l => { l with trains := 0 }) (if leAt b 0 1 = 0 then a else
      noteTraffic a)) ∧ leAt b 0 1 = 3 ∧ leAt b 2 2 % 4096 ≠ (linkOf h).rxSeq.toNat) ∧
    (∃ (s : State) (f : BitVec 544) (b : List Byte) (a : State) (h : _) (c : State) (p : List Byte) (o : _), b = flitIn f ∧ a = count
      .portC 0 1 1 s ∧ crc32c (b.take 64) = leAt b 64 4 ∧ (linkOf s).state = .up ∧ h = takeHeader b (updLink (fun l => { l with trains := 0 })
      (if leAt b 0 1 = 0 then a else noteTraffic a)) ∧ leAt b 2 2 % 4096 = (linkOf h).rxSeq.toNat ∧ p = bytesAt b 8 56 ∧ c = updLink (fun l
      => { l with rxSeq := l.rxSeq + 1, rxAny := true, nakSent := false }) h ∧ leAt b 0 1 = 2 ∧ leAt p 0 1 < 8 ∧ (unitOf c (14 + leAt p 0
      1)).op = some o ∧ (unitOf c (14 + leAt p 0 1)).busy = true ∧ (unitOf c (14 + leAt p 0 1)).held = false ∧ ((unitOf c (14 + leAt p 0
      1)).tag - 1).toNat = leAt p 1 1) ∧
    (∃ (s : State) (f : BitVec 544) (b : List Byte) (a : State) (h : _) (c : State) (p : List Byte) (x : Nat), b = flitIn f ∧ a = count
      .portC 0 1 1 s ∧ crc32c (b.take 64) = leAt b 64 4 ∧ (linkOf s).state = .up ∧ h = takeHeader b (updLink (fun l => { l with trains := 0 })
      (if leAt b 0 1 = 0 then a else noteTraffic a)) ∧ leAt b 2 2 % 4096 = (linkOf h).rxSeq.toNat ∧ p = bytesAt b 8 56 ∧ c = updLink (fun l
      => { l with rxSeq := l.rxSeq + 1, rxAny := true, nakSent := false }) h ∧ leAt b 0 1 = 3 ∧ compAccess c (leAt p 0 5) (leAt p 5 1 + 1)
      (leAt p 7 1) false = some x) ∧
    (∃ (s : State) (f : BitVec 544) (b : List Byte) (a : State) (h : _) (c : State) (p : List Byte), b = flitIn f ∧ a = count .portC 0 1 1
      s ∧ crc32c (b.take 64) = leAt b 64 4 ∧ (linkOf s).state = .up ∧ h = takeHeader b (updLink (fun l => { l with trains := 0 }) (if leAt
      b 0 1 = 0 then a else noteTraffic a)) ∧ leAt b 2 2 % 4096 = (linkOf h).rxSeq.toNat ∧ p = bytesAt b 8 56 ∧ c = updLink (fun l => { l with rxSeq := l.rxSeq + 1, rxAny := true, nakSent := false })
      h ∧ leAt b 0 1 = 3 ∧ compAccess c (leAt p 0 5) (leAt p 5 1 + 1) (leAt p 7 1) false = none) ∧
    (∃ (s : State) (f : BitVec 544) (b : List Byte) (a : State) (h : _) (c : State) (p : List Byte) (x : Nat), b = flitIn f ∧ a = count
      .portC 0 1 1 s ∧ crc32c (b.take 64) = leAt b 64 4 ∧ (linkOf s).state = .up ∧ h = takeHeader b (updLink (fun l => { l with trains := 0 })
      (if leAt b 0 1 = 0 then a else noteTraffic a)) ∧ leAt b 2 2 % 4096 = (linkOf h).rxSeq.toNat ∧ p = bytesAt b 8 56 ∧ c = updLink (fun l
      => { l with rxSeq := l.rxSeq + 1, rxAny := true, nakSent := false }) h ∧ leAt b 0 1 = 5 ∧ 0 < leAt p 5 1 ∧ leAt p 5 1 ≤ 48 ∧
      compAccess c (leAt p 0 5) (leAt p 5 1) (leAt p 7 1) true = some x) ∧
    (∃ (s : State) (f : BitVec 544) (b : List Byte) (a : State) (h : _) (c : State) (p : List Byte) (r : _), b = flitIn f ∧ a = count
      .portC 0 1 1 s ∧ crc32c (b.take 64) = leAt b 64 4 ∧ (linkOf s).state = .up ∧ h = takeHeader b (updLink (fun l => { l with trains := 0 })
      (if leAt b 0 1 = 0 then a else noteTraffic a)) ∧ leAt b 2 2 % 4096 = (linkOf h).rxSeq.toNat ∧ p = bytesAt b 8 56 ∧ c = updLink (fun l
      => { l with rxSeq := l.rxSeq + 1, rxAny := true, nakSent := false }) h ∧ leAt b 0 1 = 6 ∧ r = tabGet {} c.cop.routes (leAt p 0 1 %
      16) ∧ r.enable = true) ∧
    (∃ (s : State) (f : BitVec 544) (b : List Byte) (a : State) (h : _) (c : State) (p : List Byte), b = flitIn f ∧ a = count .portC 0 1 1
      s ∧ crc32c (b.take 64) = leAt b 64 4 ∧ (linkOf s).state = .up ∧ h = takeHeader b (updLink (fun l => { l with trains := 0 }) (if leAt
      b 0 1 = 0 then a else noteTraffic a)) ∧ leAt b 2 2 % 4096 = (linkOf h).rxSeq.toNat ∧ p = bytesAt b 8 56 ∧ c = updLink (fun l => { l with rxSeq := l.rxSeq + 1, rxAny := true, nakSent := false })
      h ∧ leAt b 0 1 = 7) :=
  ⟨⟨lst .up, flit 3 1 [], flitIn (flit 3 1 []), count .portC 0 1 1 (lst .up), takeHeader (flitIn (flit 3 1 [])) (updLink (fun l => { l with trains := 0 })
    (noteTraffic (count .portC 0 1 1 (lst .up)))), by decide +kernel⟩,
  ⟨lst .up, flit 2 0 [7, 3, 0x7F], flitIn (flit 2 0 [7, 3, 0x7F]), count .portC 0 1 1 (lst .up), takeHeader (flitIn (flit 2 0 [7, 3,
    0x7F])) (updLink (fun l => { l with trains := 0 }) (noteTraffic (count .portC 0 1 1 (lst .up)))), updLink (fun l => { l with rxSeq := l.rxSeq + 1, rxAny := true, nakSent := false })
    (takeHeader (flitIn (flit 2 0 [7, 3, 0x7F])) (updLink (fun l => { l with trains := 0 }) (noteTraffic (count .portC 0 1 1 (lst .up))))),
    bytesAt (flitIn (flit 2 0 [7, 3, 0x7F])) 8 56, ({ op := 5 } : UnitOp), by decide +kernel⟩,
  ⟨lst .up, flit 3 0 (layout [(4095 - 49 + 31 * 2 ^ 35, 5), (49, 1), (9, 1), (7, 1)]), flitIn (flit 3 0 (layout [(4095 - 49 + 31 * 2 ^ 35,
    5), (49, 1), (9, 1), (7, 1)])), count .portC 0 1 1 (lst .up), takeHeader (flitIn (flit 3 0 (layout [(4095 - 49 + 31 * 2 ^ 35, 5), (49,
    1), (9, 1), (7, 1)]))) (updLink (fun l => { l with trains := 0 }) (noteTraffic (count .portC 0 1 1 (lst .up)))), updLink (fun l => { l with rxSeq := l.rxSeq + 1, rxAny := true, nakSent := false })
    (takeHeader (flitIn (flit 3 0 (layout [(4095 - 49 + 31 * 2 ^ 35, 5), (49, 1), (9, 1), (7, 1)]))) (updLink (fun l => { l with trains := 0 })
    (noteTraffic (count .portC 0 1 1 (lst .up))))), bytesAt (flitIn (flit 3 0 (layout [(4095 - 49 + 31 * 2 ^ 35, 5), (49, 1), (9, 1), (7,
    1)]))) 8 56, (4096 + 4046 : Nat), by decide +kernel⟩,
  ⟨lst .up, flit 3 0 (layout [(4095 - 49 + 30 * 2 ^ 35, 5), (49, 1), (9, 1), (7, 1)]), flitIn (flit 3 0 (layout [(4095 - 49 + 30 * 2 ^ 35,
    5), (49, 1), (9, 1), (7, 1)])), count .portC 0 1 1 (lst .up), takeHeader (flitIn (flit 3 0 (layout [(4095 - 49 + 30 * 2 ^ 35, 5), (49,
    1), (9, 1), (7, 1)]))) (updLink (fun l => { l with trains := 0 }) (noteTraffic (count .portC 0 1 1 (lst .up)))), updLink (fun l => { l with rxSeq := l.rxSeq + 1, rxAny := true, nakSent := false })
    (takeHeader (flitIn (flit 3 0 (layout [(4095 - 49 + 30 * 2 ^ 35, 5), (49, 1), (9, 1), (7, 1)]))) (updLink (fun l => { l with trains := 0 })
    (noteTraffic (count .portC 0 1 1 (lst .up))))), bytesAt (flitIn (flit 3 0 (layout [(4095 - 49 + 30 * 2 ^ 35, 5), (49, 1), (9, 1), (7,
    1)]))) 8 56, by decide +kernel⟩,
  ⟨lst .up, flit 5 0 (layout [(4096 - 48 + 31 * 2 ^ 35, 5), (48, 1), (9, 1), (7, 1), (1, 48)]), flitIn (flit 5 0 (layout [(4096 - 48 + 31 *
    2 ^ 35, 5), (48, 1), (9, 1), (7, 1), (1, 48)])), count .portC 0 1 1 (lst .up), takeHeader (flitIn (flit 5 0 (layout [(4096 - 48 + 31 *
    2 ^ 35, 5), (48, 1), (9, 1), (7, 1), (1, 48)]))) (updLink (fun l => { l with trains := 0 }) (noteTraffic (count .portC 0 1 1 (lst
    .up)))), updLink (fun l => { l with rxSeq := l.rxSeq + 1, rxAny := true, nakSent := false }) (takeHeader (flitIn (flit 5 0 (layout
    [(4096 - 48 + 31 * 2 ^ 35, 5), (48, 1), (9, 1), (7, 1), (1, 48)]))) (updLink (fun l => { l with trains := 0 }) (noteTraffic (count
    .portC 0 1 1 (lst .up))))), bytesAt (flitIn (flit 5 0 (layout [(4096 - 48 + 31 * 2 ^ 35, 5), (48, 1), (9, 1), (7, 1), (1, 48)]))) 8 56,
    (8192 - 48 : Nat), by decide +kernel⟩,
  ⟨lst .up, flit 6 0 (layout [(15, 1), (0xFFFFFF, 3), (16383, 2)]), flitIn (flit 6 0 (layout [(15, 1), (0xFFFFFF, 3), (16383, 2)])), count
    .portC 0 1 1 (lst .up), takeHeader (flitIn (flit 6 0 (layout [(15, 1), (0xFFFFFF, 3), (16383, 2)]))) (updLink (fun l => { l with trains := 0 })
    (noteTraffic (count .portC 0 1 1 (lst .up)))), updLink (fun l => { l with rxSeq := l.rxSeq + 1, rxAny := true, nakSent := false })
    (takeHeader (flitIn (flit 6 0 (layout [(15, 1), (0xFFFFFF, 3), (16383, 2)]))) (updLink (fun l => { l with trains := 0 }) (noteTraffic
    (count .portC 0 1 1 (lst .up))))), bytesAt (flitIn (flit 6 0 (layout [(15, 1), (0xFFFFFF, 3), (16383, 2)]))) 8 56, ({ enable := true, cls := 7, domain := 5, ctx := 3 }
    : CompRoute), by decide +kernel⟩,
  ⟨lst .up, flit 7 0 (layout [(15, 1), (0xFFFFFF, 3), (16383, 2)]), flitIn (flit 7 0 (layout [(15, 1), (0xFFFFFF, 3), (16383, 2)])), count
    .portC 0 1 1 (lst .up), takeHeader (flitIn (flit 7 0 (layout [(15, 1), (0xFFFFFF, 3), (16383, 2)]))) (updLink (fun l => { l with trains := 0 })
    (noteTraffic (count .portC 0 1 1 (lst .up)))), updLink (fun l => { l with rxSeq := l.rxSeq + 1, rxAny := true, nakSent := false })
    (takeHeader (flitIn (flit 7 0 (layout [(15, 1), (0xFFFFFF, 3), (16383, 2)]))) (updLink (fun l => { l with trains := 0 }) (noteTraffic
    (count .portC 0 1 1 (lst .up))))), bytesAt (flitIn (flit 7 0 (layout [(15, 1), (0xFFFFFF, 3), (16383, 2)]))) 8 56, by decide +kernel⟩⟩
end CompanionLinkCarries

namespace StoreCommandsTakeEffect
/-- One member with a namespace that can hold the set. -/
def stored (f : Evidence → Evidence := id) : State := updEv (fun e => f { e with members := [(0, { flags := 5, blocks := 300 }), (1, { flags := 4, blocks := 300 })] }) up
def setP (mode : Nat) : List (Nat × Nat) := [(mode,1),(2,1),(1,1),(1,1),(5,16),(10,8),(20,8),(3,8),(4,8),(5,8),(1,8),(2,8)]
def sset : StoreSet := { n := 2, k := 1, m := 1, setId := leBytes 16 5, rows := 10, sealRows := 20, superSeq := 1, created := {} }
/-- The first copy of a superblock of SUPER_SEQ 1, cut after the bytes that make its CRC-32C 0, and an empty second copy. -/
def formatted : State := stored (fun e => { e with disk := [(0, [0x43, 0x44, 0x53, 0x55] ++ zeros 27 ++ [1, 148, 178, 128, 0]), (1, [])] })
theorem test_states_meet_1 :
    (∃ (s : State) (m : BitVec 4) (a : State) (data : BitVec 32) (completion : BitVec 2) (p : _), a = startCmd m.toNat s ∧ p = mbxPayload s
      m.toNat ∧ Accepted (storeCfgAccess data completion) m s ∧ completionRoom s = true ∧ s.ev.linkEnable = true) ∧
    (∃ (s : State) (m : BitVec 4) (a : State), a = startCmd m.toNat s ∧ Accepted storeLink m s ∧ completionRoom s = true ∧ evActive s =
      false) ∧
    (∃ (s : State) (m : BitVec 4) (a : State), a = startCmd m.toNat s ∧ Accepted (storeControllerAdd true) m s ∧ completionRoom s = true ∧
      evActive s = false ∧ otherQueues s (par s m 0 1) + par s m 3 1 ≤ 64) ∧
    (∃ (s : State) (m : BitVec 4) (a : State) (entry : BitVec 128) (r : _), a = startCmd m.toNat s ∧ Accepted (storeAdmin entry r) m s ∧
      completionRoom s = true ∧ s.host.busMaster = true ∧ seenH s r = .ok) ∧
    (∃ (s : State) (m : BitVec 4) (a : State), a = startCmd m.toNat s ∧ Accepted storeMemberSet m s ∧ completionRoom s = true ∧ evActive s
      = false) :=
  ⟨⟨cmd 0x801 [(1,1),(5,1),(6,1),(0,1),(4092,2),(0,2),(0x12345678,4)] (stored (fun e => { e with linkEnable := true })), 0, _, (7 : BitVec
    32), (1 : BitVec 2), _, rfl, rfl, accepted_of (by decide +kernel), by decide +kernel⟩,
  ⟨cmd 0x802 [(1,1),(5,1),(16,1),(0,1),(2^32,8),(2^30,8)], 0, _, rfl, accepted_of (by decide +kernel), by decide +kernel⟩,
  ⟨cmd 0x803 [(31,1),(1,1),(2,1),(8,1),(1024,2),(10000,2),(2^32,8),(7,2)], 0, _, rfl, accepted_of (by decide +kernel), by decide +kernel⟩,
  ⟨cmd 0x804 [(31,1),(0,3),(0x06,64),(4096,8)], 0, _, (7 : BitVec 128), DmaResult.ok, rfl, accepted_of (by decide +kernel),
    by decide +kernel⟩,
  ⟨cmd 0x805 [(31,1),(31,1),(7,1),(0,1),(0xFFFFFFFF,4),(2^40,8)], 0, _, rfl, accepted_of (by decide +kernel), by decide +kernel⟩⟩
theorem test_states_meet_2 :
    (∃ (s : State) (m : BitVec 4) (a : State) (x : StoreSet) (k : BitVec 5), a = startCmd m.toNat s ∧ x = { n := par s m 1 1, k := par s m 2 1, m := par s m 3 1, setId := bytesAt (mbxPayload s m.toNat) 4 16, rows := par s m 20 8, sealRows := par s m 28 8, superSeq := 1, created := s.line.ptp.time }
      ∧ Accepted (storeSet ⟨k, .ok⟩) m s ∧ completionRoom s = true ∧ evActive s = false ∧ par s m 0 1 = 0) ∧
    (∃ (s : State) (m : BitVec 4) (a : State) (q : Nat) (c : PtpTime) (k : BitVec 5), a = startCmd m.toNat s ∧ Accepted (storeSet ⟨k, .ok⟩)
      m s ∧ completionRoom s = true ∧ evActive s = false ∧ par s m 0 1 = 1 ∧ mountSuper s = some (q, c)) ∧
    (∃ (s : State) (m : BitVec 4) (a : State) (r : SetEnd), a = startCmd m.toNat s ∧ Accepted (storeSet r) m s ∧ completionRoom s = true ∧
      evActive s = false ∧ r.result ≠ .ok) ∧
    (∃ (s : State) (m : BitVec 4) (a : State) (e : _) (dma : _), a = startCmd m.toNat s ∧ Accepted (storeRead e dma) m s ∧ completionRoom s
      = true ∧ e ≠ .ok) ∧
    (∃ (s : State) (m : BitVec 4) (a : State) (r : _) (d : _) (bs : _) (u : _), a = startCmd m.toNat s ∧ d = dmaSeen (ecrcCheckS s) r ∧ bs
      = (List.range (par s m 12 2)).flatMap (fun i => tabGet (zeros 4096) s.ev.disk (par s m 0 1 * 2 ^ 64 + (par s m 4 8 + i))) ∧ u =
      hostWriteBad (BitVec.ofNat 64 (par s m 16 8)) bs (fun _ => dmaDark d) (noteTlp 490 d a) ∧ Accepted (storeRead .ok r) m s ∧
      completionRoom s = true ∧ s.host.busMaster = true ∧ r ≠ .error) :=
  ⟨⟨cmd 0x806 (setP 0) stored, 0, _, _, (1 : BitVec 5), rfl, rfl, accepted_of (by decide +kernel), by decide +kernel⟩,
  ⟨cmd 0x806 (setP 1) formatted, 0, _, (1 : Nat), ({} : PtpTime), (1 : BitVec 5), rfl, accepted_of (by decide +kernel), by decide +kernel⟩,
  ⟨cmd 0x806 (setP 0) stored, 0, _, (⟨3, .timeout⟩ : SetEnd), rfl, accepted_of (by decide +kernel), by decide +kernel⟩,
  ⟨cmd 0x807 [(31,1),(0,3),(5,8),(16,2),(0,2),(4096,8)], 0, _, StoreEnd.timeout, DmaResult.ok, rfl, accepted_of (by decide +kernel),
    by decide +kernel⟩,
  ⟨cmd 0x807 [(31,1),(0,3),(5,8),(16,2),(0,2),(4096,8)], 0, _, DmaResult.ok, _, _, _, rfl, rfl, rfl, rfl, accepted_of (by decide +kernel),
    by decide +kernel⟩⟩
end StoreCommandsTakeEffect

namespace EvidenceCommandsTakeEffect
def keyed (s : State := up) : State := { s with sec := { s.sec with keys := [(7, { kind := 1, key := zeros 32 })] } }
def stm : Machine.Stream := { streamId := 5, slot := 7, sealHash := zeros 32 }
def evd (f : Evidence → Evidence := id) : State := updEv (fun e => f { e with lanes := [(63, { configured := true, logShift := 27, sealShift := 12, logBase := 2^28, sealBase := 2^29 })], set := some { n := 1, k := 1, m := 1, setId := [], rows := 1, sealRows := 1, superSeq := 1, created := {} }, streams := [(16383, stm)] }) (keyed backed)
/-- One member with a namespace that can hold the set. -/
def stored (f : Evidence → Evidence := id) : State := updEv (fun e => f { e with members := [(0, { flags := 5, blocks := 300 }), (1, { flags := 4, blocks := 300 })] }) up
def sset : StoreSet := { n := 2, k := 1, m := 1, setId := leBytes 16 5, rows := 10, sealRows := 20, superSeq := 1, created := {} }
theorem test_states_meet_1 :
    (∃ (s : State) (m : BitVec 4) (a : State), a = startCmd m.toNat s ∧ Accepted evidenceConfig m s ∧ completionRoom s = true ∧ evActive s
      = false) ∧
    (∃ (s : State) (m : BitVec 4) (a : State), a = startCmd m.toNat s ∧ Accepted laneConfig m s ∧ completionRoom s = true ∧ evActive s =
      false) ∧
    (∃ (s : State) (m : BitVec 4) (a : State), a = startCmd m.toNat s ∧ Accepted evidenceRun m s ∧ completionRoom s = true ∧ par s m 0 1 =
      1 ∧ s.ev.state ≠ .powerFail ∧ s.ev.state ≠ .running ∧ s.pow.storeReinit = false ∧ s.ev.set.isSome = true ∧ (∀ l ∈ laneList s,
      (s.ev.budget + 1) * 2 ^ 20 ≤ 2 ^ l.2.logShift)) ∧
    (∃ (s : State) (m : BitVec 4) (a : State), a = startCmd m.toNat s ∧ Accepted evidenceRun m s ∧ completionRoom s = true ∧ par s m 0 1 =
      0 ∧ s.ev.state = .running ∧ s.pow.storeReinit = false ∧ openStreams s = []) ∧
    (∃ (s : State) (m : BitVec 4) (a : State), a = startCmd m.toNat s ∧ Accepted commitRoute m s ∧ completionRoom s = true) :=
  ⟨⟨cmd 0x810 [(4096,4),(65535,2),(65535,2),(60000,2),(255,1),(15,1),(3,1),(7,1),(0,2),(2^20,8),(2^25,8),(2^27,8),(9,4)] backed, 0, _, rfl,
    accepted_of (by decide +kernel), by decide +kernel⟩,
  ⟨cmd 0x811 [(63,1),(30,1),(12,1),(0,1),(0,8),(2^20,8)] backed, 0, _, rfl, accepted_of (by decide +kernel), by decide +kernel⟩,
  ⟨cmd 0x812 [(1,1)] evd, 0, _, rfl, accepted_of (by decide +kernel), by decide +kernel⟩,
  ⟨cmd 0x812 [(0,1)] (evd (fun e => { e with state := .running, streams := [] })), 0, _, rfl, accepted_of (by decide +kernel),
    by decide +kernel⟩,
  ⟨cmd 0x813 [(1,1),(1,1),(7,1),(0,1),(65535,2),(16383,2)], 0, _, rfl, accepted_of (by decide +kernel), by decide +kernel⟩⟩
theorem test_states_meet_2 :
    (∃ (s : State) (m : BitVec 4) (a : State), a = startCmd m.toNat s ∧ Accepted streamOpen m s ∧ completionRoom s = true ∧ ctxIdle s (par
      s m 0 2) = true ∧ streamOf s (par s m 0 2) = none ∧ (par s m 12 4 = 0 → s.sh.aligned = true)) ∧
    (∃ (s : State) (m : BitVec 4) (a : State) (x : _), a = startCmd m.toNat s ∧ Accepted streamClose m s ∧ completionRoom s = true ∧
      streamOf s (par s m 0 2) = some x ∧ ctxIdle s (par s m 0 2) = true ∧ par s m 2 1 = 0) ∧
    (∃ (s : State) (m : BitVec 4) (a : State) (x : _), a = startCmd m.toNat s ∧ Accepted streamClose m s ∧ completionRoom s = true ∧
      streamOf s (par s m 0 2) = some x ∧ ctxIdle s (par s m 0 2) = true ∧ par s m 2 1 = 1) ∧
    (∃ (s : State) (m : BitVec 4) (a : State) (x : _), a = startCmd m.toNat s ∧ Accepted streamKey m s ∧ completionRoom s = true ∧ streamOf
      s (par s m 0 2) = some x ∧ ctxIdle s (par s m 0 2) = true) ∧
    (∃ (s : State) (m : BitVec 4) (a : State), a = startCmd m.toNat s ∧ Accepted storeRelease m s ∧ completionRoom s = true) :=
  ⟨⟨cmd 0x820 ([(16383,2),(15,1),(7,1),(9,4),(8,4),(1048575,4),(1023,2),(3,2),(2,4),(5,8),(6,32),(7,32),(1,1)]) (evd (fun e => { e with streams := [] })),
    0, _, rfl, accepted_of (by decide +kernel), by decide +kernel⟩,
  ⟨cmd 0x821 [(16383,2),(0,1)] evd, 0, _, stm, rfl, accepted_of (by decide +kernel), by decide +kernel⟩,
  ⟨cmd 0x821 [(16383,2),(1,1)] evd, 0, _, stm, rfl, accepted_of (by decide +kernel), by decide +kernel⟩,
  ⟨cmd 0x822 [(16383,2),(7,1),(0,1),(9,4)] evd, 0, _, stm, rfl, accepted_of (by decide +kernel), by decide +kernel⟩,
  ⟨cmd 0x808 [(7,8),(3,8)] (updEv (fun e => { e with set := some sset, nextStripe := 7, sealBlock := 3, stop := 3, high := 3 }) stored), 0,
    _, rfl, accepted_of (by decide +kernel), by decide +kernel⟩⟩
end EvidenceCommandsTakeEffect

namespace StripesFormAndBecomeDurable
def ss : StoreSet := { n := 5, k := 4, m := 1, setId := [], rows := 10, sealRows := 20, superSeq := 1, created := {} }
def lane0 : Lane := { configured := true, logShift := 20, sealShift := 4, logBase := 2^20, sealBase := 2^22, writePos := 16384, stripeEnd := 0 }
def str (f : Evidence → Evidence := id) : State := updEv (fun e => f { e with state := .running, set := some ss, lanes := [(63, lane0)], members := (List.range 5).map (fun i => (i, { flags := 5, blocks := 300 })) }) backed
theorem test_states_meet :
    (∃ (s : State) (lane : BitVec 6) (x : StoreSet) (u : Nat) (valid : Nat) (b : State), b = noteLaneRead 5 (laneOf s lane.toNat) (laneOf s
      lane.toNat).stripeEnd valid (noteLaneRead 4 (laneOf s lane.toNat) (laneOf s lane.toNat).stripeEnd valid s) ∧ valid = min ((laneOf s
      lane.toNat).writePos - (laneOf s lane.toNat).stripeEnd) (x.k * 4096) ∧ s.ev.set = some x ∧ evActive s = true ∧ pfClosed s = false ∧
      s.ev.flushBad = false ∧ (laneOf s lane.toNat).configured = true ∧ 0 < valid ∧ (valid = x.k * 4096 ∨ laneAged s (laneOf s lane.toNat)
      = true) ∧ s.ev.nextStripe - s.ev.releasedStripe < x.n * x.rows / (x.k + x.m) ∧ failedCount s x ≤ x.m ∧ nextUnit s s.ev.stMask.toNat
      10 4 s.ev.stTurn = some u) ∧
    (∃ (s : State) (lane : BitVec 6) (x : StoreSet), s.ev.set = some x ∧ evActive s = true ∧ pfClosed s = false ∧ (laneOf s
      lane.toNat).configured = true ∧ (laneOf s lane.toNat).stripeEnd + x.k * 4096 ≤ (laneOf s lane.toNat).writePos ∧ 0 < x.k ∧ x.n *
      x.rows / (x.k + x.m) ≤ s.ev.nextStripe - s.ev.releasedStripe ∧ s.ev.stop.getLsbD 0 = false) ∧
    (∃ (s : State) (t : Sheet) (w : Nat) (ps : Tab Nat), (reachedMarks s).getLast? = some (t, w, ps) ∧ w + 5 ≤ t.toNat ∧ ((t - BitVec.ofNat
      48 (w + 5) - s.ev.lastReport).toNat < s.ev.commitStep ∨ 2 ^ 47 ≤ (t - BitVec.ofNat 48 (w + 5) - s.ev.lastReport).toNat)) ∧
    (∃ (s : State) (d : Sheet) (w : Nat) (ps : Tab Nat), (reachedMarks s).getLast? = some (d, w, ps) ∧ w + 5 ≤ d.toNat ∧ s.ev.commitStep ≤
      (d - BitVec.ofNat 48 (w + 5) - s.ev.lastReport).toNat ∧ (d - BitVec.ofNat 48 (w + 5) - s.ev.lastReport).toNat < 2 ^ 47 ∧ (tabGet {}
      s.ev.routes 0).enable = false) ∧
    (∃ (s : State), s.ev.xoff = false ∧ evActive s = true ∧ s.ev.budget * 2 ^ 20 ≤ s.ev.exposure) ∧
    (∃ (s : State), s.ev.xoff = true ∧ 8 * s.ev.exposure ≤ 7 * (s.ev.budget * 2 ^ 20)) :=
  ⟨⟨str, 63, ss, 1, _, _, rfl, rfl, by decide +kernel⟩,
  ⟨str (fun e => { e with nextStripe := 10 }), 63, ss, by decide +kernel⟩,
  ⟨str (fun e => { e with marks := [(100, 4, [(63, 0)])], durable := 5, lastReport := 5, commitStep := 512 }), 100, 4, [(63, 0)],
    by decide +kernel⟩,
  ⟨str (fun e => { e with marks := [(600, 4, [(63, 0)])], durable := 5, lastReport := 5, commitStep := 512 }), 600, 4, [(63, 0)],
    by decide +kernel⟩,
  ⟨str (fun e => { e with exposure := 64 * 2^20 }), by decide +kernel⟩,
  ⟨str (fun e => { e with xoff := true, exposure := 56 * 2^20 }), by decide +kernel⟩⟩
end StripesFormAndBecomeDurable

namespace SealsAndWritesEnd
def ss : StoreSet := { n := 5, k := 4, m := 1, setId := [], rows := 10, sealRows := 20, superSeq := 1, created := {} }
def lane0 : Lane := { configured := true, logShift := 20, sealShift := 4, logBase := 2^20, sealBase := 2^22, sealWrite := 1, sealLined := 1 }
def stm : Machine.Stream := { streamId := 5, slot := 7, ream := 8 }
def slotBytes (ream : Nat) : List Byte := beBytes 4 0x43445253 ++ beBytes 4 0 ++ beBytes 4 5 ++ beBytes 4 ream ++ zeros 176 ++ beBytes 2 16383 ++ zeros 62
def sl (ream : Nat) : State :=
  let s := updEv (fun e => { e with state := .running, set := some ss, lanes := [(63, lane0)], streams := [(16383, stm)], seals := [{ lane := 63 }], members := (List.range 5).map (fun i => (i, { flags := 5, blocks := 300 })) }) backed
  { s with sh := { s.sh with sheet := 1 }, dram := { s.dram with mem := memWrite [] (2^22) (slotBytes ream) }, sec := { s.sec with keys := [(7, { kind := 1, key := zeros 32 })] } }
def wr : StoreWrite := { member := 4, block := 9, data := zeros 4096, item := .shard 0 0, fua := true, pi := none }
def wrs (f : Evidence → Evidence := id) : State := updEv (fun e => f { e with state := .running, set := some ss, lanes := [(63, lane0)], writes := [{ wr with member := 3 }, wr], members := (List.range 5).map (fun i => (i, { flags := 5, blocks := 300 })) }) backed

def builtBad : State := updEv (fun e => { e with seals := [{ lane := 63, built := some (16383, slotBytes 8) }] }) (sl 8)
theorem test_states_meet :
    (∃ (s : State) (w : SealWait) (rest : List SealWait) (x : StoreSet) (u : Nat) (c : Nat) (st : Machine.Stream) (k : List Byte) (body :
      List Byte) (b : List Byte) (a : State), b = dramBytes s ((laneOf s w.lane).sealBase + 256 * ((laneOf s w.lane).sealTaken % 2 ^
      (laneOf s w.lane).sealShift)) 256 ∧ c = beNat (bytesAt b 192 2) ∧ a = takeSlot w.lane (noteAccess 5 false ((laneOf s w.lane).sealBase
      + 256 * ((laneOf s w.lane).sealTaken % 2 ^ (laneOf s w.lane).sealShift)) 256 (updEv (fun e => { e with seals := rest }) s)) ∧ body =
      sealBody a st b ∧ s.ev.seals = w :: rest ∧ w.built = none ∧ s.ev.set = some x ∧ s.ev.state = .running ∧ s.ev.pf = .idle ∧ s.pow.after
      = .none ∧ lanesReached s w.targets = true ∧ nextRecordBlock s - s.ev.releasedSeal < x.sealRows ∧ failedCount s x ≤ x.m ∧ nextUnit s
      s.ev.sgMask.toNat 8 2 s.ev.sgTurn = some u ∧ sealRipe s w = true ∧ streamOf s c = some st ∧ beNat (bytesAt b 8 4) = st.streamId.toNat
      ∧ beNat (bytesAt b 12 4) = (st.ream + 1).toNat ∧ signKey s st.slot = some k) ∧
    (∃ (s : State) (w : SealWait) (rest : List SealWait) (x : StoreSet) (u : Nat) (c : Nat) (st : Machine.Stream) (b : List Byte) (a :
      State), b = dramBytes s ((laneOf s w.lane).sealBase + 256 * ((laneOf s w.lane).sealTaken % 2 ^ (laneOf s w.lane).sealShift)) 256 ∧ c
      = beNat (bytesAt b 192 2) ∧ a = takeSlot w.lane (noteAccess 5 false ((laneOf s w.lane).sealBase + 256 * ((laneOf s w.lane).sealTaken
      % 2 ^ (laneOf s w.lane).sealShift)) 256 (updEv (fun e => { e with seals := rest }) s)) ∧ s.ev.seals = w :: rest ∧ w.built = none ∧
      s.ev.set = some x ∧ s.ev.state = .running ∧ s.ev.pf = .idle ∧ s.pow.after = .none ∧ lanesReached s w.targets = true ∧ nextRecordBlock
      s - s.ev.releasedSeal < x.sealRows ∧ failedCount s x ≤ x.m ∧ nextUnit s s.ev.sgMask.toNat 8 2 s.ev.sgTurn = some u ∧ sealRipe s w =
      true ∧ streamOf s c = some st ∧ ¬ (beNat (bytesAt b 8 4) = st.streamId.toNat ∧ beNat (bytesAt b 12 4) = (st.ream + 1).toNat) ∧
      s.ev.sealsOut = []) ∧
    (∃ (s : State) (w : SealWait) (rest : List SealWait) (x : StoreSet) (u : Nat) (c : Nat) (st : Machine.Stream) (b : List Byte),
      s.ev.seals = w :: rest ∧ w.built = some (c, b) ∧ s.ev.set = some x ∧ s.ev.state = .running ∧ s.ev.pf = .idle ∧ s.pow.after = .none ∧
      lanesReached s w.targets = true ∧ nextRecordBlock s - s.ev.releasedSeal < x.sealRows ∧ failedCount s x ≤ x.m ∧ nextUnit s
      s.ev.sgMask.toNat 8 2 s.ev.sgTurn = some u ∧ sealRipe s w = true ∧ tabFind s.ev.streams c = some st ∧ ¬ (beNat (bytesAt b 8 4) =
      st.streamId.toNat ∧ beNat (bytesAt b 12 4) = (st.ream + 1).toNat) ∧ s.ev.sealsOut = []) ∧
    (∃ (s : State) (i : Nat) (w : StoreWrite), s.ev.writes[i]? = some w ∧ s.ev.pf = .idle ∧ s.pow.after = .none) ∧
    (∃ (s : State) (i : Nat) (w : StoreWrite) (status : BitVec 16), s.ev.writes[i]? = some w ∧ s.ev.pf = .idle ∧ s.pow.after = .none ∧
      status ≠ 0 ∧ (memberOf s w.member).failed = false) ∧
    (∃ (s : State) (i : Nat) (w : StoreWrite), s.ev.writes[i]? = some w ∧ s.ev.pf = .idle ∧ s.pow.after = .none ∧ (memberOf s
      w.member).failed = false) :=
  ⟨⟨(sl 9), { lane := 63 }, [], ss, 1, _, stm, zeros 32, _, _, _, rfl, rfl, rfl, rfl, by decide +kernel⟩,
  ⟨(sl 8), { lane := 63 }, [], ss, 1, _, stm, _, _, rfl, rfl, rfl, by decide +kernel⟩,
  ⟨builtBad, { lane := 63, built := some (16383, slotBytes 8) }, [], ss, 1, 16383, stm, slotBytes 8, by decide +kernel⟩,
  ⟨wrs, 1, wr, rfl, by decide +kernel⟩,
  ⟨wrs, 1, wr, (1 : BitVec 16), rfl, by decide +kernel⟩,
  ⟨wrs, 1, wr, rfl, by decide +kernel⟩⟩
end SealsAndWritesEnd

namespace PowerFailFlushes
def ss : StoreSet := { n := 2, k := 1, m := 1, setId := [], rows := 10, sealRows := 20, superSeq := 1, created := {} }
def pff (f : Evidence → Evidence := id) : State := let s := updEv (fun e => f { e with state := .powerFail, pf := .flush, set := some ss, powerSlot := 7, sealRecords := [zeros 256], sealSeq := 1 }) backed; { s with sec := { s.sec with keys := [(7, { kind := 1, key := zeros 32 })] } }
def keyed (s : State := up) : State := { s with sec := { s.sec with keys := [(7, { kind := 1, key := zeros 32 })] } }
def stm : Machine.Stream := { streamId := 5, slot := 7, sealHash := zeros 32 }
def evd (f : Evidence → Evidence := id) : State := updEv (fun e => f { e with lanes := [(63, { configured := true, logShift := 27, sealShift := 12, logBase := 2^28, sealBase := 2^29 })], set := some { n := 1, k := 1, m := 1, setId := [], rows := 1, sealRows := 1, superSeq := 1, created := {} }, streams := [(16383, stm)] }) (keyed backed)
theorem test_states_meet :
    (∃ (s : State) (x : StoreSet) (member : BitVec 5), s.ev.set = some x ∧ s.pow.after = .none ∧ s.ev.pf = .flush ∧ allFlushed { s with ev := { s.ev with flushed := s.ev.flushed ++ [member.toNat] } }
      x = false) ∧
    (∃ (s : State) (x : StoreSet) (member : BitVec 5), s.ev.set = some x ∧ s.pow.after = .none ∧ s.ev.pf = .flush ∧ allFlushed { s with ev := { s.ev with flushed := s.ev.flushed ++ [member.toNat] } }
      x = true ∧ s.ev.flushBad = false ∧ s.ev.marker = []) ∧
    (∃ (s : State) (x : StoreSet) (e : StoreEnd), s.ev.set = some x ∧ s.pow.after = .none ∧ s.ev.pf = .flush ∧ e ≠ .ok) ∧
    (∃ (s : State) (x : StoreSet) (member : BitVec 5) (k : List Byte), s.ev.set = some x ∧ s.pow.after = .none ∧ s.ev.pf = .flush ∧
      allFlushed { s with ev := { s.ev with flushed := s.ev.flushed ++ [member.toNat] } } x = true ∧ s.ev.flushBad = false ∧ s.ev.marker ≠
      [] ∧ signKey s s.ev.powerSlot = some k) ∧
    (∃ (s : State) (x : StoreSet), s.ev.set = some x ∧ s.pow.after = .none ∧ (s.ev.pf = .flush ∨ s.ev.pf = .confirm)) ∧
    (∃ (s : State) (m : BitVec 4) (a : State) (x : _) (b : _), a = startCmd m.toNat s ∧ b = checkCtx (par s m 0 2) 172 8 a ∧ Accepted
      streamQuery m s ∧ completionRoom s = true ∧ streamOf s (par s m 0 2) = some x ∧ x.sealHash.length = 32) ∧
    (∃ (s : State) (m : BitVec 4) (a : State), a = startCmd m.toNat s ∧ Accepted evidenceStatus m s ∧ completionRoom s = true) ∧
    (∃ (s : State) (m : BitVec 4) (a : State), a = startCmd m.toNat s ∧ Accepted evidenceCounters m s ∧ completionRoom s = true) :=
  ⟨⟨pff, ss, 1, by decide +kernel⟩,
  ⟨pff (fun e => { e with flushed := [0] }), ss, 1, by decide +kernel⟩,
  ⟨pff (fun e => { e with flushed := [0] }), ss, .timeout, by decide +kernel⟩,
  ⟨pff (fun e => { e with flushed := [0], marker := zeros 256 }), ss, 1, zeros 32, by decide +kernel⟩,
  ⟨pff, ss, by decide +kernel⟩,
  ⟨cmd 0x823 [(16383,2)] evd, 0, _, stm, _, rfl, rfl, accepted_of (by decide +kernel), by decide +kernel⟩,
  ⟨cmd 0x830 [] evd, 0, _, rfl, accepted_of (by decide +kernel), by decide +kernel⟩,
  ⟨cmd 0x831 [(1,1)], 0, _, rfl, accepted_of (by decide +kernel), by decide +kernel⟩⟩
end PowerFailFlushes

namespace DramCommandsTakeEffect
def pop : Population := { channels := 0xFF, speed := 2, ranks := 2, width := 4, density := 32 }
def dr (f : Dram → Dram := id) : State := { up with dram := f { population := some pop } }
def tim : List (Nat × Nat) := [(1,2),(1,2),(1,2),(10,2),(10,2),(20,2),(1,2),(1,2),(1,2),(1,2),(1,2),(1,2),(4,2),(16,2),(1,2),(1,2),(4,2),(1,2),(1,2),(16,2)]
theorem test_states_meet_1 :
    (∃ (s : State) (m : BitVec 4) (a : State), a = startCmd m.toNat s ∧ Accepted dramPopulation m s ∧ completionRoom s = true ∧
      s.dram.started = false) ∧
    (∃ (s : State) (m : BitVec 4) (a : State), a = startCmd m.toNat s ∧ Accepted dramTiming m s ∧ completionRoom s = true ∧ s.dram.started
      = false) ∧
    (∃ (s : State) (m : BitVec 4) (a : State) (b : State), a = startCmd m.toNat s ∧ b = updDram (fun d => { d with ranges := tabSet {} d.ranges (par s m 0 1) { channels := BitVec.ofNat 8 (par s m 1 1), large := par s m 2 1 = 1, enable := par s m 3 1 = 1, size := par s m 4 4 } })
      s ∧ Accepted dramRangeSet m s ∧ completionRoom s = true ∧ s.dram.started = false) ∧
    (∃ (s : State) (m : BitVec 4) (a : State) (verify : BitVec 8) (steps : BitVec 32) (p : _), a = startCmd m.toNat s ∧ Accepted (dramTrain
      verify steps) m s ∧ completionRoom s = true ∧ par s m 1 1 = 0 ∧ s.dram.timing ≠ [] ∧ s.dram.population = some p ∧ (∀ c ∈ maskList 8
      (par s m 0 1), natBits steps.toNat (4 * c) 4 = 0)) ∧
    (∃ (s : State) (m : BitVec 4) (a : State) (verify : BitVec 8) (steps : BitVec 32) (c : Nat), a = startCmd m.toNat s ∧ Accepted
      (dramTrain verify steps) m s ∧ completionRoom s = true ∧ par s m 1 1 = 0 ∧ s.dram.timing ≠ [] ∧ c ∈ maskList 8 (par s m 0 1) ∧
      natBits steps.toNat (4 * c) 4 ≠ 0) ∧
    (∃ (s : State) (m : BitVec 4) (a : State), a = startCmd m.toNat s ∧ Accepted dramStart m s ∧ completionRoom s = true ∧ s.dram.started =
      false ∧ populated s ≠ [] ∧ s.dram.dumpBase.isSome = true ∧ (∀ c ∈ populated s, chanTrained s c = true ∨ (chanState s c).fenced =
      true) ∧ s.dram.layout = s.dram.ranges ∧ dumpStands s = false) :=
  ⟨⟨cmd 0x901 [(0xFF,1),(2,1),(1,1),(4,1),(32,1),(0,3)], 0, _, rfl, accepted_of (by decide +kernel), by decide +kernel⟩,
  ⟨cmd 0x902 tim, 0, _, rfl, accepted_of (by decide +kernel), by decide +kernel⟩,
  ⟨cmd 0x903 [(7,1),(255,1),(1,1),(1,1),(512,4)] dr, 0, _, _, rfl, rfl, accepted_of (by decide +kernel), by decide +kernel⟩,
  ⟨cmd 0x904 [(0x81,1),(0,1)] (dr (fun d => { d with timing := [1] })), 0, _, (0 : BitVec 8), (0x0FFFFFF0 : BitVec 32), pop, rfl,
    accepted_of (by decide +kernel), by decide +kernel⟩,
  ⟨cmd 0x904 [(0x81,1),(0,1)] (dr (fun d => { d with timing := [1] })), 0, _, (0 : BitVec 8), (0x60000000 : BitVec 32), (7 : Nat), rfl,
    accepted_of (by decide +kernel), by decide +kernel⟩,
  ⟨cmd 0x905 [] (dr (fun d => { d with timing := [1], dumpBase := some (2^28), chans := (List.range 8).map (fun c => (c, if c = 7 then { fenced := true } else { saved := some (pop, [1]) })) })),
    0, _, rfl, accepted_of (by decide +kernel), by decide +kernel⟩⟩
theorem test_states_meet_2 :
    (∃ (s : State) (m : BitVec 4) (a : State), a = startCmd m.toNat s ∧ Accepted dramSched m s ∧ completionRoom s = true) ∧
    (∃ (s : State) (m : BitVec 4) (a : State), a = startCmd m.toNat s ∧ Accepted dramRefresh m s ∧ completionRoom s = true) ∧
    (∃ (s : State) (m : BitVec 4) (a : State), a = startCmd m.toNat s ∧ Accepted dramEcc m s ∧ completionRoom s = true) ∧
    (∃ (s : State) (m : BitVec 4) (a : State), a = startCmd m.toNat s ∧ Accepted dramReserve m s ∧ completionRoom s = true ∧ s.dram.started
      = false) ∧
    (∃ (s : State) (u : Nat) (v : Nat) (c : Nat) (h : Nat), ticking s = true ∧ s.sh.tickOwed = false ∧ s.ev.pf = .idle ∧ s.pow.after =
      .none ∧ s.dram.eccNext = some [u, v, c, h]) :=
  ⟨⟨cmd 0x906 [(512,2),(511,2),(65535,2),(512,2),(256,2)], 0, _, rfl, accepted_of (by decide +kernel), by decide +kernel⟩,
  ⟨cmd 0x907 [(1,1),(2,1)], 0, _, rfl, accepted_of (by decide +kernel), by decide +kernel⟩,
  ⟨cmd 0x908 [(1024,2),(65535,2),(0xFFFFFFFF,4),(168,2)], 0, _, rfl, accepted_of (by decide +kernel), by decide +kernel⟩,
  ⟨cmd 0x909 [(2^28,8),(0,8),(2^28,8),(2^29,8),(2^29,8)] { backed with dram := { backed.dram with started := false } }, 0, _, rfl,
    accepted_of (by decide +kernel), by decide +kernel⟩,
  ⟨dr (fun d => { d with eccNext := some [1, 2, 3, 4] }), 1, 2, 3, 4, by decide +kernel⟩⟩
end DramCommandsTakeEffect

namespace DramHappenings
def pop : Population := { channels := 0xFF, speed := 2, ranks := 2, width := 4, density := 32 }
def run (f : Dram → Dram := id) (p : Power := up.pow) : State := { backed with pow := p, dram := f { backed.dram with population := some pop } }
def ch (c : Nat) (x : DramChannel) (d : Dram) : Dram := { d with chans := [(c, x)] }

def rd : DramReq := { port := 7, write := false, line := 0, rank := 0, group := 0, bank := 0, row := 0, since := 0 }
def wr : DramReq := { rd with write := true, line := 1 }
def rules (panic : Bool := false) (high : Nat := 2) : SchedRules := { panic := panic, wrHigh := high, wrLow := 1, age := 10, rrdL := 1, rrdS := 1, faw := 4, burst := 8 }
def scrubbed (c x : Nat) (s : State) : State := scrubTurn pop c (64 * x) (setChanState c { chanState s c with scrubPos := (x + 1) % dimmLines pop } (chanCount c 10 1 s))
theorem test_states_meet_1 :
    (∃ (s : State) (a : BitVec 40) (c : Nat) (x : Nat), dramPlace s a.toNat = some (c, x) ∧ s.dram.started = true ∧ (chanState s
      c).selfRefresh = false ∧ (chanState s c).waiting = [] ∧ (chanState s c).fenced = true) ∧
    (∃ (s : State) (a : BitVec 40) (c : Nat) (x : Nat), dramPlace s a.toNat = some (c, x) ∧ s.dram.started = true ∧ (chanState s
      c).selfRefresh = false ∧ (chanState s c).waiting = [] ∧ (chanState s c).fenced = false ∧ linePoisoned s (a.toNat / 64) = false) ∧
    (∃ (s : State) (c : BitVec 3) (index : BitVec 3) (postpone : Bool) (k : Nat) (a : State), a = setChanState c.toNat { chanState s c.toNat with owed := tabUpd 0 (chanState s c.toNat).owed k (· + 1) }
      s ∧ postpone = true ∧ chanServes s c.toNat = true ∧ refreshKey s index.toNat = some k ∧ refreshBusy s c.toNat = true ∧ tabGet 0
      (chanState s c.toNat).owed k < 4) ∧
    (∃ (s : State) (c : BitVec 3) (index : BitVec 3) (postpone : Bool) (k : Nat) (a : State), a = setChanState c.toNat { chanState s c.toNat with owed := tabUpd 0 (chanState s c.toNat).owed k (· + 1) }
      s ∧ chanServes s c.toNat = true ∧ refreshKey s index.toNat = some k ∧ (postpone = false ∨ refreshBusy s c.toNat = false ∨ 4 ≤ tabGet
      0 (chanState s c.toNat).owed k)) ∧
    (∃ (s : State) (u : State) (c : BitVec 3) (p : Population) (a : Nat), u = scrubTurn p c.toNat (64 * (chanState s c.toNat).scrubPos)
      (setChanState c.toNat { chanState s c.toNat with scrubPos := ((chanState s c.toNat).scrubPos + 1) % dimmLines p } (chanCount c.toNat
      10 1 s)) ∧ chanRuns s c.toNat = true ∧ s.dram.population = some p ∧ s.dram.scrubHours ≠ 0 ∧ (chanState s c.toNat).fenced = false ∧
      dramDevice u c.toNat (64 * (chanState s c.toNat).scrubPos) = some a) :=
  ⟨⟨run (ch 0 { fenced := true }), 0x3FFFFFFF, 0, 0x3FFFFFFF, by decide +kernel⟩,
  ⟨run (fun d => { d with ueLimit := 2, ceLimit := 1 }), 0x3FFFFFFF, 0, 0x3FFFFFFF, by decide +kernel⟩,
  ⟨run (ch 0 { subA := { queue := [rd] }, owed := [(0, 3)] }), 0, 0, _, 0, _, rfl, rfl, by decide +kernel⟩,
  ⟨run (ch 0 { subA := { queue := [rd] }, owed := [(1, 4)] }), 0, 1, true, 1, _, rfl, by decide +kernel⟩,
  ⟨run (ch 0 { scrubPos := 5 }), _, 0, pop, (320 : Nat), rfl, by decide +kernel⟩⟩
theorem test_states_meet_2 :
    (∃ (s : State) (u : State) (c : BitVec 3) (p : Population), u = scrubTurn p c.toNat (64 * (chanState s c.toNat).scrubPos) (setChanState
      c.toNat { chanState s c.toNat with scrubPos := ((chanState s c.toNat).scrubPos + 1) % dimmLines p } (chanCount c.toNat 10 1 s)) ∧
      chanRuns s c.toNat = true ∧ s.dram.population = some p ∧ s.dram.scrubHours ≠ 0 ∧ (chanState s c.toNat).fenced = false ∧ dramDevice u
      c.toNat (64 * (chanState s c.toNat).scrubPos) = none) ∧
    (∃ (s : State) (c : BitVec 3), chanRuns s c.toNat = true ∧ mayRest s = true) ∧
    (∃ (s : State) (c : BitVec 3), (chanState s c.toNat).selfRefresh = true ∧ mayWake s = true ∧ (chanState s c.toNat).waking = false) ∧
    (∃ (s : State) (c : BitVec 3) (verify : _), verify = true ∧ (chanState s c.toNat).selfRefresh = true ∧ mayWake s = true ∧ (chanState s
      c.toNat).waking = true ∧ (chanState s c.toNat).temp - 320 ≤ s.pow.temp ∧ s.pow.temp ≤ (chanState s c.toNat).temp + 320) ∧
    (∃ (s : State) (c : BitVec 3) (verify : _) (p : _), (chanState s c.toNat).selfRefresh = true ∧ mayWake s = true ∧ (chanState s
      c.toNat).waking = true ∧ s.dram.population = some p ∧ (s.pow.temp < (chanState s c.toNat).temp - 320 ∨ (chanState s c.toNat).temp +
      320 < s.pow.temp ∨ verify = false)) :=
  ⟨⟨run (ch 7 { scrubPos := dimmLines pop - 1 }), _, 7, pop, rfl, by decide +kernel⟩,
  ⟨run id { up.pow with current := .s1a, temp := -17 }, 7, by decide +kernel⟩,
  ⟨run (ch 7 { selfRefresh := true }), 7, by decide +kernel⟩,
  ⟨run (ch 7 { selfRefresh := true, waking := true, temp := 20 }) { up.pow with temp := 340 }, 7, _, rfl, by decide +kernel⟩,
  ⟨run (ch 7 { selfRefresh := true, waking := true, temp := 20 }) { up.pow with temp := 656 }, 7, true, pop, by decide +kernel⟩⟩
end DramHappenings

namespace FencedChannelsKeepNothing
def fen : State := { backed with dram := { backed.dram with chans := [(0, { fenced := true })] } }
def pop : Population := { channels := 0xFF, speed := 2, ranks := 2, width := 4, density := 32 }
def dr (f : Dram → Dram := id) : State := { up with dram := f { population := some pop } }
def run (f : Dram → Dram := id) (p : Power := up.pow) : State := { backed with pow := p, dram := f { backed.dram with population := some pop } }
def rd : DramReq := { port := 7, write := false, line := 0, rank := 0, group := 0, bank := 0, row := 0, since := 0 }
def wr : DramReq := { rd with write := true, line := 1 }
def rules (panic : Bool := false) (high : Nat := 2) : SchedRules := { panic := panic, wrHigh := high, wrLow := 1, age := 10, rrdL := 1, rrdS := 1, faw := 4, burst := 8 }
def ch (c : Nat) (x : DramChannel) (d : Dram) : Dram := { d with chans := [(c, x)] }
theorem test_states_meet_1 :
    (∃ (s : State) (l : _) (c : _) (x : _), s.dram.started = true ∧ dramPlace s (64 * l) = some (c, x) ∧ (chanState s c).fenced = true) ∧
    (∃ (s : State) (l : _) (c : _) (x : _) (k : _), s.dram.started = true ∧ dramPlace s (64 * l) = some (c, x) ∧ (chanState s c).fenced =
      true ∧ k / 64 = l) ∧
    (∃ (s : State) (a : Nat) (bs : List Byte) (k : _), s.dram.started = true ∧ (k < a ∨ a + bs.length ≤ k)) ∧
    (∃ (s : State) (a : Nat) (bs : List Byte) (i : _), (∀ c x, dramPlace s (64 * ((a + i) / 64)) = some (c, x) → (chanState s c).fenced =
      false) ∧ s.dram.started = true ∧ i < bs.length) ∧
    (∃ (s : State) (m : BitVec 4), Accepted dramFence m s ∧ completionRoom s = true ∧ (chanState s (par s m 0 1)).fenced = false ∧ par s m
      0 1 ∈ populated s) ∧
    (∃ (s : State) (c : Nat), chanServes s c = true ∧ (∃ o ∈ (chanState s c).owed, 4 ≤ o.2)) ∧
    (∃ (s : State) (c : Nat) (o : Nat × Nat), chanServes s c = true ∧ (∃ o ∈ (chanState s c).owed, 4 ≤ o.2) ∧ o ∈ (chanState s c).owed ∧ 4
      ≤ o.2) ∧
    (∃ (s : State), fillLevel s < s.dram.panicLevel * 4096 ∧ s.dram.panic = false ∧ refillWanted s = true) ∧
    (∃ (s : State), (s.dram.panicLevel = 0 ∨ refillWanted s = false ∨ (s.dram.panicLevel + s.dram.panicHyst) * 4096 ≤ fillLevel s) ∧
      s.dram.panic = true) :=
  ⟨⟨fen, 16777215, 0, 1073741760, by decide +kernel⟩,
  ⟨fen, 0, 0, 0, 2, by decide +kernel⟩,
  ⟨fen, 1, [1,2,3], 4, by decide +kernel⟩,
  ⟨backed, 63, [1,2,3], 2, fun _ _ _ => rfl, by decide +kernel⟩,
  ⟨cmd 0x910 [(7,1)] dr, 0, accepted_of (by decide +kernel), by decide +kernel⟩,
  ⟨run (ch 0 { owed := [(0, 3), (1, 4)] }), 0, by decide +kernel⟩,
  ⟨run (ch 0 { owed := [(0, 3), (1, 4)] }), 0, ((1, 4) : Nat × Nat), by decide +kernel⟩,
  ⟨{ run with cab := { prefetch := 128 * 4096 - 65, queues := [(0, [{ handle := 5, start := 0, len := 64, cls := 0, port := 0, lossless := false, sheet := 0, residue := 1 }])], handles := [(5, { spilled := true })] } },
    Nat.lt_of_lt_of_le (Nat.add_lt_add_left (Nat.mod_lt _ (by decide +kernel)) _) (by decide +kernel), by decide +kernel⟩,
  ⟨{ run (fun d => { d with panic := true }) with cab := { prefetch := 160 * 4096, queues := [(0, [{ handle := 5, start := 0, len := 64, cls := 0, port := 0, lossless := false, sheet := 0, residue := 1 }])], handles := [(5, { spilled := true })] } },
    .inr (.inr (Nat.le_trans (by decide +kernel) (Nat.le_add_right _ _))), by decide +kernel⟩⟩
theorem test_states_meet_2 :
    (∃ (k : SchedRules) (q : SubChannel), k.wrLow < k.wrHigh ∧ k.wrHigh ≤ (q.queue.filter (·.write)).length) ∧
    (∃ (k : SchedRules) (q : SubChannel), k.wrLow < k.wrHigh ∧ (∃ r ∈ q.queue, r.write = false) ∧ (q.queue.filter (·.write)).length ≤
      k.wrLow) ∧
    (∃ (k : SchedRules) (q : SubChannel), k.wrLow < k.wrHigh ∧ (∃ r ∈ q.queue, r.write = false) ∧ k.wrLow < (q.queue.filter
      (·.write)).length ∧ (q.queue.filter (·.write)).length < k.wrHigh) ∧
    (∃ (k : SchedRules) (q : SubChannel), k.wrLow < k.wrHigh ∧ q.queue ≠ [] ∧ (∀ r ∈ q.queue, r.write = true)) ∧
    (∃ (k : SchedRules) (q : SubChannel) (r : _), k.panic = true ∧ q.begun = some r) ∧
    (∃ (k : SchedRules) (q : SubChannel), k.panic = true ∧ q.begun = none ∧ (∃ r ∈ q.queue, r.port = 0 ∧ q.able k r = true)) ∧
    (∃ (k : SchedRules) (q : SubChannel) (r : DramReq) (older : List DramReq) (newer : List DramReq), k.panic = false ∧ q.queue = older ++
      r :: newer ∧ (∀ x ∈ older, x.since + k.age < q.clock → q.able k x = false) ∧ r.since + k.age < q.clock ∧ q.able k r = true) ∧
    (∃ (k : SchedRules) (q : SubChannel) (r : DramReq) (older : List DramReq) (newer : List DramReq), k.panic = false ∧ (∀ x ∈ q.queue,
      x.since + k.age < q.clock → q.able k x = false) ∧ q.queue = older ++ r :: newer ∧ (∀ x ∈ older, x.write = q.writeMode → q.hits x =
      false) ∧ r.write = q.writeMode ∧ q.hits r = true) :=
  ⟨⟨rules, { queue := [wr, wr] }, by decide +kernel⟩,
  ⟨rules, { queue := [rd, wr], writeMode := true }, by decide +kernel⟩,
  ⟨rules false 3, { queue := [rd, wr, wr], writeMode := true }, by decide +kernel⟩,
  ⟨rules, { queue := [wr] }, by decide +kernel⟩,
  ⟨rules true, { queue := [{ wr with opened := true }], writeMode := true, rows := [(0, 0)] }, { wr with opened := true },
    by decide +kernel⟩,
  ⟨rules true, { queue := [wr, { rd with port := 0 }] }, by decide +kernel⟩,
  ⟨rules, { queue := [wr, rd], clock := 11, rows := [(0, 0)] }, wr, [], [rd], by decide +kernel⟩,
  ⟨rules, { queue := [wr, rd], clock := 10, rows := [(0, 0)] }, rd, [wr], [], by decide +kernel⟩⟩
end FencedChannelsKeepNothing

namespace FaultsAreContained
def bad (r : List Nat) : State := { up with cores := { imemBad := [7 * 65536 + 65535, 3], imemRewritten := r, imemShadow := [(7 * 65536 + 65535, 9)] } }
def pop : Population := { channels := 0xFF, speed := 2, ranks := 2, width := 4, density := 32 }
def dr (f : Dram → Dram := id) : State := { up with dram := f { population := some pop } }
theorem test_states_meet :
    (∃ (s : State) (n : BitVec 6), (∃ t ∈ coreThreads [n.toNat], (thr s t).st = .ready ∨ (thr s t).st = .run) ∧ s.sec.deviceFrozen = false
      ∧ s.disp.frozen.getLsbD (n.toNat / 8) = false) ∧
    (∃ (s : State) (k : BitVec 3), s.disp.fenced.getLsbD k.toNat = false) ∧
    (∃ (s : State) (k : BitVec 3) (a : BitVec 16), s.cores.imemBad.contains (k.toNat * 65536 + a.toNat) = true ∧
      s.cores.imemRewritten.contains (k.toNat * 65536 + a.toNat) = false) ∧
    (∃ (s : State) (k : BitVec 3) (a : BitVec 16), s.cores.imemBad.contains (k.toNat * 65536 + a.toNat) = true ∧
      s.cores.imemRewritten.contains (k.toNat * 65536 + a.toNat) = true) ∧
    (∃ (s : State), s.pow.tripped = false ∧ inReset s = false ∧ s.pow.held &&& 3 = 0 ∧ s.pow.clkMode ≠ 0 ∧ s.pow.level < 4) ∧
    (∃ (s : State) (m : BitVec 4) (a : State) (p : _), a = startCmd m.toNat s ∧ Accepted dramStatus m s ∧ completionRoom s = true ∧
      s.dram.population = some p) ∧
    (∃ (s : State) (m : BitVec 4) (a : State), a = startCmd m.toNat s ∧ Accepted dramCounters m s ∧ completionRoom s = true) ∧
    (∃ (s : State) (m : BitVec 4) (a : State), a = startCmd m.toNat s ∧ Accepted dramErrorLog m s ∧ completionRoom s = true ∧
      s.dram.errorLog.length ≤ par s m 0 1) :=
  ⟨⟨onThr [], 63, by decide +kernel⟩,
  ⟨onThr [], 7, by decide +kernel⟩,
  ⟨bad [], 7, 65535, by decide +kernel⟩,
  ⟨bad [7 * 65536 + 65535], 7, 65535, by decide +kernel⟩,
  ⟨{ up with pow := { up.pow with clkMode := 2 } }, by decide +kernel⟩,
  ⟨cmd 0x911 [] dr, 0, _, pop, rfl, accepted_of (by decide +kernel), by decide +kernel⟩,
  ⟨cmd 0x912 [(7,1),(1,1)], 0, _, rfl, accepted_of (by decide +kernel), by decide +kernel⟩,
  ⟨cmd 0x913 [(14,1)] (dr (fun d => { d with errorLog := [{ address := 64, channel := 7, kind := 2, sheet := 5 }] })), 0, _, rfl,
    accepted_of (by decide +kernel), by decide +kernel⟩⟩
end FaultsAreContained

namespace DebugHappenings
def lev (l : Nat) (f : Secure → Secure := id) (s : State := up) : State := { s with sec := f { s.sec with level := l } }
def bpt : Breakpoint := { enable := true, scope := 2, threads := 0x80, address := 65535, cores := 0x80 }
def dump : State := { backed with pow := { backed.pow with dump := true }, dram := { backed.dram with dumpBase := some (2^28), mem := memWrite [] (2^28 + 48) (leBytes 8 8192) } }
theorem test_states_meet_1 :
    (∃ (s : State) (t : BitVec 9), (thr s t.toNat).st = .run ∨ (thr s t.toNat).st = .ready ∧ hitList s t.toNat ≠ [] ∧ s.disp.frozen.getLsbD
      (t.toNat / 64) = false ∧ s.sec.deviceFrozen = false) ∧
    (∃ (s : State) (m : BitVec 4) (t : BitVec 9), s.sec.stepMbx = some (m.toNat, t.toNat) ∧ completionRoom s = true ∧ m.toNat ∉
      s.host.accepted) ∧
    (∃ (s : State), hostOpen s = true ∧ diagGranted s = false) ∧
    (∃ (s : State) (o : BitVec 24) (v : BitVec 32), hostOpen s = true ∧ diagGranted s = true ∧ diagDword s (2 ^ 24 * s.sec.diagPage.toNat +
      o.toNat / 4 * 4) = some v) ∧
    (∃ (s : State) (o : BitVec 24), hostOpen s = true ∧ s.sec.level = 3 ∧ s.sec.lifecycle = 0 ∧ s.sec.diagStructure = 4 ∧ 2 ^ 24 *
      s.sec.diagPage.toNat + o.toNat / 4 * 4 < 4194304) ∧
    (∃ (s : State), hostOpen s = true ∧ (s.sec.level ≠ 3 ∨ s.sec.lifecycle ≠ 0)) ∧
    (∃ (s : State) (m : BitVec 4), Accepted traceConfig m s ∧ completionRoom s = true ∧ par s m 0 1 = 0) :=
  ⟨⟨lev 2 (fun c => { c with breakpoints := [(31, bpt)] }) runner, 511, by decide +kernel⟩,
  ⟨lev 2 (fun c => { c with stepMbx := some (15, 511) }) runner, 15, 511, by decide +kernel⟩,
  ⟨lev 1 (fun c => { c with diagStructure := 1 }), by decide +kernel⟩,
  ⟨lev 3 (fun c => { c with diagStructure := 8 }), 0xFFFFFF, (0 : BitVec 32), by decide +kernel⟩,
  ⟨lev 3 (fun c => { c with diagStructure := 4 }), 0x3FFFFF, by decide +kernel⟩,
  ⟨lev 2, by decide +kernel⟩,
  ⟨cmd 0xB30 [(0,1),(255,1),(0,2),(255,8),(0,8),(65536,4)] (lev 1 (fun c => { c with trace := { enabled := true, writing := true, buffer := [[1]], size := 65536 } })
    backed), 0, accepted_of (by decide +kernel), by decide +kernel⟩⟩
theorem test_states_meet_2 :
    (∃ (s : State) (m : BitVec 4), Accepted traceConfig m s ∧ completionRoom s = true ∧ par s m 0 1 = 1 ∧ s.sec.trace.enabled = false) ∧
    (∃ (s : State) (m : BitVec 4) (x : _), x = (drainTrace s).sec.trace ∧ Accepted traceStatus m s ∧ completionRoom s = true) ∧
    (∃ (s : State) (m : BitVec 4) (d : Nat) (b : _) (u : _), b = noteAccess 7 false (d + par s m 0 4) (par s m 4 4) (startCmd m.toNat s) ∧
      u = hostWriteBad (BitVec.ofNat 64 (par s m 8 8)) (dramBytes b (d + par s m 0 4) (par s m 4 4)) (fun i => linePoisoned b ((d + par s m
      0 4 + i) / 64)) b ∧ Accepted dumpRead m s ∧ completionRoom s = true ∧ s.pow.dump = true ∧ s.dram.dumpBase = some d ∧ s.host.busMaster
      = true) ∧
    (∃ (s : State) (m : BitVec 4) (d : Nat) (b : _) (u : _), b = noteAccess 7 false (d + par s m 0 4) (par s m 4 4) (startCmd m.toNat s) ∧
      u = hostWriteBad (BitVec.ofNat 64 (par s m 8 8)) (dramBytes b (d + par s m 0 4) (par s m 4 4)) (fun i => linePoisoned b ((d + par s m
      0 4 + i) / 64)) b ∧ Accepted dumpRead m s ∧ completionRoom s = true ∧ s.pow.dump = true ∧ s.dram.dumpBase = some d ∧ s.host.busMaster
      = true ∧ s.host.cq.enabled = false) ∧
    (∃ (s : State) (m : BitVec 4) (d : Nat), Accepted dumpClear m s ∧ completionRoom s = true ∧ s.pow.dump = true ∧ s.dram.dumpBase = some
      d) ∧
    (∃ (s : State) (m : BitVec 4) (d : Nat), Accepted dumpQuery m s ∧ completionRoom s = true ∧ s.pow.dump = true ∧ s.dram.dumpBase = some
      d) :=
  ⟨⟨cmd 0xB30 [(1,1),(255,1),(1,1),(0,1),(255,8),(4096,8),(65536,4)] (lev 1 id backed), 0, accepted_of (by decide +kernel),
    by decide +kernel⟩,
  ⟨cmd 0xB31 [] (lev 1 (fun c => { c with trace := { enabled := true, writing := true, stopAtEnd := true, buffer := [[1],[2]], size := 65536, offset := 65520 } })
    backed), 0, _, rfl, accepted_of (by decide +kernel), by decide +kernel⟩,
  ⟨cmd 0xC10 [(4096,4),(4096,4),(4096,8)] dump, 0, (2^28 : Nat), _, _, rfl, rfl, accepted_of (by decide +kernel), by decide +kernel⟩,
  ⟨cmd 0xC10 [(4096,4),(4096,4),(4096,8)] dump, 0, (2^28 : Nat), _, _, rfl, rfl, accepted_of (by decide +kernel), by decide +kernel⟩,
  ⟨cmd 0xC11 [] dump, 0, (2^28 : Nat), accepted_of (by decide +kernel), by decide +kernel⟩,
  ⟨cmd 0xC12 [] dump, 0, (2^28 : Nat), accepted_of (by decide +kernel), by decide +kernel⟩⟩
end DebugHappenings

namespace PowerCommandsTakeEffect
theorem test_states_meet_1 :
    (∃ (s : State) (m : BitVec 4), Accepted chipReset m s ∧ completionRoom s = true ∧ s2Running s = false ∧ par s m 0 1 = 0 ∧ s.ev.pf =
      .idle ∧ s.pow.level = 0 ∧ s.pow.held &&& 3 = 0 ∧ s.host.held = [] ∧ s.pow.clkMode ≠ 0) ∧
    (∃ (s : State) (m : BitVec 4), Accepted chipReset m s ∧ completionRoom s = true ∧ s2Running s = false ∧ par s m 0 1 = 1 ∧ s.ev.state =
      .running ∧ s.pow.level = 0 ∧ s.disp.items.all (fun p => p.2.ended) = false) ∧
    (∃ (s : State) (m : BitVec 4), Accepted datapathReset m s ∧ completionRoom s = true ∧ s2Running s = false ∧ par s m 0 1 = 0 ∧
      s.ev.state ≠ .running ∧ s.ev.pf = .idle ∧ s.pow.level = 0) ∧
    (∃ (s : State) (m : BitVec 4), Accepted coreReset m s ∧ completionRoom s = true) ∧
    (∃ (s : State) (m : BitVec 4), Accepted powerTolerance m s ∧ completionRoom s = true) :=
  ⟨⟨cmd 0xA01 [(0,1),(0,3)], 0, accepted_of (by decide +kernel), by decide +kernel⟩,
  ⟨cmd 0xA01 [(1,1),(0,3)] { up with ev := { state := .running }, disp := { items := [(5 * 65536 + 7, item)] } }, 0, accepted_of
    (by decide +kernel), by decide +kernel⟩,
  ⟨cmd 0xA02 [(0,1),(0,3)], 0, accepted_of (by decide +kernel), by decide +kernel⟩,
  ⟨cmd 0xA03 [(1,1),(7,1),(0,2)], 0, accepted_of (by decide +kernel), by decide +kernel⟩,
  ⟨cmd 0xA04 [(1,4),(2,4),(3,4),(4,4),(5,4),(6,4),(0xFFFFFFFF,4)], 0, accepted_of (by decide +kernel), by decide +kernel⟩⟩
theorem test_states_meet_2 :
    (∃ (s : State) (m : BitVec 4), Accepted powerPolicy m s ∧ completionRoom s = true) ∧
    (∃ (s : State) (m : BitVec 4), Accepted powerFail m s ∧ completionRoom s = true ∧ s.pow.current ≠ .s2 ∧ s.pow.level = 0 ∧ s.pow.after =
      .none ∧ s.sec.stepMbx = none) ∧
    (∃ (s : State) (m : BitVec 4), Accepted powerStatus m s ∧ completionRoom s = true) ∧
    (∃ (s : State) (m : BitVec 4), Accepted gpioConfig m s ∧ completionRoom s = true) ∧
    (∃ (s : State), ticking s = true ∧ s.sh.tickOwed = false ∧ s.ev.pf = .idle ∧ s.pow.after = .none) :=
  ⟨⟨cmd 0xA05 [(7,1),(0,1),(65535,2),(512,2),(1,2)], 0, accepted_of (by decide +kernel), by decide +kernel⟩,
  ⟨cmd 0xA06 [] { up with ev := { state := .running } }, 0, accepted_of (by decide +kernel), by decide +kernel⟩,
  ⟨cmd 0xA07 [], 0, accepted_of (by decide +kernel), by decide +kernel⟩,
  ⟨cmd 0xA08 [(15,1),(2,1),(1,1),(2,1)], 0, accepted_of (by decide +kernel), by decide +kernel⟩,
  ⟨up, by decide +kernel⟩⟩
end PowerCommandsTakeEffect

namespace ResetsAssertAndExit
theorem test_states_meet_1 :
    (∃ (s : State), s.pow.held.getLsbD 0 = false ∧ s.pow.level ≤ 4) ∧
    (∃ (s : State), s.pow.held.getLsbD 1 = false ∧ s.pow.level < 4) ∧
    (∃ (s : State) (c : BitVec 2), s.pow.held.getLsbD 0 = true ∧ s.pow.held &&& 2 = 0 ∧ 3 ≤ s.pow.level ∧ s.pow.exiting = false ∧ c ≠ 0 ∧
      s.pow.hot = false) ∧
    (∃ (s : State), s.pow.held.getLsbD 1 = true ∧ s.pow.held &&& 1 = 0 ∧ 3 ≤ s.pow.level ∧ s.pow.exiting = false ∧ s.pow.clkMode ≠ 0 ∧
      s.pow.hot = false) ∧
    (∃ (s : State), s.pow.level = 2 ∧ s.pow.pfailDeferred = false ∧ s.pow.datapath = none) :=
  ⟨⟨{ up with pow := { up.pow with level := 4, held := 2 } }, by decide +kernel⟩,
  ⟨{ up with pow := { up.pow with level := 3 } }, by decide +kernel⟩,
  ⟨{ up with pow := { up.pow with level := 4, held := 1 } }, 1, by decide +kernel⟩,
  ⟨{ up with pow := { up.pow with level := 3, held := 2, clkMode := 1 } }, by decide +kernel⟩,
  ⟨{ up with pow := { up.pow with level := 2 }, disp := { items := [(5 * 65536 + 7, item)] } }, by decide +kernel⟩⟩
theorem test_states_meet_2 :
    (∃ (s : State) (m : BitVec 4), s.pow.level = 2 ∧ s.pow.pfailDeferred = false ∧ s.pow.datapath = some m.toNat ∧ completionRoom s = true
      ∧ m.toNat ∉ s.host.accepted) ∧
    (∃ (s : State), s.pow.held.getLsbD 6 = false ∧ s.pow.level < 3 ∧ s.pow.after = .none) ∧
    (∃ (s : State), s.pow.held.getLsbD 6 = false ∧ 3 ≤ s.pow.level) ∧
    (∃ (s : State), s.pow.held.getLsbD 6 = true) ∧
    (∃ (s : State), s.host.fwReady = true ∧ s.pow.tripped = false ∧ s.pow.level < 4 ∧ s.pow.held &&& 3 = 0 ∧ s.pow.clkMode ≠ 0) :=
  ⟨⟨{ up with pow := { up.pow with level := 2, datapath := some 15 } }, 15, by decide +kernel⟩,
  ⟨cmd 0xA06 [], by decide +kernel⟩,
  ⟨{ up with pow := { up.pow with level := 3 } }, by decide +kernel⟩,
  ⟨{ up with pow := { up.pow with level := 2, held := 0x41 } }, by decide +kernel⟩,
  ⟨{ up with pow := { up.pow with level := 2, held := 0x40 } }, by decide +kernel⟩⟩
end ResetsAssertAndExit

namespace ImagesBoot
def ld : State := { up with host := { up.host with fwReady := false }, pow := { up.pow with level := 3, exiting := true, stage := .loading, source := 3 } }
theorem test_states_meet :
    (∃ (s : State) (flash : List Byte) (img : List Byte) (f : Nat), f = imageFault s img ∧ 3 ≤ s.pow.level ∧ s.pow.tripped = false ∧
      s.pow.stage = .loading ∧ attemptImage s flash = some img ∧ s.pow.pfailLow = false ∧ s.pow.after = .none ∧ s.host.fwReady = false) ∧
    (∃ (s : State), 3 ≤ s.pow.level ∧ s.pow.tripped = false ∧ s.pow.stage = .loading) ∧
    (∃ (s : State) (v : BitVec 32), hostOpen s = true ∧ s.pow.stage = .waiting ∧ v.getLsbD 31 = true ∧ v.toNat % 4 ≠ 0) :=
  ⟨⟨ld, zeros 256, zeros 256, _, rfl, by decide +kernel⟩,
  ⟨ld, by decide +kernel⟩,
  ⟨{ ld with pow := { ld.pow with stage := .waiting } }, 0x80000002, by decide +kernel⟩⟩
end ImagesBoot

namespace PowerHappenings
def pw (f : Power → Power := id) (s : State := up) : State := { s with pow := f { s.pow with restIdle := 4096, policy := { tolerance := [9000,9000,9000,9000,9000,9000,9000] }, current := .a1 } }
def calm : State := { up with dram := { started := true, population := some { channels := 0xFF, speed := 2, ranks := 2, width := 4, density := 32 }, chans := [(7, { selfRefresh := true, temp := 20 })] } }
/-- Sensor 3 at `v` 1/16 °C, the others at 0. -/
def heat (v : Nat) : MonitorSample := { sensors := BitVec.ofNat 192 (v * 2 ^ 36), low := 0, high := 0 }
theorem test_states_meet_1 :
    (∃ (s : State), ticking s = true ∧ s.host.fwReady = true ∧ s.pow.level = 0 ∧ (s.pow.current = .a0 ∨ s.pow.current = .a1) ∧ rested s =
      true ∧ stateAllowed s 2 8000 = true) ∧
    (∃ (s : State), ticking s = true ∧ s.host.fwReady = true ∧ s.pow.level = 0 ∧ (s.pow.current = .a0 ∨ s.pow.current = .a1) ∧ rested s =
      true ∧ stateAllowed s 2 8000 = false ∧ stateAllowed s 1 60 = true) ∧
    (∃ (s : State), ticking s = true ∧ s.host.fwReady = true ∧ s.pow.level = 0 ∧ (s.pow.current = .a0 ∨ s.pow.current = .a1) ∧ rested s =
      false) ∧
    (∃ (s : State), s.pow.current = .s1a) ∧
    (∃ (s : State) (cause : BitVec 4), s.pow.current = .s1b ∧ 2 ≤ cause.toNat) ∧
    (∃ (s : State) (cause : BitVec 4), s.pow.current = .s1b ∧ cause.toNat < 2) ∧
    (∃ (s : State) (c : BitVec 3), (s.pow.current = .s1a ∨ s.pow.current = .s1b) ∧ (chanState s c.toNat).selfRefresh = true ∧ (chanState s
      c.toNat).fenced = false ∧ 256 ≤ (dieTemp s - (chanState s c.toNat).temp).natAbs) ∧
    (∃ (s : State), s.pow.pfailLow = false ∧ s.pow.after = .none ∧ s.pow.level ≠ 0) ∧
    (∃ (s : State), s.pow.pfailLow = false ∧ s.pow.after = .none ∧ s.pow.tripped = false ∧ s.pow.level = 0 ∧ s.pow.current ≠ .s2) :=
  ⟨⟨pw (s := calm), by decide +kernel⟩,
  ⟨pw (fun p => { p with policy := { tolerance := [7999,7999,7999,7999,7999,7999,7999] } }) calm, by decide +kernel⟩,
  ⟨pw (fun p => { p with policy := { p.policy with a1Idle := 0 } }), by decide +kernel⟩,
  ⟨pw (fun p => { p with current := .s1a }) calm, by decide +kernel⟩,
  ⟨pw (fun p => { p with current := .s1b }) calm, (2 : BitVec 4), by decide +kernel⟩,
  ⟨pw (fun p => { p with current := .s1b }) calm, (1 : BitVec 4), by decide +kernel⟩,
  ⟨pw (fun p => { p with current := .s1b, temp := 576 }) calm, 7, by decide +kernel⟩,
  ⟨pw (fun p => { p with level := 2 }), by decide +kernel⟩,
  ⟨pw, by decide +kernel⟩⟩
theorem test_states_meet_2 :
    (∃ (s : State), s.pow.pfailLow = false ∧ s.pow.after = .none ∧ s.pow.tripped = false ∧ s.pow.level = 0 ∧ s.pow.current = .s2) ∧
    (∃ (s : State), s.pow.pfailLow = true) ∧
    (∃ (s : State) (rail : BitVec 3), rail ≠ 7 ∧ s.pow.after = .none ∧ s.pow.tripped = false ∧ s.pow.level = 0 ∧ s.pow.current ≠ .s2) ∧
    (∃ (s : State) (rail : BitVec 3) (high : Bool), high = true ∧ rail ≠ 7 ∧ s.pow.after = .none ∧ s.pow.tripped = false ∧ s.pow.level = 0
      ∧ s.pow.current = .s2) ∧
    (∃ (s : State) (x : MonitorSample) (v : Int) (w : Int), v = sampleTemp x ∧ w = warnLevel s ∧ v < criticalLevel ∧ s.pow.tripped = false
      ∧ s.pow.hot = false ∧ s.pow.after = .none) ∧
    (∃ (s : State) (x : MonitorSample) (v : Int) (w : Int), v = sampleTemp x ∧ w = warnLevel s ∧ s.pow.temp < criticalLevel ∧ criticalLevel
      ≤ v ∧ s.pow.tripped = false ∧ s.pow.hot = false ∧ s.pow.after = .none ∧ s.pow.current ≠ .s2 ∧ s.pow.level = 0) ∧
    (∃ (s : State) (x : MonitorSample) (v : Int) (w : Int), v = sampleTemp x ∧ w = warnLevel s ∧ s.pow.tripped = false ∧ s.pow.hot = false
      ∧ s.pow.after = .none ∧ 2000 ≤ v) ∧
    (∃ (s : State) (m : BitVec 4), s.ev.pf = .flush ∧ s.pow.after = .chip m.toNat ∧ s.pow.level = 0 ∧ s.pow.held &&& 3 = 0 ∧ completionRoom
      s = true ∧ s.host.held = [] ∧ s.pow.clkMode ≠ 0) :=
  ⟨⟨pw (fun p => { p with current := .s2 }), by decide +kernel⟩,
  ⟨pw (fun p => { p with pfailLow := true }), by decide +kernel⟩,
  ⟨pw, 6, by decide +kernel⟩,
  ⟨pw (fun p => { p with current := .s2, extraCauses := 255 }), 6, _, rfl, by decide +kernel⟩,
  ⟨pw (fun p => { p with temp := 1519 }), heat 1759, _, _, rfl, rfl, by unfold criticalLevel; split <;> decide +kernel, by decide +kernel⟩,
  ⟨pw (fun p => { p with temp := 1759 }), heat 1840, _, _, rfl, rfl, by unfold criticalLevel; split <;> decide +kernel,
    by unfold criticalLevel; split <;> decide +kernel, by decide +kernel⟩,
  ⟨pw, heat 2000, _, _, rfl, rfl, by decide +kernel⟩,
  ⟨{ pw (fun p => { p with after := .chip 0 }) with ev := { state := .powerFail, pf := .flush } }, 0, by decide +kernel⟩⟩
end PowerHappenings

namespace SecurityCommandsTakeEffect
def lev (l : Nat) (f : Secure → Secure := id) (s : State := up) : State := { s with sec := f { s.sec with level := l } }
def fu (f : Fuses → Fuses) (s : State) : State := { s with sec := { s.sec with fuses := f s.sec.fuses } }
theorem test_states_meet_1 :
    (∃ (s : State) (m : BitVec 4) (same : Bool), same = decide (par s m 4 4 = Config.serial.toNat % 2 ^ 32) ∧ Accepted lifecycleAdvance m s
      ∧ completionRoom s = true ∧ s.ev.state ≠ .running ∧ (par s m 0 1 = 1 → s.sec.fuses.deviceKey.isSome = true)) ∧
    (∃ (s : State) (m : BitVec 4), Accepted fuseProgram m s ∧ completionRoom s = true ∧ par s m 0 1 = 0 ∧ s.sec.fuses.deviceKey = none) ∧
    (∃ (s : State) (m : BitVec 4), Accepted fuseProgram m s ∧ completionRoom s = true ∧ par s m 0 1 = 1 ∧ s.sec.fuses.debugKey = none) ∧
    (∃ (s : State) (m : BitVec 4), Accepted fwKeyRevoke m s ∧ (∃ k, k < 4 ∧ k ≠ par s m 0 1 ∧ s.sec.fuses.revoke.getLsbD k = false) ∧
      completionRoom s = true ∧ par s m 0 1 ≠ s.pow.keyIndex) ∧
    (∃ (s : State) (m : BitVec 4), Accepted rollbackAdvance m s ∧ completionRoom s = true) ∧
    (∃ (s : State) (m : BitVec 4), Accepted securityQuery m s ∧ completionRoom s = true) :=
  ⟨⟨cmd 0xB01 [(2,1),(0,3),(7,4)] (lev 3), 0, _, rfl, accepted_of (by decide +kernel), by decide +kernel⟩,
  ⟨cmd 0xB02 [(0,1),(0,3)], 0, accepted_of (by decide +kernel), by decide +kernel⟩,
  ⟨cmd 0xB02 [(1,1),(0,3),(5,32)], 0, accepted_of (by decide +kernel), by decide +kernel⟩,
  ⟨cmd 0xB03 [(3,1)], 0, accepted_of (by decide +kernel), ⟨0, by decide +kernel⟩, by decide +kernel⟩,
  ⟨fu (fun f => { f with rollback := 63 }) (cmd 0xB04 [(64,1)] { up with pow := { up.pow with security := 64 } }), 0, accepted_of
    (by decide +kernel), by decide +kernel⟩,
  ⟨cmd 0xB05 [], 0, accepted_of (by decide +kernel), by decide +kernel⟩⟩
theorem test_states_meet_2 :
    (∃ (s : State) (m : BitVec 4), Accepted keyGenerate m s ∧ completionRoom s = true ∧ slotInUse s (mbxPayload s m.toNat) = false) ∧
    (∃ (s : State) (m : BitVec 4), Accepted keyLoadPlain m s ∧ completionRoom s = true ∧ slotInUse s (mbxPayload s m.toNat) = false) ∧
    (∃ (s : State) (m : BitVec 4), Accepted keyDelete m s ∧ completionRoom s = true ∧ slotInUse s (mbxPayload s m.toNat) = false) ∧
    (∃ (s : State) (m : BitVec 4) (key : Option (List Byte)), key = unwrapKey s (par s m 0 1) (bytesAt (mbxPayload s m.toNat) 4 68) ∧
      completionRoom s = true ∧ mayStart s m.toNat = true ∧ mbxOpcode s m.toNat = 0x0B11 ∧ headerFault s m.toNat false = none ∧
      s.sec.lifecycle ≠ 2 ∧ 72 ≤ (mbxPayload s m.toNat).length ∧ firstBad (slotChecks (mbxPayload s m.toNat) ++ [rsv (mbxPayload s m.toNat)
      2 2]) = none ∧ slotInUse s (mbxPayload s m.toNat) = false) ∧
    (∃ (s : State) (m : BitVec 4), Accepted keyQuery m s ∧ completionRoom s = true ∧ (keySlot s (slotPlace (mbxPayload s m.toNat))).kind =
      1) :=
  ⟨⟨cmd 0xB10 [(2,1),(31,1),(0,2),(5,4)], 0, accepted_of (by decide +kernel), by decide +kernel⟩,
  ⟨cmd 0xB14 [(1,1),(7,1),(0,2),(5,4),(9,32)], 0, accepted_of (by decide +kernel), by decide +kernel⟩,
  ⟨cmd 0xB12 [(2,1),(31,1)] (lev 0 (fun c => { c with keys := [(63, { kind := 2 })] })), 0, accepted_of (by decide +kernel),
    by decide +kernel⟩,
  ⟨cmd 0xB11 ([(2,1),(31,1),(0,2)] ++ (List.range 17).map (fun _ => (1,4))), 0, _, rfl, by decide +kernel⟩,
  ⟨cmd 0xB13 [(1,1),(7,1)] (lev 0 (fun c => { c with keys := [(7, { kind := 1, keyId := 77, key := leBytes 32 5 })] })), 0, accepted_of
    (by decide +kernel), by decide +kernel⟩⟩
end SecurityCommandsTakeEffect

namespace DebugCommandsTakeEffect
def lev (l : Nat) (f : Secure → Secure := id) (s : State := up) : State := { s with sec := f { s.sec with level := l } }
def fz (b : TState) : State := { up with cores := { up.cores with threads := [(511, { st := .frozen, before := b, g := [(1, 5)], pc := 65535 })] } }
def dump : State := { backed with pow := { backed.pow with dump := true }, dram := { backed.dram with dumpBase := some (2^28), mem := memWrite [] (2^28 + 48) (leBytes 8 8192) } }
theorem test_states_meet_1 :
    (∃ (s : State) (m : BitVec 4), Accepted debugChallenge m s ∧ completionRoom s = true) ∧
    (∃ (s : State) (m : BitVec 4) (r : _) (good : _), good = unlockVerifies s r (bytesAt (mbxPayload s m.toNat) 0 64) ∧ Accepted
      debugUnlock m s ∧ completionRoom s = true ∧ s.sec.challenge = some r ∧ s.pow.current ≠ .s2) ∧
    (∃ (s : State) (m : BitVec 4), completionRoom s = true ∧ mayStart s m.toNat = true ∧ mbxOpcode s m.toNat = 0x0B21) ∧
    (∃ (s : State) (m : BitVec 4), Accepted debugAttach m s ∧ completionRoom s = true ∧ s.pow.current ≠ .s2 ∧ s.sec.stepMbx = none) ∧
    (∃ (s : State) (m : BitVec 4), Accepted debugHalt m s ∧ completionRoom s = true ∧ scopeFrozen s (par s m 0 1) (par s m 2 2) = false) ∧
    (∃ (s : State) (m : BitVec 4), Accepted debugRelease m s ∧ completionRoom s = true ∧ scopeFrozen s (par s m 0 1) (par s m 2 2) = true) :=
  ⟨⟨cmd 0xB20 [] (lev 0 (fun c => { c with fuses := { deployed := true } })), 0, accepted_of (by decide +kernel), by decide +kernel⟩,
  ⟨cmd 0xB21 [(5,64)] (lev 0 (fun c => { c with fuses := { deployed := true }, challenge := some [1] })), 0, [(1 : Byte)], _, rfl,
    accepted_of (by decide +kernel), by decide +kernel⟩,
  ⟨cmd 0xB21 [(5,4)] (lev 0 (fun c => { c with fuses := { deployed := true }, challenge := some [1] })), 0, by decide +kernel⟩,
  ⟨cmd 0xB22 [(1,1)] (lev 2), 0, accepted_of (by decide +kernel), by decide +kernel⟩,
  ⟨cmd 0xB24 [(1,1),(0,1),(7,2)] (lev 2 id runner), 0, accepted_of (by decide +kernel), by decide +kernel⟩,
  ⟨cmd 0xB25 [(0,1),(0,1),(511,2)] (lev 2 id (fz .run)), 0, accepted_of (by decide +kernel), by decide +kernel⟩⟩
theorem test_states_meet_2 :
    (∃ (s : State) (m : BitVec 4), Accepted debugRelease m s ∧ completionRoom s = true ∧ scopeFrozen s (par s m 0 1) (par s m 2 2) = true ∧
      0 < par s m 0 1) ∧
    (∃ (s : State) (m : BitVec 4), Accepted debugStep m s ∧ completionRoom s = true ∧ (thr s (par s m 0 2)).st = .frozen ∧ (thr s (par s m
      0 2)).before = .ready ∧ (thr s (par s m 0 2)).owed = 0) ∧
    (∃ (s : State) (m : BitVec 4), Accepted threadRegRead m s ∧ completionRoom s = true) ∧
    (∃ (s : State) (m : BitVec 4), Accepted threadRegWrite m s ∧ completionRoom s = true ∧ (thr s (par s m 0 2)).st = .frozen) ∧
    (∃ (s : State) (m : BitVec 4), Accepted breakpointSet m s ∧ completionRoom s = true) ∧
    (∃ (s : State) (m : BitVec 4), Accepted debugCounters m s ∧ completionRoom s = true) :=
  ⟨⟨cmd 0xB25 [(1,1),(0,1),(7,2)] (lev 2 id { fz .ready with disp := { frozen := 0x80 } }), 0, accepted_of (by decide +kernel),
    by decide +kernel⟩,
  ⟨cmd 0xB26 [(511,2),(65535,2)] (lev 2 id (fz .ready)), 0, accepted_of (by decide +kernel), by decide +kernel⟩,
  ⟨cmd 0xB27 [(511,2),(1,1)] (lev 2 id (fz .ready)), 0, accepted_of (by decide +kernel), by decide +kernel⟩,
  ⟨cmd 0xB28 [(511,2),(31,1),(0,1),(0xFFFFFFFFF,5)] (lev 2 id (fz .ready)), 0, accepted_of (by decide +kernel), by decide +kernel⟩,
  ⟨cmd 0xB29 [(7,1),(3,1),(5,1),(255,1),(65535,2),(255,1),(0,1)] (lev 2), 0, accepted_of (by decide +kernel), by decide +kernel⟩,
  ⟨cmd 0xB32 [(1,1)] (lev 1), 0, accepted_of (by decide +kernel), by decide +kernel⟩⟩
end DebugCommandsTakeEffect

namespace StepsRunTheFrontCommand
theorem test_states_meet :
    (∃ (c : Instr) (rest : List Instr) (s : State), s.pending = c :: rest) ∧
    (∃ (s : State), s.pending = []) :=
  ⟨⟨.sheetTick, [.l2Exit], { up with pending := [.sheetTick, .l2Exit] }, by decide +kernel⟩,
  ⟨up, by decide +kernel⟩⟩
end StepsRunTheFrontCommand

namespace ResetLeavesTheSpecsValues
theorem test_states_meet :
    (∃ (s : State), s = State.reset) ∧
    (∃ (s : State), s = State.reset) ∧
    (∃ (s : State), s = State.reset) ∧
    (∃ (s : State), s = State.reset) ∧
    (∃ (s : State), s = State.reset) :=
  ⟨⟨State.reset, by decide +kernel⟩,
  ⟨State.reset, by decide +kernel⟩,
  ⟨State.reset, by decide +kernel⟩,
  ⟨State.reset, by decide +kernel⟩,
  ⟨State.reset, by decide +kernel⟩⟩
end ResetLeavesTheSpecsValues

namespace ExceptionsComeInOrder
def ib (p : Tab Nat := []) (r : List Nat := []) (m : List Nat := []) (f : Thread → Thread := id) : State := let s := onThr [] (fun x => f { x with pending := p, badRegs := r }); { s with cores := { s.cores with imemBad := m } }
theorem test_states_meet :
    (∃ (s : State) (t : BitVec 9), mayIssue s t.toNat = true ∧ (thr s t.toNat).after = .none ∧ instrBad s t.toNat = true) ∧
    (∃ (s : State) (t : BitVec 9), mayIssue s t.toNat = true ∧ (thr s t.toNat).after = .none ∧ instrBad s t.toNat = false ∧
      s.cores.imemWeak.contains (fetchKey s t.toNat) = false ∧ reservedWord (wordAt s t.toNat) = true) ∧
    (∃ (s : State) (t : BitVec 9) (pos : BitVec 6) (len : BitVec 6) (z : BitVec 2), mayIssue s t.toNat = true ∧ (thr s t.toNat).after =
      .none ∧ instrBad s t.toNat = false ∧ s.cores.imemWeak.contains (fetchKey s t.toNat) = false ∧ reservedWord (wordAt s t.toNat) = false
      ∧ (35 < pos.toNat ∨ len ≠ 0 ∨ z ≠ 0)) ∧
    (∃ (s : State) (t : BitVec 9) (gd : BitVec 5) (ga : BitVec 5) (pos : BitVec 6) (len : BitVec 6) (z : BitVec 2), len = 0 ∧ z = 0 ∧
      mayIssue s t.toNat = true ∧ (thr s t.toNat).after = .none ∧ instrBad s t.toNat = false ∧ s.cores.imemWeak.contains (fetchKey s
      t.toNat) = false ∧ reservedWord (wordAt s t.toNat) = false ∧ pos.toNat ≤ 35 ∧ ((tabFind (thr s t.toNat).pending ga.toNat).isSome ||
      (tabFind (thr s t.toNat).pending gd.toNat).isSome) = true) ∧
    (∃ (s : State) (t : BitVec 9) (gd : BitVec 5) (ga : BitVec 5) (pos : BitVec 6) (len : BitVec 6) (z : BitVec 2), len = 0 ∧ z = 0 ∧
      mayIssue s t.toNat = true ∧ (thr s t.toNat).after = .none ∧ instrBad s t.toNat = false ∧ s.cores.imemWeak.contains (fetchKey s
      t.toNat) = false ∧ reservedWord (wordAt s t.toNat) = false ∧ pos.toNat ≤ 35 ∧ ((tabFind (thr s t.toNat).pending ga.toNat).isSome ||
      (tabFind (thr s t.toNat).pending gd.toNat).isSome) = false ∧ ga.toNat ∈ (thr s t.toNat).badRegs) ∧
    (∃ (s : State) (t : BitVec 9) (gd : BitVec 5) (ga : BitVec 5) (pos : BitVec 6) (len : BitVec 6) (z : BitVec 2), len = 0 ∧ z = 0 ∧
      mayIssue s t.toNat = true ∧ (thr s t.toNat).after = .none ∧ instrBad s t.toNat = false ∧ s.cores.imemWeak.contains (fetchKey s
      t.toNat) = false ∧ reservedWord (wordAt s t.toNat) = false ∧ pos.toNat ≤ 35 ∧ ((tabFind (thr s t.toNat).pending ga.toNat).isSome ||
      (tabFind (thr s t.toNat).pending gd.toNat).isSome) = false ∧ ga.toNat ∉ (thr s t.toNat).badRegs ∧ (thr s t.toNat).terminated = true ∧
      1024 ≤ (thr s t.toNat).handlerCount) ∧
    (∃ (s : State) (t : BitVec 9) (gd : BitVec 5) (n : BitVec 16), mayIssue s t.toNat = true ∧ (thr s t.toNat).after = .none ∧ instrBad s
      t.toNat = false ∧ s.cores.imemWeak.contains (fetchKey s t.toNat) = false ∧ reservedWord (wordAt s t.toNat) = false ∧ n.toNat ≤ 17 ∧
      tabFind (thr s t.toNat).pending gd.toNat = none ∧ 32 + n.toNat ∈ (thr s t.toNat).badRegs) ∧
    (∃ (s : State) (t : Nat) (code : Nat), code < 64 ∧ isSupervisor s t = false ∧ s.dov.weak = [] ∧ s.dov.bad = [] ∧ (chanOf s (1016 + t /
      64)).readers = [] ∧ (chanOf s (1016 + t / 64)).writers = []) :=
  ⟨⟨ib [] [] [7 * 65536 + 65535], 511, by decide +kernel⟩,
  ⟨{ ib with cores := { (ib).cores with imem := [(7 * 65536 + 65535, 9 * 2 ^ 30)] } }, 511, by decide +kernel⟩,
  ⟨ib, 511, 36, 0, 0, by decide +kernel⟩,
  ⟨ib [(31, 4)], 511, 31, 2, 35, _, _, rfl, rfl, by decide +kernel⟩,
  ⟨ib [] [2], 511, 31, 2, 35, _, _, rfl, rfl, by decide +kernel⟩,
  ⟨ib [] [] [] (fun x => { x with terminated := true, handlerCount := 1024 }), 511, 31, 2, 35, _, _, rfl, rfl, by decide +kernel⟩,
  ⟨ib [] [49], 511, 2, 17, by decide +kernel⟩,
  ⟨onThr [], 511, 63, by decide +kernel⟩⟩
end ExceptionsComeInOrder

namespace StepsKeepMemoriesCanonical
theorem test_states_meet :
    (∃ (s : State) (t : State), Machine.step s = .next t ∧ s.memWf) :=
  ⟨State.reset, _, rfl, by unfold State.memWf; decide +kernel⟩
end StepsKeepMemoriesCanonical

namespace FusesOnlyAdvance
theorem test_states_meet :
    (∃ (c : Instr) (s : State) (t : State), exec c s = .next t) :=
  ⟨.wakeUp 2, up, _, rfl⟩
end FusesOnlyAdvance

namespace CommandsLeaveTheQueue
theorem test_states_meet :
    (∃ (c : Instr) (s : State) (t : State), exec c s = .next t) :=
  ⟨.wakeUp 2, up, _, rfl⟩
end CommandsLeaveTheQueue

namespace SheetNumberMovesByTicks
theorem test_states_meet :
    (∃ (c : Instr) (s : State) (t : State), exec c s = .next t ∧ (∀ m, c ≠ .sheetSet m) ∧ c ≠ .sheetTick) ∧
    (∃ (s : State) (t : State), exec .sheetTick s = .next t) :=
  ⟨⟨.wakeUp 2, up, _, rfl, (fun _ h => nomatch h), nofun⟩,
  ⟨up, _, rfl⟩⟩
end SheetNumberMovesByTicks

namespace KeySlotsChangeByKeyCommands
theorem test_states_meet :
    (∃ (c : Instr) (s : State) (t : State), exec c s = .next t ∧ (∀ m, c ≠ .keyGenerate m) ∧ (∀ m, c ≠ .keyImport m) ∧ (∀ m, c ≠ .keyDelete
      m) ∧ (∀ m, c ≠ .keyLoadPlain m) ∧ (∀ o v, c ≠ .diagWindowWrite o v) ∧ (∀ o e v, c = .registerWrite o e v → o.toNat < 0x1000000)) :=
  ⟨.wakeUp 2, up, _, rfl, (fun _ h => nomatch h), (fun _ h => nomatch h), (fun _ h => nomatch h), (fun _ h => nomatch h), (fun _ _ h =>
    nomatch h), (fun _ _ _ h => nomatch h)⟩
end KeySlotsChangeByKeyCommands

namespace KeySlotsLastUntilL4
def ky : State := { up with sec := { keys := [(63, { kind := 2 })] }, pow := { up.pow with level := 2 } }
theorem test_states_meet :
    (∃ (s : State), s.pow.level ≤ 2) ∧
    (∃ (s : State), s.pow.level ≤ 3) ∧
    (∃ (s : State), s.pow.level ≤ 4) :=
  ⟨⟨ky, by decide +kernel⟩,
  ⟨ky, by decide +kernel⟩,
  ⟨ky, by decide +kernel⟩⟩
end KeySlotsLastUntilL4

end Sys2Proof.Tests
end

section
/-!
PROOFS. Register g0 (R270). Reads of g0 give 0 and a write to g0 leaves a thread's context as it is; but a write to g0 stores that same
context back into the table of threads, and `tabSet` lists no entry equal to the default. So the state itself stands exactly where the
table is canonical, and the obligation, which speaks of every state, fails at one whose table lists an idle thread.
-/
namespace Sys2Proof.Machine

variable {α : Type}

/-! ### Writing back what a table holds -/

theorem tabFind_below {t : Tab α} {k : Nat} (h : ∀ p ∈ t, k < p.1) : tabFind t k = none := by
  induction t with
  | nil => rfl
  | cons p t ih =>
    obtain ⟨hp, ht⟩ := List.forall_mem_cons.mp h
    rw [tabFind, if_neg (Nat.ne_of_gt hp), ih ht]

theorem lowerBound_of_wfFrom [DecidableEq α] {d : α} {t : Tab α} {lo : Nat} (w : tabWfFrom d lo t = true) : ∀ p ∈ t, lo ≤ p.1 := by
  induction t generalizing lo with
  | nil => exact fun _ hp => absurd hp List.not_mem_nil
  | cons p t ih =>
    simp only [tabWfFrom, Bool.and_eq_true, decide_eq_true_eq] at w
    obtain ⟨⟨hlo, -⟩, wt⟩ := w
    intro q hq
    rcases List.mem_cons.mp hq with rfl | hq
    · exact hlo
    · have := ih wt q hq
      omega

/-- A splice below every key of the table puts its entries in front. -/
theorem tabSplice_below {t es : Tab α} {k : Nat} (h : ∀ p ∈ t, k < p.1) : tabSplice t k 1 es = es ++ t := by
  have hlt : t.filter (fun p => p.1 < k) = [] :=
    List.filter_eq_nil_iff.mpr fun p hp => by
      simp only [decide_eq_true_eq]
      exact Nat.not_lt_of_lt (h p hp)
  have hge : t.filter (fun p => k + 1 ≤ p.1) = t :=
    List.filter_eq_self.mpr fun p hp => decide_eq_true (h p hp)
  rw [tabSplice, hlt, hge, List.nil_append]

/-- In a canonical table, storing back what a key reads as changes nothing. -/
theorem tabSet_tabGet_self [DecidableEq α] {d : α} {t : Tab α} (k : Nat) {lo : Nat} (w : tabWfFrom d lo t = true) :
    tabSet d t k (tabGet d t k) = t := by
  induction t generalizing lo with
  | nil =>
    have hget : tabGet d [] k = d := rfl
    rw [hget, tabSet, if_pos rfl]
    rfl
  | cons p t ih =>
    obtain ⟨q, v⟩ := p
    simp only [tabWfFrom, Bool.and_eq_true, decide_eq_true_eq] at w
    obtain ⟨⟨-, hv⟩, wt⟩ := w
    have bound : ∀ p ∈ t, q < p.1 := lowerBound_of_wfFrom wt
    rcases Nat.lt_trichotomy q k with hqk | rfl | hkq
    · have hget : tabGet d ((q, v) :: t) k = tabGet d t k := by
        rw [tabGet, tabFind, if_neg (Nat.ne_of_lt hqk), ← tabGet]
      have hcons (es : Tab α) : tabSplice ((q, v) :: t) k 1 es = (q, v) :: tabSplice t k 1 es := by
        have hge : ¬ k + 1 ≤ q := by omega
        simp only [tabSplice, List.filter_cons, hqk, hge, decide_true, decide_false, if_true, Bool.false_eq_true, if_false,
          List.cons_append]
      have ht := ih wt
      rw [tabSet] at ht
      rw [hget, tabSet, hcons, ht]
    · have hget : tabGet d ((q, v) :: t) q = v := by rw [tabGet, tabFind, if_pos rfl, Option.getD_some]
      have hcons (es : Tab α) : tabSplice ((q, v) :: t) q 1 es = tabSplice t q 1 es := by
        have hlt : ¬ q < q := Nat.lt_irrefl q
        have hge : ¬ q + 1 ≤ q := Nat.not_succ_le_self q
        simp only [tabSplice, List.filter_cons, hlt, hge, decide_false, Bool.false_eq_true, if_false]
      rw [hget, tabSet, if_neg hv, hcons, tabSplice_below bound, List.singleton_append]
    · have below : ∀ p ∈ (q, v) :: t, k < p.1 :=
        List.forall_mem_cons.mpr ⟨hkq, fun p hp => Nat.lt_trans hkq (bound p hp)⟩
      have hget : tabGet d ((q, v) :: t) k = d := by rw [tabGet, tabFind_below below, Option.getD_none]
      rw [hget, tabSet, if_pos rfl, tabSplice_below below, List.nil_append]

/-- An entry that is listed at the default value is dropped when that value is written back. -/
theorem tabSet_default_singleton [DecidableEq α] (d : α) (k : Nat) : tabSet d [(k, d)] k d = [] := by
  have hlt : ¬ k < k := Nat.lt_irrefl k
  have hge : ¬ k + 1 ≤ k := Nat.not_succ_le_self k
  simp only [tabSet, tabSplice, List.filter_cons, List.filter_nil, hlt, hge, decide_false, Bool.false_eq_true, if_true, if_false,
    List.append_nil]

/-! ### Register g0 -/

theorem regG_zero (s : State) (t : Nat) : regG s t 0 = 0 := by rw [regG, getG, if_pos rfl]

theorem putG_zero (v : Word36) (x : Thread) : putG 0 v x = x := by rw [putG, if_pos rfl]

/-- A write to g0 stores the thread's own context back. -/
theorem setG_zero (t : Nat) (v : Word36) (s : State) : setG t 0 v s = setThr t (thr s t) s := by
  rw [setG, updThr, putG_zero]

/-- R270 in any state: no thread's context changes at a write to g0. -/
theorem thr_setG_zero (t u : Nat) (v : Word36) (s : State) : thr (setG t 0 v s) u = thr s u := by
  rw [setG_zero]
  by_cases h : u = t
  · subst h; exact tabGet_set_self _ _ _ _
  · exact tabGet_set_of_ne _ _ _ h

/-- R270 as the obligation puts it, in a state whose table of threads is canonical. -/
theorem setG_zero_of_threads_wf (t : Nat) (v : Word36) {s : State} (w : tabWf ({} : Thread) s.cores.threads = true) : setG t 0 v s = s := by
  have hthreads : tabSet {} s.cores.threads t (thr s t) = s.cores.threads := tabSet_tabGet_self t w
  rw [setG_zero, setThr, hthreads]

/-- A state that meets the hypothesis: thread 511 alone is listed, at another context than the idle one. -/
theorem setG_zero_thread511_running (v : Word36) :
    setG 511 0 v { State.reset with cores := { threads := [(511, { st := .run, g := [(1, 5)] })] } } =
      { State.reset with cores := { threads := [(511, { st := .run, g := [(1, 5)] })] } } :=
  setG_zero_of_threads_wf 511 v (by decide +kernel)

/-- The state after reset, with thread 0 listed at the idle context that an unlisted thread reads as. -/
def idleThreadListed : State := { State.reset with cores := { State.reset.cores with threads := [(0, {})] } }

theorem threads_setG_zero_idleThreadListed (v : Word36) : (setG 0 0 v idleThreadListed).cores.threads = [] := by
  rw [setG_zero]
  exact tabSet_default_singleton ({} : Thread) 0

/-- Refutes O59 (R270) in its second clause: where the table of threads lists an idle thread, a write to that thread's g0 drops the entry,
and the state is another one, though every thread in it reads as before (`thr_setG_zero`). Reads of g0 (`regG_zero`) and the write to a
thread's context (`putG_zero`) do what the obligation says. -/
theorem not_registerZeroReadsZero : ¬ Obligations.RegisterZeroReadsZero := by
  unfold Obligations.RegisterZeroReadsZero
  rintro ⟨-, hdiscard, -⟩
  have hkept : (setG 0 0 0 idleThreadListed).cores.threads = [(0, {})] :=
    congrArg (fun s => s.cores.threads) (hdiscard idleThreadListed 0 0)
  rw [threads_setG_zero_idleThreadListed] at hkept
  exact List.cons_ne_nil _ _ hkept.symm

end Sys2Proof.Machine
end

section
/-!
PROOFS. The key store under a reset (R703). An L2 reset runs through many shared operations, and `Keeps` says of each only that the key
slots stand or are erased; the lemmas here say which: `op_secKeys` is that operation `op` leaves the key slots as they are. L3 copies the
slots into the state it builds, and L4 leaves them out.
-/
namespace Sys2Proof.Machine

/-! ### The shapes in which operations are written -/

@[simp] theorem secKeys_ite (c : Prop) [Decidable c] (a b : State) :
    (if c then a else b).sec.keys = if c then a.sec.keys else b.sec.keys :=
  apply_ite (fun s : State => s.sec.keys) c a b

@[simp] theorem secKeys_foldl {β : Type} {f : State → β → State} (h : ∀ a b, (f a b).sec.keys = a.sec.keys) (l : List β) (s : State) :
    (l.foldl f s).sec.keys = s.sec.keys := by
  induction l generalizing s with
  | nil => rfl
  | cons b l ih => rw [List.foldl_cons, ih, h]

/-! ### Reports -/

theorem Reports.secKeys {s t : State} (h : Reports s t) : t.sec.keys = s.sec.keys := by rw [h.sec]

@[simp] theorem trace_secKeys (k c m d : Nat) (s : State) : (trace k c m d s).sec.keys = s.sec.keys := (trace_reports k c m d s).secKeys

@[simp] theorem raise_secKeys (src : Nat) (data : List (Nat × Nat)) (s : State) : (raise src data s).sec.keys = s.sec.keys :=
  (raise_reports src data s).secKeys

@[simp] theorem raiseFirst_secKeys (src key : Nat) (data : List (Nat × Nat)) (s : State) :
    (raiseFirst src key data s).sec.keys = s.sec.keys := (raiseFirst_reports src key data s).secKeys

@[simp] theorem finishCmd_secKeys (m st d : Nat) (res : List Byte) (s : State) : (finishCmd m st d res s).sec.keys = s.sec.keys :=
  (finishCmd_reports m st d res s).secKeys

/-! ### DRAM -/

@[simp] theorem dramStore_sec (a : Nat) (bs : List Byte) (s : State) : (dramStore a bs s).sec = s.sec := rfl
@[simp] theorem logDramError_sec (a c kind : Nat) (s : State) : (logDramError a c kind s).sec = s.sec := by
  rw [logDramError]
@[simp] theorem chanCount_sec (c i n : Nat) (s : State) : (chanCount c i n s).sec = s.sec := rfl
@[simp] theorem setSubChan_sec (c b : Nat) (q : SubChannel) (s : State) : (setSubChan c b q s).sec = s.sec := rfl
@[simp] theorem noteRest_sec (s : State) : (noteRest s).sec = s.sec := rfl

@[simp] theorem chanCountSome_secKeys (c i n : Nat) (s : State) : (chanCountSome c i n s).sec.keys = s.sec.keys := by
  simp only [chanCountSome, secKeys_ite, chanCount_sec, ite_self]

@[simp] theorem wakeChan_secKeys (c : Nat) (s : State) : (wakeChan c s).sec.keys = s.sec.keys := by
  simp only [wakeChan, secKeys_ite, setChanState_sec, chanCount_sec, ite_self]

@[simp] theorem issueRefresh_secKeys (c k : Nat) (s : State) : (issueRefresh c k s).sec.keys = s.sec.keys := by
  simp only [issueRefresh, chanCountSome_secKeys, setChanState_sec]

@[simp] theorem issueDue_secKeys (c : Nat) (s : State) : (issueDue c s).sec.keys = s.sec.keys := by
  simp only [issueDue, issueRefresh_secKeys, implies_true, secKeys_foldl]

@[simp] theorem putStep_secKeys (c b : Nat) (x : SchedStep) (s : State) : (putStep c b x s).sec.keys = s.sec.keys := by
  simp only [putStep, chanCountSome_secKeys, setSubChan_sec]

@[simp] theorem runSub_secKeys (c b : Nat) (done : SubChannel → Bool) (s : State) : (runSub c b done s).sec.keys = s.sec.keys := by
  simp only [runSub, secKeys_ite, putStep_secKeys, issueDue_secKeys, ite_self]

@[simp] theorem emptyQueues_secKeys (c : Nat) (s : State) : (emptyQueues c s).sec.keys = s.sec.keys := by
  simp only [emptyQueues, List.foldl_cons, List.foldl_nil, runSub_secKeys]

@[simp] theorem sendRequest_secKeys (port : Nat) (write : Bool) (l : Nat) (s : State) :
    (sendRequest port write l s).sec.keys = s.sec.keys := by
  unfold sendRequest
  split
  · rfl
  · split
    · rfl
    · exact runSub_secKeys _ _ _ s

@[simp] theorem noteLine_secKeys (port : Nat) (write : Bool) (l n : Nat) (s : State) : (noteLine port write l n s).sec.keys = s.sec.keys := by
  unfold noteLine
  split
  · rfl
  · simp only [secKeys_ite, sendRequest_secKeys, wakeChan_secKeys, logDramError_sec, chanCount_sec, setChanState_sec, ite_self]

@[simp] theorem serveLine_secKeys (port l : Nat) (s : State) : (serveLine port l s).sec.keys = s.sec.keys := by
  unfold serveLine
  split
  · rfl
  · exact runSub_secKeys _ _ _ s

@[simp] theorem noteAccess_secKeys (port : Nat) (write : Bool) (a n : Nat) (s : State) :
    (noteAccess port write a n s).sec.keys = s.sec.keys := by
  simp only [noteAccess, requestLines, serveLines, secKeys_ite, noteLine_secKeys, implies_true, secKeys_foldl, serveLine_secKeys,
    ite_self]

@[simp] theorem dramWrite_secKeys (port a : Nat) (bs : List Byte) (bad : Bool) (s : State) :
    (dramWrite port a bs bad s).sec.keys = s.sec.keys := by
  simp only [dramWrite, noteAccess_secKeys, dramStore_sec]

@[simp] theorem enterSelfRefresh_secKeys (c : Nat) (s : State) : (enterSelfRefresh c s).sec.keys = s.sec.keys := by
  simp only [enterSelfRefresh, secKeys_ite, raise_secKeys, noteRest_sec, setChanState_sec, emptyQueues_secKeys, ite_self]

/-! ### The Cabinet and the line ports -/

@[simp] theorem updHandle_sec (i : Nat) (f : Handle → Handle) (s : State) : (updHandle i f s).sec = s.sec := rfl
@[simp] theorem updSub_sec (k : Nat) (f : Subport → Subport) (s : State) : (updSub k f s).sec = s.sec := rfl

@[simp] theorem dropHead_secKeys (i : Nat) (s : State) : (dropHead i s).sec.keys = s.sec.keys := by
  simp only [dropHead, secKeys_ite, setHandle_sec, ite_self]

@[simp] theorem giveCells_secKeys (g : Nat) (spill : Bool) (cs : List Nat) (s : State) : (giveCells g spill cs s).sec.keys = s.sec.keys := by
  simp only [giveCells, secKeys_ite, setGroup_sec, ite_self]

@[simp] theorem dischargeUse_sec (o d n : Nat) (p : Pay) (s : State) : (dischargeUse o d n p s).sec = s.sec := by
  cases p <;> rfl

@[simp] theorem progress_secKeys (w : Thread → Bool) (s : State) : (progress w s).sec.keys = s.sec.keys := by
  have hmark (a : State) (k : Nat) : (markProgress k a).sec.keys = a.sec.keys := rfl
  exact secKeys_foldl hmark _ _

@[simp] theorem freeSlots_secKeys (i : Nat) (slots : List Nat) (s : State) : (freeSlots i slots s).sec.keys = s.sec.keys := by
  simp only [freeSlots, secKeys_ite, setHandle_sec, dischargeUse_sec, giveCells_secKeys, implies_true, secKeys_foldl, ite_self,
    progress_secKeys]

@[simp] theorem freeHandle_secKeys (i : Nat) (s : State) : (freeHandle i s).sec.keys = s.sec.keys := by
  simp only [freeHandle, releaseIndex, secKeys_ite, updHandle_sec, dropHead_secKeys, freeSlots_secKeys, ite_self]

@[simp] theorem dropRefWord_secKeys (h : HandleWord) (s : State) : (dropRefWord h s).sec.keys = s.sec.keys := by
  simp only [dropRefWord, noteStale, dropRef, noteRefError, secKeys_ite, raise_secKeys, count_sec, setFlag_sec, freeHandle_secKeys,
    setHandle_sec, ite_self]

@[simp] theorem dropCopy_secKeys (c : Copy) (s : State) : (dropCopy c s).sec.keys = s.sec.keys := by
  simp only [dropCopy, leavePrefetch, dropRefWord_secKeys, secKeys_ite, ite_self]

@[simp] theorem discardQueues_secKeys (k : Nat) (s : State) : (discardQueues k s).sec.keys = s.sec.keys := by
  simp only [discardQueues, dropCopy_secKeys, count_sec, implies_true, secKeys_foldl, setQueue_sec]

@[simp] theorem linkDown_secKeys (k : Nat) (s : State) : (linkDown k s).sec.keys = s.sec.keys := by
  simp only [linkDown, updSub_sec, secKeys_ite, discardQueues_secKeys, raise_secKeys, ite_self]

@[simp] theorem disablePort_secKeys (p : Nat) (s : State) : (disablePort p s).sec.keys = s.sec.keys := by
  simp only [disablePort, setPort_sec, linkDown_secKeys, implies_true, secKeys_foldl]

@[simp] theorem fillRings_secKeys (g : Nat) (s : State) : (fillRings g s).sec.keys = s.sec.keys := by
  simp only [fillRings, setGroup_sec, dramWrite_secKeys]

/-! ### Contexts -/

@[simp] theorem noteCorrected_secKeys (memory n : Nat) (s : State) : (noteCorrected memory n s).sec.keys = s.sec.keys := by
  simp only [noteCorrected, secKeys_ite, raiseFirst_secKeys, bumpTotal_sec, setFlag_sec, ite_self]

@[simp] theorem poisonCtxLine_secKeys (c l : Nat) (s : State) : (poisonCtxLine c l s).sec.keys = s.sec.keys := by
  simp only [poisonCtxLine, raise_secKeys, bumpTotal_sec, setFlag_sec]

@[simp] theorem checkCtx_secKeys (c off n : Nat) (s : State) : (checkCtx c off n s).sec.keys = s.sec.keys := by
  simp only [checkCtx, secKeys_ite, poisonCtxLine_secKeys, implies_true, secKeys_foldl, noteCorrected_secKeys, ite_self]

@[simp] theorem ctxWriteBack_secKeys (c : Nat) (s : State) : (ctxWriteBack c s).sec.keys = s.sec.keys := by
  unfold ctxWriteBack
  split
  · rfl
  · exact checkCtx_secKeys c 0 256 s

@[simp] theorem ctxDiscard_sec (c : Nat) (s : State) : (ctxDiscard c s).sec = s.sec := by
  unfold ctxDiscard
  split <;> rfl

@[simp] theorem fenceContext_secKeys (c : Nat) (s : State) : (fenceContext c s).sec.keys = s.sec.keys := by
  simp only [fenceContext, secKeys_ite, raise_secKeys, setFlag_sec, ctxDiscard_sec, ctxWriteBack_secKeys, ite_self]

/-! ### Threads and freezes -/

@[simp] theorem updThr_sec (t : Nat) (f : Thread → Thread) (s : State) : (updThr t f s).sec = s.sec := rfl

@[simp] theorem walk_secKeys (core : Nat) (s : State) : (walk core s).sec.keys = s.sec.keys := by
  unfold walk
  split
  · rfl
  · split
    · rfl
    · simp only [trace_secKeys, count_sec, updThr_sec]

/-- Each kind of wait leaves another list, none of them in the key store. -/
@[simp] theorem leaveWait_sec (t : Nat) (s : State) : (leaveWait t s).sec = s.sec := by
  unfold leaveWait
  cases (thr s t).stall <;> rfl

@[simp] theorem enterHandler_secKeys (t : Nat) (cause : BitVec 6) (s : State) : (enterHandler t cause s).sec.keys = s.sec.keys := by
  simp only [enterHandler, walk_secKeys, updThr_sec, leaveWait_sec]

@[simp] theorem thawThread_secKeys (t : Nat) (s : State) : (thawThread t s).sec.keys = s.sec.keys := by
  simp only [thawThread, takeTerminated, secKeys_ite, walk_secKeys, setThr_sec, enterHandler_secKeys, updThr_sec, ite_self]

@[simp] theorem markFrozen_secKeys (scope index : Nat) (on : Bool) (s : State) : (markFrozen scope index on s).sec.keys = s.sec.keys := by
  unfold markFrozen
  split <;> rfl

@[simp] theorem addDebugCounters_secKeys (s : State) : (addDebugCounters s).sec.keys = s.sec.keys := by
  unfold addDebugCounters
  rw [secKeys_foldl]
  exact fun _ _ => rfl

@[simp] theorem ptpStepped_secKeys (s : State) : (ptpStepped s).sec.keys = s.sec.keys := by
  simp only [ptpStepped, raise_secKeys, secKeys_ite, setFlag_sec, updSheets_sec, ite_self]

@[simp] theorem releaseScope_secKeys (scope index : Nat) (s : State) : (releaseScope scope index s).sec.keys = s.sec.keys := by
  simp only [releaseScope, secKeys_ite, ptpStepped_secKeys, addDebugCounters_secKeys, trace_secKeys, raise_secKeys, setFlag_sec,
    thawThread_secKeys, implies_true, secKeys_foldl, markFrozen_secKeys, ite_self]

@[simp] theorem stepEnds_secKeys (s : State) : (stepEnds s).sec.keys = s.sec.keys := by
  unfold stepEnds
  split
  · rfl
  · exact finishCmd_secKeys _ _ _ _ _

@[simp] theorem releaseAll_secKeys (s : State) : (releaseAll s).sec.keys = s.sec.keys := by
  simp only [releaseAll, releaseScope_secKeys, implies_true, secKeys_foldl, secKeys_ite, ite_self, stepEnds_secKeys]

@[simp] theorem endStops_secKeys (s : State) : (endStops s).sec.keys = s.sec.keys := releaseAll_secKeys s

/-! ### What the levels clear -/

theorem l2Datapath_secKeys (s : State) : (l2Datapath s).sec.keys = s.sec.keys := by
  simp only [l2Datapath, updSheets_sec, secKeys_ite, fillRings_secKeys, ite_self, implies_true, secKeys_foldl, disablePort_secKeys]

@[simp] theorem noteLink_secKeys (s : State) : (noteLink s).sec.keys = s.sec.keys := by
  simp only [noteLink, secKeys_ite, raise_secKeys, setFlag_sec, ite_self]

@[simp] theorem noteL2Locks_secKeys (s : State) : (noteL2Locks s).sec.keys = s.sec.keys := by
  simp only [noteL2Locks, secKeys_ite, raiseFirst_secKeys, count_sec, setFlag_sec, ite_self]

theorem l2Cores_secKeys (s : State) : (l2Cores s).sec.keys = s.sec.keys := by
  simp only [l2Cores, noteL2Locks_secKeys, updDisp_sec, endStops_secKeys, fenceContext_secKeys, implies_true, secKeys_foldl,
    noteLink_secKeys]

theorem l2Clear_secKeys (s : State) : (l2Clear s).sec.keys = s.sec.keys := by
  rw [l2Clear, l2Datapath_secKeys, l2Cores_secKeys]

/-- DRAM enters self-refresh first; the state then built takes its key slots over. -/
theorem l3Clear_secKeys (s : State) : (l3Clear s).sec.keys = s.sec.keys :=
  secKeys_foldl (fun a c => enterSelfRefresh_secKeys c a) (List.range 8) s

theorem l4Clear_secKeys (s : State) : (l4Clear s).sec.keys = [] := rfl

theorem clearLevel_two (s : State) : clearLevel 2 s = l2Clear s := rfl
theorem clearLevel_three (s : State) : clearLevel 3 s = l3Clear s := rfl
theorem clearLevel_four (s : State) : clearLevel 4 s = l4Clear s := rfl

/-- The state that the level of an asserted source clears: the source recorded, and the level taken. -/
def resetTaken (level src : Nat) (s : State) : State :=
  updPow (fun p => { p with level := level, since := if p.exiting then p.since ||| p.cause else p.since })
    (updPow (fun p => { p with since := p.since ||| BitVec.ofNat 7 (2 ^ src) }) s)

@[simp] theorem resetTaken_sec (level src : Nat) (s : State) : (resetTaken level src s).sec = s.sec := rfl

@[simp] theorem updPow_pow (f : Power → Power) (s : State) : (updPow f s).pow = f s.pow := rfl

/-- A source that no wider level absorbs: the key slots are those its level leaves (R661). -/
theorem assertReset_secKeys {level : Nat} (src : Nat) {s : State} (h : s.pow.level ≤ level) :
    (assertReset level src s).sec.keys = (clearLevel level (resetTaken level src s)).sec.keys := by
  have hwider : ¬ level < s.pow.level := Nat.not_lt.mpr h
  unfold assertReset
  simp only [updPow_pow, hwider, if_false, secKeys_ite, updPow_sec, ite_self]
  rfl

/-- Settles O60 (R703): each clause is what its level clears, taken over to the assertion of a source of that level. -/
theorem keySlotsLastUntilL4 : Obligations.KeySlotsLastUntilL4 := by
  unfold Obligations.KeySlotsLastUntilL4
  refine ⟨fun s src h => ?_, fun s src h => ?_, fun s src h => ?_⟩
  · rw [assertReset_secKeys src h, clearLevel_two, l2Clear_secKeys, resetTaken_sec]
  · rw [assertReset_secKeys src h, clearLevel_three, l3Clear_secKeys, resetTaken_sec]
  · rw [assertReset_secKeys src h, clearLevel_four, l4Clear_secKeys]

end Sys2Proof.Machine
end

section
/-!
PROOFS. What every command keeps, gathered from the lemma of each command: the commands waiting behind it, canonical memories, and fuses
that only advance.
-/
namespace Sys2Proof.Machine

/-- Whatever the command, its next state keeps the queue, canonical memories and the fuses. The sheet number and the key slots are left out
of the comparison, for SHEET_SET, the tick and the commands of Key slots change them. -/
theorem exec_keeps {b : State} : ∀ (i : Instr) (s : State), Keeps ⟨b, false, false⟩ s → KeepsR ⟨b, false, false⟩ (exec i s)
  | .deviceQuery _, _, k => execDeviceQuery_keeps _ _ k
  | .completionQueueSet _, _, k => execCompletionQueueSet_keeps _ _ k
  | .eventQueueSet _, _, k => execEventQueueSet_keeps _ _ k
  | .eventMask _, _, k => execEventMask_keeps _ _ k
  | .msixMap _, _, k => execMsixMap_keeps _ _ k
  | .fwRegionSet _, _, k => execFwRegionSet_keeps _ _ k
  | .exrSet _, _, k => execExrSet_keeps _ _ k
  | .injSet _, _, k => execInjSet_keeps _ _ k
  | .ringStatus _, _, k => execRingStatus_keeps _ _ k
  | .hostCounters _, _, k => execHostCounters_keeps _ _ k
  | .echo _, _, k => execEcho_keeps _ _ k
  | .portConfig _, _, k => execPortConfig_keeps _ _ k
  | .portEnable _, _, k => execPortEnable_keeps _ _ k
  | .portStatus _, _, k => execPortStatus_keeps _ _ k
  | .portCounters _, _, k => execPortCounters_keeps _ _ k
  | .pfcConfig _, _, k => execPfcConfig_keeps _ _ k
  | .ptpSetTime _, _, k => execPtpSetTime_keeps _ _ k
  | .ptpStep _, _, k => execPtpStep_keeps _ _ k
  | .ptpFreq _, _, k => execPtpFreq_keeps _ _ k
  | .ptpQuery _, _, k => execPtpQuery_keeps _ _ k
  | .ptpPortDelay _, _, k => execPtpPortDelay_keeps _ _ k
  | .ppsConfig _, _, k => execPpsConfig_keeps _ _ k
  | .txTimestampRead _, _, k => execTxTimestampRead_keeps _ _ k
  | .clockRefSelect _, _, k => execClockRefSelect_keeps _ _ k
  | .pipeConfig _, _, k => execPipeConfig_keeps _ _ k
  | .parseNodeWrite _, _, k => execParseNodeWrite_keeps _ _ k
  | .parseTransitionWrite _, _, k => execParseTransitionWrite_keeps _ _ k
  | .keyFieldWrite _, _, k => execKeyFieldWrite_keeps _ _ k
  | .ruleRead _, _, k => execRuleRead_keeps _ _ k
  | .actionLoad _, _, k => execActionLoad_keeps _ _ k
  | .meterProfileLoad _, _, k => execMeterProfileLoad_keeps _ _ k
  | .meterReset _, _, k => execMeterReset_keeps _ _ k
  | .classifierCounters _, _, k => execClassifierCounters_keeps _ _ k
  | .ruleCounters _, _, k => execRuleCounters_keeps _ _ k
  | .meterCounters _, _, k => execMeterCounters_keeps _ _ k
  | .vatGroupConfig _, _, k => execVatGroupConfig_keeps _ _ k
  | .drawerConfig _, _, k => execDrawerConfig_keeps _ _ k
  | .cabinetInit _, _, k => execCabinetInit_keeps _ _ k
  | .cabinetSeed _, _, k => execCabinetSeed_keeps _ _ k
  | .ownerProfileLoad _, _, k => execOwnerProfileLoad_keeps _ _ k
  | .redProfileLoad _, _, k => execRedProfileLoad_keeps _ _ k
  | .schedProfileLoad _, _, k => execSchedProfileLoad_keeps _ _ k
  | .egressMapLoad _, _, k => execEgressMapLoad_keeps _ _ k
  | .ownerStatus _, _, k => execOwnerStatus_keeps _ _ k
  | .ownerCounters _, _, k => execOwnerCounters_keeps _ _ k
  | .queueCounters _, _, k => execQueueCounters_keeps _ _ k
  | .drawerStatus _, _, k => execDrawerStatus_keeps _ _ k
  | .cabinetCounters _, _, k => execCabinetCounters_keeps _ _ k
  | .handleQuery _, _, k => execHandleQuery_keeps _ _ k
  | .programWrite _, _, k => execProgramWrite_keeps _ _ k
  | .programLoadDma _ _, _, k => execProgramLoadDma_keeps _ _ _ k
  | .programRead _, _, k => execProgramRead_keeps _ _ k
  | .entryLoad _, _, k => execEntryLoad_keeps _ _ k
  | .dispatchMapLoad _, _, k => execDispatchMapLoad_keeps _ _ k
  | .doorbellRoute _, _, k => execDoorbellRoute_keeps _ _ k
  | .domainStatus _, _, k => execDomainStatus_keeps _ _ k
  | .contextStatus _, _, k => execContextStatus_keeps _ _ k
  | .contextRead _, _, k => execContextRead_keeps _ _ k
  | .contextWrite _, _, k => execContextWrite_keeps _ _ k
  | .dispatchCounters _, _, k => execDispatchCounters_keeps _ _ k
  | .clusterFence _, _, k => execClusterFence_keeps _ _ k
  | .windowConfig _, _, k => execWindowConfig_keeps _ _ k
  | .windowQuery _, _, k => execWindowQuery_keeps _ _ k
  | .dmemWrite _, _, k => execDmemWrite_keeps _ _ k
  | .dmemRead _, _, k => execDmemRead_keeps _ _ k
  | .slotTableSet _, _, k => execSlotTableSet_keeps _ _ k
  | .supervisorSet _, _, k => execSupervisorSet_keeps _ _ k
  | .threadStatus _, _, k => execThreadStatus_keeps _ _ k
  | .threadReset _, _, k => execThreadReset_keeps _ _ k
  | .coreCounters _, _, k => execCoreCounters_keeps _ _ k
  | .lockTry _, _, k => execLockTry_keeps _ _ k
  | .lockRelease _, _, k => execLockRelease_keeps _ _ k
  | .lockQuery _, _, k => execLockQuery_keeps _ _ k
  | .lockBreak _, _, k => execLockBreak_keeps _ _ k
  | .channelConfig _, _, k => execChannelConfig_keeps _ _ k
  | .channelPost _, _, k => execChannelPost_keeps _ _ k
  | .channelTake _, _, k => execChannelTake_keeps _ _ k
  | .channelStatus _, _, k => execChannelStatus_keeps _ _ k
  | .dovetailCounters _, _, k => execDovetailCounters_keeps _ _ k
  | .emTableConfig _, _, k => execEmTableConfig_keeps _ _ k
  | .tableEnable _, _, k => execTableEnable_keeps _ _ k
  | .learnConfig _, _, k => execLearnConfig_keeps _ _ k
  | .flowTableConfig _, _, k => execFlowTableConfig_keeps _ _ k
  | .entryWrite _, _, k => execEntryWrite_keeps _ _ k
  | .entryDelete _, _, k => execEntryDelete_keeps _ _ k
  | .entryLookup _, _, k => execEntryLookup_keeps _ _ k
  | .entryRead _, _, k => execEntryRead_keeps _ _ k
  | .tableFlush _, _, k => execTableFlush_keeps _ _ k
  | .flapRelease _, _, k => execFlapRelease_keeps _ _ k
  | .trieConfig _, _, k => execTrieConfig_keeps _ _ k
  | .routeAdd _, _, k => execRouteAdd_keeps _ _ k
  | .routeDelete _, _, k => execRouteDelete_keeps _ _ k
  | .routeLookup _, _, k => execRouteLookup_keeps _ _ k
  | .trieStatus _, _, k => execTrieStatus_keeps _ _ k
  | .noticeRead _, _, k => execNoticeRead_keeps _ _ k
  | .lookupCounters _, _, k => execLookupCounters_keeps _ _ k
  | .wmStreamLoad _, _, k => execWmStreamLoad_keeps _ _ k
  | .copFence _, _, k => execCopFence_keeps _ _ k
  | .copStatus _, _, k => execCopStatus_keeps _ _ k
  | .copCounters _, _, k => execCopCounters_keeps _ _ k
  | .compConfig _, _, k => execCompConfig_keeps _ _ k
  | .compEnable _, _, k => execCompEnable_keeps _ _ k
  | .compStatus _, _, k => execCompStatus_keeps _ _ k
  | .compWindowSet _, _, k => execCompWindowSet_keeps _ _ k
  | .compEventRoute _, _, k => execCompEventRoute_keeps _ _ k
  | .compCounters _, _, k => execCompCounters_keeps _ _ k
  | .storeCfgAccess _ _ _, _, k => execStoreCfgAccess_keeps _ _ _ _ k
  | .storeLink _, _, k => execStoreLink_keeps _ _ k
  | .storeControllerAdd _ _, _, k => execStoreControllerAdd_keeps _ _ _ k
  | .storeAdmin _ _ _, _, k => execStoreAdmin_keeps _ _ _ _ k
  | .storeMemberSet _, _, k => execStoreMemberSet_keeps _ _ k
  | .storeSet _ _, _, k => execStoreSet_keeps _ _ _ k
  | .storeRead _ _ _, _, k => execStoreRead_keeps _ _ _ _ k
  | .storeRelease _, _, k => execStoreRelease_keeps _ _ k
  | .evidenceConfig _, _, k => execEvidenceConfig_keeps _ _ k
  | .laneConfig _, _, k => execLaneConfig_keeps _ _ k
  | .evidenceRun _, _, k => execEvidenceRun_keeps _ _ k
  | .commitRoute _, _, k => execCommitRoute_keeps _ _ k
  | .streamOpen _, _, k => execStreamOpen_keeps _ _ k
  | .streamClose _, _, k => execStreamClose_keeps _ _ k
  | .streamKey _, _, k => execStreamKey_keeps _ _ k
  | .streamQuery _, _, k => execStreamQuery_keeps _ _ k
  | .evidenceStatus _, _, k => execEvidenceStatus_keeps _ _ k
  | .evidenceCounters _, _, k => execEvidenceCounters_keeps _ _ k
  | .dramPopulation _, _, k => execDramPopulation_keeps _ _ k
  | .dramTiming _, _, k => execDramTiming_keeps _ _ k
  | .dramRangeSet _, _, k => execDramRangeSet_keeps _ _ k
  | .dramTrain _ _ _, _, k => execDramTrain_keeps _ _ _ _ k
  | .dramStart _, _, k => execDramStart_keeps _ _ k
  | .dramSched _, _, k => execDramSched_keeps _ _ k
  | .dramRefresh _, _, k => execDramRefresh_keeps _ _ k
  | .dramEcc _, _, k => execDramEcc_keeps _ _ k
  | .dramReserve _, _, k => execDramReserve_keeps _ _ k
  | .dramFence _, _, k => execDramFence_keeps _ _ k
  | .dramStatus _, _, k => execDramStatus_keeps _ _ k
  | .dramCounters _, _, k => execDramCounters_keeps _ _ k
  | .dramErrorLog _, _, k => execDramErrorLog_keeps _ _ k
  | .chipReset _, _, k => execChipReset_keeps _ _ k
  | .datapathReset _, _, k => execDatapathReset_keeps _ _ k
  | .coreReset _, _, k => execCoreReset_keeps _ _ k
  | .powerTolerance _, _, k => execPowerTolerance_keeps _ _ k
  | .powerPolicy _, _, k => execPowerPolicy_keeps _ _ k
  | .powerFail _, _, k => execPowerFail_keeps _ _ k
  | .powerStatus _, _, k => execPowerStatus_keeps _ _ k
  | .gpioConfig _, _, k => execGpioConfig_keeps _ _ k
  | .lifecycleAdvance _, _, k => execLifecycleAdvance_keeps _ _ k
  | .fuseProgram _, _, k => execFuseProgram_keeps _ _ k
  | .fwKeyRevoke _, _, k => execFwKeyRevoke_keeps _ _ k
  | .rollbackAdvance _, _, k => execRollbackAdvance_keeps _ _ k
  | .securityQuery _, _, k => execSecurityQuery_keeps _ _ k
  | .keyGenerate _, _, k => execKeyGenerate_keeps _ _ rfl k
  | .keyImport _, _, k => execKeyImport_keeps _ _ rfl k
  | .keyDelete _, _, k => execKeyDelete_keeps _ _ rfl k
  | .keyQuery _, _, k => execKeyQuery_keeps _ _ k
  | .keyLoadPlain _, _, k => execKeyLoadPlain_keeps _ _ rfl k
  | .debugChallenge _, _, k => execDebugChallenge_keeps _ _ k
  | .debugUnlock _, _, k => execDebugUnlock_keeps _ _ k
  | .debugAttach _, _, k => execDebugAttach_keeps _ _ k
  | .debugHalt _, _, k => execDebugHalt_keeps _ _ k
  | .debugRelease _, _, k => execDebugRelease_keeps _ _ k
  | .debugStep _, _, k => execDebugStep_keeps _ _ k
  | .threadRegRead _, _, k => execThreadRegRead_keeps _ _ k
  | .threadRegWrite _, _, k => execThreadRegWrite_keeps _ _ k
  | .breakpointSet _, _, k => execBreakpointSet_keeps _ _ k
  | .traceConfig _, _, k => execTraceConfig_keeps _ _ k
  | .traceStatus _, _, k => execTraceStatus_keeps _ _ k
  | .debugCounters _, _, k => execDebugCounters_keeps _ _ k
  | .dumpRead _, _, k => execDumpRead_keeps _ _ k
  | .dumpClear _, _, k => execDumpClear_keeps _ _ k
  | .dumpQuery _, _, k => execDumpQuery_keeps _ _ k
  | .sheetSet _, _, k => execSheetSet_keeps _ _ rfl k
  | .sheetStart _, _, k => execSheetStart_keeps _ _ k
  | .sheetAlign _, _, k => execSheetAlign_keeps _ _ k
  | .sheetQuery _, _, k => execSheetQuery_keeps _ _ k
  | .sheetNext _, _, k => execSheetNext_keeps _ _ k
  | .tickSubscribe _, _, k => execTickSubscribe_keeps _ _ k
  | .furnishBegin _, _, k => execFurnishBegin_keeps _ _ k
  | .furnishCloseUnit _, _, k => execFurnishCloseUnit_keeps _ _ k
  | .furnishCommit _, _, k => execFurnishCommit_keeps _ _ k
  | .furnishAbort _, _, k => execFurnishAbort_keeps _ _ k
  | .furnishStatus _, _, k => execFurnishStatus_keeps _ _ k
  | .lateCounters _, _, k => execLateCounters_keeps _ _ k
  | .mbxGo _, _, k => execMbxGo_keeps _ _ k
  | .cqHeldCompletion, _, k => execCqHeldCompletion_keeps _ k
  | .doorbell _ _, _, k => execDoorbell_keeps _ _ _ k
  | .cqHeadWrite _, _, k => execCqHeadWrite_keeps _ _ k
  | .eqHeadWrite _, _, k => execEqHeadWrite_keeps _ _ k
  | .exrHeadWrite _ _, _, k => execExrHeadWrite_keeps _ _ _ k
  | .injTailWrite _ _, _, k => execInjTailWrite_keeps _ _ _ k
  | .sheetNowLoRead, _, k => execSheetNowLoRead_keeps _ k
  | .dLoRead, _, k => execDLoRead_keeps _ k
  | .rcRead _, _, k => execRcRead_keeps _ _ k
  | .ruleValidWrite _ _ _, _, k => execRuleValidWrite_keeps _ _ _ _ k
  | .comparatorValidWrite _ _ _, _, k => execComparatorValidWrite_keeps _ _ _ _ k
  | .bootCtrlGo _, _, k => execBootCtrlGo_keeps _ _ k
  | .diagWindowRead _, _, k => execDiagWindowRead_keeps _ _ k
  | .diagWindowWrite _ _, _, k => execDiagWindowWrite_keeps _ _ _ rfl k
  | .registerWrite _ _ _, _, k => execRegisterWrite_keeps _ _ _ _ rfl k
  | .msixMessage _, _, k => execMsixMessage_keeps _ _ k
  | .eventMergedPost, _, k => execEventMergedPost_keeps _ k
  | .hostifReset, _, k => execHostifReset_keeps _ k
  | .hostifResetEnd, _, k => execHostifResetEnd_keeps _ k
  | .porstNAssert, _, k => execPorstNAssert_keeps _ k
  | .porstNRelease _ _, _, k => execPorstNRelease_keeps _ _ _ k
  | .rstNAssert, _, k => execRstNAssert_keeps _ k
  | .rstNRelease, _, k => execRstNRelease_keeps _ k
  | .l2Exit, _, k => execL2Exit_keeps _ k
  | .bootImageLoaded _, _, k => execBootImageLoaded_keeps _ _ k
  | .mpWatchdogExpiry, _, k => execMpWatchdogExpiry_keeps _ k
  | .pfailNFall, _, k => execPfailNFall_keeps _ k
  | .flushComplete _ _, _, k => execFlushComplete_keeps _ _ _ k
  | .flushAllowExpiry, _, k => execFlushAllowExpiry_keeps _ k
  | .pfailNRise, _, k => execPfailNRise_keeps _ k
  | .ppsInEdge _, _, k => execPpsInEdge_keeps _ _ k
  | .ppsOutPulse _, _, k => execPpsOutPulse_keeps _ _ k
  | .ref10mLoss, _, k => execRef10mLoss_keeps _ k
  | .ref10mRelock, _, k => execRef10mRelock_keeps _ k
  | .sheetTick, _, k => execSheetTick_keeps _ rfl k
  | .alignTakesEffect, _, k => execAlignTakesEffect_keeps _ k
  | .lateOrdinary _ _, _, k => execLateOrdinary_keeps _ _ _ k
  | .lateLossless _ _, _, k => execLateLossless_keeps _ _ _ k
  | .ceiling _ _, _, k => execCeiling_keeps _ _ _ k
  | .ceilingXon _ _, _, k => execCeilingXon_keeps _ _ _ k
  | .furnishConfirmAsk _ _, _, k => execFurnishConfirmAsk_keeps _ _ _ k
  | .furnishSwitch, _, k => execFurnishSwitch_keeps _ k
  | .furnishRetire, _, k => execFurnishRetire_keeps _ k
  | .xoffRelease _, _, k => execXoffRelease_keeps _ _ k
  | .budgetModeEnd _, _, k => execBudgetModeEnd_keeps _ _ k
  | .residueDrop _ _, _, k => execResidueDrop_keeps _ _ _ k
  | .exrResidue _, _, k => execExrResidue_keeps _ _ k
  | .allwaitDetection _, _, k => execAllwaitDetection_keeps _ _ k
  | .frameReceive _ _ _ _, _, k => execFrameReceive_keeps _ _ _ _ _ k
  | .exceptionCopyWrite _, _, k => execExceptionCopyWrite_keeps _ _ k
  | .pfcFrameReceive _ _ _, _, k => execPfcFrameReceive_keeps _ _ _ _ k
  | .pfcPauseExpiry _ _, _, k => execPfcPauseExpiry_keeps _ _ _ k
  | .pfcRefreshExpiry _, _, k => execPfcRefreshExpiry_keeps _ _ k
  | .linkUp _, _, k => execLinkUp_keeps _ _ k
  | .linkDown _, _, k => execLinkDown_keeps _ _ k
  | .linkTrainingTimeout _, _, k => execLinkTrainingTimeout_keeps _ _ k
  | .laneLost _ _, _, k => execLaneLost_keeps _ _ _ k
  | .laneRegained _ _, _, k => execLaneRegained_keeps _ _ _ k
  | .injectionFetch _ _ _, _, k => execInjectionFetch_keeps _ _ _ _ k
  | .frameBoundary _, _, k => execFrameBoundary_keeps _ _ k
  | .transmitEnd _ _, _, k => execTransmitEnd_keeps _ _ _ k
  | .refillComplete _ _ _, _, k => execRefillComplete_keeps _ _ _ _ k
  | .panicChange, _, k => execPanicChange_keeps _ k
  | .freeRingRefill _ _, _, k => execFreeRingRefill_keeps _ _ _ k
  | .drawerGrant _, _, k => execDrawerGrant_keeps _ _ k
  | .threadOffer _, _, k => execThreadOffer_keeps _ _ k
  | .multiplyLand _, _, k => execMultiplyLand_keeps _ _ k
  | .storeBufferDrain _, _, k => execStoreBufferDrain_keeps _ _ k
  | .dramReadComplete _, _, k => execDramReadComplete_keeps _ _ k
  | .cabinetAnswer _, _, k => execCabinetAnswer_keeps _ _ k
  | .lookupComplete _, _, k => execLookupComplete_keeps _ _ k
  | .shadowRewrite _, _, k => execShadowRewrite_keeps _ _ k
  | .nodeReclaim, _, k => execNodeReclaim_keeps _ k
  | .unpin _, _, k => execUnpin_keeps _ _ k
  | .ageOut _, _, k => execAgeOut_keeps _ _ k
  | .unitDone _ _, _, k => execUnitDone_keeps _ _ _ k
  | .opDone _, _, k => execOpDone_keeps _ _ k
  | .rdReq _, _, k => execRdReq_keeps _ _ k
  | .wrReq _, _, k => execWrReq_keeps _ _ k
  | .eventFlit _, _, k => execEventFlit_keeps _ _ k
  | .pktFlit _, _, k => execPktFlit_keeps _ _ k
  | .trainFlit _, _, k => execTrainFlit_keeps _ _ k
  | .nakFlit _, _, k => execNakFlit_keeps _ _ k
  | .idleFlit _, _, k => execIdleFlit_keeps _ _ k
  | .tabinoTrainingTimeout, _, k => execTabinoTrainingTimeout_keeps _ k
  | .opTimeout _, _, k => execOpTimeout_keeps _ _ k
  | .stripeForm _, _, k => execStripeForm_keeps _ _ k
  | .nvmeCompletion _ _, _, k => execNvmeCompletion_keeps _ _ _ k
  | .ioTimeout _, _, k => execIoTimeout_keeps _ _ k
  | .sealTake, _, k => execSealTake_keeps _ k
  | .durableAdvance, _, k => execDurableAdvance_keeps _ k
  | .exposureXoff, _, k => execExposureXoff_keeps _ k
  | .refreshIssue _, _, k => execRefreshIssue_keeps _ _ k
  | .zqCalibration channel, s, k => execZqCalibration_keeps channel s k
  | .patrolScrub _ _, _, k => execPatrolScrub_keeps _ _ _ k
  | .dramRead _ _, _, k => execDramRead_keeps _ _ _ k
  | .selfRefreshEntry _, _, k => execSelfRefreshEntry_keeps _ _ k
  | .selfRefreshWake _, _, k => execSelfRefreshWake_keeps _ _ k
  | .selfRefreshExit _ _ _, _, k => execSelfRefreshExit_keeps _ _ _ _ k
  | .thermalRewake _, _, k => execThermalRewake_keeps _ _ k
  | .powerStateEntry, _, k => execPowerStateEntry_keeps _ k
  | .wakeUp _, _, k => execWakeUp_keeps _ _ k
  | .thermalSample _, _, k => execThermalSample_keeps _ _ k
  | .supplyFault _ _, _, k => execSupplyFault_keeps _ _ _ k
  | .watchdogExpiry _, _, k => execWatchdogExpiry_keeps _ _ k
  | .clusterFaultTimeout _, _, k => execClusterFaultTimeout_keeps _ _ k
  | .instructionRewrite _ _, _, k => execInstructionRewrite_keeps _ _ _ k
  | .fatalError _, _, k => execFatalError_keeps _ _ k
  | .challengeExpiry, _, k => execChallengeExpiry_keeps _ k
  | .breakpointMatch _, _, k => execBreakpointMatch_keeps _ _ k
  | .stepLimit _, _, k => execStepLimit_keeps _ _ k
  | .add _ _ _ _ _, _, k => execAdd_keeps _ _ _ _ _ _ k
  | .sub _ _ _ _ _, _, k => execSub_keeps _ _ _ _ _ _ k
  | .and _ _ _ _ _, _, k => execAnd_keeps _ _ _ _ _ _ k
  | .or _ _ _ _ _, _, k => execOr_keeps _ _ _ _ _ _ k
  | .xor _ _ _ _ _, _, k => execXor_keeps _ _ _ _ _ _ k
  | .nor _ _ _ _ _, _, k => execNor_keeps _ _ _ _ _ _ k
  | .andn _ _ _ _ _, _, k => execAndn_keeps _ _ _ _ _ _ k
  | .sll _ _ _ _ _, _, k => execSll_keeps _ _ _ _ _ _ k
  | .srl _ _ _ _ _, _, k => execSrl_keeps _ _ _ _ _ _ k
  | .sra _ _ _ _ _, _, k => execSra_keeps _ _ _ _ _ _ k
  | .rol _ _ _ _ _, _, k => execRol_keeps _ _ _ _ _ _ k
  | .slt _ _ _ _ _, _, k => execSlt_keeps _ _ _ _ _ _ k
  | .sltu _ _ _ _ _, _, k => execSltu_keeps _ _ _ _ _ _ k
  | .min _ _ _ _ _, _, k => execMin_keeps _ _ _ _ _ _ k
  | .max _ _ _ _ _, _, k => execMax_keeps _ _ _ _ _ _ k
  | .minu _ _ _ _ _, _, k => execMinu_keeps _ _ _ _ _ _ k
  | .maxu _ _ _ _ _, _, k => execMaxu_keeps _ _ _ _ _ _ k
  | .clz _ _ _ _ _, _, k => execClz_keeps _ _ _ _ _ _ k
  | .ctz _ _ _ _ _, _, k => execCtz_keeps _ _ _ _ _ _ k
  | .popc _ _ _ _ _, _, k => execPopc_keeps _ _ _ _ _ _ k
  | .bswap _ _ _ _ _, _, k => execBswap_keeps _ _ _ _ _ _ k
  | .addi _ _ _ _ _, _, k => execAddi_keeps _ _ _ _ _ _ k
  | .andi _ _ _ _ _, _, k => execAndi_keeps _ _ _ _ _ _ k
  | .ori _ _ _ _ _, _, k => execOri_keeps _ _ _ _ _ _ k
  | .xori _ _ _ _ _, _, k => execXori_keeps _ _ _ _ _ _ k
  | .slti _ _ _ _ _, _, k => execSlti_keeps _ _ _ _ _ _ k
  | .sltiu _ _ _ _ _, _, k => execSltiu_keeps _ _ _ _ _ _ k
  | .lui _ _ _ _, _, k => execLui_keeps _ _ _ _ _ k
  | .slli _ _ _ _ _ _, _, k => execSlli_keeps _ _ _ _ _ _ _ k
  | .srli _ _ _ _ _ _, _, k => execSrli_keeps _ _ _ _ _ _ _ k
  | .srai _ _ _ _ _ _, _, k => execSrai_keeps _ _ _ _ _ _ _ k
  | .roli _ _ _ _ _ _, _, k => execRoli_keeps _ _ _ _ _ _ _ k
  | .extu _ _ _ _ _ _, _, k => execExtu_keeps _ _ _ _ _ _ _ k
  | .exts _ _ _ _ _ _, _, k => execExts_keeps _ _ _ _ _ _ _ k
  | .ins _ _ _ _ _ _, _, k => execIns_keeps _ _ _ _ _ _ _ k
  | .mfs _ _ _ _ _, _, k => execMfs_keeps _ _ _ _ _ _ k
  | .mts _ _ _ _ _, _, k => execMts_keeps _ _ _ _ _ _ k
  | .mul _ _ _ _ _, _, k => execMul_keeps _ _ _ _ _ _ k
  | .mulu _ _ _ _ _, _, k => execMulu_keeps _ _ _ _ _ _ k
  | .clmul _ _ _ _ _, _, k => execClmul_keeps _ _ _ _ _ _ k
  | .gfm8 _ _ _ _ _, _, k => execGfm8_keeps _ _ _ _ _ _ k
  | .gfm16 _ _ _ _ _, _, k => execGfm16_keeps _ _ _ _ _ _ k
  | .ldw _ _ _ _ _ _, _, k => execLdw_keeps _ _ _ _ _ _ _ k
  | .stw _ _ _ _ _ _, _, k => execStw_keeps _ _ _ _ _ _ _ k
  | .ldp _ _ _ _ _ _, _, k => execLdp_keeps _ _ _ _ _ _ _ k
  | .stp _ _ _ _ _ _, _, k => execStp_keeps _ _ _ _ _ _ _ k
  | .ldc _ _ _ _ _ _, _, k => execLdc_keeps _ _ _ _ _ _ _ k
  | .stc _ _ _ _ _ _, _, k => execStc_keeps _ _ _ _ _ _ _ k
  | .ldd _ _ _ _ _ _, _, k => execLdd_keeps _ _ _ _ _ _ _ k
  | .std _ _ _ _ _ _, _, k => execStd_keeps _ _ _ _ _ _ _ k
  | .palloc _ _ _ _ _, _, k => execPalloc_keeps _ _ _ _ _ _ k
  | .palloce _ _ _ _ _, _, k => execPalloce_keeps _ _ _ _ _ _ k
  | .pfree _ _ _ _ _ _, _, k => execPfree_keeps _ _ _ _ _ _ _ k
  | .pfrees _ _ _ _ _ _, _, k => execPfrees_keeps _ _ _ _ _ _ _ k
  | .pxfer _ _ _ _ _ _, _, k => execPxfer_keeps _ _ _ _ _ _ _ k
  | .pbind _ _ _ _ _ _, _, k => execPbind_keeps _ _ _ _ _ _ _ k
  | .pref _ _ _ _ _ _, _, k => execPref_keeps _ _ _ _ _ _ _ k
  | .pderef _ _ _ _ _ _, _, k => execPderef_keeps _ _ _ _ _ _ _ k
  | .emit _ _ _ _ _ _, _, k => execEmit_keeps _ _ _ _ _ _ _ k
  | .emitF _ _ _ _ _ _, _, k => execEmitF_keeps _ _ _ _ _ _ _ k
  | .voidItem _ _ _ _ _ _, _, k => execVoidItem_keeps _ _ _ _ _ _ _ k
  | .lkup _ _ _ _ _ _ _, _, k => execLkup_keeps _ _ _ _ _ _ _ _ k
  | .lkupInsert _ _ _ _ _ _ _, _, k => execLkupInsert_keeps _ _ _ _ _ _ _ _ k
  | .lkupDelete _ _ _ _ _ _ _, _, k => execLkupDelete_keeps _ _ _ _ _ _ _ _ k
  | .lkwait _ _, _, k => execLkwait_keeps _ _ _ k
  | .beq _ _ _ _ _, _, k => execBeq_keeps _ _ _ _ _ _ k
  | .bne _ _ _ _ _, _, k => execBne_keeps _ _ _ _ _ _ k
  | .blt _ _ _ _ _, _, k => execBlt_keeps _ _ _ _ _ _ k
  | .bge _ _ _ _ _, _, k => execBge_keeps _ _ _ _ _ _ k
  | .bltu _ _ _ _ _, _, k => execBltu_keeps _ _ _ _ _ _ k
  | .bgeu _ _ _ _ _, _, k => execBgeu_keeps _ _ _ _ _ _ k
  | .bbs _ _ _ _ _, _, k => execBbs_keeps _ _ _ _ _ _ k
  | .bbc _ _ _ _ _, _, k => execBbc_keeps _ _ _ _ _ _ k
  | .jump _ _ _ _, _, k => execJump_keeps _ _ _ _ _ k
  | .jal _ _ _ _, _, k => execJal_keeps _ _ _ _ _ k
  | .jr _ _ _ _ _, _, k => execJr_keeps _ _ _ _ _ _ k
  | .jalr _ _ _ _ _, _, k => execJalr_keeps _ _ _ _ _ _ k
  | .dlock _ _ _ _ _, _, k => execDlock_keeps _ _ _ _ _ _ k
  | .dtry _ _ _ _ _, _, k => execDtry_keeps _ _ _ _ _ _ k
  | .dunlk _ _ _ _ _, _, k => execDunlk_keeps _ _ _ _ _ _ k
  | .dcres _ _ _ _ _, _, k => execDcres_keeps _ _ _ _ _ _ k
  | .dcput _ _ _ _ _, _, k => execDcput_keeps _ _ _ _ _ _ k
  | .dccmt _ _ _ _ _, _, k => execDccmt_keeps _ _ _ _ _ _ k
  | .dctake _ _ _ _ _, _, k => execDctake_keeps _ _ _ _ _ _ k
  | .yieldRun _ _ _ _ _, _, k => execYieldRun_keeps _ _ _ _ _ _ k
  | .fence _ _ _ _ _, _, k => execFence_keeps _ _ _ _ _ _ k
  | .brk _ _ _ _ _, _, k => execBrk_keeps _ _ _ _ _ _ k
  | .endH _ _ _ _ _, _, k => execEndH_keeps _ _ _ _ _ _ k
  | .resumeH _ _ _ _ _, _, k => execResumeH_keeps _ _ _ _ _ _ k
  | .svend _ _ _ _ _, _, k => execSvend_keeps _ _ _ _ _ _ k
  | .svrst _ _ _ _ _, _, k => execSvrst_keeps _ _ _ _ _ _ k
  | .cpst _ _ _ _ _, _, k => execCpst_keeps _ _ _ _ _ _ k
  | .waitcp _ _ _ _ _, _, k => execWaitcp_keeps _ _ _ _ _ _ k
  | .chainOp _ _ _ _ _ _, _, k => execChainOp_keeps _ _ _ _ _ _ _ k
  | .hashOp _ _ _ _ _ _, _, k => execHashOp_keeps _ _ _ _ _ _ _ k
  | .signOp _ _ _ _ _ _, _, k => execSignOp_keeps _ _ _ _ _ _ _ k
  | .publicKey _ _ _ _ _ _, _, k => execPublicKey_keeps _ _ _ _ _ _ _ k
  | .encodeOp _ _ _ _ _ _, _, k => execEncodeOp_keeps _ _ _ _ _ _ _ k
  | .companionOp _ _ _ _ _ _, _, k => execCompanionOp_keeps _ _ _ _ _ _ _ k
  | .mrd gd ga gb, s, k => execMrd_keeps gd ga gb s k
  | .mwr gd ga gb, s, k => execMwr_keeps gd ga gb s k
  | .mwait gd ga gb, s, k => execMwait_keeps gd ga gb s k
  | .mrst gd ga gb, s, k => execMrst_keeps gd ga gb s k
  | .configurationRequest _ _ _ _, _, k => execConfigurationRequest_keeps _ _ _ _ _ k
  | .bootTimeout, _, k => execBootTimeout_keeps _ k
  | .blockLock, _, k => execBlockLock_keeps _ k
  | .laneDeskew, _, k => execLaneDeskew_keeps _ k
  | .stoppedSheetSpan, _, k => execStoppedSheetSpan_keeps _ k
  | .managementProcessorHalt _, _, k => execManagementProcessorHalt_keeps _ _ k
theorem exec_next_keeps {i : Instr} {s t : State} (h : exec i s = .next t) : Keeps ⟨s, false, false⟩ t :=
  exec_keeps i s (.refl s false false) t h

/-- Settles O55 (R698, R699, R701, R711, R712): each command keeps the fuses in their order. -/
theorem fusesOnlyAdvance : Obligations.FusesOnlyAdvance := by
  unfold Obligations.FusesOnlyAdvance
  exact fun _ _ _ h => (exec_next_keeps h).fuses

/-- Settles O56 (log entry 3): each command leaves the queue. -/
theorem commandsLeaveTheQueue : Obligations.CommandsLeaveTheQueue := by
  unfold Obligations.CommandsLeaveTheQueue
  exact fun _ _ _ h => (exec_next_keeps h).pending

theorem Keeps.memWf {s t : State} {a b : Bool} (h : Keeps ⟨s, a, b⟩ t) (w : s.memWf) : t.memWf := by
  obtain ⟨whost, wdram⟩ := w
  exact ⟨h.hostMem whost, h.dramMem wdram⟩

/-- The cycle that the block runs while no command waits. -/
theorem idleCycle_keeps (s : State) : Keeps ⟨s, false, false⟩ (dramCycle (ptpCycle s)) :=
  dramCycle_keeps _ (ptpCycle_keeps _ (.refl s false false))

/-- Settles O54: a step is the idle cycle, or the front command on a state whose memories are those of the step's own. -/
theorem stepsKeepMemoriesCanonical : Obligations.StepsKeepMemoriesCanonical := by
  unfold Obligations.StepsKeepMemoriesCanonical
  intro s t h w
  unfold step at h
  split at h
  case h_1 =>
    cases h
    exact (idleCycle_keeps s).memWf w
  case h_2 c rest _ => exact (exec_next_keeps h).memWf w

end Sys2Proof.Machine
end

section
/-!
PROOFS. Mailbox commands: what an accepted payload has passed, the length of a reply, the mailbox registers under an update of another
part of the state, and how a command's body gives its `Effect` or its `Ends`.
-/
namespace Sys2Proof.Machine

/-! ### Numbers and replies -/

theorem layout_length (fs : List (Nat × Nat)) : (layout fs).length = (fs.map (·.2)).sum := by
  simp only [layout, List.length_flatMap, leBytes_length]

@[simp] theorem layout_nil : layout [] = [] := rfl

@[simp] theorem layout_cons (f : Nat × Nat) (fs : List (Nat × Nat)) : layout (f :: fs) = leBytes f.2 f.1 ++ layout fs :=
  List.flatMap_cons

theorem leNat_lt (bs : List Byte) : leNat bs < 256 ^ bs.length := by
  induction bs with
  | nil => exact Nat.one_pos
  | cons b r ih =>
    have hb : b.toNat < 256 := b.isLt
    rw [leNat, List.length_cons, Nat.pow_succ]
    omega

theorem leAt_lt (bs : List Byte) (off n : Nat) : leAt bs off n < 256 ^ n :=
  Nat.lt_of_lt_of_le (leNat_lt _) (Nat.pow_le_pow_right (by decide) (List.length_take_le _ _))

theorem par_lt (s : State) (m : BitVec 4) (off n : Nat) : par s m off n < 256 ^ n := leAt_lt _ _ _

theorem leAt_payload (s : State) (m : BitVec 4) (off n : Nat) : leAt (mbxPayload s m.toNat) off n = par s m off n := rfl

/-! ### What the checks of a payload give -/

theorem firstBad_none {cs : List (Nat × Bool)} (h : firstBad cs = none) : ∀ k ∈ cs, k.2 = true := by
  simpa [firstBad, List.filter_eq_nil_iff] using h

/-- A payload without a fault has its fixed fields and its extent, and each of its checks holds (R618, R628). -/
theorem payload_passes {c : CmdSpec} {s : State} {p : List Byte} (h : payloadFault c s p = none) :
    c.fixed ≤ p.length ∧ c.extent p ≤ p.length ∧ ∀ k ∈ c.checks s p, k.2 = true := by
  unfold payloadFault at h
  split at h
  · cases h
  next hf =>
    split at h
    · cases h
    · split at h
      · cases h
      next he => exact ⟨Nat.not_lt.mp hf, Nat.not_lt.mp he, firstBad_none h⟩

theorem Accepted.checked {c : CmdSpec} {m : BitVec 4} {s : State} (h : Accepted c m s) :
    ∀ k ∈ c.checks (startCmd m.toNat s) (mbxPayload s m.toNat), k.2 = true := by
  obtain ⟨-, -, hc⟩ := payload_passes h.payload
  exact hc

theorem Accepted.fixed_le {c : CmdSpec} {m : BitVec 4} {s : State} (h : Accepted c m s) : c.fixed ≤ (mbxPayload s m.toNat).length :=
  (payload_passes h.payload).1

theorem Accepted.extent_le {c : CmdSpec} {m : BitVec 4} {s : State} (h : Accepted c m s) :
    c.extent (mbxPayload s m.toNat) ≤ (mbxPayload s m.toNat).length := (payload_passes h.payload).2.1

/-- LENGTH is at most 240 (R761). -/
theorem Accepted.payload_le {c : CmdSpec} {m : BitVec 4} {s : State} (h : Accepted c m s) : (mbxPayload s m.toNat).length ≤ 240 := by
  have hh := h.header
  unfold headerFault at hh
  split at hh
  · cases hh
  next hl => simpa [mbxPayload, tabRead] using hl

/-! ### Updates apart from the mailboxes -/

theorem Apart.of_host {s t : State} (h : t.host = s.host) : Apart s t := by
  refine ⟨⟨?_, ?_, ?_, ?_, ?_, ?_⟩, ?_, ?_, ?_⟩ <;> rw [h]

/-! ### From a body to what its command does -/

/-- A command that only replies. -/
theorem effect_of_reply {c : CmdSpec} {m : BitVec 4} {s : State} {bs : List Byte} (h : Accepted c m s)
    (body : bodyOf c m s = okCmd (startCmd m.toNat s) bs) (len : bs.length ≤ 240) (room : completionRoom s = true) :
    Effect (.next (runCmd c m s)) m s id bs :=
  effect_of_apart h body len room (.refl _)

/-- A command that changes the state and returns nothing. -/
theorem effect_of_state {c : CmdSpec} {m : BitVec 4} {s : State} {f : State → State} (h : Accepted c m s)
    (body : bodyOf c m s = okCmd (f (startCmd m.toNat s))) (room : completionRoom s = true)
    (ap : Apart (startCmd m.toNat s) (f (startCmd m.toNat s))) : Effect (.next (runCmd c m s)) m s f [] :=
  effect_of_apart h body (Nat.zero_le _) room ap

/-- A command whose body leaves `u`: what holds of every state that differs from `u` by reporting holds at its end. -/
theorem ends_of_body {c : CmdSpec} {m : BitVec 4} {s u : State} {bs : List Byte} {p : State → Prop} (h : Accepted c m s)
    (body : bodyOf c m s = okCmd u bs) (len : bs.length ≤ 240) (room : completionRoom s = true) (ap : Apart (startCmd m.toNat s) u)
    (k : ∀ t, Returns m bs t → Reports u t → p t) : Ends (.next (runCmd c m s)) m s p :=
  (effect_of_apart (f := fun _ => u) h body len room ap).ends k

/-- The same for a body that changes port H, so that only its mailboxes and the accepted commands stand. -/
theorem ends_of_mbx {c : CmdSpec} {m : BitVec 4} {s u : State} {p : State → Prop} (h : Accepted c m s)
    (body : bodyOf c m s = okCmd u) (room : completionRoom u = true) (mbx : u.host.mbx = s.host.mbx)
    (wait : u.host.accepted = (startCmd m.toNat s).host.accepted) (k : ∀ t, Reports u t → p t) : Ends (.next (runCmd c m s)) m s p :=
  (effect_of_ok (f := fun _ => u) h body (Nat.zero_le _) room mbx wait).ends fun t _ r => k t r

end Sys2Proof.Machine
end

section
/-!
PROOFS. Commands 0x00xx (Table 12.16).
-/
namespace Sys2Proof.Machine

/-! ### The rings of port H under reporting and under their own updates -/

theorem Reports.exrOf {s t : State} (h : Reports s t) (r : Nat) : exrOf t r = exrOf s r := by
  rw [Machine.exrOf, h.host.exr]; rfl

theorem Reports.injOf {s t : State} (h : Reports s t) (r : Nat) : injOf t r = injOf s r := by
  rw [Machine.injOf, h.host.inj]; rfl

theorem exrOf_setExr_self (r : Nat) (x : ExrRing) (s : State) : exrOf (setExr r x s) r = x := tabGet_set_self _ _ _ _
theorem injOf_setInj_self (r : Nat) (x : InjRing) (s : State) : injOf (setInj r x s) r = x := tabGet_set_self _ _ _ _

theorem exrOf_setExr_of_ne {r q : Nat} (x : ExrRing) (s : State) (h : q ≠ r) : exrOf (setExr r x s) q = exrOf s q :=
  tabGet_set_of_ne _ _ _ h
theorem injOf_setInj_of_ne {r q : Nat} (x : InjRing) (s : State) (h : q ≠ r) : injOf (setInj r x s) q = injOf s q :=
  tabGet_set_of_ne _ _ _ h

theorem setExr_apart (r : Nat) (x : ExrRing) (s : State) : Apart s (setExr r x s) := ⟨⟨rfl, rfl, rfl, rfl, rfl, rfl⟩, rfl, rfl, rfl⟩
theorem setInj_apart (r : Nat) (x : InjRing) (s : State) : Apart s (setInj r x s) := ⟨⟨rfl, rfl, rfl, rfl, rfl, rfl⟩, rfl, rfl, rfl⟩

/-! ### The completion queue -/

theorem completionRoom_disabled {s : State} (h : s.host.cq.enabled = false) : completionRoom s = true := by
  rw [completionRoom, h]; rfl

/-- A queue that is empty has room for one completion, if it has two entries or more and the host lets the device write. -/
theorem completionRoom_empty {s : State} (hh : s.host.held = []) (bm : s.host.busMaster = true) (hd : s.host.cq.head = 0)
    (tl : s.host.cq.tail = 0) (en : 2 ≤ s.host.cq.entries) : completionRoom s = true := by
  have h1 : (0 + 1) % s.host.cq.entries ≠ 0 := by rw [Nat.mod_eq_of_lt (by omega)]; decide
  simp [completionRoom, ringFull, hh, bm, hd, tl, h1]

/-- Held completions that are given up touch the mailboxes' status registers alone. -/
theorem flushHeld_mailboxes (s : State) : (flushHeld s).host.mbx = s.host.mbx ∧ (flushHeld s).host.accepted = s.host.accepted ∧
    (flushHeld s).host.cq = s.host.cq := by
  have fold : ∀ (l : List Completion) (a : State), (l.foldl (fun a c => writeStatus c.mbx c.status a) a).host.mbx = a.host.mbx ∧
      (l.foldl (fun a c => writeStatus c.mbx c.status a) a).host.accepted = a.host.accepted ∧
      (l.foldl (fun a c => writeStatus c.mbx c.status a) a).host.cq = a.host.cq := by
    intro l
    induction l with
    | nil => exact fun a => ⟨rfl, rfl, rfl⟩
    | cons c l ih => exact fun a => ih (writeStatus c.mbx c.status a)
  exact fold _ _

theorem afterSeal_none {s : State} (h : s.pow.after = .none) : afterSeal s = s := by
  unfold afterSeal
  split
  · rfl
  · rw [h]

theorem flushHeld_pow (s : State) : (flushHeld s).pow = s.pow := by
  have fold : ∀ (l : List Completion) (a : State), (l.foldl (fun a c => writeStatus c.mbx c.status a) a).pow = a.pow := by
    intro l
    induction l with
    | nil => exact fun _ => rfl
    | cons c l ih => exact fun a => ih _
  exact fold _ _

/-- COMPLETION_QUEUE_SET that gives up no held completion of a CHIP_RESET ends with its body. -/
theorem ends_completionQueueSet {m : BitVec 4} {s u : State} {p : State → Prop} (h : Accepted completionQueueSet m s)
    (after : s.pow.after = .none) (body : bodyOf completionQueueSet m s = okCmd u) (room : completionRoom u = true)
    (mbx : u.host.mbx = s.host.mbx) (wait : u.host.accepted = (startCmd m.toNat s).host.accepted) (pow : u.pow = s.pow)
    (k : ∀ t, Reports u t → p t) : Ends (exec (.completionQueueSet m) s) m s p := by
  obtain ⟨t, ht, hc, ht'⟩ := ends_of_mbx (p := fun t => Reports u t) h body room mbx wait (fun _ r => r)
  have none : t.pow.after = .none := by rw [ht'.pow, pow, after]
  refine ⟨t, ?_, hc, k t ht'⟩
  rw [← afterSeal_none none]
  cases ht
  rfl

theorem completionQueueSet_enables {s : State} {m : BitVec 4} (h : Accepted completionQueueSet m s) (after : s.pow.after = .none)
    (on : par s m 10 1 = 1) (off : s.host.cq.enabled = false) (bm : s.host.busMaster = true) (hh : s.host.held = []) :
    Ends (exec (.completionQueueSet m) s) m s (fun t => t.host.cq = { t.host.cq with
      enabled := true, address := BitVec.ofNat 64 (par s m 0 8), entries := par s m 8 2, head := 0 }) := by
  have entries : 2 ≤ par s m 8 2 := by
    have h2 := h.checked (8, isPow2 (par s m 8 2) && decide (16 ≤ par s m 8 2) && decide (par s m 8 2 ≤ 4096))
      (List.mem_cons_of_mem _ List.mem_cons_self)
    simp only [Bool.and_eq_true, decide_eq_true_eq] at h2
    omega
  have ne : ¬ par s m 10 1 = 0 := by omega
  refine ends_completionQueueSet h after ((if_neg ne).trans (if_neg (ne_true_of_eq_false off)))
    (completionRoom_empty hh bm rfl rfl entries) rfl rfl rfl fun t r => ?_
  rw [r.host.cq]
  rfl

theorem completionQueueSet_disables {s : State} {m : BitVec 4} (h : Accepted completionQueueSet m s) (after : s.pow.after = .none)
    (off : par s m 10 1 = 0) :
    Ends (exec (.completionQueueSet m) s) m s (fun t => t.host.cq.enabled = false ∧ t.host.cq.address = 0) := by
  obtain ⟨mbx, wait, cq⟩ := flushHeld_mailboxes (updHost (fun h => { h with cq := {} }) (startCmd m.toNat s))
  refine ends_completionQueueSet h after (if_pos off) (completionRoom_disabled (by rw [cq]; rfl)) mbx wait (flushHeld_pow _) fun t r => ?_
  rw [r.host.cq, cq]
  exact ⟨rfl, rfl⟩

/-! ### The event queue and the mask -/

theorem eventQueueSet_enables {s : State} {m : BitVec 4} (room : completionRoom s = true) (h : Accepted eventQueueSet m s)
    (on : par s m 12 1 = 1) (off : s.host.eq.enabled = false) :
    Ends (exec (.eventQueueSet m) s) m s (fun t => t.host.eq = { t.host.eq with
      enabled := true, address := BitVec.ofNat 64 (par s m 0 8), entries := par s m 8 4, head := 0 }) := by
  have ne : ¬ par s m 12 1 = 0 := by omega
  refine ends_of_body h (bs := []) ((if_neg ne).trans (if_neg (ne_true_of_eq_false off))) (Nat.zero_le _) room
    ⟨⟨rfl, rfl, rfl, rfl, rfl, rfl⟩, rfl, rfl, rfl⟩ fun t _ r => ?_
  rw [r.host.eq]
  rfl

theorem eventQueueSet_disables {s : State} {m : BitVec 4} (room : completionRoom s = true) (h : Accepted eventQueueSet m s)
    (off : par s m 12 1 = 0) :
    Ends (exec (.eventQueueSet m) s) m s (fun t => t.host.eq.enabled = false ∧ t.host.eq.address = 0) := by
  refine ends_of_body h (bs := []) (if_pos off) (Nat.zero_le _) room ⟨⟨rfl, rfl, rfl, rfl, rfl, rfl⟩, rfl, rfl, rfl⟩ fun t _ r => ?_
  rw [r.host.eq]
  exact ⟨rfl, rfl⟩

/-- Bits `first` to `first + n - 1` of a mask. -/
theorem getLsbD_maskAt (w n first k : Nat) (hk : k < w) :
    (BitVec.ofNat w ((2 ^ n - 1) * 2 ^ first)).getLsbD k = decide (first ≤ k ∧ k < first + n) := by
  rw [BitVec.getLsbD_ofNat, ← Nat.shiftLeft_eq, Nat.testBit_shiftLeft, Nat.testBit_two_pow_sub_one]
  have : first ≤ k → (k - first < n ↔ k < first + n) := fun h => by omega
  by_cases h : first ≤ k <;> simp [h, hk, this]

/-- A mask in which the bits of another are set or cleared. -/
theorem getLsbD_setOrClear {w : Nat} (x b : BitVec w) (on : Prop) [Decidable on] {k : Nat} (hk : k < w) :
    (if on then x ||| b else x &&& ~~~ b).getLsbD k = if b.getLsbD k then decide on else x.getLsbD k := by
  by_cases h : on <;> cases hb : b.getLsbD k <;> simp only [h, if_true, if_false, BitVec.getLsbD_or, BitVec.getLsbD_and,
    BitVec.getLsbD_not, hb, hk, decide_true, decide_false, Bool.not_true, Bool.not_false, Bool.and_true, Bool.and_false, Bool.or_true,
    Bool.or_false, Bool.false_eq_true]

theorem eventMask_sets {s : State} {m : BitVec 4} (room : completionRoom s = true) (h : Accepted eventMaskSet m s) :
    Ends (exec (.eventMask m) s) m s (fun t => ∀ n < 512, t.host.eventMask.getLsbD n =
      (if par s m 0 2 ≤ n ∧ n < par s m 0 2 + par s m 2 2 then par s m 4 1 == 1 else s.host.eventMask.getLsbD n)) := by
  refine ends_of_body h (bs := []) rfl (Nat.zero_le _) room ⟨⟨rfl, rfl, rfl, rfl, rfl, rfl⟩, rfl, rfl, rfl⟩ fun t _ r n hn => ?_
  rw [r.host.eventMask]
  refine (getLsbD_setOrClear _ _ _ hn).trans ?_
  rw [getLsbD_maskAt _ _ _ _ hn, leAt_payload, leAt_payload, leAt_payload]
  simp only [decide_eq_true_eq]
  rfl

/-! ### DEVICE_QUERY, causes and the firmware region -/

theorem packNat_two_twoBit (a b : BitVec 2) : packNat [(a.toNat, 2), (b.toNat, 2)] = a.toNat + 4 * b.toNat := by
  have ha : a.toNat < 4 := a.isLt
  have hb : b.toNat < 4 := b.isLt
  simp only [packNat, Nat.reducePow]
  omega

theorem deviceQuery_returns {s : State} {m : BitVec 4} (room : completionRoom s = true) (h : Accepted deviceQuery m s) :
    Effect (exec (.deviceQuery m) s) m s id
      (layout [(0x6436, 2), (0xB1, 1), (0, 1), (s.host.fwVersion.toNat, 4), (Config.serial.toNat, 8), (s.sec.lifecycle, 1), (s.sec.level, 1),
        (powerCode s.pow.current, 1), (s.pow.bootSrc.toNat + 4 * s.pow.clkMode.toNat, 1), (ofInt 16 s.pow.temp, 2), (0, 2),
        (s.sh.sheet.toNat, 8), (if s.dram.started then dramInstalled s else 0, 8)]) := by
  rw [← packNat_two_twoBit]
  exact effect_of_reply h rfl (by simp [leBytes_length]) room

theorem fwRegionSet_sets {s : State} {m : BitVec 4} (room : completionRoom s = true) (h : Accepted fwRegionSet m s)
    (off : s.dram.started = false) : Effect (exec (.fwRegionSet m) s) m s
      (updHost (fun h => { h with fwRegion := some (BitVec.ofNat 64 (par s m 0 8), BitVec.ofNat 64 (par s m 8 8)) })) [] := by
  exact effect_of_state h (if_neg (ne_true_of_eq_false off)) room ⟨⟨rfl, rfl, rfl, rfl, rfl, rfl⟩, rfl, rfl, rfl⟩

/-! ### Rings -/

theorem exrSet_enables {s : State} {m : BitVec 4} (room : completionRoom s = true) (h : Accepted exrSet m s) (on : par s m 1 1 = 1)
    (off : (exrOf s (par s m 0 1)).enabled = false) :
    Ends (exec (.exrSet m) s) m s (fun t => exrOf t (par s m 0 1) = { exrOf s (par s m 0 1) with
        enabled := true, slotShift := par s m 2 1, entries := par s m 4 4, address := BitVec.ofNat 64 (par s m 8 8)
        tailWb := BitVec.ofNat 64 (par s m 16 8), residue := par s m 24 2, head := 0, tail := 0 } ∧
      ∀ r, r ≠ par s m 0 1 → exrOf t r = exrOf s r) := by
  have ne : ¬ par s m 1 1 = 0 := by omega
  refine ends_of_body h (bs := []) ((if_neg ne).trans (if_neg (ne_true_of_eq_false off))) (Nat.zero_le _) room (setExr_apart _ _ _)
    fun t _ r => ⟨?_, fun q hq => ?_⟩
  · exact (r.exrOf _).trans (exrOf_setExr_self _ _ _)
  · exact (r.exrOf _).trans (exrOf_setExr_of_ne _ _ hq)

theorem exrSet_disables {s : State} {m : BitVec 4} (room : completionRoom s = true) (h : Accepted exrSet m s) (off : par s m 1 1 = 0) :
    Ends (exec (.exrSet m) s) m s (fun t => (exrOf t (par s m 0 1)).enabled = false ∧ (exrOf t (par s m 0 1)).address = 0 ∧
      ∀ r, r ≠ par s m 0 1 → exrOf t r = exrOf s r) := by
  refine ends_of_body h (bs := []) (if_pos off) (Nat.zero_le _) room (setExr_apart _ _ _) fun t _ r => ?_
  have self : exrOf t (par s m 0 1) = exrOff (exrOf s (par s m 0 1)) := (r.exrOf _).trans (exrOf_setExr_self _ _ _)
  refine ⟨by rw [self]; rfl, by rw [self]; rfl, fun q hq => ?_⟩
  exact (r.exrOf _).trans (exrOf_setExr_of_ne _ _ hq)

theorem injSet_enables {s : State} {m : BitVec 4} (room : completionRoom s = true) (h : Accepted injSet m s) (on : par s m 1 1 = 1)
    (off : (injOf s (par s m 0 1)).enabled = false) (tick : ticking s = true) :
    Ends (exec (.injSet m) s) m s (fun t => injOf t (par s m 0 1) = { injOf s (par s m 0 1) with
        enabled := true, cls := par s m 2 1, entries := par s m 4 4, address := BitVec.ofNat 64 (par s m 8 8)
        headWb := BitVec.ofNat 64 (par s m 16 8), head := 0, tail := 0, sinceWb := 0 } ∧
      ∀ r, r ≠ par s m 0 1 → injOf t r = injOf s r) := by
  have ne : ¬ par s m 1 1 = 0 := by omega
  have free : ((injOf s (par s m 0 1)).enabled || !ticking s) = false := by rw [off, tick]; rfl
  refine ends_of_body h (bs := []) ((if_neg ne).trans (if_neg (ne_true_of_eq_false free))) (Nat.zero_le _) room (setInj_apart _ _ _)
    fun t _ r => ⟨?_, fun q hq => ?_⟩
  · exact (r.injOf _).trans (injOf_setInj_self _ _ _)
  · exact (r.injOf _).trans (injOf_setInj_of_ne _ _ hq)

theorem injSet_disables {s : State} {m : BitVec 4} (room : completionRoom s = true) (h : Accepted injSet m s) (off : par s m 1 1 = 0) :
    Ends (exec (.injSet m) s) m s (fun t => (injOf t (par s m 0 1)).enabled = false ∧ (injOf t (par s m 0 1)).address = 0 ∧
      ∀ r, r ≠ par s m 0 1 → injOf t r = injOf s r) := by
  refine ends_of_body h (bs := []) (if_pos off) (Nat.zero_le _) room (setInj_apart _ _ _) fun t _ r => ?_
  have self : injOf t (par s m 0 1) = injOff (injOf s (par s m 0 1)) := (r.injOf _).trans (injOf_setInj_self _ _ _)
  refine ⟨by rw [self]; rfl, by rw [self]; rfl, fun q hq => ?_⟩
  exact (r.injOf _).trans (injOf_setInj_of_ne _ _ hq)

theorem ringStatus_exception {s : State} {m : BitVec 4} (room : completionRoom s = true) (h : Accepted ringStatus m s)
    (exr : par s m 0 1 = 0) : Effect (exec (.ringStatus m) s) m s id
      (layout [((exrOf s (par s m 1 1)).head, 4), ((exrOf s (par s m 1 1)).tail, 4), (b2n (exrOf s (par s m 1 1)).enabled, 1), (0, 7),
        ((exrOf s (par s m 1 1)).frames, 8), ((exrOf s (par s m 1 1)).bytes, 8), ((exrOf s (par s m 1 1)).drops, 8)]) := by
  exact effect_of_reply h (congrArg (fun r => okCmd _ r) (if_pos exr)) (by simp [leBytes_length]) room

theorem ringStatus_injection {s : State} {m : BitVec 4} (room : completionRoom s = true) (h : Accepted ringStatus m s)
    (inj : par s m 0 1 = 1) : Effect (exec (.ringStatus m) s) m s id
      (layout [((injOf s (par s m 1 1)).head, 4), ((injOf s (par s m 1 1)).tail, 4), (b2n (injOf s (par s m 1 1)).enabled, 1),
        (b2n (ownerXoff s (32 + (injOf s (par s m 1 1)).cls)), 1), (0, 6), ((injOf s (par s m 1 1)).frames, 8),
        ((injOf s (par s m 1 1)).bytes, 8), ((injOf s (par s m 1 1)).bad, 8)]) := by
  have ne : ¬ par s m 0 1 = 0 := by omega
  exact effect_of_reply h (congrArg (fun r => okCmd _ r) (if_neg ne)) (by simp [leBytes_length]) room

/-- Settles O1 (Table 12.16): one lemma for each command, most of them by what the body leaves. -/
theorem hostCommandsTakeEffect : Obligations.HostCommandsTakeEffect := by
  unfold Obligations.HostCommandsTakeEffect
  intro s m
  refine ⟨fun h after => ⟨completionQueueSet_enables h after, completionQueueSet_disables h after⟩, fun room => ?_⟩
  exact ⟨eventQueueSet_enables room, eventQueueSet_disables room, deviceQuery_returns room, eventMask_sets room,
    fun h => effect_of_state h rfl room ⟨⟨rfl, rfl, rfl, rfl, rfl, rfl⟩, rfl, rfl, rfl⟩,
    fwRegionSet_sets room, exrSet_enables room, exrSet_disables room, injSet_enables room, injSet_disables room,
    ringStatus_exception room, ringStatus_injection room, fun h => counters_read (x := fun _ => 0) h rfl (by decide) room,
    fun h => effect_of_reply h rfl h.payload_le room⟩

end Sys2Proof.Machine
end

section
/-!
PROOFS. Flags under reporting: a report sets flag bits and clears none (R10), so that a flag set before a report stands after it.
-/
namespace Sys2Proof.Machine

/-- Every flag bit that is set in `s` is set in `t`. -/
def FlagsStand (s t : State) : Prop := ∀ off i, (flagReg s off).getLsbD i = true → (flagReg t off).getLsbD i = true

theorem FlagsStand.refl (s : State) : FlagsStand s s := fun _ _ h => h
theorem FlagsStand.trans {a b c : State} (h : FlagsStand a b) (k : FlagsStand b c) : FlagsStand a c :=
  fun off i x => k off i (h off i x)
theorem FlagsStand.of_eq {s t : State} (h : t.flags = s.flags) : FlagsStand s t := fun off i x => by
  unfold flagReg at *
  rwa [h]
theorem FlagsStand.ite {c : Prop} [Decidable c] {s a b : State} (h : FlagsStand s a) (k : FlagsStand s b) :
    FlagsStand s (if c then a else b) := by split <;> assumption

theorem flagReg_setFlag_self (off bit : Nat) (s : State) :
    flagReg (setFlag off bit s) off = flagReg s off ||| BitVec.ofNat 32 (2 ^ bit) :=
  tabGet_upd_self 0 s.flags off (fun w => w ||| BitVec.ofNat 32 (2 ^ bit))

theorem flagReg_setFlag_of_ne {off q : Nat} (bit : Nat) (s : State) (h : q ≠ off) : flagReg (setFlag off bit s) q = flagReg s q :=
  tabGet_upd_of_ne 0 s.flags (fun w => w ||| BitVec.ofNat 32 (2 ^ bit)) h

theorem setFlag_sets (off : Nat) {bit : Nat} (h : bit < 32) (s : State) : (flagReg (setFlag off bit s) off).getLsbD bit = true := by
  rw [flagReg_setFlag_self, BitVec.getLsbD_or, getLsbD_pow 32 bit bit h]
  simp

theorem setFlag_flagsStand (off bit : Nat) (s : State) : FlagsStand s (setFlag off bit s) := by
  intro q i h
  by_cases e : q = off
  · subst e
    rw [flagReg_setFlag_self, BitVec.getLsbD_or, h, Bool.true_or]
  · rwa [flagReg_setFlag_of_ne bit s e]

theorem postEvent_flags (src n : Nat) (lo : BitVec 32) (d : BitVec 64) (tr mg : Bool) (s : State) :
    (postEvent src n lo d tr mg s).flags = s.flags := rfl

theorem postMergedN_flags (n : Nat) (s : State) : (postMergedN n s).flags = s.flags := by
  induction n generalizing s with
  | zero => rfl
  | succ n ih =>
    unfold postMergedN
    split
    · rfl
    · split
      · rw [ih, postEvent_flags]
      · rfl

theorem mergeRaise_flagsStand (src : Nat) (lo : BitVec 32) (d : BitVec 64) (tr : Bool) (s : State) :
    FlagsStand s (mergeRaise src lo d tr s) := (FlagsStand.of_eq rfl).trans (setFlag_flagsStand _ _ _)

theorem forwardRaise_flagsStand (src : Nat) (data : List (Nat × Nat)) (s : State) : FlagsStand s (forwardRaise src data s) := by
  have merged : FlagsStand s (postMerged s) := .of_eq (postMergedN_flags _ _)
  unfold forwardRaise
  exact .ite (.of_eq rfl) (.ite (merged.trans (.of_eq (postEvent_flags _ _ _ _ _ _ _))) (merged.trans (mergeRaise_flagsStand _ _ _ _ _)))

theorem firstSeenSet_flagsStand (l : List Nat) (s : State) : FlagsStand s { s with sh := { s.sh with firstSeen := l } } := .of_eq rfl

theorem pushTrace_flagsStand (k c m d : Nat) (s : State) : FlagsStand s (pushTrace k c m d s) := by
  have full : FlagsStand s (setFlag 0x6C4 6 (count .debug 0 7 1
      { s with sec := { s.sec with trace := { s.sec.trace with lost := s.sec.trace.lost + 1 } } })) :=
    (FlagsStand.of_eq rfl).trans (setFlag_flagsStand _ _ _)
  have seen {a : State} (h : FlagsStand s a) := h.trans (firstSeenSet_flagsStand (460 * 2 ^ 32 :: a.sh.firstSeen) a)
  unfold pushTrace
  exact .ite (.of_eq rfl) (.ite full (.ite ((seen full).trans (forwardRaise_flagsStand _ _ _)) (seen full)))

theorem trace_flagsStand (k c m d : Nat) (s : State) : FlagsStand s (trace k c m d s) := .ite (pushTrace_flagsStand _ _ _ _ _) (.refl _)

theorem raise_flagsStand (src : Nat) (data : List (Nat × Nat)) (s : State) : FlagsStand s (raise src data s) := by
  have h : FlagsStand s (trace 1 255 4095 src s) := trace_flagsStand _ _ _ _ _
  unfold raise
  exact .ite h (h.trans (forwardRaise_flagsStand _ _ _))

theorem raiseFirst_flagsStand (src key : Nat) (data : List (Nat × Nat)) (s : State) : FlagsStand s (raiseFirst src key data s) := by
  unfold raiseFirst
  exact .ite (.refl _) ((firstSeenSet_flagsStand _ s).trans (raise_flagsStand _ _ _))

end Sys2Proof.Machine
end
section
/-!
PROOFS. Register accesses of port H (12_host_port_and_mailboxes.md).
-/
namespace Sys2Proof.Machine

/-! ### Numbers and masks -/

theorem leNat_leBytes (n x : Nat) : leNat (leBytes n x) = x % 256 ^ n := by
  induction n generalizing x with
  | zero => simp [leBytes, leNat, Nat.mod_one]
  | succ n ih =>
    have h8 : x % 2 ^ 8 = x % 256 := rfl
    rw [leBytes, leNat, ih, BitVec.toNat_ofNat, h8, Nat.pow_succ', Nat.mod_mul]

theorem natBit_toNat {w : Nat} (x : BitVec w) (i : Nat) : natBit x.toNat i = x.getLsbD i := by
  rw [natBit, BitVec.getLsbD, Nat.testBit_eq_decide_div_mod_eq]
  rfl

theorem mem_maskList {n x i : Nat} : i ∈ maskList n x ↔ i < n ∧ natBit x i = true := by
  rw [maskList, List.mem_filter, List.mem_range]

theorem maskList_nodup (n x : Nat) : (maskList n x).Nodup := List.nodup_range.filter _

/-- The mask whose bits are those of a list. -/
def bitsOf (w : Nat) (l : List Nat) : BitVec w := l.foldr (fun m b => BitVec.ofNat w (2 ^ m) ||| b) 0

theorem getLsbD_bitsOf {w i : Nat} (hi : i < w) (l : List Nat) : (bitsOf w l).getLsbD i = decide (i ∈ l) := by
  induction l with
  | nil => simp [bitsOf]
  | cons m l ih =>
    rw [bitsOf, List.foldr_cons, ← bitsOf, BitVec.getLsbD_or, ih, getLsbD_pow w i m hi]
    simp

theorem bitsOf_maskList {w : Nat} (x : BitVec w) : bitsOf w (maskList w x.toNat) = x := by
  refine BitVec.eq_of_getLsbD_eq fun i hi => ?_
  rw [getLsbD_bitsOf hi, Bool.eq_iff_iff, decide_eq_true_eq, mem_maskList, natBit_toNat]
  exact and_iff_right hi

/-- A mask of one bit names one mailbox. -/
theorem maskList_pow {w m : Nat} (h : m < w) : maskList w (BitVec.ofNat w (2 ^ m)).toNat = [m] := by
  have hbit : ∀ i, natBit (BitVec.ofNat w (2 ^ m)).toNat i = decide (i < w ∧ i = m) := fun i => by
    rw [natBit_toNat, BitVec.getLsbD_ofNat, Nat.testBit_two_pow, Bool.decide_and]
    simp only [eq_comm]
  have : (maskList w (BitVec.ofNat w (2 ^ m)).toNat) = (List.range w).filter (· == m) :=
    List.filter_congr fun i hi => by rw [hbit i, show (i == m) = decide (i = m) from rfl, Bool.decide_and, decide_eq_true (List.mem_range.mp hi), Bool.true_and]
  rw [this, List.filter_beq, List.count_range, if_pos h]
  rfl

/-! ### MBX_GO -/

/-- The mailboxes of a list accepted, in its order. -/
def acceptMbxs (l : List Nat) (s : State) : State :=
  updHost (fun h => { h with busy := h.busy ||| bitsOf 16 l, done := h.done &&& ~~~ bitsOf 16 l, accepted := h.accepted ++ l }) s

theorem startMbx_idle {s : State} {m : Nat} (h : s.host.busy.getLsbD m = false) : startMbx s m = acceptMbxs [m] s := by
  have hm : bitsOf 16 [m] = BitVec.ofNat 16 (2 ^ m) := BitVec.or_zero
  rw [startMbx, h, acceptMbxs, hm]
  rfl

theorem acceptMbxs_acceptMbxs (l l' : List Nat) (s : State) : acceptMbxs l' (acceptMbxs l s) = acceptMbxs (l ++ l') s := by
  have hor : bitsOf 16 (l ++ l') = bitsOf 16 l ||| bitsOf 16 l' := by
    refine BitVec.eq_of_getLsbD_eq fun i hi => ?_
    rw [BitVec.getLsbD_or, getLsbD_bitsOf hi, getLsbD_bitsOf hi, getLsbD_bitsOf hi]
    simp
  unfold acceptMbxs updHost
  rw [hor]
  simp only [BitVec.or_assoc, BitVec.and_assoc, BitVec.not_or, List.append_assoc]

theorem acceptMbxs_nil (s : State) : acceptMbxs [] s = s := by
  have hb : s.host.busy ||| bitsOf 16 [] = s.host.busy := BitVec.or_zero
  have hd : s.host.done &&& ~~~ bitsOf 16 [] = s.host.done := BitVec.and_allOnes
  rw [acceptMbxs, updHost, hb, hd, List.append_nil]

theorem foldl_startMbx_idle {l : List Nat} (nd : l.Nodup) {s : State} (idle : ∀ m ∈ l, m < 16 ∧ s.host.busy.getLsbD m = false) :
    l.foldl startMbx s = acceptMbxs l s := by
  induction l generalizing s with
  | nil => exact (acceptMbxs_nil s).symm
  | cons m l ih =>
    obtain ⟨hm, nd'⟩ := List.nodup_cons.mp nd
    obtain ⟨⟨-, hb⟩, hl⟩ := List.forall_mem_cons.mp idle
    rw [List.foldl_cons, startMbx_idle hb, ih nd', acceptMbxs_acceptMbxs, List.singleton_append]
    intro q hq
    obtain ⟨lt, free⟩ := hl q hq
    have ne : q ≠ m := fun e => hm (e ▸ hq)
    refine ⟨lt, ?_⟩
    show (s.host.busy ||| bitsOf 16 [m]).getLsbD q = false
    rw [BitVec.getLsbD_or, free, getLsbD_bitsOf lt]
    simp [ne]

/-- No accepted command has an undefined opcode: none is completed with BAD_OPCODE. -/
theorem sweepBad_defined {s : State} (h : ∀ m ∈ s.host.accepted, definedOps.contains (mbxOpcode s m) = true) : sweepBad s = s := by
  have none : s.host.accepted.find? (fun m => mayStart s m && !definedOps.contains (mbxOpcode s m)) = none :=
    List.find?_eq_none.mpr fun m hm => by rw [h m hm]; simp
  rw [sweepBad, sweepN, none]

theorem mbxGo_accepts {s : State} (op : hostOpen s = true) (mask : BitVec 16) (fw : s.host.fwReady = true)
    (idle : ∀ m < 16, mask.getLsbD m = true → s.host.busy.getLsbD m = false ∧ definedOps.contains (mbxOpcode s m) = true)
    (before : ∀ m ∈ s.host.accepted, definedOps.contains (mbxOpcode s m) = true) :
    exec (.mbxGo mask) s = .next (updHost (fun h => { h with
      busy := h.busy ||| mask, done := h.done &&& ~~~ mask, accepted := h.accepted ++ maskList 16 mask.toNat }) s) := by
  have inMask : ∀ m ∈ maskList 16 mask.toNat, m < 16 ∧ mask.getLsbD m = true := fun m hm => by
    rwa [mem_maskList, natBit_toNat] at hm
  have hacc : (maskList 16 mask.toNat).foldl startMbx s = acceptMbxs (maskList 16 mask.toNat) s :=
    foldl_startMbx_idle (maskList_nodup _ _) fun m hm => ⟨(inMask m hm).1, (idle m (inMask m hm).1 (inMask m hm).2).1⟩
  have hdef : ∀ m ∈ s.host.accepted ++ maskList 16 mask.toNat, definedOps.contains (mbxOpcode s m) = true := fun m hm => by
    rcases List.mem_append.mp hm with hm | hm
    · exact before m hm
    · exact (idle m (inMask m hm).1 (inMask m hm).2).2
  show execMbxGo mask s = _
  rw [execMbxGo, op, if_pos rfl, mbxGo, fw, if_pos rfl, hacc, sweepBad_defined hdef, acceptMbxs, bitsOf_maskList]

theorem mbxGo_busy {s : State} (op : hostOpen s = true) {m : Nat} (hm : m < 16) (fw : s.host.fwReady = true)
    (busy : s.host.busy.getLsbD m = true) (before : ∀ q ∈ s.host.accepted, definedOps.contains (mbxOpcode s q) = true) :
    ∃ t, exec (.mbxGo (BitVec.ofNat 16 (2 ^ m))) s = .next t ∧ (flagReg t 0xC).getLsbD 1 = true ∧ t.host.accepted = s.host.accepted ∧
      t.host.busy = s.host.busy := by
  have ap : Apart s (raise 36 [(m, 8)] (setFlag 0xC 1 s)) := (setFlag_apart _ _ _).trans (raise_apart _ _ _)
  have hdef : ∀ q ∈ (raise 36 [(m, 8)] (setFlag 0xC 1 s)).host.accepted,
      definedOps.contains (mbxOpcode (raise 36 [(m, 8)] (setFlag 0xC 1 s)) q) = true := fun q hq => by
    rw [mbxOpcode, mbxField_eq ap.mbx]
    rw [ap.accepted] at hq
    exact before q hq
  refine ⟨raise 36 [(m, 8)] (setFlag 0xC 1 s), ?_, raise_flagsStand _ _ _ _ _ (setFlag_sets _ (by decide) _), ap.accepted, ap.busy⟩
  show execMbxGo _ s = _
  rw [execMbxGo, op, if_pos rfl, mbxGo, fw, if_pos rfl, maskList_pow hm, List.foldl_cons, List.foldl_nil, startMbx, busy, if_pos rfl,
    sweepBad_defined hdef]

/-! ### Heads and tails (R612) -/

theorem inRing_iff (n a b v : Nat) : inRing n a b v = true ↔ v < n ∧ (v + n - a) % n ≤ (b + n - a) % n := by
  rw [inRing, Bool.and_eq_true, decide_eq_true_eq, decide_eq_true_eq]

theorem cqHeadWrite_moves {s : State} (op : hostOpen s = true) (v : BitVec 32) : exec (.cqHeadWrite v) s = .next (
    if v.toNat % 65536 < s.host.cq.entries ∧ (v.toNat % 65536 + s.host.cq.entries - s.host.cq.head) % s.host.cq.entries ≤
      (s.host.cq.tail + s.host.cq.entries - s.host.cq.head) % s.host.cq.entries
    then updHost (fun h => { h with cq := { h.cq with head := v.toNat % 65536 } }) s else accessError 5 0x1004 s) := by
  show execCqHeadWrite v s = _
  simp only [execCqHeadWrite, op, if_true, cqHead, inRing_iff]
  rfl

theorem eqHeadWrite_moves {s : State} (op : hostOpen s = true) (v : BitVec 32) : exec (.eqHeadWrite v) s = .next (
    if v.toNat % 65536 < s.host.eq.entries ∧ (v.toNat % 65536 + s.host.eq.entries - s.host.eq.head) % s.host.eq.entries ≤
      (s.host.eq.tail + s.host.eq.entries - s.host.eq.head) % s.host.eq.entries
    then updHost (fun h => { h with eq := { h.eq with head := v.toNat % 65536 } }) s else accessError 5 0x100C s) := by
  show execEqHeadWrite v s = _
  simp only [execEqHeadWrite, op, if_true, eqHead, inRing_iff]
  rfl

theorem exrHeadWrite_moves {s : State} (op : hostOpen s = true) (r : BitVec 4) (v : BitVec 32) :
    ∃ t, exec (.exrHeadWrite r v) s = .next t ∧
      if v.toNat % 65536 < (exrOf s r.toNat).entries ∧
        (v.toNat % 65536 + (exrOf s r.toNat).entries - (exrOf s r.toNat).head) % (exrOf s r.toNat).entries ≤
        ((exrOf s r.toNat).tail + (exrOf s r.toNat).entries - (exrOf s r.toNat).head) % (exrOf s r.toNat).entries
      then exrOf t r.toNat = { exrOf s r.toNat with head := v.toNat % 65536 } ∧ ∀ q, q ≠ r.toNat → exrOf t q = exrOf s q
      else t = accessError 5 (0x1100 + 8 * r.toNat) s := by
  refine ⟨exrHead r.toNat (v.toNat % 65536) s, congrArg Host.Outcome.next (if_pos op), ?_⟩
  simp only [exrHead, inRing_iff]
  split
  · exact ⟨exrOf_setExr_self _ _ _, fun q hq => exrOf_setExr_of_ne _ _ hq⟩
  · rfl

theorem injTailWrite_moves {s : State} (op : hostOpen s = true) (r : BitVec 4) (v : BitVec 32) :
    ∃ t, exec (.injTailWrite r v) s = .next t ∧
      if v.toNat % 65536 < (injOf s r.toNat).entries ∧
        (v.toNat % 65536 + (injOf s r.toNat).entries - (injOf s r.toNat).tail) % (injOf s r.toNat).entries ≤
        (((injOf s r.toNat).head + (injOf s r.toNat).entries - 1) % (injOf s r.toNat).entries + (injOf s r.toNat).entries -
          (injOf s r.toNat).tail) % (injOf s r.toNat).entries
      then injOf t r.toNat = { injOf s r.toNat with tail := v.toNat % 65536 } ∧ ∀ q, q ≠ r.toNat → injOf t q = injOf s q
      else t = accessError 5 (0x1180 + 8 * r.toNat) s := by
  refine ⟨injTail r.toNat (v.toNat % 65536) s, congrArg Host.Outcome.next (if_pos op), ?_⟩
  simp only [injTail, inRing_iff]
  split
  · exact ⟨injOf_setInj_self _ _ _, fun q hq => injOf_setInj_of_ne _ _ hq⟩
  · rfl

/-! ### Register writes -/

theorem registerWrite_bar {s : State} (op : hostOpen s = true) {o : BitVec 25} (al : o.toNat % 4 = 0) (v : BitVec 32) :
    exec (.registerWrite o 0xF v) s = .next (barWrite o.toNat v s) := by
  have off : o.toNat / 4 * 4 = o.toNat := Nat.div_mul_cancel (Nat.dvd_of_mod_eq_zero al)
  show execRegisterWrite o 0xF v s = _
  rw [execRegisterWrite, op, off]
  rfl

theorem registerWrite_clearsFlags {s : State} (op : hostOpen s = true) (o : BitVec 25) (v : BitVec 32) (al : o.toNat % 4 = 0)
    (reg : flagRegs.contains o.toNat = true) : ∃ t, exec (.registerWrite o 0xF v) s = .next t ∧
      flagReg t o.toNat = flagReg s o.toNat &&& ~~~ v ∧ ∀ q, q ≠ o.toNat → flagReg t q = flagReg s q := by
  refine ⟨clearFlags o.toNat v s, ?_, tabGet_upd_self 0 s.flags _ (fun w => w &&& ~~~ v),
    fun q hq => tabGet_upd_of_ne 0 s.flags (fun w => w &&& ~~~ v) hq⟩
  rw [registerWrite_bar op al, barWrite, reg, if_pos rfl]

theorem registerWrite_narrow {s : State} (op : hostOpen s = true) (o : BitVec 25) (e : BitVec 4) (v : BitVec 32) (h : e ≠ 0xF) :
    exec (.registerWrite o e v) s = .next (accessError 1 (o.toNat / 4 * 4) s) := by
  show execRegisterWrite o e v s = _
  rw [execRegisterWrite, op, if_pos h]
  rfl

theorem flagRegs_low : ∀ o ∈ flagRegs, o < 0x10000 := by decide

theorem barWrite_mailbox {s : State} {o : Nat} (lo : 0x10000 ≤ o) (hi : o < 0x11000) (v : BitVec 32) :
    barWrite o v s = writeMailbox o v s := by
  have flag : flagRegs.contains o = false := by
    rw [← Bool.not_eq_true, List.contains_iff_mem]
    exact fun h => Nat.not_lt.mpr lo (flagRegs_low o h)
  have h1 : ¬ o < 0x1000 := by omega
  have h2 : ¬ o < 0x2000 := by omega
  rw [barWrite, flag]
  simp [h1, h2, lo, hi]

theorem registerWrite_mailbox {s : State} (op : hostOpen s = true) (o : BitVec 25) (v : BitVec 32) (al : o.toNat % 4 = 0)
    (lo : 0x10000 ≤ o.toNat) (hi : o.toNat < 0x11000) : ∃ t, exec (.registerWrite o 0xF v) s = .next t ∧
      if s.host.busy.getLsbD ((o.toNat - 0x10000) / 256) = true then t = accessError 4 o.toNat s
      else leNat (tabRead 0 t.host.mbx (o.toNat - 0x10000) 4) = v.toNat := by
  refine ⟨writeMailbox o.toNat v s, by rw [registerWrite_bar op al, barWrite_mailbox lo hi], ?_⟩
  by_cases busy : s.host.busy.getLsbD ((o.toNat - 0x10000) / 256) = true
  · rw [if_pos busy, writeMailbox, if_pos busy]
  · rw [if_neg busy, writeMailbox, if_neg busy]
    have read := tabRead_write 0 s.host.mbx (o.toNat - 0x10000) (leBytes 4 v.toNat)
    rw [leBytes_length] at read
    show leNat (tabRead 0 (tabWrite 0 s.host.mbx (o.toNat - 0x10000) (leBytes 4 v.toNat)) (o.toNat - 0x10000) 4) = v.toNat
    rw [read, leNat_leBytes]
    exact Nat.mod_eq_of_lt v.isLt

/-! ### Reads with an effect -/

theorem dLoRead_latches {s : State} (op : hostOpen s = true) : ∃ t, exec .dLoRead s = .next t ∧
    t.host.readData.toNat = s.ev.durable.toNat % 2 ^ 32 ∧ t.ev.latchHi.toNat = s.ev.durable.toNat / 2 ^ 32 % 2 ^ 16 :=
  ⟨_, congrArg Host.Outcome.next (if_pos op), BitVec.toNat_setWidth _ _, BitVec.toNat_ofNat _ _⟩

theorem rcRead_clears {s : State} (op : hostOpen s = true) (o : BitVec 25) (h : tabGet 0 s.totals o.toNat < 2 ^ 32) :
    ∃ t, exec (.rcRead o) s = .next t ∧ t.host.readData.toNat = tabGet 0 s.totals o.toNat ∧ tabGet 0 t.totals o.toNat = 0 ∧
      ∀ q, q ≠ o.toNat → tabGet 0 t.totals q = tabGet 0 s.totals q := by
  refine ⟨_, congrArg Host.Outcome.next (if_pos op), ?_, ?_, fun q hq => ?_⟩
  · exact (BitVec.toNat_ofNat _ _).trans (Nat.mod_eq_of_lt h)
  · show tabGet 0 (tabErase s.totals o.toNat) o.toNat = 0
    rw [tabGet, tabFind_erase, if_pos rfl]
    rfl
  · show tabGet 0 (tabErase s.totals o.toNat) q = _
    rw [tabGet, tabFind_erase, if_neg hq, ← tabGet]

/-- Settles O2 (R605, R609, R612, R614-R617; log entries 105 and 183): each kind of access by its own lemma. -/
theorem portHAccessesTakeEffect : Obligations.PortHAccessesTakeEffect := by
  unfold Obligations.PortHAccessesTakeEffect
  intro s op
  exact ⟨mbxGo_accepts op, fun m hm => mbxGo_busy op hm, cqHeadWrite_moves op, eqHeadWrite_moves op, exrHeadWrite_moves op,
    injTailWrite_moves op, registerWrite_clearsFlags op, registerWrite_narrow op, registerWrite_mailbox op, dLoRead_latches op,
    rcRead_clears op⟩

end Sys2Proof.Machine
end

section
/-!
PROOFS. What port H and the management processor do of themselves (12_host_port_and_mailboxes.md).
-/
namespace Sys2Proof.Machine

/-! ### Held completions and merged entries -/

theorem cqHeldCompletion_writes {s : State} (c : Completion) (r : List Completion) (hh : s.host.held = c :: r)
    (on : s.host.cq.enabled = true) (room : ringFull s s.host.cq.head s.host.cq.tail s.host.cq.entries = false) :
    exec .cqHeldCompletion s = .next (sweepBad (afterSeal (postCompletion c (updHost (fun h => { h with held := r }) s)))) := by
  show execCqHeldCompletion s = _
  rw [execCqHeldCompletion, hh]
  simp only [on, room, Bool.not_true, Bool.or_self, Bool.false_eq_true, if_false]

theorem eventMergedPost_posts {s : State} (src : Nat) (e : MergedEvent) (hm : s.host.merged = [(src, e)])
    (on : s.host.eq.enabled = true) (room : ringFull s s.host.eq.head s.host.eq.tail s.host.eq.entries = false) :
    exec .eventMergedPost s =
      .next (postEvent src e.count e.sheetLo e.data e.trunc true (updHost (fun h => { h with merged := [] }) s)) := by
  have more : (s.host.eq.enabled && !ringFull s s.host.eq.head s.host.eq.tail s.host.eq.entries) = true := by rw [on, room]; rfl
  show execEventMergedPost s = _
  rw [execEventMergedPost, postMerged, hm, List.length_singleton, postMergedN, hm]
  simp only [more, if_true]
  rfl

/-! ### MSI-X -/

theorem getLsbD_foldl_pow {w d : Nat} (hd : d < w) (l : List Nat) (b : BitVec w) :
    (l.foldl (fun m k => m ||| BitVec.ofNat w (2 ^ k)) b).getLsbD d = (b.getLsbD d || decide (d ∈ l)) := by
  induction l generalizing b with
  | nil => simp
  | cons k l ih =>
    rw [List.foldl_cons, ih, BitVec.getLsbD_or, getLsbD_pow w d k hd, Bool.or_assoc, ← Bool.decide_or]
    simp only [List.mem_cons]

/-- The causes that one message of cause `c` covers. -/
def coveredCauses (s : State) (due : BitVec 34) (c : Nat) : BitVec 34 :=
  ((List.range 34).filter (causeDue s due ((tabGet {} s.host.causes c).vector.toNat % 64))).foldl
    (fun m d => m ||| BitVec.ofNat 34 (2 ^ d)) (BitVec.ofNat 34 (2 ^ c))

/-- Those causes wait no more. -/
def coverCauses (due : BitVec 34) (c : Nat) (s : State) : State :=
  updHost (fun h => { h with uncovered := h.uncovered &&& ~~~ coveredCauses s due c }) s

/-- A masked vector's message is pending (R648). -/
def pendVector (v : Nat) (s : State) : State := updHost (fun h => { h with msixPba := h.msixPba ||| BitVec.ofNat 64 (2 ^ v) }) s

theorem getLsbD_coveredCauses (s : State) (due : BitVec 34) (c : Nat) {d : Nat} (hd : d < 34) :
    (coveredCauses s due c).getLsbD d =
      (decide (d = c) || causeDue s due ((tabGet {} s.host.causes c).vector.toNat % 64) d) := by
  rw [coveredCauses, getLsbD_foldl_pow hd, getLsbD_pow 34 d c hd]
  simp [List.mem_filter, hd]

/-- A cause that waits is left waiting unless the message is its own or it shares the vector and is due (R646, R647). -/
theorem uncovered_after (s : State) (due : BitVec 34) (c : Nat) {d : Nat} (hd : d < 34) :
    (s.host.uncovered &&& ~~~ coveredCauses s due c).getLsbD d = (s.host.uncovered.getLsbD d && !decide (d = c ∨
      (tabGet {} s.host.causes d).vector.toNat % 64 = (tabGet {} s.host.causes c).vector.toNat % 64 ∧
        ((tabGet {} s.host.causes d).holdoff = 0 ∨ due.getLsbD d = true))) := by
  rw [BitVec.getLsbD_and, BitVec.getLsbD_not, getLsbD_coveredCauses s due c hd, causeDue]
  cases s.host.uncovered.getLsbD d
  · rfl
  · rw [Bool.eq_iff_iff]
    simp [hd]

theorem msixMessage_covers {s : State} (c : BitVec 6) (due : BitVec 34) (hc : c.toNat ≤ 33)
    (un : s.host.uncovered.getLsbD c.toNat = true) (en : s.host.msixEnable = true) (bm : s.host.busMaster = true) :
    ∃ t, exec (.msixMessage ⟨c, due⟩) s = .next t ∧
      (∀ d < 34, t.host.uncovered.getLsbD d = (s.host.uncovered.getLsbD d && !decide (d = c.toNat ∨
        (tabGet {} s.host.causes d).vector.toNat % 64 = (tabGet {} s.host.causes c.toNat).vector.toNat % 64 ∧
          ((tabGet {} s.host.causes d).holdoff = 0 ∨ due.getLsbD d = true)))) ∧
      if msixMasked s ((tabGet {} s.host.causes c.toNat).vector.toNat % 64) = true
      then t.host.msixPba.getLsbD ((tabGet {} s.host.causes c.toNat).vector.toNat % 64) = true ∧ t.host.mem = s.host.mem
      else t.host.msixPba = s.host.msixPba ∧ t.host.mem = memWrite s.host.mem
        (msixDword s (4 * ((tabGet {} s.host.causes c.toNat).vector.toNat % 64) + 1) ++
          msixDword s (4 * ((tabGet {} s.host.causes c.toNat).vector.toNat % 64))).toNat
        (leBytes 4 (msixDword s (4 * ((tabGet {} s.host.causes c.toNat).vector.toNat % 64) + 2)).toNat) := by
  have go : (decide (33 < c.toNat) || !s.host.uncovered.getLsbD c.toNat || !s.host.msixEnable || !s.host.busMaster) = false := by
    simp [hc, un, en, bm]
  have next : exec (.msixMessage ⟨c, due⟩) s = .next (if msixMasked s ((tabGet {} s.host.causes c.toNat).vector.toNat % 64)
      then pendVector ((tabGet {} s.host.causes c.toNat).vector.toNat % 64) (coverCauses due c.toNat s)
      else msixSend ((tabGet {} s.host.causes c.toNat).vector.toNat % 64) (coverCauses due c.toNat s)) :=
    congrArg Host.Outcome.next (if_neg (ne_true_of_eq_false go))
  by_cases masked : msixMasked s ((tabGet {} s.host.causes c.toNat).vector.toNat % 64) = true
  · rw [if_pos masked] at next
    simp only [masked, if_true]
    refine ⟨_, next, fun d hd => uncovered_after s due c.toNat hd, ?_, rfl⟩
    show (s.host.msixPba ||| BitVec.ofNat 64 (2 ^ _)).getLsbD _ = true
    rw [BitVec.getLsbD_or, getLsbD_pow 64 _ _ (Nat.mod_lt _ (by decide))]
    simp
  · rw [if_neg masked] at next
    simp only [masked]
    exact ⟨_, next, fun d hd => uncovered_after s due c.toNat hd, rfl, rfl⟩

/-! ### Configuration space -/

/-- What no step of a fold changes, the fold leaves. -/
theorem foldl_leaves {β γ : Type} (g : State → γ) {f : State → β → State} (h : ∀ a b, g (f a b) = g a) (l : List β) (s : State) :
    g (l.foldl f s) = g s := by
  induction l generalizing s with
  | nil => rfl
  | cons b l ih => rw [List.foldl_cons, ih, h]

theorem msixPending_busMaster (s : State) : (msixPending s).host.busMaster = s.host.busMaster := by
  unfold msixPending
  split
  · rfl
  · refine foldl_leaves (·.host.busMaster) (fun a v => ?_) _ s
    by_cases masked : msixMasked a v = true
    · simp only [masked, if_true]
    · simp only [masked]
      rfl

theorem configurationRequest_busMaster {s : State} (op : configOpen s = true) {e : BitVec 4} (he : e.getLsbD 0 = true) (v : BitVec 32) :
    ∃ t, exec (.configurationRequest true 1 e v) s = .next t ∧ t.host.busMaster = v.getLsbD 2 := by
  refine ⟨msixPending (configWrite 1 e v s), ?_, (msixPending_busMaster _).trans (if_pos he)⟩
  show execConfigurationRequest true 1 e v s = _
  rw [execConfigurationRequest, op]
  rfl

theorem configurationRequest_reads {s : State} (op : configOpen s = true) (r : BitVec 10) (e : BitVec 4) (v : BitVec 32) :
    exec (.configurationRequest false r e v) s = .next (configRead r s) := by
  show execConfigurationRequest false r e v s = _
  rw [execConfigurationRequest, op]
  rfl

/-- A dword all of whose bits Table 12.1 fixes. -/
theorem fixBits_all (w v : BitVec 32) : fixBits w 0xFFFFFFFF v = v := by
  have none : w &&& ~~~ 0xFFFFFFFF = 0 := BitVec.and_zero
  have all : v &&& 0xFFFFFFFF = v := BitVec.and_allOnes
  rw [fixBits, none, all]
  exact BitVec.zero_or

theorem getLsbD_fixBits (w mask v : BitVec 32) {i : Nat} (h : mask.getLsbD i = true) : (fixBits w mask v).getLsbD i = v.getLsbD i := by
  simp [fixBits, h]

theorem configRead_busMaster (s : State) : (configRead 1 s).host.readData.getLsbD 2 = s.host.busMaster := by
  refine (getLsbD_fixBits (BitVec.ofNat 32 (freeNow s)) 0x00180004 _ (i := 2) rfl).trans ?_
  show (0x00100000 ||| if s.host.busMaster then BitVec.ofNat 32 (2 ^ 2) else 0).getLsbD 2 = s.host.busMaster
  cases s.host.busMaster <;> rfl

/-! ### The management processor -/

theorem mpReg_setMpReg_self {g : BitVec 5} (h : g ≠ 0) (v : Word36) (s : State) : mpReg (setMpReg g v s) g = v := by
  rw [setMpReg, if_neg h, mpReg, if_neg h]
  exact tabGet_set_self _ _ _ _

theorem mpReg_setMpReg_of_ne {g q : BitVec 5} (h : q ≠ g) (v : Word36) (s : State) : mpReg (setMpReg g v s) q = mpReg s q := by
  have hn : q.toNat ≠ g.toNat := fun e => h (BitVec.eq_of_toNat_eq e)
  rw [setMpReg, mpReg, mpReg]
  split
  · rfl
  · split
    · rfl
    · exact tabGet_set_of_ne _ _ _ hn

theorem setMpReg_mpCtl (g : BitVec 5) (v : Word36) (s : State) : (setMpReg g v s).host.mpCtl = s.host.mpCtl := by
  unfold setMpReg
  split <;> rfl

theorem mrd_reads {s : State} (run : mpRuns s = true) (gd ga gb : BitVec 5) :
    ∃ t, exec (.mrd gd ga gb) s = .next t ∧ ∃ v : BitVec 32, tabFind t.host.mpCtl ((mpReg s ga).toNat % 2 ^ 24) = some v ∧
      (∀ w, tabFind s.host.mpCtl ((mpReg s ga).toNat % 2 ^ 24) = some w → v = w) ∧ (gd ≠ 0 → mpReg t gd = v.setWidth 36) ∧
      ∀ g, g ≠ gd → mpReg t g = mpReg s g := by
  have stop : ¬ (!mpRuns s) = true := by rw [run]; decide
  refine ⟨_, congrArg Host.Outcome.next (if_neg stop), ?_⟩
  rw [mpAddress]
  cases hf : tabFind s.host.mpCtl ((mpReg s ga).toNat % 2 ^ 24) with
  | some v =>
    refine ⟨v, ?_, fun w hw => Option.some.inj hw, fun h => mpReg_setMpReg_self h _ s, fun g hg => mpReg_setMpReg_of_ne hg _ s⟩
    exact (congrArg (tabFind · _) (setMpReg_mpCtl gd _ s)).trans hf
  | none =>
    refine ⟨BitVec.ofNat 32 (freeNow s), ?_, nofun, fun h => mpReg_setMpReg_self h _ _, fun g hg => mpReg_setMpReg_of_ne hg _ _⟩
    exact (congrArg (tabFind · _) (setMpReg_mpCtl gd _ _)).trans (tabFind_put_self _ _ _)

theorem mwr_writes {s : State} (run : mpRuns s = true) (gd ga gb : BitVec 5) :
    ∃ t, exec (.mwr gd ga gb) s = .next t ∧ tabFind t.host.mpCtl ((mpReg s ga).toNat % 2 ^ 24) = some ((mpReg s gb).setWidth 32) ∧
      (∀ q, q ≠ (mpReg s ga).toNat % 2 ^ 24 → tabFind t.host.mpCtl q = tabFind s.host.mpCtl q) ∧ ∀ g, mpReg t g = mpReg s g :=
  ⟨_, congrArg Host.Outcome.next (if_pos run), tabFind_put_self _ _ _, fun _ hq => tabFind_put_of_ne _ _ hq, fun _ => rfl⟩

theorem mwait_answers {s : State} (run : mpRuns s = true) (gd ga gb : BitVec 5) :
    ∃ t, exec (.mwait gd ga gb) s = .next t ∧ (∀ g, g ≠ gd → mpReg t g = mpReg s g) ∧
      (mpReg t gd = mpReg s gd ∨ ∃ src < 512, mpReg t gd = BitVec.ofNat 36 src) := by
  have stop : ¬ (!mpRuns s) = true := by rw [run]; decide
  refine ⟨_, congrArg Host.Outcome.next (if_neg stop), ?_⟩
  cases natBit (freeNow s) 9 with
  | false => exact ⟨fun _ _ => rfl, .inl rfl⟩
  | true =>
    refine ⟨fun g hg => mpReg_setMpReg_of_ne hg _ _, ?_⟩
    by_cases h0 : gd = 0
    · subst h0
      exact .inl rfl
    · exact .inr ⟨freeNow s % 512, Nat.mod_lt _ (by decide), mpReg_setMpReg_self h0 _ _⟩

theorem mrst_resets {s : State} (run : mpRuns s = true) (gd ga gb : BitVec 5) :
    exec (.mrst gd ga gb) s = .next (pulseL3 srcFatal s) := congrArg Host.Outcome.next (if_pos run)

theorem managementProcessorHalt_sets {s : State} (d3 : s.sec.level = 3) (halt : Bool) :
    ∃ t, exec (.managementProcessorHalt halt) s = .next t ∧ t.sec.mpHalted = halt :=
  ⟨_, congrArg Host.Outcome.next (if_pos d3), by rw [(sweepBad_reports _).sec]; rfl⟩

/-- Settles O3 (R606, R626, R632, R646-R648, R652, R720; log entries 2, 89, 96 and 170): each happening by its own lemma. -/
theorem hostSideAndManagementProcessor : Obligations.HostSideAndManagementProcessor := by
  unfold Obligations.HostSideAndManagementProcessor
  intro s
  refine ⟨cqHeldCompletion_writes, eventMergedPost_posts, msixMessage_covers, fun op e v => ⟨fun he => ?_, ?_, ?_, ?_⟩,
    fun run gd ga gb => ?_, fun d3 => ⟨managementProcessorHalt_sets d3 true, managementProcessorHalt_sets d3 false⟩⟩
  · exact configurationRequest_busMaster op he v
  · exact ⟨_, configurationRequest_reads op 0 e v, fixBits_all _ _⟩
  · exact ⟨_, configurationRequest_reads op 2 e v, fixBits_all _ _⟩
  · exact ⟨_, configurationRequest_reads op 1 e v, configRead_busMaster s⟩
  · exact ⟨mrd_reads run gd ga gb, mwr_writes run gd ga gb, mwait_answers run gd ga gb, mrst_resets run gd ga gb⟩

end Sys2Proof.Machine
end

section
/-!
PROOFS. Sheet and furnish commands 0x0Dxx (Table 1.13).
-/
namespace Sys2Proof.Machine

/-! ### Small packed fields -/

theorem b2n_lt_two (b : Bool) : b2n b < 2 := by cases b <;> decide

theorem packNat_two_bits (a b : Bool) : packNat [(b2n a, 1), (b2n b, 1)] = b2n a + 2 * b2n b := by cases a <;> cases b <;> rfl

theorem packNat_three_bits (a b c : Bool) : packNat [(b2n a, 1), (b2n b, 1), (b2n c, 1)] = b2n a + 2 * b2n b + 4 * b2n c := by
  cases a <;> cases b <;> cases c <;> rfl

/-! ### Loads -/

/-- A load command whose body loads the bank being built. -/
theorem loads_of_body {c : CmdSpec} {m : BitVec 4} {s : State} {unit n : Nat} {f : Bank → Bank} (h : Accepted c m s)
    (body : bodyOf c m s = okCmd (loadBank unit n f (startCmd m.toNat s))) (room : completionRoom s = true) :
    Loads (.next (runCmd c m s)) m s unit n f := by
  intro b hb
  refine effect_of_state h (body.trans ?_) room (.of_host rfl)
  rw [loadBank, show (startCmd m.toNat s).sh.next = some b from hb]
  rfl

/-! ### Commands on the generator -/

theorem sheetSet_sets {s : State} {m : BitVec 4} (room : completionRoom s = true) (h : Accepted sheetSet m s)
    (stopped : s.sh.running = false) : Ends (exec (.sheetSet m) s) m s (fun t =>
      t.sh.sheet = BitVec.ofNat 48 (par s m 4 8) ∧ t.sh.cur = { s.sh.cur with
        period := BitVec.ofNat 9 (par s m 0 2), window := BitVec.ofNat 4 (par s m 2 1) } ∧
      t.sh.furnish = s.sh.furnish ∧ t.sh.running = false ∧ ∀ b, s.sh.next = some b → t.sh.next = some (
        if tabGet 0 b.written 17 = 0 then { b with bank := { b.bank with
          period := BitVec.ofNat 9 (par s m 0 2), window := BitVec.ofNat 4 (par s m 2 1) } } else b)) := by
  refine ends_of_body h (bs := []) (if_neg (ne_true_of_eq_false stopped)) (Nat.zero_le _) room (.of_host rfl) fun t _ r => ?_
  rw [r.sheets]
  refine ⟨rfl, rfl, rfl, stopped, fun b hb => ?_⟩
  simp only [updSheets, startCmd, hb, leAt_payload]
  split <;> rfl

theorem sheetStart_now {s : State} {m : BitVec 4} (room : completionRoom s = true) (h : Accepted sheetStart m s)
    (stopped : s.sh.running = false) (loaded : s.sh.furnish ≠ 0) (now : par s m 0 1 = 0) : Effect (exec (.sheetStart m) s) m s
      (fun a => updEv (fun e => { e with second := s.line.ptp.time.sec, secondSheet := s.sh.sheet })
        (updSheets (fun x => { x with running := true, startReq := false, tickTime := s.line.ptp.time }) a)) [] := by
  have go : (s.sh.running || decide (s.sh.furnish = 0)) = false := by rw [stopped, decide_eq_false loaded]; rfl
  have ne : ¬ par s m 0 1 = 1 := by omega
  exact effect_of_state h ((if_neg (ne_true_of_eq_false go)).trans (if_neg ne)) room (.of_host rfl)

theorem sheetStart_second {s : State} {m : BitVec 4} (room : completionRoom s = true) (h : Accepted sheetStart m s)
    (stopped : s.sh.running = false) (loaded : s.sh.furnish ≠ 0) (later : par s m 0 1 = 1) : Effect (exec (.sheetStart m) s) m s
      (updSheets (fun x => { x with startReq := true })) [] := by
  have go : (s.sh.running || decide (s.sh.furnish = 0)) = false := by rw [stopped, decide_eq_false loaded]; rfl
  exact effect_of_state h ((if_neg (ne_true_of_eq_false go)).trans (if_pos later)) room (.of_host rfl)

theorem sheetQuery_returns {s : State} {m : BitVec 4} (room : completionRoom s = true) (h : Accepted sheetQuery m s) :
    Effect (exec (.sheetQuery m) s) m s id
      (layout [(s.sh.sheet.toNat, 8), (s.sh.tickTime.sec.toNat, 6), (s.sh.tickTime.ns.toNat, 4), (s.sh.cur.period.toNat, 2),
        (s.sh.cur.window.toNat, 1), (b2n s.sh.aligned + 2 * b2n s.sh.alignEn + 4 * b2n (ticking s), 1), (s.sh.furnish.toNat, 1),
        (if s.sh.pending.isSome then (nextFurnish s.sh.furnish).toNat else 0, 1), ((s.sh.pending.map (fun c => c.sheet.toNat)).getD 0, 8),
        ((oldestFurnish s).toNat, 1)]) := by
  refine effect_of_reply h ?_ (by simp [leBytes_length]) room
  have pend : (match s.sh.pending with | some c => c.sheet.toNat | none => 0) = (s.sh.pending.map (fun c => c.sheet.toNat)).getD 0 := by
    cases s.sh.pending <;> rfl
  rw [← pend, ← packNat_three_bits]
  rfl

theorem sheetNext_loads {s : State} {m : BitVec 4} (room : completionRoom s = true) (b : NextBank) (h : Accepted sheetNext m s)
    (hb : s.sh.next = some b) : Effect (exec (.sheetNext m) s) m s (updSheets (fun x => { x with next := some { b with
      bank := { b.bank with period := BitVec.ofNat 9 (par s m 0 2), window := BitVec.ofNat 4 (par s m 2 1) }
      written := tabSet 0 b.written 17 (tabGet 0 b.written 17 + 1)
      complete := b.complete &&& 0x1FFFF } })) [] :=
  loads_of_body (unit := 17) (n := 1) (f := fun b => { b with
    period := BitVec.ofNat 9 (par s m 0 2), window := BitVec.ofNat 4 (par s m 2 1) }) h rfl room b hb

theorem tickSubscribe_sets {s : State} {m : BitVec 4} (room : completionRoom s = true) (h : Accepted tickSubscribe m s) :
    Ends (exec (.tickSubscribe m) s) m s (fun t =>
      tabGet {} t.sh.subs (par s m 0 1) = { tabGet {} s.sh.subs (par s m 0 1) with
        enable := par s m 1 1 == 1, domain := BitVec.ofNat 16 (par s m 2 2), divisor := BitVec.ofNat 16 (par s m 4 2)
        hostEvent := par s m 6 1 == 1 } ∧
      ∀ k, k ≠ par s m 0 1 → tabGet {} t.sh.subs k = tabGet {} s.sh.subs k) := by
  refine ends_of_body h (bs := []) rfl (Nat.zero_le _) room (.of_host rfl) fun t _ r => ?_
  rw [r.sheets]
  exact ⟨tabGet_set_self _ _ _ _, fun k hk => tabGet_set_of_ne _ _ _ hk⟩

theorem lateCounters_return {s : State} {m : BitVec 4} (room : completionRoom s = true) (h : Accepted lateCounters m s) :
    Effect (exec (.lateCounters m) s) m s
      (fun a => if par s m 2 1 = 1 then updSheets (fun x => { x with late := tabClear x.late ((par s m 0 1 * 8 + par s m 1 1) * 4) 4 }) a else a)
      (layout [(tabGet 0 s.sh.late ((par s m 0 1 * 8 + par s m 1 1) * 4), 8), (tabGet 0 s.sh.late ((par s m 0 1 * 8 + par s m 1 1) * 4 + 1), 8),
        (tabGet 0 s.sh.late ((par s m 0 1 * 8 + par s m 1 1) * 4 + 2), 8), (tabGet 0 s.sh.late ((par s m 0 1 * 8 + par s m 1 1) * 4 + 3), 8)]) := by
  refine effect_of_apart h rfl (by simp [leBytes_length]) room (.of_host ?_)
  split <;> rfl

/-- Settles O4 (Table 1.13; R477 and log entry 160 for the first sheet of the second). -/
theorem sheetCommandsTakeEffect : Obligations.SheetCommandsTakeEffect := by
  unfold Obligations.SheetCommandsTakeEffect
  intro s m room
  exact ⟨sheetSet_sets room, sheetStart_now room, sheetStart_second room, fun h => effect_of_state h rfl room (.of_host rfl),
    sheetQuery_returns room, fun b h => sheetNext_loads room b h, tickSubscribe_sets room, lateCounters_return room⟩

/-! ### Furnish commands -/

/-- What a commit's switch leaves of the generator and of port H, whatever it reports. -/
theorem applyCommit_reports {s : State} {b : NextBank} (hb : s.sh.next = some b) :
    Reports { s with
      sh := { s.sh with old := some (s.sh.furnish, s.sh.cur), cur := b.bank, furnish := nextFurnish s.sh.furnish, next := none, pending := none }
      ev := { s.ev with furnishSheets := s.ev.furnishSheets ++ [s.sh.sheet] } } (applyCommit s) := by
  rw [applyCommit, hb]
  exact (setFlag_reports 0x40C 1 _).trans (raise_reports _ _ _)

theorem applyCommit_apart {s : State} {b : NextBank} (hb : s.sh.next = some b) : Apart s (applyCommit s) := by
  have base : Apart s { s with
      sh := { s.sh with old := some (s.sh.furnish, s.sh.cur), cur := b.bank, furnish := nextFurnish s.sh.furnish, next := none, pending := none }
      ev := { s.ev with furnishSheets := s.ev.furnishSheets ++ [s.sh.sheet] } } := .of_host rfl
  rw [applyCommit, hb]
  exact base.trans ((setFlag_apart 0x40C 1 _).trans (raise_apart _ _ _))

theorem furnishBegin_opens {s : State} {m : BitVec 4} (room : completionRoom s = true) (h : Accepted furnishBegin m s)
    (next : par s m 0 1 = (nextFurnish s.sh.furnish).toNat) (old : s.sh.old = none) (pend : s.sh.pending = none) (free : s.sh.next = none) :
    Effect (exec (.furnishBegin m) s) m s
      (updSheets (fun x => { x with next := some { bank := x.cur, complete := 0x3FFFF, written := [] } })) [] := by
  refine effect_of_state h ?_ room (.of_host rfl)
  simp only [bodyOf, furnishBegin, leAt_payload, next, startCmd, old, pend, free, ne_eq, not_true_eq_false, if_false,
    Option.isSome_none, Bool.false_eq_true]

theorem furnishCloseUnit_completes {s : State} {m : BitVec 4} (room : completionRoom s = true) (b : NextBank)
    (h : Accepted furnishCloseUnit m s) (hb : s.sh.next = some b) (n : tabGet 0 b.written (unitPlace (par s m 0 1)) = par s m 4 4) :
    Effect (exec (.furnishCloseUnit m) s) m s (updSheets (fun x => { x with next := some { b with
      complete := b.complete ||| BitVec.ofNat 18 (2 ^ unitPlace (par s m 0 1)) } })) [] := by
  refine effect_of_state h ?_ room (.of_host rfl)
  simp only [bodyOf, furnishCloseUnit, leAt_payload, startCmd, hb, n, ne_eq, not_true_eq_false, if_false]

theorem furnishCommit_accepted {s : State} {m : BitVec 4} (room : completionRoom s = true) (b : NextBank) (h : Accepted furnishCommit m s)
    (next : par s m 0 1 = (nextFurnish s.sh.furnish).toNat) (pend : s.sh.pending = none) (hb : s.sh.next = some b)
    (whole : incompleteUnit s b = none) (run : ticking s = true) (lo : s.sh.sheet.toNat + 2 ≤ par s m 8 8)
    (hi : par s m 8 8 ≤ s.sh.sheet.toNat + 1048576) :
    Effect (exec (.furnishCommit m) s) m s (updSheets (fun x => { x with
      pending := some { sheet := BitVec.ofNat 48 (par s m 8 8), asked := none, failed := [] } })) [] := by
  have whole' : incompleteUnit (startCmd m.toNat s) b = none := whole
  have run' : ticking (startCmd m.toNat s) = true := run
  have lo' : ¬ par s m 8 8 < (startCmd m.toNat s).sh.sheet.toNat + 2 := Nat.not_lt.mpr lo
  have hi' : ¬ (startCmd m.toNat s).sh.sheet.toNat + 1048576 < par s m 8 8 := Nat.not_lt.mpr hi
  have next' : par s m 0 1 = (nextFurnish (startCmd m.toNat s).sh.furnish).toNat := next
  have pend' : (startCmd m.toNat s).sh.pending = none := pend
  have hb' : (startCmd m.toNat s).sh.next = some b := hb
  refine effect_of_state h ?_ room (.of_host rfl)
  simp only [bodyOf, furnishCommit, leAt_payload, next', pend', hb', whole', run', lo', hi', ne_eq, not_true_eq_false, if_false, if_true,
    Option.isSome_none, Bool.false_eq_true, decide_false, Bool.and_false]

theorem furnishCommit_atOnce {s : State} {m : BitVec 4} (room : completionRoom s = true) (b : NextBank) (h : Accepted furnishCommit m s)
    (next : par s m 0 1 = (nextFurnish s.sh.furnish).toNat) (pend : s.sh.pending = none) (hb : s.sh.next = some b)
    (whole : incompleteUnit s b = none) (stopped : ticking s = false) : Ends (exec (.furnishCommit m) s) m s (fun t =>
      t.sh.furnish = nextFurnish s.sh.furnish ∧ t.sh.cur = b.bank ∧ t.sh.old = some (s.sh.furnish, s.sh.cur) ∧ t.sh.next = none ∧
      t.sh.pending = none ∧ t.sh.sheet = s.sh.sheet) := by
  have whole' : incompleteUnit (startCmd m.toNat s) b = none := whole
  have stopped' : ticking (startCmd m.toNat s) = false := stopped
  have next' : par s m 0 1 = (nextFurnish (startCmd m.toNat s).sh.furnish).toNat := next
  have pend' : (startCmd m.toNat s).sh.pending = none := pend
  have hb' : (startCmd m.toNat s).sh.next = some b := hb
  refine ends_of_body h (bs := []) (u := applyCommit (startCmd m.toNat s)) ?_ (Nat.zero_le _) room (applyCommit_apart hb') fun t _ r => ?_
  · simp only [bodyOf, furnishCommit, leAt_payload, next', pend', hb', whole', stopped', ne_eq, not_true_eq_false, if_false,
      Option.isSome_none, Bool.false_eq_true, Bool.false_and]
  · rw [((applyCommit_reports hb').trans r).sheets]
    exact ⟨rfl, rfl, rfl, rfl, rfl, rfl⟩

theorem furnishAbort_cancels {s : State} {m : BitVec 4} (room : completionRoom s = true) (h : Accepted furnishAbort m s)
    (next : par s m 0 1 = (nextFurnish s.sh.furnish).toNat) (open' : s.sh.next.isSome = true)
    (early : ∀ c, s.sh.pending = some c → 2 ^ 47 ≤ (s.sh.sheet + 1 - c.sheet).toNat) : Effect (exec (.furnishAbort m) s) m s
      (updSheets (fun x => { x with pending := none, next := if par s m 1 1 = 1 then none else x.next })) [] := by
  have isOpen : ¬ s.sh.next.isNone = true := by
    rw [Option.isNone_iff_eq_none]
    exact fun e => by simp [e] at open'
  refine effect_of_state h ((if_neg (Classical.not_not.mpr next)).trans ((if_neg isOpen).trans (if_neg ?_))) room (.of_host rfl)
  show ¬ (match s.sh.pending with | some c => decide ((s.sh.sheet + 1 - c.sheet).toNat < 2 ^ 47) | none => false) = true
  cases hp : s.sh.pending with
  | none => exact Bool.false_ne_true
  | some c => simpa using early c hp

theorem furnishStatus_returns {s : State} {m : BitVec 4} (room : completionRoom s = true) (h : Accepted furnishStatus m s) :
    Effect (exec (.furnishStatus m) s) m s id
      (layout [(s.sh.furnish.toNat, 1), ((oldestFurnish s).toNat, 1), ((nextFurnish s.sh.furnish).toNat, 1),
        (b2n s.sh.next.isSome + 2 * b2n s.sh.pending.isSome, 1), ((s.sh.next.map (fun b => b.complete.toNat)).getD 0, 16)]) := by
  refine effect_of_reply h ?_ (by simp [leBytes_length]) room
  have whole : (match s.sh.next with | some b => b.complete.toNat | none => 0) = (s.sh.next.map (fun b => b.complete.toNat)).getD 0 := by
    cases s.sh.next <;> rfl
  rw [← whole, ← packNat_two_bits]
  rfl

/-- Settles O5 (R60, R61, R66, R71; log entry 103). -/
theorem furnishCommandsTakeEffect : Obligations.FurnishCommandsTakeEffect := by
  unfold Obligations.FurnishCommandsTakeEffect
  intro s m room
  exact ⟨furnishBegin_opens room, fun b => furnishCloseUnit_completes room b, fun b => furnishCommit_accepted room b,
    fun b => furnishCommit_atOnce room b, furnishAbort_cancels room, furnishStatus_returns room⟩

end Sys2Proof.Machine
end

section
/-!
PROOFS. The tick, alignment and furnish commits (01_sheets_windows_and_furnish.md).
-/
namespace Sys2Proof.Machine

/-! ### The sheet number at a tick -/

theorem countSheets_sheet (s : State) : (countSheets s).sh.sheet = s.sh.sheet := by
  have owners (a : State) (l : Tab OwnerUse) : (l.foldl (fun a p => count .owner p.1 10 1 a) a).sh.sheet = a.sh.sheet :=
    foldl_leaves (·.sh.sheet) (fun _ _ => congrArg Sheets.sheet (count_sh _ _ _ _ _)) l a
  unfold countSheets
  dsimp only
  split
  · exact (foldl_leaves (·.sh.sheet) (fun _ _ => congrArg Sheets.sheet (count_sh _ _ _ _ _)) _ _).trans (owners s _)
  · exact owners s _

/-- The tick's first action counts one sheet, and what it reports leaves that number or a reset clears it (R19). -/
theorem beginTick_keeps_opened (s : State) : Keeps ⟨openSheet (addCounters (countSheets
    (updSheets (fun x => { x with xonDue := xonReady s, tickOwed := true }) s))), true, false⟩ (beginTick s) :=
  noteFecSheet_keeps _ (noteWrap_keeps _ (noteAligned_keeps _ (applyNext_keeps _ (.refl _ _ _))))

theorem beginTick_sheet (s : State) : (beginTick s).sh.sheet = s.sh.sheet + 1 ∨ (beginTick s).sh.sheet = 0 := by
  have opened : (openSheet (addCounters (countSheets (updSheets (fun x => { x with xonDue := xonReady s, tickOwed := true }) s)))).sh.sheet =
      s.sh.sheet + 1 := congrArg (· + 1) (countSheets_sheet _)
  have h := (beginTick_keeps_opened s).sheet rfl
  rwa [opened] at h

theorem sheetTick_counts {s : State} (run : ticking s = true) :
    ∃ t, exec .sheetTick s = .next t ∧ (s.sh.tickOwed = false → t.sh.sheet = s.sh.sheet + 1 ∨ t.sh.sheet = 0) := by
  refine ⟨_, rfl, fun owed => ?_⟩
  have ended : endTick s = s := by rw [endTick, owed]; rfl
  simp only [run, if_true, ended]
  rcases (finishTick_keeps (beginTick s) (.refl _ true false)).sheet rfl with same | zero
  · rw [same]
    exact beginTick_sheet s
  · exact .inr zero

/-! ### Alignment (R25, R26, R74) -/

theorem alignTakesEffect_off {s : State} (req : s.sh.alignReq = some false) (start : s.sh.startReq = false) :
    ∃ t, exec .alignTakesEffect s = .next t ∧ t.sh = { s.sh with
      alignEn := false, alignReq := none, aligned := false, realign := false, firstSeen := t.sh.firstSeen } ∧
      (s.sh.aligned = true → (flagReg t 0x40C).getLsbD 0 = true) ∧ (s.sh.aligned = false → t.flags = s.flags) := by
  cases al : s.sh.aligned with
  | false =>
    refine ⟨updSheets (fun x => { x with alignEn := false, alignReq := none, aligned := false, realign := false }) s, ?_, rfl, nofun,
      fun _ => rfl⟩
    show execAlignTakesEffect s = _
    simp only [execAlignTakesEffect, req, al, updSheets, start, Bool.false_eq_true, if_false]
  | true =>
    have rep := (setFlag_reports 0x40C 0 (updSheets (fun x => { x with
      alignEn := false, alignReq := none, aligned := false, realign := false }) s)).trans (raise_reports 2 [] _)
    have start' : (raise 2 [] (setFlag 0x40C 0 (updSheets (fun x => { x with
        alignEn := false, alignReq := none, aligned := false, realign := false }) s))).sh.startReq = false := by
      rw [rep.sheets]
      exact start
    refine ⟨_, ?_, rep.sheets, fun _ => raise_flagsStand _ _ _ _ _ (setFlag_sets _ (by decide) _), nofun⟩
    show execAlignTakesEffect s = _
    simp only [execAlignTakesEffect, req, al, if_true, start', Bool.false_eq_true, if_false]

theorem alignTakesEffect_on {s : State} (req : s.sh.alignReq = some true) (start : s.sh.startReq = false) :
    exec .alignTakesEffect s = .next (updSheets (fun x => { x with alignEn := true, alignReq := none, realign := false }) s) := by
  show execAlignTakesEffect s = _
  simp only [execAlignTakesEffect, req, updSheets, start, Bool.false_eq_true, if_false]

theorem alignTakesEffect_start {s : State} (req : s.sh.alignReq = none) (start : s.sh.startReq = true) :
    exec .alignTakesEffect s = .next (updEv (fun e => { e with second := s.line.ptp.time.sec, secondSheet := s.sh.sheet })
      (updSheets (fun x => { x with running := true, alignEn := true, startReq := false, tickTime := s.line.ptp.time }) s)) := by
  show execAlignTakesEffect s = _
  rw [execAlignTakesEffect, req]
  simp only [start, if_true]
  rfl

theorem sheetNowLoRead_latches {s : State} (op : hostOpen s = true) : ∃ t, exec .sheetNowLoRead s = .next t ∧
    t.host.readData.toNat = s.sh.sheet.toNat % 2 ^ 32 ∧
    t.sh = { s.sh with latchHi := BitVec.ofNat 16 (s.sh.sheet.toNat / 2 ^ 32), latchFurnish := s.sh.furnish } :=
  ⟨_, congrArg Host.Outcome.next (if_pos op), BitVec.toNat_setWidth _ _, rfl⟩

/-! ### The confirmation of a commit (R67) -/

/-- The asked units that do not confirm, with the reasons of Table 1.12. -/
def failedUnits (s : State) (parity reset : BitVec 18) : List (Nat × Nat) :=
  (List.range 18).filterMap (fun i =>
    if !(askedUnits s).getLsbD i then none
    else if parity.getLsbD i then some (unitCodes.getD i 0, 1)
    else if reset.getLsbD i then some (unitCodes.getD i 0, 2)
    else if (match s.sh.next with | some b => b.complete | none => 0).getLsbD i then none
    else some (unitCodes.getD i 0, freeNow s))

/-- A unit confirms unless it is asked and has a parity error, is in reset, or has an incomplete bank. -/
theorem unit_confirms_iff {α : Type} (asked parity reset whole : Bool) (x y z : α) :
    (if !asked then none else if parity then some x else if reset then some y else if whole then none else some z) = none ↔
      (asked && (parity || reset || !whole)) = false := by
  cases asked <;> cases parity <;> cases reset <;> cases whole <;> simp

theorem failedUnits_nil (s : State) (parity reset : BitVec 18) : failedUnits s parity reset = [] ↔
    askedUnits s &&& (parity ||| reset ||| ~~~ ((s.sh.next.map (·.complete)).getD 0)) = 0 := by
  have whole : (match s.sh.next with | some b => b.complete | none => 0) = (s.sh.next.map (·.complete)).getD 0 := by
    cases s.sh.next <;> rfl
  have bit {i : Nat} (hi : i < 18) : (askedUnits s &&& (parity ||| reset ||| ~~~ ((s.sh.next.map (·.complete)).getD 0))).getLsbD i =
      ((askedUnits s).getLsbD i &&
        (parity.getLsbD i || reset.getLsbD i || !((s.sh.next.map NextBank.complete).getD 0).getLsbD i)) := by
    simp only [BitVec.getLsbD_and, BitVec.getLsbD_or, BitVec.getLsbD_not, hi, decide_true, Bool.true_and]
  rw [failedUnits, whole, List.filterMap_eq_nil_iff]
  simp only [unit_confirms_iff, List.mem_range]
  constructor
  · intro h
    refine BitVec.eq_of_getLsbD_eq fun i hi => ?_
    rw [bit hi, h i hi]
    exact BitVec.getLsbD_zero.symm
  · intro h i hi
    rw [← bit hi, h]
    exact BitVec.getLsbD_zero

theorem furnishConfirmAsk_asks {s : State} (c : PendingCommit) (parity reset : BitVec 18) (pend : s.sh.pending = some c)
    (ask : c.asked = none) (due : s.sh.sheet + 1 = c.sheet) :
    ∃ f, exec (.furnishConfirmAsk parity reset) s = .next (updSheets (fun x => { x with
      pending := some { c with asked := some (askedUnits s), failed := f } }) (drawFree s)) ∧
      (f = [] ↔ askedUnits s &&& (parity ||| reset ||| ~~~ ((s.sh.next.map (·.complete)).getD 0)) = 0) := by
  refine ⟨failedUnits s parity reset, ?_, failedUnits_nil s parity reset⟩
  show execFurnishConfirmAsk parity reset s = _
  rw [execFurnishConfirmAsk, pend]
  have go : (c.asked.isSome || decide (s.sh.sheet + 1 ≠ c.sheet)) = false := by
    rw [ask, decide_eq_false (Classical.not_not.mpr due)]
    rfl
  simp only [go, Bool.false_eq_true, if_false]
  rfl

/-! ### The switch and the retirement (R68, R69, R72) -/

theorem commitDue_of_pending {s : State} {c : PendingCommit} (pend : s.sh.pending = some c) (due : (s.sh.sheet - c.sheet).toNat < 2 ^ 47) :
    commitDue s = true := by
  rw [commitDue, pend]
  exact decide_eq_true due

theorem furnishSwitch_commits {s : State} {c : PendingCommit} (pend : s.sh.pending = some c)
    (due : (s.sh.sheet - c.sheet).toNat < 2 ^ 47) (b : NextBank) (hb : s.sh.next = some b) (ok : c.failed = []) :
    ∃ t, exec .furnishSwitch s = .next (settle t) ∧ t.sh.furnish = nextFurnish s.sh.furnish ∧
      t.sh.cur = b.bank ∧ t.sh.old = some (s.sh.furnish, s.sh.cur) ∧ t.sh.next = none ∧ t.sh.pending = none ∧
      t.sh.sheet = s.sh.sheet ∧ t.disp = s.disp := by
  have e : furnishSwitch s = applyCommit s := by simp only [furnishSwitch, pend, commitDue_of_pending pend due, ok]; rfl
  have r := applyCommit_reports hb
  refine ⟨applyCommit s, by rw [← e]; rfl, ?_⟩
  rw [r.sheets, r.disp]
  exact ⟨rfl, rfl, rfl, rfl, rfl, rfl, rfl⟩

theorem furnishSwitch_refuses {s : State} {c : PendingCommit} (pend : s.sh.pending = some c)
    (due : (s.sh.sheet - c.sheet).toNat < 2 ^ 47) (bad : c.failed ≠ []) :
    ∃ t, exec .furnishSwitch s = .next (settle t) ∧
      t.sh = { s.sh with pending := none, firstSeen := t.sh.firstSeen } ∧ (flagReg t 0x40C).getLsbD 2 = true ∧ t.disp = s.disp := by
  obtain ⟨⟨u, r⟩, l, hl⟩ := List.exists_cons_of_ne_nil bad
  have e : furnishSwitch s =
      raise 4 [(u, 8), (r, 8)] (setFlag 0x40C 2 (updSheets (fun x => { x with pending := none }) s)) := by
    simp only [furnishSwitch, pend, commitDue_of_pending pend due, hl]; rfl
  have rep := (setFlag_reports 0x40C 2 (updSheets (fun x => { x with pending := none }) s)).trans (raise_reports 4 [(u, 8), (r, 8)] _)
  exact ⟨_, by rw [← e]; rfl, rep.sheets, raise_flagsStand _ _ _ _ _ (setFlag_sets _ (by decide) _), rep.disp⟩

theorem furnishRetire_frees {s : State} (f : BitVec 8) (b : Bank) (old : s.sh.old = some (f, b)) (run : ticking s = true)
    (owed : s.sh.tickOwed = true) (none' : ∀ p ∈ s.disp.items, p.2.furnish = f → p.2.voided = true) :
    ∃ t, exec .furnishRetire s = .next (settle t) ∧ t.sh = { s.sh with old := none, firstSeen := t.sh.firstSeen } ∧
      (flagReg t 0x40C).getLsbD 3 = true := by
  have quiet : s.disp.items.any (fun p => p.2.furnish == f && !p.2.voided) = false := by
    rw [List.any_eq_false]
    intro p hp
    by_cases hf : p.2.furnish = f
    · simp [none' p hp hf]
    · simp [hf]
  have due : retireDue s = true := by rw [retireDue, old]; simp only [run, quiet]; rfl
  have e : furnishRetire s = raise 5 [] (setFlag 0x40C 3 (updSheets (fun x => { x with old := none }) s)) := by
    rw [furnishRetire, owed, due]; rfl
  have rep := (setFlag_reports 0x40C 3 (updSheets (fun x => { x with old := none }) s)).trans (raise_reports 5 [] _)
  exact ⟨_, by rw [← e]; rfl, rep.sheets, raise_flagsStand _ _ _ _ _ (setFlag_sets _ (by decide) _)⟩

/-! ### Subscriptions -/

theorem foldl_fixed {β : Type} {f : State → β → State} {s : State} (l : List β) (h : ∀ b ∈ l, f s b = s) : l.foldl f s = s := by
  induction l with
  | nil => rfl
  | cons b l ih => rw [List.foldl_cons, h b List.mem_cons_self, ih fun c hc => h c (List.mem_cons_of_mem _ hc)]

theorem deliverTicks_none {s : State} (off : ∀ k < 8, (tabGet {} s.sh.subs k).enable = false) : deliverTicks s = s := by
  have due : ∀ k ∈ List.range 8, subDue s k = false := fun k hk => by rw [subDue, off k (List.mem_range.mp hk)]; rfl
  have forward : (List.range 8).foldl (fun a k => forwardTick k a) s = s :=
    foldl_fixed _ fun k hk => by rw [forwardTick, due k hk]; rfl
  have deliver : (List.range 8).foldl (fun a k => deliverTick k a) s = s :=
    foldl_fixed _ fun k hk => by rw [deliverTick, due k hk]; rfl
  rw [deliverTicks, forward, deliver, ite_self]

/-- Settles O6 (R19, R25-R28, R32, R67-R69, R72, R74, R762; log entries 68 and 160). -/
theorem ticksAndCommitsTakeEffect : Obligations.TicksAndCommitsTakeEffect := by
  unfold Obligations.TicksAndCommitsTakeEffect
  intro s
  refine ⟨sheetTick_counts, fun stop => ?_, alignTakesEffect_on, alignTakesEffect_off, alignTakesEffect_start, sheetNowLoRead_latches,
    furnishConfirmAsk_asks, fun c pend due => ⟨furnishSwitch_commits pend due, furnishSwitch_refuses pend due⟩, deliverTicks_none,
    settle_settled, furnishRetire_frees⟩
  exact congrArg Host.Outcome.next (if_neg (ne_true_of_eq_false stop))

end Sys2Proof.Machine
end

section
/-!
PROOFS. Late items (01_sheets_windows_and_furnish.md, Late items).
-/
namespace Sys2Proof.Machine

/-! ### Deadlines -/

theorem lateOrdinary_voids {s : State} {k : Nat} {x : Item} (hx : itemOf s k = some x) (live : x.ended = false) (soft : x.hard = false)
    (due : overdue s x = true) :
    lateOrdinary k s = admitEvents (voidItem k (lateDrop x (terminateItem x (setFlag 0x40C 4 s)))) := by
  rw [lateOrdinary, hx]
  simp only [live, soft, due, Bool.not_true, Bool.or_self, Bool.false_eq_true, if_false]

/-- A lossless item or an event becomes late (R45). -/
def markLate (k : Nat) (x : Item) (s : State) : State := setFlag 0x40C 4 (putItem k { x with late := true } s)

/-- What the thread of an item that becomes late does, once its reserved slots are void (R41, R45, R330, R777). -/
def takeDeadline (n : Nat) (v : State) : State :=
  if halted (thr v n) then v
  else if (thr v n).st = .frozen then updThr n (fun y => { y with owed := 2 }) (abandonFrozen n v)
  else enterHandler n 0x20 v

theorem lateLossless_onThread {s : State} {k n : Nat} {x : Item} (hx : itemOf s k = some x) (live : x.ended = false)
    (hard : x.hard = true) (late : x.late = false) (due : overdue s x = true) (place : x.place = .onThread n) :
    lateLossless k s = takeDeadline n (voidSlots n (checkHeld n (markLate k x s))) := by
  rw [lateLossless, hx]
  simp only [live, hard, late, due, Bool.not_true, Bool.or_self, Bool.false_eq_true, if_false]
  split
  case h_2 other => exact absurd place (other n)
  case h_1 n' hn =>
    obtain rfl : n' = n := Place.onThread.inj (hn.symm.trans place)
    refine ite_congr rfl (fun _ => rfl) fun _ => ?_
    split
    case h_1 frozen => exact (if_pos frozen).symm
    case h_2 other => exact (if_neg other).symm

theorem lateLossless_elsewhere {s : State} {k : Nat} {x : Item} (hx : itemOf s k = some x) (live : x.ended = false)
    (hard : x.hard = true) (late : x.late = false) (due : overdue s x = true) (place : ∀ n, x.place ≠ .onThread n) :
    lateLossless k s = updItem k (fun y => { y with lateWaiting := true }) (markLate k x s) := by
  rw [lateLossless, hx]
  simp only [live, hard, late, due, Bool.not_true, Bool.or_self, Bool.false_eq_true, if_false]
  rfl

theorem lateLossless_freezes {s : State} {domain seq : BitVec 16} {x : Item} (hx : itemOf s (itemKey domain seq) = some x)
    (live : x.ended = false) (hard : x.hard = true) (late : x.late = false) (due : overdue s x = true) :
    ∃ a, a = setFlag 0x40C 4 (putItem (itemKey domain seq) { x with late := true } s) ∧
      (∀ n v, x.place = .onThread n → v = voidSlots n (checkHeld n a) →
        (halted (thr v n) = false → (thr v n).st ≠ .frozen → exec (.lateLossless domain seq) s = .next (settle (enterHandler n 0x20 v))) ∧
        (halted (thr v n) = true → exec (.lateLossless domain seq) s = .next (settle v)) ∧
        (halted (thr v n) = false → (thr v n).st = .frozen → exec (.lateLossless domain seq) s = .next (settle
          (updThr n (fun y => { y with owed := 2 }) (abandonFrozen n v))))) ∧
      ((∀ n, x.place ≠ .onThread n) → exec (.lateLossless domain seq) s = .next
        (settle (updItem (itemKey domain seq) (fun y => { y with lateWaiting := true }) a))) := by
  have next : exec (.lateLossless domain seq) s = .next (settle (lateLossless (itemKey domain seq) s)) := rfl
  refine ⟨_, rfl, fun n v place hv => ?_, fun place => ?_⟩
  · have e := lateLossless_onThread hx live hard late due place
    simp only [markLate, ← hv] at e
    rw [next, e]
    refine ⟨fun run frozen => ?_, fun halt => ?_, fun run frozen => ?_⟩
    · rw [takeDeadline, if_neg (ne_true_of_eq_false run), if_neg frozen]
    · rw [takeDeadline, if_pos halt]
    · rw [takeDeadline, if_neg (ne_true_of_eq_false run), if_pos frozen]
  · rw [next, lateLossless_elsewhere hx live hard late due place]
    rfl

/-! ### Ceilings (R49-R51) -/

theorem atCeiling_ends {s : State} {k : Nat} {x : Item} (hx : itemOf s k = some x) (live : x.ended = false) (hard : x.hard = true)
    (late : x.late = true) (past : pastCeiling s x = true) :
    atCeiling k s = admitEvents (ceilingPfc x (voidItem k (lateLoss x (raise 6 [] (setFlag 0x40C 5 (terminateItem x s)))))) := by
  rw [atCeiling, hx]
  simp only [live, hard, late, past, Bool.not_true, Bool.or_self, Bool.false_eq_true, if_false]

theorem ceilingXon_ends (p : BitVec 2) (c : BitVec 3) (s : State) : (ceilingXon p c s).sh.ceilingXoff =
    s.sh.ceilingXoff.filter (fun e => !(s.sh.xonDue.contains e.1 && e.1 / 64 == p.toNat && e.1 % 8 == c.toNat)) := by
  refine List.filter_congr fun e _ => congrArg (!·) ?_
  rw [Bool.eq_iff_iff]
  simp only [List.contains_iff_mem, List.mem_filter, Bool.and_eq_true, and_assoc]

theorem raise_xonDue (src : Nat) (data : List (Nat × Nat)) (s : State) : (raise src data s).sh.xonDue = s.sh.xonDue := by
  rw [(raise_reports src data s).sheets]

theorem countSheets_xonDue (s : State) : (countSheets s).sh.xonDue = s.sh.xonDue := by
  have owners (l : Tab OwnerUse) (a : State) : (l.foldl (fun a p => count .owner p.1 10 1 a) a).sh.xonDue = a.sh.xonDue :=
    foldl_leaves (·.sh.xonDue) (fun _ _ => congrArg Sheets.xonDue (count_sh _ _ _ _ _)) l a
  unfold countSheets
  dsimp only
  split
  · exact (foldl_leaves (·.sh.xonDue) (fun _ _ => congrArg Sheets.xonDue (count_sh _ _ _ _ _)) _ _).trans (owners _ s)
  · exact owners _ s

theorem noteFecSheet_xonDue (s : State) : (noteFecSheet s).sh.xonDue = s.sh.xonDue := by
  refine foldl_leaves (·.sh.xonDue) (fun a p => ?_) _ s
  dsimp only
  split
  · exact raise_xonDue _ _ _
  · rfl

theorem noteWrap_xonDue (s : State) : (noteWrap s).sh.xonDue = s.sh.xonDue := by
  unfold noteWrap
  split
  · exact raise_xonDue _ _ _
  · rfl

theorem noteAligned_xonDue (s : State) : (noteAligned s).sh.xonDue = s.sh.xonDue := by
  unfold noteAligned
  split
  · exact raise_xonDue _ _ _
  · rfl

theorem applyNext_xonDue (s : State) : (applyNext s).sh.xonDue = s.sh.xonDue := by
  unfold applyNext
  split <;> rfl

/-- A tick judges at its beginning which ceilings' XOFFs are due to end (R51). -/
theorem beginTick_xonDue (s : State) : (beginTick s).sh.xonDue = xonReady s := by
  rw [beginTick, noteFecSheet_xonDue, noteWrap_xonDue, noteAligned_xonDue, applyNext_xonDue]
  exact countSheets_xonDue _

theorem frozenFrom_false {s : State} {p c : Nat} : frozenFrom s p c = false ↔
    ∀ q ∈ s.disp.items, q.2.port.toNat = p → q.2.cls.toNat = c → domainFrozen s q.2.domain = false := by
  rw [frozenFrom, List.any_eq_false]
  simp only [Bool.and_eq_true, beq_iff_eq, not_and, Bool.not_eq_true, and_imp]

theorem mem_xonReady {s : State} {k : Nat} : k ∈ xonReady s ↔ ∃ n, (k, n) ∈ s.sh.ceilingXoff ∧
    (∀ q ∈ s.disp.items, q.2.port.toNat = k / 64 → q.2.cls.toNat = k % 8 → domainFrozen s q.2.domain = false) ∧
    (s.sh.sheet - n).toNat < 2 ^ 47 := by
  simp only [xonReady, List.mem_map, List.mem_filter, Bool.and_eq_true, Bool.not_eq_true', frozenFrom_false, decide_eq_true_eq]
  constructor
  · rintro ⟨⟨k', n⟩, ⟨mem, calm, lt⟩, rfl⟩
    exact ⟨n, mem, calm, lt⟩
  · rintro ⟨n, mem, calm, lt⟩
    exact ⟨(k, n), ⟨mem, calm, lt⟩, rfl⟩

/-- Settles O7 (R41, R43-R45, R49, R51, R777; that the ceiling holds for every late hard item is the model's choice, log entry 39). -/
theorem lateItemsEnd : Obligations.LateItemsEnd := by
  unfold Obligations.LateItemsEnd
  intro s domain seq x hx live
  refine ⟨fun soft due => ?_, lateLossless_freezes hx live, fun hard late past => ?_,
    fun p c => ⟨ceilingXon p c s, rfl, ceilingXon_ends p c s, rfl⟩, fun k _ _ => ?_⟩
  · rw [← lateOrdinary_voids hx live soft due]
    rfl
  · rw [← atCeiling_ends hx live hard late past]
    rfl
  · rw [beginTick_xonDue, mem_xonReady]

end Sys2Proof.Machine
end

section
/-!
PROOFS. What giving up cells, handles and copies can change: the Cabinet, the detectors of Dovetail (R377), and what it reports.
-/
namespace Sys2Proof.Machine

/-- From `s` to `t` only the Cabinet and Dovetail's detectors change, reporting apart, and nothing that decides how a mailbox command ends. -/
structure Frees (s t : State) : Prop where
  reports : Reports { s with cab := t.cab, dov := t.dov } t
  apart : Apart s t

theorem Frees.refl (s : State) : Frees s s := ⟨.refl s, .refl s⟩

theorem Frees.trans {a b c : State} (h : Frees a b) (k : Frees b c) : Frees a c := by
  refine ⟨?_, h.apart.trans k.apart⟩
  have h' := h.reports
  have k' := k.reports
  exact {
    pending := k'.pending.trans h'.pending
    totals := k'.totals.trans h'.totals
    cntTot := k'.cntTot.trans h'.cntTot
    cntSheet := k'.cntSheet.trans h'.cntSheet
    failover := k'.failover.trans h'.failover
    sheets := k'.sheets.trans (congrArg (fun x : Sheets => { x with firstSeen := c.sh.firstSeen }) h'.sheets)
    line := k'.line.trans h'.line
    host := h'.host.trans k'.host
    cab := rfl
    disp := k'.disp.trans h'.disp
    cores := k'.cores.trans h'.cores
    dov := rfl
    lk := k'.lk.trans h'.lk
    cop := k'.cop.trans h'.cop
    dram := k'.dram.trans h'.dram
    ev := k'.ev.trans h'.ev
    sec := k'.sec.trans (congrArg (fun x : Secure => { x with trace := c.sec.trace }) h'.sec)
    pow := k'.pow.trans h'.pow }

theorem Frees.of_reports {s t : State} (h : Reports s t) (k : Apart s t) : Frees s t := ⟨{ h with cab := rfl, dov := rfl }, k⟩

theorem Frees.of_cab (c : Cabinet) (s : State) : Frees s { s with cab := c } := ⟨.refl _, .of_host rfl⟩
theorem Frees.of_dov (d : Dovetail) (s : State) : Frees s { s with dov := d } := ⟨.refl _, .of_host rfl⟩

theorem Frees.ite {c : Prop} [Decidable c] {s a b : State} (h : Frees s a) (k : Frees s b) : Frees s (if c then a else b) := by
  split <;> assumption

theorem Frees.foldl {β : Type} {f : State → β → State} (h : ∀ a b, Frees a (f a b)) (l : List β) (s : State) : Frees s (l.foldl f s) := by
  induction l generalizing s with
  | nil => exact .refl s
  | cons b l ih => exact (h s b).trans (ih _)

/-! ### The shared operations -/

theorem raise_frees (src : Nat) (data : List (Nat × Nat)) (s : State) : Frees s (raise src data s) :=
  .of_reports (raise_reports src data s) (raise_apart src data s)

theorem setFlag_frees (off bit : Nat) (s : State) : Frees s (setFlag off bit s) :=
  .of_reports (setFlag_reports off bit s) (setFlag_apart off bit s)

theorem count_frees (sc : Scope) (x i n : Nat) (s : State) : Frees s (count sc x i n s) :=
  .of_reports (count_reports sc x i n s) (count_apart sc x i n s)

theorem noteStale_frees (s : State) : Frees s (noteStale s) :=
  ((setFlag_frees _ _ s).trans (count_frees _ _ _ _ _)).trans (raise_frees _ _ _)

theorem noteRefError_frees (s : State) : Frees s (noteRefError s) :=
  ((setFlag_frees _ _ s).trans (count_frees _ _ _ _ _)).trans (raise_frees _ _ _)

theorem setHandle_frees (i : Nat) (h : Handle) (s : State) : Frees s (setHandle i h s) := .of_cab _ s
theorem updHandle_frees (i : Nat) (f : Handle → Handle) (s : State) : Frees s (updHandle i f s) := .of_cab _ s

theorem dropHead_frees (i : Nat) (s : State) : Frees s (dropHead i s) := by
  unfold dropHead
  exact .ite (.of_cab _ s) (.refl s)

theorem giveCells_frees (g : Nat) (spill : Bool) (cs : List Nat) (s : State) : Frees s (giveCells g spill cs s) := by
  unfold giveCells
  exact .ite (.refl s) (.of_cab _ s)

theorem dischargeUse_frees (o d n : Nat) (p : Pay) (s : State) : Frees s (dischargeUse o d n p s) := by
  cases p <;> exact .of_cab _ s

theorem progress_frees (w : Thread → Bool) (s : State) : Frees s (progress w s) :=
  (Frees.of_dov _ s).trans (.foldl (fun a _ => .of_dov _ a) _ _)

theorem freeSlots_frees (i : Nat) (slots : List Nat) (s : State) : Frees s (freeSlots i slots s) := by
  have given (l : List (Nat × Nat × Nat)) (b : Bool) : Frees s (l.foldl (fun a c => giveCells (c.2.1 / 2 ^ 32) b [c.2.1 % 2 ^ 32] a) s) :=
    .foldl (fun a c => giveCells_frees _ b _ a) l s
  unfold freeSlots
  extract_lets h gone back n kept fromHr s1 s2 s3
  have discharged : Frees s s2 := .ite ((given _ _).trans (dischargeUse_frees _ _ _ _ _))
    (((given _ _).trans (dischargeUse_frees _ _ _ _ _)).trans (dischargeUse_frees _ _ _ _ _))
  exact .ite (discharged.trans (setHandle_frees _ _ _)) ((discharged.trans (setHandle_frees _ _ _)).trans (progress_frees _ _))

theorem releaseIndex_frees (i : Nat) (s : State) : Frees s (releaseIndex i s) := (dropHead_frees i s).trans (updHandle_frees _ _ _)

theorem freeHandle_frees (i : Nat) (s : State) : Frees s (freeHandle i s) := by
  unfold freeHandle
  exact .ite ((freeSlots_frees _ _ s).trans (releaseIndex_frees _ _)) (updHandle_frees _ _ s)

theorem dropRef_frees (i : Nat) (s : State) : Frees s (dropRef i s) := by
  unfold dropRef
  exact .ite (noteRefError_frees s) (.ite ((setHandle_frees _ _ s).trans (freeHandle_frees _ _)) (setHandle_frees _ _ s))

theorem dropRefWord_frees (h : HandleWord) (s : State) : Frees s (dropRefWord h s) := by
  unfold dropRefWord
  exact .ite (noteStale_frees s) (dropRef_frees _ s)

theorem leavePrefetch_frees (c : Copy) (s : State) : Frees s (leavePrefetch c s) := by
  unfold leavePrefetch
  exact .ite (.of_cab _ s) (.refl s)

theorem dropCopy_frees (c : Copy) (s : State) : Frees s (dropCopy c s) := (leavePrefetch_frees c s).trans (dropRefWord_frees _ _)

theorem setQueue_frees (k q : Nat) (l : List Copy) (s : State) : Frees s (setQueue k q l s) := .of_cab _ s

theorem discardQueues_frees (k : Nat) (s : State) : Frees s (discardQueues k s) :=
  .foldl (fun a _ => (setQueue_frees _ _ _ a).trans (.foldl (fun b _ => (count_frees _ _ _ _ b).trans (dropCopy_frees _ _)) _ _)) _ s

/-! ### A link that goes down -/

/-- What a link that goes down leaves in its subport's registers (R219, R222). -/
def subDown (x : Subport) : Subport :=
  if x.linkUp then { x with linkUp := false, trained := false, paused := [], xoffSent := 0, refreshDue := false } else x

theorem subDown_linkUp (x : Subport) : (subDown x).linkUp = false := by
  unfold subDown
  split
  · rfl
  · next h => exact Bool.eq_false_iff.mpr h

/-- A link that goes down changes its subport's registers, and gives up the frames of its queues. -/
theorem linkDown_frees (k : Nat) (s : State) : ∃ u, (u = s ∨ u = updSub k subDown s) ∧ Frees u (linkDown k s) ∧
    subOf u k = subDown (subOf s k) := by
  unfold linkDown
  split
  case isTrue down =>
    refine ⟨s, .inl rfl, .refl s, ?_⟩
    rw [subDown, if_neg (by simpa using down)]
  case isFalse up =>
    have isUp : (subOf s k).linkUp = true := by simpa using up
    have e : updSub k (fun x => { x with linkUp := false, trained := false, paused := [], xoffSent := 0, refreshDue := false }) s =
        updSub k subDown s := by simp only [updSub, subDown, isUp, if_true]
    rw [e]
    exact ⟨_, .inr rfl, ((Frees.of_cab _ _).trans (raise_frees _ _ _)).trans (discardQueues_frees _ _), tabGet_set_self _ _ _ _⟩

theorem subOf_updSub_of_ne {k q : Nat} (f : Subport → Subport) (s : State) (h : q ≠ k) : subOf (updSub k f s) q = subOf s q :=
  tabGet_set_of_ne _ _ _ h

theorem subOf_updSub_self (k : Nat) (f : Subport → Subport) (s : State) : subOf (updSub k f s) k = f (subOf s k) :=
  tabGet_set_self _ _ _ _

theorem Frees.subOf {s t : State} (h : Frees s t) (k : Nat) : subOf t k = subOf s k := by
  rw [Machine.subOf, h.reports.line]
  rfl

theorem Frees.portOf {s t : State} (h : Frees s t) (p : Nat) : portOf t p = portOf s p := by
  rw [Machine.portOf, h.reports.line]
  rfl

theorem subOf_linkDown_self (k : Nat) (s : State) : subOf (linkDown k s) k = subDown (subOf s k) := by
  obtain ⟨u, -, fr, sub⟩ := linkDown_frees k s
  rw [fr.subOf, sub]

theorem subOf_linkDown_of_ne {k q : Nat} (s : State) (h : q ≠ k) : subOf (linkDown k s) q = subOf s q := by
  obtain ⟨u, hu, fr, -⟩ := linkDown_frees k s
  rw [fr.subOf]
  rcases hu with rfl | rfl
  · rfl
  · exact subOf_updSub_of_ne _ s h

theorem portOf_linkDown (k p : Nat) (s : State) : portOf (linkDown k s) p = portOf s p := by
  obtain ⟨u, hu, fr, -⟩ := linkDown_frees k s
  rw [fr.portOf]
  rcases hu with rfl | rfl <;> rfl

theorem linkDown_apart (k : Nat) (s : State) : Apart s (linkDown k s) := by
  obtain ⟨u, hu, fr, -⟩ := linkDown_frees k s
  refine Apart.trans ?_ fr.apart
  rcases hu with rfl | rfl
  · exact .refl _
  · exact .of_host rfl

end Sys2Proof.Machine
end

section
/-!
PROOFS. Line-port commands 0x01xx (Table 2.18) and classifier commands 0x02xx (Table 2.19).
-/
namespace Sys2Proof.Machine

/-- An effect that is stated up to further reporting. -/
theorem Effect.weaken {o : Res} {m : BitVec 4} {s : State} {f g : State → State} {bs : List Byte} (h : Effect o m s f bs)
    (k : Reports (g (startCmd m.toNat s)) (f (startCmd m.toNat s))) : Effect o m s g bs := by
  obtain ⟨t, e, c, r, q⟩ := h
  exact ⟨t, e, c, r, k.trans q⟩

/-! ### Ports -/

theorem portConfig_configures {s : State} {m : BitVec 4} (room : completionRoom s = true) (h : Accepted portConfig m s)
    (off : (portOf s (par s m 0 1)).enabled = false) : Effect (exec (.portConfig m) s) m s
      (setPort (par s m 0 1) { portOf s (par s m 0 1) with
        configured := true, mode := BitVec.ofNat 8 (par s m 1 1), fecNone := par s m 2 1 == 1, interface := BitVec.ofNat 8 (par s m 3 1)
        rxMap := BitVec.ofNat 32 (par s m 4 4), txMap := BitVec.ofNat 32 (par s m 8 4), rxPol := BitVec.ofNat 8 (par s m 12 1)
        txPol := BitVec.ofNat 8 (par s m 13 1), maxFrame := par s m 14 2, presets := BitVec.ofNat 64 (par s m 16 8)
        macs := bytesAt (mbxPayload s m.toNat) 24 48 }) [] :=
  effect_of_state h (if_neg (ne_true_of_eq_false off)) room (.of_host rfl)

theorem portEnable_enables {s : State} {m : BitVec 4} (room : completionRoom s = true) (h : Accepted portEnable m s)
    (conf : (portOf s (par s m 0 1)).configured = true) (on : par s m 1 1 = 1) (tick : ticking s = true) :
    Effect (exec (.portEnable m) s) m s (setPort (par s m 0 1) { portOf s (par s m 0 1) with
      enabled := true, rxPower := namedLanes (portOf s (par s m 0 1)) (portOf s (par s m 0 1)).rxMap
      txPower := namedLanes (portOf s (par s m 0 1)) (portOf s (par s m 0 1)).txMap }) [] := by
  have go : (!(portOf s (par s m 0 1)).configured || (par s m 1 1 == 1 && !ticking s)) = false := by simp [conf, tick]
  exact effect_of_state h ((if_neg (ne_true_of_eq_false go)).trans (if_pos on)) room (.of_host rfl)

/-- The links of a list of a port's subports go down. -/
def linksDown (p : Nat) (l : List Nat) (s : State) : State := l.foldl (fun a i => linkDown (8 * p + i) a) s

theorem linksDown_cons (p i : Nat) (l : List Nat) (s : State) : linksDown p (i :: l) s = linksDown p l (linkDown (8 * p + i) s) := rfl

theorem linksDown_frame (p : Nat) (l : List Nat) (s : State) :
    Apart s (linksDown p l s) ∧ (∀ q, portOf (linksDown p l s) q = portOf s q) ∧ ∀ k, subOf (linksDown p l s) k =
      if ∃ i ∈ l, k = 8 * p + i then subDown (subOf s k) else subOf s k := by
  induction l generalizing s with
  | nil => exact ⟨.refl s, fun _ => rfl, fun k => by simp [linksDown]⟩
  | cons i l ih =>
    obtain ⟨ap, ports, subs⟩ := ih (linkDown (8 * p + i) s)
    refine ⟨(linkDown_apart _ s).trans ap, fun q => (ports q).trans (portOf_linkDown _ _ _), fun k => ?_⟩
    rw [linksDown_cons, subs]
    have again (x : Subport) : subDown (subDown x) = subDown x := by
      rw [subDown, subDown_linkUp]
      rfl
    by_cases hk : k = 8 * p + i
    · rw [hk, subOf_linkDown_self, again, ite_self, if_pos ⟨i, List.mem_cons_self, rfl⟩]
    · rw [subOf_linkDown_of_ne s hk]
      refine ite_congr (propext ?_) (fun _ => rfl) fun _ => rfl
      simp [hk]

theorem disablePort_eq (p : Nat) (s : State) : disablePort p s = setPort p { portOf (linksDown p (List.range 8) s) p with
    enabled := false, signal := 0, lock := 0, lost := 0, rxPower := 0, txPower := 0 } (linksDown p (List.range 8) s) := rfl

theorem portOf_setPort_self (p : Nat) (x : Port) (s : State) : portOf (setPort p x s) p = x := tabGet_set_self _ _ _ _
theorem portOf_setPort_of_ne {p q : Nat} (x : Port) (s : State) (h : q ≠ p) : portOf (setPort p x s) q = portOf s q :=
  tabGet_set_of_ne _ _ _ h
theorem subOf_setPort (p : Nat) (x : Port) (s : State) (k : Nat) : subOf (setPort p x s) k = subOf s k := rfl
theorem setPort_apart (p : Nat) (x : Port) (s : State) : Apart s (setPort p x s) := .of_host rfl

theorem disablePort_links (p : Nat) (s : State) : Apart s (disablePort p s) ∧
    portOf (disablePort p s) p = { portOf s p with enabled := false, signal := 0, lock := 0, lost := 0, rxPower := 0, txPower := 0 } ∧
    (∀ q, q ≠ p → portOf (disablePort p s) q = portOf s q) ∧ (∀ i < 8, (subOf (disablePort p s) (8 * p + i)).linkUp = false) ∧
    ∀ k, k / 8 ≠ p → subOf (disablePort p s) k = subOf s k := by
  obtain ⟨ap, ports, subs⟩ := linksDown_frame p (List.range 8) s
  rw [disablePort_eq]
  refine ⟨ap.trans (setPort_apart _ _ _), ?_, fun q hq => ?_, fun i hi => ?_, fun k hk => ?_⟩
  · rw [portOf_setPort_self, ports]
  · rw [portOf_setPort_of_ne _ _ hq, ports]
  · rw [subOf_setPort, subs, if_pos ⟨i, List.mem_range.mpr hi, rfl⟩, subDown_linkUp]
  · rw [subOf_setPort, subs, if_neg]
    rintro ⟨i, hi, rfl⟩
    have := List.mem_range.mp hi
    omega

theorem portEnable_disables {s : State} {m : BitVec 4} (room : completionRoom s = true) (h : Accepted portEnable m s)
    (conf : (portOf s (par s m 0 1)).configured = true) (off : par s m 1 1 = 0) (was : (portOf s (par s m 0 1)).enabled = true) :
    Ends (exec (.portEnable m) s) m s (fun t => portOf t (par s m 0 1) = { portOf s (par s m 0 1) with
        enabled := false, signal := 0, lock := 0, lost := 0, rxPower := 0, txPower := 0 } ∧ (∀ p, p ≠ par s m 0 1 → portOf t p = portOf s p) ∧
        (∀ i < 8, (subOf t (8 * par s m 0 1 + i)).linkUp = false) ∧
        ∀ k, k / 8 ≠ par s m 0 1 → subOf t k = subOf s k) := by
  have go : (!(portOf s (par s m 0 1)).configured || (par s m 1 1 == 1 && !ticking s)) = false := by simp [conf, off]
  have ne : ¬ par s m 1 1 = 1 := by omega
  obtain ⟨ap, self, other, down, rest⟩ := disablePort_links (par s m 0 1) (startCmd m.toNat s)
  refine ends_of_body h (bs := []) (u := disablePort (par s m 0 1) (startCmd m.toNat s))
    ((if_neg (ne_true_of_eq_false go)).trans ((if_neg ne).trans (congrArg (fun r => okCmd r) (if_pos was)))) (Nat.zero_le _) room ap
    fun t _ r => ?_
  have port (p : Nat) : portOf t p = portOf (disablePort (par s m 0 1) (startCmd m.toNat s)) p := by rw [portOf, r.line]; rfl
  have sub (k : Nat) : subOf t k = subOf (disablePort (par s m 0 1) (startCmd m.toNat s)) k := by rw [subOf, r.line]; rfl
  exact ⟨(port _).trans self, fun p hp => (port p).trans (other p hp), fun i hi => by rw [sub]; exact down i hi,
    fun k hk => (sub k).trans (rest k hk)⟩

/-! ### PFC_CONFIG -/

theorem pfcConf_holdPfc_self (k : Nat) (s : State) : pfcConf (holdPfc k s) k = pfcConf s k := by
  unfold holdPfc
  split
  · have sub : subOf (updSub k (fun x => { x with pfcOld := some (pfcConf s k) }) s) k = { subOf s k with pfcOld := some (pfcConf s k) } :=
      subOf_updSub_self _ _ _
    rw [pfcConf, sub]
    rfl
  · rfl

theorem subOf_holdPfc_of_ne {k q : Nat} (s : State) (h : q ≠ k) : subOf (holdPfc k s) q = subOf s q := by
  unfold holdPfc
  split
  · exact subOf_updSub_of_ne _ s h
  · rfl

theorem holdPfc_frame (k : Nat) (s : State) : (holdPfc k s).cab = s.cab ∧ (∀ p, portOf (holdPfc k s) p = portOf s p) ∧
    Apart s (holdPfc k s) := by
  unfold holdPfc
  split
  · exact ⟨rfl, fun _ => rfl, .of_host rfl⟩
  · exact ⟨rfl, fun _ => rfl, .refl s⟩

/-- The settings of a subport that transmits are held by an entry of their own, whatever the port's settings become. -/
theorem subOf_holdPfc_sending {k : Nat} {s : State} (h : (tabGet {} s.cab.egress k).sending.isSome = true) :
    (subOf (holdPfc k s) k).pfcOld = some (pfcConf s k) := by
  rw [holdPfc, if_pos h]
  exact congrArg Subport.pfcOld (subOf_updSub_self _ _ _)

theorem subOf_holdPfc_idle {k : Nat} {s : State} (h : (tabGet {} s.cab.egress k).sending.isSome = false) (q : Nat) :
    subOf (holdPfc k s) q = subOf s q := by
  rw [holdPfc, if_neg (ne_true_of_eq_false h)]

/-- The subports of a list hold their settings where they transmit. -/
def holdSubs (p : Nat) (l : List Nat) (s : State) : State := l.foldl (fun a i => holdPfc (8 * p + i) a) s

theorem holdSubs_frame (p : Nat) {l : List Nat} (nd : l.Nodup) (s : State) :
    (holdSubs p l s).cab = s.cab ∧ (∀ q, portOf (holdSubs p l s) q = portOf s q) ∧ Apart s (holdSubs p l s) ∧
    (∀ k, (¬ (∃ i ∈ l, k = 8 * p + i) ∨ (tabGet {} s.cab.egress k).sending.isSome = false) → subOf (holdSubs p l s) k = subOf s k) ∧
    ∀ i ∈ l, (tabGet {} s.cab.egress (8 * p + i)).sending.isSome = true →
      (subOf (holdSubs p l s) (8 * p + i)).pfcOld = some (pfcConf s (8 * p + i)) := by
  induction l generalizing s with
  | nil => exact ⟨rfl, fun _ => rfl, .refl s, fun _ _ => rfl, fun i hi => absurd hi List.not_mem_nil⟩
  | cons i l ih =>
    obtain ⟨fresh, nd'⟩ := List.nodup_cons.mp nd
    obtain ⟨cab, ports, ap, rest, held⟩ := ih nd' (holdPfc (8 * p + i) s)
    obtain ⟨cab0, ports0, ap0⟩ := holdPfc_frame (8 * p + i) s
    rw [cab0] at rest held
    refine ⟨cab.trans cab0, fun q => (ports q).trans (ports0 q), ap0.trans ap, fun k hk => ?_, fun j hj send => ?_⟩
    · have hk' : ¬ (∃ i ∈ l, k = 8 * p + i) ∨ (tabGet {} s.cab.egress k).sending.isSome = false :=
        hk.imp_left fun h ⟨j, hj, e⟩ => h ⟨j, List.mem_cons_of_mem _ hj, e⟩
      refine (rest k hk').trans ?_
      rcases Decidable.em (k = 8 * p + i) with rfl | ne
      · exact subOf_holdPfc_idle (hk.resolve_left (Classical.not_not.mpr ⟨i, List.mem_cons_self, rfl⟩)) _
      · exact subOf_holdPfc_of_ne s ne
    · rcases List.mem_cons.mp hj with rfl | hj'
      · have out : ¬ ∃ i ∈ l, 8 * p + j = 8 * p + i := fun ⟨i, hi, e⟩ => fresh (by rwa [Nat.add_left_cancel e])
        refine (congrArg Subport.pfcOld (rest _ (.inl out))).trans (subOf_holdPfc_sending send)
      · refine (held j hj' send).trans (congrArg some ?_)
        have ne : 8 * p + j ≠ 8 * p + i := fun e => fresh (by rwa [← Nat.add_left_cancel e])
        rw [pfcConf, subOf_holdPfc_of_ne s ne, ports0, ← pfcConf]

theorem pfcConfig_configures {s : State} {m : BitVec 4} (room : completionRoom s = true) (h : Accepted pfcConfig m s) :
    Ends (exec (.pfcConfig m) s) m s (fun t => portOf t (par s m 0 1) = { portOf s (par s m 0 1) with
      pfcEnable := BitVec.ofNat 8 (par s m 1 1), classMap := BitVec.ofNat 24 (par s m 2 3), pfcQuanta := BitVec.ofNat 16 (par s m 6 2)
      pfcRefresh := BitVec.ofNat 16 (par s m 8 2) } ∧ ∀ k, if k / 8 = par s m 0 1 ∧ (tabGet {} s.cab.egress k).sending.isSome = true
        then pfcConf t k = pfcConf s k else subOf t k = subOf s k) := by
  obtain ⟨-, -, ap, rest, held⟩ := holdSubs_frame (par s m 0 1) (List.nodup_range (n := 8)) (startCmd m.toNat s)
  refine ends_of_body h (bs := []) (u := setPort (par s m 0 1) { portOf s (par s m 0 1) with
      pfcEnable := BitVec.ofNat 8 (par s m 1 1), classMap := BitVec.ofNat 24 (par s m 2 3), pfcQuanta := BitVec.ofNat 16 (par s m 6 2)
      pfcRefresh := BitVec.ofNat 16 (par s m 8 2) } (holdSubs (par s m 0 1) (List.range 8) (startCmd m.toNat s))) rfl (Nat.zero_le _) room
    (ap.trans (setPort_apart _ _ _)) fun t _ r => ⟨?_, fun k => ?_⟩
  · rw [portOf, r.line, ← portOf, portOf_setPort_self]
  · have sub : subOf t k = subOf (holdSubs (par s m 0 1) (List.range 8) (startCmd m.toNat s)) k := by rw [subOf, r.line, ← subOf, subOf_setPort]
    by_cases hk : k / 8 = par s m 0 1 ∧ (tabGet {} s.cab.egress k).sending.isSome = true
    · obtain ⟨hp, send⟩ := hk
      have ek : 8 * par s m 0 1 + k % 8 = k := by omega
      have old := held (k % 8) (List.mem_range.mpr (Nat.mod_lt _ (by decide))) (by rw [ek]; exact send)
      rw [ek] at old
      rw [if_pos ⟨hp, send⟩, pfcConf, sub, old]
      rfl
    · rw [if_neg hk, sub]
      refine rest k (Decidable.or_iff_not_imp_left.mpr fun named => ?_)
      obtain ⟨i, hi, rfl⟩ := Classical.not_not.mp named
      have := List.mem_range.mp hi
      exact Bool.eq_false_iff.mpr fun send => hk ⟨by omega, send⟩

/-! ### Time -/

theorem ptpStepped_reports (s : State) : Reports (updSheets (fun x => { x with aligned := false, realign := x.alignEn }) s) (ptpStepped s) := by
  unfold ptpStepped
  exact (Reports.ite ((setFlag_reports 0x40C 0 _).trans (raise_reports 2 [] _)) (.refl _)).trans (raise_reports _ _ _)

theorem ptpStepped_apart (s : State) : Apart s (ptpStepped s) := by
  have base : Apart s (updSheets (fun x => { x with aligned := false, realign := x.alignEn }) s) := .of_host rfl
  unfold ptpStepped
  exact base.trans ((Apart.ite ((setFlag_apart 0x40C 0 _).trans (raise_apart 2 [] _)) (.refl _)).trans (raise_apart _ _ _))

theorem updPtp_apart (f : PtpClock → PtpClock) (s : State) : Apart s (updPtp f s) := .of_host rfl

theorem ptpSetTime_sets {s : State} {m : BitVec 4} (room : completionRoom s = true) (h : Accepted ptpSetTime m s) :
    Effect (exec (.ptpSetTime m) s) m s
      (fun a => updSheets (fun x => { x with aligned := false, realign := x.alignEn }) (updPtp (fun c => { c with
        time := { sec := BitVec.ofNat 48 (par s m 0 6), ns := BitVec.ofNat 32 (par s m 6 4) }, frac := 0 }) a)) [] := by
  have effect : Effect (exec (.ptpSetTime m) s) m s (fun a => ptpStepped (updPtp (fun c => { c with
      time := { sec := BitVec.ofNat 48 (par s m 0 6), ns := BitVec.ofNat 32 (par s m 6 4) }, frac := 0 }) a)) [] :=
    effect_of_state h rfl room ((updPtp_apart _ _).trans (ptpStepped_apart _))
  exact effect.weaken (ptpStepped_reports _)

theorem updPtp_congr {f g : PtpClock → PtpClock} {s : State} (h : f s.line.ptp = g s.line.ptp) : updPtp f s = updPtp g s := by
  rw [updPtp, updPtp, h]

theorem ptpStep_steps {s : State} {m : BitVec 4} (room : completionRoom s = true) (h : Accepted ptpStep m s) (u : Nat)
    (lt : u < 2 ^ 48 * giga * 2 ^ 32) (sum : (u : Int) = ptpUnits s.line.ptp + sInt 64 (par s m 0 8) * 2 ^ 32) :
    Effect (exec (.ptpStep m) s) m s (fun a => updSheets (fun x => { x with aligned := false, realign := x.alignEn })
      (updPtp (ptpAt u) a)) [] := by
  have mod : (((ptpUnits s.line.ptp : Int) + sInt 64 (par s m 0 8) * 2 ^ 32) % ((2 ^ 48 * giga * 2 ^ 32 : Nat) : Int)).toNat = u := by
    rw [← sum, ← Int.natCast_emod, Int.toNat_natCast, Nat.mod_eq_of_lt lt]
  have body : bodyOf ptpStep m s = okCmd (ptpStepped (updPtp (ptpAt u) (startCmd m.toNat s))) := by
    exact congrArg (fun a => okCmd (ptpStepped a)) (updPtp_congr (congrArg (ptpAt · s.line.ptp) mod))
  have effect : Effect (exec (.ptpStep m) s) m s (fun a => ptpStepped (updPtp (ptpAt u) a)) [] :=
    effect_of_state h body room ((updPtp_apart _ _).trans (ptpStepped_apart _))
  exact effect.weaken (ptpStepped_reports _)

theorem ptpLe_length (t : PtpTime) : (ptpLe t).length = 10 := rfl

theorem txTimestampRead_takes {s : State} {m : BitVec 4} (room : completionRoom s = true) (h : Accepted txTimestampRead m s)
    (whole : ∀ x ∈ (portOf s (par s m 0 1)).txStamps, x.length = 16) :
    Effect (exec (.txTimestampRead m) s) m s (setPort (par s m 0 1) { portOf s (par s m 0 1) with
        txStamps := (portOf s (par s m 0 1)).txStamps.drop (par s m 1 1) })
      (leBytes 1 (min (par s m 1 1) (portOf s (par s m 0 1)).txStamps.length) ++ zeros 15 ++
        ((portOf s (par s m 0 1)).txStamps.take (par s m 1 1)).flatten) := by
  have few : par s m 1 1 ≤ 14 := by
    have hc := h.checked (inRange (mbxPayload s m.toNat) 1 1 1 14) (List.mem_cons_of_mem _ List.mem_cons_self)
    simp only [inRange, Bool.and_eq_true, decide_eq_true_eq] at hc
    exact hc.2
  have sixteen : ((portOf s (par s m 0 1)).txStamps.take (par s m 1 1)).map List.length =
      List.replicate ((portOf s (par s m 0 1)).txStamps.take (par s m 1 1)).length 16 :=
    List.eq_replicate_iff.mpr ⟨List.length_map _, fun n hn => by
      obtain ⟨x, hx, rfl⟩ := List.mem_map.mp hn
      exact whole x (List.mem_of_mem_take hx)⟩
  refine effect_of_apart h ?_ ?_ room (.of_host rfl)
  · rw [← List.length_take]
    rfl
  · rw [List.length_append, List.length_append, leBytes_length, List.length_flatten, sixteen, List.sum_replicate_nat, List.length_take, zeros,
      List.length_replicate]
    omega

/-- Settles O8 (Table 2.18; log entries 58 and 148). -/
theorem lineCommandsTakeEffect : Obligations.LineCommandsTakeEffect := by
  unfold Obligations.LineCommandsTakeEffect
  intro s m room
  exact ⟨portConfig_configures room, portEnable_enables room, portEnable_disables room,
    fun h => effect_of_reply h rfl (by simp [leBytes_length]) room,
    fun h => counters_read (x := fun p => 8 * leAt p 0 1 + leAt p 1 1) h rfl (by decide) room, pfcConfig_configures room,
    ptpSetTime_sets room, ptpStep_steps room, fun h => effect_of_state h rfl room (.of_host rfl),
    fun h => effect_of_reply h rfl (by simp [leBytes_length, ptpLe_length]) room,
    fun h => effect_of_state h rfl room (.of_host rfl), txTimestampRead_takes room⟩

end Sys2Proof.Machine
end

section
/-!
PROOFS. Classifier commands 0x02xx (Table 2.19).
-/
namespace Sys2Proof.Machine

theorem actionLoad_loads {s : State} {m : BitVec 4} (room : completionRoom s = true) (h : Accepted actionLoad m s) :
    Loads (exec (.actionLoad m) s) m s (par s m 0 1) (par s m 1 1) (fun b => { b with
      actions := putEntries b.actions (par s m 0 1 * 8192 + par s m 2 2) ((List.range (par s m 1 1)).map (fun i =>
        BitVec.ofNat 128 (par s m (4 + 16 * i) 16))) }) := by
  refine loads_of_body h ?_ room
  simp only [bodyOf, actionLoad, okState, rowOffs, List.map_map, leAt_payload]
  rfl

theorem meterProfileLoad_loads {s : State} {m : BitVec 4} (room : completionRoom s = true) (h : Accepted meterProfileLoad m s) :
    Loads (exec (.meterProfileLoad m) s) m s (par s m 0 1) (par s m 1 1) (fun b => { b with
      meters := putEntries b.meters (par s m 0 1 * 1024 + par s m 2 2) ((List.range (par s m 1 1)).map (fun i =>
        { cir := BitVec.ofNat 32 (par s m (4 + 16 * i) 4), pir := BitVec.ofNat 32 (par s m (8 + 16 * i) 4)
          cbs := BitVec.ofNat 32 (par s m (12 + 16 * i) 4), pbs := BitVec.ofNat 32 (par s m (16 + 16 * i) 4) })) }) := by
  refine loads_of_body h ?_ room
  have at' (i k : Nat) : 4 + 16 * i + k = (4 + k) + 16 * i := by omega
  simp only [bodyOf, meterProfileLoad, okState, rowOffs, List.map_map, leAt_payload, Function.comp_def, at']

theorem ruleCounters_return {s : State} {m : BitVec 4} (room : completionRoom s = true) (h : Accepted ruleCounters m s) :
    Effect (exec (.ruleCounters m) s) m s
      (fun a => if par s m 1 1 = 1 then (List.range (par s m 4 2)).foldl (fun b i =>
        clearCounters .rule (par s m 0 1 * 8192 + par s m 2 2 + i) 2 b) a else a)
      (leBytes 8 s.cntSheet.toNat ++ (List.range (par s m 4 2)).flatMap (fun i =>
        leBytes 8 (tabGet 0 s.cntTot (cntKey .rule (par s m 0 1 * 8192 + par s m 2 2 + i) 0)) ++
        leBytes 8 (tabGet 0 s.cntTot (cntKey .rule (par s m 0 1 * 8192 + par s m 2 2 + i) 1)))) := by
  have few : par s m 4 2 ≤ 14 := by
    have hc := h.checked (inRange (mbxPayload s m.toNat) 4 2 1 14)
      (List.mem_cons_of_mem _ (List.mem_cons_of_mem _ List.mem_cons_self))
    simp only [inRange, Bool.and_eq_true, decide_eq_true_eq] at hc
    exact hc.2
  refine effect_of_apart h ?_ ?_ room (.of_host ?_)
  · simp only [bodyOf, ruleCounters, leAt_payload, List.foldl_map, List.flatMap_map]
    rfl
  · simp only [List.length_append, List.length_flatMap, leBytes_length, List.map_const', List.sum_replicate_nat, List.length_range]
    omega
  · split
    · exact foldl_leaves (·.host) (fun _ _ => clearCounters_host _ _ _ _) _ _
    · rfl

/-- Settles O9 (Table 2.19). -/
theorem classifierCommandsTakeEffect : Obligations.ClassifierCommandsTakeEffect := by
  unfold Obligations.ClassifierCommandsTakeEffect
  intro s m room
  exact ⟨fun h => effect_of_state h rfl room (.of_host rfl), fun h => effect_of_state h rfl room (.of_host rfl),
    fun h => effect_of_state h rfl room (.of_host rfl), fun h => effect_of_state h rfl room (.of_host rfl),
    fun h => effect_of_reply h rfl (by simp [leBytes_length, List.map_const']) room, actionLoad_loads room, meterProfileLoad_loads room,
    fun h => effect_of_state h rfl room (.of_host rfl), fun h => counters_read (x := fun p => leAt p 0 1) h rfl (by decide) room,
    ruleCounters_return room, fun h => counters_read (x := fun p => leAt p 0 1 * 1024 + leAt p 2 2) h rfl (by decide) room⟩

end Sys2Proof.Machine
end

section
/-!
PROOFS. What a core instruction that issues does to its thread: `Runs` follows one thread through the actions of an instruction, and
`stepTo_of_act` turns that into the `StepTo` of the obligations, whatever DEBUG_STEP counts.
-/
namespace Sys2Proof.Machine

/-- From `s` to `u` nothing but thread `t` has changed, reports apart; it stands as `x`, with what the issue itself notes (R44, R728). -/
structure Runs (t : Nat) (x : Thread) (s u : State) : Prop where
  self : thr u t = { x with handlerCount := (thr u t).handlerCount, broke := none }
  others : ∀ k, k ≠ t → thr u k = thr s k
  rep : Reports { s with cores := { s.cores with threads := u.cores.threads } } u

/-! ### Threads in the state -/

theorem thr_updThr_self (t : Nat) (f : Thread → Thread) (s : State) : thr (updThr t f s) t = f (thr s t) := tabGet_set_self _ _ _ _

theorem thr_updThr_of_ne {t k : Nat} (f : Thread → Thread) (s : State) (h : k ≠ t) : thr (updThr t f s) k = thr s k :=
  tabGet_set_of_ne _ _ _ h

theorem thr_of_reports {s u : State} (r : Reports s u) (k : Nat) : thr u k = thr s k :=
  congrArg (fun c : Cores => tabGet ({} : Thread) c.threads k) r.cores

theorem putG_st (r : BitVec 5) (v : Word36) (x : Thread) : (putG r v x).st = x.st := by
  unfold putG
  split <;> rfl

theorem putG_pc (r : BitVec 5) (v : Word36) (x : Thread) : (putG r v x).pc = x.pc := by
  unfold putG
  split <;> rfl

theorem CanIssue.running {s : State} {t : BitVec 9} {srcs dsts : List (BitVec 5)} (h : CanIssue s t srcs dsts) : (thr s t.toNat).st = .run := by
  have runs := h.runs
  simp only [mayIssue, Bool.and_eq_true, decide_eq_true_eq] at runs
  exact runs.1.1.1.2

/-! ### The actions of an instruction -/

variable {t : Nat} {x y : Thread} {s u v : State}

theorem Runs.reports (h : Runs t x s u) (r : Reports u v) : Runs t x s v where
  self := by rw [thr_of_reports r]; exact h.self
  others k hk := (thr_of_reports r k).trans (h.others k hk)
  rep := by rw [r.cores]; exact h.rep.trans r

theorem Runs.upd (h : Runs t x s u) {f : Thread → Thread}
    (hf : ∀ n, f { x with handlerCount := n, broke := none } = { y with handlerCount := n, broke := none }) : Runs t y s (updThr t f u) where
  self := by rw [thr_updThr_self, h.self, hf]
  others k hk := (thr_updThr_of_ne f u hk).trans (h.others k hk)
  rep :=
    { h.rep with
      cores := congrArg (fun c : Cores => { c with threads := (updThr t f u).cores.threads }) h.rep.cores }

theorem noteIssue_runs (t : Nat) (s : State) : Runs t (thr s t) s (noteIssue t s) where
  self := by rw [noteIssue, thr_updThr_self]; rfl
  others _ hk := thr_updThr_of_ne _ _ hk
  rep := { count_reports .core (coreOf t) ctrIssued 1 s with cores := rfl }

theorem Runs.advance (h : Runs t x s u) : Runs t { x with pc := x.pc + 1 } s (advance t u) := h.upd fun _ => rfl

theorem Runs.setG (h : Runs t x s u) (r : BitVec 5) (w : Word36) : Runs t (putG r w x) s (setG t r w u) :=
  h.upd fun _ => by
    unfold putG
    split <;> rfl

theorem Runs.jumpTo (h : Runs t x s u) (target : BitVec 16) : Runs t { x with pc := target } s (jumpTo t target u) :=
  (h.reports (trace_reports _ _ _ _ _)).upd fun _ => rfl

/-- A register reads as before the issue was noted. -/
theorem Runs.regG (h : Runs t (thr s t) s u) (r : BitVec 5) : regG u t r = regG s t r := by
  unfold Machine.regG
  rw [h.self]
  rfl

theorem stepDone_threads (t : Nat) (u : State) : stepDone t u = { u with cores := { u.cores with stepping := (stepDone t u).cores.stepping } } := by
  unfold stepDone
  split
  · split <;> rfl
  · rfl

/-- An instruction whose action leaves its thread running completes as one step of DEBUG_STEP and changes nothing besides (R729). -/
theorem Runs.steps (h : Runs t x s u) (st : x.st ≠ .stall) : stepIssued t u = stepDone t u :=
  if_neg fun e => st ((congrArg Thread.st h.self).symm.trans e)

theorem stepTo_of_act {s : State} {t : BitVec 9} {i : CoreInstr} {x : Thread} (h : CanIssue s t i.srcs i.dsts)
    (legal : i.illegal s t.toNat = false) (st : x.st ≠ .stall) (r : Runs t.toNat x s (i.act t.toNat (noteIssue t.toNat s))) :
    StepTo (.next (issue t i s)) t x s := by
  have same : ∀ k, thr (stepDone t.toNat (i.act t.toNat (noteIssue t.toNat s))) k = thr (i.act t.toNat (noteIssue t.toNat s)) k := fun k => by
    rw [stepDone_threads]
    rfl
  refine ⟨stepDone t.toNat (i.act t.toNat (noteIssue t.toNat s)), ?_, ?_, ?_, ?_⟩
  · rw [issue_can h legal, r.steps st]
  · rw [same]
    exact r.self
  · intro k hk
    rw [same]
    exact r.others k hk
  · rw [stepDone_threads]
    exact
      { r.rep with
        cores := congrArg (fun c : Cores => { c with stepping := (stepDone t.toNat (i.act t.toNat (noteIssue t.toNat s))).cores.stepping }) r.rep.cores }

/-- An instruction that writes one register and goes on at the next address. -/
theorem gdGets_of_act {s : State} {t : BitVec 9} {i : CoreInstr} {gd : BitVec 5} {w : Word36} (h : CanIssue s t i.srcs i.dsts)
    (legal : i.illegal s t.toNat = false)
    (act : i.act t.toNat (noteIssue t.toNat s) = advance t.toNat (setG t.toNat gd w (noteIssue t.toNat s))) :
    GdGets (.next (issue t i s)) t s gd w := by
  have r := ((noteIssue_runs t.toNat s).setG gd w).advance
  rw [putG_pc] at r
  refine stepTo_of_act h legal (fun e => ?_) (act ▸ r)
  have e : (putG gd w (thr s t.toNat)).st = .stall := e
  rw [putG_st, h.running] at e
  cases e

theorem regG_noteIssue (t : Nat) (s : State) (r : BitVec 5) : regG (noteIssue t s) t r = regG s t r := (noteIssue_runs t s).regG r

end Sys2Proof.Machine
end

section
/-!
PROOFS. Register instructions compute (O18): each is `aluR` of one function on words, and each function is the arithmetic that Table 5.5
gives it.
-/
namespace Sys2Proof.Machine

/-! ### The functions on words -/

theorem shamt_eq (b : Word36) : shamt b = b.toNat % 64 := by 
  have low : b.toNat / 2 ^ 0 = b.toNat := by rw [Nat.pow_zero, Nat.div_one]
  exact congrArg (· % 64) low

theorem shiftLeft_eq_ofNat (a : Word36) (n : Nat) : a <<< n = BitVec.ofNat 36 (a.toNat * 2 ^ n) :=
  BitVec.eq_of_toNat_eq (by rw [BitVec.toNat_shiftLeft, BitVec.toNat_ofNat, Nat.shiftLeft_eq])

theorem ushiftRight_eq_ofNat (a : Word36) (n : Nat) : a >>> n = BitVec.ofNat 36 (a.toNat / 2 ^ n) :=
  BitVec.eq_of_toNat_eq (by
    rw [BitVec.toNat_ushiftRight, BitVec.toNat_ofNat, Nat.shiftRight_eq_div_pow,
      Nat.mod_eq_of_lt (Nat.lt_of_le_of_lt (Nat.div_le_self _ _) a.isLt)])

theorem sshiftRight_eq_ofInt (a : Word36) (n : Nat) : a.sshiftRight n = BitVec.ofInt 36 (a.toInt / 2 ^ n) := by
  rw [BitVec.sshiftRight, Int.shiftRight_eq_div_pow]
  rfl

theorem add_eq_ofNat (a b : Word36) : a + b = BitVec.ofNat 36 (a.toNat + b.toNat) := BitVec.eq_of_toNat_eq (by simp)

theorem sub_eq_ofInt (a b : Word36) : a - b = BitVec.ofInt 36 (a.toInt - b.toInt) := by
  refine BitVec.eq_of_toInt_eq ?_
  rw [BitVec.toInt_sub, BitVec.toInt_ofInt]

theorem boolWord_slt (a b : Word36) : boolWord (a.slt b) = if a.toInt < b.toInt then 1 else 0 := by
  simp only [boolWord, BitVec.slt, decide_eq_true_eq]

theorem boolWord_ult (a b : Word36) : boolWord (a.ult b) = if a.toNat < b.toNat then 1 else 0 := by
  simp only [boolWord, BitVec.ult, decide_eq_true_eq]

theorem pick_slt (a b : Word36) : (if a.slt b then a else b) = BitVec.ofInt 36 (min a.toInt b.toInt) := by
  by_cases h : a.toInt < b.toInt
  · rw [if_pos (BitVec.slt_iff_toInt_lt.mpr h), Int.min_eq_left (Int.le_of_lt h), BitVec.ofInt_toInt]
  · rw [if_neg (mt BitVec.slt_iff_toInt_lt.mp h), Int.min_eq_right (Int.not_lt.mp h), BitVec.ofInt_toInt]

theorem drop_slt (a b : Word36) : (if a.slt b then b else a) = BitVec.ofInt 36 (max a.toInt b.toInt) := by
  by_cases h : a.toInt < b.toInt
  · rw [if_pos (BitVec.slt_iff_toInt_lt.mpr h), Int.max_eq_right (Int.le_of_lt h), BitVec.ofInt_toInt]
  · rw [if_neg (mt BitVec.slt_iff_toInt_lt.mp h), Int.max_eq_left (Int.not_lt.mp h), BitVec.ofInt_toInt]

theorem pick_ult (a b : Word36) : (if a.ult b then a else b) = BitVec.ofNat 36 (min a.toNat b.toNat) := by
  by_cases h : a.toNat < b.toNat
  · rw [if_pos (BitVec.ult_iff_toNat_lt.mpr h), Nat.min_eq_left (Nat.le_of_lt h), BitVec.ofNat_toNat, BitVec.setWidth_eq]
  · rw [if_neg (mt BitVec.ult_iff_toNat_lt.mp h), Nat.min_eq_right (Nat.not_lt.mp h), BitVec.ofNat_toNat, BitVec.setWidth_eq]

theorem drop_ult (a b : Word36) : (if a.ult b then b else a) = BitVec.ofNat 36 (max a.toNat b.toNat) := by
  by_cases h : a.toNat < b.toNat
  · rw [if_pos (BitVec.ult_iff_toNat_lt.mpr h), Nat.max_eq_right (Nat.le_of_lt h), BitVec.ofNat_toNat, BitVec.setWidth_eq]
  · rw [if_neg (mt BitVec.ult_iff_toNat_lt.mp h), Nat.max_eq_left (Nat.not_lt.mp h), BitVec.ofNat_toNat, BitVec.setWidth_eq]

theorem getLsbD_rotl36 (a : Word36) (n : Nat) {i : Nat} (h : i < 36) : (rotl36 a n).getLsbD ((i + n) % 36) = a.getLsbD i := by
  rw [rotl36, BitVec.getLsbD_rotateLeft]
  have hn : n % 36 % 36 = n % 36 := Nat.mod_mod _ _
  rw [hn]
  by_cases wrap : (i + n) % 36 < n % 36
  · rw [decide_eq_true wrap, cond_true]
    congr 1
    omega
  · rw [decide_eq_false wrap, cond_false]
    have hi : decide ((i + n) % 36 < 36) = true := decide_eq_true (Nat.mod_lt _ (by decide))
    rw [hi, Bool.true_and]
    congr 1
    omega

theorem clz36_le (a : Word36) : clz36 a ≤ 36 := by
  unfold clz36
  split <;> omega

/-- Above its leading zeros a word has no bit, and the bit below them is set. -/
theorem clz36_spec (a : Word36) : a.toNat < 2 ^ (36 - clz36 a) ∧ (clz36 a < 36 → a.getLsbD (35 - clz36 a) = true) := by
  unfold clz36
  by_cases h : a = 0
  · subst h
    exact ⟨by decide, fun k => absurd k (by decide)⟩
  · have pos : a.toNat ≠ 0 := fun e => h (BitVec.eq_of_toNat_eq e)
    have low : a.toNat.log2 < 36 := (Nat.log2_lt pos).mpr a.isLt
    rw [if_neg h]
    constructor
    · have e : 36 - (35 - a.toNat.log2) = a.toNat.log2 + 1 := by omega
      rw [e]
      exact Nat.lt_log2_self
    · intro _
      have e : 35 - (35 - a.toNat.log2) = a.toNat.log2 := by omega
      rw [e]
      exact Nat.testBit_log2 pos

theorem ctz36_le (a : Word36) : ctz36 a ≤ 36 := by
  unfold ctz36
  cases h : (List.range 36).find? (fun i => a.getLsbD i) with
  | none => exact Nat.le_refl _
  | some n => exact Nat.le_of_lt (List.mem_range.mp (List.mem_of_find?_eq_some h))

/-- A word with no bit below `n` is a multiple of 2^n. -/
theorem toNat_mod_of_low {a : Word36} {n : Nat} (h : ∀ i < n, a.getLsbD i = false) : a.toNat % 2 ^ n = 0 := by
  refine Nat.eq_of_testBit_eq fun i => ?_
  rw [Nat.testBit_mod_two_pow, Nat.zero_testBit]
  by_cases hi : i < n
  · rw [decide_eq_true hi, Bool.true_and]
    exact h i hi
  · rw [decide_eq_false hi, Bool.false_and]

theorem ctz36_spec (a : Word36) : a.toNat % 2 ^ ctz36 a = 0 ∧ (ctz36 a < 36 → a.getLsbD (ctz36 a) = true) := by
  unfold ctz36
  cases h : (List.range 36).find? (fun i => a.getLsbD i) with
  | none =>
    refine ⟨toNat_mod_of_low fun i hi => ?_, fun k => absurd k (Nat.lt_irrefl _)⟩
    have := List.find?_eq_none.mp h i (List.mem_range.mpr hi)
    simpa using this
  | some n =>
    refine ⟨toNat_mod_of_low fun i hi => ?_, fun _ => List.find?_some (p := fun i => a.getLsbD i) h⟩
    obtain ⟨-, -, before⟩ := List.find?_range_eq_some.mp h
    simpa using before i hi

theorem popc36_eq (a : Word36) : popc36 a = (List.range 36).countP (fun i => a.getLsbD i) := List.countP_eq_length_filter.symm

theorem leBytes_leNat (bs : List Byte) : leBytes bs.length (leNat bs) = bs := by
  induction bs with
  | nil => rfl
  | cons b bs ih =>
    have low : BitVec.ofNat 8 (b.toNat + 256 * leNat bs) = b :=
      BitVec.eq_of_toNat_eq (by
        have := b.isLt
        rw [BitVec.toNat_ofNat]
        omega)
    have high : (b.toNat + 256 * leNat bs) / 256 = leNat bs := by
      have := b.isLt
      omega
    rw [List.length_cons, leBytes, leNat, low, high, ih]

theorem bswap36_toNat (a : Word36) : (bswap36 a).toNat = leNat (leBytes 4 a.toNat).reverse := by
  have bound := leNat_lt (leBytes 4 a.toNat).reverse
  rw [List.length_reverse, leBytes_length] at bound
  rw [bswap36, beNat, BitVec.toNat_ofNat, Nat.mod_eq_of_lt (Nat.lt_trans bound (by decide))]

theorem bswap36_spec (a : Word36) : leBytes 4 (bswap36 a).toNat = (leBytes 4 a.toNat).reverse ∧ (bswap36 a).toNat < 2 ^ 32 := by
  have len : (leBytes 4 a.toNat).reverse.length = 4 := by rw [List.length_reverse, leBytes_length]
  have bound := leNat_lt (leBytes 4 a.toNat).reverse
  have back := leBytes_leNat (leBytes 4 a.toNat).reverse
  rw [len] at bound back
  rw [bswap36_toNat]
  exact ⟨back, bound⟩

/-! ### The instructions -/

theorem aluR_gets {s : State} {t : BitVec 9} {func : Nat} {gd ga gb : BitVec 5} {srcs : List (BitVec 5)} {f : Word36 → Word36 → Word36}
    {v : Word36} (h : CanIssue s t srcs [gd]) (value : f (regG s t.toNat ga) (regG s t.toNat gb) = v) :
    GdGets (.next (aluR t func gd ga gb 0 srcs f s)) t s gd v :=
  gdGets_of_act h rfl (by
    show advance t.toNat (setG t.toNat gd (f (regG (noteIssue t.toNat s) t.toNat ga) (regG (noteIssue t.toNat s) t.toNat gb)) _) = _
    rw [regG_noteIssue, regG_noteIssue, value])

/-- Settles O18: each register instruction writes the arithmetic value of its function. -/
theorem registerInstructionsCompute : Obligations.RegisterInstructionsCompute := by
  unfold Obligations.RegisterInstructionsCompute
  rintro s t gd ga gb a b rfl rfl
  constructor
  · intro h
    refine ⟨aluR_gets h (add_eq_ofNat _ _), aluR_gets h (sub_eq_ofInt _ _), aluR_gets h rfl, aluR_gets h rfl, aluR_gets h rfl,
      aluR_gets h rfl, aluR_gets h rfl, aluR_gets h ?_, aluR_gets h ?_, aluR_gets h ?_, ?_, aluR_gets h (boolWord_slt _ _),
      aluR_gets h (boolWord_ult _ _), aluR_gets h (pick_slt _ _), aluR_gets h (drop_slt _ _), aluR_gets h (pick_ult _ _),
      aluR_gets h (drop_ult _ _)⟩
    · rw [shamt_eq, shiftLeft_eq_ofNat]
    · rw [shamt_eq, ushiftRight_eq_ofNat]
    · rw [shamt_eq, sshiftRight_eq_ofInt]
    · exact ⟨_, aluR_gets h rfl, fun i hi => getLsbD_rotl36 _ _ hi⟩
  · intro h
    exact ⟨⟨_, clz36_le _, aluR_gets h rfl, clz36_spec _⟩, ⟨_, ctz36_le _, aluR_gets h rfl, ctz36_spec _⟩,
      aluR_gets h (by rw [popc36_eq]), ⟨_, aluR_gets h rfl, bswap36_spec _⟩⟩

end Sys2Proof.Machine
end

section
/-!
PROOFS. Immediate, bit-field and special-register instructions compute (O19): the immediates extend as Table 5.5 says, EXTU, EXTS and INS
take and put a field (Table 5.6), MFS and MTS read and write one special register.
-/
namespace Sys2Proof.Machine

/-! ### Immediates -/

theorem add_signExtend (a : Word36) (imm : BitVec 16) : a + imm.signExtend 36 = BitVec.ofInt 36 (a.toInt + imm.toInt) := by
  refine BitVec.eq_of_toInt_eq ?_
  rw [BitVec.toInt_add, BitVec.toInt_ofInt, BitVec.toInt_signExtend_of_le (by decide)]

theorem setWidth36_toNat (imm : BitVec 16) : (imm.setWidth 36).toNat = imm.toNat := by
  rw [BitVec.toNat_setWidth, Nat.mod_eq_of_lt (Nat.lt_trans imm.isLt (by decide))]

theorem eq_ofNat_of_toNat {a : Word36} {n : Nat} (h : a.toNat = n) : a = BitVec.ofNat 36 n := by
  rw [← h, BitVec.ofNat_toNat, BitVec.setWidth_eq]

theorem boolWord_slt_imm (a : Word36) (imm : BitVec 16) :
    boolWord (a.slt (imm.signExtend 36)) = if a.toInt < imm.toInt then 1 else 0 := by
  rw [boolWord_slt, BitVec.toInt_signExtend_of_le (by decide)]

theorem upper_eq_ofNat (imm : BitVec 20) : imm.setWidth 36 <<< 16 = BitVec.ofNat 36 (imm.toNat * 65536) := by
  have wide : (imm.setWidth 36).toNat = imm.toNat := by
    rw [BitVec.toNat_setWidth, Nat.mod_eq_of_lt (Nat.lt_trans imm.isLt (by decide))]
  exact (shiftLeft_eq_ofNat _ _).trans (congrArg (fun n => BitVec.ofNat 36 (n * 65536)) wide)

theorem aluI_gets {s : State} {t : BitVec 9} {major : Nat} {gd ga : BitVec 5} {imm : BitVec 16} {f : Word36 → Word36} {v : Word36}
    (h : CanIssue s t [ga] [gd]) (value : f (regG s t.toNat ga) = v) : GdGets (.next (aluI t major gd ga 0 imm f s)) t s gd v :=
  gdGets_of_act h rfl (by
    show advance t.toNat (setG t.toNat gd (f (regG (noteIssue t.toNat s) t.toNat ga)) _) = _
    rw [regG_noteIssue, value])

/-! ### Fields -/

theorem sInt_eq (n x : Nat) (pos : 0 < n) : sInt n x = (BitVec.ofNat n x).toInt := by
  obtain ⟨m, rfl⟩ : ∃ m, n = m + 1 := ⟨n - 1, by omega⟩
  rw [sInt, BitVec.toInt_eq_toNat_cond, BitVec.toNat_ofNat, Nat.add_sub_cancel, Nat.pow_succ]
  split <;> split <;> omega

theorem ofNat_natBits (x lo n : Nat) : BitVec.ofNat n (natBits x lo n) = BitVec.ofNat n (x / 2 ^ lo) :=
  BitVec.eq_of_toNat_eq (by rw [BitVec.toNat_ofNat, BitVec.toNat_ofNat, natBits, Nat.mod_mod])

theorem getLsbD_fieldMask {pos len i : Nat} (hi : i < 36) :
    (BitVec.ofNat 36 ((2 ^ len - 1) * 2 ^ pos)).getLsbD i = decide (pos ≤ i ∧ i < pos + len) := by
  rw [BitVec.getLsbD_ofNat, decide_eq_true hi, Bool.true_and, Nat.mul_comm, Nat.testBit_two_pow_mul, Nat.testBit_two_pow_sub_one]
  by_cases h : pos ≤ i
  · by_cases k : i < pos + len
    · simp only [ge_iff_le, h, k, decide_true, and_self, Bool.true_and, decide_eq_true_eq]
      omega
    · simp only [ge_iff_le, h, k, decide_true, and_false, decide_false, Bool.true_and, decide_eq_false_iff_not]
      omega
  · simp only [ge_iff_le, h, decide_false, false_and, Bool.false_and]

theorem getLsbD_insertField (a d : Word36) (pos len : Nat) {i : Nat} (hi : i < 36) :
    (insertField a d pos len).getLsbD i = if pos ≤ i ∧ i < pos + len then a.getLsbD (i - pos) else d.getLsbD i := by
  rw [insertField, BitVec.getLsbD_or, BitVec.getLsbD_and, BitVec.getLsbD_not, BitVec.getLsbD_and, getLsbD_fieldMask hi,
    BitVec.getLsbD_shiftLeft]
  by_cases inside : pos ≤ i ∧ i < pos + len
  · have notBelow : ¬ i < pos := Nat.not_lt.mpr inside.1
    simp [inside, hi, notBelow]
  · simp [inside, hi]

theorem fieldOp_gets {s : State} {t : BitVec 9} {func : Nat} {gd ga : BitVec 5} {pos len : BitVec 6} {bad : Bool}
    {srcs : List (BitVec 5)} {f : Word36 → Word36 → Word36} {v : Word36} (h : CanIssue s t srcs [gd]) (legal : bad = false)
    (value : f (regG s t.toNat ga) (regG s t.toNat gd) = v) : GdGets (.next (fieldOp t func gd ga pos len 0 bad srcs f s)) t s gd v :=
  gdGets_of_act h legal (by
    show advance t.toNat (setG t.toNat gd (f (regG (noteIssue t.toNat s) t.toNat ga) (regG (noteIssue t.toNat s) t.toNat gd)) _) = _
    rw [regG_noteIssue, regG_noteIssue, value])

theorem badShift_eq {pos : BitVec 6} (h : pos.toNat < 36) : badShift pos 0 = false := by
  have : ¬ 35 < pos.toNat := by omega
  rw [badShift, decide_eq_false this]
  rfl

theorem badField_eq {pos len : BitVec 6} (some : 0 < len.toNat) (fits : pos.toNat + len.toNat ≤ 36) : badField pos len = false := by
  have notZero : (len == 0) = false := beq_eq_false_iff_ne.mpr fun e => by
    rw [e] at some
    exact Nat.lt_irrefl 0 some
  rw [badField, notZero, decide_eq_false (Nat.not_lt.mpr fits)]
  rfl

/-! ### Special registers -/

theorem natBits_eq_self {n w : Nat} (h : n < 2 ^ w) : natBits n 0 w = n := by rw [natBits, Nat.pow_zero, Nat.div_one, Nat.mod_eq_of_lt h]

theorem natBits_eq_zero {n lo : Nat} (w : Nat) (h : n < 2 ^ lo) : natBits n lo w = 0 := by
  rw [natBits, Nat.div_eq_of_lt h, Nat.zero_mod]

/-- What a thread's priorities depend on (R239, R361): its designation, its state and its map entry's priority, and the locks. -/
structure SamePrios (s u : State) : Prop where
  supervisors : u.cores.supervisors = s.cores.supervisors
  locks : u.dov.locks = s.dov.locks
  st : ∀ k, (thr u k).st = (thr s k).st
  prio : ∀ k, (thr u k).prio = (thr s k).prio

theorem SamePrios.ownPrio {s u : State} (h : SamePrios s u) (k : Nat) : ownPrio u k = ownPrio s k := by
  unfold Machine.ownPrio isSupervisor supervisorId supervisorOf
  rw [h.supervisors, h.st, h.prio]

theorem SamePrios.effPrioN {s u : State} (h : SamePrios s u) (n k : Nat) : effPrioN n u k = effPrioN n s k := by
  induction n generalizing k with
  | zero => exact h.ownPrio k
  | succ n ih =>
    have hf : Machine.effPrioN n u = Machine.effPrioN n s := funext ih
    rw [Machine.effPrioN, Machine.effPrioN, lockWaiters, lockWaiters, h.locks, h.ownPrio, hf]

theorem SamePrios.inherited {s u : State} (h : SamePrios s u) (k : Nat) : inherited u k = inherited s k := by
  have hf : Machine.effPrioN (chainDepth u) u = Machine.effPrioN (chainDepth s) s := by
    rw [chainDepth, chainDepth, h.locks]
    exact funext fun k => h.effPrioN _ k
  rw [Machine.inherited, Machine.inherited, lockWaiters, lockWaiters, h.locks, hf]

theorem noteIssue_samePrios (t : Nat) (s : State) : SamePrios s (noteIssue t s) where
  supervisors := rfl
  locks := rfl
  st k := by
    by_cases h : k = t
    · rw [h, (noteIssue_runs t s).self]
    · rw [(noteIssue_runs t s).others k h]
  prio k := by
    by_cases h : k = t
    · rw [h, (noteIssue_runs t s).self]
    · rw [(noteIssue_runs t s).others k h]

theorem flagsWord_noteIssue (t : Nat) (s : State) : flagsWord (noteIssue t s) t = flagsWord s t := by
  unfold flagsWord
  rw [(noteIssue_samePrios t s).ownPrio, (noteIssue_samePrios t s).inherited, (noteIssue_runs t s).self]
  rfl

theorem readSpecial_noteIssue (t n : Nat) (s : State) : readSpecial (noteIssue t s) t n = readSpecial s t n := by
  unfold readSpecial
  rw [(noteIssue_runs t s).self, flagsWord_noteIssue]
  rfl

theorem mulEarly_noteIssue (t n : Nat) (s : State) : mulEarly (noteIssue t s) t n = mulEarly s t n := by
  unfold mulEarly
  rw [(noteIssue_runs t s).self]
  rfl

theorem specialWritable_lt {n : Nat} (h : specialWritable n = true) : n < 16 := by
  simp only [specialWritable, Bool.or_eq_true, beq_iff_eq, Bool.and_eq_true, decide_eq_true_eq] at h
  omega

/-- A write of a special register does not see what the issue notes of its thread. -/
theorem writeSpecial_noted (n : Nat) (v : Word36) (x : Thread) (k : Nat) :
    writeSpecial n v { x with handlerCount := k, broke := none } = { writeSpecial n v x with handlerCount := k, broke := none } := by
  unfold writeSpecial mendSpecials
  split <;> rfl

theorem writeSpecial_st (n : Nat) (v : Word36) (x : Thread) : (writeSpecial n v x).st = x.st := by
  unfold writeSpecial mendSpecials
  split <;> rfl

theorem writeSpecial_pc (n : Nat) (v : Word36) (x : Thread) : (writeSpecial n v x).pc = x.pc := by
  unfold writeSpecial mendSpecials
  split <;> rfl

theorem mfs_gets {s : State} {t : BitVec 9} {gd : BitVec 5} {n : BitVec 16} (small : n.toNat ≤ 17) (h : CanIssue s t [] [gd])
    (landed : mulEarly s t.toNat n.toNat = false) : GdGets (exec (.mfs t gd 0 0 n) s) t s gd (readSpecial s t.toNat n.toNat) := by
  have low : natBits n.toNat 0 6 = n.toNat := natBits_eq_self (by omega)
  have high : natBits n.toNat 6 10 = 0 := natBits_eq_zero _ (by omega)
  have early : mulEarly (noteIssue t.toNat s) t.toNat (natBits n.toNat 0 6) = false := by rw [mulEarly_noteIssue, low, landed]
  refine gdGets_of_act (i := { word := _, dsts := [gd], specials := _, illegal := _, act := _ }) h ?_ ?_
  · have inside : ¬ 17 < natBits n.toNat 0 6 := by omega
    show ((0 : BitVec 4) != 0 || (0 : BitVec 5) != 0 || natBits n.toNat 6 10 != 0 || decide (17 < natBits n.toNat 0 6)) = false
    rw [high, decide_eq_false inside]
    rfl
  · refine (if_neg (ne_true_of_eq_false early)).trans ?_
    rw [low, readSpecial_noteIssue]

theorem mts_stepTo {s : State} {t : BitVec 9} {ga : BitVec 5} {n : BitVec 16} (ok : specialWritable n.toNat = true)
    (h : CanIssue s t [ga] []) : StepTo (exec (.mts t 0 ga 0 n) s) t
      { writeSpecial n.toNat (regG s t.toNat ga) (thr s t.toNat) with pc := (thr s t.toNat).pc + 1 } s := by
  have small := specialWritable_lt ok
  have low : natBits n.toNat 0 6 = n.toNat := natBits_eq_self (by omega)
  have high : natBits n.toNat 6 10 = 0 := natBits_eq_zero _ (by omega)
  refine stepTo_of_act (i := { word := _, srcs := [ga], illegal := _, act := _ }) h ?_ (fun e => ?_) ?_
  · show ((0 : BitVec 4) != 0 || (0 : BitVec 5) != 0 || natBits n.toNat 6 10 != 0 || !specialWritable (natBits n.toNat 0 6)) = false
    rw [high, low, ok]
    rfl
  · have e : (writeSpecial n.toNat (regG s t.toNat ga) (thr s t.toNat)).st = .stall := e
    rw [writeSpecial_st, h.running] at e
    cases e
  · have r := ((noteIssue_runs t.toNat s).upd (writeSpecial_noted n.toNat (regG s t.toNat ga) (thr s t.toNat))).advance
    rw [writeSpecial_pc] at r
    show Runs _ _ _ (advance t.toNat (updThr t.toNat (writeSpecial (natBits n.toNat 0 6) (regG (noteIssue t.toNat s) t.toNat ga)) _))
    rw [low, regG_noteIssue]
    exact r

/-! ### The instructions -/

/-- Settles O19: each instruction writes the arithmetic value of its function, MTS its special register. -/
theorem immediateAndFieldInstructionsCompute : Obligations.ImmediateAndFieldInstructionsCompute := by
  unfold Obligations.ImmediateAndFieldInstructionsCompute
  rintro s t gd ga a rfl
  refine ⟨fun imm h => ?_, fun imm h => gdGets_of_act h rfl (by rw [← upper_eq_ofNat]), fun pos hpos h => ?_,
    fun pos len hlen hfit => ⟨fun h => ?_, fun h => ?_⟩, fun n hn h early => mfs_gets hn h early, fun n ok h => mts_stepTo ok h⟩
  · refine ⟨aluI_gets h (add_signExtend _ _), aluI_gets h (eq_ofNat_of_toNat ?_), aluI_gets h (eq_ofNat_of_toNat ?_),
      aluI_gets h (eq_ofNat_of_toNat ?_), aluI_gets h (boolWord_slt_imm _ _), aluI_gets h ?_⟩
    · rw [BitVec.toNat_and, setWidth36_toNat]
    · rw [BitVec.toNat_or, setWidth36_toNat]
    · rw [BitVec.toNat_xor, setWidth36_toNat]
    · exact boolWord_ult _ _
  · have legal := badShift_eq hpos
    exact ⟨fieldOp_gets h legal (shiftLeft_eq_ofNat _ _), fieldOp_gets h legal (ushiftRight_eq_ofNat _ _),
      fieldOp_gets h legal (sshiftRight_eq_ofInt _ _), _, fieldOp_gets h legal rfl, fun i hi => getLsbD_rotl36 _ _ hi⟩
  · have legal := badField_eq hlen hfit
    refine ⟨fieldOp_gets h legal rfl, fieldOp_gets h legal ?_⟩
    rw [sInt_eq _ _ hlen, ofNat_natBits]
  · exact ⟨_, fieldOp_gets h (badField_eq hlen hfit) rfl, fun i hi => getLsbD_insertField _ _ _ _ hi⟩

end Sys2Proof.Machine
end

section
/-!
PROOFS. Control transfers (O25): each is an issue whose action moves the thread's PC, after JAL and JALR have written their link word.
-/
namespace Sys2Proof.Machine

/-- The thread a transfer leaves is still running. -/
theorem CanIssue.not_stalled {s : State} {t : BitVec 9} {srcs dsts : List (BitVec 5)} (h : CanIssue s t srcs dsts) :
    (thr s t.toNat).st ≠ .stall := by
  rw [h.running]
  exact TState.noConfusion

/-- An action that goes to `target` where `c` holds, and to the next address where not. -/
theorem Runs.goes {t : Nat} {x : Thread} {s u : State} (h : Runs t x s u) {c : Prop} [Decidable c] (target : BitVec 16) :
    Runs t { x with pc := if c then target else x.pc + 1 } s (if c then Machine.jumpTo t target u else Machine.advance t u) := by
  split
  · exact h.jumpTo target
  · exact h.advance

theorem branch_goes {s : State} {t : BitVec 9} {major : Nat} {ga gb : BitVec 5} {target : BitVec 16} {c : Word36 → Word36 → Bool}
    {p : Prop} [Decidable p] (h : CanIssue s t [ga, gb] []) (cond : c (regG s t.toNat ga) (regG s t.toNat gb) = true ↔ p) :
    StepTo (.next (branch t major ga gb 0 target c s)) t
      { thr s t.toNat with pc := if p then target else (thr s t.toNat).pc + 1 } s := by
  refine stepTo_of_act h rfl h.not_stalled ?_
  show Runs _ _ _ (if c (regG (noteIssue t.toNat s) t.toNat ga) (regG (noteIssue t.toNat s) t.toNat gb) = true then _ else _)
  rw [regG_noteIssue, regG_noteIssue]
  simp only [cond]
  exact (noteIssue_runs t.toNat s).goes target

theorem bitBranch_goes {s : State} {t : BitVec 9} {major : Nat} {ga : BitVec 5} {bit : BitVec 6} {target : BitVec 16} {v : Bool}
    (h : CanIssue s t [ga] []) (inside : bit.toNat < 36) :
    StepTo (.next (bitBranch t major ga bit 0 target v s)) t
      { thr s t.toNat with pc := if (regG s t.toNat ga).getLsbD bit.toNat = v then target else (thr s t.toNat).pc + 1 } s := by
  have legal : ((0 : BitVec 3) != 0 || decide (35 < bit.toNat)) = false := by
    rw [decide_eq_false (by omega)]
    rfl
  refine stepTo_of_act h legal h.not_stalled ?_
  show Runs _ _ _ (if ((regG (noteIssue t.toNat s) t.toNat ga).getLsbD bit.toNat == v) = true then _ else _)
  rw [regG_noteIssue]
  simp only [beq_iff_eq]
  exact (noteIssue_runs t.toNat s).goes target

/-- A jump that writes no register. -/
theorem jump_goes {s : State} {t : BitVec 9} {i : CoreInstr} (target : BitVec 16) (h : CanIssue s t i.srcs i.dsts)
    (legal : i.illegal s t.toNat = false) (act : i.act t.toNat (noteIssue t.toNat s) = jumpTo t.toNat target (noteIssue t.toNat s)) :
    StepTo (.next (issue t i s)) t { thr s t.toNat with pc := target } s :=
  stepTo_of_act h legal h.not_stalled (act ▸ (noteIssue_runs t.toNat s).jumpTo target)

theorem linkWord_noteIssue (t : Nat) (s : State) : linkWord (noteIssue t s) t = BitVec.ofNat 36 ((thr s t).pc + 1).toNat := by
  rw [linkWord, (noteIssue_runs t s).self]
  exact (BitVec.ofNat_toNat _ _).symm

/-- A jump that leaves PC + 1 in gd. -/
theorem link_goes {s : State} {t : BitVec 9} {i : CoreInstr} {gd : BitVec 5} (target : BitVec 16) (h : CanIssue s t i.srcs i.dsts)
    (legal : i.illegal s t.toNat = false) (act : i.act t.toNat (noteIssue t.toNat s) =
      jumpTo t.toNat target (setG t.toNat gd (linkWord (noteIssue t.toNat s) t.toNat) (noteIssue t.toNat s))) :
    StepTo (.next (issue t i s)) t
      { putG gd (BitVec.ofNat 36 ((thr s t.toNat).pc + 1).toNat) (thr s t.toNat) with pc := target } s := by
  refine stepTo_of_act h legal (fun e => ?_) ?_
  · have e : (putG gd (BitVec.ofNat 36 ((thr s t.toNat).pc + 1).toNat) (thr s t.toNat)).st = .stall := e
    rw [putG_st] at e
    exact h.not_stalled e
  · rw [act, linkWord_noteIssue]
    exact ((noteIssue_runs t.toNat s).setG gd _).jumpTo target

theorem setWidth16_eq (a : Word36) : a.setWidth 16 = BitVec.ofNat 16 a.toNat := (BitVec.ofNat_toNat _ _).symm

/-- Settles O25: branches, bit tests and jumps, each through the rule for its form. -/
theorem controlTransfersGo : Obligations.ControlTransfersGo := by
  unfold Obligations.ControlTransfersGo
  rintro s t gd ga gb target a b x rfl rfl rfl
  refine ⟨fun h => ⟨branch_goes h beq_iff_eq, branch_goes h bne_iff_ne, branch_goes h BitVec.slt_iff_toInt_lt, branch_goes h ?_,
      branch_goes h BitVec.ult_iff_toNat_lt, branch_goes h ?_⟩, fun bit inside h => ⟨bitBranch_goes h inside, bitBranch_goes h inside⟩,
    fun h => jump_goes target h rfl rfl, fun h => link_goes target h rfl rfl, fun h => jump_goes _ h rfl ?_, fun h => link_goes _ h rfl ?_⟩
  · rw [Bool.not_eq_true', ← Bool.not_eq_true, BitVec.slt_iff_toInt_lt, Int.not_lt]
  · rw [Bool.not_eq_true', ← Bool.not_eq_true, BitVec.ult_iff_toNat_lt, Nat.not_lt]
  · rw [← setWidth16_eq, ← regG_noteIssue t.toNat s ga]
  · rw [← setWidth16_eq, ← regG_noteIssue t.toNat s ga]

end Sys2Proof.Machine
end

section
/-!
PROOFS. The multiplier (O20): the products of Table 5.13 in MH and ML, and results that land in issue order.
-/
namespace Sys2Proof.Machine

theorem product72_toNat (p : BitVec 72) : (product72 p).mh.toNat * 2 ^ 36 + (product72 p).ml.toNat = p.toNat := by
  have := p.isLt
  simp only [product72, BitVec.extractLsb'_toNat, Nat.shiftRight_eq_div_pow]
  omega

theorem product_signed (a b : Word36) : ((a.signExtend 72 * b.signExtend 72).toNat : Int) = a.toInt * b.toInt % 2 ^ 72 := by
  have value : a.signExtend 72 * b.signExtend 72 = BitVec.ofInt 72 (a.toInt * b.toInt) :=
    BitVec.eq_of_toInt_eq (by
      rw [BitVec.toInt_mul, BitVec.toInt_ofInt, BitVec.toInt_signExtend_of_le (by decide), BitVec.toInt_signExtend_of_le (by decide)])
  rw [value, BitVec.toNat_ofInt, Int.toNat_of_nonneg (Int.emod_nonneg _ (by decide))]
  rfl

theorem product_unsigned (a b : Word36) : (a.setWidth 72 * b.setWidth 72).toNat = a.toNat * b.toNat := by
  have ha := a.isLt
  have hb := b.isLt
  have fits : a.toNat * b.toNat < 2 ^ 72 := Nat.lt_of_lt_of_le (Nat.mul_lt_mul'' ha hb) (by decide)
  rw [BitVec.toNat_mul, BitVec.toNat_setWidth, BitVec.toNat_setWidth, Nat.mod_eq_of_lt (Nat.lt_trans ha (by decide)),
    Nat.mod_eq_of_lt (Nat.lt_trans hb (by decide)), Nat.mod_eq_of_lt fits]

/-- A carry-less product of `n + 1` bits by `w` bits has at most `w + n` bits. -/
theorem clmulN_lt (n w a b : Nat) (ha : a < 2 ^ w) : clmulN (n + 1) a b < 2 ^ (w + n) := by
  induction n with
  | zero =>
    rw [clmulN, clmulN, Nat.xor_zero, Nat.pow_zero, Nat.mul_one]
    split
    · exact ha
    · exact Nat.two_pow_pos _
  | succ n ih =>
    have low : clmulN (n + 1) a b < 2 ^ (w + (n + 1)) := Nat.lt_of_lt_of_le ih (Nat.pow_le_pow_right (by decide) (by omega))
    have top : (if natBit b (n + 1) then a * 2 ^ (n + 1) else 0) < 2 ^ (w + (n + 1)) := by
      split
      · rw [Nat.pow_add 2 w]
        exact Nat.mul_lt_mul_of_pos_right ha (Nat.two_pow_pos _)
      · exact Nat.two_pow_pos _
    exact Nat.xor_lt_two_pow top low

theorem natBits_low (x n : Nat) : natBits x 0 n = x % 2 ^ n := by rw [natBits, Nat.pow_zero, Nat.div_one]

theorem product_carryless (a b : Nat) :
    (BitVec.ofNat 72 (clmulN 32 (natBits a 0 32) (natBits b 0 32))).toNat = clmulN 32 (a % 2 ^ 32) (b % 2 ^ 32) := by
  have bound := clmulN_lt 31 32 (a % 2 ^ 32) (b % 2 ^ 32) (Nat.mod_lt _ (by decide))
  rw [natBits_low, natBits_low, BitVec.toNat_ofNat, Nat.mod_eq_of_lt (Nat.lt_trans bound (by decide))]

/-! ### The fields of GFM8 and GFM16 -/

theorem natBit_eq_testBit (x i : Nat) : natBit x i = x.testBit i := by
  rw [natBit, Nat.testBit_eq_decide_div_mod_eq]
  rfl

/-- Below its top bit, a number is smaller by a power of two. -/
theorem lt_two_pow_of_top {x n : Nat} (h : x < 2 ^ (n + 1)) (top : x.testBit n = false) : x < 2 ^ n := by
  refine Nat.lt_pow_two_of_testBit x fun i hi => ?_
  rcases Nat.eq_or_lt_of_le hi with rfl | hi
  · exact top
  · exact Nat.testBit_lt_two_pow (Nat.lt_of_lt_of_le h (Nat.pow_le_pow_right (by decide) hi))

/-- Reduction by a polynomial of degree `d` leaves `d` bits. -/
theorem polyReduce_lt {d poly : Nat} (deg : poly < 2 ^ (d + 1)) (top : poly.testBit d = true) (n x : Nat) (h : x < 2 ^ (d + n)) :
    polyReduce d poly n x < 2 ^ d := by
  induction n generalizing x with
  | zero => exact h
  | succ n ih =>
    rw [polyReduce, natBit_eq_testBit]
    refine ih _ ?_
    split
    case isTrue set =>
      have shifted : poly * 2 ^ n < 2 ^ (d + n + 1) := by
        have e : 2 ^ (d + n + 1) = 2 ^ (d + 1) * 2 ^ n := by rw [← Nat.pow_add]; congr 1; omega
        rw [e]
        exact Nat.mul_lt_mul_of_pos_right deg (Nat.two_pow_pos _)
      have shiftedTop : (poly * 2 ^ n).testBit (d + n) = true := by
        rw [Nat.mul_comm, Nat.testBit_two_pow_mul, decide_eq_true (Nat.le_add_left _ _), Nat.add_sub_cancel, top]
        rfl
      refine lt_two_pow_of_top (Nat.xor_lt_two_pow h shifted) ?_
      rw [Nat.testBit_xor, set, shiftedTop]
      rfl
    case isFalse clear => exact lt_two_pow_of_top h (eq_false_of_ne_true clear)

theorem gf8_lt (a b : Nat) (ha : a < 2 ^ 8) : gf8 a b < 2 ^ 8 := polyReduce_lt (by decide) (by decide) _ _ (clmulN_lt 7 8 a b ha)

theorem gf16_lt (a b : Nat) (ha : a < 2 ^ 16) : gf16 a b < 2 ^ 16 :=
  polyReduce_lt (by decide) (by decide) _ _ (clmulN_lt 15 16 a b ha)

/-! ### Lanes -/

theorem packNat_lanes_lt (w : Nat) (vs : List Nat) : packNat (vs.map (fun v => (v, w))) < 2 ^ (w * vs.length) := by
  induction vs with
  | nil => exact Nat.two_pow_pos _
  | cons v vs ih =>
    have low : v % 2 ^ w < 2 ^ w := Nat.mod_lt _ (Nat.two_pow_pos _)
    have split : 2 ^ (w * (v :: vs).length) = 2 ^ w * 2 ^ (w * vs.length) := by
      rw [List.length_cons, Nat.mul_succ, Nat.add_comm, Nat.pow_add]
    rw [List.map_cons, packNat, split]
    calc v % 2 ^ w + 2 ^ w * packNat (vs.map (fun v => (v, w)))
        < 2 ^ w * (packNat (vs.map (fun v => (v, w))) + 1) := by rw [Nat.mul_succ]; omega
      _ ≤ 2 ^ w * 2 ^ (w * vs.length) := Nat.mul_le_mul_left _ ih

/-- Lane `i` of packed lanes is the value put there. -/
theorem packNat_lane (w : Nat) (vs : List Nat) (i : Nat) (h : i < vs.length) :
    packNat (vs.map (fun v => (v, w))) / 2 ^ (w * i) % 2 ^ w = vs[i] % 2 ^ w := by
  induction vs generalizing i with
  | nil => exact absurd h (Nat.not_lt_zero _)
  | cons v vs ih =>
    have low : v % 2 ^ w < 2 ^ w := Nat.mod_lt _ (Nat.two_pow_pos _)
    rw [List.map_cons, packNat]
    cases i with
    | zero => rw [Nat.mul_zero, Nat.pow_zero, Nat.div_one, Nat.add_mul_mod_self_left, Nat.mod_mod]; rfl
    | succ i =>
      have split : 2 ^ (w * (i + 1)) = 2 ^ w * 2 ^ (w * i) := by rw [Nat.mul_succ, Nat.add_comm, Nat.pow_add]
      rw [split, ← Nat.div_div_eq_div_mul, Nat.add_mul_div_left _ _ (Nat.two_pow_pos _), Nat.div_eq_of_lt low, Nat.zero_add]
      exact ih i (Nat.lt_of_succ_lt_succ h)

theorem lanes_eq (w n : Nat) (f : Nat → Nat → Nat) (a b : Word36) :
    (lanes w n f a b).ml = BitVec.ofNat 36 (packNat (((List.range n).map fun i =>
      f (natBits a.toNat (w * i) w) (natBits b.toNat (w * i) w)).map fun v => (v, w))) := by
  rw [List.map_map]
  rfl

/-- `n` lanes that fill 32 bits: each holds its product, and no bit stands above them. -/
theorem lanes_spec {w n : Nat} {f : Nat → Nat → Nat} (a b : Word36) (fill : w * n = 32) (bound : ∀ x y, x < 2 ^ w → f x y < 2 ^ w) :
    (lanes w n f a b).ml.toNat < 2 ^ 32 ∧ ∀ i < n, (lanes w n f a b).ml.toNat / 2 ^ (w * i) % 2 ^ w =
      f (a.toNat / 2 ^ (w * i) % 2 ^ w) (b.toNat / 2 ^ (w * i) % 2 ^ w) := by
  have small := packNat_lanes_lt w ((List.range n).map fun i => f (natBits a.toNat (w * i) w) (natBits b.toNat (w * i) w))
  rw [List.length_map, List.length_range, fill] at small
  rw [lanes_eq, BitVec.toNat_ofNat, Nat.mod_eq_of_lt (Nat.lt_trans small (by decide))]
  refine ⟨small, fun i hi => ?_⟩
  rw [packNat_lane w _ i (by rw [List.length_map, List.length_range]; exact hi), List.getElem_map, List.getElem_range]
  exact Nat.mod_eq_of_lt (bound _ _ (Nat.mod_lt _ (Nat.two_pow_pos _)))

/-! ### The instructions -/

theorem multiply_enters {s : State} {t : BitVec 9} {func : Nat} {ga gb : BitVec 5} {f : Word36 → Word36 → MulResult}
    (h : CanIssue s t [ga, gb] []) : StepTo (.next (multiply t func 0 ga gb 0 f s)) t { thr s t.toNat with
      muls := (thr s t.toNat).muls ++ [f (regG s t.toNat ga) (regG s t.toNat gb)], pc := (thr s t.toNat).pc + 1 } s := by
  refine stepTo_of_act h rfl h.not_stalled ?_
  show Runs _ _ _ (advance t.toNat (updThr t.toNat (fun x =>
    { x with muls := x.muls ++ [f (regG (noteIssue t.toNat s) t.toNat ga) (regG (noteIssue t.toNat s) t.toNat gb)] }) _))
  rw [regG_noteIssue, regG_noteIssue]
  exact (((noteIssue_runs t.toNat s).upd (y := { thr s t.toNat with
    muls := (thr s t.toNat).muls ++ [f (regG s t.toNat ga) (regG s t.toNat gb)] }) fun _ => rfl)).advance

/-- Settles O20: each multiply enters with the product that Table 5.13 gives, and the oldest result lands first. -/
theorem multipliesEnterAndLand : Obligations.MultipliesEnterAndLand := by
  unfold Obligations.MultipliesEnterAndLand
  rintro s t ga gb a b rfl rfl
  refine ⟨fun h => ⟨?_, ?_, ?_, ?_, ?_⟩, fun r rest hm => ?_⟩
  · rintro c rfl
    exact ⟨_, (congrArg Nat.cast (product72_toNat _)).trans (product_signed _ _), multiply_enters h⟩
  · rintro c rfl
    exact ⟨_, (product72_toNat _).trans (product_unsigned _ _), multiply_enters h⟩
  · rintro c rfl
    exact ⟨_, (product72_toNat _).trans (product_carryless _ _), multiply_enters h⟩
  · rintro c rfl
    obtain ⟨small, lane⟩ := lanes_spec (n := 4) (regG s t.toNat ga) (regG s t.toNat gb) rfl gf8_lt
    exact ⟨_, rfl, lane, small, multiply_enters h⟩
  · rintro c rfl
    obtain ⟨small, lane⟩ := lanes_spec (n := 2) (regG s t.toNat ga) (regG s t.toNat gb) rfl gf16_lt
    exact ⟨_, rfl, lane, small, multiply_enters h⟩
  · show execMultiplyLand t s = _
    rw [execMultiplyLand, hm]

end Sys2Proof.Machine
end

section
/-!
PROOFS. What an access to DRAM can change beside the bytes it writes: the queues and clocks of the controllers, what is counted, and the
error log. `Accesses` is proved of each operation once; reads of memory then stand across an access by `Accesses.dramBytes` and its like.
-/
namespace Sys2Proof.Machine

/-- What requests and schedulers of DRAM may change: the controllers' queues, the counters of the interval and the error log. -/
structure Accesses (s u : State) : Prop where
  frame : u = { s with cntAcc := u.cntAcc, dram := { s.dram with chans := u.dram.chans, errorLog := u.dram.errorLog } }
  fenced : ∀ c, (chanState u c).fenced = (chanState s c).fenced
  resting : ∀ c, (chanState u c).selfRefresh = (chanState s c).selfRefresh

theorem Accesses.refl (s : State) : Accesses s s := ⟨rfl, fun _ => rfl, fun _ => rfl⟩

theorem Accesses.trans {a b c : State} (h : Accesses a b) (k : Accesses b c) : Accesses a c where
  frame := by rw [k.frame, h.frame]
  fenced n := (k.fenced n).trans (h.fenced n)
  resting n := (k.resting n).trans (h.resting n)

theorem Accesses.ite {c : Prop} [Decidable c] {s a b : State} (h : Accesses s a) (k : Accesses s b) :
    Accesses s (if c then a else b) := by
  split <;> assumption

theorem Accesses.foldl {α : Type} {f : State → α → State} (h : ∀ a x, Accesses a (f a x)) (l : List α) (s : State) :
    Accesses s (l.foldl f s) := by
  induction l generalizing s with
  | nil => exact .refl s
  | cons x l ih => exact (h s x).trans (ih _)

theorem setChanState_accesses {c : Nat} {x : DramChannel} {s : State} (f : x.fenced = (chanState s c).fenced)
    (r : x.selfRefresh = (chanState s c).selfRefresh) : Accesses s (setChanState c x s) where
  frame := rfl
  fenced k := by
    by_cases e : k = c
    · rw [e]
      exact (congrArg DramChannel.fenced (tabGet_set_self _ _ _ _)).trans f
    · exact congrArg DramChannel.fenced (tabGet_set_of_ne _ _ _ e)
  resting k := by
    by_cases e : k = c
    · rw [e]
      exact (congrArg DramChannel.selfRefresh (tabGet_set_self _ _ _ _)).trans r
    · exact congrArg DramChannel.selfRefresh (tabGet_set_of_ne _ _ _ e)

theorem chanCount_accesses (c i n : Nat) (s : State) : Accesses s (chanCount c i n s) := ⟨rfl, fun _ => rfl, fun _ => rfl⟩

theorem chanCountSome_accesses (c i n : Nat) (s : State) : Accesses s (chanCountSome c i n s) := by
  unfold chanCountSome
  exact .ite (.refl s) (chanCount_accesses c i n s)

theorem logDramError_accesses (a c kind : Nat) (s : State) : Accesses s (logDramError a c kind s) := ⟨rfl, fun _ => rfl, fun _ => rfl⟩

theorem setSubChan_accesses (c b : Nat) (q : SubChannel) (s : State) : Accesses s (setSubChan c b q s) :=
  setChanState_accesses (by split <;> rfl) (by split <;> rfl)

theorem putStep_accesses (c b : Nat) (x : SchedStep) (s : State) : Accesses s (putStep c b x s) :=
  (((setSubChan_accesses c b x.sub s).trans (chanCountSome_accesses _ _ _ _)).trans (chanCountSome_accesses _ _ _ _)).trans
    (chanCountSome_accesses _ _ _ _)

theorem issueRefresh_accesses (c k : Nat) (s : State) : Accesses s (issueRefresh c k s) :=
  .trans (b := setChanState c { chanState s c with
      owed := tabErase (chanState s c).owed k, subA := closeRows k (chanState s c).subA, subB := closeRows k (chanState s c).subB } s)
    (setChanState_accesses rfl rfl) (chanCountSome_accesses _ _ _ _)

theorem issueDue_accesses (c : Nat) (s : State) : Accesses s (issueDue c s) := .foldl (fun _ _ => issueRefresh_accesses _ _ _) _ s

theorem channelCycle_accesses (s : State) (c : Nat) : Accesses s (channelCycle s c) := by
  unfold channelCycle
  exact .ite (.refl s) (.ite (issueDue_accesses c s) (.foldl (fun _ _ => putStep_accesses _ _ _ _) _ s))

theorem dramCycle_accesses (s : State) : Accesses s (dramCycle s) := .foldl channelCycle_accesses _ s

theorem runSub_accesses (c b : Nat) (done : SubChannel → Bool) (s : State) : Accesses s (runSub c b done s) := by
  unfold runSub
  exact .ite (.refl s) ((issueDue_accesses c s).trans (putStep_accesses _ _ _ _))

theorem emptyQueues_accesses (c : Nat) (s : State) : Accesses s (emptyQueues c s) := .foldl (fun _ _ => runSub_accesses _ _ _ _) _ s

theorem wakeChan_accesses (c : Nat) (s : State) : Accesses s (wakeChan c s) := by
  unfold wakeChan
  refine .ite ?_ (.refl s)
  exact (chanCount_accesses c 14 1 s).trans (setChanState_accesses rfl rfl)

theorem sendRequest_accesses (port : Nat) (write : Bool) (l : Nat) (s : State) : Accesses s (sendRequest port write l s) := by
  unfold sendRequest
  refine .ite (.refl s) ?_
  split
  · exact .refl s
  · exact (runSub_accesses _ _ _ s).trans (setSubChan_accesses _ _ _ _)

theorem serveLine_accesses (port l : Nat) (s : State) : Accesses s (serveLine port l s) := by
  unfold serveLine
  split
  · exact .refl s
  · exact runSub_accesses _ _ _ s

theorem noteLine_accesses (port : Nat) (write : Bool) (l n : Nat) (s : State) : Accesses s (noteLine port write l n s) := by
  unfold noteLine
  split
  · exact .refl s
  · refine .ite (.refl s) (.ite ((chanCount_accesses _ _ _ s).trans (logDramError_accesses _ _ _ _)) (.ite ?_ ?_))
    · exact (setChanState_accesses (by rfl) (by rfl)).trans (wakeChan_accesses _ _)
    · exact (((chanCount_accesses _ _ _ s).trans (chanCount_accesses _ _ _ _)).trans
        (.ite (chanCount_accesses _ _ _ _) (.refl _))).trans (sendRequest_accesses _ _ _ _)

theorem requestLines_accesses (port : Nat) (write : Bool) (a n : Nat) (s : State) : Accesses s (requestLines port write a n s) :=
  .foldl (fun _ _ => noteLine_accesses _ _ _ _ _) _ s

theorem serveLines_accesses (port a n : Nat) (s : State) : Accesses s (serveLines port a n s) :=
  .foldl (fun _ _ => serveLine_accesses _ _ _) _ s

theorem noteAccess_accesses (port : Nat) (write : Bool) (a n : Nat) (s : State) : Accesses s (noteAccess port write a n s) := by
  unfold noteAccess
  exact .ite (requestLines_accesses _ _ _ _ s) ((requestLines_accesses _ _ _ _ s).trans (serveLines_accesses _ _ _ _))

theorem resumeWaits_accesses (c : Nat) (s : State) : Accesses s (resumeWaits c s) :=
  .trans (b := setChanState c { chanState s c with waiting := [] } s) (setChanState_accesses rfl rfl)
    (.foldl (fun _ _ => noteLine_accesses _ _ _ _ _) _ _)

/-! ### What stands across an access -/

section
variable {s u : State} (h : Accesses s u)
include h

theorem Accesses.host : u.host = s.host := by rw [h.frame]
theorem Accesses.cab : u.cab = s.cab := by rw [h.frame]
theorem Accesses.cores : u.cores = s.cores := by rw [h.frame]
theorem Accesses.mem : u.dram.mem = s.dram.mem := by rw [h.frame]
theorem Accesses.poison : u.dram.poison = s.dram.poison := by rw [h.frame]

theorem Accesses.dramPlace (a : Nat) : dramPlace u a = dramPlace s a := by rw [h.frame]; rfl

theorem Accesses.lineClosed (l : Nat) : lineClosed u l = lineClosed s l := by
  have started : u.dram.started = s.dram.started := by rw [h.frame]
  unfold Machine.lineClosed
  rw [h.dramPlace, started]
  split
  · rw [h.fenced]
  · rfl

theorem Accesses.linePoisoned (l : Nat) : linePoisoned u l = linePoisoned s l := by
  rw [Machine.linePoisoned, Machine.linePoisoned, h.poison, h.lineClosed]

theorem Accesses.dramByte (a : Nat) : dramByte u a = dramByte s a := by
  have fresh : u.fresh = s.fresh := by rw [h.frame]
  rw [Machine.dramByte, Machine.dramByte, h.lineClosed, h.mem, fresh]

theorem Accesses.dramBytes (a n : Nat) : dramBytes u a n = dramBytes s a n := by
  simp only [Machine.dramBytes, h.dramByte]

end

/-- A write changes bytes and poison marks, and accesses DRAM. -/
theorem dramWrite_frame (port a : Nat) (bs : List Byte) (bad : Bool) (s : State) : dramWrite port a bs bad s = { s with
    cntAcc := (dramWrite port a bs bad s).cntAcc
    dram := { s.dram with
      mem := (dramStore a bs s).dram.mem, poison := (dramWrite port a bs bad s).dram.poison
      chans := (dramWrite port a bs bad s).dram.chans, errorLog := (dramWrite port a bs bad s).dram.errorLog } } := by
  have h := (noteAccess_accesses port true a bs.length (dramStore a bs s)).frame
  unfold dramWrite
  dsimp only
  rw [h]
  rfl

end Sys2Proof.Machine
end

section
/-!
PROOFS. What a step does (O51): the command at the front, or the idle cycle, in which the clock moves and the schedulers change
nothing that a command sees.
-/
namespace Sys2Proof.Machine

/-- The clock's cycle changes the clock, and whether the generator is to realign at its second (R95). -/
theorem ptpCycle_frame (s : State) : ptpCycle s = { s with
    line := { s.line with ptp := (ptpCycle s).line.ptp }, sh := { s.sh with realign := (ptpCycle s).sh.realign } } := by
  simp only [ptpCycle]
  split
  · rfl
  · split <;> rfl

theorem idleCycle_frame (s : State) : dramCycle (ptpCycle s) = { s with
    cntAcc := (dramCycle (ptpCycle s)).cntAcc
    dram := { s.dram with
      chans := (dramCycle (ptpCycle s)).dram.chans, errorLog := (dramCycle (ptpCycle s)).dram.errorLog }
    line := { s.line with ptp := (ptpCycle s).line.ptp }
    sh := { s.sh with realign := (ptpCycle s).sh.realign } } := by
  refine (dramCycle_accesses (ptpCycle s)).frame.trans ?_
  rw [ptpCycle_frame]

/-- Settles O51: `step` takes the front command by definition; the idle step is one cycle of the clock and of the schedulers. -/
theorem stepsRunTheFrontCommand : Obligations.StepsRunTheFrontCommand := by
  unfold Obligations.StepsRunTheFrontCommand
  refine ⟨fun c rest s h => ?_, fun s h => ?_, fun s n w => ⟨rfl, rfl⟩⟩
  · rw [step, h]
  · have idle : step s = .next (dramCycle (ptpCycle s)) := by rw [step, h]
    have frame := idleCycle_frame s
    have fenced (c : Nat) : (chanState (dramCycle (ptpCycle s)) c).fenced = (chanState s c).fenced := by
      rw [(dramCycle_accesses (ptpCycle s)).fenced c, ptpCycle_frame]
      rfl
    refine ⟨idle, _, idle, ?_, ?_, ?_, ?_, ?_, ?_, ?_, fenced, ?_, ?_, ?_, ?_⟩
    case refine_2 => exact (congrArg State.pending frame).trans h
    all_goals rw [frame]

end Sys2Proof.Machine
end

section
/-!
PROOFS. What reset leaves (O52): fields of one state, and its tables read as empty.
-/
namespace Sys2Proof.Machine

theorem reset_memWf : State.reset.memWf := by
  unfold State.memWf
  decide

/-- Settles O52: every field named stands as declared, and every table of the reset state is empty. -/
theorem resetLeavesTheSpecsValues : Obligations.ResetLeavesTheSpecsValues := by
  unfold Obligations.ResetLeavesTheSpecsValues
  rintro s rfl
  refine ⟨rfl, reset_memWf, rfl, rfl, rfl, rfl, rfl, fun p => ⟨rfl, rfl⟩, rfl, rfl, rfl, rfl, rfl, rfl, rfl, rfl, rfl, rfl, rfl, rfl,
    fun n => rfl, fun k => rfl, fun t g => ?_⟩
  show (if g = 0 then (0 : Word36) else 0) = 0
  exact ite_self 0

end Sys2Proof.Machine
end

section
/-!
PROOFS. Exceptions (O53): the order in which `issue` meets the causes of Table 5.18, and what a halt leaves of its thread.
-/
namespace Sys2Proof.Machine

/-! ### The order of the causes (R319) -/

section
variable {s : State} {t : BitVec 9} {i : CoreInstr} (runs : mayIssue s t.toNat = true) (after : (thr s t.toNat).after = .none)
include runs after

theorem issue_instrBad (bad : instrBad s t.toNat = true) : issue t i s = haltThread t.toNat 0x02 i.word 0 (noteInstrUe t.toNat s) := by
  simp only [issue, runs, after, bad, Bool.not_true, Bool.false_eq_true, if_false, if_true, ne_eq, not_true_eq_false]

theorem issue_fetched (good : instrBad s t.toNat = false) (strong : s.cores.imemWeak.contains (fetchKey s t.toNat) = false) :
    issue t i s = issueFetched t.toNat i s := by
  simp only [issue, runs, after, good, checkImem_strong strong, Bool.not_true, Bool.false_eq_true, if_false, ne_eq, not_true_eq_false]

end

section
variable {s : State} {n : Nat} {i : CoreInstr}

theorem issueFetched_reserved (h : reservedWord (wordAt s n) = true) : issueFetched n i s = haltThread n 0x01 (wordAt s n) 0 s := if_pos h

variable (known : reservedWord (wordAt s n) = false)
include known

theorem issueFetched_illegal (h : i.illegal s n = true) : issueFetched n i s = haltThread n 0x01 i.word 0 s :=
  (if_neg (ne_true_of_eq_false known)).trans (if_pos h)

variable (legal : i.illegal s n = false)
include legal

theorem issueFetched_pending (h : pendingRegs s n i ≠ []) :
    issueFetched n i s = stallThread n (.lookupAgain (pendingRegs s n i)) ctrStallLookup s := by
  have waits : (!(pendingRegs s n i).isEmpty) = true := by rw [Bool.not_eq_true', List.isEmpty_eq_false_iff]; exact h
  exact (if_neg (ne_true_of_eq_false known)).trans ((if_neg (ne_true_of_eq_false legal)).trans (if_pos waits))

variable (landed : pendingRegs s n i = [])
include landed

theorem issueFetched_landed : issueFetched n i s =
    if sourceBad s n i then haltThread n 0x03 i.word 0 (noteRegParity n s)
    else if (thr s n).terminated && decide (1024 ≤ (thr s n).handlerCount) then haltThread n 0x11 i.word 0 s
    else stepIssued n (i.act n (noteIssue n s)) := by
  have waits : ¬ (!(pendingRegs s n i).isEmpty) = true := by rw [landed]; exact Bool.false_ne_true
  exact (if_neg (ne_true_of_eq_false known)).trans ((if_neg (ne_true_of_eq_false legal)).trans (if_neg waits))

theorem issueFetched_parity (h : sourceBad s n i = true) : issueFetched n i s = haltThread n 0x03 i.word 0 (noteRegParity n s) :=
  (issueFetched_landed known legal landed).trans (if_pos h)

theorem issueFetched_limit (h : sourceBad s n i = false) (handler : (thr s n).terminated = true) (spent : 1024 ≤ (thr s n).handlerCount) :
    issueFetched n i s = haltThread n 0x11 i.word 0 s := by
  refine (issueFetched_landed known legal landed).trans ((if_neg (ne_true_of_eq_false h)).trans (if_pos ?_))
  rw [handler, decide_eq_true spent]
  rfl

end

/-! ### A halt (R320, R343) -/

/-- What posting a fault message leaves of the threads and the channels: a thread's held message may change, and slots. -/
structure Posts (s u : State) : Prop where
  thr : ∀ k, thr u k = { thr s k with heldMsg := (thr u k).heldMsg }
  dmem : u.cores.dmem = s.cores.dmem
  readers : ∀ c, (chanOf u c).readers = (chanOf s c).readers
  writers : ∀ c, (chanOf u c).writers = (chanOf s c).writers
  bad : s.dov.bad = [] → u.dov.bad = []
  weak : s.dov.weak = [] → u.dov.weak = []

theorem Posts.refl (s : State) : Posts s s := ⟨fun _ => rfl, rfl, fun _ => rfl, fun _ => rfl, id, id⟩

theorem Posts.trans {a b c : State} (h : Posts a b) (k : Posts b c) : Posts a c where
  thr n := by rw [k.thr, h.thr]
  dmem := k.dmem.trans h.dmem
  readers n := (k.readers n).trans (h.readers n)
  writers n := (k.writers n).trans (h.writers n)
  bad e := k.bad (h.bad e)
  weak e := k.weak (h.weak e)

theorem Posts.ite {c : Prop} [Decidable c] {s a b : State} (h : Posts s a) (k : Posts s b) : Posts s (if c then a else b) := by
  split <;> assumption

/-- What touches neither threads nor channels posts nothing. -/
theorem Posts.of_eq {s u : State} (cores : u.cores = s.cores) (dov : u.dov.channels = s.dov.channels) (bad : u.dov.bad = s.dov.bad)
    (weak : u.dov.weak = s.dov.weak) : Posts s u where
  thr k := by rw [Machine.thr, Machine.thr, cores]
  dmem := by rw [cores]
  readers c := by rw [chanOf, chanOf, dov]
  writers c := by rw [chanOf, chanOf, dov]
  bad e := bad.trans e
  weak e := weak.trans e

theorem Posts.of_reports {s u : State} (r : Reports s u) : Posts s u :=
  .of_eq r.cores (congrArg _ r.dov) (congrArg _ r.dov) (congrArg _ r.dov)

theorem markProgress_posts (k : Nat) (s : State) : Posts s (markProgress k s) := .of_eq rfl rfl rfl rfl

theorem progress_posts (w : Thread → Bool) (s : State) : Posts s (progress w s) := by
  unfold progress
  generalize (s.cores.threads.filter (fun p => w p.2)).map (fun p => clusterOf p.1) = ks
  have all : ∀ a, Posts a (ks.foldl (fun a k => markProgress k a) a) := by
    induction ks with
    | nil => exact .refl
    | cons k ks ih => exact fun a => (markProgress_posts k a).trans (ih _)
  exact (markProgress_posts 8 s).trans (all _)

theorem forgetWord_posts (w : DovWord) (s : State) : Posts s (forgetWord w s) := by
  unfold forgetWord
  refine .ite (.refl s) ⟨fun _ => rfl, rfl, fun _ => rfl, fun _ => rfl, fun e => ?_, fun e => ?_⟩
  · exact (congrArg (List.filter (· != w)) e)
  · exact (congrArg (List.filter (· != w)) e)

theorem setChan_posts {c : Nat} {x : Channel} {s : State} (r : x.readers = (chanOf s c).readers) (w : x.writers = (chanOf s c).writers) :
    Posts s (setChan c x s) where
  thr _ := rfl
  dmem := rfl
  readers k := by
    by_cases e : k = c
    · rw [e]
      exact (congrArg Channel.readers (tabGet_set_self _ _ _ _)).trans r
    · exact congrArg Channel.readers (tabGet_set_of_ne _ _ _ e)
  writers k := by
    by_cases e : k = c
    · rw [e]
      exact (congrArg Channel.writers (tabGet_set_self _ _ _ _)).trans w
    · exact congrArg Channel.writers (tabGet_set_of_ne _ _ _ e)
  bad := id
  weak := id

theorem reserveSlot_posts (c : Nat) (w : BitVec 12) (st : SlotState) (words : List Word36) (s : State) :
    Posts s (reserveSlot c w st words s) := by
  have f := forgetWord_posts (.slot c ((chanOf s c).reserved % chanSize s c)) s
  exact f.trans (setChan_posts (f.readers c).symm (f.writers c).symm)

theorem postTwo_posts (c : Nat) (m : FaultMsg) (s : State) : Posts s (postTwo c m s) :=
  (((reserveSlot_posts _ _ _ _ s).trans (reserveSlot_posts _ _ _ _ _)).trans (.of_reports (count_reports _ _ _ _ _))).trans
    (progress_posts _ _)

theorem updThr_posts (k : Nat) (f : Option (Nat × FaultMsg)) (s : State) : Posts s (updThr k (fun x => { x with heldMsg := f }) s) where
  thr n := by
    by_cases e : n = k
    · rw [e, thr_updThr_self]
    · rw [thr_updThr_of_ne _ _ e]
  dmem := rfl
  readers _ := rfl
  writers _ := rfl
  bad := id
  weak := id

theorem heldOrder_posts (l : List Nat) (s : State) : Posts s { s with dov := { s.dov with heldOrder := l } } := .of_eq rfl rfl rfl rfl

theorem dropHeld_posts (h : Nat) (s : State) : Posts s (dropHeld h s) :=
  .ite ((heldOrder_posts _ s).trans (updThr_posts h none _)) (.of_eq rfl rfl rfl rfl)

/-- A channel that no thread waits on can but post a message that was held for it. -/
theorem chanStep_posts {c : Nat} {s u : State} (readers : (chanOf s c).readers = []) (writers : (chanOf s c).writers = [])
    (h : chanStep c s = some u) : Posts s u := by
  simp only [chanStep, readers, writers, List.find?_nil] at h
  split at h
  · split at h
    · obtain rfl := Option.some.inj h
      exact (dropHeld_posts _ s).trans (postTwo_posts _ _ _)
    · cases h
  · cases h

theorem chanRun_posts (n c : Nat) {s : State} (readers : (chanOf s c).readers = []) (writers : (chanOf s c).writers = []) :
    Posts s (chanRun n c s) := by
  induction n generalizing s with
  | zero => exact .refl s
  | succ n ih =>
    rw [chanRun]
    split
    case h_1 u h =>
      have p := chanStep_posts readers writers h
      exact p.trans (ih ((p.readers c).trans readers) ((p.writers c).trans writers))
    case h_2 => exact .refl s

theorem postFault_posts (c rec : Nat) (m : FaultMsg) {s : State} (weak : s.dov.weak = []) (bad : s.dov.bad = [])
    (readers : (chanOf s c).readers = []) (writers : (chanOf s c).writers = []) : Posts s (postFault c rec m s) := by
  have good : checkPointers c s = s := by rw [checkPointers, weak, bad]; rfl
  have posted := postTwo_posts c m s
  have held := raiseFirst_reports 207 0 [] s
  unfold postFault
  rw [good]
  refine .ite (posted.trans (chanRun_posts _ _ ((posted.readers c).trans readers) ((posted.writers c).trans writers)))
    (.ite (.ite (.refl s) ?_) (.ite (.refl s) ?_))
  · exact ((Posts.of_reports held).trans (heldOrder_posts _ _)).trans (updThr_posts rec (some (c, m)) _)
  · exact (Posts.of_reports held).trans (.of_eq rfl rfl rfl rfl)

/-- The walk takes a ready thread, so it leaves every other one alone. -/
theorem walk_thr {k : Nat} {s : State} (core : Nat) (h : isReady s k = false) : thr (walk core s) k = thr s k := by
  unfold walk
  split
  · rfl
  · split
    · rfl
    · next e t found =>
      have ready : isReady s t = true := List.find?_some (p := fun p : Nat × Nat => isReady s p.2) found
      have other : k ≠ t := fun e => by rw [e, ready] at h; cases h
      dsimp only
      rw [thr_of_reports (trace_reports _ _ _ _ _), thr_of_reports (count_reports _ _ _ _ _), thr_updThr_of_ne _ _ other]
      rfl

theorem walk_dmem (core : Nat) (s : State) : (walk core s).cores.dmem = s.cores.dmem := by
  unfold walk
  split
  · rfl
  · split
    · rfl
    · dsimp only
      rw [(trace_reports _ _ _ _ _).cores]
      rfl

/-- What a thread that halts keeps, and what it records (R320, R347). -/
def haltedThread (code : Nat) (m : FaultMsg) (x : Thread) : Thread :=
  { x with st := .halt, stall := .none, after := .none, awaiting := false, lastEx := BitVec.ofNat 6 code, fault := some m }

theorem haltThread_posts {s : State} {t : Nat} (code d : Nat) (w : Word36) (worker : isSupervisor s t = false) (weak : s.dov.weak = [])
    (bad : s.dov.bad = []) (readers : (chanOf s (1016 + t / 64)).readers = []) (writers : (chanOf s (1016 + t / 64)).writers = []) :
    ∃ u, haltThread t code w d s = walk (coreOf t) u ∧
      Posts (updThr t (haltedThread code (faultMsg s t 0 code w d)) s) u := by
  have r : Reports (updThr t (haltedThread code (faultMsg s t 0 code w d)) s)
      (raiseFirst 198 0 [] (count .dovetail 0 12 1 (setFlag 0x4C0 0 (updThr t (haltedThread code (faultMsg s t 0 code w d)) s)))) :=
    ((setFlag_reports _ _ _).trans (count_reports _ _ _ _ _)).trans (raiseFirst_reports _ _ _ _)
  refine ⟨_, ?_, (Posts.of_reports r).trans (postFault_posts (1016 + t / 64) t (faultMsg s t 0 code w d) ?_ ?_ ?_ ?_)⟩
  · simp only [haltThread, worker]
    rfl
  · rw [r.dov]; exact weak
  · rw [r.dov]; exact bad
  · rw [chanOf, r.dov]; exact readers
  · rw [chanOf, r.dov]; exact writers

/-- A halt keeps the thread's registers and its address, and data memory (R318, R320). -/
theorem haltThread_keeps_registers {s : State} {t : Nat} (code d : Nat) (w : Word36) (worker : isSupervisor s t = false)
    (weak : s.dov.weak = []) (bad : s.dov.bad = []) (readers : (chanOf s (1016 + t / 64)).readers = [])
    (writers : (chanOf s (1016 + t / 64)).writers = []) :
    (thr (haltThread t code w d s) t).st = .halt ∧ (thr (haltThread t code w d s) t).lastEx = BitVec.ofNat 6 code ∧
      (thr (haltThread t code w d s) t).pc = (thr s t).pc ∧ (thr (haltThread t code w d s) t).g = (thr s t).g ∧
      (∃ x, (thr (haltThread t code w d s) t).fault = some x) ∧ (haltThread t code w d s).cores.dmem = s.cores.dmem := by
  obtain ⟨u, e, p⟩ := haltThread_posts code d w worker weak bad readers writers
  have x := p.thr t
  rw [thr_updThr_self] at x
  have idle : isReady u t = false := by
    rw [isReady, x]
    rfl
  rw [e, walk_thr _ idle, walk_dmem, p.dmem, x]
  exact ⟨rfl, rfl, rfl, rfl, ⟨_, rfl⟩, rfl⟩

/-! ### SLLI and MFS -/

/-- SLLI as an instruction (Table 5.6). -/
def slliInstr (gd ga : BitVec 5) (pos len : BitVec 6) (z : BitVec 2) : CoreInstr :=
  { word := encS gd ga pos len z 0, illegal := fun _ _ => z != 0 || badShift pos len, srcs := [ga], dsts := [gd]
    act := fun n s => advance n (setG n gd (regG s n ga <<< pos.toNat) s) }

theorem exec_slli (t : BitVec 9) (gd ga : BitVec 5) (pos len : BitVec 6) (z : BitVec 2) (s : State) :
    exec (.slli t gd ga pos len z) s = .next (issue t (slliInstr gd ga pos len z) s) := rfl

theorem slli_illegal {gd ga : BitVec 5} {pos len : BitVec 6} {z : BitVec 2} (s : State) (n : Nat) (h : 35 < pos.toNat ∨ len ≠ 0 ∨ z ≠ 0) :
    (slliInstr gd ga pos len z).illegal s n = true := by
  show (z != 0 || (decide (35 < pos.toNat) || len != 0)) = true
  rw [Bool.or_eq_true, Bool.or_eq_true, decide_eq_true_eq, bne_iff_ne, bne_iff_ne]
  rcases h with pos_ | len_ | z_
  · exact .inr (.inl pos_)
  · exact .inr (.inr len_)
  · exact .inl z_

theorem slli_legal {gd ga : BitVec 5} {pos : BitVec 6} (s : State) (n : Nat) (h : pos.toNat ≤ 35) :
    (slliInstr gd ga pos 0 0).illegal s n = false := by
  have shift := badShift_eq (pos := pos) (by omega)
  show ((0 : BitVec 2) != 0 || badShift pos 0) = false
  rw [shift]
  rfl

/-- MFS as an instruction (R312). -/
def mfsInstr (gd : BitVec 5) (n : BitVec 16) : CoreInstr :=
  { word := encI 10 gd 0 0 n, dsts := [gd], specials := [natBits n.toNat 0 6]
    illegal := fun _ _ => (0 : BitVec 4) != 0 || (0 : BitVec 5) != 0 || natBits n.toNat 6 10 != 0 || decide (17 < natBits n.toNat 0 6)
    act := fun k s =>
      if mulEarly s k (natBits n.toNat 0 6) then haltThread k 0x0A (encI 10 gd 0 0 n) 0 s
      else advance k (setG k gd (readSpecial s k (natBits n.toNat 0 6)) s) }

theorem exec_mfs (t : BitVec 9) (gd : BitVec 5) (n : BitVec 16) (s : State) :
    exec (.mfs t gd 0 0 n) s = .next (issue t (mfsInstr gd n) s) := rfl

theorem mfs_legal {gd : BitVec 5} {n : BitVec 16} (s : State) (k : Nat) (h : n.toNat ≤ 17) : (mfsInstr gd n).illegal s k = false := by
  have low : natBits n.toNat 0 6 = n.toNat := natBits_eq_self (by omega)
  have high : natBits n.toNat 6 10 = 0 := natBits_eq_zero _ (by omega)
  show ((0 : BitVec 4) != 0 || (0 : BitVec 5) != 0 || natBits n.toNat 6 10 != 0 || decide (17 < natBits n.toNat 0 6)) = false
  rw [high, low, decide_eq_false (by omega)]
  rfl

/-- Settles O53: the causes come in the order of `issue`, and a halt keeps what stands in registers and data memory. -/
theorem exceptionsComeInOrder : Obligations.ExceptionsComeInOrder := by
  unfold Obligations.ExceptionsComeInOrder
  refine ⟨fun s t gd ga pos len z runs after => ⟨fun bad => ?_, fun good strong => ⟨fun res => ?_, fun known wrong => ?_, ?_⟩⟩,
    fun s t gd n runs after good strong known small none bad => ?_, fun s t code d w _ worker weak bad readers writers =>
      haltThread_keeps_registers code d w worker weak bad readers writers⟩
  · exact ⟨_, congrArg Host.Outcome.next (issue_instrBad runs after bad)⟩
  · rw [exec_slli, issue_fetched runs after good strong, issueFetched_reserved res]
  · exact ⟨_, congrArg Host.Outcome.next ((issue_fetched runs after good strong).trans
      (issueFetched_illegal known (slli_illegal s t.toNat wrong)))⟩
  · rintro known inside rfl rfl
    have legal := slli_legal (gd := gd) (ga := ga) s t.toNat inside
    have fetched := issue_fetched (i := slliInstr gd ga pos 0 0) runs after good strong
    have waits : pendingRegs s t.toNat (slliInstr gd ga pos 0 0) =
      [ga, gd].filter (fun r => (tabFind (thr s t.toNat).pending r.toNat).isSome) := rfl
    refine ⟨fun pending => ?_, fun landed => ?_⟩
    · have some : pendingRegs s t.toNat (slliInstr gd ga pos 0 0) ≠ [] := by
        rw [waits, ne_eq, List.filter_eq_nil_iff]
        intro h
        rcases (Bool.or_eq_true _ _).mp pending with p | p
        · exact h ga (List.mem_cons_self) p
        · exact h gd (List.mem_cons_of_mem _ List.mem_cons_self) p
      rw [exec_slli, fetched, issueFetched_pending known legal some, waits]
    · have none : pendingRegs s t.toNat (slliInstr gd ga pos 0 0) = [] := by
        obtain ⟨ha, hd⟩ := (Bool.or_eq_false_iff).mp landed
        rw [waits, List.filter_eq_nil_iff]
        simp only [List.mem_cons, List.not_mem_nil, or_false, forall_eq_or_imp, forall_eq, ha, hd, Bool.false_eq_true,
          not_false_eq_true, and_self]
      have source : sourceBad s t.toNat (slliInstr gd ga pos 0 0) = (thr s t.toNat).badRegs.contains ga.toNat := by
        show ([ga].any _ || ([] : List Nat).any _) = _
        rw [List.any_cons, List.any_nil, List.any_nil, Bool.or_false, Bool.or_false]
      refine ⟨fun fails => ?_, fun sound handler spent => ?_⟩
      · exact ⟨_, congrArg Host.Outcome.next (fetched.trans
          (issueFetched_parity known legal none (source.trans (List.contains_iff_mem.mpr fails))))⟩
      · have holds : (thr s t.toNat).badRegs.contains ga.toNat = false :=
          eq_false_of_ne_true (mt List.contains_iff_mem.mp sound)
        exact ⟨_, congrArg Host.Outcome.next (fetched.trans
          (issueFetched_limit known legal none (source.trans holds) handler spent))⟩
  · have low : natBits n.toNat 0 6 = n.toNat := natBits_eq_self (by omega)
    have landed : pendingRegs s t.toNat (mfsInstr gd n) = [] := by
      show [gd].filter (fun r => (tabFind (thr s t.toNat).pending r.toNat).isSome) = []
      rw [List.filter_eq_nil_iff]
      simp only [List.mem_singleton, forall_eq, none, Option.isSome_none, Bool.false_eq_true, not_false_eq_true]
    have source : sourceBad s t.toNat (mfsInstr gd n) = true := by
      show (_ || [natBits n.toNat 0 6].any (fun r => (thr s t.toNat).badRegs.contains (32 + r))) = true
      rw [low, List.any_cons, List.contains_iff_mem.mpr bad]
      rfl
    exact ⟨_, congrArg Host.Outcome.next ((issue_fetched runs after good strong).trans
      (issueFetched_parity known (mfs_legal s t.toNat small) landed source))⟩

end Sys2Proof.Machine
end

section
/-!
PROOFS. Links, lanes and clock pins (O10). `Gives` says what giving up copies and handles leaves of the Cabinet: the queues and what the
egress side sends stand, and no flag is lost.
-/
namespace Sys2Proof.Machine

/-- From `s` to `u` of the Cabinet only handles, groups, charges and the prefetch buffer change, and every flag set stays set. -/
structure Gives (s u : State) : Prop where
  cab : u.cab = { s.cab with handles := u.cab.handles, groups := u.cab.groups, owners := u.cab.owners, use := u.cab.use
                             prefetch := u.cab.prefetch }
  flags : FlagsStand s u

theorem Gives.refl (s : State) : Gives s s := ⟨rfl, .refl s⟩

theorem Gives.trans {a b c : State} (h : Gives a b) (k : Gives b c) : Gives a c := ⟨by rw [k.cab, h.cab], h.flags.trans k.flags⟩

theorem Gives.ite {c : Prop} [Decidable c] {s a b : State} (h : Gives s a) (k : Gives s b) : Gives s (if c then a else b) := by
  split <;> assumption

theorem Gives.foldl {β : Type} {f : State → β → State} (h : ∀ a b, Gives a (f a b)) (l : List β) (s : State) : Gives s (l.foldl f s) := by
  induction l generalizing s with
  | nil => exact .refl s
  | cons b l ih => exact (h s b).trans (ih _)

theorem Gives.of_frame {s u : State} (cab : u.cab = { s.cab with
      handles := u.cab.handles, groups := u.cab.groups, owners := u.cab.owners, use := u.cab.use, prefetch := u.cab.prefetch })
    (flags : u.flags = s.flags) : Gives s u := ⟨cab, .of_eq flags⟩

theorem Gives.of_reports {s u : State} (r : Reports s u) (f : FlagsStand s u) : Gives s u := ⟨by rw [r.cab], f⟩

theorem raise_gives (src : Nat) (data : List (Nat × Nat)) (s : State) : Gives s (raise src data s) :=
  .of_reports (raise_reports _ _ _) (raise_flagsStand _ _ _)

theorem count_gives (sc : Scope) (x i n : Nat) (s : State) : Gives s (count sc x i n s) := .of_frame rfl rfl

theorem setFlag_gives (off bit : Nat) (s : State) : Gives s (setFlag off bit s) := .of_reports (setFlag_reports _ _ _) (setFlag_flagsStand _ _ _)

theorem noteStale_gives (s : State) : Gives s (noteStale s) :=
  ((setFlag_gives _ _ s).trans (count_gives _ _ _ _ _)).trans (raise_gives _ _ _)

theorem noteRefError_gives (s : State) : Gives s (noteRefError s) :=
  ((setFlag_gives _ _ s).trans (count_gives _ _ _ _ _)).trans (raise_gives _ _ _)

theorem setHandle_gives (i : Nat) (h : Handle) (s : State) : Gives s (setHandle i h s) := .of_frame rfl rfl
theorem updHandle_gives (i : Nat) (f : Handle → Handle) (s : State) : Gives s (updHandle i f s) := .of_frame rfl rfl

theorem dropHead_gives (i : Nat) (s : State) : Gives s (dropHead i s) := by
  unfold dropHead
  exact .ite (.of_frame rfl rfl) (.refl s)

theorem giveCells_gives (g : Nat) (spill : Bool) (cs : List Nat) (s : State) : Gives s (giveCells g spill cs s) := by
  unfold giveCells
  exact .ite (.refl s) (.of_frame rfl rfl)

theorem dischargeUse_gives (o d n : Nat) (p : Pay) (s : State) : Gives s (dischargeUse o d n p s) := by
  cases p <;> exact .of_frame rfl rfl

theorem progress_gives (w : Thread → Bool) (s : State) : Gives s (progress w s) :=
  (Gives.of_frame (u := markProgress 8 s) rfl rfl).trans (.foldl (fun a k => .of_frame (u := markProgress k a) rfl rfl) _ _)

theorem freeSlots_gives (i : Nat) (slots : List Nat) (s : State) : Gives s (freeSlots i slots s) := by
  have given (l : List (Nat × Nat × Nat)) (b : Bool) : Gives s (l.foldl (fun a c => giveCells (c.2.1 / 2 ^ 32) b [c.2.1 % 2 ^ 32] a) s) :=
    .foldl (fun a c => giveCells_gives _ b _ a) l s
  unfold freeSlots
  extract_lets h gone back n kept fromHr s1 s2 s3
  have discharged : Gives s s2 := .ite ((given _ _).trans (dischargeUse_gives _ _ _ _ _))
    (((given _ _).trans (dischargeUse_gives _ _ _ _ _)).trans (dischargeUse_gives _ _ _ _ _))
  exact .ite (discharged.trans (setHandle_gives _ _ _)) ((discharged.trans (setHandle_gives _ _ _)).trans (progress_gives _ _))

theorem releaseIndex_gives (i : Nat) (s : State) : Gives s (releaseIndex i s) := (dropHead_gives i s).trans (updHandle_gives _ _ _)

theorem freeHandle_gives (i : Nat) (s : State) : Gives s (freeHandle i s) := by
  unfold freeHandle
  exact .ite ((freeSlots_gives _ _ s).trans (releaseIndex_gives _ _)) (updHandle_gives _ _ s)

theorem dropRef_gives (i : Nat) (s : State) : Gives s (dropRef i s) := by
  unfold dropRef
  exact .ite (noteRefError_gives s) (.ite ((setHandle_gives _ _ s).trans (freeHandle_gives _ _)) (setHandle_gives _ _ s))

theorem dropRefWord_gives (h : HandleWord) (s : State) : Gives s (dropRefWord h s) := by
  unfold dropRefWord
  exact .ite (noteStale_gives s) (dropRef_gives _ s)

theorem leavePrefetch_gives (c : Copy) (s : State) : Gives s (leavePrefetch c s) := by
  unfold leavePrefetch
  exact .ite (.of_frame rfl rfl) (.refl s)

theorem dropCopy_gives (c : Copy) (s : State) : Gives s (dropCopy c s) := (leavePrefetch_gives c s).trans (dropRefWord_gives _ _)

theorem Frees.line {s u : State} (h : Frees s u) : u.line = s.line := h.reports.line
theorem Frees.sheet {s u : State} (h : Frees s u) : u.sh.sheet = s.sh.sheet := by rw [h.reports.sheets]

/-! ### The queues of a link that goes down -/

theorem Gives.queues {s u : State} (h : Gives s u) : u.cab.queues = s.cab.queues := by rw [h.cab]
theorem Gives.egress {s u : State} (h : Gives s u) : u.cab.egress = s.cab.egress := by rw [h.cab]

/-- One queue's copies are given up. -/
def discardQueue (k : Nat) (s : State) (q : Nat) : State :=
  (queueOf s k q).foldl (fun b c => dropCopy c (count .queue (queueKey k q) 4 1 b)) (setQueue k q [] s)

theorem discardQueue_gives (k q : Nat) (s : State) : Gives (setQueue k q [] s) (discardQueue k s q) :=
  .foldl (fun b c => (count_gives _ _ _ _ b).trans (dropCopy_gives c _)) _ _

/-- Discarding queues empties them and leaves the others, what is being sent, and the flags. -/
theorem discardQueues_of_list (k : Nat) (qs : List Nat) (s : State) :
    (∀ key, tabGet [] (qs.foldl (discardQueue k) s).cab.queues key =
      if ∃ q ∈ qs, key = queueKey k q then [] else tabGet [] s.cab.queues key) ∧
    (qs.foldl (discardQueue k) s).cab.egress = s.cab.egress ∧ FlagsStand s (qs.foldl (discardQueue k) s) := by
  induction qs generalizing s with
  | nil => exact ⟨fun key => by simp, rfl, .refl s⟩
  | cons q qs ih =>
    obtain ⟨queues, egress, flags⟩ := ih (discardQueue k s q)
    have g := discardQueue_gives k q s
    rw [List.foldl_cons]
    refine ⟨fun key => ?_, egress.trans g.egress, .trans (.trans (.of_eq rfl) g.flags) flags⟩
    rw [queues, g.queues]
    by_cases e : key = queueKey k q
    · have emptied : tabGet [] (setQueue k q [] s).cab.queues key = [] := by rw [e]; exact tabGet_set_self _ _ _ _
      rw [emptied, ite_self, if_pos ⟨q, List.mem_cons_self, e⟩]
    · have kept : tabGet [] (setQueue k q [] s).cab.queues key = tabGet [] s.cab.queues key := tabGet_set_of_ne _ _ _ e
      rw [kept]
      refine ite_congr (propext ?_) (fun _ => rfl) fun _ => rfl
      simp [e]

theorem queueKey_inj {k j q r : Nat} (hq : q < 8) (hr : r < 8) : queueKey k q = queueKey j r ↔ k = j ∧ q = r := by
  unfold queueKey
  omega

theorem discardQueues_eq (k : Nat) (s : State) : discardQueues k s = (List.range 8).foldl (discardQueue k) s := by
  unfold discardQueues discardQueue
  rfl

theorem queueOf_discardQueues {j q : Nat} (k : Nat) (s : State) (hq : q < 8) :
    queueOf (discardQueues k s) j q = if j = k then [] else queueOf s j q := by
  obtain ⟨queues, -, -⟩ := discardQueues_of_list k (List.range 8) s
  rw [queueOf, discardQueues_eq, queues]
  refine ite_congr (propext ⟨?_, ?_⟩) (fun _ => rfl) fun _ => rfl
  · rintro ⟨r, hr, e⟩
    exact ((queueKey_inj hq (List.mem_range.mp hr)).mp e).1
  · rintro rfl
    exact ⟨q, List.mem_range.mpr hq, rfl⟩

theorem discardQueues_egress (k : Nat) (s : State) : (discardQueues k s).cab.egress = s.cab.egress := by
  obtain ⟨-, egress, -⟩ := discardQueues_of_list k (List.range 8) s
  rw [discardQueues_eq, egress]

theorem discardQueues_flagsStand (k : Nat) (s : State) : FlagsStand s (discardQueues k s) := by
  obtain ⟨-, -, flags⟩ := discardQueues_of_list k (List.range 8) s
  rw [discardQueues_eq]
  exact flags

/-- The state in which the queues of a link that goes down are discarded. -/
def linkFalls (k : Nat) (s : State) : State :=
  { updSub k (fun x => { x with linkUp := false, trained := false, paused := [], xoffSent := 0, refreshDue := false }) s with
    cab := { s.cab with egress := tabUpd {} s.cab.egress k (fun g => { g with
      sending := g.sending.map (fun f => { f with counted := false }) }) } }

theorem linkDown_of_up {k : Nat} {s : State} (up : (subOf s k).linkUp = true) :
    linkDown k s = discardQueues k (raise (64 + k / 8) [(k % 8, 8), (0, 8)] (linkFalls k s)) := by
  have go : ¬ (!(subOf s k).linkUp) = true := by rw [up]; exact Bool.false_ne_true
  rw [linkDown, if_neg go]
  rfl

theorem linkDown_flagsStand (k : Nat) (s : State) : FlagsStand s (linkDown k s) := by
  by_cases up : (subOf s k).linkUp = true
  · have falls : FlagsStand s (linkFalls k s) := .of_eq rfl
    rw [linkDown_of_up up]
    exact (falls.trans (raise_flagsStand _ _ _)).trans (discardQueues_flagsStand _ _)
  · have stays : linkDown k s = s := if_pos (by simpa using up)
    rw [stays]
    exact .refl s

theorem linksDown_flagsStand (p : Nat) (l : List Nat) (s : State) : FlagsStand s (linksDown p l s) := by
  induction l generalizing s with
  | nil => exact .refl s
  | cons i l ih => exact (linkDown_flagsStand _ s).trans (ih _)

theorem sending_map_id (g : Egress) : g = { g with sending := g.sending.map (fun f => { f with counted := f.counted }) } := by
  obtain ⟨_, _, _ | _⟩ := g <;> rfl

theorem linkFalls_egress (k j : Nat) (s : State) : tabGet {} (linkFalls k s).cab.egress j = { tabGet {} s.cab.egress j with
    sending := (tabGet {} s.cab.egress j).sending.map (fun f => { f with counted := f.counted && j != k }) } := by
  have upd : (linkFalls k s).cab.egress = tabUpd {} s.cab.egress k (fun g => { g with
      sending := g.sending.map (fun f => { f with counted := false }) }) := rfl
  rw [upd]
  by_cases e : j = k
  · have never : (j != k) = false := by rw [e, bne_self_eq_false]
    simp only [never, Bool.and_false]
    rw [e]
    exact tabGet_upd_self {} s.cab.egress k _
  · have always : (j != k) = true := bne_iff_ne.mpr e
    simp only [always, Bool.and_true]
    refine (tabGet_upd_of_ne {} s.cab.egress _ e).trans ?_
    exact sending_map_id _

/-- A link goes down (R219, R222): its registers are cleared, its queues emptied, the frame it sends counts no more. -/
theorem linkDown_clears {k : Nat} {s : State} (up : (subOf s k).linkUp = true) : subOf (linkDown k s) k = { subOf s k with
      linkUp := false, trained := false, paused := [], xoffSent := 0, refreshDue := false } ∧ (∀ q < 8, queueOf (linkDown k s) k q = []) ∧
      (∀ j q, j ≠ k → q < 8 → queueOf (linkDown k s) j q = queueOf s j q) ∧ (∀ j, j ≠ k → subOf (linkDown k s) j = subOf s j) ∧
      (∀ j, tabGet {} (linkDown k s).cab.egress j = { tabGet {} s.cab.egress j with
        sending := (tabGet {} s.cab.egress j).sending.map (fun f => { f with counted := f.counted && j != k }) }) ∧
      (linkDown k s).line.ports = s.line.ports ∧ (linkDown k s).sh.sheet = s.sh.sheet := by
  have r := raise_reports (64 + k / 8) [(k % 8, 8), (0, 8)] (linkFalls k s)
  have f := discardQueues_frees k (raise (64 + k / 8) [(k % 8, 8), (0, 8)] (linkFalls k s))
  have queues (j q : Nat) : queueOf (raise (64 + k / 8) [(k % 8, 8), (0, 8)] (linkFalls k s)) j q = queueOf s j q := by
    rw [queueOf, r.cab]
    rfl
  rw [← linkDown_of_up up] at f
  refine ⟨?_, fun q hq => ?_, fun j q hj hq => ?_, fun j hj => subOf_linkDown_of_ne s hj, fun j => ?_, ?_, ?_⟩
  · rw [subOf_linkDown_self, subDown, if_pos up]
  · rw [linkDown_of_up up, queueOf_discardQueues k _ hq, if_pos rfl]
  · rw [linkDown_of_up up, queueOf_discardQueues k _ hq, if_neg hj, queues]
  · rw [linkDown_of_up up, discardQueues_egress, r.cab, linkFalls_egress]
  · rw [f.line, r.line]
    rfl
  · rw [f.sheet, r.sheets]
    rfl

/-! ### Lanes -/

theorem laneLost_loses {s : State} {port : BitVec 2} {lane : BitVec 3} (on : (portOf s port.toNat).enabled = true)
    (lock : (portOf s port.toNat).lock.getLsbD lane.toNat = true) {i : Nat} (hi : i < 8)
    (uses : usesLane (portOf s port.toNat) i lane.toNat = true) : ∃ t, exec (.laneLost port lane) s = .next t ∧
      portOf t port.toNat = { portOf s port.toNat with
        lock := (portOf s port.toNat).lock &&& ~~~ BitVec.ofNat 8 (2 ^ lane.toNat)
        lost := (portOf s port.toNat).lost ||| BitVec.ofNat 8 (2 ^ lane.toNat) } ∧
      (subOf t (8 * port.toNat + i)).linkUp = false ∧ (flagReg t 0x600).getLsbD 11 = true := by
  have used : (List.range 8).any (fun i => usesLane (portOf s port.toNat) i lane.toNat) = true :=
    List.any_eq_true.mpr ⟨i, List.mem_range.mpr hi, uses⟩
  have go : ¬ (!(portOf s port.toNat).enabled || !(portOf s port.toNat).lock.getLsbD lane.toNat ||
      !(List.range 8).any (fun i => usesLane (portOf s port.toNat) i lane.toNat)) = true := by
    rw [on, lock, used]
    exact Bool.false_ne_true
  obtain ⟨x, hx⟩ : ∃ x, x = { portOf s port.toNat with
    lock := (portOf s port.toNat).lock &&& ~~~ BitVec.ofNat 8 (2 ^ lane.toNat)
    lost := (portOf s port.toNat).lost ||| BitVec.ofNat 8 (2 ^ lane.toNat) } := ⟨_, rfl⟩
  obtain ⟨u, hu⟩ : ∃ u, u = raise 493 [(port.toNat, 8), (lane.toNat, 8)] (setFlag 0x600 11 (setPort port.toNat x s)) := ⟨_, rfl⟩
  have r : Reports (setPort port.toNat x s) u := hu ▸ (setFlag_reports _ _ _).trans (raise_reports _ _ _)
  have flag : (flagReg u 0x600).getLsbD 11 = true := hu ▸ raise_flagsStand _ _ _ _ _ (setFlag_sets _ (by decide) _)
  have e : exec (.laneLost port lane) s =
      .next (linksDown port.toNat ((List.range 8).filter (fun i => usesLane (portOf s port.toNat) i lane.toNat)) u) := by
    rw [hu, hx]
    exact congrArg Host.Outcome.next (if_neg go)
  obtain ⟨-, ports, subs⟩ :=
    linksDown_frame port.toNat ((List.range 8).filter (fun i => usesLane (portOf s port.toNat) i lane.toNat)) u
  refine ⟨_, e, ?_, ?_, linksDown_flagsStand _ _ _ _ _ flag⟩
  · rw [ports, portOf, r.line, ← hx]
    exact portOf_setPort_self _ _ _
  · rw [subs, if_pos ⟨i, List.mem_filter.mpr ⟨List.mem_range.mpr hi, uses⟩, rfl⟩, subDown_linkUp]

/-! ### Pins -/

/-- A stamp lies within the deviation of its edge. -/
theorem stampWithin_near (b : Nat) (t : BallTime) (j : Nat) (room : 1 ≤ b) : ∃ d : Int, -b ≤ d ∧ d ≤ b ∧ stampWithin b t j = t.ns + d := by
  have up := b2n_lt_two t.part
  have low : j % (2 * b + 1 - b2n t.part) < 2 * b + 1 - b2n t.part := Nat.mod_lt _ (by omega)
  refine ⟨b2n t.part - b + ((j % (2 * b + 1 - b2n t.part) : Nat) : Int), by omega, by omega, ?_⟩
  rw [stampWithin]
  omega

theorem updPtp_reports_drawFree (f : PtpClock → PtpClock) (s : State) : Reports (updPtp f s) (updPtp f (drawFree s)) :=
  { drawFree_reports s with line := rfl }

/-- PPS_CONFIG: the level of an output that ends is open (log entry 2). -/
theorem ppsConfig_sets {s : State} {m : BitVec 4} (room : completionRoom s = true) (h : Accepted ppsConfig m s) :
    ∃ level, (par s m 0 1 = 1 → level = (s.line.ptp.outEnable && s.line.ptp.ppsOut)) ∧
        (par s m 0 1 = 0 → s.line.ptp.outEnable = false → level = s.line.ptp.ppsOut) ∧
        Effect (exec (.ppsConfig m) s) m s (updPtp (fun c => { c with outEnable := par s m 0 1 == 1, inEnable := par s m 1 1 == 1
                                                                      ppsWidth := BitVec.ofNat 16 (par s m 2 2), ppsOut := level })) [] := by
  obtain ⟨g, hg⟩ : ∃ g : Bool → PtpClock → PtpClock, g = fun level c => { c with
    outEnable := par s m 0 1 == 1, inEnable := par s m 1 1 == 1, ppsWidth := BitVec.ofNat 16 (par s m 2 2), ppsOut := level } := ⟨_, rfl⟩
  obtain ⟨level, hl⟩ : ∃ level, level = if par s m 0 1 == 1 then s.line.ptp.outEnable && s.line.ptp.ppsOut
    else if s.line.ptp.outEnable then natBit (freeNow (startCmd m.toNat s)) 0 else s.line.ptp.ppsOut := ⟨_, rfl⟩
  have e : Effect (exec (.ppsConfig m) s) m s
      (fun a => updPtp (g level) (if s.line.ptp.outEnable && !(par s m 0 1 == 1) then drawFree a else a)) [] :=
    effect_of_state h (by rw [hl, hg]; rfl) room (.of_host (by split <;> rfl))
  refine ⟨level, fun on => ?_, fun off idle => ?_, ?_⟩
  · rw [hl, on]
    rfl
  · rw [hl, off, idle]
    rfl
  · rw [hg] at e
    refine e.weaken ?_
    dsimp only
    split
    · exact updPtp_reports_drawFree _ _
    · exact .refl _

/-- CLOCK_REF_SELECT: whether the clock locks to a new input at once is open (R97, R98). -/
theorem clockRefSelect_selects {s : State} {m : BitVec 4} (room : completionRoom s = true) (h : Accepted clockRefSelect m s) :
    ∃ locked, (par s m 0 1 = 0 → locked = (s.line.ptp.locked || s.line.ptp.ref10)) ∧
        (s.line.ptp.ref10 = true → par s m 0 1 = 1 → locked = s.line.ptp.locked) ∧
        (s.line.ptp.ref10 = false → par s m 0 1 = 1 → s.line.ptp.refIn = false → locked = false) ∧
        Effect (exec (.clockRefSelect m) s) m s (updPtp (fun c => { c with ref10 := par s m 0 1 == 1, locked := locked })) [] := by
  by_cases same : (par s m 0 1 == 1) = s.line.ptp.ref10
  · refine ⟨s.line.ptp.locked, fun off => ?_, fun _ _ => rfl, fun ten on => ?_, ?_⟩
    · rw [← same, off]
      exact (Bool.or_false _).symm
    · rw [← same, on] at ten
      cases ten
    · have stands : updPtp (fun c => { c with ref10 := par s m 0 1 == 1, locked := s.line.ptp.locked }) (startCmd m.toNat s) =
          startCmd m.toNat s := by
        rw [updPtp, same]
        rfl
      refine Effect.weaken (effect_of_state (f := id) h (congrArg (fun r => okCmd r) (if_pos (beq_iff_eq.mpr same))) room (.refl _)) ?_
      rw [stands]
      exact .refl _
  · have other : ¬ ((par s m 0 1 == 1) == s.line.ptp.ref10) = true := mt beq_iff_eq.mp same
    by_cases ten : par s m 0 1 = 1
    · have was : s.line.ptp.ref10 = false := by
        rw [ten] at same
        exact eq_false_of_ne_true fun e => same e.symm
      refine ⟨s.line.ptp.refIn && natBit (freeNow (startCmd m.toNat s)) 0, fun off => by omega, fun e => ?_, fun _ _ out => ?_, ?_⟩
      · rw [was] at e
        cases e
      · rw [out, Bool.false_and]
      · refine Effect.weaken (effect_of_state (f := fun a => updPtp (fun c => { c with
            ref10 := true, locked := s.line.ptp.refIn && natBit (freeNow (startCmd m.toNat s)) 0 }) (drawFree a)) h
          (congrArg (fun r => okCmd r) ((if_neg other).trans (if_pos (beq_iff_eq.mpr ten)))) room (.of_host rfl)) ?_
        rw [ten]
        exact updPtp_reports_drawFree _ _
    · have off : (par s m 0 1 == 1) = false := beq_eq_false_iff_ne.mpr ten
      have was : s.line.ptp.ref10 = true := by
        rw [off] at same
        exact eq_true_of_ne_false fun e => same e.symm
      refine ⟨true, fun _ => by rw [was, Bool.or_true], fun _ on => absurd on ten, fun e => ?_, ?_⟩
      · rw [was] at e
        cases e
      · rw [off]
        exact effect_of_state h (congrArg (fun r => okCmd r) ((if_neg other).trans (if_neg (ne_true_of_eq_false off)))) room (.of_host rfl)

/-- Settles O10: links, lanes and pins, each through its lemma above. -/
theorem linksAndPinsTakeEffect : Obligations.LinksAndPinsTakeEffect := by
  unfold Obligations.LinksAndPinsTakeEffect
  intro s sub port lane
  refine ⟨fun down intact => ?_, fun up => ⟨_, rfl, linkDown_clears up⟩, fun down trained => ?_,
    fun on lock i hi uses => laneLost_loses on lock hi uses, fun on lost => ?_, fun on jitter => ?_, fun on level => ?_,
    fun present => ⟨fun ten => ?_, fun other => ?_⟩, fun absent => ⟨fun ten => ?_, fun other => ?_⟩,
    fun m room => ⟨ppsConfig_sets room, clockRefSelect_selects room⟩⟩
  · have go : (linkDownIn s sub.toNat && ((portOf s (sub.toNat / 8)).lost &&& laneMask (subLanes (portOf s (sub.toNat / 8)) (sub.toNat % 8))) == 0)
        = true := by rw [down, intact]; rfl
    exact ⟨_, congrArg Host.Outcome.next (if_pos go), raise_reports _ _ _⟩
  · have go : (linkDownIn s sub.toNat && trains (portOf s (sub.toNat / 8))) = true := by rw [down, trained]; rfl
    exact congrArg Host.Outcome.next (if_pos go)
  · have go : ¬ (!(portOf s port.toNat).enabled || !(portOf s port.toNat).lost.getLsbD lane.toNat) = true := by
      rw [on, lost]
      exact Bool.false_ne_true
    exact ⟨_, congrArg Host.Outcome.next (if_neg go), raise_reports _ _ _⟩
  · obtain ⟨d, low, high, near⟩ := stampWithin_near 4
      { ns := (ptpUnits s.line.ptp / 2 ^ 32 : Nat), part := s.line.ptp.frac != 0 } jitter.toNat (by decide)
    refine ⟨d, low, high, _, congrArg Host.Outcome.next (if_pos on), ?_⟩
    have edge : updPtp (fun c => { c with ppsIn := ptpOfNs ((ptpUnits c / 2 ^ 32 : Nat) + d) }) s =
      updPtp (fun c => { c with ppsIn := ptpOfNs ((ptpUnits s.line.ptp / 2 ^ 32 : Nat) + d) }) s := updPtp_congr rfl
    dsimp only
    rw [near, edge]
    exact raise_reports 72 [] _
  · exact congrArg Host.Outcome.next (if_pos on)
  · have go : ¬ (!s.line.ptp.refIn) = true := by rw [present]; exact Bool.false_ne_true
    exact congrArg Host.Outcome.next ((if_neg go).trans (if_pos ten))
  · have go : ¬ (!s.line.ptp.refIn) = true := by rw [present]; exact Bool.false_ne_true
    exact congrArg Host.Outcome.next ((if_neg go).trans (if_neg (ne_true_of_eq_false other)))
  · have go : ¬ (!s.line.ptp.ref10) = true := by rw [ten]; exact Bool.false_ne_true
    have out : (!s.line.ptp.refIn) = true := by rw [absent]; rfl
    exact congrArg Host.Outcome.next ((if_neg go).trans (if_pos out))
  · have go : (!s.line.ptp.ref10) = true := by rw [other]; rfl
    exact congrArg Host.Outcome.next (if_pos go)

end Sys2Proof.Machine
end

section
/-!
PROOFS. Rules are written and frames arrive (O11).
-/
namespace Sys2Proof.Machine

/-! ### Rules and comparators -/

theorem pipeOf_updPipe_self (p : Nat) (f : Pipe → Pipe) (s : State) : pipeOf (updPipe p f s) p = f (pipeOf s p) := tabGet_set_self _ _ _ _

theorem ruleOf_setRule_self (p r : Nat) (x : Rule) (s : State) : ruleOf (setRule p r x s) p r = x := by
  rw [ruleOf, setRule, pipeOf_updPipe_self]
  exact tabGet_set_self _ _ _ _

theorem comparatorOf_setComparator_self (p n : Nat) (x : Comparator) (s : State) : comparatorOf (setComparator p n x s) p n = x := by
  rw [comparatorOf, setComparator, pipeOf_updPipe_self]
  exact tabGet_set_self _ _ _ _

theorem open_pipe {s : State} {pipe : BitVec 3} (host : hostOpen s = true) (lt : pipe.toNat < 5) :
    (hostOpen s && decide (pipe.toNat < 5)) = true := by rw [host, decide_eq_true lt]; rfl

theorem ruleValidWrite_writes {s : State} {pipe : BitVec 3} {rule : BitVec 13} {v : BitVec 32} (host : hostOpen s = true)
    (lt : pipe.toNat < 5) : ∃ t, exec (.ruleValidWrite pipe rule v) s = .next t ∧
      (v.getLsbD 0 = true → (ruleOf t pipe.toNat rule.toNat).active = (ruleOf s pipe.toNat rule.toNat).staging ∧
        (ruleOf t pipe.toNat rule.toNat).valid = true) ∧
      (v.getLsbD 0 = false → (ruleOf t pipe.toNat rule.toNat).valid = false) ∧ t.sh = s.sh ∧ t.host = s.host ∧ t.cab = s.cab := by
  refine ⟨ruleControl pipe.toNat rule.toNat (v.getLsbD 0) s, congrArg Host.Outcome.next (if_pos (open_pipe host lt)),
    fun on => ?_, fun off => ?_, rfl, rfl, rfl⟩
  · rw [ruleControl, ruleOf_setRule_self, if_pos on]
    exact ⟨rfl, rfl⟩
  · rw [ruleControl, ruleOf_setRule_self, if_neg (ne_true_of_eq_false off)]

theorem comparatorValidWrite_writes {s : State} {pipe : BitVec 3} {n : BitVec 8} {v : BitVec 32} (host : hostOpen s = true)
    (lt : pipe.toNat < 5) : ∃ t, exec (.comparatorValidWrite pipe n v) s = .next t ∧
      (v.getLsbD 31 = true → (comparatorOf t pipe.toNat n.toNat).active = (comparatorOf s pipe.toNat n.toNat).staging ∧
        (comparatorOf t pipe.toNat n.toNat).field = BitVec.ofNat 5 v.toNat ∧ (comparatorOf t pipe.toNat n.toNat).valid = true) ∧
      (v.getLsbD 31 = false → (comparatorOf t pipe.toNat n.toNat).valid = false) ∧ t.sh = s.sh ∧ t.host = s.host ∧ t.cab = s.cab := by
  refine ⟨comparatorControl pipe.toNat n.toNat v.toNat s, congrArg Host.Outcome.next (if_pos (open_pipe host lt)),
    fun on => ?_, fun off => ?_, rfl, rfl, rfl⟩
  · rw [comparatorControl, comparatorOf_setComparator_self, if_pos (natBit_toNat v 31 ▸ on)]
    exact ⟨rfl, rfl, rfl⟩
  · rw [comparatorControl, comparatorOf_setComparator_self, if_neg (ne_true_of_eq_false (natBit_toNat v 31 ▸ off))]

/-! ### Pauses -/

/-- The pauses that a PFC frame sets, one priority after the other. -/
def pauses (quanta : List (BitVec 16)) (ps : List Nat) (t : Tab (BitVec 16)) : Tab (BitVec 16) :=
  ps.foldl (fun t p => if quanta.getD p 0 = 0 then tabErase t p else tabPut t p (quanta.getD p 0)) t

theorem tabFind_pauses_of_not_mem (quanta : List (BitVec 16)) {ps : List Nat} {p : Nat} (h : p ∉ ps) (t : Tab (BitVec 16)) :
    tabFind (pauses quanta ps t) p = tabFind t p := by
  induction ps generalizing t with
  | nil => rfl
  | cons q ps ih =>
    have ne : p ≠ q := fun e => h (e ▸ List.mem_cons_self)
    refine (ih (fun m => h (List.mem_cons_of_mem _ m)) _).trans ?_
    dsimp only
    split
    · rw [tabFind_erase, if_neg ne]
    · rw [tabFind_put_of_ne _ _ ne]

theorem tabFind_pauses {quanta : List (BitVec 16)} {ps : List Nat} {p : Nat} (nd : ps.Nodup) (h : p ∈ ps) (some : quanta.getD p 0 ≠ 0)
    (t : Tab (BitVec 16)) : tabFind (pauses quanta ps t) p = .some (quanta.getD p 0) := by
  induction ps generalizing t with
  | nil => exact absurd h List.not_mem_nil
  | cons q ps ih =>
    obtain ⟨out, nd⟩ := List.nodup_cons.mp nd
    rcases List.mem_cons.mp h with rfl | h
    · refine (tabFind_pauses_of_not_mem quanta out _).trans ?_
      dsimp only
      rw [if_neg some, tabFind_put_self]
    · exact ih nd h _

theorem pauseFrom_eq (k : Nat) (enable : BitVec 8) (quanta : List (BitVec 16)) (s : State) : pauseFrom k enable quanta s =
    updSub k (fun x => { x with paused := pauses quanta (maskList 8 (enable &&& (pfcConf s k).enable).toNat) x.paused }) s := rfl

theorem pfcFrameReceive_pauses {s : State} {sub : BitVec 5} {enable : BitVec 8} {quanta : List (BitVec 16)} (len : quanta.length = 8)
    (rx : receives s sub.toNat = true) : ∃ t, exec (.pfcFrameReceive sub enable quanta) s = .next t ∧
        (∀ p < 8, (enable &&& (pfcConf s sub.toNat).enable).getLsbD p = true → quanta.getD p 0 ≠ 0 →
          tabFind (subOf t sub.toNat).paused p = some (quanta.getD p 0)) ∧
        (∀ k, k ≠ sub.toNat → subOf t k = subOf s k) ∧ t.line.ports = s.line.ports ∧ t.cab = s.cab ∧ t.host = s.host := by
  obtain ⟨a, ha⟩ : ∃ a, a = countMac sub.toNat 5 1 (countMac sub.toNat 1 64 (countMac sub.toNat 0 1 (noteTraffic s))) := ⟨_, rfl⟩
  have conf : pfcConf a sub.toNat = pfcConf s sub.toNat := by rw [ha]; rfl
  have e : exec (.pfcFrameReceive sub enable quanta) s = .next (pauseFrom sub.toNat enable quanta a) := by
    rw [ha]
    exact (if_neg (Classical.not_not.mpr len)).trans (congrArg Host.Outcome.next (if_pos rx))
  refine ⟨_, e, fun p hp on some => ?_, fun k hk => ?_, by rw [ha]; rfl, by rw [ha]; rfl, by rw [ha]; rfl⟩
  · rw [pauseFrom_eq, subOf_updSub_self, conf]
    exact tabFind_pauses (maskList_nodup _ _) (mem_maskList.mpr ⟨hp, by rw [natBit_toNat]; exact on⟩) some _
  · rw [pauseFrom_eq, subOf_updSub_of_ne _ _ hk, ha]
    rfl

/-! ### Frames of a port -/

/-- A frame that FRAME_RECEIVE neither discards nor counts as bad (R86, R87, R89). -/
theorem frameReceive_counts {s : State} {sub : BitVec 5} {frame : List Byte} {errors : RxErrors} {jitter : BitVec 8}
    (rx : receives s sub.toNat = true) (a : State) (ha : a = noteFec sub.toNat errors (noteTraffic s)) :
      (frame.length < 64 → exec (.frameReceive sub frame errors jitter) s = .next (countMac sub.toNat 3 1 a)) ∧
      (64 ≤ frame.length → (portOf a (sub.toNat / 8)).maxFrame < frame.length →
        exec (.frameReceive sub frame errors jitter) s = .next (countMac sub.toNat 4 1 a)) ∧
      (64 ≤ frame.length → frame.length ≤ (portOf a (sub.toNat / 8)).maxFrame → fcsBad a sub.toNat frame errors = true →
        exec (.frameReceive sub frame errors jitter) s = .next (countMac sub.toNat 2 1 a)) ∧
      (64 ≤ frame.length → frame.length ≤ (portOf a (sub.toNat / 8)).maxFrame → fcsBad a sub.toNat frame errors = false →
        (beNat (bytesAt frame 12 2) = 0x8808 → exec (.frameReceive sub frame errors jitter) s = .next
          (macControl sub.toNat frame (countMac sub.toNat 1 frame.length (countMac sub.toNat 0 1 a)))) ∧
        (beNat (bytesAt frame 12 2) ≠ 0x8808 → ∃ rx, exec (.frameReceive sub frame errors jitter) s = .next (frameComes
          { pipe := sub.toNat / 8, port := sub.toNat / 8, sub := sub.toNat % 8, bytes := frame.take (frame.length - 4)
            fcs := frame.drop (frame.length - 4), rx := rx, cells := errors.cells.map (·.toNat) }
          (noteCellParity 0 (sub.toNat / 8) errors.cells.length (countMac sub.toNat 1 frame.length (countMac sub.toNat 0 1 a)))))) := by
  subst ha
  have go : ¬ (!receives s sub.toNat) = true := by rw [rx]; exact Bool.false_ne_true
  refine ⟨fun short => congrArg Host.Outcome.next ((if_neg go).trans (if_pos short)), fun h1 long => ?_, fun h1 h2 bad => ?_,
    fun h1 h2 good => ⟨fun mac => ?_, fun data => ⟨rxStamp (countMac sub.toNat 1 frame.length (countMac sub.toNat 0 1
      (noteFec sub.toNat errors (noteTraffic s)))) sub.toNat frame.length jitter, ?_⟩⟩⟩
  · exact congrArg Host.Outcome.next ((if_neg go).trans ((if_neg (Nat.not_lt.mpr h1)).trans (if_pos long)))
  · exact congrArg Host.Outcome.next ((if_neg go).trans ((if_neg (Nat.not_lt.mpr h1)).trans ((if_neg (Nat.not_lt.mpr h2)).trans (if_pos bad))))
  · exact congrArg Host.Outcome.next ((if_neg go).trans ((if_neg (Nat.not_lt.mpr h1)).trans ((if_neg (Nat.not_lt.mpr h2)).trans
      ((if_neg (ne_true_of_eq_false good)).trans (if_pos mac)))))
  · refine congrArg Host.Outcome.next ((if_neg go).trans ((if_neg (Nat.not_lt.mpr h1)).trans ((if_neg (Nat.not_lt.mpr h2)).trans
      ((if_neg (ne_true_of_eq_false good)).trans ((if_neg data).trans ?_)))))
    rw [List.length_map]

/-! ### Injection rings -/

/-- A ring advances its head past the descriptor, and reports (R639). -/
theorem injAdvance_reports (r : Nat) (s : State) : ∃ n, Reports (setInj r { injOf s r with
    head := ((injOf s r).head + 1) % (injOf s r).entries, sinceWb := n } s) (injAdvance r s) :=
  ⟨_, .trans (.ite (hostWrite_reports _ _ _) (.refl _)) (markCause_reports _ _)⟩

theorem seenH_ok (s : State) : seenH s .ok = .ok := by
  unfold seenH dmaSeen
  exact ite_self _

theorem noteTlp_ok (src : Nat) (s : State) : noteTlp src .ok s = s := by
  rw [noteTlp, if_neg DmaResult.noConfusion, if_neg DmaResult.noConfusion]

theorem dmaDark_ok : dmaDark .ok = false := by decide

/-- INJECTION_FETCH of a descriptor and a frame that come whole (R639, R640). -/
theorem injectionFetch_whole {s : State} {r : Nat} (next : nextInj s = some r) (cells : List (BitVec 8)) {d : List Byte}
    (hd : d = hostRead s ((injOf s r).address.toNat + 16 * (injOf s r).head) 16) {u a : State}
    (hu : u = updHost (fun h => { h with injLast := r }) s)
    (ha : a = injAdvance r (count .host 0 10 1 (setInj r { injOf s r with
      frames := (injOf s r).frames + 1, bytes := (injOf s r).bytes + leAt d 8 2 } u))) :
    exec (.injectionFetch .ok .ok cells) s = .next (
      if leAt d 8 2 < 60 || 9212 < leAt d 8 2 || leAt d 10 6 ≠ 0 then injAdvance r (injBad r u)
      else frameComes
        { pipe := 4, port := 8, sub := 0, bytes := hostRead a (leAt d 0 8) (leAt d 8 2), fcs := [], rx := a.line.ptp.time
          cells := cells.map (·.toNat) } (noteCellParity 0 8 cells.length a)) := by
  have ring : injOf u r = injOf s r := by rw [hu]; rfl
  subst hd ha
  show execInjectionFetch .ok .ok cells s = _
  rw [execInjectionFetch, next]
  simp only [seenH_ok, ne_eq, not_true_eq_false, reduceCtorEq, if_false, noteTlp_ok, dmaDark_ok]
  rw [← hu, ring]

/-- A descriptor that is in order hands its frame to pipeline 4 (R639, R642). -/
theorem injectionFetch_takes {s : State} {r : Nat} {d : List Byte} (next : nextInj s = some r)
    (hd : d = hostRead s ((injOf s r).address.toNat + 16 * (injOf s r).head) 16) (long : 60 ≤ leAt d 8 2) (fits : leAt d 8 2 ≤ 9212)
    (zero : leAt d 10 6 = 0) (cells : List (BitVec 8)) : ∃ a, exec (.injectionFetch .ok .ok cells) s = .next (frameComes
        { pipe := 4, port := 8, sub := 0, bytes := hostRead a (leAt d 0 8) (leAt d 8 2), fcs := [], rx := s.line.ptp.time
          cells := cells.map (·.toNat) } (noteCellParity 0 8 cells.length a)) ∧
        (injOf a r).head = ((injOf s r).head + 1) % (injOf s r).entries ∧ (injOf a r).frames = (injOf s r).frames + 1 ∧
        (injOf a r).bytes = (injOf s r).bytes + leAt d 8 2 ∧ a.host.injLast = r := by
  obtain ⟨u, hu⟩ : ∃ u, u = updHost (fun h => { h with injLast := r }) s := ⟨_, rfl⟩
  obtain ⟨x, hx⟩ : ∃ x, x = { injOf s r with frames := (injOf s r).frames + 1, bytes := (injOf s r).bytes + leAt d 8 2 } := ⟨_, rfl⟩
  obtain ⟨a, ha⟩ : ∃ a, a = injAdvance r (count .host 0 10 1 (setInj r x u)) := ⟨_, rfl⟩
  obtain ⟨n, rep⟩ := injAdvance_reports r (count .host 0 10 1 (setInj r x u))
  rw [← ha] at rep
  have ring : injOf (count .host 0 10 1 (setInj r x u)) r = x := injOf_setInj_self _ _ _
  have taken : injOf a r = { x with head := (x.head + 1) % x.entries, sinceWb := n } := by
    rw [rep.injOf, injOf_setInj_self, ring]
  have line : a.line.ptp.time = s.line.ptp.time := by
    rw [rep.line, hu]
    rfl
  refine ⟨a, ?_, by rw [taken, hx], by rw [taken, hx], by rw [taken, hx], ?_⟩
  · have good : ¬ (leAt d 8 2 < 60 || 9212 < leAt d 8 2 || leAt d 10 6 ≠ 0) = true := by
      simp only [Bool.or_eq_true, decide_eq_true_eq]
      omega
    rw [injectionFetch_whole next cells hd hu (ha.trans (by rw [hx])), if_neg good, line]
  · rw [rep.host.injLast, hu]
    rfl

/-- A descriptor of a frame too short is skipped (R640). -/
theorem injectionFetch_skips {s : State} {r : Nat} {d : List Byte} (next : nextInj s = some r)
    (hd : d = hostRead s ((injOf s r).address.toNat + 16 * (injOf s r).head) 16) (short : leAt d 8 2 < 60) (cells : List (BitVec 8)) :
    exec (.injectionFetch .ok .ok cells) s = .next (injAdvance r (injBad r (updHost (fun h => { h with injLast := r }) s))) := by
  have bad : (leAt d 8 2 < 60 || 9212 < leAt d 8 2 || leAt d 10 6 ≠ 0) = true := by rw [decide_eq_true short]; rfl
  rw [injectionFetch_whole next cells hd rfl rfl, if_pos bad]

/-- Settles O11: rules, pauses, frames and injected frames, each through its lemma above. -/
theorem framesArrive : Obligations.FramesArrive := by
  unfold Obligations.FramesArrive
  intro s sub frame errors jitter
  refine ⟨fun _ _ _ host lt => ruleValidWrite_writes host lt, fun _ _ _ host lt => comparatorValidWrite_writes host lt,
    fun rx a ha => frameReceive_counts rx a ha, fun _ _ len rx => pfcFrameReceive_pauses len rx, fun _ _ len => if_pos len, fun _ => rfl,
    fun sent => congrArg Host.Outcome.next (if_neg sent), fun r d next hd =>
      ⟨fun long fits zero cells => injectionFetch_takes next hd long fits zero cells,
        fun short cells => injectionFetch_skips next hd short cells⟩⟩

end Sys2Proof.Machine
end

section
/-!
PROOFS. Cabinet commands 0x03xx (Table 3.14).
-/
namespace Sys2Proof.Machine

/-! ### CABINET_INIT -/

/-- A group whose rings hold all its cells (R210). -/
def filledGroup (x : Group) : Group :=
  { x with vatCache := [], spillCache := [], vatHead := 0, vatCount := x.cells, spillHead := 0, spillCount := x.spillCells, filled := true }

theorem fillRings_frame (g : Nat) (s : State) : groupOf (fillRings g s) g = filledGroup (groupOf s g) ∧
    (∀ k, k ≠ g → groupOf (fillRings g s) k = groupOf s k) ∧ (fillRings g s).host = s.host ∧
    (fillRings g s).cab = { s.cab with groups := (fillRings g s).cab.groups } := by
  obtain ⟨x, hx⟩ : ∃ x, x = groupOf s g := ⟨_, rfl⟩
  obtain ⟨u, hu⟩ : ∃ u, u = dramWrite 1 x.spillRing ((List.range x.spillCells).flatMap (fun i => ringEntry g i true)) false
    (dramWrite 1 x.vatRing ((List.range x.cells).flatMap (fun i => ringEntry g (x.firstCell + i) false)) false s) := ⟨_, rfl⟩
  have cab : u.cab = s.cab := by rw [hu, dramWrite_frame, dramWrite_frame]
  have host : u.host = s.host := by rw [hu, dramWrite_frame, dramWrite_frame]
  have e : fillRings g s = setGroup g (filledGroup x) u := by rw [hu, hx]; rfl
  rw [e]
  refine ⟨?_, fun k hk => ?_, host, congrArg (fun c : Cabinet => { c with groups := (setGroup g (filledGroup x) u).cab.groups }) cab⟩
  · rw [← hx]
    exact tabGet_set_self _ _ _ _
  · refine (tabGet_set_of_ne _ _ _ hk).trans ?_
    rw [cab]
    rfl

theorem fillRings_fold {l : List Nat} (nd : l.Nodup) (s : State) : (∀ g ∈ l, groupOf (l.foldl (fun a g => fillRings g a) s) g =
      filledGroup (groupOf s g)) ∧ (∀ g, g ∉ l → groupOf (l.foldl (fun a g => fillRings g a) s) g = groupOf s g) ∧
    (l.foldl (fun a g => fillRings g a) s).host = s.host ∧
    (l.foldl (fun a g => fillRings g a) s).cab = { s.cab with groups := (l.foldl (fun a g => fillRings g a) s).cab.groups } := by
  induction l generalizing s with
  | nil => exact ⟨fun g hg => absurd hg List.not_mem_nil, fun _ _ => rfl, rfl, rfl⟩
  | cons q l ih =>
    obtain ⟨out, nd⟩ := List.nodup_cons.mp nd
    obtain ⟨self, other, host, cab⟩ := fillRings_frame q s
    obtain ⟨filled, rest, hosts, cabs⟩ := ih nd (fillRings q s)
    rw [List.foldl_cons]
    refine ⟨fun g hg => ?_, fun g hg => ?_, hosts.trans host, by rw [cabs, cab]⟩
    · rcases List.mem_cons.mp hg with rfl | hg
      · rw [rest g out, self]
      · rw [filled g hg, other g fun e => out (e ▸ hg)]
    · rw [rest g fun m => hg (List.mem_cons_of_mem _ m), other g fun e => hg (e ▸ List.mem_cons_self)]

theorem cabinetInit_fills {s : State} {m : BitVec 4} (room : completionRoom s = true) (off : portsOff s = true)
    (h : Accepted cabinetInit m s) : Ends (exec (.cabinetInit m) s) m s (fun t => (∀ g < 8, groupOf t g = { groupOf s g with
        vatCache := [], spillCache := [], vatHead := 0, vatCount := (groupOf s g).cells, spillHead := 0
        spillCount := (groupOf s g).spillCells, filled := true }) ∧ t.cab.handles = s.cab.handles ∧ t.cab.queues = s.cab.queues) := by
  have go : ¬ (!portsOff (startCmd m.toNat s)) = true := by
    have : portsOff (startCmd m.toNat s) = true := off
    rw [this]
    exact Bool.false_ne_true
  obtain ⟨filled, -, host, cab⟩ := fillRings_fold (List.nodup_range (n := 8)) (startCmd m.toNat s)
  refine ends_of_body h (bs := []) (if_neg go) (Nat.zero_le _) room (.of_host host) fun t _ r => ?_
  refine ⟨fun g hg => ?_, ?_, ?_⟩
  · have := filled g (List.mem_range.mpr hg)
    rw [groupOf, r.cab]
    exact this
  · rw [r.cab, cab]
    rfl
  · rw [r.cab, cab]
    rfl

/-! ### The other commands -/

theorem unless_refused {c : Bool} {a b : CmdRes} (h : c = true) : (if !c then a else b) = b := by
  rw [h]
  rfl

theorem vatGroupConfig_configures {s : State} {m : BitVec 4} (room : completionRoom s = true) (off : portsOff s = true)
    (h : Accepted vatGroupConfig m s) : Effect (exec (.vatGroupConfig m) s) m s (setGroup (par s m 0 1) {
        firstCell := par s m 4 4, cells := par s m 8 4, spillCells := par s m 12 4, vatRing := par s m 16 8, spillRing := par s m 24 8
        spillBase := par s m 32 8, vatEntries := par s m 40 4, spillEntries := par s m 44 4 }) [] :=
  effect_of_state h (unless_refused off) room (.of_host rfl)

theorem drawerConfig_configures {s : State} {m : BitVec 4} (room : completionRoom s = true) (off : portsOff s = true)
    (h : Accepted drawerConfig m s) : Effect (exec (.drawerConfig m) s) m s (fun a => { a with cab := { a.cab with
        size := tabSet 0 a.cab.size (par s m 0 1) (par s m 4 4) } }) [] :=
  effect_of_state h (unless_refused off) room (.of_host rfl)

theorem ownerProfileLoad_loads {s : State} {m : BitVec 4} (room : completionRoom s = true) (h : Accepted ownerProfileLoad m s) :
    Loads (exec (.ownerProfileLoad m) s) m s 5 (par s m 1 1) (fun b => { b with
      owners := putEntries b.owners (par s m 0 1) ((List.range (par s m 1 1)).map (fun i =>
        ownerProfileAt (mbxPayload s m.toNat) (4 + 32 * i))) }) := by
  have put : putOwners (mbxPayload s m.toNat) = fun b => { b with
      owners := putEntries b.owners (par s m 0 1) ((List.range (par s m 1 1)).map (fun i =>
        ownerProfileAt (mbxPayload s m.toNat) (4 + 32 * i))) } := by
    funext b
    simp only [putOwners, loadOffs, List.map_map, leAt_payload]
    rfl
  rw [← put]
  exact loads_of_body h rfl room

theorem redProfileLoad_loads {s : State} {m : BitVec 4} (room : completionRoom s = true) (h : Accepted redProfileLoad m s) :
    Loads (exec (.redProfileLoad m) s) m s 5 (par s m 1 1) (fun b => { b with
      reds := putEntries b.reds (par s m 0 1) ((List.range (par s m 1 1)).map (fun i =>
        redProfileAt (mbxPayload s m.toNat) (4 + 32 * i))) }) := by
  refine loads_of_body h ?_ room
  simp only [bodyOf, redProfileLoad, okState, loadOffs, List.map_map, leAt_payload]
  rfl

theorem egressMapLoad_loads {s : State} {m : BitVec 4} (room : completionRoom s = true) (h : Accepted egressMapLoad m s) :
    Loads (exec (.egressMapLoad m) s) m s 16 (par s m 2 1) (fun b => { b with
      egress := putEntries b.egress (par s m 0 2) ((List.range (par s m 2 1)).map (fun i => BitVec.ofNat 64 (par s m (4 + 8 * i) 8))) }) := by
  refine loads_of_body h ?_ room
  simp only [bodyOf, egressMapLoad, okState, loadOffs, List.map_map, leAt_payload]
  rfl

theorem ownerStatus_returns {s : State} {m : BitVec 4} (room : completionRoom s = true) (h : Accepted ownerStatus m s) {x : OwnerUse}
    (hx : x = ownerUse s (par s m 0 1)) : Effect (exec (.ownerStatus m) s) m s id
      (layout [(x.vat, 4), (x.spill, 4), (x.headroom, 4), (x.avg, 4), (b2n (ownerXoff s (par s m 0 1)) + 2 * b2n x.budget, 1),
        (s.sh.furnish.toNat, 1)]) := by
  rw [← packNat_two_bits, hx]
  exact effect_of_reply h rfl (by simp [layout, leBytes_length]) room

theorem handleQuery_returns {s : State} {m : BitVec 4} (room : completionRoom s = true) (h : Accepted handleQuery m s)
    (live : staleHandle s (BitVec.ofNat 24 (par s m 0 4)) = false) {x : Handle}
    (hx : x = handleOf s (hIndex (BitVec.ofNat 24 (par s m 0 4)))) : Effect (exec (.handleQuery m) s) m s id
      (layout [(kindCode x.kind, 1), (x.owner.toNat, 1), (x.charge.toNat, 1), (x.pins, 1), (x.refs, 2), (x.cells.length, 1),
        (b2n x.spilled, 1)]) := by
  subst hx
  exact effect_of_reply h (if_neg (ne_true_of_eq_false live)) (by simp [layout, leBytes_length]) room

/-- Settles O12 (Table 3.14). -/
theorem cabinetCommandsTakeEffect : Obligations.CabinetCommandsTakeEffect := by
  unfold Obligations.CabinetCommandsTakeEffect
  intro s m room
  exact ⟨fun off => ⟨vatGroupConfig_configures room off, drawerConfig_configures room off, cabinetInit_fills room off⟩,
    fun h => effect_of_state h rfl room (.of_host rfl), ownerProfileLoad_loads room, redProfileLoad_loads room,
    fun h => loads_of_body h rfl room, egressMapLoad_loads room, fun h x hx => ownerStatus_returns room h hx,
    fun h => counters_read (x := fun p => leAt p 0 1) h rfl (by decide) room,
    fun h => counters_read (x := fun p => queueKey (8 * leAt p 0 1 + leAt p 1 1) (leAt p 2 1)) h rfl (by decide) room,
    fun h => effect_of_reply h rfl (by simp [layout, leBytes_length]) room,
    fun h => counters_read (x := fun _ => 0) h rfl (by decide) room, fun x h live hx => handleQuery_returns room h live hx⟩

end Sys2Proof.Machine
end

section
/-!
PROOFS. The Cabinet's own happenings (O14).
-/
namespace Sys2Proof.Machine

/-- What waits for no controller in self-refresh goes on at once (R561). -/
theorem whenAwake_awake {spans : List (Nat × Nat)} {f : State → State} {s : State}
    (awake : ∀ p ∈ spans, dramAsleep s p.1 p.2 = false) : whenAwake spans f s = f s := by
  refine if_neg fun h => ?_
  obtain ⟨p, hp, asleep⟩ := List.any_eq_true.mp h
  rw [awake p hp] at asleep
  cases asleep

/-! ### Free rings -/

/-- FREE_RING_REFILL while its ring's channels are awake (R208). -/
theorem freeRingRefill_awake {s : State} {g : BitVec 3} {spill : Bool} {n cnt part : Nat}
    (hn : n = if spill then (groupOf s g.toNat).spillCache.length else (groupOf s g.toNat).vatCache.length)
    (hc : cnt = if spill then (groupOf s g.toNat).spillCount else (groupOf s g.toNat).vatCount)
    (hp : part = if spill then 2048 else 6144)
    (awake : dramAsleep s (if spill then (groupOf s g.toNat).spillRing else (groupOf s g.toNat).vatRing)
      (4 * if spill then (groupOf s g.toNat).spillEntries else (groupOf s g.toNat).vatEntries) = false) :
    exec (.freeRingRefill g spill) s = .next (
      if decide (n < part / 4) && decide (0 < cnt) then ringRefill g.toNat spill s
      else if part / 4 * 3 < n then ringWriteBack g.toNat spill s
      else s) := by
  subst hn hc hp
  refine congrArg Host.Outcome.next (whenAwake_awake fun p hp => ?_)
  cases spill <;> · rw [List.mem_singleton.mp hp]; exact awake

theorem freeRingRefill_vat {s : State} {g : BitVec 3}
    (awake : dramAsleep s (groupOf s g.toNat).vatRing (4 * (groupOf s g.toNat).vatEntries) = false) :
    ((groupOf s g.toNat).vatCache.length < 1536 → 0 < (groupOf s g.toNat).vatCount →
      exec (.freeRingRefill g false) s = .next (ringRefill g.toNat false s)) ∧
      (4608 < (groupOf s g.toNat).vatCache.length → exec (.freeRingRefill g false) s = .next (ringWriteBack g.toNat false s)) := by
  have e := freeRingRefill_awake (s := s) (g := g) (spill := false) rfl rfl rfl awake
  refine ⟨fun low some => e.trans ?_, fun high => e.trans ?_⟩
  · refine congrArg Host.Outcome.next (if_pos ?_)
    rw [Bool.and_eq_true]
    exact ⟨decide_eq_true low, decide_eq_true some⟩
  · have many : ¬ (groupOf s g.toNat).vatCache.length < 6144 / 4 := by omega
    refine congrArg Host.Outcome.next ((if_neg fun h => ?_).trans (if_pos high))
    exact many (of_decide_eq_true ((Bool.and_eq_true _ _).mp h).1)

theorem freeRingRefill_spill {s : State} {g : BitVec 3}
    (awake : dramAsleep s (groupOf s g.toNat).spillRing (4 * (groupOf s g.toNat).spillEntries) = false) :
    ((groupOf s g.toNat).spillCache.length < 512 → 0 < (groupOf s g.toNat).spillCount →
      exec (.freeRingRefill g true) s = .next (ringRefill g.toNat true s)) ∧
      (1536 < (groupOf s g.toNat).spillCache.length → exec (.freeRingRefill g true) s = .next (ringWriteBack g.toNat true s)) := by
  have e := freeRingRefill_awake (s := s) (g := g) (spill := true) rfl rfl rfl awake
  refine ⟨fun low some => e.trans ?_, fun high => e.trans ?_⟩
  · refine congrArg Host.Outcome.next (if_pos ?_)
    rw [Bool.and_eq_true]
    exact ⟨decide_eq_true low, decide_eq_true some⟩
  · have many : ¬ (groupOf s g.toNat).spillCache.length < 2048 / 4 := by omega
    refine congrArg Host.Outcome.next ((if_neg fun h => ?_).trans (if_pos high))
    exact many (of_decide_eq_true ((Bool.and_eq_true _ _).mp h).1)

/-! ### Drawers -/

section
variable {s : State} {d : BitVec 6} {t : Nat} {l : List Nat} (waits : drawerWaiters s d.toNat = t :: l)
include waits

theorem drawerGrant_void (lost : stampLost s t = true) :
    exec (.drawerGrant d) s = .next (settle (voidStamp t (leaveDrawer d.toNat t s))) := by
  show execDrawerGrant d s = _
  rw [execDrawerGrant]
  simp only [waits, lost, if_true]

theorem drawerGrant_alloc {n : Nat} {op : CabOp} {gd : BitVec 5} {zf : BitVec 5} {w : Word36} {i : Nat} {r : State}
    (kept : stampLost s t = false) (stall : (thr s t).stall = .drawer d.toNat n (.alloc op gd zf) w)
    (gets : tryAlloc t (allocOwner op t) n s = (some i, r)) : exec (.drawerGrant d) s = .next
      (completeStalled t (putG gd ((handleWord r i).setWidth 36)) (leaveDrawer d.toNat t r)) := by
  show execDrawerGrant d s = _
  rw [execDrawerGrant]
  simp only [waits, kept, stall, gets, Bool.false_eq_true, if_false]

theorem drawerGrant_store {n : Nat} {gt ga : BitVec 5} {w mode : BitVec 2} {md : BitVec 16} {word : Word36} (kept : stampLost s t = false)
    (stall : (thr s t).stall = .drawer d.toNat n (.store gt ga w mode md) word) :
    exec (.drawerGrant d) s = .next (grantStore d.toNat t gt ga w mode md word s) := by
  show execDrawerGrant d s = _
  rw [execDrawerGrant]
  simp only [waits, kept, stall, Bool.false_eq_true, if_false]

end

/-! ### XOFF and budget mode -/

theorem ownerUse_setOwnerUse_self (o : Nat) (x : OwnerUse) (s : State) : ownerUse (setOwnerUse o x s) o = x := tabGet_set_self _ _ _ _
theorem ownerUse_setOwnerUse_of_ne {o p : Nat} (x : OwnerUse) (s : State) (h : p ≠ o) : ownerUse (setOwnerUse o x s) p = ownerUse s p :=
  tabGet_set_of_ne _ _ _ h

theorem returnCredits_cab (c : Nat) (s : State) : (returnCredits c s).cab = s.cab := by
  unfold returnCredits
  split <;> rfl

/-- The end of an owner's XOFF: what it leaves of the Cabinet. -/
theorem xoffRelease_cab {s : State} {o : BitVec 8} (on : (ownerUse s o.toNat).xoff = true)
    (low : (ownerUse s o.toNat).vat + (ownerUse s o.toNat).spill ≤ (ownerProf s.sh.cur o.toNat).xon.toNat) :
    ∃ t, exec (.xoffRelease o) s = .next t ∧ t.cab = (if exposureHold s o.toNat
      then setOwnerUse o.toNat { ownerUse s o.toNat with xoff := false } s
      else { setOwnerUse o.toNat { ownerUse s o.toNat with xoff := false } s with cab :=
        { (setOwnerUse o.toNat { ownerUse s o.toNat with xoff := false } s).cab with pfcOn := tabErase s.cab.pfcOn o.toNat } }).cab := by
  have go : ¬ (!(ownerUse s o.toNat).xoff ||
      decide ((ownerProf s.sh.cur o.toNat).xon.toNat < (ownerUse s o.toNat).vat + (ownerUse s o.toNat).spill)) = true := by
    rw [on, decide_eq_false (Nat.not_lt.mpr low)]
    exact Bool.false_ne_true
  refine ⟨_, congrArg Host.Outcome.next (if_neg go), ?_⟩
  dsimp only
  have hold : exposureHold (setOwnerUse o.toNat { ownerUse s o.toNat with xoff := false } s) o.toNat = exposureHold s o.toNat := rfl
  have raised (c : Prop) [Decidable c] (n : Nat) (u : State) : (if c then raise n [] u else u).cab = u.cab := by
    split
    · exact (raise_reports _ _ _).cab
    · rfl
  have credited (c : Prop) [Decidable c] (u : State) : (if c then returnCredits 5 u else u).cab = u.cab := by
    split
    · exact returnCredits_cab _ _
    · rfl
  rw [credited, raised, hold]
  rfl

theorem xoffRelease_releases {s : State} {o : BitVec 8} (on : (ownerUse s o.toNat).xoff = true)
    (low : (ownerUse s o.toNat).vat + (ownerUse s o.toNat).spill ≤ (ownerProf s.sh.cur o.toNat).xon.toNat) :
    ∃ t, exec (.xoffRelease o) s = .next t ∧ ownerUse t o.toNat = { ownerUse s o.toNat with xoff := false } ∧
      (exposureHold s o.toNat = false → tabFind t.cab.pfcOn o.toNat = none) ∧ t.cab.handles = s.cab.handles ∧
      t.cab.queues = s.cab.queues ∧ ∀ p, p ≠ o.toNat → ownerUse t p = ownerUse s p := by
  obtain ⟨t, e, cab⟩ := xoffRelease_cab on low
  refine ⟨t, e, ?_, fun held => ?_, ?_, ?_, fun p hp => ?_⟩
  · rw [ownerUse, cab]
    split <;> exact ownerUse_setOwnerUse_self _ _ _
  · rw [cab, if_neg (ne_true_of_eq_false held)]
    exact (tabFind_erase _ _ _).trans (if_pos rfl)
  · rw [cab]
    split <;> rfl
  · rw [cab]
    split <;> rfl
  · rw [ownerUse, cab]
    split <;> exact ownerUse_setOwnerUse_of_ne _ _ hp

theorem budgetModeEnd_ends {s : State} {o : BitVec 8} (on : (ownerUse s o.toNat).budget = true) (off : (ownerUse s o.toNat).xoff = false)
    (interval : s.sh.sheet.toNat % max 1 (ownerProf s.sh.cur o.toNat).budgetSheets.toNat = 0) :
    ∃ t, exec (.budgetModeEnd o) s = .next t ∧ ownerUse t o.toNat = { ownerUse s o.toNat with budget := false, drops := 0 } ∧
      tabFind t.cab.pfcBudget o.toNat = none ∧ t.cab.handles = s.cab.handles ∧ t.cab.queues = s.cab.queues := by
  have go : ¬ (!(ownerUse s o.toNat).budget || (ownerUse s o.toNat).xoff ||
      s.sh.sheet.toNat % max 1 (ownerProf s.sh.cur o.toNat).budgetSheets.toNat ≠ 0) = true := by
    rw [on, off, interval]
    exact Bool.false_ne_true
  refine ⟨_, congrArg Host.Outcome.next (if_neg go), ?_, (tabFind_erase _ _ _).trans (if_pos rfl), rfl, rfl⟩
  exact ownerUse_setOwnerUse_self o.toNat { ownerUse s o.toNat with budget := false, drops := 0 } s

/-! ### Exception rings -/

theorem exceptionCopyWrite_writes {s : State} {r : BitVec 4} {c : Copy} {w : List Copy} (waits : tabGet [] s.cab.exrWait r.toNat = c :: w)
    (space : exrFull s r.toNat = false) : exec (.exceptionCopyWrite r) s = .next (exrCopy r.toNat c
      { s with cab := { s.cab with exrWait := tabSet [] s.cab.exrWait r.toNat w } }) := by
  show execExceptionCopyWrite r s = _
  rw [execExceptionCopyWrite]
  simp only [waits, space, Bool.false_eq_true, if_false]

theorem exrResidue_discards {s : State} {r : BitVec 4} {c : Copy} {w : List Copy} (waits : tabGet [] s.cab.exrWait r.toNat = c :: w)
    (past : pastResidue s c = true) : Happens (exec (.exrResidue r) s) (dropCopy c { s with cab := { s.cab with
      exrWait := tabSet [] s.cab.exrWait r.toNat w } }) := by
  obtain ⟨u, hu⟩ : ∃ u, u = dropCopy c { s with cab := { s.cab with exrWait := tabSet [] s.cab.exrWait r.toNat w } } := ⟨_, rfl⟩
  have e : exec (.exrResidue r) s = .next (raise 37 [(r.toNat, 8)] (setFlag 0xC 6 (count .host 0 9 1 u))) := by
    show execExrResidue r s = _
    rw [execExrResidue, hu]
    simp only [waits, List.find?_cons_of_pos past, List.erase_cons_head]
  rw [← hu]
  exact ⟨_, e, ((count_reports _ _ _ _ _).trans (setFlag_reports _ _ _)).trans (raise_reports _ _ _)⟩

/-- Settles O14: each happening through its lemma above. -/
theorem cabinetHappenings : Obligations.CabinetHappenings := by
  unfold Obligations.CabinetHappenings
  intro s
  exact ⟨fun _ awake => freeRingRefill_vat awake, fun _ awake => freeRingRefill_spill awake,
    fun _ _ _ waits => ⟨drawerGrant_void waits, fun _ _ _ _ _ _ _ kept stall gets => drawerGrant_alloc waits kept stall gets,
      fun _ _ _ _ _ _ _ kept stall => drawerGrant_store waits kept stall⟩,
    fun _ on low => xoffRelease_releases on low, fun _ on off interval => budgetModeEnd_ends on off interval,
    fun _ _ _ waits => ⟨exceptionCopyWrite_writes waits, exrResidue_discards waits⟩⟩

end Sys2Proof.Machine
end

section
/-!
PROOFS. A command that ends with a status other than 0, and reads of memories that correct what they can.
-/
namespace Sys2Proof.Machine

/-- A command whose body answers with a status completes with it, and nothing but reporting follows. -/
theorem completes_with_status {c : CmdSpec} {m : BitVec 4} {s u : State} {st d : Nat} (h : Accepted c m s)
    (body : bodyOf c m s = { state := u, status := st, detail := d }) (room : completionRoom s = true) (ap : Apart (startCmd m.toNat s) u) :
    Completed m (BitVec.ofNat 8 st) s (runCmd c m s) ∧ Reports u (runCmd c m s) := by
  have hm : m.toNat < 16 := m.isLt
  obtain ⟨v, hv⟩ : ∃ v, v = countEnd st (writeResults m.toNat [] u) := ⟨_, rfl⟩
  have counted : v.host = (writeResults m.toNat [] u).host := by
    rw [hv, countEnd]
    split <;> rfl
  have roomV : completionRoom v = true := by
    have same : completionRoom v = completionRoom u := by
      unfold completionRoom ringFull
      rw [counted]
      rfl
    rw [same, ap.room]
    exact room
  obtain ⟨busy, done, status, tag, -, accepted⟩ :=
    reportEnd_self (c := { mbx := m.toNat, status := BitVec.ofNat 8 st, detail := BitVec.ofNat 32 d, resultLen := 0 }) hm v roomV
  have field : mbxField v m.toNat 2 2 = mbxField s m.toNat 2 2 := by
    have mbx : v.host.mbx = tabWrite 0 s.host.mbx (256 * m.toNat + 16) [] := by
      rw [counted, writeResults, ap.mbx]
      rfl
    simp only [mbxField, mbx]
    rw [tabRead_write_apart]
    exact .inl (by omega)
  have ran : runCmd c m s = sweepBad (reportEnd
      { mbx := m.toNat, status := BitVec.ofNat 8 st, detail := BitVec.ofNat 32 d, resultLen := 0 } v) := by
    rw [runCmd_accepted h, body, hv]
    rfl
  have gone : m.toNat ∉ (reportEnd
      { mbx := m.toNat, status := BitVec.ofNat 8 st, detail := BitVec.ofNat 32 d, resultLen := 0 } v).host.accepted := by
    rw [accepted, counted]
    show m.toNat ∉ u.host.accepted
    rw [ap.accepted]
    simp [startCmd]
  have o := sweepN_other hm 16 _ gone
  rw [ran]
  refine ⟨⟨o.busy.trans busy, o.done.trans done, o.status.trans status, (o.tag.trans tag).trans (by rw [field])⟩, ?_⟩
  have fin := finishCmd_reports m.toNat st d [] u
  have e : finishCmd m.toNat st d [] u = reportEnd
      { mbx := m.toNat, status := BitVec.ofNat 8 st, detail := BitVec.ofNat 32 d, resultLen := 0 } v := by
    rw [hv]
    rfl
  rw [e] at fin
  exact fin.trans (sweepBad_reports _)

/-! ### Reads that correct (R579, R583) -/

theorem bumpTotal_apart (off n : Nat) (s : State) : Apart s (bumpTotal off n s) := .of_host rfl

/-- What noting errors leaves: everything but the flags, the totals and what is reported. -/
structure Notes (s u : State) : Prop where
  reports : Reports { s with totals := u.totals } u
  apart : Apart s u
  flags : FlagsStand s u

theorem Notes.refl (s : State) : Notes s s := ⟨.refl s, .refl s, .refl s⟩

theorem Notes.trans {a b c : State} (h : Notes a b) (k : Notes b c) : Notes a c where
  reports :=
    { pending := k.reports.pending.trans h.reports.pending
      totals := rfl
      cntTot := k.reports.cntTot.trans h.reports.cntTot
      cntSheet := k.reports.cntSheet.trans h.reports.cntSheet
      failover := k.reports.failover.trans h.reports.failover
      sheets := k.reports.sheets.trans (congrArg (fun x : Sheets => { x with firstSeen := c.sh.firstSeen }) h.reports.sheets)
      line := k.reports.line.trans h.reports.line
      host := h.reports.host.trans k.reports.host
      cab := k.reports.cab.trans h.reports.cab
      disp := k.reports.disp.trans h.reports.disp
      cores := k.reports.cores.trans h.reports.cores
      dov := k.reports.dov.trans h.reports.dov
      lk := k.reports.lk.trans h.reports.lk
      cop := k.reports.cop.trans h.reports.cop
      dram := k.reports.dram.trans h.reports.dram
      ev := k.reports.ev.trans h.reports.ev
      sec := k.reports.sec.trans (congrArg (fun x : Secure => { x with trace := c.sec.trace }) h.reports.sec)
      pow := k.reports.pow.trans h.reports.pow }
  apart := h.apart.trans k.apart
  flags := h.flags.trans k.flags

theorem Notes.ite {c : Prop} [Decidable c] {s a b : State} (h : Notes s a) (k : Notes s b) : Notes s (if c then a else b) := by
  split <;> assumption

theorem Notes.foldl {β : Type} {f : State → β → State} (h : ∀ a b, Notes a (f a b)) (l : List β) (s : State) : Notes s (l.foldl f s) := by
  induction l generalizing s with
  | nil => exact .refl s
  | cons b l ih => exact (h s b).trans (ih _)

theorem Notes.of_reports {s u : State} (r : Reports s u) (a : Apart s u) (f : FlagsStand s u) : Notes s u := ⟨{ r with totals := rfl }, a, f⟩

theorem setFlag_notes (off bit : Nat) (s : State) : Notes s (setFlag off bit s) :=
  .of_reports (setFlag_reports _ _ _) (setFlag_apart _ _ _) (setFlag_flagsStand _ _ _)

theorem count_notes (sc : Scope) (x i n : Nat) (s : State) : Notes s (count sc x i n s) :=
  .of_reports (count_reports _ _ _ _ _) (count_apart _ _ _ _ _) (.of_eq rfl)

theorem raise_notes (src : Nat) (data : List (Nat × Nat)) (s : State) : Notes s (raise src data s) :=
  .of_reports (raise_reports _ _ _) (raise_apart _ _ _) (raise_flagsStand _ _ _)

theorem raiseFirst_notes (src key : Nat) (data : List (Nat × Nat)) (s : State) : Notes s (raiseFirst src key data s) :=
  .of_reports (raiseFirst_reports _ _ _ _) (raiseFirst_apart _ _ _ _) (raiseFirst_flagsStand _ _ _ _)

theorem bumpTotal_notes (off n : Nat) (s : State) : Notes s (bumpTotal off n s) := ⟨.refl _, .of_host rfl, .of_eq rfl⟩

theorem noteCorrected_notes (memory n : Nat) (s : State) : Notes s (noteCorrected memory n s) := by
  unfold noteCorrected
  exact .ite (.refl s) (((setFlag_notes _ _ s).trans (bumpTotal_notes _ _ _)).trans (raiseFirst_notes _ _ _ _))

section
variable {s u : State} (h : Notes s u)
include h

theorem Notes.line : u.line = s.line := h.reports.line
theorem Notes.cab : u.cab = s.cab := h.reports.cab
theorem Notes.disp : u.disp = s.disp := h.reports.disp
theorem Notes.cores : u.cores = s.cores := h.reports.cores
theorem Notes.dov : u.dov = s.dov := h.reports.dov
theorem Notes.dram : u.dram = s.dram := h.reports.dram

end

/-- A read of instruction memory changes the marks of the words it corrects alone. -/
theorem checkImem_notes (keys : List Nat) (s : State) : ∃ l, Notes { s with cores := { s.cores with imemWeak := l } } (checkImem keys s) := by
  unfold checkImem
  split
  · exact ⟨_, .refl s⟩
  · exact ⟨_, noteCorrected_notes _ _ _⟩

theorem checkImem_apart (keys : List Nat) (s : State) : Apart s (checkImem keys s) := by
  obtain ⟨l, h⟩ := checkImem_notes keys s
  exact .trans (b := { s with cores := { s.cores with imemWeak := l } }) (.of_host rfl) h.apart

/-- A read of data memory changes the marks of the words it corrects alone. -/
theorem checkDmem_notes (keys : List Nat) (s : State) : ∃ l, Notes { s with cores := { s.cores with dmemWeak := l } } (checkDmem keys s) := by
  unfold checkDmem
  split
  · exact ⟨_, .refl s⟩
  · exact ⟨_, noteCorrected_notes _ _ _⟩

theorem checkDmem_apart (keys : List Nat) (s : State) : Apart s (checkDmem keys s) := by
  obtain ⟨l, h⟩ := checkDmem_notes keys s
  exact .trans (b := { s with cores := { s.cores with dmemWeak := l } }) (.of_host rfl) h.apart

theorem dmemGet_checkDmem (keys : List Nat) (s : State) (core a : Nat) : dmemGet (checkDmem keys s) core a = dmemGet s core a := by
  obtain ⟨l, h⟩ := checkDmem_notes keys s
  rw [dmemGet, h.cores]
  rfl

/-- What a read of a context changes: the marks of its words and lines, and what is noted of them (R579, R583). -/
structure CtxReads (s u : State) : Prop where
  notes : Notes { s with disp := u.disp } u
  disp : u.disp = { s.disp with ctxWeak := u.disp.ctxWeak, ctxUe := u.disp.ctxUe, ctxPoison := u.disp.ctxPoison }

theorem CtxReads.refl (s : State) : CtxReads s s := ⟨.refl s, rfl⟩

/-- Notes are the same of a state in which another unit's part differs. -/
theorem Notes.withDisp {s u : State} (h : Notes s u) (d : Dispatch) : Notes { s with disp := d } { u with disp := d } :=
  ⟨{ h.reports with disp := rfl }, { h.apart with }, h.flags⟩

theorem CtxReads.trans {a b c : State} (h : CtxReads a b) (k : CtxReads b c) : CtxReads a c :=
  ⟨(h.notes.withDisp c.disp).trans k.notes, by rw [k.disp, h.disp]⟩

theorem CtxReads.foldl {β : Type} {f : State → β → State} (h : ∀ a b, CtxReads a (f a b)) (l : List β) (s : State) :
    CtxReads s (l.foldl f s) := by
  induction l generalizing s with
  | nil => exact .refl s
  | cons b l ih => exact (h s b).trans (ih _)

theorem CtxReads.of_notes {s u : State} {weak ue : List Nat} {poison : Tab Bool}
    (h : Notes { s with disp := { s.disp with ctxWeak := weak, ctxUe := ue, ctxPoison := poison } } u) : CtxReads s u := by
  have e := h.disp
  exact ⟨by rw [e]; exact h, by rw [e]⟩

theorem poisonCtxLine_reads (c l : Nat) (s : State) : CtxReads s (poisonCtxLine c l s) :=
  .of_notes (((setFlag_notes _ _ _).trans (bumpTotal_notes _ _ _)).trans (raise_notes _ _ _))

theorem checkCtx_reads (c off n : Nat) (s : State) : CtxReads s (checkCtx c off n s) := by
  unfold checkCtx
  split
  · exact .refl s
  · exact (CtxReads.of_notes (noteCorrected_notes _ _ _)).trans (.foldl (fun _ _ => poisonCtxLine_reads _ _ _) _ _)

theorem CtxReads.apart {s u : State} (h : CtxReads s u) : Apart s u := .trans (b := { s with disp := u.disp }) (.of_host rfl) h.notes.apart

theorem CtxReads.ctxRead {s u : State} (h : CtxReads s u) (c off n : Nat) : ctxRead u c off n = ctxRead s c off n := by
  unfold Machine.ctxRead residentCore
  rw [h.disp]

end Sys2Proof.Machine
end

section
/-!
PROOFS. Dispatch and program commands 0x04xx (Tables 4.11 and 5.21).
-/
namespace Sys2Proof.Machine

/-! ### Programs -/

theorem wordsOf_wordOffs (p : List Byte) (base : Nat) :
    wordsOf p (wordOffs p base) = (List.range (leAt p 1 1)).map (fun i => BitVec.ofNat 36 (leAt p (base + 5 * i) 5)) := by
  rw [wordsOf, wordOffs, List.map_map]
  rfl

theorem writeProgram_host (clusters addr : Nat) (ws : List Word36) (s : State) : (writeProgram clusters addr ws s).host = s.host :=
  foldl_leaves (·.host) (by intro _ _; rfl) _ _

theorem programWrite_writes {s : State} {m : BitVec 4} (room : completionRoom s = true) (h : Accepted programWrite m s) :
    Effect (exec (.programWrite m) s) m s (writeProgram (par s m 0 1) (par s m 2 2)
      ((List.range (par s m 1 1)).map (fun i => BitVec.ofNat 36 (par s m (8 + 5 * i) 5)))) [] := by
  have words := wordsOf_wordOffs (mbxPayload s m.toNat) 8
  refine effect_of_state h ?_ room (.of_host (writeProgram_host _ _ _ _))
  exact congrArg (fun ws => okCmd (writeProgram (par s m 0 1) (par s m 2 2) ws (startCmd m.toNat s))) words

/-- PROGRAM_LOAD_DMA of words that all fit in 36 bits. -/
theorem programLoadDma_loads {s : State} {m : BitVec 4} (room : completionRoom s = true) {bs : List Byte} (h : Accepted (programLoadDma .ok) m s)
    (master : s.host.busMaster = true) (hb : bs = hostRead s (par s m 8 8) (5 * par s m 4 4))
    (fits : ∀ i < par s m 4 4, leAt bs (5 * i) 5 < 2 ^ 36) : Effect (exec (.programLoadDma m .ok) s) m s
      (writeProgram (par s m 0 1) (par s m 2 2) ((List.range (par s m 4 4)).map (fun i => BitVec.ofNat 36 (leAt bs (5 * i) 5)))) [] := by
  have reads : ¬ (seenH (startCmd m.toNat s) .ok = .error || !(startCmd m.toNat s).host.busMaster) = true := by
    have on : (startCmd m.toNat s).host.busMaster = true := master
    rw [seenH_ok, on]
    decide
  have bright : ¬ dmaDark (seenH (startCmd m.toNat s) .ok) = true := by
    rw [seenH_ok]
    decide
  have small : ¬ ((List.range (par s m 4 4)).map (fun i => leAt bs (5 * i) 5)).any (fun w => decide (2 ^ 36 ≤ w)) = true := by
    intro bad
    obtain ⟨w, hw, big⟩ := List.any_eq_true.mp bad
    obtain ⟨i, hi, rfl⟩ := List.mem_map.mp hw
    exact Nat.not_lt.mpr (of_decide_eq_true big) (fits i (List.mem_range.mp hi))
  have words : ((List.range (par s m 4 4)).map (fun i => leAt bs (5 * i) 5)).map (BitVec.ofNat 36) =
      (List.range (par s m 4 4)).map (fun i => BitVec.ofNat 36 (leAt bs (5 * i) 5)) := by
    rw [List.map_map]
    rfl
  rw [← words]
  subst hb
  exact effect_of_state h ((if_neg reads).trans ((if_neg bright).trans (if_neg small))) room (.of_host (writeProgram_host _ _ _ _))

theorem programLoadDma_fails {s : State} {m : BitVec 4} (room : completionRoom s = true) (h : Accepted (programLoadDma .error) m s) :
    ∃ t, exec (.programLoadDma m .error) s = .next t ∧ Completed m 0x05 s t ∧ t.cores = s.cores := by
  have body : bodyOf (programLoadDma .error) m s = refuse (startCmd m.toNat s) 0x05 := rfl
  obtain ⟨done, r⟩ := completes_with_status h body room (.refl _)
  exact ⟨_, rfl, done, r.cores⟩

theorem par_in_range {c : CmdSpec} {m : BitVec 4} {s : State} {o n lo hi : Nat} (h : Accepted c m s)
    (hc : inRange (mbxPayload s m.toNat) o n lo hi ∈ c.checks (startCmd m.toNat s) (mbxPayload s m.toNat)) :
    lo ≤ par s m o n ∧ par s m o n ≤ hi := by
  have checked := h.checked _ hc
  simp only [inRange, Bool.and_eq_true, decide_eq_true_eq] at checked
  exact checked

theorem programRead_reads {s : State} {m : BitVec 4} (room : completionRoom s = true) (h : Accepted programRead m s) :
    Effect (exec (.programRead m) s) m s (checkImem ((List.range (par s m 1 1)).map (par s m 0 1 * 65536 + par s m 2 2 + ·)))
      ((tabRead 0 s.cores.imem (par s m 0 1 * 65536 + par s m 2 2) (par s m 1 1)).flatMap (fun w => leBytes 5 w.toNat)) := by
  have few := (par_in_range h (o := 1) (n := 1) (lo := 1) (hi := 46) (List.mem_cons_of_mem _ List.mem_cons_self)).2
  obtain ⟨l, notes⟩ := checkImem_notes ((List.range (par s m 1 1)).map (par s m 0 1 * 65536 + par s m 2 2 + ·)) (startCmd m.toNat s)
  have imem : (checkImem ((List.range (par s m 1 1)).map (par s m 0 1 * 65536 + par s m 2 2 + ·)) (startCmd m.toNat s)).cores.imem =
      s.cores.imem := by
    rw [notes.cores]
    rfl
  refine effect_of_apart h ?_ ?_ room (checkImem_apart _ _)
  · rw [← imem]
    rfl
  · simp only [List.length_flatMap, leBytes_length, List.map_const', List.sum_replicate_nat, tabRead, List.length_map, List.length_range]
    omega

/-! ### Tables -/

theorem loadBank_host (unit n : Nat) (f : Bank → Bank) (s : State) : (loadBank unit n f s).host = s.host := by
  unfold loadBank
  split <;> rfl

theorem entryLoad_loads {s : State} {m : BitVec 4} (room : completionRoom s = true) (h : Accepted entryLoad m s) :
    Effect (exec (.entryLoad m) s) m s (fun a => (maskList 8 (par s m 0 1)).foldl (fun a c =>
      loadBank (7 + c) (par s m 1 1) (fun b => { b with
        entries := putEntries b.entries (c * 256 + par s m 2 1) ((List.range (par s m 1 1)).map (fun i =>
          BitVec.ofNat 32 (par s m (4 + 4 * i) 4))) }) a) a) [] :=
  effect_of_state h rfl room (.of_host (foldl_leaves (·.host) (fun _ _ => loadBank_host _ _ _ _) _ _))

theorem windowConfig_configures {s : State} {m : BitVec 4} (room : completionRoom s = true) (h : Accepted windowConfig m s) :
    Effect (exec (.windowConfig m) s) m s (fun a => (maskList 8 (par s m 0 1)).foldl (fun a c =>
      { a with cores := { a.cores with windows := tabSet {} a.cores.windows (c * 16 + par s m 1 1) {
          enable := natBit (par s m 2 1) 0, read := natBit (par s m 2 1) 1, write := natBit (par s m 2 1) 2
          base := BitVec.ofNat 64 (par s m 4 8), pages := BitVec.ofNat 32 (par s m 12 4) } } }) a) [] :=
  effect_of_state h rfl room (.of_host (foldl_leaves (·.host) (by intro _ _; rfl) _ _))

theorem windowQuery_returns {s : State} {m : BitVec 4} (room : completionRoom s = true) {w : DramWindow} (h : Accepted windowQuery m s)
    (hw : w = tabGet {} s.cores.windows (par s m 0 1 * 16 + par s m 1 1)) : Effect (exec (.windowQuery m) s) m s id
      (layout [(b2n w.enable + 2 * b2n w.read + 4 * b2n w.write, 1), (0, 3), (w.base.toNat, 8), (w.pages.toNat, 4)]) := by
  rw [← packNat_three_bits, hw]
  exact effect_of_reply h rfl (by simp [layout, leBytes_length]) room

/-! ### Contexts -/

theorem renewCtx_reads (c off n : Nat) (s : State) : CtxReads s (renewCtx c off n s) := by
  have step (p : Prop) [Decidable p] (o : Nat) (a : State) : CtxReads a (if p then a else checkCtx c o 8 a) := by
    split
    · exact .refl a
    · exact checkCtx_reads _ _ _ a
  unfold renewCtx
  split
  · exact .refl s
  · exact ((step _ _ s).trans (step _ _ _)).trans (.of_notes (.refl _))

/-- Bytes written to a context are read back, and the mailboxes stand. -/
theorem ctxRead_ctxWrite (c off : Nat) (bs : List Byte) (s : State) :
    ctxRead (ctxWrite c off bs s) c off bs.length = bs ∧ Apart s (ctxWrite c off bs s) := by
  have renewed := renewCtx_reads c off bs.length s
  cases h : residentCore (renewCtx c off bs.length s) c with
  | none =>
    have here (poison : Tab Bool) : residentCore { renewCtx c off bs.length s with disp := { (renewCtx c off bs.length s).disp with
      ctxPoison := poison } } c = none := h
    unfold ctxWrite
    dsimp only
    rw [here]
    refine ⟨?_, renewed.apart.trans (.of_host rfl)⟩
    unfold ctxRead
    have there (poison : Tab Bool) (store : Tab Byte) : residentCore { renewCtx c off bs.length s with disp :=
      { (renewCtx c off bs.length s).disp with ctxPoison := poison, ctxStore := store } } c = none := h
    rw [there]
    exact tabRead_write _ _ _ _
  | some n =>
    have here (poison : Tab Bool) : residentCore { renewCtx c off bs.length s with disp := { (renewCtx c off bs.length s).disp with
      ctxPoison := poison } } c = some n := h
    unfold ctxWrite
    dsimp only
    rw [here]
    refine ⟨?_, renewed.apart.trans (.of_host rfl)⟩
    unfold ctxRead
    have there (poison : Tab Bool) (copy : Tab Byte) : residentCore { renewCtx c off bs.length s with disp :=
      { (renewCtx c off bs.length s).disp with ctxPoison := poison, ctxCopy := copy } } c = some n := h
    rw [there]
    exact tabRead_write _ _ _ _

theorem contextRead_reads {s : State} {m : BitVec 4} (room : completionRoom s = true) (h : Accepted contextRead m s) :
    Effect (exec (.contextRead m) s) m s (checkCtx (par s m 0 2) (128 * par s m 2 1) 128)
      (ctxRead s (par s m 0 2) (128 * par s m 2 1) 128) := by
  have reads := checkCtx_reads (par s m 0 2) (128 * par s m 2 1) 128 (startCmd m.toNat s)
  have bytes := reads.ctxRead (par s m 0 2) (128 * par s m 2 1) 128
  refine effect_of_apart h ?_ ?_ room reads.apart
  · exact congrArg (fun r => okCmd _ r) bytes
  · unfold ctxRead tabRead
    split <;> simp

theorem contextWrite_writes {s : State} {m : BitVec 4} (room : completionRoom s = true) (h : Accepted contextWrite m s)
    (idle : ctxInFlight s (BitVec.ofNat 14 (par s m 0 2)) = 0) : Ends (exec (.contextWrite m) s) m s (fun t =>
      ctxRead t (par s m 0 2) (128 * par s m 2 1) 128 = bytesAt (mbxPayload s m.toNat) 4 128) := by
  have free : ¬ 0 < ctxInFlight (startCmd m.toNat s) (BitVec.ofNat 14 (par s m 0 2)) := by
    have : ctxInFlight (startCmd m.toNat s) (BitVec.ofNat 14 (par s m 0 2)) = 0 := idle
    rw [this]
    exact Nat.lt_irrefl 0
  have len : (bytesAt (mbxPayload s m.toNat) 4 128).length = 128 := by
    have enough : 132 ≤ (mbxPayload s m.toNat).length := h.fixed_le
    rw [bytesAt, List.length_take, List.length_drop]
    omega
  obtain ⟨back, ap⟩ := ctxRead_ctxWrite (par s m 0 2) (128 * par s m 2 1) (bytesAt (mbxPayload s m.toNat) 4 128) (startCmd m.toNat s)
  rw [len] at back
  refine ends_of_body h (bs := []) (if_neg free) (Nat.zero_le _) room ap fun t _ r => ?_
  unfold ctxRead residentCore at back ⊢
  rw [r.disp]
  exact back

/-! ### Data memory -/

theorem dmemStore_host (core a : Nat) (vs : List Word36) (s : State) : (dmemStore core a vs s).host = s.host :=
  foldl_leaves (·.host) (by intro _ _; rfl) _ _

theorem dmemWrite_writes {s : State} {m : BitVec 4} (room : completionRoom s = true) (h : Accepted dmemWrite m s) :
    Effect (exec (.dmemWrite m) s) m s (dmemStore (par s m 0 1) (par s m 2 2)
      ((List.range (par s m 1 1)).map (fun i => BitVec.ofNat 36 (par s m (8 + 5 * i) 5)))) [] := by
  have words := wordsOf_wordOffs (mbxPayload s m.toNat) 8
  refine effect_of_state h ?_ room (.of_host (dmemStore_host _ _ _ _))
  exact congrArg (fun ws => okCmd (dmemStore (par s m 0 1) (par s m 2 2) ws (startCmd m.toNat s))) words

theorem dmemRead_reads {s : State} {m : BitVec 4} (room : completionRoom s = true) (h : Accepted dmemRead m s) :
    Effect (exec (.dmemRead m) s) m s (checkDmem ((List.range (par s m 1 1)).map (fun i => dmemKey (par s m 0 1) (par s m 2 2 + i))))
      ((List.range (par s m 1 1)).flatMap (fun i => leBytes 5 (dmemGet s (par s m 0 1) (par s m 2 2 + i)).toNat)) := by
  have few := (par_in_range h (o := 1) (n := 1) (lo := 1) (hi := 46) (List.mem_cons_of_mem _ List.mem_cons_self)).2
  refine effect_of_apart h ?_ ?_ room (checkDmem_apart _ _)
  · refine congrArg (fun r => okCmd _ r) ?_
    simp only [dmemGet_checkDmem]
    rfl
  · simp only [List.length_flatMap, leBytes_length, List.map_const', List.sum_replicate_nat, List.length_range]
    omega

/-- Settles O15 (Tables 4.11 and 5.21). -/
theorem dispatchCommandsTakeEffect : Obligations.DispatchCommandsTakeEffect := by
  unfold Obligations.DispatchCommandsTakeEffect
  intro s m room
  exact ⟨programWrite_writes room, fun bs h master hb fits => programLoadDma_loads room h master hb fits, programLoadDma_fails room,
    programRead_reads room, entryLoad_loads room, fun h => loads_of_body h rfl room, fun h => effect_of_state h rfl room (.of_host rfl),
    contextRead_reads room, contextWrite_writes room, fun h => counters_read (x := fun _ => 0) h rfl (by decide) room,
    windowConfig_configures room, fun w h hw => windowQuery_returns room h hw, dmemWrite_writes room, dmemRead_reads room⟩

end Sys2Proof.Machine
end

section
/-!
PROOFS. What the stores that drain and the reads that correct leave alone: `Drains` frames the drain of a store buffer, and the checks of
words on their way, by memory contents, marks and reports (R565, R579, R583).
-/
namespace Sys2Proof.Machine

/-- A handle keeps all but its bytes and the marks of its lines. -/
def Handle.SameBut (h k : Handle) : Prop := k = { h with data := k.data, poison := k.poison }

/-- Words are written, corrected or marked: threads, items, locks and handles stand otherwise. -/
structure Drains (s u : State) : Prop where
  reports : Reports { s with totals := u.totals, cab := u.cab, disp := u.disp, dram := u.dram } u
  cab : u.cab = { s.cab with handles := u.cab.handles, vatWeak := u.cab.vatWeak, vatBad := u.cab.vatBad }
  handles : ∀ i, (handleOf s i).SameBut (handleOf u i)
  disp : u.disp = { s.disp with ctxWeak := u.disp.ctxWeak, ctxUe := u.disp.ctxUe, ctxPoison := u.disp.ctxPoison, ctxCopy := u.disp.ctxCopy
                                ctxStore := u.disp.ctxStore, lru := u.disp.lru }
  dram : u.dram = { s.dram with mem := u.dram.mem, poison := u.dram.poison, chans := u.dram.chans, errorLog := u.dram.errorLog }

theorem Handle.SameBut.refl (h : Handle) : h.SameBut h := rfl

theorem Handle.SameBut.trans {a b c : Handle} (h : a.SameBut b) (k : b.SameBut c) : a.SameBut c := by
  unfold Handle.SameBut at *
  rw [k, h]

theorem Drains.refl (s : State) : Drains s s := ⟨.refl s, rfl, fun _ => .refl _, rfl, rfl⟩

theorem Drains.trans {a b c : State} (h : Drains a b) (k : Drains b c) : Drains a c where
  reports :=
    { pending := k.reports.pending.trans h.reports.pending
      totals := rfl
      cntTot := k.reports.cntTot.trans h.reports.cntTot
      cntSheet := k.reports.cntSheet.trans h.reports.cntSheet
      failover := k.reports.failover.trans h.reports.failover
      sheets := k.reports.sheets.trans (congrArg (fun x : Sheets => { x with firstSeen := c.sh.firstSeen }) h.reports.sheets)
      line := k.reports.line.trans h.reports.line
      host := h.reports.host.trans k.reports.host
      cab := rfl
      disp := rfl
      cores := k.reports.cores.trans h.reports.cores
      dov := k.reports.dov.trans h.reports.dov
      lk := k.reports.lk.trans h.reports.lk
      cop := k.reports.cop.trans h.reports.cop
      dram := rfl
      ev := k.reports.ev.trans h.reports.ev
      sec := k.reports.sec.trans (congrArg (fun x : Secure => { x with trace := c.sec.trace }) h.reports.sec)
      pow := k.reports.pow.trans h.reports.pow }
  cab := by rw [k.cab, h.cab]
  handles i := (h.handles i).trans (k.handles i)
  disp := by rw [k.disp, h.disp]
  dram := by rw [k.dram, h.dram]

theorem Drains.ite {c : Prop} [Decidable c] {s a b : State} (h : Drains s a) (k : Drains s b) : Drains s (if c then a else b) := by
  split <;> assumption

theorem Drains.foldl {β : Type} {f : State → β → State} (h : ∀ a b, Drains a (f a b)) (l : List β) (s : State) : Drains s (l.foldl f s) := by
  induction l generalizing s with
  | nil => exact .refl s
  | cons b l ih => exact (h s b).trans (ih _)

theorem handleOf_of_cab {s u : State} (h : u.cab = s.cab) (i : Nat) : handleOf u i = handleOf s i :=
  congrArg (fun c : Cabinet => tabGet ({} : Handle) c.handles i) h

theorem Drains.of_reports {s u : State} (r : Reports s u) : Drains s u where
  reports := { r with totals := rfl, cab := rfl, disp := rfl, dram := rfl }
  cab := by rw [r.cab]
  handles i := by rw [handleOf_of_cab r.cab]; exact .refl _
  disp := by rw [r.disp]
  dram := by rw [r.dram]

theorem Drains.of_notes {s u : State} (h : Notes s u) : Drains s u where
  reports := { h.reports with totals := rfl, cab := rfl, disp := rfl, dram := rfl }
  cab := by rw [h.cab]
  handles i := by rw [handleOf_of_cab h.cab]; exact .refl _
  disp := by rw [h.disp]
  dram := by rw [h.dram]

theorem Drains.of_accesses {s u : State} (h : Accesses s u) : Drains s u := by
  rw [h.frame]
  exact ⟨{ Reports.refl s with totals := rfl, cab := rfl, disp := rfl, dram := rfl }, rfl, fun _ => .refl _, rfl, rfl⟩

theorem Drains.of_ctxReads {s u : State} (h : CtxReads s u) : Drains s u where
  reports := { h.notes.reports with totals := rfl, cab := rfl, disp := rfl, dram := rfl }
  cab := by rw [h.notes.cab]
  handles i := by rw [handleOf_of_cab h.notes.cab]; exact .refl _
  disp := by rw [h.disp]
  dram := by rw [h.notes.dram]

/-! ### The drains and the checks -/

theorem dramWrite_drains (port a : Nat) (bs : List Byte) (bad : Bool) (s : State) : Drains s (dramWrite port a bs bad s) := by
  rw [dramWrite_frame]
  exact ⟨{ Reports.refl s with totals := rfl, cab := rfl, disp := rfl, dram := rfl }, rfl, fun _ => .refl _, rfl, rfl⟩

theorem noteStale_drains (s : State) : Drains s (noteStale s) :=
  .of_reports (((setFlag_reports _ _ s).trans (count_reports _ _ _ _ _)).trans (raise_reports _ _ _))

theorem handleOf_setHandle_self (i : Nat) (h : Handle) (s : State) : handleOf (setHandle i h s) i = h := tabGet_set_self _ _ _ _

theorem handleOf_setHandle_of_ne {i k : Nat} (h : Handle) (s : State) (e : k ≠ i) : handleOf (setHandle i h s) k = handleOf s k :=
  tabGet_set_of_ne _ _ _ e

theorem setHandle_drains {i : Nat} {h : Handle} {s : State} (same : (handleOf s i).SameBut h) : Drains s (setHandle i h s) where
  reports := { Reports.refl s with totals := rfl, cab := rfl, disp := rfl, dram := rfl }
  cab := rfl
  handles k := by
    by_cases e : k = i
    · subst e
      rw [handleOf_setHandle_self]
      exact same
    · rw [handleOf_setHandle_of_ne _ _ e]
      exact .refl _
  disp := rfl
  dram := rfl

theorem poisonVatLine_drains (i : Nat) (w : Nat × Option Nat × Nat) (s : State) : Drains s (poisonVatLine i w s) := by
  unfold poisonVatLine
  dsimp only
  have marked {p : BitVec 256} : Drains s (bumpTotal 0x614 1 (setFlag 0x600 1 (setHandle i { handleOf s i with poison := p } s))) :=
    (setHandle_drains (s := s) (i := i) (h := { handleOf s i with poison := p }) rfl).trans (.of_notes ((setFlag_notes _ _ _).trans (bumpTotal_notes _ _ _)))
  split
  · exact marked.trans (.of_reports (raise_reports _ _ _))
  · exact marked.trans (.of_reports ((drawFree_reports _).trans (raise_reports _ _ _)))

theorem vatMarks_drains (s : State) (weak bad : List Nat) : Drains s { s with cab := { s.cab with vatWeak := weak, vatBad := bad } } :=
  ⟨{ Reports.refl s with totals := rfl, cab := rfl, disp := rfl, dram := rfl }, rfl, fun _ => .refl _, rfl, rfl⟩

theorem checkVat_drains (i off n : Nat) (s : State) : Drains s (checkVat i off n s) := by
  unfold checkVat
  exact .ite (.refl s) (((vatMarks_drains s _ _).trans (.of_notes (noteCorrected_notes _ _ _))).trans
    (.foldl (fun _ _ => poisonVatLine_drains _ _ _) _ _))

theorem renewVat_drains (i off n : Nat) (s : State) : Drains s (renewVat i off n s) := by
  have step (p : Prop) [Decidable p] (o : Nat) (a : State) : Drains a (if p then a else checkVat i o 8 a) :=
    .ite (.refl a) (checkVat_drains _ _ _ _)
  unfold renewVat
  exact .ite (.refl s) (((step _ _ s).trans (step _ _ _)).trans (vatMarks_drains _ _ _))

theorem vatWrite_drains (i off : Nat) (bs : List Byte) (bad : Bool) (s : State) : Drains s (vatWrite i off bs bad s) :=
  (renewVat_drains i off bs.length s).trans (setHandle_drains rfl)

theorem spillSlot_drains (h : Handle) (off : Nat) (bs : List Byte) (bad : Bool) (slot : Nat) (s : State) :
    Drains s (spillSlot h off bs bad slot s) := by
  unfold spillSlot
  split
  · exact .refl s
  · exact .foldl (fun _ _ => .ite (dramWrite_drains _ _ _ _ _) (.refl _)) _ _

theorem pktWrite_drains (i off : Nat) (bs : List Byte) (bad : Bool) (s : State) : Drains s (pktWrite i off bs bad s) := by
  unfold pktWrite
  exact .ite (.foldl (fun _ _ => spillSlot_drains _ _ _ _ _ _) _ _) (vatWrite_drains _ _ _ _ _)

theorem checkCtx_drains (c off n : Nat) (s : State) : Drains s (checkCtx c off n s) := .of_ctxReads (checkCtx_reads c off n s)

theorem ctxTouch_drains (c : Nat) (s : State) : Drains s (ctxTouch c s) := by
  unfold ctxTouch
  split
  · exact .refl s
  · exact ⟨{ Reports.refl s with totals := rfl, cab := rfl, disp := rfl, dram := rfl }, rfl, fun _ => .refl _, rfl, rfl⟩

theorem ctxWrite_drains (c off : Nat) (bs : List Byte) (s : State) : Drains s (ctxWrite c off bs s) := by
  unfold ctxWrite
  dsimp only
  refine (Drains.of_ctxReads (renewCtx_reads c off bs.length s)).trans ?_
  split <;> exact ⟨{ Reports.refl _ with totals := rfl, cab := rfl, disp := rfl, dram := rfl }, rfl, fun _ => .refl _, rfl, rfl⟩

theorem drainEntry_drains (e : StoreEntry) (s : State) : Drains s (drainEntry e s) := by
  unfold drainEntry
  split
  · exact .ite (noteStale_drains s) (.ite (.refl s) (pktWrite_drains _ _ _ _ _))
  · exact (ctxTouch_drains _ s).trans (ctxWrite_drains _ _ _ _)
  · exact .ite (.refl s) (dramWrite_drains _ _ _ _ _)

/-! ### Draining a thread's store buffer (R287) -/

theorem drainStores_drains (t : Nat) (s : State) : Drains (setThr t { thr s t with stores := [] } s) (drainStores t s) :=
  .foldl (fun a e => drainEntry_drains e a) _ _

section
variable {s u : State} (h : Drains s u)
include h

theorem Drains.thr (k : Nat) : thr u k = thr s k := congrArg (fun c : Cores => tabGet ({} : Thread) c.threads k) h.reports.cores
theorem Drains.itemOf (k : Nat) : itemOf u k = itemOf s k := by rw [Machine.itemOf, h.disp]; rfl
theorem Drains.staleHandle (w : HandleWord) : staleHandle u w = staleHandle s w := by
  unfold Machine.staleHandle
  rw [h.handles]
theorem Drains.canRef (i : Nat) : canRef u i = canRef s i := by
  unfold Machine.canRef
  rw [h.handles]

end

theorem thr_drainStores_self (t : Nat) (s : State) : thr (drainStores t s) t = { thr s t with stores := [] } := by
  rw [(drainStores_drains t s).thr, setThr]
  exact tabGet_set_self _ _ _ _

theorem thr_drainStores_of_ne {t k : Nat} (s : State) (h : k ≠ t) : thr (drainStores t s) k = thr s k := by
  rw [(drainStores_drains t s).thr, setThr]
  exact tabGet_set_of_ne _ _ _ h

theorem regG_drainStores (t : Nat) (s : State) (r : BitVec 5) : regG (drainStores t s) t r = regG s t r := by
  rw [regG, thr_drainStores_self]
  rfl

/-! ### What the note of an issue leaves -/

theorem noteIssue_cab (t : Nat) (s : State) : (noteIssue t s).cab = s.cab := rfl
theorem noteIssue_disp (t : Nat) (s : State) : (noteIssue t s).disp = s.disp := rfl

theorem itemOf_noteIssue (t k : Nat) (s : State) : itemOf (noteIssue t s) k = itemOf s k := rfl
theorem handleOf_noteIssue (t i : Nat) (s : State) : handleOf (noteIssue t s) i = handleOf s i := rfl
theorem staleHandle_noteIssue (t : Nat) (s : State) (w : HandleWord) : staleHandle (noteIssue t s) w = staleHandle s w := rfl

/-- The thread as it stands once its issue is noted (R44, R728). -/
def issued (x : Thread) : Thread :=
  { x with handlerCount := if x.terminated then x.handlerCount + 1 else x.handlerCount, broke := none }

theorem thr_noteIssue_self (t : Nat) (s : State) : thr (noteIssue t s) t = issued (thr s t) := thr_updThr_self _ _ _
theorem thr_noteIssue_of_ne {t k : Nat} (s : State) (h : k ≠ t) : thr (noteIssue t s) k = thr s k := thr_updThr_of_ne _ _ h

theorem issued_item (x : Thread) : (issued x).item = x.item := rfl
theorem issued_st (x : Thread) : (issued x).st = x.st := rfl
theorem issued_hdl (x : Thread) : (issued x).hdl = x.hdl := rfl

theorem stampLost_noteIssue (t : Nat) (s : State) : stampLost (noteIssue t s) t = stampLost s t := by
  unfold stampLost
  rw [thr_noteIssue_self]
  rfl

/-- An instruction that may issue and is legal acts on the state in which its issue is noted. -/
theorem exec_act {s : State} {t : BitVec 9} {i : CoreInstr} {u : State} (h : CanIssue s t i.srcs i.dsts) (legal : i.illegal s t.toNat = false)
    (act : i.act t.toNat (noteIssue t.toNat s) = u) : issue t i s = stepIssued t.toNat u := by
  rw [issue_can h legal, act]

theorem stopThread_running {t : Nat} {s : State} (code d : Nat) (w : Word36) (run : (thr s t).st = .run) :
    stopThread t code w d s = haltThread t code w d s := if_pos run

end Sys2Proof.Machine
end

section
/-!
PROOFS. EMIT, EMITF and VOID (O24): each is an issue, and what it stages or refuses is read from the state as it stood before.
-/
namespace Sys2Proof.Machine

theorem emitBad_noteIssue (t : Nat) (s : State) (ga gb gc : BitVec 5) : emitBad (noteIssue t s) t ga gb gc = emitBad s t ga gb gc := by
  unfold emitBad
  rw [thr_noteIssue_self, regG_noteIssue, regG_noteIssue, regG_noteIssue]
  rfl

theorem regHandle_noteIssue (t : Nat) (s : State) (r : BitVec 5) : regHandle (noteIssue t s) t r = regHandle s t r := by
  rw [regHandle, regG_noteIssue, regHandle]

theorem stagedOf_drainStores (t : Nat) (s : State) (ga gb gc : BitVec 5) : stagedOf (drainStores t s) t ga gb gc = stagedOf s t ga gb gc := by
  unfold stagedOf
  rw [regG_drainStores, regG_drainStores, regG_drainStores]

theorem stagedOf_noteIssue (t : Nat) (s : State) (ga gb gc : BitVec 5) : stagedOf (noteIssue t s) t ga gb gc = stagedOf s t ga gb gc := by
  unfold stagedOf
  rw [regG_noteIssue, regG_noteIssue, regG_noteIssue]

/-- The note of an issue leaves the thread running. -/
theorem CanIssue.runs_noted {s : State} {t : BitVec 9} {srcs dsts : List (BitVec 5)} (h : CanIssue s t srcs dsts) :
    (thr (noteIssue t.toNat s) t.toNat).st = .run := by
  rw [thr_noteIssue_self]
  exact h.running

/-- A Cabinet instruction whose answer comes at once acts at its issue (R298). -/
theorem cabInstr_acts {s : State} {t : BitVec 9} {major func : Nat} {op : CabOp} {gd ga gb : BitVec 5} {srcs dsts : List (BitVec 5)}
    (h : CanIssue s t srcs dsts) : cabInstr t major func op gd ga gb 0 false srcs dsts s =
      stepIssued t.toNat (cabAct op t.toNat gd ga gb (encR major gd ga gb 0 func) (noteIssue t.toNat s)) :=
  issue_can h rfl

/-! ### What the act comes to (R299-R301) -/

section
variable {s : State} {t : BitVec 9} {gc ga gb : BitVec 5} {word : Word36}

theorem cabEmit_bad (final : Bool) (run : (thr s t.toNat).st = .run) (bad : emitBad s t.toNat ga gb gc = true) :
    cabEmit t.toNat gc ga gb word final s = haltThread t.toNat 0x0C word 0 (pktNote s (regHandle s t.toNat ga)) := by
  refine (if_pos bad).trans (stopThread_running _ _ _ ?_)
  have noted : Drains s (pktNote s (regHandle s t.toNat ga)) := .ite (noteStale_drains s) (.refl s)
  rw [noted.thr]
  exact run

theorem cabEmit_stages (final : Bool) {b : State} {o : Staged} (good : emitBad s t.toNat ga gb gc = false) (hb : b = drainStores t.toNat s)
    (ho : o = stagedOf s t.toNat ga gb gc) (room : canRef b (hIndex o.handle) = true) : cabEmit t.toNat gc ga gb word final s =
      if final then completeItem t.toNat false (advance t.toNat (stageOutput t.toNat o b)) else advance t.toNat (stageOutput t.toNat o b) := by
  subst hb
  have same : stagedOf (drainStores t.toNat s) t.toNat ga gb gc = o := (stagedOf_drainStores _ _ _ _ _).trans ho.symm
  unfold cabEmit
  dsimp only
  rw [good, same, room]
  rfl

theorem cabVoid_voids (worker : (thr s t.toNat).hdl = false) (item : (thr s t.toNat).item ≠ none) :
    cabVoid t.toNat word s = completeItem t.toNat true (advance t.toNat (drainStores t.toNat s)) := by
  refine if_neg ?_
  rw [worker]
  simpa using item

end

/-- Settles O24. -/
theorem emitAndVoidAct : Obligations.EmitAndVoidAct := by
  unfold Obligations.EmitAndVoidAct
  rintro s t gc ga gb a rfl
  refine ⟨fun can good b o hb ho room => ?_, fun can bad b hb => ?_, fun can worker item => ?_⟩
  · have acts (final : Bool) (word : Word36) := cabEmit_stages (word := word) final ((emitBad_noteIssue t.toNat s ga gb gc).trans good) hb
      (ho.trans (stagedOf_noteIssue _ _ _ _ _).symm) room
    exact ⟨congrArg Host.Outcome.next ((cabInstr_acts can).trans (congrArg (stepIssued t.toNat) (acts false _))),
      congrArg Host.Outcome.next (congrArg settle ((cabInstr_acts can).trans (congrArg (stepIssued t.toNat) (acts true _))))⟩
  · subst hb
    have acts (final : Bool) (word : Word36) := cabEmit_bad (word := word) final can.runs_noted ((emitBad_noteIssue t.toNat s ga gb gc).trans bad)
    simp only [regHandle_noteIssue] at acts
    exact ⟨congrArg Host.Outcome.next ((cabInstr_acts can).trans (congrArg (stepIssued t.toNat) (acts false _))),
      congrArg Host.Outcome.next (congrArg settle ((cabInstr_acts can).trans (congrArg (stepIssued t.toNat) (acts true _))))⟩
  · have worker : (thr (noteIssue t.toNat s) t.toNat).hdl = false := by rw [thr_noteIssue_self]; exact worker
    have item : (thr (noteIssue t.toNat s) t.toNat).item ≠ none := by rw [thr_noteIssue_self]; exact item
    exact congrArg Host.Outcome.next (congrArg settle ((cabInstr_acts can).trans
      (congrArg (stepIssued t.toNat) (cabVoid_voids worker item))))

end Sys2Proof.Machine
end

section
/-!
PROOFS. System instructions (O26): each is an issue whose action is read off at the note of the issue; a supervisor's SVEND and SVRST look at
their target first (R348-R351).
-/
namespace Sys2Proof.Machine

section
variable {s : State} {t : BitVec 9}

/-- A system instruction that is legal acts at its issue. -/
theorem sysInstr_acts {func : Nat} {gd ga gb : BitVec 5} {illegal : State → Nat → Bool} {srcs : List (BitVec 5)} {act : Nat → Word36 → State → State}
    (h : CanIssue s t srcs []) (legal : illegal s t.toNat = false) :
    sysInstr t func gd ga gb 0 illegal srcs act s = stepIssued t.toNat (act t.toNat (encR 48 gd ga gb 0 func) (noteIssue t.toNat s)) :=
  issue_can h legal

/-- One that is not legal is ILLEGAL (R276), and changes nothing first. -/
theorem sysInstr_illegal {func : Nat} {gd ga gb : BitVec 5} {illegal : State → Nat → Bool} {srcs : List (BitVec 5)}
    {act : Nat → Word36 → State → State} (h : CanIssue s t srcs []) (bad : illegal s t.toNat = true) :
    sysInstr t func gd ga gb 0 illegal srcs act s = haltThread t.toNat 0x01 (encR 48 gd ga gb 0 func) 0 s := by
  have bad : ((0 : BitVec 9) != 0 || illegal s t.toNat) = true := bad
  exact (issue_fetched h.runs h.after h.word h.strong).trans (issueFetched_illegal h.legal bad)

theorem endH_illegal {gd ga gb : BitVec 5} (h : CanIssue s t [] []) (worker : (thr s t.toNat).hdl = false) :
    exec (.endH t gd ga gb 0) s = .next (settle (haltThread t.toNat 0x01 (encR 48 gd ga gb 0 8) 0 s)) := by
  show execEndH t gd ga gb 0 s = _
  rw [execEndH, sysInstr_illegal h (by rw [worker]; rfl)]

theorem resumeH_illegal {gd ga gb : BitVec 5} (h : CanIssue s t [] []) (worker : (thr s t.toNat).hdl = false) :
    exec (.resumeH t gd ga gb 0) s = .next (haltThread t.toNat 0x01 (encR 48 gd ga gb 0 9) 0 s) := by
  show execResumeH t gd ga gb 0 s = _
  rw [execResumeH, sysInstr_illegal h (by rw [worker]; rfl)]

theorem svend_illegal {gd ga gb : BitVec 5} (h : CanIssue s t [ga] []) (worker : isSupervisor s t.toNat = false) :
    exec (.svend t gd ga gb 0) s = .next (settle (haltThread t.toNat 0x01 (encR 48 gd ga gb 0 32) 0 s)) := by
  show execSvend t gd ga gb 0 s = _
  rw [execSvend, sysInstr_illegal h (by rw [notSupervisor, worker]; rfl)]

theorem svrst_illegal {gd ga gb : BitVec 5} (h : CanIssue s t [ga] []) (worker : isSupervisor s t.toNat = false) :
    exec (.svrst t gd ga gb 0) s = .next (settle (haltThread t.toNat 0x01 (encR 48 gd ga gb 0 33) 0 s)) := by
  show execSvrst t gd ga gb 0 s = _
  rw [execSvrst, sysInstr_illegal h (by rw [notSupervisor, worker]; rfl)]

/-! ### END and RESUME (R47, R323) -/

theorem endHandler_item {n k : Nat} {x : Item} {a b : State} (hb : b = detachOps n (loseLocks n 4 (checkHeld n a))) (item : (thr b n).item = some k)
    (at_ : itemOf b k = some x) : endHandler n a = admitEvents (freeThread n (voidItem k (lateLoss x b))) := by
  subst hb
  unfold endHandler
  dsimp only
  rw [item]
  dsimp only
  rw [at_]

theorem endHandler_none {n : Nat} {a b : State} (hb : b = detachOps n (loseLocks n 4 (checkHeld n a))) (item : (thr b n).item = none) :
    endHandler n a = admitEvents (freeThread n b) := by
  subst hb
  unfold endHandler
  dsimp only
  rw [item]

theorem resume_steps {gd ga gb : BitVec 5} {k : Nat} {x : Item} {d : BitVec 48} (h : CanIssue s t [] []) (handler : (thr s t.toNat).hdl = true)
    (going : (thr s t.toNat).terminated = false) (item : (thr s t.toNat).item = some k) (at_ : itemOf s k = some x)
    (hd : d = x.arrival + BitVec.ofNat 48 x.window + 4) : StepTo (exec (.resumeH t gd ga gb 0) s) t { thr s t.toNat with
      pc := (thr s t.toNat).epc, hdl := false, rsm := true, dl := d.setWidth 36 } (putItem k { x with resumed := true, deadline := d } s) := by
  have legal : (!(thr s t.toNat).hdl || (thr s t.toNat).terminated) = false := by rw [handler, going]; rfl
  have deadline : x.arrival + BitVec.ofNat 48 (x.window + 4) = d := by rw [hd, BitVec.ofNat_add, ← BitVec.add_assoc]; rfl
  obtain ⟨a, ha⟩ : ∃ a, a = noteIssue t.toNat s := ⟨_, rfl⟩
  have issues : Runs t.toNat (thr s t.toNat) s a := ha ▸ noteIssue_runs t.toNat s
  have thread : thr a t.toNat = issued (thr s t.toNat) := ha ▸ thr_noteIssue_self _ _
  have item_a : (thr a t.toNat).item = some k := by rw [thread]; exact item
  have at_a : itemOf a k = some x := by subst ha; exact at_
  have kept : Runs t.toNat (thr s t.toNat) (putItem k { x with resumed := true, deadline := d } s)
      (putItem k { x with resumed := true, deadline := d } a) :=
    ⟨issues.self, issues.others, { issues.rep with disp := by rw [putItem, issues.rep.disp]; rfl }⟩
  obtain ⟨u, hu⟩ : ∃ u, u = updThr t.toNat (fun y => { y with pc := y.epc, hdl := false, rsm := true, dl := d.setWidth 36 })
    (putItem k { x with resumed := true, deadline := d } a) := ⟨_, rfl⟩
  have goes : Runs t.toNat { thr s t.toNat with pc := (thr s t.toNat).epc, hdl := false, rsm := true, dl := d.setWidth 36 }
      (putItem k { x with resumed := true, deadline := d } s) u := hu ▸ kept.upd fun _ => rfl
  have acts : exec (.resumeH t gd ga gb 0) s = .next (stepIssued t.toNat u) := by
    refine congrArg Host.Outcome.next ((sysInstr_acts h legal).trans (congrArg (stepIssued t.toNat) ?_))
    dsimp only
    rw [← ha, item_a]
    dsimp only
    rw [at_a]
    dsimp only
    rw [deadline, hu]
  have running : ({ thr s t.toNat with pc := (thr s t.toNat).epc, hdl := false, rsm := true, dl := d.setWidth 36 } : Thread).st ≠ .stall :=
    h.not_stalled
  rw [acts, goes.steps running, stepDone_threads]
  exact ⟨_, rfl, goes.self, goes.others, { goes.rep with
    cores := congrArg (fun c : Cores => { c with stepping := (stepDone t.toNat u).cores.stepping }) goes.rep.cores }⟩

/-! ### SVEND and SVRST (R348-R351) -/

/-- What a supervisor's instruction on its cluster does: it is ignored and counted, or acts, and the PC moves on. -/
theorem supervise_acts {func : Nat} {gd ga gb : BitVec 5} {halted : Bool} {act : Nat → State → State} {u : Nat} (h : CanIssue s t [ga] [])
    (sup : isSupervisor s t.toNat = true) (hu : u = (regG s t.toNat ga).toNat % 4096) : sysInstr t func gd ga gb 0 notSupervisor [ga] (fun n _ s =>
      advance n (if svIgnored s n (svTarget s n ga) halted then noteSvIgnored s else act (svTarget s n ga) s)) s =
      stepIssued t.toNat (advance t.toNat (if svIgnored (noteIssue t.toNat s) t.toNat u halted then noteSvIgnored (noteIssue t.toNat s)
        else act u (noteIssue t.toNat s))) := by
  have target : svTarget (noteIssue t.toNat s) t.toNat ga = u := by
    rw [svTarget, regG_noteIssue, natBits_low]
    exact hu.symm
  refine (sysInstr_acts h (by rw [notSupervisor, sup]; rfl)).trans (congrArg (stepIssued t.toNat) ?_)
  rw [target]

theorem svIgnored_noteIssue {n u : Nat} {halted : Bool} (other : u ≠ n) :
    svIgnored (noteIssue n s) n u halted = (u / 64 != clusterOf n || (halted && decide ((thr s u).st ≠ .halt))) := by
  rw [svIgnored, thr_noteIssue_of_ne s other, beq_false_of_ne other, Bool.or_false]

theorem noteSvIgnored_reports (a : State) : Reports a (noteSvIgnored a) :=
  ((setFlag_reports _ _ a).trans (count_reports _ _ _ _ _)).trans (raiseFirst_reports _ _ _ _)

theorem noteSvIgnored_flag (a : State) : (flagReg (noteSvIgnored a) 0x4C0).getLsbD 7 = true :=
  raiseFirst_flagsStand _ _ _ _ _ _ (setFlag_sets _ (by decide) _)

/-- What an ignored instruction of a supervisor leaves. -/
theorem ignored_leaves (h : CanIssue s t [ga] []) {n : State}
    (hn : n = stepIssued t.toNat (advance t.toNat (noteSvIgnored (noteIssue t.toNat s)))) :
    (∀ u, u ≠ t.toNat → thr n u = thr s u) ∧ (flagReg n 0x4C0).getLsbD 7 = true ∧ (thr n t.toNat).pc = (thr s t.toNat).pc + 1 ∧ n.dov = s.dov := by
  have goes := ((noteIssue_runs t.toNat s).reports (noteSvIgnored_reports _)).advance
  rw [hn, goes.steps h.not_stalled, stepDone_threads]
  exact ⟨goes.others, noteSvIgnored_flag _, congrArg Thread.pc goes.self, goes.rep.dov⟩

theorem exec_svend {gd ga gb : BitVec 5} {u : Nat} (h : CanIssue s t [ga] []) (sup : isSupervisor s t.toNat = true)
    (hu : u = (regG s t.toNat ga).toNat % 4096) : exec (.svend t gd ga gb 0) s = .next (settle (stepIssued t.toNat (advance t.toNat
      (if svIgnored (noteIssue t.toNat s) t.toNat u true then noteSvIgnored (noteIssue t.toNat s)
        else admitEvents (freeThread u (endFaulted u (detachOps u (loseLocks u 4 (checkHeld u (noteIssue t.toNat s)))))))))) := by
  show execSvend t gd ga gb 0 s = _
  rw [execSvend, supervise_acts (act := fun u s => admitEvents (freeThread u (endFaulted u (detachOps u (loseLocks u 4 (checkHeld u s))))))
    h sup hu]

theorem exec_svrst {gd ga gb : BitVec 5} {u : Nat} (h : CanIssue s t [ga] []) (sup : isSupervisor s t.toNat = true)
    (hu : u = (regG s t.toNat ga).toNat % 4096) : exec (.svrst t gd ga gb 0) s = .next (settle (stepIssued t.toNat (advance t.toNat
      (if svIgnored (noteIssue t.toNat s) t.toNat u false then noteSvIgnored (noteIssue t.toNat s)
        else admitEvents (l0Reset u (checkHeld u (noteIssue t.toNat s))))))) := by
  show execSvrst t gd ga gb 0 s = _
  rw [execSvrst, supervise_acts (act := fun u s => admitEvents (l0Reset u (checkHeld u s))) h sup hu]

end

/-- Settles O26. -/
theorem systemInstructionsAct : Obligations.SystemInstructionsAct := by
  unfold Obligations.SystemInstructionsAct
  rintro s t gd ga gb a rfl
  refine ⟨fun can => ⟨?_, ?_, ?_, fun worker => ?_, fun b handler hb => ?_, ?_⟩, fun can u hu => ⟨fun worker => ?_, fun sup inside other => ?_,
    fun sup off => ?_⟩⟩
  · exact congrArg Host.Outcome.next (sysInstr_acts can rfl)
  · exact congrArg Host.Outcome.next (sysInstr_acts can rfl)
  · exact congrArg Host.Outcome.next (sysInstr_acts can rfl)
  · exact ⟨endH_illegal can worker, resumeH_illegal can worker⟩
  · have legal : (!(thr s t.toNat).hdl) = false := by rw [handler]; rfl
    have ends {v : State} (e : endHandler t.toNat (advance t.toNat (noteIssue t.toNat s)) = v) :
        exec (.endH t gd ga gb 0) s = .next (settle (stepIssued t.toNat v)) :=
      congrArg Host.Outcome.next (congrArg settle ((sysInstr_acts can legal).trans (congrArg (stepIssued t.toNat) e)))
    exact ⟨fun k x item at_ => ends (endHandler_item hb item at_), fun item => ends (endHandler_none hb item)⟩
  · intro k x d handler going item at_ hd
    exact resume_steps can handler going item at_ hd
  · exact ⟨svend_illegal can worker, svrst_illegal can worker⟩
  · have near : (u / 64 != clusterOf t.toNat) = false := by rw [inside]; exact bne_self_eq_false _
    refine ⟨fun halted => ?_, fun alive => ?_, ?_⟩
    · have acts : svIgnored (noteIssue t.toNat s) t.toNat u true = false := by
        rw [svIgnored_noteIssue other, near, halted]
        rfl
      rw [exec_svend can sup hu, if_neg (ne_true_of_eq_false acts)]
    · have ignored : svIgnored (noteIssue t.toNat s) t.toNat u true = true := by
        rw [svIgnored_noteIssue other, near, decide_eq_true alive]
        rfl
      obtain ⟨others, flag, pc, -⟩ := ignored_leaves can rfl
      refine ⟨_, ?_, others u other, flag, pc⟩
      rw [exec_svend can sup hu, if_pos ignored]
    · have acts : svIgnored (noteIssue t.toNat s) t.toNat u false = false := by
        rw [svIgnored_noteIssue other, near]
        rfl
      rw [exec_svrst can sup hu, if_neg (ne_true_of_eq_false acts)]
  · obtain ⟨-, flag, pc, dov⟩ := ignored_leaves can rfl
    refine ⟨_, ?_, flag, pc, dov⟩
    have ignored : svIgnored (noteIssue t.toNat s) t.toNat u false = true := by
      rcases off with far | self
      · rw [svIgnored, bne_iff_ne.mpr far]
        rfl
      · rw [svIgnored, self, beq_self_eq_true, Bool.or_true]
        rfl
    rw [exec_svrst can sup hu, if_pos ignored]

end Sys2Proof.Machine
end

section
/-!
PROOFS. Memory instructions: their addressing modes, the checks of words on their way, and the stalls they end in (Table 5.9, R289, R579).
-/
namespace Sys2Proof.Machine

/-! ### Reports go both ways -/

theorem HostPort.Quiet.symm {a b : HostPort} (h : a.Quiet b) : b.Quiet a :=
  ⟨h.1.symm, h.2.symm, h.3.symm, h.4.symm, h.5.symm, h.6.symm, h.7.symm, h.8.symm, h.9.symm, h.10.symm, h.11.symm, h.12.symm,
   h.13.symm, h.14.symm, h.15.symm, h.16.symm, h.17.symm, h.18.symm, h.19.symm, h.20.symm, h.21.symm, h.22.symm, h.23.symm,
   (congrArg (fun q : HostQueue => { q with tail := a.cq.tail, phase := a.cq.phase }) h.24).symm,
   (congrArg (fun q : HostQueue => { q with tail := a.eq.tail, phase := a.eq.phase }) h.25).symm⟩

theorem Reports.symm {s u : State} (h : Reports s u) : Reports u s where
  pending := h.pending.symm
  totals := h.totals.symm
  cntTot := h.cntTot.symm
  cntSheet := h.cntSheet.symm
  failover := h.failover.symm
  sheets := (congrArg (fun x : Sheets => { x with firstSeen := s.sh.firstSeen }) h.sheets).symm
  line := h.line.symm
  host := h.host.symm
  cab := h.cab.symm
  disp := h.disp.symm
  cores := h.cores.symm
  dov := h.dov.symm
  lk := h.lk.symm
  cop := h.cop.symm
  dram := h.dram.symm
  ev := h.ev.symm
  sec := (congrArg (fun x : Secure => { x with trace := s.sec.trace }) h.sec).symm
  pow := h.pow.symm

/-- What an issue has done so far stands beside the same notes of errors (R579). -/
theorem Runs.notes {t : Nat} {x : Thread} {s u v w : State} (h : Runs t x s u) (r : Notes s v) (k : Notes u w) (same : w.totals = v.totals) :
    Runs t x v w where
  self := by
    have e : thr w t = thr u t := congrArg (fun c : Cores => tabGet ({} : Thread) c.threads t) k.cores
    rw [e]
    exact h.self
  others j hj := by
    have e : thr w j = thr u j := congrArg (fun c : Cores => tabGet ({} : Thread) c.threads j) k.cores
    have f : thr v j = thr s j := congrArg (fun c : Cores => tabGet ({} : Thread) c.threads j) r.cores
    rw [e, f]
    exact h.others j hj
  rep := by
    have back : Reports { v with cores := { v.cores with threads := w.cores.threads } }
        { s with totals := v.totals, cores := { s.cores with threads := w.cores.threads } } :=
      { r.reports.symm with cores := by rw [r.cores] }
    have mid : Reports { s with totals := v.totals, cores := { s.cores with threads := w.cores.threads } } { u with totals := v.totals } := by
      rw [k.cores]
      exact { h.rep with totals := rfl }
    have forth : Reports { u with totals := v.totals } w := same ▸ k.reports
    exact (back.trans mid).trans forth

theorem noteCorrected_totals (memory n : Nat) {s u : State} (h : u.totals = s.totals) :
    (noteCorrected memory n u).totals = (noteCorrected memory n s).totals := by
  unfold noteCorrected
  split
  · exact h
  · rw [(raiseFirst_reports _ _ _ _).totals, (raiseFirst_reports _ _ _ _).totals]
    unfold bumpTotal
    exact congrArg (fun t => tabUpd 0 t ([0x610, 0x620, 0x628, 0x630, 0x638].getD memory 0) (fun v => min (v + n) 0xFFFFFFFF)) h

/-- The words that an issue reads on its way are corrected as they would be without it (R579). -/
theorem checkDmem_runs (t : Nat) (keys : List Nat) (s : State) :
    Runs t (thr s t) (checkDmem keys s) (checkDmem keys (noteIssue t s)) := by
  obtain ⟨a, ha⟩ : ∃ a, a = noteIssue t s := ⟨_, rfl⟩
  have issues : Runs t (thr s t) s a := ha ▸ noteIssue_runs t s
  have weak : a.cores.dmemWeak = s.cores.dmemWeak := by rw [issues.rep.cores]
  rw [← ha]
  unfold checkDmem
  dsimp only
  rw [weak]
  obtain ⟨l, hl⟩ : ∃ l, l = s.cores.dmemWeak.filter (fun k => !keys.contains k) := ⟨_, rfl⟩
  rw [← hl]
  split
  · exact issues
  · have kept : Runs t (thr s t) { s with cores := { s.cores with dmemWeak := l } } { a with cores := { a.cores with dmemWeak := l } } :=
      ⟨issues.self, issues.others, { issues.rep with cores := congrArg (fun c : Cores => { c with dmemWeak := l }) issues.rep.cores }⟩
    exact kept.notes (noteCorrected_notes _ _ _) (noteCorrected_notes _ _ _) (noteCorrected_totals _ _ issues.rep.totals)

/-! ### A memory instruction issues -/

section
variable {s : State} {t : BitVec 9} {gt ga : BitVec 5} {w mode : BitVec 2} {md : BitVec 16} {pkt : Bool} {f : ModeField} {ea : Nat}
  {wb : Option Word36} {major : Nat} {act : Nat → Nat → Option Word36 → ModeField → Word36 → State → State}

theorem modeIllegal_noteIssue (t : Nat) (s : State) (mode : BitVec 2) (f : ModeField) :
    modeIllegal (thr (noteIssue t s) t) mode f = modeIllegal (thr s t) mode f := by
  rw [thr_noteIssue_self]
  rfl

theorem effAddr_noteIssue (t : Nat) (s : State) (ga : BitVec 5) (mode : BitVec 2) (f : ModeField) :
    effAddr (thr (noteIssue t s) t) ga mode f = effAddr (thr s t) ga mode f := by
  rw [thr_noteIssue_self]
  rfl

/-- A memory instruction whose mode is legal acts on its effective address, read before the issue is noted (R289). -/
theorem memInstr_acts (store : Bool) (hf : f = modeField pkt mode md)
    (can : CanIssue s t (if store then gt :: modeRegs ga mode f else modeRegs ga mode f)
      ((if store then [] else [gt]) ++ (if 2 ≤ mode.toNat then [ga] else [])))
    (legal : modeIllegal (thr s t.toNat) mode f = false) (address : effAddr (thr s t.toNat) ga mode f = (BitVec.ofNat 36 ea, wb))
    (low : ea < 2 ^ 36) : memInstr t major pkt store gt ga w mode md false act s =
      stepIssued t.toNat (act t.toNat ea wb f (encM major gt ga w mode md) (noteIssue t.toNat s)) := by
  subst hf
  have dsts : (if store then [] else [gt]) ++ (if decide (2 ≤ mode.toNat) = true then [ga] else []) =
      (if store then [] else [gt]) ++ (if 2 ≤ mode.toNat then [ga] else []) := by simp only [decide_eq_true_eq]
  have legal' : (false || modeIllegal (thr s t.toNat) mode (modeField pkt mode md)) = false := legal
  unfold memInstr
  dsimp only
  rw [exec_act (t := t) (by dsimp only; rw [dsts]; exact can) legal' rfl]
  dsimp only
  rw [effAddr_noteIssue, address, BitVec.toNat_ofNat, Nat.mod_eq_of_lt low]

end

/-! ### Stalls -/

/-- A thread that stalls is not offered to its core (R336). -/
theorem thr_stallThread (t : Nat) (w : Stall) (counter : Nat) (s : State) :
    thr (stallThread t w counter s) t = { thr s t with st := .stall, stall := w, waitStart := s.dov.waitCount } := by
  unfold stallThread
  have stalled : thr (count .core (coreOf t) counter 1 (updThr t (fun x => { x with st := .stall, stall := w, waitStart := s.dov.waitCount })
      { s with dov := { s.dov with waitCount := s.dov.waitCount + 1 } })) t =
      { thr s t with st := .stall, stall := w, waitStart := s.dov.waitCount } :=
    (thr_of_reports (count_reports _ _ _ _ _) t).trans (thr_updThr_self _ _ _)
  dsimp only
  rw [walk_thr, stalled]
  unfold isReady
  rw [stalled]
  rfl

theorem stepIssued_stallThread (t : Nat) (w : Stall) (counter : Nat) (s : State) :
    stepIssued t (stallThread t w counter s) = stallThread t w counter s := by
  refine if_pos ?_
  rw [thr_stallThread]

end Sys2Proof.Machine
end

section
/-!
PROOFS. Loads (O21): the addressing modes, the loads that land at once, those that stall, and the return of their data.
-/
namespace Sys2Proof.Machine

/-! ### Addressing modes (Table 5.9) -/

theorem ofInt_sInt16 (md : BitVec 16) : BitVec.ofInt 36 (sInt 16 md.toNat) = md.signExtend 36 := by
  rw [sInt_eq _ _ (by decide), BitVec.ofNat_toNat, BitVec.setWidth_eq, BitVec.signExtend]

theorem modeField_gb (gb : BitVec 5) : (modeField false 1 (BitVec.ofNat 16 (gb.toNat * 2048))).gb = gb := by
  refine BitVec.eq_of_toNat_eq ?_
  show (BitVec.ofNat 5 (natBits (BitVec.ofNat 16 (gb.toNat * 2048)).toNat 11 5)).toNat = gb.toNat
  have low := gb.isLt
  rw [natBits, BitVec.toNat_ofNat, BitVec.toNat_ofNat]
  omega

theorem effAddr_modes (x : Thread) (ga : BitVec 5) (md : BitVec 16) :
    effAddr x ga 0 (modeField false 0 md) = (getG x ga + md.signExtend 36, none) ∧
      effAddr x ga 2 (modeField false 2 md) = (getG x ga, some (getG x ga + md.signExtend 36)) ∧
      ∀ gb : BitVec 5, effAddr x ga 1 (modeField false 1 (BitVec.ofNat 16 (gb.toNat * 2048))) = (getG x ga + getG x gb, none) := by
  refine ⟨?_, ?_, fun gb => ?_⟩
  · rw [← ofInt_sInt16]
    rfl
  · rw [← ofInt_sInt16]
    rfl
  · show (getG x ga + getG x (modeField false 1 (BitVec.ofNat 16 (gb.toNat * 2048))).gb, none) = _
    rw [modeField_gb]

/-! ### Loads that land at their issue -/

theorem stepTo_of_runs {t : BitVec 9} {x : Thread} {s u : State} {o : Res} (acts : o = .next (stepIssued t.toNat u)) (st : x.st ≠ .stall)
    (r : Runs t.toNat x s u) : StepTo o t x s := by
  rw [acts, r.steps st, stepDone_threads]
  exact ⟨_, rfl, r.self, r.others, { r.rep with
    cores := congrArg (fun c : Cores => { c with stepping := (stepDone t.toNat u).cores.stepping }) r.rep.cores }⟩

theorem writeBack_putG_noted (ga gt : BitVec 5) (wb : Option Word36) (v : Word36) (x : Thread) (n : Nat) :
    writeBack ga wb (putG gt v { x with handlerCount := n, broke := none }) =
      { writeBack ga wb (putG gt v x) with handlerCount := n, broke := none } := by
  unfold writeBack putG
  cases wb <;> (repeat' split) <;> rfl

theorem writeBack_putG_st (ga gt : BitVec 5) (wb : Option Word36) (v : Word36) (x : Thread) : (writeBack ga wb (putG gt v x)).st = x.st := by
  unfold writeBack
  cases wb with
  | none => exact putG_st _ _ _
  | some v => exact (putG_st _ _ _).trans (putG_st _ _ _)

theorem writeBack_putG_pc (ga gt : BitVec 5) (wb : Option Word36) (v : Word36) (x : Thread) : (writeBack ga wb (putG gt v x)).pc = x.pc := by
  unfold writeBack
  cases wb with
  | none => exact putG_pc _ _ _
  | some v => exact (putG_pc _ _ _).trans (putG_pc _ _ _)

/-- A load whose data is there writes its registers and goes on. -/
theorem Runs.loads {t : Nat} {x : Thread} {s u : State} (h : Runs t x s u) (gt ga : BitVec 5) (v : Word36) (wb : Option Word36) :
    Runs t { writeBack ga wb (putG gt v x) with pc := x.pc + 1 } s (loadDone t gt ga v wb u) := by
  have r := (h.upd (f := fun x => writeBack ga wb (putG gt v x)) (fun n => writeBack_putG_noted ga gt wb v x n)).advance
  rw [writeBack_putG_pc] at r
  exact r

theorem ldw_lands {s : State} {t : BitVec 9} {gt ga : BitVec 5} {mode : BitVec 2} {md : BitVec 16} {f : ModeField} {ea : Nat}
    {wb : Option Word36} (hf : f = modeField false mode md)
    (can : CanIssue s t (modeRegs ga mode f) ([gt] ++ (if 2 ≤ mode.toNat then [ga] else [])))
    (legal : modeIllegal (thr s t.toNat) mode f = false) (address : effAddr (thr s t.toNat) ga mode f = (BitVec.ofNat 36 ea, wb))
    (inside : ea ≤ 32767) (good : s.cores.dmemBad.contains (dmemKey (coreOf t.toNat) ea) = false) : StepTo (exec (.ldw t gt ga 0 mode md) s) t
      { writeBack ga wb (putG gt (dmemGet s (coreOf t.toNat) ea) (thr s t.toNat)) with pc := (thr s t.toNat).pc + 1 }
      (checkDmem [dmemKey (coreOf t.toNat) ea] s) := by
  obtain ⟨a, ha⟩ : ∃ a, a = noteIssue t.toNat s := ⟨_, rfl⟩
  have r : Runs t.toNat (thr s t.toNat) (checkDmem [dmemKey (coreOf t.toNat) ea] s) (checkDmem [dmemKey (coreOf t.toNat) ea] a) :=
    ha ▸ checkDmem_runs _ _ _
  have good_a : a.cores.dmemBad.contains (dmemKey (coreOf t.toNat) ea) = false := by subst ha; exact good
  have word : dmemGet a (coreOf t.toNat) ea = dmemGet s (coreOf t.toNat) ea := by subst ha; rfl
  refine stepTo_of_runs (u := loadDone t.toNat gt ga (dmemGet s (coreOf t.toNat) ea) wb (checkDmem [dmemKey (coreOf t.toNat) ea] a)) ?_ ?_
    (r.loads gt ga _ wb)
  · show execLdw t gt ga 0 mode md s = _
    unfold execLdw
    show Host.Outcome.next (memInstr t 16 false false gt ga 0 mode md false _ s) = _
    rw [memInstr_acts false hf can legal address (by omega), ← ha]
    simp only [good_a, Nat.not_lt.mpr inside, word, if_false, Bool.false_eq_true]
  · show (writeBack ga wb (putG gt _ (thr s t.toNat))).st ≠ .stall
    rw [writeBack_putG_st]
    exact can.not_stalled

/-! ### Octets of contexts, windows and handles -/

section
variable {s : State} {t : BitVec 9} {gt ga : BitVec 5} {w mode : BitVec 2} {md : BitVec 16} {f : ModeField} {ea : Nat} {wb : Option Word36}

theorem ctxBad_noteIssue (t : Nat) (s : State) (ea n : Nat) : ctxBad (noteIssue t s) t ea n = ctxBad s t ea n := by
  unfold ctxBad
  rw [thr_noteIssue_self]
  rfl

theorem ctxOf_drainStores (t : Nat) (s : State) : ctxOf (drainStores t s) t = ctxOf s t := by
  rw [ctxOf, thr_drainStores_self]
  rfl

theorem ctxOf_noteIssue (t : Nat) (s : State) : ctxOf (noteIssue t s) t = ctxOf s t := by
  rw [ctxOf, thr_noteIssue_self]
  rfl

theorem Drains.ctxOf {s u : State} (h : Drains s u) (t : Nat) : ctxOf u t = ctxOf s t := by
  rw [Machine.ctxOf, h.thr]
  rfl

/-- A load of octets none of which is poisoned lands (R583). -/
theorem octetDone_good (n : Nat) (gt ga : BitVec 5) (bs : List Byte) (wb : Option Word36) (s : State) :
    octetDone n gt ga bs false wb s = advance n (updThr n (fun x => writeBack ga wb (putG gt (octetValue bs) x)) s) := rfl

theorem poisonStops_false (s : State) (n : Nat) : poisonStops s n false = false := rfl

theorem windowAddr_drainStores (t : Nat) (s : State) (k ea : Nat) : windowAddr (drainStores t s) k ea = windowAddr s k ea := by
  unfold windowAddr windowFor
  rw [(drainStores_drains t s).reports.cores]
  rfl

end

/-- Settles O21. -/
theorem loadsDeliver : Obligations.LoadsDeliver := by
  unfold Obligations.LoadsDeliver
  refine ⟨effAddr_modes, ?_⟩
  rintro s t gt ga w mode md f g a ea wb upd hf hg ha rfl
  refine ⟨fun can legal address low => ⟨ldw_lands hf can legal address, fun inside d c b hd hc hb clean => ?_, fun open_ => ?_⟩,
    fun can legal address low h b hh hb good => ⟨fun here clean => ?_, fun far => ?_⟩,
    fun k i x d word b wait clean awake hb => ?_, fun k x d word b wait awake clean hb => ?_⟩
  · have ctx : ctxOf a t.toNat = c := by rw [hc, hd, ctxOf_drainStores]
    have inside_a : ctxBad a t.toNat ea (w.toNat + 1) = false := by rw [ha, ctxBad_noteIssue]; exact inside
    have same : ctxOf b t.toNat = c := by
      rw [hb, (checkCtx_drains _ _ _ _).ctxOf, (ctxTouch_drains _ _).ctxOf, hc]
    show execLdc t gt ga w mode md s = _
    unfold execLdc
    rw [memInstr_acts false hf can legal address low, ← ha]
    dsimp only
    rw [inside_a, ctx, ← hd, ← hb]
    rw [same] at clean ⊢
    rw [clean]
    rfl
  · have open_a : windowBad a t.toNat ea (w.toNat + 1) false = false := by rw [ha]; exact open_
    have address_a : windowAddr a t.toNat ea = windowAddr s t.toNat ea := by rw [ha]; rfl
    show execLdd t gt ga w mode md s = _
    unfold execLdd
    rw [memInstr_acts false hf can legal address low, ← ha]
    dsimp only
    rw [open_a, windowAddr_drainStores, address_a]
    exact congrArg Host.Outcome.next (stepIssued_stallThread _ _ _ _)
  · have sel : selHandle a t.toNat g = h := by rw [ha, hh, selHandle, thr_noteIssue_self]; rfl
    have good_a : pktBad a t.toNat h ea (w.toNat + 1) 16384 = false := by
      rw [ha, pktBad, thr_noteIssue_self]
      exact good
    show execLdp t gt ga w mode md s = _
    unfold execLdp
    rw [memInstr_acts false hg can legal address low, ← ha]
    dsimp only
    rw [sel, good_a, ← hb, here, clean]
    rfl
  · have sel : selHandle a t.toNat g = h := by rw [ha, hh, selHandle, thr_noteIssue_self]; rfl
    have good_a : pktBad a t.toNat h ea (w.toNat + 1) 16384 = false := by
      rw [ha, pktBad, thr_noteIssue_self]
      exact good
    show execLdp t gt ga w mode md s = _
    unfold execLdp
    rw [memInstr_acts false hg can legal address low, ← ha]
    dsimp only
    rw [sel, good_a, ← hb, far]
    exact congrArg Host.Outcome.next (stepIssued_stallThread _ _ _ _)
  · show execDramReadComplete t s = _
    unfold execDramReadComplete
    dsimp only
    rw [wait]
    dsimp only
    rw [whenAwake_awake awake, clean, ← hb]
    rfl
  · show execDramReadComplete t s = _
    unfold execDramReadComplete
    dsimp only
    rw [wait]
    dsimp only
    rw [whenAwake_awake (by simpa using awake), clean, ← hb]
    rfl

end Sys2Proof.Machine
end

section
/-!
PROOFS. Stores (O22): the stores of data memory, the store buffer and the grant of cells, and what a drained store changes.
-/
namespace Sys2Proof.Machine

/-! ### Stores that a thread leaves behind -/

theorem writeBack_noted (ga : BitVec 5) (wb : Option Word36) (x : Thread) (n : Nat) :
    writeBack ga wb { x with handlerCount := n, broke := none } = { writeBack ga wb x with handlerCount := n, broke := none } := by
  unfold writeBack putG
  cases wb
  · rfl
  · dsimp only
    split <;> rfl

theorem writeBack_st (ga : BitVec 5) (wb : Option Word36) (x : Thread) : (writeBack ga wb x).st = x.st := by
  unfold writeBack
  cases wb with
  | none => rfl
  | some v => exact putG_st _ _ _

theorem writeBack_pc (ga : BitVec 5) (wb : Option Word36) (x : Thread) : (writeBack ga wb x).pc = x.pc := by
  unfold writeBack
  cases wb with
  | none => rfl
  | some v => exact putG_pc _ _ _

theorem writeBack_stores (ga : BitVec 5) (wb : Option Word36) (x : Thread) (l : List StoreEntry) :
    writeBack ga wb { x with stores := l } = { writeBack ga wb x with stores := l } := by
  unfold writeBack putG
  cases wb
  · rfl
  · dsimp only
    split <;> rfl

/-- A store whose data is taken writes its base register and goes on. -/
theorem Runs.stored {t : Nat} {x : Thread} {s u : State} (h : Runs t x s u) (ga : BitVec 5) (wb : Option Word36) :
    Runs t { writeBack ga wb x with pc := x.pc + 1 } s (storeDone t ga wb u) := by
  have r := (h.upd (f := writeBack ga wb) (fun n => writeBack_noted ga wb x n)).advance
  rw [writeBack_pc] at r
  exact r

/-- A store buffer with room takes a store in. -/
theorem Runs.buffers {t : Nat} {x : Thread} {s u : State} (h : Runs t x s u) (e : StoreEntry) (room : x.stores.length < 8) :
    Runs t { x with stores := x.stores ++ [e] } s (pushStore t e u) := by
  have fits : (thr u t).stores.length < 8 := by rw [h.self]; exact room
  unfold pushStore
  dsimp only
  rw [if_pos fits]
  exact h.upd fun _ => rfl

theorem dmemStore_runs (t core ea : Nat) (v : Word36) (s : State) :
    Runs t (thr s t) (dmemStore core ea [v] s) (dmemStore core ea [v] (noteIssue t s)) := by
  have r := noteIssue_runs t s
  exact ⟨r.self, r.others, { r.rep with cores := rfl }⟩

section
variable {s : State} {t : BitVec 9} {gt ga : BitVec 5} {w mode : BitVec 2} {md : BitVec 16} {f g : ModeField} {ea : Nat} {wb : Option Word36}

/-- A store that enters a buffer with room. -/
theorem buffered_stepTo {o : Res} {e : StoreEntry} {srcs dsts : List (BitVec 5)} (can : CanIssue s t srcs dsts) (room : (thr s t.toNat).stores.length < 8)
    (acts : o = .next (stepIssued t.toNat (storeDone t.toNat ga wb (pushStore t.toNat e (noteIssue t.toNat s))))) : StepTo o t
      { writeBack ga wb (thr s t.toNat) with stores := (thr s t.toNat).stores ++ [e], pc := (thr s t.toNat).pc + 1 } s := by
  have r := ((noteIssue_runs t.toNat s).buffers e room).stored ga wb
  rw [writeBack_stores] at r
  refine stepTo_of_runs acts ?_ r
  show (writeBack ga wb (thr s t.toNat)).st ≠ .stall
  rw [writeBack_st]
  exact can.not_stalled

section
variable (hf : f = modeField false mode md)
  (can : CanIssue s t (gt :: modeRegs ga mode f) (if 2 ≤ mode.toNat then [ga] else []))
  (legal : modeIllegal (thr s t.toNat) mode f = false) (address : effAddr (thr s t.toNat) ga mode f = (BitVec.ofNat 36 ea, wb))
  (low : ea < 2 ^ 36)
include hf can legal address low

theorem stw_stores (inside : ea ≤ 32767) : StepTo (exec (.stw t gt ga 0 mode md) s) t
    { writeBack ga wb (thr s t.toNat) with pc := (thr s t.toNat).pc + 1 } (dmemStore (coreOf t.toNat) ea [regG s t.toNat gt] s) := by
  refine stepTo_of_runs (u := storeDone t.toNat ga wb (dmemStore (coreOf t.toNat) ea [regG s t.toNat gt] (noteIssue t.toNat s))) ?_ ?_
    ((dmemStore_runs _ _ _ _ _).stored ga wb)
  · show execStw t gt ga 0 mode md s = _
    unfold execStw
    show Host.Outcome.next (memInstr t 17 false true gt ga 0 mode md false _ s) = _
    rw [memInstr_acts true hf can legal address low]
    simp only [Nat.not_lt.mpr inside, if_false, regG_noteIssue]
  · show (writeBack ga wb (thr s t.toNat)).st ≠ .stall
    rw [writeBack_st]
    exact can.not_stalled

theorem exec_stc (inside : ctxBad s t.toNat ea (w.toNat + 1) = false) : exec (.stc t gt ga w mode md) s =
    .next (stepIssued t.toNat (storeDone t.toNat ga wb (pushStore t.toNat { space := 1, object := ctxOf s t.toNat, address := ea
                                                                            bytes := beBytes (w.toNat + 1) (regG s t.toNat gt).toNat }
      (noteIssue t.toNat s)))) := by
  show execStc t gt ga w mode md s = _
  unfold execStc
  rw [memInstr_acts true hf can legal address low]
  dsimp only
  rw [ctxBad_noteIssue, inside, ctxOf_noteIssue, regG_noteIssue]
  rfl

theorem exec_std (open_ : windowBad s t.toNat ea (w.toNat + 1) true = false) : exec (.std t gt ga w mode md) s =
    .next (stepIssued t.toNat (storeDone t.toNat ga wb (pushStore t.toNat
      { space := 2, object := t.toNat, address := ea, bytes := beBytes (w.toNat + 1) (regG s t.toNat gt).toNat } (noteIssue t.toNat s)))) := by
  have open_a : windowBad (noteIssue t.toNat s) t.toNat ea (w.toNat + 1) true = false := open_
  show execStd t gt ga w mode md s = _
  unfold execStd
  rw [memInstr_acts true hf can legal address low]
  dsimp only
  rw [open_a, regG_noteIssue]
  rfl

end

/-! ### STP -/

theorem threadBank_noteIssue (t : Nat) (s : State) : threadBank (noteIssue t s) t = threadBank s t := by
  unfold threadBank
  rw [thr_noteIssue_self]
  rfl

/-- What STP does once its stamp stands and its handle is good. -/
def stpAct (t : Nat) (gt ga : BitVec 5) (w mode : BitVec 2) (md : BitVec 16) (h : HandleWord) (x : Handle) (ea : Nat) (wb : Option Word36)
    (b : Bank) (s : State) : State :=
  let slots := missingSlots x ea (w.toNat + 1)
  if slots.isEmpty then storePacket t gt ga h ea (w.toNat + 1) wb s
  else
    let r := if (drawerWaiters s x.drawer).isEmpty then readyGrow b x slots.length s else (false, s)
    if r.1 then storePacket t gt ga h ea (w.toNat + 1) wb (progress (waitsDrawer x.drawer) (grow b (hIndex h) slots r.2))
    else stallThread t (.drawer x.drawer slots.length (.store gt ga w mode md) (encM 19 gt ga w mode md)) ctrStallDrawer
      (joinDrawer x.drawer t r.2)

section
variable (hg : g = modeField true mode md)
  (can : CanIssue s t (gt :: modeRegs ga mode g) (if 2 ≤ mode.toNat then [ga] else []))
  (legal : modeIllegal (thr s t.toNat) mode g = false) (address : effAddr (thr s t.toNat) ga mode g = (BitVec.ofNat 36 ea, wb))
  (low : ea < 2 ^ 36)
include hg can legal address low

theorem exec_stp_lost (lost : stampLost s t.toNat = true) :
    exec (.stp t gt ga w mode md) s = .next (settle (stepIssued t.toNat (voidStamp t.toNat (noteIssue t.toNat s)))) := by
  show execStp t gt ga w mode md s = _
  unfold execStp
  rw [memInstr_acts true hg can legal address low, settleVoided, if_pos lost]
  dsimp only
  rw [stamped, if_pos ((stampLost_noteIssue _ _).trans lost)]

theorem exec_stp {h : HandleWord} {x : Handle} (stands : stampLost s t.toNat = false) (hh : h = selHandle s t.toNat g)
    (hx : x = handleOf s (hIndex h)) (good : pktBad s t.toNat h ea (w.toNat + 1) 16352 = false)
    (grows : x.kind ≠ .free ∨ missingSlots x ea (w.toNat + 1) = []) : exec (.stp t gt ga w mode md) s =
      .next (stepIssued t.toNat (stpAct t.toNat gt ga w mode md h x ea wb (threadBank s t.toNat) (noteIssue t.toNat s))) := by
  obtain ⟨a, ha⟩ : ∃ a, a = noteIssue t.toNat s := ⟨_, rfl⟩
  have sel : selHandle a t.toNat g = h := by rw [ha, hh, selHandle, thr_noteIssue_self]; rfl
  have handle : handleOf a (hIndex h) = x := by rw [ha, hx]; rfl
  have good_a : pktBad a t.toNat h ea (w.toNat + 1) 16352 = false := by
    rw [ha, pktBad, thr_noteIssue_self]
    exact good
  have bank : threadBank a t.toNat = threadBank s t.toNat := by rw [ha, threadBank_noteIssue]
  have growth : noGrowth a h (missingSlots x ea (w.toNat + 1)) = false := by
    rw [noGrowth, handle]
    rcases grows with used | none
    · rw [decide_eq_false used]
      rfl
    · rw [none, List.isEmpty_nil, Bool.not_true, Bool.and_false]
  show execStp t gt ga w mode md s = _
  unfold execStp
  rw [memInstr_acts true hg can legal address low, settleVoided, if_neg (ne_true_of_eq_false stands), ← ha]
  rw [stamped, if_neg (ne_true_of_eq_false (by rw [ha, stampLost_noteIssue]; exact stands))]
  dsimp only
  rw [sel, handle, good_a, growth, bank]
  rfl

end

end

/-! ### What a store changes when it drains -/

theorem residentCore_ctxWrite (c off : Nat) (bs : List Byte) (s : State) (k : Nat) : residentCore (ctxWrite c off bs s) k = residentCore s k := by
  rw [residentCore, (ctxWrite_drains c off bs s).disp]
  rfl

/-- A write to a context leaves the bytes beside it. -/
theorem ctxRead_ctxWrite_apart {c off k o n : Nat} {bs : List Byte} (s : State)
    (apart : 256 * k + o + n ≤ 256 * c + off ∨ 256 * c + off + bs.length ≤ 256 * k + o) :
    ctxRead (ctxWrite c off bs s) k o n = ctxRead s k o n := by
  have renewed := renewCtx_reads c off bs.length s
  have same : residentCore (ctxWrite c off bs s) k = residentCore (renewCtx c off bs.length s) k := by
    rw [residentCore_ctxWrite, residentCore, residentCore, renewed.disp]
  rw [← renewed.ctxRead, ctxRead, same, ctxRead]
  obtain ⟨r, hr⟩ : ∃ r, r = renewCtx c off bs.length s := ⟨_, rfl⟩
  unfold ctxWrite
  dsimp only
  rw [← hr]
  have there (poison : Tab Bool) : residentCore { r with disp := { r.disp with ctxPoison := poison } } c = residentCore r c := rfl
  rw [there]
  cases residentCore r c <;> cases residentCore r k
  · exact tabRead_write_apart _ _ _ _ _ _ apart
  · rfl
  · rfl
  · exact tabRead_write_apart _ _ _ _ _ _ apart

theorem ctxRead_ctxTouch (c : Nat) (s : State) (k o n : Nat) : ctxRead (ctxTouch c s) k o n = ctxRead s k o n := by
  unfold ctxTouch
  split <;> rfl

theorem getD_of_lt {α : Type} {l : List α} {i : Nat} (d : α) (h : i < l.length) : l.getD i d = l[i] := by
  rw [List.getD_eq_getElem?_getD, List.getElem?_eq_getElem h]
  rfl

/-- Bytes stored to DRAM stand where their channel is open; every other byte stands as it was (R565). -/
theorem memGet_dramStore (a : Nat) (bs : List Byte) (s : State) (x : Nat) : memGet (dramStore a bs s).dram.mem x =
    if a ≤ x ∧ x < a + bs.length ∧ lineClosed s (x / 64) = false then bs.getD (x - a) 0 else memGet s.dram.mem x := by
  unfold dramStore
  dsimp only
  split
  · next allOpen =>
    have open_ (hx : a ≤ x ∧ x < a + bs.length) : lineClosed s (x / 64) = false := by
      have all := allOpen
      simp only [Bool.not_eq_true', List.any_eq_false, List.mem_range, Bool.not_eq_true] at all
      have e := all (x / 64 - a / 64) (by omega)
      rwa [Nat.add_sub_cancel' (Nat.div_le_div_right hx.1)] at e
    rw [memGet_write]
    by_cases inside : a ≤ x ∧ x < a + bs.length
    · rw [if_pos inside, if_pos ⟨inside.1, inside.2, open_ inside⟩]
      rw [getD_of_lt _ (by omega), getD_of_lt _ (by omega)]
    · rw [if_neg inside, if_neg (fun h => inside ⟨h.1, h.2.1⟩)]
  · rw [memGet_write, List.length_map, List.length_zipIdx]
    by_cases inside : a ≤ x ∧ x < a + bs.length
    · have idx : x - a < bs.length := by omega
      rw [if_pos inside, getD_of_lt _ (by rw [List.length_map, List.length_zipIdx]; exact idx)]
      simp only [List.getElem_map, List.getElem_zipIdx, Nat.zero_add, Nat.add_sub_cancel' inside.1]
      cases h : lineClosed s (x / 64) with
      | false => rw [if_neg Bool.false_ne_true, if_pos ⟨inside.1, inside.2, rfl⟩, getD_of_lt _ idx]
      | true => rw [if_pos rfl, if_neg (fun h => Bool.noConfusion h.2.2)]
    · rw [if_neg inside, if_neg (fun h => inside ⟨h.1, h.2.1⟩)]

section
variable {s u v : State} {t : BitVec 9} {e : StoreEntry} {r : List StoreEntry}

theorem exec_drain (first : (thr s t.toNat).stores = e :: r)
    (awake : e.space = 2 → dramAsleep s (windowAddr s e.object e.address) e.bytes.length = false) : exec (.storeBufferDrain t) s =
      .next (drainEntry e (updThr t.toNat (fun x => { x with stores := r }) s)) := by
  show execStoreBufferDrain t s = _
  unfold execStoreBufferDrain
  rw [first]
  dsimp only
  rw [whenAwake_awake]
  intro p hp
  split at hp
  · next two =>
    rw [List.mem_singleton] at hp
    rw [hp]
    exact awake two
  · cases hp

theorem drainEntry_context (space : e.space = 1) (fits : e.address + e.bytes.length ≤ 256) :
    ctxRead (drainEntry e v) e.object e.address e.bytes.length = e.bytes ∧
    (∀ off n, (off + n ≤ e.address ∨ e.address + e.bytes.length ≤ off) → ctxRead (drainEntry e v) e.object off n = ctxRead v e.object off n) ∧
    ∀ c off n, c ≠ e.object → off + n ≤ 256 → ctxRead (drainEntry e v) c off n = ctxRead v c off n := by
  have drained : drainEntry e v = ctxWrite e.object e.address e.bytes (ctxTouch e.object v) := by
    rw [drainEntry, space]
    rfl
  rw [drained]
  refine ⟨(ctxRead_ctxWrite _ _ _ _).1, fun off n apart => ?_, fun c off n other inside => ?_⟩
  · rw [ctxRead_ctxWrite_apart _ (by omega), ctxRead_ctxTouch]
  · rw [ctxRead_ctxWrite_apart _ (by omega), ctxRead_ctxTouch]

theorem drainEntry_dram (space : e.space = 2) : drainEntry e v =
    if windowBad v e.object e.address e.bytes.length true then v else dramWrite 3 (windowAddr v e.object e.address) e.bytes false v := by
  rw [drainEntry, space]
  rfl

end

/-- Settles O22. -/
theorem storesReachMemory : Obligations.StoresReachMemory := by
  unfold Obligations.StoresReachMemory
  rintro s t gt ga w mode md f g a ea wb upd hf hg rfl rfl
  refine ⟨fun can legal address low => ⟨stw_stores hf can legal address low, fun room inside => ?_, fun room open_ => ?_,
    fun full open_ => exec_std hf can legal address low open_⟩, fun can legal address low h x hh hx =>
    ⟨exec_stp_lost hg can legal address low, fun stands good => ⟨fun none => ?_, fun n b hn pos used here hb => ?_⟩⟩, fun e r first awake => ?_⟩
  · exact buffered_stepTo can room (exec_stc hf can legal address low inside)
  · exact buffered_stepTo can room (exec_std hf can legal address low open_)
  · rw [exec_stp hg can legal address low stands hh hx good (.inr none), stpAct]
    dsimp only
    rw [none]
    rfl
  · have some_ : (missingSlots x ea (w.toNat + 1)).isEmpty = false := by
      rw [List.isEmpty_eq_false_iff_exists_mem]
      exact List.exists_mem_of_length_pos (hn ▸ pos)
    have waiters : drawerWaiters (noteIssue t.toNat s) x.drawer = drawerWaiters s x.drawer := rfl
    rw [exec_stp hg can legal address low stands hh hx good (.inl used), stpAct, ← hb]
    dsimp only
    rw [some_, waiters, ← hn]
    refine ⟨fun r free hr => ⟨fun granted => ?_, fun short => ?_⟩, fun queue => ?_⟩
    · rw [free]
      rw [if_neg Bool.false_ne_true, if_pos rfl, ← hr, if_pos granted]
    · rw [free]
      rw [if_neg Bool.false_ne_true, if_pos rfl, ← hr, if_neg (ne_true_of_eq_false short), stepIssued_stallThread]
    · rw [queue]
      rw [if_neg Bool.false_ne_true, if_neg Bool.false_ne_true, if_neg Bool.false_ne_true, stepIssued_stallThread]
  · obtain ⟨v, hv⟩ : ∃ v, v = updThr t.toNat (fun x => { x with stores := r }) s := ⟨_, rfl⟩
    refine ⟨drainEntry e v, hv ▸ exec_drain first awake, ?_, fun _ => by rw [hv], fun space fits => ?_, fun space bad => ?_,
      fun space good d x hd => ?_⟩
    · rw [(drainEntry_drains e v).thr, hv, thr_updThr_self]
    · obtain ⟨same, beside, others⟩ := drainEntry_context (v := v) space fits
      subst hv
      exact ⟨same, beside, others⟩
    · rw [drainEntry_dram space, if_pos (by rw [hv]; exact bad), hv]
      rfl
    · have good : windowBad v e.object e.address e.bytes.length true = false := by rw [hv]; exact good
      have addr : windowAddr v e.object e.address = d := by rw [hv, hd]; rfl
      rw [drainEntry_dram space, if_neg (ne_true_of_eq_false good), addr, dramWrite_frame]
      dsimp only
      rw [memGet_dramStore, hv]
      rfl

end Sys2Proof.Machine
end

section
/-!
PROOFS. Packet management (O23): what each instruction makes of a handle, for a thread that acts for its owner.
-/
namespace Sys2Proof.Machine

/-! ### Grants leave handles and threads alone -/

/-- Handles and threads stand: cells are fetched and charged for, and threads that wait for a drawer make progress. -/
structure Charges (s u : State) : Prop where
  handles : u.cab.handles = s.cab.handles
  threads : u.cores.threads = s.cores.threads

theorem Charges.refl (s : State) : Charges s s := ⟨rfl, rfl⟩

theorem Charges.trans {a b c : State} (h : Charges a b) (k : Charges b c) : Charges a c :=
  ⟨k.handles.trans h.handles, k.threads.trans h.threads⟩

theorem Charges.ite {c : Prop} [Decidable c] {s a b : State} (h : Charges s a) (k : Charges s b) : Charges s (if c then a else b) := by
  split <;> assumption

theorem Charges.foldl {β : Type} {f : State → β → State} (h : ∀ a b, Charges a (f a b)) (l : List β) (s : State) : Charges s (l.foldl f s) := by
  induction l generalizing s with
  | nil => exact .refl s
  | cons b l ih => exact (h s b).trans (ih _)

theorem Charges.of_reports {s u : State} (r : Reports s u) : Charges s u := ⟨by rw [r.cab], by rw [r.cores]⟩

theorem Charges.of_accesses {s u : State} (h : Accesses s u) : Charges s u := ⟨by rw [h.cab], by rw [h.cores]⟩

theorem Charges.handleOf {s u : State} (h : Charges s u) (i : Nat) : handleOf u i = handleOf s i := by
  rw [Machine.handleOf, h.handles]
  rfl

theorem Charges.thr {s u : State} (h : Charges s u) (k : Nat) : thr u k = thr s k := by
  rw [Machine.thr, h.threads]
  rfl

theorem ringRefill_charges (g : Nat) (spill : Bool) (s : State) : Charges s (ringRefill g spill s) := by
  have noted (base entries head n : Nat) : Charges s (noteRing base entries head n s) := by
    unfold noteRing
    exact .of_accesses ((noteAccess_accesses _ _ _ _ s).trans (noteAccess_accesses _ _ _ _ _))
  have bad (n : Nat) (a : State) : Charges a (if n = 0 then a
      else (List.range n).foldl (fun a _ => raise 163 [] (count .cabinet 0 3 1 a)) (setFlag 0x440 5 a)) :=
    .ite (.refl a) (.trans (.of_reports (setFlag_reports _ _ _))
      (.foldl (fun b _ => .of_reports ((count_reports _ _ _ _ b).trans (raise_reports _ _ _))) _ _))
  have set (y : Group) (a : State) : Charges a (setGroup g y a) := ⟨rfl, rfl⟩
  unfold ringRefill
  dsimp only
  cases spill <;> exact .ite (.refl s) (((noted _ _ _ _).trans (set _ _)).trans (bad _ _))

theorem topUpN_charges (k g : Nat) (spill : Bool) (n : Nat) (s : State) : Charges s (topUpN k g spill n s) := by
  induction k generalizing s with
  | zero => exact .refl s
  | succ k ih => exact .ite ((ringRefill_charges g spill s).trans (ih _)) (.refl s)

theorem topUp_charges (g : Nat) (spill : Bool) (n : Nat) (s : State) : Charges s (topUp g spill n s) := topUpN_charges _ _ _ _ _

theorem readyVat_charges (b : Bank) (o d n : Nat) (s : State) : Charges s (readyVat b o d n s).2 := by
  unfold readyVat
  split
  · exact topUp_charges _ _ _ s
  · exact .refl s

theorem noteSpillFull_charges (s : State) : Charges s (noteSpillFull s) :=
  .of_reports (((setFlag_reports _ _ s).trans (count_reports _ _ _ _ _)).trans (raiseFirst_reports _ _ _ _))

theorem readySpill_charges (b : Bank) (o d n : Nat) (s : State) : Charges s (readySpill b o d n s).2 := by
  have filled := topUp_charges (d / 8) true n s
  unfold readySpill
  dsimp only
  split
  · split
    · exact filled
    · exact filled.trans (.ite (noteSpillFull_charges _) (.refl _))
  · exact .refl s

theorem updOwner_charges (o : Nat) (f : OwnerUse → OwnerUse) (s : State) : Charges s (updOwner o f s) := ⟨rfl, rfl⟩

theorem chargeUse_charges (o d n : Nat) (p : Pay) (s : State) : Charges s (chargeUse o d n p s) := by
  cases p <;> exact ⟨rfl, rfl⟩

theorem dischargeUse_charges (o d n : Nat) (p : Pay) (s : State) : Charges s (dischargeUse o d n p s) := by
  cases p <;> exact ⟨rfl, rfl⟩

theorem takeCells_charges (g : Nat) (spill : Bool) (n : Nat) (s : State) : Charges s (takeCells g spill n s).2 := by
  cases spill <;> exact ⟨rfl, rfl⟩

theorem afterGrant_charges (b : Bank) (o : Nat) (s : State) : Charges s (afterGrant b o s) := by
  have xoff (m : Tab (BitVec 32)) (a : State) : Charges a { a with cab := { a.cab with pfcOn := m } } := ⟨rfl, rfl⟩
  have counted (n : Nat) : Charges s (countMax .owner o 11 n s) := ⟨rfl, rfl⟩
  unfold afterGrant
  exact .ite (((counted _).trans (updOwner_charges _ _ _)).trans (.ite ((xoff _ _).trans (.ite (.of_reports (raise_reports _ _ _)) (.refl _)))
    (.refl _))) (counted _)

theorem progress_charges (w : Thread → Bool) (s : State) : Charges s (progress w s) :=
  have marks (k : Nat) (a : State) : Charges a (markProgress k a) := ⟨rfl, rfl⟩
  (marks 8 s).trans (.foldl (fun a k => marks k a) _ _)

/-! ### A new buffer (R193, R196) -/

theorem freeIndexFrom_lt (s : State) (n i : Nat) (h : i < 786432) : freeIndexFrom s n i < 786432 := by
  induction n generalizing i with
  | zero => exact h
  | succ n ih =>
    unfold freeIndexFrom
    split
    · exact h
    · exact ih _ (Nat.mod_lt _ (by decide))

theorem pickIndex_lt (s : State) : pickIndex s < 2 ^ 20 :=
  Nat.lt_trans (freeIndexFrom_lt s _ _ (Nat.mod_lt _ (by decide))) (by decide)

theorem handleOf_addCells (i : Nat) (slots : List Nat) (p : Pay) (s : State) :
    ∃ cells n, handleOf (addCells i slots p s) i = { handleOf s i with cells := cells, headroom := n } :=
  ⟨_, _, handleOf_setHandle_self _ _ _⟩

theorem addCells_threads (i : Nat) (slots : List Nat) (p : Pay) (s : State) : (addCells i slots p s).cores.threads = s.cores.threads :=
  ((takeCells_charges _ _ _ s).trans (chargeUse_charges _ _ _ _ _)).threads

/-- A buffer is made at an index of Table 3.1, with its owner and its drawer, and no thread changes. -/
theorem allocBuffer_makes (b : Bank) (o d n : Nat) (p : Pay) (s : State) {r : Nat × State} (hr : r = allocBuffer b o d n p s) :
    r.1 < 2 ^ 20 ∧ (handleOf r.2 r.1).kind = .buffer ∧ (handleOf r.2 r.1).owner = BitVec.ofNat 8 o ∧
      (handleOf r.2 r.1).charge = BitVec.ofNat 8 o ∧ (handleOf r.2 r.1).spilled = (p == .spill) ∧ r.2.cores.threads = s.cores.threads := by
  subst hr
  obtain ⟨v, hv⟩ : ∃ v, v = newHandle (fun h => { h with
    kind := .buffer, owner := BitVec.ofNat 8 o, charge := BitVec.ofNat 8 o, drawer := d, spilled := p == .spill }) s := ⟨_, rfl⟩
  have after : Charges (addCells v.1 (List.range n) p v.2) (allocBuffer b o d n p s).2 := by
    unfold allocBuffer
    rw [← hv]
    exact (afterGrant_charges _ _ _).trans (progress_charges _ _)
  have index : (allocBuffer b o d n p s).1 = v.1 := by rw [hv]; rfl
  obtain ⟨cells, m, made⟩ := handleOf_addCells v.1 (List.range n) p v.2
  have new : ∃ g : BitVec 4, handleOf v.2 v.1 = { gen := g, used := true, kind := .buffer, owner := BitVec.ofNat 8 o
                                                  charge := BitVec.ofNat 8 o, drawer := d, spilled := p == .spill } := by
    rw [hv]
    exact ⟨_, handleOf_setHandle_self _ _ _⟩
  obtain ⟨g, new⟩ := new
  have threads : v.2.cores.threads = s.cores.threads := by rw [hv]; rfl
  rw [index, after.handleOf, made, new]
  refine ⟨?_, rfl, rfl, rfl, rfl, (after.threads.trans (addCells_threads _ _ _ _)).trans threads⟩
  rw [hv]
  exact pickIndex_lt s

/-- What an allocation that is granted returns (R193). -/
theorem tryAlloc_grants {t o n d : Nat} {s : State} {r p : Bool × State} (hd : d = (ownerProf (threadBank s t) o).drawer.toNat)
    (hr : r = readyVat (threadBank s t) o d n s) (hp : p = readySpill (threadBank s t) o d n r.2) (granted : r.1 = true ∨ p.1 = true) :
    ∃ k v, tryAlloc t o n s = (some k, v) ∧ k < 2 ^ 20 ∧ (handleOf v k).kind = .buffer ∧ (handleOf v k).owner = BitVec.ofNat 8 o ∧
      (handleOf v k).charge = BitVec.ofNat 8 o ∧ (handleOf v k).spilled = !r.1 ∧ v.cores.threads = s.cores.threads := by
  have vat : r.2.cores.threads = s.cores.threads := hr ▸ (readyVat_charges _ _ _ _ s).threads
  have spill : p.2.cores.threads = r.2.cores.threads := hp ▸ (readySpill_charges _ _ _ _ _).threads
  unfold tryAlloc
  dsimp only
  rw [← hd, ← hr, ← hp]
  cases here : r.1 with
  | true =>
    obtain ⟨k, buffer, owner, charge, spilled, threads⟩ := allocBuffer_makes (threadBank s t) o d n .vat r.2 rfl
    exact ⟨_, _, rfl, k, buffer, owner, charge, spilled, threads.trans vat⟩
  | false =>
    have there : p.1 = true := granted.resolve_left (ne_true_of_eq_false here)
    obtain ⟨k, buffer, owner, charge, spilled, threads⟩ := allocBuffer_makes (threadBank s t) o d n .spill p.2 rfl
    rw [there]
    exact ⟨_, _, rfl, k, buffer, owner, charge, spilled, (threads.trans spill).trans vat⟩

theorem tryAlloc_waits {t o n d : Nat} {s : State} {r p : Bool × State} (hd : d = (ownerProf (threadBank s t) o).drawer.toNat)
    (hr : r = readyVat (threadBank s t) o d n s) (hp : p = readySpill (threadBank s t) o d n r.2) (vat : r.1 = false) (spill : p.1 = false) :
    tryAlloc t o n s = (none, p.2) := by
  unfold tryAlloc
  dsimp only
  rw [← hd, ← hr, ← hp, vat, spill]
  rfl

/-! ### The answer in gd -/

theorem getG_putG {r : BitVec 5} (v : Word36) (x : Thread) (h : r ≠ 0) : getG (putG r v x) r = v := by
  rw [getG, if_neg h, putG, if_neg h]
  exact tabGet_set_self _ _ _ _

theorem getG_putG_zero (r : BitVec 5) (x : Thread) : getG (putG r 0 x) r = 0 := by
  by_cases h : r = 0
  · rw [getG, if_pos h]
  · exact getG_putG 0 x h

/-- An instruction that answers in gd and goes on. -/
theorem answers {s v : State} {t : BitVec 9} {srcs dsts : List (BitVec 5)} (can : CanIssue s t srcs dsts) (gd : BitVec 5) (w : Word36)
    (threads : v.cores.threads = (noteIssue t.toNat s).cores.threads) {u : State}
    (hu : u = stepIssued t.toNat (advance t.toNat (setG t.toNat gd w v))) :
    (∀ k, handleOf u k = handleOf v k) ∧ (thr u t.toNat).pc = (thr s t.toNat).pc + 1 ∧ (gd ≠ 0 → regG u t.toNat gd = w) ∧
      (w = 0 → regG u t.toNat gd = 0) := by
  have thread : thr v t.toNat = issued (thr s t.toNat) := by rw [thr, threads]; exact thr_noteIssue_self _ _
  have self : thr (advance t.toNat (setG t.toNat gd w v)) t.toNat =
      { putG gd w (issued (thr s t.toNat)) with pc := (putG gd w (issued (thr s t.toNat))).pc + 1 } := by
    rw [advance, thr_updThr_self, setG, thr_updThr_self, thread]
  have running : ¬ (thr (advance t.toNat (setG t.toNat gd w v)) t.toNat).st = .stall := by
    rw [self]
    show ¬ (putG gd w (issued (thr s t.toNat))).st = .stall
    rw [putG_st]
    exact can.not_stalled
  have same (k : Nat) : thr u k = thr (advance t.toNat (setG t.toNat gd w v)) k := by
    rw [hu, stepIssued, if_neg running, stepDone_threads]
    rfl
  refine ⟨fun k => ?_, ?_, fun named => ?_, fun zero => ?_⟩
  · rw [hu, stepIssued, if_neg running, stepDone_threads]
    rfl
  · rw [same, self, putG_pc]
    rfl
  · rw [regG, same, self]
    exact getG_putG w _ named
  · rw [regG, same, self, zero]
    exact getG_putG_zero gd _

/-! ### The owner's acts -/

theorem actsFor_noteIssue (t : Nat) (s : State) (o : Nat) : actsFor (noteIssue t s) t o = actsFor s t o := by
  unfold actsFor
  rw [thr_noteIssue_self]
  rfl

/-- A live buffer whose owner the thread acts for is handed to the act. -/
theorem cabOwned_acts {t : Nat} {h : HandleWord} {word : Word36} {s : State} {act : Nat → State → State} (live : staleHandle s h = false)
    (buffer : (handleOf s (hIndex h)).kind = .buffer) (owner : actsFor s t (handleOf s (hIndex h)).owner.toNat = true) :
    cabOwned t h word s act = act (hIndex h) s := by
  have refused : ¬ (decide ((handleOf s (hIndex h)).kind ≠ .buffer) || !actsFor s t (handleOf s (hIndex h)).owner.toNat) = true := by
    rw [buffer, owner]
    decide
  exact (if_neg (ne_true_of_eq_false live)).trans (if_neg refused)

section
variable {s : State} {t : BitVec 9} {gd ga gb : BitVec 5}

/-- What an allocation comes to: the handle in gd, or a thread that waits at the drawer (R193, R296). -/
def allocAnswer (t d n : Nat) (op : CabOp) (gd ga : BitVec 5) (word : Word36) : Option Nat × State → State
  | (some i, v) => advance t (setG t gd ((handleWord v i).setWidth 36) v)
  | (none, v) => stallThread t (.drawer d n (.alloc op gd ga) word) ctrStallDrawer (joinDrawer d t v)

/-- What PALLOC and PALLOCE do for a thread that acts for the owner. -/
theorem cabAlloc_acts {op : CabOp} {word : Word36} {a : State} {o n d : Nat} (ho : o = allocOwner op t.toNat)
    (hn : n = natBits (regG a t.toNat ga).toNat 0 7) (few : n ≤ 64) (acts : actsFor a t.toNat o = true)
    (hd : d = (ownerProf (threadBank a t.toNat) o).drawer.toNat) {r : Option Nat × State}
    (hr : r = if (drawerWaiters a d).isEmpty then tryAlloc t.toNat o n a else (none, a)) :
    cabAlloc op t.toNat gd ga word a = allocAnswer t.toNat d n op gd ga word r := by
  unfold cabAlloc
  dsimp only
  rw [← ho, ← hn, ← hd, ← hr, if_neg (Nat.not_lt.mpr few), acts]
  rcases r with ⟨i | i, v⟩ <;> rfl

theorem handleWord_toNat {v : State} {k : Nat} (h : k < 2 ^ 20) :
    ((handleWord v k).setWidth 36).toNat = (handleOf v k).gen.toNat * 2 ^ 20 + k := by
  have gen := (handleOf v k).gen.isLt
  rw [handleWord, BitVec.toNat_setWidth, BitVec.toNat_ofNat]
  omega

theorem alloc_outcomes (can : CanIssue s t [ga] [gd]) (kept : stampLost s t.toNat = false)
    (few : natBits (regG s t.toNat ga).toNat 0 7 ≤ 64) {n d o : Nat} {r p : Bool × State} (hn : n = natBits (regG s t.toNat ga).toNat 0 7)
    (hd : d = (ownerProf (threadBank s t.toNat) o).drawer.toNat)
    (hr : r = readyVat (threadBank s t.toNat) o d n (noteIssue t.toNat s)) (hp : p = readySpill (threadBank s t.toNat) o d n r.2)
    {c : Instr} {func : Nat} {op : CabOp} (ho : o = allocOwner op t.toNat) (owner : actsFor s t.toNat o = true)
    (alloc : ∀ gd ga word (a : State), cabAct op t.toNat gd ga gb word a = stamped t.toNat (cabAlloc op t.toNat gd ga word) a)
    (runs : exec c s = .next (settleVoided t.toNat s (cabInstr t 24 func op gd ga gb 0 false [ga] [gd] s))) :
    ((drawerWaiters s d).isEmpty = true → (r.1 = true ∨ p.1 = true) → ∃ k u, exec c s = .next u ∧
      (handleOf u k).kind = .buffer ∧ (handleOf u k).owner = BitVec.ofNat 8 o ∧ (handleOf u k).charge = BitVec.ofNat 8 o ∧
      (handleOf u k).spilled = !r.1 ∧ (thr u t.toNat).pc = (thr s t.toNat).pc + 1 ∧
      (gd ≠ 0 → (regG u t.toNat gd).toNat = (handleOf u k).gen.toNat * 2 ^ 20 + k)) ∧
    ((drawerWaiters s d).isEmpty = true → r.1 = false → p.1 = false → exec c s = .next
      (stallThread t.toNat (.drawer d n (.alloc op gd ga) (encR 24 gd ga gb 0 func)) ctrStallDrawer (joinDrawer d t.toNat p.2))) ∧
    ((drawerWaiters s d).isEmpty = false → exec c s = .next (stallThread t.toNat (.drawer d n (.alloc op gd ga) (encR 24 gd ga gb 0 func))
      ctrStallDrawer (joinDrawer d t.toNat (noteIssue t.toNat s)))) := by
  obtain ⟨a, ha⟩ : ∃ a, a = noteIssue t.toNat s := ⟨_, rfl⟩
  have bank : threadBank a t.toNat = threadBank s t.toNat := by rw [ha, threadBank_noteIssue]
  have acts {q : Option Nat × State} (hq : q = if (drawerWaiters a d).isEmpty then tryAlloc t.toNat o n a else (none, a)) :
      exec c s = .next (stepIssued t.toNat (allocAnswer t.toNat d n op gd ga (encR 24 gd ga gb 0 func) q)) := by
    rw [runs, settleVoided, if_neg (ne_true_of_eq_false kept), cabInstr_acts can, alloc, stamped,
      if_neg (ne_true_of_eq_false ((stampLost_noteIssue _ _).trans kept)), ← ha,
      cabAlloc_acts ho (by rw [ha, regG_noteIssue]; exact hn) (hn ▸ few) (by rw [ha, actsFor_noteIssue]; exact owner) (bank ▸ hd) hq]
  have waiters : drawerWaiters a d = drawerWaiters s d := by rw [ha]; rfl
  rw [waiters] at acts
  rw [← ha, ← bank] at hr
  rw [← bank] at hp hd
  refine ⟨fun free granted => ?_, fun free vat spill => ?_, fun queue => ?_⟩
  · obtain ⟨k, v, grants, low, buffer, own, charge, spilled, threads⟩ := tryAlloc_grants hd hr hp granted
    have acts := acts (q := (some k, v)) (by rw [free, if_pos rfl, grants])
    obtain ⟨u, hu⟩ : ∃ u, u = stepIssued t.toNat (advance t.toNat (setG t.toNat gd ((handleWord v k).setWidth 36) v)) := ⟨_, rfl⟩
    obtain ⟨same, pc, word, -⟩ := answers can gd ((handleWord v k).setWidth 36) (ha ▸ threads) hu
    refine ⟨k, u, acts.trans (congrArg Host.Outcome.next hu.symm), ?_⟩
    rw [same]
    exact ⟨buffer, own, charge, spilled, pc, fun named => by rw [word named, handleWord_toNat low]⟩
  · have acts := acts (q := (none, p.2)) (by rw [free, if_pos rfl, tryAlloc_waits hd hr hp vat spill])
    rw [acts]
    exact congrArg Host.Outcome.next (stepIssued_stallThread _ _ _ _)
  · have acts := acts (q := (none, a)) (by rw [queue, if_neg Bool.false_ne_true])
    rw [acts, ha]
    exact congrArg Host.Outcome.next (stepIssued_stallThread _ _ _ _)

/-! ### PXFER (R198) -/

theorem cabXfer_moves {h : HandleWord} {word : Word36} {a : State} {i o : Nat} {x : Handle} {p : OwnerProfile} (hx : x = handleOf a i)
    (hp : p = ownerProf (threadBank a t.toNat) o) (allowed : xferOwner o = true) (vat : x.spilled = false)
    (fits : vatBudget a (threadBank a t.toNat) o p.drawer.toNat x.cells.length = true) :
    ∃ v, cabXfer t.toNat gd h o word i a = advance t.toNat (setG t.toNat gd 0 v) ∧ v.cores.threads = a.cores.threads ∧
      handleOf v i = { x with owner := BitVec.ofNat 8 o, charge := BitVec.ofNat 8 o, drawer := p.drawer.toNat } := by
  have paid (n : Nat) (y : Handle) :
      (setHandle i y (chargeUse o p.drawer.toNat n .vat (dischargeUse x.charge.toNat x.drawer n .vat a))).cores.threads = a.cores.threads :=
    ((dischargeUse_charges _ _ _ _ a).trans (chargeUse_charges _ _ _ _ _)).threads
  have after (b : State) : Charges b (afterGrant (threadBank a t.toNat) o (if x.cells.length = 0 then b else progress (waitsDrawer x.drawer) b)) :=
    (Charges.ite (.refl b) (progress_charges _ b)).trans (afterGrant_charges _ _ _)
  unfold cabXfer
  dsimp only
  have open_ : ¬ (!true) = true := by decide
  rw [← hx, ← hp, allowed, vat, if_neg open_, if_neg Bool.false_ne_true, fits, if_neg open_, if_neg Bool.false_ne_true]
  refine ⟨_, rfl, ?_, ?_⟩
  · exact (after _).threads.trans (paid _ _)
  · rw [(after _).handleOf, handleOf_setHandle_self]

theorem cabXfer_refuses {h : HandleWord} {word : Word36} {a : State} {i o : Nat} {x : Handle} {p : OwnerProfile} (hx : x = handleOf a i)
    (hp : p = ownerProf (threadBank a t.toNat) o) (allowed : xferOwner o = true) (vat : x.spilled = false)
    (full : vatBudget a (threadBank a t.toNat) o p.drawer.toNat x.cells.length = false) :
    cabXfer t.toNat gd h o word i a = advance t.toNat (setG t.toNat gd 1 a) := by
  unfold cabXfer
  dsimp only
  have open_ : ¬ (!true) = true := by decide
  rw [← hx, ← hp, allowed, vat, if_neg open_, if_neg Bool.false_ne_true, full]
  rfl

end

/-- A handle that changes as the instruction goes on. -/
theorem setHandle_runs (t i : Nat) (y : Handle) (s : State) : Runs t (thr s t) (setHandle i y s) (setHandle i y (noteIssue t s)) := by
  have r := noteIssue_runs t s
  exact ⟨r.self, r.others, { r.rep with cab := rfl }⟩

/-! ### The obligation -/

section
variable {s : State} {t : BitVec 9} {gd ga gb : BitVec 5} {h : HandleWord} {i : Nat} {x : Handle}
  (hh : h = regHandle s t.toNat ga) (hi : i = hIndex h) (hx : x = handleOf s i)
include hh hi hx

/-- An act of the owner of a live buffer is carried out at its issue. -/
theorem owned_acts {func : Nat} {op : CabOp} {srcs dsts : List (BitVec 5)} {act : Nat → State → State} (can : CanIssue s t srcs dsts)
    (live : staleHandle s h = false) (buffer : x.kind = .buffer) (owner : actsFor s t.toNat x.owner.toNat = true)
    (owned : cabAct op t.toNat gd ga gb (encR 24 gd ga gb 0 func) (noteIssue t.toNat s) =
      cabOwned t.toNat (regHandle (noteIssue t.toNat s) t.toNat ga) (encR 24 gd ga gb 0 func) (noteIssue t.toNat s) act) :
    cabInstr t 24 func op gd ga gb 0 false srcs dsts s = stepIssued t.toNat (act i (noteIssue t.toNat s)) := by
  have handle : handleOf (noteIssue t.toNat s) (hIndex h) = x := by rw [hx, hi]; rfl
  have live : staleHandle (noteIssue t.toNat s) h = false := live
  rw [cabInstr_acts can, owned, regHandle_noteIssue, ← hh, cabOwned_acts live (by rw [handle]; exact buffer)
    (by rw [handle, actsFor_noteIssue]; exact owner), hi]

theorem pbind_steps (can : CanIssue s t [ga] []) (live : staleHandle s h = false) (buffer : x.kind = .buffer)
    (owner : actsFor s t.toNat x.owner.toNat = true) : StepTo (exec (.pbind t gd ga gb 0 false) s) t
      { thr s t.toNat with pc := (thr s t.toNat).pc + 1 } (setHandle i { x with kind := .packet, owner := 254, refs := 1 } s) := by
  have acts := owned_acts (func := 5) (op := .pbind) (gd := gd) (gb := gb) (act := cabBind t.toNat) hh hi hx can live buffer owner rfl
  refine stepTo_of_runs (congrArg Host.Outcome.next acts) can.not_stalled ?_
  have handle : handleOf (noteIssue t.toNat s) i = x := hx.symm
  rw [cabBind, updHandle, handle]
  exact (setHandle_runs _ _ _ _).advance

theorem pref_steps (can : CanIssue s t [ga] []) (live : staleHandle s h = false) (room : canRef s i = true) :
    StepTo (exec (.pref t gd ga gb 0 false) s) t { thr s t.toNat with pc := (thr s t.toNat).pc + 1 }
      (setHandle i { x with refs := x.refs + 1 } s) := by
  have handle : handleOf (noteIssue t.toNat s) i = x := hx.symm
  have acts : cabAct .pref t.toNat gd ga gb (encR 24 gd ga gb 0 6) (noteIssue t.toNat s) =
      advance t.toNat (setHandle i { x with refs := x.refs + 1 } (noteIssue t.toNat s)) := by
    have able : canRef (noteIssue t.toNat s) i = true := room
    unfold cabAct
    dsimp only
    rw [regHandle_noteIssue, ← hh, staleHandle_noteIssue, live, ← hi, able, addRef, updHandle, handle]
    rfl
  refine stepTo_of_runs (congrArg Host.Outcome.next ((cabInstr_acts can).trans (congrArg (stepIssued t.toNat) acts))) can.not_stalled ?_
  exact (setHandle_runs _ _ _ _).advance

theorem pderef_acts (can : CanIssue s t [ga] []) (live : staleHandle s h = false) (packet : x.kind = .packet) (held : x.refs ≠ 0) :
    exec (.pderef t gd ga gb 0 false) s = .next (stepIssued t.toNat (advance t.toNat (dropRef i (noteIssue t.toNat s)))) := by
  have handle : handleOf (noteIssue t.toNat s) i = x := hx.symm
  have acts : cabAct .pderef t.toNat gd ga gb (encR 24 gd ga gb 0 7) (noteIssue t.toNat s) =
      advance t.toNat (dropRef i (noteIssue t.toNat s)) := by
    unfold cabAct
    dsimp only
    rw [regHandle_noteIssue, ← hh, staleHandle_noteIssue, live, ← hi, handle, packet, beq_false_of_ne held]
    rfl
  exact congrArg Host.Outcome.next ((cabInstr_acts can).trans (congrArg (stepIssued t.toNat) acts))

/-- PXFER of a live buffer by its owner's thread. -/
theorem exec_pxfer {b : Nat} (hb : b = (regG s t.toNat gb).toNat) (can : CanIssue s t [ga, gb] [gd]) (live : staleHandle s h = false)
    (buffer : x.kind = .buffer) (owner : actsFor s t.toNat x.owner.toNat = true) (kept : stampLost s t.toNat = false) :
    exec (.pxfer t gd ga gb 0 false) s = .next (stepIssued t.toNat
      (cabXfer t.toNat gd h (natBits b 0 8) (encR 24 gd ga gb 0 4) i (noteIssue t.toNat s))) := by
  have handle : handleOf (noteIssue t.toNat s) (hIndex h) = x := by rw [hx, hi]; rfl
  have live : staleHandle (noteIssue t.toNat s) h = false := live
  have acts : cabAct .pxfer t.toNat gd ga gb (encR 24 gd ga gb 0 4) (noteIssue t.toNat s) =
      cabXfer t.toNat gd h (natBits b 0 8) (encR 24 gd ga gb 0 4) i (noteIssue t.toNat s) := by
    unfold cabAct
    dsimp only
    rw [stamped, if_neg (ne_true_of_eq_false ((stampLost_noteIssue _ _).trans kept)), regHandle_noteIssue, ← hh, regG_noteIssue, ← hb,
      cabOwned_acts live (by rw [handle]; exact buffer) (by rw [handle, actsFor_noteIssue]; exact owner), hi]
  show execPxfer t gd ga gb 0 false s = _
  rw [execPxfer, settleVoided, if_neg (ne_true_of_eq_false kept), cabInstr_acts can, acts]

end

theorem ofNat8_natBits (b : Nat) : BitVec.ofNat 8 (natBits b 0 8) = BitVec.ofNat 8 b := by
  refine BitVec.eq_of_toNat_eq ?_
  rw [natBits_low, BitVec.toNat_ofNat, BitVec.toNat_ofNat, Nat.mod_mod]

/-- Settles O23. -/
theorem packetManagementActs : Obligations.PacketManagementActs := by
  unfold Obligations.PacketManagementActs
  rintro s t gd ga gb a h i x b rfl hh hi hx hb
  refine ⟨fun can kept few n d o r p hn hd hr hp c func op which => ?_, fun live buffer owner => ⟨fun can => ⟨?_, ?_⟩, fun can => ?_,
    fun can kept allowed p hp => ⟨fun vat fits => ?_, fun vat full => ?_⟩⟩, fun live can => ⟨?_, ?_⟩, fun op word wait => ?_, fun can => ?_⟩
  · rcases which with ⟨rfl, ho, rfl, rfl⟩ | ⟨rfl, ho, owner, rfl, rfl⟩
    · refine alloc_outcomes can kept few hn hd hr hp ho ?_ (fun _ _ _ _ => rfl) rfl
      rw [ho, actsFor, beq_self_eq_true]
      rfl
    · exact alloc_outcomes can kept few hn hd hr hp ho (ho ▸ owner) (fun _ _ _ _ => rfl) rfl
  · exact congrArg Host.Outcome.next (owned_acts (func := 2) (op := .pfree) (gd := gd) (gb := gb)
      (act := fun i s => advance t.toNat (freeHandle i s)) hh hi hx can live buffer owner rfl)
  · exact pbind_steps hh hi hx can live buffer owner
  · have freed := owned_acts (func := 3) (op := .pfrees) (gd := gd) (gb := gb) (act := fun i u => advance t.toNat
      (freeRange i (natBits (regG (noteIssue t.toNat s) t.toNat gb).toNat 0 6) (natBits (regG (noteIssue t.toNat s) t.toNat gb).toNat 6 6) u)) hh hi hx can live buffer owner rfl
    rw [regG_noteIssue, ← hb] at freed
    exact congrArg Host.Outcome.next freed
  · have bank : p = ownerProf (threadBank (noteIssue t.toNat s) t.toNat) (natBits b 0 8) := by rw [threadBank_noteIssue]; exact hp
    obtain ⟨v, acts, threads, moved⟩ := cabXfer_moves (gd := gd) (word := encR 24 gd ga gb 0 4) (h := h) (a := noteIssue t.toNat s)
      (t := t) (i := i) hx bank allowed vat (by rw [threadBank_noteIssue]; exact fits)
    obtain ⟨same, pc, -, zero⟩ := answers can gd 0 threads rfl
    refine ⟨_, (exec_pxfer hh hi hx hb can live buffer owner kept).trans (congrArg (fun u => Host.Outcome.next (stepIssued t.toNat u)) acts), ?_,
      zero rfl, pc⟩
    rw [same, moved, ofNat8_natBits]
  · have bank : p = ownerProf (threadBank (noteIssue t.toNat s) t.toNat) (natBits b 0 8) := by rw [threadBank_noteIssue]; exact hp
    have acts := cabXfer_refuses (gd := gd) (word := encR 24 gd ga gb 0 4) (h := h) (a := noteIssue t.toNat s)
      (t := t) (i := i) hx bank allowed vat (by rw [threadBank_noteIssue]; exact full)
    have r := ((noteIssue_runs t.toNat s).setG gd 1).advance
    rw [putG_pc] at r
    refine stepTo_of_runs ((exec_pxfer hh hi hx hb can live buffer owner kept).trans
      (congrArg (fun u => Host.Outcome.next (stepIssued t.toNat u)) acts)) ?_ r
    show (putG gd 1 (thr s t.toNat)).st ≠ .stall
    rw [putG_st]
    exact can.not_stalled
  · exact pref_steps hh hi hx can live
  · exact pderef_acts hh hi hx can live
  · show execCabinetAnswer t s = _
    rw [execCabinetAnswer, cabinetAnswer, wait]
  · have stalls : cabInstr t 24 2 .pfree gd ga gb 0 true [ga] [] s = stepIssued t.toNat
        (stallThread t.toNat (.cabinet .pfree gd ga gb (encR 24 gd ga gb 0 2)) ctrStallCabinet (noteIssue t.toNat s)) := issue_can can rfl
    exact congrArg Host.Outcome.next (stalls.trans (stepIssued_stallThread _ _ _ _))

end Sys2Proof.Machine
end

section
/-!
PROOFS. Dovetail locks (O27). The statement compares the marks of progress with those of a state in which the issue is not noted; a table of
threads that lists one thread twice, which no step makes but which the statement admits, loses its second entry when the issue is noted, and a
mark with it.
-/
namespace Sys2Proof.Machine

/-- Thread 0 runs, and a second entry of it in the table, which no lookup reads, waits for lock 0. -/
def twiceListed : State := { cores := { threads := [(0, { st := .run }), (0, { stall := .lock 0 0 0 })] } }

theorem twiceListed_canIssue : CanIssue twiceListed 0 [0] [0] where
  runs := by decide
  after := by decide
  word := by decide
  strong := by decide
  legal := by decide
  settled := by decide
  parity := by decide
  special := by decide
  limit := by decide

/-- What DLOCK g0 of lock 0 does. -/
def dlockZero (n : Nat) (s : State) : State :=
  let k := dovNumber s n 0 0 4096
  let s := checkLock k s
  let l := lockOf s k
  if l.owner.toNat = n then advance n (setG n 0 (grantWord l) s)
  else if l.owner = 4095 then
    let s := takeLock k n s
    advance n (setG n 0 (grantWord (lockOf s k)) s)
  else match lockCycle (s.dov.locks.length + 1) s n k with
    | some others => breakCycle k n 0 (encD 40 0 0 0 0 0) others s
    | none => queueLock k n 0 (encD 40 0 0 0 0 0) s

theorem twiceListed_dlock : exec (.dlock 0 0 0 0 0) twiceListed = .next (stepIssued 0 (dlockZero 0 (noteIssue 0 twiceListed))) :=
  congrArg Host.Outcome.next
    (issue_can (c := { word := encD 40 0 0 0 0 0, srcs := [0], dsts := [0], act := dlockZero }) twiceListed_canIssue rfl)

/-- DLOCK of the free lock 0 by thread 0 leaves cluster 0's detector unmarked: the entry that waited is gone when the lock is taken. -/
theorem twiceListed_unmarked {u : State} (h : exec (.dlock 0 0 0 0 0) twiceListed = .next u) : (detectorOf u 0).progress = false := by
  rw [twiceListed_dlock] at h
  injection h with h
  rw [← h]
  decide

/-- The state that O27 compares with has cluster 0's detector marked. -/
theorem twiceListed_marked : (detectorOf (lockProgress 0 (setLock 0 { lockOf twiceListed 0 with owner := 0 } twiceListed)) 0).progress = true := by
  decide

/-- Refutes O27: where the table of threads lists a thread twice, DLOCK marks no progress for the entry that the note of its issue drops. -/
theorem not_locksAreGranted : ¬ Obligations.LocksAreGranted := by
  unfold Obligations.LocksAreGranted
  intro h
  obtain ⟨-, good⟩ := h twiceListed 0 0 0 0 0 0 _ _ rfl (by decide) rfl
  obtain ⟨granted, -⟩ := (good.1 rfl rfl)
  obtain ⟨⟨u, runs, -, -, rep⟩, -⟩ := granted twiceListed_canIssue (by decide) _ rfl
  have marked : (detectorOf u 0).progress = true := by
    have same : detectorOf u 0 = detectorOf (lockProgress 0 (setLock 0 { lockOf twiceListed 0 with owner := 0 } twiceListed)) 0 :=
      congrArg (fun d : Dovetail => tabGet ({} : Detector) d.detectors 0) rep.dov
    rw [same]
    exact twiceListed_marked
  rw [twiceListed_unmarked runs] at marked
  cases marked

end Sys2Proof.Machine
end

section
/-!
PROOFS. Dovetail channels (O28). As for the locks (O27), the marks of progress that the loss of a channel's pointers leaves are those of a
state in which the issue is not noted; a table of threads that lists one thread twice tells the two apart.
-/
namespace Sys2Proof.Machine

/-- Thread 0 runs, and a second entry of it in the table, which no lookup reads, waits for channel 0, whose pointers have failed. -/
def channelLost : State :=
  { cores := { threads := [(0, { st := .run }), (0, { stall := .chanWrite 0 0 0 })] }
    dov := { bad := [.pointers 0], channels := [(0, { reserved := 1, slots := [(0, { state := .committed, writer := 0, words := [] })] })] } }

theorem channelLost_canIssue : CanIssue channelLost 0 [0] [0] where
  runs := by decide
  after := by decide
  word := by decide
  strong := by decide
  legal := by decide
  settled := by decide
  parity := by decide
  special := by decide
  limit := by decide

/-- DCRES once the checks of its channel's pointers are done. -/
def dcresAct (gd : BitVec 5) (word : Word36) (c n : Nat) (s : State) : State :=
  if mayReserve s c then
    advance n (setG n gd (tokenWord s c (chanOf s c).reserved) (reserveSlot c (BitVec.ofNat 12 n) .reserved [0, 0, 0, 0] s))
  else
    stallThread n (.chanWrite c gd word) ctrStallChannel (setChan c { chanOf s c with writers := (chanOf s c).writers ++ [n] } s)

theorem dcres_acts {s : State} {t : BitVec 9} {gd ga gb : BitVec 5} {imm : BitVec 12} (can : CanIssue s t [ga] [gd]) {c : Nat}
    (hc : c = ((regG s t.toNat ga).toNat + imm.toNat) % 1024) : exec (.dcres t gd ga gb imm) s =
      .next (stepIssued t.toNat (dcresAct gd (encD 41 0 gd ga gb imm) c t.toNat (checkChan c (noteIssue t.toNat s)))) := by
  have number : dovNumber (noteIssue t.toNat s) t.toNat ga imm 1024 = c := by rw [dovNumber, regG_noteIssue, hc]
  show execDcres t gd ga gb imm s = _
  unfold execDcres dovInstr
  dsimp only
  rw [issue_can can rfl]
  dsimp only
  rw [number]
  rfl

/-- The failure of channel 0's pointers, as it stands once it is noted, whatever the reports of it. -/
structure LostNoted (s u : State) : Prop where
  dov : u.dov = { s.dov with bad := [] }
  cores : u.cores = s.cores

theorem noteDovUe_lost {s : State} (weak : s.dov.weak = []) (bad : s.dov.bad = [.pointers 0]) : LostNoted s (noteDovUe 0 (.pointers 0) s) := by
  have r := raise_reports 487 [(0, 16)] (bumpTotal 0x63C 1 (setFlag 0x600 4 (forgetWord (.pointers 0) s)))
  have f : forgetWord (.pointers 0) s = { s with dov := { s.dov with bad := [] } } := by
    unfold forgetWord
    rw [weak, bad]
    have dov : s.dov = { s.dov with weak := [] } := by rw [← weak]
    exact congrArg (fun d : Dovetail => { s with dov := { d with bad := [] } }) dov.symm
  refine ⟨r.dov.trans ?_, r.cores.trans ?_⟩
  · show (forgetWord (.pointers 0) s).dov = _
    rw [f]
  · show (forgetWord (.pointers 0) s).cores = _
    rw [f]

theorem checkChan_lost {s : State} (weak : s.dov.weak = []) (bad : s.dov.bad = [.pointers 0]) (waits : ∀ u, LostNoted s u →
    (chanOf (reclaim 0 (voidChannel 0 u)) 0).writers = []) :
    ∃ u, LostNoted s u ∧ checkChan 0 s = reclaim 0 (voidChannel 0 u) := by
  refine ⟨_, noteDovUe_lost weak bad, ?_⟩
  have none : correctDov [.pointers 0] s = s := by
    unfold correctDov
    rw [weak]
    rfl
  unfold checkChan
  dsimp only
  rw [none, weak, bad]
  have w := waits _ (noteDovUe_lost weak bad)
  show (chanOf (voidPointers 0 s) 0).writers.foldl (fun a t => recoveryAbort t a) (voidPointers 0 s) = _
  rw [voidPointers, w]
  rfl

/-! ### The two detectors -/

theorem detectorOf_stepIssued (t k : Nat) (s : State) : detectorOf (stepIssued t s) k = detectorOf s k := by
  unfold stepIssued
  split
  · rfl
  · rw [stepDone_threads]
    rfl

theorem channelLost_marked : (detectorOf (reserveSlot 0 0 .reserved [0, 0, 0, 0] (checkChan 0 channelLost)) 0).progress = true := by
  have alone : ∀ u, LostNoted channelLost u → (chanOf (reclaim 0 (voidChannel 0 u)) 0).writers = [] := by
    rintro ⟨⟩ ⟨dov, cores⟩
    dsimp only at dov cores
    subst dov cores
    rfl
  obtain ⟨u, noted, e⟩ := checkChan_lost (s := channelLost) rfl rfl alone
  rw [e]
  rcases u
  obtain ⟨dov, cores⟩ := noted
  dsimp only at dov cores
  subst dov cores
  rfl

/-- DCRES of channel 0 leaves cluster 0's detector unmarked: the entry that waited is gone when the channel is emptied. -/
theorem channelLost_unmarked {u : State} (h : exec (.dcres 0 0 0 0 0) channelLost = .next u) : (detectorOf u 0).progress = false := by
  have alone : ∀ u, LostNoted (noteIssue 0 channelLost) u → (chanOf (reclaim 0 (voidChannel 0 u)) 0).writers = [] := by
    rintro ⟨⟩ ⟨dov, cores⟩
    dsimp only at dov cores
    subst dov cores
    rfl
  obtain ⟨v, noted, e⟩ := checkChan_lost (s := noteIssue 0 channelLost) rfl rfl alone
  have acts := dcres_acts (gb := 0) (imm := 0) channelLost_canIssue (c := 0) (by decide)
  have checked : checkChan 0 (noteIssue (0 : BitVec 9).toNat channelLost) = reclaim 0 (voidChannel 0 v) := e
  rw [checked] at acts
  have h := Host.Outcome.next.inj (acts.symm.trans h)
  have room : mayReserve (reclaim 0 (voidChannel 0 v)) 0 = true := by
    rcases v
    obtain ⟨dov, cores⟩ := noted
    dsimp only at dov cores
    subst dov cores
    rfl
  rw [← h, detectorOf_stepIssued, dcresAct, if_pos room]
  have threads : (noteIssue 0 channelLost).cores = { threads := [(0, { st := .run })] } := by decide
  rcases v
  obtain ⟨dov, cores⟩ := noted
  rw [threads] at cores
  dsimp only at dov cores
  subst dov cores
  rfl

/-- Refutes O28: where the table of threads lists a thread twice, DCRES marks no progress for the entry that the note of its issue drops. -/
theorem not_channelsPass : ¬ Obligations.ChannelsPass := by
  unfold Obligations.ChannelsPass
  intro h
  obtain ⟨lost, -⟩ := h.1 channelLost 0 0 0 0 0 0 _ rfl (by decide)
  obtain ⟨u, runs, -, -, rep⟩ := lost channelLost_canIssue (by decide) (by decide) (by decide)
  have marked : (detectorOf u 0).progress = true := by
    have same : detectorOf u 0 =
        detectorOf (reserveSlot 0 (BitVec.ofNat 12 (0 : BitVec 9).toNat) .reserved [0, 0, 0, 0] (checkChan 0 channelLost)) 0 :=
      congrArg (fun d : Dovetail => tabGet ({} : Detector) d.detectors 0) rep.dov
    rw [same]
    exact channelLost_marked
  rw [channelLost_unmarked runs] at marked
  cases marked

end Sys2Proof.Machine
end

section
/-!
PROOFS. Lookups of programs (O30): how they are sent, and how the engine's answers land (R304-R307, R384, R408, R421).
-/
namespace Sys2Proof.Machine

/-! ### The greatest of a list -/

theorem argMax_none {α : Type} {f : α → Nat} {l : List α} (h : argMax f l = none) : l = [] := by
  cases l with
  | nil => rfl
  | cons x r =>
    unfold argMax at h
    split at h
    · cases h
    · split at h <;> cases h

/-- The choice of `argMax` is listed, and nothing listed is greater. -/
theorem argMax_greatest {α : Type} {f : α → Nat} {l : List α} {x : α} (h : argMax f l = some x) : x ∈ l ∧ ∀ y ∈ l, f y ≤ f x := by
  induction l generalizing x with
  | nil => cases h
  | cons z r ih =>
    unfold argMax at h
    split at h
    · next none =>
      cases h
      rw [argMax_none none]
      exact ⟨List.mem_singleton.mpr rfl, fun y hy => Nat.le_of_eq (congrArg f (List.mem_singleton.mp hy))⟩
    · next y best =>
      obtain ⟨mem, most⟩ := ih best
      split at h
      · next more =>
        cases h
        exact ⟨List.mem_cons_of_mem _ mem, List.forall_mem_cons.mpr ⟨Nat.le_of_lt more, most⟩⟩
      · next less =>
        cases h
        exact ⟨List.mem_cons_self, List.forall_mem_cons.mpr ⟨Nat.le_refl _, fun v hv => Nat.le_trans (most v hv) (Nat.le_of_not_lt less)⟩⟩

/-! ### LKUP and LKWAIT issue -/

section
variable {s : State} {t : BitVec 9} {gd ga gb : BitVec 5} {table : BitVec 6} {op : Nat}

theorem outstanding_noteIssue (t k : Nat) (s : State) : outstanding (noteIssue t s) k = outstanding s k := rfl

/-- What an LKUP does at its issue. -/
def lkupAct (op : Nat) (gd ga gb : BitVec 5) (x : Bool) (table : BitVec 6) (n : Nat) (s : State) : State :=
  if 4 ≤ outstanding s n then stallThread n (.lookupFull op gd ga gb x table) ctrStallLookup s
  else match badKey s n op ga gb table with
  | some w => haltThread n 0x04 (encL gd ga gb x table op 0) w (noteDmemUe (coreOf n) w s)
  | none => if x then advance n (sendLookup n op gd ga gb x table s) else stallThread n .lookup ctrStallLookup (sendLookup n op gd ga gb x table s)

theorem lkupInstr_acts (x : Bool) (can : CanIssue s t [ga, gb] [gd]) :
    lkupInstr t op gd ga gb x table 0 s = stepIssued t.toNat (lkupAct op gd ga gb x table t.toNat (noteIssue t.toNat s)) := by
  unfold lkupInstr
  rw [issue_can can rfl]
  rfl

theorem lkup_outcomes (x : Bool) {c : Instr} {a : State} (ha : a = noteIssue t.toNat s) (can : CanIssue s t [ga, gb] [gd])
    (runs : exec c s = .next (lkupInstr t op gd ga gb x table 0 s)) :
    (outstanding s t.toNat < 4 → badKey a t.toNat op ga gb table = none → exec c s = .next (if x
      then stepIssued t.toNat (advance t.toNat (sendLookup t.toNat op gd ga gb x table a))
      else stallThread t.toNat .lookup ctrStallLookup (sendLookup t.toNat op gd ga gb x table a))) ∧
    (∀ w, outstanding s t.toNat < 4 → badKey a t.toNat op ga gb table = some w → exec c s = .next
      (stepIssued t.toNat (haltThread t.toNat 0x04 (encL gd ga gb x table op 0) w (noteDmemUe (coreOf t.toNat) w a)))) ∧
    (4 ≤ outstanding s t.toNat → exec c s = .next (stallThread t.toNat (.lookupFull op gd ga gb x table) ctrStallLookup a)) := by
  rw [runs, lkupInstr_acts x can, lkupAct, outstanding_noteIssue, ← ha]
  refine ⟨fun room good => ?_, fun w room bad => ?_, fun full => ?_⟩
  · rw [if_neg (Nat.not_le.mpr room), good]
    cases x
    · exact congrArg Host.Outcome.next (stepIssued_stallThread _ _ _ _)
    · rfl
  · rw [if_neg (Nat.not_le.mpr room), bad]
  · rw [if_pos full, stepIssued_stallThread]

theorem exec_lkwait (can : CanIssue s t [] []) : exec (.lkwait t 0) s = .next (stepIssued t.toNat
    (if 0 < outstanding s t.toNat then stallThread t.toNat .lookupWait ctrStallLookup (noteIssue t.toNat s)
      else advance t.toNat (noteIssue t.toNat s))) := by
  show execLkwait t 0 s = _
  unfold execLkwait
  rw [issue_can can rfl]
  rfl

end

/-! ### Operations end (R384, R397) -/

theorem mustPrecede_eq (s : State) (p o : LkOp) :
    mustPrecede s p o = (p.table == o.table && (p.thread == o.thread || shareBucket s o.table p.key o.key)) := by
  unfold mustPrecede
  by_cases h : p.table = o.table
  · rw [h]
  · rw [beq_false_of_ne h, Bool.false_and, Bool.false_and]

theorem lookupComplete_lands {s : State} {index i : Nat} {o : LkOp} {r : LkAnswer × State} (found : s.lk.ops[index]? = some (i, o))
    (first : (s.lk.ops.take index).any (fun p =>
      p.2.table == o.table && (p.2.thread == o.thread || shareBucket s o.table p.2.key o.key)) = false)
    (awake : ∀ p ∈ opSpans s o, dramAsleep s p.1 p.2 = false)
    (hr : r = runLookup (opSeen s o) (noteOp o (updLk (fun l => { l with ops := tabErase l.ops i }) s))) :
    exec (.lookupComplete index) s = .next (landStatus i o r.1.status (dmemPuts (coreOf o.thread) o.result r.1.words r.2)) := by
  show execLookupComplete index s = _
  unfold execLookupComplete
  rw [found]
  dsimp only
  simp only [mustPrecede_eq]
  rw [first, if_neg Bool.false_ne_true, whenAwake_awake awake, hr]
  rfl

/-! ### Tries (R408, R412, R421) -/

theorem lkStatus_code {c d : Nat} (hc : c < 16) (hd : d < 2 ^ 32) : natBits (lkStatus c d).toNat 32 4 = c := by
  rw [natBits, lkStatus, BitVec.toNat_ofNat]
  omega

theorem packNat_lt (l : List (Nat × Nat)) : packNat l < 2 ^ (l.map (·.2)).sum := by
  induction l with
  | nil => exact Nat.one_pos
  | cons p r ih =>
    have low : p.1 % 2 ^ p.2 < 2 ^ p.2 := Nat.mod_lt _ (Nat.two_pow_pos _)
    rw [List.map_cons, List.sum_cons, packNat, Nat.pow_add]
    calc p.1 % 2 ^ p.2 + 2 ^ p.2 * packNat r
        < 2 ^ p.2 * (packNat r + 1) := by rw [Nat.mul_succ]; omega
      _ ≤ 2 ^ p.2 * 2 ^ (r.map (·.2)).sum := Nat.mul_le_mul_left _ ih

theorem lookupTrie_bad {s : State} {k x : Nat} {q : Nat × Nat} (h : badRead s k x = some q) :
    natBits (lookupTrie k x s).1.status.toNat 32 4 = 2 ∧ (lookupTrie k x s).1.words = [] ∧
      Rewrite.trie k q.1 q.2 ∈ (lookupTrie k x s).2.lk.rewrites := by
  obtain ⟨u, hu⟩ : ∃ u, u = lkDevice 0 (trieSlots s k x) (lkCount k 0 1 s) := ⟨_, rfl⟩
  have bad : badRead u k x = some q := by rw [hu]; exact h
  obtain ⟨v, hv⟩ : ∃ v, v = raise 257 [(k, 8), (q.1, 8), (q.2, 32)] (lkCount k 3 1 (setFlag 0x500 0 u)) := ⟨_, rfl⟩
  have answer : lookupTrie k x s = ({ status := lkStatus 2 (packNat [(q.2, 23), (0, 3), (q.1, 3)]) },
      if v.lk.rewrites.contains (.trie k q.1 q.2) then v else updLk (fun l => { l with rewrites := l.rewrites ++ [.trie k q.1 q.2] }) v) := by
    unfold lookupTrie
    dsimp only
    rw [← hu, bad]
    dsimp only
    rw [← hv]
  rw [answer]
  refine ⟨lkStatus_code (by decide) (Nat.lt_of_lt_of_le (packNat_lt _) (Nat.pow_le_pow_right (by decide) (by simp))), rfl, ?_⟩
  dsimp only
  split
  · next listed => exact List.contains_iff_mem.mp listed
  · exact List.mem_append_right _ (List.mem_singleton.mpr rfl)

theorem lookupTrie_match {s : State} {k x : Nat} {r : Route} (good : badRead s k x = none) (found : longestMatch s k x = some r) :
    ((lookupTrie k x s).1.words.head? = some (tabGet (0, 0) s.lk.results r.index).1) ∧
      natBits (lookupTrie k x s).1.status.toNat 32 4 = 0 := by
  obtain ⟨u, hu⟩ : ∃ u, u = lkDevice 0 (trieSlots s k x) (lkCount k 0 1 s) := ⟨_, rfl⟩
  have good : badRead u k x = none := by rw [hu]; exact good
  have found : longestMatch u k x = some r := by rw [hu]; exact found
  have results : u.lk.results = s.lk.results := by rw [hu]; rfl
  have answer : (lookupTrie k x s).1 = { status := lkStatus 0 (packNat [(r.index, 20), (r.plen, 8)])
                                         words := [(tabGet (0, 0) s.lk.results r.index).1
                                                   , BitVec.ofNat 36 (packNat [((tabGet (0, 0) s.lk.results r.index).2.toNat, 28), (r.plen, 8)])] } := by
    unfold lookupTrie
    dsimp only
    rw [← hu, good]
    dsimp only
    rw [found]
    dsimp only
    rw [results]
  rw [answer]
  exact ⟨rfl, lkStatus_code (by decide) (Nat.lt_of_lt_of_le (packNat_lt _) (Nat.pow_le_pow_right (by decide) (by simp)))⟩

/-- Settles O30. -/
theorem lookupsRunAndLand : Obligations.LookupsRunAndLand := by
  unfold Obligations.LookupsRunAndLand
  intro s t gd ga gb table a ha
  refine ⟨fun c op which can => ?_, fun can => ⟨fun none => ?_, fun some_ => ?_⟩,
    fun index i o r found first awake hr => lookupComplete_lands found first awake hr, fun k x q bad => lookupTrie_bad bad, fun k x r good found => ?_⟩
  · have runs (x : Bool) : exec (c x) s = .next (lkupInstr t op gd ga gb x table 0 s) := by
      rcases which with ⟨hc, rfl⟩ | ⟨hc, rfl⟩ | ⟨hc, rfl⟩ <;> rw [hc x] <;> rfl
    refine ⟨fun room good x b u hb hu => ?_, fun x w => (lkup_outcomes x ha can (runs x)).2.1 w, fun x => (lkup_outcomes x ha can (runs x)).2.2⟩
    have sent : sendLookup t.toNat op gd ga gb x table a = u := by rw [hu, sendLookup, ← hb]
    rw [(lkup_outcomes x ha can (runs x)).1 room good, sent]
  · refine stepTo_of_runs ((exec_lkwait can).trans ?_) can.not_stalled (noteIssue_runs t.toNat s).advance
    rw [none, if_neg (Nat.lt_irrefl 0)]
  · rw [exec_lkwait can, if_pos some_, stepIssued_stallThread, ha]
  · obtain ⟨mem, most⟩ := argMax_greatest found
    obtain ⟨listed, same⟩ := List.mem_filter.mp mem
    obtain ⟨word, status⟩ := lookupTrie_match good found
    exact ⟨listed, same, fun q hq sq => most q (List.mem_filter.mpr ⟨hq, sq⟩), word, status⟩

end Sys2Proof.Machine
end

section
/-!
PROOFS. Fenced channels and the schedulers of DRAM: what a store leaves of a fenced channel, what DRAM_FENCE does to the other channels, the
refreshes that are due, panic, and the order in which a subchannel's requests are taken.
-/
namespace Sys2Proof.Machine

/-- The host interface is untouched and every channel stays fenced or not, as it was. -/
structure FencesStand (s u : State) : Prop where
  apart : Apart s u
  fenced : ∀ c, (chanState u c).fenced = (chanState s c).fenced

theorem FencesStand.refl (s : State) : FencesStand s s := ⟨.refl s, fun _ => rfl⟩

theorem FencesStand.trans {a b c : State} (h : FencesStand a b) (k : FencesStand b c) : FencesStand a c :=
  ⟨h.apart.trans k.apart, fun n => (k.fenced n).trans (h.fenced n)⟩

theorem FencesStand.ite {c : Prop} [Decidable c] {s a b : State} (h : FencesStand s a) (k : FencesStand s b) :
    FencesStand s (if c then a else b) := by
  split <;> assumption

theorem FencesStand.foldl {α : Type} {f : State → α → State} (h : ∀ a x, FencesStand a (f a x)) (l : List α) (s : State) :
    FencesStand s (l.foldl f s) := by
  induction l generalizing s with
  | nil => exact .refl s
  | cons x l ih => exact (h s x).trans (ih _)

theorem FencesStand.of_eq {s u : State} (host : u.host = s.host) (chans : u.dram.chans = s.dram.chans) : FencesStand s u :=
  ⟨.of_host host, fun c => by rw [chanState, chans]; rfl⟩

theorem FencesStand.of_accesses {s u : State} (h : Accesses s u) : FencesStand s u := ⟨.of_host h.host, h.fenced⟩

theorem raise_fencesStand (src : Nat) (data : List (Nat × Nat)) (s : State) : FencesStand s (raise src data s) :=
  ⟨raise_apart src data s, fun c => by rw [chanState, (raise_reports src data s).dram]; rfl⟩

theorem dramWrite_fencesStand (port a : Nat) (bs : List Byte) (bad : Bool) (s : State) : FencesStand s (dramWrite port a bs bad s) :=
  .trans (b := dramStore a bs s) (.of_eq rfl rfl)
    (.trans (b := noteAccess port true a bs.length (dramStore a bs s)) (.of_accesses (noteAccess_accesses _ _ _ _ _)) (.of_eq rfl rfl))

theorem setFlag_fencesStand (off bit : Nat) (s : State) : FencesStand s (setFlag off bit s) := .of_eq rfl rfl

theorem loseSpilled_fencesStand (c : Nat) (s : State) : FencesStand s (loseSpilled c s) := .of_eq rfl rfl

theorem takeSpare_fencesStand {n a : Nat} {s u : State} (h : takeSpare n s = some (a, u)) : FencesStand s u := by
  unfold takeSpare at h
  dsimp only at h
  split at h
  · obtain ⟨-, rfl⟩ := Prod.mk.inj (Option.some.inj h)
    exact .of_eq rfl rfl
  · cases h

theorem setGroup_fencesStand (g : Nat) (x : Group) (s : State) : FencesStand s (setGroup g x s) := .of_eq rfl rfl

theorem ringFill_fencesStand (g base : Nat) (spill : Bool) (cells : List Nat) (s : State) : FencesStand s (ringFill g base spill cells s) :=
  dramWrite_fencesStand _ _ _ _ _

theorem rebuildSpill_fencesStand (g : Nat) (s : State) : FencesStand s (rebuildSpill g s) := by
  unfold rebuildSpill
  dsimp only
  split
  · exact .ite (setGroup_fencesStand _ _ _) (.trans (b := count .cabinet 0 6 1 s) (.of_eq rfl rfl) (setGroup_fencesStand _ _ _))
  · next taken => exact (takeSpare_fencesStand taken).trans ((setGroup_fencesStand _ _ _).trans (ringFill_fencesStand _ _ _ _ _))

theorem rebuildVat_fencesStand (g : Nat) (s : State) : FencesStand s (rebuildVat g s) := by
  unfold rebuildVat
  dsimp only
  split
  · exact setGroup_fencesStand _ _ _
  · next taken => exact (takeSpare_fencesStand taken).trans ((setGroup_fencesStand _ _ _).trans (ringFill_fencesStand _ _ _ _ _))

theorem fenceGroup_fencesStand (c : Nat) (s : State) (g : Nat) : FencesStand s (fenceGroup c s g) := by
  unfold fenceGroup
  dsimp only
  have spill (b : Bool) : FencesStand s (if b = true then rebuildSpill g (retireCells g s) else s) :=
    .ite (.trans (b := retireCells g s) (.of_eq rfl rfl) (rebuildSpill_fencesStand _ _)) (.refl s)
  exact .ite ((spill _).trans (rebuildVat_fencesStand _ _)) (spill _)

theorem reportLost_fencesStand (c : Nat) (s : State) : FencesStand s (reportLost c s) :=
  .foldl (fun a _ => .ite (.trans (b := setFlag 0x5C0 7 a) (.of_eq rfl rfl) (raise_fencesStand _ _ _)) (.refl a)) _ s

theorem setChanState_apart (c : Nat) (x : DramChannel) (s : State) : Apart s (setChanState c x s) := .of_host rfl

theorem fenceChannel_open {c cause : Nat} {s : State} (h : (chanState s c).fenced = false) :
    FencesStand (setChanState c { chanState s c with fenced := true, subA := {}, subB := {}, owed := [] } s) (fenceChannel c cause s) := by
  rw [fenceChannel, if_neg (by rw [h]; exact Bool.false_ne_true)]
  exact (FencesStand.of_accesses (resumeWaits_accesses c _)).trans ((loseSpilled_fencesStand c _).trans
    ((FencesStand.foldl (fenceGroup_fencesStand c) (List.range 8) _).trans ((setFlag_fencesStand _ _ _).trans
      ((raise_fencesStand _ _ _).trans (reportLost_fencesStand c _)))))

/-- Fencing an open channel fences it and no other. -/
theorem fenceChannel_fenced {c cause : Nat} {s : State} (h : (chanState s c).fenced = false) (k : Nat) :
    (chanState (fenceChannel c cause s) k).fenced = if k = c then true else (chanState s k).fenced := by
  rw [(fenceChannel_open h).fenced k]
  split
  · next e =>
    rw [e]
    exact congrArg DramChannel.fenced (tabGet_set_self _ _ _ _)
  · next e => exact congrArg DramChannel.fenced (tabGet_set_of_ne _ _ _ e)

theorem fenceChannel_apart (c cause : Nat) (s : State) : Apart s (fenceChannel c cause s) := by
  cases h : (chanState s c).fenced with
  | false => exact (setChanState_apart _ _ s).trans (fenceChannel_open h).apart
  | true =>
    rw [fenceChannel, if_pos h]
    exact .refl s

theorem dramFence_fences {s : State} {m : BitVec 4} (room : completionRoom s = true) (h : Accepted dramFence m s)
    (unfenced : (chanState s (par s m 0 1)).fenced = false) (pop : par s m 0 1 ∈ populated s) :
    ∃ t, exec (.dramFence m) s = .next t ∧ Completed m 0 s t ∧ (chanState t (par s m 0 1)).fenced = true ∧
      (∀ c, c ≠ par s m 0 1 → (chanState t c).fenced = (chanState s c).fenced) := by
  have body : bodyOf dramFence m s = okCmd (fenceChannel (par s m 0 1) 2 (startCmd m.toNat s)) := by
    show (if (chanState s (par s m 0 1)).fenced || !(populated s).contains (par s m 0 1) then refuse _ 3 else _) = _
    rw [unfenced, List.contains_iff_mem.mpr pop]
    rfl
  obtain ⟨t, ht, done, -, rep⟩ := effect_of_apart (f := fenceChannel (par s m 0 1) 2) h body (by decide) room (fenceChannel_apart _ _ _)
  have fences (k : Nat) : (chanState t k).fenced = if k = par s m 0 1 then true else (chanState s k).fenced := by
    rw [chanState, rep.dram]
    exact fenceChannel_fenced (s := startCmd m.toNat s) unfenced k
  exact ⟨t, ht, done, (fences _).trans (if_pos rfl), fun c ne => (fences c).trans (if_neg ne)⟩

/-! The refreshes that are due. -/

theorem chans_chanCountSome (c i n : Nat) (s : State) : (chanCountSome c i n s).dram.chans = s.dram.chans := by
  unfold chanCountSome
  split <;> rfl

theorem chanState_issueRefresh (c k : Nat) (s : State) : chanState (issueRefresh c k s) c = { chanState s c with
    owed := tabErase (chanState s c).owed k, subA := closeRows k (chanState s c).subA, subB := closeRows k (chanState s c).subB } := by
  unfold issueRefresh
  dsimp only
  rw [chanState, chans_chanCountSome]
  exact tabGet_set_self _ _ _ _

/-- What a round of refreshes does to its channel: the regions refreshed owe nothing, and what is queued stands. -/
structure Refreshed (c : Nat) (done : List Nat) (s u : State) : Prop where
  paid : ∀ k ∈ done, tabFind (chanState u c).owed k = none
  clear : ∀ k, tabFind (chanState s c).owed k = none → tabFind (chanState u c).owed k = none
  queueA : (chanState u c).subA.queue = (chanState s c).subA.queue
  queueB : (chanState u c).subB.queue = (chanState s c).subB.queue

theorem tabFind_erase_none {α : Type} {t : Tab α} {k : Nat} (e : Nat) (h : tabFind t k = none) : tabFind (tabErase t e) k = none := by
  rw [tabFind_erase]
  split
  · rfl
  · exact h

theorem issueRefresh_refreshed (c k : Nat) (s : State) : Refreshed c [k] s (issueRefresh c k s) where
  paid j hj := by
    rw [chanState_issueRefresh, List.mem_singleton.mp hj]
    show tabFind (tabErase _ k) k = none
    rw [tabFind_erase, if_pos rfl]
  clear j hj := by
    rw [chanState_issueRefresh]
    exact tabFind_erase_none k hj
  queueA := by rw [chanState_issueRefresh]; rfl
  queueB := by rw [chanState_issueRefresh]; rfl

theorem foldl_issueRefresh_refreshed (c : Nat) (l : List (Nat × Nat)) (s : State) :
    Refreshed c (l.map (·.1)) s (l.foldl (fun a o => issueRefresh c o.1 a) s) := by
  induction l generalizing s with
  | nil => exact ⟨fun _ h => absurd h (List.not_mem_nil), fun _ h => h, rfl, rfl⟩
  | cons o l ih =>
    have first := issueRefresh_refreshed c o.1 s
    have rest := ih (issueRefresh c o.1 s)
    refine ⟨fun k hk => ?_, fun k hk => rest.clear k (first.clear k hk), rest.queueA.trans first.queueA, rest.queueB.trans first.queueB⟩
    rcases List.mem_cons.mp hk with rfl | hk
    · exact rest.clear _ (first.paid _ List.mem_cons_self)
    · exact rest.paid k hk

theorem channelCycle_due {s : State} {c : Nat} (serves : chanServes s c = true) (due : ∃ o ∈ (chanState s c).owed, 4 ≤ o.2) :
    channelCycle s c = issueDue c s := by
  have any : (chanState s c).owed.any (fun o => decide (4 ≤ o.2)) = true := by
    obtain ⟨o, ho, four⟩ := due
    exact List.any_eq_true.mpr ⟨o, ho, decide_eq_true four⟩
  rw [channelCycle, if_neg (by rw [serves]; exact Bool.false_ne_true), if_pos any]

/-! Panic. -/

theorem updDram_drawn_reports (f : Dram → Dram) (s : State) : Reports (updDram f s) (updDram f (drawFree s)) :=
  drawFree_reports (updDram f s)

theorem panicChange_begins {s : State} (calm : s.dram.panic = false) (wanted : refillWanted s = true)
    (low : fillLevel s < s.dram.panicLevel * 4096) :
    ∃ t, exec .panicChange s = .next t ∧ Reports (updDram (fun d => { d with panic := true }) s) t := by
  refine ⟨_, congrArg Host.Outcome.next (if_pos (by rw [calm, wanted, decide_eq_true low]; rfl)), ?_⟩
  exact (updDram_drawn_reports _ s).trans ((setFlag_reports _ _ _).trans (raise_reports _ _ _))

theorem panicChange_ends {s : State} (alarm : s.dram.panic = true)
    (high : s.dram.panicLevel = 0 ∨ refillWanted s = false ∨ (s.dram.panicLevel + s.dram.panicHyst) * 4096 ≤ fillLevel s) :
    ∃ t, exec .panicChange s = .next t ∧ Reports (updDram (fun d => { d with panic := false }) s) t := by
  have ending : (s.dram.panicLevel == 0 || !refillWanted s ||
      decide ((s.dram.panicLevel + s.dram.panicHyst) * 4096 ≤ fillLevel s)) = true := by
    simp only [Bool.or_eq_true, beq_iff_eq, Bool.not_eq_true', decide_eq_true_eq, or_assoc]
    exact high
  refine ⟨_, congrArg Host.Outcome.next ((if_neg (by rw [alarm]; exact Bool.false_ne_true)).trans (if_pos (by rw [alarm, ending]; rfl))), ?_⟩
  exact (updDram_drawn_reports _ s).trans (raise_reports _ _ _)

/-! The mode of a subchannel (R544), and the request it takes (R542, R545, R547). -/

section
variable {k : SchedRules} {q : SubChannel}

/-- The writes queued in a subchannel. -/
def SubChannel.writes (q : SubChannel) : Nat := (q.queue.filter (·.write)).length

theorem SubChannel.writes_lt (h : ∃ r ∈ q.queue, r.write = false) : q.writes < q.queue.length := by
  obtain ⟨r, mem, read⟩ := h
  exact List.length_filter_lt_length_iff_exists.mpr ⟨r, mem, by simp [read]⟩

theorem SubChannel.writes_eq (h : ∀ r ∈ q.queue, r.write = true) : q.writes = q.queue.length := by
  rw [SubChannel.writes, List.filter_eq_self.mpr h]

theorem SubChannel.nextMode_eq_true : q.nextMode k = true ↔
    (k.wrHigh ≤ q.writes ∨ (q.writes = q.queue.length ∧ 0 < q.writes)) ∨ (q.writeMode = true ∧ k.wrLow < q.writes) := by
  simp only [SubChannel.nextMode, SubChannel.writes, Bool.or_eq_true, Bool.and_eq_true, decide_eq_true_eq, beq_iff_eq]

theorem nextMode_mixed (reads : ∃ r ∈ q.queue, r.write = false) (low : q.writes < k.wrHigh) :
    q.nextMode k = (q.writeMode && decide (k.wrLow < q.writes)) := by
  have fewer := SubChannel.writes_lt reads
  rw [Bool.eq_iff_iff, SubChannel.nextMode_eq_true, Bool.and_eq_true, decide_eq_true_eq]
  constructor
  · rintro ((h | ⟨h, -⟩) | h)
    · omega
    · omega
    · exact h
  · exact .inr

theorem nextMode_low (lowHigh : k.wrLow < k.wrHigh) (reads : ∃ r ∈ q.queue, r.write = false) (low : q.writes ≤ k.wrLow) :
    q.nextMode k = false := by
  rw [nextMode_mixed reads (Nat.lt_of_le_of_lt low lowHigh), decide_eq_false (Nat.not_lt.mpr low), Bool.and_false]

theorem nextMode_between (reads : ∃ r ∈ q.queue, r.write = false) (low : k.wrLow < q.writes) (high : q.writes < k.wrHigh) :
    q.nextMode k = q.writeMode := by
  rw [nextMode_mixed reads high, decide_eq_true low, Bool.and_true]

theorem find?_first {α : Type} {p : α → Bool} {r : α} {older newer : List α} (none_ : ∀ x ∈ older, p x = false) (h : p r = true) :
    (older ++ r :: newer).find? p = some r := by
  rw [List.find?_append, List.find?_eq_none.mpr (fun x hx => by rw [none_ x hx]; exact Bool.false_ne_true), List.find?_cons_of_pos h]
  rfl

/-- Out of panic a subchannel looks for aged requests, then for row hits of its mode. -/
theorem choose_calm (calm : k.panic = false) : q.choose k =
    (q.queue.find? (fun r => decide (r.since + k.age < q.clock) && q.able k r) <|>
      q.queue.find? (fun r => r.write == q.writeMode && q.hits r) <|> q.nextActivate k) := by
  unfold SubChannel.choose
  rw [calm]
  rfl

theorem choose_burst {r : DramReq} (alarm : k.panic = true) (begun : q.begun = some r) : q.choose k = some r := by
  unfold SubChannel.choose
  rw [alarm, begun]
  rfl

theorem choose_refill (alarm : k.panic = true) (begun : q.begun = none) (some_ : ∃ r ∈ q.queue, r.port = 0 ∧ q.able k r = true) :
    ∃ r, q.choose k = some r ∧ r.port = 0 ∧ q.able k r = true := by
  obtain ⟨x, mem, port, able⟩ := some_
  have found : (q.queue.find? (fun r => r.port == 0 && q.able k r)).isSome = true :=
    List.find?_isSome.mpr ⟨x, mem, by rw [port, able]; rfl⟩
  obtain ⟨r, hr⟩ := Option.isSome_iff_exists.mp found
  have good := List.find?_some hr
  simp only [Bool.and_eq_true, beq_iff_eq] at good
  refine ⟨r, ?_, good⟩
  unfold SubChannel.choose
  rw [alarm, begun, if_pos rfl, hr]
  rfl

theorem choose_aged {r : DramReq} {older newer : List DramReq} (calm : k.panic = false) (queue : q.queue = older ++ r :: newer)
    (before : ∀ x ∈ older, x.since + k.age < q.clock → q.able k x = false) (aged : r.since + k.age < q.clock) (able : q.able k r = true) :
    q.choose k = some r := by
  have first := find?_first (p := fun r => decide (r.since + k.age < q.clock) && q.able k r) (newer := newer)
    (fun x hx => by
      cases h : decide (x.since + k.age < q.clock) with
      | false => rfl
      | true => exact before x hx (of_decide_eq_true h))
    (show _ from by rw [decide_eq_true aged, able]; rfl)
  rw [choose_calm calm, queue, first]
  rfl

theorem choose_hit {r : DramReq} {older newer : List DramReq} (calm : k.panic = false)
    (unable : ∀ x ∈ q.queue, x.since + k.age < q.clock → q.able k x = false) (queue : q.queue = older ++ r :: newer)
    (before : ∀ x ∈ older, x.write = q.writeMode → q.hits x = false) (mode : r.write = q.writeMode) (hit : q.hits r = true) :
    q.choose k = some r := by
  have noneAged : q.queue.find? (fun r => decide (r.since + k.age < q.clock) && q.able k r) = none :=
    List.find?_eq_none.mpr (fun x hx both => by
      simp only [Bool.and_eq_true, decide_eq_true_eq] at both
      exact Bool.false_ne_true ((unable x hx both.1).symm.trans both.2))
  have first := find?_first (p := fun r => r.write == q.writeMode && q.hits r) (newer := newer)
    (fun x hx => by
      cases h : x.write == q.writeMode with
      | false => rfl
      | true => exact before x hx (beq_iff_eq.mp h))
    (show _ from by rw [mode, hit, beq_self_eq_true]; rfl)
  rw [choose_calm calm, noneAged, queue, first]
  rfl

end

/-! What a store leaves of a fenced channel (R565). -/

theorem lineClosed_of_place {s : State} {l c x : Nat} (started : s.dram.started = true) (place : dramPlace s (64 * l) = some (c, x)) :
    lineClosed s l = (chanState s c).fenced := by
  unfold lineClosed
  rw [started, place]
  rfl

theorem lineClosed_open {s : State} {l : Nat} (started : s.dram.started = true)
    (open_ : ∀ c x, dramPlace s (64 * l) = some (c, x) → (chanState s c).fenced = false) : lineClosed s l = false := by
  cases h : dramPlace s (64 * l) with
  | none => rw [lineClosed, started, h]; rfl
  | some p => exact (lineClosed_of_place started h).trans (open_ p.1 p.2 h)

/-- Settles O42: the DRAM schedulers, their channels' fences, and panic, from the lemmas above. -/
theorem fencedChannelsKeepNothing : Obligations.FencedChannelsKeepNothing := by
  unfold Obligations.FencedChannelsKeepNothing
  refine ⟨fun s a bs started => ⟨fun l c x place fenced => ?_, fun k out => ?_, fun i hi open_ => ?_⟩,
    fun s m room => dramFence_fences room, fun s c serves due => ?_, fun s => ⟨panicChange_begins, panicChange_ends⟩,
    fun k q lowHigh => ⟨fun high => ?_, fun reads low => ?_, fun reads low high => ?_, fun some_ writes => ?_⟩,
    fun k q => ⟨fun alarm r begun => choose_burst alarm begun, choose_refill, fun calm r older newer queue => choose_aged calm queue,
      fun calm unable r older newer queue => choose_hit calm unable queue⟩⟩
  · have closed := (lineClosed_of_place started place).trans fenced
    refine ⟨by rw [linePoisoned, closed, Bool.or_true], fun k hk => ?_⟩
    rw [memGet_dramStore, if_neg (fun h => Bool.false_ne_true (h.2.2.symm.trans (hk ▸ closed)))]
  · rw [memGet_dramStore, if_neg (by omega)]
  · rw [memGet_dramStore, if_pos ⟨by omega, by omega, lineClosed_open started open_⟩, Nat.add_sub_cancel_left]
  · rw [channelCycle_due serves due]
    have done := foldl_issueRefresh_refreshed c ((chanState s c).owed.filter (fun o => decide (4 ≤ o.2))) s
    exact ⟨fun o ho four => done.paid _ (List.mem_map_of_mem (List.mem_filter.mpr ⟨ho, decide_eq_true four⟩)), done.queueA, done.queueB⟩
  · exact SubChannel.nextMode_eq_true.mpr (.inl (.inl high))
  · exact nextMode_low lowHigh reads low
  · exact nextMode_between reads low high
  · refine SubChannel.nextMode_eq_true.mpr (.inl (.inr ⟨SubChannel.writes_eq writes, ?_⟩))
    rw [SubChannel.writes_eq writes]
    exact List.length_pos_iff.mpr some_

end Sys2Proof.Machine
end

section
/-!
PROOFS. DRAM commands (O40). The statement says that a training leaves DRAM in its state 1, without asking that DRAM has not been started; the
model keeps the state of a DRAM that runs, and DRAM_TRAIN is accepted there too.
-/
namespace Sys2Proof.Machine

/-- DRAM runs, its one DIMM on channels 0 to 3, and mailbox 0 holds DRAM_TRAIN of channel 0, accepted. -/
def trainsRunning : State :=
  { dram := { started := true, stateCode := 2, timing := [1], population := some { channels := 15, speed := 0, ranks := 1, width := 4, density := 16 } }
    host := { fwReady := true, accepted := [0], busy := 1
              mbx := tabEntries 0 0 (layout [(0x0904, 2), (0, 2), (2, 2), (0, 2), (0, 8), (1, 1), (0, 1)]) } }

theorem trainsRunning_accepted : Accepted (dramTrain 0 0) 0 trainsRunning where
  opcode := by decide
  start := by decide
  header := by decide
  granted := by decide
  furnish := by decide
  target := by decide
  payload := by decide

/-- DRAM_TRAIN leaves the state of a DRAM that runs. -/
theorem trainsRunning_state : (runCmd (dramTrain 0 0) 0 trainsRunning).dram.stateCode = 2 := by
  have body : (bodyOf (dramTrain 0 0) 0 trainsRunning).state.dram.stateCode = 2 := by decide
  obtain ⟨-, -, rep⟩ := accepted_completes trainsRunning_accepted (by decide) (by decide) (by decide) (by decide) (by decide) (by decide)
  rw [rep.dram]
  exact body

/-- Refutes O40: DRAM_TRAIN of a channel of a DRAM that runs leaves it in its state 2, not 1. -/
theorem not_dramCommandsTakeEffect : ¬ Obligations.DramCommandsTakeEffect := by
  unfold Obligations.DramCommandsTakeEffect
  rintro ⟨h, -⟩
  obtain ⟨-, -, -, train, -⟩ := h trainsRunning 0 _ rfl (by decide)
  obtain ⟨t, runs, -, code, -⟩ := train 0 0 _ trainsRunning_accepted (by decide) (by decide) rfl (by decide)
  rw [← Host.Outcome.next.inj runs, trainsRunning_state] at code
  exact absurd code (by decide)

end Sys2Proof.Machine
end

section
/-!
PROOFS. DRAM happenings (O41). The statement says that the error log ends with the uncorrectable line that a read met. The model places an
address of a range without channels on channel 0, and `onChannel` on none; a spare area in such a range passes for sound when channel 0 is
fenced, and the free ring rebuilt there logs an error of its own. DRAM_RANGE_SET admits no such range; the statement does.
-/
namespace Sys2Proof.Machine

/-- Channel 0 carries a free ring, and the spare area lies in a range that has no channel. -/
def spareNowhere : State :=
  { dram := { started := true, ueLimit := 0, ranges := [(0, { channels := 1, enable := true, size := 1 }), (1, { enable := true, size := 1 })]
              spare := [(gib, 4096)], spareUsed := [0] }
    cab := { groups := [(0, { vatEntries := 1, filled := true, cells := 1 })] } }

/-- The kind of the error that an outcome's log ends with. -/
def lastErrorKind : Res → Option Nat
  | .next t => t.dram.errorLog.getLast?.map (·.kind)
  | _ => none

/-- An uncorrectable line read from channel 0 fences it, and the ring rebuilt in the spare area logs an error of kind 2. -/
theorem spareNowhere_logs : lastErrorKind (exec (.dramRead 0 .uncorrectable) spareNowhere) = some 2 := by decide +kernel

/-- Refutes O41: the error log ends with an error of the ring rebuilt in the spare area, not with that of the line read. -/
theorem not_dramHappenings : ¬ Obligations.DramHappenings := by
  unfold Obligations.DramHappenings
  rintro ⟨h, -⟩
  obtain ⟨-, sound⟩ := h spareNowhere 0 0 0 (by decide +kernel) rfl rfl rfl
  obtain ⟨-, -, t, runs, -, log, -⟩ := sound rfl (by decide +kernel)
  have kind := spareNowhere_logs
  rw [runs, lastErrorKind, log] at kind
  cases kind

end Sys2Proof.Machine
end

section
/-!
PROOFS. Power commands (O45). The statement says that a CHIP_RESET which seals first leaves its mailbox BUSY, without asking that the mailbox
was BUSY before; the model leaves the bit as it was.
-/
namespace Sys2Proof.Machine

/-- The evidence path runs, an item is in flight, and mailbox 0 holds CHIP_RESET with sealing, accepted but not marked BUSY. -/
def resetsUnmarked : State :=
  { ev := { state := .running }
    disp := { items := [(0, { isEvent := true, cls := 0, port := 0, source := 0, domain := 0, seq := 0, furnish := 0, arrival := 0, window := 1
                              deadline := 0, ctx := 0, evidence := false, lossless := true, rule := 0, dd0 := 0, dd1 := 0, dd2 := 0, dd3 := 0
                              place := .global 0 })] }
    pow := { level := 0, stage := .running }
    host := { fwReady := true, accepted := [0], mbx := tabEntries 0 0 (layout [(0x0A01, 2), (0, 2), (4, 2), (0, 2), (0, 8), (1, 1), (0, 3)]) } }

theorem resetsUnmarked_accepted : Accepted chipReset 0 resetsUnmarked where
  opcode := by decide
  start := by decide
  header := by decide
  granted := by decide
  furnish := by decide
  target := by decide
  payload := by decide

/-- Is mailbox 0 BUSY after an outcome? -/
def leavesBusy : Res → Bool
  | .next t => t.host.busy.getLsbD 0
  | _ => false

theorem resetsUnmarked_idle : leavesBusy (exec (.chipReset 0) resetsUnmarked) = false := by decide +kernel

/-- Refutes O45: a CHIP_RESET that seals first leaves a mailbox that was not BUSY as it was. -/
theorem not_powerCommandsTakeEffect : ¬ Obligations.PowerCommandsTakeEffect := by
  unfold Obligations.PowerCommandsTakeEffect
  rintro ⟨h, -⟩
  obtain ⟨-, seals, -⟩ := h resetsUnmarked 0 (by decide)
  obtain ⟨t, runs, busy, -⟩ := seals resetsUnmarked_accepted (by decide) (by decide) rfl rfl (by decide)
  have idle := resetsUnmarked_idle
  rw [runs] at idle
  exact Bool.false_ne_true (idle.symm.trans busy)

end Sys2Proof.Machine
end

section
/-!
PROOFS. What the machinery of items, threads, packets and memories never touches. Items end, threads wait, locks pass on, lookups land and
packets move by operations that share a great deal of the state; none of them reaches the mailboxes, the companion link, the evidence
path's progress, the fences, or the instruction memories. `Inside z t` says so of a state `t` that such operations made of `z`.
-/
namespace Sys2Proof.Machine

/-- A state with all that the machinery works on blanked out. -/
def State.outside (s : State) : State :=
  { s with
    fresh := 0, flags := [], totals := [], cntAcc := []
    sh := { s.sh with firstSeen := [], lateAcc := [], ceilingXoff := [] }
    line := {}
    host := { s.host with mem := [], ep := [], uncovered := 0, merged := [], eq := {}, exr := [] }
    cab := {}
    disp := { fenced := s.disp.fenced, frozen := s.disp.frozen }
    cores := { imem := s.cores.imem, imemBad := s.cores.imemBad, imemShadow := s.cores.imemShadow }
    dov := {}, lk := { tries := s.lk.tries }
    cop := { s.cop with units := [] }
    dram := { s.dram with mem := [], poison := [], chans := [], errorLog := [] }
    ev := { s.ev with streams := [] }
    sec := { s.sec with trace := {} }
    pow := { s.pow with gated := 0 } }

/-- Unit `u` carries no operation, in whatever entry of the table. -/
def State.Rests (s : State) (u : Nat) : Prop := (unitOf s u).op = none ∧ ∀ p ∈ s.cop.units, p.1 = u → p.2.op = none

theorem State.Rests.setUnit {s : State} {u v : Nat} {x : Unit'} (ne : u ≠ v) (h : s.Rests v) : (setUnit u x s).Rests v := by
  refine ⟨(congrArg Unit'.op (tabGet_set_of_ne _ _ _ fun e => ne e.symm)).trans h.1, fun p mem e => ?_⟩
  simp only [Machine.setUnit, tabSet, tabSplice, List.mem_append, List.mem_filter] at mem
  rcases mem with (⟨mem, -⟩ | mem) | ⟨mem, -⟩
  · exact h.2 p mem e
  · split at mem
    · cases mem
    · exact absurd ((congrArg Prod.fst (List.mem_singleton.mp mem)).symm.trans e) ne
  · exact h.2 p mem e

/-- What a machinery is asked to take care of beside: that units that rest stay as they stand, and that the supervisors stand. -/
structure Care where
  units : Bool
  supers : Bool

/-- A stream without the sheet of its last loss. -/
def lossless (x : Machine.Stream) : Machine.Stream := { x with lastLoss := 0 }

/-- Only the machinery worked between two states, and it took care; of a stream it noted losses alone. -/
structure Inside (care : Care) (z t : State) : Prop where
  outside : t.outside = z.outside
  streams : ∀ c, (tabFind t.ev.streams c).map lossless = (tabFind z.ev.streams c).map lossless
  idle : care.units = true → ∀ u, z.Rests u → t.Rests u ∧ unitOf t u = unitOf z u
  supers : care.supers = true → t.cores.supervisors = z.cores.supervisors

def InsideQ {γ : Type} (care : Care) (z : State) (x : γ × State) : Prop := Inside care z x.2
def InsideO (care : Care) (z : State) (x : Option State) : Prop := ∀ t, x = some t → Inside care z t

section
variable {care : Care}

theorem Inside.refl (s : State) : Inside care s s := ⟨rfl, fun _ => rfl, fun _ _ h => ⟨h, rfl⟩, fun _ => rfl⟩

theorem Inside.trans {a b c : State} (h : Inside care a b) (k : Inside care b c) : Inside care a c where
  outside := k.outside.trans h.outside
  streams c := (k.streams c).trans (h.streams c)
  idle e u rests := by
    obtain ⟨mid, same⟩ := h.idle e u rests
    obtain ⟨last, stands⟩ := k.idle e u mid
    exact ⟨last, stands.trans same⟩
  supers e := (k.supers e).trans (h.supers e)

theorem Inside.upd {z x y : State} (h : Inside care z x) (e : y.outside = x.outside)
    (k : (y.cop.units, y.ev.streams) = (x.cop.units, x.ev.streams))
    (l : care.supers = true → y.cores.supervisors = x.cores.supervisors) : Inside care z y where
  outside := e.trans h.outside
  streams c := by
    obtain ⟨-, m⟩ := Prod.mk.inj k
    rw [m]
    exact h.streams c
  idle c u rests := by
    obtain ⟨k, -⟩ := Prod.mk.inj k
    obtain ⟨⟨op, all⟩, stands⟩ := h.idle c u rests
    have same : unitOf y u = unitOf x u := by rw [unitOf, k]; rfl
    exact ⟨⟨by rw [same]; exact op, by rw [k]; exact all⟩, same.trans stands⟩
  supers c := (l c).trans (h.supers c)

theorem Inside.ite {c : Prop} [Decidable c] {z a b : State} (h : Inside care z a) (k : Inside care z b) :
    Inside care z (if c then a else b) := by
  split <;> assumption

theorem InsideQ.ite {γ : Type} {c : Prop} [Decidable c] {z : State} {a b : γ × State} (h : InsideQ care z a) (k : InsideQ care z b) :
    InsideQ care z (if c then a else b) := by
  split <;> assumption

theorem InsideO.ite {c : Prop} [Decidable c] {z : State} {a b : Option State} (h : InsideO care z a) (k : InsideO care z b) :
    InsideO care z (if c then a else b) := by
  split <;> assumption

theorem Inside.foldl_mem {β : Type} {z x : State} {f : State → β → State} {l : List β} (h : Inside care z x)
    (k : ∀ a b, b ∈ l → Inside care z a → Inside care z (f a b)) : Inside care z (l.foldl f x) := by
  induction l generalizing x with
  | nil => exact h
  | cons b l ih => exact ih (k x b List.mem_cons_self h) fun a c mem => k a c (List.mem_cons_of_mem b mem)

theorem Inside.foldl {β : Type} {z x : State} {f : State → β → State} {l : List β} (h : Inside care z x)
    (k : ∀ a b, Inside care z a → Inside care z (f a b)) : Inside care z (l.foldl f x) := h.foldl_mem fun a b _ => k a b

theorem InsideQ.mk {γ : Type} {z s : State} {x : γ} (h : Inside care z s) : InsideQ care z (x, s) := h
theorem InsideQ.out {γ : Type} {z : State} {x : γ × State} (h : InsideQ care z x) : Inside care z x.2 := h
theorem InsideO.mk {z s : State} (h : Inside care z s) : InsideO care z (some s) := fun _ e => by cases e; exact h
theorem InsideO.none {z : State} : InsideO care z none := fun _ e => by cases e

/-- A unit that carries an operation is none of those that rest. -/
theorem Inside.busy {z s : State} {u : Nat} {o : UnitOp} (h : Inside care z s) (op : (unitOf s u).op = some o) (c : care.units = true) (v : Nat)
    (rests : z.Rests v) : u ≠ v := fun e => by
  have none_ := (h.idle c v rests).1.1
  rw [← e, op] at none_
  cases none_

end

/-! ### Memories, events and counters -/

theorem hostWriteBad_inside {care : Care} {z : State} (a : BitVec 64) (bs : List Byte) (bad : Nat → Bool) (s : State) (h : Inside care z s) :
    Inside care z (hostWriteBad a bs bad s) := h.upd rfl rfl fun _ => rfl

theorem withCab_inside {care : Care} {z s : State} (c : Cabinet) (h : Inside care z s) : Inside care z { s with cab := c } := h.upd rfl rfl fun _ => rfl

theorem dramStore_inside {care : Care} {z : State} (a : Nat) (bs : List Byte) (s : State) (h : Inside care z s) :
    Inside care z (dramStore a bs s) := h.upd rfl rfl fun _ => rfl

theorem updLk_inside {care : Care} {z : State} (f : Lookup → Lookup) (s : State) (tries : (f s.lk).tries = s.lk.tries) (h : Inside care z s) :
    Inside care z (updLk f s) := by
  refine h.upd ?_ rfl fun _ => rfl
  simp only [State.outside, updLk, tries]

theorem hostWrite_inside {care : Care} {z : State} (a : BitVec 64) (bs : List Byte) (s : State) (h : Inside care z s) : Inside care z (hostWrite a bs s) :=
  hostWriteBad_inside a bs _ s h

theorem count_inside {care : Care} {z : State} (a0 a1 a2 a3 a4 : _) (k0 : Inside care z a4) : Inside care z (count a0 a1 a2 a3 a4) := by
  unfold count
  exact Inside.upd k0 rfl rfl fun _ => rfl

theorem drawFree_inside {care : Care} {z : State} (a0 : _) (k0 : Inside care z a0) : Inside care z (drawFree a0) := by
  unfold drawFree
  exact Inside.upd k0 rfl rfl fun _ => rfl

theorem setFlag_inside {care : Care} {z : State} (a0 a1 a2 : _) (k0 : Inside care z a2) : Inside care z (setFlag a0 a1 a2) := by
  unfold setFlag
  exact Inside.upd k0 rfl rfl fun _ => rfl

theorem markCause_inside {care : Care} {z : State} (a0 a1 : _) (k0 : Inside care z a1) : Inside care z (markCause a0 a1) := by
  unfold markCause
  extract_lets -merge -underBinder x0
  exact Inside.upd k0 rfl rfl fun _ => rfl

theorem postEvent_inside {care : Care} {z : State} (a0 a1 a2 a3 a4 a5 a6 : _) (k0 : Inside care z a6) : Inside care z (postEvent a0 a1 a2 a3 a4 a5 a6) := by
  unfold postEvent
  extract_lets -merge -underBinder x0 x1 x2 x3
  have h4 : Inside care z x2 := hostWrite_inside _ _ _ k0
  exact markCause_inside _ _ (count_inside _ _ _ _ _ (Inside.upd h4 rfl rfl fun _ => rfl))

theorem postMergedN_inside {care : Care} {z : State} (n : Nat) : ∀ (s : State), Inside care z s → Inside care z (postMergedN n s) := by
  induction n with
  | zero => exact fun _ h => h
  | succ n ih =>
    intro s h
    unfold postMergedN
    split
    · exact h
    · exact Inside.ite (ih _ (postEvent_inside _ _ _ _ _ _ _ (Inside.upd h rfl rfl fun _ => rfl))) h

theorem postMerged_inside {care : Care} {z : State} (a0 : _) (k0 : Inside care z a0) : Inside care z (postMerged a0) := by
  unfold postMerged
  exact postMergedN_inside _ _ k0

theorem mergeRaise_inside {care : Care} {z : State} (a0 a1 a2 a3 a4 : _) (k0 : Inside care z a4) : Inside care z (mergeRaise a0 a1 a2 a3 a4) := by
  unfold mergeRaise
  extract_lets -merge -underBinder x0 x1
  exact setFlag_inside _ _ _ (count_inside _ _ _ _ _ (Inside.upd k0 rfl rfl fun _ => rfl))

theorem forwardRaise_inside {care : Care} {z : State} (a0 a1 a2 : _) (k0 : Inside care z a2) : Inside care z (forwardRaise a0 a1 a2) := by
  unfold forwardRaise
  extract_lets -merge -underBinder x0 x1 x2
  have h3 : Inside care z x2 := postMerged_inside _ k0
  exact Inside.ite (count_inside _ _ _ _ _ k0) (Inside.ite (postEvent_inside _ _ _ _ _ _ _ h3) (mergeRaise_inside _ _ _ _ _ h3))

theorem pushTrace_inside {care : Care} {z : State} (a0 a1 a2 a3 a4 : _) (k0 : Inside care z a4) : Inside care z (pushTrace a0 a1 a2 a3 a4) := by
  unfold pushTrace
  extract_lets -merge -underBinder x0 x1 x2 x3 x4 x5
  have h6 : Inside care z x3 := setFlag_inside _ _ _ (count_inside _ _ _ _ _ (Inside.upd k0 rfl rfl fun _ => rfl))
  have h7 : Inside care z x5 := Inside.upd h6 rfl rfl fun _ => rfl
  exact Inside.ite (drawFree_inside _ (Inside.upd k0 rfl rfl fun _ => rfl)) (Inside.ite h6 (Inside.ite (forwardRaise_inside _ _ _ h7) h7))

theorem trace_inside {care : Care} {z : State} (a0 a1 a2 a3 a4 : _) (k0 : Inside care z a4) : Inside care z (trace a0 a1 a2 a3 a4) := by
  unfold trace
  exact Inside.ite (pushTrace_inside _ _ _ _ _ k0) k0

theorem raise_inside {care : Care} {z : State} (a0 a1 a2 : _) (k0 : Inside care z a2) : Inside care z (raise a0 a1 a2) := by
  unfold raise
  extract_lets -merge -underBinder x0
  have h1 : Inside care z x0 := trace_inside _ _ _ _ _ k0
  exact Inside.ite h1 (forwardRaise_inside _ _ _ h1)

theorem raiseFirst_inside {care : Care} {z : State} (a0 a1 a2 a3 : _) (k0 : Inside care z a3) : Inside care z (raiseFirst a0 a1 a2 a3) := by
  unfold raiseFirst
  extract_lets -merge -underBinder x0 x1
  exact Inside.ite k0 (raise_inside _ _ _ (Inside.upd k0 rfl rfl fun _ => rfl))

theorem bumpTotal_inside {care : Care} {z : State} (a0 a1 a2 : _) (k0 : Inside care z a2) : Inside care z (bumpTotal a0 a1 a2) := by
  unfold bumpTotal
  exact Inside.upd k0 rfl rfl fun _ => rfl

theorem countMax_inside {care : Care} {z : State} (a0 a1 a2 a3 a4 : _) (k0 : Inside care z a4) : Inside care z (countMax a0 a1 a2 a3 a4) := by
  unfold countMax
  exact Inside.upd k0 rfl rfl fun _ => rfl

theorem setThr_inside {care : Care} {z : State} (a0 a1 a2 : _) (k0 : Inside care z a2) : Inside care z (setThr a0 a1 a2) := by
  unfold setThr
  extract_lets -merge -underBinder x0
  exact Inside.upd k0 rfl rfl fun _ => rfl

theorem updThr_inside {care : Care} {z : State} (a0 a1 a2 : _) (k0 : Inside care z a2) : Inside care z (updThr a0 a1 a2) := by
  unfold updThr
  exact setThr_inside _ _ _ k0

theorem setLock_inside {care : Care} {z : State} (a0 a1 a2 : _) (k0 : Inside care z a2) : Inside care z (setLock a0 a1 a2) := by
  unfold setLock
  extract_lets -merge -underBinder x0
  exact Inside.upd k0 rfl rfl fun _ => rfl

theorem walk_inside {care : Care} {z : State} (a0 a1 : _) (k0 : Inside care z a1) : Inside care z (walk a0 a1) := by
  unfold walk
  refine Inside.ite k0 ?_
  split
  · exact k0
  · extract_lets -merge -underBinder x0 x1 x2
    exact trace_inside _ _ _ _ _ (count_inside _ _ _ _ _ (updThr_inside _ _ _ (Inside.upd k0 rfl rfl fun _ => rfl)))

theorem makeReady_inside {care : Care} {z : State} (a0 a1 : _) (k0 : Inside care z a1) : Inside care z (makeReady a0 a1) := by
  unfold makeReady
  exact walk_inside _ _ (updThr_inside _ _ _ k0)

theorem markProgress_inside {care : Care} {z : State} (a0 a1 : _) (k0 : Inside care z a1) : Inside care z (markProgress a0 a1) := by
  unfold markProgress
  extract_lets -merge -underBinder x0
  exact Inside.upd k0 rfl rfl fun _ => rfl

theorem progress_inside {care : Care} {z : State} (a0 a1 : _) (k0 : Inside care z a1) : Inside care z (progress a0 a1) := by
  unfold progress
  extract_lets -merge -underBinder x0
  exact Inside.foldl (markProgress_inside _ _ k0) (fun _ _ h1 => markProgress_inside _ _ h1)

theorem stepDone_inside {care : Care} {z : State} (a0 a1 : _) (k0 : Inside care z a1) : Inside care z (stepDone a0 a1) := by
  unfold stepDone
  split
  · extract_lets -merge -underBinder x0
    exact Inside.ite (Inside.upd k0 rfl rfl fun _ => rfl) k0
  · exact k0

theorem endStall_inside {care : Care} {z : State} (a0 a1 : _) (k0 : Inside care z a1) : Inside care z (endStall a0 a1) := by
  unfold endStall
  exact makeReady_inside _ _ (stepDone_inside _ _ k0)

theorem logDramError_inside {care : Care} {z : State} (a0 a1 a2 a3 : _) (k0 : Inside care z a3) : Inside care z (logDramError a0 a1 a2 a3) := by
  unfold logDramError
  extract_lets -merge -underBinder x0 x1
  exact Inside.upd k0 rfl rfl fun _ => rfl

theorem chanCount_inside {care : Care} {z : State} (a0 a1 a2 a3 : _) (k0 : Inside care z a3) : Inside care z (chanCount a0 a1 a2 a3) := by
  unfold chanCount
  exact count_inside _ _ _ _ _ k0

theorem setChanState_inside {care : Care} {z : State} (a0 a1 a2 : _) (k0 : Inside care z a2) : Inside care z (setChanState a0 a1 a2) := by
  unfold setChanState
  extract_lets -merge -underBinder x0
  exact Inside.upd k0 rfl rfl fun _ => rfl

theorem wakeChan_inside {care : Care} {z : State} (a0 a1 : _) (k0 : Inside care z a1) : Inside care z (wakeChan a0 a1) := by
  unfold wakeChan
  extract_lets -merge -underBinder x0
  exact Inside.ite (setChanState_inside _ _ _ (chanCount_inside _ _ _ _ k0)) k0

theorem chanCountSome_inside {care : Care} {z : State} (a0 a1 a2 a3 : _) (k0 : Inside care z a3) : Inside care z (chanCountSome a0 a1 a2 a3) := by
  unfold chanCountSome
  exact Inside.ite k0 (chanCount_inside _ _ _ _ k0)

theorem issueRefresh_inside {care : Care} {z : State} (a0 a1 a2 : _) (k0 : Inside care z a2) : Inside care z (issueRefresh a0 a1 a2) := by
  unfold issueRefresh
  extract_lets -merge -underBinder x0
  exact chanCountSome_inside _ _ _ _ (setChanState_inside _ _ _ k0)

theorem issueDue_inside {care : Care} {z : State} (a0 a1 : _) (k0 : Inside care z a1) : Inside care z (issueDue a0 a1) := by
  unfold issueDue
  exact Inside.foldl k0 (fun _ _ h0 => issueRefresh_inside _ _ _ h0)

theorem setSubChan_inside {care : Care} {z : State} (a0 a1 a2 a3 : _) (k0 : Inside care z a3) : Inside care z (setSubChan a0 a1 a2 a3) := by
  unfold setSubChan
  extract_lets -merge -underBinder x0 x1
  exact setChanState_inside _ _ _ k0

theorem putStep_inside {care : Care} {z : State} (a0 a1 a2 a3 : _) (k0 : Inside care z a3) : Inside care z (putStep a0 a1 a2 a3) := by
  unfold putStep
  exact chanCountSome_inside _ _ _ _ (chanCountSome_inside _ _ _ _ (chanCountSome_inside _ _ _ _ (setSubChan_inside _ _ _ _ k0)))

theorem runSub_inside {care : Care} {z : State} (a0 a1 a2 a3 : _) (k0 : Inside care z a3) : Inside care z (runSub a0 a1 a2 a3) := by
  unfold runSub
  extract_lets -merge -underBinder x0 x1
  have h2 : Inside care z x0 := issueDue_inside _ _ k0
  exact Inside.ite k0 (putStep_inside _ _ _ _ h2)

theorem sendRequest_inside {care : Care} {z : State} (a0 a1 a2 a3 : _) (k0 : Inside care z a3) : Inside care z (sendRequest a0 a1 a2 a3) := by
  unfold sendRequest
  refine Inside.ite k0 ?_
  split
  · exact k0
  · extract_lets -merge -underBinder x0 x1
    have h2 : Inside care z x0 := runSub_inside _ _ _ _ k0
    exact setSubChan_inside _ _ _ _ h2

theorem noteLine_inside {care : Care} {z : State} (a0 a1 a2 a3 a4 : _) (k0 : Inside care z a4) : Inside care z (noteLine a0 a1 a2 a3 a4) := by
  unfold noteLine
  split
  · exact k0
  · extract_lets -merge -underBinder x0 x1
    have h2 : Inside care z x1 := chanCount_inside _ _ _ _ (chanCount_inside _ _ _ _ k0)
    exact Inside.ite k0 (Inside.ite (logDramError_inside _ _ _ _ (chanCount_inside _ _ _ _ k0)) (Inside.ite (wakeChan_inside _ _ (setChanState_inside _ _ _
        k0)) (sendRequest_inside _ _ _ _ (Inside.ite (chanCount_inside _ _ _ _ h2) h2))))

theorem requestLines_inside {care : Care} {z : State} (a0 a1 a2 a3 a4 : _) (k0 : Inside care z a4) : Inside care z (requestLines a0 a1 a2 a3 a4) := by
  unfold requestLines
  exact Inside.foldl k0 (fun _ _ h0 => noteLine_inside _ _ _ _ _ h0)

theorem serveLine_inside {care : Care} {z : State} (a0 a1 a2 : _) (k0 : Inside care z a2) : Inside care z (serveLine a0 a1 a2) := by
  unfold serveLine
  split
  · exact k0
  · exact runSub_inside _ _ _ _ k0

theorem serveLines_inside {care : Care} {z : State} (a0 a1 a2 a3 : _) (k0 : Inside care z a3) : Inside care z (serveLines a0 a1 a2 a3) := by
  unfold serveLines
  exact Inside.foldl k0 (fun _ _ h0 => serveLine_inside _ _ _ h0)

theorem noteAccess_inside {care : Care} {z : State} (a0 a1 a2 a3 a4 : _) (k0 : Inside care z a4) : Inside care z (noteAccess a0 a1 a2 a3 a4) := by
  unfold noteAccess
  extract_lets -merge -underBinder x0
  have h1 : Inside care z x0 := requestLines_inside _ _ _ _ _ k0
  exact Inside.ite h1 (serveLines_inside _ _ _ _ h1)

theorem dramWrite_inside {care : Care} {z : State} (a0 a1 a2 a3 a4 : _) (k0 : Inside care z a4) : Inside care z (dramWrite a0 a1 a2 a3 a4) := by
  unfold dramWrite
  extract_lets -merge -underBinder x0 x1
  have h2 : Inside care z x0 := noteAccess_inside _ _ _ _ _ (dramStore_inside _ _ _ k0)
  exact Inside.upd h2 rfl rfl fun _ => rfl

theorem setGroup_inside {care : Care} {z : State} (a0 a1 a2 : _) (k0 : Inside care z a2) : Inside care z (setGroup a0 a1 a2) := by
  unfold setGroup
  extract_lets -merge -underBinder x0
  exact Inside.upd k0 rfl rfl fun _ => rfl

theorem setOwnerUse_inside {care : Care} {z : State} (a0 a1 a2 : _) (k0 : Inside care z a2) : Inside care z (setOwnerUse a0 a1 a2) := by
  unfold setOwnerUse
  extract_lets -merge -underBinder x0
  exact Inside.upd k0 rfl rfl fun _ => rfl

theorem updOwner_inside {care : Care} {z : State} (a0 a1 a2 : _) (k0 : Inside care z a2) : Inside care z (updOwner a0 a1 a2) := by
  unfold updOwner
  exact setOwnerUse_inside _ _ _ k0

theorem setHandle_inside {care : Care} {z : State} (a0 a1 a2 : _) (k0 : Inside care z a2) : Inside care z (setHandle a0 a1 a2) := by
  unfold setHandle
  extract_lets -merge -underBinder x0
  exact Inside.upd k0 rfl rfl fun _ => rfl

theorem noteStale_inside {care : Care} {z : State} (a0 : _) (k0 : Inside care z a0) : Inside care z (noteStale a0) := by
  unfold noteStale
  exact raise_inside _ _ _ (count_inside _ _ _ _ _ (setFlag_inside _ _ _ k0))

theorem noteRefError_inside {care : Care} {z : State} (a0 : _) (k0 : Inside care z a0) : Inside care z (noteRefError a0) := by
  unfold noteRefError
  exact raise_inside _ _ _ (count_inside _ _ _ _ _ (setFlag_inside _ _ _ k0))

theorem updHandle_inside {care : Care} {z : State} (a0 a1 a2 : _) (k0 : Inside care z a2) : Inside care z (updHandle a0 a1 a2) := by
  unfold updHandle
  exact setHandle_inside _ _ _ k0

theorem addRef_inside {care : Care} {z : State} (a0 a1 : _) (k0 : Inside care z a1) : Inside care z (addRef a0 a1) := by
  unfold addRef
  exact updHandle_inside _ _ _ k0

theorem addPin_inside {care : Care} {z : State} (a0 a1 : _) (k0 : Inside care z a1) : Inside care z (addPin a0 a1) := by
  unfold addPin
  exact updHandle_inside _ _ _ k0

theorem dropHead_inside {care : Care} {z : State} (a0 a1 : _) (k0 : Inside care z a1) : Inside care z (dropHead a0 a1) := by
  unfold dropHead
  extract_lets -merge -underBinder x0 x1
  exact Inside.ite (setHandle_inside _ _ _ (withCab_inside _ k0)) k0

theorem releaseIndex_inside {care : Care} {z : State} (a0 a1 : _) (k0 : Inside care z a1) : Inside care z (releaseIndex a0 a1) := by
  unfold releaseIndex
  exact updHandle_inside _ _ _ (dropHead_inside _ _ k0)

theorem giveCells_inside {care : Care} {z : State} (a0 a1 a2 a3 : _) (k0 : Inside care z a3) : Inside care z (giveCells a0 a1 a2 a3) := by
  unfold giveCells
  extract_lets -merge -underBinder x0
  exact Inside.ite k0 (setGroup_inside _ _ _ k0)

theorem dischargeUse_inside {care : Care} {z : State} (a0 a1 a2 a3 a4 : _) (k0 : Inside care z a4) : Inside care z (dischargeUse a0 a1 a2 a3 a4) := by
  unfold dischargeUse
  split
  · extract_lets -merge -underBinder x0
    exact updOwner_inside _ _ _ (Inside.upd k0 rfl rfl fun _ => rfl)
  · exact updOwner_inside _ _ _ k0
  · exact updOwner_inside _ _ _ k0

theorem freeSlots_inside {care : Care} {z : State} (a0 a1 a2 : _) (k0 : Inside care z a2) : Inside care z (freeSlots a0 a1 a2) := by
  unfold freeSlots
  extract_lets -merge -underBinder x0 x1 x2 x3 x4 x5 x6 x7 x8
  have h9 : Inside care z x6 := Inside.foldl k0 (fun _ _ h12 => giveCells_inside _ _ _ _ h12)
  have h10 : Inside care z x7 := Inside.ite (dischargeUse_inside _ _ _ _ _ h9) (dischargeUse_inside _ _ _ _ _ (dischargeUse_inside _ _ _ _ _ h9))
  have h11 : Inside care z x8 := setHandle_inside _ _ _ h10
  exact Inside.ite h11 (progress_inside _ _ h11)

theorem freeHandle_inside {care : Care} {z : State} (a0 a1 : _) (k0 : Inside care z a1) : Inside care z (freeHandle a0 a1) := by
  unfold freeHandle
  exact Inside.ite (releaseIndex_inside _ _ (freeSlots_inside _ _ _ k0)) (updHandle_inside _ _ _ k0)

theorem dropRef_inside {care : Care} {z : State} (a0 a1 : _) (k0 : Inside care z a1) : Inside care z (dropRef a0 a1) := by
  unfold dropRef
  extract_lets -merge -underBinder x0 x1
  have h2 : Inside care z x1 := setHandle_inside _ _ _ k0
  exact Inside.ite (noteRefError_inside _ k0) (Inside.ite (freeHandle_inside _ _ h2) h2)

theorem dropRefWord_inside {care : Care} {z : State} (a0 a1 : _) (k0 : Inside care z a1) : Inside care z (dropRefWord a0 a1) := by
  unfold dropRefWord
  exact Inside.ite (noteStale_inside _ k0) (dropRef_inside _ _ k0)

theorem noteSpillRead_inside {care : Care} {z : State} (a0 a1 a2 a3 : _) (k0 : Inside care z a3) : Inside care z (noteSpillRead a0 a1 a2 a3) := by
  unfold noteSpillRead
  exact Inside.foldl k0 (fun _ _ h0 => noteAccess_inside _ _ _ _ _ h0)

theorem dropPin_inside {care : Care} {z : State} (a0 a1 : _) (k0 : Inside care z a1) : Inside care z (dropPin a0 a1) := by
  unfold dropPin
  extract_lets -merge -underBinder x0 x1 x2
  have h3 : Inside care z x0 := updHandle_inside _ _ _ k0
  have h4 : Inside care z x2 := freeSlots_inside _ _ _ (setHandle_inside _ _ _ h3)
  exact Inside.ite h3 (Inside.ite (releaseIndex_inside _ _ (freeSlots_inside _ _ _ h3)) (Inside.ite (Inside.ite (releaseIndex_inside _ _ h4) h4) h3))

theorem setSub_inside {care : Care} {z : State} (a0 a1 a2 : _) (k0 : Inside care z a2) : Inside care z (setSub a0 a1 a2) := by
  unfold setSub
  extract_lets -merge -underBinder x0
  exact Inside.upd k0 rfl rfl fun _ => rfl

theorem updSub_inside {care : Care} {z : State} (a0 a1 a2 : _) (k0 : Inside care z a2) : Inside care z (updSub a0 a1 a2) := by
  unfold updSub
  exact setSub_inside _ _ _ k0

theorem setPort_inside {care : Care} {z : State} (a0 a1 a2 : _) (k0 : Inside care z a2) : Inside care z (setPort a0 a1 a2) := by
  unfold setPort
  extract_lets -merge -underBinder x0
  exact Inside.upd k0 rfl rfl fun _ => rfl

theorem noteCorrected_inside {care : Care} {z : State} (a0 a1 a2 : _) (k0 : Inside care z a2) : Inside care z (noteCorrected a0 a1 a2) := by
  unfold noteCorrected
  exact Inside.ite k0 (raiseFirst_inside _ _ _ _ (bumpTotal_inside _ _ _ (setFlag_inside _ _ _ k0)))

theorem poisonVatLine_inside {care : Care} {z : State} (a0 a1 a2 : _) (k0 : Inside care z a2) : Inside care z (poisonVatLine a0 a1 a2) := by
  unfold poisonVatLine
  extract_lets -merge -underBinder x0 x1 x2
  have h3 : Inside care z x1 := setHandle_inside _ _ _ k0
  have h4 : Inside care z x2 := bumpTotal_inside _ _ _ (setFlag_inside _ _ _ h3)
  split
  · exact raise_inside _ _ _ h4
  · exact raise_inside _ _ _ (drawFree_inside _ h4)

theorem checkVat_inside {care : Care} {z : State} (a0 a1 a2 a3 : _) (k0 : Inside care z a3) : Inside care z (checkVat a0 a1 a2 a3) := by
  unfold checkVat
  extract_lets -merge -underBinder x0 x1 x2 x3 x4 x5 x6
  have h7 : Inside care z x6 := Inside.upd k0 rfl rfl fun _ => rfl
  exact Inside.ite k0 (Inside.foldl (noteCorrected_inside _ _ _ h7) (fun _ _ h8 => poisonVatLine_inside _ _ _ h8))

theorem renewVat_inside {care : Care} {z : State} (a0 a1 a2 a3 : _) (k0 : Inside care z a3) : Inside care z (renewVat a0 a1 a2 a3) := by
  unfold renewVat
  extract_lets -merge -underBinder x0 x1 x2 x3 x4
  have h5 : Inside care z x0 := Inside.ite k0 (checkVat_inside _ _ _ _ k0)
  have h6 : Inside care z x1 := Inside.ite h5 (checkVat_inside _ _ _ _ h5)
  exact Inside.ite k0 (Inside.upd h6 rfl rfl fun _ => rfl)

theorem poisonCtxLine_inside {care : Care} {z : State} (a0 a1 a2 : _) (k0 : Inside care z a2) : Inside care z (poisonCtxLine a0 a1 a2) := by
  unfold poisonCtxLine
  extract_lets -merge -underBinder x0 x1
  have h2 : Inside care z x1 := Inside.upd k0 rfl rfl fun _ => rfl
  exact raise_inside _ _ _ (bumpTotal_inside _ _ _ (setFlag_inside _ _ _ h2))

theorem checkCtx_inside {care : Care} {z : State} (a0 a1 a2 a3 : _) (k0 : Inside care z a3) : Inside care z (checkCtx a0 a1 a2 a3) := by
  unfold checkCtx
  extract_lets -merge -underBinder x0 x1 x2 x3 x4
  have h5 : Inside care z x4 := Inside.upd k0 rfl rfl fun _ => rfl
  exact Inside.ite k0 (Inside.foldl (noteCorrected_inside _ _ _ h5) (fun _ _ h6 => poisonCtxLine_inside _ _ _ h6))

theorem renewCtx_inside {care : Care} {z : State} (a0 a1 a2 a3 : _) (k0 : Inside care z a3) : Inside care z (renewCtx a0 a1 a2 a3) := by
  unfold renewCtx
  extract_lets -merge -underBinder x0 x1 x2 x3
  have h4 : Inside care z x0 := Inside.ite k0 (checkCtx_inside _ _ _ _ k0)
  have h5 : Inside care z x1 := Inside.ite h4 (checkCtx_inside _ _ _ _ h4)
  exact Inside.ite k0 (Inside.upd h5 rfl rfl fun _ => rfl)

theorem checkDmem_inside {care : Care} {z : State} (a0 a1 : _) (k0 : Inside care z a1) : Inside care z (checkDmem a0 a1) := by
  unfold checkDmem
  extract_lets -merge -underBinder x0 x1
  exact Inside.ite k0 (noteCorrected_inside _ _ _ (Inside.upd k0 rfl rfl fun _ => rfl))

end Sys2Proof.Machine
end

section
/-!
PROOFS. Contexts, items, threads, locks and channels stay inside the machinery.
-/
namespace Sys2Proof.Machine

theorem addCopyRefs_inside {care : Care} {z : State} (w : HandleWord) (l : List Dest) : ∀ (s : State), Inside care z s → InsideQ care z (addCopyRefs w l s) := by
  induction l with
  | nil => exact fun _ h => h
  | cons d r ih =>
    intro s h
    unfold addCopyRefs
    split
    · exact ih _ (noteStale_inside _ h)
    · split
      · exact ih _ (noteRefError_inside _ h)
      · exact ih _ (addRef_inside _ _ h)

theorem leavePrefetch_inside {care : Care} {z : State} (a0 a1 : _) (k0 : Inside care z a1) : Inside care z (leavePrefetch a0 a1) := by
  unfold leavePrefetch
  extract_lets -merge -underBinder x0
  exact Inside.ite (Inside.upd k0 rfl rfl fun _ => rfl) k0

theorem dropCopy_inside {care : Care} {z : State} (a0 a1 : _) (k0 : Inside care z a1) : Inside care z (dropCopy a0 a1) := by
  unfold dropCopy
  exact dropRefWord_inside _ _ (leavePrefetch_inside _ _ k0)

theorem setQueue_inside {care : Care} {z : State} (a0 a1 a2 a3 : _) (k0 : Inside care z a3) : Inside care z (setQueue a0 a1 a2 a3) := by
  unfold setQueue
  extract_lets -merge -underBinder x0
  exact Inside.upd k0 rfl rfl fun _ => rfl

theorem enqueueCopy_inside {care : Care} {z : State} (a0 a1 a2 a3 : _) (k0 : Inside care z a3) : Inside care z (enqueueCopy a0 a1 a2 a3) := by
  unfold enqueueCopy
  extract_lets -merge -underBinder x0 x1 x2
  have h3 : Inside care z x1 := countMax_inside _ _ _ _ _ (count_inside _ _ _ _ _ k0)
  exact Inside.ite (dropCopy_inside _ _ (count_inside _ _ _ _ _ k0)) (setQueue_inside _ _ _ _ (Inside.upd h3 rfl rfl fun _ => rfl))

theorem setExr_inside {care : Care} {z : State} (a0 a1 a2 : _) (k0 : Inside care z a2) : Inside care z (setExr a0 a1 a2) := by
  unfold setExr
  extract_lets -merge -underBinder x0
  exact Inside.upd k0 rfl rfl fun _ => rfl

theorem exrWrite_inside {care : Care} {z : State} (a0 a1 a2 : _) (k0 : Inside care z a2) : Inside care z (exrWrite a0 a1 a2) := by
  unfold exrWrite
  extract_lets -merge -underBinder x0 x1 x2 x3 x4 x5 x6 x7
  have h8 : Inside care z x3 := hostWriteBad_inside _ _ _ _ k0
  have h9 : Inside care z x4 := setExr_inside _ _ _ h8
  have h10 : Inside care z x5 := hostWrite_inside _ _ _ h9
  have h11 : Inside care z x6 := count_inside _ _ _ _ _ h10
  have h12 : Inside care z x7 := Inside.ite (count_inside _ _ _ _ _ h11) h11
  exact markCause_inside _ _ h12

theorem exrCopy_inside {care : Care} {z : State} (a0 a1 a2 : _) (k0 : Inside care z a2) : Inside care z (exrCopy a0 a1 a2) := by
  unfold exrCopy
  extract_lets -merge -underBinder x0 x1 x2
  have h3 : Inside care z x1 := checkVat_inside _ _ _ _ (checkVat_inside _ _ _ _ k0)
  have h4 : Inside care z x2 := noteSpillRead_inside _ _ _ _ h3
  exact Inside.ite (noteStale_inside _ k0) (dropRefWord_inside _ _ (exrWrite_inside _ _ _ h4))

theorem exrArrive_inside {care : Care} {z : State} (a0 a1 a2 : _) (k0 : Inside care z a2) : Inside care z (exrArrive a0 a1 a2) := by
  unfold exrArrive
  extract_lets -merge -underBinder x0 x1
  exact Inside.ite (exrCopy_inside _ _ _ k0) (Inside.upd k0 rfl rfl fun _ => rfl)

theorem sendCopy_inside {care : Care} {z : State} (a0 a1 a2 : _) (k0 : Inside care z a2) : Inside care z (sendCopy a0 a1 a2) := by
  unfold sendCopy
  split
  · exact enqueueCopy_inside _ _ _ _ k0
  · exact exrArrive_inside _ _ _ k0

theorem releaseOutput_inside {care : Care} {z : State} (a0 a1 a2 a3 : _) (k0 : Inside care z a3) : Inside care z (releaseOutput a0 a1 a2 a3) := by
  unfold releaseOutput
  split
  · exact dropRefWord_inside _ _ k0
  · extract_lets -merge -underBinder x0
    have h1 : InsideQ care z x0 := addCopyRefs_inside _ _ _ k0
    exact Inside.foldl (InsideQ.out h1) (fun _ _ h2 => sendCopy_inside _ _ _ h2)

theorem ctxWrite_inside {care : Care} {z : State} (a0 a1 a2 a3 : _) (k0 : Inside care z a3) : Inside care z (ctxWrite a0 a1 a2 a3) := by
  unfold ctxWrite
  extract_lets -merge -underBinder x0 x1 x2 x3
  have h4 : Inside care z x0 := renewCtx_inside _ _ _ _ k0
  have h5 : Inside care z x3 := Inside.upd h4 rfl rfl fun _ => rfl
  split
  · extract_lets -merge -underBinder x6
    exact Inside.upd h5 rfl rfl fun _ => rfl
  · extract_lets -merge -underBinder x7
    exact Inside.upd h5 rfl rfl fun _ => rfl

theorem ctxTouch_inside {care : Care} {z : State} (a0 a1 : _) (k0 : Inside care z a1) : Inside care z (ctxTouch a0 a1) := by
  unfold ctxTouch
  split
  · exact k0
  · extract_lets -merge -underBinder x0
    exact Inside.upd k0 rfl rfl fun _ => rfl

theorem noteOrphan_inside {care : Care} {z : State} (a0 : _) (k0 : Inside care z a0) : Inside care z (noteOrphan a0) := by
  unfold noteOrphan
  exact raise_inside _ _ _ (count_inside _ _ _ _ _ (setFlag_inside _ _ _ k0))

theorem ctxCount4_inside {care : Care} {z : State} (a0 a1 a2 : _) (k0 : Inside care z a2) : Inside care z (ctxCount4 a0 a1 a2) := by
  unfold ctxCount4
  extract_lets -merge -underBinder x0
  have h1 : Inside care z x0 := checkCtx_inside _ _ _ _ k0
  exact ctxWrite_inside _ _ _ _ h1

/-- A loss noted of a stream leaves what else the stream holds. -/
theorem streamLoss_inside {care : Care} {z s : State} {c : Nat} {x y : Machine.Stream} (h : Inside care z s)
    (was : (tabFind s.ev.streams c).map lossless = some (lossless x)) (e : lossless y = lossless x) :
    Inside care z { s with ev := { s.ev with streams := tabPut s.ev.streams c y } } where
  outside := h.outside
  streams d := by
    refine Eq.trans ?_ (h.streams d)
    by_cases same : d = c
    · rw [same, was, tabFind_put_self, Option.map_some, e]
    · rw [tabFind_put_of_ne _ _ same]
  idle := h.idle
  supers := h.supers

theorem streamOf_found {s : State} {c : Nat} {x : Machine.Stream} (h : streamOf s c = some x) : tabFind s.ev.streams c = some x := by
  unfold streamOf at h
  split at h
  · next y found =>
    split at h
    · rw [found, h]
    · cases h
  · cases h

theorem evidenceLoss_inside {care : Care} {z : State} (a0 a1 a2 : _) (k0 : Inside care z a2) : Inside care z (evidenceLoss a0 a1 a2) := by
  unfold evidenceLoss
  split
  · exact noteOrphan_inside _ k0
  · next x found =>
    extract_lets -merge -underBinder x0 x1 x2
    have h3 : Inside care z x0 := ctxCount4_inside _ _ _ k0
    have was : (tabFind x0.ev.streams a0).map lossless = some (lossless x) := by
      rw [(ctxCount4_inside (care := care) a0 172 a2 (.refl a2)).streams, streamOf_found found]
      rfl
    have h4 : Inside care z x2 := streamLoss_inside h3 was rfl
    exact raiseFirst_inside _ _ _ _ (count_inside _ _ _ _ _ (setFlag_inside _ _ _ h4))

theorem ctxWriteBack_inside {care : Care} {z : State} (a0 a1 : _) (k0 : Inside care z a1) : Inside care z (ctxWriteBack a0 a1) := by
  unfold ctxWriteBack
  split
  · exact k0
  · extract_lets -merge -underBinder x0 x1 x2
    have h3 : Inside care z x0 := checkCtx_inside _ _ _ _ k0
    exact Inside.upd h3 rfl rfl fun _ => rfl

theorem ctxEvict_inside {care : Care} {z : State} (a0 a1 : _) (k0 : Inside care z a1) : Inside care z (ctxEvict a0 a1) := by
  unfold ctxEvict
  extract_lets -merge -underBinder x0
  refine Inside.ite k0 ?_
  split
  · exact ctxWriteBack_inside _ _ k0
  · exact k0

theorem ctxLoad_inside {care : Care} {z : State} (a0 a1 a2 : _) (k0 : Inside care z a2) : Inside care z (ctxLoad a0 a1 a2) := by
  unfold ctxLoad
  extract_lets -merge -underBinder x0 x1 x2
  have h3 : Inside care z x0 := checkCtx_inside _ _ _ _ (ctxEvict_inside _ _ (ctxWriteBack_inside _ _ k0))
  have h4 : Inside care z x2 := Inside.ite k0 (Inside.upd h3 rfl rfl fun _ => rfl)
  exact ctxTouch_inside _ _ h4

theorem ctxDiscard_inside {care : Care} {z : State} (a0 a1 : _) (k0 : Inside care z a1) : Inside care z (ctxDiscard a0 a1) := by
  unfold ctxDiscard
  split
  · exact k0
  · extract_lets -merge -underBinder x0
    exact Inside.upd k0 rfl rfl fun _ => rfl

theorem dropItem_inside {care : Care} {z : State} (a0 a1 : _) (k0 : Inside care z a1) : Inside care z (dropItem a0 a1) := by
  unfold dropItem
  extract_lets -merge -underBinder x0
  exact Inside.upd k0 rfl rfl fun _ => rfl

theorem noteStampVoid_inside {care : Care} {z : State} (a0 a1 : _) (k0 : Inside care z a1) : Inside care z (noteStampVoid a0 a1) := by
  unfold noteStampVoid
  exact raise_inside _ _ _ (Inside.ite k0 (count_inside _ _ _ _ _ k0))

theorem releaseItem_inside {care : Care} {z : State} (a0 a1 a2 : _) (k0 : Inside care z a2) : Inside care z (releaseItem a0 a1 a2) := by
  unfold releaseItem
  extract_lets -merge -underBinder x0 x1 x2
  have h3 : Inside care z x0 := dropItem_inside _ _ k0
  have h4 : Inside care z x2 := Inside.upd h3 rfl rfl fun _ => rfl
  refine Inside.ite h4 ?_
  split
  · exact Inside.foldl (noteStampVoid_inside _ _ h4) (fun _ _ h5 => dropRefWord_inside _ _ h5)
  · exact Inside.foldl (count_inside _ _ _ _ _ h4) (fun _ _ h6 => releaseOutput_inside _ _ _ _ h6)

theorem releaseRun_inside {care : Care} {z : State} (n : Nat) : ∀ (d : BitVec 16) (s : State), Inside care z s → Inside care z (releaseRun n d s) := by
  induction n with
  | zero => exact fun _ _ h => h
  | succ n ih =>
    intro d s h
    unfold releaseRun
    extract_lets k
    split
    · exact h
    · exact Inside.ite (ih _ _ (releaseItem_inside _ _ _ h)) h

theorem releaseDomain_inside {care : Care} {z : State} (a0 a1 : _) (k0 : Inside care z a1) : Inside care z (releaseDomain a0 a1) := by
  unfold releaseDomain
  exact releaseRun_inside _ _ _ k0

theorem putItem_inside {care : Care} {z : State} (a0 a1 a2 : _) (k0 : Inside care z a2) : Inside care z (putItem a0 a1 a2) := by
  unfold putItem
  extract_lets -merge -underBinder x0
  exact Inside.upd k0 rfl rfl fun _ => rfl

theorem unlist_inside {care : Care} {z : State} (a0 a1 : _) (k0 : Inside care z a1) : Inside care z (unlist a0 a1) := by
  unfold unlist
  extract_lets -merge -underBinder x0
  exact Inside.upd k0 rfl rfl fun _ => rfl

theorem noteThaw_inside {care : Care} {z : State} (a0 a1 : _) (k0 : Inside care z a1) : Inside care z (noteThaw a0 a1) := by
  unfold noteThaw
  extract_lets -merge -underBinder x0
  exact Inside.ite k0 (Inside.upd k0 rfl rfl fun _ => rfl)

theorem endItem_inside {care : Care} {z : State} (a0 a1 a2 : _) (k0 : Inside care z a2) : Inside care z (endItem a0 a1 a2) := by
  unfold endItem
  split
  · exact k0
  · extract_lets -merge -underBinder x0 x1
    have h2 : Inside care z x0 := by
      show Inside care z (_)
      unfold x0
      split
      · exact ctxTouch_inside _ _ k0
      · exact k0
    exact releaseDomain_inside _ _ (putItem_inside _ _ _ (unlist_inside _ _ (noteThaw_inside _ _ h2)))

theorem voidItem_inside {care : Care} {z : State} (a0 a1 : _) (k0 : Inside care z a1) : Inside care z (voidItem a0 a1) := by
  unfold voidItem
  split
  · exact k0
  · extract_lets -merge -underBinder x0 x1
    have h2 : Inside care z x0 := Inside.foldl k0 (fun _ _ h4 => dropRefWord_inside _ _ h4)
    have h3 : Inside care z x1 := Inside.ite h2 (dropRefWord_inside _ _ h2)
    exact endItem_inside _ _ _ h3

theorem countLate_inside {care : Care} {z : State} (a0 a1 a2 a3 : _) (k0 : Inside care z a3) : Inside care z (countLate a0 a1 a2 a3) := by
  unfold countLate
  extract_lets -merge -underBinder x0
  exact Inside.upd k0 rfl rfl fun _ => rfl

theorem lateLoss_inside {care : Care} {z : State} (a0 a1 : _) (k0 : Inside care z a1) : Inside care z (lateLoss a0 a1) := by
  unfold lateLoss
  extract_lets -merge -underBinder x0
  have h1 : Inside care z x0 := countLate_inside _ _ _ _ (bumpTotal_inside _ _ _ k0)
  exact Inside.ite (evidenceLoss_inside _ _ _ h1) h1

theorem seqLimit_inside {care : Care} {z : State} (a0 a1 : _) (k0 : Inside care z a1) : Inside care z (seqLimit a0 a1) := by
  unfold seqLimit
  extract_lets -merge -underBinder x0 x1
  have h2 : Inside care z x0 := Inside.ite k0 (dropRefWord_inside _ _ k0)
  have h3 : Inside care z x1 := raiseFirst_inside _ _ _ _ (count_inside _ _ _ _ _ (setFlag_inside _ _ _ h2))
  exact Inside.ite (lateLoss_inside _ _ h3) h3

theorem voidCounted_inside {care : Care} {z : State} (a0 a1 a2 : _) (k0 : Inside care z a2) : Inside care z (voidCounted a0 a1 a2) := by
  unfold voidCounted
  exact voidItem_inside _ _ (count_inside _ _ _ _ _ k0)

theorem wakeBelow_inside {care : Care} {z : State} (a0 a1 a2 : _) (k0 : Inside care z a2) : Inside care z (wakeBelow a0 a1 a2) := by
  unfold wakeBelow
  extract_lets -merge -underBinder x0
  split
  · extract_lets -merge -underBinder x1
    exact Inside.ite (Inside.upd k0 rfl rfl fun _ => rfl) k0
  · exact k0

theorem agedLookups_inside {care : Care} {z : State} (a0 a1 : _) (k0 : Inside care z a1) : Inside care z (agedLookups a0 a1) := by
  unfold agedLookups
  extract_lets -merge -underBinder x0
  exact Inside.upd k0 rfl rfl fun _ => rfl

theorem deliver_inside {care : Care} {z : State} (a0 a1 a2 a3 : _) (k0 : Inside care z a3) : Inside care z (deliver a0 a1 a2 a3) := by
  unfold deliver
  split
  · exact noteStampVoid_inside _ _ (voidItem_inside _ _ k0)
  · extract_lets -merge -underBinder x0 x1 x2 x3 x4 x5 x6 x7 x8 x9
    have h10 : Inside care z x0 := ctxLoad_inside _ _ _ k0
    have h11 : Inside care z x2 := putItem_inside _ _ _ h10
    have h12 : Inside care z x4 := agedLookups_inside _ _ h11
    have h13 : Inside care z x5 := Inside.ite h12 (dropHead_inside _ _ h12)
    have h14 : Inside care z x8 := Inside.upd h13 rfl rfl fun _ => rfl
    have h15 : Inside care z x9 := markProgress_inside _ _ (markProgress_inside _ _ h14)
    exact walk_inside _ _ (setThr_inside _ _ _ h15)

theorem runOn_inside {care : Care} {z : State} (a0 a1 a2 a3 a4 : _) (k0 : Inside care z a4) : Inside care z (runOn a0 a1 a2 a3 a4) := by
  unfold runOn
  split
  · exact wakeBelow_inside _ _ _ (deliver_inside _ _ _ _ (count_inside _ _ _ _ _ k0))
  · exact k0

theorem waitAffinity_inside {care : Care} {z : State} (a0 a1 a2 a3 : _) (k0 : Inside care z a3) : Inside care z (waitAffinity a0 a1 a2 a3) := by
  unfold waitAffinity
  extract_lets -merge -underBinder x0 x1
  have h2 : Inside care z x0 := putItem_inside _ _ _ (count_inside _ _ _ _ _ k0)
  exact Inside.upd h2 rfl rfl fun _ => rfl

theorem waitGlobal_inside {care : Care} {z : State} (a0 a1 a2 : _) (k0 : Inside care z a2) : Inside care z (waitGlobal a0 a1 a2) := by
  unfold waitGlobal
  extract_lets -merge -underBinder x0 x1
  have h2 : Inside care z x0 := putItem_inside _ _ _ (count_inside _ _ _ _ _ k0)
  exact Inside.upd h2 rfl rfl fun _ => rfl

theorem placeBy_inside {care : Care} {z : State} (a0 a1 a2 a3 : _) (k0 : Inside care z a3) : Inside care z (placeBy a0 a1 a2 a3) := by
  unfold placeBy
  extract_lets -merge -underBinder x0
  clear_value x0
  split
  · refine Inside.ite (Inside.ite (runOn_inside _ _ _ _ _ k0) (waitAffinity_inside _ _ _ _ k0)) (Inside.ite (runOn_inside _ _ _ _ _ k0) ?_)
    split
    · exact runOn_inside _ _ _ _ _ k0
    · exact waitGlobal_inside _ _ _ k0
  · split
    · exact runOn_inside _ _ _ _ _ k0
    · exact waitGlobal_inside _ _ _ k0

theorem place_inside {care : Care} {z : State} (a0 a1 a2 : _) (k0 : Inside care z a2) : Inside care z (place a0 a1 a2) := by
  unfold place
  exact placeBy_inside _ _ _ _ k0

theorem wakeFor_inside {care : Care} {z : State} (a0 a1 : _) (k0 : Inside care z a1) : Inside care z (wakeFor a0 a1) := by
  unfold wakeFor
  exact wakeBelow_inside _ _ _ k0

theorem enterItem_inside {care : Care} {z : State} (a0 a1 : _) (k0 : Inside care z a1) : Inside care z (enterItem a0 a1) := by
  unfold enterItem
  extract_lets -merge -underBinder x0 x1 x2 x3 x4 x5 x6
  have h7 : Inside care z x0 := count_inside _ _ _ _ _ k0
  have h8 : Inside care z x1 := Inside.ite (trace_inside _ _ _ _ _ (markProgress_inside _ _ h7)) h7
  have h9 : Inside care z x6 := Inside.upd h8 rfl rfl fun _ => rfl
  refine Inside.ite (seqLimit_inside _ _ h8) ?_
  split
  · exact noteStampVoid_inside _ _ (voidItem_inside _ _ (putItem_inside _ _ _ h9))
  · extract_lets -merge -underBinder x10 x11 x12 x13
    have h14 : Inside care z x12 := raiseFirst_inside _ _ _ _ (setFlag_inside _ _ _ h9)
    have h15 : Inside care z x13 := Inside.ite (evidenceLoss_inside _ _ _ h14) h14
    exact Inside.ite (voidCounted_inside _ _ _ (putItem_inside _ _ _ h15)) (place_inside _ _ _ (wakeFor_inside _ _ (putItem_inside _ _ _ h9)))

theorem completionEvent_inside {care : Care} {z : State} (a0 a1 : _) (k0 : Inside care z a1) : Inside care z (completionEvent a0 a1) := by
  unfold completionEvent
  extract_lets -merge -underBinder x0
  exact Inside.ite (enterItem_inside _ _ k0) (Inside.upd k0 rfl rfl fun _ => rfl)

theorem dmemPut_inside {care : Care} {z : State} (a0 a1 a2 a3 : _) (k0 : Inside care z a3) : Inside care z (dmemPut a0 a1 a2 a3) := by
  unfold dmemPut
  extract_lets -merge -underBinder x0
  exact Inside.upd k0 rfl rfl fun _ => rfl

theorem dmemPuts_inside {care : Care} {z : State} (a0 a1 a2 a3 : _) (k0 : Inside care z a3) : Inside care z (dmemPuts a0 a1 a2 a3) := by
  unfold dmemPuts
  exact Inside.foldl k0 (fun _ _ h0 => dmemPut_inside _ _ _ _ h0)

theorem spillSlot_inside {care : Care} {z : State} (a0 a1 a2 a3 a4 a5 : _) (k0 : Inside care z a5) : Inside care z (spillSlot a0 a1 a2 a3 a4 a5) := by
  unfold spillSlot
  split
  · exact k0
  · refine Inside.foldl k0 (fun _ _ h0 => ?_)
    extract_lets -merge -underBinder x1 x2
    exact Inside.ite (dramWrite_inside _ _ _ _ _ h0) h0

theorem vatWrite_inside {care : Care} {z : State} (a0 a1 a2 a3 a4 : _) (k0 : Inside care z a4) : Inside care z (vatWrite a0 a1 a2 a3 a4) := by
  unfold vatWrite
  extract_lets -merge -underBinder x0 x1
  have h2 : Inside care z x0 := renewVat_inside _ _ _ _ k0
  exact setHandle_inside _ _ _ h2

theorem pktWrite_inside {care : Care} {z : State} (a0 a1 a2 a3 a4 : _) (k0 : Inside care z a4) : Inside care z (pktWrite a0 a1 a2 a3 a4) := by
  unfold pktWrite
  extract_lets -merge -underBinder x0
  exact Inside.ite (Inside.foldl k0 (fun _ _ h1 => spillSlot_inside _ _ _ _ _ _ h1)) (vatWrite_inside _ _ _ _ _ k0)

theorem drainEntry_inside {care : Care} {z : State} (a0 a1 : _) (k0 : Inside care z a1) : Inside care z (drainEntry a0 a1) := by
  unfold drainEntry
  split
  · extract_lets -merge -underBinder x0
    exact Inside.ite (noteStale_inside _ k0) (Inside.ite k0 (pktWrite_inside _ _ _ _ _ k0))
  · exact ctxWrite_inside _ _ _ _ (ctxTouch_inside _ _ k0)
  · exact Inside.ite k0 (dramWrite_inside _ _ _ _ _ k0)

theorem drainStores_inside {care : Care} {z : State} (a0 a1 : _) (k0 : Inside care z a1) : Inside care z (drainStores a0 a1) := by
  unfold drainStores
  extract_lets -merge -underBinder x0
  exact Inside.foldl (setThr_inside _ _ _ k0) (fun _ _ h1 => drainEntry_inside _ _ h1)

theorem noteDmemUe_inside {care : Care} {z : State} (a0 a1 a2 : _) (k0 : Inside care z a2) : Inside care z (noteDmemUe a0 a1 a2) := by
  unfold noteDmemUe
  exact raise_inside _ _ _ (setFlag_inside _ _ _ (bumpTotal_inside _ _ _ k0))

theorem setChan_inside {care : Care} {z : State} (a0 a1 a2 : _) (k0 : Inside care z a2) : Inside care z (setChan a0 a1 a2) := by
  unfold setChan
  extract_lets -merge -underBinder x0
  exact Inside.upd k0 rfl rfl fun _ => rfl

theorem leaveWait_inside {care : Care} {z : State} (a0 a1 : _) (k0 : Inside care z a1) : Inside care z (leaveWait a0 a1) := by
  unfold leaveWait
  extract_lets -merge -underBinder x0
  have h1 : Inside care z x0 := by
    show Inside care z (_)
    unfold x0
    split
    · extract_lets -merge -underBinder x2
      exact setLock_inside _ _ _ k0
    · extract_lets -merge -underBinder x3
      exact setChan_inside _ _ _ k0
    · extract_lets -merge -underBinder x4
      exact setChan_inside _ _ _ k0
    · extract_lets -merge -underBinder x5
      exact Inside.upd k0 rfl rfl fun _ => rfl
    · extract_lets -merge -underBinder x6
      exact Inside.upd k0 rfl rfl fun _ => rfl
    · exact k0
  exact updThr_inside _ _ _ h1

theorem correctDov_inside {care : Care} {z : State} (a0 a1 : _) (k0 : Inside care z a1) : Inside care z (correctDov a0 a1) := by
  unfold correctDov
  extract_lets -merge -underBinder x0 x1
  exact Inside.ite k0 (noteCorrected_inside _ _ _ (Inside.upd k0 rfl rfl fun _ => rfl))

theorem reclaim_inside {care : Care} {z : State} (a0 a1 : _) (k0 : Inside care z a1) : Inside care z (reclaim a0 a1) := by
  unfold reclaim
  extract_lets -merge -underBinder x0 x1 x2
  have h3 : Inside care z x2 := setChan_inside _ _ _ k0
  exact Inside.foldl h3 (fun _ _ h4 => updThr_inside _ _ _ h4)

theorem completeStalled_inside {care : Care} {z : State} (a0 a1 a2 : _) (k0 : Inside care z a2) : Inside care z (completeStalled a0 a1 a2) := by
  unfold completeStalled
  exact endStall_inside _ _ (updThr_inside _ _ _ k0)

theorem deliverSlot_inside {care : Care} {z : State} (a0 a1 a2 a3 a4 : _) (k0 : Inside care z a4) : Inside care z (deliverSlot a0 a1 a2 a3 a4) := by
  unfold deliverSlot
  extract_lets -merge -underBinder x0 x1 x2
  have h3 : Inside care z x1 := setChan_inside _ _ _ k0
  have h4 : Inside care z x2 := progress_inside _ _ h3
  split
  · extract_lets -merge -underBinder x5
    have h6 : Inside care z x5 := Inside.ite (dmemPuts_inside _ _ _ _ h4) h4
    exact completeStalled_inside _ _ _ h6

theorem voidChannel_inside {care : Care} {z : State} (a0 a1 : _) (k0 : Inside care z a1) : Inside care z (voidChannel a0 a1) := by
  unfold voidChannel
  refine Inside.foldl (Inside.ite k0 (progress_inside _ _ (count_inside _ _ _ _ _ k0))) (fun _ _ h0 => ?_)
  split
  · extract_lets -merge -underBinder x1
    exact deliverSlot_inside _ _ _ _ _ h0
  · exact h0

theorem forgetWord_inside {care : Care} {z : State} (a0 a1 : _) (k0 : Inside care z a1) : Inside care z (forgetWord a0 a1) := by
  unfold forgetWord
  extract_lets -merge -underBinder x0
  exact Inside.ite k0 (Inside.upd k0 rfl rfl fun _ => rfl)

theorem noteDovUe_inside {care : Care} {z : State} (a0 a1 a2 : _) (k0 : Inside care z a2) : Inside care z (noteDovUe a0 a1 a2) := by
  unfold noteDovUe
  exact raise_inside _ _ _ (bumpTotal_inside _ _ _ (setFlag_inside _ _ _ (forgetWord_inside _ _ k0)))

theorem voidPointers_inside {care : Care} {z : State} (a0 a1 : _) (k0 : Inside care z a1) : Inside care z (voidPointers a0 a1) := by
  unfold voidPointers
  exact reclaim_inside _ _ (voidChannel_inside _ _ (noteDovUe_inside _ _ _ k0))

theorem checkPointers_inside {care : Care} {z : State} (a0 a1 : _) (k0 : Inside care z a1) : Inside care z (checkPointers a0 a1) := by
  unfold checkPointers
  extract_lets -merge -underBinder x0
  have h1 : Inside care z x0 := correctDov_inside _ _ k0
  exact Inside.ite k0 (Inside.ite (voidPointers_inside _ _ h1) h1)

theorem checkSlot_inside {care : Care} {z : State} (a0 a1 a2 : _) (k0 : Inside care z a2) : Inside care z (checkSlot a0 a1 a2) := by
  unfold checkSlot
  extract_lets -merge -underBinder x0 x1
  refine Inside.ite k0 ?_
  split
  · exact k0
  · extract_lets -merge -underBinder x2
    have h3 : Inside care z x2 := correctDov_inside _ _ k0
    exact Inside.ite k0 (Inside.ite h3 (noteDovUe_inside _ _ _ (setChan_inside _ _ _ h3)))

theorem reserveSlot_inside {care : Care} {z : State} (a0 a1 a2 a3 a4 : _) (k0 : Inside care z a4) : Inside care z (reserveSlot a0 a1 a2 a3 a4) := by
  unfold reserveSlot
  extract_lets -merge -underBinder x0 x1
  have h2 : Inside care z x1 := forgetWord_inside _ _ k0
  exact setChan_inside _ _ _ h2

theorem postTwo_inside {care : Care} {z : State} (a0 a1 a2 : _) (k0 : Inside care z a2) : Inside care z (postTwo a0 a1 a2) := by
  unfold postTwo
  exact progress_inside _ _ (count_inside _ _ _ _ _ (reserveSlot_inside _ _ _ _ _ (reserveSlot_inside _ _ _ _ _ k0)))

theorem dropHeld_inside {care : Care} {z : State} (a0 a1 : _) (k0 : Inside care z a1) : Inside care z (dropHeld a0 a1) := by
  unfold dropHeld
  extract_lets -merge -underBinder x0 x1 x2
  have h3 : Inside care z x1 := Inside.upd k0 rfl rfl fun _ => rfl
  exact Inside.ite (updThr_inside _ _ _ h3) (Inside.upd h3 rfl rfl fun _ => rfl)

theorem chanStep_inside {care : Care} {z : State} (a0 a1 : _) (k0 : Inside care z a1) : InsideO care z (chanStep a0 a1) := by
  unfold chanStep
  extract_lets -merge -underBinder x0
  split
  · extract_lets -merge -underBinder x1
    have h2 : Inside care z x1 := checkSlot_inside _ _ _ k0
    split
    · exact InsideO.mk (deliverSlot_inside _ _ _ _ _ h2)
    · exact InsideO.none
  · split
    · extract_lets -merge -underBinder x3 x4
      exact InsideO.ite (InsideO.mk (completeStalled_inside _ _ _ (reserveSlot_inside _ _ _ _ _ (setChan_inside _ _ _ k0)))) InsideO.none
    · split
      · exact InsideO.ite (InsideO.mk (postTwo_inside _ _ _ (dropHeld_inside _ _ k0))) InsideO.none
      · exact InsideO.none

theorem chanRun_inside {care : Care} {z : State} (n : Nat) : ∀ (c : Nat) (s : State), Inside care z s → Inside care z (chanRun n c s) := by
  induction n with
  | zero => exact fun _ _ h => h
  | succ n ih =>
    intro c s h
    have k := chanStep_inside c s h
    unfold chanRun
    split
    · next e => exact ih _ _ (k _ e)
    · exact h

theorem settleChan_inside {care : Care} {z : State} (a0 a1 : _) (k0 : Inside care z a1) : Inside care z (settleChan a0 a1) := by
  unfold settleChan
  exact chanRun_inside _ _ _ k0

theorem postFault_inside {care : Care} {z : State} (a0 a1 a2 a3 : _) (k0 : Inside care z a3) : Inside care z (postFault a0 a1 a2 a3) := by
  unfold postFault
  extract_lets -merge -underBinder x0 x1 x2 x3 x4
  have h5 : Inside care z x0 := checkPointers_inside _ _ k0
  have h6 : Inside care z x1 := raiseFirst_inside _ _ _ _ h5
  have h7 : Inside care z x3 := raiseFirst_inside _ _ _ _ h5
  exact Inside.ite (settleChan_inside _ _ (postTwo_inside _ _ _ h5)) (Inside.ite (Inside.ite h5 (updThr_inside _ _ _ (Inside.upd h6 rfl rfl fun _ => rfl)))
      (Inside.ite h5 (Inside.upd h7 rfl rfl fun _ => rfl)))

theorem discardLookups_inside {care : Care} {z : State} (a0 a1 : _) (k0 : Inside care z a1) : Inside care z (discardLookups a0 a1) := by
  unfold discardLookups
  extract_lets -merge -underBinder x0
  exact Inside.upd k0 rfl rfl fun _ => rfl

/-- A unit that carries an operation, in any entry of the table, is set. -/
theorem setUnit_inside {care : Care} {z s : State} (u : Nat) (x : Unit') (busy : care.units = true → ∀ v, z.Rests v → u ≠ v)
    (h : Inside care z s) : Inside care z (setUnit u x s) :=
  ⟨h.outside, h.streams, fun c v rests => ⟨State.Rests.setUnit (busy c v rests) (h.idle c v rests).1,
    (tabGet_set_of_ne _ _ _ fun e => busy c v rests e.symm).trans (h.idle c v rests).2⟩, h.supers⟩

theorem detachOps_inside {care : Care} {z : State} (a0 a1 : _) (k0 : Inside care z a1) : Inside care z (detachOps a0 a1) := by
  unfold detachOps
  refine Inside.foldl_mem k0 (fun _ p mem h0 => ?_)
  split
  · next o op =>
    extract_lets -merge -underBinder x1
    have busy (c : care.units = true) (v : Nat) (rests : z.Rests v) : p.1 ≠ v := fun e => by
      have none_ := (k0.idle c v rests).1.2 p mem e
      rw [op] at none_
      cases none_
    exact Inside.ite (count_inside _ _ _ _ _ (setFlag_inside _ _ _ (setUnit_inside _ _ busy h0))) h0
  · exact h0

theorem voidSlot_inside {care : Care} {z : State} (a0 a1 a2 : _) (k0 : Inside care z a2) : Inside care z (voidSlot a0 a1 a2) := by
  unfold voidSlot
  extract_lets -merge -underBinder x0
  split
  · exact k0
  · extract_lets -merge -underBinder x1
    have h2 : Inside care z x1 := setChan_inside _ _ _ k0
    exact settleChan_inside _ _ (progress_inside _ _ (count_inside _ _ _ _ _ h2))

theorem voidSlots_inside {care : Care} {z : State} (a0 a1 : _) (k0 : Inside care z a1) : Inside care z (voidSlots a0 a1) := by
  unfold voidSlots
  extract_lets -merge -underBinder x0
  exact Inside.foldl k0 (fun _ _ h1 => voidSlot_inside _ _ _ h1)

theorem lockProgress_inside {care : Care} {z : State} (a0 a1 : _) (k0 : Inside care z a1) : Inside care z (lockProgress a0 a1) := by
  unfold lockProgress
  exact progress_inside _ _ k0

theorem freeLock_inside {care : Care} {z : State} (a0 a1 a2 : _) (k0 : Inside care z a2) : Inside care z (freeLock a0 a1 a2) := by
  unfold freeLock
  extract_lets -merge -underBinder x0 x1
  have h2 : Inside care z x1 := lockProgress_inside _ _ k0
  split
  · exact setLock_inside _ _ _ h2
  · extract_lets -merge -underBinder x3 x4
    exact completeStalled_inside _ _ _ (trace_inside _ _ _ _ _ (count_inside _ _ _ _ _ (setLock_inside _ _ _ h2)))

theorem loseLock_inside {care : Care} {z : State} (a0 a1 a2 : _) (k0 : Inside care z a2) : Inside care z (loseLock a0 a1 a2) := by
  unfold loseLock
  split
  · extract_lets -merge -underBinder x0 x1
    exact Inside.ite (setLock_inside _ _ _ k0) (freeLock_inside _ _ _ k0)
  · exact raiseFirst_inside _ _ _ _ (count_inside _ _ _ _ _ (setFlag_inside _ _ _ (freeLock_inside _ _ _ k0)))

theorem loseLocks_inside {care : Care} {z : State} (a0 a1 a2 : _) (k0 : Inside care z a2) : Inside care z (loseLocks a0 a1 a2) := by
  unfold loseLocks
  exact Inside.foldl k0 (fun _ _ h0 => loseLock_inside _ _ _ h0)

theorem resetThread_inside {care : Care} {z : State} (a0 a1 a2 : _) (k0 : Inside care z a2) : Inside care z (resetThread a0 a1 a2) := by
  unfold resetThread
  extract_lets -merge -underBinder x0 x1 x2
  have h3 : Inside care z x0 := discardLookups_inside _ _ (leaveWait_inside _ _ (drainStores_inside _ _ k0))
  have h4 : Inside care z x1 := detachOps_inside _ _ (voidSlots_inside _ _ (loseLocks_inside _ _ _ h3))
  exact setThr_inside _ _ _ h4

theorem endFaulted_inside {care : Care} {z : State} (a0 a1 : _) (k0 : Inside care z a1) : Inside care z (endFaulted a0 a1) := by
  unfold endFaulted
  split
  · exact k0
  · split
    · exact k0
    · extract_lets -merge -underBinder x0
      have h1 : Inside care z x0 := count_inside _ _ _ _ _ k0
      exact Inside.ite k0 (voidItem_inside _ _ (Inside.ite (lateLoss_inside _ _ h1) (Inside.ite (evidenceLoss_inside _ _ _ h1) h1)))

theorem repostFaults_inside {care : Care} {z : State} (a0 a1 : _) (k0 : Inside care z a1) : Inside care z (repostFaults a0 a1) := by
  unfold repostFaults
  extract_lets -merge -underBinder x0 x1 x2 x3 x4 x5
  have h6 : Inside care z x3 := setChan_inside _ _ _ k0
  have h7 : Inside care z x4 := Inside.foldl h6 (fun _ _ h9 => Inside.ite (dropHeld_inside _ _ h9) h9)
  have h8 : Inside care z x5 := settleChan_inside _ _ h7
  refine Inside.foldl h8 (fun _ _ h10 => ?_)
  split
  · exact postFault_inside _ _ _ _ h10
  · exact h10

theorem enterSupervisor_inside {calm : Bool} {z : State} (a0 a1 : _) (k0 : Inside ⟨calm, false⟩ z a1) : Inside ⟨calm, false⟩ z (enterSupervisor a0 a1) := by
  unfold enterSupervisor
  extract_lets -merge -underBinder x0 x1 x2
  have h3 : Inside ⟨calm, false⟩ z x2 := Inside.upd k0 rfl rfl nofun
  exact walk_inside _ _ (updThr_inside _ _ _ h3)

theorem l0Reset_inside {calm : Bool} {z : State} (a0 a1 : _) (k0 : Inside ⟨calm, false⟩ z a1) : Inside ⟨calm, false⟩ z (l0Reset a0 a1) := by
  unfold l0Reset
  extract_lets -merge -underBinder x0
  have h1 : Inside ⟨calm, false⟩ z x0 := resetThread_inside _ _ _ (endFaulted_inside _ _ k0)
  exact Inside.ite (repostFaults_inside _ _ (enterSupervisor_inside _ _ h1)) (walk_inside _ _ (dropHeld_inside _ _ h1))

theorem haltThread_inside {calm : Bool} {z : State} (a0 a1 a2 a3 a4 : _) (k0 : Inside ⟨calm, false⟩ z a4) : Inside ⟨calm, false⟩ z (haltThread a0 a1 a2 a3 a4) := by
  unfold haltThread
  extract_lets -merge -underBinder x0 x1 x2 x3 x4
  have h5 : Inside ⟨calm, false⟩ z x2 := updThr_inside _ _ _ k0
  have h6 : Inside ⟨calm, false⟩ z x3 := raiseFirst_inside _ _ _ _ (count_inside _ _ _ _ _ (setFlag_inside _ _ _ h5))
  have h7 : Inside ⟨calm, false⟩ z x4 := postFault_inside _ _ _ _ h6
  exact Inside.ite (raise_inside _ _ _ (count_inside _ _ _ _ _ (setFlag_inside _ _ _ (l0Reset_inside _ _ h7)))) (walk_inside _ _ (postFault_inside _ _ _ _
      h6))

theorem runAfter_inside {calm : Bool} {z : State} (a0 a1 : _) (k0 : Inside ⟨calm, false⟩ z a1) : Inside ⟨calm, false⟩ z (runAfter a0 a1) := by
  unfold runAfter
  extract_lets -merge -underBinder x0
  refine Inside.ite k0 ?_
  split
  · exact k0
  · exact haltThread_inside _ _ _ _ _ k0
  · exact walk_inside _ _ (updThr_inside _ _ _ k0)

theorem leaveAfter_inside {calm : Bool} {z : State} (a0 a1 a2 : _) (k0 : Inside ⟨calm, false⟩ z a2) : Inside ⟨calm, false⟩ z (leaveAfter a0 a1 a2) := by
  unfold leaveAfter
  exact runAfter_inside _ _ (makeReady_inside _ _ (updThr_inside _ _ _ k0))

theorem stopThread_inside {calm : Bool} {z : State} (a0 a1 a2 a3 a4 : _) (k0 : Inside ⟨calm, false⟩ z a4) : Inside ⟨calm, false⟩ z (stopThread a0 a1 a2 a3 a4) := by
  unfold stopThread
  exact Inside.ite (haltThread_inside _ _ _ _ _ k0) (leaveAfter_inside _ _ _ k0)

theorem recoveryAbort_inside {calm : Bool} {z : State} (a0 a1 : _) (k0 : Inside ⟨calm, false⟩ z a1) : Inside ⟨calm, false⟩ z (recoveryAbort a0 a1) := by
  unfold recoveryAbort
  split
  · extract_lets -merge -underBinder x0
    have h1 : Inside ⟨calm, false⟩ z x0 := count_inside _ _ _ _ _ (detachOps_inside _ _ (voidSlots_inside _ _ (loseLocks_inside _ _ _ (leaveWait_inside _ _ k0))))
    exact Inside.ite (leaveAfter_inside _ _ _ h1) (haltThread_inside _ _ _ _ _ h1)

theorem checkLock_inside {calm : Bool} {z : State} (a0 a1 : _) (k0 : Inside ⟨calm, false⟩ z a1) : Inside ⟨calm, false⟩ z (checkLock a0 a1) := by
  unfold checkLock
  extract_lets -merge -underBinder x0 x1
  have h2 : Inside ⟨calm, false⟩ z x0 := correctDov_inside _ _ k0
  have h3 : Inside ⟨calm, false⟩ z x1 := noteDovUe_inside _ _ _ (forgetWord_inside _ _ h2)
  exact Inside.ite k0 (Inside.ite h2 (loseLock_inside _ _ _ (Inside.foldl h3 (fun _ _ h4 => recoveryAbort_inside _ _ h4))))

theorem checkChan_inside {calm : Bool} {z : State} (a0 a1 : _) (k0 : Inside ⟨calm, false⟩ z a1) : Inside ⟨calm, false⟩ z (checkChan a0 a1) := by
  unfold checkChan
  extract_lets -merge -underBinder x0 x1
  have h2 : Inside ⟨calm, false⟩ z x0 := correctDov_inside _ _ k0
  have h3 : Inside ⟨calm, false⟩ z x1 := voidPointers_inside _ _ h2
  exact Inside.ite k0 (Inside.ite h2 (Inside.foldl h3 (fun _ _ h4 => recoveryAbort_inside _ _ h4)))

theorem checkHeld_inside {calm : Bool} {z : State} (a0 a1 : _) (k0 : Inside ⟨calm, false⟩ z a1) : Inside ⟨calm, false⟩ z (checkHeld a0 a1) := by
  unfold checkHeld
  extract_lets -merge -underBinder x0 x1
  have h2 : Inside ⟨calm, false⟩ z x0 := Inside.foldl k0 (fun _ _ h3 => checkLock_inside _ _ h3)
  exact Inside.ite k0 (Inside.foldl h2 (fun _ _ h4 => checkChan_inside _ _ h4))

theorem advance_inside {care : Care} {z : State} (a0 a1 : _) (k0 : Inside care z a1) : Inside care z (advance a0 a1) := by
  unfold advance
  exact updThr_inside _ _ _ k0

theorem wakeWaitcp_inside {care : Care} {z : State} (a0 a1 : _) (k0 : Inside care z a1) : Inside care z (wakeWaitcp a0 a1) := by
  unfold wakeWaitcp
  refine Inside.foldl k0 (fun _ _ h0 => ?_)
  split
  · exact Inside.ite (completeStalled_inside _ _ _ h0) h0
  · exact h0

theorem freeUnitLock_inside {calm : Bool} {z : State} (a0 a1 : _) (k0 : Inside ⟨calm, false⟩ z a1) : Inside ⟨calm, false⟩ z (freeUnitLock a0 a1) := by
  unfold freeUnitLock
  extract_lets -merge -underBinder x0 x1 x2
  have h3 : Inside ⟨calm, false⟩ z x2 := checkLock_inside _ _ k0
  exact Inside.ite (Inside.ite (freeLock_inside _ _ _ h3) h3) k0

theorem closeUnit_inside {calm : Bool} {z : State} (a0 a1 a2 : _) (k0 : Inside ⟨calm, false⟩ z a2) : Inside ⟨calm, false⟩ z (closeUnit a0 a1 a2) := by
  unfold closeUnit
  extract_lets -merge -underBinder x0
  split
  · exact k0
  · next op =>
    extract_lets -merge -underBinder x1 x2 x3 x4 x5 x6
    have h7 : Inside ⟨calm, false⟩ z x2 := setUnit_inside _ _ (k0.busy op) k0
    have h8 : Inside ⟨calm, false⟩ z x3 := count_inside _ _ _ _ _ h7
    have h9 : Inside ⟨calm, false⟩ z x4 := Inside.ite h8 (count_inside _ _ _ _ _ h8)
    have h10 : Inside ⟨calm, false⟩ z x5 := Inside.ite h9 (dropPin_inside _ _ h9)
    have h11 : Inside ⟨calm, false⟩ z x6 := by
      show Inside ⟨calm, false⟩ z (_)
      unfold x6
      split
      · exact enterItem_inside _ _ h10
      · exact h10
    exact wakeWaitcp_inside _ _ (freeUnitLock_inside _ _ h11)

theorem holdOrClose_inside {calm : Bool} {z : State} (a0 a1 a2 : _) (k0 : Inside ⟨calm, false⟩ z a2) : Inside ⟨calm, false⟩ z (holdOrClose a0 a1 a2) := by
  unfold holdOrClose
  extract_lets -merge -underBinder x0
  split
  · exact k0
  · next op =>
    refine Inside.ite k0 ?_
    split
    · extract_lets -merge -underBinder x1
      exact Inside.ite (closeUnit_inside _ _ _ k0) (setUnit_inside _ _ (k0.busy op) (Inside.upd k0 rfl rfl nofun))
    · exact closeUnit_inside _ _ _ k0

theorem startUnit_inside {z : State} (a0 a1 a2 a3 a4 : _) (k0 : Inside ⟨false, false⟩ z a4) : Inside ⟨false, false⟩ z (startUnit a0 a1 a2 a3 a4) := by
  unfold startUnit
  extract_lets -merge -underBinder x0 x1 x2 x3 x4 x5 x6 x7 x8
  have h9 : Inside ⟨false, false⟩ z x5 := Inside.ite (noteStale_inside _ k0) k0
  have h10 : Inside ⟨false, false⟩ z x6 := Inside.ite h9 (addPin_inside _ _ h9)
  have h11 : Inside ⟨false, false⟩ z x8 := setUnit_inside _ _ (fun e => Bool.noConfusion e) h10
  exact Inside.ite (holdOrClose_inside _ _ _ h11) h11

theorem noteDescriptor_inside {care : Care} {z : State} (a0 a1 a2 a3 a4 : _) (k0 : Inside care z a4) : Inside care z (noteDescriptor a0 a1 a2 a3 a4) := by
  unfold noteDescriptor
  refine Inside.ite k0 ?_
  split
  · exact noteDmemUe_inside _ _ _ k0
  · exact k0

theorem noteDescRead_inside {care : Care} {z : State} (a0 a1 a2 a3 a4 a5 : _) (k0 : Inside care z a5) : Inside care z (noteDescRead a0 a1 a2 a3 a4 a5) := by
  unfold noteDescRead
  extract_lets -merge -underBinder x0
  exact Inside.ite k0 (Inside.ite (noteAccess_inside _ _ _ _ _ k0) (checkDmem_inside _ _ k0))

theorem issueUnit_inside {z : State} (a0 a1 a2 a3 a4 a5 a6 a7 a8 : _) (k0 : Inside ⟨false, false⟩ z a8) : Inside ⟨false, false⟩ z (issueUnit a0 a1 a2 a3 a4 a5 a6 a7 a8) := by
  unfold issueUnit
  extract_lets -merge -underBinder x0 x1 x2 x3
  have h4 : Inside ⟨false, false⟩ z x1 := drainStores_inside _ _ k0
  exact startUnit_inside _ _ _ _ _ (noteDescriptor_inside _ _ _ _ _ (noteDescRead_inside _ _ _ _ _ _ h4))

theorem resumePin_inside {z : State} (a0 a1 : _) (k0 : Inside ⟨false, false⟩ z a1) : Inside ⟨false, false⟩ z (resumePin a0 a1) := by
  unfold resumePin
  refine Inside.ite (makeReady_inside _ _ k0) ?_
  split
  · exact stopThread_inside _ _ _ _ _ k0
  · exact completeStalled_inside _ _ _ (issueUnit_inside _ _ _ _ _ _ _ _ _ k0)

theorem resumePins_inside {z : State} (n : Nat) : ∀ (i : Nat) (s : State), Inside ⟨false, false⟩ z s → Inside ⟨false, false⟩ z (resumePins n i s) := by
  induction n with
  | zero => exact fun _ _ h => h
  | succ n ih =>
    intro i s h
    unfold resumePins
    refine Inside.ite h ?_
    split
    · exact ih _ _ (resumePin_inside _ _ h)
    · exact h

theorem endUnit_inside {z : State} (a0 a1 a2 : _) (k0 : Inside ⟨false, false⟩ z a2) : Inside ⟨false, false⟩ z (endUnit a0 a1 a2) := by
  unfold endUnit
  split
  · exact k0
  · exact resumePins_inside _ _ _ (closeUnit_inside _ _ _ k0)

theorem admitOne_inside {z : State} (a0 a1 : _) (k0 : Inside ⟨false, false⟩ z a1) : Inside ⟨false, false⟩ z (admitOne a0 a1) := by
  unfold admitOne
  extract_lets -merge -underBinder x0 x1
  have h2 : Inside ⟨false, false⟩ z x1 := Inside.upd k0 rfl rfl fun _ => rfl
  split
  · exact endUnit_inside _ _ _ h2
  · exact enterItem_inside _ _ h2

theorem admitWaiting_inside {z : State} (n : Nat) : ∀ (s : State), Inside ⟨false, false⟩ z s → Inside ⟨false, false⟩ z (admitWaiting n s) := by
  induction n with
  | zero => exact fun _ h => h
  | succ n ih =>
    intro s h
    unfold admitWaiting
    split
    · exact ih _ (admitOne_inside _ _ h)
    · exact h

theorem admitEvents_inside {z : State} (a0 : _) (k0 : Inside ⟨false, false⟩ z a0) : Inside ⟨false, false⟩ z (admitEvents a0) := by
  unfold admitEvents
  exact admitWaiting_inside _ _ k0

theorem finishUnit_inside {z : State} (a0 a1 a2 : _) (k0 : Inside ⟨false, false⟩ z a2) : Inside ⟨false, false⟩ z (finishUnit a0 a1 a2) := by
  unfold finishUnit
  split
  · exact k0
  · exact resumePins_inside _ _ _ (holdOrClose_inside _ _ _ k0)

theorem freeThread_inside {calm : Bool} {z : State} (a0 a1 : _) (k0 : Inside ⟨calm, false⟩ z a1) : Inside ⟨calm, false⟩ z (freeThread a0 a1) := by
  unfold freeThread
  extract_lets -merge -underBinder x0
  have h1 : Inside ⟨calm, false⟩ z x0 := updThr_inside _ _ _ k0
  split
  · exact leaveAfter_inside _ _ _ h1
  · exact leaveAfter_inside _ _ _ h1
  · exact walk_inside _ _ (updThr_inside _ _ _ h1)

theorem voidStamp_inside {z : State} (a0 a1 : _) (k0 : Inside ⟨false, false⟩ z a1) : Inside ⟨false, false⟩ z (voidStamp a0 a1) := by
  unfold voidStamp
  split
  · exact k0
  · split
    · exact k0
    · exact admitEvents_inside _ (freeThread_inside _ _ (noteStampVoid_inside _ _ (voidItem_inside _ _ (detachOps_inside _ _ (loseLocks_inside _ _ _
          (checkHeld_inside _ _ k0))))))

theorem releaseUnits_inside {calm : Bool} {z : State} (a0 : _) (k0 : Inside ⟨calm, false⟩ z a0) : Inside ⟨calm, false⟩ z (releaseUnits a0) := by
  unfold releaseUnits
  refine Inside.foldl k0 (fun _ _ h0 => ?_)
  extract_lets -merge -underBinder x1 x2
  have h3 : Inside ⟨calm, false⟩ z x2 := checkLock_inside _ _ h0
  exact Inside.ite (Inside.ite (freeLock_inside _ _ _ h3) h3) h0

theorem lkDevice_inside {care : Care} {z : State} (a0 a1 a2 : _) (k0 : Inside care z a2) : Inside care z (lkDevice a0 a1 a2) := by
  unfold lkDevice
  exact count_inside _ _ _ _ _ k0

theorem lkCount_inside {care : Care} {z : State} (a0 a1 a2 a3 : _) (k0 : Inside care z a3) : Inside care z (lkCount a0 a1 a2 a3) := by
  unfold lkCount
  exact count_inside _ _ _ _ _ k0

theorem lookupTrie_inside {care : Care} {z : State} (a0 a1 a2 : _) (k0 : Inside care z a2) : InsideQ care z (lookupTrie a0 a1 a2) := by
  unfold lookupTrie
  extract_lets -merge -underBinder x0
  have h1 : Inside care z x0 := lkDevice_inside _ _ _ (lkCount_inside _ _ _ _ k0)
  split
  · extract_lets -merge -underBinder x2 x3
    have h4 : Inside care z x2 := raise_inside _ _ _ (lkCount_inside _ _ _ _ (setFlag_inside _ _ _ h1))
    have h5 : Inside care z x3 := Inside.ite h4 (updLk_inside _ _ rfl h4)
    exact InsideQ.mk h5
  · split
    · exact InsideQ.mk (lkCount_inside _ _ _ _ h1)
    · extract_lets -merge -underBinder x6
      exact InsideQ.mk (lkCount_inside _ _ _ _ h1)

theorem checkFrame_inside {care : Care} {z : State} (a0 a1 : _) (k0 : Inside care z a1) : Inside care z (checkFrame a0 a1) := by
  unfold checkFrame
  exact Inside.ite (raiseFirst_inside _ _ _ _ (lkDevice_inside _ _ _ (setFlag_inside _ _ _ (updLk_inside _ _ rfl k0)))) k0

theorem fetchBucket_inside {care : Care} {z : State} (a0 a1 : _) (k0 : Inside care z a1) : Inside care z (fetchBucket a0 a1) := by
  unfold fetchBucket
  extract_lets -merge -underBinder x0 x1 x2 x3
  have h4 : Inside care z x3 := noteAccess_inside _ _ _ _ _ (lkDevice_inside _ _ _ k0)
  exact Inside.ite (lkDevice_inside _ _ _ (updLk_inside _ _ rfl k0)) (updLk_inside _ _ rfl h4)

theorem readBucket_inside {care : Care} {z : State} (a0 a1 a2 : _) (k0 : Inside care z a2) : InsideQ care z (readBucket a0 a1 a2) := by
  unfold readBucket
  extract_lets -merge -underBinder x0
  have h1 : Inside care z x0 := checkFrame_inside _ _ k0
  exact InsideQ.ite (InsideQ.mk (fetchBucket_inside _ _ h1)) (InsideQ.mk k0)

theorem writeFlow_inside {care : Care} {z : State} (a0 a1 a2 : _) (k0 : Inside care z a2) : Inside care z (writeFlow a0 a1 a2) := by
  unfold writeFlow
  extract_lets -merge -underBinder x0 x1
  have h2 : Inside care z x1 := dramWrite_inside _ _ _ _ _ k0
  split
  · exact updLk_inside _ _ rfl h2
  · exact h2

theorem clearEntry_inside {care : Care} {z : State} (a0 a1 a2 : _) (k0 : Inside care z a2) : Inside care z (clearEntry a0 a1 a2) := by
  unfold clearEntry
  exact Inside.ite (writeFlow_inside _ _ _ k0) (updLk_inside _ _ rfl k0)

theorem notice_inside {care : Care} {z : State} (a0 a1 a2 a3 a4 a5 a6 : _) (k0 : Inside care z a6) : Inside care z (notice a0 a1 a2 a3 a4 a5 a6) := by
  unfold notice
  extract_lets -merge -underBinder x0 x1
  have h2 : Inside care z x1 := updLk_inside _ _ rfl k0
  exact Inside.ite (Inside.ite (raise_inside _ _ _ h2) h2) (raiseFirst_inside _ _ _ _ (lkDevice_inside _ _ _ (setFlag_inside _ _ _ k0)))

theorem dropBad_inside {care : Care} {z : State} (a0 a1 a2 : _) (k0 : Inside care z a1) : Inside care z (dropBad a0 a1 a2) := by
  unfold dropBad
  extract_lets -merge -underBinder x0 x1 x2
  clear_value x0
  have h3 : Inside care z x1 := raise_inside _ _ _ (setFlag_inside _ _ _ (clearEntry_inside _ _ _ k0))
  have h4 : Inside care z x2 := Inside.ite (raise_inside _ _ _ (setFlag_inside _ _ _ h3)) h3
  split
  · exact h4
  · exact Inside.ite (updLk_inside _ _ rfl h4) (notice_inside _ _ _ _ _ _ _ h4)

theorem openBuckets_inside {care : Care} {z : State} (a0 a1 a2 a3 : _) (k0 : Inside care z a3) : InsideQ care z (openBuckets a0 a1 a2 a3) := by
  unfold openBuckets
  extract_lets -merge -underBinder x0 x1 x2
  have h3 : InsideQ care z x0 := readBucket_inside _ _ _ k0
  have h4 : InsideQ care z x1 := readBucket_inside _ _ _ (InsideQ.out h3)
  exact InsideQ.mk (Inside.foldl (InsideQ.out h4) (fun _ _ h5 => dropBad_inside _ _ _ h5))

theorem lookupEntry_inside {care : Care} {z : State} (a0 a1 a2 : _) (k0 : Inside care z a2) : InsideQ care z (lookupEntry a0 a1 a2) := by
  unfold lookupEntry
  extract_lets -merge -underBinder x0 x1 x2
  have h3 : InsideQ care z x1 := openBuckets_inside _ _ _ _ k0
  have h4 : Inside care z x2 := lkDevice_inside _ _ _ (lkCount_inside _ _ _ _ (InsideQ.out h3))
  split
  · split
    · exact InsideQ.mk (lkCount_inside _ _ _ _ h4)
    · exact InsideQ.mk h4
  · split
    · exact InsideQ.mk (lkCount_inside _ _ _ _ h4)
    · exact InsideQ.mk (lkCount_inside _ _ _ _ h4)

theorem openInsert_inside {care : Care} {z : State} (a0 a1 a2 : _) (k0 : Inside care z a2) : InsideQ care z (openInsert a0 a1 a2) := by
  unfold openInsert
  extract_lets -merge -underBinder x0 x1
  have h2 : Inside care z x1 := lkCount_inside _ _ _ _ (InsideQ.out (openBuckets_inside _ _ _ _ k0))
  exact InsideQ.mk h2

theorem putEntry_inside {care : Care} {z : State} (a0 a1 a2 a3 : _) (k0 : Inside care z a3) : Inside care z (putEntry a0 a1 a2 a3) := by
  unfold putEntry
  exact Inside.ite (writeFlow_inside _ _ _ k0) (updLk_inside _ _ rfl k0)

theorem install_inside {care : Care} {z : State} (a0 a1 a2 a3 a4 a5 : _) (k0 : Inside care z a5) : InsideQ care z (install a0 a1 a2 a3 a4 a5) := by
  unfold install
  exact InsideQ.mk (putEntry_inside _ _ _ _ k0)

end Sys2Proof.Machine
end

section
/-!
PROOFS. Lookups, units, fences and resets of cores stay inside the machinery.
-/
namespace Sys2Proof.Machine

theorem setTable_inside {care : Care} {z : State} (a0 a1 a2 : _) (k0 : Inside care z a2) : Inside care z (setTable a0 a1 a2) := by
  unfold setTable
  exact updLk_inside _ _ rfl k0

theorem updTable_inside {care : Care} {z : State} (a0 a1 a2 : _) (k0 : Inside care z a2) : Inside care z (updTable a0 a1 a2) := by
  unfold updTable
  exact setTable_inside _ _ _ k0

theorem tableDraw_inside {care : Care} {z : State} (a0 a1 a2 : _) (k0 : Inside care z a2) : InsideQ care z (tableDraw a0 a1 a2) := by
  unfold tableDraw
  extract_lets -merge -underBinder x0
  exact InsideQ.mk (updTable_inside _ _ _ k0)

theorem walkPath_inside {care : Care} {z : State} (n : Nat) : ∀ (t b : Nat) (l : Option (List Word36)) (p : List (Nat × Nat)) (s : State), Inside care z s →
    InsideQ care z (walkPath n t b l p s) := by
  induction n with
  | zero => exact fun _ _ _ _ _ h => h
  | succ n ih =>
    intro t b l p s h
    have k : ∀ w, Inside care z (tableDraw t w s).2 := fun w => InsideQ.out (tableDraw_inside t w s h)
    unfold walkPath
    extract_lets -merge -underBinder ways d s1 i
    have h1 : Inside care z s1 := k _
    refine InsideQ.ite h ?_
    split
    · exact h1
    · extract_lets -merge -underBinder a r s2
      have h2 : Inside care z s2 := Inside.foldl (InsideQ.out (readBucket_inside _ _ _ h1)) (fun _ _ ha => dropBad_inside _ _ _ ha)
      exact InsideQ.ite h2 (ih _ _ _ _ _ h2)

theorem runPath_inside {care : Care} {z : State} (a0 a1 a2 : _) (k0 : Inside care z a2) : Inside care z (runPath a0 a1 a2) := by
  unfold runPath
  refine Inside.foldl k0 (fun _ _ h0 => ?_)
  split
  · exact clearEntry_inside _ _ _ (putEntry_inside _ _ _ _ h0)
  · exact h0

theorem chooseVictim_inside {care : Care} {z : State} (a0 a1 a2 a3 : _) (k0 : Inside care z a3) : InsideQ care z (chooseVictim a0 a1 a2 a3) := by
  unfold chooseVictim
  extract_lets -merge -underBinder x0 x1
  have h2 : InsideQ care z x1 := tableDraw_inside _ _ _ k0
  exact InsideQ.ite (InsideQ.mk k0) (InsideQ.ite (InsideQ.mk k0) (InsideQ.mk (InsideQ.out h2)))

theorem dropFlap_inside {care : Care} {z : State} (a0 a1 a2 : _) (k0 : Inside care z a2) : Inside care z (dropFlap a0 a1 a2) := by
  unfold dropFlap
  exact updLk_inside _ _ rfl k0

theorem insertNew_inside {care : Care} {z : State} (a0 a1 a2 : _) (k0 : Inside care z a2) : InsideQ care z (insertNew a0 a1 a2) := by
  unfold insertNew
  extract_lets -merge -underBinder x0
  split
  · exact install_inside _ _ _ _ _ _ k0
  · split
    · exact install_inside _ _ _ _ _ _ k0
    · extract_lets -merge -underBinder x1 x2
      have h3 : InsideQ care z x1 := walkPath_inside _ _ _ _ _ _ k0
      have h4 : Inside care z x2 := InsideQ.out h3
      split
      · extract_lets -merge -underBinder x5
        have h6 : Inside care z x5 := lkDevice_inside _ _ _ (lkCount_inside _ _ _ _ (runPath_inside _ _ _ h4))
        exact install_inside _ _ _ _ _ _ h6
      · extract_lets -merge -underBinder x7 x8
        have h9 : InsideQ care z x7 := chooseVictim_inside _ _ _ _ h4
        have h10 : Inside care z x8 := InsideQ.out h9
        split
        · exact InsideQ.mk (raiseFirst_inside _ _ _ _ (lkCount_inside _ _ _ _ (setFlag_inside _ _ _ h10)))
        · split
          · exact InsideQ.mk h10
          · extract_lets -merge -underBinder x11
            have h12 : Inside care z x11 := notice_inside _ _ _ _ _ _ _ (lkCount_inside _ _ _ _ (setFlag_inside _ _ _ (dropFlap_inside _ _ _ h10)))
            exact InsideQ.mk (putEntry_inside _ _ _ _ h12)

theorem refreshAge_inside {care : Care} {z : State} (a0 a1 a2 a3 : _) (k0 : Inside care z a3) : Inside care z (refreshAge a0 a1 a2 a3) := by
  unfold refreshAge
  exact lkCount_inside _ _ _ _ (putEntry_inside _ _ _ _ k0)

theorem noteFlap_inside {care : Care} {z : State} (a0 a1 : _) (k0 : Inside care z a1) : Inside care z (noteFlap a0 a1) := by
  unfold noteFlap
  split
  · exact Inside.ite (drawFree_inside _ (setFlag_inside _ _ _ k0)) k0
  · exact k0

theorem applyMove_inside {care : Care} {z : State} (a0 a1 a2 a3 a4 a5 : _) (k0 : Inside care z a5) : Inside care z (applyMove a0 a1 a2 a3 a4 a5) := by
  unfold applyMove
  extract_lets -merge -underBinder x0
  have h1 : Inside care z x0 := putEntry_inside _ _ _ _ k0
  exact notice_inside _ _ _ _ _ _ _ (raise_inside _ _ _ (lkCount_inside _ _ _ _ (setFlag_inside _ _ _ h1)))

theorem putFlap_inside {care : Care} {z : State} (a0 a1 : _) (k0 : Inside care z a1) : Inside care z (putFlap a0 a1) := by
  unfold putFlap
  exact updLk_inside _ _ rfl k0

theorem moveEntry_inside {care : Care} {z : State} (a0 a1 a2 a3 a4 a5 : _) (k0 : Inside care z a5) : InsideQ care z (moveEntry a0 a1 a2 a3 a4 a5) := by
  unfold moveEntry
  extract_lets -merge -underBinder x0 x1
  clear_value x0
  have h2 : Inside care z x1 := noteFlap_inside _ _ k0
  split
  · exact InsideQ.mk (applyMove_inside _ _ _ _ _ _ (raiseFirst_inside _ _ _ _ (lkDevice_inside _ _ _ (setFlag_inside _ _ _ h2))))
  · extract_lets -merge -underBinder x3 x4
    have h5 : Inside care z x3 := putFlap_inside _ _ h2
    have h6 : Inside care z x4 := putEntry_inside _ _ _ _ h5
    exact InsideQ.ite (InsideQ.mk (applyMove_inside _ _ _ _ _ _ (putFlap_inside _ _ h2))) (InsideQ.mk (notice_inside _ _ _ _ _ _ _ (raise_inside _ _ _
        (lkCount_inside _ _ _ _ (setFlag_inside _ _ _ h6)))))

theorem learnFound_inside {care : Care} {z : State} (a0 a1 a2 a3 a4 a5 : _) (k0 : Inside care z a5) : InsideQ care z (learnFound a0 a1 a2 a3 a4 a5) := by
  unfold learnFound
  extract_lets -merge -underBinder x0
  exact InsideQ.ite (InsideQ.ite (InsideQ.mk k0) (InsideQ.mk (notice_inside _ _ _ _ _ _ _ (lkCount_inside _ _ _ _ k0)))) (InsideQ.ite (InsideQ.mk
      (refreshAge_inside _ _ _ _ k0)) (InsideQ.ite (InsideQ.mk (lkCount_inside _ _ _ _ k0)) (moveEntry_inside _ _ _ _ _ _ k0)))

theorem learn_inside {care : Care} {z : State} (a0 a1 a2 a3 a4 : _) (k0 : Inside care z a4) : InsideQ care z (learn a0 a1 a2 a3 a4) := by
  unfold learn
  extract_lets -merge -underBinder x0 x1
  have h2 : InsideQ care z x0 := openInsert_inside _ _ _ k0
  have h3 : Inside care z x1 := InsideQ.out h2
  split
  · extract_lets -merge -underBinder x4
    have h5 : InsideQ care z x4 := insertNew_inside _ _ _ (lkDevice_inside _ _ _ h3)
    exact InsideQ.mk (Inside.ite (InsideQ.out h5) (lkCount_inside _ _ _ _ (InsideQ.out h5)))
  · split
    · exact InsideQ.mk h3
    · extract_lets -merge -underBinder x6 x7
      have h8 : InsideQ care z x6 := learnFound_inside _ _ _ _ _ _ h3
      exact InsideQ.mk (lkDevice_inside _ _ _ (InsideQ.out h8))

theorem plainInsert_inside {care : Care} {z : State} (a0 a1 a2 a3 a4 a5 : _) (k0 : Inside care z a5) : InsideQ care z (plainInsert a0 a1 a2 a3 a4 a5) := by
  unfold plainInsert
  extract_lets -merge -underBinder x0 x1
  have h2 : InsideQ care z x0 := openInsert_inside _ _ _ k0
  have h3 : Inside care z x1 := lkDevice_inside _ _ _ (InsideQ.out h2)
  split
  · exact insertNew_inside _ _ _ h3
  · split
    · exact InsideQ.mk h3
    · extract_lets -merge -underBinder x4
      exact InsideQ.mk (putEntry_inside _ _ _ _ h3)

theorem insertEntry_inside {care : Care} {z : State} (a0 a1 a2 a3 a4 : _) (k0 : Inside care z a4) : InsideQ care z (insertEntry a0 a1 a2 a3 a4) := by
  unfold insertEntry
  exact InsideQ.ite (learn_inside _ _ _ _ _ k0) (plainInsert_inside _ _ _ _ _ _ k0)

theorem dropRewrites_inside {care : Care} {z : State} (a0 a1 a2 : _) (k0 : Inside care z a2) : Inside care z (dropRewrites a0 a1 a2) := by
  unfold dropRewrites
  exact updLk_inside _ _ rfl k0

theorem removeEntry_inside {care : Care} {z : State} (a0 a1 a2 a3 : _) (k0 : Inside care z a3) : Inside care z (removeEntry a0 a1 a2 a3) := by
  unfold removeEntry
  exact dropFlap_inside _ _ _ (clearEntry_inside _ _ _ k0)

theorem deleteEntry_inside {care : Care} {z : State} (a0 a1 a2 : _) (k0 : Inside care z a2) : InsideQ care z (deleteEntry a0 a1 a2) := by
  unfold deleteEntry
  extract_lets -merge -underBinder x0 x1 x2
  have h3 : InsideQ care z x1 := openBuckets_inside _ _ _ _ k0
  have h4 : Inside care z x2 := dropRewrites_inside _ _ _ (lkDevice_inside _ _ _ (InsideQ.out h3))
  split
  · split
    · exact InsideQ.mk (removeEntry_inside _ _ _ _ (lkCount_inside _ _ _ _ h4))
    · exact InsideQ.mk h4
  · split
    · exact InsideQ.mk h4
    · exact InsideQ.mk h4

theorem runLookup_inside {care : Care} {z : State} (a0 a1 : _) (k0 : Inside care z a1) : InsideQ care z (runLookup a0 a1) := by
  unfold runLookup
  refine InsideQ.ite (InsideQ.mk k0) (InsideQ.ite (InsideQ.mk k0) (InsideQ.ite (lookupTrie_inside _ _ _ k0) ?_))
  split
  · exact lookupEntry_inside _ _ _ k0
  · exact insertEntry_inside _ _ _ _ _ k0
  · exact deleteEntry_inside _ _ _ k0

theorem reclaimNodes_inside {care : Care} {z : State} (a0 : _) (k0 : Inside care z a0) : Inside care z (reclaimNodes a0) := by
  unfold reclaimNodes
  exact updLk_inside _ _ rfl k0

theorem unlock_inside {care : Care} {z : State} (a0 a1 a2 : _) (k0 : Inside care z a2) : Inside care z (unlock a0 a1 a2) := by
  unfold unlock
  extract_lets -merge -underBinder x0
  refine Inside.ite ?_ (raise_inside _ _ _ (count_inside _ _ _ _ _ (setFlag_inside _ _ _ k0)))
  split
  · exact Inside.ite (setLock_inside _ _ _ k0) (freeLock_inside _ _ _ k0)
  · exact freeLock_inside _ _ _ k0

theorem fenceContext_inside {care : Care} {z : State} (a0 a1 : _) (k0 : Inside care z a1) : Inside care z (fenceContext a0 a1) := by
  unfold fenceContext
  exact Inside.ite (raise_inside _ _ _ (setFlag_inside _ _ _ (ctxDiscard_inside _ _ k0))) (ctxWriteBack_inside _ _ k0)

theorem stopSupervisors_inside {calm : Bool} {z : State} (a0 a1 : _) (k0 : Inside ⟨calm, false⟩ z a1) : Inside ⟨calm, false⟩ z (stopSupervisors a0 a1) := by
  unfold stopSupervisors
  exact Inside.foldl k0 (fun _ _ h0 => Inside.ite (Inside.upd h0 rfl rfl nofun) h0)

theorem fenceItem_inside {care : Care} {z : State} (a0 a1 : _) (k0 : Inside care z a1) : Inside care z (fenceItem a0 a1) := by
  unfold fenceItem
  split
  · exact k0
  · split
    · exact k0
    · exact Inside.ite k0 (voidCounted_inside _ _ _ (Inside.ite (lateLoss_inside _ _ k0) k0))

theorem fenceThread_inside {calm : Bool} {z : State} (a0 a1 : _) (k0 : Inside ⟨calm, false⟩ z a1) : Inside ⟨calm, false⟩ z (fenceThread a0 a1) := by
  unfold fenceThread
  extract_lets -merge -underBinder x0
  have h1 : Inside ⟨calm, false⟩ z x0 := detachOps_inside _ _ (voidSlots_inside _ _ (loseLocks_inside _ _ _ (leaveWait_inside _ _ (checkHeld_inside _ _ k0))))
  exact updThr_inside _ _ _ h1

theorem moveAffinity_inside {care : Care} {z : State} (a0 a1 : _) (k0 : Inside care z a1) : Inside care z (moveAffinity a0 a1) := by
  unfold moveAffinity
  extract_lets -merge -underBinder x0 x1
  have h2 : Inside care z x1 := k0.upd rfl rfl fun _ => rfl
  refine Inside.foldl h2 (fun _ _ h3 => ?_)
  split
  · exact waitGlobal_inside _ _ _ (wakeFor_inside _ _ h3)
  · exact h3

theorem fenceCores_inside {calm : Bool} {z : State} (a0 a1 : _) (k0 : Inside ⟨calm, false⟩ z a1) : Inside ⟨calm, false⟩ z (fenceCores a0 a1) := by
  unfold fenceCores
  extract_lets -merge -underBinder x0 x1 x2 x3
  have h4 : Inside ⟨calm, false⟩ z x1 := Inside.foldl (setFlag_inside _ _ _ k0) (fun _ _ h7 => fenceItem_inside _ _ h7)
  have h5 : Inside ⟨calm, false⟩ z x2 := Inside.foldl h4 (fun _ _ h8 => fenceThread_inside _ _ h8)
  have h6 : Inside ⟨calm, false⟩ z x3 := Inside.foldl h5 (fun _ _ h9 => fenceContext_inside _ _ h9)
  exact moveAffinity_inside _ _ h6

theorem resetCores_inside {z : State} (a0 a1 : _) (k0 : Inside ⟨false, false⟩ z a1) : Inside ⟨false, false⟩ z (resetCores a0 a1) := by
  unfold resetCores
  extract_lets -merge -underBinder x0 x1
  have h2 : Inside ⟨false, false⟩ z x0 := stopSupervisors_inside _ _ (fenceCores_inside _ _ k0)
  have h3 : Inside ⟨false, false⟩ z x1 := Inside.foldl h2 (fun _ _ h4 => dropHeld_inside _ _ (resetThread_inside _ _ _ (checkHeld_inside _ _ h4)))
  exact admitEvents_inside _ (Inside.foldl h3 (fun _ _ h5 => Inside.upd h5 rfl rfl fun _ => rfl))

theorem noteOp_inside {care : Care} {z : State} (a0 a1 : _) (k0 : Inside care z a1) : Inside care z (noteOp a0 a1) := by
  unfold noteOp
  extract_lets -merge -underBinder x0
  have h1 : Inside care z x0 := setFlag_inside _ _ _ k0
  exact Inside.ite (Inside.upd h1 rfl rfl fun _ => rfl) k0

theorem endAwait_inside {care : Care} {z : State} (a0 a1 : _) (k0 : Inside care z a1) : Inside care z (endAwait a0 a1) := by
  unfold endAwait
  exact Inside.ite (walk_inside _ _ (updThr_inside _ _ _ k0)) k0

theorem sendLookup_inside {care : Care} {z : State} (a0 a1 a2 a3 a4 a5 a6 a7 : _) (k0 : Inside care z a7) : Inside care z (sendLookup a0 a1 a2 a3 a4 a5 a6 a7) := by
  unfold sendLookup
  extract_lets -merge -underBinder x0 x1 x2
  have h3 : Inside care z x0 := checkDmem_inside _ _ (drainStores_inside _ _ k0)
  have h4 : Inside care z x2 := updLk_inside _ _ rfl h3
  exact updThr_inside _ _ _ h4

theorem wakeLookups_inside {calm : Bool} {z : State} (a0 a1 : _) (k0 : Inside ⟨calm, false⟩ z a1) : Inside ⟨calm, false⟩ z (wakeLookups a0 a1) := by
  unfold wakeLookups
  split
  · exact Inside.ite k0 (makeReady_inside _ _ k0)
  · exact Inside.ite (completeStalled_inside _ _ _ k0) k0
  · refine Inside.ite k0 ?_
    split
    · exact stopThread_inside _ _ _ _ _ (noteDmemUe_inside _ _ _ k0)
    · extract_lets -merge -underBinder x0
      have h1 : Inside ⟨calm, false⟩ z x0 := sendLookup_inside _ _ _ _ _ _ _ _ k0
      exact Inside.ite (completeStalled_inside _ _ _ h1) (updThr_inside _ _ _ h1)
  · exact k0

theorem landStatus_inside {calm : Bool} {z : State} (a0 a1 a2 a3 : _) (k0 : Inside ⟨calm, false⟩ z a3) : Inside ⟨calm, false⟩ z (landStatus a0 a1 a2 a3) := by
  unfold landStatus
  exact Inside.ite (endAwait_inside _ _ k0) (Inside.ite (endAwait_inside _ _ (wakeLookups_inside _ _ (updThr_inside _ _ _ k0))) (completeStalled_inside _ _ _
      k0))

theorem completeLookup_inside {calm : Bool} {z : State} (a0 a1 : _) (k0 : Inside ⟨calm, false⟩ z a1) : Inside ⟨calm, false⟩ z (completeLookup a0 a1) := by
  unfold completeLookup
  extract_lets -merge -underBinder x0
  have h1 : InsideQ ⟨calm, false⟩ z x0 := runLookup_inside _ _ (noteOp_inside _ _ (updLk_inside _ _ rfl k0))
  exact landStatus_inside _ _ _ _ (dmemPuts_inside _ _ _ _ (InsideQ.out h1))

theorem awaitTries_inside {calm : Bool} {z : State} (a0 a1 a2 : _) (k0 : Inside ⟨calm, false⟩ z a2) : Inside ⟨calm, false⟩ z (awaitTries a0 a1 a2) := by
  unfold awaitTries
  exact Inside.ite k0 (reclaimNodes_inside _ (Inside.foldl k0 (fun _ _ h0 => completeLookup_inside _ _ h0)))

end Sys2Proof.Machine
end

section
/-!
PROOFS. What stands where only the machinery worked.
-/
namespace Sys2Proof.Machine

section
variable {care : Care} {z t : State} (h : Inside care z t)
include h

theorem Inside.outside_host : t.outside.host = z.outside.host := congrArg State.host h.outside

/-- The mailboxes and the completion queue stand. -/
theorem Inside.apart : Apart z t :=
  ⟨⟨congrArg (·.busy) h.outside_host, congrArg (·.done) h.outside_host, congrArg (·.status) h.outside_host, congrArg (·.tag) h.outside_host,
    congrArg (·.mbx) h.outside_host, congrArg (·.accepted) h.outside_host⟩, congrArg (·.held) h.outside_host, congrArg (·.cq) h.outside_host,
    congrArg (·.busMaster) h.outside_host⟩

theorem Inside.link : linkOf t = linkOf z := congrArg (·.cop.link) h.outside
theorem Inside.tries : t.lk.tries = z.lk.tries := congrArg (·.lk.tries) h.outside
theorem Inside.copWindows : t.cop.windows = z.cop.windows := congrArg (·.cop.windows) h.outside
theorem Inside.fenced : t.disp.fenced = z.disp.fenced := congrArg (·.disp.fenced) h.outside
theorem Inside.frozen : t.disp.frozen = z.disp.frozen := congrArg (·.disp.frozen) h.outside
theorem Inside.imem : t.cores.imem = z.cores.imem := congrArg (·.cores.imem) h.outside
theorem Inside.ev : t.ev = { z.ev with streams := t.ev.streams } := by
  have e : { t.ev with streams := [] } = { z.ev with streams := [] } := congrArg State.ev h.outside
  have same : t.ev = { ({ t.ev with streams := [] } : Evidence) with streams := t.ev.streams } := rfl
  rw [same, e]
theorem Inside.pow : t.pow = { z.pow with gated := t.pow.gated } := by
  have e : { t.pow with gated := 0 } = { z.pow with gated := 0 } := congrArg State.pow h.outside
  have same : t.pow = { ({ t.pow with gated := 0 } : Power) with gated := t.pow.gated } := rfl
  rw [same, e]
theorem Inside.keys : t.sec.keys = z.sec.keys := congrArg (·.sec.keys) h.outside
theorem Inside.pending : t.pending = z.pending := congrArg (·.pending) h.outside

end

/-- A machinery that takes care of the units leaves one that rests as it stands. -/
theorem Inside.resting {z t : State} {u : Nat} {b : Bool} (h : Inside ⟨true, b⟩ z t) (rests : z.Rests u) : unitOf t u = unitOf z u :=
  (h.idle rfl u rests).2

/-- A machinery that takes care of the supervisors leaves each as it stands. -/
theorem Inside.supervisor {z t : State} {b : Bool} (h : Inside ⟨b, true⟩ z t) (k : Nat) : supervisorOf t k = supervisorOf z k := by
  rw [supervisorOf, h.supers rfl]
  rfl

end Sys2Proof.Machine
end

section
/-!
PROOFS. Coprocessor commands 0x07xx (Table 8.15), the ends of units' operations, and the training of the companion link.
-/
namespace Sys2Proof.Machine

theorem addTimed_apart (sc : Scope) (x i : Nat) (s : State) : Apart s (addTimed sc x i s) := by
  unfold addTimed
  dsimp only
  exact .ite (.refl s) (.of_host rfl)

/-- A counter command whose counters include measured times (R151). -/
theorem timed_read {c : CmdSpec} {m : BitVec 4} {s : State} {sc : Scope} {x : List Byte → Nat} {off n i : Nat} (h : Accepted c m s)
    (body : c.body = timedBody sc x off n [i]) (len : n ≤ 29) (room : completionRoom s = true) :
    Effect (.next (runCmd c m s)) m s
      (fun a => if par s m off 1 = 1 then clearCounters sc (x (mbxPayload s m.toNat)) n (addTimed sc (x (mbxPayload s m.toNat)) i a)
        else addTimed sc (x (mbxPayload s m.toNat)) i a)
      (leBytes 8 s.cntSheet.toNat ++ (List.range n).flatMap (fun k =>
        leBytes 8 (tabGet 0 (addTimed sc (x (mbxPayload s m.toNat)) i (startCmd m.toNat s)).cntTot
          (cntKey sc (x (mbxPayload s m.toNat)) k)))) := by
  have sheet : (addTimed sc (x (mbxPayload s m.toNat)) i (startCmd m.toNat s)).cntSheet = s.cntSheet := by
    unfold addTimed
    dsimp only
    split <;> rfl
  refine effect_of_apart h ?_ ?_ room ?_
  · show c.body _ _ _ = _
    rw [body, ← sheet]
    rfl
  · have len' := counterReply_length (addTimed sc (x (mbxPayload s m.toNat)) i (startCmd m.toNat s)) sc (x (mbxPayload s m.toNat)) n
    unfold counterReply at len'
    rw [sheet] at len'
    exact Nat.le_trans (Nat.le_of_eq len') (by omega)
  · split
    · exact .trans (addTimed_apart _ _ _ _) (.of_host rfl)
    · exact addTimed_apart _ _ _ _

/-! ### COMP_ENABLE -/

/-- The link once it has left its UP state: nothing of its traffic is kept. -/
def Tabino.left (st : LinkState) (l : Tabino) : Tabino :=
  { l with
    state := st, trains := 0, frame := none, frameFlits := 0, passing := false, waiting := [], replay := [], credits := []
    lastTotal := [], returned := [], withheld := [], txSeq := 0, rxSeq := 0, rxAny := false, nakSent := false, naks := 0 }

theorem leaveUp_inside (st : LinkState) (s : State) : Inside ⟨false, false⟩ (updLink (Tabino.left st) s) (leaveUp st s) := by
  unfold leaveUp
  dsimp only
  refine .ite ?_ (.refl _)
  refine Inside.foldl (raise_inside _ _ _ (setFlag_inside _ _ _ (.refl _))) fun a u h => ?_
  exact .ite (finishUnit_inside _ _ _ h) h

theorem leaveUp_apart (st : LinkState) (s : State) : Apart s (leaveUp st s) :=
  .trans (b := updLink (Tabino.left st) s) (.of_host rfl) (leaveUp_inside st s).apart

theorem linkOf_leaveUp (st : LinkState) (s : State) : linkOf (leaveUp st s) = (linkOf s).left st := (leaveUp_inside st s).link

theorem leaveUp_down {st : LinkState} {s : State} (down : (linkOf s).state ≠ .up) : leaveUp st s = updLink (Tabino.left st) s :=
  if_neg (by rw [beq_iff_eq]; exact down)

theorem compEnable_off {s : State} {m : BitVec 4} (room : completionRoom s = true) (h : Accepted compEnable m s) (off : par s m 0 1 = 0) :
    Ends (exec (.compEnable m) s) m s (fun t => (linkOf t).state = .down ∧ (linkOf t).enabled = false ∧ (linkOf t).replay = [] ∧
      (linkOf t).blockLock = 0 ∧ ((linkOf s).state ≠ .up → t.cop.units = s.cop.units)) := by
  have body : bodyOf compEnable m s =
      okCmd (updLink (fun l => { l with enabled := false, blockLock := 0 }) (leaveUp .down (startCmd m.toNat s))) :=
    if_neg (by
      show par s m 0 1 ≠ 1
      rw [off]
      decide)
  refine ends_of_body h body (by decide) room ((leaveUp_apart _ _).trans (.of_host rfl)) fun t _ rep => ?_
  have link : linkOf t = { (linkOf s).left .down with enabled := false, blockLock := 0 } := by
    rw [linkOf, rep.cop]
    show { linkOf (leaveUp .down (startCmd m.toNat s)) with enabled := false, blockLock := 0 } = _
    rw [linkOf_leaveUp]
    rfl
  rw [link]
  refine ⟨rfl, rfl, rfl, rfl, fun down => ?_⟩
  rw [rep.cop, leaveUp_down (s := startCmd m.toNat s) down]
  rfl

theorem compEnable_on {s : State} {m : BitVec 4} (room : completionRoom s = true) (h : Accepted compEnable m s) (on : par s m 0 1 = 1)
    (go : ticking s = true) :
    ((linkOf s).enabled = false → Effect (exec (.compEnable m) s) m s
      (updLink (fun l => { l with enabled := true, state := .lock, blockLock := 0, trains := 0 })) []) ∧
    ((linkOf s).enabled = true → Effect (exec (.compEnable m) s) m s id []) := by
  have body : bodyOf compEnable m s = okCmd (if (linkOf s).enabled then startCmd m.toNat s
      else beginTraining (updLink (fun l => { l with enabled := true }) (startCmd m.toNat s))) :=
    (if_pos on).trans (if_neg (by
      show ¬ (!ticking s) = true
      rw [go]
      exact Bool.false_ne_true))
  refine ⟨fun off => effect_of_state h ?_ room (.of_host rfl), fun already => effect_of_state h ?_ room (.refl _)⟩
  · rw [body, off]
    rfl
  · rw [body, already]
    rfl

/-! ### A unit's operation ends -/

/-- The unit once its operation is over, with its status. -/
def Unit'.over (x : Unit') (d : Nat) : Unit' :=
  { x with
    busy := false, done := true, error := d != 0, errorCode := BitVec.ofNat 8 d, op := none, held := false
    fenced := x.fenced || x.fencePending, fencePending := false }

theorem setUnit_rests {u : Nat} {x : Unit'} {s : State} (op : x.op = none) : (setUnit u x s).Rests u := by
  refine ⟨(congrArg Unit'.op (tabGet_set_self _ _ _ _)).trans op, fun p mem e => ?_⟩
  simp only [setUnit, tabSet, tabSplice, List.mem_append, List.mem_filter] at mem
  rcases mem with (⟨-, low⟩ | mem) | ⟨-, high⟩
  · exact absurd e (by simpa using Nat.ne_of_lt (of_decide_eq_true low))
  · split at mem
    · cases mem
    · rw [congrArg Prod.snd (List.mem_singleton.mp mem)]
      exact op
  · exact absurd e (by have := of_decide_eq_true high; omega)

theorem closeUnit_over {u code : Nat} {s : State} {o : UnitOp} (op : (unitOf s u).op = some o) (notify : o.notify = none)
    (pin : o.pin = nullHandle) : unitOf (closeUnit u code s) u = (unitOf s u).over (if o.detached then 0x0B else code) := by
  obtain ⟨d, hd⟩ : ∃ d, d = if o.detached then 0x0B else code := ⟨_, rfl⟩
  obtain ⟨v, hv⟩ : ∃ v, v = setUnit u ((unitOf s u).over d) s := ⟨_, rfl⟩
  have noEvent : completionOf u o d = none := by
    unfold completionOf
    rw [notify]
    split <;> rfl
  have same : closeUnit u code s =
      wakeWaitcp u (freeUnitLock u (if d = 0 then count .unit u 0 1 v else count .unit u 2 1 (count .unit u 0 1 v))) := by
    have noPin : (o.pin == nullHandle) = true := beq_iff_eq.mpr pin
    unfold closeUnit
    simp only [op, ← hd, noEvent, noPin, if_true]
    rw [hv]
    rfl
  have counted : Inside ⟨true, false⟩ v (if d = 0 then count .unit u 0 1 v else count .unit u 2 1 (count .unit u 0 1 v)) :=
    .ite (count_inside _ _ _ _ _ (.refl v)) (count_inside _ _ _ _ _ (count_inside _ _ _ _ _ (.refl v)))
  have rests : v.Rests u := by
    rw [hv]
    exact setUnit_rests rfl
  rw [same, (wakeWaitcp_inside _ _ (freeUnitLock_inside _ _ counted)).resting rests, hv, ← hd]
  exact tabGet_set_self _ _ _ _

theorem holdOrClose_over {u code : Nat} {s : State} {o : UnitOp} (op : (unitOf s u).op = some o) (held : (unitOf s u).held = false)
    (notify : o.notify = none) (pin : o.pin = nullHandle) :
    unitOf (holdOrClose u code s) u = (unitOf s u).over (if o.detached then 0x0B else code) := by
  have noEvent : completionOf u o code = none := by
    unfold completionOf
    rw [notify]
    split <;> rfl
  have same : holdOrClose u code s = closeUnit u code s := by
    unfold holdOrClose
    simp only [op, held, noEvent, Bool.false_eq_true, if_false]
  rw [same, closeUnit_over op notify pin]

theorem wmStreamLoad_loads {s : State} {m : BitVec 4} (room : completionRoom s = true) (h : Accepted wmStreamLoad m s) :
    Loads (exec (.wmStreamLoad m) s) m s 15 (par s m 2 1) (fun b => { b with
      streams := putEntries b.streams (par s m 0 2) ((List.range (par s m 2 1)).map (fun i =>
        { flags := BitVec.ofNat 8 (par s m (4 + 8 * i) 1), key := BitVec.ofNat 8 (par s m (5 + 8 * i) 1)
          ivPrefix := BitVec.ofNat 32 (beNat (bytesAt (mbxPayload s m.toNat) (8 + 8 * i) 4)) })) }) := by
  have key (i : Nat) : 4 + 8 * i + 1 = 5 + 8 * i := by omega
  have ivOffset (i : Nat) : 4 + 8 * i + 4 = 8 + 8 * i := by omega
  refine loads_of_body h ?_ room
  simp only [bodyOf, wmStreamLoad, okState, entryOffs, List.map_map, Function.comp_def, key, ivOffset, leAt_payload]

/-- Settles O32, command by command. -/
theorem coprocessorCommandsTakeEffect : Obligations.CoprocessorCommandsTakeEffect := by
  unfold Obligations.CoprocessorCommandsTakeEffect
  refine ⟨fun s m room => ⟨fun h => ?_, fun h => ⟨fun off => ?_, fun on busy => ?_, fun on idle => ?_⟩, ?_, ?_, fun h off => ?_,
    fun h on go => compEnable_on room h on go, fun h off => compEnable_off room h off, fun h few => ?_, fun h => ?_, fun h => ?_, fun h => ?_⟩,
    fun s => ⟨?_, fun on st => ?_, fun st => ?_, fun on down => ?_⟩⟩
  · exact wmStreamLoad_loads room h
  · exact effect_of_state h (congrArg okCmd (if_pos off)) room (.of_host rfl)
  · refine effect_of_state h (congrArg okCmd ((if_neg ?_).trans (if_pos busy))) room (.of_host rfl)
    show par s m 1 1 ≠ 0
    rw [on]
    decide
  · refine effect_of_state h (congrArg okCmd ((if_neg ?_).trans (if_neg ?_))) room (.of_host rfl)
    · show par s m 1 1 ≠ 0
      rw [on]
      decide
    · show ¬ (unitOf s (par s m 0 1)).busy = true
      rw [idle]
      exact Bool.false_ne_true
  · rintro u h rfl
    exact effect_of_reply h rfl (by simp [layout, leBytes_length]) room
  · rintro u timed h rfl rfl
    exact timed_read (x := fun p => unitOfCode (leAt p 0 1)) h rfl (by decide) room
  · refine effect_of_state h (if_neg ?_) room (.of_host rfl)
    show ¬ (linkOf s).enabled = true
    rw [off]
    exact Bool.false_ne_true
  · refine effect_of_reply h rfl ?_ room
    simp only [layout, List.length_append, List.length_flatMap, leBytes_length, List.length_take, List.map_const', List.sum_replicate_nat]
    simp
    omega
  · exact effect_of_state h rfl room (.of_host rfl)
  · exact effect_of_state h rfl room (.of_host rfl)
  · exact counters_read (x := fun _ => 0) h rfl (by decide) room
  · rintro u o code d op held notify pin rfl
    exact ⟨_, rfl, by rw [holdOrClose_over op held notify pin]; exact ⟨rfl, rfl, rfl, rfl, rfl⟩⟩
  · exact congrArg Host.Outcome.next (if_pos (by rw [on, decide_eq_true st]; rfl))
  · exact congrArg Host.Outcome.next (if_pos st)
  · exact congrArg Host.Outcome.next (if_pos (by rw [on, decide_eq_true down]; rfl))

end Sys2Proof.Machine
end

section
/-!
PROOFS. Thread and Dovetail commands 0x05xx (Table 6.17).
-/
namespace Sys2Proof.Machine

theorem effPrioN_startCmd (n : Nat) (s : State) (t m : Nat) : effPrioN n (startCmd m s) t = effPrioN n s t := by
  induction n generalizing t with
  | zero => rfl
  | succ n ih =>
    show (lockWaiters s t).foldl (fun a w => max a (effPrioN n (startCmd m s) w)) (ownPrio s t) = _
    simp only [ih]
    rfl

theorem inherited_startCmd (s : State) (t m : Nat) : inherited (startCmd m s) t = inherited s t := by
  show (lockWaiters s t).foldl (fun a w => max a (effPrioN (chainDepth s) (startCmd m s) w)) 0 = _
  simp only [effPrioN_startCmd]
  rfl

theorem effPrio_startCmd (s : State) (t m : Nat) : effPrio (startCmd m s) t = effPrio s t := effPrioN_startCmd (chainDepth s) s t m

theorem threadStatusBytes_startCmd (s : State) (t m : Nat) : threadStatusBytes (startCmd m s) t = threadStatusBytes s t := by
  show layout [_, (packNat [_, _, (inherited (startCmd m s) t, 3)], 1), _, _, _, _] = _
  rw [inherited_startCmd]
  rfl

/-! ### Supervisors and threads -/

theorem supervisorOf_enterSupervisor (t : Nat) (s : State) :
    supervisorOf (enterSupervisor t s) (clusterOf t) = { supervisorOf s (clusterOf t) with started := true } := by
  obtain ⟨u, hu⟩ : ∃ u : State, u = { s with cores := { s.cores with
    supervisors := tabSet {} s.cores.supervisors (clusterOf t) { supervisorOf s (clusterOf t) with started := true } } } := ⟨_, rfl⟩
  have entered : supervisorOf u (clusterOf t) = { supervisorOf s (clusterOf t) with started := true } := by
    rw [hu]
    exact tabGet_set_self _ _ _ _
  rw [← entered, hu]
  exact (walk_inside (care := ⟨false, true⟩) _ _ (updThr_inside _ _ _ (.refl _))).supervisor _

/-- SUPERVISOR_SET that starts the supervisor of a cluster (R339, R341). -/
theorem supervisorSet_starts {s : State} {m : BitVec 4} {w : Supervisor} (room : completionRoom s = true) (h : Accepted supervisorSet m s)
    (hw : w = { supervisorOf s (par s m 0 1) with core := par s m 1 1, thread := par s m 2 1, entry := BitVec.ofNat 16 (par s m 4 2) })
    (may : s.disp.fenced.getLsbD (par s m 0 1) = true ∨ w = supervisorOf s (par s m 0 1)) (start : par s m 3 1 = 1)
    (fresh : (supervisorOf s (par s m 0 1)).started = false) :
    Ends (exec (.supervisorSet m) s) m s (fun t => supervisorOf t (par s m 0 1) = { w with started := true }) := by
  obtain ⟨k, hk⟩ : ∃ k, k = par s m 0 1 := ⟨_, rfl⟩
  rw [← hk] at hw may fresh ⊢
  have core := (par_in_range h (o := 1) (n := 1) (lo := 0) (hi := 7) (List.mem_cons_of_mem _ List.mem_cons_self)).2
  have thread := (par_in_range h (o := 2) (n := 1) (lo := 0) (hi := 7)
    (List.mem_cons_of_mem _ (List.mem_cons_of_mem _ List.mem_cons_self))).2
  obtain ⟨a, ha⟩ : ∃ a : State, a = { startCmd m.toNat s with cores := { (startCmd m.toNat s).cores with
    supervisors := tabSet {} (startCmd m.toNat s).cores.supervisors k w } } := ⟨_, rfl⟩
  have set : supervisorOf a k = w := by
    rw [ha]
    exact tabGet_set_self _ _ _ _
  obtain ⟨t, ht⟩ : ∃ t, t = supervisorId a k := ⟨_, rfl⟩
  have cluster : clusterOf t = k := by
    rw [ht, supervisorId, set, hw]
    show (64 * k + 8 * par s m 1 1 + par s m 2 1) / 64 = k
    omega
  have go : ((supervisorOf s k != w && !s.disp.fenced.getLsbD k) || (par s m 3 1 == 1 && (supervisorOf s k).started)) = false := by
    rw [fresh, Bool.and_false, Bool.or_false]
    rcases may with fenced | same
    · rw [fenced, Bool.not_true, Bool.and_false]
    · rw [same, bne_self_eq_false, Bool.false_and]
  have body : bodyOf supervisorSet m s =
      okCmd (repostFaults k (enterSupervisor t (setThr t { lastEx := (thr a t).lastEx } a))) := by
    rw [ht, ha, hk, hw, hk]
    rw [hk, hw, hk] at go
    exact (if_neg (by
      refine fun refused => ?_
      exact Bool.false_ne_true (go.symm.trans refused))).trans (if_pos (beq_iff_eq.mpr start))
  have inside : Inside ⟨false, false⟩ a (repostFaults k (enterSupervisor t (setThr t { lastEx := (thr a t).lastEx } a))) :=
    repostFaults_inside _ _ (enterSupervisor_inside _ _ (setThr_inside _ _ _ (.refl a)))
  have apart : Apart (startCmd m.toNat s) a := .of_host (by rw [ha])
  refine ends_of_body h body (by decide) room (apart.trans inside.apart) fun u _ rep => ?_
  have after := (repostFaults_inside (care := ⟨false, true⟩) k _ (.refl (enterSupervisor t (setThr t { lastEx := (thr a t).lastEx } a)))).supervisor k
  have entered := supervisorOf_enterSupervisor t (setThr t { lastEx := (thr a t).lastEx } a)
  rw [cluster] at entered
  have before : supervisorOf (setThr t { lastEx := (thr a t).lastEx } a) k = w := set
  rw [supervisorOf, rep.cores]
  rw [before] at entered
  exact after.trans entered

theorem supervisorSet_sets {s : State} {m : BitVec 4} {w : Supervisor} (room : completionRoom s = true) (h : Accepted supervisorSet m s)
    (hw : w = { supervisorOf s (par s m 0 1) with core := par s m 1 1, thread := par s m 2 1, entry := BitVec.ofNat 16 (par s m 4 2) })
    (may : s.disp.fenced.getLsbD (par s m 0 1) = true ∨ w = supervisorOf s (par s m 0 1)) (off : par s m 3 1 = 0) :
    Effect (exec (.supervisorSet m) s) m s (fun a => { a with cores := { a.cores with
      supervisors := tabSet {} a.cores.supervisors (par s m 0 1) w } }) [] := by
  have off' : (par s m 3 1 == 1) = false := by rw [off]; rfl
  have go : ((supervisorOf s (par s m 0 1) != w && !s.disp.fenced.getLsbD (par s m 0 1)) ||
      (par s m 3 1 == 1 && (supervisorOf s (par s m 0 1)).started)) = false := by
    rw [off', Bool.false_and, Bool.or_false]
    rcases may with fenced | same
    · rw [fenced, Bool.not_true, Bool.and_false]
    · rw [same, bne_self_eq_false, Bool.false_and]
  rw [hw] at go ⊢
  refine effect_of_state h ?_ room (.of_host rfl)
  exact (if_neg fun refused => Bool.false_ne_true (go.symm.trans refused)).trans (if_neg fun on => Bool.false_ne_true (off'.symm.trans on))

theorem threadReset_resets {s : State} {m : BitVec 4} (room : completionRoom s = true) (h : Accepted threadReset m s) :
    ∃ u, exec (.threadReset m) s = .next (settle u) ∧
      Effect (.next u) m s (fun a => admitEvents (l0Reset (par s m 0 2) (checkHeld (par s m 0 2) a))) [] := by
  refine ⟨_, rfl, effect_of_apart h rfl (by decide) room ?_⟩
  exact (admitEvents_inside _ (l0Reset_inside _ _ (checkHeld_inside _ _ (.refl (startCmd m.toNat s))))).apart

/-! ### Locks -/

theorem checkLock_sound {k : Nat} {s : State} (weak : s.dov.weak = []) (bad : s.dov.bad = []) : checkLock k s = s := by
  unfold checkLock
  rw [weak, bad]
  rfl

theorem checkChan_sound {c : Nat} {s : State} (weak : s.dov.weak = []) (bad : s.dov.bad = []) : checkChan c s = s := by
  unfold checkChan
  rw [weak, bad]
  rfl

theorem markProgress_of_reports {k : Nat} {a b : State} (h : Reports a b) : Reports (markProgress k a) (markProgress k b) := by
  refine ⟨h.pending, h.totals, h.cntTot, h.cntSheet, h.failover, h.sheets, h.line, h.host, h.cab, h.disp, h.cores, ?_, h.lk, h.cop, h.dram,
    h.ev, h.sec, h.pow⟩
  exact congrArg (fun d : Dovetail => { d with detectors := tabUpd {} d.detectors k (fun x => { x with progress := true }) }) h.dov

/-- Reports of a state's changes do not reach the detectors' marks. -/
theorem lockProgress_of_reports {k : Nat} {a b : State} (h : Reports a b) : Reports (lockProgress k a) (lockProgress k b) := by
  unfold lockProgress progress
  dsimp only
  rw [h.cores]
  obtain ⟨l, hl⟩ : ∃ l, l = (a.cores.threads.filter (fun p => waitsLock k p.2)).map (fun p => clusterOf p.1) := ⟨_, rfl⟩
  rw [← hl]
  have all (l : List Nat) : ∀ {x y : State}, Reports x y →
      Reports (l.foldl (fun a k => markProgress k a) x) (l.foldl (fun a k => markProgress k a) y) := by
    induction l with
    | nil => exact fun h => h
    | cons c l ih => exact fun h => ih (markProgress_of_reports h)
  exact all l (markProgress_of_reports h)

/-- The note of progress at a lock changes the detectors alone. -/
theorem lockProgress_frame (k : Nat) (s : State) : ∃ t, lockProgress k s = { s with dov := { s.dov with detectors := t } } := by
  unfold lockProgress progress
  dsimp only
  obtain ⟨l, hl⟩ : ∃ l, l = (s.cores.threads.filter (fun p => waitsLock k p.2)).map (fun p => clusterOf p.1) := ⟨_, rfl⟩
  rw [← hl]
  have all (l : List Nat) : ∀ t, ∃ u, l.foldl (fun a k => markProgress k a) { s with dov := { s.dov with detectors := t } } =
      { s with dov := { s.dov with detectors := u } } := by
    induction l with
    | nil => exact fun t => ⟨t, rfl⟩
    | cons c l ih => exact fun t => ih _
  exact all l _

theorem lockOf_lockProgress (k j : Nat) (s : State) : lockOf (lockProgress k s) j = lockOf s j := by
  obtain ⟨t, same⟩ := lockProgress_frame k s
  rw [same]
  rfl

/-- What a free lock's taking does, but for its reports. -/
theorem takeLock_reports (k n : Nat) (s : State) :
    Reports (lockProgress k (setLock k { lockOf s k with owner := BitVec.ofNat 12 n } s)) (takeLock k n s) :=
  lockProgress_of_reports ((count_reports _ _ _ _ _).trans (trace_reports _ _ _ _ _))

theorem lockOf_takeLock (k n : Nat) (s : State) : lockOf (takeLock k n s) k = { lockOf s k with owner := BitVec.ofNat 12 n } := by
  have taken := (takeLock_reports k n s).dov
  rw [lockOf, taken]
  refine (lockOf_lockProgress k k (setLock k { lockOf s k with owner := BitVec.ofNat 12 n } s)).trans ?_
  exact tabGet_set_self _ _ _ _

/-- A lock without waiters is freed. -/
theorem freeLock_alone {k : Nat} {cause : BitVec 3} {s : State} (alone : (lockOf s k).waiters = []) :
    freeLock k cause s = setLock k { lockOf s k with owner := 4095, last := (lockOf s k).owner, broken := cause } (lockProgress k s) := by
  have best : bestWaiter (lockProgress k s) (lockOf s k) = none := by
    rw [bestWaiter, alone]
    rfl
  unfold freeLock
  simp only [best]

/-! ### A lock whose word or queue fails (R584) -/

/-- The words that `forgetWord` keeps, and the locks. -/
theorem forgetWord_frame (w : DovWord) (s : State) : (forgetWord w s).dov.locks = s.dov.locks ∧ w ∉ (forgetWord w s).dov.bad ∧
    (∀ v, v ∉ s.dov.bad → v ∉ (forgetWord w s).dov.bad) := by
  unfold forgetWord
  split
  · next clean =>
    have none_ : s.dov.bad = [] := List.isEmpty_iff.mp (Bool.and_eq_true_iff.mp clean).2
    refine ⟨rfl, ?_, fun _ h => h⟩
    rw [none_]
    exact List.not_mem_nil
  · refine ⟨rfl, fun mem => ?_, fun v out mem => out (List.mem_filter.mp mem).1⟩
    have ne := (List.mem_filter.mp mem).2
    simp at ne

theorem noteDovUe_notes (x : Nat) (w : DovWord) (s : State) : Notes (forgetWord w s) (noteDovUe x w s) :=
  (setFlag_notes _ _ _).trans ((bumpTotal_notes _ _ _).trans (raise_notes _ _ _))

theorem noteDovUe_flag (x : Nat) (w : DovWord) (s : State) : (flagReg (noteDovUe x w s) 0x600).getLsbD 4 = true := by
  refine ((bumpTotal_notes 0x63C 1 _).trans (raise_notes 487 [(x, 16)] _)).flags _ _ ?_
  rw [flagReg_setFlag_self, BitVec.getLsbD_or, show (BitVec.ofNat 32 (2 ^ 4)).getLsbD 4 = true from by decide, Bool.or_true]

theorem correctDov_frame (ws : List DovWord) (s : State) :
    (correctDov ws s).dov.locks = s.dov.locks ∧ (correctDov ws s).dov.bad = s.dov.bad := by
  unfold correctDov
  dsimp only
  split
  · exact ⟨rfl, rfl⟩
  · rw [(noteCorrected_notes _ _ _).dov]
    exact ⟨rfl, rfl⟩

/-- A lock whose failure has been noted. -/
structure LockNoted (k : Nat) (s u : State) : Prop where
  locks : u.dov.locks = s.dov.locks
  lock : DovWord.lock k ∉ u.dov.bad
  queue : DovWord.queue k ∉ u.dov.bad
  flag : (flagReg u 0x600).getLsbD 4 = true

theorem noteDovUe_lockNoted (k : Nat) (s : State) : LockNoted k s (noteDovUe k (.queue k) (forgetWord (.lock k) s)) := by
  obtain ⟨locks, lock, -⟩ := forgetWord_frame (.lock k) s
  obtain ⟨locks', queue, kept⟩ := forgetWord_frame (.queue k) (forgetWord (.lock k) s)
  have dov := (noteDovUe_notes k (.queue k) (forgetWord (.lock k) s)).dov
  exact ⟨by rw [dov, locks', locks], by rw [dov]; exact kept _ lock, by rw [dov]; exact queue, noteDovUe_flag _ _ _⟩

/-- A lock without waiters whose word or queue has failed is lost with cause 7. -/
theorem checkLock_lost {k : Nat} {s : State} (alone : (lockOf s k).waiters = []) (unit : lockUnit k = none)
    (lost : DovWord.lock k ∈ s.dov.bad ∨ DovWord.queue k ∈ s.dov.bad) :
    lockOf (checkLock k s) k = { lockOf s k with owner := 4095, last := (lockOf s k).owner, broken := 7 } ∧
    DovWord.lock k ∉ (checkLock k s).dov.bad ∧ DovWord.queue k ∉ (checkLock k s).dov.bad ∧
    (flagReg (checkLock k s) 0x600).getLsbD 4 = true := by
  obtain ⟨locks, bad⟩ := correctDov_frame [.lock k, .queue k] s
  obtain ⟨b, hb⟩ : ∃ b, b = correctDov [.lock k, .queue k] s := ⟨_, rfl⟩
  rw [← hb] at locks bad
  obtain ⟨c, hc⟩ : ∃ c, c = noteDovUe k (.queue k) (forgetWord (.lock k) b) := ⟨_, rfl⟩
  have noted : LockNoted k b c := by rw [hc]; exact noteDovUe_lockNoted k b
  have same : lockOf c k = lockOf s k := by rw [lockOf, noted.locks, locks]; rfl
  obtain ⟨d, hd⟩ : ∃ d, d = setLock k { lockOf s k with owner := 4095, last := (lockOf s k).owner, broken := 7 } (lockProgress k c) := ⟨_, rfl⟩
  have some_ : (s.dov.weak.isEmpty && s.dov.bad.isEmpty) = false := by
    have ne : s.dov.bad.isEmpty = false := by
      rw [List.isEmpty_eq_false_iff]
      rintro e
      rw [e] at lost
      exact lost.elim List.not_mem_nil List.not_mem_nil
    rw [ne, Bool.and_false]
  have hit : (!b.dov.bad.contains (.lock k) && !b.dov.bad.contains (.queue k)) = false := by
    rw [bad]
    rcases lost with mem | mem
    · rw [List.contains_iff_mem.mpr mem]
      rfl
    · rw [List.contains_iff_mem.mpr mem, Bool.not_true, Bool.and_false]
  have e : checkLock k s = raiseFirst 203 0 [] (count .dovetail 0 4 1 (setFlag 0x4C0 4 d)) := by
    unfold checkLock
    rw [some_, ← hb]
    simp only [Bool.false_eq_true, if_false, hit, ← hc, same, alone, List.foldl_nil, loseLock, unit]
    rw [freeLock_alone (by rw [same]; exact alone), same, hd]
  obtain ⟨t, frame⟩ := lockProgress_frame k c
  have notes : Notes d (checkLock k s) := by
    rw [e]
    exact (setFlag_notes _ _ _).trans ((count_notes _ _ _ _ _).trans (raiseFirst_notes _ _ _ _))
  have dBad : d.dov.bad = c.dov.bad := by rw [hd, frame]; rfl
  refine ⟨?_, ?_, ?_, notes.flags _ _ ?_⟩
  · rw [lockOf, notes.dov, hd]
    exact tabGet_set_self _ _ _ _
  · rw [notes.dov, dBad]
    exact noted.lock
  · rw [notes.dov, dBad]
    exact noted.queue
  · rw [hd, frame]
    exact noted.flag

theorem lockQuery_lost {s : State} {m : BitVec 4} {k : Nat} (room : completionRoom s = true) (h : Accepted lockQuery m s)
    (hk : k = par s m 0 2) (alone : (lockOf s k).waiters = []) (unit : lockUnit k = none)
    (lost : DovWord.lock k ∈ s.dov.bad ∨ DovWord.queue k ∈ s.dov.bad) :
    Effect (exec (.lockQuery m) s) m s (checkLock k)
      (layout [(4095, 2), (1, 1), (0, 1), (0, 1), (0, 1), ((lockOf s k).owner.toNat, 2)]) := by
  obtain ⟨left, -⟩ := checkLock_lost (s := startCmd m.toNat s) alone unit lost
  have apart := (checkLock_inside (calm := false) k _ (.refl (startCmd m.toNat s))).apart
  refine effect_of_apart h ?_ (by simp [layout, leBytes_length]) room apart
  rw [hk] at left alone ⊢
  show okCmd (if (lockOf (checkLock (par s m 0 2) (startCmd m.toNat s)) (par s m 0 2)).waiters.length < 256 then _ else _) _ = _
  have still : (lockOf (startCmd m.toNat s) (par s m 0 2)).waiters = [] := alone
  simp only [left, leAt_payload, still]
  rfl

section
variable {s : State} {m : BitVec 4} (room : completionRoom s = true) (weak : s.dov.weak = []) (bad : s.dov.bad = [])
include room weak bad

theorem lockTry_takes (h : Accepted lockTry m s) (free : (lockOf s (par s m 0 2)).owner = 4095) :
    Effect (exec (.lockTry m) s) m s
      (fun a => lockProgress (par s m 0 2) (setLock (par s m 0 2)
        { lockOf s (par s m 0 2) with owner := BitVec.ofNat 12 (513 + m.toNat) } a))
      (leBytes 5 (grantWord { lockOf s (par s m 0 2) with owner := BitVec.ofNat 12 (513 + m.toNat) }).toNat) := by
  obtain ⟨k, hk⟩ : ∃ k, k = par s m 0 2 := ⟨_, rfl⟩
  rw [← hk] at free ⊢
  have other : ¬ (lockOf s k).owner.toNat = 513 + m.toNat := by
    rw [free]
    have := m.isLt
    show ¬ 4095 = 513 + m.toNat
    omega
  have tried : tryLock k (513 + m.toNat) (startCmd m.toNat s) =
      (grantWord { lockOf s k with owner := BitVec.ofNat 12 (513 + m.toNat) }, takeLock k (513 + m.toNat) (startCmd m.toNat s)) := by
    refine (if_neg other).trans ((if_pos free).trans ?_)
    dsimp only
    rw [lockOf_takeLock]
    rfl
  have body : bodyOf lockTry m s = okCmd (takeLock k (513 + m.toNat) (startCmd m.toNat s))
      (leBytes 5 (grantWord { lockOf s k with owner := BitVec.ofNat 12 (513 + m.toNat) }).toNat) := by
    have sound : checkLock k (startCmd m.toNat s) = startCmd m.toNat s := checkLock_sound weak bad
    have e : bodyOf lockTry m s = okCmd (tryLock k (513 + m.toNat) (checkLock k (startCmd m.toNat s))).2
      (leBytes 5 (tryLock k (513 + m.toNat) (checkLock k (startCmd m.toNat s))).1.toNat) := by rw [hk]; rfl
    rw [e, sound, tried]
  have apart : Apart (startCmd m.toNat s) (takeLock k (513 + m.toNat) (startCmd m.toNat s)) :=
    (lockProgress_inside (care := ⟨false, false⟩) k _ (trace_inside _ _ _ _ _ (count_inside _ _ _ _ _ (setLock_inside _ _ _ (.refl _))))).apart
  exact Effect.weaken (effect_of_apart (f := takeLock k (513 + m.toNat)) h body (by rw [leBytes_length]; decide) room apart)
    (takeLock_reports k _ _)

theorem lockTry_fails (h : Accepted lockTry m s) (taken : (lockOf s (par s m 0 2)).owner ≠ 4095)
    (other : (lockOf s (par s m 0 2)).owner.toNat ≠ 513 + m.toNat) :
    Effect (exec (.lockTry m) s) m s id (leBytes 5 (lockOf s (par s m 0 2)).owner.toNat) := by
  have sound : checkLock (par s m 0 2) (startCmd m.toNat s) = startCmd m.toNat s := checkLock_sound weak bad
  have tried : tryLock (par s m 0 2) (513 + m.toNat) (startCmd m.toNat s) =
      ((lockOf s (par s m 0 2)).owner.setWidth 36, startCmd m.toNat s) := (if_neg other).trans (if_neg taken)
  refine effect_of_reply h ?_ (by rw [leBytes_length]; decide) room
  have e : bodyOf lockTry m s = okCmd (tryLock (par s m 0 2) (513 + m.toNat) (checkLock (par s m 0 2) (startCmd m.toNat s))).2
    (leBytes 5 (tryLock (par s m 0 2) (513 + m.toNat) (checkLock (par s m 0 2) (startCmd m.toNat s))).1.toNat) := rfl
  rw [e, sound, tried]
  refine congrArg (fun n => okCmd (startCmd m.toNat s) (leBytes 5 n)) ?_
  have := (lockOf s (par s m 0 2)).owner.isLt
  simp only [BitVec.toNat_setWidth]
  omega

theorem lockRelease_frees (h : Accepted lockRelease m s) (mine : (lockOf s (par s m 0 2)).owner.toNat = 513 + m.toNat) :
    Effect (exec (.lockRelease m) s) m s (unlock (par s m 0 2) (513 + m.toNat)) [] := by
  have sound : checkLock (par s m 0 2) (startCmd m.toNat s) = startCmd m.toNat s := checkLock_sound weak bad
  have e : bodyOf lockRelease m s = { state := unlock (par s m 0 2) (513 + m.toNat) (checkLock (par s m 0 2) (startCmd m.toNat s))
                                      status := if (lockOf (checkLock (par s m 0 2) (startCmd m.toNat s)) (par s m 0 2)).owner.toNat ==
                                        513 + m.toNat then 0 else 0x03 } := rfl
  have owns : ((lockOf (startCmd m.toNat s) (par s m 0 2)).owner.toNat == 513 + m.toNat) = true := beq_iff_eq.mpr mine
  refine effect_of_apart h ?_ (by decide) room (unlock_inside (care := ⟨false, false⟩) _ _ _ (.refl _)).apart
  rw [e, sound, owns]
  rfl

theorem lockBreak_loses (h : Accepted lockBreak m s) (unit : lockUnit (par s m 0 2) = none) (owned : (lockOf s (par s m 0 2)).owner ≠ 4095) :
    Effect (exec (.lockBreak m) s) m s (loseLock (par s m 0 2) 5) [] := by
  have sound : checkLock (par s m 0 2) (startCmd m.toNat s) = startCmd m.toNat s := checkLock_sound weak bad
  refine effect_of_apart h ?_ (by decide) room (loseLock_inside (care := ⟨false, false⟩) _ _ _ (.refl _)).apart
  show (if _ then _ else _) = _
  simp only [leAt_payload, sound, unit]
  refine if_neg ?_
  rw [Bool.or_false, decide_eq_true_eq]
  exact fun e => owned (BitVec.eq_of_toNat_eq e)

theorem lockQuery_answers (h : Accepted lockQuery m s) {l : Lock} {w : Nat} (hl : l = lockOf s (par s m 0 2)) (hw : w = l.waiters.length) :
    Effect (exec (.lockQuery m) s) m s (fun a => if w < 256 then a else drawFree a)
      (layout [(l.owner.toNat, 2), (b2n (l.broken != 0), 1), (if w < 256 then w else freeNow s, 1),
        (l.waiters.foldl (fun a t => max a (effPrio s t)) 0, 1),
        (if l.owner.toNat < 512 then inherited s l.owner.toNat else 0, 1), (l.last.toNat, 2)]) := by
  have sound : checkLock (par s m 0 2) (startCmd m.toNat s) = startCmd m.toNat s := checkLock_sound weak bad
  refine effect_of_apart h ?_ (by simp [layout, leBytes_length]) room (.ite (.refl _) (drawFree_apart _))
  rw [hw, hl]
  show okCmd (if (lockOf (checkLock (par s m 0 2) (startCmd m.toNat s)) (par s m 0 2)).waiters.length < 256 then _ else _) _ = _
  simp only [leAt_payload, sound, effPrio_startCmd, inherited_startCmd]
  rfl

theorem channelConfig_resizes (h : Accepted channelConfig m s) (slots : (chanOf s (par s m 0 2)).slots = [])
    (readers : (chanOf s (par s m 0 2)).readers = []) (writers : (chanOf s (par s m 0 2)).writers = []) :
    Effect (exec (.channelConfig m) s) m s (setChan (par s m 0 2) { chanOf s (par s m 0 2) with size := par s m 2 2 }) [] := by
  have sound : checkChan (par s m 0 2) (startCmd m.toNat s) = startCmd m.toNat s := checkChan_sound weak bad
  refine effect_of_state h ?_ room (.of_host rfl)
  have e : bodyOf channelConfig m s = (let a := checkChan (par s m 0 2) (startCmd m.toNat s)
    if !(chanOf a (par s m 0 2)).slots.isEmpty || !(chanOf a (par s m 0 2)).readers.isEmpty || !(chanOf a (par s m 0 2)).writers.isEmpty
    then refuse a 0x03 else okCmd (setChan (par s m 0 2) { chanOf a (par s m 0 2) with size := par s m 2 2 } a)) := rfl
  rw [e, sound]
  refine if_neg ?_
  show ¬ (!(chanOf s _).slots.isEmpty || !(chanOf s _).readers.isEmpty || !(chanOf s _).writers.isEmpty) = true
  rw [slots, readers, writers]
  exact Bool.false_ne_true

theorem channelStatus_answers (h : Accepted channelStatus m s) {x : Channel} (hx : x = chanOf s (par s m 0 2)) :
    Effect (exec (.channelStatus m) s) m s id
      (layout [(chanSize s (par s m 0 2), 2), (0, 2), ((x.slots.filter (fun q => q.2.state == .committed)).length, 2), (x.readers.length, 2),
        (x.writers.length, 2), (x.readers.length, 2)]) := by
  have sound : checkChan (par s m 0 2) (startCmd m.toNat s) = startCmd m.toNat s := checkChan_sound weak bad
  refine effect_of_reply h ?_ (by simp [layout, leBytes_length]) room
  have e : bodyOf channelStatus m s = (let a := checkChan (par s m 0 2) (startCmd m.toNat s)
    okCmd a (layout [(chanSize a (par s m 0 2), 2), (0, 2),
      (((chanOf a (par s m 0 2)).slots.filter (fun q => q.2.state == .committed)).length, 2), ((chanOf a (par s m 0 2)).readers.length, 2),
      ((chanOf a (par s m 0 2)).writers.length, 2), ((chanOf a (par s m 0 2)).readers.length, 2)])) := rfl
  rw [e, sound, hx]
  rfl

end

/-- A core's counters, two of which are measured times. -/
theorem coreCounters_read {s : State} {m : BitVec 4} {k : Nat} (room : completionRoom s = true) (h : Accepted coreCounters m s)
    (hk : k = par s m 0 1) :
    Effect (exec (.coreCounters m) s) m s
      (fun a => if par s m 1 1 = 1 then clearCounters .core k 12 (addTimed .core k 2 (addTimed .core k 1 a))
        else addTimed .core k 2 (addTimed .core k 1 a))
      (leBytes 8 s.cntSheet.toNat ++ (List.range 12).flatMap (fun i =>
        leBytes 8 (tabGet 0 (addTimed .core k 2 (addTimed .core k 1 (startCmd m.toNat s))).cntTot (cntKey .core k i)))) := by
  have sheet (i : Nat) (a : State) : (addTimed .core k i a).cntSheet = a.cntSheet := by
    unfold addTimed
    dsimp only
    split <;> rfl
  have timed : Apart (startCmd m.toNat s) (addTimed .core k 2 (addTimed .core k 1 (startCmd m.toNat s))) :=
    (addTimed_apart _ _ _ _).trans (addTimed_apart _ _ _ _)
  refine effect_of_apart h ?_ ?_ room ?_
  · have same : s.cntSheet = (addTimed .core k 2 (addTimed .core k 1 (startCmd m.toNat s))).cntSheet := by
      rw [sheet, sheet]
      rfl
    rw [same, hk]
    rfl
  · have len := counterReply_length (addTimed .core k 2 (addTimed .core k 1 (startCmd m.toNat s))) .core k 12
    unfold counterReply at len
    rw [sheet, sheet] at len
    exact Nat.le_trans (Nat.le_of_eq len) (by decide)
  · split
    · exact timed.trans (.of_host rfl)
    · exact timed

theorem threadStatusBytes_length (s : State) (t : Nat) : (threadStatusBytes s t).length = 8 := by
  simp [threadStatusBytes, layout, leBytes_length]

/-- Settles O17, command by command. -/
theorem dovetailCommandsTakeEffect : Obligations.DovetailCommandsTakeEffect := by
  unfold Obligations.DovetailCommandsTakeEffect
  refine fun s m room => ⟨fun h => ?_, fun w h hw may => ⟨supervisorSet_sets room h hw may, supervisorSet_starts room h hw may⟩, fun h => ?_,
    threadReset_resets room, ?_, fun h => ?_, ?_, fun weak bad => ⟨lockTry_takes room weak bad, lockTry_fails room weak bad,
      lockRelease_frees room weak bad, fun l w h hl hw => lockQuery_answers room weak bad h hl hw, lockBreak_loses room weak bad,
      channelConfig_resizes room weak bad, fun x h hx => channelStatus_answers room weak bad h hx⟩⟩
  · exact effect_of_state h rfl room (.of_host rfl)
  · refine effect_of_reply h ?_ ?_ room
    · show okCmd (startCmd m.toNat s) ((List.range 8).flatMap (fun i => threadStatusBytes (startCmd m.toNat s) (8 * par s m 0 1 + i))) = _
      simp only [threadStatusBytes_startCmd]
    simp only [List.length_flatMap, threadStatusBytes_length, List.map_const', List.sum_replicate_nat, List.length_range]
    decide
  · rintro k timed h hk rfl
    exact coreCounters_read room h hk
  · exact counters_read (x := fun _ => 0) h rfl (by decide) room
  · rintro k l h hk rfl alone unit lost
    exact ⟨lockQuery_lost room h hk alone unit lost, checkLock_lost alone unit lost⟩

end Sys2Proof.Machine
end

section
/-!
PROOFS. Items enter domains, doorbells make items, and clusters are fenced (O16).
-/
namespace Sys2Proof.Machine

/-! ### An item that entered stands in the list -/

/-- The item that entered as `x` with the sequence number `n` stands in the list, and `n` is taken. -/
def Entered (x : Item) (n : BitVec 16) (s : State) : Prop :=
  tabGet 0 s.disp.nextAssign x.domain.toNat = n + 1 ∧
    ∃ y, itemOf s (itemKey x.domain n) = some y ∧ y.seq = n ∧ y.domain = x.domain ∧ y.deadline = x.deadline ∧ y.furnish = x.furnish

theorem Entered.of_disp {x : Item} {n : BitVec 16} {s t : State} (items : t.disp.items = s.disp.items)
    (next : t.disp.nextAssign = s.disp.nextAssign) (h : Entered x n s) : Entered x n t := by
  unfold Entered itemOf at *
  rw [items, next]
  exact h

theorem Entered.putItem {x y : Item} {n : BitVec 16} {s : State} (h : tabGet 0 s.disp.nextAssign x.domain.toNat = n + 1) (seq : y.seq = n)
    (domain : y.domain = x.domain) (deadline : y.deadline = x.deadline) (furnish : y.furnish = x.furnish) :
    Entered x n (putItem (itemKey x.domain n) y s) :=
  ⟨h, y, tabFind_put_self _ _ _, seq, domain, deadline, furnish⟩

theorem ctxWriteBack_lists (c : Nat) (s : State) :
    (ctxWriteBack c s).disp.items = s.disp.items ∧ (ctxWriteBack c s).disp.nextAssign = s.disp.nextAssign := by
  unfold ctxWriteBack
  split
  · exact ⟨rfl, rfl⟩
  · have e := (checkCtx_reads c 0 256 s).disp
    have items : (checkCtx c 0 256 s).disp.items = s.disp.items := by rw [e]
    have next : (checkCtx c 0 256 s).disp.nextAssign = s.disp.nextAssign := by rw [e]
    exact ⟨items, next⟩

theorem ctxEvict_lists (n : Nat) (s : State) :
    (ctxEvict n s).disp.items = s.disp.items ∧ (ctxEvict n s).disp.nextAssign = s.disp.nextAssign := by
  unfold ctxEvict
  extract_lets l
  split
  · exact ⟨rfl, rfl⟩
  · split
    · exact ctxWriteBack_lists _ s
    · exact ⟨rfl, rfl⟩

theorem ctxTouch_lists (c : Nat) (s : State) :
    (ctxTouch c s).disp.items = s.disp.items ∧ (ctxTouch c s).disp.nextAssign = s.disp.nextAssign := by
  unfold ctxTouch
  split <;> exact ⟨rfl, rfl⟩

theorem Entered.ctxLoad {x : Item} {n : BitVec 16} {s : State} (c core : Nat) (h : Entered x n s) : Entered x n (ctxLoad c core s) := by
  unfold Machine.ctxLoad
  show Entered x n (ctxTouch c (if _ then _ else _))
  refine Entered.of_disp (ctxTouch_lists c _).1 (ctxTouch_lists c _).2 ?_
  split
  · exact h
  · obtain ⟨i1, n1⟩ := ctxWriteBack_lists c s
    obtain ⟨i2, n2⟩ := ctxEvict_lists core (ctxWriteBack c s)
    have e := (checkCtx_reads c 0 256 (ctxEvict core (ctxWriteBack c s))).disp
    have i3 : (checkCtx c 0 256 (ctxEvict core (ctxWriteBack c s))).disp.items = (ctxEvict core (ctxWriteBack c s)).disp.items := by
      rw [e]
    have n3 : (checkCtx c 0 256 (ctxEvict core (ctxWriteBack c s))).disp.nextAssign = (ctxEvict core (ctxWriteBack c s)).disp.nextAssign := by
      rw [e]
    exact h.of_disp (i3.trans (i2.trans i1)) (n3.trans (n2.trans n1))

theorem walk_disp (core : Nat) (s : State) : (walk core s).disp = s.disp := by
  unfold walk
  split
  · rfl
  · split
    · rfl
    · exact (trace_reports _ _ _ _ _).disp

theorem dropHead_disp (i : Nat) (s : State) : (dropHead i s).disp = s.disp := by
  unfold dropHead
  extract_lets h
  split <;> rfl

theorem wakeBelow_disp (m : BitVec 32) (n : Nat) (s : State) : (wakeBelow m n s).disp = s.disp := by
  unfold wakeBelow
  extract_lets free
  split
  · split <;> rfl
  · rfl

theorem Entered.wakeBelow {x : Item} {n : BitVec 16} {s : State} (m : BitVec 32) (k : Nat) (h : Entered x n s) : Entered x n (wakeBelow m k s) :=
  h.of_disp (congrArg Dispatch.items (wakeBelow_disp m k s)) (congrArg Dispatch.nextAssign (wakeBelow_disp m k s))

section
variable {x y : Item} {n : BitVec 16} {s : State} (h : Entered x n s) (seq : y.seq = n) (domain : y.domain = x.domain)
  (deadline : y.deadline = x.deadline) (furnish : y.furnish = x.furnish)
include h seq domain deadline furnish

/-- A thread takes the item under a bank that stands; the item stays in the list. -/
theorem Entered.deliver {b : Bank} (t : Nat) (bank : bankOf s y.furnish = some b) : Entered x n (deliver (itemKey x.domain n) t y s) := by
  unfold Machine.deliver
  rw [bank]
  dsimp only
  have loaded := h.ctxLoad y.ctx.toNat (coreOf t)
  have put := Entered.putItem (y := { y with place := .onThread t, lateWaiting := false }) loaded.1 seq domain deadline furnish
  refine Entered.of_disp (congrArg Dispatch.items (walk_disp _ _)) (congrArg Dispatch.nextAssign (walk_disp _ _)) ?_
  refine put.of_disp ?_ ?_
  · show (if y.isEvent then _ else _ : State).disp.items = _
    split
    · rfl
    · exact congrArg Dispatch.items (dropHead_disp _ _)
  · show (if y.isEvent then _ else _ : State).disp.nextAssign = _
    split
    · rfl
    · exact congrArg Dispatch.nextAssign (dropHead_disp _ _)

theorem Entered.runOn {b : Bank} (core i : Nat) (bank : bankOf s y.furnish = some b) : Entered x n (runOn (itemKey x.domain n) core i y s) := by
  unfold Machine.runOn
  split
  · refine Entered.wakeBelow _ _ (Entered.deliver ?_ seq domain deadline furnish _ bank)
    exact h.of_disp rfl rfl
  · exact h

theorem Entered.waitAffinity (core : Nat) : Entered x n (waitAffinity (itemKey x.domain n) core y s) :=
  (Entered.putItem (y := { y with place := .affinity core }) (s := count .dispatch 0 5 1 s) h.1 seq domain deadline furnish).of_disp rfl rfl

theorem Entered.waitGlobal : Entered x n (waitGlobal (itemKey x.domain n) y s) :=
  (Entered.putItem (y := { y with place := .global (mapPrio y.map) }) (s := count .dispatch 0 6 1 s) h.1 seq domain deadline furnish).of_disp
    rfl rfl

/-- Placement hands the item to a thread or to a list; the item stands. -/
theorem Entered.place {b : Bank} (bank : bankOf s y.furnish = some b) : Entered x n (place (itemKey x.domain n) y s) := by
  have run (core i : Nat) := Entered.runOn h seq domain deadline furnish core i bank
  have wait := Entered.waitAffinity h seq domain deadline furnish
  have waits := Entered.waitGlobal h seq domain deadline furnish
  unfold Machine.place placeBy
  generalize affinityCore s y.ctx.toNat = a
  dsimp only
  split
  · split
    · split
      · exact run _ _
      · exact wait _
    · split
      · exact run _ _
      · split
        · exact run _ _
        · exact waits
  · split
    · exact run _ _
    · exact waits

end

/-- The banks stand where only the machinery worked. -/
theorem Inside.bankOf {care : Care} {z t : State} (h : Inside care z t) (f : BitVec 8) : bankOf t f = bankOf z f := by
  have cur : t.sh.cur = z.sh.cur := congrArg (·.sh.cur) h.outside
  have old : t.sh.old = z.sh.old := congrArg (·.sh.old) h.outside
  have furnish : t.sh.furnish = z.sh.furnish := congrArg (·.sh.furnish) h.outside
  unfold Machine.bankOf
  rw [cur, old, furnish]

/-- An item of a furnish whose bank stands, with a cluster to go to, takes the next number of its domain. -/
theorem enterItem_entered {x : Item} {b : Bank} {s : State}
    (room : (tabGet 0 s.disp.nextAssign x.domain.toNat - tabGet 0 s.disp.nextRelease x.domain.toNat).toNat ≠ 32768)
    (bank : bankOf s x.furnish = some b) (goes : noCluster s (tabGet 0 b.dmap (mapIndex x)) = false) :
    Entered x (tabGet 0 s.disp.nextAssign x.domain.toNat) (enterItem x s) := by
  unfold enterItem
  extract_lets -merge -underBinder a c next k x' d u
  have disp : c.disp = s.disp := by 
    unfold c
    split
    · exact (trace_reports _ _ _ _ _).disp
    · rfl
  have same : Inside ⟨false, false⟩ s u := by
    have h : Inside ⟨false, false⟩ s c := by
      unfold c
      split
      · exact trace_inside _ _ _ _ _ (markProgress_inside _ _ (count_inside _ _ _ _ _ (.refl s)))
      · exact count_inside _ _ _ _ _ (.refl s)
    exact .upd h rfl rfl fun e => by cases e
  have hnext : next = tabGet 0 s.disp.nextAssign x.domain.toNat := by unfold next; rw [disp]
  have numbers : tabGet 0 u.disp.nextAssign x.domain.toNat = next + 1 := tabGet_set_self _ _ _ _
  rw [if_neg (by rw [hnext, disp]; exact room), same.bankOf, show bankOf s x'.furnish = some b from bank]
  dsimp only
  have goes' : noCluster u (tabGet 0 b.dmap (mapIndex x')) = false := by
    have fenced : u.disp.fenced = s.disp.fenced := same.fenced
    unfold noCluster
    rw [fenced]
    exact goes
  rw [if_neg (by rw [goes']; exact Bool.false_ne_true), ← hnext]
  refine Entered.place (Entered.wakeBelow _ _ (Entered.putItem numbers rfl rfl rfl rfl)) rfl rfl rfl rfl (b := b) (Eq.trans ?_ bank)
  exact (wakeBelow_inside _ _ _ (putItem_inside k _ _ same)).bankOf _

/-! ### Doorbells and fences -/

theorem doorbell_rings {s : State} {d : BitVec 4} {v : BitVec 32} {r : DoorbellRoute} (up : hostOpen s = true) (hr : r = tabGet {} s.disp.routes d.toNat) :
    (r.enable = true → eventsInFlight s < 4096 → ∃ x, exec (.doorbell d v) s = .next (enterItem x s) ∧ x.isEvent = true ∧
      x.domain = r.domain ∧ x.cls = r.cls ∧ x.ctx = r.ctx ∧ x.source.toNat = 16 + d.toNat ∧ x.arrival = s.sh.sheet ∧
      x.furnish = s.sh.furnish ∧ natBits x.dd0.toNat 0 24 = v.toNat % 2 ^ 24) ∧
    (r.enable = true → 4096 ≤ eventsInFlight s → ∃ t, exec (.doorbell d v) s = .next t ∧ t.disp = s.disp ∧
      (flagReg t 0x480).getLsbD 6 = true) ∧
    (r.enable = false → exec (.doorbell d v) s = .next s) := by
  have e : exec (.doorbell d v) s = .next (ringDoorbell d.toNat v.toNat s) := congrArg Host.Outcome.next (if_pos up)
  refine ⟨fun on few => ?_, fun on many => ?_, fun off => ?_⟩
  · have room : eventRoom s = true := decide_eq_true few
    refine ⟨eventItem s ⟨BitVec.ofNat 9 (16 + d.toNat), r.cls, r.domain, r.ctx, BitVec.ofNat 24 v.toNat, BitVec.ofNat 14 d.toNat, none⟩,
      e.trans (congrArg Host.Outcome.next ?_), rfl, rfl, rfl, rfl, ?_, rfl, rfl, ?_⟩
    · unfold ringDoorbell
      simp only [← hr, on, room, Bool.not_true, Bool.false_eq_true, if_false]
    · show (BitVec.ofNat 9 (16 + d.toNat)).toNat = _
      rw [BitVec.toNat_ofNat]
      omega
    · show natBits (BitVec.ofNat 36 (packNat [((BitVec.ofNat 24 v.toNat).toNat, 24), (16, 6), (r.cls.toNat, 3)])).toNat 0 24 = _
      have hc : r.cls.toNat < 8 := r.cls.isLt
      simp only [natBits, packNat, BitVec.toNat_ofNat]
      omega
  · have full : eventRoom s = false := decide_eq_false (by omega)
    refine ⟨raise 196 [] (count .dispatch 0 14 1 (setFlag 0x480 6 s)), e.trans (congrArg Host.Outcome.next ?_), ?_, ?_⟩
    · unfold ringDoorbell
      simp only [← hr, on, full, Bool.not_true, Bool.not_false, Bool.false_eq_true, if_false, if_true]
    · exact (raise_reports _ _ _).disp
    · exact raise_flagsStand _ _ _ _ _ (setFlag_sets 0x480 (by decide) _)
  · rw [e]
    unfold ringDoorbell
    simp only [← hr, off, Bool.not_false, if_true]

theorem clusterFence_sets {s : State} {m : BitVec 4} (room : completionRoom s = true) (h : Accepted clusterFence m s) (set : par s m 1 1 = 1)
    (up : s.disp.fenced.getLsbD (par s m 0 1) = false) :
    ∃ u, exec (.clusterFence m) s = .next (settle u) ∧ Effect (.next u) m s (fun a => fenceCluster (par s m 0 1) a) [] := by
  refine ⟨_, rfl, effect_of_apart h ?_ (by decide) room ?_⟩
  · show (if par s m 1 1 = 1 then okCmd (if s.disp.fenced.getLsbD (par s m 0 1) = true then _ else _) else _) = _
    rw [if_pos set, up]
    rfl
  · have inside := stopSupervisors_inside (calm := false) (clusterCores (par s m 0 1)) _ (fenceCores_inside (calm := false) (clusterCores (par s m 0 1)) _ (.refl (startCmd m.toNat s)))
    unfold fenceCluster
    extract_lets b c
    refine Apart.trans inside.apart ?_
    have raised : Inside ⟨false, false⟩ (updDisp (fun d => { d with fenced := d.fenced ||| b, frozen := d.frozen &&& ~~~ b }) c) _ :=
      admitEvents_inside _ (raise_inside 194 [] _ (.refl _))
    exact Apart.trans (b := updDisp (fun d => { d with fenced := d.fenced ||| b, frozen := d.frozen &&& ~~~ b }) c) (.of_host rfl) raised.apart

theorem clusterFence_clears {s : State} {m : BitVec 4} (room : completionRoom s = true) (h : Accepted clusterFence m s) (clear : par s m 1 1 = 0)
    (down : s.disp.fenced.getLsbD (par s m 0 1) = true) :
    ∃ u, exec (.clusterFence m) s = .next (settle u) ∧
      Effect (.next u) m s (updDisp (fun d => { d with fenced := d.fenced &&& ~~~ BitVec.ofNat 8 (2 ^ par s m 0 1) })) [] := by
  refine ⟨_, rfl, ?_⟩
  have lifted : Effect (.next (runCmd clusterFence m s)) m s
      (fun a => raise 194 [] (updDisp (fun d => { d with fenced := d.fenced &&& ~~~ BitVec.ofNat 8 (2 ^ par s m 0 1) }) a)) [] := by
    refine effect_of_apart h ?_ (by decide) room (.trans (b := updDisp _ (startCmd m.toNat s)) (.of_host rfl) (raise_apart _ _ _))
    show (if par s m 1 1 = 1 then _ else if (!s.disp.fenced.getLsbD (par s m 0 1)) = true then _ else _) = _
    rw [clear, down]
    rfl
  exact lifted.weaken (raise_reports _ _ _)

/-- Settles O16: what brings items to threads, and the fences of clusters. -/
theorem itemsEnterAndRun : Obligations.ItemsEnterAndRun := by
  unfold Obligations.ItemsEnterAndRun
  refine fun s => ⟨fun d v r up hr => doorbell_rings up hr, fun t k x first => ?_, fun t k x none_ first => ?_,
    fun x b room bank goes => enterItem_entered room bank goes, fun m room => ⟨fun d h hd few => ?_, fun h => ?_, clusterFence_sets room, clusterFence_clears room⟩⟩
  · show Host.Outcome.next (settle (threadOffer t.toNat s)) = _
    rw [threadOffer, first]
  · show Host.Outcome.next (settle (threadOffer t.toNat s)) = _
    rw [threadOffer, none_, first]
  · subst hd
    refine effect_of_reply h ?_ (by simp [layout, leBytes_length]) room
    show okCmd (if (s.disp.items.filter (fun x => x.2.domain == BitVec.ofNat 16 (par s m 0 2) && x.2.late)).length < 256 then _ else _)
      (layout [_, _, _, _, (if (s.disp.items.filter (fun x => x.2.domain == BitVec.ofNat 16 (par s m 0 2) && x.2.late)).length < 256 then _ else _, 1)]) = _
    rw [if_pos few, if_pos few]
    rfl
  · exact effect_of_reply h rfl (by simp [layout, leBytes_length]) room

end Sys2Proof.Machine
end

section
/-!
PROOFS. Tries change by commands, and the lookup engine unpins, ages, writes back and reclaims (O31).
-/
namespace Sys2Proof.Machine

/-! ### Ageing (R401, R402) -/

/-- The flap records of `t` are some of those of `s`. -/
def FlapsShrink (s t : State) : Prop := ∀ f ∈ t.lk.flaps, f ∈ s.lk.flaps

theorem FlapsShrink.of_eq {s t : State} (h : t.lk.flaps = s.lk.flaps) : FlapsShrink s t := fun _ m => h ▸ m
theorem FlapsShrink.trans {a b c : State} (h : FlapsShrink a b) (k : FlapsShrink b c) : FlapsShrink a c := fun f m => h f (k f m)
theorem FlapsShrink.foldl {β : Type} {f : State → β → State} (h : ∀ a b, FlapsShrink a (f a b)) (l : List β) (s : State) :
    FlapsShrink s (l.foldl f s) := by
  induction l generalizing s with
  | nil => exact .of_eq rfl
  | cons b l ih => exact (h s b).trans (ih _)

theorem dropFlap_shrinks (t : Nat) (k : List Word36) (s : State) : FlapsShrink s (dropFlap t k s) := fun _ m => (List.mem_filter.mp m).1

/-- What a removal of an entry changes of the lookup engine. -/
theorem clearEntry_hash {t : Nat} (hash : t ≠ 16) (i : Nat) (s : State) : clearEntry t i s = updLk (fun l => { l with
    entries := tabErase l.entries (4 * (tableOf s t).base + i), bad := l.bad.filter (· != 4 * (tableOf s t).base + i) }) s := if_neg hash

theorem notice_flaps (type t i : Nat) (k : List Word36) (old new : Word36 × Word36) (s : State) :
    (notice type t i k old new s).lk.flaps = s.lk.flaps := by
  unfold notice
  split
  · extract_lets first u
    split
    · exact (congrArg Lookup.flaps (raise_reports 260 [] u).lk).trans rfl
    · rfl
  · exact congrArg Lookup.flaps (raiseFirst_reports _ _ _ _).lk

theorem dropBad_shrinks {t : Nat} (hash : t ≠ 16) (s : State) (i : Nat) : FlapsShrink s (dropBad t s i) := by
  have cleared : FlapsShrink s (raise 256 [(t, 8), (i, 32)] (setFlag 0x500 0 (clearEntry t i s))) := by
    refine .of_eq ((congrArg Lookup.flaps (raise_reports _ _ _).lk).trans ?_)
    rw [clearEntry_hash hash]
    rfl
  unfold dropBad
  simp only [if_neg hash]
  split
  · exact cleared
  · split
    · exact cleared.trans (.of_eq rfl)
    · exact cleared.trans (.of_eq (notice_flaps _ _ _ _ _ _ _))

theorem removeEntry_shrinks {t : Nat} (hash : t ≠ 16) (i : Nat) (e : LkEntry) (s : State) : FlapsShrink s (removeEntry t i e s) := by
  refine FlapsShrink.trans (.of_eq ?_) (dropFlap_shrinks t e.key (clearEntry t i s))
  rw [clearEntry_hash hash]
  rfl

/-- What a scan does to an entry that it finds as old as AGE_LIMIT. -/
def ageEntry (t : Nat) (a : State) (i : Nat) : State :=
  match entryAt a t i with
  | some e => if agedOut a t e then removeEntry t i e (lkCount t 15 1 a) else a
  | none => a

theorem ageEntry_shrinks {t : Nat} (hash : t ≠ 16) (a : State) (i : Nat) : FlapsShrink a (ageEntry t a i) := by
  unfold ageEntry
  split
  · split
    · exact FlapsShrink.trans (.of_eq rfl) (removeEntry_shrinks hash _ _ (lkCount t 15 1 a))
    · exact .of_eq rfl
  · exact .of_eq rfl

theorem noteFlap_lk (f : Option FlapRecord) (s : State) : (noteFlap f s).lk = s.lk ∧ (noteFlap f s).sh = s.sh := by
  unfold noteFlap
  split
  · split <;> exact ⟨rfl, rfl⟩
  · exact ⟨rfl, rfl⟩

/-- What a scan leaves of the flap records, and what it leaves alone. -/
theorem scanFlaps_lk (t : Nat) (s : State) : ∃ l, (scanFlaps t s).lk = { s.lk with flaps := l } ∧ (scanFlaps t s).sh = s.sh ∧
    ∀ f ∈ l, f.table = t → f.pinEnd = none → f.bad = false → (s.sh.sheet - f.start).toNat < (tableOf s t).moveWindow := by
  refine ⟨s.lk.flaps.filter _, (noteFlap_lk _ _).1, (noteFlap_lk _ _).2, fun f mem table free sound => ?_⟩
  have kept := (List.mem_filter.mp mem).2
  have seen : flapSeen s f = f := by
    unfold flapSeen
    rw [sound]
    rfl
  simp only [seen, table, free, beq_self_eq_true, Option.isNone_none, Bool.true_and, Bool.not_eq_true', decide_eq_false_iff_not,
    Nat.not_le] at kept
  exact kept

/-- A scan of a table: its flap records, then its entries where they age. -/
theorem ageOut_scans {s : State} {k : BitVec 5} (hk : k.toNat < 16) : exec (.ageOut k) s = .next (
    if !(tableOf s k.toNat).configured || !(tableOf s k.toNat).learn || (tableOf s k.toNat).ageLimit = 0 then scanFlaps k.toNat s
    else (tableEntries (scanFlaps k.toNat s) k.toNat).foldl (ageEntry k.toNat)
      (((tableEntries (scanFlaps k.toNat s) k.toNat).filter (entryBad (scanFlaps k.toNat s) k.toNat)).foldl (dropBad k.toNat)
        (scanFlaps k.toNat s))) :=
  congrArg Host.Outcome.next (if_neg (by omega))

theorem ageOut_window {s : State} {k : BitVec 5} (hk : k.toNat < 16) : ∃ u, exec (.ageOut k) s = .next u ∧
    ∀ f ∈ u.lk.flaps, f.table = k.toNat → f.pinEnd = none → f.bad = false →
      (s.sh.sheet - f.start).toNat < (tableOf s k.toNat).moveWindow := by
  have hash : k.toNat ≠ 16 := by omega
  obtain ⟨l, lk, -, inside⟩ := scanFlaps_lk k.toNat s
  refine ⟨_, ageOut_scans hk, fun f mem => inside f ?_⟩
  have shrinks : FlapsShrink (scanFlaps k.toNat s) _ :=
    (FlapsShrink.foldl (dropBad_shrinks hash) ((tableEntries (scanFlaps k.toNat s) k.toNat).filter (entryBad (scanFlaps k.toNat s) k.toNat))
      (scanFlaps k.toNat s)).trans (.foldl (ageEntry_shrinks hash) (tableEntries (scanFlaps k.toNat s) k.toNat) _)
  have scanned : f ∈ (scanFlaps k.toNat s).lk.flaps := by
    split at mem
    · exact mem
    · exact shrinks f mem
  rw [lk] at scanned
  exact scanned

/-- An entry after its own turn of the scan, and after the turn of another. -/
theorem ageEntry_entries {t : Nat} {s a : State} (hash : t ≠ 16) (tables : a.lk.tables = s.lk.tables) (sheet : a.sh.sheet = s.sh.sheet) (j : Nat) :
    (ageEntry t a j).lk.tables = s.lk.tables ∧ (ageEntry t a j).sh.sheet = s.sh.sheet ∧
    ∀ i, entryAt (ageEntry t a j) t i = if i = j then (entryAt a t i).filter (fun e => !agedOut s t e) else entryAt a t i := by
  have same (e : LkEntry) : agedOut a t e = agedOut s t e := by
    unfold agedOut ageNow tableOf
    rw [tables, sheet]
  unfold ageEntry
  split
  · next e found =>
    rw [same e]
    split
    · next old =>
      unfold removeEntry
      rw [clearEntry_hash hash]
      refine ⟨tables, sheet, fun i => ?_⟩
      by_cases hi : i = j
      · subst hi
        rw [if_pos rfl, found, Option.filter_some, old]
        unfold entryAt
        rw [if_neg hash]
        show (tabFind (tabErase a.lk.entries (4 * (tableOf a t).base + i)) (4 * (tableOf a t).base + i)).map _ = none
        rw [tabFind_erase, if_pos rfl]
        rfl
      · rw [if_neg hi]
        unfold entryAt
        rw [if_neg hash, if_neg hash]
        show (tabFind (tabErase a.lk.entries (4 * (tableOf a t).base + j)) (4 * (tableOf a t).base + i)).map _ = _
        rw [tabFind_erase, if_neg (by omega)]
        rfl
    · next young =>
      refine ⟨tables, sheet, fun i => ?_⟩
      split
      · next hi =>
        subst hi
        rw [found, Option.filter_some, Bool.eq_false_iff.mpr young]
        rfl
      · rfl
  · next none_ =>
    refine ⟨tables, sheet, fun i => ?_⟩
    split
    · next hi =>
      subst hi
      rw [none_]
      rfl
    · rfl

/-- The entries after the turns of a list. -/
theorem ageEntries_entries {t : Nat} {s : State} (hash : t ≠ 16) (l : List Nat) {a : State} (tables : a.lk.tables = s.lk.tables)
    (sheet : a.sh.sheet = s.sh.sheet) : (l.foldl (ageEntry t) a).lk.tables = s.lk.tables ∧ ∀ i,
      entryAt (l.foldl (ageEntry t) a) t i = if i ∈ l then (entryAt a t i).filter (fun e => !agedOut s t e) else entryAt a t i := by
  induction l generalizing a with
  | nil => exact ⟨tables, fun i => by simp⟩
  | cons j l ih =>
    obtain ⟨ht, hs, he⟩ := ageEntry_entries hash tables sheet j
    refine ⟨(ih ht hs).1, fun i => ?_⟩
    rw [List.foldl_cons, (ih ht hs).2 i, he i]
    by_cases hi : i = j
    · subst hi
      simp only [if_true, List.mem_cons, true_or]
      split
      · rw [Option.filter_filter]
        simp only [Bool.and_self]
      · rfl
    · simp only [hi, if_false, List.mem_cons, false_or]

theorem ageOut_ages {s : State} {k : BitVec 5} (hk : k.toNat < 16) (configured : (tableOf s k.toNat).configured = true)
    (learn : (tableOf s k.toNat).learn = true) (limit : (tableOf s k.toNat).ageLimit ≠ 0)
    (sound : ∀ i ∈ tableEntries s k.toNat, entryBad s k.toNat i = false) : ∃ u, exec (.ageOut k) s = .next u ∧ u.lk.tables = s.lk.tables ∧
      ∀ i < 4 * (tableOf s k.toNat).buckets, entryAt u k.toNat i = (entryAt s k.toNat i).filter (fun e => !agedOut s k.toNat e) := by
  have hash : k.toNat ≠ 16 := by omega
  obtain ⟨l, lk, sh, -⟩ := scanFlaps_lk k.toNat s
  have tables : (scanFlaps k.toNat s).lk.tables = s.lk.tables := by rw [lk]
  have at_ (i : Nat) : entryAt (scanFlaps k.toNat s) k.toNat i = entryAt s k.toNat i := by
    unfold entryAt tableOf
    rw [if_neg hash, if_neg hash, lk]
  have bad (i : Nat) : entryBad (scanFlaps k.toNat s) k.toNat i = entryBad s k.toNat i := by
    unfold entryBad tableOf
    rw [if_neg hash, if_neg hash, lk]
  have listed : tableEntries (scanFlaps k.toNat s) k.toNat = tableEntries s k.toNat := by
    unfold tableEntries tableOf
    simp only [at_, bad, tables]
  have none_ : (tableEntries s k.toNat).filter (entryBad (scanFlaps k.toNat s) k.toNat) = [] :=
    List.filter_eq_nil_iff.mpr fun i mem => by rw [bad, sound i mem]; exact Bool.false_ne_true
  obtain ⟨ht, he⟩ := ageEntries_entries hash (tableEntries s k.toNat) tables (congrArg Sheets.sheet sh)
  refine ⟨_, (ageOut_scans hk).trans (congrArg Host.Outcome.next (if_neg ?_)), ?_, fun i hi => ?_⟩
  · rw [configured, learn]
    simp [limit]
  · rw [listed, none_]
    exact ht
  · rw [listed, none_]
    refine (he i).trans ?_
    rw [at_]
    split
    · rfl
    · next out =>
      have empty : entryAt s k.toNat i = none := by
        refine Decidable.byContradiction fun some_ => ?_
        exact out (List.mem_filter.mpr ⟨List.mem_range.mpr hi, by rw [Option.isSome_iff_ne_none.mpr some_, Bool.true_or]⟩)
      rw [empty]
      rfl

/-! ### Shadows and tries -/

/-- What writes a shadow back. -/
def writtenBack (w : Rewrite) (u : State) : State :=
  match w with
  | .entry t i e => rewriteEntry t i e u
  | .trie _ place i => rewritePlace place i u

theorem shadowRewrite_happens {s : State} {index : Nat} {w : Rewrite} (found : s.lk.rewrites[index]? = some w) {u : State}
    (hu : u = updLk (fun l => { l with rewrites := l.rewrites.eraseIdx index }) s) :
    (∀ t i e, w = .entry t i e → Happens (exec (.shadowRewrite index) s) (rewriteEntry t i e u)) ∧
    (∀ t place i, w = .trie t place i → Happens (exec (.shadowRewrite index) s) (rewritePlace place i u)) := by
  have e : exec (.shadowRewrite index) s = .next (raise 267 [] (lkDevice 6 1 (writtenBack w u))) := by
    show execShadowRewrite index s = _
    unfold execShadowRewrite
    rw [found, hu]
    rfl
  have reports : Reports (writtenBack w u) (raise 267 [] (lkDevice 6 1 (writtenBack w u))) :=
    .trans (count_reports _ _ _ _ _) (raise_reports _ _ _)
  exact ⟨fun t i x hw => ⟨_, e, by subst hw; exact reports⟩, fun t place i hw => ⟨_, e, by subst hw; exact reports⟩⟩

/-- What ROUTE_ADD does with a new route, once the lookups it waits for have ended. -/
def routeAdded (t : Nat) (r : Route) (v : Word36 × Word36) (b : State) : CmdRes :=
  if noRouteSpace b t r then refuse b 0x06
  else okCmd (lkDevice 7 1 (putResult r.index v (changeRoutes t ((trieOf b t).routes ++ [r]) b))) (layout [(r.index, 4), (0, 1)])

theorem routeAdded_ok {t : Nat} {r : Route} {v : Word36 × Word36} {b : State} (space : noRouteSpace b t r = false) :
    routeAdded t r v b =
      okCmd (lkDevice 7 1 (putResult r.index v (changeRoutes t ((trieOf b t).routes ++ [r]) b))) (layout [(r.index, 4), (0, 1)]) :=
  if_neg (by rw [space]; exact Bool.false_ne_true)

/-- What ROUTE_DELETE does with a route, once the lookups it waits for have ended. -/
def routeDeleted (t : Nat) (r : Route) (new : List Route) (b : State) : CmdRes :=
  if (builtNodes t new b).isNone then refuse b 0x06
  else okCmd (lkDevice 7 1 (updLk (fun l => { l with staleResults := l.staleResults ++ [r.index] }) (changeRoutes t new b)))

theorem routeDeleted_ok {t : Nat} {r : Route} {new : List Route} {b : State} (fits : (builtNodes t new b).isSome = true) :
    routeDeleted t r new b =
      okCmd (lkDevice 7 1 (updLk (fun l => { l with staleResults := l.staleResults ++ [r.index] }) (changeRoutes t new b))) :=
  if_neg (by rw [Option.isNone_eq_false_iff.mpr fits]; exact Bool.false_ne_true)

section
variable {s : State} {m : BitVec 4} {t : Nat} (room : completionRoom s = true) (ht : t = par s m 0 1)
include room ht

theorem trieConfig_enables (h : Accepted trieConfig m s) (on : par s m 1 1 = 1) (off : (trieOf s t).enabled = false)
    (fits : nodesUsed s + rootSize t ≤ nodeRoom) {b : Nat} {x : Trie} {u : State} (free : freeBlock (usedBlocks s) (rootSize t) = some b)
    (hx : x = { trieOf s t with enabled := true, nodes := [{ depth := 0, path := 0, base := b }] }) (hu : u = setTrie t x s) :
    Effect (exec (.trieConfig m) s) m s (fun a => setTrie t x (renewNodes b (rootSize t) a)) (leBytes 4 (nodeRoom - nodesUsed u)) := by
  subst ht hx hu
  refine effect_of_apart h ?_ (by rw [leBytes_length]; decide) room (.of_host rfl)
  show (if par s m 1 1 = 0 then _ else if (trieOf s (par s m 0 1)).enabled = true then _ else
    match (if nodeRoom < nodesUsed s + rootSize (par s m 0 1) then none else freeBlock (usedBlocks s) (rootSize (par s m 0 1))) with
    | none => _
    | some b => okCmd _ _) = _
  rw [on, off, if_neg (Nat.not_lt.mpr fits), free]
  rfl

theorem trieConfig_drops (h : Accepted trieConfig m s) (off : par s m 1 1 = 0) :
    Ends (exec (.trieConfig m) s) m s (fun u => trieOf u t = {} ∧ ∀ k, k ≠ t → trieOf u k = trieOf s k) := by
  have tries (a : State) : (dropTrie t a).lk.tries = tabSet {} a.lk.tries t {} := by
    unfold dropTrie
    extract_lets x u
    split <;> rfl
  refine ends_of_body (u := dropTrie t (startCmd m.toNat s)) (bs := leBytes 4 (freeNodes (dropTrie t (startCmd m.toNat s)))) h ?_ (by rw [leBytes_length]; decide) room ?_
    fun v _ rep => ?_
  · rw [ht]
    exact if_pos off
  · unfold dropTrie
    extract_lets x u
    exact .ite (.of_host rfl) (.of_host rfl)
  · have e : v.lk.tries = tabSet {} s.lk.tries t {} := (congrArg Lookup.tries rep.lk).trans (tries _)
    unfold trieOf
    rw [e]
    exact ⟨tabGet_set_self _ _ _ _, fun k hk => tabGet_set_of_ne _ _ _ hk⟩

variable {p : List Byte} (hp : p = mbxPayload s m.toNat) (enabled : (trieOf s t).enabled = true)
include hp enabled

theorem routeAdd_replaces (h : Accepted routeAdd m s) {r : Route} {v : Word36 × Word36}
    (hv : v = (BitVec.ofNat 36 (par s m 20 5), BitVec.ofNat 36 (par s m 25 5)))
    (found : routeOf s t (par s m 1 1) (trieAddress t p) = some r) :
    Effect (exec (.routeAdd m) s) m s (putResult r.index v) (layout [(r.index, 4), (1, 1)]) := by
  subst ht hp
  have body : bodyOf routeAdd m s = okCmd (lkDevice 7 1 (putResult r.index v (startCmd m.toNat s))) (layout [(r.index, 4), (1, 1)]) := by
    show (if (!(trieOf s (par s m 0 1)).enabled) = true then _ else
      match routeOf s (par s m 0 1) (par s m 1 1) (trieAddress (par s m 0 1) (mbxPayload s m.toNat)) with
      | some r => _
      | none => _) = _
    rw [enabled, found, hv]
    rfl
  exact (effect_of_apart (f := fun a => lkDevice 7 1 (putResult r.index v a)) h body (by simp [layout, leBytes_length]) room
    (.of_host rfl)).weaken (count_reports _ _ _ _ _)

theorem routeAdd_adds (h : Accepted routeAdd m s) {r : Route} {new : List Route} {b : State} {v : Word36 × Word36}
    (hv : v = (BitVec.ofNat 36 (par s m 20 5), BitVec.ofNat 36 (par s m 25 5)))
    (absent : routeOf s t (par s m 1 1) (trieAddress t p) = none)
    (hr : r = { prefixBits := trieAddress t p, plen := par s m 1 1, index := freeResult s }) (hn : new = (trieOf s t).routes ++ [r])
    (hb : b = awaitTries t new (startCmd m.toNat s)) (space : noRouteSpace b t r = false) :
    Effect (exec (.routeAdd m) s) m s (fun _ => putResult r.index v (changeRoutes t new b)) (layout [(r.index, 4), (0, 1)]) := by
  have inside : Inside ⟨false, false⟩ (startCmd m.toNat s) b := by
    rw [hb]
    exact awaitTries_inside _ _ _ (.refl _)
  have routes : (trieOf b t).routes ++ [r] = new := by
    rw [hn, trieOf, inside.tries]
    rfl
  have body : bodyOf routeAdd m s = okCmd (lkDevice 7 1 (putResult r.index v (changeRoutes t new b))) (layout [(r.index, 4), (0, 1)]) := by
    rw [← routes, ← routeAdded_ok space, hb, hn, hr, hv]
    subst ht hp
    show (if (!(trieOf s (par s m 0 1)).enabled) = true then _ else
      match routeOf s (par s m 0 1) (par s m 1 1) (trieAddress (par s m 0 1) (mbxPayload s m.toNat)) with
      | some r => _
      | none => routeAdded _ _ _ _) = _
    rw [enabled, absent]
    rfl
  refine (effect_of_apart (f := fun _ => lkDevice 7 1 (putResult r.index v (changeRoutes t new b))) h body (by simp [layout, leBytes_length])
    room ?_).weaken (count_reports _ _ _ _ _)
  exact inside.apart.trans (.of_host rfl)

theorem routeDelete_deletes (h : Accepted routeDelete m s) {r : Route} {new : List Route} {b : State}
    (found : routeOf s t (par s m 1 1) (trieAddress t p) = some r) (hn : new = (trieOf s t).routes.filter (fun q => q != r))
    (hb : b = awaitTries t new (startCmd m.toNat s)) (fits : (builtNodes t new b).isSome = true) :
    Ends (exec (.routeDelete m) s) m s (fun u => (trieOf u t).routes = new ∧ u.lk.results = b.lk.results ∧
      u.lk.staleResults = b.lk.staleResults ++ [r.index] ∧ ∃ l, u.lk.staleNodes = b.lk.staleNodes ++ l) ∧
    Effect (exec (.routeDelete m) s) m s (fun _ => updLk (fun l => { l with staleResults := l.staleResults ++ [r.index] })
      (changeRoutes t new b)) [] := by
  have inside : Inside ⟨false, false⟩ (startCmd m.toNat s) b := by
    rw [hb]
    exact awaitTries_inside _ _ _ (.refl _)
  have body : bodyOf routeDelete m s = okCmd (lkDevice 7 1 (updLk (fun l => { l with staleResults := l.staleResults ++ [r.index] })
      (changeRoutes t new b))) := by
    rw [← routeDeleted_ok fits, hb, hn]
    subst ht hp
    show (if (!(trieOf s (par s m 0 1)).enabled) = true then _ else
      match routeOf s (par s m 0 1) (par s m 1 1) (trieAddress (par s m 0 1) (mbxPayload s m.toNat)) with
      | none => _
      | some r => routeDeleted (par s m 0 1) r ((trieOf s (par s m 0 1)).routes.filter (fun q => q != r)) _) = _
    rw [enabled, found]
    rfl
  have effect : Effect (exec (.routeDelete m) s) m s (fun _ => updLk (fun l => { l with staleResults := l.staleResults ++ [r.index] })
      (changeRoutes t new b)) [] :=
    (effect_of_apart (f := fun _ => lkDevice 7 1 (updLk (fun l => { l with staleResults := l.staleResults ++ [r.index] })
      (changeRoutes t new b))) h body (by decide) room (inside.apart.trans (.of_host rfl))).weaken (count_reports _ _ _ _ _)
  refine ⟨effect.ends fun u _ rep => ?_, effect⟩
  have lk := rep.lk
  unfold trieOf
  rw [lk]
  exact ⟨congrArg Trie.routes (tabGet_set_self _ _ _ _), rfl, rfl, _, rfl⟩

theorem routeLookup_answers (h : Accepted routeLookup m s) {r : LkAnswer × State} (hr : r = lookupTrie t (trieAddress t p) (startCmd m.toNat s)) :
    Effect (exec (.routeLookup m) s) m s (fun _ => r.2) (word5 r.1.status ++ ((r.1.words ++ [0, 0]).take 2).flatMap word5) := by
  have inside : InsideQ ⟨false, false⟩ (startCmd m.toNat s) r := by
    rw [hr]
    exact lookupTrie_inside _ _ _ (.refl _)
  refine effect_of_apart (f := fun _ => r.2) h ?_ ?_ room (Inside.apart inside)
  · show (if (!(trieOf s (par s m 0 1)).enabled) = true then _ else
      okCmd (lookupTrie (par s m 0 1) (trieAddress (par s m 0 1) (mbxPayload s m.toNat)) (startCmd m.toNat s)).2
        (answerBytes (lookupTrie (par s m 0 1) (trieAddress (par s m 0 1) (mbxPayload s m.toNat)) (startCmd m.toNat s)).1 2)) = _
    rw [← ht, ← hp, enabled, ← hr]
    rfl
  · have few : ((r.1.words ++ [0, 0]).take 2).length ≤ 2 := List.length_take_le _ _
    have sum (l : List Word36) : (l.flatMap word5).length = 5 * l.length := by
      simp only [List.length_flatMap, word5, leBytes_length, List.map_const', List.sum_replicate_nat, Nat.mul_comm]
    rw [List.length_append, sum, word5, leBytes_length]
    omega

end

/-- Settles O31. -/
theorem lookupHappenings : Obligations.LookupHappenings := by
  unfold Obligations.LookupHappenings
  refine fun s => ⟨fun record f e found pinned past => ?_, fun k hk => ageOut_window hk, fun k hk configured learn limit sound =>
    ageOut_ages hk configured learn limit sound, fun index w found => ⟨_, rfl, shadowRewrite_happens found rfl⟩, fun idle => ?_,
    fun m p t room hp ht => ⟨fun h on off fits b x u free hx hu => trieConfig_enables room ht h on off fits free hx hu,
      trieConfig_drops room ht, fun enabled v hv => ⟨fun r h found => routeAdd_replaces room ht hp enabled h hv found,
        fun r new b h absent hr hn hb space => routeAdd_adds room ht hp enabled h hv absent hr hn hb space,
        fun r new b h found hn hb fits => routeDelete_deletes room ht hp enabled h found hn hb fits,
        fun r h hr => routeLookup_answers room ht hp enabled h hr⟩, fun h => ?_⟩⟩
  · show execUnpin record s = _
    rw [execUnpin, found]
    dsimp only
    rw [pinned]
    exact congrArg Host.Outcome.next (if_pos past)
  · exact congrArg Host.Outcome.next (if_neg (by rw [trieBusy, idle]; exact Bool.false_ne_true))
  · exact effect_of_reply h rfl (by simp [layout, leBytes_length]) room

end Sys2Proof.Machine
end

section
/-!
PROOFS. Coprocessor instructions, the ends of operations and companion operations (O33).
-/
namespace Sys2Proof.Machine

/-! ### What the note of an issue leaves alone -/

theorem pinsFull_noteIssue (t : Nat) (s : State) (w : Word36) : pinsFull (noteIssue t s) w = pinsFull s w := by
  unfold pinsFull
  dsimp only
  rw [staleHandle_noteIssue, handleOf_noteIssue]

theorem issueFault_noteIssue (t n cls unit : Nat) (d : Bool) (s : State) : issueFault (noteIssue t s) n cls unit d = issueFault s n cls unit d := rfl

theorem thr_stepIssued (t k : Nat) (s : State) : thr (stepIssued t s) k = thr s k := by
  unfold stepIssued
  split
  · rfl
  · rw [stepDone_threads]
    rfl

theorem unitOf_stepIssued (t u : Nat) (s : State) : unitOf (stepIssued t s) u = unitOf s u := by
  unfold stepIssued
  split
  · rfl
  · rw [stepDone_threads]
    rfl

/-! ### Issues to Watermark, signature and Stripe units -/

section
variable {s : State} {t : BitVec 9} {unit : BitVec 3} {ga gb : BitVec 5} {notify : Bool} {imm : BitVec 11} {cls op : Nat} {a : State}

/-- What an issue to a unit does once the operands are read. -/
def copAct (n cls op : Nat) (unit : BitVec 3) (ga gb : BitVec 5) (notify : Bool) (imm : BitVec 11) (s : State) : State :=
  match issueFault s n cls unit.toNat false with
  | some e => haltThread n e (encC (56 + cls) op unit ga gb notify imm) (cls * 16 + unit.toNat) s
  | none =>
    if cls == 0 && stampLost s n then voidStamp n s
    else if pinsFull s (regG s n gb) then
      stallThread n (.pins (hIndex ((regG s n gb).setWidth 24)) cls op unit ga gb notify imm) ctrStallCop s
    else advance n (issueUnit n cls op unit ga gb notify imm s)

theorem copInstr_acts {illegal : Bool} (can : CanIssue s t [ga, gb] []) (legal : illegal = false) (ha : a = noteIssue t.toNat s) :
    copInstr t cls op unit ga gb notify imm illegal s = stepIssued t.toNat (copAct t.toNat cls op unit ga gb notify imm a) := by
  rw [ha]
  exact issue_can can legal

variable (ha : a = noteIssue t.toNat s)
include ha

theorem copAct_fault {e : Nat} (fault : issueFault s t.toNat cls unit.toNat false = some e) : copAct t.toNat cls op unit ga gb notify imm a =
    haltThread t.toNat e (encC (56 + cls) op unit ga gb notify imm) (cls * 16 + unit.toNat) a := by
  unfold copAct
  rw [ha, issueFault_noteIssue, fault]

variable (free : issueFault s t.toNat cls unit.toNat false = none)
include free

theorem copAct_void (watermark : cls = 0) (lost : stampLost s t.toNat = true) :
    copAct t.toNat cls op unit ga gb notify imm a = voidStamp t.toNat a := by
  unfold copAct
  rw [ha, issueFault_noteIssue, free, stampLost_noteIssue, lost, watermark]
  rfl

variable (kept : (cls == 0 && stampLost s t.toNat) = false)
include kept

theorem copAct_stalls (full : pinsFull s (regG s t.toNat gb) = true) : copAct t.toNat cls op unit ga gb notify imm a =
    stallThread t.toNat (.pins (hIndex ((regG s t.toNat gb).setWidth 24)) cls op unit ga gb notify imm) ctrStallCop a := by
  unfold copAct
  rw [ha, issueFault_noteIssue, free, stampLost_noteIssue, kept, regG_noteIssue, pinsFull_noteIssue, full]
  rfl

theorem copAct_starts (room : pinsFull s (regG s t.toNat gb) = false) {b : State} (hb : b = drainStores t.toNat a) {o : UnitOp}
    (ho : o = { unitOpOf cls b t.toNat op (regG s t.toNat ga) imm ((regG s t.toNat gb).setWidth 24) with
      notify := if notify then notifyOf b t.toNat (regG s t.toNat ga) else none }) :
    copAct t.toNat cls op unit ga gb notify imm a = advance t.toNat (startUnit (unitBase cls + unit.toNat) t.toNat o (regG s t.toNat gb)
      (noteDescriptor t.toNat (regG s t.toNat ga) imm o (noteDescRead t.toNat cls (regG s t.toNat ga) imm o b))) := by
  have read : regG b t.toNat ga = regG s t.toNat ga := by rw [hb, regG_drainStores, ha, regG_noteIssue]
  have pins : pinsFull a (regG a t.toNat gb) = false := by rw [ha, regG_noteIssue, pinsFull_noteIssue, room]
  have issued : issueUnit t.toNat cls op unit ga gb notify imm a = startUnit (unitBase cls + unit.toNat) t.toNat o (regG s t.toNat gb)
      (noteDescriptor t.toNat (regG s t.toNat ga) imm o (noteDescRead t.toNat cls (regG s t.toNat ga) imm o b)) := by
    unfold issueUnit
    dsimp only
    rw [← hb, read, show regG a t.toNat gb = regG s t.toNat gb by rw [ha, regG_noteIssue], ← ho]
  unfold copAct
  rw [pins, issued, ha, issueFault_noteIssue, free, stampLost_noteIssue, kept]
  rfl

end

/-- A class's operations are those of its constructor. -/
theorem copOp_class {cls : Nat} {mk : State → Nat → Nat → Word36 → BitVec 11 → HandleWord → UnitOp}
    (h : cls = 0 ∧ mk = watermarkOp ∨ cls = 1 ∧ mk = signatureOp ∨ cls = 2 ∧ mk = stripeOp) : unitOpOf cls = mk := by
  rcases h with ⟨rfl, rfl⟩ | ⟨rfl, rfl⟩ | ⟨rfl, rfl⟩ <;> rfl

/-- A coprocessor instruction is the issue of its class and operation; one of a Watermark unit may void its item. -/
theorem copInstr_exec {s : State} {t : BitVec 9} {unit : BitVec 3} {ga gb : BitVec 5} {notify : Bool} {imm : BitVec 11}
    {c : Instr} {cls op : Nat} {mk : State → Nat → Nat → Word36 → BitVec 11 → HandleWord → UnitOp}
    (which : c = .chainOp t unit ga gb notify imm ∧ cls = 0 ∧ op = 0 ∧ mk = watermarkOp ∨
      c = .hashOp t unit ga gb notify imm ∧ cls = 0 ∧ op = 1 ∧ mk = watermarkOp ∨
      c = .signOp t unit ga gb notify imm ∧ cls = 1 ∧ op = 0 ∧ mk = signatureOp ∧ natBits imm.toNat 3 7 = 0 ∨
      c = .publicKey t unit ga gb notify imm ∧ cls = 1 ∧ op = 1 ∧ mk = signatureOp ∧ natBits imm.toNat 3 7 = 0 ∨
      c = .encodeOp t unit ga gb notify imm ∧ cls = 2 ∧ op = 0 ∧ mk = stripeOp ∧ natBits imm.toNat 0 10 = 0) :
    (∃ illegal, illegal = false ∧ exec c s = .next (if cls == 0 && stampLost s t.toNat then
      settle (copInstr t cls op unit ga gb notify imm illegal s) else copInstr t cls op unit ga gb notify imm illegal s)) ∧
    unitOpOf cls = mk := by
  rcases which with ⟨rfl, rfl, rfl, rfl⟩ | ⟨rfl, rfl, rfl, rfl⟩ | ⟨rfl, rfl, rfl, rfl, field⟩ | ⟨rfl, rfl, rfl, rfl, field⟩ |
    ⟨rfl, rfl, rfl, rfl, field⟩
  · exact ⟨⟨false, rfl, rfl⟩, rfl⟩
  · exact ⟨⟨false, rfl, rfl⟩, rfl⟩
  · exact ⟨⟨natBits imm.toNat 3 7 != 0, by rw [field]; rfl, rfl⟩, rfl⟩
  · exact ⟨⟨natBits imm.toNat 3 7 != 0, by rw [field]; rfl, rfl⟩, rfl⟩
  · exact ⟨⟨natBits imm.toNat 0 10 != 0, by rw [field]; rfl, rfl⟩, rfl⟩

/-- A unit without a pin starts on an operation without an error. -/
theorem startUnit_clean {s : State} {u t : Nat} {o : UnitOp} {w : Word36} (good : pinBad s w = false) (clean : o.code = 0)
    (pinless : w.setWidth 24 = nullHandle) : unitOf (startUnit u t o w s) u = { unitOf s u with
      busy := true, done := false, error := false, errorCode := 0, owner := BitVec.ofNat 12 t
      op := some { o with pin := nullHandle, stale := false }, held := false } := by
  unfold startUnit
  simp only [good, clean, pinless, Bool.false_eq_true, if_false, beq_self_eq_true, if_true, ne_eq, not_true_eq_false,
    show ((0 : Nat) == 5) = false from rfl, Bool.false_and]
  exact tabGet_set_self _ _ _ _

/-! ### CPST and WAITCP -/

theorem readStatus_reads {s : State} {t : BitVec 9} {gd : BitVec 5} {cls : BitVec 2} {unit : BitVec 3} (here : unit.toNat < unitCount cls.toNat) :
    readStatus t.toNat gd cls.toNat unit.toNat (noteIssue t.toNat s) =
      advance t.toNat (setG t.toNat gd (statusWord (unitOf s (unitBase cls.toNat + unit.toNat))) (noteIssue t.toNat s)) :=
  if_neg (by omega)

theorem waitcp_reads {s : State} {t : BitVec 9} {gd : BitVec 5} {cls : BitVec 2} {unit : BitVec 3} (here : unit.toNat < unitCount cls.toNat)
    (can : CanIssue s t [] [gd]) (idle : (unitOf s (unitBase cls.toNat + unit.toNat)).busy = false) :
    GdGets (exec (.waitcp t gd unit cls 0) s) t s gd (statusWord (unitOf s (unitBase cls.toNat + unit.toNat))) := by
  refine gdGets_of_act (i := { word := encCP gd unit cls 0 1, illegal := fun _ _ => (0 : BitVec 14) != 0, dsts := [gd], act := _ }) can rfl ?_
  have idle' : (unitOf (noteIssue t.toNat s) (unitBase cls.toNat + unit.toNat)).busy = false := idle
  exact (if_neg (by rw [idle', Bool.and_false]; exact Bool.false_ne_true)).trans (readStatus_reads here)

theorem waitcp_waits {s : State} {t : BitVec 9} {gd : BitVec 5} {cls : BitVec 2} {unit : BitVec 3} (here : unit.toNat < unitCount cls.toNat)
    (can : CanIssue s t [] [gd]) (busy : (unitOf s (unitBase cls.toNat + unit.toNat)).busy = true) :
    exec (.waitcp t gd unit cls 0) s = .next (stallThread t.toNat (.unit (unitBase cls.toNat + unit.toNat) gd) ctrStallCop (noteIssue t.toNat s)) := by
  have busy' : (unitOf (noteIssue t.toNat s) (unitBase cls.toNat + unit.toNat)).busy = true := busy
  refine congrArg Host.Outcome.next ((exec_act
    (i := { word := encCP gd unit cls 0 1, illegal := fun _ _ => (0 : BitVec 14) != 0, dsts := [gd], act := _ }) can rfl
    (if_pos (by rw [busy', Bool.and_true]; exact decide_eq_true here))).trans ?_)
  exact stepIssued_stallThread _ _ _ _

/-! ### Ends of operations -/

theorem unitDone_ends {s d e : State} {u : BitVec 5} {o : UnitOp} (hu : u.toNat < 14) (op : (unitOf s u.toNat).op = some o)
    (free : (unitOf s u.toNat).held = false) (awake : ∀ p ∈ unitSpans s o, dramAsleep s p.1 p.2 = false) (hd : d = noteUnitReads o s)
    (good : o.ins.any (regionPoisoned d) = false) (he : e = count .unit u.toNat 1 ((o.ins.map (·.length)).foldl (· + ·) 0) d) :
    exec (.unitDone u false) s = .next (finishUnit u.toNat 0 (writeOuts o (unitOut e u.toNat o) e)) := by
  refine congrArg Host.Outcome.next ((if_pos hu).trans ?_)
  unfold completeUnit
  rw [op]
  dsimp only
  rw [free, if_neg Bool.false_ne_true, whenAwake_awake awake, ← hd, good, Bool.false_and]
  simp only [Bool.false_eq_true, if_false, ← he]

/-! ### Companion operations (R461, R463) -/

/-- The companion port only talks: no unit, thread or core changes. -/
structure Talks (s t : State) : Prop where
  units : t.cop.units = s.cop.units
  cores : t.cores = s.cores

theorem Talks.trans {a b c : State} (h : Talks a b) (k : Talks b c) : Talks a c := ⟨k.units.trans h.units, k.cores.trans h.cores⟩

theorem returnCredits_talks (c : Nat) (s : State) : Talks s (returnCredits c s) := by
  unfold returnCredits
  split <;> exact ⟨rfl, rfl⟩

theorem putFlit_talks (type seq : Nat) (payload : List Byte) (s : State) : Talks s (putFlit type seq payload s) := by
  have noted : Talks s (if type = 0 then s else noteTraffic s) := by split <;> exact ⟨rfl, rfl⟩
  have returned (l : List Nat) (a : State) : Talks a (l.foldl (fun a c => returnCredits c a) a) := by
    induction l generalizing a with
    | nil => exact ⟨rfl, rfl⟩
    | cons c l ih => exact (returnCredits_talks c a).trans (ih _)
  unfold putFlit
  extract_lets a
  have h : Talks s a := noted.trans (returned [3, 4, 5, 6] _)
  clear_value a
  exact h.trans ⟨rfl, rfl⟩

theorem sendSeq_talks (f : TxFlit) (s : State) : Talks s (sendSeq f s) := by
  unfold sendSeq
  extract_lets -merge -underBinder l a
  exact Talks.trans (b := a) ⟨rfl, rfl⟩ (putFlit_talks _ _ _ a)

theorem sendFlit_talks (type cls : Nat) (payload : List Byte) (s : State) : Talks s (sendFlit type cls payload s) := by
  unfold sendFlit
  dsimp only
  split
  · exact sendSeq_talks _ s
  · exact ⟨rfl, rfl⟩

/-- A unit of the companion port that takes an operation. -/
def compStarted (x : Unit') (n : Nat) (o : UnitOp) (sheet : BitVec 48) : Unit' :=
  { x with busy := true, done := false, error := false, errorCode := 0, owner := BitVec.ofNat 12 n, op := some o, tag := x.tag + 1, issued := sheet }

theorem companionOp_starts {s : State} {t : BitVec 9} {ga gb func : BitVec 5} {cv : BitVec 3} {i : BitVec 14} (can : CanIssue s t [ga, gb] [])
    (free : issueFault s t.toNat 3 cv.toNat (decide ((linkOf s).state ≠ .up)) = none) {b : State} (hb : b = drainStores t.toNat (noteIssue t.toNat s)) :
    ∃ u n, exec (.companionOp t cv func ga gb i) s = .next u ∧
      unitOf u (14 + cv.toNat) = compStarted (unitOf b (14 + cv.toNat)) t.toNat { op := func.toNat, notify := n } s.sh.sheet ∧
      (thr u t.toNat).pc = (thr s t.toNat).pc + 1 := by
  obtain ⟨n, hn⟩ : ∃ n, n = if natBit (freeNow b) 0 then notifyOf b t.toNat (regG b t.toNat ga) else none := ⟨_, rfl⟩
  obtain ⟨c, hc⟩ : ∃ c, c = setUnit (14 + cv.toNat)
    (compStarted (unitOf b (14 + cv.toNat)) t.toNat { op := func.toNat, notify := n } b.sh.sheet) (drawFree b) := ⟨_, rfl⟩
  obtain ⟨d, hd⟩ : ∃ d, d = advance t.toNat (sendFlit 1 1
    (opPayload cv.toNat func.toNat i.toNat (regG c t.toNat ga) (regG c t.toNat gb) t.toNat (unitOf b (14 + cv.toNat)).tag.toNat) c) := ⟨_, rfl⟩
  have runs : exec (.companionOp t cv func ga gb i) s = .next (stepIssued t.toNat d) := by
    refine congrArg Host.Outcome.next (exec_act (i := { word := encX cv func ga gb i, srcs := [ga, gb], act := _ }) can rfl ?_)
    have fault : issueFault (noteIssue t.toNat s) t.toNat 3 cv.toNat (decide ((linkOf (noteIssue t.toNat s)).state ≠ .up)) = none := free
    dsimp only
    rw [fault]
    dsimp only
    rw [← hb, hd, hc, hn]
    rfl
  have talks : Talks c (sendFlit 1 1
    (opPayload cv.toNat func.toNat i.toNat (regG c t.toNat ga) (regG c t.toNat gb) t.toNat (unitOf b (14 + cv.toNat)).tag.toNat) c) :=
    sendFlit_talks _ _ _ _
  have sheet : b.sh.sheet = s.sh.sheet := by
    have kept : Drains (setThr t.toNat { thr (noteIssue t.toNat s) t.toNat with stores := [] } (noteIssue t.toNat s)) b := hb ▸ drainStores_drains _ _
    rw [kept.reports.sheets]
    rfl
  refine ⟨_, n, runs, ?_, ?_⟩
  · rw [unitOf_stepIssued, hd, ← sheet]
    refine (congrArg (fun l => tabGet ({} : Unit') l (14 + cv.toNat)) talks.units).trans ?_
    rw [hc]
    exact tabGet_set_self _ _ _ _
  · have pc : (thr c t.toNat).pc = (thr s t.toNat).pc := by
      have same : thr c t.toNat = thr b t.toNat := by rw [hc]; rfl
      rw [same, hb, thr_drainStores_self, thr_noteIssue_self]
      rfl
    rw [thr_stepIssued, hd, advance, thr_updThr_self, ← pc]
    exact congrArg (fun k : Cores => (tabGet ({} : Thread) k.threads t.toNat).pc + 1) talks.cores

/-- Settles O33. -/
theorem coprocessorsOperate : Obligations.CoprocessorsOperate := by
  unfold Obligations.CoprocessorsOperate
  refine fun s t unit gd ga gb notify imm a b ha hb => ⟨fun c cls op mk which can => ?_, fun u o w _ good clean pinless =>
    startUnit_clean good clean pinless, fun cls u hu here can => ?_, fun u o d e hu op free awake hd good he =>
    unitDone_ends hu op free awake hd good he, fun cv func i can free => companionOp_starts can free (ha ▸ hb), fun cv busy free late => ?_⟩
  · obtain ⟨⟨illegal, legal, runs⟩, ops⟩ := copInstr_exec (s := s) which
    rw [copInstr_acts can legal ha] at runs
    refine ⟨fun free watermark lost => ?_, fun kept => ?_⟩
    · rw [runs, copAct_void ha free watermark lost, watermark, lost]
      rfl
    · have kept : (cls == 0 && stampLost s t.toNat) = false := by
        by_cases h : cls = 0
        · rw [kept h, Bool.and_false]
        · rw [beq_false_of_ne h, Bool.false_and]
      rw [kept, if_neg Bool.false_ne_true] at runs
      refine ⟨fun free full => ?_, fun free room => ⟨_, rfl, ?_⟩, fun e fault => ?_⟩
      · rw [runs, copAct_stalls ha free kept full, stepIssued_stallThread]
      · rw [runs, copAct_starts ha free kept room hb rfl, ops]
      · rw [runs, copAct_fault ha fault]
  · subst hu
    refine ⟨?_, waitcp_reads here can, fun busy => ha ▸ waitcp_waits here can busy⟩
    exact gdGets_of_act (i := { word := encCP gd unit cls 0 0, illegal := fun _ _ => (0 : BitVec 14) != 0, dsts := [gd], act := _ }) can rfl
      (readStatus_reads here)
  · refine congrArg Host.Outcome.next (if_pos ?_)
    rw [busy, free, decide_eq_true late]
    rfl

end Sys2Proof.Machine
end

section
/-!
PROOFS. The companion link comes up, keeps order and carries flits (O34).
-/
namespace Sys2Proof.Machine

/-! ### Blocks on the lanes (R448) -/

/-- The lane that a physical lane carries, where the lane map names each once. -/
theorem lane_of_map {m i : Nat} (distinct : mapDistinct m = true) (hi : i < 4) :
    (List.range 4).find? (fun j => natBits m (2 * j) 2 == natBits m (2 * i) 2) = some i := by
  refine List.find?_range_eq_some.mpr ⟨beq_self_eq_true _, List.mem_range.mpr hi, fun j hj => ?_⟩
  have pair := List.all_eq_true.mp (List.all_eq_true.mp distinct j (List.mem_range.mpr (by omega))) i (List.mem_range.mpr hi)
  rw [beq_false_of_ne (Nat.ne_of_lt hj), Bool.false_or] at pair
  exact bne_iff_ne.mp pair |> fun ne => by rw [beq_false_of_ne ne]; rfl

/-- The block of a lane that holds the bytes of 64 in turn. -/
def laneBlock (bs : List Byte) (j lane : Nat) : LaneBlock :=
  { sync := 2, bytes := (List.range 16).map (fun i => bs.getD (64 * j + 4 * i + lane) 0) }

theorem laneBlock_mem {l : Tabino} {bs : List Byte} {j : Nat} (lane : Nat) (hj : j < bs.length / 64) : laneBlock bs j lane ∈ laneBlocks l bs lane :=
  List.mem_flatMap.mpr ⟨j, List.mem_range.mpr hj, List.mem_cons_self⟩

theorem laneBlock_byte (bs : List Byte) (k : Nat) : (laneBlock bs (k / 64) (k % 4)).bytes[k % 64 / 4]? = some (bs.getD k 0) := by
  have place : 64 * (k / 64) + 4 * (k % 64 / 4) + k % 4 = k := by omega
  have inside : k % 64 / 4 < 16 := by omega
  simp [laneBlock, inside, place]

/-- Each byte of what is sent stands in its turn in a block of its lane. -/
theorem sendBytes_carries (l : Tabino) {flit bs : List Byte} {k p : Nat} (hb : bs = l.partBlock ++ flit) (hk : k < 64 * (bs.length / 64))
    (distinct : mapDistinct l.laneMap.toNat = true) (hp : p = natBits l.laneMap.toNat (2 * (k % 4)) 2) :
    ∃ x ∈ (sendBytes flit l).wire.getD p [], (l.txPol.getLsbD p = false → x.sync = 2 ∧ x.bytes.getD (k % 64 / 4) 0 = bs.getD k 0) ∧
      (l.txPol.getLsbD p = true → x.sync = 1 ∧ x.bytes.getD (k % 64 / 4) 0 = ~~~ bs.getD k 0) := by
  have four : p < 4 := by rw [hp]; exact Nat.mod_lt _ (by decide)
  have found : (List.range 4).find? (fun i => natBits l.laneMap.toNat (2 * i) 2 == p) = some (k % 4) := by
    rw [hp]
    exact lane_of_map distinct (by omega)
  have wire : (sendBytes flit l).wire.getD p [] =
      if l.txPol.getLsbD p then (laneBlocks l bs (k % 4)).map LaneBlock.inverted else laneBlocks l bs (k % 4) := by
    show ((List.range 4).map (physicalBlocks l (l.partBlock ++ flit))).getD p [] = _
    rw [← hb, List.getD_eq_getElem?_getD, List.getElem?_map, List.getElem?_range four, Option.map_some, Option.getD_some, physicalBlocks, found]
  have here := laneBlock_mem (l := l) (bs := bs) (j := k / 64) (k % 4) (by omega)
  have byte := laneBlock_byte bs k
  rw [wire]
  cases l.txPol.getLsbD p with
  | false => exact ⟨_, here, fun _ => ⟨rfl, by rw [List.getD_eq_getElem?_getD, byte]; rfl⟩, nofun⟩
  | true =>
    refine ⟨_, List.mem_map_of_mem here, nofun, fun _ => ⟨show ~~~ (2 : BitVec 2) = 1 by decide, ?_⟩⟩
    show ((laneBlock bs (k / 64) (k % 4)).bytes.map (~~~ ·)).getD _ _ = _
    rw [List.getD_eq_getElem?_getD, List.getElem?_map, byte]
    rfl

/-! ### What a flit brings -/

theorem leAt_bytesAt (b : List Byte) {off n i k : Nat} (h : i + k ≤ n) : leAt (bytesAt b off n) i k = leAt b (off + i) k := by
  unfold leAt bytesAt
  rw [List.drop_take, List.take_take, List.drop_drop, Nat.min_eq_left (by omega)]

theorem updLink_cop (f : Tabino → Tabino) (s : State) : (updLink f s).cop = { s.cop with link := f s.cop.link } := rfl

section
variable {type : Nat} {f : BitVec 544} {act : List Byte → State → State} {s : State} {b : List Byte} {a : State}
  (hb : b = flitIn f) (ha : a = count .portC 0 1 1 s)
include hb ha

theorem rxFlit_bad (sequenced : Bool) (up : (linkOf s).state ≠ .down) (crc : crc32c (b.take 64) ≠ leAt b 64 4) :
    rxFlit type sequenced f act s = discardFlit (if type = 0 then a else noteTraffic a) := by
  have up : (linkOf a).state ≠ .down := by rw [ha]; exact up
  unfold rxFlit
  simp only [← hb, ← ha]
  rw [if_neg up, if_pos]
  rw [bne_iff_ne.mpr crc, Bool.true_or]

variable (crc : crc32c (b.take 64) = leAt b 64 4) (ht : leAt b 0 1 = type)
include crc ht

theorem rxFlit_good (sequenced : Bool) (live : (linkOf s).state ≠ .down) {c : State}
    (hc : c = if type = 8 then if type = 0 then a else noteTraffic a else updLink (fun l => { l with trains := 0 }) (if type = 0 then a else noteTraffic a)) :
    rxFlit type sequenced f act s =
      if !sequenced then act (bytesAt b 8 56) (if (linkOf c).state = .up then takeHeader b c else c)
      else if (linkOf c).state ≠ .up then c
      else
        if leAt b 2 2 % 4096 ≠ (linkOf (takeHeader b c)).rxSeq.toNat then sendNak (takeHeader b c)
        else act (bytesAt b 8 56) (updLink (fun l => { l with rxSeq := l.rxSeq + 1, rxAny := true, nakSent := false }) (takeHeader b c)) := by
  have live : (linkOf a).state ≠ .down := by rw [ha]; exact live
  unfold rxFlit
  simp only [← hb, ← ha]
  rw [if_neg live, if_neg]
  · simp only [← hc]
  · rw [bne_eq_false_iff_eq.mpr crc, bne_eq_false_iff_eq.mpr ht]
    exact Bool.false_ne_true

end

/-! ### Training (R450) -/

/-- The link as a TRAIN flit leaves it before the device's own goes out. -/
def Tabino.trained (p : List Byte) (l : Tabino) : Tabino :=
  { l with
    trains := l.trains + 1, partner := p.take 2, advertised := (List.range 6).map (fun i => BitVec.ofNat 16 (leAt p (4 + 2 * i) 2)) }

/-- What a flit that is sent changes of the link. -/
structure Sends (l k : Tabino) : Prop where
  state : k.state = l.state
  trains : k.trains = l.trains
  advertised : k.advertised = l.advertised

theorem returnCredits_sends (c : Nat) (s : State) : Sends (linkOf s) (linkOf (returnCredits c s)) := by
  unfold returnCredits
  split <;> exact ⟨rfl, rfl, rfl⟩

theorem putFlit_sends (type seq : Nat) (payload : List Byte) (s : State) : Sends (linkOf s) (linkOf (putFlit type seq payload s)) := by
  have returned (l : List Nat) (a : State) : Sends (linkOf a) (linkOf (l.foldl (fun a c => returnCredits c a) a)) := by
    induction l generalizing a with
    | nil => exact ⟨rfl, rfl, rfl⟩
    | cons c l ih =>
      have h := returnCredits_sends c a
      have k := ih (returnCredits c a)
      exact ⟨k.state.trans h.state, k.trains.trans h.trains, k.advertised.trans h.advertised⟩
  have noted : linkOf (if type = 0 then s else noteTraffic s) = linkOf s := by split <;> rfl
  unfold putFlit
  extract_lets a
  have h : Sends (linkOf s) (linkOf a) := noted ▸ returned [3, 4, 5, 6] _
  clear_value a
  exact ⟨h.state, h.trains, h.advertised⟩

/-- What a TRAIN flit does in PARAM. -/
def trainFlitAct (p : List Byte) (s : State) : State :=
  let s := putFlit 8 0 trainPayload (updLink (Tabino.trained p) s)
  if decide (8 ≤ (linkOf s).trains) && decide (8 ≤ ((linkOf s).advertised.getD 0 0).toNat) &&
    decide (6 ≤ ((linkOf s).advertised.getD 1 0).toNat) then enterUp s else s

theorem trainFlit_trains {s : State} {f : BitVec 544} {b : List Byte} {a : State} (hb : b = flitIn f) (ha : a = count .portC 0 1 1 s)
    (crc : crc32c (b.take 64) = leAt b 64 4) (param : (linkOf s).state = .param) (ht : leAt b 0 1 = 8) :
    ∃ t, exec (.trainFlit f) s = .next t ∧
      ((linkOf s).trains = 7 → 8 ≤ leAt b 12 2 → 6 ≤ leAt b 14 2 → (linkOf t).state = .up ∧
        tabGet 0 (linkOf t).credits 1 = leAt b 12 2 ∧ tabGet 0 (linkOf t).credits 2 = leAt b 14 2) ∧
      ((linkOf s).trains < 7 → (linkOf t).state = .param ∧ (linkOf t).trains = (linkOf s).trains + 1) := by
  have live : (linkOf s).state ≠ .down := by rw [param]; decide
  obtain ⟨c, hc⟩ : ∃ c, c = updLink (Tabino.trained (bytesAt b 8 56)) (noteTraffic a) := ⟨_, rfl⟩
  obtain ⟨u, hu⟩ : ∃ u, u = putFlit 8 0 trainPayload c := ⟨_, rfl⟩
  have same : linkOf a = linkOf s := by rw [ha]; rfl
  have runs : exec (.trainFlit f) s = .next (if decide (8 ≤ (linkOf u).trains) && decide (8 ≤ ((linkOf u).advertised.getD 0 0).toNat) &&
      decide (6 ≤ ((linkOf u).advertised.getD 1 0).toNat) then enterUp u else u) := by
    refine congrArg Host.Outcome.next ((rxFlit_good hb ha crc ht false live rfl).trans ?_)
    simp only [if_true, show ¬(8 : Nat) = 0 by decide, if_false, Bool.not_false]
    have down : (linkOf (noteTraffic a)).state ≠ .up := by rw [show linkOf (noteTraffic a) = linkOf a from rfl, same, param]; decide
    rw [if_neg down, if_pos (show (linkOf (noteTraffic a)).state = .param from same ▸ param)]
    rw [hu, hc]
    rfl
  have sends : Sends (linkOf c) (linkOf u) := hu ▸ putFlit_sends 8 0 trainPayload c
  have trains : (linkOf u).trains = (linkOf s).trains + 1 := by rw [sends.trains, hc, ← same]; rfl
  have first : ((linkOf u).advertised.getD 0 0).toNat = leAt b 12 2 := by
    rw [sends.advertised, hc]
    show (BitVec.ofNat 16 (leAt (bytesAt b 8 56) 4 2)).toNat = _
    rw [leAt_bytesAt b (by decide), BitVec.toNat_ofNat]
    exact Nat.mod_eq_of_lt (leAt_lt _ _ _)
  have second : ((linkOf u).advertised.getD 1 0).toNat = leAt b 14 2 := by
    rw [sends.advertised, hc]
    show (BitVec.ofNat 16 (leAt (bytesAt b 8 56) 6 2)).toNat = _
    rw [leAt_bytesAt b (by decide), BitVec.toNat_ofNat]
    exact Nat.mod_eq_of_lt (leAt_lt _ _ _)
  rw [trains, first, second] at runs
  refine ⟨_, runs, fun last ops cpls => ?_, fun few => ?_⟩
  · rw [if_pos (by simp [last, ops, cpls])]
    have cop : (enterUp u).cop = _ := (raise_reports 216 [] _).cop
    unfold linkOf
    rw [cop]
    refine ⟨rfl, ?_, ?_⟩
    · exact ((tabGet_set_of_ne _ _ _ (by decide)).trans (tabGet_set_self _ _ _ _)).trans first
    · exact (tabGet_set_self _ _ _ _).trans second
  · rw [if_neg (by simp [Nat.not_le.mpr few])]
    exact ⟨sends.state.trans (hc ▸ (congrArg Tabino.state same).trans param), trains⟩

/-! ### Flits while the link is UP -/

section
variable {s : State} {f : BitVec 544} {b : List Byte} {a h : State}
  (hb : b = flitIn f) (ha : a = count .portC 0 1 1 s) (crc : crc32c (b.take 64) = leAt b 64 4) (up : (linkOf s).state = .up)
  (hh : h = takeHeader b (updLink (fun l => { l with trains := 0 }) (if leAt b 0 1 = 0 then a else noteTraffic a)))
include hb ha crc up hh

theorem rxFlit_plain {type : Nat} {act : List Byte → State → State} (ht : leAt b 0 1 = type) (other : type ≠ 8) :
    rxFlit type false f act s = act (bytesAt b 8 56) h := by
  rw [ht] at hh
  refine (rxFlit_good hb ha crc ht false (by rw [up]; decide) rfl).trans ?_
  rw [if_neg other, Bool.not_false, if_pos rfl, if_pos, ← hh]
  have live : (linkOf (if type = 0 then a else noteTraffic a)).state = .up := by
    rw [ha]
    split <;> exact up
  exact live

theorem rxFlit_sequenced {type : Nat} {act : List Byte → State → State} (ht : leAt b 0 1 = type) (other : type ≠ 8) :
    rxFlit type true f act s = if leAt b 2 2 % 4096 ≠ (linkOf h).rxSeq.toNat then sendNak h
      else act (bytesAt b 8 56) (updLink (fun l => { l with rxSeq := l.rxSeq + 1, rxAny := true, nakSent := false }) h) := by
  rw [ht] at hh
  refine (rxFlit_good hb ha crc ht true (by rw [up]; decide) rfl).trans ?_
  rw [if_neg other, Bool.not_true, if_neg Bool.false_ne_true, if_neg, ← hh]
  have live : (linkOf (if type = 0 then a else noteTraffic a)).state = .up := by
    rw [ha]
    split <;> exact up
  exact fun no => no live

/-- A flit that comes in its turn acts. -/
theorem rxFlit_turn {type : Nat} {act : List Byte → State → State} (turn : leAt b 2 2 % 4096 = (linkOf h).rxSeq.toNat)
    {c : State} (hc : c = updLink (fun l => { l with rxSeq := l.rxSeq + 1, rxAny := true, nakSent := false }) h)
    {p : List Byte} (hp : p = bytesAt b 8 56) (ht : leAt b 0 1 = type) (other : type ≠ 8) : rxFlit type true f act s = act p c := by
  rw [rxFlit_sequenced hb ha crc up hh ht other, if_neg (fun no => no turn), ← hc, ← hp]

theorem nakFlit_acts (ht : leAt b 0 1 = 9) (live : (linkOf h).state = .up) : exec (.nakFlit f) s = .next (
    if 5 ≤ (linkOf h).naks + 1 then leaveUp .down (raise 218 [] (count .portC 0 5 1 (updLink (fun l => { l with naks := l.naks + 1 }) h)))
    else ((linkOf h).replay.filter (fun q => decide ((q.1 - BitVec.ofNat 12 (leAt b 8 2)).toNat < 2048))).foldl
      (fun c q => putFlit q.2.type q.1.toNat q.2.payload c) (count .portC 0 4 1 (updLink (fun l => { l with naks := l.naks + 1 }) h))) := by
  have from_ : leAt (bytesAt b 8 56) 0 2 = leAt b 8 2 := leAt_bytesAt b (by decide)
  refine congrArg Host.Outcome.next ((rxFlit_plain hb ha crc up hh ht (by decide)).trans ?_)
  rw [if_neg (fun no => no live), from_]
  rfl

end

theorem linkOf_raised (src : Nat) (data : List (Nat × Nat)) (s : State) : linkOf (raise src data s) = linkOf s :=
  congrArg (fun c => c.link) (raise_reports src data s).cop

/-- A request of the companion reads the windows, which no credit touches. -/
theorem compAccess_of_windows {s t : State} (h : t.cop.windows = s.cop.windows) (x n k : Nat) (w : Bool) : compAccess t x n k w = compAccess s x n k w := by
  unfold compAccess
  rw [h]

theorem returnCredits_windows (c : Nat) (s : State) : (returnCredits c s).cop.windows = s.cop.windows := by
  unfold returnCredits
  split <;> rfl

/-- Settles O34. -/
theorem companionLinkCarries : Obligations.CompanionLinkCarries := by
  unfold Obligations.CompanionLinkCarries
  refine fun s f b a hb ha => ⟨fun l flit bs k p hbs hk distinct hp => sendBytes_carries l hbs hk distinct hp, fun live crc c which => ?_,
    fun crc => ⟨fun param ht => ?_, fun param ht => trainFlit_trains hb ha crc param ht, fun up h hh => ⟨fun ht => ?_, fun ht many live => ?_,
      fun ht few live => ?_, fun ht turn => ?_, fun turn c p hp hc => ⟨fun o ht here op busy free tag => ?_, fun x ht access => ?_,
        fun ht denied => ?_, fun x ht some_ most access => ?_, fun r ht hr on => ?_, fun ht => ?_⟩⟩⟩⟩
  · rcases which with rfl | rfl | rfl
    · exact congrArg Host.Outcome.next (rxFlit_bad hb ha true live crc)
    · exact congrArg Host.Outcome.next (rxFlit_bad hb ha false live crc)
    · rw [if_pos rfl]
      exact congrArg Host.Outcome.next (rxFlit_bad hb ha false live crc)
  · refine congrArg Host.Outcome.next ((rxFlit_good hb ha crc ht false (by rw [param]; decide) rfl).trans ?_)
    have down : (linkOf (updLink (fun l => { l with trains := 0 }) a)).state ≠ .up := by
      rw [ha]
      show (linkOf s).state ≠ .up
      rw [param]
      decide
    simp only [if_true, show ¬(0 : Nat) = 8 by decide, if_false, Bool.not_false]
    rw [if_neg down]
  · exact congrArg Host.Outcome.next (rxFlit_plain hb ha crc up hh ht (by decide))
  · refine ⟨_, (nakFlit_acts hb ha crc up hh ht live).trans (congrArg Host.Outcome.next (if_pos (by omega))), ?_⟩
    rw [linkOf_leaveUp]
    rfl
  · exact (nakFlit_acts hb ha crc up hh ht live).trans (congrArg Host.Outcome.next (if_neg (by omega)))
  · exact congrArg Host.Outcome.next ((rxFlit_sequenced hb ha crc up hh ht (by decide)).trans (if_pos turn))
  · refine congrArg Host.Outcome.next ((rxFlit_turn hb ha crc up hh turn hc hp ht (by decide)).trans ?_)
    have unit : leAt p 0 1 % 8 = leAt p 0 1 := Nat.mod_eq_of_lt here
    simp only [unit, op, busy, free, tag, decide_eq_true here, Bool.not_false, Bool.and_self, beq_self_eq_true, if_true]
  · refine congrArg Host.Outcome.next ((rxFlit_turn hb ha crc up hh turn hc hp ht (by decide)).trans ?_)
    have windows : (freeCredit 4 (count .portC 0 6 1 c)).cop.windows = c.cop.windows := returnCredits_windows _ _
    dsimp only
    rw [compAccess_of_windows windows, access]
  · refine congrArg Host.Outcome.next ((rxFlit_turn hb ha crc up hh turn hc hp ht (by decide)).trans ?_)
    have windows : (freeCredit 4 (count .portC 0 6 1 c)).cop.windows = c.cop.windows := returnCredits_windows _ _
    dsimp only
    rw [compAccess_of_windows windows, denied]
  · refine congrArg Host.Outcome.next ((rxFlit_turn hb ha crc up hh turn hc hp ht (by decide)).trans ?_)
    have windows : (freeCredit 4 (count .portC 0 7 1 c)).cop.windows = c.cop.windows := returnCredits_windows _ _
    dsimp only
    have length : (decide (leAt p 5 1 = 0) || decide (48 < leAt p 5 1)) = false := by
      rw [decide_eq_false (by omega), decide_eq_false (by omega)]
      rfl
    rw [length, if_neg Bool.false_ne_true, compAccess_of_windows windows, access]
  · refine congrArg Host.Outcome.next ((rxFlit_turn hb ha crc up hh turn hc hp ht (by decide)).trans ?_)
    subst hr
    exact if_pos on
  · exact congrArg Host.Outcome.next (rxFlit_turn hb ha crc up hh turn hc hp ht (by decide))

end Sys2Proof.Machine
end

section
/-!
PROOFS. Step 6 of the power-fail sequence (O39). The statement says that the confirmed marker is the marker's body as it would be built now;
the model signs the marker that step 5 wrote, which the statement does not tie to that body.
-/
namespace Sys2Proof.Machine

/-- Step 6 with nothing left to flush, a signing key in the power-loss slot, and a marker that does not begin as the present body does. -/
def otherMarker : State :=
  { ev := { state := .powerFail, pf := .flush, marker := [1], set := some { n := 0, k := 1, m := 0, setId := [], rows := 1, sealRows := 1, superSeq := 0, created := {} } }
    sec := { keys := [(0, { kind := 1, key := [] })] } }

/-- The first byte of the first seal record after an outcome. -/
def firstRecordByte : Res → Option Byte
  | .next t => t.ev.sealRecords.head?.bind List.head?
  | _ => none

theorem otherMarker_confirmed : firstRecordByte (exec (.flushComplete 0 .ok) otherMarker) = some 1 := by decide +kernel

theorem markerBody_first (s : State) (l : List Byte) : (markerBody s false ++ l).head? = some 0x43 := rfl

/-- Refutes O39: the confirmed marker keeps the bytes of the marker that was written. -/
theorem not_powerFailFlushes : ¬ Obligations.PowerFailFlushes := by
  unfold Obligations.PowerFailFlushes
  intro h
  obtain ⟨flushes, -⟩ := h otherMarker
  obtain ⟨-, -, -, confirms, -⟩ := flushes _ rfl rfl
  obtain ⟨t, runs, records, -⟩ := confirms 0 [] rfl rfl rfl (by decide) (by decide)
  have kept := otherMarker_confirmed
  rw [runs] at kept
  have built : firstRecordByte (.next t) = some 0x43 := by
    show t.ev.sealRecords.head?.bind List.head? = _
    rw [records]
    exact markerBody_first otherMarker (edSign [] (markerBody otherMarker false))
  exact absurd (kept.symm.trans built) (by decide)

end Sys2Proof.Machine
end

section
/-!
PROOFS. Entry into S1b (O48). The statement says that every cluster's clock is gated after the entry. S1b takes the companion link down, its
busy units end with 0x0C, and the event item of such an end wakes a cluster.
-/
namespace Sys2Proof.Machine

/-- A rested device whose companion link is UP with an operation outstanding that asked for an event item. -/
def restedWithOperation : State :=
  { sh := { running := true, cur := { dmap := (List.range 64).map (fun i => (i, 0x0000FFFF)) } }
    host := { fwReady := true }
    dram := { started := true }
    cop := { units := [(14, { busy := true, op := some { op := 0, notify := some { domain := 0, ctx := 0, cls := 0, data0 := 0 } } })]
             link := { state := .up } }
    pow := { level := 0, stage := .running, policy := { tolerance := [9000, 9000, 9000, 9000, 9000, 9000, 9000], idleSheets := 0 } } }

/-- Is every cluster gated after an outcome? -/
def allGated : Res → Bool
  | .next t => t.pow.gated == 0xFF
  | _ => true

theorem restedWithOperation_wakes : allGated (exec .powerStateEntry restedWithOperation) = false := by decide +kernel

/-- Refutes O48: the event item of an operation that the link's fall ends wakes a cluster as the device enters S1b. -/
theorem not_powerHappenings : ¬ Obligations.PowerHappenings := by
  unfold Obligations.PowerHappenings
  rintro ⟨h, -⟩
  obtain ⟨deep, -⟩ := h restedWithOperation (by decide) rfl rfl (.inl rfl)
  obtain ⟨t, runs, -, gated, -⟩ := deep (by decide +kernel) (by decide +kernel)
  have awake := restedWithOperation_wakes
  rw [runs] at awake
  exact Bool.false_ne_true (awake.symm.trans (beq_iff_eq.mpr gated))

end Sys2Proof.Machine
end

section
/-!
PROOFS. Images boot, or their failure is recorded (O47).
-/
namespace Sys2Proof.Machine

/-- The state in which started firmware finds the device. -/
def firmwareUp (img : List Byte) (s : State) : State :=
  { s with
    pow := { s.pow with
      stage := .running, level := 0, exiting := false, keyIndex := imgLe img 6 2, security := imgLe img 28 4, tripLow := false, image := [] }
    host := { s.host with fwReady := true, fwVersion := BitVec.ofNat 32 (0x02030000 + imgLe img 26 2) } }

theorem startFirmware_quiet {img : List Byte} {s : State} (high : s.pow.pfailLow = false) : startFirmware img s = firmwareUp img s :=
  if_neg (show ¬s.pow.pfailLow = true by rw [high]; exact Bool.false_ne_true)

theorem execBootImageLoaded_attempt {s : State} {flash img : List Byte} (level : 3 ≤ s.pow.level) (sound : s.pow.tripped = false)
    (loading : s.pow.stage = .loading) (image : attemptImage s flash = some img) :
    exec (.bootImageLoaded flash) s = .next (afterSeal (bootImage img s)) := by
  refine congrArg Host.Outcome.next ((if_neg ?_).trans ?_)
  · rw [sound, loading, decide_eq_false (show ¬ s.pow.level < 3 by omega)]
    exact Bool.false_ne_true
  · rw [image]

/-- An image without a fault starts the firmware. -/
theorem bootImage_starts {s : State} {img : List Byte} (good : imageFault s img = 0) : bootImage img s = startFirmware img s := by
  unfold bootImage
  rw [good]
  rfl

/-- An image with a fault gives way to the second flash slot, or leaves the device to the host. -/
theorem bootImage_fails {s : State} {img : List Byte} (bad : imageFault s img ≠ 0) : bootImage img s =
    if s.pow.source = 3 && s.pow.slot == 0 then
      setFlag 0x69C 5 (updPow (fun p => { p with result := imageFault s img, slot := 1, stage := .loading }) s)
    else bootFail (imageFault s img) s := by
  unfold bootImage
  split
  · next h => exact absurd h bad
  · rfl

theorem bootImage_after {s : State} {img : List Byte} (high : s.pow.pfailLow = false) (after : s.pow.after = .none) :
    (bootImage img s).pow.after = .none := by
  by_cases good : imageFault s img = 0
  · rw [bootImage_starts good, startFirmware_quiet high]
    exact after
  · rw [bootImage_fails good]
    split <;> exact after

/-- Settles O47. -/
theorem imagesBoot : Obligations.ImagesBoot := by
  unfold Obligations.ImagesBoot
  refine ⟨fun s flash img f level sound loading image hf high after idle => ?_, fun s level sound loading => ?_, fun s v up waiting go source => ?_⟩
  · refine ⟨bootImage img s, (execBootImageLoaded_attempt level sound loading image).trans
      (congrArg Host.Outcome.next (afterSeal_none (bootImage_after high after))), ?_⟩
    by_cases good : f = 0
    · rw [bootImage_starts (hf.symm.trans good), startFirmware_quiet high]
      simp only [good, if_true, decide_true, ne_eq, not_true_eq_false, false_and, if_false]
      exact ⟨rfl, rfl, rfl, rfl, rfl, rfl⟩
    · rw [bootImage_fails (hf ▸ good), ← hf]
      by_cases second : s.pow.source = 3 ∧ s.pow.slot = 0
      · have cond : (decide (s.pow.source = 3) && s.pow.slot == 0) = true := by rw [second.1, second.2]; rfl
        rw [cond, if_pos rfl]
        simp only [good, second, if_false, decide_false, ne_eq, not_false_eq_true, and_self, if_true]
        exact ⟨idle, rfl, rfl, rfl, rfl, rfl⟩
      · have cond : (decide (s.pow.source = 3) && s.pow.slot == 0) = false := by
          rw [Bool.and_eq_false_iff, decide_eq_false_iff_not, beq_eq_false_iff_ne]
          exact Classical.not_and_iff_not_or_not.mp second
        rw [cond, if_neg Bool.false_ne_true]
        simp only [good, second, if_false, decide_false, and_false]
        exact ⟨idle, rfl, rfl, rfl, rfl, rfl⟩
  · refine congrArg Host.Outcome.next ((if_neg ?_).trans ?_)
    · rw [sound, loading, decide_eq_false (show ¬ s.pow.level < 3 by omega)]
      exact Bool.false_ne_true
    · by_cases one : s.pow.source = 1
      · rw [one]
        rfl
      · by_cases two : s.pow.source = 2
        · rw [two]
          rfl
        · rw [if_neg one, if_neg two]
          have n1 : s.pow.source.toNat ≠ 1 := fun e => one (BitVec.eq_of_toNat_eq e)
          have n2 : s.pow.source.toNat ≠ 2 := fun e => two (BitVec.eq_of_toNat_eq e)
          split
          · next h => exact absurd h n1
          · next h => exact absurd h n2
          · rfl
  · have runs : exec (.bootCtrlGo v) s = .next (bootAttempt (v.toNat % 4) s) := by
      refine congrArg Host.Outcome.next ((if_pos up).trans (if_neg ?_))
      rw [waiting, go, decide_eq_false source]
      exact Bool.false_ne_true
    have low : BitVec.ofNat 2 (v.toNat % 4) = v.setWidth 2 := by
      apply BitVec.eq_of_toNat_eq
      rw [BitVec.toNat_ofNat, BitVec.toNat_setWidth]
      omega
    refine ⟨_, runs, ?_⟩
    unfold bootAttempt
    dsimp only
    rw [low]
    split
    · exact ⟨rfl, rfl, rfl, rfl, rfl, fun _ => rfl⟩
    · next other => exact ⟨rfl, rfl, rfl, rfl, rfl, fun two => absurd two other⟩

end Sys2Proof.Machine
end

section
/-!
PROOFS. Resets assert, clear what their level clears, and exit (O46).
-/
namespace Sys2Proof.Machine

/-! ## What a reset keeps -/

/-- What self-refresh leaves alone of what an L3 reset keeps. -/
structure Rests (s t : State) : Prop where
  mem : t.dram.mem = s.dram.mem
  poison : t.dram.poison = s.dram.poison
  fuses : t.sec.fuses = s.sec.fuses
  keys : t.sec.keys = s.sec.keys
  pow : t.pow = s.pow

theorem Rests.refl (s : State) : Rests s s := ⟨rfl, rfl, rfl, rfl, rfl⟩

theorem Rests.trans {s t u : State} (h : Rests s t) (k : Rests t u) : Rests s u :=
  ⟨k.mem.trans h.mem, k.poison.trans h.poison, k.fuses.trans h.fuses, k.keys.trans h.keys, k.pow.trans h.pow⟩

theorem Accesses.rests {s u : State} (h : Accesses s u) : Rests s u := by
  rw [h.frame]
  exact ⟨rfl, rfl, rfl, rfl, rfl⟩

theorem Reports.rests {s t : State} (h : Reports s t) : Rests s t :=
  ⟨by rw [h.dram], by rw [h.dram], by rw [h.sec], by rw [h.sec], h.pow⟩

theorem setChanState_rests (c : Nat) (x : DramChannel) (s : State) : Rests s (setChanState c x s) := ⟨rfl, rfl, rfl, rfl, rfl⟩

theorem noteRest_rests (s : State) : Rests s (noteRest s) := ⟨rfl, rfl, rfl, rfl, rfl⟩

theorem enterSelfRefresh_rests (c : Nat) (s : State) : Rests s (enterSelfRefresh c s) := by
  unfold enterSelfRefresh
  have emptied := (emptyQueues_accesses c s).rests
  generalize emptyQueues c s = u at *
  split
  · exact ((emptied.trans (setChanState_rests _ _ _)).trans (noteRest_rests _)).trans (raise_reports 409 [] _).rests
  · exact .refl s

theorem foldl_rests {α : Type} {f : State → α → State} (step : ∀ s x, Rests s (f s x)) (l : List α) (s : State) :
    Rests s (l.foldl f s) := by
  induction l generalizing s with
  | nil => exact .refl s
  | cons x l ih => exact (step s x).trans (ih (f s x))

/-- An L3 reset of a state puts all its channels to rest first. -/
theorem rest_rests (s : State) : Rests s ((List.range 8).foldl (fun a c => enterSelfRefresh c a) s) :=
  foldl_rests (fun a c => enterSelfRefresh_rests c a) _ s

theorem l3Clear_dram (s : State) : (l3Clear s).dram.mem = s.dram.mem ∧ (l3Clear s).dram.poison = s.dram.poison :=
  ⟨(rest_rests s).mem, (rest_rests s).poison⟩

theorem l3Clear_fuses (s : State) : (l3Clear s).sec.fuses = s.sec.fuses := (rest_rests s).fuses

/-- What an L3 reset keeps of the power state. -/
def Power.kept (p : Power) : Power :=
  { level := p.level, held := p.held, since := p.since, cause := p.cause, bootSrc := p.bootSrc, clkMode := p.clkMode, gpio := p.gpio
    pfailLow := p.pfailLow, fatalLow := p.fatalLow, tripLow := p.tripLow, perstHigh := p.perstHigh, refclk := p.refclk
    hot := p.hot || p.tripped, dump := p.dump, ddrHigh := 0xFF }

theorem l3Clear_pow (s : State) : (l3Clear s).pow = s.pow.kept := congrArg Power.kept (rest_rests s).pow

/-- The state an L3 or L4 reset clears. -/
def asserted (level src : Nat) (s : State) : State :=
  updPow (fun p => { p with level := level, since := if p.exiting then p.since ||| p.cause else p.since })
    (updPow (fun p => { p with since := p.since ||| BitVec.ofNat 7 (2 ^ src) }) s)

theorem assertReset_three {s : State} (src : Nat) (low : s.pow.level < 4) :
    assertReset 3 src s = updPow (fun p => { p with absorbed := p.held.getLsbD 6 }) (l3Clear (asserted 3 src s)) :=
  (if_neg (show ¬3 < s.pow.level by omega)).trans (if_neg (by decide))

theorem assertReset_four {s : State} (src : Nat) (low : s.pow.level ≤ 4) :
    assertReset 4 src s = updPow (fun p => { p with absorbed := p.held.getLsbD 6 }) (l4Clear (asserted 4 src s)) :=
  (if_neg (show ¬4 < s.pow.level by omega)).trans (if_neg (by decide))

/-! ## The exit -/

/-- What the start of the boot ROM leaves alone. -/
structure Starts (s t : State) : Prop where
  level : t.pow.level = s.pow.level
  held : t.pow.held = s.pow.held
  cause : t.pow.cause = s.pow.cause
  bootSrc : t.pow.bootSrc = s.pow.bootSrc
  clkMode : t.pow.clkMode = s.pow.clkMode
  host : t.host = s.host
  dram : t.dram = s.dram

theorem bootStart_starts (s : State) : Starts s (bootStart s) := by
  unfold bootStart
  split
  · exact ⟨rfl, rfl, rfl, rfl, rfl, rfl, rfl⟩
  · dsimp only
    split
    · exact ⟨rfl, rfl, rfl, rfl, rfl, rfl, rfl⟩
    · split <;> exact ⟨rfl, rfl, rfl, rfl, rfl, rfl, rfl⟩

theorem bootStart_stage {s : State} (cool : s.pow.hot = false) :
    (bootStart s).pow.stage = (if s.pow.bootSrc = 3 ∨ s.pow.bootSrc = 2 then .loading else .waiting) ∧
    (s.pow.bootSrc = 3 ∨ s.pow.bootSrc = 2 → (bootStart s).pow.source = s.pow.bootSrc) := by
  have e : bootStart s = if s.pow.bootSrc = 3 then bootAttempt 3 (updPow (fun p => { p with spiDriven := true }) s)
      else if s.pow.bootSrc = 2 then bootAttempt 2 (updPow (fun p => { p with spiDriven := true }) s)
      else updPow (fun p => { p with stage := .waiting }) (updPow (fun p => { p with spiDriven := true }) s) :=
    if_neg (by rw [cool]; exact Bool.false_ne_true)
  rw [e]
  by_cases three : s.pow.bootSrc = 3
  · rw [if_pos three, if_pos (.inl three), three]
    exact ⟨rfl, fun _ => rfl⟩
  · by_cases two : s.pow.bootSrc = 2
    · rw [if_neg three, if_pos two, if_pos (.inr two), two]
      exact ⟨rfl, fun _ => rfl⟩
    · rw [if_neg three, if_neg two, if_neg (not_or.mpr ⟨three, two⟩)]
      exact ⟨rfl, fun h => absurd h (not_or.mpr ⟨three, two⟩)⟩

/-- The state whose boot ROM starts when the exit begins. -/
def exitBegun (s : State) : State := loadCause s.pow.level (updPow (fun p => { p with exiting := true }) s)

theorem beginExit_begun {s : State} (level : 3 ≤ s.pow.level) (still : s.pow.exiting = false) (free : s.pow.held &&& 3 = 0)
    (clock : s.pow.clkMode ≠ 0) : beginExit s = bootStart (exitBegun s) := by
  refine if_neg ?_
  have c : (s.pow.clkMode == 0) = false := beq_eq_false_iff_ne.mpr clock
  have f : (s.pow.held &&& 3 != 0) = false := by rw [free]; rfl
  rw [still, f, c, decide_eq_false (show ¬ s.pow.level < 3 by omega)]
  exact Bool.false_ne_true

/-! ## The exit of L2 -/

theorem l2VoidItems_host (s : State) : (l2VoidItems s).host = s.host := by
  unfold l2VoidItems
  dsimp only
  split <;> rfl

theorem l2VoidItems_pow (s : State) : (l2VoidItems s).pow = s.pow := by
  unfold l2VoidItems
  dsimp only
  split <;> rfl

/-- The device at the end of an L2 reset. -/
def l2Left (s : State) : State := updPow (fun p => { p with level := 0, datapath := none }) (l2VoidItems (loadCause 2 s))

theorem l2Left_host (s : State) : (l2Left s).host = { s.host with lastReset := 2 } := l2VoidItems_host _

theorem l2Left_pow (s : State) : (l2Left s).pow = { (loadCause 2 s).pow with level := 0, datapath := none } :=
  congrArg (fun p : Power => { p with level := 0, datapath := none }) (l2VoidItems_pow _)

theorem l2Left_items (s : State) : (l2Left s).disp.items = [] := rfl

/-- A power failure that waited for the end of the reset begins its sequence. -/
def deferredS2 (s : State) : State :=
  if s.pow.pfailDeferred then beginS2 0 (updPow (fun p => { p with pfailDeferred := false }) s) else s

theorem deferredS2_calm {s : State} (calm : s.pow.pfailDeferred = false) : deferredS2 s = s :=
  if_neg (Bool.eq_false_iff.mp calm)

theorem execL2Exit_left {s : State} (level : s.pow.level = 2) : exec .l2Exit s = .next (sweepBad (deferredS2 (raise 449 []
    (match s.pow.datapath with | some m => finishCmd m 0 0 [] (l2Left s) | none => l2Left s)))) :=
  congrArg Host.Outcome.next (if_neg (Classical.not_not.mpr level))

/-! ## The host-interface reset -/

/-- What ends of commands without a completion change: statuses, and counts of the host. -/
def Closes (s t : State) : Prop :=
  t = { s with cntAcc := t.cntAcc, host := { s.host with
    busy := t.host.busy, done := t.host.done, status := t.host.status, tag := t.host.tag, held := t.host.held, merged := t.host.merged } }

theorem Closes.trans {s t u : State} (h : Closes s t) (k : Closes t u) : Closes s u := by
  unfold Closes at h k ⊢
  rw [k, h]

theorem foldl_closes {α : Type} {f : State → α → State} (step : ∀ s x, Closes s (f s x)) (l : List α) (s : State) :
    Closes s (l.foldl f s) := by
  induction l generalizing s with
  | nil => rfl
  | cons x l ih => exact (step s x).trans (ih (f s x))

theorem flushHeld_closes (s : State) : Closes s (flushHeld s) :=
  .trans (t := updHost (fun h => { h with held := [] }) s) rfl 
    (foldl_closes (f := fun a (c : Completion) => writeStatus c.mbx c.status a) (fun _ _ => rfl) _ _)

theorem flushMerged_closes (s : State) : Closes s (flushMerged s) := rfl

/-- The mailbox shows a command that a reset has ended. -/
def Aborted (m : BitVec 4) (s : State) : Prop := tabGet 0 s.host.status m.toNat = 0x0B ∧ s.host.busy.getLsbD m.toNat = false

theorem abortCmd_self (m : BitVec 4) (s : State) : Aborted m (abortCmd m.toNat s) := by
  obtain ⟨busy, -, status, -⟩ := writeStatus_self m.isLt 0x0B (count .host 0 1 1 (count .host 0 0 1 s))
  exact ⟨status, busy⟩

theorem Aborted.abort {m : BitVec 4} {s : State} (h : Aborted m s) (n : Nat) : Aborted m (abortCmd n s) := by
  by_cases e : m.toNat = n
  · exact e ▸ abortCmd_self m s
  · refine ⟨(tabGet_set_of_ne _ _ _ e).trans h.1, ?_⟩
    show (s.host.busy &&& ~~~ BitVec.ofNat 16 (2 ^ n)).getLsbD m.toNat = false
    rw [BitVec.getLsbD_and, h.2, Bool.false_and]

theorem Aborted.aborts {m : BitVec 4} (l : List Nat) {s : State} (h : Aborted m s) : Aborted m (l.foldl (fun a n => abortCmd n a) s) := by
  induction l generalizing s with
  | nil => exact h
  | cons n l ih => exact ih (h.abort n)

theorem aborts_mem {m : BitVec 4} {l : List Nat} (mem : m.toNat ∈ l) (s : State) : Aborted m (l.foldl (fun a n => abortCmd n a) s) := by
  induction l generalizing s with
  | nil => exact absurd mem List.not_mem_nil
  | cons n l ih =>
    rcases List.mem_cons.mp mem with e | e
    · subst e
      exact (abortCmd_self m s).aborts l
    · exact ih e _

/-- Where the host-interface reset has ended what waits at port H. -/
def hostifEnded (s : State) : State := s.host.accepted.foldl (fun a m => abortCmd m a) (flushMerged (flushHeld s))

theorem hostifEnded_closes (s : State) : Closes s (hostifEnded s) :=
  ((flushHeld_closes s).trans (flushMerged_closes _)).trans (foldl_closes (fun a m => (rfl : Closes a (abortCmd m a))) _ _)

/-- What the host-interface reset clears after it has ended what waits. -/
def hostifCleared (s : State) : State :=
  updHost (fun h => { h with
    accepted := [], muted := runningMbx s, cq := {}, eq := {}, uncovered := 0
    exr := h.exr.map (fun r => (r.1, { exrOff r.2 with head := 0, tail := 0 }))
    inj := h.inj.map (fun r => (r.1, { injOff r.2 with head := 0, tail := 0 }))
    msixTable := [], msixPba := 0, msixEnable := false, msixFmask := false, busMaster := false, d3hot := false
    ecrcGen := false, ecrcCheck := false, aerEcrc := false, bar0 := 0, readRequest := 2 }) s

theorem hostifClear_cleared (s : State) : hostifClear s = hostifCleared (hostifEnded s) := by
  unfold hostifClear
  dsimp only
  have same : (flushMerged (flushHeld s)).host.accepted = s.host.accepted := by
    have h := (flushHeld_closes s).trans (flushMerged_closes _)
    unfold Closes at h
    rw [h]
  rw [same]
  rfl

/-- The device when a host-interface reset begins. -/
def hostifBegun (s : State) : State :=
  holdSource srcHostif (updPow (fun p => { p with since := p.since ||| 0x40, absorbed := decide (3 ≤ p.level) }) s)

/-- Settles O46. -/
theorem resetsAssertAndExit : Obligations.ResetsAssertAndExit := by
  unfold Obligations.ResetsAssertAndExit
  refine ⟨fun s free level => ?_, fun s free level => ?_, fun s b c held other level still clock cool => ?_,
    fun s held other level still clock cool => ?_, fun s level calm => ⟨fun none => ?_, fun m waits room idle => ?_⟩,
    fun s free => ⟨fun level after => ?_, fun level => ?_⟩, fun s held => ?_, fun s up sound level free clock => ?_⟩
  · refine ⟨_, congrArg Host.Outcome.next (if_neg ?_), ?_⟩
    · exact (Bool.eq_false_iff.mp free)
    · rw [assertReset_four srcPorst level]
      exact ⟨rfl, rfl, rfl, rfl, rfl, rfl, rfl, rfl, rfl, rfl, rfl, rfl, rfl, rfl⟩
  · refine ⟨_, congrArg Host.Outcome.next (if_neg ?_), ?_⟩
    · exact (Bool.eq_false_iff.mp free)
    · rw [assertReset_three srcRst level]
      have pow := l3Clear_pow (asserted 3 srcRst s)
      obtain ⟨mem, poison⟩ := l3Clear_dram (asserted 3 srcRst s)
      refine ⟨?_, ?_, l3Clear_fuses (asserted 3 srcRst s), l3Clear_secKeys (asserted 3 srcRst s), mem, poison, rfl, rfl, rfl, rfl, rfl, rfl, rfl, rfl, ?_⟩
      · show (l3Clear (asserted 3 srcRst s)).pow.level = 3
        rw [pow]
        rfl
      · show (l3Clear (asserted 3 srcRst s)).pow.held ||| 2 = _
        rw [pow]
        rfl
      · show (l3Clear (asserted 3 srcRst s)).pow.gpio = _
        rw [pow]
        rfl
  · obtain ⟨u, hu⟩ : ∃ u, u = dropSource srcPorst (updPow (fun p => { p with bootSrc := b, clkMode := c }) s) := ⟨_, rfl⟩
    have pow : u.pow = { s.pow with bootSrc := b, clkMode := c, held := s.pow.held &&& ~~~ 1 } := by rw [hu]; rfl
    have rest : u.pow.held &&& 3 = 0 := by
      rw [pow]
      show s.pow.held &&& ~~~ 1 &&& 3 = 0
      rw [BitVec.and_assoc]
      exact other
    have runs : exec (.porstNRelease b c) s = .next (bootStart (exitBegun u)) := by
      refine congrArg Host.Outcome.next ((if_neg ?_).trans ?_)
      · show ¬(!s.pow.held.getLsbD 0) = true
        rw [held]
        exact Bool.false_ne_true
      · rw [← hu]
        exact beginExit_begun (by rw [pow]; exact level) (by rw [pow]; exact still) rest (by rw [pow]; exact clock)
    obtain ⟨-, k, cause, boot, clk, host, -⟩ := bootStart_starts (exitBegun u)
    have src : (exitBegun u).pow.bootSrc = b := by rw [show (exitBegun u).pow.bootSrc = u.pow.bootSrc from rfl, pow]
    obtain ⟨stage, source⟩ := bootStart_stage (s := exitBegun u) (by rw [show (exitBegun u).pow.hot = u.pow.hot from rfl, pow]; exact cool)
    rw [src] at boot stage source
    refine ⟨_, runs, boot, ?_, ?_, ?_, ?_, stage, source⟩
    · rw [clk, show (exitBegun u).pow.clkMode = u.pow.clkMode from rfl, pow]
    · rw [k, show (exitBegun u).pow.held = u.pow.held from rfl, pow]
    · rw [cause, show (exitBegun u).pow.cause = u.pow.since from rfl, pow]
    · rw [host, show (exitBegun u).host.lastReset = BitVec.ofNat 3 u.pow.level from rfl, pow]
  · obtain ⟨u, hu⟩ : ∃ u, u = dropSource srcRst s := ⟨_, rfl⟩
    have pow : u.pow = { s.pow with held := s.pow.held &&& ~~~ 2 } := by rw [hu]; rfl
    have rest : u.pow.held &&& 3 = 0 := by
      rw [pow]
      show s.pow.held &&& ~~~ 2 &&& 3 = 0
      rw [BitVec.and_assoc]
      exact other
    have runs : exec .rstNRelease s = .next (bootStart (exitBegun u)) := by
      refine congrArg Host.Outcome.next ((if_neg ?_).trans ?_)
      · show ¬(!s.pow.held.getLsbD 1) = true
        rw [held]
        exact Bool.false_ne_true
      · rw [← hu]
        exact beginExit_begun (by rw [pow]; exact level) (by rw [pow]; exact still) rest (by rw [pow]; exact clock)
    obtain ⟨-, k, cause, -, -, host, -⟩ := bootStart_starts (exitBegun u)
    have src : (exitBegun u).pow.bootSrc = s.pow.bootSrc := by rw [show (exitBegun u).pow.bootSrc = u.pow.bootSrc from rfl, pow]
    obtain ⟨stage, -⟩ := bootStart_stage (s := exitBegun u) (by rw [show (exitBegun u).pow.hot = u.pow.hot from rfl, pow]; exact cool)
    rw [src] at stage
    refine ⟨_, runs, ?_, ?_, ?_, stage⟩
    · rw [k, show (exitBegun u).pow.held = u.pow.held from rfl, pow]
    · rw [cause, show (exitBegun u).pow.cause = u.pow.since from rfl, pow]
    · rw [host, show (exitBegun u).host.lastReset = BitVec.ofNat 3 u.pow.level from rfl, pow]
  · have runs : exec .l2Exit s = .next (sweepBad (raise 449 [] (l2Left s))) := by
      rw [execL2Exit_left level, none]
      dsimp only
      rw [deferredS2_calm]
      rw [(raise_reports 449 [] _).pow, l2Left_pow]
      exact calm
    exact ⟨_, runs, (raise_reports 449 [] _).trans (sweepBad_reports _)⟩
  · obtain ⟨u, hu⟩ : ∃ u, u = finishCmd m.toNat 0 0 [] (l2Left s) := ⟨_, rfl⟩
    have ended : Reports (l2Left s) u := hu ▸ finishCmd_reports _ _ _ _ _
    have runs : exec .l2Exit s = .next (sweepBad (raise 449 [] u)) := by
      rw [execL2Exit_left level, waits]
      dsimp only
      rw [← hu, deferredS2_calm]
      rw [(raise_reports 449 [] u).pow, ended.pow, l2Left_pow]
      exact calm
    have roomLeft : completionRoom (l2Left s) = true := by
      unfold completionRoom ringFull
      rw [l2Left_host]
      exact room
    obtain ⟨busy, done, status, tag, -, accepted⟩ := finishCmd_self m.isLt [] (l2Left s) roomLeft
    rw [← hu] at busy done status tag accepted
    have said := raise_apart 449 [] u
    have gone : m.toNat ∉ (raise 449 [] u).host.accepted := by
      rw [said.accepted, accepted, l2Left_host]
      exact idle
    have o := ((said.toMbxEq).same m.toNat).trans (sweepN_other m.isLt 16 _ gone)
    have all := (ended.trans (raise_reports 449 [] u)).trans (sweepBad_reports _)
    refine ⟨_, runs, ⟨o.busy.trans busy, o.done.trans done, o.status.trans status, (o.tag.trans tag).trans ?_⟩, ?_, ?_, ?_, ?_, ?_⟩
    · rw [mbxField_eq (s := s) (t := l2Left s) (by rw [l2Left_host])]
    · rw [all.pow, l2Left_pow]
    · rw [all.pow, l2Left_pow]
      rfl
    · rw [all.host.lastReset, l2Left_host]
    · rw [all.disp]
      rfl
    · rw [all.pow, l2Left_pow]
  · obtain ⟨u, hu⟩ : ∃ u, u = hostifEnded (hostifBegun s) := ⟨_, rfl⟩
    have frame : Closes (hostifBegun s) u := hu ▸ hostifEnded_closes _
    have runs : exec .hostifReset s = .next (hostifCleared u) := by
      refine congrArg Host.Outcome.next ((if_neg (Bool.eq_false_iff.mp free)).trans ?_)
      refine (if_neg ?_).trans ?_
      · show ¬decide (3 ≤ s.pow.level) = true
        rw [decide_eq_false (by omega)]
        exact Bool.false_ne_true
      · show afterSeal (hostifClear (hostifBegun s)) = _
        rw [hostifClear_cleared, ← hu]
        refine afterSeal_none ?_
        show u.pow.after = .none
        rw [frame]
        exact after
    refine ⟨_, runs, ?_, ?_, rfl, ?_, rfl, rfl, rfl, rfl, fun m mem => ?_, ?_, ?_⟩
    · show u.pow.held = _
      rw [frame]
      rfl
    · show u.pow.since = _
      rw [frame]
      rfl
    · show runningMbx u = _
      rw [frame]
      rfl
    · have h : Aborted m u := hu ▸ aborts_mem mem _
      exact h
    · show u.cores = _
      rw [frame]
      rfl
    · show u.cab.handles = _
      rw [frame]
      rfl
  · refine ⟨_, congrArg Host.Outcome.next ((if_neg (Bool.eq_false_iff.mp free)).trans (if_pos ?_)), rfl, ?_, rfl⟩
    · exact decide_eq_true level
    · exact decide_eq_true level
  · by_cases absorbed : s.pow.absorbed = true
    · refine ⟨_, congrArg Host.Outcome.next ((if_neg ?_).trans (if_pos absorbed)), rfl, fun h => ?_, fun _ => ⟨rfl, rfl, rfl⟩⟩
      · show ¬(!s.pow.held.getLsbD 6) = true
        rw [held]
        exact Bool.false_ne_true
      · exact absurd (h.symm.trans absorbed) Bool.false_ne_true
    · refine ⟨_, congrArg Host.Outcome.next ((if_neg ?_).trans (if_neg absorbed)), ?_, fun h => ⟨?_, ?_, fun up => ?_⟩, fun h => absurd h absorbed⟩
      · show ¬(!s.pow.held.getLsbD 6) = true
        rw [held]
        exact Bool.false_ne_true
      · dsimp only
        split <;> rfl
      · dsimp only
        split <;> rfl
      · dsimp only
        split <;> rfl
      · rw [if_pos (show (loadCause 5 (dropSource srcHostif s)).pow.level = 0 from up)]
        show (if s.pow.absorbed then 0 else s.pow.held &&& ~~~ 0x40#7 &&& 0x40) = (0 : BitVec 7)
        rw [if_neg absorbed, BitVec.and_assoc]
        exact BitVec.and_zero
  · obtain ⟨u, hu⟩ : ∃ u, u = assertReset 3 srcWatchdog s := ⟨_, rfl⟩
    have cleared : u = _ := hu.trans (assertReset_three srcWatchdog level)
    have kept := l3Clear_pow (asserted 3 srcWatchdog s)
    have pow : u.pow = { (asserted 3 srcWatchdog s).pow.kept with absorbed := (asserted 3 srcWatchdog s).pow.kept.held.getLsbD 6 } := by
      rw [cleared, ← kept]
      rfl
    have mem : u.dram.mem = s.dram.mem := by
      rw [cleared]
      exact (l3Clear_dram (asserted 3 srcWatchdog s)).1
    have down : u.host.fwReady = false := by
      rw [cleared]
      rfl
    have runs : exec .mpWatchdogExpiry s = .next (bootStart (exitBegun u)) := by
      refine congrArg Host.Outcome.next ((if_pos ?_).trans ?_)
      · rw [up, sound]
        rfl
      · show beginExit (assertReset 3 srcWatchdog s) = _
        rw [← hu]
        exact beginExit_begun (by rw [pow]; exact Nat.le_refl 3) (by rw [pow]; rfl) (by rw [pow]; exact free) (by rw [pow]; exact clock)
    obtain ⟨lvl, -, cause, -, -, host, dram⟩ := bootStart_starts (exitBegun u)
    refine ⟨_, runs, ?_, ?_, ?_, ?_⟩
    · rw [lvl, show (exitBegun u).pow.level = u.pow.level from rfl, pow]
      rfl
    · rw [cause, show (exitBegun u).pow.cause = u.pow.since from rfl, pow]
      show (if s.pow.exiting then s.pow.since ||| 8#7 ||| s.pow.cause else s.pow.since ||| 8#7).getLsbD 3 = true
      split <;> simp
    · rw [host]
      exact down
    · rw [dram]
      exact mem

end Sys2Proof.Machine
end

section
/-!
PROOFS. Stripes form, are written and become durable (O37).
-/
namespace Sys2Proof.Machine

/-! ## Writes join the store's queue -/

/-- Of the evidence path only the list of writes may differ, and no write has left it. -/
structure Queues (s t : State) : Prop where
  ev : t.ev = { s.ev with writes := t.ev.writes }
  stays : ∀ w ∈ s.ev.writes, w ∈ t.ev.writes

theorem Queues.of_ev {s t : State} (h : t.ev = s.ev) : Queues s t := ⟨by rw [h], fun w mem => by rw [h]; exact mem⟩

theorem Queues.refl (s : State) : Queues s s := .of_ev rfl

theorem Queues.trans {s t u : State} (h : Queues s t) (k : Queues t u) : Queues s u :=
  ⟨by rw [k.ev, h.ev], fun w mem => k.stays w (h.stays w mem)⟩

theorem Queues.foldl {α : Type} {f : State → α → State} (step : ∀ s x, Queues s (f s x)) (l : List α) (s : State) :
    Queues s (l.foldl f s) := by
  induction l generalizing s with
  | nil => exact .refl s
  | cons x l ih => exact (step s x).trans (ih (f s x))

/-- A write of which `p` holds is in the store's queue. -/
def Queued (p : StoreWrite → Prop) (s : State) : Prop := ∃ w ∈ s.ev.writes, p w

theorem Queued.stays {p : StoreWrite → Prop} {s t : State} (h : Queued p s) (k : Queues s t) : Queued p t := by
  obtain ⟨w, mem, hw⟩ := h
  exact ⟨w, k.stays w mem, hw⟩

/-- What one element of a list puts in the queue stands in it after the whole list. -/
theorem queued_foldl {α : Type} {f : State → α → State} {p : StoreWrite → Prop} {x : α} (step : ∀ s x, Queues s (f s x)) {l : List α}
    (mem : x ∈ l) (s : State) (puts : ∀ a, Queues s a → Queued p (f a x)) : Queued p (l.foldl f s) := by
  induction l generalizing s with
  | nil => exact absurd mem List.not_mem_nil
  | cons y l ih =>
    rcases List.mem_cons.mp mem with e | e
    · subst e
      exact (puts s (.refl s)).stays (.foldl step l _)
    · exact ih e (f s y) fun a k => puts a ((step s y).trans k)

theorem issueWrite_queues (mem block tag : Nat) (item : StoreItem) (data : List Byte) (s : State) :
    Queues s (issueWrite mem block tag item data s) := by
  unfold issueWrite
  dsimp only
  split
  · exact .refl s
  · exact ⟨rfl, fun w h => List.mem_append_left _ h⟩

theorem countWrite_queues (mem i : Nat) (s : State) : Queues s (countWrite mem i s) := by
  unfold countWrite
  split <;> exact .of_ev rfl

theorem issueWrite_queued {mem : Nat} (block tag : Nat) (item : StoreItem) (data : List Byte) {s : State}
    (member : (memberOf s mem).failed = false) (sound : s.ev.flushBad = false) :
    Queued (fun w => w.item = item ∧ w.member = mem ∧ w.block = block ∧ w.data = data) (issueWrite mem block tag item data s) := by
  unfold issueWrite
  dsimp only
  rw [member, sound, Bool.and_false, Bool.or_false, if_neg Bool.false_ne_true]
  exact ⟨_, List.mem_append_right _ (List.mem_singleton.mpr rfl), rfl, rfl, rfl, rfl⟩

/-! ## A stripe -/

theorem noteLaneRead_accesses (port : Nat) (x : Lane) (p n : Nat) (s : State) : Accesses s (noteLaneRead port x p n s) := by
  unfold noteLaneRead
  exact (noteAccess_accesses _ _ _ _ _).trans (noteAccess_accesses _ _ _ _ _)

theorem Accesses.queues {s t : State} (h : Accesses s t) : Queues s t := .of_ev (by rw [h.frame])

/-- The lane's bytes read for the Stripe unit, and again for the store. -/
def stripeRead (l : Lane) (valid : Nat) (s : State) : State :=
  noteLaneRead 5 l l.stripeEnd valid (noteLaneRead 4 l l.stripeEnd valid s)

/-- The shards of a stripe: data shards as the store reads them, parity shards as the Stripe unit made them. -/
def stripeShards (x : StoreSet) (l : Lane) (valid : Nat) (s : State) : List (List Byte) :=
  dataShards (stripeRead l valid s) x l valid ++
    (List.range x.m).map (fun j => parityShard j (dataShards (noteLaneRead 4 l l.stripeEnd valid s) x l valid))

/-- Reports of the shards that touch a poisoned line. -/
def stripePoison (n : Nat) (l : Lane) (bad : List Nat) (s : State) : State :=
  bad.foldl (fun a j => raise 495 [(n, 8), ((l.stripeEnd + 4096 * j) % 2 ^ 32, 32)] (bumpTotal 0x648 1 (setFlag 0x600 8 a))) s

/-- One shard's write. -/
def putShard (x : StoreSet) (g : Nat) (s : State) (p : List Byte × Nat) : State :=
  issueWrite (shardSlot x g p.2 % x.n) (shardLba x + shardSlot x g p.2 / x.n) g (.shard g p.2) p.1
    (countWrite (shardSlot x g p.2 % x.n) 3 s)

/-- One copy of the header's write. -/
def putHeader (x : StoreSet) (g : Nat) (hdr : List Byte) (s : State) (i : Nat) : State :=
  issueWrite (shardSlot x g i % x.n) (headerLba x + shardSlot x g i / x.n) g (.header g i) hdr (countWrite (shardSlot x g i % x.n) 4 s)

/-- The counts of a stripe. -/
def stripeCounted (x : StoreSet) (u valid miss : Nat) (s : State) : State :=
  let s := count .evidence 0 0 1 (count .unit (10 + u) 0 1 s)
  let s := if valid < x.k * 4096 then count .evidence 0 1 1 (count .evidence 0 2 (x.k * 4096 - valid) s) else s
  if miss = 0 then s else count .evidence 0 13 1 s

/-- The stripe stands in the store's table and its lane's mark moves past it. -/
def stripeListed (n u valid : Nat) (l : Lane) (g : Nat) (s : State) : State :=
  updEv (fun e => { e with
    nextStripe := g + 1, stTurn := u, stripes := tabPut e.stripes g { lane := n, start := l.stripeEnd, valid := valid } })
    (setLane n { l with stripeEnd := l.stripeEnd + valid, ages := l.ages.filter (fun a => decide (l.stripeEnd + valid < a.1)) } s)

/-- The writes of a stripe with their counts and reports. -/
def stripePut (x : StoreSet) (n u valid : Nat) (l : Lane) (bad : List Nat) (miss : Nat) (hdr : List Byte) (shards : List (List Byte))
    (g : Nat) (s : State) : State :=
  stripeCounted x u valid miss ((List.range (x.m + 1)).foldl (putHeader x g hdr)
    (shards.zipIdx.foldl (putShard x g) (stripePoison n l bad s)))

/-- A stripe is read, put in the queue, and listed. -/
theorem writeStripe_parts (x : StoreSet) (n u valid : Nat) (s : State) : ∃ bad miss hdr used,
    writeStripe x n u valid s = noteHigh 0 used (storeCap x)
      (stripeListed n u valid (laneOf s n) s.ev.nextStripe (stripePut x n u valid (laneOf s n) bad miss hdr
        (stripeShards x (laneOf s n) valid s) s.ev.nextStripe (stripeRead (laneOf s n) valid s))) :=
  ⟨_, _, _, _, rfl⟩

theorem stripeRead_queues (l : Lane) (valid : Nat) (s : State) : Queues s (stripeRead l valid s) :=
  ((noteLaneRead_accesses _ _ _ _ s).trans (noteLaneRead_accesses _ _ _ _ _)).queues

theorem stripePoison_queues (n : Nat) (l : Lane) (bad : List Nat) (s : State) : Queues s (stripePoison n l bad s) :=
  .foldl (fun a _ => .trans (t := bumpTotal 0x648 1 (setFlag 0x600 8 a)) (.of_ev rfl) (.of_ev (raise_reports _ _ _).ev)) _ _

theorem putShard_queues (x : StoreSet) (g : Nat) (s : State) (p : List Byte × Nat) : Queues s (putShard x g s p) :=
  (countWrite_queues _ _ s).trans (issueWrite_queues _ _ _ _ _ _)

theorem putHeader_queues (x : StoreSet) (g : Nat) (hdr : List Byte) (s : State) (i : Nat) : Queues s (putHeader x g hdr s i) :=
  (countWrite_queues _ _ s).trans (issueWrite_queues _ _ _ _ _ _)

theorem stripeCounted_ev (x : StoreSet) (u valid miss : Nat) (s : State) : (stripeCounted x u valid miss s).ev = s.ev := by
  unfold stripeCounted
  dsimp only
  split <;> split <;> rfl

theorem memberOf_queues {s t : State} (h : Queues s t) (i : Nat) : memberOf t i = memberOf s i := by
  unfold memberOf
  rw [h.ev]

/-- What stands in the evidence path once a stripe is written. -/
theorem stripePut_queues (x : StoreSet) (n u valid : Nat) (l : Lane) (bad : List Nat) (miss : Nat) (hdr : List Byte)
    (shards : List (List Byte)) (g : Nat) (s : State) : Queues s (stripePut x n u valid l bad miss hdr shards g s) :=
  (((stripePoison_queues n l bad s).trans (.foldl (putShard_queues x g) _ _)).trans (.foldl (putHeader_queues x g hdr) _ _)).trans
    (.of_ev (stripeCounted_ev _ _ _ _ _))

theorem stripePut_shard {x : StoreSet} {n u valid : Nat} {l : Lane} {bad : List Nat} {miss : Nat} {hdr : List Byte}
    {shards : List (List Byte)} {g : Nat} {s : State} {j : Nat} {d : List Byte} (nth : shards[j]? = some d)
    (member : (memberOf s (shardSlot x g j % x.n)).failed = false) (sound : s.ev.flushBad = false) :
    Queued (fun w => w.item = .shard g j ∧ w.member = shardSlot x g j % x.n ∧ w.block = shardLba x + shardSlot x g j / x.n ∧ w.data = d)
      (stripePut x n u valid l bad miss hdr shards g s) := by
  have listed : (d, j) ∈ shards.zipIdx := List.mem_zipIdx_iff_getElem?.mpr nth
  refine Queued.stays (s := shards.zipIdx.foldl (putShard x g) (stripePoison n l bad s)) ?_
    ((Queues.foldl (putHeader_queues x g hdr) _ _).trans (.of_ev (stripeCounted_ev _ _ _ _ _)))
  refine queued_foldl (putShard_queues x g) listed _ fun a k => ?_
  have same := ((stripePoison_queues n l bad s).trans k).trans (countWrite_queues (shardSlot x g j % x.n) 3 a)
  exact issueWrite_queued _ _ _ _ (by rw [memberOf_queues same]; exact member) (by rw [same.ev]; exact sound)

theorem stripePut_header {x : StoreSet} {n u valid : Nat} {l : Lane} {bad : List Nat} {miss : Nat} {hdr : List Byte}
    {shards : List (List Byte)} {g : Nat} {s : State} {i : Nat} (copy : i ≤ x.m)
    (member : (memberOf s (shardSlot x g i % x.n)).failed = false) (sound : s.ev.flushBad = false) :
    Queued (fun w => w.item = .header g i ∧ w.member = shardSlot x g i % x.n ∧ w.block = headerLba x + shardSlot x g i / x.n ∧ w.data = hdr)
      (stripePut x n u valid l bad miss hdr shards g s) := by
  refine Queued.stays (s := (List.range (x.m + 1)).foldl (putHeader x g hdr) (shards.zipIdx.foldl (putShard x g) (stripePoison n l bad s)))
    ?_ (.of_ev (stripeCounted_ev _ _ _ _ _))
  refine queued_foldl (putHeader_queues x g hdr) (List.mem_range.mpr (Nat.lt_succ_of_le copy)) _ fun a k => ?_
  have same := (((stripePoison_queues n l bad s).trans (.foldl (putShard_queues x g) _ _)).trans k).trans
    (countWrite_queues (shardSlot x g i % x.n) 4 a)
  exact issueWrite_queued _ _ _ _ (by rw [memberOf_queues same]; exact member) (by rw [same.ev]; exact sound)

theorem stripeShards_length (x : StoreSet) (l : Lane) (valid : Nat) (s : State) : (stripeShards x l valid s).length = x.k + x.m := by
  simp [stripeShards, dataShards]

/-- A data shard is its 4,096 bytes of what the store read. -/
theorem stripeShards_data {x : StoreSet} {l : Lane} {valid : Nat} {s : State} {j : Nat} (data : j < x.k) :
    (stripeShards x l valid s)[j]? = some (bytesAt (laneBytes (stripeRead l valid s) l l.stripeEnd valid ++ zeros (x.k * 4096 - valid))
      (4096 * j) 4096) := by
  simp [stripeShards, dataShards, List.getElem?_append, data]

theorem noteHigh_ev (bit used cap : Nat) (s : State) : (noteHigh bit used cap s).ev = { s.ev with high := (noteHigh bit used cap s).ev.high } := by
  unfold noteHigh
  split
  · rw [(raise_reports 325 [] _).ev]
    rfl
  · rfl

/-- What a stripe leaves in the evidence path. -/
theorem writeStripe_ev (x : StoreSet) (n u valid : Nat) (s : State) : ∃ bad miss hdr high, (writeStripe x n u valid s).ev =
    { (stripeListed n u valid (laneOf s n) s.ev.nextStripe
        (stripePut x n u valid (laneOf s n) bad miss hdr (stripeShards x (laneOf s n) valid s) s.ev.nextStripe
          (stripeRead (laneOf s n) valid s))).ev with high := high } := by
  obtain ⟨bad, miss, hdr, used, e⟩ := writeStripe_parts x n u valid s
  rw [e]
  exact ⟨bad, miss, hdr, _, noteHigh_ev _ _ _ _⟩

/-- A stripe that is due is written, or the full store stops. -/
theorem formStripe_due {s : State} {n : Nat} {x : StoreSet} (set : s.ev.set = some x) (active : evActive s = true)
    (opened : pfClosed s = false) (configured : (laneOf s n).configured = true) (bytes : (laneOf s n).writePos - (laneOf s n).stripeEnd ≠ 0)
    (due : x.k * 4096 ≤ (laneOf s n).writePos - (laneOf s n).stripeEnd ∨ laneAged s (laneOf s n) = true) :
    formStripe n false s =
      if decide (storeCap x ≤ s.ev.nextStripe - s.ev.releasedStripe) then noteStop 0 s
      else if decide (x.m < failedCount s x) then s
      else match nextUnit s s.ev.stMask.toNat 10 4 s.ev.stTurn with
        | some u => writeStripe x n u (min ((laneOf s n).writePos - (laneOf s n).stripeEnd) (x.k * 4096)) s
        | none => s := by
  unfold formStripe
  rw [set]
  refine (if_neg ?_).trans (if_pos ?_)
  · rw [active, opened, configured]
    simpa using bytes
  · rw [Bool.or_false, Bool.or_eq_true, decide_eq_true_eq]
    exact due

/-- Settles O37. -/
theorem stripesFormAndBecomeDurable : Obligations.StripesFormAndBecomeDurable := by
  unfold Obligations.StripesFormAndBecomeDurable
  refine ⟨fun s lane x u valid b set active opened sound hb configured hvalid bytes due enough members unit => ?_,
    fun s lane x set active opened configured full data store running => ?_, fun s d w ps last past step => ?_,
    fun s d w ps last past step ahead off => ?_, fun s calm active reached => ?_, fun s on under => ?_⟩
  · have runs : formStripe lane.toNat false s = writeStripe x lane.toNat u valid s := by
      rw [formStripe_due set active opened configured (by omega) (due.imp (fun h => by omega) id),
        if_neg (by rw [decide_eq_true_eq]; exact Nat.not_le.mpr enough), if_neg (by rw [decide_eq_true_eq]; exact Nat.not_lt.mpr members),
        unit, hvalid]
    obtain ⟨l, hl⟩ : ∃ l, l = laneOf s lane.toNat := ⟨_, rfl⟩
    obtain ⟨bad, miss, hdr, high, ev⟩ := writeStripe_ev x lane.toNat u valid s
    obtain ⟨p, hp⟩ : ∃ p, p = stripePut x lane.toNat u valid (laneOf s lane.toNat) bad miss hdr
      (stripeShards x (laneOf s lane.toNat) valid s) s.ev.nextStripe (stripeRead (laneOf s lane.toNat) valid s) := ⟨_, rfl⟩
    rw [← hp] at ev
    have read := stripeRead_queues (laneOf s lane.toNat) valid s
    have queues : Queues (stripeRead (laneOf s lane.toNat) valid s) p := hp ▸ stripePut_queues _ _ _ _ _ _ _ _ _ _ _
    refine ⟨_, congrArg Host.Outcome.next runs, ?_, ?_, ?_, ?_, fun j hj member => ?_, fun i hi member => ?_⟩
    · rw [ev]
      rfl
    · rw [ev]
      rfl
    · unfold laneOf
      rw [ev]
      exact congrArg Lane.stripeEnd (tabGet_set_self _ _ _ _)
    · rw [ev]
      exact tabFind_put_self _ _ _
    · obtain ⟨d, hd⟩ : ∃ d, (stripeShards x (laneOf s lane.toNat) valid s)[j]? = Option.some d :=
        ⟨_, List.getElem?_eq_getElem (by rw [stripeShards_length]; exact hj)⟩
      have q := stripePut_shard (n := lane.toNat) (u := u) (valid := valid) (l := laneOf s lane.toNat) (bad := bad) (miss := miss)
        (hdr := hdr) (g := s.ev.nextStripe) hd ((congrArg StoreMember.failed (memberOf_queues read _)).trans member)
        (by rw [read.ev]; exact sound)
      rw [← hp] at q
      obtain ⟨w, mem, item, mb, block, data⟩ := q
      refine ⟨w, by rw [ev]; exact mem, item, mb, block, fun isData => ?_⟩
      rw [stripeShards_data isData] at hd
      rw [data, hb]
      exact (Option.some.inj hd).symm
    · have q := stripePut_header (n := lane.toNat) (u := u) (valid := valid) (l := laneOf s lane.toNat) (bad := bad) (miss := miss)
        (hdr := hdr) (g := s.ev.nextStripe) (shards := stripeShards x (laneOf s lane.toNat) valid s) hi
        ((congrArg StoreMember.failed (memberOf_queues read _)).trans member) (by rw [read.ev]; exact sound)
      rw [← hp] at q
      obtain ⟨w, mem, item, mb, block, -⟩ := q
      exact ⟨w, by rw [ev]; exact mem, item, mb, block⟩
  · refine ⟨_, congrArg Host.Outcome.next (?_ : formStripe lane.toNat false s = _), raise_reports 326 [] _⟩
    rw [formStripe_due set active opened configured (by omega) (.inl (by omega))]
    refine (if_pos (decide_eq_true store)).trans ?_
    exact if_neg (Bool.eq_false_iff.mp running)
  · refine congrArg Host.Outcome.next (?_ : advanceDurable s = _)
    · unfold advanceDurable
      rw [last]
      exact (if_pos past).trans (if_neg fun h => step.elim (fun k => absurd h.1 (Nat.not_le.mpr k)) fun k => absurd h.2 (Nat.not_lt.mpr k))
  · refine ⟨_, congrArg Host.Outcome.next (?_ : advanceDurable s = _), raise_reports 320 [] _⟩
    unfold advanceDurable
    rw [last]
    refine (if_pos past).trans ((if_pos ⟨step, ahead⟩).trans (if_neg ?_))
    rw [(raise_reports 320 [] _).ev]
    exact Bool.eq_false_iff.mp off
  · refine ⟨_, congrArg Host.Outcome.next (if_pos ?_), ?_⟩
    · rw [calm, active, decide_eq_true reached]
      rfl
    · exact .trans (b := setFlag 0x580 2 (exposurePfc true (updEv (fun e => { e with xoff := true }) s)))
        (setFlag_reports _ _ _) (raise_reports 324 [] _)
  · refine ⟨_, congrArg Host.Outcome.next ((if_neg ?_).trans ((if_pos ?_).trans (if_pos on))), raise_reports 324 [] _⟩
    · rw [on]
      exact Bool.false_ne_true
    · rw [on, decide_eq_true under]
      rfl

end Sys2Proof.Machine
end

section
/-!
PROOFS. Evidence store commands take effect (O35).
-/
namespace Sys2Proof.Machine

/-! ## What ends of members' commands leave alone -/

theorem putField_apart (a n v : Nat) (s : State) : Apart s (putField a n v s) := .of_host (by rw [putField, dramWrite_frame])

theorem updEv_apart (f : Evidence → Evidence) (s : State) : Apart s (updEv f s) := .of_host rfl

theorem setLane_apart (n : Nat) (x : Lane) (s : State) : Apart s (setLane n x s) := .of_host rfl

theorem noteStop_apart (bit : Nat) (s : State) : Apart s (noteStop bit s) := by
  unfold noteStop
  exact .ite (.refl s) (((updEv_apart _ s).trans (setFlag_apart _ _ _)).trans (raise_apart _ _ _))

theorem completionEvent_apart (e : EventReq) (s : State) : Apart s (completionEvent e s) :=
  (completionEvent_inside (care := ⟨true, true⟩) e s (.refl s)).apart

theorem commitItem_apart (i src data : Nat) (s : State) : Apart s (commitItem i src data s) := by
  unfold commitItem
  exact .ite (completionEvent_apart _ s) (.refl s)

theorem sealDurable_apart (r : SealRecord) (s : State) : Apart s (sealDurable r s) := by
  unfold sealDurable
  split
  · exact .refl s
  · refine .trans ?_ (commitItem_apart _ _ _ _)
    split
    · exact .of_host rfl
    · exact .refl s

theorem foldl_apart {α : Type} {f : State → α → State} (step : ∀ s x, Apart s (f s x)) (l : List α) (s : State) :
    Apart s (l.foldl f s) := by
  induction l generalizing s with
  | nil => exact .refl s
  | cons x l ih => exact (step s x).trans (ih (f s x))

theorem settleSeals_apart (s : State) : Apart s (settleSeals s) :=
  .trans (b := updEv (fun e => { e with sealsOut := e.sealsOut.filter (fun r => !(writesDone s (fun i => i == .seal r.seq))) }) s)
    (.of_host rfl) (foldl_apart (fun a r => sealDurable_apart r a) _ _)

theorem settleStripes_apart (n : Nat) (s : State) : Apart s (settleStripes n s) := by
  induction n generalizing s with
  | zero => exact .refl s
  | succ n ih =>
    unfold settleStripes
    split
    · exact .refl s
    · exact ((((count_apart _ _ _ _ s).trans (setLane_apart _ _ _)).trans (updEv_apart _ _)).trans (putField_apart _ _ _ _)).trans (ih _)

/-- The device once a member has failed and its writes are given up. -/
def memberGone (i : Nat) (s : State) : State :=
  raise 329 [] (setFlag 0x580 5 (updEv (fun e => { e with
    members := tabSet {} e.members i { memberOf s i with failed := true }, writes := e.writes.filter (fun w => w.member != i) }) s))

/-- The store stops when more members have failed than its parity covers. -/
def stopUncovered (s : State) : State :=
  match s.ev.set with
  | some x => if decide (x.m < failedCount s x) then noteStop 1 (noteStop 0 s) else s
  | none => s

theorem failMember_parts (i : Nat) (s : State) :
    failMember i s = if (memberOf s i).failed then s else stopUncovered (memberGone i s) := rfl

theorem memberGone_apart (i : Nat) (s : State) : Apart s (memberGone i s) :=
  ((updEv_apart _ s).trans (setFlag_apart _ _ _)).trans (raise_apart 329 [] _)

theorem stopUncovered_apart (s : State) : Apart s (stopUncovered s) := by
  unfold stopUncovered
  split
  · exact .ite ((noteStop_apart _ _).trans (noteStop_apart _ _)) (.refl _)
  · exact .refl _

theorem failMember_apart (i : Nat) (s : State) : Apart s (failMember i s) := by
  rw [failMember_parts]
  exact .ite (.refl s) ((memberGone_apart i s).trans (stopUncovered_apart _))

theorem memberEnds_apart (i : Nat) (e : StoreEnd) (s : State) : Apart s (memberEnds i e s) := by
  cases e with
  | ok => exact .refl s
  | error status =>
    exact ((count_apart _ _ _ _ s).trans (raise_apart _ _ _)).trans (failMember_apart _ _)
  | timeout => exact (count_apart _ _ _ _ s).trans (failMember_apart _ _)

theorem settleMember_apart (i : Nat) (e : StoreEnd) (s : State) : Apart s (settleMember i e s) :=
  ((memberEnds_apart i e s).trans (settleStripes_apart _ _)).trans (settleSeals_apart _)

/-! ## The format of a set -/

/-- A superblock is made of the set and of the key slots. -/
theorem superblock_of_sec {s t : State} (h : t.sec = { s.sec with trace := t.sec.trace }) (x : StoreSet) (i seq : Nat) :
    superblock t x i seq = superblock s x i seq := by
  have keys : t.sec.keys = s.sec.keys := by rw [h]
  have cycle : t.sec.lifecycle = s.sec.lifecycle := by rw [h]; rfl
  unfold superblock signKey keySlot
  rw [keys, cycle]

/-- The two superblocks of one member. -/
def formatMember (x : StoreSet) (s : State) (i : Nat) : State :=
  updEv (fun e => { e with
    disk := tabPut (tabPut e.disk (i * 2 ^ 64) (superblock s x i 0)) (i * 2 ^ 64 + 1) (superblock s x i 1) }) s

/-- Only the members' blocks may differ. -/
def Formats (s t : State) : Prop := t = { s with ev := { s.ev with disk := t.ev.disk } }

theorem formatMembers_formats (x : StoreSet) (l : List Nat) (s : State) : Formats s (l.foldl (formatMember x) s) := by
  induction l generalizing s with
  | nil => rfl
  | cons i l ih =>
    have h := ih (formatMember x s i)
    unfold Formats at h ⊢
    rw [List.foldl_cons, h]
    rfl

/-- The format of other members leaves a member's first superblock alone. -/
theorem formatMembers_disk {x : StoreSet} {i : Nat} {l : List Nat} (other : i ∉ l) (s : State) :
    tabGet (zeros 4096) (l.foldl (formatMember x) s).ev.disk (i * 2 ^ 64) = tabGet (zeros 4096) s.ev.disk (i * 2 ^ 64) := by
  induction l generalizing s with
  | nil => rfl
  | cons j l ih =>
    obtain ⟨ne, rest⟩ := not_or.mp (mt List.mem_cons.mpr other)
    rw [List.foldl_cons, ih rest]
    exact (tabGet_put_of_ne _ _ _ (by omega)).trans (tabGet_put_of_ne _ _ _ (by omega))

theorem formatMembers_super {x : StoreSet} {i : Nat} {l : List Nat} (mem : i ∈ l) (distinct : l.Nodup) (s : State) :
    tabGet (zeros 4096) (l.foldl (formatMember x) s).ev.disk (i * 2 ^ 64) = superblock s x i 0 := by
  induction l generalizing s with
  | nil => exact absurd mem List.not_mem_nil
  | cons j l ih =>
    obtain ⟨fresh, rest⟩ := List.nodup_cons.mp distinct
    rw [List.foldl_cons]
    by_cases e : i = j
    · subst e
      rw [formatMembers_disk fresh]
      exact (tabGet_put_of_ne _ _ _ (by omega)).trans (tabGet_put_self _ _ _ _)
    · rw [ih ((List.mem_cons.mp mem).resolve_left e) rest]
      exact superblock_of_sec rfl x i 0

theorem formatSupers_formats (x : StoreSet) (s : State) : Formats s (formatSupers x s) := formatMembers_formats x _ s

theorem formatSupers_super {x : StoreSet} {i : Nat} (hi : i < x.n) (s : State) :
    tabGet (zeros 4096) (formatSupers x s).ev.disk (i * 2 ^ 64) = superblock s x i 0 :=
  formatMembers_super (List.mem_range.mpr hi) List.nodup_range s

/-! ## Host memory after a command without a completion queue -/

/-- Host memory and the completion queue's setting stand. -/
structure MemStands (s t : State) : Prop where
  mem : t.host.mem = s.host.mem
  ep : t.host.ep = s.host.ep
  cq : t.host.cq = s.host.cq

theorem MemStands.trans {s t u : State} (h : MemStands s t) (k : MemStands t u) : MemStands s u :=
  ⟨k.mem.trans h.mem, k.ep.trans h.ep, k.cq.trans h.cq⟩

theorem countEnd_host (st : Nat) (s : State) : (countEnd st s).host = s.host := by
  unfold countEnd
  split <;> rfl

theorem finishCmd_memStands {s : State} (off : s.host.cq.enabled = false) (m st detail : Nat) (res : List Byte) :
    MemStands s (finishCmd m st detail res s) := by
  have e : finishCmd m st detail res s = writeStatus m (BitVec.ofNat 8 st)
      { countEnd st (writeResults m res s) with host := { (countEnd st (writeResults m res s)).host with
          muted := (countEnd st (writeResults m res s)).host.muted.filter (· != m) } } := by
    refine if_pos ?_
    rw [countEnd_host, show (writeResults m res s).host.cq.enabled = s.host.cq.enabled from rfl, off]
    rfl
  rw [e]
  have h := countEnd_host st (writeResults m res s)
  refine ⟨?_, ?_, ?_⟩
  · show (countEnd st (writeResults m res s)).host.mem = _
    rw [h]
    rfl
  · show (countEnd st (writeResults m res s)).host.ep = _
    rw [h]
    rfl
  · show (countEnd st (writeResults m res s)).host.cq = _
    rw [h]
    rfl

theorem sweepN_memStands (n : Nat) {s : State} (off : s.host.cq.enabled = false) : MemStands s (sweepN n s) := by
  induction n generalizing s with
  | zero => exact ⟨rfl, rfl, rfl⟩
  | succ n ih =>
    unfold sweepN
    split
    · next m _ =>
      have one := finishCmd_memStands (s := startCmd m s) off m 0x01 0 []
      have h : MemStands s (finishCmd m 0x01 0 [] (startCmd m s)) := ⟨one.mem, one.ep, one.cq⟩
      exact h.trans (ih (by rw [h.cq]; exact off))
    · exact ⟨rfl, rfl, rfl⟩

theorem noteTlp_apart (src : Nat) (r : DmaResult) (s : State) : Apart s (noteTlp src r s) := by
  have said : Apart s (raise src [] s) := raise_apart src [] s
  refine .ite (said.trans ?_) (.ite said (.refl s))
  unfold noteEcrc
  dsimp only
  split <;> exact ⟨⟨rfl, rfl, rfl, rfl, rfl, rfl⟩, rfl, rfl, rfl⟩

theorem hostWriteBad_apart (a : BitVec 64) (bs : List Byte) (bad : Nat → Bool) (s : State) : Apart s (hostWriteBad a bs bad s) :=
  ⟨⟨rfl, rfl, rfl, rfl, rfl, rfl⟩, rfl, rfl, rfl⟩

/-! ## The commands -/

/-- What STORE_LINK sets. -/
def linkSet (p : List Byte) (s : State) : State :=
  updEv (fun e => { e with
    linkEnable := decide (leAt p 0 1 = 1), linkSpeed := leAt p 1 1, linkWidth := leAt p 2 1
    memBase := BitVec.ofNat 64 (leAt p 4 8), memSize := BitVec.ofNat 64 (leAt p 12 8) })
    { s with pow := { s.pow with perstHigh := decide (leAt p 0 1 = 1), refclk := s.pow.refclk || decide (leAt p 0 1 = 1) } }

/-- What STORE_SET puts in place of the set before. -/
def setReplaced (x : StoreSet) (stripe block seq stripes seals : Nat) (s : State) : State :=
  updEv (fun e => { e with
    set := some x, stripes := [], writes := [], sealsOut := [], sealRecords := [], high := 0, stop := 0
    members := e.members.map (fun (q : Nat × StoreMember) => (q.1, { q.2 with failed := false }))
    nextStripe := stripe, sealBlock := block, sealSeq := seq, releasedStripe := stripes, releasedSeal := seals }) s

/-- The set that STORE_SET's parameters describe. -/
def setOf (s : State) (p : List Byte) : StoreSet :=
  { n := leAt p 1 1, k := leAt p 2 1, m := leAt p 3 1, setId := bytesAt p 4 16, rows := leAt p 20 8
    sealRows := leAt p 28 8, superSeq := 1, created := s.line.ptp.time }

theorem storeSet_formats {s : State} {m : BitVec 4} {k : BitVec 5} (still : evActive s = false)
    (fmt : par s m 0 1 = 0) : bodyOf (storeSet ⟨k, .ok⟩) m s = okCmd (formatSupers (setOf s (mbxPayload s m.toNat))
      (setReplaced (setOf s (mbxPayload s m.toNat)) 0 0 0 0 0 (startCmd m.toNat s))) (leBytes 8 (storeCap (setOf s (mbxPayload s m.toNat)))) :=
  (if_neg (Bool.eq_false_iff.mp still)).trans ((if_neg (Classical.not_not.mpr rfl)).trans (if_pos fmt))

theorem storeSet_mounts {s : State} {m : BitVec 4} {k : BitVec 5} {q : Nat} {c : PtpTime}
    (still : evActive s = false) (mount : par s m 0 1 = 1) (found : mountSuper s = some (q, c)) :
    bodyOf (storeSet ⟨k, .ok⟩) m s = okCmd (setReplaced { setOf s (mbxPayload s m.toNat) with superSeq := q, created := c }
      (par s m 36 8) (par s m 44 8) (par s m 52 8) (par s m 60 8) (par s m 68 8) (startCmd m.toNat s))
      (leBytes 8 (storeCap (setOf s (mbxPayload s m.toNat)))) := by
  refine (if_neg (Bool.eq_false_iff.mp still)).trans ((if_neg (Classical.not_not.mpr rfl)).trans ((if_neg ?_).trans ?_))
  · exact fun e => Nat.one_ne_zero (mount.symm.trans e)
  · rw [show mountSuper (startCmd m.toNat s) = mountSuper s from rfl, found]
    rfl

/-- Settles O35. -/
theorem storeCommandsTakeEffect : Obligations.StoreCommandsTakeEffect := by
  unfold Obligations.StoreCommandsTakeEffect
  intro s m a ha room
  subst ha
  refine ⟨fun data completion h up p hp => ?_, fun h still => ?_, fun h still few => ?_, fun entry r h master seen => ?_,
    fun h still => ?_, fun x k h still fmt hx => ?_, fun q c k h still mount found => ?_, fun r h still bad => ?_,
    fun e dma bad h => ?_, fun r d bs u h master sound hd hbs hu => ?_⟩
  · subst hp
    have on : ¬(!(startCmd m.toNat s).ev.linkEnable) = true := by
      rw [show (startCmd m.toNat s).ev.linkEnable = s.ev.linkEnable from rfl, up]
      exact Bool.false_ne_true
    by_cases read : par s m 0 1 = 0
    · rw [if_pos read, if_pos (.inl read)]
      refine effect_of_reply h (((if_neg on).trans (if_pos read)).trans ?_) ?_ room
      · simp [layout]
      · simp [leBytes_length]
    · rw [if_neg read]
      have eff : Effect (exec (.storeCfgAccess m data completion) s) m s
          (fun a => if completion = 0 then cfgWrite (mbxPayload s m.toNat) a else a) (leBytes 4 (par s m 8 4) ++ leBytes 1 completion.toNat) := by
        refine effect_of_apart h (((if_neg on).trans (if_neg read)).trans ?_) ?_ room ?_
        · simp [layout]
          rfl
        · simp [leBytes_length]
        · unfold cfgWrite
          dsimp only
          split
          · split <;> exact .of_host rfl
          · exact .refl _
      obtain ⟨t, runs, done, returns, rep⟩ := eff
      dsimp only at rep
      refine ⟨t, runs, done, returns, ?_⟩
      by_cases c : completion = 0
      · rw [if_neg (not_or.mpr ⟨read, Classical.not_not.mpr c⟩)]
        rwa [if_pos c] at rep
      · rw [if_pos (.inr c)]
        rwa [if_neg c] at rep
  · obtain ⟨t, runs, done, returns, rep⟩ := effect_of_state (f := linkSet (mbxPayload s m.toNat)) h (if_neg (Bool.eq_false_iff.mp still))
      room (.of_host rfl)
    refine ⟨t, runs, done, returns, ?_⟩
    unfold linkSet at rep
    rwa [Bool.or_comm] at rep
  · exact effect_of_state h ((if_neg (Bool.eq_false_iff.mp still)).trans ((if_neg (Nat.not_lt.mpr few)).trans (if_neg Bool.false_ne_true)))
      room (.of_host rfl)
  · have fine : seenH (startCmd m.toNat s) r = .ok := seen
    refine effect_of_reply h ((if_neg ?_).trans (if_neg ?_)) ?_ room
    · rw [fine, show (startCmd m.toNat s).host.busMaster = true from master]
      decide
    · rw [fine]
      decide
    · simp [leBytes_length]
  · exact effect_of_state h (if_neg (Bool.eq_false_iff.mp still)) room (.of_host rfl)
  · have hx' : x = setOf s (mbxPayload s m.toNat) := hx
    obtain ⟨t, runs, done, returns, rep⟩ := effect_of_apart
      (f := fun a => formatSupers x (setReplaced x 0 0 0 0 0 a)) (bs := leBytes 8 (storeCap x)) h
      (by rw [hx']; exact storeSet_formats still fmt) (by rw [leBytes_length]; decide) room (.of_host (by rw [formatSupers_formats]; rfl))
    dsimp only at rep
    have formats := formatSupers_formats x (setReplaced x 0 0 0 0 0 (startCmd m.toNat s))
    refine ⟨t, runs, done, ?_, ?_, ?_, ?_, returns, fun i hi => ?_⟩
    · rw [rep.ev, formats]
      rfl
    · rw [rep.ev, formats]
      rfl
    · rw [rep.ev, formats]
      rfl
    · rw [rep.ev, formats]
      rfl
    · rw [rep.ev, formatSupers_super hi, superblock_of_sec rep.sec, formats]
      exact (superblock_of_sec rfl x i 0).symm
  · obtain ⟨t, runs, done, returns, rep⟩ := effect_of_apart (f := setReplaced { setOf s (mbxPayload s m.toNat) with superSeq := q, created := c }
      (par s m 36 8) (par s m 44 8) (par s m 52 8) (par s m 60 8) (par s m 68 8)) h (storeSet_mounts still mount found)
      (by rw [leBytes_length]; decide) room (.of_host rfl)
    refine ⟨t, runs, done, ?_, ?_, ?_, ?_, ?_, ?_, ?_, ?_⟩ <;> rw [rep.ev] <;> rfl
  · obtain ⟨done, rep⟩ := completes_with_status h (st := 0x0A) (d := 0)
      (u := settleMember (r.member.toNat % par s m 1 1) r.result (startCmd m.toNat s))
      ((if_neg (Bool.eq_false_iff.mp still)).trans (if_pos bad)) room (settleMember_apart _ _ _)
    exact ⟨_, rfl, done, rep⟩
  · obtain ⟨done, rep⟩ := completes_with_status h (st := 0x0A) (d := 0)
      (u := settleMember (par s m 0 1) e (startCmd m.toNat s)) (if_pos bad) room (settleMember_apart _ _ _)
    exact ⟨_, rfl, done, rep⟩
  · have body : bodyOf (storeRead .ok r) m s = okCmd u := by
      show (if _ then _ else okCmd (hostWriteBad _ _ (fun _ => dmaDark (dmaSeen (ecrcCheckS (startCmd m.toNat s)) r))
        (noteTlp 490 (dmaSeen (ecrcCheckS (startCmd m.toNat s)) r) (startCmd m.toNat s)))) = _
      refine (if_neg ?_).trans ?_
      · rw [decide_eq_false sound, show (startCmd m.toNat s).host.busMaster = true from master]
        decide
      · rw [hu, hbs, hd]
        rfl
    have noted := noteTlp_apart 490 d (startCmd m.toNat s)
    have ap : Apart (startCmd m.toNat s) u := by
      rw [hu]
      exact noted.trans (hostWriteBad_apart _ _ _ _)
    obtain ⟨t, runs, done, returns, rep⟩ := effect_of_apart (f := fun _ => u) h body (Nat.zero_le _) room ap
    have ran : t = sweepBad (finishCmd m.toNat 0 0 [] u) := by
      have both : Host.Outcome.next t = Host.Outcome.next (runCmd (storeRead .ok r) m s) := runs.symm
      rw [runCmd_accepted h, body] at both
      injection both
    refine ⟨t, runs, done, returns, rep, ran, fun off => ?_⟩
    have offU : u.host.cq.enabled = false := by
      rw [ap.cq]
      exact off
    have one := finishCmd_memStands offU m.toNat 0 0 []
    have stands := one.trans (sweepN_memStands 16 (by rw [one.cq]; exact offU))
    rw [ran]
    refine ⟨stands.ep, fun clean => stands.mem.trans ?_⟩
    rw [hu, clean, show noteTlp 490 .ok (startCmd m.toNat s) = startCmd m.toNat s from noteTlp_ok _ _]
    show memWrite s.host.mem (BitVec.ofNat 64 (par s m 16 8)).toNat bs = _
    rw [BitVec.toNat_ofNat, Nat.mod_eq_of_lt (show par s m 16 8 < 2 ^ 64 from par_lt s m 16 8)]

end Sys2Proof.Machine
end

section
/-!
PROOFS. Evidence path commands take effect (O36).
-/
namespace Sys2Proof.Machine

/-! ## EVIDENCE_RUN -/

/-- A reserved unit's lock goes to the unit. -/
def takeUnit (s : State) (u : Nat) : State :=
  setLock (unitLock u) { lockOf s (unitLock u) with owner := BitVec.ofNat 12 (unitIdentity u), last := (lockOf s (unitLock u)).owner } s

def UnitOwned (u : Nat) (s : State) : Prop := (lockOf s (unitLock u)).owner = BitVec.ofNat 12 (unitIdentity u)

theorem takeUnit_self (s : State) (u : Nat) : UnitOwned u (takeUnit s u) := congrArg Lock.owner (tabGet_set_self _ _ _ _)

theorem UnitOwned.take {u : Nat} {s : State} (h : UnitOwned u s) (v : Nat) : UnitOwned u (takeUnit s v) := by
  by_cases e : u = v
  · exact e ▸ takeUnit_self s u
  · have other : unitLock u ≠ unitLock v := fun k => e (Nat.add_left_cancel k)
    exact (congrArg Lock.owner (tabGet_set_of_ne _ _ _ other)).trans h

theorem UnitOwned.takes {u : Nat} (l : List Nat) {s : State} (h : UnitOwned u s) : UnitOwned u (l.foldl takeUnit s) := by
  induction l generalizing s with
  | nil => exact h
  | cons v l ih => exact ih (h.take v)

theorem takeUnits_owned {u : Nat} {l : List Nat} (mem : u ∈ l) (s : State) : UnitOwned u (l.foldl takeUnit s) := by
  induction l generalizing s with
  | nil => exact absurd mem List.not_mem_nil
  | cons v l ih =>
    rcases List.mem_cons.mp mem with e | e
    · subst e
      exact (takeUnit_self s u).takes l
    · exact ih e _

theorem reservedUnits_identity {s : State} {u : Nat} (mem : u ∈ reservedUnits s) :
    (BitVec.ofNat 12 (unitIdentity u)).toNat = unitIdentity u := by
  have small : u < 14 := by
    rcases List.mem_append.mp mem with h | h
    · obtain ⟨i, hi, e⟩ := List.mem_map.mp h
      have := (mem_maskList.mp hi).1
      omega
    · obtain ⟨i, hi, e⟩ := List.mem_map.mp h
      have := (mem_maskList.mp hi).1
      omega
  rw [BitVec.toNat_ofNat, unitIdentity, if_pos small]
  omega

/-- The lanes of a path that starts. -/
def laneStarts (s : State) (l : Nat × Lane) : State :=
  putField (laneCtl s l.1 + 8) 4 ((laneOf s l.1).durable % 2 ^ 32) (putField (laneCtl s l.1 + 12) 4 ((laneOf s l.1).sealTaken % 2 ^ 32) s)

theorem putField_accesses (a n v : Nat) (s : State) :
    (putField a n v s).host = s.host ∧ (putField a n v s).ev = s.ev ∧ (putField a n v s).dov = s.dov := by
  unfold putField
  rw [dramWrite_frame]
  exact ⟨rfl, rfl, rfl⟩

theorem laneStarts_leaves (s : State) (l : Nat × Lane) :
    (laneStarts s l).host = s.host ∧ (laneStarts s l).ev = s.ev ∧ (laneStarts s l).dov = s.dov := by
  obtain ⟨h1, e1, d1⟩ := putField_accesses (laneCtl s l.1 + 12) 4 ((laneOf s l.1).sealTaken % 2 ^ 32) s
  obtain ⟨h2, e2, d2⟩ := putField_accesses (laneCtl s l.1 + 8) 4 ((laneOf s l.1).durable % 2 ^ 32)
    (putField (laneCtl s l.1 + 12) 4 ((laneOf s l.1).sealTaken % 2 ^ 32) s)
  exact ⟨h2.trans h1, e2.trans e1, d2.trans d1⟩

/-- The path runs, with its lanes' seals in line taken. -/
def pathRuns (s : State) : State :=
  updEv (fun e => { e with
    state := .running, marks := [], seals := [], built := e.seals.filterMap (·.built) ++ e.built
    lanes := e.lanes.map (fun l => (l.1, { l.2 with sealLined := l.2.sealTaken })) }) s

theorem evidenceStart_parts (s : State) : evidenceStart s =
    (laneList (pathRuns ((reservedUnits s).foldl takeUnit s))).foldl laneStarts (pathRuns ((reservedUnits s).foldl takeUnit s)) := rfl

theorem takeUnits_host (l : List Nat) (s : State) : (l.foldl takeUnit s).host = s.host := foldl_leaves (·.host) (f := takeUnit) (fun _ _ => rfl) l s

theorem evidenceStart_runs (s : State) : Apart s (evidenceStart s) ∧ (evidenceStart s).ev.state = .running ∧
    ∀ u ∈ reservedUnits s, UnitOwned u (evidenceStart s) := by
  rw [evidenceStart_parts]
  obtain ⟨v, hv⟩ : ∃ v, v = (reservedUnits s).foldl takeUnit s := ⟨_, rfl⟩
  have owned : ∀ u ∈ reservedUnits s, UnitOwned u v := fun u mem => hv ▸ takeUnits_owned mem s
  have host : v.host = s.host := hv ▸ takeUnits_host _ s
  rw [← hv]
  refine ⟨.of_host ?_, ?_, fun u mem => ?_⟩
  · rw [foldl_leaves (·.host) (fun a l => (laneStarts_leaves a l).1)]
    exact host
  · rw [foldl_leaves (·.ev) (fun a l => (laneStarts_leaves a l).2.1)]
    rfl
  · unfold UnitOwned lockOf
    rw [foldl_leaves (·.dov) (fun a l => (laneStarts_leaves a l).2.2)]
    exact owned u mem

theorem exposurePfc_leaves (on : Bool) (s : State) : (exposurePfc on s).host = s.host ∧ (exposurePfc on s).ev = s.ev :=
  ⟨foldl_leaves (·.host) (by intro _ _; rfl) _ _, foldl_leaves (·.ev) (by intro _ _; rfl) _ _⟩

theorem returnCredits_leaves (cls : Nat) (s : State) : (returnCredits cls s).host = s.host ∧ (returnCredits cls s).ev = s.ev := by
  unfold returnCredits
  split <;> exact ⟨rfl, rfl⟩

theorem endExposure_ends (s : State) : Apart s (endExposure s) ∧ (endExposure s).ev = { s.ev with xoff := false } := by
  unfold endExposure
  by_cases on : s.ev.xoff = true
  · rw [if_pos on]
    obtain ⟨h1, e1⟩ := exposurePfc_leaves false (updEv (fun e => { e with xoff := false }) s)
    obtain ⟨h2, e2⟩ := returnCredits_leaves 5 (exposurePfc false (updEv (fun e => { e with xoff := false }) s))
    exact ⟨((updEv_apart _ s).trans (Apart.of_host (h2.trans h1))).trans (raise_apart _ _ _),
      ((raise_reports _ _ _).ev.trans e2).trans e1⟩
  · rw [if_neg on]
    refine ⟨.refl s, ?_⟩
    rw [← Bool.eq_false_iff.mpr on]

theorem evidenceStop_stops (s : State) : Apart s (evidenceStop s) ∧ (evidenceStop s).ev.state = .stopped ∧
    (evidenceStop s).ev.xoff = false := by
  obtain ⟨ap, ev⟩ := endExposure_ends (updEv (fun e => { e with state := .stopped }) s)
  have inside : Inside ⟨true, false⟩ (endExposure (updEv (fun e => { e with state := .stopped }) s)) (evidenceStop s) :=
    releaseUnits_inside _ (.refl _)
  refine ⟨((updEv_apart _ s).trans ap).trans inside.apart, ?_, ?_⟩
  · rw [inside.ev, ev]
    rfl
  · rw [inside.ev, ev]

/-! ## Streams -/

theorem ctxWrite_apart (c off : Nat) (bs : List Byte) (s : State) : Apart s (ctxWrite c off bs s) := (ctxRead_ctxWrite c off bs s).2

theorem nextReam_built (c first : Nat) (s : State) : Apart s (nextReam c first s) ∧ (nextReam c first s).ev.built = s.ev.built := by
  unfold nextReam
  extract_lets -merge -underBinder n put x x'
  have inside : Inside ⟨true, true⟩ s x' := by
    refine ctxWrite_inside _ _ _ _ (ctxWrite_inside _ _ _ _ (ctxWrite_inside _ _ _ _ (ctxWrite_inside _ _ _ _ (ctxWrite_inside _ _ _ _ ?_))))
    exact ctxWrite_inside _ _ _ _ (ctxWrite_inside _ _ _ _ (ctxWrite_inside _ _ _ _ (ctxWrite_inside _ _ _ _ (ctxWrite_inside _ _ _ _ (.refl s)))))
  clear_value x'
  split
  · have k := ctxWrite_inside c 214 (ptpBytes x'.sh.tickTime) x' inside
    exact ⟨k.apart, by rw [k.ev]⟩
  · exact ⟨inside.apart.trans (updEv_apart _ _), by
      show x'.ev.built = _
      rw [inside.ev]⟩

theorem closeReam_builds (c last flag : Nat) (s : State) : Apart s (closeReam c last flag s) ∧
    (closeReam c last flag s).ev.built = s.ev.built ++ [(c, builtSeal (checkCtx c 0 256 s) c last flag)] := by
  have inside : Inside ⟨true, true⟩ s (checkCtx c 0 256 s) := checkCtx_inside _ _ _ _ (.refl s)
  obtain ⟨ap, built⟩ := nextReam_built c (last + 1)
    (updEv (fun e => { e with built := e.built ++ [(c, builtSeal (checkCtx c 0 256 s) c last flag)] }) (checkCtx c 0 256 s))
  refine ⟨(inside.apart.trans (updEv_apart _ _)).trans ap, built.trans ?_⟩
  show (checkCtx c 0 256 s).ev.built ++ _ = _
  rw [inside.ev]

theorem issueWrite_apart (mem block tag : Nat) (item : StoreItem) (data : List Byte) (s : State) :
    Apart s (issueWrite mem block tag item data s) := by
  unfold issueWrite
  exact .ite (.refl s) (updEv_apart _ s)

theorem rewriteSupers_apart (s : State) : Apart s (rewriteSupers s) := by
  unfold rewriteSupers
  split
  · exact .refl s
  · exact (updEv_apart _ s).trans (foldl_apart (fun _ _ => issueWrite_apart _ _ _ _ _ _) _ _)

/-- A stream that COMMIT closes for good. -/
def streamShut (c : Nat) (s : State) : State :=
  match tabFind s.ev.streams c with
  | some x => setStream c { x with isOpen := false } (ctxWrite c 142 [0] s)
  | none => s

theorem streamShut_shuts (c : Nat) (s : State) : Apart s (streamShut c s) ∧ (streamShut c s).ev.built = s.ev.built ∧
    streamOf (streamShut c s) c = none := by
  unfold streamShut
  split
  · next x found =>
    have inside : Inside ⟨true, true⟩ s (ctxWrite c 142 [0] s) := ctxWrite_inside _ _ _ _ (.refl s)
    refine ⟨inside.apart.trans (updEv_apart _ _), ?_, ?_⟩
    · show (ctxWrite c 142 [0] s).ev.built = _
      rw [inside.ev]
    · unfold streamOf setStream
      rw [show tabFind (updEv (fun e => { e with streams := tabPut e.streams c { x with isOpen := false } })
        (ctxWrite c 142 [0] s)).ev.streams c = some { x with isOpen := false } from tabFind_put_self _ _ _]
      rfl
  · next found =>
    refine ⟨.refl s, rfl, ?_⟩
    unfold streamOf
    rw [found]

/-- What ends with a release of blocks: marks of a full store, and stops. -/
def releaseEnds (x : StoreSet) (s : State) : State :=
  let g := s.ev.nextStripe - s.ev.releasedStripe
  let b := nextRecordBlock s - s.ev.releasedSeal
  let tooMany := decide (x.m < failedCount s x)
  updEv (fun e => { e with
    high := e.high &&& BitVec.ofNat 2 (b2n (decide (7 * storeCap x ≤ 8 * g)) + 2 * b2n (decide (7 * x.sealRows ≤ 8 * sealUsed s)))
    stop := e.stop &&& BitVec.ofNat 2 (b2n (tooMany || decide (storeCap x ≤ g)) + 2 * b2n (tooMany || decide (x.sealRows ≤ b))) }) s

theorem releaseEnds_stop {x : StoreSet} {s : State} (members : failedCount s x ≤ x.m)
    (space : s.ev.nextStripe - s.ev.releasedStripe < storeCap x) : (releaseEnds x s).ev.stop.getLsbD 0 = false := by
  unfold releaseEnds
  dsimp only
  rw [decide_eq_false (Nat.not_lt.mpr members), decide_eq_false (Nat.not_le.mpr space)]
  refine (BitVec.getLsbD_and ..).trans ?_
  rw [BitVec.getLsbD_ofNat, show b2n (false || false) = 0 from rfl, Nat.zero_add, Nat.testBit_zero, Nat.mul_mod_right]
  simp

/-- The store's blocks released by the host, and the marks and stops that end with it. -/
theorem storeRelease_releases {s : State} {m : BitVec 4} (room : completionRoom s = true) (h : Accepted storeRelease m s) :
    Ends (exec (.storeRelease m) s) m s (fun t => t.ev.releasedStripe = par s m 0 8 ∧ t.ev.releasedSeal = par s m 8 8 ∧
      t.ev.nextStripe = s.ev.nextStripe ∧
      ∀ x, s.ev.set = some x → failedCount s x ≤ x.m → s.ev.nextStripe - par s m 0 8 < x.n * x.rows / (x.k + x.m) →
        t.ev.stop.getLsbD 0 = false) := by
  cases set : s.ev.set with
  | none =>
    refine ends_of_body h (bs := []) (u := updEv (fun e => { e with releasedStripe := par s m 0 8, releasedSeal := par s m 8 8 })
      (startCmd m.toNat s)) ?_ (Nat.zero_le _) room (.of_host rfl) fun t _ r => ?_
    · show okCmd (match s.ev.set with | none => _ | some _ => _) = _
      rw [set]
      rfl
    · rw [r.ev]
      exact ⟨rfl, rfl, rfl, fun x hx => nomatch hx⟩
  | some x =>
    obtain ⟨u, hu⟩ : ∃ u, u = updEv (fun e => { e with releasedStripe := par s m 0 8, releasedSeal := par s m 8 8 }) (startCmd m.toNat s) :=
      ⟨_, rfl⟩
    have ev : u.ev = { s.ev with releasedStripe := par s m 0 8, releasedSeal := par s m 8 8 } := by rw [hu]; rfl
    have body : bodyOf storeRelease m s = okCmd (releaseEnds x u) := by
      rw [hu]
      show okCmd (match s.ev.set with | none => _ | some _ => _) = _
      rw [set]
      rfl
    refine ends_of_body h (bs := []) body (Nat.zero_le _) room (.of_host (by rw [hu]; rfl)) fun t _ r => ?_
    rw [r.ev]
    refine ⟨?_, ?_, ?_, fun y hy members space => ?_⟩
    · exact congrArg Evidence.releasedStripe ev
    · exact congrArg Evidence.releasedSeal ev
    · show u.ev.nextStripe = _
      rw [ev]
    · obtain rfl : x = y := Option.some.inj hy
      refine releaseEnds_stop ?_ ?_
      · unfold failedCount memberOf
        rw [ev]
        exact members
      · rw [ev]
        exact space

theorem streamClose_closes {s : State} {m : BitVec 4} {x : Stream} (found : streamOf s (par s m 0 2) = some x)
    (idle : ctxIdle s (par s m 0 2) = true) : bodyOf streamClose m s =
      if par s m 2 1 = 0 then okCmd (closeReam (par s m 0 2) (s.sh.sheet - 1).toNat 6 (startCmd m.toNat s))
      else okCmd (streamShut (par s m 0 2) (closeReam (par s m 0 2) (s.sh.sheet - 1).toNat 6 (startCmd m.toNat s))) := by
  show (match streamOf s (par s m 0 2) with | none => _ | some _ => if !ctxIdle s (par s m 0 2) then _ else _) = _
  rw [found, idle]
  rfl

/-- Settles O36. -/
theorem evidenceCommandsTakeEffect : Obligations.EvidenceCommandsTakeEffect := by
  unfold Obligations.EvidenceCommandsTakeEffect
  intro s m a ha room
  subst ha
  refine ⟨fun h still => ?_, fun h still => ?_, fun h go noFail notYet ready set big => ?_, fun h halt running ready none => ?_, fun h => ?_,
    fun h idle fresh aligned => ?_, fun x h found idle keep => ?_, fun x h found idle shut => ?_, fun x h found idle => ?_,
    storeRelease_releases room⟩
  · exact effect_of_state h (if_neg (Bool.eq_false_iff.mp still)) room (.of_host rfl)
  · exact effect_of_state h (if_neg (Bool.eq_false_iff.mp still)) room (.of_host rfl)
  · obtain ⟨ap, runs, owned⟩ := evidenceStart_runs (startCmd m.toNat s)
    refine ends_of_body h (bs := []) (u := evidenceStart (startCmd m.toNat s)) ?_ (Nat.zero_le _) room ap fun t _ r => ⟨?_, fun u mem => ?_⟩
    · refine (if_neg ?_).trans ((if_pos go).trans ((if_neg notYet).trans (if_neg ?_)))
      · show ¬(decide (s.ev.state = .powerFail) || s.pow.storeReinit) = true
        rw [decide_eq_false noFail, ready]
        decide
      · rw [Bool.or_eq_true, not_or, Option.isNone_iff_eq_none, List.any_eq_true]
        refine ⟨fun e => ?_, fun ⟨l, mem, small⟩ => ?_⟩
        · rw [show s.ev.set = none from e] at set
          exact Bool.false_ne_true set
        · exact absurd (of_decide_eq_true small) (Nat.not_lt.mpr (big l mem))
    · rw [r.ev, runs]
    · unfold lockOf
      rw [r.dov]
      have o := owned u mem
      unfold UnitOwned lockOf at o
      rw [o]
      exact reservedUnits_identity mem
  · obtain ⟨ap, stopped, calm⟩ := evidenceStop_stops (startCmd m.toNat s)
    refine ends_of_body h (bs := []) (u := evidenceStop (startCmd m.toNat s)) ?_ (Nat.zero_le _) room ap fun t _ r => ⟨?_, ?_⟩
    · refine (if_neg ?_).trans ((if_neg ?_).trans ((if_neg ?_).trans (congrArg okCmd (if_pos running))))
      · show ¬(decide (s.ev.state = .powerFail) || s.pow.storeReinit) = true
        rw [running, ready]
        decide
      · exact fun e => absurd (halt.symm.trans e) (by decide)
      · rw [show openStreams (startCmd m.toNat s) = [] from none]
        decide
    · rw [r.ev, stopped]
    · rw [r.ev, calm]
  · exact effect_of_state h rfl room (.of_host rfl)
  · refine ends_of_body h ?_ (Nat.zero_le _) room ((ctxWrite_apart _ _ _ _).trans (updEv_apart _ _)) fun t ret r => ⟨ret, r⟩
    refine if_neg ?_
    show ¬(!ctxIdle s (par s m 0 2) || (streamOf s (par s m 0 2)).isSome || (par s m 12 4 == 0 && !s.sh.aligned)) = true
    rw [idle, fresh]
    by_cases zero : par s m 12 4 = 0
    · rw [aligned zero]
      simp
    · rw [beq_eq_false_iff_ne.mpr zero]
      simp
  · refine effect_of_state h ?_ room (closeReam_builds _ _ _ _).1
    exact (streamClose_closes found idle).trans (if_pos keep)
  · obtain ⟨ap, built⟩ := closeReam_builds (par s m 0 2) (s.sh.sheet - 1).toNat 6 (startCmd m.toNat s)
    obtain ⟨ap', built', gone⟩ := streamShut_shuts (par s m 0 2) (closeReam (par s m 0 2) (s.sh.sheet - 1).toNat 6 (startCmd m.toNat s))
    refine ends_of_body h (bs := []) ((streamClose_closes found idle).trans (if_neg fun e => Nat.one_ne_zero (shut.symm.trans e))) (Nat.zero_le _) room
      (ap.trans ap') fun t _ r => ⟨?_, ?_⟩
    · unfold streamOf at gone ⊢
      rw [r.ev]
      exact gone
    · rw [r.ev, built', built]
      rfl
  · refine ends_of_body h ?_ (Nat.zero_le _) room ((updEv_apart _ _).trans (rewriteSupers_apart _)) fun t ret r => ⟨ret, r⟩
    show (match streamOf s (par s m 0 2) with | none => _ | some x => if !ctxIdle s (par s m 0 2) then _ else _) = _
    rw [found, idle]
    rfl

end Sys2Proof.Machine
end

section
/-!
PROOFS. Lifecycle, fuse and key commands take effect (O49).
-/
namespace Sys2Proof.Machine

/-! ## Lengths of what the key commands return -/

theorem xorBytes_length_le (a b : List Byte) : (xorBytes a b).length ≤ a.length := by
  rw [xorBytes, List.length_map, List.length_zip]
  exact Nat.min_le_left _ _

theorem beBytes_length (n v : Nat) : (beBytes n v).length = n := by simp [beBytes, leBytes_length]

/-- A wrapped key is no longer than its key with 36 bytes more. -/
theorem wrapKey_length_le (s : State) (kind keyId : Nat) (key : List Byte) : (wrapKey s kind keyId key).length ≤ key.length + 36 := by
  have c := xorBytes_length_le key (gcmStream (deviceKey s) (randomBytes s 12) key.length)
  have t := xorBytes_length_le (beBytes 16 (ghash (beNat (aesBlock (deviceKey s) (zeros 16)))
    (pad16 (blobAad (blobHead kind keyId)) ++ pad16 (xorBytes key (gcmStream (deviceKey s) (randomBytes s 12) key.length)) ++
      beBytes 8 (8 * (blobAad (blobHead kind keyId)).length) ++
      beBytes 8 (8 * (xorBytes key (gcmStream (deviceKey s) (randomBytes s 12) key.length)).length))))
    (aesBlock (deviceKey s) (randomBytes s 12 ++ beBytes 4 1))
  rw [beBytes_length] at t
  have b : (wrapKey s kind keyId key).length = 20 + (gcmSeal (deviceKey s) (randomBytes s 12) (blobAad (blobHead kind keyId)) key).1.length +
      (gcmSeal (deviceKey s) (randomBytes s 12) (blobAad (blobHead kind keyId)) key).2.length := by
    simp [wrapKey, blobHead, layout, leBytes_length, randomBytes]
    omega
  rw [b]
  show 20 + (xorBytes key _).length + (gcmTag _ _ _ _).length ≤ _
  exact Nat.le_trans (Nat.add_le_add (Nat.add_le_add_left c 20) t) (by omega)

theorem randomBytes_length (s : State) (n : Nat) : (randomBytes s n).length = n := by simp [randomBytes]

/-! ## Slots -/

theorem drawBytes_reports (n : Nat) (s : State) : Reports s (drawBytes n s) :=
  ⟨rfl, rfl, rfl, rfl, rfl, rfl, rfl, .refl _, rfl, rfl, rfl, rfl, rfl, rfl, rfl, rfl, rfl, rfl⟩

theorem issueWrite_sec (mem block tag : Nat) (item : StoreItem) (data : List Byte) (s : State) :
    (issueWrite mem block tag item data s).sec = s.sec := by
  unfold issueWrite
  dsimp only
  split <;> rfl

theorem rewriteSupers_sec (s : State) : (rewriteSupers s).sec = s.sec := by
  unfold rewriteSupers
  split
  · rfl
  · exact foldl_leaves (·.sec) (fun _ _ => issueWrite_sec _ _ _ _ _ _) _ _

/-- The slot that changes, and the superblocks that list it. -/
def slotPut (p : List Byte) (k : KeySlot) (s : State) : State :=
  if leAt p 0 1 = 1 then rewriteSupers (updSec (fun c => { c with keys := tabSet {} c.keys (slotPlace p) k }) s)
  else updSec (fun c => { c with keys := tabSet {} c.keys (slotPlace p) k }) s

theorem changeSlot_put (p : List Byte) (k : KeySlot) (s : State) :
    changeSlot p k s = raise 462 [(leAt p 0 1, 8), (leAt p 1 1, 8)] (slotPut p k s) := rfl

theorem updSec_apart (f : Secure → Secure) (s : State) : Apart s (updSec f s) := .of_host rfl

theorem changeSlot_apart (p : List Byte) (k : KeySlot) (s : State) : Apart s (changeSlot p k s) := by
  rw [changeSlot_put]
  refine .trans ?_ (raise_apart _ _ _)
  exact .ite ((updSec_apart _ s).trans (rewriteSupers_apart _)) (updSec_apart _ s)

/-- The key slots after one has changed. -/
theorem changeSlot_keys (p : List Byte) (k : KeySlot) (s : State) :
    (changeSlot p k s).sec.keys = tabSet {} s.sec.keys (slotPlace p) k := by
  rw [changeSlot_put, (raise_reports _ _ _).sec]
  show (slotPut p k s).sec.keys = _
  unfold slotPut
  split
  · rw [rewriteSupers_sec]
    rfl
  · rfl

theorem keySlot_changed {p : List Byte} {k : KeySlot} {s t : State} (r : Reports (changeSlot p k s) t) :
    keySlot t (slotPlace p) = k ∧ ∀ i, i ≠ slotPlace p → keySlot t i = keySlot s i := by
  have keys : t.sec.keys = tabSet {} s.sec.keys (slotPlace p) k := by
    rw [r.sec]
    exact changeSlot_keys p k s
  unfold keySlot
  rw [keys]
  exact ⟨tabGet_set_self _ _ _ _, fun i other => tabGet_set_of_ne _ _ _ other⟩

/-! ## The commands on keys -/

theorem keyGenerate_generates {s : State} {m : BitVec 4} (room : completionRoom s = true) (h : Accepted keyGenerate m s)
    (free : slotInUse s (mbxPayload s m.toNat) = false) : Ends (exec (.keyGenerate m) s) m s (fun t =>
      ∃ key iv : List Byte, key.length = 32 ∧ iv.length = 12 ∧
        keySlot t (slotPlace (mbxPayload s m.toNat)) = { kind := par s m 0 1, keyId := BitVec.ofNat 32 (par s m 4 4), key := key } ∧
        Returns m (blobHead (par s m 0 1) (par s m 4 4) ++ iv ++
          (gcmSeal (deviceKey s) iv (blobAad (blobHead (par s m 0 1) (par s m 4 4))) key).1 ++
          (gcmSeal (deviceKey s) iv (blobAad (blobHead (par s m 0 1) (par s m 4 4))) key).2 ++
          if par s m 0 1 = 1 then edPublic key else []) t ∧
        ∀ i, i ≠ slotPlace (mbxPayload s m.toNat) → keySlot t i = keySlot s i) := by
  obtain ⟨key, hkey⟩ : ∃ key, key = randomBytes (startCmd m.toNat s) 32 := ⟨_, rfl⟩
  have long : key.length = 32 := hkey ▸ randomBytes_length _ _
  obtain ⟨v, hv⟩ : ∃ v, v = drawBytes 32 (startCmd m.toNat s) := ⟨_, rfl⟩
  have body : bodyOf keyGenerate m s = okCmd (changeSlot (mbxPayload s m.toNat)
      { kind := par s m 0 1, keyId := BitVec.ofNat 32 (par s m 4 4), key := key } (drawBytes 12 v))
      (wrapKey v (par s m 0 1) (par s m 4 4) key ++ if true && par s m 0 1 = 1 then edPublic key else []) := by
    rw [hkey, hv]
    exact if_neg (Bool.eq_false_iff.mp free)
  have len : (wrapKey v (par s m 0 1) (par s m 4 4) key ++ if true && par s m 0 1 = 1 then edPublic key else []).length ≤ 240 := by
    have w := wrapKey_length_le v (par s m 0 1) (par s m 4 4) key
    have e : (edPublic key).length = 32 := leBytes_length _ _
    rw [List.length_append]
    split
    · omega
    · exact Nat.le_trans w (by omega)
  refine ends_of_body h body len room (.trans (b := drawBytes 12 v) (by rw [hv]; exact .of_host rfl) (changeSlot_apart _ _ _)) fun t ret r => ?_
  obtain ⟨self, others⟩ := keySlot_changed r
  refine ⟨key, randomBytes v 12, long, randomBytes_length _ _, self, ?_, fun i other => (others i other).trans ?_⟩
  · have same : deviceKey v = deviceKey s := by
      rw [hv]
      rfl
    simpa [wrapKey, same] using ret
  · rw [hv]
    rfl

theorem keyLoadPlain_loads {s : State} {m : BitVec 4} (room : completionRoom s = true) (h : Accepted keyLoadPlain m s)
    (free : slotInUse s (mbxPayload s m.toNat) = false) : Ends (exec (.keyLoadPlain m) s) m s (fun t =>
      keySlot t (slotPlace (mbxPayload s m.toNat)) =
        { kind := par s m 0 1, keyId := BitVec.ofNat 32 (par s m 4 4), key := bytesAt (mbxPayload s m.toNat) 8 32 } ∧
      (∃ iv : List Byte, iv.length = 12 ∧ Returns m (blobHead (par s m 0 1) (par s m 4 4) ++ iv ++
        (gcmSeal (deviceKey s) iv (blobAad (blobHead (par s m 0 1) (par s m 4 4))) (bytesAt (mbxPayload s m.toNat) 8 32)).1 ++
        (gcmSeal (deviceKey s) iv (blobAad (blobHead (par s m 0 1) (par s m 4 4))) (bytesAt (mbxPayload s m.toNat) 8 32)).2) t) ∧
      ∀ i, i ≠ slotPlace (mbxPayload s m.toNat) → keySlot t i = keySlot s i) := by
  have short : (bytesAt (mbxPayload s m.toNat) 8 32).length ≤ 32 := by
    rw [bytesAt, List.length_take]
    exact Nat.min_le_left _ _
  have body : bodyOf keyLoadPlain m s = okCmd (changeSlot (mbxPayload s m.toNat)
      { kind := par s m 0 1, keyId := BitVec.ofNat 32 (par s m 4 4), key := bytesAt (mbxPayload s m.toNat) 8 32 }
        (drawBytes 12 (startCmd m.toNat s)))
      (wrapKey (startCmd m.toNat s) (par s m 0 1) (par s m 4 4) (bytesAt (mbxPayload s m.toNat) 8 32) ++ []) :=
    if_neg (Bool.eq_false_iff.mp free)
  have len : (wrapKey (startCmd m.toNat s) (par s m 0 1) (par s m 4 4) (bytesAt (mbxPayload s m.toNat) 8 32) ++ []).length ≤ 240 := by
    have w := wrapKey_length_le (startCmd m.toNat s) (par s m 0 1) (par s m 4 4) (bytesAt (mbxPayload s m.toNat) 8 32)
    rw [List.append_nil]
    omega
  refine ends_of_body h body len room (.trans (b := drawBytes 12 (startCmd m.toNat s)) (.of_host rfl) (changeSlot_apart _ _ _))
    fun t ret r => ?_
  obtain ⟨self, others⟩ := keySlot_changed r
  rw [List.append_nil] at ret
  exact ⟨self, ⟨randomBytes (startCmd m.toNat s) 12, randomBytes_length _ _, ret⟩, fun i other => others i other⟩

theorem keyDelete_deletes {s : State} {m : BitVec 4} (room : completionRoom s = true) (h : Accepted keyDelete m s)
    (free : slotInUse s (mbxPayload s m.toNat) = false) : Ends (exec (.keyDelete m) s) m s (fun t =>
      ((keySlot s (slotPlace (mbxPayload s m.toNat))).kind ≠ 0 → keySlot t (slotPlace (mbxPayload s m.toNat)) = {}) ∧
      ∀ i, i ≠ slotPlace (mbxPayload s m.toNat) → keySlot t i = keySlot s i) := by
  by_cases empty : (keySlot s (slotPlace (mbxPayload s m.toNat))).kind = 0
  · refine ends_of_body h (bs := []) ((if_neg (Bool.eq_false_iff.mp free)).trans (congrArg okCmd (if_pos empty))) (Nat.zero_le _) room (.refl _)
      fun t _ r => ⟨fun used => absurd empty used, fun i _ => ?_⟩
    unfold keySlot
    rw [r.sec]
    rfl
  · refine ends_of_body h (bs := []) ((if_neg (Bool.eq_false_iff.mp free)).trans (congrArg okCmd (if_neg empty))) (Nat.zero_le _) room
      (changeSlot_apart _ _ _) fun t _ r => ?_
    obtain ⟨self, others⟩ := keySlot_changed r
    exact ⟨fun _ => self, others⟩

/-! ## Fuses and levels -/

/-- What the report of an attached level leaves alone. -/
theorem noteAttach_leaves (on : Bool) (s : State) : (noteAttach on s).host = s.host ∧ (noteAttach on s).sec = s.sec ∧
    (noteAttach on s).cores = s.cores := by
  have put (a n v : Nat) (s : State) : (putField a n v s).host = s.host ∧ (putField a n v s).sec = s.sec ∧
      (putField a n v s).cores = s.cores := by
    unfold putField
    rw [dramWrite_frame]
    exact ⟨rfl, rfl, rfl⟩
  unfold noteAttach
  dsimp only
  split
  · split
    · exact put _ _ _ _
    · exact ⟨rfl, rfl, rfl⟩
  · split
    · exact put _ _ _ _
    · exact ⟨rfl, rfl, rfl⟩
  · split
    · exact put _ _ _ _
    · exact ⟨rfl, rfl, rfl⟩
  · exact ⟨rfl, rfl, rfl⟩

/-- The end of a change of level: the path is told, and the change reported. -/
def levelTold (level old : Nat) (path : Bool) (s : State) : State :=
  let s := if 2 ≤ level || 2 ≤ old then noteAttach (decide (2 ≤ level)) s else s
  if level = old then s
  else raise 456 [(level, 8), (b2n path, 8)] (setFlag 0x6C4 (if old < level then 0 else 1) s)

theorem levelTold_tells (level old : Nat) (path : Bool) (s : State) : Apart s (levelTold level old path s) ∧
    (levelTold level old path s).sec = { s.sec with trace := (levelTold level old path s).sec.trace } ∧
    (levelTold level old path s).cores = s.cores := by
  obtain ⟨u, hu⟩ : ∃ u, u = if 2 ≤ level || 2 ≤ old then noteAttach (decide (2 ≤ level)) s else s := ⟨_, rfl⟩
  have leaves : u.host = s.host ∧ u.sec = s.sec ∧ u.cores = s.cores := by
    rw [hu]
    split
    · exact noteAttach_leaves _ s
    · exact ⟨rfl, rfl, rfl⟩
  obtain ⟨host, sec, cores⟩ := leaves
  unfold levelTold
  rw [← hu]
  dsimp only
  split
  · exact ⟨.of_host host, by rw [sec], cores⟩
  · obtain ⟨v, hv⟩ : ∃ v, v = setFlag 0x6C4 (if old < level then 0 else 1) u := ⟨_, rfl⟩
    have r := raise_reports 456 [(level, 8), (b2n path, 8)] v
    rw [← hv]
    refine ⟨((Apart.of_host host).trans ((setFlag_apart _ _ _).trans (by rw [← hv]; exact .refl _))).trans (raise_apart _ _ v), ?_, ?_⟩
    · have same : v.sec = s.sec := by
        rw [hv]
        exact sec
      rw [← same]
      exact r.sec
    · rw [r.cores, hv]
      exact cores

/-- D2 and D3 leave the stops alone. -/
theorem setLevel_high {level : Nat} (high : 2 ≤ level) (path : Bool) (s : State) : setLevel level path s =
    levelTold level s.sec.level path (updSec (fun c => { c with level := level, path := path }) s) := by
  have e1 : (decide (level < 2) && decide (2 ≤ s.sec.level)) = false := by
    rw [decide_eq_false (Nat.not_lt.mpr high), Bool.false_and]
  have e2 : ¬level = 0 := by omega
  unfold setLevel levelTold
  dsimp only
  rw [e1, if_neg Bool.false_ne_true, if_neg e2]

theorem setLevel_high_leaves {level : Nat} (high : 2 ≤ level) (path : Bool) (s : State) : Apart s (setLevel level path s) ∧
    (setLevel level path s).sec = { s.sec with level := level, path := path, trace := (setLevel level path s).sec.trace } := by
  rw [setLevel_high high]
  obtain ⟨ap, sec, -⟩ := levelTold_tells level s.sec.level path (updSec (fun c => { c with level := level, path := path }) s)
  exact ⟨(updSec_apart _ s).trans ap, sec⟩

/-- The lifecycle's fuse blown, with the keys that RETIRED erases. -/
def cycleBlown (t : Nat) (s : State) : State :=
  updSec (fun c => { c with
    fuses := if t = 1 then { c.fuses with deployed := true } else { c.fuses with retired := true }, keys := if t = 2 then [] else c.keys }) s

/-- D3 ends with the lifecycle that granted it. -/
def cycleLevel (s : State) : State := if 2 < s.sec.level then setLevel 2 s.sec.path s else s

/-- What LIFECYCLE_ADVANCE leaves. -/
def cycleTold (t : Nat) (s : State) : State := raise 461 [(t, 8)] (if t = 2 then rewriteSupers s else s)

theorem cycleLevel_leaves (s : State) : Apart s (cycleLevel s) ∧ (cycleLevel s).sec.fuses = s.sec.fuses ∧
    (cycleLevel s).sec.keys = s.sec.keys := by
  unfold cycleLevel
  split
  · obtain ⟨ap, sec⟩ := setLevel_high_leaves (level := 2) (Nat.le_refl 2) s.sec.path s
    exact ⟨ap, by rw [sec], by rw [sec]⟩
  · exact ⟨.refl s, rfl, rfl⟩

theorem cycleTold_leaves (t : Nat) (s : State) : Apart s (cycleTold t s) ∧ (cycleTold t s).sec.fuses = s.sec.fuses ∧
    (cycleTold t s).sec.keys = s.sec.keys := by
  have sec : (if t = 2 then rewriteSupers s else s).sec = s.sec := by
    split
    · exact rewriteSupers_sec s
    · rfl
  have r := raise_reports 461 [(t, 8)] (if t = 2 then rewriteSupers s else s)
  refine ⟨.trans (.ite (rewriteSupers_apart s) (.refl s)) (raise_apart 461 [(t, 8)] _), ?_, ?_⟩
  · unfold cycleTold
    rw [r.sec]
    show (if t = 2 then rewriteSupers s else s).sec.fuses = _
    rw [sec]
  · unfold cycleTold
    rw [r.sec]
    show (if t = 2 then rewriteSupers s else s).sec.keys = _
    rw [sec]

theorem lifecycleAdvance_advances {s : State} {m : BitVec 4} (room : completionRoom s = true) {same : Bool} (h : Accepted lifecycleAdvance m s)
    (hs : same = decide (par s m 4 4 = Config.serial.toNat % 2 ^ 32)) (still : s.ev.state ≠ .running)
    (key : par s m 0 1 = 1 → s.sec.fuses.deviceKey.isSome = true) : ∃ t, exec (.lifecycleAdvance m) s = .next t ∧
      Completed m (if same then 0 else 3) s t ∧
      t.sec.fuses = (if !same then s.sec.fuses else if par s m 0 1 = 1 then { s.sec.fuses with deployed := true }
        else { s.sec.fuses with retired := true }) ∧
      t.sec.keys = if same ∧ par s m 0 1 = 2 then [] else s.sec.keys := by
  by_cases mine : par s m 4 4 = Config.serial.toNat % 2 ^ 32
  · obtain rfl : same = true := hs.trans (decide_eq_true mine)
    obtain ⟨ap1, fuses1, keys1⟩ := cycleLevel_leaves (cycleBlown (par s m 0 1) (startCmd m.toNat s))
    obtain ⟨ap2, fuses2, keys2⟩ := cycleTold_leaves (par s m 0 1) (cycleLevel (cycleBlown (par s m 0 1) (startCmd m.toNat s)))
    refine ends_of_body h (bs := []) (u := cycleTold (par s m 0 1) (cycleLevel (cycleBlown (par s m 0 1) (startCmd m.toNat s))))
      (if_neg ?_) (Nat.zero_le _) room (((updSec_apart _ _).trans ap1).trans ap2) fun t _ r => ⟨?_, ?_⟩
    · show ¬(decide (par s m 4 4 ≠ Config.serial.toNat % 2 ^ 32) || decide (s.ev.state = .running) ||
        (decide (par s m 0 1 = 1) && s.sec.fuses.deviceKey.isNone)) = true
      rw [decide_eq_false (Classical.not_not.mpr mine), decide_eq_false still]
      by_cases one : par s m 0 1 = 1
      · rw [← Option.not_isSome, key one]
        simp
      · rw [decide_eq_false one]
        simp
    · rw [r.sec]
      exact fuses2.trans fuses1
    · rw [r.sec]
      refine (keys2.trans keys1).trans ?_
      show (if par s m 0 1 = 2 then [] else s.sec.keys) = _
      simp
  · obtain rfl : same = false := hs.trans (decide_eq_false mine)
    obtain ⟨done, rep⟩ := completes_with_status h (u := startCmd m.toNat s) (st := 3) (d := 0) (if_pos (by
      show (decide (par s m 4 4 ≠ Config.serial.toNat % 2 ^ 32) || decide (s.ev.state = .running) ||
        (decide (par s m 0 1 = 1) && s.sec.fuses.deviceKey.isNone)) = true
      rw [decide_eq_true mine]
      rfl)) room (.refl _)
    refine ⟨_, rfl, done, ?_, ?_⟩
    · rw [rep.sec]
      rfl
    · rw [rep.sec]
      simp [startCmd]

/-- Checks that all hold find nothing bad. -/
theorem firstBad_of_all {cs : List (Nat × Bool)} (h : ∀ k ∈ cs, k.2 = true) : firstBad cs = none := by
  have none : cs.filter (fun c => !c.2) = [] := List.filter_eq_nil_iff.mpr fun k mem => by simp [h k mem]
  rw [firstBad, none]
  rfl

/-- A check that fails is found. -/
theorem firstBad_of_mem {cs : List (Nat × Bool)} {k : Nat × Bool} (mem : k ∈ cs) (bad : k.2 = false) : ∃ o, firstBad cs = some o := by
  cases found : firstBad cs with
  | some o => exact ⟨o, rfl⟩
  | none => exact nomatch (firstBad_none found k mem).symm.trans bad

/-- A command that only leaves a state and a status, whatever it was sent. -/
def plainCmd (op st d : Nat) (u : State) : CmdSpec := { op := op, body := fun _ _ _ => { state := u, status := st, detail := d } }

/-- A command that the device answers with a status. -/
theorem answers_with_status {c : CmdSpec} {m : BitVec 4} {s u : State} {st d : Nat} (start : mayStart s m.toNat = true)
    (op : mbxOpcode s m.toNat = c.op) (header : headerFault s m.toNat false = none)
    (granted : cmdDenied s c.op (mbxPayload s m.toNat) = false) (furnish : furnishOp c.op = false)
    (out : cmdOutcome c m.toNat (startCmd m.toNat s) = { state := u, status := st, detail := d }) (room : completionRoom s = true)
    (ap : Apart (startCmd m.toNat s) u) :
    Completed m (BitVec.ofNat 8 st) s (runCmd c m s) ∧ Reports u (runCmd c m s) := by
  have h : Accepted (plainCmd c.op st d u) m s := ⟨op, start, header, granted, by
    show (furnishOp c.op && _) = false
    rw [furnish, Bool.false_and], (fun e => nomatch e), rfl⟩
  have same : runCmd c m s = runCmd (plainCmd c.op st d u) m s := by
    rw [runCmd_accepted h]
    unfold runCmd
    rw [if_pos (by rw [start, op, beq_self_eq_true]; rfl), out]
    rfl
  rw [same]
  exact completes_with_status h rfl room ap

/-- The key of a blob that verifies is loaded. -/
theorem keyImport_imports {s : State} {m : BitVec 4} (room : completionRoom s = true) {key : List Byte} (start : mayStart s m.toNat = true)
    (op : mbxOpcode s m.toNat = 0x0B11) (header : headerFault s m.toNat false = none) (cycle : s.sec.lifecycle ≠ 2)
    (long : 72 ≤ (mbxPayload s m.toNat).length)
    (sound : firstBad (slotChecks (mbxPayload s m.toNat) ++ [rsv (mbxPayload s m.toNat) 2 2]) = none)
    (free : slotInUse s (mbxPayload s m.toNat) = false)
    (unwraps : unwrapKey s (par s m 0 1) (bytesAt (mbxPayload s m.toNat) 4 68) = some key) :
    Ends (exec (.keyImport m) s) m s (fun t => keySlot t (slotPlace (mbxPayload s m.toNat)) =
      { kind := par s m 0 1, keyId := BitVec.ofNat 32 (par s m 4 4), key := key }) := by
  have all : ∀ k ∈ keyImport.checks (startCmd m.toNat s) (mbxPayload s m.toNat), k.2 = true := by
    intro k mem
    have good := firstBad_none sound
    rw [show keyImport.checks (startCmd m.toNat s) (mbxPayload s m.toNat) = (slotChecks (mbxPayload s m.toNat) ++
      [rsv (mbxPayload s m.toNat) 2 2]) ++ [(4, (unwrapKey s (par s m 0 1) (bytesAt (mbxPayload s m.toNat) 4 68)).isSome)] by
        rw [List.append_assoc]
        rfl] at mem
    rcases List.mem_append.mp mem with old | last
    · exact good k old
    · rw [List.mem_singleton.mp last, unwraps]
      rfl
  have h : Accepted keyImport m s := by
    refine ⟨op, start, header, ?_, rfl, (fun e => nomatch e), ?_⟩
    · show (s.sec.lifecycle == 2) = false
      exact beq_eq_false_iff_ne.mpr cycle
    · unfold payloadFault
      rw [if_neg (show ¬_ < keyImport.fixed from Nat.not_lt.mpr long), firstBad_of_all fun k mem => all k (List.mem_filter.mp mem).1]
      exact (if_neg (Nat.not_lt_zero _)).trans (firstBad_of_all all)
  refine ends_of_body h (bs := []) (if_neg (Bool.eq_false_iff.mp free)) (Nat.zero_le _) room (changeSlot_apart _ _ _) fun t _ r => ?_
  obtain ⟨self, -⟩ := keySlot_changed r
  rw [self, show unwrapKey (startCmd m.toNat s) (leAt (mbxPayload s m.toNat) 0 1) (bytesAt (mbxPayload s m.toNat) 4 68) = some key from unwraps]
  rfl

/-- A blob that does not verify is a bad payload. -/
theorem keyImport_refuses {s : State} {m : BitVec 4} (room : completionRoom s = true) (start : mayStart s m.toNat = true)
    (op : mbxOpcode s m.toNat = 0x0B11) (header : headerFault s m.toNat false = none) (cycle : s.sec.lifecycle ≠ 2)
    (long : 72 ≤ (mbxPayload s m.toNat).length)
    (unwraps : unwrapKey s (par s m 0 1) (bytesAt (mbxPayload s m.toNat) 4 68) = none) :
    Completed m 2 s (runCmd keyImport m s) ∧ Reports (startCmd m.toNat s) (runCmd keyImport m s) := by
  have denied : cmdDenied s keyImport.op (mbxPayload s m.toNat) = false := beq_eq_false_iff_ne.mpr cycle
  obtain ⟨o, bad⟩ := firstBad_of_mem (cs := (keyImport.checks (startCmd m.toNat s) (mbxPayload s m.toNat)).filter (fun k => k.1 < 72))
    (k := (4, (unwrapKey s (par s m 0 1) (bytesAt (mbxPayload s m.toNat) 4 68)).isSome)) (by
      refine List.mem_filter.mpr ⟨List.mem_append_right _ (List.mem_cons_of_mem _ List.mem_cons_self), by simp⟩) (by rw [unwraps]; rfl)
  refine answers_with_status (st := 2) (d := o) start op header denied rfl ?_ room (.refl _)
  unfold cmdOutcome
  dsimp only
  rw [show headerFault (startCmd m.toNat s) m.toNat keyImport.load = none from header]
  dsimp only
  rw [show cmdDenied (startCmd m.toNat s) keyImport.op (mbxPayload (startCmd m.toNat s) m.toNat) = false from denied]
  have fault : payloadFault keyImport (startCmd m.toNat s) (mbxPayload s m.toNat) = some o := by
    unfold payloadFault
    rw [if_neg (show ¬_ < keyImport.fixed from Nat.not_lt.mpr long), show firstBad ((keyImport.checks (startCmd m.toNat s) (mbxPayload s m.toNat)).filter
      (fun k => k.1 < keyImport.fixed)) = some o from bad]
  show (match payloadFault keyImport (startCmd m.toNat s) (mbxPayload s m.toNat) with | some o => _ | none => _) = _
  rw [fault]
  rfl

/-- Settles O49. -/
theorem securityCommandsTakeEffect : Obligations.SecurityCommandsTakeEffect := by
  unfold Obligations.SecurityCommandsTakeEffect
  intro s m room
  refine ⟨fun same h hs still key => ?_, fun h zero blank => ?_, fun h one blank => ?_, fun h other left => ?_, fun h => ?_, fun h => ?_,
    keyGenerate_generates room, keyLoadPlain_loads room, keyDelete_deletes room, fun key start op header cycle long sound free hk => ?_,
    fun h kind => ?_⟩
  · exact lifecycleAdvance_advances room h hs still key
  · refine ⟨randomBytes (startCmd m.toNat s) 32, randomBytes_length _ _, ?_⟩
    have eff : Effect (exec (.fuseProgram m) s) m s (fun a => drawBytes 32 (updSec (fun c => { c with fuses := { s.sec.fuses with
        deviceKey := some (randomBytes (startCmd m.toNat s) 32) } }) a)) [] := by
      refine effect_of_state h ((if_pos zero).trans (if_neg ?_)) room (.of_host rfl)
      rw [show (startCmd m.toNat s).sec.fuses.deviceKey = none from blank]
      decide
    exact eff.weaken (drawBytes_reports _ _)
  · refine effect_of_state h ((if_neg fun e => Nat.one_ne_zero (one.symm.trans e)).trans (if_neg ?_)) room (.of_host rfl)
    rw [show (startCmd m.toNat s).sec.fuses.debugKey = none from blank]
    decide
  · refine effect_of_state h (if_neg ?_) room (.of_host rfl)
    show ¬(decide (par s m 0 1 = s.pow.keyIndex) ||
      decide ((List.range 4).filter (fun k => !s.sec.fuses.revoke.getLsbD k) = [par s m 0 1])) = true
    obtain ⟨k, small, ne, unrevoked⟩ := left
    have mem : k ∈ (List.range 4).filter (fun k => !s.sec.fuses.revoke.getLsbD k) :=
      List.mem_filter.mpr ⟨List.mem_range.mpr small, by rw [unrevoked]; rfl⟩
    rw [decide_eq_false other, decide_eq_false (p := _ = [par s m 0 1]) fun e => ne (List.mem_singleton.mp (by rw [← e]; exact mem))]
    decide
  · have above : s.sec.fuses.rollback < par s m 0 1 := by
      have ok := h.checked _ List.mem_cons_self
      simp only [Bool.and_eq_true, decide_eq_true_eq] at ok
      exact ok.1.2
    refine ⟨above, ?_⟩
    have eff : Effect (exec (.rollbackAdvance m) s) m s (updSec (fun c => { c with fuses := { c.fuses with
        rollback := max c.fuses.rollback (par s m 0 1) } })) [] := effect_of_state h rfl room (.of_host rfl)
    obtain ⟨t, runs, done, ret, r⟩ := eff
    have most : max (startCmd m.toNat s).sec.fuses.rollback (par s m 0 1) = par s m 0 1 := Nat.max_eq_right (Nat.le_of_lt above)
    refine ⟨t, runs, done, ret, ?_⟩
    unfold updSec at r ⊢
    dsimp only at r ⊢
    rwa [most] at r
  · refine effect_of_reply h ?_ ?_ room
    · show okCmd (startCmd m.toNat s) (layout [(securityState s, 4), (b2n s.sec.fuses.debugKey.isSome, 1), (0, 3),
        (Config.serial.toNat, 8)] ++ (List.range 4).flatMap (fun i => leBytes 32 (Config.fwKey i).toNat)) = _
      refine congrArg (fun r => okCmd (startCmd m.toNat s) r) ?_
      simp [layout, List.range_succ, leBytes]
    · simp [leBytes_length]
  · cases key with
    | some k => exact keyImport_imports room start op header cycle long sound free hk.symm
    | none =>
      obtain ⟨done, rep⟩ := keyImport_refuses room start op header cycle long hk.symm
      refine ⟨_, rfl, done, ?_⟩
      unfold keySlot
      rw [rep.sec]
      rfl
  · refine effect_of_reply h ?_ ?_ room
    · show okCmd (startCmd m.toNat s) (layout [(b2n ((keySlot s (slotPlace (mbxPayload s m.toNat))).kind != 0), 1), (0, 3),
        ((keySlot s (slotPlace (mbxPayload s m.toNat))).keyId.toNat, 4)] ++
        if (keySlot s (slotPlace (mbxPayload s m.toNat))).kind = 1 then edPublic (keySlot s (slotPlace (mbxPayload s m.toNat))).key
        else zeros 32) = _
      rw [kind, if_pos rfl]
      refine congrArg (fun r => okCmd (startCmd m.toNat s) r) ?_
      simp [layout, leBytes, b2n]
    · simp [leBytes_length, edPublic, edEncode]

end Sys2Proof.Machine
end

section
/-!
PROOFS. Debug commands take effect (O50).
-/
namespace Sys2Proof.Machine

/-! ## Threads frozen and thawed -/

/-- The walk leaves a thread as it is, or makes a ready one run. -/
theorem walk_each (core k : Nat) (s : State) :
    thr (walk core s) k = thr s k ∨ (thr s k).st = .ready ∧ thr (walk core s) k = { thr s k with st := .run } := by
  by_cases ready : isReady s k = true
  · unfold walk
    split
    · exact .inl rfl
    · split
      · exact .inl rfl
      · next e t found =>
        dsimp only
        rw [thr_of_reports (trace_reports _ _ _ _ _), thr_of_reports (count_reports _ _ _ _ _)]
        by_cases same : k = t
        · subst same
          rw [thr_updThr_self]
          exact .inr ⟨of_decide_eq_true ready, rfl⟩
        · rw [thr_updThr_of_ne _ _ same]
          exact .inl rfl
  · exact .inl (walk_thr core (Bool.eq_false_iff.mpr ready))

theorem walk_pc (core k : Nat) (s : State) : (thr (walk core s) k).pc = (thr s k).pc := by
  rcases walk_each core k s with e | ⟨-, e⟩ <;> rw [e]

theorem walk_frozen {core k : Nat} {s : State} (h : (thr s k).st = .frozen) : (thr (walk core s) k).st = .frozen := by
  rcases walk_each core k s with e | ⟨ready, -⟩
  · rw [e, h]
  · exact nomatch h.symm.trans ready

theorem thr_setThr_self (t : Nat) (x : Thread) (s : State) : thr (setThr t x s) t = x := tabGet_set_self _ _ _ _

theorem thr_setThr_of_ne {t k : Nat} (x : Thread) (s : State) (h : k ≠ t) : thr (setThr t x s) k = thr s k := tabGet_set_of_ne _ _ _ h

theorem freezeThread_self (t : Nat) (s : State) : (thr (freezeThread t s) t).st = .frozen := by
  unfold freezeThread
  dsimp only
  split
  · next h => exact h
  · exact walk_frozen (by rw [thr_setThr_self])

theorem freezeThread_frozen (t : Nat) {k : Nat} {s : State} (h : (thr s k).st = .frozen) : (thr (freezeThread t s) k).st = .frozen := by
  by_cases e : k = t
  · exact e ▸ freezeThread_self t s
  · unfold freezeThread
    dsimp only
    split
    · exact h
    · exact walk_frozen (by rw [thr_setThr_of_ne _ _ e, h])

theorem freezeThread_pc (t k : Nat) (s : State) : (thr (freezeThread t s) k).pc = (thr s k).pc := by
  unfold freezeThread
  dsimp only
  split
  · rfl
  · rw [walk_pc]
    by_cases e : k = t
    · rw [e, thr_setThr_self]
    · rw [thr_setThr_of_ne _ _ e]

theorem freezeThreads_frozen {k : Nat} (l : List Nat) {s : State} (h : k ∈ l ∨ (thr s k).st = .frozen) :
    (thr (l.foldl (fun a t => freezeThread t a) s) k).st = .frozen := by
  induction l generalizing s with
  | nil => exact h.resolve_left List.not_mem_nil
  | cons t l ih =>
    refine ih ?_
    rcases h with mem | frozen
    · rcases List.mem_cons.mp mem with e | e
      · exact .inr (e ▸ freezeThread_self t s)
      · exact .inl e
    · exact .inr (freezeThread_frozen t frozen)

theorem freezeThreads_pc (k : Nat) (l : List Nat) (s : State) :
    (thr (l.foldl (fun a t => freezeThread t a) s) k).pc = (thr s k).pc :=
  foldl_leaves (fun a => (thr a k).pc) (fun a t => freezeThread_pc t k a) l s

/-! ## What debug leaves alone -/

/-- Mailboxes stand, and of the debug state only the device's freeze and the trace may differ. -/
structure Debugs (s t : State) : Prop where
  apart : Apart s t
  sec : t.sec = { s.sec with deviceFrozen := t.sec.deviceFrozen, trace := t.sec.trace }

theorem Debugs.refl (s : State) : Debugs s s := ⟨.refl s, rfl⟩

theorem Debugs.trans {s t u : State} (h : Debugs s t) (k : Debugs t u) : Debugs s u :=
  ⟨h.apart.trans k.apart, by rw [k.sec, h.sec]⟩

theorem Debugs.foldl {α : Type} {f : State → α → State} (step : ∀ s x, Debugs s (f s x)) (l : List α) (s : State) :
    Debugs s (l.foldl f s) := by
  induction l generalizing s with
  | nil => exact .refl s
  | cons x l ih => exact (step s x).trans (ih (f s x))

theorem Inside.sec {care : Care} {z t : State} (h : Inside care z t) : t.sec = { z.sec with trace := t.sec.trace } := by
  have e : { t.sec with trace := {} } = { z.sec with trace := {} } := congrArg State.sec h.outside
  have same : t.sec = { ({ t.sec with trace := {} } : Secure) with trace := t.sec.trace } := rfl
  rw [same, e]

theorem Inside.debugs {care : Care} {z t : State} (h : Inside care z t) : Debugs z t := ⟨h.apart, by rw [h.sec]⟩

theorem Debugs.of_reports {s t : State} (ap : Apart s t) (r : Reports s t) : Debugs s t := ⟨ap, by rw [r.sec]⟩

/-- What freezes and thaws say and mark leaves the fences and the marks of frozen clusters. -/
structure Marks (s t : State) : Prop where
  debugs : Debugs s t
  frozen : t.disp.frozen = s.disp.frozen
  device : t.sec.deviceFrozen = s.sec.deviceFrozen

theorem Marks.refl (s : State) : Marks s s := ⟨.refl s, rfl, rfl⟩

theorem Marks.trans {s t u : State} (h : Marks s t) (k : Marks t u) : Marks s u :=
  ⟨h.debugs.trans k.debugs, k.frozen.trans h.frozen, k.device.trans h.device⟩

theorem Inside.marks {care : Care} {z t : State} (h : Inside care z t) : Marks z t := ⟨h.debugs, h.frozen, by rw [h.sec]⟩

theorem Marks.of_reports {s t : State} (ap : Apart s t) (r : Reports s t) : Marks s t :=
  ⟨.of_reports ap r, by rw [r.disp], by rw [r.sec]⟩

/-! ## Scopes -/

theorem enterHandler_inside {care : Care} {z : State} (t : Nat) (cause : BitVec 6) (s : State) (k0 : Inside care z s) :
    Inside care z (enterHandler t cause s) := by
  unfold enterHandler
  exact walk_inside _ _ (updThr_inside _ _ _ (leaveWait_inside _ _ k0))

theorem takeTerminated_inside {care : Care} {z : State} (t : Nat) (s : State) (k0 : Inside care z s) :
    Inside care z (takeTerminated t s) := enterHandler_inside _ _ _ (updThr_inside _ _ _ k0)

theorem thawThread_inside {care : Care} {z : State} (t : Nat) (s : State) (k0 : Inside care z s) : Inside care z (thawThread t s) := by
  unfold thawThread
  have walked := walk_inside (coreOf t) _ (setThr_inside t { thr s t with st := (thr s t).before, before := .free, owed := 0 } s k0)
  exact .ite k0 (.ite walked (.ite (takeTerminated_inside t _ walked) (.ite (enterHandler_inside t 0x20 _ walked) walked)))

theorem freezeThread_inside {care : Care} {z : State} (t : Nat) (s : State) (k0 : Inside care z s) : Inside care z (freezeThread t s) := by
  unfold freezeThread
  exact .ite k0 (walk_inside _ _ (setThr_inside _ _ _ k0))

theorem markFrozen_debugs (scope index : Nat) (on : Bool) (s : State) : Debugs s (markFrozen scope index on s) := by
  unfold markFrozen
  split
  · exact .refl s
  · exact ⟨.of_host rfl, rfl⟩
  · exact ⟨.of_host rfl, rfl⟩

/-- The threads of a scope freeze. -/
def scopeStopped (scope index : Nat) (s : State) : State :=
  (scopeThreads scope index).foldl (fun a t => freezeThread t a) (markFrozen scope index true (stopSpans scope s))

/-- The debug module says that a scope is frozen or thawed. -/
def scopeTold (scope index flag code : Nat) (s : State) : State :=
  trace 5 255 4095 code (raise 458 [(scope, 8), (index, 32)] (setFlag 0x6C4 flag s))

theorem scopeTold_reports (scope index flag code : Nat) (s : State) : Reports s (scopeTold scope index flag code s) :=
  ((setFlag_reports _ _ s).trans (raise_reports _ _ _)).trans (trace_reports _ _ _ _ _)

theorem scopeTold_apart (scope index flag code : Nat) (s : State) : Apart s (scopeTold scope index flag code s) :=
  ((setFlag_apart _ _ s).trans (raise_apart _ _ _)).trans (.ite (pushTrace_apart _ _ _ _ _) (.refl _))

theorem freezeScope_parts (scope index b : Nat) (s : State) :
    freezeScope scope index b s = scopeTold scope index 3 (scope + 256 * b) (count .debug 0 2 1 (scopeStopped scope index s)) := rfl

theorem stopSpans_leaves (scope : Nat) (s : State) : (stopSpans scope s).host = s.host ∧ (stopSpans scope s).cores = s.cores ∧
    (stopSpans scope s).sec = s.sec ∧ (stopSpans scope s).disp = s.disp := by
  unfold stopSpans
  split <;> exact ⟨rfl, rfl, rfl, rfl⟩

theorem markFrozen_device (n index : Nat) (on : Bool) (s : State) : (markFrozen (n + 2) index on s).sec.deviceFrozen = on := rfl

theorem markFrozen_cluster {index : Nat} (small : index < 8) (on : Bool) (s : State) :
    (markFrozen 1 index on s).disp.frozen.getLsbD index = on := by
  cases on with
  | true =>
    show (s.disp.frozen ||| BitVec.ofNat 8 (2 ^ index)).getLsbD index = true
    rw [BitVec.getLsbD_or, getLsbD_pow 8 index index small, decide_eq_true rfl, Bool.or_true]
  | false =>
    show (s.disp.frozen &&& ~~~ BitVec.ofNat 8 (2 ^ index)).getLsbD index = false
    rw [BitVec.getLsbD_and, BitVec.getLsbD_not, getLsbD_pow 8 index index small, decide_eq_true rfl, Bool.not_true, Bool.and_false,
      Bool.and_false]

theorem markFrozen_cores (scope index : Nat) (on : Bool) (s : State) : (markFrozen scope index on s).cores = s.cores := by
  unfold markFrozen
  split <;> rfl

theorem scopeStopped_inside (scope index : Nat) (s : State) :
    Inside ⟨true, true⟩ (markFrozen scope index true (stopSpans scope s)) (scopeStopped scope index s) :=
  Inside.foldl (.refl _) fun _ t h => freezeThread_inside t _ h

/-- Of the threads of a scope each is frozen at its instruction. -/
theorem scopeStopped_threads {scope index k : Nat} (mem : k ∈ scopeThreads scope index) (s : State) :
    (thr (scopeStopped scope index s) k).st = .frozen ∧ (thr (scopeStopped scope index s) k).pc = (thr s k).pc := by
  refine ⟨freezeThreads_frozen _ (.inl mem), (freezeThreads_pc k _ _).trans ?_⟩
  unfold thr
  rw [markFrozen_cores, (stopSpans_leaves scope s).2.1]

theorem freezeScope_debugs (scope index b : Nat) (s : State) : Debugs s (freezeScope scope index b s) := by
  rw [freezeScope_parts]
  obtain ⟨host, -, sec, -⟩ := stopSpans_leaves scope s
  have spans : Debugs s (stopSpans scope s) := ⟨.of_host host, by rw [sec]⟩
  have stopped := (spans.trans (markFrozen_debugs scope index true _)).trans (scopeStopped_inside scope index s).debugs
  exact (stopped.trans (.of_reports (count_apart _ _ _ _ _) (count_reports _ _ _ _ _))).trans
    (.of_reports (scopeTold_apart _ _ _ _ _) (scopeTold_reports _ _ _ _ _))

theorem freezeScope_reports (scope index b : Nat) (s : State) : Reports (scopeStopped scope index s) (freezeScope scope index b s) :=
  (count_reports _ _ _ _ _).trans (scopeTold_reports _ _ _ _ _)

/-- Whether a scope is frozen depends on its mark and, for a thread, on the thread. -/
theorem scopeFrozen_of_eq {s t : State} (scope index : Nat) (cores : t.cores = s.cores) (disp : t.disp.frozen = s.disp.frozen)
    (dev : t.sec.deviceFrozen = s.sec.deviceFrozen) : scopeFrozen t scope index = scopeFrozen s scope index := by
  unfold scopeFrozen thr
  rw [cores, disp, dev]

theorem scopeStopped_thread (index : Nat) (s : State) : scopeFrozen (scopeStopped 0 index s) 0 index = true := by
  obtain ⟨st, -⟩ := scopeStopped_threads (scope := 0) (index := index) (k := index) (List.mem_singleton.mpr rfl) s
  exact decide_eq_true st

theorem scopeStopped_cluster {index : Nat} (small : index < 8) (s : State) : scopeFrozen (scopeStopped 1 index s) 1 index = true :=
  (congrArg (·.getLsbD index) (scopeStopped_inside 1 index s).frozen).trans (markFrozen_cluster small true (stopSpans 1 s))

theorem scopeFrozen_device (n index : Nat) (s : State) : scopeFrozen s (n + 2) index = s.sec.deviceFrozen := rfl

theorem scopeStopped_device (n index : Nat) (s : State) : scopeFrozen (scopeStopped (n + 2) index s) (n + 2) index = true := by
  rw [scopeFrozen_device]
  exact (scopeStopped_inside (n + 2) index s).marks.device.trans (markFrozen_device n index true (stopSpans (n + 2) s))

theorem scopeStopped_frozen {scope index : Nat} (small : scope = 1 → index < 8) (s : State) :
    scopeFrozen (scopeStopped scope index s) scope index = true := by
  match scope with
  | 0 => exact scopeStopped_thread index s
  | 1 => exact scopeStopped_cluster (small rfl) s
  | n + 2 => exact scopeStopped_device n index s

/-- The threads that a released scope lets go. -/
def scopeThawed (scope index : Nat) (s : State) : State :=
  ((scopeThreads scope index).filter (fun t => scope == 0 || !covered (markFrozen scope index false s) t)).foldl
    (fun a t => thawThread t a) (markFrozen scope index false s)

/-- With the device the clocks and counters of its debug go on. -/
def clocksGoOn (scope : Nat) (s : State) : State :=
  if scope = 2 then
    let s := addDebugCounters s
    if s.sh.aligned then ptpStepped s else s
  else s

theorem releaseScope_parts (scope index : Nat) (s : State) :
    releaseScope scope index s = clocksGoOn scope (scopeTold scope index 4 (scope + 256 * 255) (scopeThawed scope index s)) := rfl

theorem scopeThawed_inside (scope index : Nat) (s : State) :
    Inside ⟨true, true⟩ (markFrozen scope index false s) (scopeThawed scope index s) :=
  Inside.foldl (.refl _) fun _ t h => thawThread_inside t _ h

theorem addDebugCounters_marks (s : State) : Marks s (addDebugCounters s) :=
  ⟨⟨.of_host (foldl_leaves (·.host) (by intro _ _; rfl) _ _), by
    rw [show (addDebugCounters s).sec = s.sec from foldl_leaves (·.sec) (by intro _ _; rfl) _ _]⟩,
    congrArg Dispatch.frozen (foldl_leaves (·.disp) (by intro _ _; rfl) _ _),
    congrArg Secure.deviceFrozen (foldl_leaves (·.sec) (by intro _ _; rfl) _ _)⟩

theorem ptpStepped_marks (s : State) : Marks s (ptpStepped s) := by
  have r := ptpStepped_reports s
  exact ⟨⟨ptpStepped_apart s, by rw [r.sec]; rfl⟩, by rw [r.disp]; rfl, by rw [r.sec]; rfl⟩

theorem clocksGoOn_marks (scope : Nat) (s : State) : Marks s (clocksGoOn scope s) := by
  unfold clocksGoOn
  dsimp only
  split
  · split
    · exact (addDebugCounters_marks s).trans (ptpStepped_marks _)
    · exact addDebugCounters_marks s
  · exact .refl s

theorem releaseScope_marks (scope index : Nat) (s : State) : Marks (markFrozen scope index false s) (releaseScope scope index s) := by
  rw [releaseScope_parts]
  exact ((scopeThawed_inside scope index s).marks.trans (.of_reports (scopeTold_apart _ _ _ _ _) (scopeTold_reports _ _ _ _ _))).trans
    (clocksGoOn_marks _ _)

theorem releaseScope_debugs (scope index : Nat) (s : State) : Debugs s (releaseScope scope index s) :=
  (markFrozen_debugs scope index false s).trans (releaseScope_marks scope index s).debugs

/-- A released cluster, or the released device, is no longer frozen. -/
theorem releaseScope_thaws {scope index : Nat} (wide : 0 < scope) (small : scope = 1 → index < 8) (s : State) :
    scopeFrozen (releaseScope scope index s) scope index = false := by
  have marks := releaseScope_marks scope index s
  match scope with
  | 1 =>
    show (releaseScope 1 index s).disp.frozen.getLsbD index = false
    rw [marks.frozen]
    exact markFrozen_cluster (small rfl) false s
  | n + 2 =>
    show (releaseScope (n + 2) index s).sec.deviceFrozen = false
    rw [marks.device]
    exact markFrozen_device n index false s

/-! ## Levels -/

theorem releaseAll_debugs {s : State} (still : s.sec.stepMbx = none) : Debugs s (releaseAll s) := by
  have ends : stepEnds s = s := by
    unfold stepEnds
    rw [still]
  unfold releaseAll
  rw [ends]
  have device : Debugs s (if s.sec.deviceFrozen then releaseScope 2 0 s else s) := by
    split
    · exact releaseScope_debugs 2 0 s
    · exact .refl s
  refine (device.trans (.foldl (fun a k => ?_) _ _)).trans (.foldl (fun a t => releaseScope_debugs 0 t a) _ _)
  split
  · exact releaseScope_debugs 1 k a
  · exact .refl a

/-- Below D2 what debug stops goes on. -/
def stopsOff (level old : Nat) (s : State) : State := if level < 2 && 2 ≤ old then endStops s else s

/-- At D0 nothing is traced. -/
def traceOff (level : Nat) (s : State) : State :=
  if level = 0 then updSec (fun c => { c with trace := { c.trace with enabled := false, writing := false } }) s else s

theorem setLevel_parts (level : Nat) (path : Bool) (s : State) : setLevel level path s =
    levelTold level s.sec.level path (traceOff level (stopsOff level s.sec.level
      (updSec (fun c => { c with level := level, path := path }) s))) := rfl

/-- Debug's stops are off: no instruction traps, and no breakpoint is enabled. -/
def StopsOff (s : State) : Prop := s.cores.mulTrap = 0 ∧ ∀ b ∈ s.sec.breakpoints, b.2.enable = false

theorem endStops_ends {s : State} (still : s.sec.stepMbx = none) : Apart s (endStops s) ∧ (endStops s).sec.level = s.sec.level ∧
    (endStops s).sec.path = s.sec.path ∧ (endStops s).sec.fuses = s.sec.fuses ∧ StopsOff (endStops s) := by
  have all := releaseAll_debugs still
  unfold endStops
  generalize releaseAll s = u at all ⊢
  refine ⟨all.apart.trans (.of_host rfl), ?_, ?_, ?_, rfl, fun b mem => ?_⟩
  · show u.sec.level = _
    rw [all.sec]
  · show u.sec.path = _
    rw [all.sec]
  · show u.sec.fuses = _
    rw [all.sec]
  · obtain ⟨c, -, e⟩ := List.mem_map.mp mem
    rw [← e]

theorem traceOff_leaves (level : Nat) (s : State) : Apart s (traceOff level s) ∧ (traceOff level s).cores = s.cores ∧
    (traceOff level s).sec = { s.sec with trace := (traceOff level s).sec.trace } := by
  unfold traceOff
  split
  · exact ⟨.of_host rfl, rfl, rfl⟩
  · exact ⟨.refl s, rfl, rfl⟩

theorem setLevel_sets (level : Nat) (path : Bool) {s : State} (still : s.sec.stepMbx = none) : Apart s (setLevel level path s) ∧
    (setLevel level path s).sec.level = level ∧ (setLevel level path s).sec.path = path ∧
    (setLevel level path s).sec.fuses = s.sec.fuses ∧ (level < 2 → 2 ≤ s.sec.level → StopsOff (setLevel level path s)) := by
  rw [setLevel_parts]
  obtain ⟨u, hu⟩ : ∃ u, u = stopsOff level s.sec.level (updSec (fun c => { c with level := level, path := path }) s) := ⟨_, rfl⟩
  have stops : Apart s u ∧ u.sec.level = level ∧ u.sec.path = path ∧ u.sec.fuses = s.sec.fuses ∧
      (level < 2 → 2 ≤ s.sec.level → StopsOff u) := by
    rw [hu]
    unfold stopsOff
    by_cases low : level < 2 ∧ 2 ≤ s.sec.level
    · rw [if_pos (by rw [decide_eq_true low.1, decide_eq_true low.2]; rfl)]
      obtain ⟨ap, lvl, pth, fuses, off⟩ := endStops_ends (s := updSec (fun c => { c with level := level, path := path }) s) still
      exact ⟨(updSec_apart _ s).trans ap, lvl, pth, fuses, fun _ _ => off⟩
    · rw [if_neg (by rw [Bool.and_eq_true, decide_eq_true_eq, decide_eq_true_eq]; exact low)]
      exact ⟨updSec_apart _ s, rfl, rfl, rfl, fun a b => absurd ⟨a, b⟩ low⟩
  rw [← hu]
  obtain ⟨ap, lvl, pth, fuses, off⟩ := stops
  obtain ⟨ap1, cores1, sec1⟩ := traceOff_leaves level u
  obtain ⟨ap2, sec2, cores2⟩ := levelTold_tells level s.sec.level path (traceOff level u)
  refine ⟨(ap.trans ap1).trans ap2, ?_, ?_, ?_, fun a b => ⟨?_, ?_⟩⟩
  · rw [sec2, sec1]
    exact lvl
  · rw [sec2, sec1]
    exact pth
  · rw [sec2, sec1]
    exact fuses
  · rw [cores2, cores1]
    exact (off a b).1
  · rw [sec2, sec1]
    exact (off a b).2

/-! ## Steps -/

theorem walk_stepping (core : Nat) (s : State) : (walk core s).cores.stepping = s.cores.stepping := by
  unfold walk
  split
  · rfl
  · split
    · rfl
    · dsimp only
      rw [(trace_reports _ _ _ _ _).cores]
      rfl

/-- A frozen thread that was ready goes on. -/
theorem thawThread_ready {t : Nat} {s : State} (frozen : (thr s t).st = .frozen) (ready : (thr s t).before = .ready)
    (owed : (thr s t).owed = 0) :
    thawThread t s = walk (coreOf t) (setThr t { thr s t with st := .ready, before := .free, owed := 0 } s) := by
  unfold thawThread
  dsimp only
  rw [if_neg (Classical.not_not.mpr frozen), ready, owed]
  split
  · rfl
  · rfl

theorem releaseScope_step {t : Nat} {s : State} (frozen : (thr s t).st = .frozen) (ready : (thr s t).before = .ready)
    (owed : (thr s t).owed = 0) : (releaseScope 0 t s).cores.stepping = s.cores.stepping ∧
    ((thr (releaseScope 0 t s) t).st = .ready ∨ (thr (releaseScope 0 t s) t).st = .run) ∧
    (thr (releaseScope 0 t s) t).pc = (thr s t).pc := by
  have e : releaseScope 0 t s = scopeTold 0 t 4 (0 + 256 * 255) (thawThread t s) := rfl
  have cores := (scopeTold_reports 0 t 4 (0 + 256 * 255) (thawThread t s)).cores
  rw [← e] at cores
  have same : thr (releaseScope 0 t s) t = thr (thawThread t s) t := by
    unfold thr
    rw [cores]
  rw [same, cores, thawThread_ready frozen ready owed]
  refine ⟨walk_stepping _ _, ?_, ?_⟩
  · rcases walk_each (coreOf t) t (setThr t { thr s t with st := .ready, before := .free, owed := 0 } s) with k | ⟨-, k⟩
    · rw [k, thr_setThr_self]
      exact .inl rfl
    · rw [k]
      exact .inr rfl
  · rw [walk_pc, thr_setThr_self]

/-! ## The commands -/

/-- The challenge record of a nonce (Table 14.4). -/
def challengeOf (s : State) (nonce : List Byte) : List Byte :=
  leBytes 4 0x4E474455 ++ [2, 0, 0, 0] ++ leBytes 8 Config.serial.toNat ++ nonce ++
    leBytes 8 (if ticking s then s.sh.sheet.toNat else 0) ++ leBytes 4 60000 ++ zeros 4

theorem challengeOf_layout (s : State) (nonce : List Byte) :
    layout [(0x4E474455, 4), (2, 1), (0, 3), (Config.serial.toNat, 8)] ++ nonce ++
      layout [(if ticking s then s.sh.sheet.toNat else 0, 8), (60000, 4), (0, 4)] = challengeOf s nonce := by
  simp [challengeOf, layout, leBytes, zeros]

theorem challengeOf_length (s : State) (nonce : List Byte) : (challengeOf s nonce).length = 32 + nonce.length := by
  simp [challengeOf, leBytes_length, zeros]
  omega

/-- An accepted command reaches its body. -/
theorem accepted_outcome {c : CmdSpec} {m : BitVec 4} {s : State} (h : Accepted c m s) :
    cmdOutcome c m.toNat (startCmd m.toNat s) = bodyOf c m s := by
  unfold cmdOutcome
  dsimp only
  rw [show headerFault (startCmd m.toNat s) m.toNat c.load = none from h.header]
  dsimp only
  have granted : cmdDenied (startCmd m.toNat s) c.op (mbxPayload (startCmd m.toNat s) m.toNat) = false := h.granted
  have furnish : (furnishOp c.op && furnishHeld (startCmd m.toNat s)) = false := h.furnish
  have target : (if c.load = true then loadFault (startCmd m.toNat s) (mbxField (startCmd m.toNat s) m.toNat 8 1) else none) = none := by
    split
    · next load => exact h.target load
    · rfl
  have payload : payloadFault c (startCmd m.toNat s) (mbxPayload (startCmd m.toNat s) m.toNat) = none := h.payload
  rw [granted, furnish, target, payload]
  rfl

/-- What DEBUG_STEP leaves before its thread goes on. -/
def stepBegun (m t n : Nat) (s : State) : State :=
  { count .debug 0 4 1 (updSec (fun c => { c with stepMbx := some (m, t) }) s) with
    cores := { s.cores with stepping := some (t, n) } }

theorem debugStep_steps {s : State} {m : BitVec 4} (h : Accepted debugStep m s) (frozen : (thr s (par s m 0 2)).st = .frozen)
    (ready : (thr s (par s m 0 2)).before = .ready) (owed : (thr s (par s m 0 2)).owed = 0) :
    ∃ t, exec (.debugStep m) s = .next t ∧ t.host.busy = s.host.busy ∧ t.sec.stepMbx = some (m.toNat, par s m 0 2) ∧
      t.cores.stepping = some (par s m 0 2, par s m 2 2) ∧ ((thr t (par s m 0 2)).st = .ready ∨ (thr t (par s m 0 2)).st = .run) ∧
      (thr t (par s m 0 2)).pc = (thr s (par s m 0 2)).pc := by
  obtain ⟨u, hu⟩ : ∃ u, u = stepBegun m.toNat (par s m 0 2) (par s m 2 2) (startCmd m.toNat s) := ⟨_, rfl⟩
  have threads : thr u (par s m 0 2) = thr s (par s m 0 2) := by
    rw [hu]
    rfl
  have body : bodyOf debugStep m s = okCmd (releaseScope 0 (par s m 0 2) u) := by
    rw [hu]
    refine if_neg ?_
    show ¬decide ((thr s (par s m 0 2)).st ≠ .frozen) = true
    rw [decide_eq_false (Classical.not_not.mpr frozen)]
    exact Bool.false_ne_true
  have runs : exec (.debugStep m) s = .next (releaseScope 0 (par s m 0 2) u) := by
    refine congrArg Host.Outcome.next ((if_pos ?_).trans ?_)
    · rw [h.start, h.opcode, beq_self_eq_true]
      rfl
    · rw [accepted_outcome h, body]
      rfl
  obtain ⟨stepping, state, pc⟩ := releaseScope_step (t := par s m 0 2) (s := u) (by rw [threads]; exact frozen) (by rw [threads]; exact ready)
    (by rw [threads]; exact owed)
  have released := releaseScope_debugs 0 (par s m 0 2) u
  refine ⟨_, runs, ?_, ?_, ?_, state, ?_⟩
  · rw [released.apart.busy, hu]
    rfl
  · rw [released.sec, hu]
    rfl
  · rw [stepping, hu]
    rfl
  · rw [pc, threads]

theorem regG_setG_self (t : Nat) {r : BitVec 5} (v : Word36) (s : State) (nonzero : r ≠ 0) : regG (setG t r v s) t r = v := by
  unfold regG setG
  rw [thr_updThr_self, getG, if_neg nonzero, putG, if_neg nonzero]
  exact tabGet_set_self _ _ _ _

theorem threadRegWrite_body {s : State} {m : BitVec 4} (frozen : (thr s (par s m 0 2)).st = .frozen) : bodyOf threadRegWrite m s =
    okCmd (if par s m 2 1 < 32 then setG (par s m 0 2) (BitVec.ofNat 5 (par s m 2 1)) (BitVec.ofNat 36 (par s m 4 5)) (startCmd m.toNat s)
      else updThr (par s m 0 2) (writeSpecial (par s m 2 1 - 32) (BitVec.ofNat 36 (par s m 4 5))) (startCmd m.toNat s)) := by
  refine if_neg ?_
  show ¬decide ((thr s (par s m 0 2)).st ≠ .frozen) = true
  rw [decide_eq_false (Classical.not_not.mpr frozen)]
  exact Bool.false_ne_true

theorem threadRegWrite_writes {s : State} {m : BitVec 4} (room : completionRoom s = true) (h : Accepted threadRegWrite m s)
    (frozen : (thr s (par s m 0 2)).st = .frozen) : Ends (exec (.threadRegWrite m) s) m s (fun t =>
      (par s m 2 1 < 32 → regG t (par s m 0 2) (BitVec.ofNat 5 (par s m 2 1)) = BitVec.ofNat 36 (par s m 4 5)) ∧
      (32 ≤ par s m 2 1 → thr t (par s m 0 2) = writeSpecial (par s m 2 1 - 32) (BitVec.ofNat 36 (par s m 4 5)) (thr s (par s m 0 2))) ∧
      ∀ k, k ≠ par s m 0 2 → thr t k = thr s k) := by
  have body := threadRegWrite_body frozen
  by_cases low : par s m 2 1 < 32
  · have some : 1 ≤ par s m 2 1 := by
      have ok := h.checked _ (List.mem_cons_of_mem _ List.mem_cons_self)
      dsimp only at ok
      rw [leAt_payload] at ok
      simp only [Bool.or_eq_true, Bool.and_eq_true, decide_eq_true_eq] at ok
      omega
    have nonzero : BitVec.ofNat 5 (par s m 2 1) ≠ 0 := fun e => by
      have z := congrArg BitVec.toNat e
      rw [BitVec.toNat_ofNat, Nat.mod_eq_of_lt low] at z
      exact absurd z (Nat.ne_of_gt some)
    rw [if_pos low] at body
    refine ends_of_body h body (Nat.zero_le _) room (.of_host rfl) fun t _ r => ⟨fun _ => ?_, fun high => absurd high (Nat.not_le.mpr low),
      fun k other => ?_⟩
    · rw [show regG t = regG (setG (par s m 0 2) (BitVec.ofNat 5 (par s m 2 1)) (BitVec.ofNat 36 (par s m 4 5)) (startCmd m.toNat s)) by
        unfold regG thr
        rw [r.cores]]
      exact regG_setG_self _ _ _ nonzero
    · rw [thr_of_reports r]
      exact thr_updThr_of_ne _ _ other
  · rw [if_neg low] at body
    refine ends_of_body h body (Nat.zero_le _) room (.of_host rfl) fun t _ r => ⟨fun k => absurd k low, fun _ => ?_, fun k other => ?_⟩
    · rw [thr_of_reports r]
      exact thr_updThr_self _ _ _
    · rw [thr_of_reports r]
      exact thr_updThr_of_ne _ _ other

/-- The registers of a thread, or its special registers, as THREAD_REG_READ returns them. -/
def threadWords (t kind : Nat) (s : State) : List Byte :=
  if kind = 0 then (List.range 32).flatMap (fun i => leBytes 5 (regG s t (BitVec.ofNat 5 i)).toNat)
  else (List.range 18).flatMap (fun i => leBytes 5 (readSpecial s t i).toNat)

theorem threadWords_length_le (t kind : Nat) (s : State) : (threadWords t kind s).length ≤ 240 := by
  unfold threadWords
  split <;> simp [leBytes_length, List.map_const']

theorem threadRegRead_body (s : State) (m : BitVec 4) :
    bodyOf threadRegRead m s = okCmd (startCmd m.toNat s) (threadWords (par s m 0 2) (par s m 2 1) (startCmd m.toNat s)) := rfl

theorem flagsWord_startCmd (m : Nat) (s : State) (t : Nat) : flagsWord (startCmd m s) t = flagsWord s t := by
  unfold flagsWord
  rw [inherited_startCmd]
  rfl

theorem readSpecial_startCmd (m : Nat) (s : State) (t n : Nat) : readSpecial (startCmd m s) t n = readSpecial s t n := by
  have same : thr (startCmd m s) t = thr s t := rfl
  unfold readSpecial
  rw [same, flagsWord_startCmd]
  dsimp only
  split <;> rfl

theorem threadWords_started (t kind m : Nat) (s : State) : threadWords t kind (startCmd m s) = threadWords t kind s := by
  unfold threadWords
  simp only [readSpecial_startCmd]
  rfl

theorem threadRegRead_reads {s : State} {m : BitVec 4} (room : completionRoom s = true) (h : Accepted threadRegRead m s) :
    Effect (exec (.threadRegRead m) s) m s id (threadWords (par s m 0 2) (par s m 2 1) s) := by
  have body := threadRegRead_body s m
  rw [threadWords_started] at body
  exact effect_of_reply h body (threadWords_length_le _ _ _) room

/-- A signature under DEBUG_KEY attaches D2; one that does not verify is counted. Either way the challenge is spent. -/
theorem debugUnlock_answers {s : State} {m : BitVec 4} {r : List Byte} {good : Bool} (room : completionRoom s = true)
    (h : Accepted debugUnlock m s) (posed : s.sec.challenge = some r) (awake : s.pow.current ≠ .s2)
    (hg : good = unlockVerifies s r (bytesAt (mbxPayload s m.toNat) 0 64)) : ∃ t, exec (.debugUnlock m) s = .next t ∧
      Completed m (if good then 0 else 4) s t ∧ t.sec.challenge = none ∧ t.sec.level = (if good then 2 else s.sec.level) ∧
      t.sec.unlockFails = if good then s.sec.unlockFails else min (s.sec.unlockFails + 1) 8 := by
  obtain ⟨u, hu⟩ : ∃ u, u = updSec (fun c => { c with challenge := none }) (startCmd m.toNat s) := ⟨_, rfl⟩
  have runs : exec (.debugUnlock m) s = .next (updSec (fun c => { c with challenge := none }) (runCmd debugUnlock m s)) :=
    congrArg Host.Outcome.next (if_pos (by rw [h.start, h.opcode]; rfl))
  have begun : Apart (startCmd m.toNat s) u := by
    rw [hu]
    exact updSec_apart _ _
  have body : bodyOf debugUnlock m s = if unlockVerifies s r (bytesAt (mbxPayload s m.toNat) 0 64) then okCmd (attachLevel 2 u)
      else refuse (raise 457 [] (setFlag 0x6C4 2 (count .debug 0 1 1 (updSec (fun c => { c with unlockFails := min (c.unlockFails + 1) 8 }) u))))
        0x04 := by
    rw [hu]
    show (match s.sec.challenge with | none => _ | some r => if s.pow.current = PowerState.s2 then _ else _) = _
    rw [posed]
    exact if_neg awake
  rw [runs]
  cases good with
  | true =>
    rw [if_pos hg.symm] at body
    obtain ⟨ap, sec⟩ := setLevel_high_leaves (level := 2) (Nat.le_refl 2) false (count .debug 0 0 1 u)
    obtain ⟨t, e, done, -, rep⟩ := effect_of_apart (f := fun _ => attachLevel 2 u) h body (Nat.zero_le _) room
      ((begun.trans (count_apart _ _ _ _ _)).trans ap)
    obtain rfl : runCmd debugUnlock m s = t := by injection e
    have level : (attachLevel 2 u).sec = _ := sec
    refine ⟨_, rfl, ⟨done.busy, done.done, done.status, done.tag⟩, rfl, ?_, ?_⟩
    · show (runCmd debugUnlock m s).sec.level = 2
      rw [rep.sec]
      exact congrArg Secure.level level
    · show (runCmd debugUnlock m s).sec.unlockFails = s.sec.unlockFails
      rw [rep.sec]
      show (attachLevel 2 u).sec.unlockFails = _
      rw [level, hu]
      rfl
  | false =>
    rw [if_neg (Bool.eq_false_iff.mp hg.symm)] at body
    obtain ⟨v, hv⟩ : ∃ v, v = updSec (fun c => { c with unlockFails := min (c.unlockFails + 1) 8 }) u := ⟨_, rfl⟩
    rw [← hv] at body
    have counted : Apart u v := by
      rw [hv]
      exact updSec_apart _ _
    have told := (count_reports .debug 0 1 1 v).trans ((setFlag_reports 0x6C4 2 _).trans (raise_reports 457 [] _))
    obtain ⟨done, rep⟩ := completes_with_status h body room
      (begun.trans (counted.trans ((count_apart _ _ _ _ v).trans ((setFlag_apart _ _ _).trans (raise_apart 457 [] _)))))
    have all := told.trans rep
    refine ⟨_, rfl, ⟨done.busy, done.done, done.status, done.tag⟩, rfl, ?_, ?_⟩
    · show (runCmd debugUnlock m s).sec.level = s.sec.level
      rw [all.sec, hv, hu]
      rfl
    · show (runCmd debugUnlock m s).sec.unlockFails = min (s.sec.unlockFails + 1) 8
      rw [all.sec, hv, hu]
      rfl

/-- Settles O50. -/
theorem debugCommandsTakeEffect : Obligations.DebugCommandsTakeEffect := by
  unfold Obligations.DebugCommandsTakeEffect
  intro s m room
  refine ⟨fun h => ?_, fun r good h some awake hg => ?_, fun start op => ?_, fun h awake still => ?_, fun h run => ?_, fun h run => ?_,
    fun h frozen ready owed => debugStep_steps h frozen ready owed, fun h => ?_, fun h frozen => ?_,
    fun h => effect_of_state h rfl room (.of_host rfl), fun h => counters_read (x := fun _ => 0) h rfl (by decide) room⟩
  · refine ⟨randomBytes (startCmd m.toNat s) 32, challengeOf s (randomBytes (startCmd m.toNat s) 32), randomBytes_length _ _, rfl, ?_⟩
    have eff : Effect (exec (.debugChallenge m) s) m s (fun a => drawBytes 32 (updSec (fun c => { c with
        challenge := some (challengeOf s (randomBytes (startCmd m.toNat s) 32)) }) a)) (challengeOf s (randomBytes (startCmd m.toNat s) 32)) := by
      refine effect_of_apart h ?_ ?_ room (.of_host rfl)
      · rw [← challengeOf_layout]
        rfl
      · rw [challengeOf_length, randomBytes_length]
        decide
    exact eff.weaken (drawBytes_reports _ _)
  · exact debugUnlock_answers room h some awake hg
  · refine ⟨_, congrArg Host.Outcome.next (if_pos ?_), rfl⟩
    rw [start, op]
    rfl
  · obtain ⟨ap, lvl, pth, fuses, off⟩ := setLevel_sets (par s m 0 1) false
      (s := if par s m 0 1 = 0 then startCmd m.toNat s else count .debug 0 0 1 (startCmd m.toNat s)) (by split <;> exact still)
    have counted : Apart (startCmd m.toNat s) (if par s m 0 1 = 0 then startCmd m.toNat s else count .debug 0 0 1 (startCmd m.toNat s)) :=
      .ite (.refl _) (count_apart _ _ _ _ _)
    refine ends_of_body h (bs := []) (if_neg awake) (Nat.zero_le _) room (counted.trans ap) fun t _ r => ⟨?_, ?_, ?_, fun low high => ⟨?_, ?_⟩⟩
    · rw [r.sec]
      exact lvl
    · rw [r.sec]
      exact pth
    · rw [r.sec]
      refine fuses.trans ?_
      split <;> rfl
    · rw [r.cores]
      exact (off low (by split <;> exact high)).1
    · rw [r.sec]
      exact (off low (by split <;> exact high)).2
  · have small : par s m 0 1 = 1 → par s m 2 2 < 8 := fun one => by
      have ok := (par_in_range h (o := 2) (n := 2) (lo := 0) (hi := match par s m 0 1 with | 0 => 511 | 1 => 7 | _ => 0)
        (List.mem_cons_of_mem _ (List.mem_cons_of_mem _ List.mem_cons_self))).2
      rw [one] at ok
      exact Nat.lt_succ_of_le ok
    have body : bodyOf debugHalt m s = okCmd (freezeScope (par s m 0 1) (par s m 2 2) 255 (startCmd m.toNat s)) :=
      if_neg (Bool.eq_false_iff.mp run)
    refine ⟨effect_of_state h body room (freezeScope_debugs _ _ _ _).apart, ?_⟩
    refine ends_of_body h body (Nat.zero_le _) room (freezeScope_debugs _ _ _ _).apart fun t _ r => ?_
    have said := (freezeScope_reports (par s m 0 1) (par s m 2 2) 255 (startCmd m.toNat s)).trans r
    refine ⟨?_, fun k mem => ?_⟩
    · rw [scopeFrozen_of_eq _ _ said.cores (congrArg Dispatch.frozen said.disp) (by rw [said.sec])]
      exact scopeStopped_frozen small _
    · unfold thr
      rw [said.cores]
      exact scopeStopped_threads mem (startCmd m.toNat s)
  · have small : par s m 0 1 = 1 → par s m 2 2 < 8 := fun one => by
      have ok := (par_in_range h (o := 2) (n := 2) (lo := 0) (hi := match par s m 0 1 with | 0 => 511 | 1 => 7 | _ => 0)
        (List.mem_cons_of_mem _ (List.mem_cons_of_mem _ List.mem_cons_self))).2
      rw [one] at ok
      exact Nat.lt_succ_of_le ok
    have body : bodyOf debugRelease m s = okCmd (releaseScope (par s m 0 1) (par s m 2 2) (startCmd m.toNat s)) := by
      refine if_neg ?_
      show ¬(!scopeFrozen s (par s m 0 1) (par s m 2 2)) = true
      rw [run]
      exact Bool.false_ne_true
    refine ⟨effect_of_state h body room (releaseScope_debugs _ _ _).apart, fun wide => ?_⟩
    refine ends_of_body h body (Nat.zero_le _) room (releaseScope_debugs _ _ _).apart fun t _ r => ?_
    rw [scopeFrozen_of_eq _ _ r.cores (congrArg Dispatch.frozen r.disp) (by rw [r.sec])]
    exact releaseScope_thaws wide small _
  · exact threadRegRead_reads room h
  · exact threadRegWrite_writes room h frozen

end Sys2Proof.Machine
end

section
/-!
PROOFS. Challenges, breakpoints, steps, the trace, the dump and the diagnostic window act (O44).
-/
namespace Sys2Proof.Machine

/-! ## What reporting leaves of the trace -/

/-- Of the trace only its buffer and the count of lost records may differ. -/
def Traces (s t : State) : Prop := t.sec.trace = { s.sec.trace with buffer := t.sec.trace.buffer, lost := t.sec.trace.lost }

theorem Traces.of_sec {s t : State} (h : t.sec = s.sec) : Traces s t := by
  unfold Traces
  rw [h]

theorem Traces.refl (s : State) : Traces s s := rfl

theorem Traces.trans {s t u : State} (h : Traces s t) (k : Traces t u) : Traces s u := by
  unfold Traces at h k ⊢
  rw [k, h]

theorem postEvent_sec (src n : Nat) (lo : BitVec 32) (d : BitVec 64) (x y : Bool) (s : State) :
    (postEvent src n lo d x y s).sec = s.sec := rfl

theorem postMergedN_sec (n : Nat) (s : State) : (postMergedN n s).sec = s.sec := by
  induction n generalizing s with
  | zero => rfl
  | succ n ih =>
    unfold postMergedN
    split
    · rfl
    · split
      · exact ih _
      · rfl

theorem forwardRaise_sec (src : Nat) (data : List (Nat × Nat)) (s : State) : (forwardRaise src data s).sec = s.sec := by
  have merged : (postMerged s).sec = s.sec := postMergedN_sec _ s
  unfold forwardRaise
  dsimp only
  split
  · rfl
  · split
    · exact merged
    · exact merged

theorem pushTrace_traces (k c m d : Nat) (s : State) : Traces s (pushTrace k c m d s) := by
  unfold pushTrace
  dsimp only
  split
  · rfl
  · split
    · rfl
    · split
      · unfold Traces
        rw [forwardRaise_sec]
        rfl
      · rfl

theorem trace_traces (k c m d : Nat) (s : State) : Traces s (trace k c m d s) := by
  unfold trace
  split
  · exact pushTrace_traces _ _ _ _ _
  · exact .refl s

theorem raise_traces (src : Nat) (data : List (Nat × Nat)) (s : State) : Traces s (raise src data s) := by
  unfold raise
  dsimp only
  split
  · exact trace_traces _ _ _ _ _
  · exact (trace_traces _ _ _ _ s).trans (.of_sec (forwardRaise_sec _ _ _))

theorem noteCqFull_traces (s : State) : Traces s (noteCqFull s) := by
  unfold noteCqFull
  split
  · exact .trans (t := setFlag 0xC 3 s) rfl (raise_traces _ _ _)
  · exact .refl s

theorem signalCompletion_sec (m : Nat) (s : State) : (signalCompletion m s).sec = s.sec := by
  unfold signalCompletion
  split <;> rfl

theorem reportEnd_traces (c : Completion) (s : State) : Traces s (reportEnd c s) := by
  unfold reportEnd
  split
  · rfl
  · split
    · exact .trans (t := noteCqFull (putCompletion c s)) (.trans (t := putCompletion c s) rfl (noteCqFull_traces _))
        (.of_sec (signalCompletion_sec _ _))
    · rfl

theorem finishCmd_traces (m st d : Nat) (res : List Byte) (s : State) : Traces s (finishCmd m st d res s) := by
  refine .trans (t := countEnd st (writeResults m res s)) ?_ (reportEnd_traces _ _)
  unfold countEnd
  split <;> rfl

theorem sweepN_traces (n : Nat) (s : State) : Traces s (sweepN n s) := by
  induction n generalizing s with
  | zero => exact .refl s
  | succ n ih =>
    unfold sweepN
    split
    · next m _ => exact (Traces.trans (t := startCmd m s) rfl (finishCmd_traces m 0x01 0 [] _)).trans (ih _)
    · exact .refl s

theorem sweepBad_traces (s : State) : Traces s (sweepBad s) := sweepN_traces 16 s

/-- What an accepted command leaves of the trace is what its body left. -/
theorem runCmd_traces {c : CmdSpec} {m : BitVec 4} {s : State} (h : Accepted c m s) : Traces (bodyOf c m s).state (runCmd c m s) := by
  rw [runCmd_accepted h]
  exact (finishCmd_traces _ _ _ _ _).trans (sweepBad_traces _)

/-! ## The trace drains -/

/-- One record of the buffer written. -/
def traceWritten (t : Trace) : Trace :=
  match t.buffer with
  | [] => t
  | _ :: rest =>
    let last := t.size ≤ t.offset + 16
    { t with
      buffer := if last && t.stopAtEnd then [] else rest, written := t.written + 1, offset := if last then 0 else t.offset + 16
      writing := t.writing && !(last && t.stopAtEnd) }

theorem writeTrace_leaves (s : State) : (writeTrace s).host = s.host ∧ (writeTrace s).sec.trace = traceWritten s.sec.trace := by
  unfold writeTrace traceWritten
  dsimp only
  cases s.sec.trace.buffer with
  | nil => exact ⟨rfl, rfl⟩
  | cons r rest =>
    refine ⟨?_, rfl⟩
    show (dramWrite 7 (s.sec.trace.base + s.sec.trace.offset) r false s).host = _
    rw [dramWrite_frame]

theorem writeTraces_trace {α : Type} (l : List α) (s : State) :
    (l.foldl (fun a _ => writeTrace a) s).sec.trace = l.foldl (fun t _ => traceWritten t) s.sec.trace := by
  induction l generalizing s with
  | nil => rfl
  | cons x l ih => rw [List.foldl_cons, List.foldl_cons, ih, (writeTrace_leaves s).2]

theorem drainTrace_host (s : State) : (drainTrace s).host = s.host := by
  unfold drainTrace
  split
  · exact foldl_leaves (·.host) (fun a _ => (writeTrace_leaves a).1) _ _
  · rfl

/-- What a drain leaves of the trace depends on the trace, and on whether DRAM takes it. -/
theorem drainTrace_startCmd (m : Nat) (s : State) : (drainTrace (startCmd m s)).sec.trace = (drainTrace s).sec.trace := by
  have same : (startCmd m s).sec.trace = s.sec.trace := rfl
  unfold drainTrace
  rw [same]
  show (if s.dram.started && s.pow.current != .s1a then _ else _ : State).sec.trace = _
  split
  · rw [writeTraces_trace, writeTraces_trace, same]
  · rfl

/-! ## Breakpoints -/

/-- A thread that a breakpoint has met: it goes on or stands frozen, at its instruction. -/
def Breaking (pc : BitVec 16) (x : Thread) : Prop :=
  (x.st = .frozen ∧ x.before = .ready ∨ x.st = .run ∨ x.st = .ready) ∧ x.pc = pc ∧ x.broke = some pc

theorem Breaking.walk {pc : BitVec 16} {k : Nat} {s : State} (h : Breaking pc (thr s k)) (core : Nat) :
    Breaking pc (thr (walk core s) k) := by
  rcases walk_each core k s with e | ⟨-, e⟩
  · rw [e]
    exact h
  · rw [e]
    exact ⟨.inr (.inl rfl), h.2⟩

theorem Breaking.freeze {pc : BitVec 16} {k : Nat} {s : State} (h : Breaking pc (thr s k)) (t : Nat) :
    Breaking pc (thr (freezeThread t s) k) := by
  unfold freezeThread
  dsimp only
  split
  · exact h
  · next going =>
    refine Breaking.walk ?_ _
    by_cases e : k = t
    · subst e
      rw [thr_setThr_self]
      obtain ⟨st, rest⟩ := h
      refine ⟨.inl ⟨rfl, ?_⟩, rest⟩
      rcases st with frozen | run | ready
      · exact absurd frozen.1 going
      · exact if_pos run
      · exact (if_neg (by rw [ready]; decide)).trans ready
    · rw [thr_setThr_of_ne _ _ e]
      exact h

theorem Breaking.freezes {pc : BitVec 16} {k : Nat} (l : List Nat) {s : State} (h : Breaking pc (thr s k)) :
    Breaking pc (thr (l.foldl (fun a t => freezeThread t a) s) k) := by
  induction l generalizing s with
  | nil => exact h
  | cons t l ih => exact ih (h.freeze t)

theorem thr_scopeMarked (scope index : Nat) (s : State) (k : Nat) : thr (markFrozen scope index true (stopSpans scope s)) k = thr s k := by
  unfold thr
  rw [markFrozen_cores, (stopSpans_leaves scope s).2.1]

theorem thr_freezeScope (scope index b : Nat) (s : State) (k : Nat) :
    thr (freezeScope scope index b s) k = thr (scopeStopped scope index s) k := thr_of_reports (freezeScope_reports scope index b s) k

theorem markFrozen_marks (scope index : Nat) (s : State) (c : Nat) :
    (s.disp.frozen.getLsbD c = true → (markFrozen scope index true s).disp.frozen.getLsbD c = true) ∧
    (s.sec.deviceFrozen = true → (markFrozen scope index true s).sec.deviceFrozen = true) := by
  match scope with
  | 0 => exact ⟨id, id⟩
  | 1 =>
    refine ⟨fun h => ?_, id⟩
    show (s.disp.frozen ||| _).getLsbD c = true
    rw [BitVec.getLsbD_or, h, Bool.true_or]
  | n + 2 => exact ⟨id, fun _ => rfl⟩

/-- The marks of a frozen scope stay when another freezes. -/
theorem freezeScope_marks (scope index b : Nat) (s : State) (c : Nat) :
    (s.disp.frozen.getLsbD c = true → (freezeScope scope index b s).disp.frozen.getLsbD c = true) ∧
    (s.sec.deviceFrozen = true → (freezeScope scope index b s).sec.deviceFrozen = true) := by
  have r := freezeScope_reports scope index b s
  have inside := (scopeStopped_inside scope index s).marks
  obtain ⟨-, -, sec, disp⟩ := stopSpans_leaves scope s
  obtain ⟨cluster, device⟩ := markFrozen_marks scope index (stopSpans scope s) c
  have dev : (freezeScope scope index b s).sec.deviceFrozen = (scopeStopped scope index s).sec.deviceFrozen := by rw [r.sec]
  rw [r.disp, inside.frozen, dev, inside.device]
  rw [disp] at cluster
  rw [sec] at device
  exact ⟨cluster, device⟩

theorem freezeScope_frozen {scope index : Nat} (small : scope = 1 → index < 8) (b : Nat) (s : State) :
    scopeFrozen (freezeScope scope index b s) scope index = true := by
  have r := freezeScope_reports scope index b s
  rw [scopeFrozen_of_eq scope index r.cores (congrArg Dispatch.frozen r.disp) (by rw [r.sec])]
  exact scopeStopped_frozen small s

/-- The scope of breakpoint `i` of a thread's cluster, and which of that kind. -/
def breakScope (n i : Nat) (s : State) : Nat := (tabGet {} s.sec.breakpoints (4 * clusterOf n + i)).scope
def breakIndex (n scope : Nat) : Nat := match scope with | 0 => n | 1 => clusterOf n | _ => 0

/-- The breakpoint is noted before its scope freezes. -/
def breakNoted (s : State) : State := setFlag 0x6C4 5 (count .debug 0 3 1 s)

theorem breakFreeze_parts (n i : Nat) (s : State) : breakFreeze n i s =
    if scopeFrozen (breakNoted s) (breakScope n i s) (breakIndex n (breakScope n i s)) then breakNoted s
    else freezeScope (breakScope n i s) (breakIndex n (breakScope n i s)) i (breakNoted s) := rfl

/-- What stands while the breakpoints that a thread has met freeze their scopes one after another. -/
structure Broken (n : Nat) (z a : State) : Prop where
  breakpoints : a.sec.breakpoints = z.sec.breakpoints
  cluster : a.disp.frozen.getLsbD (clusterOf n) = true → ∀ k, k / 64 = clusterOf n → (thr a k).st = .frozen
  device : a.sec.deviceFrozen = true → ∀ k, k < 512 → (thr a k).st = .frozen
  thread : Breaking (thr z n).pc (thr a n)
  stays : ∀ k, (thr z k).st = .frozen → (thr a k).st = .frozen

theorem Broken.noted {n : Nat} {z a : State} (h : Broken n z a) : Broken n z (breakNoted a) :=
  ⟨h.breakpoints, h.cluster, h.device, h.thread, h.stays⟩

theorem mem_scopeThreads_cluster {c k : Nat} : k ∈ scopeThreads 1 c ↔ k / 64 = c := by
  show k ∈ (List.range 64).map (64 * c + ·) ↔ _
  rw [List.mem_map]
  constructor
  · rintro ⟨i, hi, rfl⟩
    have := List.mem_range.mp hi
    omega
  · intro e
    exact ⟨k % 64, List.mem_range.mpr (Nat.mod_lt _ (by decide)), by omega⟩

theorem mem_scopeThreads_device {scope index k : Nat} (all : 2 ≤ scope) (mem : k < 512) : k ∈ scopeThreads scope index := by
  obtain ⟨j, rfl⟩ := Nat.exists_eq_add_of_le' all
  have e : scopeThreads (j + 2) index = List.range 512 := rfl
  rw [e]
  exact List.mem_range.mpr mem

/-- A mark is an old one, or that of the scope that freezes. -/
theorem markFrozen_new (scope index : Nat) (s : State) (c : Nat) :
    ((markFrozen scope index true s).disp.frozen.getLsbD c = true → s.disp.frozen.getLsbD c = true ∨ scope = 1) ∧
    ((markFrozen scope index true s).sec.deviceFrozen = true → s.sec.deviceFrozen = true ∨ 2 ≤ scope) := by
  match scope with
  | 0 => exact ⟨.inl, .inl⟩
  | 1 => exact ⟨fun _ => .inr rfl, .inl⟩
  | n + 2 => exact ⟨.inl, fun _ => .inr (Nat.le_add_left 2 n)⟩

/-- The threads that a scope's mark says are frozen are, once the scope has frozen. -/
theorem Broken.freeze {n : Nat} {z a : State} (h : Broken n z a) {scope : Nat} (b : Nat) :
    Broken n z (freezeScope scope (breakIndex n scope) b a) := by
  have frozen {k : Nat} (f : (thr a k).st = .frozen) : (thr (freezeScope scope (breakIndex n scope) b a) k).st = .frozen := by
    rw [thr_freezeScope]
    exact freezeThreads_frozen _ (.inr (by rw [thr_scopeMarked]; exact f))
  have within {k : Nat} (mem : k ∈ scopeThreads scope (breakIndex n scope)) :
      (thr (freezeScope scope (breakIndex n scope) b a) k).st = .frozen := by
    rw [thr_freezeScope]
    exact (scopeStopped_threads mem a).1
  have r := freezeScope_reports scope (breakIndex n scope) b a
  have inside := (scopeStopped_inside scope (breakIndex n scope) a).marks
  obtain ⟨-, -, sec, disp⟩ := stopSpans_leaves scope a
  have mark : (freezeScope scope (breakIndex n scope) b a).disp.frozen =
      (markFrozen scope (breakIndex n scope) true (stopSpans scope a)).disp.frozen := by rw [r.disp, inside.frozen]
  have dev : (freezeScope scope (breakIndex n scope) b a).sec.deviceFrozen =
      (markFrozen scope (breakIndex n scope) true (stopSpans scope a)).sec.deviceFrozen := by
    rw [show (freezeScope scope (breakIndex n scope) b a).sec.deviceFrozen = (scopeStopped scope (breakIndex n scope) a).sec.deviceFrozen by
      rw [r.sec], inside.device]
  refine ⟨?_, fun bit k mem => ?_, fun bit k mem => ?_, ?_, fun k f => frozen (h.stays k f)⟩
  · rw [(freezeScope_debugs scope (breakIndex n scope) b a).sec]
    exact h.breakpoints
  · rw [mark] at bit
    rcases (markFrozen_new scope _ _ _).1 bit with old | one
    · rw [disp] at old
      exact frozen (h.cluster old k mem)
    · subst one
      exact within (mem_scopeThreads_cluster.mpr mem)
  · rw [dev] at bit
    rcases (markFrozen_new scope _ _ 0).2 bit with old | all
    · rw [sec] at old
      exact frozen (h.device old k mem)
    · exact within (mem_scopeThreads_device all mem)
  · rw [thr_freezeScope]
    exact Breaking.freezes _ (by rw [thr_scopeMarked]; exact h.thread)

theorem Broken.meet {n : Nat} {z a : State} (h : Broken n z a) (i : Nat) : Broken n z (breakFreeze n i a) := by
  rw [breakFreeze_parts]
  split
  · exact h.noted
  · exact h.noted.freeze i

/-- What breakpoint `i` has done to the marks and to the thread that met it. -/
structure Met (n i : Nat) (z a : State) : Prop where
  cluster : breakScope n i z = 1 → a.disp.frozen.getLsbD (clusterOf n) = true
  device : breakScope n i z = 2 → a.sec.deviceFrozen = true
  thread : (thr a n).st = .frozen

theorem freezeScope_stays {k : Nat} {s : State} (scope index b : Nat) (f : (thr s k).st = .frozen) :
    (thr (freezeScope scope index b s) k).st = .frozen := by
  rw [thr_freezeScope]
  exact freezeThreads_frozen _ (.inr (by rw [thr_scopeMarked]; exact f))

theorem Met.meet {n i : Nat} {z a : State} (h : Met n i z a) (j : Nat) : Met n i z (breakFreeze n j a) := by
  rw [breakFreeze_parts]
  split
  · exact ⟨h.cluster, h.device, h.thread⟩
  · refine ⟨fun one => ?_, fun two => ?_, freezeScope_stays _ _ _ h.thread⟩
    · exact (freezeScope_marks _ _ _ _ _).1 (h.cluster one)
    · exact (freezeScope_marks _ _ _ _ 0).2 (h.device two)

theorem breakScope_of_broken {n : Nat} {z a : State} (h : Broken n z a) (i : Nat) : breakScope n i a = breakScope n i z := by
  unfold breakScope
  rw [h.breakpoints]

theorem breakFreeze_met {n : Nat} (small : n < 512) {z a : State} (h : Broken n z a) (i : Nat) : Met n i z (breakFreeze n i a) := by
  have after := h.meet i
  have frozen : scopeFrozen (breakFreeze n i a) (breakScope n i z) (breakIndex n (breakScope n i z)) = true := by
    rw [breakFreeze_parts, breakScope_of_broken h]
    split
    · next f => exact f
    · refine freezeScope_frozen (fun one => ?_) _ _
      rw [one]
      exact (Nat.div_lt_iff_lt_mul (by decide)).mpr small
  refine ⟨fun one => ?_, fun two => ?_, ?_⟩
  · rw [one] at frozen
    exact frozen
  · rw [two] at frozen
    exact frozen
  · generalize breakScope n i z = scope at frozen
    match scope with
    | 0 => exact of_decide_eq_true frozen
    | 1 => exact after.cluster frozen n rfl
    | j + 2 => exact after.device frozen n small

theorem breakFreezes_met {n : Nat} (small : n < 512) (l : List Nat) {z a : State} (h : Broken n z a) :
    Broken n z (l.foldl (fun a i => breakFreeze n i a) a) ∧
    ∀ i, i ∈ l ∨ Met n i z a → Met n i z (l.foldl (fun a i => breakFreeze n i a) a) := by
  induction l generalizing a with
  | nil => exact ⟨h, fun i m => m.resolve_left List.not_mem_nil⟩
  | cons j l ih =>
    obtain ⟨broken, met⟩ := ih (h.meet j)
    refine ⟨broken, fun i m => met i ?_⟩
    rcases m with mem | m
    · rcases List.mem_cons.mp mem with e | e
      · exact .inr (e ▸ breakFreeze_met small h j)
      · exact .inl e
    · exact .inr (m.meet j)

theorem raises_reports {α : Type} (src : Nat) (f : α → List (Nat × Nat)) (l : List α) (s : State) :
    Reports s (l.foldl (fun a i => raise src (f i) a) s) := by
  induction l generalizing s with
  | nil => exact .refl s
  | cons x l ih => exact (raise_reports src (f x) s).trans (ih _)

/-- The thread notes where a breakpoint has met it. -/
def breakMet (n : Nat) (s : State) : State := updThr n (fun x => { x with broke := some x.pc }) s

theorem breakMet_broken {n : Nat} {s : State} (going : (thr s n).st = .run ∨ (thr s n).st = .ready)
    (cluster : s.disp.frozen.getLsbD (clusterOf n) = false) (device : s.sec.deviceFrozen = false) :
    Broken n (breakMet n s) (breakMet n s) := by
  refine ⟨rfl, fun bit => ?_, fun bit => ?_, ?_, fun k f => f⟩
  · exact nomatch cluster.symm.trans bit
  · exact nomatch device.symm.trans bit
  · have self : thr (breakMet n s) n = { thr s n with broke := some (thr s n).pc } := thr_updThr_self _ _ _
    rw [self]
    exact ⟨.inr going, rfl, rfl⟩

/-- The breakpoints that a thread has met freeze their scopes (R728). -/
theorem breakpointMatch_freezes {s : State} {t : BitVec 9} (going : (thr s t.toNat).st = .run ∨ (thr s t.toNat).st = .ready)
    (hits : hitList s t.toNat ≠ []) (cluster : s.disp.frozen.getLsbD (t.toNat / 64) = false) (device : s.sec.deviceFrozen = false) :
    ∃ u, exec (.breakpointMatch t) s = .next u ∧ (thr u t.toNat).st = .frozen ∧ (thr u t.toNat).before = .ready ∧
      (thr u t.toNat).pc = (thr s t.toNat).pc ∧ (thr u t.toNat).broke = some (thr s t.toNat).pc ∧
      (∀ k, (thr s k).st = .frozen → (thr u k).st = .frozen) ∧ ∀ i ∈ hitList s t.toNat,
      ((tabGet {} s.sec.breakpoints (4 * (t.toNat / 64) + i)).scope = 1 → u.disp.frozen.getLsbD (t.toNat / 64) = true ∧
        ∀ k, k / 64 = t.toNat / 64 → (thr u k).st = .frozen) ∧
      ((tabGet {} s.sec.breakpoints (4 * (t.toNat / 64) + i)).scope = 2 → u.sec.deviceFrozen = true ∧ ∀ k, k < 512 → (thr u k).st = .frozen) := by
  have small : t.toNat < 512 := t.isLt
  obtain ⟨is, his⟩ : ∃ is, is = hitList s t.toNat := ⟨_, rfl⟩
  obtain ⟨v, hv⟩ : ∃ v, v = is.foldl (fun a i => breakFreeze t.toNat i a) (breakMet t.toNat s) := ⟨_, rfl⟩
  obtain ⟨broken, met⟩ := breakFreezes_met small is (breakMet_broken going cluster device)
  rw [← hv] at broken met
  have r := raises_reports 459 (fun i => [(clusterOf t.toNat, 8), (i, 32)]) is v
  obtain ⟨u, hu⟩ : ∃ u, u = is.foldl (fun a i => raise 459 [(clusterOf t.toNat, 8), (i, 32)] a) v := ⟨_, rfl⟩
  rw [← hu] at r
  have runs : exec (.breakpointMatch t) s = .next u := by
    refine congrArg Host.Outcome.next ((if_neg ?_).trans ?_)
    · rcases going with e | e <;> rw [e] <;> decide
    · dsimp only
      rw [← his, if_neg (by rw [List.isEmpty_iff, his]; exact hits), hu, hv]
      rfl
  have self : thr (breakMet t.toNat s) t.toNat = { thr s t.toNat with broke := some (thr s t.toNat).pc } := thr_updThr_self _ _ _
  obtain ⟨i₀, rest, e₀⟩ := List.exists_cons_of_ne_nil hits
  have first := met i₀ (.inl (by rw [his, e₀]; exact List.mem_cons_self))
  obtain ⟨st, pc, broke⟩ := broken.thread
  rw [self] at pc broke
  have before : (thr v t.toNat).before = .ready := by
    rcases st with ⟨-, ready⟩ | run | ready
    · exact ready
    · exact nomatch first.thread.symm.trans run
    · exact nomatch first.thread.symm.trans ready
  have same (k : Nat) : thr u k = thr v k := thr_of_reports r k
  refine ⟨u, runs, ?_, ?_, ?_, ?_, fun k f => ?_, fun i mem => ⟨fun one => ?_, fun two => ?_⟩⟩
  · rw [same]
    exact first.thread
  · rw [same]
    exact before
  · rw [same]
    exact pc
  · rw [same]
    exact broke
  · rw [same]
    refine broken.stays k ?_
    by_cases e : k = t.toNat
    · rw [e] at f
      rcases going with g | g <;> exact nomatch f.symm.trans g
    · rw [breakMet, thr_updThr_of_ne _ _ e]
      exact f
  · have bit := (met i (.inl (his ▸ mem))).cluster one
    refine ⟨by rw [r.disp]; exact bit, fun k mem => ?_⟩
    rw [same]
    exact broken.cluster bit k mem
  · have bit := (met i (.inl (his ▸ mem))).device two
    refine ⟨by rw [r.sec]; exact bit, fun k mem => ?_⟩
    rw [same]
    exact broken.device bit k mem

/-! ## The step's end -/

/-- A command that completes of itself, with no command of its mailbox waiting. -/
theorem finished_returns {m : BitVec 4} {w : State} {bs : List Byte} (room : completionRoom w = true) (idle : m.toNat ∉ w.host.accepted)
    (short : bs.length ≤ 240) : Completed m 0 w (sweepBad (finishCmd m.toNat 0 0 bs w)) ∧
      Returns m bs (sweepBad (finishCmd m.toNat 0 0 bs w)) ∧ Reports w (sweepBad (finishCmd m.toNat 0 0 bs w)) := by
  obtain ⟨busy, done, status, tag, mbx, accepted⟩ := finishCmd_self m.isLt bs w room
  have o := sweepN_other m.isLt 16 (finishCmd m.toNat 0 0 bs w) (by rw [accepted]; exact idle)
  refine ⟨⟨o.busy.trans busy, o.done.trans done, o.status.trans status, o.tag.trans tag⟩, ?_,
    (finishCmd_reports _ _ _ _ _).trans (sweepBad_reports _)⟩
  have same : tabRead 0 (sweepBad (finishCmd m.toNat 0 0 bs w)).host.mbx (256 * m.toNat + 16) bs.length =
      tabRead 0 (finishCmd m.toNat 0 0 bs w).host.mbx (256 * m.toNat + 16) bs.length := by
    unfold tabRead
    refine List.map_congr_left fun i hi => ?_
    have := List.mem_range.mp hi
    exact o.bytes _ (by omega) (by omega)
  unfold Returns
  rw [same, mbx]
  exact tabRead_write _ _ _ _

/-- The thread that has stepped stands frozen. -/
def stepFrozen (t : Nat) (s : State) : State := if scopeFrozen s 0 t then s else freezeScope 0 t 255 s

theorem freezeThread_stepping (t : Nat) (s : State) : (freezeThread t s).cores.stepping = s.cores.stepping := by
  unfold freezeThread
  dsimp only
  split
  · rfl
  · rw [walk_stepping]
    rfl

theorem stepFrozen_leaves (t : Nat) (s : State) : Debugs s (stepFrozen t s) ∧ (thr (stepFrozen t s) t).st = .frozen ∧
    (thr (stepFrozen t s) t).pc = (thr s t).pc ∧ (stepFrozen t s).cores.stepping = s.cores.stepping := by
  unfold stepFrozen
  split
  · next frozen => exact ⟨.refl s, of_decide_eq_true frozen, rfl, rfl⟩
  · obtain ⟨st, pc⟩ := scopeStopped_threads (scope := 0) (index := t) (k := t) (List.mem_singleton.mpr rfl) s
    refine ⟨freezeScope_debugs 0 t 255 s, ?_, ?_, ?_⟩
    · rw [thr_freezeScope, st]
    · rw [thr_freezeScope, pc]
    · rw [(freezeScope_reports 0 t 255 s).cores]
      exact freezeThread_stepping t s

/-- The device at the end of a step, before its command completes. -/
def stepOver (s : State) : State := updSec (fun c => { c with stepMbx := none }) { s with cores := { s.cores with stepping := none } }

theorem stepEnds_over {s : State} {m u : Nat} (stepping : s.sec.stepMbx = some (m, u)) : stepEnds s =
    finishCmd m 0 0 (leBytes 2 (thr s u).pc.toNat ++ leBytes 2 (leAt (mbxPayload s m) 2 2 -
      match s.cores.stepping with | some (_, n) => n | none => 0)) (stepOver s) := by
  unfold stepEnds
  rw [stepping]
  rfl

theorem stepLimit_ends {s : State} {m : BitVec 4} {t : BitVec 9} (stepping : s.sec.stepMbx = some (m.toNat, t.toNat))
    (room : completionRoom s = true) (idle : m.toNat ∉ s.host.accepted) : ∃ u, exec (.stepLimit t) s = .next u ∧ Completed m 0 s u ∧
      (thr u t.toNat).st = .frozen ∧ u.sec.stepMbx = none ∧ (∀ k left, s.cores.stepping = some (k, left) →
        Returns m (leBytes 2 (thr s t.toNat).pc.toNat ++ leBytes 2 (par s m 2 2 - left)) u) := by
  obtain ⟨v, hv⟩ : ∃ v, v = stepFrozen t.toNat s := ⟨_, rfl⟩
  obtain ⟨debugs, st, pc, steps⟩ := stepFrozen_leaves t.toNat s
  rw [← hv] at debugs st pc steps
  have still : v.sec.stepMbx = some (m.toNat, t.toNat) := by
    rw [debugs.sec]
    exact stepping
  have runs : exec (.stepLimit t) s = .next (sweepBad (stepEnds v)) := by
    show Host.Outcome.next (match s.sec.stepMbx with | none => _ | some (_, u) => if u ≠ t.toNat then _ else _) = _
    rw [stepping, hv]
    exact congrArg Host.Outcome.next (if_neg (Classical.not_not.mpr rfl))
  rw [stepEnds_over still] at runs
  have roomLeft : completionRoom (stepOver v) = true := by
    have r := debugs.apart.room
    exact r.trans room
  obtain ⟨done, returns, r⟩ := finished_returns (m := m) (w := stepOver v) (bs := leBytes 2 (thr v t.toNat).pc.toNat ++
    leBytes 2 (leAt (mbxPayload v m.toNat) 2 2 - match v.cores.stepping with | some (_, n) => n | none => 0)) roomLeft
    (by
      show m.toNat ∉ v.host.accepted
      rw [debugs.apart.accepted]
      exact idle) (by simp [leBytes_length])
  have sameTag : mbxField (stepOver v) m.toNat 2 2 = mbxField s m.toNat 2 2 := mbxField_eq debugs.apart.mbx _ _ _
  refine ⟨_, runs, ⟨done.busy, done.done, done.status, by rw [done.tag, sameTag]⟩, ?_, ?_, fun k left e => ?_⟩
  · rw [thr_of_reports r]
    exact st
  · rw [r.sec]
    rfl
  · have payload : leAt (mbxPayload v m.toNat) 2 2 = par s m 2 2 := by
      unfold par mbxPayload mbxField
      rw [debugs.apart.mbx]
    have bytes : leBytes 2 (thr v t.toNat).pc.toNat ++ leBytes 2 (leAt (mbxPayload v m.toNat) 2 2 -
        match v.cores.stepping with | some (_, n) => n | none => 0) =
        leBytes 2 (thr s t.toNat).pc.toNat ++ leBytes 2 (par s m 2 2 - left) := by
      rw [payload, pc, steps, e]
    rw [bytes] at returns ⊢
    exact returns

/-! ## The dump -/

theorem dumpKnown_startCmd {s : State} {m d : Nat} (stands : s.pow.dump = true) (base : s.dram.dumpBase = some d) :
    ¬(!dumpKnown (startCmd m s)) = true := by
  show ¬(!(s.pow.dump && s.dram.dumpBase.isSome)) = true
  rw [stands, base]
  simp

theorem dumpRead_reads {s : State} {m : BitVec 4} (room : completionRoom s = true) {d : Nat} {b u : State} (h : Accepted dumpRead m s)
    (stands : s.pow.dump = true) (base : s.dram.dumpBase = some d) (master : s.host.busMaster = true)
    (hb : b = noteAccess 7 false (d + par s m 0 4) (par s m 4 4) (startCmd m.toNat s))
    (hu : u = hostWriteBad (BitVec.ofNat 64 (par s m 8 8)) (dramBytes b (d + par s m 0 4) (par s m 4 4))
      (fun i => linePoisoned b ((d + par s m 0 4 + i) / 64)) b) : Effect (exec (.dumpRead m) s) m s (fun _ => u) [] ∧
    exec (.dumpRead m) s = .next (sweepBad (finishCmd m.toNat 0 0 [] u)) ∧ (s.host.cq.enabled = false →
      ∃ t, exec (.dumpRead m) s = .next t ∧
        t.host.mem = memWrite b.host.mem (par s m 8 8) (dramBytes b (d + par s m 0 4) (par s m 4 4)) ∧ t.host.ep = u.host.ep) := by
  have known : ¬(!dumpKnown (startCmd m.toNat s)) = true := dumpKnown_startCmd stands base
  have free : ¬(!(startCmd m.toNat s).host.busMaster) = true := by
    show ¬(!s.host.busMaster) = true
    rw [master]
    decide
  have body : bodyOf dumpRead m s = okCmd u := by
    refine (if_neg known).trans ((if_neg free).trans ?_)
    dsimp only
    rw [show (startCmd m.toNat s).dram.dumpBase.getD 0 = d by rw [show (startCmd m.toNat s).dram.dumpBase = some d from base]; rfl]
    rw [hu, hb]
    rfl
  have ap : Apart (startCmd m.toNat s) u := by
    rw [hu, hb]
    exact (Apart.of_host (by rw [(noteAccess_accesses _ _ _ _ _).frame])).trans (hostWriteBad_apart _ _ _ _)
  have eff := effect_of_apart (f := fun _ => u) h body (Nat.zero_le _) room ap
  have ran : exec (.dumpRead m) s = .next (sweepBad (finishCmd m.toNat 0 0 [] u)) := by
    refine congrArg Host.Outcome.next ((runCmd_accepted h).trans ?_)
    rw [body]
    rfl
  refine ⟨eff, ran, fun off => ⟨_, ran, ?_⟩⟩
  have offU : u.host.cq.enabled = false := by
    rw [ap.cq]
    exact off
  have one := finishCmd_memStands offU m.toNat 0 0 []
  have all := one.trans (sweepN_memStands 16 (by rw [one.cq]; exact offU))
  refine ⟨all.mem.trans ?_, all.ep⟩
  rw [hu]
  show memWrite b.host.mem (BitVec.ofNat 64 (par s m 8 8)).toNat _ = _
  rw [BitVec.toNat_ofNat, Nat.mod_eq_of_lt (show par s m 8 8 < 2 ^ 64 from par_lt s m 8 8)]

theorem dramBytes_take (s : State) (a : Nat) {n k : Nat} (h : n ≤ k) : (dramBytes s a k).take n = dramBytes s a n := by
  rw [dramBytes, dramBytes, ← List.map_take, List.take_range, Nat.min_eq_left h]

/-- The device with a trace begun by TRACE_CONFIG. -/
def traceStarted (m : BitVec 4) (s : State) : State := updSec (fun c => { c with trace := {
  enabled := true, writing := true, kinds := BitVec.ofNat 8 (par s m 1 1), stopAtEnd := par s m 2 1 == 1
  cores := BitVec.ofNat 64 (par s m 4 8), base := par s m 12 8, size := par s m 20 4 } }) (startCmd m.toNat s)

/-- Settles O44. -/
theorem debugHappenings : Obligations.DebugHappenings := by
  unfold Obligations.DebugHappenings
  refine ⟨fun s => rfl, fun s t going hits cluster device => breakpointMatch_freezes going hits cluster device,
    fun s m t stepping room idle => stepLimit_ends stepping room idle,
    fun s o up => ⟨fun denied => ?_, fun v granted shown => ?_, fun v level cycle selected inside => ?_, fun v short => ?_⟩,
    fun s m room => ⟨fun h off => ?_, fun h on idle => ?_, fun x h hx => ?_,
      fun d b u h stands base master hb hu => dumpRead_reads room h stands base master hb hu, fun d h stands base => ?_,
      fun d h stands base => ?_⟩⟩
  · refine ⟨_, congrArg Host.Outcome.next ((if_neg ?_).trans (if_pos ?_)), rfl⟩
    · rw [up]
      decide
    · rw [denied]
      rfl
  · refine congrArg Host.Outcome.next ((if_neg ?_).trans ((if_neg ?_).trans ?_))
    · rw [up]
      decide
    · rw [granted]
      decide
    · rw [show diagDword s (diagByte s o.toNat) = some v from shown]
      rfl
  · refine congrArg Host.Outcome.next ((if_pos up).trans ((if_pos ?_).trans ?_))
    · rw [level, cycle]
      rfl
    · unfold diagPut
      dsimp only
      rw [selected]
      exact if_pos inside
  · refine ⟨_, congrArg Host.Outcome.next ((if_pos up).trans (if_neg ?_)), accessError_reports _ _ _⟩
    rw [Bool.and_eq_true, beq_iff_eq, decide_eq_true_eq, Classical.not_and_iff_not_or_not]
    exact short
  · have body : bodyOf traceConfig m s = okCmd (updSec (fun c => { c with trace := { c.trace with enabled := false, writing := false } })
        (drainTrace (startCmd m.toNat s))) := if_pos off
    have ap : Apart (startCmd m.toNat s) (updSec (fun c => { c with trace := { c.trace with enabled := false, writing := false } })
        (drainTrace (startCmd m.toNat s))) := .of_host (drainTrace_host _)
    obtain ⟨t, e, done, -, -⟩ := effect_of_apart (f := fun _ => _) h body (Nat.zero_le _) room ap
    have kept := runCmd_traces h
    rw [body] at kept
    obtain rfl : runCmd traceConfig m s = t := by injection e
    refine ⟨_, rfl, done, ?_, ?_⟩
    · rw [kept]
      rfl
    · rw [kept]
      rfl
  · have body : bodyOf traceConfig m s = okCmd (traceStarted m s) := (if_neg (by
        rw [show leAt (mbxPayload s m.toNat) 0 1 = 1 from on]
        decide)).trans (if_neg (by
        rw [show (startCmd m.toNat s).sec.trace.enabled = false from idle]
        decide))
    obtain ⟨t, e, done, -, -⟩ := effect_of_apart (f := fun _ => _) h body (Nat.zero_le _) room (.of_host rfl)
    have kept := runCmd_traces h
    rw [body] at kept
    obtain rfl : runCmd traceConfig m s = t := by injection e
    refine ⟨_, rfl, done, ?_⟩
    dsimp only
    rw [kept]
    exact ⟨rfl, rfl, rfl, rfl, rfl, rfl, rfl, rfl, rfl⟩
  · have body : bodyOf traceStatus m s = okCmd (drainTrace (startCmd m.toNat s))
        (leBytes 8 x.written ++ leBytes 8 x.offset ++ leBytes 8 x.lost ++ leBytes 1 (b2n x.writing)) := by
      have same : (drainTrace (startCmd m.toNat s)).sec.trace = x := by rw [hx, drainTrace_startCmd]
      show okCmd (drainTrace (startCmd m.toNat s)) (layout _) = _
      rw [same]
      simp [layout]
    exact effect_of_apart (f := drainTrace) h body (by simp [leBytes_length]) room (.of_host (drainTrace_host _))
  · have known : ¬(!dumpKnown (startCmd m.toNat s)) = true := dumpKnown_startCmd stands base
    have body : bodyOf dumpClear m s = okCmd (updPow (fun p => { p with dump := false, fatalLow := false })
        (dramWrite 7 d (zeros 4) false (startCmd m.toNat s))) := by
      refine (if_neg known).trans ?_
      rw [show (startCmd m.toNat s).dram.dumpBase.getD 0 = d by rw [show (startCmd m.toNat s).dram.dumpBase = some d from base]; rfl]
    refine effect_of_state (f := fun a => updPow (fun p => { p with dump := false, fatalLow := false }) (dramWrite 7 d (zeros 4) false a))
      h body room (.of_host ?_)
    show (dramWrite 7 d (zeros 4) false (startCmd m.toNat s)).host = _
    rw [dramWrite_frame]
  · have known : ¬(!dumpKnown (startCmd m.toNat s)) = true := dumpKnown_startCmd stands base
    have body : bodyOf dumpQuery m s = okCmd (startCmd m.toNat s) (dramBytes s d 64) := by
      refine (if_neg known).trans ?_
      have header : (dumpHeader (startCmd m.toNat s)).take 64 = dramBytes s d 64 := by
        rw [dumpHeader, show (startCmd m.toNat s).dram.dumpBase = some d from base, dramBytes_take _ _ (by decide)]
        rfl
      rw [header]
    exact effect_of_reply h body (by simp [dramBytes]) room

end Sys2Proof.Machine
end

section
/-!
PROOFS. Faults are contained (O43). The statement says that the data memory of a core whose watchdog expires is 0 after its reset. The
model clears it and then lets what the reset made room for go on: a completion that waits at a coprocessor unit frees a pin, the thread
that waited for the pin finds its lock gone and halts, and its fault message goes to a channel of which a thread of the reset core stands
as a reader, so the message lands in the memory just cleared. The reset takes a thread out of a channel's readers by what the thread
itself says it waits for, and the statement does not ask that the two agree.
-/
namespace Sys2Proof.Machine

/-- Core 0 is to be reset while its thread 1, which itself waits for nothing, is a reader of cluster 7's fault channel; a completion
waits at coprocessor unit 0, and thread 511 for a pin of the handle that its operation pins. -/
def readerOfResetCore : State :=
  { disp := { eventWait := [{ source := 0, cls := 0, domain := 0, ctx := 0, data0 := 0, data1 := 0, unit := some (0, 0) }] }
    cop := { units := [(0, { busy := true, op := some { op := 0 } })] }
    dov := { channels := [(1023, { readers := [(0, 1)] })] }
    cores := { threads := [(0, { st := .ready }), (511, { st := .stall, stall := .pins (hIndex nullHandle) 0 0 0 0 0 false 0 })] } }

/-- The thread number of the fault message is read back from word 0 of the core's data memory. -/
theorem readerOfResetCore_keeps_fault : tabGet 0 (resetCores [(0 : BitVec 6).toNat] readerOfResetCore).cores.dmem
    ((0 : BitVec 6).toNat * 32768 + 0) ≠ 0 := by decide +kernel

/-- Refutes O43: word 0 of a core's data memory holds a fault message after the core's reset. -/
theorem not_faultsAreContained : ¬ Obligations.FaultsAreContained := by
  unfold Obligations.FaultsAreContained
  rintro ⟨watchdog, -⟩
  obtain ⟨u, hu, -, cleared, -⟩ := watchdog readerOfResetCore 0 ⟨0, by decide, .inl (by decide)⟩ rfl (by decide)
  have zero := cleared 0 (by decide)
  rw [hu] at zero
  exact readerOfResetCore_keeps_fault zero

end Sys2Proof.Machine
end

section
/-!
PROOFS. Seals are signed and writes complete or fail a member (O38).
-/
namespace Sys2Proof.Machine

/-! ## What a durable seal changes -/

/-- A stream without its last loss and its last durable seal. -/
def unsettled (x : Machine.Stream) : Machine.Stream := { x with lastLoss := 0, durableReam := 0, sealHash := [] }

/-- Durable seals were reported: of the evidence path only the seals that wait for their writes may differ, and of a stream its last
durable seal and its last loss. -/
structure Settles (s t : State) : Prop where
  ev : t.ev = { s.ev with streams := t.ev.streams, sealsOut := t.ev.sealsOut }
  streams : ∀ c, (tabFind t.ev.streams c).map unsettled = (tabFind s.ev.streams c).map unsettled
  after : t.pow.after = s.pow.after

theorem Settles.refl (s : State) : Settles s s := ⟨rfl, fun _ => rfl, rfl⟩

theorem Settles.trans {s t u : State} (h : Settles s t) (k : Settles t u) : Settles s u :=
  ⟨by rw [k.ev, h.ev], fun c => (k.streams c).trans (h.streams c), k.after.trans h.after⟩

theorem Settles.of_inside {care : Care} {s t : State} (h : Inside care s t) : Settles s t where
  ev := by rw [h.ev]
  streams c := by
    have e := congrArg (Option.map unsettled) (h.streams c)
    rw [Option.map_map, Option.map_map] at e
    exact e
  after := by rw [h.pow]

theorem commitItem_settles (i src data : Nat) (s : State) : Settles s (commitItem i src data s) := by
  unfold commitItem
  dsimp only
  split
  · exact .of_inside (completionEvent_inside (care := ⟨true, true⟩) _ s (.refl s))
  · exact .refl s

theorem sealNoted_settles {s : State} {c : Nat} {x : Machine.Stream} (found : tabFind s.ev.streams c = some x) (ream : BitVec 32)
    (hash : List Byte) : Settles s (setStream c { x with durableReam := ream, sealHash := hash } s) where
  ev := rfl
  streams d := by
    show (tabFind (tabPut s.ev.streams c _) d).map unsettled = _
    by_cases same : d = c
    · rw [same, tabFind_put_self, found]
      rfl
    · rw [tabFind_put_of_ne _ _ same]
  after := rfl

theorem sealDurable_settles (r : SealRecord) (s : State) : Settles s (sealDurable r s) := by
  unfold sealDurable
  split
  · exact .refl s
  · refine .trans ?_ (commitItem_settles _ _ _ _)
    split
    · next found => exact sealNoted_settles found _ _
    · exact .refl s

theorem sealsDurable_settles (l : List SealRecord) (s : State) : Settles s (l.foldl (fun a r => sealDurable r a) s) := by
  induction l generalizing s with
  | nil => exact .refl s
  | cons r l ih => exact (sealDurable_settles r s).trans (ih _)

theorem settleSeals_settles (s : State) : Settles s (settleSeals s) := by
  unfold settleSeals
  exact .trans (t := updEv _ s) ⟨rfl, fun _ => rfl, rfl⟩ (sealsDurable_settles _ _)

theorem settleSeals_none {s : State} (h : s.ev.sealsOut = []) : settleSeals s = s := by
  have same : updEv (fun e => { e with sealsOut := e.sealsOut.filter (fun r => !(writesDone s (fun i => i == .seal r.seq))) }) s = s := by
    show { s with ev := { s.ev with sealsOut := s.ev.sealsOut.filter _ } } = s
    rw [h, List.filter_nil, ← h]
  unfold settleSeals
  dsimp only
  rw [same, h]
  rfl

/-! ## Outside the power-fail sequence nothing follows -/

theorem pfMove_idle {s : State} (h : s.ev.pf = .idle) : pfMove s = s := by
  unfold pfMove
  rw [h]

theorem pfRun_idle {s : State} (h : s.ev.pf = .idle) : pfRun s = s := by simp only [pfRun, pfMove_idle h]

theorem settleSeals_ends {s : State} (idle : s.ev.pf = .idle) (after : s.pow.after = .none) :
    afterSeal (pfRun (settleSeals s)) = settleSeals s := by
  have h := settleSeals_settles s
  rw [pfRun_idle (by rw [h.ev]; exact idle), afterSeal_none (h.after.trans after)]

/-! ## A seal is signed -/

/-- A seal in line whose turn it is outside the power-fail sequence. -/
structure SealDue (s : State) (w : SealWait) (rest : List SealWait) (x : StoreSet) (u : Nat) : Prop where
  seals : s.ev.seals = w :: rest
  set : s.ev.set = some x
  running : s.ev.state = .running
  idle : s.ev.pf = .idle
  after : s.pow.after = .none
  reached : lanesReached s w.targets = true
  room : nextRecordBlock s - s.ev.releasedSeal < x.sealRows
  sound : failedCount s x ≤ x.m
  unit : nextUnit s s.ev.sgMask.toNat 8 2 s.ev.sgTurn = some u
  ripe : sealRipe s w = true

theorem SealDue.runs {s : State} {w : SealWait} {rest : List SealWait} {x : StoreSet} {u : Nat} (h : SealDue s w rest x u) :
    exec .sealTake s = .next (afterSeal (pfRun (settleSeals (takeSeal x u w s)))) := by
  have active : evActive s = true := by
    unfold evActive
    rw [h.running]
    rfl
  have closed : pfClosed s = false := by
    unfold pfClosed
    rw [h.idle]
  refine congrArg (fun v => Host.Outcome.next (afterSeal v)) ?_
  show (match s.ev.seals, s.ev.set with | _, _ => _) = _
  rw [h.seals, h.set]
  dsimp only
  rw [active, closed, h.reached, h.ripe, h.unit, decide_eq_false (show ¬ x.sealRows ≤ _ from Nat.not_le.mpr h.room),
    decide_eq_false (Nat.not_lt.mpr h.sound)]
  rfl

/-- The device once a seal has left the line. -/
def unlined (rest : List SealWait) (s : State) : State := updEv (fun e => { e with seals := rest }) s

theorem unlined_drop {s : State} {w : SealWait} {rest : List SealWait} (seals : s.ev.seals = w :: rest) :
    updEv (fun e => { e with seals := e.seals.drop 1 }) s = unlined rest s := by
  show ({ s with ev := { s.ev with seals := s.ev.seals.drop 1 } } : State) = _
  rw [seals]
  rfl

/-- The device once the seal's body has been read and its slot taken. -/
def slotTaken (w : SealWait) (rest : List SealWait) (s : State) : State :=
  takeSlot w.lane (noteAccess 5 false ((laneOf s w.lane).sealBase + 256 * ((laneOf s w.lane).sealTaken % 2 ^ (laneOf s w.lane).sealShift)) 256
    (unlined rest s))

theorem takeSlot_leaves (n : Nat) (s : State) :
    (takeSlot n s).ev = { s.ev with lanes := tabSet {} s.ev.lanes n { laneOf s n with sealTaken := (laneOf s n).sealTaken + 1 } } ∧
    (takeSlot n s).pow = s.pow ∧ (takeSlot n s).sec = s.sec := by
  unfold takeSlot
  dsimp only
  rw [putField, dramWrite_frame]
  exact ⟨rfl, rfl, rfl⟩

theorem slotTaken_leaves (w : SealWait) (rest : List SealWait) (s : State) :
    (slotTaken w rest s).ev = { s.ev with
      seals := rest
      lanes := tabSet {} s.ev.lanes w.lane { laneOf s w.lane with sealTaken := (laneOf s w.lane).sealTaken + 1 } } ∧
    (slotTaken w rest s).pow = s.pow ∧ (slotTaken w rest s).sec = s.sec := by
  obtain ⟨a, ha⟩ : ∃ a, a = noteAccess 5 false
    ((laneOf s w.lane).sealBase + 256 * ((laneOf s w.lane).sealTaken % 2 ^ (laneOf s w.lane).sealShift)) 256 (unlined rest s) := ⟨_, rfl⟩
  have frame := (noteAccess_accesses 5 false ((laneOf s w.lane).sealBase + 256 * ((laneOf s w.lane).sealTaken %
    2 ^ (laneOf s w.lane).sealShift)) 256 (unlined rest s)).frame
  rw [← ha] at frame
  have evA : a.ev = { s.ev with seals := rest } := by rw [frame]; rfl
  obtain ⟨ev, pow, sec⟩ := takeSlot_leaves w.lane a
  unfold slotTaken
  rw [← ha, ev, pow, sec, laneOf, evA]
  refine ⟨rfl, ?_, ?_⟩
  · rw [frame]
    rfl
  · rw [frame]
    rfl

/-- What is done of a seal that has been read: it is signed where it is the stream's next, and refused else. -/
def sealJudged (x : StoreSet) (c u : Nat) (b : List Byte) (st : Machine.Stream) (s : State) : State :=
  if sealFits st b then sealStream x c u st b (count .evidence 0 6 1 s) else refuseSeal s

theorem takeSeal_read {s : State} {w : SealWait} {rest : List SealWait} {x : StoreSet} {u : Nat} {st : Machine.Stream} {b : List Byte}
    (seals : s.ev.seals = w :: rest) (unbuilt : w.built = none)
    (hb : b = dramBytes s ((laneOf s w.lane).sealBase + 256 * ((laneOf s w.lane).sealTaken % 2 ^ (laneOf s w.lane).sealShift)) 256)
    (found : streamOf s (beNat (bytesAt b 192 2)) = some st) :
    takeSeal x u w s = sealJudged x (beNat (bytesAt b 192 2)) u b st (slotTaken w rest s) := by
  have body : waitingBody (unlined rest s) w = b := by
    unfold waitingBody
    rw [unbuilt, hb]
    rfl
  have standing : streamOf (slotTaken w rest s) (beNat (bytesAt b 192 2)) = some st := by
    unfold streamOf at found ⊢
    rw [(slotTaken_leaves w rest s).1]
    exact found
  unfold takeSeal
  rw [unlined_drop seals, unbuilt]
  dsimp only
  rw [body]
  show (match streamOf (slotTaken w rest s) _ with | some y => _ | none => _) = _
  rw [standing]
  rfl

theorem takeSeal_built {s : State} {w : SealWait} {rest : List SealWait} {x : StoreSet} {u c : Nat} {st : Machine.Stream} {b : List Byte}
    (seals : s.ev.seals = w :: rest) (built : w.built = some (c, b)) (found : tabFind s.ev.streams c = some st) :
    takeSeal x u w s = sealJudged x c u b st (unlined rest s) := by
  unfold takeSeal
  rw [unlined_drop seals, built]
  dsimp only
  rw [show tabFind (unlined rest s).ev.streams c = some st from found]
  rfl

theorem issueWrite_pow (mem block tag : Nat) (item : StoreItem) (data : List Byte) (s : State) :
    (issueWrite mem block tag item data s).pow = s.pow := by
  unfold issueWrite
  dsimp only
  split <;> rfl

theorem noteHigh_pow (bit used cap : Nat) (s : State) : (noteHigh bit used cap s).pow = s.pow := by
  unfold noteHigh
  split
  · rw [(raise_reports 325 [] _).pow]
    rfl
  · rfl

theorem writeSealBlock_leaves (x : StoreSet) (s : State) :
    (writeSealBlock x s).ev = { s.ev with writes := (writeSealBlock x s).ev.writes } ∧ (writeSealBlock x s).pow = s.pow :=
  ⟨(Queues.foldl (fun a _ => issueWrite_queues _ _ _ _ _ a) _ s).ev,
    foldl_leaves (·.pow) (fun a _ => issueWrite_pow _ _ _ _ _ a) _ s⟩

/-- The seal block with a record more, or a new block where it is full. -/
def recordAppended (r : List Byte) (s : State) : State :=
  let full := decide (15 ≤ s.ev.sealRecords.length)
  updEv (fun e => { e with
    sealBlock := if full then e.sealBlock + 1 else e.sealBlock
    sealRecords := if full then [r] else e.sealRecords ++ [r]
    sealSeq := e.sealSeq + 1 }) s

theorem appendRecord_leaves (x : StoreSet) (r : List Byte) (s : State) : ∃ block writes high, (appendRecord x r s).ev =
    { s.ev with
      sealBlock := block, sealRecords := if 15 ≤ s.ev.sealRecords.length then [r] else s.ev.sealRecords ++ [r]
      sealSeq := s.ev.sealSeq + 1, writes := writes, high := high } ∧ (appendRecord x r s).pow = s.pow := by
  obtain ⟨v, hv⟩ : ∃ v, v = recordAppended r s := ⟨_, rfl⟩
  have parts : appendRecord x r s = noteHigh 1 (sealUsed v) x.sealRows (writeSealBlock x v) := by
    rw [hv]
    rfl
  rw [parts]
  refine ⟨v.ev.sealBlock, (writeSealBlock x v).ev.writes, (noteHigh 1 (sealUsed v) x.sealRows (writeSealBlock x v)).ev.high, ?_, ?_⟩
  · rw [noteHigh_ev, (writeSealBlock_leaves x v).1, hv]
    unfold recordAppended updEv
    simp only [decide_eq_true_eq]
  · rw [noteHigh_pow, (writeSealBlock_leaves x v).2, hv]
    rfl

/-- The record of a seal: its body and the signature over it. -/
def signedSeal (k : List Byte) (st : Machine.Stream) (b : List Byte) (s : State) : List Byte := sealBody s st b ++ edSign k (sealBody s st b)

/-- The device with a record's seal listed as its stream's last. -/
def sealListed (c u : Nat) (ream : BitVec 32) (r : List Byte) (st : Machine.Stream) (s : State) : State :=
  updEv (fun e => { e with
    sgTurn := u, pfSeals := if e.pf = .idle then e.pfSeals else e.pfSeals + 1
    sealsOut := e.sealsOut ++ [{ seq := e.sealSeq - 1, ctx := some c, ream := ream, hash := sha256 r }] })
    (setStream c { st with ream := ream, prevSeal := sha256 r, prevKey := some st.keyId, first := false } s)

theorem sealListed_ev (c u : Nat) (ream : BitVec 32) (r : List Byte) (st : Machine.Stream) (s : State) :
    (sealListed c u ream r st s).ev = { s.ev with
      sgTurn := u, pfSeals := if s.ev.pf = .idle then s.ev.pfSeals else s.ev.pfSeals + 1
      sealsOut := s.ev.sealsOut ++ [{ seq := s.ev.sealSeq - 1, ctx := some c, ream := ream, hash := sha256 r }]
      streams := tabPut s.ev.streams c { st with ream := ream, prevSeal := sha256 r, prevKey := some st.keyId, first := false } } := rfl

/-- What a signed seal leaves in the evidence path. -/
theorem sealStream_leaves {x : StoreSet} {c u : Nat} {st : Machine.Stream} {b k : List Byte} {s : State} (key : signKey s st.slot = some k) :
    ∃ block writes high pfSeals out, (sealStream x c u st b s).ev = { s.ev with
      sealBlock := block, writes := writes, high := high, pfSeals := pfSeals, sealsOut := out, sgTurn := u
      sealRecords := if 15 ≤ s.ev.sealRecords.length then [signedSeal k st b s] else s.ev.sealRecords ++ [signedSeal k st b s]
      sealSeq := s.ev.sealSeq + 1
      streams := tabPut s.ev.streams c { st with
        ream := BitVec.ofNat 32 (beNat (bytesAt b 12 4)), prevSeal := sha256 (signedSeal k st b s), prevKey := some st.keyId, first := false } } ∧
      (sealStream x c u st b s).pow = s.pow := by
  obtain ⟨v, hv⟩ : ∃ v, v = drawFree (noteAccess 5 false (s.ev.tickBase + 16 * ((beNat (bytesAt b 30 6) + 1) % 2 ^ 21)) 16 s) := ⟨_, rfl⟩
  have frame := (noteAccess_accesses 5 false (s.ev.tickBase + 16 * ((beNat (bytesAt b 30 6) + 1) % 2 ^ 21)) 16 s).frame
  have ev : v.ev = s.ev := by rw [hv, frame]; rfl
  have pow : v.pow = s.pow := by rw [hv, frame]; rfl
  have sec : v.sec = s.sec := by rw [hv, frame]; rfl
  have signs : signRecord st.slot (sealBody s st b) v = (edSign k (sealBody s st b), v) := by
    have same : signKey v st.slot = some k := by
      unfold signKey keySlot at key ⊢
      rw [sec]
      exact key
    unfold signRecord
    rw [same]
  obtain ⟨block, writes, high, appended, stands⟩ := appendRecord_leaves x (signedSeal k st b s) (count .unit (8 + u) 0 1 v)
  have parts : sealStream x c u st b s = sealListed c u (BitVec.ofNat 32 (beNat (bytesAt b 12 4))) (signedSeal k st b s) st
      (appendRecord x (signedSeal k st b s) (count .unit (8 + u) 0 1 v)) := by
    unfold sealStream
    dsimp only
    rw [← hv, signs]
    rfl
  rw [show (count .unit (8 + u) 0 1 v).ev = s.ev from ev] at appended
  rw [parts, sealListed_ev, appended]
  exact ⟨block, writes, high, _, _, rfl, stands.trans pow⟩

theorem streamOf_open {s : State} {c : Nat} {x : Machine.Stream} (h : streamOf s c = some x) : x.isOpen = true := by
  unfold streamOf at h
  split at h
  · next y found =>
    split at h
    · next isOpen =>
      obtain rfl : y = x := by injection h
      exact isOpen
    · cases h
  · cases h

/-! ## The obligation's clauses -/

theorem sealFits_misfit {st : Machine.Stream} {b : List Byte}
    (h : ¬ (beNat (bytesAt b 8 4) = st.streamId.toNat ∧ beNat (bytesAt b 12 4) = (st.ream + 1).toNat)) : ¬ sealFits st b = true := by
  unfold sealFits
  rw [Bool.and_eq_true, decide_eq_true_eq, decide_eq_true_eq]
  exact h

theorem SealDue.refuses {s v : State} {w : SealWait} {rest : List SealWait} {x : StoreSet} {u : Nat} (h : SealDue s w rest x u)
    (takes : takeSeal x u w s = refuseSeal v) (none_ : s.ev.sealsOut = []) (out : v.ev.sealsOut = s.ev.sealsOut) (pf : v.ev.pf = s.ev.pf)
    (pow : v.pow = s.pow) : ∃ t, exec .sealTake s = .next t ∧ Reports (setFlag 0x580 6 v) t := by
  have reports : Reports (setFlag 0x580 6 v) (refuseSeal v) := (count_reports _ _ _ _ _).trans (raise_reports 327 [] _)
  have idle : (refuseSeal v).ev.pf = .idle := by
    rw [reports.ev]
    exact pf.trans h.idle
  have after : (refuseSeal v).pow.after = .none := by
    rw [reports.pow]
    exact (congrArg Power.after pow).trans h.after
  have clear : (refuseSeal v).ev.sealsOut = [] := by
    rw [reports.ev]
    exact out.trans none_
  refine ⟨refuseSeal v, ?_, reports⟩
  rw [h.runs, takes, settleSeals_ends idle after, settleSeals_none clear]

theorem SealDue.signs {s : State} {w : SealWait} {rest : List SealWait} {x : StoreSet} {u c : Nat} {st : Machine.Stream} {k body b : List Byte}
    {a : State} (h : SealDue s w rest x u) (takes : takeSeal x u w s = sealJudged x c u b st a) (ha : a = slotTaken w rest s)
    (found : streamOf s c = some st) (stream : beNat (bytesAt b 8 4) = st.streamId.toNat)
    (ream : beNat (bytesAt b 12 4) = (st.ream + 1).toNat) (key : signKey s st.slot = some k) (hbody : body = sealBody a st b) :
    ∃ t, exec .sealTake s = .next t ∧ t.ev.seals = rest ∧ t.ev.sealSeq = s.ev.sealSeq + 1 ∧
      t.ev.sealRecords.getLast? = some (body ++ edSign k body) ∧ (laneOf t w.lane).sealTaken = (laneOf s w.lane).sealTaken + 1 ∧
      (∃ y, streamOf t c = some y ∧ y.ream = st.ream + 1 ∧ y.prevSeal = sha256 (body ++ edSign k body) ∧ y.first = false) := by
  obtain ⟨evA, powA, secA⟩ := slotTaken_leaves w rest s
  rw [← ha] at evA powA secA
  have fits : sealFits st b = true := by
    unfold sealFits
    rw [decide_eq_true stream, decide_eq_true ream]
    rfl
  have keyA : signKey (count .evidence 0 6 1 a) st.slot = some k := by
    unfold signKey keySlot at key ⊢
    rw [show (count .evidence 0 6 1 a).sec = s.sec from secA]
    exact key
  have signed : signedSeal k st b (count .evidence 0 6 1 a) = body ++ edSign k body := by
    rw [hbody]
    rfl
  obtain ⟨v, hv⟩ : ∃ v, v = sealStream x c u st b (count .evidence 0 6 1 a) := ⟨_, rfl⟩
  obtain ⟨block, writes, high, pfSeals, out, ev, pow⟩ := sealStream_leaves (x := x) (c := c) (u := u) (b := b) keyA
  rw [← hv, show (count .evidence 0 6 1 a).ev = _ from evA, signed] at ev
  rw [← hv] at pow
  have settles := settleSeals_settles v
  have judged : sealJudged x c u b st a = v := by rw [hv]; exact if_pos fits
  refine ⟨settleSeals v, ?_, ?_, ?_, ?_, ?_, ?_⟩
  · rw [h.runs, takes, judged, settleSeals_ends (by rw [ev]; exact h.idle) ((congrArg Power.after (pow.trans powA)).trans h.after)]
  · rw [settles.ev, ev]
  · rw [settles.ev, ev]
  · rw [settles.ev, ev]
    dsimp only
    split
    · rfl
    · exact List.getLast?_concat
  · unfold laneOf
    rw [settles.ev, ev]
    exact congrArg Lane.sealTaken (tabGet_set_self _ _ _ _)
  · have same := settles.streams c
    rw [ev] at same
    dsimp only at same
    rw [tabFind_put_self, Option.map_some, Option.map_eq_some_iff] at same
    obtain ⟨y, at_, e⟩ := same
    have isOpen : y.isOpen = true := (congrArg Stream.isOpen e).trans (show st.isOpen = true from streamOf_open found)
    refine ⟨y, ?_, ?_, (congrArg Stream.prevSeal e :), (congrArg Stream.first e :)⟩
    · unfold streamOf
      rw [at_]
      exact if_pos isOpen
    · refine (congrArg Stream.ream e).trans ?_
      show BitVec.ofNat 32 (beNat (bytesAt b 12 4)) = _
      rw [ream, BitVec.ofNat_toNat, BitVec.setWidth_eq]

/-! ## Writes end -/

/-- Stripes became durable: of the evidence path only the lanes and the stripes that wait for their writes may differ. -/
structure Durables (s t : State) : Prop where
  ev : t.ev = { s.ev with lanes := t.ev.lanes, stripes := t.ev.stripes }
  pow : t.pow = s.pow

theorem Durables.trans {s t u : State} (h : Durables s t) (k : Durables t u) : Durables s u :=
  ⟨by rw [k.ev, h.ev], k.pow.trans h.pow⟩

/-- One stripe that is the next of its lane and has all its writes done. -/
def stripeSettled (g : Nat) (x : Stripe) (s : State) : State :=
  let a := updEv (fun e => { e with stripes := tabErase e.stripes g })
    (setLane x.lane { laneOf s x.lane with durable := x.start + x.valid } (count .evidence 0 5 x.valid s))
  putField (laneCtl a x.lane + 8) 4 ((x.start + x.valid) % 2 ^ 32) a

theorem stripeSettled_ev (g : Nat) (x : Stripe) (s : State) : (stripeSettled g x s).ev = { s.ev with
    lanes := tabSet {} s.ev.lanes x.lane { laneOf s x.lane with durable := x.start + x.valid }, stripes := tabErase s.ev.stripes g } := by
  unfold stripeSettled
  dsimp only
  rw [putField, dramWrite_frame]
  rfl

theorem stripeSettled_durables (g : Nat) (x : Stripe) (s : State) : Durables s (stripeSettled g x s) := by
  refine ⟨by rw [stripeSettled_ev], ?_⟩
  unfold stripeSettled
  dsimp only
  rw [putField, dramWrite_frame]
  rfl

theorem settleStripes_durables (n : Nat) (s : State) : Durables s (settleStripes n s) := by
  induction n generalizing s with
  | zero => exact ⟨rfl, rfl⟩
  | succ n ih =>
    unfold settleStripes
    split
    · exact ⟨rfl, rfl⟩
    · next g x _ => exact (stripeSettled_durables g x s).trans (ih _)

theorem settleStripes_one {s : State} {g : Nat} {x : Stripe} (stripes : s.ev.stripes = [(g, x)]) (next_ : x.start = (laneOf s x.lane).durable)
    (done : s.ev.writes.all (fun v => !ofStripe g v.item) = true) : settleStripes 1 s = stripeSettled g x s := by
  unfold settleStripes
  rw [stripes, List.find?_cons_of_pos (by
    rw [decide_eq_true next_]
    exact done)]
  rfl

/-- What the end of a write leaves: the members, what stands on them and the writes under way as they were. -/
theorem afterWrites_ends {s : State} (idle : s.ev.pf = .idle) (after : s.pow.after = .none) : ∃ t, afterSeal (afterWrites s) = t ∧
    t.ev.writes = s.ev.writes ∧ t.ev.disk = s.ev.disk ∧ t.ev.members = s.ev.members ∧
    t.ev.lanes = (settleStripes s.ev.stripes.length s).ev.lanes := by
  have h := settleStripes_durables s.ev.stripes.length s
  have k := settleSeals_settles (settleStripes s.ev.stripes.length s)
  refine ⟨_, settleSeals_ends (by rw [h.ev]; exact idle) (by rw [h.pow]; exact after), ?_, ?_, ?_, ?_⟩
  · rw [k.ev, h.ev]
  · rw [k.ev, h.ev]
  · rw [k.ev, h.ev]
  · rw [k.ev]

/-- A write that completed stands in its member's block. -/
def writeStands (i : Nat) (w : StoreWrite) (s : State) : State :=
  updEv (fun e => { e with disk := tabPut e.disk (w.member * 2 ^ 64 + w.block) w.data }) (updEv (fun e => { e with writes := e.writes.eraseIdx i }) s)

theorem writeStands_ev (i : Nat) (w : StoreWrite) (s : State) : (writeStands i w s).ev =
    { s.ev with writes := s.ev.writes.eraseIdx i, disk := tabPut s.ev.disk (w.member * 2 ^ 64 + w.block) w.data } := rfl

theorem noteStop_leaves (bit : Nat) (s : State) : ∃ stop, (noteStop bit s).ev = { s.ev with stop := stop } ∧ (noteStop bit s).pow = s.pow := by
  unfold noteStop
  split
  · exact ⟨s.ev.stop, rfl, rfl⟩
  · have r := raise_reports 326 [] (setFlag 0x580 4 (updEv (fun e => { e with stop := e.stop ||| BitVec.ofNat 2 (2 ^ bit) }) s))
    exact ⟨_, r.ev, r.pow⟩

theorem stopUncovered_leaves (s : State) : ∃ stop, (stopUncovered s).ev = { s.ev with stop := stop } ∧ (stopUncovered s).pow = s.pow := by
  unfold stopUncovered
  split
  · split
    · obtain ⟨_, ev, pow⟩ := noteStop_leaves 0 s
      obtain ⟨stop, ev', pow'⟩ := noteStop_leaves 1 (noteStop 0 s)
      exact ⟨stop, by rw [ev', ev], pow'.trans pow⟩
    · exact ⟨s.ev.stop, rfl, rfl⟩
  · exact ⟨s.ev.stop, rfl, rfl⟩

theorem memberGone_leaves (i : Nat) (s : State) : (memberGone i s).ev = { s.ev with
    members := tabSet {} s.ev.members i { memberOf s i with failed := true }, writes := s.ev.writes.filter (fun w => w.member != i) } ∧
    (memberGone i s).pow = s.pow := by
  have r := raise_reports 329 [] (setFlag 0x580 5 (updEv (fun e => { e with
    members := tabSet {} e.members i { memberOf s i with failed := true }, writes := e.writes.filter (fun w => w.member != i) }) s))
  unfold memberGone
  rw [r.ev, r.pow]
  exact ⟨rfl, rfl⟩

/-- A member failed: of the evidence path only what the failure concerns differs. -/
theorem failMember_leaves {i : Nat} {s : State} (sound : (memberOf s i).failed = false) :
    (memberOf (failMember i s) i).failed = true ∧ (failMember i s).ev.writes = s.ev.writes.filter (fun w => w.member != i) ∧
    (failMember i s).ev.disk = s.ev.disk ∧ (failMember i s).ev.pf = s.ev.pf ∧ (failMember i s).pow = s.pow := by
  obtain ⟨ev, pow⟩ := memberGone_leaves i s
  obtain ⟨v, hv⟩ : ∃ v, v = memberGone i s := ⟨_, rfl⟩
  obtain ⟨stop, evT, powT⟩ := stopUncovered_leaves v
  rw [failMember_parts, if_neg (by rw [sound]; exact Bool.false_ne_true), ← hv]
  rw [← hv] at ev pow
  refine ⟨?_, ?_, ?_, ?_, powT.trans pow⟩
  · unfold memberOf
    rw [evT, ev]
    exact congrArg StoreMember.failed (tabGet_set_self _ _ _ _)
  · rw [evT, ev]
  · rw [evT, ev]
  · rw [evT, ev]

theorem writeFails {s : State} {w : StoreWrite} (idle : s.ev.pf = .idle) (after : s.pow.after = .none)
    (sound : (memberOf s w.member).failed = false) : ∃ t, afterSeal (afterWrites (failMember w.member s)) = t ∧
    (memberOf t w.member).failed = true ∧ t.ev.writes = s.ev.writes.filter (fun v => v.member != w.member) ∧ t.ev.disk = s.ev.disk := by
  obtain ⟨failed, writes, disk, pf, pow⟩ := failMember_leaves sound
  obtain ⟨t, ends, writesT, diskT, members, -⟩ := afterWrites_ends (pf.trans idle) ((congrArg Power.after pow).trans after)
  refine ⟨t, ends, ?_, writesT.trans writes, diskT.trans disk⟩
  unfold memberOf at failed ⊢
  rw [members]
  exact failed

/-- A write has left the store's queue with an error, before its member fails. -/
def writeErred (i : Nat) (w : StoreWrite) (status : BitVec 16) (s : State) : State :=
  raise 328 [((memberOf s w.member).ctrl, 8), (status.toNat, 16)] (count .evidence 0 11 1 (updEv (fun e => { e with writes := e.writes.eraseIdx i }) s))

theorem writeErred_reports (i : Nat) (w : StoreWrite) (status : BitVec 16) (s : State) :
    Reports (updEv (fun e => { e with writes := e.writes.eraseIdx i }) s) (writeErred i w status s) :=
  (count_reports _ _ _ _ _).trans (raise_reports _ _ _)

/-- Settles O38. -/
theorem sealsAndWritesEnd : Obligations.SealsAndWritesEnd := by
  unfold Obligations.SealsAndWritesEnd
  refine ⟨fun s w rest x u c st k body b a seals unbuilt set running idle after reached room sound unit ripe hb hc found ha => ?_,
    fun s w rest x u c st b seals built set running idle after reached room sound unit ripe found misfit none_ => ?_,
    fun s i w at_ idle after => ⟨?_, fun status bad sound => ?_, fun sound => ?_⟩⟩
  · have due : SealDue s w rest x u := ⟨seals, set, running, idle, after, reached, room, sound, unit, ripe⟩
    subst hc
    have takes := takeSeal_read (x := x) (u := u) seals unbuilt hb found
    refine ⟨fun stream ream key hbody => due.signs (ha ▸ takes) ha found stream ream key hbody, fun misfit none_ => ?_⟩
    obtain ⟨ev, pow, -⟩ := slotTaken_leaves w rest s
    have judged := takes.trans (if_neg (sealFits_misfit misfit))
    rw [show a = slotTaken w rest s from ha]
    exact due.refuses judged none_ (by rw [ev]) (by rw [ev]) pow
  · have due : SealDue s w rest x u := ⟨seals, set, running, idle, after, reached, room, sound, unit, ripe⟩
    exact due.refuses ((takeSeal_built seals built found).trans (if_neg (sealFits_misfit misfit))) none_ rfl rfl rfl
  · obtain ⟨v, hv⟩ : ∃ v, v = writeStands i w s := ⟨_, rfl⟩
    have ev := writeStands_ev i w s
    rw [← hv] at ev
    obtain ⟨t, ends, writes, disk, members, lanes⟩ := afterWrites_ends (s := v) (by rw [ev]; exact idle) (by rw [hv]; exact after)
    refine ⟨t, ?_, ?_, ?_, ?_, fun g y item stripes starts done => ?_⟩
    · rw [← ends, hv]
      refine congrArg (fun z => Host.Outcome.next (afterSeal z)) ?_
      rw [at_]
      exact if_pos rfl
    · rw [writes, ev]
    · rw [disk, ev]
    · rw [members, ev]
    · unfold laneOf at starts ⊢
      rw [lanes, show v.ev.stripes = [(g, y)] by rw [ev]; exact stripes]
      rw [show [(g, y)].length = 1 from rfl, settleStripes_one (g := g) (x := y) (by rw [ev]; exact stripes)
        (by unfold laneOf; rw [ev]; exact starts) (by rw [ev]; exact done), stripeSettled_ev]
      exact congrArg Lane.durable (tabGet_set_self _ _ _ _)
  · obtain ⟨v, hv⟩ : ∃ v, v = writeErred i w status s := ⟨_, rfl⟩
    have r := writeErred_reports i w status s
    rw [← hv] at r
    obtain ⟨t, ends, failed, writes, disk⟩ := writeFails (s := v) (w := w) (by rw [r.ev]; exact idle) (by rw [r.pow]; exact after)
      (by unfold memberOf; rw [r.ev]; exact sound)
    refine ⟨t, ?_, failed, by rw [writes, r.ev]; rfl, by rw [disk, r.ev]; rfl⟩
    rw [← ends, hv]
    refine congrArg (fun z => Host.Outcome.next (afterSeal z)) ?_
    rw [at_]
    exact if_neg bad
  · obtain ⟨t, ends, failed, writes, disk⟩ := writeFails (s := count .evidence 0 12 1 s) (w := w) idle after sound
    refine ⟨t, ?_, failed, writes, disk⟩
    rw [← ends]
    refine congrArg (fun z => Host.Outcome.next (afterSeal z)) ?_
    rw [at_]
    rfl

end Sys2Proof.Machine
end

section
/-!
PROOFS. Frames leave: the clauses of O13, and what the statement comes to. Where the trace writes, the note of a cell parity error draws an
open value before the frame is read. Of a spilled frame in lines closed to requesters the MAC then reads the open bytes of the next draw,
where the statement names those of the draw before. Whether the two agree is what `Config.closedByte`, a constant without a body, leaves
open (log entry 164), and the statement holds exactly where they do (`framesLeave_iff_closedBytesSteady`).
-/
namespace Sys2Proof.Machine

/-- The open bytes of closed lines are the same at each draw (log entry 164). -/
def ClosedBytesSteady : Prop := ∀ n a, Config.closedByte (n + 1) a = Config.closedByte n a

theorem ClosedBytesSteady.at_any (h : ClosedBytesSteady) (n m a : Nat) : Config.closedByte n a = Config.closedByte m a := by
  have first (n : Nat) : Config.closedByte n a = Config.closedByte 0 a := by
    induction n with
    | zero => rfl
    | succ n ih => exact (h n a).trans ih
  rw [first n, first m]

/-! ### What is read of a frame -/

theorem dramByte_of_dram {s u : State} (dram : u.dram = s.dram) (closed : ∀ a, Config.closedByte u.fresh a = Config.closedByte s.fresh a)
    (a : Nat) : dramByte u a = dramByte s a := by
  have lines : lineClosed u (a / 64) = lineClosed { s with dram := u.dram } (a / 64) := rfl
  rw [dramByte, dramByte, lines, closed, dram]

theorem pktRead_of_dram {s u : State} (dram : u.dram = s.dram) (closed : ∀ a, Config.closedByte u.fresh a = Config.closedByte s.fresh a)
    (h : Handle) (off n : Nat) : pktRead u h off n = pktRead s h off n := by
  have byte (o : Nat) : pktByte u h o = pktByte s h o := by
    simp only [pktByte, dramByte_of_dram dram closed]
  simp only [pktRead, byte]

theorem pktPoisoned_of_dram {s u : State} (dram : u.dram = s.dram) (h : Handle) (off n : Nat) :
    pktPoisoned u h off n = pktPoisoned s h off n := by
  have own : pktPoisoned u h off n = pktPoisoned { s with dram := u.dram } h off n := rfl
  rw [own, dram]

/-! ### The scheduler -/

theorem chooseQueue_sending (p : SchedProfile) (ready : Nat → Bool) (head : Nat → Nat) (g : Egress) :
    (chooseQueue p ready head g).2.sending = g.sending := by
  unfold chooseQueue
  split <;> rfl

/-- The last number below a bound that a test accepts is the first found from above. -/
theorem find?_reverse_range {p : Nat → Bool} {n q : Nat} (hq : q < n) (hp : p q = true) (above : ∀ r < n, q < r → p r = false) :
    (List.range n).reverse.find? p = some q := by
  induction n with
  | zero => exact absurd hq (Nat.not_lt_zero q)
  | succ n ih =>
    rw [List.range_succ, List.reverse_concat]
    by_cases e : q = n
    · rw [← e, List.find?_cons_of_pos hp]
    · have below : q < n := by omega
      rw [List.find?_cons_of_neg (ne_true_of_eq_false (above n (Nat.lt_succ_self n) below))]
      exact ih below fun r hr => above r (Nat.lt_succ_of_lt hr)

/-- Of the strict queues that are ready the highest is served (R221). -/
theorem schedule_strict {s : State} {k q : Nat} (hq : q < 8) (strict : (schedProf s.sh.cur k).strict.getLsbD q = true)
    (ready : queueReady s k q = true)
    (highest : ∀ r < 8, q < r → (schedProf s.sh.cur k).strict.getLsbD r = true → queueReady s k r = false) :
    schedule s k = (some q, tabGet {} s.cab.egress k) := by
  have found : (List.range 8).reverse.find? (fun q => (schedProf s.sh.cur k).strict.getLsbD q && queueReady s k q) = some q := by
    refine find?_reverse_range hq (by rw [strict, ready]; rfl) fun r hr above => ?_
    cases also : (schedProf s.sh.cur k).strict.getLsbD r
    · exact Bool.false_and _
    · exact (Bool.true_and _).trans (highest r hr above also)
  rw [schedule, chooseQueue, found]

/-! ### The transmit MAC takes a frame -/

theorem sending_setSending (k : Nat) (f : Option TxFrame) (s : State) : (tabGet {} (setSending k f s).cab.egress k).sending = f :=
  congrArg Egress.sending (tabGet_upd_self {} s.cab.egress k (fun g => { g with sending := f }))

theorem queueOf_setQueue_self (k q : Nat) (l : List Copy) (s : State) : queueOf (setQueue k q l s) k q = l := tabGet_set_self _ _ _ _

theorem noteCellParity_notes (direction port n : Nat) (s : State) : Notes s (noteCellParity direction port n s) := by
  unfold noteCellParity
  exact .ite (.refl s) (((setFlag_notes _ _ s).trans (bumpTotal_notes _ _ _)).trans (.foldl (fun _ _ => raise_notes _ _ _) _ _))

/-- The state in which the transmit MAC reads a frame: a cell parity error on the way has been noted (R590). -/
def metParity (parity : Bool) (k : Nat) (s : State) : State := if parity then noteCellParity 1 (k / 8) 1 s else s

theorem metParity_notes (parity : Bool) (k : Nat) (s : State) : Notes s (metParity parity k s) := .ite (noteCellParity_notes _ _ _ s) (.refl s)

/-- A copy that is stale or too long is discarded (R88, R158). -/
theorem startFrame_discards {k q : Nat} {c : Copy} {parity : Bool} {s : State}
    (bad : staleHandle s c.handle = true ∨ (portOf s (k / 8)).maxFrame < c.len) : Gives s (startFrame k q c parity s) := by
  by_cases stale : staleHandle s c.handle = true
  · have gone : startFrame k q c parity s = dropCopy c s := if_pos stale
    rw [gone]
    exact dropCopy_gives c s
  · have gone : startFrame k q c parity s = dropCopy c (countMac k 12 1 s) := (if_neg stale).trans (if_pos (bad.resolve_left stale))
    rw [gone]
    exact (count_gives _ _ _ _ s).trans (dropCopy_gives c _)

/-- A copy with neither fault nor one-step option is sent with its FCS (R302, R591). -/
theorem startFrame_sends {k q : Nat} {c : Copy} {parity : Bool} {s : State} (live : staleHandle s c.handle = false)
    (fits : c.len ≤ (portOf s (k / 8)).maxFrame) (plain : natBit c.opts.toNat 35 = false) (noBad : s.cab.vatBad = [])
    (noWeak : s.cab.vatWeak = []) : ∃ t f, startFrame k q c parity s = t ∧ (tabGet {} t.cab.egress k).sending = some f ∧
      f.copy = some (q, c) ∧ t.cab.queues = s.cab.queues ∧ t.cab.handles = s.cab.handles ∧
      f.bytes = sealFrame ((pktRead (metParity parity k s) (handleOf s (hIndex c.handle)) c.start c.len).take (c.len - 4))
        (parity || pktPoisoned s (handleOf s (hIndex c.handle)) c.start c.len) := by
  obtain ⟨v, hv⟩ : ∃ v, v = metParity parity k s := ⟨_, rfl⟩
  have n : Notes s v := hv ▸ metParity_notes parity k s
  have unchecked : checkVat (hIndex c.handle) c.start c.len v = v := by
    refine if_pos ?_
    rw [n.cab, noBad, noWeak]
    rfl
  have poisoned := pktPoisoned_of_dram n.dram (handleOf s (hIndex c.handle)) c.start c.len
  have noOption : oneStepsResidence c = false := by rw [oneStepsResidence, plain]; rfl
  obtain ⟨w, hw⟩ : ∃ w, w = if (parity || pktPoisoned s (handleOf s (hIndex c.handle)) c.start c.len)
    then raiseFirst 494 0 [] (bumpTotal 0x644 1 (setFlag 0x600 7 v)) else v := ⟨_, rfl⟩
  have nw : Notes v w := hw ▸ .ite (((setFlag_notes _ _ v).trans (bumpTotal_notes _ _ _)).trans (raiseFirst_notes _ _ _ _)) (.refl v)
  have cab : w.cab = s.cab := nw.cab.trans n.cab
  refine ⟨setSending k (some { bytes := _, copy := some (q, c), began := txBegin v k }) (noteTraffic w), _,
    (if_neg (ne_true_of_eq_false live)).trans ((if_neg (Nat.not_lt.mpr fits)).trans ?_), sending_setSending _ _ _, rfl,
    by rw [← cab]; rfl, by rw [← cab]; rfl, rfl⟩
  rw [← metParity, ← hv, unchecked, noOption]
  simp only [plain, Bool.false_eq_true, if_false, handleOf_of_cab n.cab, poisoned, ← hw, sealFrame]

/-! ### The frame boundary -/

/-- A subport's scheduler after its choice (R221). -/
def scheduled (k : Nat) (s : State) : State :=
  { s with cab := { s.cab with egress := tabSet {} s.cab.egress k (schedule s k).2 } }

theorem sending_scheduled (k : Nat) (s : State) :
    (tabGet {} (scheduled k s).cab.egress k).sending = (tabGet {} s.cab.egress k).sending := by
  have chosen : tabGet {} (scheduled k s).cab.egress k = (schedule s k).2 := tabGet_set_self _ _ _ _
  rw [chosen]
  exact chooseQueue_sending _ _ _ _

theorem sendPfc_sends (k : Nat) (s : State) : ∃ f, (tabGet {} (sendPfc k s).cab.egress k).sending = some f ∧ f.copy = none ∧
    f.bytes = sealFrame (pfcFrame (portOf s (k / 8)) (k % 8) (pfcAsserted s k) ((subOf s k).xoffSent &&& ~~~ pfcAsserted s k)) false ∧
    subOf (sendPfc k s) k = { subOf s k with xoffSent := pfcAsserted s k, refreshDue := false } ∧
    (sendPfc k s).cab.queues = s.cab.queues :=
  ⟨_, sending_setSending _ _ _, rfl, rfl,
    subOf_updSub_self k (fun y => { y with xoffSent := pfcAsserted s k, refreshDue := false }) s, rfl⟩

section
variable {s : State} {sub : BitVec 5} {parity : Bool} {a : State} (up : (subOf s sub.toNat).linkUp = true)
  (idle : (tabGet {} s.cab.egress sub.toNat).sending = none) (ha : a = adoptPfc sub.toNat s)
include up idle ha

/-- At a boundary a link that is up and sends nothing takes the PFC settings, and sends the PFC frame that is due or what its scheduler
chooses (R92, R221, Table 2.16). -/
theorem frameBoundary_begins :
    ((pfcAsserted a sub.toNat ≠ (subOf s sub.toNat).xoffSent ∨ (subOf s sub.toNat).refreshDue = true) →
      exec (.frameBoundary ⟨sub, parity⟩) s = .next (sendPfc sub.toNat a)) ∧
    (pfcAsserted a sub.toNat = (subOf s sub.toNat).xoffSent → (subOf s sub.toNat).refreshDue = false →
      ((schedule a sub.toNat).1 = none → exec (.frameBoundary ⟨sub, parity⟩) s = .next (scheduled sub.toNat a)) ∧
      (∀ q c l, (schedule a sub.toNat).1 = some q → queueOf s sub.toNat q = c :: l → exec (.frameBoundary ⟨sub, parity⟩) s =
        .next (startFrame sub.toNat q c parity (setQueue sub.toNat q l (scheduled sub.toNat a))))) := by
  have adopted : subOf a sub.toNat = { subOf s sub.toNat with pfcOld := none } := ha ▸ subOf_updSub_self _ _ _
  have queues (q : Nat) : queueOf (scheduled sub.toNat a) sub.toNat q = queueOf s sub.toNat q := by rw [ha]; rfl
  have run : exec (.frameBoundary ⟨sub, parity⟩) s = execFrameBoundary ⟨sub, parity⟩ s := rfl
  rw [run, execFrameBoundary]
  simp only [idle, ← ha, adopted, up, ← scheduled.eq_def, Option.isSome_none, Bool.not_true, Bool.false_eq_true, if_false]
  refine ⟨fun due => ?_, fun still notDue => ⟨fun none_ => ?_, fun q c l some_ head => ?_⟩⟩
  · rw [if_pos (by simpa using due)]
  · rw [if_neg (by simp [still, notDue]), none_]
  · rw [if_neg (by simp [still, notDue]), some_]
    simp only [queues, head]

theorem frameBoundary_pfc
    (due : pfcAsserted a sub.toNat ≠ (subOf s sub.toNat).xoffSent ∨ (subOf s sub.toNat).refreshDue = true) : ∃ t f,
      exec (.frameBoundary ⟨sub, parity⟩) s = .next t ∧ (tabGet {} t.cab.egress sub.toNat).sending = some f ∧ f.copy = none ∧
      f.bytes = sealFrame (pfcFrame (portOf s (sub.toNat / 8)) (sub.toNat % 8) (pfcAsserted a sub.toNat)
        ((subOf s sub.toNat).xoffSent &&& ~~~ pfcAsserted a sub.toNat)) false ∧
      subOf t sub.toNat = { subOf s sub.toNat with xoffSent := pfcAsserted a sub.toNat, refreshDue := false, pfcOld := none } ∧
      t.cab.queues = s.cab.queues := by
  obtain ⟨begins, -⟩ := frameBoundary_begins (parity := parity) up idle ha
  have adopted : subOf a sub.toNat = { subOf s sub.toNat with pfcOld := none } := ha ▸ subOf_updSub_self _ _ _
  obtain ⟨f, sends, noCopy, bytes, after, queues⟩ := sendPfc_sends sub.toNat a
  rw [adopted] at bytes after
  exact ⟨_, f, begins due, sends, noCopy, ha ▸ bytes, after, queues.trans (ha ▸ rfl)⟩

section
variable (still : pfcAsserted a sub.toNat = (subOf s sub.toNat).xoffSent) (notDue : (subOf s sub.toNat).refreshDue = false)
include still notDue

theorem frameBoundary_rests (none_ : (schedule a sub.toNat).1 = none) : ∃ t, exec (.frameBoundary ⟨sub, parity⟩) s = .next t ∧
    t.cab.queues = s.cab.queues ∧ (tabGet {} t.cab.egress sub.toNat).sending = none := by
  obtain ⟨-, begins⟩ := frameBoundary_begins (parity := parity) up idle ha
  obtain ⟨rests, -⟩ := begins still notDue
  refine ⟨_, rests none_, ha ▸ rfl, (sending_scheduled _ _).trans ?_⟩
  rw [ha]
  exact idle

variable {q : Nat} {c : Copy} {l : List Copy} (chosen : (schedule a sub.toNat).1 = some q) (head : queueOf s sub.toNat q = c :: l)
include chosen head

theorem frameBoundary_discards (bad : staleHandle s c.handle = true ∨ (portOf s (sub.toNat / 8)).maxFrame < c.len) :
    ∃ t, exec (.frameBoundary ⟨sub, parity⟩) s = .next t ∧ queueOf t sub.toNat q = l ∧
      (tabGet {} t.cab.egress sub.toNat).sending = none := by
  obtain ⟨-, begins⟩ := frameBoundary_begins (parity := parity) up idle ha
  obtain ⟨-, starts⟩ := begins still notDue
  have gives : Gives (setQueue sub.toNat q l (scheduled sub.toNat a))
      (startFrame sub.toNat q c parity (setQueue sub.toNat q l (scheduled sub.toNat a))) := startFrame_discards (by rw [ha]; exact bad)
  refine ⟨_, starts q c l chosen head, ?_, ?_⟩
  · rw [queueOf, gives.queues]
    exact queueOf_setQueue_self _ _ _ _
  · rw [gives.egress]
    refine (sending_scheduled _ _).trans ?_
    rw [ha]
    exact idle

/-- The frame is read once its cell parity error has been noted, which leaves all it is read from but the next open value. -/
theorem frameBoundary_sends (live : staleHandle s c.handle = false) (fits : c.len ≤ (portOf s (sub.toNat / 8)).maxFrame)
    (plain : natBit c.opts.toNat 35 = false) (noBad : s.cab.vatBad = []) (noWeak : s.cab.vatWeak = []) : ∃ t f v,
      exec (.frameBoundary ⟨sub, parity⟩) s = .next t ∧ queueOf t sub.toNat q = l ∧
      (tabGet {} t.cab.egress sub.toNat).sending = some f ∧ f.copy = some (q, c) ∧ t.cab.handles = s.cab.handles ∧
      v = metParity parity sub.toNat (setQueue sub.toNat q l (scheduled sub.toNat a)) ∧
      f.bytes = sealFrame ((pktRead v (handleOf s (hIndex c.handle)) c.start c.len).take (c.len - 4))
        (parity || pktPoisoned s (handleOf s (hIndex c.handle)) c.start c.len) := by
  obtain ⟨-, begins⟩ := frameBoundary_begins (parity := parity) up idle ha
  obtain ⟨-, starts⟩ := begins still notDue
  obtain ⟨u, hu⟩ : ∃ u, u = setQueue sub.toNat q l (scheduled sub.toNat a) := ⟨_, rfl⟩
  have dram : u.dram = s.dram := by rw [hu, ha]; rfl
  have handles : u.cab.handles = s.cab.handles := by rw [hu, ha]; rfl
  have handle : handleOf u (hIndex c.handle) = handleOf s (hIndex c.handle) := by rw [handleOf, handles]; rfl
  obtain ⟨t, f, runs, sends, copy, queues, kept, bytes⟩ := startFrame_sends (k := sub.toNat) (q := q) (c := c) (parity := parity) (s := u)
    (by rw [hu, ha]; exact live) (by rw [hu, ha]; exact fits) plain (by rw [hu, ha]; exact noBad) (by rw [hu, ha]; exact noWeak)
  rw [handle, pktPoisoned_of_dram dram] at bytes
  refine ⟨t, f, _, ?_, ?_, sends, copy, kept.trans handles, hu ▸ rfl, bytes⟩
  · rw [← runs, hu]
    exact starts q c l chosen head
  · rw [queueOf, queues, hu]
    exact queueOf_setQueue_self _ _ _ _

end

end

/-! ### A frame ends -/

section
variable {s : State} {sub : BitVec 5} {jitter : BitVec 8} {f : TxFrame} {a : State}
  (sends : (tabGet {} s.cab.egress sub.toNat).sending = some f)
  (ha : a = (if f.counted then countMac sub.toNat 10 f.bytes.length (countMac sub.toNat 9 1 (setSending sub.toNat none s))
    else setSending sub.toNat none s))
include sends ha

theorem transmitEnd_pfc (noCopy : f.copy = none) : exec (.transmitEnd sub jitter) s = .next a := by
  have run : exec (.transmitEnd sub jitter) s = execTransmitEnd sub jitter s := rfl
  rw [run, execTransmitEnd, sends]
  simp only [noCopy, ← ha]

variable {q : Nat} {c : Copy} (copy : f.copy = some (q, c))
include copy

theorem transmitEnd_copy (b : State) (hb : b = count .queue (queueKey sub.toNat q) 2 f.bytes.length (count .queue (queueKey sub.toNat q) 1 1 a)) :
    exec (.transmitEnd sub jitter) s = .next (dropCopy c (if natBits c.opts.toNat 34 2 = 1 then
      pushStamp sub.toNat (natBits c.opts.toNat 16 16) (stampOf b sub.toNat f.began jitter.toNat) f.counted b else b)) := by
  have run : exec (.transmitEnd sub jitter) s = execTransmitEnd sub jitter s := rfl
  rw [run, execTransmitEnd, sends]
  simp only [copy, ← ha, ← hb]

end

/-- A transmit timestamp lies within the deviation of R103 of its time. -/
theorem stampOf_near (s : State) (k : Nat) (t : BallTime) (j : Nat) :
    t.ns + b2n t.part - 4 ≤ stampOf s k t j ∧ stampOf s k t j ≤ t.ns + 4 := by
  have up := b2n_lt_two t.part
  unfold stampOf
  obtain ⟨b, hb, room⟩ : ∃ b, (if (portMode (portOf s (k / 8))).2.2.2 then 4 else 2) = b ∧ 1 ≤ b ∧ b ≤ 4 :=
    ⟨_, rfl, by split <;> decide, by split <;> decide⟩
  have low : j % (2 * b + 1 - b2n t.part) < 2 * b + 1 - b2n t.part := Nat.mod_lt _ (by omega)
  rw [hb, stampWithin]
  omega

/-! ### Queues -/

theorem residueDrop_drops {s : State} {sub : BitVec 5} {queue : BitVec 3} {c : Copy}
    (past : (queueOf s sub.toNat queue.toNat).find? (pastResidue s) = some c) : exec (.residueDrop sub queue) s = .next (dropCopy c
      (count .queue (queueKey sub.toNat queue.toNat) 3 1 (setFlag 0x440 8
        (setQueue sub.toNat queue.toNat ((queueOf s sub.toNat queue.toNat).filter (fun d => d.order != c.order)) s)))) := by
  have run : exec (.residueDrop sub queue) s = execResidueDrop sub queue s := rfl
  rw [run, execResidueDrop]
  simp only [past]

/-- The first spilled frame in egress order is refilled while the prefetch buffer has room and its channels are awake (R213, R561). -/
theorem refillComplete_refills {s : State} {sub : BitVec 5} {queue : BitVec 3} {index : Nat} {c : Copy}
    (at_ : (queueOf s sub.toNat queue.toNat)[index]? = some c) (first : (egressOrder s sub.toNat).find? (wantsRefill s) = some c)
    (room : s.cab.prefetch + c.len ≤ 2097152) (sound : pktPoisoned s (handleOf s (hIndex c.handle)) c.start c.len = false)
    (awake : ∀ p ∈ spillSpans (handleOf s (hIndex c.handle)) c.start c.len, dramAsleep s p.1 p.2 = false)
    (a : State) (ha : a = noteSpillRead (handleOf s (hIndex c.handle)) c.start c.len s) : exec (.refillComplete sub queue index) s = .next
      (setQueue sub.toNat queue.toNat ((queueOf s sub.toNat queue.toNat).set index { c with refilled := true })
        { a with cab := { a.cab with prefetch := a.cab.prefetch + c.len } }) := by
  have run : exec (.refillComplete sub queue index) s = execRefillComplete sub queue index s := rfl
  have go : ¬ ((egressOrder s sub.toNat).find? (wantsRefill s) != some c || decide (2097152 < s.cab.prefetch + c.len)) = true := by
    rw [first, bne_self_eq_false, decide_eq_false (Nat.not_lt.mpr room)]
    decide
  rw [run, execRefillComplete]
  simp only [at_, if_neg go, whenAwake_awake awake, sound, Bool.false_eq_true, if_false, ← ha]

/-! ### A spilled frame in closed lines -/

/-- A spilled frame's copy at the head of a queue, refilled. -/
def closedCopy : Copy :=
  { handle := 5, start := 256, len := 68, cls := 0, port := 0, lossless := false, sheet := 0, residue := 0, refilled := true }

/-- Subport 0 is up and `closedCopy` heads its queue 7, its bytes from a device address on; DRAM has not started, and events
are traced and masked. -/
def closedFrame (n address : Nat) : State :=
  { fresh := n
    line := { subports := [(0, { linkUp := true })] }
    host := { eventMask := 0 }
    cab := { handles := [(5, { used := true, kind := .packet, spilled := true, cells := [(1, (0, address))] })]
             queues := [(7, [closedCopy])] }
    sec := { trace := { writing := true, kinds := 2 } } }

theorem pktRead_head (s : State) (h : Handle) (off n m : Nat) : ((pktRead s h off (n + 1)).take (m + 1)).head? = some (pktByte s h off) := by
  rw [pktRead, List.range_succ_eq_map]
  rfl

theorem sealFrame_head {body : List Byte} {b : Byte} (h : body.head? = some b) (poisoned : Bool) : (sealFrame body poisoned).head? = some b := by
  obtain ⟨l, rfl⟩ := List.head?_eq_some_iff.mp h
  rfl

/-- A happening that the trace records draws the open value of its CYCLE (log entry 2). -/
theorem raise_draws {src : Nat} {data : List (Nat × Nat)} {s : State} (writes : traced s 1 255 = true)
    (room : s.sec.trace.buffer.length < 4096) (lit : s.pow.current ≠ .s1a) (masked : s.host.eventMask.getLsbD src = false) :
    (raise src data s).fresh = s.fresh + 1 := by
  have records : trace 1 255 4095 src s = drawFree { s with sec := { s.sec with trace := { s.sec.trace with
      buffer := s.sec.trace.buffer ++ [traceRecord s 1 255 4095 src] } } } := by
    refine (if_pos writes).trans (if_pos ?_)
    rw [decide_eq_true room, bne_iff_ne.mpr lit]
    rfl
  rw [raise, records]
  simp only [drawFree, masked, Bool.not_false, Bool.or_true, if_true]

theorem noteCellParity_draws {direction port : Nat} {s : State} (writes : traced s 1 255 = true)
    (room : s.sec.trace.buffer.length < 4096) (lit : s.pow.current ≠ .s1a) (masked : s.host.eventMask.getLsbD 488 = false) :
    (noteCellParity direction port 1 s).fresh = s.fresh + 1 :=
  raise_draws (s := bumpTotal 0x618 1 (setFlag 0x600 5 s)) writes room lit masked

/-- The note of the parity error that `closedCopy` meets draws an open value. -/
theorem closedFrame_draws (n address : Nat) :
    (metParity true 0 (setQueue 0 7 [] (scheduled 0 (adoptPfc 0 (closedFrame n address))))).fresh = n + 1 := by
  have writes : traced (setQueue 0 7 [] (scheduled 0 (adoptPfc 0 (closedFrame n address)))) 1 255 = true := by
    have sec : (setQueue 0 7 [] (scheduled 0 (adoptPfc 0 (closedFrame n address)))).sec =
      { trace := { writing := true, kinds := 2 } } := rfl
    rw [traced, sec]
    decide
  exact noteCellParity_draws writes (Nat.zero_lt_succ 4095) PowerState.noConfusion BitVec.getLsbD_zero

theorem closedFrame_served (n address : Nat) : (schedule (adoptPfc 0 (closedFrame n address)) 0).1 = some 7 := by
  have sheets : (adoptPfc 0 (closedFrame n address)).sh = {} := rfl
  have strict : (schedProf (adoptPfc 0 (closedFrame n address)).sh.cur 0).strict.getLsbD 7 = true := by
    rw [sheets]
    decide
  have ready : queueReady (adoptPfc 0 (closedFrame n address)) 0 7 = true := rfl
  exact congrArg Prod.fst (schedule_strict (by decide) strict ready fun r _ _ => by omega)

/-- The first byte of `closedCopy`'s frame before DRAM_START (R574, log entry 28). -/
theorem closedFrame_reads {n address : Nat} (s : State) (stopped : s.dram.started = false) :
    pktByte s (handleOf (closedFrame n address) 5) 256 = Config.closedByte s.fresh address := by
  have read : pktByte s (handleOf (closedFrame n address) 5) 256 = dramByte s address := rfl
  rw [read, dramByte, lineClosed, stopped]
  rfl

theorem closedCopy_fits (n address : Nat) : closedCopy.len ≤ (portOf (closedFrame n address) ((0 : BitVec 5).toNat / 8)).maxFrame :=
  Nat.le_of_ble_eq_true rfl

/-- Where the statement holds, a frame that meets a cell parity error is sent with the open bytes of the draw before. -/
theorem closedBytesSteady_of_framesLeave (h : Obligations.FramesLeave) : ClosedBytesSteady := by
  intro n address
  obtain ⟨boundary, -⟩ := h (closedFrame n address) 0 true
  obtain ⟨-, data⟩ := boundary _ rfl rfl rfl
  obtain ⟨-, served⟩ := data rfl rfl
  obtain ⟨good, -⟩ := served 7 closedCopy [] (closedFrame_served n address) rfl
  obtain ⟨t, f, runs, -, sends, -, bytes, -⟩ := good rfl (closedCopy_fits n address) rfl rfl rfl
  obtain ⟨t', f', v, runs', -, sends', -, -, hv, bytes'⟩ := frameBoundary_sends (s := closedFrame n address) (sub := 0) (parity := true)
    rfl rfl rfl rfl rfl (q := 7) (c := closedCopy) (l := []) (closedFrame_served n address) rfl rfl (closedCopy_fits n address) rfl rfl rfl
  obtain rfl : t = t' := Host.Outcome.next.inj (runs.symm.trans runs')
  obtain rfl : f = f' := Option.some.inj (sends.symm.trans sends')
  have head (u : State) (bad : Bool) := sealFrame_head (pktRead_head u (handleOf (closedFrame n address) 5) 256 67 63) bad
  have same : some (pktByte v (handleOf (closedFrame n address) 5) 256) =
      some (pktByte (closedFrame n address) (handleOf (closedFrame n address) 5) 256) :=
    (head v _).symm.trans ((congrArg List.head? (bytes'.symm.trans bytes)).trans (head (closedFrame n address) _))
  have drawn : v.fresh = n + 1 := hv ▸ closedFrame_draws n address
  have stopped : v.dram.started = false := by
    rw [hv, (metParity_notes _ _ _).dram]
    rfl
  rw [← drawn, ← closedFrame_reads v stopped]
  exact Option.some.inj same

/-- Every clause of the statement holds but for the bytes of a frame with a cell parity error, and those are as stated exactly where the
open bytes of closed lines are the same at each draw: the model neither proves nor refutes the statement. -/
theorem framesLeave_iff_closedBytesSteady : Obligations.FramesLeave ↔ ClosedBytesSteady := by
  refine ⟨closedBytesSteady_of_framesLeave, fun steady => ?_⟩
  unfold Obligations.FramesLeave
  intro s sub parity
  refine ⟨fun a up idle ha => ⟨fun due => frameBoundary_pfc up idle ha due, fun still notDue =>
      ⟨fun none_ => frameBoundary_rests up idle ha still notDue none_, fun q c l chosen head => ⟨fun live fits plain noBad noWeak => ?_,
        fun bad => frameBoundary_discards up idle ha still notDue chosen head bad⟩⟩⟩,
    fun q hq strict ready highest => schedule_strict hq strict ready highest,
    fun f jitter a sends ha => ⟨fun noCopy => transmitEnd_pfc sends ha noCopy, fun q c copy => ⟨fun noStamp => ?_, fun stamp => ?_⟩⟩,
    fun queue c past => residueDrop_drops past,
    fun queue index c at_ first room sound awake a ha => refillComplete_refills at_ first room sound awake a ha⟩
  · obtain ⟨t, f, v, runs, queue, sends, copy, handles, hv, bytes⟩ :=
      frameBoundary_sends (parity := parity) up idle ha still notDue chosen head live fits plain noBad noWeak
    have dram : v.dram = s.dram := by
      rw [hv, (metParity_notes _ _ _).dram, ha]
      rfl
    rw [pktRead_of_dram dram fun _ => steady.at_any _ _ _] at bytes
    exact ⟨t, f, runs, queue, sends, copy, bytes, handles⟩
  · rw [transmitEnd_copy sends ha copy _ rfl, if_neg noStamp]
  · obtain ⟨low, high⟩ := stampOf_near
      (count .queue (queueKey sub.toNat q) 2 f.bytes.length (count .queue (queueKey sub.toNat q) 1 1 a)) sub.toNat f.began jitter.toNat
    exact ⟨_, low, high, by rw [transmitEnd_copy sends ha copy _ rfl, if_pos stamp]⟩

end Sys2Proof.Machine
end
